-- ==== Sys2Proof/Word.lean ====
section
/-!
DEFINITION. The word types of the model: bytes, 32-bit register words (R11), 64-bit quantities (R12).
-/

namespace Sys2Proof

/-- One byte. -/
abbrev Byte := BitVec 8
/-- A register word, 32 bits wide (R11). -/
abbrev Word := BitVec 32
/-- A 64-bit quantity: a DT, an address, a window word (R12). -/
abbrev DWord := BitVec 64

end Sys2Proof
end

