-- ==== Sys2Proof/Config.lean ====
section
/-!
DEFINITION. What an implementation fixes: the fault sources and their defaults (R416, R418), factory defaults of
tables (R361, R393, R449), and the values the manual leaves open, each a constant without a body.
-/

namespace Sys2Proof.Config

/-- Default severities of the fault sources in number order: 0 INFO, 1 MINOR, 2 MAJOR, 3 CRITICAL (R416). -/
def srcSevs : List Nat :=
  [1, 1, 2, 2, 0, 0, 2, 3, 3, 3, 2, 3, 3, 3, 2, 0, 2, 0, 0, 1, 2, 2, 2, 1, 0, 1, 1, 1, 2, 1, 0, 1] ++
  [2, 1, 1, 1, 2, 2, 2, 1, 2, 2, 2, 1, 2, 1, 0, 1, 1, 0, 0, 2, 0, 1, 0, 0, 1, 0, 1, 0, 0, 0, 1, 2] ++
  [2, 0, 1, 0, 2, 1, 1, 0, 1, 1, 2, 2, 2, 2, 2, 2, 2, 2, 1, 2, 0, 1, 0, 0, 2, 1, 2, 1, 1, 1, 0, 1] ++
  [1, 0, 0, 1, 1, 0, 1, 2, 2, 2, 2, 2, 2, 2, 2, 2, 2, 2, 2, 2, 2, 3, 0, 0, 2, 3, 1, 3, 3, 3, 3, 2] ++
  [2, 2, 2, 2, 0, 1, 1, 1, 1, 2, 3, 1, 1, 1, 1, 2, 1, 0, 0, 2, 1, 2, 3, 0, 0, 0, 0, 0, 1, 1, 1, 1]

/-- Default severity of source `n`. -/
def srcSev (n : Nat) : Nat := srcSevs.getD n 0

/-- The condition sources, marked c in R416. -/
def condSrcs : List Nat := [2, 8, 9, 10, 11, 12, 13, 14, 22, 23, 25, 27, 31, 33, 35, 36, 37, 38, 40, 41, 42, 73, 74, 78, 79, 80, 82, 136, 137, 138, 139, 140, 141, 142, 143, 144, 149, 150, 159]

/-- Default BLK of source `n` (R418): MEM_UE_x name their block, the three core faults name 0x14, every other 0xFF. -/
def srcBlk (n : Nat) : Nat :=
  if 103 ≤ n ∧ n ≤ 116 then
    [0x02, 0x06, 0x07, 0x0D, 0x0D, 0x08, 0x09, 0x0A, 0x0B, 0x0C, 0x0E, 0x0F, 0x10, 0x12].getD (n - 103) 0xFF
  else if 123 ≤ n ∧ n ≤ 125 then 0x14 else 0xFF

/-- Reset reserve of master `m` in pool `q` (R361); an identity the table does not list has none. -/
def quotaRsv (q m : Nat) : Nat :=
  if q = 0 then
    (if m = 8 ∨ m = 9 ∨ m = 6 then 4096 else if 0x0A ≤ m ∧ m ≤ 0x11 then 64 else if m = 5 ∨ m = 0 then 256
     else if m = 0x20 then 1024 else 0)
  else (if m = 0 then 65536 else if m = 0x20 then 131072 else 0)

/-- Reset maximum of master `m` in pool `q` (R361). -/
def quotaMax (q m : Nat) : Nat :=
  if q = 0 then
    (if m = 8 ∨ m = 9 ∨ m = 6 then 16384 else if 0x0A ≤ m ∧ m ≤ 0x11 then 512 else if m = 5 ∨ m = 0 then 1024
     else if m = 1 then 256 else if m = 0x20 then 8192 else if 0x21 ≤ m ∧ m ≤ 0x2F then 2048 else 0)
  else
    (if m = 8 ∨ m = 9 ∨ m = 6 then 1048576 else if 0x0A ≤ m ∧ m ≤ 0x11 then 16384 else if m = 5 ∨ m = 1 then 65536
     else if m = 0 then 262144 else if m = 0x20 then 2097152 else if 0x21 ≤ m ∧ m ≤ 0x2F then 524288 else 0)

/-- Factory permission of master `m` on target `t` (R393), bits R, W, DB, ADM from bit 0 (R390). The entry of DBG is
0 here: it is read from the debug level (R396). -/
def accessEntry (t m : Nat) : Nat :=
  if m = 0 then 0xF
  else if m = 0x20 then (if t = 0x13 then 1 else 0xF)
  else if 0x21 ≤ m ∧ m ≤ 0x2F then (if t = 0x0E then 7 else if t = 0x10 ∨ t = 0x0D then 3 else 0)
  else 0

/-- Word `w` of the factory access table of target `t`: the entries of masters 8w to 8w + 7 (R390, R393). -/
def accessDefault (t w : Nat) : Nat :=
  accessEntry t (8 * w) + accessEntry t (8 * w + 1) * 0x10 + accessEntry t (8 * w + 2) * 0x100
    + accessEntry t (8 * w + 3) * 0x1000 + accessEntry t (8 * w + 4) * 0x10000 + accessEntry t (8 * w + 5) * 0x100000
    + accessEntry t (8 * w + 6) * 0x1000000 + accessEntry t (8 * w + 7) * 0x10000000

/-- Spares of class `n` after manufacture (R449). -/
def spareCount (n : Nat) : Nat := [1536, 12, 32768, 32, 1, 1, 1, 16].getD n 0

/-- Unit weight of a spare class: spares per unit of SP_STATUS.UNITS (R449). -/
def spareWeight (n : Nat) : Nat := [64, 1, 512, 1, 1, 1, 1, 1].getD n 1

/-- FREE VALUE. The random nonce of AC_NONCE (R400), one for each renewal. -/
opaque nonce : Nat → DWord
/-- FREE VALUE. A 32-bit value the manual leaves undefined; the model applies it to its counter `freeIdx`. -/
opaque freeWord : Nat → Word
/-- FREE VALUE. A byte the manual leaves undefined. -/
opaque freeByte : Nat → Byte
/-- FREE VALUE. The PCI vendor ID of Tradovar, on marking line 3 (R503). -/
opaque vendorId : BitVec 16
/-- FREE VALUE. Factory words read from fuses: serial 0-2, date, lot, MAC base low and high (R503). -/
opaque factoryWord : Nat → Word
/-- FREE VALUE. The operating range of an internal rail, by its MG_SUP index, in mV (R437). -/
opaque railLow : Nat → Nat
opaque railHigh : Nat → Nat
/-- FREE VALUE. How many host point operations may wait in GYLE before QENG stops fetching point jobs (R163). -/
opaque pointQueue : Nat
/-- FREE VALUE. The answer of the debug port's IDCODE instruction (R404). -/
opaque idcode : Word
/-- FREE VALUE. SHA-256 and the digests built on it (R286, R411, R443): a function of the hashed bytes. -/
opaque sha256 : List Byte → BitVec 256

end Sys2Proof.Config
end

