-- ==== Sys2Proof/Syntax.lean ====
section
/-!
DEFINITION. The commands that the block takes, with their operands. The block has no instruction words: a command is a
write or read of a register by a master, an event on a wire, pad or link, or the coming of an instant.
-/

namespace Sys2Proof

/-- A raise of a fault source on its way to CELLAR (R417): source, severity chosen by CELLAR later, instance (0xFF for
none), the master concerned, the source's own detail, and whether a test injected it (R432). -/
structure Raise where
  src : Nat
  inst : Nat
  master : Option Nat
  info : Nat
  inject : Bool
deriving DecidableEq, Repr

/-- An edge of PPS_IN: its direction, and how many quarter ns after the present tick it comes (R67). -/
structure PinEdge where
  rising : Bool
  quarter : Fin 8
deriving DecidableEq, Repr

/-- What a port receives on: its express MAC, or its pre-emptable one (R120). -/
structure RxLane where
  port : Fin 10
  pre : Bool
deriving DecidableEq, Repr

/-- What a configuration read asks for: the function and the word of its configuration space (R486). -/
structure CfgRead where
  fn : Fin 16
  word : Fin 1024
deriving DecidableEq, Repr

/-- Who asks for a chain and what PITCH knows of it (R364): the master, for a function's host job the SQ, whether it is
a large send and the DT_L of a timed one. -/
structure ChainReq where
  m : Nat
  queue : Option Nat
  lso : Bool
  dtl : Option Nat
deriving DecidableEq, Repr

/-- One request for a cell in a core cycle (R352): the first cell of a new chain, or the next cell of a chain. -/
inductive CellReq where
  | first (r : ChainReq)
  | next (c : Nat)
deriving DecidableEq, Repr

/-- The start of a received mPacket of a pre-emptable frame (R120): the first fragment, a continuation with its fragment
count, or an SMD value that is none of IEEE 802.3's. -/
inductive Frag where
  | start
  | cont (n : Nat)
  | unknown
deriving DecidableEq, Repr

/-- Why a backbone port's receive side is lost (R459): CDR lock, block lock or code-group sync, high bit-error rate, a local
or a remote fault. -/
inductive LinkLoss where
  | cdr
  | lock
  | hiBer
  | localFault
  | remoteFault
deriving DecidableEq, Repr

/-- A message that crosses the isolation channel (R466, R467): the oldest field frame that waits to cross, a transmit frame
by its work item, a marker, a register access, a gate event of a field port, a power message. -/
inductive IsoMsg where
  | rxFrame
  | txFrame (item : Nat)
  | marker
  | register
  | gate (n : Fin 8)
  | power
deriving DecidableEq, Repr

/-- What a detection probe finds on an unpowered pair (R472): a powered device's signature, a foreign voltage above 3 V and
whether it is inverted, or nothing valid. -/
inductive Probe where
  | valid
  | foreign (reversed : Bool)
  | nothing
deriving DecidableEq, Repr

/-- A supply that R495 watches: VMAIN below or above its limits, VIO, or an internal rail by its MG_SUP index. -/
inductive Supply where
  | vmainLow
  | vmainHigh
  | vio
  | rail (i : Nat)
deriving DecidableEq, Repr

/-- A PCI Express configuration write that matters: Bus Master Enable, Memory Space Enable, the VF enable (R497), and the Function Mask
of MSI-X (R321). -/
inductive CfgWrite where
  | busMaster (on : Bool)
  | memSpace (on : Bool)
  | vfEnable (on : Bool)
  | msixMask (on : Bool)
deriving DecidableEq, Repr

/-- Why a substitution is queued (R449): a row of SRAM or DRAM, with the block of its uncorrectable error or none for corrected
ones; an engine; a time-base counter; a NOR sector, after its erasures or with an uncorrectable page. -/
inductive SubCause where
  | sramRow (mac row : Nat) (ue : Option (Fin 23))
  | dramRow (row : Nat) (ue : Option (Fin 23))
  | launch (eng : Fin 4)
  | assembly (eng : Fin 4)
  | counter (c : Fin 2)
  | norSector (sector : Nat) (page : Bool)
deriving DecidableEq, Repr

/-- The commands: one constructor per row of spec/opcode_table.json, in its order; each docstring is the rule and
summary of its row. -/
inductive Instr where
  /-- R16: A write to a register that has no row of its own takes effect according to its access code and change class. -/
  | registerWrite (m off bytes : Nat) (v : DWord)
  /-- R12: A read of the low word of a 64-bit or three-word quantity latches the other words for the same master. -/
  | lowWordRead (m off bytes : Nat)
  /-- R12: A write of the low word of a 64-bit quantity is held until the high word is written, then both apply in one cycle. -/
  | lowWordWrite (m off : Nat) (v : Word)
  /-- R14: A read of an RC register returns its value and clears it, keeping any same-cycle increment for the next read. -/
  | counterReadClear (m off bytes : Nat)
  /-- R17: Setting a block's COMMIT bit schedules all staged fields of the block for application at the block's boundary. -/
  | commit (m : Nat)
  /-- R16: At the block's boundary the staged fields are applied together and COMMIT returns to 0. -/
  | stagedApply
  /-- R168: A read of a block's memory-window data word returns the addressed word and advances the window address after the high word. -/
  | windowDataRead (m off bytes : Nat)
  /-- R39: On a tick where time base and shadow differ, the module runs from the good counter and raises TB_SHADOW or TB_SHADOW_UNRES. -/
  | shadowMismatch (dt : DWord) (frac : Word) (activeOk shadowOk : Bool)
  /-- R35: A write of TB_INC from the servo owner is clamped if needed and takes effect at the next time-island tick, or is refused and counted. -/
  | tbIncWrite (m inc : Nat)
  /-- R40: TB_CTRL.ACQ moves the time base from FREE to ACQUIRE. -/
  | acq (m : Nat)
  /-- R40: TB_CTRL.LOCK_REQ moves the time base from ACQUIRE to LOCKED. -/
  | lockReq (m : Nat)
  /-- R42: TB_CTRL.STEP_GO adds TB_STEP to DT at the next tick in FREE or ACQUIRE, or is refused with STEP_REJ. -/
  | stepGo (m : Nat)
  /-- R40: TB_CTRL.HOLD_REQ moves a LOCKED time base to HOLDOVER and starts TB_HOLD_NS. -/
  | holdReq (m : Nat)
  /-- R40: TB_CTRL.HOLD_EXIT returns a HOLDOVER time base to LOCKED while the module is in RUN or TRIM. -/
  | holdExit (m : Nat)
  /-- R66: TB_CTRL.COMMIT applies the staged PPS_OUT period, phase and width at the next edge, or at once while PPS_OUT is not driven. -/
  | ppsCommit (m : Nat)
  /-- R58: A write of TB_MEAS_OFFS_HI presents the measured offset to the jump detector in LOCKED. -/
  | measOffsetWrite (m : Nat) (offs : DWord)
  /-- R527: A write of TB_MEAS_SEQ marks a new measurement and sends the TB_MEAS event once. -/
  | measSeqWrite (m : Nat) (seq : Word)
  /-- R530: When TB_SLEW_REM reaches 0 the time base leaves JUMP for LOCKED, or for HOLDOVER in power state HOLD. -/
  | slewComplete
  /-- R60: TB_REEP_CTRL.ARM arms a re-epoch and fixes its boundary B, or is refused with REEP_REJ. -/
  | reepochArm (m : Nat) (anchor : Nat)
  /-- R63: At boundary B, DT becomes B + Δ, list base times and timers are re-anchored and pending jobs are handled by step direction. -/
  | reepochApply
  /-- R69: TB_SNAP_CTRL.SNAP captures DT into TB_SNAP when the write reaches the time island. -/
  | snap (m : Nat)
  /-- R55: PF0 writing TB_SERVO.REQ = 1 asks firmware to hand over the servo. -/
  | servoRequest (m : Nat)
  /-- R55: Firmware grants the servo within 250 ms and OWNER and GRANT become 1 at the tick of the grant. -/
  | servoGrant
  /-- R55: PF0 writing REQ = 0 returns servo ownership to firmware at the next tick. -/
  | servoReturn (m : Nat)
  /-- R56: No accepted PF0 TB_INC write for TB_SERVO_WDOG ms returns ownership to firmware and raises TB_SERVO_WDOG. -/
  | servoWatchdogExpiry
  /-- R453: The firmware servo finds no timeTransmitter within the Announce receipt timeout, raises MG_SERVO and enters holdover. -/
  | announceTimeout
  /-- R65: PPS_OUT asserts at each DT matching period and phase and stays asserted for the width. -/
  | ppsOutEdge
  /-- R67: A selected PPS_IN edge is time-stamped and checked against the expected window. -/
  | ppsInEdge (edge : PinEdge)
  /-- R67: No PPS_IN edge for 1.5 s counts MISS, clears PPS_IN_OK and raises PPS_IN_LOSS. -/
  | ppsInLoss
  /-- R68: A selected TIN edge is time-stamped into its FIFO, or discarded and counted as overflow. -/
  | tinEdge (pin : Fin 2) (rising : Bool) (quarter : Fin 8)
  /-- R68: A read of TB_TINn_TS_LO pops the oldest time stamp and latches its other words. -/
  | tinFifoPop (m : Nat) (pin : Fin 2)
  /-- R52: A time marker reaching the field die trims the follower and may lock, relock or unlock it. -/
  | followerMarker (err : Int)
  /-- R52: No marker for 10 µs unlocks the follower and holds field launches and gate events. -/
  | followerMarkerTimeout
  /-- R47: A residence entry finding no Follow_Up within TB_TC_FU_TMO is dropped and counted FU_MISS. -/
  | fuTimeout (dirB : Bool)
  /-- R49: On each enabled field port the module sends a one-step Sync every 2^LOG_SYNC s. -/
  | fieldSyncTx (n : Fin 8)
  /-- R76: At the DT at which a list entry begins, KILN applies its gate states, cycle count and quiet-interval report. -/
  | gateEntryStart (p : Fin 10)
  /-- R78: A write of GATE_EN takes effect at the next cycle boundary, opening all gates at 0 or starting the list at 1. -/
  | gateEnWrite (m : Nat) (p : Fin 10) (b : Bool)
  /-- R78: The stored operational list starts at the first boundary not earlier than the enable plus the preparation lead. -/
  | listStart (p : Fin 10)
  /-- R79: CFG_CHANGE validates the administrative list and sets CFG_PENDING with its CCT, or reports a CFG_ERR code. -/
  | cfgChange (m : Nat) (p : Fin 10)
  /-- R82: At CCT the administrative list becomes operational, CHG_CNT increments and the copy-back begins. -/
  | configChangeTime (p : Fin 10)
  /-- R82: The copy of the new operational list into the administrative bank ends and ADMIN_BUSY clears. -/
  | adminCopyDone (p : Fin 10)
  /-- R84: CFG_ABORT before CCT − 1 µs cancels a pending change; a later abort only counts ADMIN_REJ. -/
  | cfgAbort (m : Nat) (p : Fin 10)
  /-- R86: At DT_E − HOLD_ADV KILN sends a hold for a Set-And-Hold-MAC entry; the MAC stops and cuts pre-emptable frames. -/
  | holdRequest (p : Fin 10)
  /-- R86: At DT_E − REL_ADV KILN sends a release and pre-emptable frames resume, continuations first. -/
  | releaseRequest (p : Fin 10)
  /-- R87: KILN sends each field gate event with its DT over the isolation channel at least 20 µs ahead. -/
  | fieldGateEventSend (n : Fin 8)
  /-- R87: The field die applies a gate event when its follower counter reaches its DT. -/
  | fieldGateEventApply (n : Fin 8)
  /-- R92: The stream-gate sequencer applies a gate entry's state and IPV, late if the sequencer rate is exceeded. -/
  | streamGateEvent (g : BitVec 10)
  /-- R91: KN_SG_CMD ENABLE starts a stream gate. -/
  | sgEnable (m : Nat) (g : BitVec 10)
  /-- R91: KN_SG_CMD DISABLE stops a stream gate, leaving it at DEF_STATE. -/
  | sgDisable (m : Nat) (g : BitVec 10)
  /-- R91: KN_SG_CMD CFG_CHANGE validates a stream gate's administrative descriptor and schedules its CCT. -/
  | sgCfgChange (m : Nat) (g : BitVec 10)
  /-- R91: KN_SG_CMD ABORT cancels a pending stream-gate change. -/
  | sgAbort (m : Nat) (g : BitVec 10)
  /-- R91: At a stream gate's CCT the operational descriptor takes the administrative values. -/
  | sgCct (g : BitVec 10)
  /-- R104: A write of KN_MDATA_HI stores a word into the selected KILN window space unless refused. -/
  | knMdataWrite (m : Nat) (hi : Word)
  /-- R94: KN_TA_CMD.SUBMIT checks the staged action and allocates the lowest free entry, or reports BAD or FULL. -/
  | taSubmit (m : Nat)
  /-- R100: KN_TA_CMD.CANCEL frees an entry of the owner or, for MGMT, any entry, or sets NOTFOUND. -/
  | taCancel (m : Nat) (idx : BitVec 12)
  /-- R95: At its DT a timed action performs its WRITE, TOUT or POINT in arming order and reschedules if repeating. -/
  | taOccurrence
  /-- R95: A TOUT edge scheduled by a timed action reaches its pad within ±2 ns of its DT. -/
  | toutEdge
  /-- R109: At DT_L minus the lead, or on eligibility when untimed, a work item begins reading its chain or is handed to MASH. -/
  | fetchStart (idx : Nat)
  /-- R109: When the first 64 bytes are in the engine, or the frame is at the field die, the item becomes READY. -/
  | fetchDone (idx : Nat)
  /-- R244: When the wire is free the engine selects the next frame under the start rules and puts its first bit on the pads. -/
  | frameStart (p : Fin 10)
  /-- R109: The last bit of a frame is sent, the work item is freed and its completion is posted. -/
  | frameEnd (p : Fin 10)
  /-- R115: A timed job that cannot start by DT_L + tolerance is late and is launched flagged LATE or discarded per policy. -/
  | jobLate (idx : Nat)
  /-- R116: No Respond within VERIFY_TIME sends another verify, or after the third moves to FAILED. -/
  | verifyTimeout (p : Fin 10)
  /-- R116: A Respond mPacket in VERIFYING moves verification to SUCCEEDED and activates pre-emption. -/
  | respondReceived (p : Fin 10)
  /-- R116: A verify mPacket received after DISABLED is answered with a Respond. -/
  | verifyReceived (p : Fin 10)
  /-- R531: A pending verify or respond mPacket leaves at the first instant the wire is free and guard allows. -/
  | mpacketSend (p : Fin 10)
  /-- R116: LN_Pn_CTRL.VERIFY_RESTART moves a FAILED port back to INITIAL or VERIFYING. -/
  | verifyRestart (m : Nat) (p : Fin 10)
  /-- R120: A received fragment is reassembled, or the frame is discarded on a reassembly error. -/
  | fragmentReceived (p : Fin 10) (k : Frag) (final : Bool) (data : List Byte) (ago : Nat)
  /-- R141: A point write reaching GYLE lands in order, setting the record fields, or is refused. -/
  | pointWriteLand
  /-- R160: A triggered notification is written to its ring, or folded into the ring's gap count. -/
  | notificationWrite
  /-- R139: A point's record moves atomically between tiers, holding writes until completion. -/
  | tierMove
  /-- R139: A tier move completes, HOT changes and held writes land in the destination. -/
  | tierMoveDone
  /-- R145: A map arriving after delivery from DRAM issues the frame's pending writes. -/
  | mapFetchDone
  /-- R151: A posted 8-byte BAR4 write to a bound slot becomes a point write, or is discarded. -/
  | pointWindowWrite (slot : Nat) (parts : List (DWord × Nat))
  /-- R502: A BAR4 read of a bound slot returns the point's current VALUE, or 0. -/
  | pointWindowRead (slot : Nat) (half : Option Bool)
  /-- R131: GY_PCFG_CMD DEFINE makes a point defined with the given flags and maximum age. -/
  | pcfgDefine (m : Nat)
  /-- R131: GY_PCFG_CMD UNDEFINE zeroes a point record, or is refused BUSY if it has subscriptions. -/
  | pcfgUndefine (m : Nat)
  /-- R137: GY_PCFG_CMD SET changes a defined point's MAXAGE, PIN, FORCE and MIRROR. -/
  | pcfgSet (m : Nat)
  /-- R150: GY_MAP_CMD.SWAP exchanges two extraction maps in one step. -/
  | mapSwap (m : Nat) (a b : BitVec 14)
  /-- R168: A write of GY_MDATA_HI stores a word into a writable GYLE window space unless refused. -/
  | gyMdataWrite (m : Nat) (hi : Word)
  /-- R161: The age sweep visits an AGE_WATCH subscription and posts STALE if the point turned stale. -/
  | sweepVisit
  /-- R173: At DT_L − 4 µs (or 60 µs field) MASH creates a scheduled launch and fetches its template. -/
  | templateLaunchCreate (t : BitVec 14)
  /-- R176: At DT_L − (A_dram + 40 ns) MASH classes each slot point as hot or DRAM. -/
  | slotClassify (idx : Nat)
  /-- R177: At DT_L − A_dram the DRAM and horizon slots of a launch are read. -/
  | dramSlotRead (idx : Nat)
  /-- R177: At DT_L − A_hot the hot slots of a launch are read on the hot read ports. -/
  | hotSlotRead (idx : Nat)
  /-- R181: The engine fills slots, stale mark, CRC and checksums and hands the frame to LAUNCH by the hand-off instant. -/
  | assemblyHandoff (idx : Nat)
  /-- R175: MS_TPL_CMD ENABLE validates a disabled template and sets EN. -/
  | templateEnable (m : Nat) (t : BitVec 14)
  /-- R175: MS_TPL_CMD DISABLE clears EN and stops new launches. -/
  | templateDisable (m : Nat) (t : BitVec 14)
  /-- R175: MS_TPL_CMD SWAP validates B and exchanges the content of enabled A and disabled B. -/
  | templateSwap (m : Nat) (a b : BitVec 14)
  /-- R175: The last launch of a disabled template is handed off and BUSY clears. -/
  | templateDisableDone
  /-- R193: A write of MS_MDATA_HI stores a word into a template part unless refused. -/
  | msMdataWrite (m : Nat) (hi : Word)
  /-- R186: When DT ≥ T_o + H_p a queued horizon write moves into the view if its key is greater. -/
  | horizonMature
  /-- R202: Once the parsed fields have crossed, the frame's stream handle is looked up in 30 cycles. -/
  | streamLookup (lane : RxLane) (head : List Byte) (ago : Nat)
  /-- R203: FN_CMD ID_INSERT places the staging entry in the identification table. -/
  | idInsert (m : Nat)
  /-- R203: FN_CMD ID_DELETE removes the entry matching the staging key. -/
  | idDelete (m : Nat)
  /-- R203: FN_CMD ID_FIND returns the index of the matching entry and copies it to staging. -/
  | idFind (m : Nat)
  /-- R217: FN_CMD REC_RESET resets a recovery function at once. -/
  | recReset (m : Nat) (f : BitVec 15)
  /-- R533: FN_CMD CLR_REC_CNT clears a recovery function's counters, LAT_BASE and LAT_ERR. -/
  | clrRecCnt (m : Nat) (f : BitVec 15)
  /-- R230: FN_CMD CLR_STREAM_CNT clears a stream's counters. -/
  | clrStreamCnt (m : Nat) (h : BitVec 15)
  /-- R230: A write of FN_MDATA_HI applies a FINING record when its last word is written. -/
  | fnMdataWrite (m : Nat) (hi : Word)
  /-- R213: When a frame's R-TAG is in and its gate passes, its recovery function accepts, holds or discards it. -/
  | recoveryEvaluate (lane : RxLane)
  /-- R217: A recovery TIMER reaching 0 resets the function and counts RESETS. -/
  | recoveryTimeout (f : BitVec 15)
  /-- R218: Every LAT_PERIOD the latent-error difference is tested and may raise FN_LATENT. -/
  | latentTest (f : BitVec 15)
  /-- R218: Every LAT_RESET the latent-error base is reset and LAT_ERR cleared. -/
  | latentReset (f : BitVec 15)
  /-- R220: PS_CMD UNBLOCK clears BLOCKED on a stream filter. -/
  | psUnblock (m : Nat) (f : BitVec 12)
  /-- R226: PS_CMD CLR_FILTER_CNT clears a stream filter's counters. -/
  | psClrFilterCnt (m : Nat) (f : BitVec 12)
  /-- R224: PS_CMD METER_RESET refills a meter's tokens and clears MARK_RED. -/
  | meterReset (m : Nat) (idx : BitVec 12)
  /-- R221: PS_CMD GATE_REOPEN clears a stream gate's latched-closed bits. -/
  | gateReopen (m : Nat) (g : BitVec 12)
  /-- R232: A write of PS_MDATA_HI applies a PSFP record when its last word is written. -/
  | psMdataWrite (m : Nat) (hi : Word)
  /-- R240: In a level-1 wheel slot up to 32 waiting shapers become eligible. -/
  | shaperGrant
  /-- R239: Entries of upper wheel levels and the overflow list move down one level ahead of their slot. -/
  | wheelMigrate
  /-- R259: A write of LT_MDATA_HI stores a LAUTER window word; a shaper record applies at its last word. -/
  | ltMdataWrite (m : Nat) (hi : Word)
  /-- R242: A class's credit-based shaper credit reaches 0 and the class may start frames again. -/
  | cbsCreditRestored (p : Fin 10) (c : Fin 8)
  /-- R247: A valid PAUSE frame pauses the pausable classes of the port for its time. -/
  | pauseRx (p : Fin 10) (quanta : BitVec 16)
  /-- R247: A valid PFC frame pauses the mapped pausable class of each enabled priority. -/
  | pfcRx (p : Fin 10) (enable : BitVec 8) (times : List (BitVec 16))
  /-- R247: A class's pause time runs out and the class may send again. -/
  | pauseExpiry (p : Fin 10) (c : Fin 8)
  /-- R249: LT_QPAUSE or VF_QPAUSE pauses, resumes or re-times the untimed frames of a queue. -/
  | queuePause (m : Nat) (vf : Bool) (q us : BitVec 16)
  /-- R249: A queue pause runs out and the queue's untimed frames resume. -/
  | queuePauseExpiry (q : BitVec 10)
  /-- R262: TW_CTRL.EN = 1 moves the agent from DISABLED to FORMING and starts FORM_WAIT. -/
  | twinEnable (m : Nat)
  /-- R290: TW_CTRL.EN = 0 makes the role DISABLED with epoch 0. -/
  | twinDisable (m : Nat)
  /-- R269: Every PERIOD_US the agent sends a heartbeat on each enabled path. -/
  | heartbeatTx
  /-- R264: A heartbeat is validated and drives role transitions, path status, offset and health comparison. -/
  | heartbeatRx (pulse : Bool) (pair : Word) (data : List Byte) (ago : Nat)
  /-- R270: No valid heartbeat on a path for LOSS_N periods marks it down and raises TW_PATH_LOSS. -/
  | pathLoss (pulse : Bool)
  /-- R262: FORM_WAIT expiring without a peer claims alone or stays FORMING and raises TW_PEER_LOST. -/
  | formWaitExpiry
  /-- R272: Silence on both paths for LEASE_US + GUARD_US makes a ready standby claim, or raises TW_PEER_LOST. -/
  | leaseExpiry
  /-- R271: A CLAIM frame on the Dolnos link or pulse line is compared by lease. -/
  | claimRx (pulse : Bool) (pair epoch : Word) (id : Fin 2)
  /-- R273: A RELEASE carrying the current epoch makes a standby claim at once. -/
  | releaseRx (pulse : Bool) (pair epoch : Word) (id : Fin 2)
  /-- R275: A backbone claim frame of this pair makes a lesser acting twin yield or is answered. -/
  | backboneClaimRx (p : Fin 2) (payload : List Byte)
  /-- R275: After a claim a backbone claim frame is sent once per heartbeat period, REPEAT times. -/
  | backboneClaimTx
  /-- R273: TW_CMD RELEASE hands the lease to a ready standby peer, or reports PEER_NOT_READY. -/
  | twRelease (m : Nat)
  /-- R272: TW_CMD FORCE_CLAIM claims from FORMING, SYNCING or STANDBY regardless of readiness. -/
  | forceClaim (m : Nat)
  /-- R284: TW_CMD REJOIN enters SYNCING from STANDBY or acting alone, wiping the horizon. -/
  | rejoin (m : Nat)
  /-- R284: On entering SYNCING the twin wipes its horizon and requests a resync when the link is up. -/
  | resyncRequest
  /-- R284: The acting twin walks mirrored points and sends RS_POINT, RS_SEQ and RS_DONE frames. -/
  | resyncWalk
  /-- R284: After RS_DONE and the largest H_p the twin enters STANDBY and becomes READY. -/
  | resyncComplete
  /-- R267: A reliable Dolnos frame is accepted in sequence and applied, or NAKed. -/
  | dolnosFrameRx (data : List Byte)
  /-- R281: A REEP frame arriving at least 2 µs before B arms the same re-epoch in the standby, or is refused. -/
  | reepRx (delta bnd : Int)
  /-- R267: A NAK or 5 µs without ACK progress resends reliable frames from the first missing one. -/
  | dolnosRetransmit
  /-- R276: A MIRROR frame closes TW_MIR_BATCH ns after its first record, or when full, and is sent. -/
  | mirrorBatchClose
  /-- R278: With the link up and credit available, dirty points are sent in ascending ID and cleared. -/
  | dirtyMapFlush
  /-- R282: Every 10 ms a free engine assembles the test template and checks its CRC. -/
  | selftestAssembly (good : Bool)
  /-- R286: A frame-agreement window completes 2P after its end and its digest is published. -/
  | checkWindowComplete
  /-- R296: A doorbell write sets an SQ's TAIL and lets QENG fetch, or is discarded. -/
  | sqDoorbell (m page : Nat) (l : BitVec 8) (bytes : Nat) (hi : Bool) (pos : BitVec 16)
  /-- R296: A doorbell write sets a CQ's HEAD, releasing entries, or is discarded. -/
  | cqDoorbell (m page : Nat) (l : BitVec 8) (bytes : Nat) (hi : Bool) (pos : BitVec 16)
  /-- R299: A TX entry admits one untimed frame gathered from host memory. -/
  | tx (q : BitVec 10) (e : List Byte) (payload : Option (List Byte))
  /-- R299: A TX_TIMED entry admits one frame with a DT_L. -/
  | txTimed (q : BitVec 10) (e : List Byte) (payload : Option (List Byte))
  /-- R300: An LSO entry admits a large send to be segmented. -/
  | lso (q : BitVec 10) (e : List Byte) (hdr : Option (List Byte)) (payload : Option (List Byte))
  /-- R301: A POST_RX entry gives receive buffers to an RX queue, or completes FULL. -/
  | postRx (q : BitVec 10) (e : List Byte)
  /-- R302: A POINT_WRITE entry issues up to 15 point writes to GYLE in unit order. -/
  | pointWrite (q : BitVec 10) (e : List Byte)
  /-- R303: A POINT_READ entry writes record copies of a range or list of points to host memory. -/
  | pointRead (q : BitVec 10) (e : List Byte)
  /-- R157: A SUBSCRIBE entry allocates a subscription on a point, or completes with a refusal. -/
  | subscribe (q : BitVec 10) (e : List Byte)
  /-- R157: A SUBSCRIBE entry with UNSUB frees a subscription of its owner, or completes NOTFOUND. -/
  | unsubscribe (q : BitVec 10) (e : List Byte)
  /-- R305: A TIMED_ACTION entry submits a timed action and completes with its index. -/
  | timedAction (q : BitVec 10) (e : List Byte)
  /-- R306: A DMA_COPY entry queues a copy between host buffers for a pool channel. -/
  | dmaCopy (q : BitVec 10) (e : List Byte)
  /-- R307: A FENCE entry holds later entries of its queue. -/
  | fence (q : BitVec 10) (e : List Byte)
  /-- R307: A FENCE passes and completes when earlier jobs have ended and DT has reached NOT_BEFORE. -/
  | fencePass (q : BitVec 10)
  /-- R307: A NOP entry completes as soon as it is fetched. -/
  | nop (q : BitVec 10) (e : List Byte)
  /-- R321: MOD_US after the first event since the last message sends the CQ's MSI-X message. -/
  | msixModTimer (c : BitVec 10)
  /-- R318: EN = 1 on a disabled SQ validates it and enables it, or reports an ERR code. -/
  | sqEnable (m : Nat) (q : BitVec 10)
  /-- R319: EN = 0 moves an SQ to DRAINING, discarding fetched jobs not started. -/
  | sqDisable (m : Nat) (q : BitVec 10)
  /-- R318: When every started job has ended the SQ becomes DISABLED and posts Q_DISABLED. -/
  | queueDrained (q : BitVec 10)
  /-- R536: EN = 1 on a CQ validates and enables it, or records the failure in QE_CQ_ERR. -/
  | cqEnable (m : Nat) (c : BitVec 10)
  /-- R318: EN = 0 disables a CQ. -/
  | cqDisable (m : Nat) (c : BitVec 10)
  /-- R318: An entry fetch that fails or times out after 64 µs puts the SQ in ERROR with FETCH_ERR. -/
  | entryFetchError (q : BitVec 10)
  /-- R291: QE_ASSIGN gives a disabled queue an owner and local index, or reports a code. -/
  | queueAssign (m : Nat) (cq : Bool) (q : BitVec 10) (owner : BitVec 6) (loc : BitVec 8)
  /-- R291: QE_ASSIGN with OWNER 0x3F releases a disabled queue to unassigned. -/
  | queueRelease (m : Nat) (cq : Bool) (q : BitVec 10)
  /-- R330: CH_CTRL.START begins a register-mode transfer on an idle or stopped channel. -/
  | dmaStart (m : Nat) (c : Fin 16)
  /-- R336: CH_CTRL.CHAIN begins chain mode at CH_DESC. -/
  | dmaChain (m : Nat) (c : Fin 16)
  /-- R342: CH_CTRL.RESUME reruns a halted channel's current transfer from its start. -/
  | dmaResume (m : Nat) (c : Fin 16)
  /-- R345: CH_CTRL.EN = 0 drops everything on the channel and leaves it IDLE with DROPPED. -/
  | channelDrop (m : Nat) (c : Fin 16)
  /-- R345: DMA_CTRL.EN = 0 drops every channel and grants no burst. -/
  | dmaEngineDisable (m : Nat)
  /-- R339: A write to CH_DB re-reads a waiting tail, sets DB_PEND while running, or is ignored. -/
  | chDb (m : Nat) (c : Fin 16)
  /-- R327: A write of CH_OWNER by an ADM master moves an idle channel between the pool and a direct owner. -/
  | chOwnerWrite (m : Nat) (c : Fin 16) (v : BitVec 6)
  /-- R342: Writing 1 to DMA_STATUS.HALT resumes burst grants, leaving halted channels waiting. -/
  | haltClear (m : Nat)
  /-- R336: A fetched descriptor is run if owned, or the channel waits in TAIL_WAIT. -/
  | descriptorFetched (c : Fin 16) (b : List Byte)
  /-- R337: When a transfer's last write is issued and reads are complete, status is written back and the chain goes on. -/
  | transferComplete (c : Fin 16) (data : List Byte)
  /-- R341: A failed or timed-out host or private-space request is recorded and handled per ATTRIB. -/
  | busError (c : Fin 16) (cause : Fin 4) (addr : DWord) (issued : Nat) (data : List Byte) (tail : Bool)
  /-- R353: A cell request is placed by PITCH and granted or failed by quota, reserve and free count. -/
  | cellAlloc (reqs : List CellReq)
  /-- R357: An append links a new cell at the chain's end in one cycle. -/
  | chainAppend (c m : Nat) (data : List Byte)
  /-- R357: The writer sets COMPLETE and waiting readers continue. -/
  | chainComplete (c m : Nat)
  /-- R357: The writer sets ABORT and COMPLETE, and readers end as for a bad frame end. -/
  | chainAbort (c m : Nat)
  /-- R358: A holder adds a master to a chain's holder set, or the operation is refused. -/
  | share (c m n : Nat)
  /-- R358: A holder removes itself; the chain is freed when the set becomes empty. -/
  | release (c m : Nat)
  /-- R355: A freed cell finishes its wipe and joins the free count. -/
  | cellWipeDone (pool : Fin 2)
  /-- R361: A write of GR_QRSV or GR_QMAX applies from the next allocation, or is ignored with CFG_ERR. -/
  | quotaWrite (m : Nat) (isMax : Bool) (pool : Fin 2) (who value : Nat)
  /-- R361: A write of GR_POOL1_SIZE below the reserves is ignored with CFG_ERR 2. -/
  | pool1SizeWrite (m units : Nat)
  /-- R365: At the end of each heat window PITCH promotes, exchanges and halves heat counts. -/
  | heatWindowEnd
  /-- R366: PITCH rebinds a port to a launch engine inside a quiet interval of the port. -/
  | engineRebind (p : Fin 10)
  /-- R368: A waiting copy job is assigned the pool channel idle longest. -/
  | dmaCopyDispatch
  /-- R370: PT_TRACE_CTRL.CLEAR empties the trace buffer and clears FULL. -/
  | traceClear (m : Nat)
  /-- R376: A write of PT_MDATA_HI stores a PITCH intent or queue-set word. -/
  | ptMdataWrite (m : Nat) (hi : Word)
  /-- R380: A write of MB_CH_TAG posts a notice, or is refused on a FULL channel. -/
  | mailboxPost (m : Nat) (n : Fin 64) (tag : Word)
  /-- R381: MB_CH_CMD.EMPTY clears FULL and sets the sender's empty-pending bit. -/
  | mailboxEmpty (m : Nat) (n : Fin 64)
  /-- R384: A read of MB_CH_LOCK takes a free lock, or returns BUSY and the owner. -/
  | mailboxLockTake (n : Fin 64) (ms : List Nat)
  /-- R384: A write of MB_CH_LOCK by the holder frees the lock. -/
  | mailboxLockFree (m : Nat) (n : Fin 64)
  /-- R378: An MGMT write of MB_BIND_n binds a channel, or is ignored with BIND_ERR. -/
  | mailboxBindWrite (m : Nat) (n : Fin 64) (v : Word)
  /-- R378: MB_CTRL.BIND_LOCK locks the mailbox bindings until chip reset. -/
  | bindLock (m : Nat)
  /-- R394: An MGMT write to an unlocked access table applies to later checks, or is refused. -/
  | accessTableWrite (m : Nat) (t : Fin 22) (w : Fin 8) (v : Word)
  /-- R394: AC_CTRL.LOCK locks every access table. -/
  | tableLock (m : Nat)
  /-- R405: AC_CTRL.DBG_END returns the debug level to CLOSED. -/
  | dbgEnd (m : Nat)
  /-- R405: A debug token's DURATION runs out and the level returns to CLOSED. -/
  | debugExpiry
  /-- R400: MALTSTER checks an authorisation token, records the result and renews the nonce. -/
  | tokenEval (chan : Option (Fin 4)) (buf : Option (List Byte)) (sig : Bool)
  /-- R398: An accepted life-cycle token writes the fuses and performs a chip reset within 300 ms. -/
  | lifecycleChange
  /-- R404: The debug-port IDCODE instruction returns the identity code. -/
  | idcode
  /-- R400: The debug-port TOKEN instruction shifts in a token for evaluation. -/
  | dbgToken (token : List Byte)
  /-- R404: The debug-port READ instruction makes a memory-mapped read as master DBG. -/
  | dbgRead (off : Nat)
  /-- R404: The debug-port TRACE instruction reads the management core trace. -/
  | dbgTrace
  /-- R404: The debug-port WRITE instruction makes a memory-mapped write as DBG at OPEN. -/
  | dbgWrite (off : Nat) (v : Word)
  /-- R404: The debug-port HALT instruction halts the management core at OPEN. -/
  | dbgHalt
  /-- R404: The debug-port STEP instruction steps the management core at OPEN. -/
  | dbgStep
  /-- R404: Boundary-scan instructions operate the pads at OPEN. -/
  | boundaryScan (pads : List Bool)
  /-- R407: A CRP_PWR_REQ of RUN leaves TRIM or HOLD for RUN. -/
  | powerReqRun (m : Nat)
  /-- R407: A CRP_PWR_REQ of TRIM enters TRIM within 2 µs. -/
  | powerReqTrim (m : Nat)
  /-- R407: A CRP_PWR_REQ of HOLD stops new frames, sends holdover and begins the HOLD transition. -/
  | powerReqHold (m : Nat)
  /-- R406: A confirmed CRP_PWR_REQ of OFF turns the main side off within 10 ms. -/
  | powerReqOff (m confirm : Nat)
  /-- R407: When frames on the wire have ended and DRAM is in self-refresh, STATE becomes HOLD. -/
  | holdEntered
  /-- R409: WAKE_US after the first held host-bound write the module requests exit from L1.2. -/
  | linkWakeRequest
  /-- R417: A raise reaching CELLAR is ordered, booked, counted and reacted to per its configuration. -/
  | faultRaise (n : Nat) (more : List Raise)
  /-- R417: A condition source's condition ends and its CL_ACTIVE bit clears. -/
  | conditionEnd (src inst : Nat)
  /-- R428: A settling window closes CL_SETTLE_US after its block reset ends. -/
  | settleWindowEnd (b : Fin 23)
  /-- R431: QUIET_MS after the last qualifying raise with no active condition, the fault state ends. -/
  | faultQuietExpiry
  /-- R427: At the end of the minimum width a held release lets ERR_N rise. -/
  | errWidthExpiry
  /-- R427: CL_CTRL.ERR_RELEASE releases ERR_N, or holds the release until the width ends. -/
  | errRelease (m : Nat)
  /-- R422: CL_CTRL.BOOK_POP removes the oldest book entry. -/
  | bookPop (m : Nat)
  /-- R422: CL_CTRL.BOOK_CLEAR empties the book. -/
  | bookClear (m : Nat)
  /-- R432: CL_TEST with GO raises a source as if its block had, with INJECT set. -/
  | faultInject (m src : Nat)
  /-- R430: Writing 1 to a CL_HELD bit ends a held block's reset and opens a settling window. -/
  | blockHoldEnd (m : Nat) (v : Word)
  /-- R419: A write of CL_SRC_CFG_n sets a source's severity and reactions from the next cycle. -/
  | sourceConfigWrite (m : Nat) (n : Fin 160) (v : Word)
  /-- R443: Request 0x0102 verifies and writes a firmware image into the inactive slot. -/
  | reqStageFirmware (c : Fin 4) (buf : Option (List Byte)) (fmt sig nor : Bool)
  /-- R411: Request 0x0103 writes the owner key once while the slot is empty in OWNED. -/
  | reqInstallOwnerKey (c : Fin 4) (buf : Option (List Byte))
  /-- R448: Request 0x0104 checks and writes an Ebain image into the slot not loaded. -/
  | reqStageEbain (c : Fin 4) (buf : Option (List Byte)) (sig nor : Bool)
  /-- R441: Request 0x0105 writes event-log records from FROM_SEQ into the host buffer. -/
  | reqLogExtract (c : Fin 4) (buf : Option (List Byte))
  /-- R452: Request 0x0106 writes the 128-byte health and spares report. -/
  | reqHealthReport (c : Fin 4) (ok : Bool)
  /-- R443: Request 0x0107 restarts the core into the staged image in TRIAL. -/
  | reqActivateFirmware (c : Fin 4)
  /-- R443: Request 0x0108 confirms a TRIAL image and raises MG_FW_CNT. -/
  | reqConfirmFirmware (c : Fin 4)
  /-- R446: Request 0x0109 returns the OWNER_DATA section. -/
  | reqReadOwnerData (c : Fin 4) (ok : Bool)
  /-- R436: A request with an unknown tag is answered with code 8 and raises MG_WIN_ERR. -/
  | reqUnknown (c : Fin 4)
  /-- R443: MG_FW_TRIAL seconds without a confirm restart the core into the previous slot. -/
  | fwTrialExpiry
  /-- R453: The core's 1 s watchdog expires and raises MG_WDT. -/
  | mgWdt
  /-- R444: A block reset of 0x14 restarts the management core while other blocks run on. -/
  | mgmtRestart
  /-- R437: MALTSTER samples temperatures, supplies and currents and updates their conditions. -/
  | sensorSample (temps : List Nat) (sups : List Nat) (curs : List Nat) (tot : Nat)
  /-- R449: Every hour the ageing monitors are read and may trigger warnings or substitution. -/
  | ageingSample (degr weeks : List Nat)
  /-- R438: An SMBus Read Word returns the addressed copy, or 0xFFFF. -/
  | smbusReadWord (addr code : Nat)
  /-- R438: SCL held low 35 ms or a protocol error raises MG_I2C_ERR. -/
  | smbusError
  /-- R440: A buffered log record is written to NOR at the configured rate, or a TYPE 1 record is dropped. -/
  | logRecordWrite (fail : Bool)
  /-- R451: A trigger queues a substitution and raises SP_SUB_PEND. -/
  | substitutionTrigger (cause : SubCause)
  /-- R450: A queued substitution's copy begins or resumes when a guarded window opens. -/
  | substitutionCopyStart
  /-- R450: The guarded window closes and a running copy pauses. -/
  | guardedWindowClose
  /-- R451: After copy and read-back the unit switches to the spare in one cycle and SP_SUB_DONE is raised. -/
  | substitutionSwitch (bad : Bool)
  /-- R451: No usable window for STALL_S seconds raises SP_SUB_STALL once. -/
  | substitutionStall
  /-- R451: Every 24 h firmware tests idle spares and marks failures. -/
  | spareSelftest (failed : List Nat)
  /-- R459: BP_CTRL.EN = 1 moves a backbone port from DISABLED to ACQUIRE. -/
  | portEnable (m : Nat) (p : Fin 2)
  /-- R459: BP_CTRL.EN = 0 returns a backbone port to DISABLED. -/
  | portDisable (m : Nat) (p : Fin 2)
  /-- R459: BP_CTRL.RESTART_AN restarts auto-negotiation. -/
  | restartAn (m : Nat) (p : Fin 2)
  /-- R459: CDR lock then block lock or code-group sync moves ACQUIRE to NEGOTIATE or HOLD. -/
  | pcsLock (p : Fin 2)
  /-- R458: An acceptable auto-negotiation exchange moves the port to HOLD, else SPEED_ERR. -/
  | anComplete (p : Fin 2) (page : BitVec 16)
  /-- R459: BP_LINK_HOLD ms of clean lock move the port to UP. -/
  | linkHoldExpiry (p : Fin 2)
  /-- R460: A departure from UP clears LINK, stomps the frame on the wire and discards jobs of the port. -/
  | linkDown (p : Fin 2) (c : LinkLoss) (receiving : Bool)
  /-- R461: At a received frame's end the port checks it and passes it through filtering, recovery and delivery. -/
  | rxFrameEnd (p : Fin 10) (data : List Byte) (coding ovf : Bool) (ago : Nat)
  /-- R465: BP_MDIO_CMD GO with clause 22 write op starts an MDIO write. -/
  | mdioC22Write (m : Nat) (phy reg : Fin 32) (data : BitVec 16)
  /-- R465: BP_MDIO_CMD GO with clause 22 read op starts an MDIO read. -/
  | mdioC22Read (m : Nat) (phy reg : Fin 32)
  /-- R465: BP_MDIO_CMD GO with clause 45 address op sends an address frame. -/
  | mdioC45Address (m : Nat) (phy dev : Fin 32) (addr : BitVec 16)
  /-- R465: BP_MDIO_CMD GO with clause 45 write op sends a write frame. -/
  | mdioC45Write (m : Nat) (phy dev : Fin 32) (data : BitVec 16)
  /-- R465: BP_MDIO_CMD GO with clause 45 read op sends a read frame. -/
  | mdioC45Read (m : Nat) (phy dev : Fin 32)
  /-- R465: BP_MDIO_CMD GO with clause 45 read-increment op reads and increments the address. -/
  | mdioC45ReadInc (m : Nat) (phy dev : Fin 32)
  /-- R465: An MDIO command completes with RDATA, or ERR 2 and BB_MDIO_ERR on no response. -/
  | mdioDone (rdata : BitVec 16) (answered : Bool)
  /-- R465: A falling edge on PHYINT with EN set raises BB_PHY_INT. -/
  | phyInterrupt (p : Fin 2)
  /-- R478: Each second the PCS-error and FCS-error growth is checked and may raise BB_PCS_ERR or BB_FCS_RATE. -/
  | portErrorRateCheck (p : Fin 2) (pcs : Nat)
  /-- R466: A field frame crosses the isolation channel to the main side or the field die. -/
  | isoFrameArrive (k : IsoMsg) (ok : Bool)
  /-- R468: No valid message for 10 µs marks the channel down, unlocks the follower and discards field jobs. -/
  | isoChannelLoss
  /-- R468: After 1 ms of channel loss the field die stops transmitting and applies SAFE_PWR. -/
  | isoLossSafe
  /-- R468: The channel's return performs a field-side reset. -/
  | isoChannelReturn
  /-- R469: FD_CTRL.FRESET performs a field-side reset. -/
  | freset (m : Nat)
  /-- R469: The field die restarts, the proxy reloads the configuration and READY becomes 1. -/
  | fieldResetDone
  /-- R529: At start-up the field die is released from reset once firmware runs with FVIN in range. -/
  | fieldDieRelease (mv : Nat)
  /-- R470: A FIELD register write takes effect in the proxy and reaches the field die within 2 µs. -/
  | fieldProxyWrite (m off : Nat) (v : Word)
  /-- R470: Every 100 µs status copies and counter increments arrive from the field die. -/
  | fieldStatusRefresh (snr : List Nat)
  /-- R471: A field link completes negotiation and training and becomes UP. -/
  | fieldLinkUp (n : Fin 8) (low slave reversed : Bool)
  /-- R471: A field link not UP after 5 s raises FD_TRAIN_FAIL and restarts training. -/
  | fieldTrainTimeout (n : Fin 8)
  /-- R471: A lost field link clears LINK, raises FD_LINK_DOWN and handles jobs as R460. -/
  | fieldLinkDown (n : Fin 8)
  /-- R471: FP_CTRL.RESTART restarts negotiation and training. -/
  | fieldLinkRestart (m : Nat) (n : Fin 8)
  /-- R475: Every 1 ms the field die evaluates port power enables and the aggregate current. -/
  | powerEvaluation (cur : List Nat)
  /-- R472: A detection probe finds a PD signature, a miswire or nothing. -/
  | pdDetect (n : Fin 8) (k : Probe)
  /-- R472: SCCP classification reads the PD class or fails. -/
  | pdClassify (n : Fin 8) (cls : Option (Fin 16))
  /-- R472: Output in range within 50 ms puts the port ON, else FAULT. -/
  | powerUpDone (n : Fin 8) (inRange : Bool)
  /-- R472: Current below 2 mA for 300 ms returns an ON port to DETECT. -/
  | pdDisconnect (n : Fin 8)
  /-- R474: A current held at ILIM beyond OC_MS, or unholdable, switches the port off into FAULT. -/
  | overcurrentTrip (n : Fin 8) (held : Option Nat)
  /-- R474: RETRY_MS after a fault with retries left the port returns to DETECT. -/
  | faultRetry (n : Fin 8)
  /-- R474: 60 s in ON resets a port's retry count. -/
  | retryCountReset (n : Fin 8)
  /-- R475: A shed port returns to DETECT after the sum has stayed low for 10 s. -/
  | shedRecover
  /-- R476: FVIN below 19.0 V sets FVIN_UV and turns pair power off. -/
  | fvinUndervoltage (mv : Nat)
  /-- R476: FVIN above 31.0 V sets FVIN_OV and turns pair power off. -/
  | fvinOvervoltage (mv : Nat)
  /-- R476: FVIN returning within its hysteresis clears FVIN_UV or FVIN_OV. -/
  | fvinRestore (mv : Nat)
  /-- R485: VMAIN reaching 10.8 V with VIO in range starts the PMIC and start-up. -/
  | powerOn (vio33 : Bool)
  /-- R485: At t_r straps are sampled, fuses read and the SRAM wipe begins. -/
  | internalResetRelease (twinId bootSel refSel perst : Bool)
  /-- R402: The on-die and private SRAM wipe finishes and DRAM training begins. -/
  | sramWipeDone
  /-- R442: The boot code verifies the active firmware slot and runs it, falls back, or enters RECOVERY. -/
  | firmwareStart
  /-- R402: The DRAM wipe finishes and firmware applies the Ebain image. -/
  | dramWipeDone (unlocked : Bool)
  /-- R486: The module reaches READY and answers configuration requests without Retry Status. -/
  | moduleReady
  /-- R486: A PCIe configuration request before readiness receives Retry Status. -/
  | configRetry (read : CfgRead)
  /-- R483: RESET_N low for 10 µs performs a chip reset, or restarts the PMIC in OFF. -/
  | resetNAssert
  /-- R483: RESET_N returning high ends the chip reset and start-up follows. -/
  | resetNRelease
  /-- R491: CRP_CHIP_RST with the correct KEY requests a chip reset of KIND 2. -/
  | chipResetRegister (m key : Nat) (go : Bool)
  /-- R492: A chip reset, after RELEASE where required, wipes memories and restarts the module. -/
  | chipReset
  /-- R481: VMAIN below 9.5 V takes the module to OFF and switches rails off. -/
  | vmainLoss
  /-- R489: PERST# asserted takes the PCIe link down and resets every function. -/
  | perstAssert
  /-- R489: PERST# deasserted lets the module become ready within 10 ms. -/
  | perstDeassert
  /-- R490: An FLR drains the function's queues, frees its subscriptions and resets its registers. -/
  | functionLevelReset (fn : Fin 16)
  /-- R490: A function-level reset completes within 12 ms. -/
  | flrDone (fn : Fin 16)
  /-- R493: A write of CRP_BLK_RST by an ADM master resets a target block, or is refused. -/
  | blockReset (m : Nat) (v : Word)
  /-- R425: A block reset ends when the block's memories are wiped and it runs again. -/
  | blockResetEnd (b : Fin 23)
  /-- R495: A VMAIN, VIO or internal rail leaving its range raises its condition source. -/
  | supplyFault (x : Supply)
  /-- R495: The 25 MHz reference absent for 1 µs or off by 200 ppm raises REF_LOSS. -/
  | refLoss
  /-- R495: A PLL losing lock raises PLL_UNLOCK. -/
  | pllUnlock (bit : Nat)
  /-- R495: The host reference clock absent while PERST# is deasserted raises PCIE_REFCLK_LOSS. -/
  | pcieRefclkLoss
  /-- R495: The PCIe link not up while ready raises PCIE_LINK_DOWN. -/
  | pcieLinkDown
  /-- R495: A correctable or uncorrectable PCIe error raises its source. -/
  | pcieError (fn : Fin 16) (uncorr : Bool)
  /-- R506: GC_CTRL.CNT_CLEAR clears every RC counter of PF0 BAR0 except CL_SRC_CNT. -/
  | cntClear (m : Nat)
  /-- R44: The firmware protocol engine originates backbone PTP messages (Delay_Req, Pdelay_Req and responses) as frames of the module's own, from which link delay and offsets are measured. -/
  | ptpMessageGeneration (p : Fin 2) (type : Fin 4) (req : List Byte) (ago : Nat) (dly : Option Nat)
  /-- R469: The field die's own watchdog expires and performs a field-side reset. -/
  | fieldDieWatchdog
  /-- R495: The PCIe link trains and comes up, setting CRP_PCIE_STAT.LINK_UP and ending PCIE_LINK_DOWN so host-bound writes may leave. -/
  | pcieLinkUp (width speed : Nat)
  /-- R407: In TRIM or HOLD the idle PCIe link enters L1.2, after which host-bound writes wait in the module. -/
  | linkEntersL12
  /-- R409: The PCIe link leaves L1.2, by the module's request or by host access, and the held host-bound writes leave in their original order. -/
  | linkExitsL12
  /-- R497: A PCIe configuration write after readiness changes Bus Master Enable, Memory Space Enable or the SR-IOV VF enable, with effects on DMA requests, BAR decoding and VF queue enables. -/
  | configurationWrite (fn : Fin 16) (w : CfgWrite)
deriving DecidableEq, Repr

end Sys2Proof
end

