-- ==== Sys2Proof/Machine/RegMap.lean ====
section
/-!
DEFINITION. The register map: every register field the manual's register tables list, under its own name, with its
offset, bits, access code, change class and reset value (R14, R16, R498, R500). A register array is a function of its
indices; a bank per master has the master as its first index `b`. `fieldsAt` lists the fields of the register at an
offset. Offsets of 0x20_0000 and above are the VF windows of R500: 0x20_0000 + 0x1_0000 × VF number.
Where the manual leaves a point open, the choices are log entries 4, 5, 6, 7 (DESIGN CHOICE).
-/

namespace Sys2Proof.Machine

/-- Access codes of R14. -/
inductive Acc where
  | rw | ro | wo | w1c | w1s | rc
deriving DecidableEq, Repr

/-- Change classes of R16; `hard` is the dash of the Chg column. -/
inductive Cls where
  | live | staged | frozen | hard
deriving DecidableEq, Repr

/-- A register field: offset of its register, lowest bit, width, access code, change class, reset value. -/
structure Fld where
  off : Nat
  lo : Nat
  w : Nat
  acc : Acc
  cls : Cls
  rst : Nat
deriving DecidableEq, Repr

/-- The key of a field in the register file: no two fields share one. -/
def Fld.key (f : Fld) : Nat := f.off * 32 + f.lo

/-- TB_CTRL (02 R72). -/
def F.TB_CTRL_COMMIT : Fld := ⟨0x20000, 31, 1, .w1s, .live, 0⟩
def F.TB_CTRL_PTP_EN : Fld := ⟨0x20000, 8, 1, .rw, .live, 0⟩
def F.TB_CTRL_JUMP_MODE : Fld := ⟨0x20000, 6, 2, .rw, .live, 0⟩
def F.TB_CTRL_LOCK_REQ : Fld := ⟨0x20000, 5, 1, .wo, .live, 0⟩
def F.TB_CTRL_ACQ : Fld := ⟨0x20000, 4, 1, .wo, .live, 0⟩
def F.TB_CTRL_STEP_GO : Fld := ⟨0x20000, 3, 1, .wo, .live, 0⟩
def F.TB_CTRL_HOLD_REQ : Fld := ⟨0x20000, 2, 1, .wo, .live, 0⟩
def F.TB_CTRL_HOLD_EXIT : Fld := ⟨0x20000, 1, 1, .wo, .live, 0⟩
/-- TB_STATUS (02 R72). -/
def F.TB_STATUS_PPS_IN_OK : Fld := ⟨0x20004, 10, 1, .ro, .hard, 0⟩
def F.TB_STATUS_INC_CLAMP : Fld := ⟨0x20004, 9, 1, .w1c, .live, 0⟩
def F.TB_STATUS_STEP_REJ : Fld := ⟨0x20004, 8, 1, .w1c, .live, 0⟩
def F.TB_STATUS_REEP_REJ : Fld := ⟨0x20004, 7, 1, .w1c, .live, 0⟩
def F.TB_STATUS_JUMP_SEEN : Fld := ⟨0x20004, 6, 1, .w1c, .live, 0⟩
def F.TB_STATUS_STATE : Fld := ⟨0x20004, 0, 3, .ro, .hard, 0⟩
/-- TB_INC_LO (02 R72). -/
def F.TB_INC_LO : Fld := ⟨0x20020, 0, 32, .rw, .live, 0⟩
/-- TB_INC_HI (02 R72). -/
def F.TB_INC_HI : Fld := ⟨0x20024, 0, 4, .rw, .live, 2⟩
/-- TB_STEP_LO (02 R72). -/
def F.TB_STEP_LO : Fld := ⟨0x20028, 0, 32, .rw, .live, 0⟩
/-- TB_STEP_HI (02 R72). -/
def F.TB_STEP_HI : Fld := ⟨0x2002C, 0, 32, .rw, .live, 0⟩
/-- TB_REEP_LO (02 R72). -/
def F.TB_REEP_LO : Fld := ⟨0x20030, 0, 32, .rw, .live, 0⟩
/-- TB_REEP_HI (02 R72). -/
def F.TB_REEP_HI : Fld := ⟨0x20034, 0, 32, .rw, .live, 0⟩
/-- TB_EPOCH (02 R72). -/
def F.TB_EPOCH : Fld := ⟨0x20040, 0, 32, .ro, .hard, 0⟩
/-- TB_LAST_DT_LO (02 R72). -/
def F.TB_LAST_DT_LO : Fld := ⟨0x20048, 0, 32, .ro, .hard, 0⟩
/-- TB_LAST_DT_HI (02 R72). -/
def F.TB_LAST_DT_HI : Fld := ⟨0x2004C, 0, 32, .ro, .hard, 0⟩
/-- TB_LAST_AMT_LO (02 R72). -/
def F.TB_LAST_AMT_LO : Fld := ⟨0x20050, 0, 32, .ro, .hard, 0⟩
/-- TB_LAST_AMT_HI (02 R72). -/
def F.TB_LAST_AMT_HI : Fld := ⟨0x20054, 0, 32, .ro, .hard, 0⟩
/-- TB_STEP_THR (02 R72). -/
def F.TB_STEP_THR : Fld := ⟨0x20060, 0, 32, .rw, .live, 1000000⟩
/-- TB_MEAS_OFFS_LO (02 R72). -/
def F.TB_MEAS_OFFS_LO : Fld := ⟨0x20070, 0, 32, .rw, .live, 0⟩
/-- TB_MEAS_OFFS_HI (02 R72). -/
def F.TB_MEAS_OFFS_HI : Fld := ⟨0x20074, 0, 32, .rw, .live, 0⟩
/-- TB_MEAS_DLY (02 R72). -/
def F.TB_MEAS_DLY : Fld := ⟨0x20078, 0, 32, .rw, .live, 0⟩
/-- TB_MEAS_SEQ (02 R72). -/
def F.TB_MEAS_SEQ : Fld := ⟨0x2007C, 0, 32, .rw, .live, 0⟩
/-- TB_SERVO_WDOG (02 R72). -/
def F.TB_SERVO_WDOG : Fld := ⟨0x20084, 0, 32, .rw, .live, 2000⟩
/-- TB_INC_REJ (02 R72). -/
def F.TB_INC_REJ : Fld := ⟨0x20088, 0, 32, .rc, .hard, 0⟩
/-- TB_HOLD_NS_LO (02 R72). -/
def F.TB_HOLD_NS_LO : Fld := ⟨0x20090, 0, 32, .ro, .hard, 0⟩
/-- TB_HOLD_NS_HI (02 R72). -/
def F.TB_HOLD_NS_HI : Fld := ⟨0x20094, 0, 32, .ro, .hard, 0⟩
/-- TB_SNAP_LO (02 R72). -/
def F.TB_SNAP_LO : Fld := ⟨0x200A4, 0, 32, .ro, .hard, 0⟩
/-- TB_SNAP_HI (02 R72). -/
def F.TB_SNAP_HI : Fld := ⟨0x200A8, 0, 32, .ro, .hard, 0⟩
/-- TB_SNAP_FRAC (02 R72). -/
def F.TB_SNAP_FRAC : Fld := ⟨0x200AC, 0, 32, .ro, .hard, 0⟩
/-- TB_TC_FU_TMO (02 R72). -/
def F.TB_TC_FU_TMO : Fld := ⟨0x200B4, 0, 32, .rw, .live, 100⟩
/-- TB_PPSO_PERIOD (02 R72). -/
def F.TB_PPSO_PERIOD : Fld := ⟨0x20104, 0, 32, .rw, .staged, 1000000000⟩
/-- TB_PPSO_PHASE (02 R72). -/
def F.TB_PPSO_PHASE : Fld := ⟨0x20108, 0, 32, .rw, .staged, 0⟩
/-- TB_PPSO_WIDTH (02 R72). -/
def F.TB_PPSO_WIDTH : Fld := ⟨0x2010C, 0, 32, .rw, .staged, 100000000⟩
/-- TB_PPSI_TS_LO (02 R72). -/
def F.TB_PPSI_TS_LO : Fld := ⟨0x20114, 0, 32, .ro, .hard, 0⟩
/-- TB_PPSI_TS_HI (02 R72). -/
def F.TB_PPSI_TS_HI : Fld := ⟨0x20118, 0, 32, .ro, .hard, 0⟩
/-- TB_PPSI_TS_FRAC (02 R72). -/
def F.TB_PPSI_TS_FRAC : Fld := ⟨0x2011C, 0, 32, .ro, .hard, 0⟩
/-- TB_FLW_CNT (02 R72). -/
def F.TB_FLW_CNT : Fld := ⟨0x20208, 0, 32, .rc, .hard, 0⟩
/-- TB_JUMP_CNT (02 R72). -/
def F.TB_JUMP_CNT : Fld := ⟨0x20220, 0, 32, .rc, .hard, 0⟩
/-- TB_REEP_CTRL (02 R72). -/
def F.TB_REEP_CTRL_ANCHOR : Fld := ⟨0x20038, 0, 4, .rw, .live, 0x0⟩
/-- TB_SLEW (02 R72). -/
def F.TB_SLEW_SLEW_PPM : Fld := ⟨0x20064, 0, 11, .rw, .live, 0x064⟩
/-- TB_SERVO (02 R72). -/
def F.TB_SERVO_GRANT : Fld := ⟨0x20080, 31, 1, .ro, .hard, 0⟩
def F.TB_SERVO_REQ : Fld := ⟨0x20080, 30, 1, .rw, .live, 0⟩
def F.TB_SERVO_OWNER : Fld := ⟨0x20080, 0, 1, .ro, .hard, 0⟩
/-- TB_SHADOW (02 R72). -/
def F.TB_SHADOW_MISMATCH : Fld := ⟨0x20098, 16, 16, .rc, .hard, 0⟩
def F.TB_SHADOW_UNRES : Fld := ⟨0x20098, 1, 1, .w1c, .live, 0⟩
def F.TB_SHADOW_ALT : Fld := ⟨0x20098, 0, 1, .ro, .hard, 0⟩
/-- TB_SNAP_CTRL (02 R72). -/
def F.TB_SNAP_CTRL_SNAP : Fld := ⟨0x200A0, 0, 1, .wo, .live, 0⟩
/-- TB_PTP_CFG (02 R72). -/
def F.TB_PTP_CFG_DOMAIN : Fld := ⟨0x200B0, 24, 8, .rw, .frozen, 0x00⟩
def F.TB_PTP_CFG_ROLE_OC : Fld := ⟨0x200B0, 20, 1, .rw, .frozen, 0⟩
def F.TB_PTP_CFG_OC_PORT : Fld := ⟨0x200B0, 19, 1, .rw, .frozen, 0⟩
def F.TB_PTP_CFG_TC_MODE : Fld := ⟨0x200B0, 16, 3, .rw, .frozen, 0⟩
def F.TB_PTP_CFG_OC_DELAY : Fld := ⟨0x200B0, 9, 1, .rw, .frozen, 0⟩
def F.TB_PTP_CFG_PROFILE : Fld := ⟨0x200B0, 8, 1, .rw, .frozen, 0⟩
/-- TB_TC_CNT (02 R72). -/
def F.TB_TC_CNT_FU_MISS : Fld := ⟨0x200B8, 16, 16, .rc, .hard, 0⟩
def F.TB_TC_CNT_FU_ORPHAN : Fld := ⟨0x200B8, 0, 16, .rc, .hard, 0⟩
/-- TB_EXT_DLY_A (02 R72). -/
def F.TB_EXT_DLY_A_EGRESS : Fld := ⟨0x200C0, 16, 16, .rw, .frozen, 0⟩
def F.TB_EXT_DLY_A_INGRESS : Fld := ⟨0x200C0, 0, 16, .rw, .frozen, 0⟩
/-- TB_EXT_DLY_B (02 R72). -/
def F.TB_EXT_DLY_B_EGRESS : Fld := ⟨0x200C4, 16, 16, .rw, .frozen, 0⟩
def F.TB_EXT_DLY_B_INGRESS : Fld := ⟨0x200C4, 0, 16, .rw, .frozen, 0⟩
/-- TB_PPSO_CFG (02 R72). -/
def F.TB_PPSO_CFG_EN : Fld := ⟨0x20100, 31, 1, .rw, .live, 0⟩
def F.TB_PPSO_CFG_UNLOCKED_EN : Fld := ⟨0x20100, 30, 1, .rw, .live, 0⟩
def F.TB_PPSO_CFG_POL : Fld := ⟨0x20100, 29, 1, .rw, .live, 0⟩
/-- TB_PPSI_CFG (02 R72). -/
def F.TB_PPSI_CFG_EN : Fld := ⟨0x20110, 31, 1, .rw, .live, 0⟩
def F.TB_PPSI_CFG_EDGE : Fld := ⟨0x20110, 30, 1, .rw, .live, 0⟩
def F.TB_PPSI_CFG_WIN_US : Fld := ⟨0x20110, 0, 16, .rw, .live, 0x0064⟩
/-- TB_PPSI_CNT (02 R72). -/
def F.TB_PPSI_CNT_MISS : Fld := ⟨0x20120, 16, 16, .rc, .hard, 0⟩
def F.TB_PPSI_CNT_BAD : Fld := ⟨0x20120, 0, 16, .rc, .hard, 0⟩
/-- TB_TIN0_CFG (02 R72). -/
def F.TB_TIN0_CFG_EN : Fld := ⟨0x20140, 31, 1, .rw, .live, 0⟩
def F.TB_TIN0_CFG_EDGE : Fld := ⟨0x20140, 29, 2, .rw, .live, 0⟩
/-- TB_TIN1_CFG (02 R72). -/
def F.TB_TIN1_CFG_EN : Fld := ⟨0x20160, 31, 1, .rw, .live, 0⟩
def F.TB_TIN1_CFG_EDGE : Fld := ⟨0x20160, 29, 2, .rw, .live, 0⟩
/-- TB_TIN0_STAT (02 R72). -/
def F.TB_TIN0_STAT_OVF : Fld := ⟨0x20144, 0, 16, .rc, .hard, 0⟩
/-- TB_TIN1_STAT (02 R72). -/
def F.TB_TIN1_STAT_OVF : Fld := ⟨0x20164, 0, 16, .rc, .hard, 0⟩
/-- TB_TOUTn_CFG (02 R72). -/
def F.TB_TOUTn_CFG_PAIR_EXCL (n : Nat) : Fld := ⟨0x20180 + 0x4 * n, 2, 1, .rw, .live, 0⟩
def F.TB_TOUTn_CFG_IDLE (n : Nat) : Fld := ⟨0x20180 + 0x4 * n, 1, 1, .rw, .live, 0⟩
def F.TB_TOUTn_CFG_OE (n : Nat) : Fld := ⟨0x20180 + 0x4 * n, 0, 1, .rw, .live, 0⟩
/-- TB_FLW_STAT (02 R72). -/
def F.TB_FLW_STAT_LOCK : Fld := ⟨0x20200, 31, 1, .ro, .hard, 0⟩
def F.TB_FLW_STAT_ERR : Fld := ⟨0x20200, 0, 16, .ro, .hard, 0⟩
/-- TB_FLW_CFG (02 R72). -/
def F.TB_FLW_CFG_UNLOCK_NS : Fld := ⟨0x20204, 8, 8, .rw, .live, 0x10⟩
def F.TB_FLW_CFG_LOCK_NS : Fld := ⟨0x20204, 0, 8, .rw, .live, 0x04⟩
/-- TB_FPTP_CFG (02 R72). -/
def F.TB_FPTP_CFG_DOMAIN : Fld := ⟨0x20210, 24, 8, .rw, .frozen, 0x00⟩
def F.TB_FPTP_CFG_PORT_EN : Fld := ⟨0x20210, 16, 8, .rw, .frozen, 0x00⟩
def F.TB_FPTP_CFG_LOG_SYNC : Fld := ⟨0x20210, 8, 4, .rw, .frozen, 0xD⟩
def F.TB_FPTP_CFG_DELAY_MECH : Fld := ⟨0x20210, 1, 1, .rw, .frozen, 0⟩
/-- KN_CTRL (03 R103). -/
def F.KN_CTRL_SG_EN : Fld := ⟨0x60000, 1, 1, .rw, .live, 0⟩
def F.KN_CTRL_TA_EN : Fld := ⟨0x60000, 0, 1, .rw, .live, 0⟩
/-- KN_STATUS (03 R103). -/
def F.KN_STATUS_WIN_REJ : Fld := ⟨0x60004, 13, 1, .w1c, .live, 0⟩
def F.KN_STATUS_TA_FREE : Fld := ⟨0x60004, 0, 13, .ro, .hard, 0x1000⟩
/-- KN_MSEL (03 R104). -/
def F.KN_MSEL : Fld := ⟨0x60010, 0, 3, .rw, .live, 0⟩
/-- KN_MADDR (03 R104). -/
def F.KN_MADDR : Fld := ⟨0x60014, 0, 16, .rw, .live, 0⟩
/-- KN_MDATA_LO (03 R104). -/
def F.KN_MDATA_LO : Fld := ⟨0x60018, 0, 32, .rw, .live, 0⟩
/-- KN_MDATA_HI (03 R104). -/
def F.KN_MDATA_HI : Fld := ⟨0x6001C, 0, 32, .rw, .live, 0⟩
/-- KN_TA_DT_LO (03 R104). -/
def F.KN_TA_DT_LO (b : Nat) : Fld := ⟨0x60040 + 0x1000000 * b, 0, 32, .rw, .live, 0⟩
/-- KN_TA_DT_HI (03 R104). -/
def F.KN_TA_DT_HI (b : Nat) : Fld := ⟨0x60044 + 0x1000000 * b, 0, 32, .rw, .live, 0⟩
/-- KN_TA_ADDR (03 R104). -/
def F.KN_TA_ADDR (b : Nat) : Fld := ⟨0x60048 + 0x1000000 * b, 0, 32, .rw, .live, 0⟩
/-- KN_TA_VALUE (03 R104). -/
def F.KN_TA_VALUE (b : Nat) : Fld := ⟨0x6004C + 0x1000000 * b, 0, 32, .rw, .live, 0⟩
/-- KN_TA_MASK (03 R104). -/
def F.KN_TA_MASK (b : Nat) : Fld := ⟨0x60050 + 0x1000000 * b, 0, 32, .rw, .live, 0⟩
/-- KN_TA_PERIOD (03 R104). -/
def F.KN_TA_PERIOD (b : Nat) : Fld := ⟨0x60054 + 0x1000000 * b, 0, 32, .rw, .live, 0⟩
/-- KN_TA_TAG (03 R104). -/
def F.KN_TA_TAG (b : Nat) : Fld := ⟨0x6005C + 0x1000000 * b, 0, 16, .rw, .live, 0⟩
/-- KN_TA_CNT (03 R104). -/
def F.KN_TA_CNT : Fld := ⟨0x60070, 0, 32, .rc, .hard, 0⟩
/-- KN_TA_LATE (03 R104). -/
def F.KN_TA_LATE : Fld := ⟨0x60074, 0, 32, .rc, .hard, 0⟩
/-- KN_TA_DISC (03 R104). -/
def F.KN_TA_DISC : Fld := ⟨0x60078, 0, 32, .rc, .hard, 0⟩
/-- KN_TA_REF (03 R104). -/
def F.KN_TA_REF : Fld := ⟨0x6007C, 0, 32, .rc, .hard, 0⟩
/-- KN_TA_SKIP (03 R104). -/
def F.KN_TA_SKIP : Fld := ⟨0x60080, 0, 32, .rc, .hard, 0⟩
/-- KN_TA_CTRL (03 R104). -/
def F.KN_TA_CTRL_REPEAT (b : Nat) : Fld := ⟨0x60058 + 0x1000000 * b, 16, 16, .rw, .live, 0⟩
def F.KN_TA_CTRL_TOUT_PAD (b : Nat) : Fld := ⟨0x60058 + 0x1000000 * b, 10, 2, .rw, .live, 0⟩
def F.KN_TA_CTRL_TOUT_LEVEL (b : Nat) : Fld := ⟨0x60058 + 0x1000000 * b, 9, 1, .rw, .live, 0⟩
def F.KN_TA_CTRL_LATE_DISCARD (b : Nat) : Fld := ⟨0x60058 + 0x1000000 * b, 8, 1, .rw, .live, 0⟩
def F.KN_TA_CTRL_KIND (b : Nat) : Fld := ⟨0x60058 + 0x1000000 * b, 0, 2, .rw, .live, 0⟩
/-- KN_TA_CMD (03 R104). -/
def F.KN_TA_CMD_SUBMIT (b : Nat) : Fld := ⟨0x60060 + 0x1000000 * b, 31, 1, .wo, .live, 0⟩
def F.KN_TA_CMD_CANCEL (b : Nat) : Fld := ⟨0x60060 + 0x1000000 * b, 30, 1, .wo, .live, 0⟩
def F.KN_TA_CMD_INDEX (b : Nat) : Fld := ⟨0x60060 + 0x1000000 * b, 0, 12, .wo, .live, 0⟩
/-- KN_TA_RESULT (03 R104). -/
def F.KN_TA_RESULT_FULL (b : Nat) : Fld := ⟨0x60064 + 0x1000000 * b, 31, 1, .ro, .hard, 0⟩
def F.KN_TA_RESULT_BAD (b : Nat) : Fld := ⟨0x60064 + 0x1000000 * b, 30, 1, .ro, .hard, 0⟩
def F.KN_TA_RESULT_NOTFOUND (b : Nat) : Fld := ⟨0x60064 + 0x1000000 * b, 29, 1, .ro, .hard, 0⟩
def F.KN_TA_RESULT_INDEX (b : Nat) : Fld := ⟨0x60064 + 0x1000000 * b, 0, 12, .ro, .hard, 0⟩
/-- KN_SG_LATE (03 R104). -/
def F.KN_SG_LATE : Fld := ⟨0x60108, 0, 32, .rc, .hard, 0⟩
/-- KN_SG_REJ (03 R104). -/
def F.KN_SG_REJ : Fld := ⟨0x6010C, 0, 32, .rc, .hard, 0⟩
/-- KN_SG_CMD (03 R104). -/
def F.KN_SG_CMD_OP : Fld := ⟨0x60100, 29, 3, .wo, .live, 0⟩
def F.KN_SG_CMD_GATE : Fld := ⟨0x60100, 0, 10, .wo, .live, 0⟩
/-- KN_SG_STAT (03 R104). -/
def F.KN_SG_STAT_ERR_SEEN : Fld := ⟨0x60104, 31, 1, .w1c, .live, 0⟩
def F.KN_SG_STAT_GATE : Fld := ⟨0x60104, 4, 10, .ro, .hard, 0⟩
def F.KN_SG_STAT_ERR : Fld := ⟨0x60104, 0, 4, .ro, .hard, 0⟩
/-- KN_Pn_ADMIN_BASE_LO (03 R104). -/
def F.KN_Pn_ADMIN_BASE_LO (p : Nat) : Fld := ⟨0x60408 + 0x80 * p, 0, 32, .rw, .live, 0⟩
/-- KN_Pn_ADMIN_BASE_HI (03 R104). -/
def F.KN_Pn_ADMIN_BASE_HI (p : Nat) : Fld := ⟨0x6040C + 0x80 * p, 0, 32, .rw, .live, 0⟩
/-- KN_Pn_ADMIN_CYCLE (03 R104). -/
def F.KN_Pn_ADMIN_CYCLE (p : Nat) : Fld := ⟨0x60410 + 0x80 * p, 0, 32, .rw, .live, 1000000⟩
/-- KN_Pn_ADMIN_EXT (03 R104). -/
def F.KN_Pn_ADMIN_EXT (p : Nat) : Fld := ⟨0x60414 + 0x80 * p, 0, 32, .rw, .live, 0⟩
/-- KN_Pn_ADMIN_LEN (03 R104). -/
def F.KN_Pn_ADMIN_LEN (p : Nat) : Fld := ⟨0x60418 + 0x80 * p, 0, 13, .rw, .live, 0⟩
/-- KN_Pn_ADMIN_STATES (03 R104). -/
def F.KN_Pn_ADMIN_STATES (p : Nat) : Fld := ⟨0x6041C + 0x80 * p, 0, 8, .rw, .live, 255⟩
/-- KN_Pn_OPER_BASE_LO (03 R104). -/
def F.KN_Pn_OPER_BASE_LO (p : Nat) : Fld := ⟨0x60420 + 0x80 * p, 0, 32, .ro, .hard, 0⟩
/-- KN_Pn_OPER_BASE_HI (03 R104). -/
def F.KN_Pn_OPER_BASE_HI (p : Nat) : Fld := ⟨0x60424 + 0x80 * p, 0, 32, .ro, .hard, 0⟩
/-- KN_Pn_OPER_CYCLE (03 R104). -/
def F.KN_Pn_OPER_CYCLE (p : Nat) : Fld := ⟨0x60428 + 0x80 * p, 0, 32, .ro, .hard, 0⟩
/-- KN_Pn_OPER_EXT (03 R104). -/
def F.KN_Pn_OPER_EXT (p : Nat) : Fld := ⟨0x6042C + 0x80 * p, 0, 32, .ro, .hard, 0⟩
/-- KN_Pn_OPER_LEN (03 R104). -/
def F.KN_Pn_OPER_LEN (p : Nat) : Fld := ⟨0x60430 + 0x80 * p, 0, 13, .ro, .hard, 0⟩
/-- KN_Pn_CHG_TIME_LO (03 R104). -/
def F.KN_Pn_CHG_TIME_LO (p : Nat) : Fld := ⟨0x60434 + 0x80 * p, 0, 32, .ro, .hard, 0⟩
/-- KN_Pn_CHG_TIME_HI (03 R104). -/
def F.KN_Pn_CHG_TIME_HI (p : Nat) : Fld := ⟨0x60438 + 0x80 * p, 0, 32, .ro, .hard, 0⟩
/-- KN_Pn_CYCLE_CNT (03 R104). -/
def F.KN_Pn_CYCLE_CNT (p : Nat) : Fld := ⟨0x6043C + 0x80 * p, 0, 32, .ro, .hard, 0⟩
/-- KN_Pn_HOLD_ADV (03 R104). -/
def F.KN_Pn_HOLD_ADV (p : Nat) : Fld := ⟨0x60440 + 0x80 * p, 0, 32, .rw, .frozen, if p < 2 then 0x80 else 0x186A0⟩
/-- KN_Pn_REL_ADV (03 R104). -/
def F.KN_Pn_REL_ADV (p : Nat) : Fld := ⟨0x60444 + 0x80 * p, 0, 32, .rw, .frozen, 0⟩
/-- KN_Pn_SCHED_MASK (03 R104). -/
def F.KN_Pn_SCHED_MASK (p : Nat) : Fld := ⟨0x60448 + 0x80 * p, 0, 8, .rw, .frozen, 0⟩
/-- KN_Pn_EVT_CNT (03 R104). -/
def F.KN_Pn_EVT_CNT (p : Nat) : Fld := ⟨0x60450 + 0x80 * p, 0, 32, .rc, .hard, 0⟩
/-- KN_Pn_CHG_CNT (03 R104). -/
def F.KN_Pn_CHG_CNT (p : Nat) : Fld := ⟨0x60454 + 0x80 * p, 0, 32, .rc, .hard, 0⟩
/-- KN_Pn_SHORT_CNT (03 R104). -/
def F.KN_Pn_SHORT_CNT (p : Nat) : Fld := ⟨0x60458 + 0x80 * p, 0, 32, .rc, .hard, 0⟩
/-- KN_Pn_ADMIN_REJ (03 R104). -/
def F.KN_Pn_ADMIN_REJ (p : Nat) : Fld := ⟨0x6045C + 0x80 * p, 0, 32, .rc, .hard, 0⟩
/-- KN_Pn_CTRL (03 R104). -/
def F.KN_Pn_CTRL_CFG_CHANGE (p : Nat) : Fld := ⟨0x60400 + 0x80 * p, 31, 1, .w1s, .live, 0⟩
def F.KN_Pn_CTRL_CFG_ABORT (p : Nat) : Fld := ⟨0x60400 + 0x80 * p, 30, 1, .wo, .live, 0⟩
def F.KN_Pn_CTRL_HR_EN (p : Nat) : Fld := ⟨0x60400 + 0x80 * p, 1, 1, .rw, .frozen, 0⟩
def F.KN_Pn_CTRL_GATE_EN (p : Nat) : Fld := ⟨0x60400 + 0x80 * p, 0, 1, .rw, .live, 0⟩
/-- KN_Pn_STATUS (03 R104). -/
def F.KN_Pn_STATUS_CFG_PENDING (p : Nat) : Fld := ⟨0x60404 + 0x80 * p, 31, 1, .ro, .hard, 0⟩
def F.KN_Pn_STATUS_ADMIN_BUSY (p : Nat) : Fld := ⟨0x60404 + 0x80 * p, 30, 1, .ro, .hard, 0⟩
def F.KN_Pn_STATUS_HOLD (p : Nat) : Fld := ⟨0x60404 + 0x80 * p, 29, 1, .ro, .hard, 0⟩
def F.KN_Pn_STATUS_CFG_ERR_SEEN (p : Nat) : Fld := ⟨0x60404 + 0x80 * p, 28, 1, .w1c, .live, 0⟩
def F.KN_Pn_STATUS_CFG_ERR (p : Nat) : Fld := ⟨0x60404 + 0x80 * p, 24, 4, .ro, .hard, 0⟩
def F.KN_Pn_STATUS_CUR_ENTRY (p : Nat) : Fld := ⟨0x60404 + 0x80 * p, 8, 13, .ro, .hard, 0⟩
def F.KN_Pn_STATUS_CUR_STATES (p : Nat) : Fld := ⟨0x60404 + 0x80 * p, 0, 8, .ro, .hard, 0xFF⟩
/-- LN_CTRL (04 R130). -/
def F.LN_CTRL_SPARE_EN : Fld := ⟨0x70000, 1, 1, .rw, .live, 1⟩
def F.LN_CTRL_EN : Fld := ⟨0x70000, 0, 1, .rw, .live, 0⟩
/-- LN_STATUS (04 R130). -/
def F.LN_STATUS_WT_USED : Fld := ⟨0x70004, 16, 15, .ro, .hard, 0⟩
def F.LN_STATUS_SPARE_USED : Fld := ⟨0x70004, 4, 1, .ro, .hard, 0⟩
def F.LN_STATUS_RETIRED : Fld := ⟨0x70004, 0, 3, .ro, .hard, 7⟩
/-- LN_WT_RSV (04 R130). -/
def F.LN_WT_RSV_RSV : Fld := ⟨0x70008, 0, 14, .rw, .live, 0x0400⟩
/-- LN_ENG_MAP (04 R130). -/
def F.LN_ENG_MAP_ENG_P9 : Fld := ⟨0x70010, 27, 3, .ro, .hard, 3⟩
def F.LN_ENG_MAP_ENG_P8 : Fld := ⟨0x70010, 24, 3, .ro, .hard, 3⟩
def F.LN_ENG_MAP_ENG_P7 : Fld := ⟨0x70010, 21, 3, .ro, .hard, 3⟩
def F.LN_ENG_MAP_ENG_P6 : Fld := ⟨0x70010, 18, 3, .ro, .hard, 3⟩
def F.LN_ENG_MAP_ENG_P5 : Fld := ⟨0x70010, 15, 3, .ro, .hard, 2⟩
def F.LN_ENG_MAP_ENG_P4 : Fld := ⟨0x70010, 12, 3, .ro, .hard, 2⟩
def F.LN_ENG_MAP_ENG_P3 : Fld := ⟨0x70010, 9, 3, .ro, .hard, 2⟩
def F.LN_ENG_MAP_ENG_P2 : Fld := ⟨0x70010, 6, 3, .ro, .hard, 2⟩
def F.LN_ENG_MAP_ENG_P1 : Fld := ⟨0x70010, 3, 3, .ro, .hard, 1⟩
def F.LN_ENG_MAP_ENG_P0 : Fld := ⟨0x70010, 0, 3, .ro, .hard, 0⟩
/-- LN_WT_HWM (04 R130). -/
def F.LN_WT_HWM : Fld := ⟨0x7000C, 0, 32, .rc, .hard, 0⟩
/-- LN_WT_FULL (04 R130). -/
def F.LN_WT_FULL : Fld := ⟨0x70020, 0, 32, .rc, .hard, 0⟩
/-- LN_TPL_MISS (04 R130). -/
def F.LN_TPL_MISS : Fld := ⟨0x70024, 0, 32, .rc, .hard, 0⟩
/-- LN_NOCELL (04 R130). -/
def F.LN_NOCELL : Fld := ⟨0x70028, 0, 32, .rc, .hard, 0⟩
/-- LN_FAR (04 R130). -/
def F.LN_FAR : Fld := ⟨0x7002C, 0, 32, .rc, .hard, 0⟩
/-- LN_LSO_JOBS (04 R130). -/
def F.LN_LSO_JOBS : Fld := ⟨0x70030, 0, 32, .rc, .hard, 0⟩
/-- LN_LSO_SEGS (04 R130). -/
def F.LN_LSO_SEGS : Fld := ⟨0x70034, 0, 32, .rc, .hard, 0⟩
/-- LN_LSO_ERR (04 R130). -/
def F.LN_LSO_ERR : Fld := ⟨0x70038, 0, 32, .rc, .hard, 0⟩
/-- LN_SUB_CNT (04 R130). -/
def F.LN_SUB_CNT : Fld := ⟨0x7003C, 0, 32, .rc, .hard, 0⟩
/-- LN_OWN_MISS (04 R130). -/
def F.LN_OWN_MISS : Fld := ⟨0x70040, 0, 32, .rc, .hard, 0⟩
/-- LN_Pn_CTRL (04 R130). -/
def F.LN_Pn_CTRL_VERIFY_RESTART (p : Nat) : Fld := ⟨0x70400 + 0x80 * p, 31, 1, .wo, .live, 0⟩
def F.LN_Pn_CTRL_ADD_FRAG (p : Nat) : Fld := ⟨0x70400 + 0x80 * p, 10, 2, .rw, .frozen, 0⟩
def F.LN_Pn_CTRL_VERIFY_DIS (p : Nat) : Fld := ⟨0x70400 + 0x80 * p, 9, 1, .rw, .frozen, 0⟩
def F.LN_Pn_CTRL_PREEMPT_EN (p : Nat) : Fld := ⟨0x70400 + 0x80 * p, 8, 1, .rw, .frozen, 0⟩
def F.LN_Pn_CTRL_CT_EN (p : Nat) : Fld := ⟨0x70400 + 0x80 * p, 3, 1, .rw, .live, if p < 2 then 1 else 0⟩
def F.LN_Pn_CTRL_GUARD_EN (p : Nat) : Fld := ⟨0x70400 + 0x80 * p, 2, 1, .rw, .live, 1⟩
def F.LN_Pn_CTRL_TX_EN (p : Nat) : Fld := ⟨0x70400 + 0x80 * p, 0, 1, .rw, .live, 0⟩
/-- LN_Pn_PREEMPT_MASK (04 R130). -/
def F.LN_Pn_PREEMPT_MASK_MASK (p : Nat) : Fld := ⟨0x70404 + 0x80 * p, 0, 8, .rw, .frozen, 0x00⟩
/-- LN_Pn_VERIFY (04 R130). -/
def F.LN_Pn_VERIFY_VERIFY_TIME (p : Nat) : Fld := ⟨0x70408 + 0x80 * p, 0, 8, .rw, .frozen, 0x0A⟩
/-- LN_Pn_MM_STATUS (04 R130). -/
def F.LN_Pn_MM_STATUS_PREEMPT_ACTIVE (p : Nat) : Fld := ⟨0x7040C + 0x80 * p, 7, 1, .ro, .hard, 0⟩
def F.LN_Pn_MM_STATUS_HOLD_ACTIVE (p : Nat) : Fld := ⟨0x7040C + 0x80 * p, 6, 1, .ro, .hard, 0⟩
def F.LN_Pn_MM_STATUS_VERIFY_STATE (p : Nat) : Fld := ⟨0x7040C + 0x80 * p, 0, 3, .ro, .hard, 0⟩
/-- LN_Pn_ONTIME (04 R130). -/
def F.LN_Pn_ONTIME (p : Nat) : Fld := ⟨0x70410 + 0x80 * p, 0, 32, .rc, .hard, 0⟩
/-- LN_Pn_LATE (04 R130). -/
def F.LN_Pn_LATE (p : Nat) : Fld := ⟨0x70414 + 0x80 * p, 0, 32, .rc, .hard, 0⟩
/-- LN_Pn_LATE_DISC (04 R130). -/
def F.LN_Pn_LATE_DISC (p : Nat) : Fld := ⟨0x70418 + 0x80 * p, 0, 32, .rc, .hard, 0⟩
/-- LN_Pn_LAT_MAX (04 R130). -/
def F.LN_Pn_LAT_MAX (p : Nat) : Fld := ⟨0x7041C + 0x80 * p, 0, 32, .rc, .hard, 0⟩
/-- LN_Pn_GUARD (04 R130). -/
def F.LN_Pn_GUARD (p : Nat) : Fld := ⟨0x70420 + 0x80 * p, 0, 32, .rc, .hard, 0⟩
/-- LN_Pn_NOFIT (04 R130). -/
def F.LN_Pn_NOFIT (p : Nat) : Fld := ⟨0x70424 + 0x80 * p, 0, 32, .rc, .hard, 0⟩
/-- LN_Pn_PREEMPT (04 R130). -/
def F.LN_Pn_PREEMPT (p : Nat) : Fld := ⟨0x70428 + 0x80 * p, 0, 32, .rc, .hard, 0⟩
/-- LN_Pn_FRAG_TX (04 R130). -/
def F.LN_Pn_FRAG_TX (p : Nat) : Fld := ⟨0x7042C + 0x80 * p, 0, 32, .rc, .hard, 0⟩
/-- LN_Pn_HOLD_CNT (04 R130). -/
def F.LN_Pn_HOLD_CNT (p : Nat) : Fld := ⟨0x70430 + 0x80 * p, 0, 32, .rc, .hard, 0⟩
/-- LN_Pn_VERIFY_FAIL (04 R130). -/
def F.LN_Pn_VERIFY_FAIL (p : Nat) : Fld := ⟨0x70434 + 0x80 * p, 0, 32, .rc, .hard, 0⟩
/-- LN_Pn_RX_FRAG (04 R130). -/
def F.LN_Pn_RX_FRAG (p : Nat) : Fld := ⟨0x70438 + 0x80 * p, 0, 32, .rc, .hard, 0⟩
/-- LN_Pn_RX_ASM_ERR (04 R130). -/
def F.LN_Pn_RX_ASM_ERR (p : Nat) : Fld := ⟨0x7043C + 0x80 * p, 0, 32, .rc, .hard, 0⟩
/-- LN_Pn_RX_SMD_ERR (04 R130). -/
def F.LN_Pn_RX_SMD_ERR (p : Nat) : Fld := ⟨0x70440 + 0x80 * p, 0, 32, .rc, .hard, 0⟩
/-- LN_Pn_TX_OVERSIZE (04 R130). -/
def F.LN_Pn_TX_OVERSIZE (p : Nat) : Fld := ⟨0x70444 + 0x80 * p, 0, 32, .rc, .hard, 0⟩
/-- LN_Pn_PAD (04 R130). -/
def F.LN_Pn_PAD (p : Nat) : Fld := ⟨0x70448 + 0x80 * p, 0, 32, .rc, .hard, 0⟩
/-- LN_Pn_FWD_CT (04 R130). -/
def F.LN_Pn_FWD_CT (p : Nat) : Fld := ⟨0x7044C + 0x80 * p, 0, 32, .rc, .hard, 0⟩
/-- LN_Pn_FWD_SF (04 R130). -/
def F.LN_Pn_FWD_SF (p : Nat) : Fld := ⟨0x70450 + 0x80 * p, 0, 32, .rc, .hard, 0⟩
/-- LN_Pn_STOMP (04 R130). -/
def F.LN_Pn_STOMP (p : Nat) : Fld := ⟨0x70454 + 0x80 * p, 0, 32, .rc, .hard, 0⟩
/-- LN_Pn_ABORT (04 R130). -/
def F.LN_Pn_ABORT (p : Nat) : Fld := ⟨0x70458 + 0x80 * p, 0, 32, .rc, .hard, 0⟩
/-- LN_Pn_FWD_DROP (04 R130). -/
def F.LN_Pn_FWD_DROP (p : Nat) : Fld := ⟨0x7045C + 0x80 * p, 0, 32, .rc, .hard, 0⟩
/-- GY_CTRL (05 R167). -/
def F.GY_CTRL_SWEEP_EN : Fld := ⟨0xD0000, 4, 1, .rw, .live, 0⟩
def F.GY_CTRL_NOTIFY_EN : Fld := ⟨0xD0000, 3, 1, .rw, .live, 0⟩
def F.GY_CTRL_WIN_EN : Fld := ⟨0xD0000, 2, 1, .rw, .live, 0⟩
def F.GY_CTRL_EXT_EN : Fld := ⟨0xD0000, 1, 1, .rw, .live, 0⟩
def F.GY_CTRL_EN : Fld := ⟨0xD0000, 0, 1, .rw, .live, 0⟩
/-- GY_STATUS (05 R167). -/
def F.GY_STATUS_WIPING : Fld := ⟨0xD0004, 31, 1, .ro, .hard, 0⟩
def F.GY_STATUS_OVERLOAD : Fld := ⟨0xD0004, 30, 1, .ro, .hard, 0⟩
def F.GY_STATUS_WIN_REJ : Fld := ⟨0xD0004, 29, 1, .w1c, .live, 0⟩
def F.GY_STATUS_HOT_USED : Fld := ⟨0xD0004, 0, 18, .ro, .hard, 0⟩
/-- GY_PINNED (05 R167). -/
def F.GY_PINNED_PINNED : Fld := ⟨0xD0008, 0, 18, .ro, .hard, 0⟩
/-- GY_SWEEP (05 R167). -/
def F.GY_SWEEP_SWEEP_US : Fld := ⟨0xD000C, 0, 16, .rw, .live, 0x03E8⟩
/-- GY_WIN_CFG (05 R167). -/
def F.GY_WIN_CFG_QUAL : Fld := ⟨0xD0010, 0, 8, .rw, .live, 0x00⟩
/-- GY_DEFINED (05 R167). -/
def F.GY_DEFINED_DEFINED : Fld := ⟨0xD0014, 0, 24, .ro, .hard, 0⟩
/-- GY_SUB_FREE (05 R167). -/
def F.GY_SUB_FREE_FREE : Fld := ⟨0xD0018, 0, 19, .ro, .hard, 0x40000⟩
/-- GY_PCFG_ID (05 R167). -/
def F.GY_PCFG_ID_POINT (b : Nat) : Fld := ⟨0xD0020 + 0x1000000 * b, 0, 23, .rw, .live, 0⟩
/-- GY_PCFG_VAL (05 R167). -/
def F.GY_PCFG_VAL_MAXAGE (b : Nat) : Fld := ⟨0xD0024 + 0x1000000 * b, 16, 16, .rw, .live, 0⟩
def F.GY_PCFG_VAL_PIN (b : Nat) : Fld := ⟨0xD0024 + 0x1000000 * b, 5, 2, .rw, .live, 0⟩
def F.GY_PCFG_VAL_FORCE (b : Nat) : Fld := ⟨0xD0024 + 0x1000000 * b, 4, 1, .rw, .live, 0⟩
def F.GY_PCFG_VAL_MIRROR (b : Nat) : Fld := ⟨0xD0024 + 0x1000000 * b, 3, 1, .rw, .live, 0⟩
/-- GY_PCFG_CMD (05 R167). -/
def F.GY_PCFG_CMD_OP (b : Nat) : Fld := ⟨0xD0028 + 0x1000000 * b, 30, 2, .wo, .live, 0⟩
/-- GY_PCFG_RESULT (05 R167). -/
def F.GY_PCFG_RESULT_DONE (b : Nat) : Fld := ⟨0xD002C + 0x1000000 * b, 31, 1, .ro, .hard, 0⟩
def F.GY_PCFG_RESULT_CODE (b : Nat) : Fld := ⟨0xD002C + 0x1000000 * b, 0, 4, .ro, .hard, 0⟩
/-- GY_MAP_CMD (05 R167). -/
def F.GY_MAP_CMD_SWAP : Fld := ⟨0xD0040, 31, 1, .wo, .live, 0⟩
def F.GY_MAP_CMD_MAP_B : Fld := ⟨0xD0040, 14, 14, .wo, .live, 0⟩
def F.GY_MAP_CMD_MAP_A : Fld := ⟨0xD0040, 0, 14, .wo, .live, 0⟩
/-- GY_MAP_STAT (05 R167). -/
def F.GY_MAP_STAT_BUSY : Fld := ⟨0xD0044, 31, 1, .ro, .hard, 0⟩
def F.GY_MAP_STAT_ERR : Fld := ⟨0xD0044, 30, 1, .w1c, .live, 0⟩
/-- GY_MSEL (05 R168). -/
def F.GY_MSEL : Fld := ⟨0xD0050, 0, 2, .rw, .live, 0⟩
/-- GY_MADDR (05 R168). -/
def F.GY_MADDR : Fld := ⟨0xD0054, 0, 25, .rw, .live, 0⟩
/-- GY_MDATA_LO (05 R168). -/
def F.GY_MDATA_LO : Fld := ⟨0xD0058, 0, 32, .rw, .live, 0⟩
/-- GY_MDATA_HI (05 R168). -/
def F.GY_MDATA_HI : Fld := ⟨0xD005C, 0, 32, .rw, .live, 0⟩
/-- GY_WR_CNT (05 R168). -/
def F.GY_WR_CNT : Fld := ⟨0xD0080, 0, 32, .rc, .hard, 0⟩
/-- GY_RD_CNT (05 R168). -/
def F.GY_RD_CNT : Fld := ⟨0xD0084, 0, 32, .rc, .hard, 0⟩
/-- GY_EXT_DROP (05 R168). -/
def F.GY_EXT_DROP : Fld := ⟨0xD0088, 0, 32, .rc, .hard, 0⟩
/-- GY_COALESCE (05 R168). -/
def F.GY_COALESCE : Fld := ⟨0xD008C, 0, 32, .rc, .hard, 0⟩
/-- GY_NOPT (05 R168). -/
def F.GY_NOPT : Fld := ⟨0xD0090, 0, 32, .rc, .hard, 0⟩
/-- GY_FORCED (05 R168). -/
def F.GY_FORCED : Fld := ⟨0xD0094, 0, 32, .rc, .hard, 0⟩
/-- GY_OLDER (05 R168). -/
def F.GY_OLDER : Fld := ⟨0xD0098, 0, 32, .rc, .hard, 0⟩
/-- GY_MAP_SHORT (05 R168). -/
def F.GY_MAP_SHORT : Fld := ⟨0xD009C, 0, 32, .rc, .hard, 0⟩
/-- GY_MAP_LOOP (05 R168). -/
def F.GY_MAP_LOOP : Fld := ⟨0xD00A0, 0, 32, .rc, .hard, 0⟩
/-- GY_WIN_COLD (05 R168). -/
def F.GY_WIN_COLD : Fld := ⟨0xD00A4, 0, 32, .rc, .hard, 0⟩
/-- GY_WIN_BAD (05 R168). -/
def F.GY_WIN_BAD : Fld := ⟨0xD00A8, 0, 32, .rc, .hard, 0⟩
/-- GY_NOTIFY (05 R168). -/
def F.GY_NOTIFY : Fld := ⟨0xD00AC, 0, 32, .rc, .hard, 0⟩
/-- GY_NOTIFY_GAP (05 R168). -/
def F.GY_NOTIFY_GAP : Fld := ⟨0xD00B0, 0, 32, .rc, .hard, 0⟩
/-- GY_PROMOTE (05 R168). -/
def F.GY_PROMOTE : Fld := ⟨0xD00B4, 0, 32, .rc, .hard, 0⟩
/-- GY_DEMOTE (05 R168). -/
def F.GY_DEMOTE : Fld := ⟨0xD00B8, 0, 32, .rc, .hard, 0⟩
/-- GY_FUTURE (05 R168). -/
def F.GY_FUTURE : Fld := ⟨0xD00BC, 0, 32, .rc, .hard, 0⟩
/-- GY_MAP_MISS (05 R168). -/
def F.GY_MAP_MISS : Fld := ⟨0xD00C0, 0, 32, .rc, .hard, 0⟩
/-- MS_CTRL (06 R192). -/
def F.MS_CTRL_SPARE_EN : Fld := ⟨0xD8000, 3, 1, .rw, .live, 1⟩
def F.MS_CTRL_HZN_EN : Fld := ⟨0xD8000, 2, 1, .rw, .frozen, 0⟩
def F.MS_CTRL_SCHED_EN : Fld := ⟨0xD8000, 1, 1, .rw, .live, 0⟩
def F.MS_CTRL_EN : Fld := ⟨0xD8000, 0, 1, .rw, .live, 0⟩
/-- MS_STATUS (06 R192). -/
def F.MS_STATUS_WIPING : Fld := ⟨0xD8004, 31, 1, .ro, .hard, 0⟩
def F.MS_STATUS_WIN_REJ : Fld := ⟨0xD8004, 30, 1, .w1c, .live, 0⟩
def F.MS_STATUS_SPARE_USED : Fld := ⟨0xD8004, 20, 1, .ro, .hard, 0⟩
def F.MS_STATUS_RETIRED : Fld := ⟨0xD8004, 16, 3, .ro, .hard, 7⟩
def F.MS_STATUS_HZN_LEVEL : Fld := ⟨0xD8004, 0, 13, .ro, .hard, 0⟩
/-- MS_HZN (06 R192). -/
def F.MS_HZN_H_NS : Fld := ⟨0xD8008, 0, 16, .rw, .frozen, 0x0BB8⟩
/-- MS_TPL_CMD (06 R192). -/
def F.MS_TPL_CMD_OP : Fld := ⟨0xD8010, 29, 3, .wo, .live, 0⟩
def F.MS_TPL_CMD_TPL_B : Fld := ⟨0xD8010, 14, 14, .wo, .live, 0⟩
def F.MS_TPL_CMD_TPL_A : Fld := ⟨0xD8010, 0, 14, .wo, .live, 0⟩
/-- MS_TPL_STAT (06 R192). -/
def F.MS_TPL_STAT_BUSY : Fld := ⟨0xD8014, 31, 1, .ro, .hard, 0⟩
def F.MS_TPL_STAT_ERR_SEEN : Fld := ⟨0xD8014, 30, 1, .w1c, .live, 0⟩
def F.MS_TPL_STAT_ERR : Fld := ⟨0xD8014, 14, 4, .ro, .hard, 0⟩
def F.MS_TPL_STAT_TPL : Fld := ⟨0xD8014, 0, 14, .ro, .hard, 0⟩
/-- MS_ENABLED (06 R192). -/
def F.MS_ENABLED_COUNT : Fld := ⟨0xD8018, 0, 15, .ro, .hard, 0⟩
/-- MS_MSEL (06 R193). -/
def F.MS_MSEL : Fld := ⟨0xD8020, 0, 2, .rw, .live, 0⟩
/-- MS_MADDR (06 R193). -/
def F.MS_MADDR : Fld := ⟨0xD8024, 0, 25, .rw, .live, 0⟩
/-- MS_MDATA_LO (06 R193). -/
def F.MS_MDATA_LO : Fld := ⟨0xD8028, 0, 32, .rw, .live, 0⟩
/-- MS_MDATA_HI (06 R193). -/
def F.MS_MDATA_HI : Fld := ⟨0xD802C, 0, 32, .rw, .live, 0⟩
/-- MS_ASM_CNT (06 R193). -/
def F.MS_ASM_CNT : Fld := ⟨0xD8080, 0, 32, .rc, .hard, 0⟩
/-- MS_ASM_LATE (06 R193). -/
def F.MS_ASM_LATE : Fld := ⟨0xD8084, 0, 32, .rc, .hard, 0⟩
/-- MS_SUPPRESS (06 R193). -/
def F.MS_SUPPRESS : Fld := ⟨0xD8088, 0, 32, .rc, .hard, 0⟩
/-- MS_MARKED (06 R193). -/
def F.MS_MARKED : Fld := ⟨0xD808C, 0, 32, .rc, .hard, 0⟩
/-- MS_COLD (06 R193). -/
def F.MS_COLD : Fld := ⟨0xD8090, 0, 32, .rc, .hard, 0⟩
/-- MS_SCHED_SKIP (06 R193). -/
def F.MS_SCHED_SKIP : Fld := ⟨0xD8094, 0, 32, .rc, .hard, 0⟩
/-- MS_MOVE_WAIT (06 R193). -/
def F.MS_MOVE_WAIT : Fld := ⟨0xD8098, 0, 32, .rc, .hard, 0⟩
/-- MS_HZN_LATE (06 R193). -/
def F.MS_HZN_LATE : Fld := ⟨0xD809C, 0, 32, .rc, .hard, 0⟩
/-- MS_HZN_OVF (06 R193). -/
def F.MS_HZN_OVF : Fld := ⟨0xD80A0, 0, 32, .rc, .hard, 0⟩
/-- MS_HZN_LOCAL (06 R193). -/
def F.MS_HZN_LOCAL : Fld := ⟨0xD80A4, 0, 32, .rc, .hard, 0⟩
/-- MS_SUB_CNT (06 R193). -/
def F.MS_SUB_CNT : Fld := ⟨0xD80A8, 0, 32, .rc, .hard, 0⟩
/-- MS_ASM_ABORT (06 R193). -/
def F.MS_ASM_ABORT : Fld := ⟨0xD80AC, 0, 32, .rc, .hard, 0⟩
/-- FN_CTRL (07 R229). -/
def F.FN_CTRL_GEN_EN : Fld := ⟨0x80000, 3, 1, .rw, .live, 0⟩
def F.FN_CTRL_REC_EN : Fld := ⟨0x80000, 2, 1, .rw, .live, 0⟩
def F.FN_CTRL_ID_EN : Fld := ⟨0x80000, 1, 1, .rw, .live, 0⟩
def F.FN_CTRL_EN : Fld := ⟨0x80000, 0, 1, .rw, .live, 0⟩
/-- FN_STATUS (07 R229). -/
def F.FN_STATUS_WIPING : Fld := ⟨0x80004, 31, 1, .ro, .hard, 0⟩
def F.FN_STATUS_WIN_REJ : Fld := ⟨0x80004, 30, 1, .w1c, .live, 0⟩
def F.FN_STATUS_ID_USED : Fld := ⟨0x80004, 0, 16, .ro, .hard, 0⟩
/-- FN_IDPn (07 R229). -/
def F.FN_IDPn_DMAC (n : Nat) : Fld := ⟨0x80010 + 0x4 * n, 8, 1, .rw, .frozen, 1⟩
def F.FN_IDPn_VID (n : Nat) : Fld := ⟨0x80010 + 0x4 * n, 7, 1, .rw, .frozen, 1⟩
def F.FN_IDPn_IPSRC (n : Nat) : Fld := ⟨0x80010 + 0x4 * n, 6, 1, .rw, .frozen, 1⟩
def F.FN_IDPn_IPDST (n : Nat) : Fld := ⟨0x80010 + 0x4 * n, 5, 1, .rw, .frozen, 1⟩
def F.FN_IDPn_DSCP (n : Nat) : Fld := ⟨0x80010 + 0x4 * n, 4, 1, .rw, .frozen, 0⟩
def F.FN_IDPn_PROTO (n : Nat) : Fld := ⟨0x80010 + 0x4 * n, 3, 1, .rw, .frozen, 1⟩
def F.FN_IDPn_SPORT (n : Nat) : Fld := ⟨0x80010 + 0x4 * n, 2, 1, .rw, .frozen, 0⟩
def F.FN_IDPn_DPORT (n : Nat) : Fld := ⟨0x80010 + 0x4 * n, 1, 1, .rw, .frozen, 1⟩
/-- FN_UNID (07 R229). -/
def F.FN_UNID_ACT : Fld := ⟨0x80020, 0, 20, .rw, .live, 0x00005⟩
/-- FN_EVT_SKIP (07 R229). -/
def F.FN_EVT_SKIP_SKIP : Fld := ⟨0x80024, 0, 8, .rw, .live, 0x10⟩
/-- FN_CMD (07 R229). -/
def F.FN_CMD_OP : Fld := ⟨0x80030, 28, 4, .wo, .live, 0x0⟩
def F.FN_CMD_INDEX : Fld := ⟨0x80030, 0, 15, .wo, .live, 0⟩
/-- FN_CMD_RESULT (07 R229). -/
def F.FN_CMD_RESULT_DONE : Fld := ⟨0x80034, 31, 1, .ro, .hard, 0⟩
def F.FN_CMD_RESULT_CODE : Fld := ⟨0x80034, 16, 4, .ro, .hard, 0⟩
def F.FN_CMD_RESULT_INDEX : Fld := ⟨0x80034, 0, 15, .ro, .hard, 0⟩
/-- FN_MSEL (07 R230). -/
def F.FN_MSEL : Fld := ⟨0x80040, 0, 3, .rw, .live, 0⟩
/-- FN_MADDR (07 R230). -/
def F.FN_MADDR : Fld := ⟨0x80044, 0, 18, .rw, .live, 0⟩
/-- FN_MDATA_LO (07 R230). -/
def F.FN_MDATA_LO : Fld := ⟨0x80048, 0, 32, .rw, .live, 0⟩
/-- FN_MDATA_HI (07 R230). -/
def F.FN_MDATA_HI : Fld := ⟨0x8004C, 0, 32, .rw, .live, 0⟩
/-- FN_UNID_CNT (07 R230). -/
def F.FN_UNID_CNT : Fld := ⟨0x80080, 0, 32, .rc, .hard, 0⟩
/-- FN_NOSEQ (07 R230). -/
def F.FN_NOSEQ : Fld := ⟨0x80084, 0, 32, .rc, .hard, 0⟩
/-- FN_STBY_DROP (07 R230). -/
def F.FN_STBY_DROP : Fld := ⟨0x80088, 0, 32, .rc, .hard, 0⟩
/-- FN_PEND_WAIT (07 R230). -/
def F.FN_PEND_WAIT : Fld := ⟨0x8008C, 0, 32, .rc, .hard, 0⟩
/-- FN_ROGUE_CNT (07 R230). -/
def F.FN_ROGUE_CNT : Fld := ⟨0x80090, 0, 32, .rc, .hard, 0⟩
/-- FN_LATENT_CNT (07 R230). -/
def F.FN_LATENT_CNT : Fld := ⟨0x80094, 0, 32, .rc, .hard, 0⟩
/-- FN_ID_FAIL (07 R230). -/
def F.FN_ID_FAIL : Fld := ⟨0x80098, 0, 32, .rc, .hard, 0⟩
/-- PS_CTRL (07 R231). -/
def F.PS_CTRL_METER_EN : Fld := ⟨0x90000, 1, 1, .rw, .live, 0⟩
def F.PS_CTRL_EN : Fld := ⟨0x90000, 0, 1, .rw, .live, 0⟩
/-- PS_STATUS (07 R231). -/
def F.PS_STATUS_WIPING : Fld := ⟨0x90004, 31, 1, .ro, .hard, 0⟩
def F.PS_STATUS_WIN_REJ : Fld := ⟨0x90004, 30, 1, .w1c, .live, 0⟩
def F.PS_STATUS_BLOCKED : Fld := ⟨0x90004, 0, 13, .ro, .hard, 0⟩
/-- PS_CMD (07 R231). -/
def F.PS_CMD_OP : Fld := ⟨0x90008, 28, 4, .wo, .live, 0x0⟩
def F.PS_CMD_INDEX : Fld := ⟨0x90008, 0, 12, .wo, .live, 0⟩
/-- PS_CMD_RESULT (07 R231). -/
def F.PS_CMD_RESULT_DONE : Fld := ⟨0x9000C, 31, 1, .ro, .hard, 0⟩
def F.PS_CMD_RESULT_CODE : Fld := ⟨0x9000C, 0, 4, .ro, .hard, 0⟩
/-- PS_MSEL (07 R232). -/
def F.PS_MSEL : Fld := ⟨0x90010, 0, 2, .rw, .live, 0⟩
/-- PS_MADDR (07 R232). -/
def F.PS_MADDR : Fld := ⟨0x90014, 0, 14, .rw, .live, 0⟩
/-- PS_MDATA_LO (07 R232). -/
def F.PS_MDATA_LO : Fld := ⟨0x90018, 0, 32, .rw, .live, 0⟩
/-- PS_MDATA_HI (07 R232). -/
def F.PS_MDATA_HI : Fld := ⟨0x9001C, 0, 32, .rw, .live, 0⟩
/-- PS_NOFILT (07 R232). -/
def F.PS_NOFILT : Fld := ⟨0x90080, 0, 32, .rc, .hard, 0⟩
/-- PS_OCT_DROP (07 R232). -/
def F.PS_OCT_DROP : Fld := ⟨0x90084, 0, 32, .rc, .hard, 0⟩
/-- PS_YELLOW_DROP (07 R232). -/
def F.PS_YELLOW_DROP : Fld := ⟨0x90088, 0, 32, .rc, .hard, 0⟩
/-- PS_RED_DROP (07 R232). -/
def F.PS_RED_DROP : Fld := ⟨0x9008C, 0, 32, .rc, .hard, 0⟩
/-- PS_CT_STOMP (07 R232). -/
def F.PS_CT_STOMP : Fld := ⟨0x90090, 0, 32, .rc, .hard, 0⟩
/-- LT_CTRL (08 R258). -/
def F.LT_CTRL_PAUSE_EN : Fld := ⟨0xA0000, 3, 1, .rw, .live, 0⟩
def F.LT_CTRL_CBS_EN : Fld := ⟨0xA0000, 2, 1, .rw, .live, 0⟩
def F.LT_CTRL_TB_EN : Fld := ⟨0xA0000, 1, 1, .rw, .live, 0⟩
def F.LT_CTRL_EN : Fld := ⟨0xA0000, 0, 1, .rw, .live, 0⟩
/-- LT_STATUS (08 R258). -/
def F.LT_STATUS_WIPING : Fld := ⟨0xA0004, 31, 1, .ro, .hard, 0⟩
def F.LT_STATUS_WIN_REJ : Fld := ⟨0xA0004, 30, 1, .w1c, .live, 0⟩
def F.LT_STATUS_ON_WHEEL : Fld := ⟨0xA0004, 0, 13, .ro, .hard, 0⟩
/-- LT_MSEL (08 R259). -/
def F.LT_MSEL : Fld := ⟨0xA0010, 0, 2, .rw, .live, 0⟩
/-- LT_MADDR (08 R259). -/
def F.LT_MADDR : Fld := ⟨0xA0014, 0, 14, .rw, .live, 0⟩
/-- LT_MDATA_LO (08 R259). -/
def F.LT_MDATA_LO : Fld := ⟨0xA0018, 0, 32, .rw, .live, 0⟩
/-- LT_MDATA_HI (08 R259). -/
def F.LT_MDATA_HI : Fld := ⟨0xA001C, 0, 32, .rw, .live, 0⟩
/-- LT_QPAUSE (08 R259). -/
def F.LT_QPAUSE_GO : Fld := ⟨0xA0020, 31, 1, .wo, .live, 0⟩
def F.LT_QPAUSE_QUEUE : Fld := ⟨0xA0020, 16, 10, .wo, .live, 0⟩
def F.LT_QPAUSE_TIME_US : Fld := ⟨0xA0020, 0, 16, .wo, .live, 0⟩
/-- LT_YIELD_MASK (08 R259). -/
def F.LT_YIELD_MASK_MASK : Fld := ⟨0xA0030, 0, 28, .rw, .live, 0x0FFFFFFF⟩
/-- LT_YIELD_LAST (08 R259). -/
def F.LT_YIELD_LAST_VALID : Fld := ⟨0xA0038, 31, 1, .ro, .hard, 0⟩
def F.LT_YIELD_LAST_PAIR : Fld := ⟨0xA0038, 0, 5, .ro, .hard, 0⟩
/-- LT_YIELD_HOLDOFF (08 R259). -/
def F.LT_YIELD_HOLDOFF : Fld := ⟨0xA0034, 0, 16, .rw, .live, 1000⟩
/-- LT_YIELD_LAST_DT_LO (08 R259). -/
def F.LT_YIELD_LAST_DT_LO : Fld := ⟨0xA0040, 0, 32, .ro, .hard, 0⟩
/-- LT_YIELD_LAST_DT_HI (08 R259). -/
def F.LT_YIELD_LAST_DT_HI : Fld := ⟨0xA0044, 0, 32, .ro, .hard, 0⟩
/-- LT_WHEEL_SLIP (08 R259). -/
def F.LT_WHEEL_SLIP : Fld := ⟨0xA0080, 0, 32, .rc, .hard, 0⟩
/-- LT_QP_REJ (08 R259). -/
def F.LT_QP_REJ : Fld := ⟨0xA0084, 0, 32, .rc, .hard, 0⟩
/-- LT_NOSHP (08 R259). -/
def F.LT_NOSHP : Fld := ⟨0xA0088, 0, 32, .rc, .hard, 0⟩
/-- LT_QP_CNT (08 R259). -/
def F.LT_QP_CNT : Fld := ⟨0xA008C, 0, 32, .rc, .hard, 0⟩
/-- LT_YIELD_i (08 R259). -/
def F.LT_YIELD_i (i : Nat) : Fld := ⟨0xA0200 + 0x4 * i, 0, 32, .rc, .hard, 0⟩
/-- LT_Pn_CTRL (08 R259). -/
def F.LT_Pn_CTRL_PFC_EN (p : Nat) : Fld := ⟨0xA0400 + 0x100 * p, 17, 1, .rw, .live, 0⟩
def F.LT_Pn_CTRL_PAUSE_RX_EN (p : Nat) : Fld := ⟨0xA0400 + 0x100 * p, 16, 1, .rw, .live, 0⟩
def F.LT_Pn_CTRL_PAUSABLE (p : Nat) : Fld := ⟨0xA0400 + 0x100 * p, 8, 8, .rw, .live, 0x00⟩
def F.LT_Pn_CTRL_CBS_MASK (p : Nat) : Fld := ⟨0xA0400 + 0x100 * p, 0, 8, .rw, .live, 0x00⟩
/-- LT_Pn_STATUS (08 R259). -/
def F.LT_Pn_STATUS_SLOPE_OVER (p : Nat) : Fld := ⟨0xA0404 + 0x100 * p, 31, 1, .ro, .hard, 0⟩
def F.LT_Pn_STATUS_PAUSED (p : Nat) : Fld := ⟨0xA0404 + 0x100 * p, 8, 8, .ro, .hard, 0x00⟩
def F.LT_Pn_STATUS_CREDIT_OK (p : Nat) : Fld := ⟨0xA0404 + 0x100 * p, 0, 8, .ro, .hard, 0xFF⟩
/-- LT_Pn_PFC_MAP (08 R259). -/
def F.LT_Pn_PFC_MAP_MAP (p : Nat) : Fld := ⟨0xA0408 + 0x100 * p, 0, 24, .rw, .live, 0x00FAC688⟩
/-- LT_Pn_PAUSE_MAX (08 R259). -/
def F.LT_Pn_PAUSE_MAX (p : Nat) : Fld := ⟨0xA040C + 0x100 * p, 0, 16, .rw, .live, 0⟩
/-- LT_Pn_PAUSE_RX (08 R259). -/
def F.LT_Pn_PAUSE_RX (p : Nat) : Fld := ⟨0xA0420 + 0x100 * p, 0, 32, .rc, .hard, 0⟩
/-- LT_Pn_PFC_RX (08 R259). -/
def F.LT_Pn_PFC_RX (p : Nat) : Fld := ⟨0xA0424 + 0x100 * p, 0, 32, .rc, .hard, 0⟩
/-- LT_Pn_PAUSE_IGN (08 R259). -/
def F.LT_Pn_PAUSE_IGN (p : Nat) : Fld := ⟨0xA0428 + 0x100 * p, 0, 32, .rc, .hard, 0⟩
/-- LT_Pn_PAUSE_CAP (08 R259). -/
def F.LT_Pn_PAUSE_CAP (p : Nat) : Fld := ⟨0xA042C + 0x100 * p, 0, 32, .rc, .hard, 0⟩
/-- LT_Pn_IDLE_SLOPE_c (08 R259). -/
def F.LT_Pn_IDLE_SLOPE_c (p c : Nat) : Fld := ⟨0xA0440 + 0x100 * p + 0x10 * c, 0, 32, .rw, .live, 0⟩
/-- LT_Pn_HI_CREDIT_c (08 R259). -/
def F.LT_Pn_HI_CREDIT_c (p c : Nat) : Fld := ⟨0xA0444 + 0x100 * p + 0x10 * c, 0, 32, .rw, .live, 4294967295⟩
/-- LT_Pn_CREDIT_c (08 R259). -/
def F.LT_Pn_CREDIT_c (p c : Nat) : Fld := ⟨0xA044C + 0x100 * p + 0x10 * c, 0, 32, .ro, .hard, 0⟩
/-- TW_CTRL (09 R290). -/
def F.TW_CTRL_REEP_SYNC : Fld := ⟨0x120000, 8, 1, .rw, .frozen, 1⟩
def F.TW_CTRL_CLAIM_IF_FAILED : Fld := ⟨0x120000, 7, 1, .rw, .live, 0⟩
def F.TW_CTRL_CLAIM_ALONE : Fld := ⟨0x120000, 6, 1, .rw, .frozen, 1⟩
def F.TW_CTRL_CHK_EN : Fld := ⟨0x120000, 5, 1, .rw, .live, 1⟩
def F.TW_CTRL_MIR_EN : Fld := ⟨0x120000, 4, 1, .rw, .live, 0⟩
def F.TW_CTRL_PULSE_EN : Fld := ⟨0x120000, 3, 1, .rw, .frozen, 1⟩
def F.TW_CTRL_DOLNOS_EN : Fld := ⟨0x120000, 2, 1, .rw, .frozen, 1⟩
def F.TW_CTRL_EN : Fld := ⟨0x120000, 0, 1, .rw, .live, 0⟩
/-- TW_STATUS (09 R290). -/
def F.TW_STATUS_READY : Fld := ⟨0x120004, 31, 1, .ro, .hard, 0⟩
def F.TW_STATUS_PEER_OK : Fld := ⟨0x120004, 30, 1, .ro, .hard, 0⟩
def F.TW_STATUS_DOLNOS_UP : Fld := ⟨0x120004, 29, 1, .ro, .hard, 0⟩
def F.TW_STATUS_PULSE_UP : Fld := ⟨0x120004, 28, 1, .ro, .hard, 0⟩
def F.TW_STATUS_MIR_DEGRADED : Fld := ⟨0x120004, 27, 1, .ro, .hard, 0⟩
def F.TW_STATUS_CFG_DIFF : Fld := ⟨0x120004, 26, 1, .ro, .hard, 0⟩
def F.TW_STATUS_APP_DIFF : Fld := ⟨0x120004, 25, 1, .ro, .hard, 0⟩
def F.TW_STATUS_DIVERGED : Fld := ⟨0x120004, 24, 1, .w1c, .live, 0⟩
def F.TW_STATUS_TIME_DIFF : Fld := ⟨0x120004, 23, 1, .ro, .hard, 0⟩
def F.TW_STATUS_SELFTEST_FAIL : Fld := ⟨0x120004, 22, 1, .ro, .hard, 0⟩
def F.TW_STATUS_TWIN_ID : Fld := ⟨0x120004, 21, 1, .ro, .hard, 0⟩
def F.TW_STATUS_PEER_ACTING : Fld := ⟨0x120004, 20, 1, .ro, .hard, 0⟩
def F.TW_STATUS_REEP_REJ : Fld := ⟨0x120004, 19, 1, .w1c, .live, 0⟩
def F.TW_STATUS_PEER_HEALTH : Fld := ⟨0x120004, 8, 8, .ro, .hard, 0x00⟩
def F.TW_STATUS_ROLE : Fld := ⟨0x120004, 0, 3, .ro, .hard, 0⟩
/-- TW_CMD (09 R290). -/
def F.TW_CMD_OP : Fld := ⟨0x120008, 28, 4, .wo, .live, 0x0⟩
/-- TW_CMD_RESULT (09 R290). -/
def F.TW_CMD_RESULT_DONE : Fld := ⟨0x12000C, 31, 1, .ro, .hard, 0⟩
def F.TW_CMD_RESULT_CODE : Fld := ⟨0x12000C, 0, 4, .ro, .hard, 0⟩
/-- TW_HB_CFG (09 R290). -/
def F.TW_HB_CFG_LOSS_N : Fld := ⟨0x120028, 20, 4, .rw, .frozen, 0x3⟩
def F.TW_HB_CFG_PERIOD_US : Fld := ⟨0x120028, 0, 16, .rw, .frozen, 0x0064⟩
/-- TW_LEASE (09 R290). -/
def F.TW_LEASE_GUARD_US : Fld := ⟨0x12002C, 16, 16, .rw, .frozen, 0x00C8⟩
def F.TW_LEASE_LEASE_US : Fld := ⟨0x12002C, 0, 16, .rw, .frozen, 0x03E8⟩
/-- TW_CLAIM_CFG (09 R290). -/
def F.TW_CLAIM_CFG_ETYPE : Fld := ⟨0x120024, 16, 16, .rw, .frozen, 0x88B5⟩
def F.TW_CLAIM_CFG_CLASS : Fld := ⟨0x120024, 8, 3, .rw, .frozen, 7⟩
def F.TW_CLAIM_CFG_REPEAT : Fld := ⟨0x120024, 0, 8, .rw, .frozen, 0x0A⟩
/-- TW_PAIR_ID (09 R290). -/
def F.TW_PAIR_ID : Fld := ⟨0x120010, 0, 32, .rw, .frozen, 0⟩
/-- TW_PAIR_MAC_LO (09 R290). -/
def F.TW_PAIR_MAC_LO : Fld := ⟨0x120014, 0, 32, .rw, .frozen, 0⟩
/-- TW_PAIR_MAC_HI (09 R290). -/
def F.TW_PAIR_MAC_HI : Fld := ⟨0x120018, 0, 16, .rw, .frozen, 0⟩
/-- TW_CLAIM_DA_LO (09 R290). -/
def F.TW_CLAIM_DA_LO : Fld := ⟨0x12001C, 0, 32, .rw, .frozen, 3⟩
/-- TW_CLAIM_DA_HI (09 R290). -/
def F.TW_CLAIM_DA_HI : Fld := ⟨0x120020, 0, 16, .rw, .frozen, 16534⟩
/-- TW_FORM_WAIT (09 R290). -/
def F.TW_FORM_WAIT : Fld := ⟨0x120030, 0, 16, .rw, .frozen, 500⟩
/-- TW_FIELD_DUAL (09 R290). -/
def F.TW_FIELD_DUAL : Fld := ⟨0x120034, 0, 8, .rw, .frozen, 0⟩
/-- TW_CHK_PERIOD (09 R290). -/
def F.TW_CHK_PERIOD : Fld := ⟨0x120038, 0, 16, .rw, .frozen, 1000⟩
/-- TW_OFFS_THR (09 R290). -/
def F.TW_OFFS_THR : Fld := ⟨0x12003C, 0, 16, .rw, .live, 50⟩
/-- TW_MIR_BATCH (09 R290). -/
def F.TW_MIR_BATCH : Fld := ⟨0x120040, 0, 8, .rw, .live, 64⟩
/-- TW_APP_DIGEST_LO (09 R290). -/
def F.TW_APP_DIGEST_LO : Fld := ⟨0x120048, 0, 32, .rw, .live, 0⟩
/-- TW_APP_DIGEST_HI (09 R290). -/
def F.TW_APP_DIGEST_HI : Fld := ⟨0x12004C, 0, 32, .rw, .live, 0⟩
/-- TW_PEER_APP_DIGEST_LO (09 R290). -/
def F.TW_PEER_APP_DIGEST_LO : Fld := ⟨0x120050, 0, 32, .ro, .hard, 0⟩
/-- TW_PEER_APP_DIGEST_HI (09 R290). -/
def F.TW_PEER_APP_DIGEST_HI : Fld := ⟨0x120054, 0, 32, .ro, .hard, 0⟩
/-- TW_EPOCH (09 R290). -/
def F.TW_EPOCH : Fld := ⟨0x120060, 0, 32, .ro, .hard, 0⟩
/-- TW_PEER_EPOCH (09 R290). -/
def F.TW_PEER_EPOCH : Fld := ⟨0x120064, 0, 32, .ro, .hard, 0⟩
/-- TW_OFFS (09 R290). -/
def F.TW_OFFS : Fld := ⟨0x120068, 0, 32, .ro, .hard, 0⟩
/-- TW_LINK_DLY (09 R290). -/
def F.TW_LINK_DLY : Fld := ⟨0x12006C, 0, 32, .ro, .hard, 0⟩
/-- TW_RS_STAT (09 R290). -/
def F.TW_RS_STAT_ACTIVE : Fld := ⟨0x120070, 31, 1, .ro, .hard, 0⟩
def F.TW_RS_STAT_DONE : Fld := ⟨0x120070, 30, 1, .ro, .hard, 0⟩
def F.TW_RS_STAT_POINT : Fld := ⟨0x120070, 0, 23, .ro, .hard, 0⟩
/-- TW_LAST_CLAIM_DT_LO (09 R290). -/
def F.TW_LAST_CLAIM_DT_LO : Fld := ⟨0x120078, 0, 32, .ro, .hard, 0⟩
/-- TW_LAST_CLAIM_DT_HI (09 R290). -/
def F.TW_LAST_CLAIM_DT_HI : Fld := ⟨0x12007C, 0, 32, .ro, .hard, 0⟩
/-- TW_HEALTH_OWN_n (09 R290). -/
def F.TW_HEALTH_OWN_n (n : Nat) : Fld := ⟨0x120100 + 0x4 * n, 0, 32, .ro, .hard, 0⟩
/-- TW_HEALTH_PEER_n (09 R290). -/
def F.TW_HEALTH_PEER_n (n : Nat) : Fld := ⟨0x120140 + 0x4 * n, 0, 32, .ro, .hard, 0⟩
/-- TW_HB_TX (09 R290). -/
def F.TW_HB_TX : Fld := ⟨0x120200, 0, 32, .rc, .hard, 0⟩
/-- TW_HB_RX_D (09 R290). -/
def F.TW_HB_RX_D : Fld := ⟨0x120204, 0, 32, .rc, .hard, 0⟩
/-- TW_HB_RX_P (09 R290). -/
def F.TW_HB_RX_P : Fld := ⟨0x120208, 0, 32, .rc, .hard, 0⟩
/-- TW_HB_BAD (09 R290). -/
def F.TW_HB_BAD : Fld := ⟨0x12020C, 0, 32, .rc, .hard, 0⟩
/-- TW_PATH_LOSS_CNT (09 R290). -/
def F.TW_PATH_LOSS_CNT : Fld := ⟨0x120210, 0, 32, .rc, .hard, 0⟩
/-- TW_CLAIM_CNT (09 R290). -/
def F.TW_CLAIM_CNT : Fld := ⟨0x120214, 0, 32, .rc, .hard, 0⟩
/-- TW_YIELD_CNT (09 R290). -/
def F.TW_YIELD_CNT : Fld := ⟨0x120218, 0, 32, .rc, .hard, 0⟩
/-- TW_MIR_TX (09 R290). -/
def F.TW_MIR_TX : Fld := ⟨0x12021C, 0, 32, .rc, .hard, 0⟩
/-- TW_MIR_RX (09 R290). -/
def F.TW_MIR_RX : Fld := ⟨0x120220, 0, 32, .rc, .hard, 0⟩
/-- TW_MIR_DROP (09 R290). -/
def F.TW_MIR_DROP : Fld := ⟨0x120224, 0, 32, .rc, .hard, 0⟩
/-- TW_RETX (09 R290). -/
def F.TW_RETX : Fld := ⟨0x120228, 0, 32, .rc, .hard, 0⟩
/-- TW_DIVERGE_CNT (09 R290). -/
def F.TW_DIVERGE_CNT : Fld := ⟨0x12022C, 0, 32, .rc, .hard, 0⟩
/-- TW_STBY_RXDROP (09 R290). -/
def F.TW_STBY_RXDROP : Fld := ⟨0x120230, 0, 32, .rc, .hard, 0⟩
/-- TW_NOTREADY_SUPP (09 R290). -/
def F.TW_NOTREADY_SUPP : Fld := ⟨0x120234, 0, 32, .rc, .hard, 0⟩
/-- TW_RS_CNT (09 R290). -/
def F.TW_RS_CNT : Fld := ⟨0x120238, 0, 32, .rc, .hard, 0⟩
/-- TW_RS_REC (09 R290). -/
def F.TW_RS_REC : Fld := ⟨0x12023C, 0, 32, .rc, .hard, 0⟩
/-- TW_BB_CLAIM_RX (09 R290). -/
def F.TW_BB_CLAIM_RX : Fld := ⟨0x120240, 0, 32, .rc, .hard, 0⟩
/-- QE_CTRL (10 R325). -/
def F.QE_CTRL_EN : Fld := ⟨0xE0000, 0, 1, .rw, .live, 0⟩
/-- QE_STATUS (10 R325). -/
def F.QE_STATUS_SQ_ON : Fld := ⟨0xE0004, 16, 11, .ro, .hard, 0⟩
def F.QE_STATUS_CQ_ON : Fld := ⟨0xE0004, 0, 11, .ro, .hard, 0⟩
/-- QE_ASSIGN (10 R325). -/
def F.QE_ASSIGN_GO : Fld := ⟨0xE0010, 31, 1, .wo, .live, 0⟩
def F.QE_ASSIGN_KIND : Fld := ⟨0xE0010, 30, 1, .wo, .live, 0⟩
def F.QE_ASSIGN_LOCAL : Fld := ⟨0xE0010, 22, 8, .wo, .live, 0⟩
def F.QE_ASSIGN_OWNER : Fld := ⟨0xE0010, 16, 6, .wo, .live, 0⟩
def F.QE_ASSIGN_QUEUE : Fld := ⟨0xE0010, 0, 10, .wo, .live, 0⟩
/-- QE_ASSIGN_RESULT (10 R325). -/
def F.QE_ASSIGN_RESULT_DONE : Fld := ⟨0xE0014, 31, 1, .ro, .hard, 0⟩
def F.QE_ASSIGN_RESULT_CODE : Fld := ⟨0xE0014, 0, 4, .ro, .hard, 0⟩
/-- QE_CQ_ERR (10 R325). -/
def F.QE_CQ_ERR_VALID : Fld := ⟨0xE0018, 31, 1, .w1c, .live, 0⟩
def F.QE_CQ_ERR_ERR : Fld := ⟨0xE0018, 20, 4, .ro, .hard, 0⟩
def F.QE_CQ_ERR_CQ : Fld := ⟨0xE0018, 0, 10, .ro, .hard, 0⟩
/-- QE_RX_DEFAULT_p (10 R325). -/
def F.QE_RX_DEFAULT_p_VALID (p : Nat) : Fld := ⟨0xE0020 + 0x4 * p, 31, 1, .rw, .live, 0⟩
def F.QE_RX_DEFAULT_p_QUEUE (p : Nat) : Fld := ⟨0xE0020 + 0x4 * p, 0, 10, .rw, .live, 0⟩
/-- QE_DB_BAD (10 R325). -/
def F.QE_DB_BAD : Fld := ⟨0xE0080, 0, 32, .rc, .hard, 0⟩
/-- QE_DB_OFF (10 R325). -/
def F.QE_DB_OFF : Fld := ⟨0xE0084, 0, 32, .rc, .hard, 0⟩
/-- QE_BAD_ENTRY (10 R325). -/
def F.QE_BAD_ENTRY : Fld := ⟨0xE0088, 0, 32, .rc, .hard, 0⟩
/-- QE_FOLD (10 R325). -/
def F.QE_FOLD : Fld := ⟨0xE008C, 0, 32, .rc, .hard, 0⟩
/-- QE_RX_NOBUF (10 R325). -/
def F.QE_RX_NOBUF : Fld := ⟨0xE0090, 0, 32, .rc, .hard, 0⟩
/-- QE_RX_TOOBIG (10 R325). -/
def F.QE_RX_TOOBIG : Fld := ⟨0xE0094, 0, 32, .rc, .hard, 0⟩
/-- QE_FETCH_ERR_CNT (10 R325). -/
def F.QE_FETCH_ERR_CNT : Fld := ⟨0xE0098, 0, 32, .rc, .hard, 0⟩
/-- QE_PAYLOAD_ERR (10 R325). -/
def F.QE_PAYLOAD_ERR : Fld := ⟨0xE009C, 0, 32, .rc, .hard, 0⟩
/-- QE_CFG_REJ (10 R325). -/
def F.QE_CFG_REJ : Fld := ⟨0xE00A0, 0, 32, .rc, .hard, 0⟩
/-- QE_EVT_MAP_n (10 R325). -/
def F.QE_EVT_MAP_n_EN (n : Nat) : Fld := ⟨0xE0100 + 0x4 * n, 31, 1, .rw, .live, 0⟩
def F.QE_EVT_MAP_n_VEC (n : Nat) : Fld := ⟨0xE0100 + 0x4 * n, 0, 8, .rw, .live, 0x00⟩
/-- QE_CQ_INFO_q (10 R325). -/
def F.QE_CQ_INFO_q_LOCAL (q : Nat) : Fld := ⟨0xE1000 + 0x4 * q, 24, 8, .ro, .hard, if q < 256 then q else 0⟩
def F.QE_CQ_INFO_q_OWNER (q : Nat) : Fld := ⟨0xE1000 + 0x4 * q, 16, 6, .ro, .hard, if q < 256 then 0x20 else 0x3F⟩
def F.QE_CQ_INFO_q_GAP (q : Nat) : Fld := ⟨0xE1000 + 0x4 * q, 0, 16, .ro, .hard, 0⟩
/-- QE_SQ_BASE_LO (10 R325). -/
def F.QE_SQ_BASE_LO (q : Nat) : Fld := ⟨0xE4000 + 0x20 * q, 6, 26, .rw, .frozen, 0⟩
/-- QE_SQ_BASE_HI (10 R325). -/
def F.QE_SQ_BASE_HI (q : Nat) : Fld := ⟨0xE4004 + 0x20 * q, 0, 32, .rw, .frozen, 0⟩
/-- QE_SQ_HEAD (10 R325). -/
def F.QE_SQ_HEAD (q : Nat) : Fld := ⟨0xE4010 + 0x20 * q, 0, 16, .rw, .frozen, 0⟩
/-- QE_SQ_TAIL (10 R325). -/
def F.QE_SQ_TAIL (q : Nat) : Fld := ⟨0xE4014 + 0x20 * q, 0, 16, .ro, .hard, 0⟩
/-- QE_SQ_OWNER (10 R325). -/
def F.QE_SQ_OWNER_LOCAL (q : Nat) : Fld := ⟨0xE401C + 0x20 * q, 8, 8, .ro, .hard, if q < 256 then q else 0⟩
def F.QE_SQ_OWNER_OWNER (q : Nat) : Fld := ⟨0xE401C + 0x20 * q, 0, 6, .ro, .hard, if q < 256 then 0x20 else 0x3F⟩
/-- QE_SQ_CFG (10 R325). -/
def F.QE_SQ_CFG_EN (q : Nat) : Fld := ⟨0xE4008 + 0x20 * q, 31, 1, .rw, .live, 0⟩
def F.QE_SQ_CFG_TYPE (q : Nat) : Fld := ⟨0xE4008 + 0x20 * q, 30, 1, .rw, .frozen, 0⟩
def F.QE_SQ_CFG_LATE_DISCARD (q : Nat) : Fld := ⟨0xE4008 + 0x20 * q, 29, 1, .rw, .frozen, 0⟩
def F.QE_SQ_CFG_PRIO (q : Nat) : Fld := ⟨0xE4008 + 0x20 * q, 27, 2, .rw, .frozen, 0⟩
def F.QE_SQ_CFG_SIZE (q : Nat) : Fld := ⟨0xE4008 + 0x20 * q, 20, 5, .rw, .frozen, 0x04⟩
def F.QE_SQ_CFG_CQ (q : Nat) : Fld := ⟨0xE4008 + 0x20 * q, 0, 10, .rw, .frozen, 0⟩
/-- QE_SQ_CFG2 (10 R325). -/
def F.QE_SQ_CFG2_RX_BUF (q : Nat) : Fld := ⟨0xE400C + 0x20 * q, 0, 15, .rw, .frozen, 0x0800⟩
/-- QE_SQ_STAT (10 R325). -/
def F.QE_SQ_STAT_STATE (q : Nat) : Fld := ⟨0xE4018 + 0x20 * q, 30, 2, .ro, .hard, 0⟩
def F.QE_SQ_STAT_ERR (q : Nat) : Fld := ⟨0xE4018 + 0x20 * q, 20, 4, .ro, .hard, 0⟩
def F.QE_SQ_STAT_RX_POSTED (q : Nat) : Fld := ⟨0xE4018 + 0x20 * q, 0, 13, .ro, .hard, 0⟩
/-- QE_CQ_BASE_LO (10 R325). -/
def F.QE_CQ_BASE_LO (q : Nat) : Fld := ⟨0xEC000 + 0x10 * q, 6, 26, .rw, .frozen, 0⟩
/-- QE_CQ_BASE_HI (10 R325). -/
def F.QE_CQ_BASE_HI (q : Nat) : Fld := ⟨0xEC004 + 0x10 * q, 0, 32, .rw, .frozen, 0⟩
/-- QE_CQ_PTR (10 R325). -/
def F.QE_CQ_PTR_TAIL (q : Nat) : Fld := ⟨0xEC00C + 0x10 * q, 16, 16, .ro, .hard, 0⟩
def F.QE_CQ_PTR_HEAD (q : Nat) : Fld := ⟨0xEC00C + 0x10 * q, 0, 16, .ro, .hard, 0⟩
/-- QE_CQ_CFG (10 R325). -/
def F.QE_CQ_CFG_EN (q : Nat) : Fld := ⟨0xEC008 + 0x10 * q, 31, 1, .rw, .live, 0⟩
def F.QE_CQ_CFG_NOTIFY (q : Nat) : Fld := ⟨0xEC008 + 0x10 * q, 30, 1, .rw, .frozen, 0⟩
def F.QE_CQ_CFG_IRQ_EN (q : Nat) : Fld := ⟨0xEC008 + 0x10 * q, 29, 1, .rw, .live, 0⟩
def F.QE_CQ_CFG_SIZE (q : Nat) : Fld := ⟨0xEC008 + 0x10 * q, 25, 4, .rw, .frozen, 0x4⟩
def F.QE_CQ_CFG_MOD_US (q : Nat) : Fld := ⟨0xEC008 + 0x10 * q, 16, 9, .rw, .live, 0⟩
def F.QE_CQ_CFG_MOD_CNT (q : Nat) : Fld := ⟨0xEC008 + 0x10 * q, 8, 8, .rw, .live, 0x01⟩
def F.QE_CQ_CFG_VEC (q : Nat) : Fld := ⟨0xEC008 + 0x10 * q, 0, 8, .rw, .frozen, 0x00⟩
/-- DMA_CTRL (11 R349). -/
def F.DMA_CTRL_ATTRIB : Fld := ⟨0xF0000, 2, 1, .rw, .frozen, 0⟩
def F.DMA_CTRL_EN : Fld := ⟨0xF0000, 0, 1, .rw, .live, 0⟩
/-- DMA_STATUS (11 R349). -/
def F.DMA_STATUS_HALT : Fld := ⟨0xF0004, 31, 1, .w1c, .live, 0⟩
def F.DMA_STATUS_BUSY : Fld := ⟨0xF0004, 0, 16, .ro, .hard, 0x0000⟩
/-- DMA_HOPS (11 R349). -/
def F.DMA_HOPS_LIMIT : Fld := ⟨0xF0008, 0, 16, .rw, .live, 0x1000⟩
/-- DMA_ERR_INFO (11 R349). -/
def F.DMA_ERR_INFO_VALID : Fld := ⟨0xF0018, 31, 1, .w1c, .live, 0⟩
def F.DMA_ERR_INFO_CAUSE : Fld := ⟨0xF0018, 28, 3, .ro, .hard, 0⟩
def F.DMA_ERR_INFO_CH_VALID : Fld := ⟨0xF0018, 27, 1, .ro, .hard, 0⟩
def F.DMA_ERR_INFO_MASTER : Fld := ⟨0xF0018, 16, 6, .ro, .hard, 0⟩
def F.DMA_ERR_INFO_CH : Fld := ⟨0xF0018, 0, 4, .ro, .hard, 0⟩
/-- DMA_ERR_ADDR_LO (11 R349). -/
def F.DMA_ERR_ADDR_LO : Fld := ⟨0xF0010, 0, 32, .ro, .hard, 0⟩
/-- DMA_ERR_ADDR_HI (11 R349). -/
def F.DMA_ERR_ADDR_HI : Fld := ⟨0xF0014, 0, 32, .ro, .hard, 0⟩
/-- DMA_DESC_CNT (11 R349). -/
def F.DMA_DESC_CNT : Fld := ⟨0xF0080, 0, 32, .rc, .hard, 0⟩
/-- DMA_BUS_ERR_CNT (11 R349). -/
def F.DMA_BUS_ERR_CNT : Fld := ⟨0xF0084, 0, 32, .rc, .hard, 0⟩
/-- DMA_TAIL_CNT (11 R349). -/
def F.DMA_TAIL_CNT : Fld := ⟨0xF0088, 0, 32, .rc, .hard, 0⟩
/-- DMA_LOOP_CNT (11 R349). -/
def F.DMA_LOOP_CNT : Fld := ⟨0xF008C, 0, 32, .rc, .hard, 0⟩
/-- DMA_DB_IGN (11 R349). -/
def F.DMA_DB_IGN : Fld := ⟨0xF0090, 0, 32, .rc, .hard, 0⟩
/-- DMA_START_REJ (11 R349). -/
def F.DMA_START_REJ : Fld := ⟨0xF0094, 0, 32, .rc, .hard, 0⟩
/-- DMA_REJ (11 R349). -/
def F.DMA_REJ : Fld := ⟨0xF0098, 0, 32, .rc, .hard, 0⟩
/-- CH_SRC_LO (11 R349). -/
def F.CH_SRC_LO (c : Nat) : Fld := ⟨0xF0100 + 0x40 * c, 0, 32, .rw, .frozen, 0⟩
/-- CH_SRC_HI (11 R349). -/
def F.CH_SRC_HI (c : Nat) : Fld := ⟨0xF0104 + 0x40 * c, 0, 32, .rw, .frozen, 0⟩
/-- CH_DST_LO (11 R349). -/
def F.CH_DST_LO (c : Nat) : Fld := ⟨0xF0108 + 0x40 * c, 0, 32, .rw, .frozen, 0⟩
/-- CH_DST_HI (11 R349). -/
def F.CH_DST_HI (c : Nat) : Fld := ⟨0xF010C + 0x40 * c, 0, 32, .rw, .frozen, 0⟩
/-- CH_COUNT (11 R349). -/
def F.CH_COUNT (c : Nat) : Fld := ⟨0xF0110 + 0x40 * c, 0, 24, .rw, .frozen, 0⟩
/-- CH_DESC_LO (11 R349). -/
def F.CH_DESC_LO (c : Nat) : Fld := ⟨0xF0120 + 0x40 * c, 0, 32, .rw, .frozen, 0⟩
/-- CH_DESC_HI (11 R349). -/
def F.CH_DESC_HI (c : Nat) : Fld := ⟨0xF0124 + 0x40 * c, 0, 32, .rw, .frozen, 0⟩
/-- CH_CUR_LO (11 R349). -/
def F.CH_CUR_LO (c : Nat) : Fld := ⟨0xF0128 + 0x40 * c, 0, 32, .ro, .hard, 0⟩
/-- CH_CUR_HI (11 R349). -/
def F.CH_CUR_HI (c : Nat) : Fld := ⟨0xF012C + 0x40 * c, 0, 32, .ro, .hard, 0⟩
/-- CH_OWNER (11 R349). -/
def F.CH_OWNER (c : Nat) : Fld := ⟨0xF0130 + 0x40 * c, 0, 6, .rw, .frozen, if c < 14 then 3 else 0⟩
/-- CH_DB (11 R349). -/
def F.CH_DB (c : Nat) : Fld := ⟨0xF0138 + 0x40 * c, 0, 32, .wo, .live, 0⟩
/-- CH_DESC_CNT (11 R349). -/
def F.CH_DESC_CNT (c : Nat) : Fld := ⟨0xF013C + 0x40 * c, 0, 32, .rc, .hard, 0⟩
/-- CH_CFG (11 R349). -/
def F.CH_CFG_PRIO (c : Nat) : Fld := ⟨0xF0114 + 0x40 * c, 14, 2, .rw, .frozen, 0⟩
def F.CH_CFG_IRQ (c : Nat) : Fld := ⟨0xF0114 + 0x40 * c, 11, 1, .rw, .frozen, 0⟩
def F.CH_CFG_SPACE_DST (c : Nat) : Fld := ⟨0xF0114 + 0x40 * c, 10, 1, .rw, .frozen, 0⟩
def F.CH_CFG_SPACE_SRC (c : Nat) : Fld := ⟨0xF0114 + 0x40 * c, 9, 1, .rw, .frozen, 0⟩
def F.CH_CFG_DST_FIXED (c : Nat) : Fld := ⟨0xF0114 + 0x40 * c, 4, 1, .rw, .frozen, 0⟩
def F.CH_CFG_SRC_FIXED (c : Nat) : Fld := ⟨0xF0114 + 0x40 * c, 3, 1, .rw, .frozen, 0⟩
def F.CH_CFG_SWAP (c : Nat) : Fld := ⟨0xF0114 + 0x40 * c, 0, 3, .rw, .frozen, 0⟩
/-- CH_CTRL (11 R349). -/
def F.CH_CTRL_START (c : Nat) : Fld := ⟨0xF0118 + 0x40 * c, 31, 1, .wo, .live, 0⟩
def F.CH_CTRL_CHAIN (c : Nat) : Fld := ⟨0xF0118 + 0x40 * c, 30, 1, .wo, .live, 0⟩
def F.CH_CTRL_RESUME (c : Nat) : Fld := ⟨0xF0118 + 0x40 * c, 29, 1, .wo, .live, 0⟩
def F.CH_CTRL_EN (c : Nat) : Fld := ⟨0xF0118 + 0x40 * c, 0, 1, .rw, .live, 1⟩
/-- CH_STAT (11 R349). -/
def F.CH_STAT_STATE (c : Nat) : Fld := ⟨0xF011C + 0x40 * c, 29, 3, .ro, .hard, 0⟩
def F.CH_STAT_DB_PEND (c : Nat) : Fld := ⟨0xF011C + 0x40 * c, 28, 1, .ro, .hard, 0⟩
def F.CH_STAT_LAST_ST (c : Nat) : Fld := ⟨0xF011C + 0x40 * c, 24, 4, .ro, .hard, 0⟩
def F.CH_STAT_HOPS (c : Nat) : Fld := ⟨0xF011C + 0x40 * c, 0, 16, .ro, .hard, 0⟩
/-- CH_IRQ (11 R349). -/
def F.CH_IRQ_EN (c : Nat) : Fld := ⟨0xF0134 + 0x40 * c, 31, 1, .rw, .live, 0⟩
def F.CH_IRQ_VEC (c : Nat) : Fld := ⟨0xF0134 + 0x40 * c, 0, 8, .rw, .live, 0x00⟩
/-- GR_CTRL (12 R373). -/
def F.GR_CTRL_WIPE1 : Fld := ⟨0xB0000, 2, 1, .rw, .frozen, 0⟩
def F.GR_CTRL_WIPE0 : Fld := ⟨0xB0000, 1, 1, .rw, .frozen, 0⟩
def F.GR_CTRL_EN : Fld := ⟨0xB0000, 0, 1, .rw, .live, 0⟩
/-- GR_STATUS (12 R373). -/
def F.GR_STATUS_WIPING : Fld := ⟨0xB0004, 31, 1, .ro, .hard, 0⟩
def F.GR_STATUS_WIN_REJ : Fld := ⟨0xB0004, 30, 1, .w1c, .live, 0⟩
def F.GR_STATUS_CFG_ERR_SEEN : Fld := ⟨0xB0004, 29, 1, .w1c, .live, 0⟩
def F.GR_STATUS_CFG_ERR : Fld := ⟨0xB0004, 24, 4, .ro, .hard, 0⟩
/-- GR_POOL1_SIZE (12 R373). -/
def F.GR_POOL1_SIZE_UNITS : Fld := ⟨0xB0008, 0, 8, .rw, .frozen, 0x80⟩
/-- GR_HOLD_ERR_INFO (12 R373). -/
def F.GR_HOLD_ERR_INFO_VALID : Fld := ⟨0xB0030, 31, 1, .w1c, .live, 0⟩
def F.GR_HOLD_ERR_INFO_CAUSE : Fld := ⟨0xB0030, 30, 1, .ro, .hard, 0⟩
def F.GR_HOLD_ERR_INFO_OP : Fld := ⟨0xB0030, 29, 1, .ro, .hard, 0⟩
def F.GR_HOLD_ERR_INFO_MASTER : Fld := ⟨0xB0030, 19, 6, .ro, .hard, 0⟩
def F.GR_HOLD_ERR_INFO_CHAIN : Fld := ⟨0xB0030, 0, 19, .ro, .hard, 0⟩
/-- GR_FREE0 (12 R373). -/
def F.GR_FREE0 : Fld := ⟨0xB0010, 0, 17, .ro, .hard, 32768⟩
/-- GR_FREE1 (12 R373). -/
def F.GR_FREE1 : Fld := ⟨0xB0014, 0, 23, .ro, .hard, 4194304⟩
/-- GR_RR (12 R373). -/
def F.GR_RR_CLASS3 : Fld := ⟨0xB0028, 24, 6, .ro, .hard, 0⟩
def F.GR_RR_CLASS2 : Fld := ⟨0xB0028, 16, 6, .ro, .hard, 0⟩
def F.GR_RR_CLASS1 : Fld := ⟨0xB0028, 8, 6, .ro, .hard, 0⟩
def F.GR_RR_CLASS0 : Fld := ⟨0xB0028, 0, 6, .ro, .hard, 0⟩
/-- GR_ALLOC (12 R373). -/
def F.GR_ALLOC : Fld := ⟨0xB0080, 0, 32, .rc, .hard, 0⟩
/-- GR_FREED (12 R373). -/
def F.GR_FREED : Fld := ⟨0xB0084, 0, 32, .rc, .hard, 0⟩
/-- GR_FAIL_EMPTY (12 R373). -/
def F.GR_FAIL_EMPTY : Fld := ⟨0xB0088, 0, 32, .rc, .hard, 0⟩
/-- GR_FAIL_QUOTA (12 R373). -/
def F.GR_FAIL_QUOTA : Fld := ⟨0xB008C, 0, 32, .rc, .hard, 0⟩
/-- GR_FAIL_LIMIT (12 R373). -/
def F.GR_FAIL_LIMIT : Fld := ⟨0xB0090, 0, 32, .rc, .hard, 0⟩
/-- GR_LAST_LOST (12 R373). -/
def F.GR_LAST_LOST : Fld := ⟨0xB0094, 0, 32, .rc, .hard, 0⟩
/-- GR_NONHOLDER (12 R373). -/
def F.GR_NONHOLDER : Fld := ⟨0xB0098, 0, 32, .rc, .hard, 0⟩
/-- GR_ONFREE (12 R373). -/
def F.GR_ONFREE : Fld := ⟨0xB009C, 0, 32, .rc, .hard, 0⟩
/-- GR_SHARE_DUP (12 R373). -/
def F.GR_SHARE_DUP : Fld := ⟨0xB00A0, 0, 32, .rc, .hard, 0⟩
/-- GR_WALK_REL (12 R373). -/
def F.GR_WALK_REL : Fld := ⟨0xB00A4, 0, 32, .rc, .hard, 0⟩
/-- GR_QRSV_q_m (12 R373). -/
def F.GR_QRSV_q_m (q m : Nat) : Fld := ⟨0xB1000 + 0x200 * q + 0x8 * m, 0, 23, .rw, .live, Config.quotaRsv q m⟩
/-- GR_QMAX_q_m (12 R373). -/
def F.GR_QMAX_q_m (q m : Nat) : Fld := ⟨0xB1004 + 0x200 * q + 0x8 * m, 0, 23, .rw, .live, Config.quotaMax q m⟩
/-- GR_QUSED_q_m (12 R373). -/
def F.GR_QUSED_q_m (q m : Nat) : Fld := ⟨0xB1400 + 0x100 * q + 0x4 * m, 0, 23, .ro, .hard, 0⟩
/-- GR_QFAIL_m (12 R373). -/
def F.GR_QFAIL_m (m : Nat) : Fld := ⟨0xB1600 + 0x4 * m, 0, 32, .rc, .hard, 0⟩
/-- GR_MSEL (12 R374). -/
def F.GR_MSEL : Fld := ⟨0xB0040, 0, 2, .rw, .live, 0⟩
/-- GR_MADDR (12 R374). -/
def F.GR_MADDR : Fld := ⟨0xB0044, 0, 27, .rw, .live, 0⟩
/-- PT_CTRL (12 R375). -/
def F.PT_CTRL_HEAT_EN : Fld := ⟨0xC0000, 0, 1, .rw, .live, 1⟩
/-- PT_STATUS (12 R375). -/
def F.PT_STATUS_WIN_REJ : Fld := ⟨0xC0004, 31, 1, .w1c, .live, 0⟩
def F.PT_STATUS_WIPING : Fld := ⟨0xC0004, 30, 1, .ro, .hard, 0⟩
/-- PT_TIER_CFG (12 R375). -/
def F.PT_TIER_CFG_FAR_US : Fld := ⟨0xC0008, 16, 16, .rw, .live, 0x01F4⟩
def F.PT_TIER_CFG_RX_LOW_WM : Fld := ⟨0xC0008, 0, 16, .rw, .live, 0x0800⟩
/-- PT_HEAT_CFG (12 R375). -/
def F.PT_HEAT_CFG_WIN_MS : Fld := ⟨0xC000C, 24, 8, .rw, .live, 0x64⟩
def F.PT_HEAT_CFG_HYST : Fld := ⟨0xC000C, 16, 8, .rw, .live, 0x10⟩
def F.PT_HEAT_CFG_PROMOTE_MIN : Fld := ⟨0xC000C, 0, 16, .rw, .live, 0x0040⟩
/-- PT_TRACE_CTRL (12 R375). -/
def F.PT_TRACE_CTRL_CLEAR : Fld := ⟨0xC0020, 31, 1, .wo, .live, 0⟩
def F.PT_TRACE_CTRL_MODE : Fld := ⟨0xC0020, 30, 1, .rw, .live, 0⟩
def F.PT_TRACE_CTRL_KINDS : Fld := ⟨0xC0020, 1, 8, .rw, .live, 0xFF⟩
def F.PT_TRACE_CTRL_EN : Fld := ⟨0xC0020, 0, 1, .rw, .live, 0⟩
/-- PT_TRACE_STAT (12 R375). -/
def F.PT_TRACE_STAT_FULL : Fld := ⟨0xC0024, 31, 1, .ro, .hard, 0⟩
def F.PT_TRACE_STAT_LEVEL : Fld := ⟨0xC0024, 16, 11, .ro, .hard, 0⟩
def F.PT_TRACE_STAT_WPTR : Fld := ⟨0xC0024, 0, 10, .ro, .hard, 0⟩
/-- PT_MOVE_MAX (12 R375). -/
def F.PT_MOVE_MAX : Fld := ⟨0xC0010, 0, 16, .rw, .live, 8192⟩
/-- PT_LN_BIND (12 R375). -/
def F.PT_LN_BIND : Fld := ⟨0xC0014, 0, 30, .rw, .live, 1073741823⟩
/-- PT_MS_MASK (12 R375). -/
def F.PT_MS_MASK : Fld := ⟨0xC0018, 0, 5, .rw, .live, 31⟩
/-- PT_REBIND_IDLE (12 R375). -/
def F.PT_REBIND_IDLE : Fld := ⟨0xC001C, 0, 16, .rw, .live, 1000⟩
/-- PT_ONDIE (12 R375). -/
def F.PT_ONDIE : Fld := ⟨0xC0080, 0, 32, .rc, .hard, 0⟩
/-- PT_DRAM (12 R375). -/
def F.PT_DRAM : Fld := ⟨0xC0084, 0, 32, .rc, .hard, 0⟩
/-- PT_SPILL (12 R375). -/
def F.PT_SPILL : Fld := ⟨0xC0088, 0, 32, .rc, .hard, 0⟩
/-- PT_FAR (12 R375). -/
def F.PT_FAR : Fld := ⟨0xC008C, 0, 32, .rc, .hard, 0⟩
/-- PT_PROMOTE (12 R375). -/
def F.PT_PROMOTE : Fld := ⟨0xC0090, 0, 32, .rc, .hard, 0⟩
/-- PT_DEMOTE (12 R375). -/
def F.PT_DEMOTE : Fld := ⟨0xC0094, 0, 32, .rc, .hard, 0⟩
/-- PT_LN_REBIND (12 R375). -/
def F.PT_LN_REBIND : Fld := ⟨0xC0098, 0, 32, .rc, .hard, 0⟩
/-- PT_RXQ_BIND (12 R375). -/
def F.PT_RXQ_BIND : Fld := ⟨0xC009C, 0, 32, .rc, .hard, 0⟩
/-- PT_DMA_WAIT (12 R375). -/
def F.PT_DMA_WAIT : Fld := ⟨0xC00A0, 0, 32, .rc, .hard, 0⟩
/-- PT_NO_CHOICE (12 R375). -/
def F.PT_NO_CHOICE : Fld := ⟨0xC00A4, 0, 32, .rc, .hard, 0⟩
/-- PT_TRACE_LOST (12 R375). -/
def F.PT_TRACE_LOST : Fld := ⟨0xC00A8, 0, 32, .rc, .hard, 0⟩
/-- PT_MSEL (12 R376). -/
def F.PT_MSEL : Fld := ⟨0xC0040, 0, 2, .rw, .live, 0⟩
/-- PT_MADDR (12 R376). -/
def F.PT_MADDR : Fld := ⟨0xC0044, 0, 16, .rw, .live, 0⟩
/-- PT_MDATA_LO (12 R376). -/
def F.PT_MDATA_LO : Fld := ⟨0xC0048, 0, 32, .rw, .live, 0⟩
/-- PT_MDATA_HI (12 R376). -/
def F.PT_MDATA_HI : Fld := ⟨0xC004C, 0, 32, .rw, .live, 0⟩
/-- MB_CTRL (13 R389). -/
def F.MB_CTRL_BIND_LOCK : Fld := ⟨0x100000, 31, 1, .w1s, .live, 0⟩
def F.MB_CTRL_EN : Fld := ⟨0x100000, 0, 1, .rw, .live, 0⟩
/-- MB_STATUS (13 R389). -/
def F.MB_STATUS_BIND_ERR_SEEN : Fld := ⟨0x100004, 31, 1, .w1c, .live, 0⟩
def F.MB_STATUS_BIND_ERR : Fld := ⟨0x100004, 0, 4, .ro, .hard, 0⟩
/-- MB_RR (13 R389). -/
def F.MB_RR : Fld := ⟨0x100008, 0, 6, .ro, .hard, 0⟩
/-- MB_NOTIFY_PEND_LO (13 R389). -/
def F.MB_NOTIFY_PEND_LO (b : Nat) : Fld := ⟨0x100010 + 0x1000000 * b, 0, 32, .w1c, .live, 0⟩
/-- MB_NOTIFY_PEND_HI (13 R389). -/
def F.MB_NOTIFY_PEND_HI (b : Nat) : Fld := ⟨0x100014 + 0x1000000 * b, 0, 32, .w1c, .live, 0⟩
/-- MB_EMPTY_PEND_LO (13 R389). -/
def F.MB_EMPTY_PEND_LO (b : Nat) : Fld := ⟨0x100018 + 0x1000000 * b, 0, 32, .w1c, .live, 0⟩
/-- MB_EMPTY_PEND_HI (13 R389). -/
def F.MB_EMPTY_PEND_HI (b : Nat) : Fld := ⟨0x10001C + 0x1000000 * b, 0, 32, .w1c, .live, 0⟩
/-- MB_NOTIFY_IE_LO (13 R389). -/
def F.MB_NOTIFY_IE_LO (b : Nat) : Fld := ⟨0x100020 + 0x1000000 * b, 0, 32, .rw, .live, 0⟩
/-- MB_NOTIFY_IE_HI (13 R389). -/
def F.MB_NOTIFY_IE_HI (b : Nat) : Fld := ⟨0x100024 + 0x1000000 * b, 0, 32, .rw, .live, 0⟩
/-- MB_EMPTY_IE_LO (13 R389). -/
def F.MB_EMPTY_IE_LO (b : Nat) : Fld := ⟨0x100028 + 0x1000000 * b, 0, 32, .rw, .live, 0⟩
/-- MB_EMPTY_IE_HI (13 R389). -/
def F.MB_EMPTY_IE_HI (b : Nat) : Fld := ⟨0x10002C + 0x1000000 * b, 0, 32, .rw, .live, 0⟩
/-- MB_POSTS (13 R389). -/
def F.MB_POSTS : Fld := ⟨0x100080, 0, 32, .rc, .hard, 0⟩
/-- MB_POST_REJ (13 R389). -/
def F.MB_POST_REJ : Fld := ⟨0x100084, 0, 32, .rc, .hard, 0⟩
/-- MB_EMPTY_IGN (13 R389). -/
def F.MB_EMPTY_IGN : Fld := ⟨0x100088, 0, 32, .rc, .hard, 0⟩
/-- MB_LOCK_BUSY (13 R389). -/
def F.MB_LOCK_BUSY : Fld := ⟨0x10008C, 0, 32, .rc, .hard, 0⟩
/-- MB_REJ (13 R389). -/
def F.MB_REJ : Fld := ⟨0x100090, 0, 32, .rc, .hard, 0⟩
/-- MB_CH_PTR_LO (13 R389). -/
def F.MB_CH_PTR_LO (n : Nat) : Fld := ⟨0x100100 + 0x20 * n, 0, 32, .rw, .live, 0⟩
/-- MB_CH_PTR_HI (13 R389). -/
def F.MB_CH_PTR_HI (n : Nat) : Fld := ⟨0x100104 + 0x20 * n, 0, 32, .rw, .live, 0⟩
/-- MB_CH_TAG (13 R389). -/
def F.MB_CH_TAG (n : Nat) : Fld := ⟨0x100108 + 0x20 * n, 0, 32, .rw, .live, 0⟩
/-- MB_CH_CMD (13 R389). -/
def F.MB_CH_CMD_EMPTY (n : Nat) : Fld := ⟨0x100110 + 0x20 * n, 0, 1, .wo, .live, 0⟩
/-- MB_CH_LOCK (13 R389). -/
def F.MB_CH_LOCK (n : Nat) : Fld := ⟨0x100114 + 0x20 * n, 0, 32, .rw, .live, 0⟩
/-- MB_CH_STAT (13 R389). -/
def F.MB_CH_STAT_FULL (n : Nat) : Fld := ⟨0x10010C + 0x20 * n, 31, 1, .ro, .hard, 0⟩
def F.MB_CH_STAT_LOCKED (n : Nat) : Fld := ⟨0x10010C + 0x20 * n, 30, 1, .ro, .hard, 0⟩
def F.MB_CH_STAT_POST_REJ (n : Nat) : Fld := ⟨0x10010C + 0x20 * n, 29, 1, .w1c, .live, 0⟩
def F.MB_CH_STAT_LOCK_OWNER (n : Nat) : Fld := ⟨0x10010C + 0x20 * n, 16, 6, .ro, .hard, 0⟩
/-- MB_BIND_n (13 R389). -/
def F.MB_BIND_n_VALID (n : Nat) : Fld := ⟨0x100A00 + 0x4 * n, 31, 1, .rw, .live, if n < 8 then 1 else 0⟩
def F.MB_BIND_n_RECEIVER (n : Nat) : Fld := ⟨0x100A00 + 0x4 * n, 8, 6, .rw, .live, if n < 4 then 0 else if n < 8 then 0x20 else 0⟩
def F.MB_BIND_n_SENDER (n : Nat) : Fld := ⟨0x100A00 + 0x4 * n, 0, 6, .rw, .live, if n < 4 then 0x20 else 0⟩
/-- MB_VF_IRQ (13 R389). -/
def F.MB_VF_IRQ_EN (v : Nat) : Fld := ⟨0x211820 + 0x10000 * v, 31, 1, .rw, .live, 0⟩
def F.MB_VF_IRQ_VEC (v : Nat) : Fld := ⟨0x211820 + 0x10000 * v, 0, 5, .rw, .live, 0x00⟩
/-- AC_CTRL (14 R414). -/
def F.AC_CTRL_LOCK : Fld := ⟨0x130000, 31, 1, .w1s, .live, 0⟩
def F.AC_CTRL_DBG_END : Fld := ⟨0x130000, 30, 1, .wo, .live, 0⟩
/-- AC_STATUS (14 R414). -/
def F.AC_STATUS_LOCKED : Fld := ⟨0x130004, 31, 1, .ro, .hard, 0⟩
def F.AC_STATUS_LOADED : Fld := ⟨0x130004, 30, 1, .ro, .hard, 0⟩
def F.AC_STATUS_RETURN_ARMED : Fld := ⟨0x130004, 29, 1, .ro, .hard, 0⟩
def F.AC_STATUS_DENY_SEEN : Fld := ⟨0x130004, 28, 1, .w1c, .live, 0⟩
def F.AC_STATUS_REOWN : Fld := ⟨0x130004, 20, 4, .ro, .hard, 0⟩
def F.AC_STATUS_LC : Fld := ⟨0x130004, 8, 3, .ro, .hard, 2⟩
def F.AC_STATUS_DBG : Fld := ⟨0x130004, 4, 2, .ro, .hard, 0⟩
/-- AC_DENY_INFO (14 R414). -/
def F.AC_DENY_INFO_VALID : Fld := ⟨0x130008, 31, 1, .w1c, .live, 0⟩
def F.AC_DENY_INFO_OP : Fld := ⟨0x130008, 28, 3, .ro, .hard, 0⟩
def F.AC_DENY_INFO_MASTER : Fld := ⟨0x130008, 22, 6, .ro, .hard, 0⟩
def F.AC_DENY_INFO_TARGET : Fld := ⟨0x130008, 16, 5, .ro, .hard, 0⟩
def F.AC_DENY_INFO_OFFSET : Fld := ⟨0x130008, 0, 16, .ro, .hard, 0⟩
/-- AC_TOKEN_RESULT (14 R414). -/
def F.AC_TOKEN_RESULT_DONE : Fld := ⟨0x130020, 31, 1, .ro, .hard, 0⟩
def F.AC_TOKEN_RESULT_KIND : Fld := ⟨0x130020, 24, 4, .ro, .hard, 0⟩
def F.AC_TOKEN_RESULT_CODE : Fld := ⟨0x130020, 0, 4, .ro, .hard, 0⟩
/-- AC_DENY_CNT (14 R414). -/
def F.AC_DENY_CNT : Fld := ⟨0x13000C, 0, 32, .rc, .hard, 0⟩
/-- AC_LOCK_REJ (14 R414). -/
def F.AC_LOCK_REJ : Fld := ⟨0x130010, 0, 32, .rc, .hard, 0⟩
/-- AC_OWNER_HASH_n (14 R414). -/
def F.AC_OWNER_HASH_n (n : Nat) : Fld := ⟨0x130040 + 0x4 * n, 0, 32, .ro, .hard, 0⟩
/-- AC_TBL_t_w (14 R414). -/
def F.AC_TBL_t_w (t w : Nat) : Fld := ⟨0x131000 + 0x20 * t + 0x4 * w, 0, 32, .rw, .live, Config.accessDefault t w⟩
/-- CRP_PWR_REQ (14 R415). -/
def F.CRP_PWR_REQ_CONFIRM : Fld := ⟨0x10100, 24, 8, .wo, .live, 0⟩
def F.CRP_PWR_REQ_STATE : Fld := ⟨0x10100, 0, 2, .wo, .live, 0⟩
/-- CRP_PWR_STATUS (14 R415). -/
def F.CRP_PWR_STATUS_BUSY : Fld := ⟨0x10104, 31, 1, .ro, .hard, 0⟩
def F.CRP_PWR_STATUS_REJ : Fld := ⟨0x10104, 30, 1, .w1c, .live, 0⟩
def F.CRP_PWR_STATUS_REJ_CODE : Fld := ⟨0x10104, 8, 4, .ro, .hard, 0⟩
def F.CRP_PWR_STATUS_STATE : Fld := ⟨0x10104, 0, 2, .ro, .hard, 0⟩
/-- CRP_PWR_CFG (14 R415). -/
def F.CRP_PWR_CFG_FPWR_HOLD : Fld := ⟨0x10108, 31, 1, .rw, .live, 1⟩
def F.CRP_PWR_CFG_SPARE_HOLD : Fld := ⟨0x10108, 30, 1, .rw, .live, 1⟩
def F.CRP_PWR_CFG_WAKE_US : Fld := ⟨0x10108, 0, 16, .rw, .live, 0x01F4⟩
/-- CRP_WIPE_STATUS (14 R415). -/
def F.CRP_WIPE_STATUS_SRAM : Fld := ⟨0x10110, 31, 1, .ro, .hard, 1⟩
def F.CRP_WIPE_STATUS_DRAM : Fld := ⟨0x10110, 30, 1, .ro, .hard, 1⟩
def F.CRP_WIPE_STATUS_NOR : Fld := ⟨0x10110, 29, 1, .ro, .hard, 0⟩
/-- CRP_HOLD_CNT (14 R415). -/
def F.CRP_HOLD_CNT : Fld := ⟨0x10120, 0, 32, .rc, .hard, 0⟩
/-- CRP_TRIM_WAKE (14 R415). -/
def F.CRP_TRIM_WAKE : Fld := ⟨0x10124, 0, 32, .rc, .hard, 0⟩
/-- CL_CTRL (15 R434). -/
def F.CL_CTRL_ERR_RELEASE : Fld := ⟨0x110000, 31, 1, .wo, .live, 0⟩
def F.CL_CTRL_BOOK_POP : Fld := ⟨0x110000, 30, 1, .wo, .live, 0⟩
def F.CL_CTRL_BOOK_CLEAR : Fld := ⟨0x110000, 29, 1, .wo, .live, 0⟩
def F.CL_CTRL_FAULT_MIN : Fld := ⟨0x110000, 4, 2, .rw, .live, 2⟩
def F.CL_CTRL_ALERT_EN : Fld := ⟨0x110000, 0, 1, .rw, .live, 1⟩
/-- CL_STATUS (15 R434). -/
def F.CL_STATUS_FAULT : Fld := ⟨0x110004, 31, 1, .ro, .hard, 0⟩
def F.CL_STATUS_ERR_PAD : Fld := ⟨0x110004, 30, 1, .ro, .hard, 0⟩
def F.CL_STATUS_PULSE : Fld := ⟨0x110004, 29, 1, .ro, .hard, 0⟩
def F.CL_STATUS_REL_PEND : Fld := ⟨0x110004, 28, 1, .ro, .hard, 0⟩
def F.CL_STATUS_BOOK_OVF : Fld := ⟨0x110004, 26, 1, .w1c, .live, 0⟩
/-- CL_STORM_CFG (15 R434). -/
def F.CL_STORM_CFG_WINDOW_MS : Fld := ⟨0x110014, 16, 16, .rw, .live, 0x03E8⟩
def F.CL_STORM_CFG_COUNT : Fld := ⟨0x110014, 0, 8, .rw, .live, 0x04⟩
/-- CL_LAST_RESET (15 R434). -/
def F.CL_LAST_RESET_VALID : Fld := ⟨0x110030, 31, 1, .ro, .hard, 0⟩
def F.CL_LAST_RESET_KIND : Fld := ⟨0x110030, 28, 3, .ro, .hard, 0⟩
def F.CL_LAST_RESET_INST : Fld := ⟨0x110030, 8, 8, .ro, .hard, 0⟩
def F.CL_LAST_RESET_SOURCE : Fld := ⟨0x110030, 0, 8, .ro, .hard, 0⟩
/-- CL_TEST (15 R434). -/
def F.CL_TEST_GO : Fld := ⟨0x110040, 31, 1, .wo, .live, 0⟩
def F.CL_TEST_SOURCE : Fld := ⟨0x110040, 0, 8, .wo, .live, 0⟩
/-- CL_SRC_CFG_n (15 R434). -/
def F.CL_SRC_CFG_n_EN (n : Nat) : Fld := ⟨0x110400 + 0x4 * n, 31, 1, .rw, .live, 1⟩
def F.CL_SRC_CFG_n_BLK (n : Nat) : Fld := ⟨0x110400 + 0x4 * n, 16, 8, .rw, .live, Config.srcBlk n⟩
def F.CL_SRC_CFG_n_ERRPAD (n : Nat) : Fld := ⟨0x110400 + 0x4 * n, 12, 1, .rw, .live, if Config.srcSev n = 3 then 1 else 0⟩
def F.CL_SRC_CFG_n_CHIPRST (n : Nat) : Fld := ⟨0x110400 + 0x4 * n, 11, 1, .rw, .live, if n = 7 ∨ n = 13 ∨ n = 117 then 1 else 0⟩
def F.CL_SRC_CFG_n_BLKRST (n : Nat) : Fld := ⟨0x110400 + 0x4 * n, 10, 1, .rw, .live, if Config.srcBlk n = 0xFF then 0 else 1⟩
def F.CL_SRC_CFG_n_NMI (n : Nat) : Fld := ⟨0x110400 + 0x4 * n, 9, 1, .rw, .live, if 2 ≤ Config.srcSev n then 1 else 0⟩
def F.CL_SRC_CFG_n_IRQ (n : Nat) : Fld := ⟨0x110400 + 0x4 * n, 8, 1, .rw, .live, if 1 ≤ Config.srcSev n then 1 else 0⟩
def F.CL_SRC_CFG_n_SEV (n : Nat) : Fld := ⟨0x110400 + 0x4 * n, 0, 2, .rw, .live, Config.srcSev n⟩
/-- CL_ERR_WIDTH (15 R434). -/
def F.CL_ERR_WIDTH : Fld := ⟨0x110008, 0, 14, .rw, .live, 10⟩
/-- CL_QUIET (15 R434). -/
def F.CL_QUIET : Fld := ⟨0x11000C, 0, 16, .rw, .live, 1000⟩
/-- CL_SETTLE (15 R434). -/
def F.CL_SETTLE : Fld := ⟨0x110010, 0, 14, .rw, .live, 100⟩
/-- CL_HELD (15 R434). -/
def F.CL_HELD : Fld := ⟨0x110018, 0, 22, .w1c, .live, 0⟩
/-- CL_RECOVER_CNT (15 R434). -/
def F.CL_RECOVER_CNT : Fld := ⟨0x110020, 0, 32, .rc, .hard, 0⟩
/-- CL_FAULT_CNT (15 R434). -/
def F.CL_FAULT_CNT : Fld := ⟨0x110024, 0, 32, .rc, .hard, 0⟩
/-- CL_LAST_RESET_DT_LO (15 R434). -/
def F.CL_LAST_RESET_DT_LO : Fld := ⟨0x110034, 0, 32, .ro, .hard, 0⟩
/-- CL_LAST_RESET_DT_HI (15 R434). -/
def F.CL_LAST_RESET_DT_HI : Fld := ⟨0x110038, 0, 32, .ro, .hard, 0⟩
/-- CL_SRC_CNT_n (15 R434). -/
def F.CL_SRC_CNT_n (n : Nat) : Fld := ⟨0x110800 + 0x4 * n, 0, 32, .rc, .hard, 0⟩
/-- CL_ACTIVE_w (15 R434). -/
def F.CL_ACTIVE_w (w : Nat) : Fld := ⟨0x110C00 + 0x4 * w, 0, 32, .ro, .hard, 0⟩
/-- CL_PEND_w (15 R434). -/
def F.CL_PEND_w (w : Nat) : Fld := ⟨0x110C20 + 0x4 * w, 0, 32, .w1c, .live, 0⟩
/-- MG_STATUS (16 R455). -/
def F.MG_STATUS_REQ_BUSY : Fld := ⟨0x140000, 7, 1, .ro, .hard, 0⟩
def F.MG_STATUS_EBAIN : Fld := ⟨0x140000, 5, 2, .ro, .hard, 0⟩
def F.MG_STATUS_SLOT : Fld := ⟨0x140000, 4, 1, .ro, .hard, 0⟩
def F.MG_STATUS_STATE : Fld := ⟨0x140000, 0, 3, .ro, .hard, 0⟩
/-- MG_EVT (16 R455). -/
def F.MG_EVT_LOG_WRAP : Fld := ⟨0x140004, 6, 1, .w1c, .live, 0⟩
def F.MG_EVT_SUB_DONE : Fld := ⟨0x140004, 5, 1, .w1c, .live, 0⟩
def F.MG_EVT_SENSOR : Fld := ⟨0x140004, 4, 1, .w1c, .live, 0⟩
def F.MG_EVT_EBAIN_STAGED : Fld := ⟨0x140004, 3, 1, .w1c, .live, 0⟩
def F.MG_EVT_FW_REVERTED : Fld := ⟨0x140004, 2, 1, .w1c, .live, 0⟩
def F.MG_EVT_FW_ACTIVE : Fld := ⟨0x140004, 1, 1, .w1c, .live, 0⟩
def F.MG_EVT_FW_STAGED : Fld := ⟨0x140004, 0, 1, .w1c, .live, 0⟩
/-- MG_EVT_IE (16 R455). -/
def F.MG_EVT_IE_LOG_WRAP : Fld := ⟨0x140008, 6, 1, .rw, .live, 0⟩
def F.MG_EVT_IE_SUB_DONE : Fld := ⟨0x140008, 5, 1, .rw, .live, 0⟩
def F.MG_EVT_IE_SENSOR : Fld := ⟨0x140008, 4, 1, .rw, .live, 0⟩
def F.MG_EVT_IE_EBAIN_STAGED : Fld := ⟨0x140008, 3, 1, .rw, .live, 0⟩
def F.MG_EVT_IE_FW_REVERTED : Fld := ⟨0x140008, 2, 1, .rw, .live, 0⟩
def F.MG_EVT_IE_FW_ACTIVE : Fld := ⟨0x140008, 1, 1, .rw, .live, 0⟩
def F.MG_EVT_IE_FW_STAGED : Fld := ⟨0x140008, 0, 1, .rw, .live, 0⟩
/-- MG_EBAIN_STAT (16 R455). -/
def F.MG_EBAIN_STAT_A_RESULT : Fld := ⟨0x14002C, 30, 2, .ro, .hard, 0⟩
def F.MG_EBAIN_STAT_B_RESULT : Fld := ⟨0x14002C, 28, 2, .ro, .hard, 0⟩
def F.MG_EBAIN_STAT_FIRST_SECT : Fld := ⟨0x14002C, 16, 6, .ro, .hard, 0⟩
def F.MG_EBAIN_STAT_REC_ERR : Fld := ⟨0x14002C, 0, 16, .ro, .hard, 0⟩
/-- MG_TEMP_THR (16 R455). -/
def F.MG_TEMP_THR_CRIT : Fld := ⟨0x1400A4, 16, 16, .rw, .live, 0x0730⟩
def F.MG_TEMP_THR_WARN : Fld := ⟨0x1400A4, 0, 16, .rw, .live, 0x0690⟩
/-- MG_I2C_CFG (16 R455). -/
def F.MG_I2C_CFG_EN : Fld := ⟨0x1400C4, 31, 1, .rw, .live, 1⟩
def F.MG_I2C_CFG_ADDR : Fld := ⟨0x1400C4, 0, 7, .rw, .live, 0x4C⟩
/-- MG_FW_TRIAL (16 R455). -/
def F.MG_FW_TRIAL : Fld := ⟨0x14000C, 0, 16, .rw, .live, 600⟩
/-- MG_FW_A_VER (16 R455). -/
def F.MG_FW_A_VER : Fld := ⟨0x140010, 0, 32, .ro, .hard, 0⟩
/-- MG_FW_B_VER (16 R455). -/
def F.MG_FW_B_VER : Fld := ⟨0x140014, 0, 32, .ro, .hard, 0⟩
/-- MG_FW_CNT (16 R455). -/
def F.MG_FW_CNT : Fld := ⟨0x140018, 0, 6, .ro, .hard, 0⟩
/-- MG_EBAIN_A_VER (16 R455). -/
def F.MG_EBAIN_A_VER : Fld := ⟨0x140020, 0, 32, .ro, .hard, 0⟩
/-- MG_EBAIN_B_VER (16 R455). -/
def F.MG_EBAIN_B_VER : Fld := ⟨0x140024, 0, 32, .ro, .hard, 0⟩
/-- MG_EBAIN_CNT (16 R455). -/
def F.MG_EBAIN_CNT : Fld := ⟨0x140028, 0, 32, .ro, .hard, 0⟩
/-- MG_BOOT_CNT (16 R455). -/
def F.MG_BOOT_CNT : Fld := ⟨0x140030, 0, 32, .ro, .hard, 0⟩
/-- MG_HOURS (16 R455). -/
def F.MG_HOURS : Fld := ⟨0x140034, 0, 32, .ro, .hard, 0⟩
/-- MG_TEMP_n (16 R455). -/
def F.MG_TEMP_n (n : Nat) : Fld := ⟨0x140040 + 0x4 * n, 0, 16, .ro, .hard, 0⟩
/-- MG_TEMP_MAX (16 R455). -/
def F.MG_TEMP_MAX_LIFE : Fld := ⟨0x140050, 16, 16, .ro, .hard, 0⟩
def F.MG_TEMP_MAX_CHIP : Fld := ⟨0x140050, 0, 16, .ro, .hard, 0⟩
/-- MG_SUP_n (16 R455). -/
def F.MG_SUP_n (n : Nat) : Fld := ⟨0x140060 + 0x4 * n, 0, 16, .ro, .hard, 0⟩
/-- MG_FCUR_n (16 R455). -/
def F.MG_FCUR_n (n : Nat) : Fld := ⟨0x140080 + 0x4 * n, 0, 16, .ro, .hard, 0⟩
/-- MG_FCUR_TOT (16 R455). -/
def F.MG_FCUR_TOT : Fld := ⟨0x1400A0, 0, 16, .ro, .hard, 0⟩
/-- MG_LOG_HEAD (16 R455). -/
def F.MG_LOG_HEAD : Fld := ⟨0x1400B0, 0, 32, .ro, .hard, 0⟩
/-- MG_LOG_OLDEST (16 R455). -/
def F.MG_LOG_OLDEST : Fld := ⟨0x1400B8, 0, 32, .ro, .hard, 0⟩
/-- MG_LOG_DROP (16 R455). -/
def F.MG_LOG_DROP : Fld := ⟨0x1400BC, 0, 32, .rc, .hard, 0⟩
/-- MG_LOG_CFG (16 R455). -/
def F.MG_LOG_CFG : Fld := ⟨0x1400C0, 0, 8, .rw, .live, 32⟩
/-- SP_CTRL (16 R456). -/
def F.SP_CTRL_REPAIR_EN : Fld := ⟨0x150000, 1, 1, .rw, .live, 1⟩
def F.SP_CTRL_EN : Fld := ⟨0x150000, 0, 1, .rw, .live, 1⟩
/-- SP_CFG (16 R456). -/
def F.SP_CFG_STALL_S : Fld := ⟨0x150008, 16, 16, .rw, .live, 0x003C⟩
def F.SP_CFG_CE_THR : Fld := ⟨0x150008, 0, 8, .rw, .live, 0x03⟩
/-- SP_AGE_THR (16 R456). -/
def F.SP_AGE_THR_LIMIT : Fld := ⟨0x15000C, 16, 16, .rw, .live, 0x01F4⟩
def F.SP_AGE_THR_WARN : Fld := ⟨0x15000C, 0, 16, .rw, .live, 0x012C⟩
/-- SP_SUB_CNT (16 R456). -/
def F.SP_SUB_CNT : Fld := ⟨0x150010, 0, 32, .rc, .hard, 0⟩
/-- SP_STALL_CNT (16 R456). -/
def F.SP_STALL_CNT : Fld := ⟨0x150014, 0, 32, .rc, .hard, 0⟩
/-- SP_FAIL_CNT (16 R456). -/
def F.SP_FAIL_CNT : Fld := ⟨0x150018, 0, 32, .rc, .hard, 0⟩
/-- SP_CLASS_n (16 R456). -/
def F.SP_CLASS_n_USED (n : Nat) : Fld := ⟨0x150020 + 0x4 * n, 16, 16, .ro, .hard, 0⟩
def F.SP_CLASS_n_REMAIN (n : Nat) : Fld := ⟨0x150020 + 0x4 * n, 0, 16, .ro, .hard, Config.spareCount n⟩
/-- SP_AGE_n (16 R456). -/
def F.SP_AGE_n_REMAIN_WK (n : Nat) : Fld := ⟨0x150040 + 0x4 * n, 16, 16, .ro, .hard, 0⟩
def F.SP_AGE_n_DEGR (n : Nat) : Fld := ⟨0x150040 + 0x4 * n, 0, 16, .ro, .hard, 65535⟩
/-- SP_LAST_DT_LO (16 R456). -/
def F.SP_LAST_DT_LO : Fld := ⟨0x150070, 0, 32, .ro, .hard, 0⟩
/-- SP_LAST_DT_HI (16 R456). -/
def F.SP_LAST_DT_HI : Fld := ⟨0x150074, 0, 32, .ro, .hard, 0⟩
/-- BP_CTRL (17 R479). -/
def F.BP_CTRL_RESTART_AN (p : Nat) : Fld := ⟨0x30000 + 0x10000 * p, 31, 1, .wo, .live, 0⟩
def F.BP_CTRL_MODE (p : Nat) : Fld := ⟨0x30000 + 0x10000 * p, 4, 2, .rw, .frozen, 0⟩
def F.BP_CTRL_AN_EN (p : Nat) : Fld := ⟨0x30000 + 0x10000 * p, 3, 1, .rw, .frozen, 1⟩
def F.BP_CTRL_LOOP (p : Nat) : Fld := ⟨0x30000 + 0x10000 * p, 2, 1, .rw, .frozen, 0⟩
def F.BP_CTRL_EN (p : Nat) : Fld := ⟨0x30000 + 0x10000 * p, 0, 1, .rw, .live, 0⟩
/-- BP_STATUS (17 R479). -/
def F.BP_STATUS_LINK (p : Nat) : Fld := ⟨0x30004 + 0x10000 * p, 31, 1, .ro, .hard, 0⟩
def F.BP_STATUS_CDR_LOCK (p : Nat) : Fld := ⟨0x30004 + 0x10000 * p, 30, 1, .ro, .hard, 0⟩
def F.BP_STATUS_PCS_LOCK (p : Nat) : Fld := ⟨0x30004 + 0x10000 * p, 29, 1, .ro, .hard, 0⟩
def F.BP_STATUS_HI_BER (p : Nat) : Fld := ⟨0x30004 + 0x10000 * p, 28, 1, .ro, .hard, 0⟩
def F.BP_STATUS_LF (p : Nat) : Fld := ⟨0x30004 + 0x10000 * p, 27, 1, .ro, .hard, 0⟩
def F.BP_STATUS_RF (p : Nat) : Fld := ⟨0x30004 + 0x10000 * p, 26, 1, .ro, .hard, 0⟩
def F.BP_STATUS_AN_DONE (p : Nat) : Fld := ⟨0x30004 + 0x10000 * p, 25, 1, .ro, .hard, 0⟩
def F.BP_STATUS_SPEED_ERR (p : Nat) : Fld := ⟨0x30004 + 0x10000 * p, 24, 1, .ro, .hard, 0⟩
def F.BP_STATUS_STATE (p : Nat) : Fld := ⟨0x30004 + 0x10000 * p, 0, 3, .ro, .hard, 0⟩
/-- BP_CFG (17 R479). -/
def F.BP_CFG_DEF_PRIO (p : Nat) : Fld := ⟨0x30008 + 0x10000 * p, 16, 3, .rw, .live, 0⟩
def F.BP_CFG_MAX_FRAME (p : Nat) : Fld := ⟨0x30008 + 0x10000 * p, 0, 14, .rw, .frozen, 0x05F2⟩
/-- BP_MDIO_CMD (17 R479). -/
def F.BP_MDIO_CMD_GO : Fld := ⟨0x30044, 31, 1, .wo, .live, 0⟩
def F.BP_MDIO_CMD_ST : Fld := ⟨0x30044, 30, 1, .wo, .live, 0⟩
def F.BP_MDIO_CMD_OP : Fld := ⟨0x30044, 28, 2, .wo, .live, 0⟩
def F.BP_MDIO_CMD_PHYAD : Fld := ⟨0x30044, 21, 5, .wo, .live, 0⟩
def F.BP_MDIO_CMD_REGAD : Fld := ⟨0x30044, 16, 5, .wo, .live, 0⟩
def F.BP_MDIO_CMD_DATA : Fld := ⟨0x30044, 0, 16, .wo, .live, 0⟩
/-- BP_MDIO_STAT (17 R479). -/
def F.BP_MDIO_STAT_BUSY : Fld := ⟨0x30048, 31, 1, .ro, .hard, 0⟩
def F.BP_MDIO_STAT_ERR_SEEN : Fld := ⟨0x30048, 30, 1, .w1c, .live, 0⟩
def F.BP_MDIO_STAT_ERR : Fld := ⟨0x30048, 16, 2, .ro, .hard, 0⟩
def F.BP_MDIO_STAT_RDATA : Fld := ⟨0x30048, 0, 16, .ro, .hard, 0⟩
/-- BP_PCP_MAP (17 R479). -/
def F.BP_PCP_MAP (p : Nat) : Fld := ⟨0x3000C + 0x10000 * p, 0, 24, .rw, .live, 16434824⟩
/-- BP_AN_ADV (17 R479). -/
def F.BP_AN_ADV (p : Nat) : Fld := ⟨0x30010 + 0x10000 * p, 0, 2, .rw, .frozen, 0⟩
/-- BP_AN_LP (17 R479). -/
def F.BP_AN_LP (p : Nat) : Fld := ⟨0x30014 + 0x10000 * p, 0, 16, .ro, .hard, 0⟩
/-- BP_MAC_LO (17 R479). -/
def F.BP_MAC_LO (p : Nat) : Fld := ⟨0x30018 + 0x10000 * p, 0, 32, .rw, .live, 0⟩
/-- BP_MAC_HI (17 R479). -/
def F.BP_MAC_HI (p : Nat) : Fld := ⟨0x3001C + 0x10000 * p, 0, 16, .rw, .live, 0⟩
/-- BP_LINK_HOLD (17 R479). -/
def F.BP_LINK_HOLD (p : Nat) : Fld := ⟨0x30020 + 0x10000 * p, 0, 16, .rw, .live, 10⟩
/-- BP_FCS_THR (17 R479). -/
def F.BP_FCS_THR (p : Nat) : Fld := ⟨0x30024 + 0x10000 * p, 0, 32, .rw, .live, 100⟩
/-- BP_PHYINT (17 R479). -/
def F.BP_PHYINT (p : Nat) : Fld := ⟨0x30028 + 0x10000 * p, 0, 1, .rw, .live, 0⟩
/-- BP_MDIO_CFG (17 R479). -/
def F.BP_MDIO_CFG : Fld := ⟨0x30040, 0, 4, .rw, .live, 4⟩
/-- BP_RX_FRAMES_LO (17 R479). -/
def F.BP_RX_FRAMES_LO (p : Nat) : Fld := ⟨0x30100 + 0x10000 * p, 0, 32, .rc, .hard, 0⟩
/-- BP_RX_FRAMES_HI (17 R479). -/
def F.BP_RX_FRAMES_HI (p : Nat) : Fld := ⟨0x30104 + 0x10000 * p, 0, 32, .rc, .hard, 0⟩
/-- BP_RX_BYTES_LO (17 R479). -/
def F.BP_RX_BYTES_LO (p : Nat) : Fld := ⟨0x30108 + 0x10000 * p, 0, 32, .rc, .hard, 0⟩
/-- BP_RX_BYTES_HI (17 R479). -/
def F.BP_RX_BYTES_HI (p : Nat) : Fld := ⟨0x3010C + 0x10000 * p, 0, 32, .rc, .hard, 0⟩
/-- BP_TX_FRAMES_LO (17 R479). -/
def F.BP_TX_FRAMES_LO (p : Nat) : Fld := ⟨0x30110 + 0x10000 * p, 0, 32, .rc, .hard, 0⟩
/-- BP_TX_FRAMES_HI (17 R479). -/
def F.BP_TX_FRAMES_HI (p : Nat) : Fld := ⟨0x30114 + 0x10000 * p, 0, 32, .rc, .hard, 0⟩
/-- BP_TX_BYTES_LO (17 R479). -/
def F.BP_TX_BYTES_LO (p : Nat) : Fld := ⟨0x30118 + 0x10000 * p, 0, 32, .rc, .hard, 0⟩
/-- BP_TX_BYTES_HI (17 R479). -/
def F.BP_TX_BYTES_HI (p : Nat) : Fld := ⟨0x3011C + 0x10000 * p, 0, 32, .rc, .hard, 0⟩
/-- BP_RX_FCS_ERR (17 R479). -/
def F.BP_RX_FCS_ERR (p : Nat) : Fld := ⟨0x30120 + 0x10000 * p, 0, 32, .rc, .hard, 0⟩
/-- BP_RX_RUNT (17 R479). -/
def F.BP_RX_RUNT (p : Nat) : Fld := ⟨0x30124 + 0x10000 * p, 0, 32, .rc, .hard, 0⟩
/-- BP_RX_OVERSIZE (17 R479). -/
def F.BP_RX_OVERSIZE (p : Nat) : Fld := ⟨0x30128 + 0x10000 * p, 0, 32, .rc, .hard, 0⟩
/-- BP_RX_NOCELL (17 R479). -/
def F.BP_RX_NOCELL (p : Nat) : Fld := ⟨0x3012C + 0x10000 * p, 0, 32, .rc, .hard, 0⟩
/-- BP_RX_OVF (17 R479). -/
def F.BP_RX_OVF (p : Nat) : Fld := ⟨0x30130 + 0x10000 * p, 0, 32, .rc, .hard, 0⟩
/-- BP_PCS_ERR (17 R479). -/
def F.BP_PCS_ERR (p : Nat) : Fld := ⟨0x30134 + 0x10000 * p, 0, 32, .rc, .hard, 0⟩
/-- BP_LINK_DOWN_CNT (17 R479). -/
def F.BP_LINK_DOWN_CNT (p : Nat) : Fld := ⟨0x30138 + 0x10000 * p, 0, 32, .rc, .hard, 0⟩
/-- BP_TS_LOST (17 R479). -/
def F.BP_TS_LOST (p : Nat) : Fld := ⟨0x3013C + 0x10000 * p, 0, 32, .rc, .hard, 0⟩
/-- FD_CTRL (17 R480). -/
def F.FD_CTRL_FRESET : Fld := ⟨0x50000, 31, 1, .wo, .live, 0⟩
def F.FD_CTRL_SAFE_PWR : Fld := ⟨0x50000, 2, 1, .rw, .live, 0⟩
def F.FD_CTRL_PWR_EN : Fld := ⟨0x50000, 1, 1, .rw, .live, 0⟩
/-- FD_STATUS (17 R480). -/
def F.FD_STATUS_ISO_UP : Fld := ⟨0x50004, 31, 1, .ro, .hard, 0⟩
def F.FD_STATUS_READY : Fld := ⟨0x50004, 30, 1, .ro, .hard, 0⟩
def F.FD_STATUS_FVIN_OK : Fld := ⟨0x50004, 29, 1, .ro, .hard, 0⟩
def F.FD_STATUS_FVIN_UV : Fld := ⟨0x50004, 28, 1, .ro, .hard, 1⟩
def F.FD_STATUS_FVIN_OV : Fld := ⟨0x50004, 27, 1, .ro, .hard, 0⟩
def F.FD_STATUS_SHED : Fld := ⟨0x50004, 0, 8, .ro, .hard, 0x00⟩
/-- FP_CTRL (17 R480). -/
def F.FP_CTRL_RESTART (n : Nat) : Fld := ⟨0x50400 + 0x80 * n, 31, 1, .wo, .live, 0⟩
def F.FP_CTRL_CLASS (n : Nat) : Fld := ⟨0x50400 + 0x80 * n, 16, 4, .rw, .live, 0xA⟩
def F.FP_CTRL_PRIO (n : Nat) : Fld := ⟨0x50400 + 0x80 * n, 13, 3, .rw, .live, 0⟩
def F.FP_CTRL_SCCP (n : Nat) : Fld := ⟨0x50400 + 0x80 * n, 12, 1, .rw, .live, 0⟩
def F.FP_CTRL_PWR_EN (n : Nat) : Fld := ⟨0x50400 + 0x80 * n, 11, 1, .rw, .live, 0⟩
def F.FP_CTRL_ROLE (n : Nat) : Fld := ⟨0x50400 + 0x80 * n, 5, 1, .rw, .frozen, 0⟩
def F.FP_CTRL_AMP (n : Nat) : Fld := ⟨0x50400 + 0x80 * n, 4, 1, .rw, .frozen, 0⟩
def F.FP_CTRL_AN_EN (n : Nat) : Fld := ⟨0x50400 + 0x80 * n, 3, 1, .rw, .frozen, 1⟩
def F.FP_CTRL_EN (n : Nat) : Fld := ⟨0x50400 + 0x80 * n, 0, 1, .rw, .live, 0⟩
/-- FP_STATUS (17 R480). -/
def F.FP_STATUS_LINK (n : Nat) : Fld := ⟨0x50404 + 0x80 * n, 31, 1, .ro, .hard, 0⟩
def F.FP_STATUS_POL_REV (n : Nat) : Fld := ⟨0x50404 + 0x80 * n, 30, 1, .ro, .hard, 0⟩
def F.FP_STATUS_AMP_ACT (n : Nat) : Fld := ⟨0x50404 + 0x80 * n, 29, 1, .ro, .hard, 0⟩
def F.FP_STATUS_ROLE_ACT (n : Nat) : Fld := ⟨0x50404 + 0x80 * n, 28, 1, .ro, .hard, 0⟩
def F.FP_STATUS_MISWIRE (n : Nat) : Fld := ⟨0x50404 + 0x80 * n, 27, 1, .ro, .hard, 0⟩
def F.FP_STATUS_REVERSED (n : Nat) : Fld := ⟨0x50404 + 0x80 * n, 26, 1, .ro, .hard, 0⟩
def F.FP_STATUS_CLASS_RD (n : Nat) : Fld := ⟨0x50404 + 0x80 * n, 16, 4, .ro, .hard, 0⟩
def F.FP_STATUS_PWR_STATE (n : Nat) : Fld := ⟨0x50404 + 0x80 * n, 8, 3, .ro, .hard, 0⟩
def F.FP_STATUS_LINK_STATE (n : Nat) : Fld := ⟨0x50404 + 0x80 * n, 0, 2, .ro, .hard, 0⟩
/-- FP_OC (17 R480). -/
def F.FP_OC_RETRY_MS (n : Nat) : Fld := ⟨0x50418 + 0x80 * n, 16, 16, .rw, .live, 0x03E8⟩
def F.FP_OC_RETRY_N (n : Nat) : Fld := ⟨0x50418 + 0x80 * n, 12, 4, .rw, .live, 0x3⟩
def F.FP_OC_OC_MS (n : Nat) : Fld := ⟨0x50418 + 0x80 * n, 0, 8, .rw, .live, 0x0A⟩
/-- FD_AGG_LIM (17 R480). -/
def F.FD_AGG_LIM : Fld := ⟨0x50008, 0, 11, .rw, .live, 1600⟩
/-- FD_ISO_CRC_CNT (17 R480). -/
def F.FD_ISO_CRC_CNT : Fld := ⟨0x50080, 0, 32, .rc, .hard, 0⟩
/-- FD_ISO_LOSS_CNT (17 R480). -/
def F.FD_ISO_LOSS_CNT : Fld := ⟨0x50084, 0, 32, .rc, .hard, 0⟩
/-- FD_RESET_CNT (17 R480). -/
def F.FD_RESET_CNT : Fld := ⟨0x50088, 0, 32, .rc, .hard, 0⟩
/-- FD_ISO_DROP (17 R480). -/
def F.FD_ISO_DROP : Fld := ⟨0x5008C, 0, 32, .rc, .hard, 0⟩
/-- FP_CFG (17 R480). -/
def F.FP_CFG_DEF_PRIO (n : Nat) : Fld := ⟨0x50408 + 0x80 * n, 16, 3, .rw, .live, 0⟩
def F.FP_CFG_MAX_FRAME (n : Nat) : Fld := ⟨0x50408 + 0x80 * n, 0, 11, .rw, .frozen, 1522⟩
/-- FP_PCP_MAP (17 R480). -/
def F.FP_PCP_MAP (n : Nat) : Fld := ⟨0x5040C + 0x80 * n, 0, 24, .rw, .live, 16434824⟩
/-- FP_MAC_LO (17 R480). -/
def F.FP_MAC_LO (n : Nat) : Fld := ⟨0x50410 + 0x80 * n, 0, 32, .rw, .live, 0⟩
/-- FP_MAC_HI (17 R480). -/
def F.FP_MAC_HI (n : Nat) : Fld := ⟨0x50414 + 0x80 * n, 0, 16, .rw, .live, 0⟩
/-- FP_ILIM (17 R480). -/
def F.FP_ILIM (n : Nat) : Fld := ⟨0x5041C + 0x80 * n, 0, 9, .rw, .live, 100⟩
/-- FP_SNR (17 R480). -/
def F.FP_SNR_SNR_MIN (n : Nat) : Fld := ⟨0x50420 + 0x80 * n, 16, 16, .rw, .live, 200⟩
def F.FP_SNR_SNR (n : Nat) : Fld := ⟨0x50420 + 0x80 * n, 0, 16, .ro, .hard, 0⟩
/-- FP_RX_FRAMES (17 R480). -/
def F.FP_RX_FRAMES (n : Nat) : Fld := ⟨0x50440 + 0x80 * n, 0, 32, .rc, .hard, 0⟩
/-- FP_TX_FRAMES (17 R480). -/
def F.FP_TX_FRAMES (n : Nat) : Fld := ⟨0x50444 + 0x80 * n, 0, 32, .rc, .hard, 0⟩
/-- FP_RX_FCS_ERR (17 R480). -/
def F.FP_RX_FCS_ERR (n : Nat) : Fld := ⟨0x50448 + 0x80 * n, 0, 32, .rc, .hard, 0⟩
/-- FP_RX_RUNT (17 R480). -/
def F.FP_RX_RUNT (n : Nat) : Fld := ⟨0x5044C + 0x80 * n, 0, 32, .rc, .hard, 0⟩
/-- FP_RX_OVERSIZE (17 R480). -/
def F.FP_RX_OVERSIZE (n : Nat) : Fld := ⟨0x50450 + 0x80 * n, 0, 32, .rc, .hard, 0⟩
/-- FP_RX_NOCELL (17 R480). -/
def F.FP_RX_NOCELL (n : Nat) : Fld := ⟨0x50454 + 0x80 * n, 0, 32, .rc, .hard, 0⟩
/-- FP_LINK_DOWN_CNT (17 R480). -/
def F.FP_LINK_DOWN_CNT (n : Nat) : Fld := ⟨0x50458 + 0x80 * n, 0, 32, .rc, .hard, 0⟩
/-- FP_OC_CNT (17 R480). -/
def F.FP_OC_CNT (n : Nat) : Fld := ⟨0x5045C + 0x80 * n, 0, 32, .rc, .hard, 0⟩
/-- FP_SHED_CNT (17 R480). -/
def F.FP_SHED_CNT (n : Nat) : Fld := ⟨0x50460 + 0x80 * n, 0, 32, .rc, .hard, 0⟩
/-- CRP_STRAP (18 R496). -/
def F.CRP_STRAP_REFSEL : Fld := ⟨0x10000, 2, 1, .ro, .hard, 0⟩
def F.CRP_STRAP_BOOT_SEL : Fld := ⟨0x10000, 1, 1, .ro, .hard, 0⟩
def F.CRP_STRAP_TWIN_ID : Fld := ⟨0x10000, 0, 1, .ro, .hard, 0⟩
/-- CRP_CLK_STATUS (18 R496). -/
def F.CRP_CLK_STATUS_REF_OK : Fld := ⟨0x10004, 31, 1, .ro, .hard, 0⟩
def F.CRP_CLK_STATUS_PLL_CORE : Fld := ⟨0x10004, 30, 1, .ro, .hard, 0⟩
def F.CRP_CLK_STATUS_PLL_TIME : Fld := ⟨0x10004, 29, 1, .ro, .hard, 0⟩
def F.CRP_CLK_STATUS_PLL_MGMT : Fld := ⟨0x10004, 28, 1, .ro, .hard, 0⟩
def F.CRP_CLK_STATUS_PLL_DRAM : Fld := ⟨0x10004, 27, 1, .ro, .hard, 0⟩
def F.CRP_CLK_STATUS_PLL_SERDES : Fld := ⟨0x10004, 26, 1, .ro, .hard, 0⟩
def F.CRP_CLK_STATUS_PCIE_REFCLK : Fld := ⟨0x10004, 25, 1, .ro, .hard, 0⟩
/-- CRP_BOOT (18 R496). -/
def F.CRP_BOOT_SAFE : Fld := ⟨0x10008, 31, 1, .ro, .hard, 0⟩
def F.CRP_BOOT_PHASE : Fld := ⟨0x10008, 24, 4, .ro, .hard, 0x0⟩
def F.CRP_BOOT_READY_MS : Fld := ⟨0x10008, 0, 16, .ro, .hard, 0⟩
/-- CRP_PCIE_STAT (18 R496). -/
def F.CRP_PCIE_STAT_LINK_UP : Fld := ⟨0x1000C, 31, 1, .ro, .hard, 0⟩
def F.CRP_PCIE_STAT_PERST : Fld := ⟨0x1000C, 30, 1, .ro, .hard, 0⟩
def F.CRP_PCIE_STAT_WIDTH : Fld := ⟨0x1000C, 22, 4, .ro, .hard, 0⟩
def F.CRP_PCIE_STAT_SPEED : Fld := ⟨0x1000C, 18, 4, .ro, .hard, 0⟩
/-- CRP_CHIP_RST (18 R496). -/
def F.CRP_CHIP_RST_KEY : Fld := ⟨0x10014, 24, 8, .wo, .live, 0⟩
def F.CRP_CHIP_RST_GO : Fld := ⟨0x10014, 0, 1, .wo, .live, 0⟩
/-- CRP_BLK_REJ (18 R496). -/
def F.CRP_BLK_REJ : Fld := ⟨0x10020, 0, 32, .rc, .hard, 0⟩
/-- CRP_PERST_CNT (18 R496). -/
def F.CRP_PERST_CNT : Fld := ⟨0x10024, 0, 32, .rc, .hard, 0⟩
/-- VF_IDENT (19 R500). -/
def F.VF_IDENT_DEVICE (v : Nat) : Fld := ⟨0x21F000 + 0x10000 * v, 16, 16, .ro, .hard, 0x9641⟩
def F.VF_IDENT_REV_ID (v : Nat) : Fld := ⟨0x21F000 + 0x10000 * v, 8, 8, .ro, .hard, 0x01⟩
def F.VF_IDENT_MASTER (v : Nat) : Fld := ⟨0x21F000 + 0x10000 * v, 0, 6, .ro, .hard, 0x21 + v⟩
/-- GC_ID (19 R503). -/
def F.GC_ID_DEVICE : Fld := ⟨0x0, 16, 16, .ro, .hard, 0x9640⟩
/-- GC_REV (19 R503). -/
def F.GC_REV_STEP_LETTER : Fld := ⟨0x4, 16, 8, .ro, .hard, 0x41⟩
def F.GC_REV_STEP_DIGIT : Fld := ⟨0x4, 8, 8, .ro, .hard, 0x31⟩
def F.GC_REV_REV_ID : Fld := ⟨0x4, 0, 8, .ro, .hard, 0x01⟩
/-- GC_CTRL (19 R504). -/
def F.GC_CTRL_CNT_CLEAR : Fld := ⟨0x40, 31, 1, .wo, .live, 0⟩
/-- GC_ACC_ERR (19 R504). -/
def F.GC_ACC_ERR_VALID : Fld := ⟨0x48, 31, 1, .w1c, .live, 0⟩
def F.GC_ACC_ERR_WR : Fld := ⟨0x48, 30, 1, .ro, .hard, 0⟩
def F.GC_ACC_ERR_SIZE : Fld := ⟨0x48, 27, 3, .ro, .hard, 0⟩
def F.GC_ACC_ERR_MASTER : Fld := ⟨0x48, 21, 6, .ro, .hard, 0⟩
def F.GC_ACC_ERR_OFFSET : Fld := ⟨0x48, 0, 21, .ro, .hard, 0⟩
/-- GC_CFG_ERR (19 R504). -/
def F.GC_CFG_ERR_VALID : Fld := ⟨0x4C, 31, 1, .w1c, .live, 0⟩
def F.GC_CFG_ERR_WR : Fld := ⟨0x4C, 30, 1, .ro, .hard, 0⟩
def F.GC_CFG_ERR_SIZE : Fld := ⟨0x4C, 27, 3, .ro, .hard, 0⟩
def F.GC_CFG_ERR_MASTER : Fld := ⟨0x4C, 21, 6, .ro, .hard, 0⟩
def F.GC_CFG_ERR_OFFSET : Fld := ⟨0x4C, 0, 21, .ro, .hard, 0⟩
/-- GC_SCRATCH_n (19 R504). -/
def F.GC_SCRATCH_n_DATA (n : Nat) : Fld := ⟨0x80 + 0x4 * n, 0, 32, .rw, .live, 0⟩
/-- VF_QPAUSE (10 R326). -/
def F.VF_QPAUSE_GO (v : Nat) : Fld := ⟨0x210D00 + 0x10000 * v, 31, 1, .wo, .live, 0⟩
def F.VF_QPAUSE_QUEUE (v : Nat) : Fld := ⟨0x210D00 + 0x10000 * v, 16, 6, .wo, .live, 0⟩
def F.VF_QPAUSE_TIME_US (v : Nat) : Fld := ⟨0x210D00 + 0x10000 * v, 0, 16, .wo, .live, 0⟩
/-- VF_CQ_ERR (10 R326). -/
def F.VF_CQ_ERR_VALID (v : Nat) : Fld := ⟨0x210D04 + 0x10000 * v, 31, 1, .w1c, .live, 0⟩
def F.VF_CQ_ERR_ERR (v : Nat) : Fld := ⟨0x210D04 + 0x10000 * v, 20, 4, .ro, .hard, 0⟩
def F.VF_CQ_ERR_CQ (v : Nat) : Fld := ⟨0x210D04 + 0x10000 * v, 0, 6, .ro, .hard, 0⟩

/-- Is `o` an element of an array at `b` with this stride and count? -/
def inArr (o b stride cnt : Nat) : Bool := b ≤ o && (o - b) % stride == 0 && (o - b) / stride < cnt

/-- Is `o` an element of a two-level array? -/
def inArr2 (o b s1 c1 s2 c2 : Nat) : Bool :=
  b ≤ o && (o - b) / s1 < c1 && (o - b) % s1 % s2 == 0 && (o - b) % s1 / s2 < c2

/-- The fields of block 0x00, by offset; `m` is the master whose bank is meant. -/
def fields00 (_m o : Nat) : List Fld :=
  if o == 0x0 then [F.GC_ID_DEVICE] else
  if o == 0x4 then [F.GC_REV_STEP_LETTER, F.GC_REV_STEP_DIGIT, F.GC_REV_REV_ID] else
  if o == 0x40 then [F.GC_CTRL_CNT_CLEAR] else
  if o == 0x48 then [F.GC_ACC_ERR_VALID, F.GC_ACC_ERR_WR, F.GC_ACC_ERR_SIZE, F.GC_ACC_ERR_MASTER, F.GC_ACC_ERR_OFFSET] else
  if o == 0x4C then [F.GC_CFG_ERR_VALID, F.GC_CFG_ERR_WR, F.GC_CFG_ERR_SIZE, F.GC_CFG_ERR_MASTER, F.GC_CFG_ERR_OFFSET] else
  if inArr o 0x80 0x4 4 then let n := (o - 0x80) / 0x4; [F.GC_SCRATCH_n_DATA n] else
  []

/-- The fields of block 0x01, by offset; `m` is the master whose bank is meant. -/
def fields01 (_m o : Nat) : List Fld :=
  if o == 0x10100 then [F.CRP_PWR_REQ_CONFIRM, F.CRP_PWR_REQ_STATE] else
  if o == 0x10104 then [F.CRP_PWR_STATUS_BUSY, F.CRP_PWR_STATUS_REJ, F.CRP_PWR_STATUS_REJ_CODE, F.CRP_PWR_STATUS_STATE] else
  if o == 0x10108 then [F.CRP_PWR_CFG_FPWR_HOLD, F.CRP_PWR_CFG_SPARE_HOLD, F.CRP_PWR_CFG_WAKE_US] else
  if o == 0x10110 then [F.CRP_WIPE_STATUS_SRAM, F.CRP_WIPE_STATUS_DRAM, F.CRP_WIPE_STATUS_NOR] else
  if o == 0x10120 then [F.CRP_HOLD_CNT] else
  if o == 0x10124 then [F.CRP_TRIM_WAKE] else
  if o == 0x10000 then [F.CRP_STRAP_REFSEL, F.CRP_STRAP_BOOT_SEL, F.CRP_STRAP_TWIN_ID] else
  if o == 0x10004 then [F.CRP_CLK_STATUS_REF_OK, F.CRP_CLK_STATUS_PLL_CORE, F.CRP_CLK_STATUS_PLL_TIME, F.CRP_CLK_STATUS_PLL_MGMT, F.CRP_CLK_STATUS_PLL_DRAM, F.CRP_CLK_STATUS_PLL_SERDES, F.CRP_CLK_STATUS_PCIE_REFCLK] else
  if o == 0x10008 then [F.CRP_BOOT_SAFE, F.CRP_BOOT_PHASE, F.CRP_BOOT_READY_MS] else
  if o == 0x1000C then [F.CRP_PCIE_STAT_LINK_UP, F.CRP_PCIE_STAT_PERST, F.CRP_PCIE_STAT_WIDTH, F.CRP_PCIE_STAT_SPEED] else
  if o == 0x10014 then [F.CRP_CHIP_RST_KEY, F.CRP_CHIP_RST_GO] else
  if o == 0x10020 then [F.CRP_BLK_REJ] else
  if o == 0x10024 then [F.CRP_PERST_CNT] else
  []

/-- The fields of block 0x02, by offset; `m` is the master whose bank is meant. -/
def fields02 (_m o : Nat) : List Fld :=
  if o == 0x20000 then [F.TB_CTRL_COMMIT, F.TB_CTRL_PTP_EN, F.TB_CTRL_JUMP_MODE, F.TB_CTRL_LOCK_REQ, F.TB_CTRL_ACQ, F.TB_CTRL_STEP_GO, F.TB_CTRL_HOLD_REQ, F.TB_CTRL_HOLD_EXIT] else
  if o == 0x20004 then [F.TB_STATUS_PPS_IN_OK, F.TB_STATUS_INC_CLAMP, F.TB_STATUS_STEP_REJ, F.TB_STATUS_REEP_REJ, F.TB_STATUS_JUMP_SEEN, F.TB_STATUS_STATE] else
  if o == 0x20020 then [F.TB_INC_LO] else
  if o == 0x20024 then [F.TB_INC_HI] else
  if o == 0x20028 then [F.TB_STEP_LO] else
  if o == 0x2002C then [F.TB_STEP_HI] else
  if o == 0x20030 then [F.TB_REEP_LO] else
  if o == 0x20034 then [F.TB_REEP_HI] else
  if o == 0x20040 then [F.TB_EPOCH] else
  if o == 0x20048 then [F.TB_LAST_DT_LO] else
  if o == 0x2004C then [F.TB_LAST_DT_HI] else
  if o == 0x20050 then [F.TB_LAST_AMT_LO] else
  if o == 0x20054 then [F.TB_LAST_AMT_HI] else
  if o == 0x20060 then [F.TB_STEP_THR] else
  if o == 0x20070 then [F.TB_MEAS_OFFS_LO] else
  if o == 0x20074 then [F.TB_MEAS_OFFS_HI] else
  if o == 0x20078 then [F.TB_MEAS_DLY] else
  if o == 0x2007C then [F.TB_MEAS_SEQ] else
  if o == 0x20084 then [F.TB_SERVO_WDOG] else
  if o == 0x20088 then [F.TB_INC_REJ] else
  if o == 0x20090 then [F.TB_HOLD_NS_LO] else
  if o == 0x20094 then [F.TB_HOLD_NS_HI] else
  if o == 0x200A4 then [F.TB_SNAP_LO] else
  if o == 0x200A8 then [F.TB_SNAP_HI] else
  if o == 0x200AC then [F.TB_SNAP_FRAC] else
  if o == 0x200B4 then [F.TB_TC_FU_TMO] else
  if o == 0x20104 then [F.TB_PPSO_PERIOD] else
  if o == 0x20108 then [F.TB_PPSO_PHASE] else
  if o == 0x2010C then [F.TB_PPSO_WIDTH] else
  if o == 0x20114 then [F.TB_PPSI_TS_LO] else
  if o == 0x20118 then [F.TB_PPSI_TS_HI] else
  if o == 0x2011C then [F.TB_PPSI_TS_FRAC] else
  if o == 0x20208 then [F.TB_FLW_CNT] else
  if o == 0x20220 then [F.TB_JUMP_CNT] else
  if o == 0x20038 then [F.TB_REEP_CTRL_ANCHOR] else
  if o == 0x20064 then [F.TB_SLEW_SLEW_PPM] else
  if o == 0x20080 then [F.TB_SERVO_GRANT, F.TB_SERVO_REQ, F.TB_SERVO_OWNER] else
  if o == 0x20098 then [F.TB_SHADOW_MISMATCH, F.TB_SHADOW_UNRES, F.TB_SHADOW_ALT] else
  if o == 0x200A0 then [F.TB_SNAP_CTRL_SNAP] else
  if o == 0x200B0 then [F.TB_PTP_CFG_DOMAIN, F.TB_PTP_CFG_ROLE_OC, F.TB_PTP_CFG_OC_PORT, F.TB_PTP_CFG_TC_MODE, F.TB_PTP_CFG_OC_DELAY, F.TB_PTP_CFG_PROFILE] else
  if o == 0x200B8 then [F.TB_TC_CNT_FU_MISS, F.TB_TC_CNT_FU_ORPHAN] else
  if o == 0x200C0 then [F.TB_EXT_DLY_A_EGRESS, F.TB_EXT_DLY_A_INGRESS] else
  if o == 0x200C4 then [F.TB_EXT_DLY_B_EGRESS, F.TB_EXT_DLY_B_INGRESS] else
  if o == 0x20100 then [F.TB_PPSO_CFG_EN, F.TB_PPSO_CFG_UNLOCKED_EN, F.TB_PPSO_CFG_POL] else
  if o == 0x20110 then [F.TB_PPSI_CFG_EN, F.TB_PPSI_CFG_EDGE, F.TB_PPSI_CFG_WIN_US] else
  if o == 0x20120 then [F.TB_PPSI_CNT_MISS, F.TB_PPSI_CNT_BAD] else
  if o == 0x20140 then [F.TB_TIN0_CFG_EN, F.TB_TIN0_CFG_EDGE] else
  if o == 0x20160 then [F.TB_TIN1_CFG_EN, F.TB_TIN1_CFG_EDGE] else
  if o == 0x20144 then [F.TB_TIN0_STAT_OVF] else
  if o == 0x20164 then [F.TB_TIN1_STAT_OVF] else
  if inArr o 0x20180 0x4 4 then let n := (o - 0x20180) / 0x4; [F.TB_TOUTn_CFG_PAIR_EXCL n, F.TB_TOUTn_CFG_IDLE n, F.TB_TOUTn_CFG_OE n] else
  if o == 0x20200 then [F.TB_FLW_STAT_LOCK, F.TB_FLW_STAT_ERR] else
  if o == 0x20204 then [F.TB_FLW_CFG_UNLOCK_NS, F.TB_FLW_CFG_LOCK_NS] else
  if o == 0x20210 then [F.TB_FPTP_CFG_DOMAIN, F.TB_FPTP_CFG_PORT_EN, F.TB_FPTP_CFG_LOG_SYNC, F.TB_FPTP_CFG_DELAY_MECH] else
  []

/-- The fields of block 0x03, by offset; `m` is the master whose bank is meant. -/
def fields03 (_m o : Nat) : List Fld :=
  if inArr o 0x30000 0x10000 2 then let p := (o - 0x30000) / 0x10000; [F.BP_CTRL_RESTART_AN p, F.BP_CTRL_MODE p, F.BP_CTRL_AN_EN p, F.BP_CTRL_LOOP p, F.BP_CTRL_EN p] else
  if inArr o 0x30004 0x10000 2 then let p := (o - 0x30004) / 0x10000; [F.BP_STATUS_LINK p, F.BP_STATUS_CDR_LOCK p, F.BP_STATUS_PCS_LOCK p, F.BP_STATUS_HI_BER p, F.BP_STATUS_LF p, F.BP_STATUS_RF p, F.BP_STATUS_AN_DONE p, F.BP_STATUS_SPEED_ERR p, F.BP_STATUS_STATE p] else
  if inArr o 0x30008 0x10000 2 then let p := (o - 0x30008) / 0x10000; [F.BP_CFG_DEF_PRIO p, F.BP_CFG_MAX_FRAME p] else
  if o == 0x30044 then [F.BP_MDIO_CMD_GO, F.BP_MDIO_CMD_ST, F.BP_MDIO_CMD_OP, F.BP_MDIO_CMD_PHYAD, F.BP_MDIO_CMD_REGAD, F.BP_MDIO_CMD_DATA] else
  if o == 0x30048 then [F.BP_MDIO_STAT_BUSY, F.BP_MDIO_STAT_ERR_SEEN, F.BP_MDIO_STAT_ERR, F.BP_MDIO_STAT_RDATA] else
  if inArr o 0x3000C 0x10000 2 then let p := (o - 0x3000C) / 0x10000; [F.BP_PCP_MAP p] else
  if inArr o 0x30010 0x10000 2 then let p := (o - 0x30010) / 0x10000; [F.BP_AN_ADV p] else
  if inArr o 0x30014 0x10000 2 then let p := (o - 0x30014) / 0x10000; [F.BP_AN_LP p] else
  if inArr o 0x30018 0x10000 2 then let p := (o - 0x30018) / 0x10000; [F.BP_MAC_LO p] else
  if inArr o 0x3001C 0x10000 2 then let p := (o - 0x3001C) / 0x10000; [F.BP_MAC_HI p] else
  if inArr o 0x30020 0x10000 2 then let p := (o - 0x30020) / 0x10000; [F.BP_LINK_HOLD p] else
  if inArr o 0x30024 0x10000 2 then let p := (o - 0x30024) / 0x10000; [F.BP_FCS_THR p] else
  if inArr o 0x30028 0x10000 2 then let p := (o - 0x30028) / 0x10000; [F.BP_PHYINT p] else
  if o == 0x30040 then [F.BP_MDIO_CFG] else
  if inArr o 0x30100 0x10000 2 then let p := (o - 0x30100) / 0x10000; [F.BP_RX_FRAMES_LO p] else
  if inArr o 0x30104 0x10000 2 then let p := (o - 0x30104) / 0x10000; [F.BP_RX_FRAMES_HI p] else
  if inArr o 0x30108 0x10000 2 then let p := (o - 0x30108) / 0x10000; [F.BP_RX_BYTES_LO p] else
  if inArr o 0x3010C 0x10000 2 then let p := (o - 0x3010C) / 0x10000; [F.BP_RX_BYTES_HI p] else
  if inArr o 0x30110 0x10000 2 then let p := (o - 0x30110) / 0x10000; [F.BP_TX_FRAMES_LO p] else
  if inArr o 0x30114 0x10000 2 then let p := (o - 0x30114) / 0x10000; [F.BP_TX_FRAMES_HI p] else
  if inArr o 0x30118 0x10000 2 then let p := (o - 0x30118) / 0x10000; [F.BP_TX_BYTES_LO p] else
  if inArr o 0x3011C 0x10000 2 then let p := (o - 0x3011C) / 0x10000; [F.BP_TX_BYTES_HI p] else
  if inArr o 0x30120 0x10000 2 then let p := (o - 0x30120) / 0x10000; [F.BP_RX_FCS_ERR p] else
  if inArr o 0x30124 0x10000 2 then let p := (o - 0x30124) / 0x10000; [F.BP_RX_RUNT p] else
  if inArr o 0x30128 0x10000 2 then let p := (o - 0x30128) / 0x10000; [F.BP_RX_OVERSIZE p] else
  if inArr o 0x3012C 0x10000 2 then let p := (o - 0x3012C) / 0x10000; [F.BP_RX_NOCELL p] else
  if inArr o 0x30130 0x10000 2 then let p := (o - 0x30130) / 0x10000; [F.BP_RX_OVF p] else
  if inArr o 0x30134 0x10000 2 then let p := (o - 0x30134) / 0x10000; [F.BP_PCS_ERR p] else
  if inArr o 0x30138 0x10000 2 then let p := (o - 0x30138) / 0x10000; [F.BP_LINK_DOWN_CNT p] else
  if inArr o 0x3013C 0x10000 2 then let p := (o - 0x3013C) / 0x10000; [F.BP_TS_LOST p] else
  []

/-- The fields of block 0x05, by offset; `m` is the master whose bank is meant. -/
def fields05 (_m o : Nat) : List Fld :=
  if o == 0x50000 then [F.FD_CTRL_FRESET, F.FD_CTRL_SAFE_PWR, F.FD_CTRL_PWR_EN] else
  if o == 0x50004 then [F.FD_STATUS_ISO_UP, F.FD_STATUS_READY, F.FD_STATUS_FVIN_OK, F.FD_STATUS_FVIN_UV, F.FD_STATUS_FVIN_OV, F.FD_STATUS_SHED] else
  if inArr o 0x50400 0x80 8 then let n := (o - 0x50400) / 0x80; [F.FP_CTRL_RESTART n, F.FP_CTRL_CLASS n, F.FP_CTRL_PRIO n, F.FP_CTRL_SCCP n, F.FP_CTRL_PWR_EN n, F.FP_CTRL_ROLE n, F.FP_CTRL_AMP n, F.FP_CTRL_AN_EN n, F.FP_CTRL_EN n] else
  if inArr o 0x50404 0x80 8 then let n := (o - 0x50404) / 0x80; [F.FP_STATUS_LINK n, F.FP_STATUS_POL_REV n, F.FP_STATUS_AMP_ACT n, F.FP_STATUS_ROLE_ACT n, F.FP_STATUS_MISWIRE n, F.FP_STATUS_REVERSED n, F.FP_STATUS_CLASS_RD n, F.FP_STATUS_PWR_STATE n, F.FP_STATUS_LINK_STATE n] else
  if inArr o 0x50418 0x80 8 then let n := (o - 0x50418) / 0x80; [F.FP_OC_RETRY_MS n, F.FP_OC_RETRY_N n, F.FP_OC_OC_MS n] else
  if o == 0x50008 then [F.FD_AGG_LIM] else
  if o == 0x50080 then [F.FD_ISO_CRC_CNT] else
  if o == 0x50084 then [F.FD_ISO_LOSS_CNT] else
  if o == 0x50088 then [F.FD_RESET_CNT] else
  if o == 0x5008C then [F.FD_ISO_DROP] else
  if inArr o 0x50408 0x80 8 then let n := (o - 0x50408) / 0x80; [F.FP_CFG_DEF_PRIO n, F.FP_CFG_MAX_FRAME n] else
  if inArr o 0x5040C 0x80 8 then let n := (o - 0x5040C) / 0x80; [F.FP_PCP_MAP n] else
  if inArr o 0x50410 0x80 8 then let n := (o - 0x50410) / 0x80; [F.FP_MAC_LO n] else
  if inArr o 0x50414 0x80 8 then let n := (o - 0x50414) / 0x80; [F.FP_MAC_HI n] else
  if inArr o 0x5041C 0x80 8 then let n := (o - 0x5041C) / 0x80; [F.FP_ILIM n] else
  if inArr o 0x50420 0x80 8 then let n := (o - 0x50420) / 0x80; [F.FP_SNR_SNR_MIN n, F.FP_SNR_SNR n] else
  if inArr o 0x50440 0x80 8 then let n := (o - 0x50440) / 0x80; [F.FP_RX_FRAMES n] else
  if inArr o 0x50444 0x80 8 then let n := (o - 0x50444) / 0x80; [F.FP_TX_FRAMES n] else
  if inArr o 0x50448 0x80 8 then let n := (o - 0x50448) / 0x80; [F.FP_RX_FCS_ERR n] else
  if inArr o 0x5044C 0x80 8 then let n := (o - 0x5044C) / 0x80; [F.FP_RX_RUNT n] else
  if inArr o 0x50450 0x80 8 then let n := (o - 0x50450) / 0x80; [F.FP_RX_OVERSIZE n] else
  if inArr o 0x50454 0x80 8 then let n := (o - 0x50454) / 0x80; [F.FP_RX_NOCELL n] else
  if inArr o 0x50458 0x80 8 then let n := (o - 0x50458) / 0x80; [F.FP_LINK_DOWN_CNT n] else
  if inArr o 0x5045C 0x80 8 then let n := (o - 0x5045C) / 0x80; [F.FP_OC_CNT n] else
  if inArr o 0x50460 0x80 8 then let n := (o - 0x50460) / 0x80; [F.FP_SHED_CNT n] else
  []

/-- The fields of block 0x06, by offset; `m` is the master whose bank is meant. -/
def fields06 (m o : Nat) : List Fld :=
  if o == 0x60000 then [F.KN_CTRL_SG_EN, F.KN_CTRL_TA_EN] else
  if o == 0x60004 then [F.KN_STATUS_WIN_REJ, F.KN_STATUS_TA_FREE] else
  if o == 0x60010 then [F.KN_MSEL] else
  if o == 0x60014 then [F.KN_MADDR] else
  if o == 0x60018 then [F.KN_MDATA_LO] else
  if o == 0x6001C then [F.KN_MDATA_HI] else
  if o == 0x60040 then let b := m; [F.KN_TA_DT_LO b] else
  if o == 0x60044 then let b := m; [F.KN_TA_DT_HI b] else
  if o == 0x60048 then let b := m; [F.KN_TA_ADDR b] else
  if o == 0x6004C then let b := m; [F.KN_TA_VALUE b] else
  if o == 0x60050 then let b := m; [F.KN_TA_MASK b] else
  if o == 0x60054 then let b := m; [F.KN_TA_PERIOD b] else
  if o == 0x6005C then let b := m; [F.KN_TA_TAG b] else
  if o == 0x60070 then [F.KN_TA_CNT] else
  if o == 0x60074 then [F.KN_TA_LATE] else
  if o == 0x60078 then [F.KN_TA_DISC] else
  if o == 0x6007C then [F.KN_TA_REF] else
  if o == 0x60080 then [F.KN_TA_SKIP] else
  if o == 0x60058 then let b := m; [F.KN_TA_CTRL_REPEAT b, F.KN_TA_CTRL_TOUT_PAD b, F.KN_TA_CTRL_TOUT_LEVEL b, F.KN_TA_CTRL_LATE_DISCARD b, F.KN_TA_CTRL_KIND b] else
  if o == 0x60060 then let b := m; [F.KN_TA_CMD_SUBMIT b, F.KN_TA_CMD_CANCEL b, F.KN_TA_CMD_INDEX b] else
  if o == 0x60064 then let b := m; [F.KN_TA_RESULT_FULL b, F.KN_TA_RESULT_BAD b, F.KN_TA_RESULT_NOTFOUND b, F.KN_TA_RESULT_INDEX b] else
  if o == 0x60108 then [F.KN_SG_LATE] else
  if o == 0x6010C then [F.KN_SG_REJ] else
  if o == 0x60100 then [F.KN_SG_CMD_OP, F.KN_SG_CMD_GATE] else
  if o == 0x60104 then [F.KN_SG_STAT_ERR_SEEN, F.KN_SG_STAT_GATE, F.KN_SG_STAT_ERR] else
  if inArr o 0x60408 0x80 10 then let p := (o - 0x60408) / 0x80; [F.KN_Pn_ADMIN_BASE_LO p] else
  if inArr o 0x6040C 0x80 10 then let p := (o - 0x6040C) / 0x80; [F.KN_Pn_ADMIN_BASE_HI p] else
  if inArr o 0x60410 0x80 10 then let p := (o - 0x60410) / 0x80; [F.KN_Pn_ADMIN_CYCLE p] else
  if inArr o 0x60414 0x80 10 then let p := (o - 0x60414) / 0x80; [F.KN_Pn_ADMIN_EXT p] else
  if inArr o 0x60418 0x80 10 then let p := (o - 0x60418) / 0x80; [F.KN_Pn_ADMIN_LEN p] else
  if inArr o 0x6041C 0x80 10 then let p := (o - 0x6041C) / 0x80; [F.KN_Pn_ADMIN_STATES p] else
  if inArr o 0x60420 0x80 10 then let p := (o - 0x60420) / 0x80; [F.KN_Pn_OPER_BASE_LO p] else
  if inArr o 0x60424 0x80 10 then let p := (o - 0x60424) / 0x80; [F.KN_Pn_OPER_BASE_HI p] else
  if inArr o 0x60428 0x80 10 then let p := (o - 0x60428) / 0x80; [F.KN_Pn_OPER_CYCLE p] else
  if inArr o 0x6042C 0x80 10 then let p := (o - 0x6042C) / 0x80; [F.KN_Pn_OPER_EXT p] else
  if inArr o 0x60430 0x80 10 then let p := (o - 0x60430) / 0x80; [F.KN_Pn_OPER_LEN p] else
  if inArr o 0x60434 0x80 10 then let p := (o - 0x60434) / 0x80; [F.KN_Pn_CHG_TIME_LO p] else
  if inArr o 0x60438 0x80 10 then let p := (o - 0x60438) / 0x80; [F.KN_Pn_CHG_TIME_HI p] else
  if inArr o 0x6043C 0x80 10 then let p := (o - 0x6043C) / 0x80; [F.KN_Pn_CYCLE_CNT p] else
  if inArr o 0x60440 0x80 10 then let p := (o - 0x60440) / 0x80; [F.KN_Pn_HOLD_ADV p] else
  if inArr o 0x60444 0x80 10 then let p := (o - 0x60444) / 0x80; [F.KN_Pn_REL_ADV p] else
  if inArr o 0x60448 0x80 10 then let p := (o - 0x60448) / 0x80; [F.KN_Pn_SCHED_MASK p] else
  if inArr o 0x60450 0x80 10 then let p := (o - 0x60450) / 0x80; [F.KN_Pn_EVT_CNT p] else
  if inArr o 0x60454 0x80 10 then let p := (o - 0x60454) / 0x80; [F.KN_Pn_CHG_CNT p] else
  if inArr o 0x60458 0x80 10 then let p := (o - 0x60458) / 0x80; [F.KN_Pn_SHORT_CNT p] else
  if inArr o 0x6045C 0x80 10 then let p := (o - 0x6045C) / 0x80; [F.KN_Pn_ADMIN_REJ p] else
  if inArr o 0x60400 0x80 10 then let p := (o - 0x60400) / 0x80; [F.KN_Pn_CTRL_CFG_CHANGE p, F.KN_Pn_CTRL_CFG_ABORT p, F.KN_Pn_CTRL_HR_EN p, F.KN_Pn_CTRL_GATE_EN p] else
  if inArr o 0x60404 0x80 10 then let p := (o - 0x60404) / 0x80; [F.KN_Pn_STATUS_CFG_PENDING p, F.KN_Pn_STATUS_ADMIN_BUSY p, F.KN_Pn_STATUS_HOLD p, F.KN_Pn_STATUS_CFG_ERR_SEEN p, F.KN_Pn_STATUS_CFG_ERR p, F.KN_Pn_STATUS_CUR_ENTRY p, F.KN_Pn_STATUS_CUR_STATES p] else
  []

/-- The fields of block 0x07, by offset; `m` is the master whose bank is meant. -/
def fields07 (_m o : Nat) : List Fld :=
  if o == 0x70000 then [F.LN_CTRL_SPARE_EN, F.LN_CTRL_EN] else
  if o == 0x70004 then [F.LN_STATUS_WT_USED, F.LN_STATUS_SPARE_USED, F.LN_STATUS_RETIRED] else
  if o == 0x70008 then [F.LN_WT_RSV_RSV] else
  if o == 0x70010 then [F.LN_ENG_MAP_ENG_P9, F.LN_ENG_MAP_ENG_P8, F.LN_ENG_MAP_ENG_P7, F.LN_ENG_MAP_ENG_P6, F.LN_ENG_MAP_ENG_P5, F.LN_ENG_MAP_ENG_P4, F.LN_ENG_MAP_ENG_P3, F.LN_ENG_MAP_ENG_P2, F.LN_ENG_MAP_ENG_P1, F.LN_ENG_MAP_ENG_P0] else
  if o == 0x7000C then [F.LN_WT_HWM] else
  if o == 0x70020 then [F.LN_WT_FULL] else
  if o == 0x70024 then [F.LN_TPL_MISS] else
  if o == 0x70028 then [F.LN_NOCELL] else
  if o == 0x7002C then [F.LN_FAR] else
  if o == 0x70030 then [F.LN_LSO_JOBS] else
  if o == 0x70034 then [F.LN_LSO_SEGS] else
  if o == 0x70038 then [F.LN_LSO_ERR] else
  if o == 0x7003C then [F.LN_SUB_CNT] else
  if o == 0x70040 then [F.LN_OWN_MISS] else
  if inArr o 0x70400 0x80 10 then let p := (o - 0x70400) / 0x80; (if p < 2 then [F.LN_Pn_CTRL_VERIFY_RESTART p, F.LN_Pn_CTRL_ADD_FRAG p, F.LN_Pn_CTRL_VERIFY_DIS p, F.LN_Pn_CTRL_PREEMPT_EN p, F.LN_Pn_CTRL_CT_EN p, F.LN_Pn_CTRL_GUARD_EN p, F.LN_Pn_CTRL_TX_EN p] else [F.LN_Pn_CTRL_VERIFY_RESTART p, F.LN_Pn_CTRL_ADD_FRAG p, F.LN_Pn_CTRL_VERIFY_DIS p, F.LN_Pn_CTRL_PREEMPT_EN p, F.LN_Pn_CTRL_GUARD_EN p, F.LN_Pn_CTRL_TX_EN p]) else
  if inArr o 0x70404 0x80 10 then let p := (o - 0x70404) / 0x80; [F.LN_Pn_PREEMPT_MASK_MASK p] else
  if inArr o 0x70408 0x80 10 then let p := (o - 0x70408) / 0x80; [F.LN_Pn_VERIFY_VERIFY_TIME p] else
  if inArr o 0x7040C 0x80 10 then let p := (o - 0x7040C) / 0x80; [F.LN_Pn_MM_STATUS_PREEMPT_ACTIVE p, F.LN_Pn_MM_STATUS_HOLD_ACTIVE p, F.LN_Pn_MM_STATUS_VERIFY_STATE p] else
  if inArr o 0x70410 0x80 10 then let p := (o - 0x70410) / 0x80; [F.LN_Pn_ONTIME p] else
  if inArr o 0x70414 0x80 10 then let p := (o - 0x70414) / 0x80; [F.LN_Pn_LATE p] else
  if inArr o 0x70418 0x80 10 then let p := (o - 0x70418) / 0x80; [F.LN_Pn_LATE_DISC p] else
  if inArr o 0x7041C 0x80 10 then let p := (o - 0x7041C) / 0x80; [F.LN_Pn_LAT_MAX p] else
  if inArr o 0x70420 0x80 10 then let p := (o - 0x70420) / 0x80; [F.LN_Pn_GUARD p] else
  if inArr o 0x70424 0x80 10 then let p := (o - 0x70424) / 0x80; [F.LN_Pn_NOFIT p] else
  if inArr o 0x70428 0x80 10 then let p := (o - 0x70428) / 0x80; [F.LN_Pn_PREEMPT p] else
  if inArr o 0x7042C 0x80 10 then let p := (o - 0x7042C) / 0x80; [F.LN_Pn_FRAG_TX p] else
  if inArr o 0x70430 0x80 10 then let p := (o - 0x70430) / 0x80; [F.LN_Pn_HOLD_CNT p] else
  if inArr o 0x70434 0x80 10 then let p := (o - 0x70434) / 0x80; [F.LN_Pn_VERIFY_FAIL p] else
  if inArr o 0x70438 0x80 10 then let p := (o - 0x70438) / 0x80; [F.LN_Pn_RX_FRAG p] else
  if inArr o 0x7043C 0x80 10 then let p := (o - 0x7043C) / 0x80; [F.LN_Pn_RX_ASM_ERR p] else
  if inArr o 0x70440 0x80 10 then let p := (o - 0x70440) / 0x80; [F.LN_Pn_RX_SMD_ERR p] else
  if inArr o 0x70444 0x80 10 then let p := (o - 0x70444) / 0x80; [F.LN_Pn_TX_OVERSIZE p] else
  if inArr o 0x70448 0x80 10 then let p := (o - 0x70448) / 0x80; [F.LN_Pn_PAD p] else
  if inArr o 0x7044C 0x80 10 then let p := (o - 0x7044C) / 0x80; [F.LN_Pn_FWD_CT p] else
  if inArr o 0x70450 0x80 10 then let p := (o - 0x70450) / 0x80; [F.LN_Pn_FWD_SF p] else
  if inArr o 0x70454 0x80 10 then let p := (o - 0x70454) / 0x80; [F.LN_Pn_STOMP p] else
  if inArr o 0x70458 0x80 10 then let p := (o - 0x70458) / 0x80; [F.LN_Pn_ABORT p] else
  if inArr o 0x7045C 0x80 10 then let p := (o - 0x7045C) / 0x80; [F.LN_Pn_FWD_DROP p] else
  []

/-- The fields of block 0x08, by offset; `m` is the master whose bank is meant. -/
def fields08 (_m o : Nat) : List Fld :=
  if o == 0x80000 then [F.FN_CTRL_GEN_EN, F.FN_CTRL_REC_EN, F.FN_CTRL_ID_EN, F.FN_CTRL_EN] else
  if o == 0x80004 then [F.FN_STATUS_WIPING, F.FN_STATUS_WIN_REJ, F.FN_STATUS_ID_USED] else
  if inArr o 0x80010 0x4 4 then let n := (o - 0x80010) / 0x4; [F.FN_IDPn_DMAC n, F.FN_IDPn_VID n, F.FN_IDPn_IPSRC n, F.FN_IDPn_IPDST n, F.FN_IDPn_DSCP n, F.FN_IDPn_PROTO n, F.FN_IDPn_SPORT n, F.FN_IDPn_DPORT n] else
  if o == 0x80020 then [F.FN_UNID_ACT] else
  if o == 0x80024 then [F.FN_EVT_SKIP_SKIP] else
  if o == 0x80030 then [F.FN_CMD_OP, F.FN_CMD_INDEX] else
  if o == 0x80034 then [F.FN_CMD_RESULT_DONE, F.FN_CMD_RESULT_CODE, F.FN_CMD_RESULT_INDEX] else
  if o == 0x80040 then [F.FN_MSEL] else
  if o == 0x80044 then [F.FN_MADDR] else
  if o == 0x80048 then [F.FN_MDATA_LO] else
  if o == 0x8004C then [F.FN_MDATA_HI] else
  if o == 0x80080 then [F.FN_UNID_CNT] else
  if o == 0x80084 then [F.FN_NOSEQ] else
  if o == 0x80088 then [F.FN_STBY_DROP] else
  if o == 0x8008C then [F.FN_PEND_WAIT] else
  if o == 0x80090 then [F.FN_ROGUE_CNT] else
  if o == 0x80094 then [F.FN_LATENT_CNT] else
  if o == 0x80098 then [F.FN_ID_FAIL] else
  []

/-- The fields of block 0x09, by offset; `m` is the master whose bank is meant. -/
def fields09 (_m o : Nat) : List Fld :=
  if o == 0x90000 then [F.PS_CTRL_METER_EN, F.PS_CTRL_EN] else
  if o == 0x90004 then [F.PS_STATUS_WIPING, F.PS_STATUS_WIN_REJ, F.PS_STATUS_BLOCKED] else
  if o == 0x90008 then [F.PS_CMD_OP, F.PS_CMD_INDEX] else
  if o == 0x9000C then [F.PS_CMD_RESULT_DONE, F.PS_CMD_RESULT_CODE] else
  if o == 0x90010 then [F.PS_MSEL] else
  if o == 0x90014 then [F.PS_MADDR] else
  if o == 0x90018 then [F.PS_MDATA_LO] else
  if o == 0x9001C then [F.PS_MDATA_HI] else
  if o == 0x90080 then [F.PS_NOFILT] else
  if o == 0x90084 then [F.PS_OCT_DROP] else
  if o == 0x90088 then [F.PS_YELLOW_DROP] else
  if o == 0x9008C then [F.PS_RED_DROP] else
  if o == 0x90090 then [F.PS_CT_STOMP] else
  []

/-- The fields of block 0x0A, by offset; `m` is the master whose bank is meant. -/
def fields0A (_m o : Nat) : List Fld :=
  if o == 0xA0000 then [F.LT_CTRL_PAUSE_EN, F.LT_CTRL_CBS_EN, F.LT_CTRL_TB_EN, F.LT_CTRL_EN] else
  if o == 0xA0004 then [F.LT_STATUS_WIPING, F.LT_STATUS_WIN_REJ, F.LT_STATUS_ON_WHEEL] else
  if o == 0xA0010 then [F.LT_MSEL] else
  if o == 0xA0014 then [F.LT_MADDR] else
  if o == 0xA0018 then [F.LT_MDATA_LO] else
  if o == 0xA001C then [F.LT_MDATA_HI] else
  if o == 0xA0020 then [F.LT_QPAUSE_GO, F.LT_QPAUSE_QUEUE, F.LT_QPAUSE_TIME_US] else
  if o == 0xA0030 then [F.LT_YIELD_MASK_MASK] else
  if o == 0xA0038 then [F.LT_YIELD_LAST_VALID, F.LT_YIELD_LAST_PAIR] else
  if o == 0xA0034 then [F.LT_YIELD_HOLDOFF] else
  if o == 0xA0040 then [F.LT_YIELD_LAST_DT_LO] else
  if o == 0xA0044 then [F.LT_YIELD_LAST_DT_HI] else
  if o == 0xA0080 then [F.LT_WHEEL_SLIP] else
  if o == 0xA0084 then [F.LT_QP_REJ] else
  if o == 0xA0088 then [F.LT_NOSHP] else
  if o == 0xA008C then [F.LT_QP_CNT] else
  if inArr o 0xA0200 0x4 28 then let i := (o - 0xA0200) / 0x4; [F.LT_YIELD_i i] else
  if inArr o 0xA0400 0x100 10 then let p := (o - 0xA0400) / 0x100; (if p < 2 then [F.LT_Pn_CTRL_PFC_EN p, F.LT_Pn_CTRL_PAUSE_RX_EN p, F.LT_Pn_CTRL_PAUSABLE p, F.LT_Pn_CTRL_CBS_MASK p] else [F.LT_Pn_CTRL_CBS_MASK p]) else
  if inArr o 0xA0404 0x100 10 then let p := (o - 0xA0404) / 0x100; [F.LT_Pn_STATUS_SLOPE_OVER p, F.LT_Pn_STATUS_PAUSED p, F.LT_Pn_STATUS_CREDIT_OK p] else
  if inArr o 0xA0408 0x100 10 then let p := (o - 0xA0408) / 0x100; (if p < 2 then [F.LT_Pn_PFC_MAP_MAP p] else []) else
  if inArr o 0xA040C 0x100 10 then let p := (o - 0xA040C) / 0x100; (if p < 2 then [F.LT_Pn_PAUSE_MAX p] else []) else
  if inArr o 0xA0420 0x100 10 then let p := (o - 0xA0420) / 0x100; [F.LT_Pn_PAUSE_RX p] else
  if inArr o 0xA0424 0x100 10 then let p := (o - 0xA0424) / 0x100; [F.LT_Pn_PFC_RX p] else
  if inArr o 0xA0428 0x100 10 then let p := (o - 0xA0428) / 0x100; [F.LT_Pn_PAUSE_IGN p] else
  if inArr o 0xA042C 0x100 10 then let p := (o - 0xA042C) / 0x100; [F.LT_Pn_PAUSE_CAP p] else
  if inArr2 o 0xA0440 0x100 10 0x10 8 then let p := (o - 0xA0440) / 0x100; let c := (o - 0xA0440) % 0x100 / 0x10; [F.LT_Pn_IDLE_SLOPE_c p c] else
  if inArr2 o 0xA0444 0x100 10 0x10 8 then let p := (o - 0xA0444) / 0x100; let c := (o - 0xA0444) % 0x100 / 0x10; [F.LT_Pn_HI_CREDIT_c p c] else
  if inArr2 o 0xA044C 0x100 10 0x10 8 then let p := (o - 0xA044C) / 0x100; let c := (o - 0xA044C) % 0x100 / 0x10; [F.LT_Pn_CREDIT_c p c] else
  []

/-- The fields of block 0x0B, by offset; `m` is the master whose bank is meant. -/
def fields0B (_m o : Nat) : List Fld :=
  if o == 0xB0000 then [F.GR_CTRL_WIPE1, F.GR_CTRL_WIPE0, F.GR_CTRL_EN] else
  if o == 0xB0004 then [F.GR_STATUS_WIPING, F.GR_STATUS_WIN_REJ, F.GR_STATUS_CFG_ERR_SEEN, F.GR_STATUS_CFG_ERR] else
  if o == 0xB0008 then [F.GR_POOL1_SIZE_UNITS] else
  if o == 0xB0030 then [F.GR_HOLD_ERR_INFO_VALID, F.GR_HOLD_ERR_INFO_CAUSE, F.GR_HOLD_ERR_INFO_OP, F.GR_HOLD_ERR_INFO_MASTER, F.GR_HOLD_ERR_INFO_CHAIN] else
  if o == 0xB0010 then [F.GR_FREE0] else
  if o == 0xB0014 then [F.GR_FREE1] else
  if o == 0xB0028 then [F.GR_RR_CLASS3, F.GR_RR_CLASS2, F.GR_RR_CLASS1, F.GR_RR_CLASS0] else
  if o == 0xB0080 then [F.GR_ALLOC] else
  if o == 0xB0084 then [F.GR_FREED] else
  if o == 0xB0088 then [F.GR_FAIL_EMPTY] else
  if o == 0xB008C then [F.GR_FAIL_QUOTA] else
  if o == 0xB0090 then [F.GR_FAIL_LIMIT] else
  if o == 0xB0094 then [F.GR_LAST_LOST] else
  if o == 0xB0098 then [F.GR_NONHOLDER] else
  if o == 0xB009C then [F.GR_ONFREE] else
  if o == 0xB00A0 then [F.GR_SHARE_DUP] else
  if o == 0xB00A4 then [F.GR_WALK_REL] else
  if inArr2 o 0xB1000 0x200 2 0x8 64 then let q := (o - 0xB1000) / 0x200; let m := (o - 0xB1000) % 0x200 / 0x8; [F.GR_QRSV_q_m q m] else
  if inArr2 o 0xB1004 0x200 2 0x8 64 then let q := (o - 0xB1004) / 0x200; let m := (o - 0xB1004) % 0x200 / 0x8; [F.GR_QMAX_q_m q m] else
  if inArr2 o 0xB1400 0x100 2 0x4 64 then let q := (o - 0xB1400) / 0x100; let m := (o - 0xB1400) % 0x100 / 0x4; [F.GR_QUSED_q_m q m] else
  if inArr o 0xB1600 0x4 64 then let m := (o - 0xB1600) / 0x4; [F.GR_QFAIL_m m] else
  if o == 0xB0040 then [F.GR_MSEL] else
  if o == 0xB0044 then [F.GR_MADDR] else
  []

/-- The fields of block 0x0C, by offset; `m` is the master whose bank is meant. -/
def fields0C (_m o : Nat) : List Fld :=
  if o == 0xC0000 then [F.PT_CTRL_HEAT_EN] else
  if o == 0xC0004 then [F.PT_STATUS_WIN_REJ, F.PT_STATUS_WIPING] else
  if o == 0xC0008 then [F.PT_TIER_CFG_FAR_US, F.PT_TIER_CFG_RX_LOW_WM] else
  if o == 0xC000C then [F.PT_HEAT_CFG_WIN_MS, F.PT_HEAT_CFG_HYST, F.PT_HEAT_CFG_PROMOTE_MIN] else
  if o == 0xC0020 then [F.PT_TRACE_CTRL_CLEAR, F.PT_TRACE_CTRL_MODE, F.PT_TRACE_CTRL_KINDS, F.PT_TRACE_CTRL_EN] else
  if o == 0xC0024 then [F.PT_TRACE_STAT_FULL, F.PT_TRACE_STAT_LEVEL, F.PT_TRACE_STAT_WPTR] else
  if o == 0xC0010 then [F.PT_MOVE_MAX] else
  if o == 0xC0014 then [F.PT_LN_BIND] else
  if o == 0xC0018 then [F.PT_MS_MASK] else
  if o == 0xC001C then [F.PT_REBIND_IDLE] else
  if o == 0xC0080 then [F.PT_ONDIE] else
  if o == 0xC0084 then [F.PT_DRAM] else
  if o == 0xC0088 then [F.PT_SPILL] else
  if o == 0xC008C then [F.PT_FAR] else
  if o == 0xC0090 then [F.PT_PROMOTE] else
  if o == 0xC0094 then [F.PT_DEMOTE] else
  if o == 0xC0098 then [F.PT_LN_REBIND] else
  if o == 0xC009C then [F.PT_RXQ_BIND] else
  if o == 0xC00A0 then [F.PT_DMA_WAIT] else
  if o == 0xC00A4 then [F.PT_NO_CHOICE] else
  if o == 0xC00A8 then [F.PT_TRACE_LOST] else
  if o == 0xC0040 then [F.PT_MSEL] else
  if o == 0xC0044 then [F.PT_MADDR] else
  if o == 0xC0048 then [F.PT_MDATA_LO] else
  if o == 0xC004C then [F.PT_MDATA_HI] else
  []

/-- The fields of block 0x0D, by offset; `m` is the master whose bank is meant. -/
def fields0D (m o : Nat) : List Fld :=
  if o == 0xD0000 then [F.GY_CTRL_SWEEP_EN, F.GY_CTRL_NOTIFY_EN, F.GY_CTRL_WIN_EN, F.GY_CTRL_EXT_EN, F.GY_CTRL_EN] else
  if o == 0xD0004 then [F.GY_STATUS_WIPING, F.GY_STATUS_OVERLOAD, F.GY_STATUS_WIN_REJ, F.GY_STATUS_HOT_USED] else
  if o == 0xD0008 then [F.GY_PINNED_PINNED] else
  if o == 0xD000C then [F.GY_SWEEP_SWEEP_US] else
  if o == 0xD0010 then [F.GY_WIN_CFG_QUAL] else
  if o == 0xD0014 then [F.GY_DEFINED_DEFINED] else
  if o == 0xD0018 then [F.GY_SUB_FREE_FREE] else
  if o == 0xD0020 then let b := m; [F.GY_PCFG_ID_POINT b] else
  if o == 0xD0024 then let b := m; [F.GY_PCFG_VAL_MAXAGE b, F.GY_PCFG_VAL_PIN b, F.GY_PCFG_VAL_FORCE b, F.GY_PCFG_VAL_MIRROR b] else
  if o == 0xD0028 then let b := m; [F.GY_PCFG_CMD_OP b] else
  if o == 0xD002C then let b := m; [F.GY_PCFG_RESULT_DONE b, F.GY_PCFG_RESULT_CODE b] else
  if o == 0xD0040 then [F.GY_MAP_CMD_SWAP, F.GY_MAP_CMD_MAP_B, F.GY_MAP_CMD_MAP_A] else
  if o == 0xD0044 then [F.GY_MAP_STAT_BUSY, F.GY_MAP_STAT_ERR] else
  if o == 0xD0050 then [F.GY_MSEL] else
  if o == 0xD0054 then [F.GY_MADDR] else
  if o == 0xD0058 then [F.GY_MDATA_LO] else
  if o == 0xD005C then [F.GY_MDATA_HI] else
  if o == 0xD0080 then [F.GY_WR_CNT] else
  if o == 0xD0084 then [F.GY_RD_CNT] else
  if o == 0xD0088 then [F.GY_EXT_DROP] else
  if o == 0xD008C then [F.GY_COALESCE] else
  if o == 0xD0090 then [F.GY_NOPT] else
  if o == 0xD0094 then [F.GY_FORCED] else
  if o == 0xD0098 then [F.GY_OLDER] else
  if o == 0xD009C then [F.GY_MAP_SHORT] else
  if o == 0xD00A0 then [F.GY_MAP_LOOP] else
  if o == 0xD00A4 then [F.GY_WIN_COLD] else
  if o == 0xD00A8 then [F.GY_WIN_BAD] else
  if o == 0xD00AC then [F.GY_NOTIFY] else
  if o == 0xD00B0 then [F.GY_NOTIFY_GAP] else
  if o == 0xD00B4 then [F.GY_PROMOTE] else
  if o == 0xD00B8 then [F.GY_DEMOTE] else
  if o == 0xD00BC then [F.GY_FUTURE] else
  if o == 0xD00C0 then [F.GY_MAP_MISS] else
  if o == 0xD8000 then [F.MS_CTRL_SPARE_EN, F.MS_CTRL_HZN_EN, F.MS_CTRL_SCHED_EN, F.MS_CTRL_EN] else
  if o == 0xD8004 then [F.MS_STATUS_WIPING, F.MS_STATUS_WIN_REJ, F.MS_STATUS_SPARE_USED, F.MS_STATUS_RETIRED, F.MS_STATUS_HZN_LEVEL] else
  if o == 0xD8008 then [F.MS_HZN_H_NS] else
  if o == 0xD8010 then [F.MS_TPL_CMD_OP, F.MS_TPL_CMD_TPL_B, F.MS_TPL_CMD_TPL_A] else
  if o == 0xD8014 then [F.MS_TPL_STAT_BUSY, F.MS_TPL_STAT_ERR_SEEN, F.MS_TPL_STAT_ERR, F.MS_TPL_STAT_TPL] else
  if o == 0xD8018 then [F.MS_ENABLED_COUNT] else
  if o == 0xD8020 then [F.MS_MSEL] else
  if o == 0xD8024 then [F.MS_MADDR] else
  if o == 0xD8028 then [F.MS_MDATA_LO] else
  if o == 0xD802C then [F.MS_MDATA_HI] else
  if o == 0xD8080 then [F.MS_ASM_CNT] else
  if o == 0xD8084 then [F.MS_ASM_LATE] else
  if o == 0xD8088 then [F.MS_SUPPRESS] else
  if o == 0xD808C then [F.MS_MARKED] else
  if o == 0xD8090 then [F.MS_COLD] else
  if o == 0xD8094 then [F.MS_SCHED_SKIP] else
  if o == 0xD8098 then [F.MS_MOVE_WAIT] else
  if o == 0xD809C then [F.MS_HZN_LATE] else
  if o == 0xD80A0 then [F.MS_HZN_OVF] else
  if o == 0xD80A4 then [F.MS_HZN_LOCAL] else
  if o == 0xD80A8 then [F.MS_SUB_CNT] else
  if o == 0xD80AC then [F.MS_ASM_ABORT] else
  []

/-- The fields of block 0x0E, by offset; `m` is the master whose bank is meant. -/
def fields0E (_m o : Nat) : List Fld :=
  if o == 0xE0000 then [F.QE_CTRL_EN] else
  if o == 0xE0004 then [F.QE_STATUS_SQ_ON, F.QE_STATUS_CQ_ON] else
  if o == 0xE0010 then [F.QE_ASSIGN_GO, F.QE_ASSIGN_KIND, F.QE_ASSIGN_LOCAL, F.QE_ASSIGN_OWNER, F.QE_ASSIGN_QUEUE] else
  if o == 0xE0014 then [F.QE_ASSIGN_RESULT_DONE, F.QE_ASSIGN_RESULT_CODE] else
  if o == 0xE0018 then [F.QE_CQ_ERR_VALID, F.QE_CQ_ERR_ERR, F.QE_CQ_ERR_CQ] else
  if inArr o 0xE0020 0x4 10 then let p := (o - 0xE0020) / 0x4; [F.QE_RX_DEFAULT_p_VALID p, F.QE_RX_DEFAULT_p_QUEUE p] else
  if o == 0xE0080 then [F.QE_DB_BAD] else
  if o == 0xE0084 then [F.QE_DB_OFF] else
  if o == 0xE0088 then [F.QE_BAD_ENTRY] else
  if o == 0xE008C then [F.QE_FOLD] else
  if o == 0xE0090 then [F.QE_RX_NOBUF] else
  if o == 0xE0094 then [F.QE_RX_TOOBIG] else
  if o == 0xE0098 then [F.QE_FETCH_ERR_CNT] else
  if o == 0xE009C then [F.QE_PAYLOAD_ERR] else
  if o == 0xE00A0 then [F.QE_CFG_REJ] else
  if inArr o 0xE0100 0x4 16 then let n := (o - 0xE0100) / 0x4; [F.QE_EVT_MAP_n_EN n, F.QE_EVT_MAP_n_VEC n] else
  if inArr o 0xE1000 0x4 1024 then let q := (o - 0xE1000) / 0x4; [F.QE_CQ_INFO_q_LOCAL q, F.QE_CQ_INFO_q_OWNER q, F.QE_CQ_INFO_q_GAP q] else
  if inArr o 0xE4000 0x20 1024 then let q := (o - 0xE4000) / 0x20; [F.QE_SQ_BASE_LO q] else
  if inArr o 0xE4004 0x20 1024 then let q := (o - 0xE4004) / 0x20; [F.QE_SQ_BASE_HI q] else
  if inArr o 0xE4010 0x20 1024 then let q := (o - 0xE4010) / 0x20; [F.QE_SQ_HEAD q] else
  if inArr o 0xE4014 0x20 1024 then let q := (o - 0xE4014) / 0x20; [F.QE_SQ_TAIL q] else
  if inArr o 0xE401C 0x20 1024 then let q := (o - 0xE401C) / 0x20; [F.QE_SQ_OWNER_LOCAL q, F.QE_SQ_OWNER_OWNER q] else
  if inArr o 0xE4008 0x20 1024 then let q := (o - 0xE4008) / 0x20; [F.QE_SQ_CFG_EN q, F.QE_SQ_CFG_TYPE q, F.QE_SQ_CFG_LATE_DISCARD q, F.QE_SQ_CFG_PRIO q, F.QE_SQ_CFG_SIZE q, F.QE_SQ_CFG_CQ q] else
  if inArr o 0xE400C 0x20 1024 then let q := (o - 0xE400C) / 0x20; [F.QE_SQ_CFG2_RX_BUF q] else
  if inArr o 0xE4018 0x20 1024 then let q := (o - 0xE4018) / 0x20; [F.QE_SQ_STAT_STATE q, F.QE_SQ_STAT_ERR q, F.QE_SQ_STAT_RX_POSTED q] else
  if inArr o 0xEC000 0x10 1024 then let q := (o - 0xEC000) / 0x10; [F.QE_CQ_BASE_LO q] else
  if inArr o 0xEC004 0x10 1024 then let q := (o - 0xEC004) / 0x10; [F.QE_CQ_BASE_HI q] else
  if inArr o 0xEC00C 0x10 1024 then let q := (o - 0xEC00C) / 0x10; [F.QE_CQ_PTR_TAIL q, F.QE_CQ_PTR_HEAD q] else
  if inArr o 0xEC008 0x10 1024 then let q := (o - 0xEC008) / 0x10; [F.QE_CQ_CFG_EN q, F.QE_CQ_CFG_NOTIFY q, F.QE_CQ_CFG_IRQ_EN q, F.QE_CQ_CFG_SIZE q, F.QE_CQ_CFG_MOD_US q, F.QE_CQ_CFG_MOD_CNT q, F.QE_CQ_CFG_VEC q] else
  []

/-- The fields of block 0x0F, by offset; `m` is the master whose bank is meant. -/
def fields0F (_m o : Nat) : List Fld :=
  if o == 0xF0000 then [F.DMA_CTRL_ATTRIB, F.DMA_CTRL_EN] else
  if o == 0xF0004 then [F.DMA_STATUS_HALT, F.DMA_STATUS_BUSY] else
  if o == 0xF0008 then [F.DMA_HOPS_LIMIT] else
  if o == 0xF0018 then [F.DMA_ERR_INFO_VALID, F.DMA_ERR_INFO_CAUSE, F.DMA_ERR_INFO_CH_VALID, F.DMA_ERR_INFO_MASTER, F.DMA_ERR_INFO_CH] else
  if o == 0xF0010 then [F.DMA_ERR_ADDR_LO] else
  if o == 0xF0014 then [F.DMA_ERR_ADDR_HI] else
  if o == 0xF0080 then [F.DMA_DESC_CNT] else
  if o == 0xF0084 then [F.DMA_BUS_ERR_CNT] else
  if o == 0xF0088 then [F.DMA_TAIL_CNT] else
  if o == 0xF008C then [F.DMA_LOOP_CNT] else
  if o == 0xF0090 then [F.DMA_DB_IGN] else
  if o == 0xF0094 then [F.DMA_START_REJ] else
  if o == 0xF0098 then [F.DMA_REJ] else
  if inArr o 0xF0100 0x40 16 then let c := (o - 0xF0100) / 0x40; [F.CH_SRC_LO c] else
  if inArr o 0xF0104 0x40 16 then let c := (o - 0xF0104) / 0x40; [F.CH_SRC_HI c] else
  if inArr o 0xF0108 0x40 16 then let c := (o - 0xF0108) / 0x40; [F.CH_DST_LO c] else
  if inArr o 0xF010C 0x40 16 then let c := (o - 0xF010C) / 0x40; [F.CH_DST_HI c] else
  if inArr o 0xF0110 0x40 16 then let c := (o - 0xF0110) / 0x40; [F.CH_COUNT c] else
  if inArr o 0xF0120 0x40 16 then let c := (o - 0xF0120) / 0x40; [F.CH_DESC_LO c] else
  if inArr o 0xF0124 0x40 16 then let c := (o - 0xF0124) / 0x40; [F.CH_DESC_HI c] else
  if inArr o 0xF0128 0x40 16 then let c := (o - 0xF0128) / 0x40; [F.CH_CUR_LO c] else
  if inArr o 0xF012C 0x40 16 then let c := (o - 0xF012C) / 0x40; [F.CH_CUR_HI c] else
  if inArr o 0xF0130 0x40 16 then let c := (o - 0xF0130) / 0x40; [F.CH_OWNER c] else
  if inArr o 0xF0138 0x40 16 then let c := (o - 0xF0138) / 0x40; [F.CH_DB c] else
  if inArr o 0xF013C 0x40 16 then let c := (o - 0xF013C) / 0x40; [F.CH_DESC_CNT c] else
  if inArr o 0xF0114 0x40 16 then let c := (o - 0xF0114) / 0x40; [F.CH_CFG_PRIO c, F.CH_CFG_IRQ c, F.CH_CFG_SPACE_DST c, F.CH_CFG_SPACE_SRC c, F.CH_CFG_DST_FIXED c, F.CH_CFG_SRC_FIXED c, F.CH_CFG_SWAP c] else
  if inArr o 0xF0118 0x40 16 then let c := (o - 0xF0118) / 0x40; [F.CH_CTRL_START c, F.CH_CTRL_CHAIN c, F.CH_CTRL_RESUME c, F.CH_CTRL_EN c] else
  if inArr o 0xF011C 0x40 16 then let c := (o - 0xF011C) / 0x40; [F.CH_STAT_STATE c, F.CH_STAT_DB_PEND c, F.CH_STAT_LAST_ST c, F.CH_STAT_HOPS c] else
  if inArr o 0xF0134 0x40 16 then let c := (o - 0xF0134) / 0x40; [F.CH_IRQ_EN c, F.CH_IRQ_VEC c] else
  []

/-- The fields of block 0x10, by offset; `m` is the master whose bank is meant. -/
def fields10 (m o : Nat) : List Fld :=
  if o == 0x100000 then [F.MB_CTRL_BIND_LOCK, F.MB_CTRL_EN] else
  if o == 0x100004 then [F.MB_STATUS_BIND_ERR_SEEN, F.MB_STATUS_BIND_ERR] else
  if o == 0x100008 then [F.MB_RR] else
  if o == 0x100010 then let b := m; [F.MB_NOTIFY_PEND_LO b] else
  if o == 0x100014 then let b := m; [F.MB_NOTIFY_PEND_HI b] else
  if o == 0x100018 then let b := m; [F.MB_EMPTY_PEND_LO b] else
  if o == 0x10001C then let b := m; [F.MB_EMPTY_PEND_HI b] else
  if o == 0x100020 then let b := m; [F.MB_NOTIFY_IE_LO b] else
  if o == 0x100024 then let b := m; [F.MB_NOTIFY_IE_HI b] else
  if o == 0x100028 then let b := m; [F.MB_EMPTY_IE_LO b] else
  if o == 0x10002C then let b := m; [F.MB_EMPTY_IE_HI b] else
  if o == 0x100080 then [F.MB_POSTS] else
  if o == 0x100084 then [F.MB_POST_REJ] else
  if o == 0x100088 then [F.MB_EMPTY_IGN] else
  if o == 0x10008C then [F.MB_LOCK_BUSY] else
  if o == 0x100090 then [F.MB_REJ] else
  if inArr o 0x100100 0x20 64 then let n := (o - 0x100100) / 0x20; [F.MB_CH_PTR_LO n] else
  if inArr o 0x100104 0x20 64 then let n := (o - 0x100104) / 0x20; [F.MB_CH_PTR_HI n] else
  if inArr o 0x100108 0x20 64 then let n := (o - 0x100108) / 0x20; [F.MB_CH_TAG n] else
  if inArr o 0x100110 0x20 64 then let n := (o - 0x100110) / 0x20; [F.MB_CH_CMD_EMPTY n] else
  if inArr o 0x100114 0x20 64 then let n := (o - 0x100114) / 0x20; [F.MB_CH_LOCK n] else
  if inArr o 0x10010C 0x20 64 then let n := (o - 0x10010C) / 0x20; [F.MB_CH_STAT_FULL n, F.MB_CH_STAT_LOCKED n, F.MB_CH_STAT_POST_REJ n, F.MB_CH_STAT_LOCK_OWNER n] else
  if inArr o 0x100A00 0x4 64 then let n := (o - 0x100A00) / 0x4; [F.MB_BIND_n_VALID n, F.MB_BIND_n_RECEIVER n, F.MB_BIND_n_SENDER n] else
  []

/-- The fields of block 0x11, by offset; `m` is the master whose bank is meant. -/
def fields11 (_m o : Nat) : List Fld :=
  if o == 0x110000 then [F.CL_CTRL_ERR_RELEASE, F.CL_CTRL_BOOK_POP, F.CL_CTRL_BOOK_CLEAR, F.CL_CTRL_FAULT_MIN, F.CL_CTRL_ALERT_EN] else
  if o == 0x110004 then [F.CL_STATUS_FAULT, F.CL_STATUS_ERR_PAD, F.CL_STATUS_PULSE, F.CL_STATUS_REL_PEND, F.CL_STATUS_BOOK_OVF] else
  if o == 0x110014 then [F.CL_STORM_CFG_WINDOW_MS, F.CL_STORM_CFG_COUNT] else
  if o == 0x110030 then [F.CL_LAST_RESET_VALID, F.CL_LAST_RESET_KIND, F.CL_LAST_RESET_INST, F.CL_LAST_RESET_SOURCE] else
  if o == 0x110040 then [F.CL_TEST_GO, F.CL_TEST_SOURCE] else
  if inArr o 0x110400 0x4 160 then let n := (o - 0x110400) / 0x4; [F.CL_SRC_CFG_n_EN n, F.CL_SRC_CFG_n_BLK n, F.CL_SRC_CFG_n_ERRPAD n, F.CL_SRC_CFG_n_CHIPRST n, F.CL_SRC_CFG_n_BLKRST n, F.CL_SRC_CFG_n_NMI n, F.CL_SRC_CFG_n_IRQ n, F.CL_SRC_CFG_n_SEV n] else
  if o == 0x110008 then [F.CL_ERR_WIDTH] else
  if o == 0x11000C then [F.CL_QUIET] else
  if o == 0x110010 then [F.CL_SETTLE] else
  if o == 0x110018 then [F.CL_HELD] else
  if o == 0x110020 then [F.CL_RECOVER_CNT] else
  if o == 0x110024 then [F.CL_FAULT_CNT] else
  if o == 0x110034 then [F.CL_LAST_RESET_DT_LO] else
  if o == 0x110038 then [F.CL_LAST_RESET_DT_HI] else
  if inArr o 0x110800 0x4 160 then let n := (o - 0x110800) / 0x4; [F.CL_SRC_CNT_n n] else
  if inArr o 0x110C00 0x4 5 then let w := (o - 0x110C00) / 0x4; [F.CL_ACTIVE_w w] else
  if inArr o 0x110C20 0x4 5 then let w := (o - 0x110C20) / 0x4; [F.CL_PEND_w w] else
  []

/-- The fields of block 0x12, by offset; `m` is the master whose bank is meant. -/
def fields12 (_m o : Nat) : List Fld :=
  if o == 0x120000 then [F.TW_CTRL_REEP_SYNC, F.TW_CTRL_CLAIM_IF_FAILED, F.TW_CTRL_CLAIM_ALONE, F.TW_CTRL_CHK_EN, F.TW_CTRL_MIR_EN, F.TW_CTRL_PULSE_EN, F.TW_CTRL_DOLNOS_EN, F.TW_CTRL_EN] else
  if o == 0x120004 then [F.TW_STATUS_READY, F.TW_STATUS_PEER_OK, F.TW_STATUS_DOLNOS_UP, F.TW_STATUS_PULSE_UP, F.TW_STATUS_MIR_DEGRADED, F.TW_STATUS_CFG_DIFF, F.TW_STATUS_APP_DIFF, F.TW_STATUS_DIVERGED, F.TW_STATUS_TIME_DIFF, F.TW_STATUS_SELFTEST_FAIL, F.TW_STATUS_TWIN_ID, F.TW_STATUS_PEER_ACTING, F.TW_STATUS_REEP_REJ, F.TW_STATUS_PEER_HEALTH, F.TW_STATUS_ROLE] else
  if o == 0x120008 then [F.TW_CMD_OP] else
  if o == 0x12000C then [F.TW_CMD_RESULT_DONE, F.TW_CMD_RESULT_CODE] else
  if o == 0x120028 then [F.TW_HB_CFG_LOSS_N, F.TW_HB_CFG_PERIOD_US] else
  if o == 0x12002C then [F.TW_LEASE_GUARD_US, F.TW_LEASE_LEASE_US] else
  if o == 0x120024 then [F.TW_CLAIM_CFG_ETYPE, F.TW_CLAIM_CFG_CLASS, F.TW_CLAIM_CFG_REPEAT] else
  if o == 0x120010 then [F.TW_PAIR_ID] else
  if o == 0x120014 then [F.TW_PAIR_MAC_LO] else
  if o == 0x120018 then [F.TW_PAIR_MAC_HI] else
  if o == 0x12001C then [F.TW_CLAIM_DA_LO] else
  if o == 0x120020 then [F.TW_CLAIM_DA_HI] else
  if o == 0x120030 then [F.TW_FORM_WAIT] else
  if o == 0x120034 then [F.TW_FIELD_DUAL] else
  if o == 0x120038 then [F.TW_CHK_PERIOD] else
  if o == 0x12003C then [F.TW_OFFS_THR] else
  if o == 0x120040 then [F.TW_MIR_BATCH] else
  if o == 0x120048 then [F.TW_APP_DIGEST_LO] else
  if o == 0x12004C then [F.TW_APP_DIGEST_HI] else
  if o == 0x120050 then [F.TW_PEER_APP_DIGEST_LO] else
  if o == 0x120054 then [F.TW_PEER_APP_DIGEST_HI] else
  if o == 0x120060 then [F.TW_EPOCH] else
  if o == 0x120064 then [F.TW_PEER_EPOCH] else
  if o == 0x120068 then [F.TW_OFFS] else
  if o == 0x12006C then [F.TW_LINK_DLY] else
  if o == 0x120070 then [F.TW_RS_STAT_ACTIVE, F.TW_RS_STAT_DONE, F.TW_RS_STAT_POINT] else
  if o == 0x120078 then [F.TW_LAST_CLAIM_DT_LO] else
  if o == 0x12007C then [F.TW_LAST_CLAIM_DT_HI] else
  if inArr o 0x120100 0x4 16 then let n := (o - 0x120100) / 0x4; [F.TW_HEALTH_OWN_n n] else
  if inArr o 0x120140 0x4 16 then let n := (o - 0x120140) / 0x4; [F.TW_HEALTH_PEER_n n] else
  if o == 0x120200 then [F.TW_HB_TX] else
  if o == 0x120204 then [F.TW_HB_RX_D] else
  if o == 0x120208 then [F.TW_HB_RX_P] else
  if o == 0x12020C then [F.TW_HB_BAD] else
  if o == 0x120210 then [F.TW_PATH_LOSS_CNT] else
  if o == 0x120214 then [F.TW_CLAIM_CNT] else
  if o == 0x120218 then [F.TW_YIELD_CNT] else
  if o == 0x12021C then [F.TW_MIR_TX] else
  if o == 0x120220 then [F.TW_MIR_RX] else
  if o == 0x120224 then [F.TW_MIR_DROP] else
  if o == 0x120228 then [F.TW_RETX] else
  if o == 0x12022C then [F.TW_DIVERGE_CNT] else
  if o == 0x120230 then [F.TW_STBY_RXDROP] else
  if o == 0x120234 then [F.TW_NOTREADY_SUPP] else
  if o == 0x120238 then [F.TW_RS_CNT] else
  if o == 0x12023C then [F.TW_RS_REC] else
  if o == 0x120240 then [F.TW_BB_CLAIM_RX] else
  []

/-- The fields of block 0x13, by offset; `m` is the master whose bank is meant. -/
def fields13 (_m o : Nat) : List Fld :=
  if o == 0x130000 then [F.AC_CTRL_LOCK, F.AC_CTRL_DBG_END] else
  if o == 0x130004 then [F.AC_STATUS_LOCKED, F.AC_STATUS_LOADED, F.AC_STATUS_RETURN_ARMED, F.AC_STATUS_DENY_SEEN, F.AC_STATUS_REOWN, F.AC_STATUS_LC, F.AC_STATUS_DBG] else
  if o == 0x130008 then [F.AC_DENY_INFO_VALID, F.AC_DENY_INFO_OP, F.AC_DENY_INFO_MASTER, F.AC_DENY_INFO_TARGET, F.AC_DENY_INFO_OFFSET] else
  if o == 0x130020 then [F.AC_TOKEN_RESULT_DONE, F.AC_TOKEN_RESULT_KIND, F.AC_TOKEN_RESULT_CODE] else
  if o == 0x13000C then [F.AC_DENY_CNT] else
  if o == 0x130010 then [F.AC_LOCK_REJ] else
  if inArr o 0x130040 0x4 8 then let n := (o - 0x130040) / 0x4; [F.AC_OWNER_HASH_n n] else
  if inArr2 o 0x131000 0x20 22 0x4 8 then let t := (o - 0x131000) / 0x20; let w := (o - 0x131000) % 0x20 / 0x4; [F.AC_TBL_t_w t w] else
  []

/-- The fields of block 0x14, by offset; `m` is the master whose bank is meant. -/
def fields14 (_m o : Nat) : List Fld :=
  if o == 0x140000 then [F.MG_STATUS_REQ_BUSY, F.MG_STATUS_EBAIN, F.MG_STATUS_SLOT, F.MG_STATUS_STATE] else
  if o == 0x140004 then [F.MG_EVT_LOG_WRAP, F.MG_EVT_SUB_DONE, F.MG_EVT_SENSOR, F.MG_EVT_EBAIN_STAGED, F.MG_EVT_FW_REVERTED, F.MG_EVT_FW_ACTIVE, F.MG_EVT_FW_STAGED] else
  if o == 0x140008 then [F.MG_EVT_IE_LOG_WRAP, F.MG_EVT_IE_SUB_DONE, F.MG_EVT_IE_SENSOR, F.MG_EVT_IE_EBAIN_STAGED, F.MG_EVT_IE_FW_REVERTED, F.MG_EVT_IE_FW_ACTIVE, F.MG_EVT_IE_FW_STAGED] else
  if o == 0x14002C then [F.MG_EBAIN_STAT_A_RESULT, F.MG_EBAIN_STAT_B_RESULT, F.MG_EBAIN_STAT_FIRST_SECT, F.MG_EBAIN_STAT_REC_ERR] else
  if o == 0x1400A4 then [F.MG_TEMP_THR_CRIT, F.MG_TEMP_THR_WARN] else
  if o == 0x1400C4 then [F.MG_I2C_CFG_EN, F.MG_I2C_CFG_ADDR] else
  if o == 0x14000C then [F.MG_FW_TRIAL] else
  if o == 0x140010 then [F.MG_FW_A_VER] else
  if o == 0x140014 then [F.MG_FW_B_VER] else
  if o == 0x140018 then [F.MG_FW_CNT] else
  if o == 0x140020 then [F.MG_EBAIN_A_VER] else
  if o == 0x140024 then [F.MG_EBAIN_B_VER] else
  if o == 0x140028 then [F.MG_EBAIN_CNT] else
  if o == 0x140030 then [F.MG_BOOT_CNT] else
  if o == 0x140034 then [F.MG_HOURS] else
  if inArr o 0x140040 0x4 4 then let n := (o - 0x140040) / 0x4; [F.MG_TEMP_n n] else
  if o == 0x140050 then [F.MG_TEMP_MAX_LIFE, F.MG_TEMP_MAX_CHIP] else
  if inArr o 0x140060 0x4 8 then let n := (o - 0x140060) / 0x4; [F.MG_SUP_n n] else
  if inArr o 0x140080 0x4 8 then let n := (o - 0x140080) / 0x4; [F.MG_FCUR_n n] else
  if o == 0x1400A0 then [F.MG_FCUR_TOT] else
  if o == 0x1400B0 then [F.MG_LOG_HEAD] else
  if o == 0x1400B8 then [F.MG_LOG_OLDEST] else
  if o == 0x1400BC then [F.MG_LOG_DROP] else
  if o == 0x1400C0 then [F.MG_LOG_CFG] else
  []

/-- The fields of block 0x15, by offset; `m` is the master whose bank is meant. -/
def fields15 (_m o : Nat) : List Fld :=
  if o == 0x150000 then [F.SP_CTRL_REPAIR_EN, F.SP_CTRL_EN] else
  if o == 0x150008 then [F.SP_CFG_STALL_S, F.SP_CFG_CE_THR] else
  if o == 0x15000C then [F.SP_AGE_THR_LIMIT, F.SP_AGE_THR_WARN] else
  if o == 0x150010 then [F.SP_SUB_CNT] else
  if o == 0x150014 then [F.SP_STALL_CNT] else
  if o == 0x150018 then [F.SP_FAIL_CNT] else
  if inArr o 0x150020 0x4 8 then let n := (o - 0x150020) / 0x4; [F.SP_CLASS_n_USED n, F.SP_CLASS_n_REMAIN n] else
  if inArr o 0x150040 0x4 12 then let n := (o - 0x150040) / 0x4; [F.SP_AGE_n_REMAIN_WK n, F.SP_AGE_n_DEGR n] else
  if o == 0x150070 then [F.SP_LAST_DT_LO] else
  if o == 0x150074 then [F.SP_LAST_DT_HI] else
  []

/-- The fields of block 0x20, by offset; `m` is the master whose bank is meant. -/
def fields20 (_m o : Nat) : List Fld :=
  if inArr o 0x211820 0x10000 15 then let v := (o - 0x211820) / 0x10000; [F.MB_VF_IRQ_EN v, F.MB_VF_IRQ_VEC v] else
  if inArr o 0x21F000 0x10000 15 then let v := (o - 0x21F000) / 0x10000; [F.VF_IDENT_DEVICE v, F.VF_IDENT_REV_ID v, F.VF_IDENT_MASTER v] else
  if inArr o 0x210D00 0x10000 15 then let v := (o - 0x210D00) / 0x10000; [F.VF_QPAUSE_GO v, F.VF_QPAUSE_QUEUE v, F.VF_QPAUSE_TIME_US v] else
  if inArr o 0x210D04 0x10000 15 then let v := (o - 0x210D04) / 0x10000; [F.VF_CQ_ERR_VALID v, F.VF_CQ_ERR_ERR v, F.VF_CQ_ERR_CQ v] else
  []

/-- The fields of the register at BAR0 offset `o` as master `m` sees it; none for a reserved offset (R13, R499). -/
def fieldsAt (m o : Nat) : List Fld :=
  match o / 0x10000 with
  | 0x00 => fields00 m o
  | 0x01 => fields01 m o
  | 0x02 => fields02 m o
  | 0x03 => fields03 m o
  | 0x04 => fields03 m o
  | 0x05 => fields05 m o
  | 0x06 => fields06 m o
  | 0x07 => fields07 m o
  | 0x08 => fields08 m o
  | 0x09 => fields09 m o
  | 0x0A => fields0A m o
  | 0x0B => fields0B m o
  | 0x0C => fields0C m o
  | 0x0D => fields0D m o
  | 0x0E => fields0E m o
  | 0x0F => fields0F m o
  | 0x10 => fields10 m o
  | 0x11 => fields11 m o
  | 0x12 => fields12 m o
  | 0x13 => fields13 m o
  | 0x14 => fields14 m o
  | 0x15 => fields15 m o
  | _ => if 0x200000 ≤ o then fields20 m o else []

/-- How many words a 64-bit or three-word quantity whose low word lies at `o` has; 0 when `o` is no low word (R12, R38).
A MAC address and the bit maps of MBOX are two registers of their own. -/
def pairWords (o : Nat) : Nat :=
  if inArr2 o 0x110100 0x20 16 0x18 2 then 2 else
  if o == 0x20010 then 3 else
  if o == 0x20020 then 2 else
  if o == 0x20028 then 2 else
  if o == 0x20030 then 2 else
  if o == 0x20048 then 2 else
  if o == 0x20050 then 2 else
  if o == 0x20068 then 2 else
  if o == 0x20070 then 2 else
  if o == 0x20090 then 2 else
  if o == 0x200A4 then 3 else
  if o == 0x20114 then 3 else
  if o == 0x20148 then 3 else
  if o == 0x20168 then 3 else
  if o == 0x60018 then 2 else
  if o == 0x60040 then 2 else
  if inArr o 0x60408 0x80 10 then 2 else
  if inArr o 0x60420 0x80 10 then 2 else
  if inArr o 0x60434 0x80 10 then 2 else
  if o == 0xD0058 then 2 else
  if o == 0xD8028 then 2 else
  if o == 0x80048 then 2 else
  if o == 0x90018 then 2 else
  if o == 0xA0018 then 2 else
  if o == 0xA0040 then 2 else
  if o == 0x120048 then 2 else
  if o == 0x120050 then 2 else
  if o == 0x120078 then 2 else
  if inArr o 0xE4000 0x20 1024 then 2 else
  if inArr o 0xEC000 0x10 1024 then 2 else
  if o == 0xF0010 then 2 else
  if inArr o 0xF0100 0x40 16 then 2 else
  if inArr o 0xF0108 0x40 16 then 2 else
  if inArr o 0xF0120 0x40 16 then 2 else
  if inArr o 0xF0128 0x40 16 then 2 else
  if o == 0xB0048 then 2 else
  if o == 0xC0048 then 2 else
  if inArr o 0x100100 0x20 64 then 2 else
  if o == 0x130018 then 2 else
  if o == 0x110034 then 2 else
  if o == 0x150070 then 2 else
  if inArr o 0x30100 0x10000 2 then 2 else
  if inArr o 0x30108 0x10000 2 then 2 else
  if inArr o 0x30110 0x10000 2 then 2 else
  if inArr o 0x30118 0x10000 2 then 2 else
  0

end Sys2Proof.Machine
end

