-- ==== Sys2Proof/Machine/Sources.lean ====
section
/-!
DEFINITION. The numbers of the fault sources (R416), under their own names.
-/

namespace Sys2Proof.Machine

/-- Fault source 0. -/
def Src.BAD_ACCESS : Nat := 0
/-- Fault source 1. -/
def Src.CFG_WHILE_RUNNING : Nat := 1
/-- Fault source 2. -/
def Src.PCIE_LINK_DOWN : Nat := 2
/-- Fault source 3. -/
def Src.PCIE_UNCORR : Nat := 3
/-- Fault source 4. -/
def Src.PCIE_CORR : Nat := 4
/-- Fault source 5. -/
def Src.CL_BOOK_OVF : Nat := 5
/-- Fault source 6. -/
def Src.CL_STORM : Nat := 6
/-- Fault source 7. -/
def Src.CL_PARITY : Nat := 7
/-- Fault source 8. -/
def Src.VMAIN_UV : Nat := 8
/-- Fault source 9. -/
def Src.VMAIN_OV : Nat := 9
/-- Fault source 10. -/
def Src.VIO_FAULT : Nat := 10
/-- Fault source 11. -/
def Src.RAIL_FAULT : Nat := 11
/-- Fault source 12. -/
def Src.REF_LOSS : Nat := 12
/-- Fault source 13. -/
def Src.PLL_UNLOCK : Nat := 13
/-- Fault source 14. -/
def Src.PCIE_REFCLK_LOSS : Nat := 14
/-- Fault source 15. -/
def Src.PWR_REQ_REJ : Nat := 15
/-- Fault source 16. -/
def Src.TIME_JUMP : Nat := 16
/-- Fault source 17. -/
def Src.TB_STEP_REJ : Nat := 17
/-- Fault source 18. -/
def Src.TB_STEP_DONE : Nat := 18
/-- Fault source 19. -/
def Src.TB_SHADOW : Nat := 19
/-- Fault source 20. -/
def Src.TB_SHADOW_UNRES : Nat := 20
/-- Fault source 21. -/
def Src.TB_SERVO_WDOG : Nat := 21
/-- Fault source 22. -/
def Src.TB_FOLLOWER_UNLOCK : Nat := 22
/-- Fault source 23. -/
def Src.PPS_IN_LOSS : Nat := 23
/-- Fault source 24. -/
def Src.TIN_OVF : Nat := 24
/-- Fault source 25. -/
def Src.BB_LINK_DOWN : Nat := 25
/-- Fault source 26. -/
def Src.BB_PCS_ERR : Nat := 26
/-- Fault source 27. -/
def Src.BB_CDR_LOSS : Nat := 27
/-- Fault source 28. -/
def Src.BB_RX_OVF : Nat := 28
/-- Fault source 29. -/
def Src.BB_MDIO_ERR : Nat := 29
/-- Fault source 30. -/
def Src.BB_PHY_INT : Nat := 30
/-- Fault source 31. -/
def Src.BB_FCS_RATE : Nat := 31
/-- Fault source 32. -/
def Src.BB_TS_ERR : Nat := 32
/-- Fault source 33. -/
def Src.FD_LINK_DOWN : Nat := 33
/-- Fault source 34. -/
def Src.FD_TRAIN_FAIL : Nat := 34
/-- Fault source 35. -/
def Src.FD_SNR_LOW : Nat := 35
/-- Fault source 36. -/
def Src.FD_OVERCURRENT : Nat := 36
/-- Fault source 37. -/
def Src.FD_AGG_LIMIT : Nat := 37
/-- Fault source 38. -/
def Src.FD_MISWIRE : Nat := 38
/-- Fault source 39. -/
def Src.FD_CLASS_FAIL : Nat := 39
/-- Fault source 40. -/
def Src.FD_FVIN_UV : Nat := 40
/-- Fault source 41. -/
def Src.FD_FVIN_OV : Nat := 41
/-- Fault source 42. -/
def Src.FD_ISO_LOSS : Nat := 42
/-- Fault source 43. -/
def Src.FD_ISO_CRC : Nat := 43
/-- Fault source 44. -/
def Src.FD_RESET : Nat := 44
/-- Fault source 45. -/
def Src.KN_CFG_ERR : Nat := 45
/-- Fault source 46. -/
def Src.KN_ADMIN_LOCKED : Nat := 46
/-- Fault source 47. -/
def Src.KN_SG_LATE : Nat := 47
/-- Fault source 48. -/
def Src.KN_TA_REFUSED : Nat := 48
/-- Fault source 49. -/
def Src.KN_TA_LATE : Nat := 49
/-- Fault source 50. -/
def Src.KN_TA_FULL : Nat := 50
/-- Fault source 51. -/
def Src.LN_WT_EXHAUST : Nat := 51
/-- Fault source 52. -/
def Src.LN_LATE : Nat := 52
/-- Fault source 53. -/
def Src.LN_VERIFY_FAIL : Nat := 53
/-- Fault source 54. -/
def Src.LN_RX_ASM : Nat := 54
/-- Fault source 55. -/
def Src.LN_TX_OVERSIZE : Nat := 55
/-- Fault source 56. -/
def Src.LN_NOCELL : Nat := 56
/-- Fault source 57. -/
def Src.LN_ENG_SUB : Nat := 57
/-- Fault source 58. -/
def Src.GY_OVERLOAD : Nat := 58
/-- Fault source 59. -/
def Src.GY_MAP_ERR : Nat := 59
/-- Fault source 60. -/
def Src.GY_WIN_BAD : Nat := 60
/-- Fault source 61. -/
def Src.GY_NOTIFY_GAP : Nat := 61
/-- Fault source 62. -/
def Src.MS_TPL_ERR : Nat := 62
/-- Fault source 63. -/
def Src.MS_HZN_LATE : Nat := 63
/-- Fault source 64. -/
def Src.MS_HZN_OVF : Nat := 64
/-- Fault source 65. -/
def Src.MS_ENG_SUB : Nat := 65
/-- Fault source 66. -/
def Src.FN_ID_FULL : Nat := 66
/-- Fault source 67. -/
def Src.FN_ROGUE : Nat := 67
/-- Fault source 68. -/
def Src.FN_LATENT : Nat := 68
/-- Fault source 69. -/
def Src.PS_BLOCKED : Nat := 69
/-- Fault source 70. -/
def Src.PS_GATE_CLOSED : Nat := 70
/-- Fault source 71. -/
def Src.YIELD : Nat := 71
/-- Fault source 72. -/
def Src.LT_CFG : Nat := 72
/-- Fault source 73. -/
def Src.TW_PATH_LOSS : Nat := 73
/-- Fault source 74. -/
def Src.TW_PEER_LOST : Nat := 74
/-- Fault source 75. -/
def Src.TW_CLAIM : Nat := 75
/-- Fault source 76. -/
def Src.TW_YIELDED : Nat := 76
/-- Fault source 77. -/
def Src.TW_ID_CONFLICT : Nat := 77
/-- Fault source 78. -/
def Src.TW_CFG_DIFF : Nat := 78
/-- Fault source 79. -/
def Src.TW_MIR_LOSS : Nat := 79
/-- Fault source 80. -/
def Src.TW_TIME_DIFF : Nat := 80
/-- Fault source 81. -/
def Src.TW_REEP_MISS : Nat := 81
/-- Fault source 82. -/
def Src.TW_SELFTEST : Nat := 82
/-- Fault source 83. -/
def Src.TW_DIVERGE : Nat := 83
/-- Fault source 84. -/
def Src.QE_DB_ERR : Nat := 84
/-- Fault source 85. -/
def Src.QE_BAD_ENTRY : Nat := 85
/-- Fault source 86. -/
def Src.QE_CQ_FOLD : Nat := 86
/-- Fault source 87. -/
def Src.QE_RX_NOBUF : Nat := 87
/-- Fault source 88. -/
def Src.QE_FETCH_ERR : Nat := 88
/-- Fault source 89. -/
def Src.QE_Q_CFG : Nat := 89
/-- Fault source 90. -/
def Src.DMA_BUS_ERR : Nat := 90
/-- Fault source 91. -/
def Src.DMA_ERR_TAIL : Nat := 91
/-- Fault source 92. -/
def Src.DMA_CHAIN_LOOP : Nat := 92
/-- Fault source 93. -/
def Src.GR_EXHAUST : Nat := 93
/-- Fault source 94. -/
def Src.GR_QUOTA : Nat := 94
/-- Fault source 95. -/
def Src.GR_HOLD_ERR : Nat := 95
/-- Fault source 96. -/
def Src.GR_CFG : Nat := 96
/-- Fault source 97. -/
def Src.PT_NO_CHOICE : Nat := 97
/-- Fault source 98. -/
def Src.MB_POST_FULL : Nat := 98
/-- Fault source 99. -/
def Src.MB_ACCESS : Nat := 99
/-- Fault source 100. -/
def Src.AC_DENIED : Nat := 100
/-- Fault source 101. -/
def Src.AC_TBL_LOCKED : Nat := 101
/-- Fault source 102. -/
def Src.AC_TOKEN_BAD : Nat := 102
/-- Fault source 103. -/
def Src.MEM_UE_TBASE : Nat := 103
/-- Fault source 104. -/
def Src.MEM_UE_KILN : Nat := 104
/-- Fault source 105. -/
def Src.MEM_UE_LAUNCH : Nat := 105
/-- Fault source 106. -/
def Src.MEM_UE_GYLE : Nat := 106
/-- Fault source 107. -/
def Src.MEM_UE_MASH : Nat := 107
/-- Fault source 108. -/
def Src.MEM_UE_FINING : Nat := 108
/-- Fault source 109. -/
def Src.MEM_UE_PSFP : Nat := 109
/-- Fault source 110. -/
def Src.MEM_UE_LAUTER : Nat := 110
/-- Fault source 111. -/
def Src.MEM_UE_GRIST : Nat := 111
/-- Fault source 112. -/
def Src.MEM_UE_PITCH : Nat := 112
/-- Fault source 113. -/
def Src.MEM_UE_QENG : Nat := 113
/-- Fault source 114. -/
def Src.MEM_UE_DMA : Nat := 114
/-- Fault source 115. -/
def Src.MEM_UE_MBOX : Nat := 115
/-- Fault source 116. -/
def Src.MEM_UE_TWIN : Nat := 116
/-- Fault source 117. -/
def Src.MEM_UE_ACCESS : Nat := 117
/-- Fault source 118. -/
def Src.SRAM_CE : Nat := 118
/-- Fault source 119. -/
def Src.DRAM_CE : Nat := 119
/-- Fault source 120. -/
def Src.DRAM_UE : Nat := 120
/-- Fault source 121. -/
def Src.DRAM_CTRL : Nat := 121
/-- Fault source 122. -/
def Src.NOR_ECC : Nat := 122
/-- Fault source 123. -/
def Src.MG_WDT : Nat := 123
/-- Fault source 124. -/
def Src.MG_EXC : Nat := 124
/-- Fault source 125. -/
def Src.MG_PRIV_UE : Nat := 125
/-- Fault source 126. -/
def Src.MG_FW_AUTH : Nat := 126
/-- Fault source 127. -/
def Src.MG_FW_ROLLBACK : Nat := 127
/-- Fault source 128. -/
def Src.MG_FW_FALLBACK : Nat := 128
/-- Fault source 129. -/
def Src.MG_UPDATE_FAIL : Nat := 129
/-- Fault source 130. -/
def Src.MG_EBAIN_BAD : Nat := 130
/-- Fault source 131. -/
def Src.MG_EBAIN_OLD : Nat := 131
/-- Fault source 132. -/
def Src.MG_LOG_FULL : Nat := 132
/-- Fault source 133. -/
def Src.MG_LOG_ERR : Nat := 133
/-- Fault source 134. -/
def Src.MG_WIN_ERR : Nat := 134
/-- Fault source 135. -/
def Src.MG_I2C_ERR : Nat := 135
/-- Fault source 136. -/
def Src.MG_SERVO : Nat := 136
/-- Fault source 137. -/
def Src.TEMP_WARN : Nat := 137
/-- Fault source 138. -/
def Src.TEMP_CRIT : Nat := 138
/-- Fault source 139. -/
def Src.TEMP_SENS : Nat := 139
/-- Fault source 140. -/
def Src.SUP_MARGIN : Nat := 140
/-- Fault source 141. -/
def Src.FCUR_SENS : Nat := 141
/-- Fault source 142. -/
def Src.SP_AGE_WARN : Nat := 142
/-- Fault source 143. -/
def Src.SP_AGE_LIMIT : Nat := 143
/-- Fault source 144. -/
def Src.SP_ERR_RATE : Nat := 144
/-- Fault source 145. -/
def Src.SP_SUB_PEND : Nat := 145
/-- Fault source 146. -/
def Src.SP_SUB_DONE : Nat := 146
/-- Fault source 147. -/
def Src.SP_SUB_FAIL : Nat := 147
/-- Fault source 148. -/
def Src.SP_SUB_STALL : Nat := 148
/-- Fault source 149. -/
def Src.SP_LOW : Nat := 149
/-- Fault source 150. -/
def Src.SP_EXHAUSTED : Nat := 150
/-- Fault source 151. -/
def Src.SP_SRAM_ROW : Nat := 151
/-- Fault source 152. -/
def Src.SP_SRAM_MACRO : Nat := 152
/-- Fault source 153. -/
def Src.SP_DRAM_ROW : Nat := 153
/-- Fault source 154. -/
def Src.SP_DRAM_RSV : Nat := 154
/-- Fault source 155. -/
def Src.SP_FLASH : Nat := 155
/-- Fault source 156. -/
def Src.SP_TB_RETIRE : Nat := 156
/-- Fault source 157. -/
def Src.SP_LN_RETIRE : Nat := 157
/-- Fault source 158. -/
def Src.SP_MS_RETIRE : Nat := 158
/-- Fault source 159. -/
def Src.SP_SELFTEST : Nat := 159

end Sys2Proof.Machine
end

