-- ==== Sys2Proof/Machine/Sparse.lean ====
section
/-!
DEFINITION. Sparse tables in one canonical form: a list of (key, value) pairs, keys strictly rising, no value equal
to the default that an unlisted key reads as. Registers, window memories and record tables of State are held so.
-/

namespace Sys2Proof.Machine

/-- The value at a key; an unlisted key reads as the default `d`. -/
def Sparse.get {α : Type} (d : α) : List (Nat × α) → Nat → α
  | [], _ => d
  | (k, v) :: t, a => if k = a then v else Sparse.get d t a

/-- Insert a pair in key order. -/
def Sparse.ins {α : Type} (a : Nat) (v : α) : List (Nat × α) → List (Nat × α)
  | [] => [(a, v)]
  | (k, w) :: t => if a < k then (a, v) :: (k, w) :: t else (k, w) :: Sparse.ins a v t

/-- Remove a key. -/
def Sparse.del {α : Type} (a : Nat) : List (Nat × α) → List (Nat × α)
  | [] => []
  | (k, w) :: t => if k = a then Sparse.del a t else (k, w) :: Sparse.del a t

/-- Write a value at a key; writing the default removes the entry, so the form stays canonical. -/
def Sparse.put {α : Type} [DecidableEq α] (d : α) (l : List (Nat × α)) (a : Nat) (v : α) : List (Nat × α) :=
  if v = d then Sparse.del a l else Sparse.ins a v (Sparse.del a l)

/-- Every key of the list lies above `a`. -/
def Sparse.above {α : Type} (a : Nat) : List (Nat × α) → Bool
  | [] => true
  | (k, _) :: t => decide (a < k) && Sparse.above a t

/-- The canonical form: keys strictly rising and no listed default. -/
def Sparse.wf {α : Type} [DecidableEq α] (d : α) : List (Nat × α) → Bool
  | [] => true
  | (k, v) :: t => Sparse.above k t && decide (v ≠ d) && Sparse.wf d t

/-- Drop every key in `[lo, hi)`: what a wipe or a reset of a range leaves. -/
def Sparse.dropRange {α : Type} (lo hi : Nat) : List (Nat × α) → List (Nat × α)
  | [] => []
  | (k, v) :: t => if lo ≤ k ∧ k < hi then Sparse.dropRange lo hi t else (k, v) :: Sparse.dropRange lo hi t

end Sys2Proof.Machine
end

