-- ==== Sys2Proof/Machine/State.lean ====
section
/-!
DEFINITION. The state of the block as plain data: the register file, the window memories, what each sub-block keeps
beside its registers, the outputs, the queue of waiting commands, and the state after reset. Every structure's fields
name the rule that gives them.
Where the manual leaves a point open, the choices are log entries 3, 5, 7, 73 (DESIGN CHOICE).
-/

namespace Sys2Proof.Machine

/-- A fault would stop the machine. Nothing in the manual does: every fault source is an effect on State (R416). The
one constructor is raised by no meaning; it is there so that the type is inhabited. Safe. -/
inductive Fault where
  | stopped
deriving DecidableEq, Repr

/-- Why a command has no outcome. -/
inductive Refusal where
  /-- The command's meaning is not written yet; raised by its arm of `exec` alone. Safe. -/
  | notModelled (mnemonic : String)
deriving DecidableEq, Repr

/-- A three-word time stamp (R37). -/
structure Stamp where
  ns : DWord
  frac : Word
deriving DecidableEq, Repr

/-- A residence-time entry of the two-step transparent clock (R47). -/
structure FuEntry where
  key : Nat
  residence : Int
  since : Nat
deriving DecidableEq, Repr

/-- An armed re-epoch (R60, R70): the amount, the boundary B, the port whose list gives B (10 or more: none), and the instant
that B lies at or after. -/
structure Reep where
  delta : Int
  bnd : Int
  anchor : Nat
  since : Int
deriving DecidableEq, Repr

/-- What TBASE keeps beside its registers. -/
structure Tb where
  /-- DT in ns (R33). -/
  dt : DWord
  /-- Fraction of DT in 2⁻³² ns (R33). -/
  frac : Word
  /-- Device time without the steps, before t_r the time in ticks: what relative timers run on, so that a step leaves them alone
  (R63). -/
  mono : Nat
  /-- The counter beside the active one (R39). -/
  shDt : DWord
  shFrac : Word
  /-- Remaining slew in 2⁻³² ns, signed (R530). -/
  slew : Int
  /-- Part of the slew below one fraction step, in millionths (R530). -/
  slewCarry : Nat
  /-- The time base is in JUMP by mode SLEW (R40, R58). -/
  slewing : Bool
  /-- The armed re-epoch (R60). -/
  reep : Option Reep
  /-- Instant (mono) of the last accepted TB_INC write of PF0 or of the grant (R56). -/
  incAt : Nat
  /-- Shadows of the staged PPS_OUT fields (R66). -/
  ppsPeriod : Word
  ppsPhase : Word
  ppsWidth : Word
  /-- The values a pending commit will apply: the staged set at the write of COMMIT (R17). -/
  ppsCommit : Option (Word × Word × Word)
  /-- PPS_OUT is asserted until this DT (R65). -/
  ppsOutEnd : Option Nat
  /-- The last PPS_IN stamp, or the enable, as a DT in quarter ns that moves with the steps (R63, R67). -/
  ppsInAt : Int
  /-- A PPS_IN stamp exists to check against (R67). -/
  ppsInHave : Bool
  /-- Capture FIFOs of TIN0 and TIN1 and the instant in quarter ns of the last edge (R68). -/
  tin0 : List Stamp
  tin1 : List Stamp
  tinLast0 : Option Nat
  tinLast1 : Option Nat
  /-- Level that timed actions have given each TOUT, and the pads' levels (R69, R95). -/
  tout : Nat
  toutPad : Nat
  /-- The follower has held lock before (R528); markers in a row beyond UNLOCK_NS; instant of the last marker (R52). -/
  flwEver : Bool
  flwOver : Nat
  flwAt : Nat
  /-- Residence tables, PORTA to PORTB and back (R47). -/
  fuA : List FuEntry
  fuB : List FuEntry
  /-- DT of the next field Sync of each field port (R49). -/
  nextSync : List (Nat × Nat)
  /-- Link delay of each backbone port in 2⁻¹⁶ ns, as firmware has measured it (R48). -/
  linkDly : List (Nat × Nat)
  /-- DT runs from the counter that began as the shadow (R39, R449). -/
  swapped : Bool
deriving DecidableEq, Repr

def Tb.reset : Tb where
  dt := 0
  frac := 0
  mono := 0
  shDt := 0
  shFrac := 0
  slew := 0
  slewCarry := 0
  slewing := false
  reep := none
  incAt := 0
  ppsPeriod := 0x3B9ACA00
  ppsPhase := 0
  ppsWidth := 0x05F5E100
  ppsCommit := none
  ppsOutEnd := none
  ppsInAt := 0
  ppsInHave := false
  tin0 := []
  tin1 := []
  tinLast0 := none
  tinLast1 := none
  tout := 0
  toutPad := 0
  flwEver := false
  flwOver := 0
  flwAt := 0
  fuA := []
  fuB := []
  nextSync := []
  linkDly := []
  swapped := false

/-- A write towards host memory, as the host sees it: bytes at an address, or an MSI-X message of a function. -/
inductive HostWrite where
  | mem (fn : Nat) (addr : DWord) (data : List Byte)
  | msix (fn : Nat) (vec : Nat)
deriving DecidableEq, Repr

/-- The host link and what it holds back. -/
structure Pcie where
  /-- The link is in L1.2 (R407). -/
  l12 : Bool
  /-- Host-bound writes that have left, in order (R409). -/
  out : List HostWrite
  /-- Host-bound writes waiting for the link, oldest first, and when the first one came (R409). -/
  held : List HostWrite
  heldAt : Nat
  /-- Receive frames among them: chain and holder (R359, R409). -/
  rxHold : List (Nat × Nat)
  /-- An exit from L1.2 has been requested for the held writes (R409). -/
  wakeAsked : Bool
  /-- Bus Master Enable and Memory Space Enable, one bit per function, bit 0 PF0 (R497). -/
  bme : Nat
  mse : Nat
  /-- The SR-IOV VF enable (R497). -/
  vfe : Bool
  /-- The Function Mask of MSI-X, one bit per function (R321). -/
  fmask : Nat
  /-- MSI-X tables: word index (function × 1024 + vector × 4 + word) to the word XOR its reset value (R321). -/
  msixTab : List (Nat × Word)
  /-- Pending-bit arrays: function × 256 + vector (R321). -/
  msixPend : List Nat
  /-- Functions in function-level reset: (function, instant of its start) (R490). -/
  flr : List (Nat × Nat)
deriving DecidableEq, Repr

def Pcie.reset : Pcie where
  l12 := false
  out := []
  held := []
  heldAt := 0
  rxHold := []
  wakeAsked := false
  bme := 0
  mse := 0
  vfe := false
  fmask := 0
  msixTab := []
  msixPend := []
  flr := []

/-- How a job ended: status (R311), FLAGS beyond BATCH, SOLO and GAP, RESULT, RESULT2 (R310). -/
structure JobEnd where
  status : Nat
  flags : Nat
  result : Nat
  result2 : Nat
deriving DecidableEq, Repr

/-- A fetched entry of an SQ whose batch has not completed (R308, R312). -/
structure Job where
  /-- Its own number, which no other job has; its ring position and its opcode. -/
  id : Nat
  pos : Nat
  op : Nat
  units : Nat
  tag : Nat
  compl : Bool
  /-- Rung of its frame, 7 for a job without a frame (R251). -/
  rung : Nat
  started : Bool
  done : Option JobEnd
  /-- A drain has broken its batch: it completes on its own (R319). -/
  solo : Bool
deriving DecidableEq, Repr

/-- A posted receive buffer (R301). -/
structure RxBuf where
  addr : DWord
  bufId : Nat
deriving DecidableEq, Repr

/-- Why the fetch of an SQ stands at an entry (R106, R297, R308): it does not; a transmit entry waits for work items; a point entry for GYLE;
an entry of an opcode for an earlier job of its queue to start; the units run beyond TAIL. -/
inductive Stop where
  | none
  | items (n : Nat)
  | points
  | earlier (op : Nat)
  | tail
deriving DecidableEq, Repr

/-- What QENG keeps of an SQ beside its registers. -/
structure Sq where
  /-- Position of the next unit to fetch (R297). -/
  fetch : Nat
  /-- Fetched entries in ring order (R309). -/
  jobs : List Job
  posted : List RxBuf
  stop : Stop
  /-- A FENCE that has not passed: its job and NOT_BEFORE (R307). -/
  fence : Option (Nat × Nat)
  /-- No completion is written any more: a function-level reset (R320). -/
  mute : Bool
  /-- The CQ that the enable found under QE_SQ_CFG.CQ, as a global number (R292, R326). -/
  cq : Nat
deriving DecidableEq, Repr

def Sq.empty : Sq := ⟨0, [], [], .none, none, false, 0⟩

/-- What QENG keeps of a CQ beside its registers. -/
structure Cq where
  /-- PHASE of the entry written next (R310). -/
  phase : Bool
  /-- Events since the last message and the instant of the first of them (R321). -/
  events : Nat
  firstAt : Nat
deriving DecidableEq, Repr

def Cq.empty : Cq := ⟨true, 0, 0⟩

/-- The fields of a completion entry that its writer chooses (R310). -/
structure Cqe where
  kind : Nat
  result : Nat
  result2 : Nat
  tag : Nat
  sq : Nat
  head : Nat
  entry : Nat
  status : Nat
  flags : Nat
  info : Nat
  len : Nat
deriving DecidableEq, Repr

/-- A completion on its way into a CQ in the present core cycle (R313): its rank there, the queue, the CQ, the rung of its frame (R254)
and the entry. -/
structure Due where
  rank : Nat
  q : Nat
  c : Nat
  rung : Nat
  e : Cqe
deriving DecidableEq, Repr

/-- QENG beside its registers: the queues by global number (R292, R297), the number of the next job, the completions of the present core
cycle (R313), and of each PRIO the queue last served with the units of its turn (R297). -/
structure Qe where
  sqs : List (Nat × Sq)
  cqs : List (Nat × Cq)
  nextJob : Nat
  due : List Due
  turns : List (Nat × Option (Nat × Nat))
deriving DecidableEq, Repr

def Qe.reset : Qe := ⟨[], [], 0, [], []⟩

/-- A valid chain (R351): its record, the cells it links in order (R350), and the bytes stored so far. -/
structure Chain where
  /-- HOLDERS: bit m for master m. -/
  holders : Nat
  cells : List Nat
  data : List Byte
  complete : Bool
  abort : Bool
  charge : Nat
  allocDt : DWord
deriving DecidableEq, Repr

/-- A holder operation of a chain (R358): SHARE(c, m, n), RELEASE(c, m). -/
inductive HoldOp where
  | share (c m n : Nat)
  | release (c m : Nat)
deriving DecidableEq, Repr

/-- GRIST beside its registers: chains by chain ID, and freed cells waiting for their wipe, by pool (R355). -/
structure Gr where
  chains : List (Nat × Option Chain)
  wipe0 : List Nat
  wipe1 : List Nat
  /-- Holder operations that have arrived in this core cycle, in the order of R359. -/
  ops : List HoldOp
deriving DecidableEq, Repr

def Gr.reset : Gr := ⟨[], [], [], []⟩

/-- A post that found its channel FULL, in the core cycle in which it arrived (R382): master, channel, tag, staging pointer. -/
structure HeldPost where
  m : Nat
  n : Nat
  tag : Word
  ptr : DWord
deriving DecidableEq, Repr

/-- MBOX: the staging pointers of the channels (R380), and the posts that an EMPTY of this core cycle would still let through (R382). -/
structure Mb where
  stage : List (Nat × DWord)
  posts : List HeldPost
deriving DecidableEq, Repr

def Mb.reset : Mb := ⟨[], []⟩

/-- A DMA_COPY job waiting in PITCH (R306, R368). -/
structure CopyJob where
  q : Nat
  id : Nat
  prio : Nat
  len : Nat
  swap : Nat
  srcFixed : Bool
  dstFixed : Bool
  src : DWord
  dst : DWord
  /-- No pool channel was IDLE when it came (R368, R370). -/
  waited : Bool
deriving DecidableEq, Repr

/-- A transfer as it began (R330, R335): addresses, bytes, swap mode, fixed sides. -/
structure Xfer where
  src : DWord
  dst : DWord
  count : Nat
  swap : Nat
  srcFixed : Bool
  dstFixed : Bool
deriving DecidableEq, Repr

/-- What a DMA channel does in RUN or TAIL_WAIT: nothing, a transfer in register mode, a pool job with its priority (queue, job), the
fetch of a whole descriptor, the run of a descriptor (its NEXT field and its IRQ bit), or a wait at a descriptor for a
re-read of all of it or of its NEXT only (R336, R339). -/
inductive ChDo where
  | none
  | regs (x : Xfer)
  | pool (x : Xfer) (q id prio : Nat)
  | fetch
  | desc (x : Xfer) (next : Nat) (irq : Bool)
  | wait (whole : Bool)
deriving DecidableEq, Repr

/-- A DMA channel beside its registers: the re-read in flight and whether one more follows (R339), the start address of the
chain (R340), its state before HALTED (R342), and the instant it became IDLE (R368). -/
structure Ch where
  act : ChDo
  reading : Bool
  again : Bool
  start : Option Nat
  was : Nat
  idleAt : Nat
deriving DecidableEq, Repr

def Ch.empty : Ch := ⟨.none, false, false, none, 0, 0⟩

/-- PITCH beside its registers. -/
structure Pt where
  /-- Window spaces: queue intents, queue sets, trace buffer (R363, R369, R370). -/
  intents : List (Nat × DWord)
  qsets : List (Nat × DWord)
  trace : List (Nat × DWord)
  /-- Stream bindings: handle to SQ, and the instant of the stream's last delivered frame (R369). -/
  bind : List (Nat × Option Nat)
  lastRx : List (Nat × Nat)
  /-- Heat of hot points and of DRAM-tier candidates (R365). -/
  heatHot : List (Nat × Nat)
  heatCand : List (Nat × Nat)
  /-- Start of the current heat window, an instant (R365). -/
  heatAt : Nat
  /-- Copy jobs waiting for a channel, in order of arrival (R368). -/
  copies : List CopyJob
deriving DecidableEq, Repr

def Pt.reset : Pt := ⟨[], [], [], [], [], [], [], 0, []⟩

/-- What leaves the module on a wire, pad or link. -/
inductive WireOut where
  /-- A frame of a port, its bytes with FCS, and whether the FCS was inverted (stomped). -/
  | frame (port : Nat) (data : List Byte) (stomp : Bool)
  /-- A fragment of a pre-empted frame: port, first fragment, last fragment, bytes. -/
  | fragment (port : Nat) (first last : Bool) (data : List Byte)
  /-- A verify or respond mPacket. -/
  | mpacket (port : Nat) (respond : Bool)
  /-- The base page that a backbone port sends while it negotiates (R458). -/
  | anPage (port page : Nat)
  /-- A backbone port begins or ends to send remote fault or its equivalent (R459). -/
  | remoteFault (port : Nat) (on : Bool)
  /-- A TOUT pad's edge. -/
  | tout (pad : Nat) (level : Bool)
  /-- PPS_OUT: the level of its pad. -/
  | pps (level : Bool)
  /-- A frame on the Dolnos link. -/
  | dolnos (data : List Byte)
  /-- A frame on the pulse line. -/
  | pulse (data : List Byte)
  /-- A management frame on MDIO: ST, OP, PHYAD, REGAD, data. -/
  | mdio (st op phy reg data : Nat)
  /-- A debug-port or SMBus answer. -/
  | answer (data : Nat)
deriving DecidableEq, Repr

/-- The origin key of a mirrored write (R185): T_o, the twin it landed in, its landing order there. -/
structure Key where
  t : Nat
  o : Nat
  n : Nat
deriving DecidableEq, Repr

/-- A point record (R132): the flags of R136 are single fields, HOT, PIN, FORCE, MIRROR, WRITTEN; VALID is the presence of
the record, SUB that of `sub`, the head of its subscription list. -/
structure Point where
  value : DWord
  upd : DWord
  src : Nat
  qual : Nat
  hot : Bool
  pin : Nat
  force : Bool
  mirror : Bool
  written : Bool
  maxage : Nat
  epoch : Nat
  sub : Option Nat
deriving DecidableEq, Repr

/-- A subscription entry (R157); `qual` is the quality state at its previous notification (R158). -/
structure Sub where
  last : DWord
  deadband : DWord
  next : Option Nat
  ring : Nat
  owner : Nat
  mode : Nat
  staleSent : Bool
  lastValid : Bool
  point : Nat
  qual : Nat
deriving DecidableEq, Repr

/-- A write on its way to a point (R140, R163): `upd = none` is the DT at landing; `cfg` is MAXAGE and FLAGS of mode
CONFIG; `key` comes with a mirrored write; `rs` marks a resynchronisation record (R284); `job` is the queue, job
number and index of a write of a POINT_WRITE job; `origin` is the source order of R163. -/
structure PWrite where
  origin : Nat
  point : Nat
  value : DWord
  upd : Option DWord
  qual : Nat
  src : Nat
  mode : Nat
  mono : Bool
  present : Bool
  cfg : Option (Nat × Nat)
  key : Option Key
  rs : Bool
  epoch : Nat
  job : Option (Nat × Nat × Nat)
deriving DecidableEq, Repr

/-- A host point operation in GYLE's queue (R163), with its job's queue and number: a write, a read of points to host memory (R303), a
subscribe and an unsubscribe (R304), each in a master's name. -/
inductive HostOp where
  | write (w : PWrite)
  | read (q id m addr : Nat) (points : List Nat)
  | sub (q id m p ring mode : Nat) (deadband : DWord)
  | unsub (q id m i : Nat)
deriving DecidableEq, Repr

/-- A POINT_WRITE job in progress: writes left, refusal mask, reason of the first refusal (R302). -/
structure PwJob where
  q : Nat
  id : Nat
  left : Nat
  mask : Nat
  reason : Nat
deriving DecidableEq, Repr

/-- A tier move (R139): the point, its direction, whether it was counted as delayed (R179), and the writes it holds. -/
structure Move where
  point : Nat
  toHot : Bool
  counted : Bool
  held : List PWrite
deriving DecidableEq, Repr

/-- A notification that has been evaluated and waits to be posted (R158 to R160). -/
structure Note where
  sub : Nat
  value : DWord
  upd : DWord
  point : Nat
  qual : Nat
  reason : Nat
  src : Nat
  epoch : Nat
deriving DecidableEq, Repr

/-- The maps a frame runs through, as they stood at its first map fetch (R145, R148): 64 words each, and whether the chain goes on
after eight. -/
structure MapChain where
  maps : List (List DWord)
  loop : Bool
  /-- The number of a fetch from DRAM that is still out. -/
  missing : Option Nat
deriving DecidableEq, Repr

/-- A delivered frame whose maps have not all arrived (R145): handle, bytes as delivered, ingress stamp, and the chain that GYLE holds
meanwhile (R359). -/
structure ExtWait where
  chain : MapChain
  handle : Nat
  data : List Byte
  stamp : DWord
  cell : Nat
deriving DecidableEq, Repr

/-- What KILN keeps of a port's list beside the port's registers (R76 to R88). DTs are integers, because a base time may
be moved below 0. -/
structure KnPort where
  /-- GATE_EN as it is in force (R78). -/
  eff : Bool
  /-- The operational list is being applied; the boundary at which the stored list starts (R78). -/
  running : Bool
  startAt : Option Int
  /-- DT at which the pending change's CCT was computed (R81). -/
  cctAt : Int
  /-- Cycle index in force (R76). -/
  k : Int
  /-- DT of the last event applied, and of the last hold, release and field event handled (R86, R87). -/
  last : Int
  lastHold : Int
  lastRel : Int
  lastSent : Int
  /-- The quiet interval in force: start and end (R88). -/
  quiet : Option (Int × Int)
  /-- Field die: gate events received and not yet due, and the gate states it applies (R87). -/
  fdQ : List (Int × Nat)
  fdStates : Nat
  /-- A step has moved ADMIN_BASE, or OPER_BASE, below 0: the register holds it modulo 2⁶⁴ (R63). -/
  admNeg : Bool
  opNeg : Bool
deriving DecidableEq, Repr

def KnPort.empty : KnPort := ⟨false, false, none, 0, 0, 0, 0, 0, 0, none, [], 0xFF, false, false⟩

/-- What KILN keeps of a stream gate beside its descriptors (R90, R91). -/
structure Sg where
  enabled : Bool
  pending : Bool
  cct : Int
  cctAt : Int
  running : Bool
  startAt : Option Int
  k : Int
  ent : Nat
  last : Int
  /-- Octets passed within the entry in force (R89). -/
  octets : Nat
  /-- A step has moved the administrative, or operational, BASE below 0: the word holds it modulo 2⁶⁴ (R63). -/
  aNeg : Bool
  oNeg : Bool
  /-- What was in force, newest first: from which DT, and the entry, none for DEF_STATE (R92). -/
  hist : List (Int × Option Nat)
deriving DecidableEq, Repr

def Sg.empty : Sg := ⟨false, false, 0, 0, false, none, 0, 0, 0, 0, false, false, []⟩

/-- An armed timed action (R93): REPEAT 0xFFFF repeats until cancelled; `queue` is the SQ and ring position of a queue-submitted entry;
`seq` its arming order; `due` marks an occurrence that a forward re-epoch made due, `passed` one whose DT had passed when it was
submitted or when the engine was enabled (R98). -/
structure Ta where
  dt : Nat
  addr : Nat
  value : Nat
  mask : Nat
  period : Nat
  rep : Nat
  lateDiscard : Bool
  kind : Nat
  pad : Nat
  level : Bool
  owner : Nat
  late : Bool
  refused : Bool
  tag : Nat
  queue : Option (Nat × Nat)
  seq : Nat
  due : Bool
  passed : Bool
deriving DecidableEq, Repr

/-- KILN beside its registers: the window spaces (R104), the ports, the stream gates and the timed-action table. -/
structure Kn where
  admin : List (Nat × DWord)
  oper : List (Nat × DWord)
  pool : List (Nat × DWord)
  sgAdmin : List (Nat × DWord)
  sgOper : List (Nat × DWord)
  ports : List (Nat × KnPort)
  sgs : List (Nat × Sg)
  /-- Instant (mono) of the last stream-gate event applied (R92). -/
  sgAt : Option Nat
  tas : List (Nat × Option Ta)
  taSeq : Nat
  /-- The core cycle, as a DT, that the last occurrence took; and how many occurrences each recent DT has had (R95). -/
  taAt : Option Nat
  taNs : List (Nat × Nat)
  /-- TOUT edges scheduled: pad, level, DT (R95). -/
  edges : List (Nat × Bool × Nat)
deriving DecidableEq, Repr

def Kn.reset : Kn := ⟨[], [], [], [], [], [], [], none, [], 0, none, [], []⟩

/-- GYLE beside its registers. -/
structure Gy where
  /-- Point records by point ID (R132) and subscriptions by number (R157). -/
  points : List (Nat × Option Point)
  subs : List (Nat × Option Sub)
  /-- Extraction maps: map × 64 + word (R146, R168). -/
  maps : List (Nat × DWord)
  /-- Window map (R151). -/
  wmap : List (Nat × Word)
  /-- Queues of R163 in source order 2 to 6. -/
  qTa : List PWrite
  qExt : List PWrite
  qMir : List PWrite
  qWin : List PWrite
  qHost : List HostOp
  jobs : List PwJob
  /-- Moves that PITCH has requested, and moves in progress (R139, R366). -/
  moveReq : List Move
  moves : List Move
  /-- Notifications evaluated and still to be posted (R160). -/
  notes : List Note
  /-- Maps in the on-die cache, most recently used first (R145). -/
  cache : List Nat
  /-- Number of the next fetch from DRAM, and the delivered frames that wait for one (R145). -/
  mapSeq : Nat
  extWait : List ExtWait
  /-- The age sweep (R161): its position, the instant at which its present pass began, and that of its last visit. -/
  sweepAt : Nat
  sweepPass : Nat
  sweepLast : Nat
deriving DecidableEq, Repr

def Gy.reset : Gy := ⟨[], [], [], [], [], [], [], [], [], [], [], [], [], [], 0, [], 0, 0, 0⟩

/-- A write that the assembly horizon holds (R186). -/
structure HzWrite where
  point : Nat
  key : Key
  val : Point
deriving DecidableEq, Repr

/-- The assembly horizon (R186): queue in key order, view by point with the key of each entry, and the landing order. -/
structure Hz where
  queue : List HzWrite
  view : List (Nat × Option (Key × Point))
  order : Nat
deriving DecidableEq, Repr

def Hz.reset : Hz := ⟨[], [], 0⟩

/-- A template launch that MASH has created and not yet handed off (R173): the content it fetched and what it has read. -/
structure TplLaunch where
  /-- Its work item (R105). -/
  item : Nat
  tpl : Nat
  k : Int
  dtl : Nat
  port : Nat
  eng : Nat
  ctl : List DWord
  slots : List DWord
  image : List DWord
  classed : Bool
  /-- Points classed hot whose read is still to come (R176, R179), and those classed DRAM. -/
  hotWait : List Nat
  dramWait : List Nat
  /-- Reads made: the point and the record the slots take (R177, R185). -/
  reads : List (Nat × Option Point)
  /-- Was a point classed DRAM (R193)? -/
  cold : Bool
deriving DecidableEq, Repr

/-- MASH beside its registers: the three parts of the templates by window word (R169, R193), the launches under way, the
last cycle created of each template with its anchor port (R174) and the template whose disabling is awaited (R175). -/
structure Ms where
  ctl : List (Nat × DWord)
  slots : List (Nat × DWord)
  images : List (Nat × DWord)
  launches : List TplLaunch
  lastK : List (Nat × Option (Nat × Int))
  disabling : Option Nat
  /-- The last instant at which the hot read ports served a core cycle, and how many of its core cycles they served (R177). -/
  hotAt : Nat
  hotUsed : Nat
deriving DecidableEq, Repr

def Ms.reset : Ms := ⟨[], [], [], [], [], none, 0, 0⟩

/-- A mirror record (R276). -/
structure MirRec where
  point : Nat
  mode : Nat
  key : Key
  value : DWord
  upd : DWord
  qual : Nat
  epoch : Nat
  src : Nat
  maxage : Nat
  flags : Nat
deriving DecidableEq, Repr

/-- A Dolnos frame (R266) kept until it is acknowledged (R267). -/
structure DFrame where
  type : Nat
  seq : Nat
  payload : List Byte
deriving DecidableEq, Repr

/-- The twin agent beside its registers. -/
structure Tw where
  /-- Mirror records waiting, oldest first, and when the open batch began (R276). -/
  mirBuf : List MirRec
  batchAt : Nat
  /-- Dirty map: points, ascending (R278). -/
  dirty : List Nat
  /-- TW_MIR_LOSS has been raised in this outage (R278). -/
  lossRaised : Bool
  /-- Newest write of each mirrored point: its key and mode (R278, R284). -/
  newest : List (Nat × Option (Key × Nat))
  /-- SEQ records waiting: function, number, low word of the DT (R276). -/
  seqBuf : List (Nat × Nat × Nat)
  /-- Reliable transport: next SEQ to send, unacknowledged frames, next SEQ expected, credit granted by the peer, instant
  of the last progress (R267). -/
  txSeq : Nat
  unacked : List DFrame
  rxNext : Nat
  credit : Nat
  progressAt : Nat
  /-- A REEP frame that waits for room among the outstanding frames (R267, R281). -/
  reepBuf : Option (List Byte)
  /-- Instant of the last valid heartbeat per path, and how many came in a row since the path went down (R270). -/
  hbD : Option Nat
  hbP : Option Nat
  rowD : Nat
  rowP : Nat
  hbSeq : Nat
  /-- Instant at which the agent was enabled or last heard the peer (R262, R272). -/
  since : Nat
  peerLostSent : Bool
  /-- TX_DT and arrival stamp of the last Dolnos heartbeat of the peer (R269). -/
  echoTx : DWord
  echoRx : DWord
  /-- Heartbeats in a row beyond or within TW_OFFS_THR (R280). -/
  offsOver : Nat
  offsUnder : Nat
  peerRole : Nat
  peerReady : Bool
  /-- Backbone claim frames left to send, the instant of the next one, and the last counter-claim (R275). -/
  bbLeft : Nat
  bbNext : Nat
  bbAt : Option Nat
  /-- Instant of the next heartbeat (R269) and of the next assembly self-test (R282). -/
  hbNext : Nat
  stNext : Nat
  /-- Resynchronisation: requested by this twin, served to the peer, next point of the walk, instant of RS_DONE (R284). -/
  rsWait : Bool
  rsServe : Bool
  rsNext : Nat
  rsDoneAt : Option Nat
  /-- Failing self-tests (R282) and the instants of the last uncorrectable error and unresolved shadow mismatch. -/
  tests : Nat
  ueAt : Option Nat
  unresAt : Option Nat
  /-- Frame agreement: launches digested so far as (DT_L, template, CRC), the last complete window of this twin as (index,
  digest, count), the last one that the peer has sent, and the last one compared (R286). -/
  chk : List (Nat × Nat × Nat)
  chkOwn : Option (Nat × Nat × Nat)
  /-- Windows of this twin that were completed before it, newest first, and the DT at which it became READY (R286). -/
  chkOld : List (Nat × Nat × Nat)
  readyAt : Nat
  chkPeer : Option (Nat × Nat × Nat)
  chkSeen : Option Nat
deriving DecidableEq, Repr

def Tw.reset : Tw where
  mirBuf := []
  batchAt := 0
  dirty := []
  lossRaised := false
  newest := []
  seqBuf := []
  txSeq := 0
  unacked := []
  rxNext := 0
  credit := 0
  progressAt := 0
  reepBuf := none
  hbD := none
  hbP := none
  rowD := 0
  rowP := 0
  hbSeq := 0
  since := 0
  peerLostSent := false
  echoTx := 0
  echoRx := 0
  offsOver := 0
  offsUnder := 0
  peerRole := 0
  peerReady := false
  bbLeft := 0
  bbNext := 0
  bbAt := none
  hbNext := 0
  stNext := 0
  rsWait := false
  rsServe := false
  rsNext := 0
  rsDoneAt := none
  tests := 0
  ueAt := none
  unresAt := none
  chk := []
  chkOwn := none
  chkOld := []
  readyAt := 0
  chkPeer := none
  chkSeen := none

/-- State and counter record of a recovery function (R212): TIMER as the instant (mono) it runs out, PENDING by ingress
port and number (R213), and the instants of its last latent-error test and reset (R218, R533). -/
structure Rec where
  hist : Nat
  seq : Nat
  takeAny : Bool
  latErr : Bool
  pend : List (Nat × Nat)
  timer : Nat
  latBase : Int
  passed : Nat
  disc : Nat
  ooo : Nat
  rogue : Nat
  lost : Nat
  tagless : Nat
  resets : Nat
  latResets : Nat
  latAt : Nat
  latRstAt : Nat
deriving DecidableEq, Repr

def Rec.empty : Rec := ⟨0, 0, true, false, [], 0, 0, 0, 0, 0, 0, 0, 0, 0, 0, 0, 0⟩

/-- Verdict of sequence recovery on a frame in reception (R213): not evaluated, passed without a number, pending, held, or
discarded. -/
inductive RecV where
  | open
  | free
  | pending (f n : Nat)
  | held (f n : Nat)
  | drop
deriving DecidableEq, Repr

/-- What the stages have found about a received frame (R23, R202, R213, R219): its bytes so far, ingress stamp and the instant (mono) of
it, the handle once looked up with the words of its stream entry and its maps as they stood then (R145, R195), the stream filter it
took with its words (none: no filtering), the gate's IPV, the recovery verdict with the configuration word it was evaluated by, the
meter's yellow, the cut-through items made of it, whether its end has come, whether it is pre-emptable (R120), and its chain. -/
structure RxFrame where
  port : Nat
  data : List Byte
  stamp : Stamp
  at_ : Nat
  look : Option (Option Nat)
  e0 : DWord
  e1 : DWord
  maps : Option MapChain
  filt : Option (Option (Nat × DWord × DWord))
  ipv : Option Nat
  verdict : RecV
  rcfg : DWord
  yellow : Bool
  items : List Nat
  whole : Bool
  frags : Bool
  chain : Option Nat
deriving DecidableEq, Repr

/-- FINING beside its registers: the tables by window word (R196, R200, R205, R212, R230), stream counters (handle × 4 + 0 to
2), recovery records, the words of records not yet complete (space × 2¹⁸ + word, R195), and the held copies whose end has
come (R213). -/
structure Fn where
  streams : List (Nat × DWord)
  scnt : List (Nat × Nat)
  staging : List (Nat × DWord)
  ids : List (Nat × Option (List DWord))
  gens : List (Nat × DWord)
  recCfg : List (Nat × DWord)
  recs : List (Nat × Rec)
  part : List (Nat × Option DWord)
  held : List RxFrame
  /-- The command under way and the staging record that it took (R203): 0 one whose effect is there, 1 ID_INSERT, 2 ID_DELETE,
  3 ID_FIND, 4 one refused by a wipe. -/
  cmd : Option (Nat × List DWord)
deriving DecidableEq, Repr

def Fn.reset : Fn := ⟨[], [], [], [], [], [], [], [], [], none⟩

/-- Tokens of a meter in eight-millionths of a byte, and the instant (mono) of its last update (R223). -/
structure Meter where
  c : Nat
  e : Nat
  at_ : Nat
deriving DecidableEq, Repr

def Meter.empty : Meter := ⟨0, 0, 0⟩

/-- PSFP beside its registers: filters, filter counters (filter × 8 + 0 to 5), meters and their tokens, policing records and
incomplete records (R195, R219 to R226). -/
structure Ps where
  filters : List (Nat × DWord)
  fcnt : List (Nat × Nat)
  meters : List (Nat × DWord)
  toks : List (Nat × Meter)
  police : List (Nat × Nat)
  part : List (Nat × Option DWord)
deriving DecidableEq, Repr

def Ps.reset : Ps := ⟨[], [], [], [], [], []⟩

/-- State of a token-bucket shaper (R234, R236, R239): TOKENS in units of 2⁻¹⁶ ÷ 15,625 byte, exact at every ns, with the
instant of the last update; and, while it waits, NEXT_ELIG as an instant (mono) and its wheel level, 4 the overflow list. -/
structure Shp where
  tok : Int
  at_ : Nat
  elig : Option Nat
  lvl : Nat
deriving DecidableEq, Repr

def Shp.empty : Shp := ⟨0, 0, none, 0⟩

/-- LAUTER beside its registers: shaper records and states (R234), bindings (R235), credits in millionths of a bit and the
slopes and caps in force by port × 8 + class (R242, R243), pauses by port × 8 + class as the instant they end (R247), queue
pauses, with no end until resumed (R249), the last granted slot (R240) and incomplete records. -/
structure Lt where
  words : List (Nat × DWord)
  shps : List (Nat × Shp)
  qbind : List (Nat × Nat)
  pbind : List (Nat × Nat)
  credit : List (Nat × Int)
  slope : List (Nat × Nat)
  hi : List (Nat × Nat)
  pause : List (Nat × Option Nat)
  qpause : List (Nat × Option (Option Nat))
  slot : Nat
  part : List (Nat × Option DWord)
deriving DecidableEq, Repr

def Lt.reset : Lt := ⟨[], [], [], [], [], [], [], [], [], 0, []⟩

/-- States of a work item between admission and its end (R109); `cut` is an interrupted frame (R118). `ready` says that its data are in the
engine or at the field die; the manual's READY asks of a timed backbone item besides that DT_L is reached, which is `State.inReady`. -/
inductive ItemSt where
  | wait
  | fetch
  | ready
  | wire
  | cut
deriving DecidableEq, Repr

/-- The large-send part of an item (R123, R300): the header, the segment size, offsets and type. -/
structure Lso where
  hdr : List Byte
  mss : Nat
  l3 : Nat
  l4 : Nat
  ipv6 : Bool
  udp : Bool
deriving DecidableEq, Repr

/-- A work item (R105): its line's source number (R245; 1,027 for template launches), egress port and class, stream handle,
DT_L, LATE policy, host job, the admission number that the copies of one frame share, its chain and holder, the frame
without FCS (for a large send the payload), and how far it has come. -/
structure Item where
  src : Nat
  port : Nat
  cls : Nat
  handle : Option Nat
  dtl : Option Nat
  lateDisc : Bool
  /-- Made due by a forward re-epoch (R61). -/
  due : Bool
  job : Option (Nat × Nat)
  grp : Nat
  chain : Option Nat
  holder : Nat
  data : List Byte
  /-- Ingress port and whether the frame is still arriving (R121); `bad`: its end turned out bad (R122). -/
  pass : Option Nat
  arriving : Bool
  bad : Bool
  /-- The bytes carry an R-TAG, or FINING has inserted one. -/
  tagged : Bool
  /-- Sequence number fixed before the start (R206). -/
  seq : Option Nat
  /-- What another copy of the frame has settled, by segment: the number, or 65,536 for one sent without (R206, R207, R210). -/
  nums : List (Nat × Nat)
  lso : Option Lso
  seg : Nat
  st : ItemSt
  late : Bool
  /-- Its sibling on the other port became eligible first (R255). -/
  later : Bool
  /-- Bytes of the present frame sent in earlier fragments; the frame as it leaves, with FCS. -/
  sent : Nat
  out : List Byte
  /-- Egress time stamp of the first frame, if one was kept (R464). -/
  stamp : Option Stamp
  /-- The frame has been cut at least once (R117). -/
  cutOnce : Bool
  /-- Data bytes of the fragments that left while the frame was still arriving, whose bytes are not listed on the wire yet (R122). -/
  frags : List Nat
  /-- The ingress stamp of a pass-through frame (R46). -/
  ingress : Stamp
  /-- Yields and counts made once: the pair's index, 100 for the guard, and a mark for each closing of the gate (R113, R114, R252). -/
  marks : List Nat
deriving DecidableEq, Repr

/-- The transmitter of a port (R109, R118): times in tenths of a ns of `mono`. `item` none is an mPacket, `respond` its kind; `stop` is
the end of the last FCS bit, unknown while the frame still arrives; `cut` the data bytes of the fragment. -/
structure Wire where
  item : Option Nat
  respond : Bool
  start : Nat
  stop : Option Nat
  cut : Option Nat
deriving DecidableEq, Repr

/-- A port of LAUNCH: its transmitter, when the wire is free again, verify and respond mPackets waiting, verifies sent and
the instant the last one left (R116, R531), and the source last served of each class (R245). -/
structure LnPort where
  wire : Option Wire
  free : Nat
  pendV : Bool
  pendR : Bool
  sentV : Nat
  atV : Nat
  served : List (Nat × Nat)
  /-- Fragments being reassembled: bytes so far and the next fragment count (R120). -/
  asm : Option (List Byte × Nat)
  /-- The class of the last frame, whose gap runs until `free` (R242). -/
  gapCls : Option Nat
deriving DecidableEq, Repr

def LnPort.empty : LnPort := ⟨none, 0, false, false, 0, 0, [], none, none⟩

/-- A copy of a host job that has ended and waits for the others (R299): queue, job, port, status, flags, stamp, segments sent. -/
structure CopyEnd where
  q : Nat
  id : Nat
  port : Nat
  status : Nat
  flags : Nat
  stamp : Option Stamp
  segs : Nat
deriving DecidableEq, Repr

/-- LAUNCH beside its registers: the work table by admission order, the next number, the ports, ended copies, and the ports
whose rebinding has been deferred and counted (R252). -/
structure Ln where
  items : List (Nat × Option Item)
  next : Nat
  ports : List (Nat × LnPort)
  ends : List CopyEnd
  waits : List Nat
  /-- DT_L of timed jobs that have started, for the backward steps that do not repeat them (R62, R254). -/
  launched : List Nat
deriving DecidableEq, Repr

def Ln.reset : Ln := ⟨[], 0, [], [], [], []⟩

/-- An entry of the cellar book (R421); CONSEQ, INJECT and COALESCED as single fields. -/
structure BookEntry where
  dt : Nat
  src : Nat
  sev : Nat
  conseq : Bool
  inject : Bool
  coal : Bool
  react : Nat
  master : Option Nat
  inst : Nat
  blk : Nat
  repeats : Nat
  info : Nat
  seq : Nat
  last : Nat
deriving DecidableEq, Repr

/-- What CELLAR keeps beside its registers. Blocks are numbered by their bit in CRP_BLK_RST: the target, 22 for MASH
(R493). -/
structure Cl where
  /-- Raises on their way to CELLAR, in the order of their detection (R417). -/
  inbox : List Raise
  /-- Active conditions: (source, instance) (R417). -/
  conds : List (Nat × Nat)
  /-- The book, oldest first, the slot of its oldest entry, and the SEQ of the next entry (R421, R422). -/
  book : List BookEntry
  rdAt : Nat
  seq : Nat
  /-- Settling windows: the block and the instant at which its window closes, none while the reset runs (R428). -/
  settle : List (Nat × Option Nat)
  /-- Reaction resets of each block: (block, instant) (R430). -/
  resets : List (Nat × Nat)
  /-- Instant of the last raise that holds the fault state (R431), and of the ERRPAD that began the minimum width (R427). -/
  faultAt : Nat
  padAt : Nat
  /-- Instants of CRITICAL raises (R431). -/
  crits : List Nat
  /-- Sources whose configuration has a parity error (R419). -/
  parity : List Nat
  /-- ALERT_N is driven low (R423). -/
  alert : Bool
  /-- What the raises of this core cycle still go by: the configuration of sources written in it, and FAULT_MIN (R419, R431). -/
  cfgOld : List (Nat × Option Nat)
  minOld : Option Nat
  /-- Sources whose CL_PEND bit a raise of this core cycle has set (R423). -/
  pendNow : List Nat
  /-- This core cycle has had an ERRPAD, and a release that raised the pad (R427). -/
  padNow : Bool
  rose : Bool
deriving DecidableEq, Repr

def Cl.reset : Cl where
  cfgOld := []
  minOld := none
  pendNow := []
  padNow := false
  rose := false
  inbox := []
  conds := []
  book := []
  rdAt := 0
  seq := 0
  settle := []
  resets := []
  faultAt := 0
  padAt := 0
  crits := []
  parity := []
  alert := false

/-- A backbone port beside its registers: the instant from which its lock has been clean in HOLD (R459); what its counters of
PCS and FCS errors stood at when they were last compared, less what reads have cleared since, and the instant of that
comparison (R478). -/
structure BpPort where
  holdAt : Nat
  pcsBase : Int
  fcsBase : Int
  checkAt : Nat
deriving DecidableEq, Repr

def BpPort.empty : BpPort := ⟨0, 0, 0, 0⟩

/-- The backbone ports, the MDIO command under way by ST and OP (R465), and what ports in loopback have sent and not yet received
(R459). -/
structure Bp where
  ports : List (Nat × BpPort)
  mdio : Option (Nat × Nat)
  loop : List WireOut
deriving DecidableEq, Repr

def Bp.reset : Bp := ⟨[], none, []⟩

/-- A port's power on the field die (R472 to R475): its state and the instant it was entered; the earliest next probe; a
failed classification; retries used; a disable not yet evaluated; the current before a shed, since when the sum has
allowed its return; and the start of training (R471). -/
structure FdPort where
  pst : Nat
  since : Nat
  probeAt : Nat
  failed : Option Nat
  used : Nat
  off : Bool
  iLast : Nat
  lowAt : Option Nat
  trainAt : Nat
  /-- SCCP and CLASS as the last DETECT took them (R480). -/
  sccp : Bool
  cls : Nat
  /-- A foreign voltage on the pair, whether it is inverted, and the class that SCCP has read (R472). -/
  mis : Bool
  rev : Bool
  clsRd : Nat
deriving DecidableEq, Repr

def FdPort.empty : FdPort := ⟨0, 0, 0, none, 0, false, 0, none, 0, false, 10, false, false, 0⟩

/-- The field die and its channel (R466 to R476, R529). -/
structure Fd where
  /-- Released from its first reset (R529); FVIN in mV and the two supervisions with their hysteresis (R476). -/
  released : Bool
  fvin : Nat
  uv : Bool
  ov : Bool
  /-- FVIN has fallen below 16 V since the die last ran (R469). -/
  dead : Bool
  /-- A field-side reset runs (R469). -/
  inReset : Bool
  /-- The channel's loss and whether the die has gone safe (R468). -/
  lostAt : Nat
  safe : Bool
  ports : List (Nat × FdPort)
  /-- Port currents in mA at the last power evaluation and its instant (R475). -/
  cur : List Nat
  evalAt : Nat
  /-- Counter increments not yet sent to the proxy, by key of the counter (R470). -/
  cnt : List (Nat × Nat)
  /-- Received frames that have passed the die's checks and wait to cross (R466). -/
  cross : List RxFrame
  /-- From a loss of the channel to the reload: the registers that the die still runs by (R470). -/
  die : Option (List (Nat × Word))
deriving DecidableEq, Repr

def Fd.reset : Fd where
  released := false
  fvin := 0
  uv := true
  ov := false
  dead := false
  inReset := false
  lostAt := 0
  safe := false
  ports := []
  cur := []
  evalAt := 0
  cnt := []
  cross := []
  die := none

/-- An access that GC_ACC_ERR (`acc`) or GC_CFG_ERR records (R503, R505). -/
structure ErrRec where
  acc : Bool
  wr : Bool
  size : Nat
  m : Nat
  off : Nat
deriving DecidableEq, Repr

/-- Clock, reset and power (R481 to R493, R406) and the debug port (R404, R405). -/
structure Crp where
  /-- The main side is unpowered (R406). -/
  off : Bool
  /-- PWR_GOOD is high (R482), and the VIO level detected at power-on is 3.3 V (R481). -/
  pwrGood : Bool
  vio33 : Bool
  /-- RESET_N is low and holds the chip in reset (R483). -/
  rstLow : Bool
  /-- A chip reset has been asked for by register or by a reaction and is still to come (R426, R491). -/
  chipReq : Bool
  /-- Instant of t_r (R485). -/
  tr : Nat
  /-- The start-up under way follows a chip reset, which firmware logs (R440). -/
  again : Bool
  /-- Blocks in reset, by bit of CRP_BLK_RST, with the instant of the assertion (R425). -/
  blk : List (Nat × Nat)
  /-- A transition to HOLD under way (R407), and the requests of this core cycle, with the master of each (R406). -/
  toHold : Bool
  pwReqs : List (Nat × Nat)
  /-- Words of the access tables, target × 8 + word, as they stood before the writes of this core cycle (R395). -/
  tblOld : List (Nat × Option Nat)
  /-- Records that this core cycle has made in GC_ACC_ERR and GC_CFG_ERR, and raises of it that found an earlier record (R505). -/
  errNow : List ErrRec
  errWait : List ErrRec
  /-- End of the debug level by token (R405), an instant. -/
  dbgEnd : Option Nat
  /-- The life-cycle state that an accepted token has ordered (R398). -/
  lcNext : Option Nat
  /-- The management core is halted by the debug port (R404); instructions stepped. -/
  halted : Bool
  steps : Nat
  /-- Bits that the last boundary-scan instruction put on the pads (R404). -/
  pads : List Bool
  /-- The token shifted in through the debug port and not yet evaluated; how often AC_NONCE has been renewed (R400). -/
  token : Option (List Byte)
  nonce : Nat
deriving DecidableEq, Repr

def Crp.reset : Crp where
  off := false
  pwrGood := true
  vio33 := false
  rstLow := false
  chipReq := false
  tr := 0
  again := false
  blk := []
  toHold := false
  pwReqs := []
  tblOld := []
  errNow := []
  errWait := []
  dbgEnd := none
  lcNext := none
  halted := false
  steps := 0
  pads := []
  token := none
  nonce := 0

/-- A firmware slot of the NOR: VERSION, SVN, whether its signature verifies (R442). -/
structure FwSlot where
  version : Nat
  svn : Nat
  ok : Bool
deriving DecidableEq, Repr

/-- An Ebain slot of the NOR: the image, and whether its signature verifies against the owner key (R446, R447). -/
structure EbSlot where
  image : List Byte
  sig : Bool
deriving DecidableEq, Repr

/-- A log record before its CRC (R439). -/
structure LogRec where
  dt : Nat
  seq : Nat
  boot : Nat
  type : Nat
  epoch : Nat
  len : Nat
  payload : List Byte
deriving DecidableEq, Repr

/-- MALTSTER beside its registers. -/
structure Mg where
  /-- NOR: firmware slots A and B, the active one, Ebain slots A and B, the log, the owner key (R411, R439, R442, R447). -/
  fwA : FwSlot
  fwB : FwSlot
  active : Bool
  ebA : Option EbSlot
  ebB : Option EbSlot
  log : List LogRec
  ownerKey : Option (List Byte)
  /-- Does the key store hold the device identity key (R398, R411; its value never leaves the key store, R405), and the erasures of each log sector (R440, R449). -/
  deviceKey : Bool
  erases : List (Nat × Nat)
  /-- A valid temperature has been read since the chip reset (R437). -/
  tempSeen : Bool
  /-- A verified image stands in the slot that is not active (R443), and the instant at which a trial began. -/
  staged : Bool
  trialAt : Nat
  /-- The core runs again in a trial, or back in the previous slot, when its restart ends (R443). -/
  trialNext : Bool
  /-- Log records in the buffer, oldest first, the number dropped since the last TYPE 10 record, the second in which NOR
  records were last written and how many (R440). -/
  buf : List LogRec
  dropped : Nat
  logAt : Nat
  logN : Nat
  /-- LOG_SEQ of the next record, and the least SEQ of the book that firmware has not yet logged (R440). -/
  logSeq : Nat
  nmiSeq : Nat
  /-- Requests posted on channels 0 to 3 in posting order (R436). -/
  reqs : List Nat
  /-- Those of `reqs` that were posted in this core cycle (R436). -/
  reqsNew : List Nat
  /-- Replies waiting for their channel (R436). -/
  replies : List (Nat × DWord × Word)
deriving DecidableEq, Repr

def Mg.reset : Mg where
  fwA := ⟨0, 0, true⟩
  fwB := ⟨0, 0, false⟩
  active := false
  ebA := none
  ebB := none
  log := []
  ownerKey := none
  deviceKey := true
  erases := []
  tempSeen := false
  staged := false
  trialAt := 0
  trialNext := false
  buf := []
  dropped := 0
  logAt := 0
  logN := 0
  logSeq := 0
  nmiSeq := 0
  reqs := []
  reqsNew := []
  replies := []

/-- A substitution waiting or under way (R451): class, unit, the macro of an SRAM row, the block whose reset an uncorrectable error
has begun, whether it is under way, the instant from which it has found no window, whether it was counted as a yield and as a stall. -/
structure Subst where
  cls : Nat
  unit : Nat
  mac : Nat
  blk : Option Nat
  act : Bool
  waitAt : Nat
  yielded : Bool
  stalled : Bool
deriving DecidableEq, Repr

/-- SPARE beside its registers (R449 to R451). -/
structure Sp where
  /-- Substitutions in the order of their triggers, and whether the copy of the one under way runs. -/
  queue : List Subst
  open_ : Bool
  /-- Corrected memory errors of the last 24 h: instant, source, INFO. -/
  errs : List (Nat × Nat × Nat)
  /-- Residue failures of the time-base counters in the last 24 h: instant, counter. -/
  resid : List (Nat × Nat)
  /-- The class of each idle spare that has failed its self-test. -/
  bad : List Nat
  /-- Spare rows used, by SRAM macro. -/
  rows : List (Nat × Nat)
  /-- Retired launch and assembly engines (R127, R189). -/
  retLn : List Nat
  retMs : List Nat
  /-- Assembly engine 4 is in service (R189). -/
  msSpare : Bool
  /-- Assembly self-tests that have failed in a row (R449). -/
  stFails : Nat
deriving DecidableEq, Repr

def Sp.reset : Sp where
  queue := []
  open_ := false
  errs := []
  resid := []
  bad := []
  rows := []
  retLn := []
  retMs := []
  msSpare := false
  stFails := 0

/-- The state of the block. -/
structure State where
  /-- Register file: key of a field to its value XOR its reset value; an unlisted field holds its reset value (R16). -/
  regs : List (Nat × Word)
  /-- What TBASE (R33), the host link (R497) and QENG (R292) keep. -/
  tb : Tb
  pcie : Pcie
  qe : Qe
  /-- The DMA channels by number (R328). -/
  dma : List (Nat × Ch)
  /-- The mailboxes (R380). -/
  mb : Mb
  /-- GRIST (R350), PITCH (R363), KILN (R76), GYLE (R132), the horizon (R186), MASH (R169), the twin agent (R262), FINING (R196), PSFP
  (R219), LAUTER (R234) and LAUNCH (R105). -/
  gr : Gr
  pt : Pt
  kn : Kn
  gy : Gy
  hz : Hz
  ms : Ms
  tw : Tw
  fn : Fn
  ps : Ps
  lt : Lt
  ln : Ln
  /-- Frames in reception: an express frame by its port, a pre-emptable one by its port + 10 (R120, R461). -/
  rx : List (Nat × Option RxFrame)
  /-- CELLAR (R421), the backbone ports (R459), the field die (R466), CRP (R482), MALTSTER (R436) and SPARE (R449). -/
  cl : Cl
  bp : Bp
  fd : Fd
  crp : Crp
  mg : Mg
  sp : Sp
  /-- Instant of the last YIELD raise of each pair (R253). -/
  yieldAt : List (Nat × Option Nat)
  /-- What has left on wires, pads and links, in order (R109, R95, R266). -/
  wire : List WireOut
  /-- Words latched for a master by a read of a low word: key master × 2²⁴ + offset (R12, R38). -/
  latched : List (Nat × Option Word)
  /-- Low words held for a master until the high word is written (R12). -/
  loHeld : List (Nat × Option Word)
  /-- Records latched for a master by a read of their word 0 (R195, R374): key master × 4 + block (0 FINING, 1 PSFP, 2 GRIST), the record's
  first word with its space, and the words. -/
  recLatch : List (Nat × Option (Nat × List DWord))
  /-- What the last read command returned, word by word (R11). -/
  readData : List Word
  /-- The model's own counter, no state of the manual: the argument of the free values (log entry 3). -/
  freeIdx : Nat
  /-- Commands waiting, first in first out: the model's own (log entry 1). -/
  pending : List Instr
deriving DecidableEq, Repr

/-- The machine right after the internal reset release (R485, R402). -/
def State.reset : State where
  regs := []
  tb := Tb.reset
  pcie := Pcie.reset
  qe := Qe.reset
  dma := []
  mb := Mb.reset
  gr := Gr.reset
  pt := Pt.reset
  kn := Kn.reset
  gy := Gy.reset
  hz := Hz.reset
  ms := Ms.reset
  tw := Tw.reset
  fn := Fn.reset
  ps := Ps.reset
  lt := Lt.reset
  ln := Ln.reset
  rx := []
  cl := Cl.reset
  bp := Bp.reset
  fd := Fd.reset
  crp := Crp.reset
  mg := Mg.reset
  sp := Sp.reset
  yieldAt := []
  wire := []
  latched := []
  loHeld := []
  recLatch := []
  readData := []
  freeIdx := 0
  pending := []

end Sys2Proof.Machine
end

