-- ==== Sys2Proof/Machine/Ops.lean ====
section
/-!
DEFINITION. The named operations that every meaning is written in: register fields (R13 to R18), saturating counters
(R15), 64-bit quantities (R12), bit fields, device time, and the raise of a fault source (R417).
Where the manual leaves a point open, the choices are log entries 3, 48 (DESIGN CHOICE); 15, 17, 60, 66, 75, 80 (DEDUCED).
-/

namespace Sys2Proof.Machine

/-- The outcome type of a meaning. -/
abbrev Out := Host.Outcome State Fault Refusal

/-- Bits `[lo + w - 1 : lo]` of a number. -/
def bits (x lo w : Nat) : Nat := x / 2 ^ lo % 2 ^ w

/-- A bit of a written word. -/
def bitOn (v i : Nat) : Bool := bits v i 1 == 1

/-- Replace bits `[lo + w - 1 : lo]` of a number. -/
def putBits (x lo w v : Nat) : Nat := x - bits x lo w * 2 ^ lo + v % 2 ^ w * 2 ^ lo

/-- A number of `w` bits read as two's complement. -/
def toSigned (w x : Nat) : Int := if x % 2 ^ w < 2 ^ (w - 1) then (x % 2 ^ w : Nat) else (x % 2 ^ w : Nat) - (2 ^ w : Nat)

/-- Two's complement of an integer in `w` bits. -/
def ofSigned (w : Nat) (x : Int) : Nat := (x % (2 ^ w : Nat)).toNat

/-- Little-endian value of a byte list. -/
def leNat : List Byte → Nat
  | [] => 0
  | b :: t => b.toNat + 256 * leNat t

/-- Little-endian bytes of a value. -/
def leBytes : Nat → Nat → List Byte
  | 0, _ => []
  | n + 1, v => BitVec.ofNat 8 v :: leBytes n (v / 256)

/-- Big-endian value of a byte list. -/
def beNat (l : List Byte) : Nat := l.foldl (fun a b => a * 256 + b.toNat) 0

/-- Big-endian bytes of a value. -/
def beBytes (n v : Nat) : List Byte := (leBytes n v).reverse

/-- `n` bytes of a list from offset `off`. -/
def slice (l : List Byte) (off n : Nat) : List Byte := (l.drop off).take n

/-- Overwrite the bytes of a list from offset `off`. -/
def patch (l : List Byte) (off : Nat) (v : List Byte) : List Byte := l.take off ++ v ++ l.drop (off + v.length)

/-- Value of a register field. -/
def State.rd (s : State) (f : Fld) : Nat := (Sparse.get 0 s.regs f.key ^^^ BitVec.ofNat 32 f.rst).toNat

/-- Set a register field. -/
def State.wr (s : State) (f : Fld) (v : Nat) : State :=
  { s with regs := Sparse.put 0 s.regs f.key (BitVec.ofNat 32 (v % 2 ^ f.w) ^^^ BitVec.ofNat 32 f.rst) }

/-- A one-bit field as a truth value. -/
def State.on (s : State) (f : Fld) : Bool := s.rd f != 0

/-- Add to a counter; it saturates at all ones (R15). -/
def State.add (s : State) (f : Fld) (n : Nat) : State := s.wr f (min (s.rd f + n) (2 ^ f.w - 1))

/-- Count one event (R15). -/
def State.inc (s : State) (f : Fld) : State := s.add f 1

/-- A 64-bit quantity in two registers (R12). -/
def State.rd64 (s : State) (lo hi : Fld) : Nat := s.rd lo + 2 ^ 32 * s.rd hi

/-- Set a 64-bit quantity (R12). -/
def State.wr64 (s : State) (lo hi : Fld) (v : Nat) : State := (s.wr lo v).wr hi (v / 2 ^ 32)

/-- Raise a fault source: the raise sets out for CELLAR (R417). -/
def State.raise (s : State) (src inst : Nat) (master : Option Nat) (info : Nat) : State :=
  { s with cl := { s.cl with inbox := s.cl.inbox ++ [⟨src, inst, master, info, false⟩] } }

/-- A raise without an instance or a master. -/
def State.raise0 (s : State) (src info : Nat) : State := s.raise src 0xFF none info

/-- The onset of a condition raises its source once and holds the condition (R417). -/
def State.onset (s : State) (src inst info : Nat) : State :=
  if (src, inst) ∈ s.cl.conds then s
  else { s with cl := { s.cl with conds := (src, inst) :: s.cl.conds, inbox := s.cl.inbox ++ [⟨src, inst, none, info, false⟩] } }

/-- Is any instance of a condition source active? -/
def State.cond (s : State) (src : Nat) : Bool := s.cl.conds.any (fun p => p.1 == src)

/-- Write a bit of a field. -/
def State.wrBit (s : State) (f : Fld) (i : Nat) (b : Bool) : State := s.wr f (putBits (s.rd f) i 1 b.toNat)

/-- The end of a condition: it is no raise; CL_ACTIVE of the source clears with its last instance (R417). -/
def State.condEnd (s : State) (src inst : Nat) : State :=
  let s1 := { s with cl := { s.cl with conds := s.cl.conds.filter (fun p => !(p == (src, inst))) } }
  if s1.cond src then s1 else s1.wrBit (F.CL_ACTIVE_w (src / 32)) (src % 32) false

/-- A word of an access table as the checks of this core cycle use it: as it stood before a write of the same cycle (R395). -/
def State.tblWord (s : State) (t w : Nat) : Nat := (Sparse.get none s.crp.tblOld (t * 8 + w)).getD (s.rd (F.AC_TBL_t_w t w))

/-- Permissions of master `m` on target `t`: bits R, W, DB, ADM (R390). DBG's follow the debug level (R396); the
internal masters are not checked (R391). -/
def State.perms (s : State) (t m : Nat) : Nat :=
  if m = 1 then (match s.rd F.AC_STATUS_DBG with | 0 => 0 | 1 => 1 | _ => 0xF)
  else if 2 ≤ m ∧ m ≤ 0x11 then 0xF
  else bits (s.tblWord t (m / 8)) (4 * (m % 8)) 4

/-- Read, write, doorbell and administrative permission (R390). -/
def permR : Nat := 0
def permW : Nat := 1
def permDB : Nat := 2
def permADM : Nat := 3

/-- Does the access table of target `t` give master `m` a permission? -/
def State.may (s : State) (t m bit : Nat) : Bool := bits (s.perms t m) bit 1 == 1

/-- A refusal by an access table: counted, recorded, raised (R392). OP: 0 read, 1 write, 2 doorbell, 3 administrative,
4 job or action in a master's name. -/
def State.deny (s : State) (op m t off : Nat) : State :=
  (((((((s.inc F.AC_DENY_CNT).wr F.AC_STATUS_DENY_SEEN 1).wr F.AC_DENY_INFO_VALID 1).wr F.AC_DENY_INFO_OP op).wr
    F.AC_DENY_INFO_MASTER m).wr F.AC_DENY_INFO_TARGET t).wr F.AC_DENY_INFO_OFFSET off).raise Src.AC_DENIED 0xFF (some m)
    (0x80000000 + op * 0x10000000 + m * 0x400000 + t * 0x10000 + off % 0x10000)

/-- Does a memory request of master `m` reach a BAR? A host function needs its Memory Space Enable, a VF also the VF
enable; MGMT and DBG use no BAR (R497). Nothing does in OFF or while RESET_N is low (R406, R483). -/
def State.decodes (s : State) (m : Nat) : Bool :=
  if s.crp.off || s.crp.rstLow then false
  else if 0x20 ≤ m ∧ m ≤ 0x2F then bits s.pcie.mse (m - 0x20) 1 == 1 && (decide (m = 0x20) || s.pcie.vfe) else true

/-- Does a posted write of master `m` arrive? While the 512-entry buffer of window writes is full, the PCIe island withholds the credits of
every posted write of the host, which then waits at the host (R153, log entry 80). -/
def State.takes (s : State) (m : Nat) : Bool := s.decodes m && (decide (m < 0x20) || decide (s.gy.qWin.length < 512))

/-- The block that an offset belongs to, by its bit of CRP_BLK_RST: the target, 22 for MASH (R493); the VF windows of R500
hold registers of QENG and, from 0x1000 on, of MBOX. -/
def blkOf (off : Nat) : Nat :=
  let a := off % 0x1000000
  if a < 0x200000 then (if 0xD8000 ≤ a ∧ a < 0xE0000 then 22 else a / 0x10000)
  else if a % 0x10000 < 0x1000 then 0x0E else 0x10

/-- Is a block in block reset? -/
def State.inReset (s : State) (b : Nat) : Bool := s.crp.blk.any (fun x => x.1 == b)

/-- The bit of CL_HELD that stands for a block: MASH shares target 0x0D with GYLE (R430). -/
def heldBit (b : Nat) : Nat := if b = 22 then 0x0D else b

/-- Is a block held in block reset (R430)? -/
def State.heldBlk (s : State) (b : Nat) : Bool := bits (s.rd F.CL_HELD) (heldBit b) 1 == 1 && s.inReset b

/-- A register command of master `m` at BAR0 offset `off`: `f` if the target's table gives permission `bit`, otherwise
the denial of R392. A block held in block reset takes no command (R430). -/
def State.guarded (s : State) (op bit m off : Nat) (f : State → State) : State :=
  if !s.takes m then s
  else if s.may (off / 0x10000) m bit then (if s.heldBlk (blkOf off) then s else f s)
  else s.deny op m (off / 0x10000) (off % 0x10000)

/-- The low word that a master has written and that waits for its high word (R12). -/
def State.heldLow (s : State) (m off : Nat) : Nat := ((Sparse.get none s.loHeld (m * 2 ^ 24 + off)).getD 0).toNat

/-- The high word has come: nothing is held any more (R12). -/
def State.dropLow (s : State) (m off : Nat) : State := { s with loHeld := Sparse.put none s.loHeld (m * 2 ^ 24 + off) none }

/-- Advance a window address register (R104). -/
def State.advance (s : State) (f : Fld) : State := s.wr f (s.rd f + 1)

/-- A write of the high word of a memory window's data: the word is stored and the address advances (R12, R104). -/
def State.winWrite (s : State) (m lo hi : Nat) (adr : Fld) (store : State → Nat → State) : State :=
  ((store s (s.heldLow m lo + 2 ^ 32 * hi)).dropLow m lo).advance adr

/-- A register write command (R392). -/
def State.busW (s : State) (m off : Nat) (f : State → State) : State := s.guarded 1 permW m off f

/-- A register read command (R392); a denied read returns 0, one without Memory Space Enable no data (R497). -/
def State.busR (s : State) (m off : Nat) (f : State → State) : State :=
  if !s.decodes m then { s with readData := [] }
  else if s.may (off / 0x10000) m permR then f s
  else { (s.deny 0 m (off / 0x10000) (off % 0x10000)) with readData := [0] }

/-- An administrative register write: it needs W and ADM (R390). -/
def State.busAdm (s : State) (m off : Nat) (f : State → State) : State :=
  if !s.takes m then s
  else if !s.may (off / 0x10000) m permW then s.deny 1 m (off / 0x10000) (off % 0x10000)
  else if !s.may (off / 0x10000) m permADM then s.deny 3 m (off / 0x10000) (off % 0x10000)
  else if s.heldBlk (blkOf off) then s else f s

/-- Is something an edge of a logic output? -/
def WireOut.logic : WireOut → Bool
  | .tout .. | .pps .. | .mdio .. | .answer .. => true
  | .frame .. | .fragment .. | .mpacket .. | .anPage .. | .remoteFault .. | .dolnos .. | .pulse .. => false

/-- The port whose MAC sends something. -/
def WireOut.mac : WireOut → Option Nat
  | .frame p .. | .fragment p .. | .mpacket p .. => some p
  | .anPage .. | .remoteFault .. | .tout .. | .pps .. | .dolnos .. | .pulse .. | .mdio .. | .answer .. => none

/-- Is a port in loopback (R459)? -/
def State.loops (s : State) (p : Nat) : Bool := decide (p < 2) && s.on (F.BP_CTRL_LOOP p)

/-- What a port's MAC sends in loopback comes to its receiver (R459). -/
def State.loopPut (s : State) (w : WireOut) : State :=
  match w.mac with
  | some p => if s.loops p ∧ s.on (F.BP_STATUS_LINK p) then { s with bp := { s.bp with loop := s.bp.loop ++ [w] } } else s
  | none => s

/-- What a port receives: in loopback only what it has sent, in its order, and nothing from its pads (R459). -/
def State.looped (s : State) (p : Nat) (is : WireOut → Bool) (f : State → State) : State :=
  if !s.loops p then f s
  else match s.bp.loop.find? (fun w => w.mac == some p) with
    | some w => if is w then f { s with bp := { s.bp with loop := s.bp.loop.erase w } } else s
    | none => s

/-- Put something on a wire, pad or link; while VIO is out of its range no logic output is driven (R525). -/
def State.emit (s : State) (w : WireOut) : State :=
  if w.logic && decide ((Src.VIO_FAULT, 1) ∈ s.cl.conds) then s
  else { s.loopPut w with wire := s.wire ++ [w] }

/-- The function that a host write belongs to. -/
def HostWrite.fn : HostWrite → Nat
  | .mem fn _ _ => fn
  | .msix fn _ => fn

/-- A write towards the host: discarded while PERST# is asserted (R489), without Bus Master Enable of its function it
cannot be sent (R497), held while the link is in L1.2 or not up (R409), else sent in order. -/
def State.toHost (s : State) (w : HostWrite) : State :=
  if s.on F.CRP_PCIE_STAT_PERST ∨ bits s.pcie.bme w.fn 1 = 0 then s
  else if s.pcie.l12 || !s.on F.CRP_PCIE_STAT_LINK_UP then
    { s with pcie := { s.pcie with held := s.pcie.held ++ [w], heldAt := if s.pcie.held.isEmpty then s.tb.mono else s.pcie.heldAt } }
  else { s with pcie := { s.pcie with out := s.pcie.out ++ [w] } }

/-- The function number of a host master: PF0 is 0, VFn is n. -/
def fnOf (m : Nat) : Nat := m - 0x20

/-- Is a vector masked, by its own Mask bit or by its function's? Vector control resets to masked, as the PCI Express specification
gives (R321). -/
def State.msixMasked (s : State) (fn vec : Nat) : Bool :=
  bits s.pcie.fmask fn 1 == 1 || ((Sparse.get 0 s.pcie.msixTab (fn * 1024 + vec * 4 + 3)).toNat + 1) % 2 == 1

/-- Send MSI-X vector `vec` of function `fn`; a masked vector sets its pending bit (R321). -/
def State.msix (s : State) (fn vec : Nat) : State :=
  if s.msixMasked fn vec then
    { s with pcie := { s.pcie with msixPend := if fn * 256 + vec ∈ s.pcie.msixPend then s.pcie.msixPend else (fn * 256 + vec) :: s.pcie.msixPend } }
  else s.toHost (.msix fn vec)

/-- Send module event `e` of QE_EVT_MAP to PF0 (R322). -/
def State.sendEvent (s : State) (e : Nat) : State :=
  if s.on (F.QE_EVT_MAP_n_EN e) then s.msix 0 (s.rd (F.QE_EVT_MAP_n_VEC e)) else s

/-- SP_STATUS.UNITS: whole units of each class (R449). -/
def State.spUnits (s : State) : Nat := ((List.range 8).map (fun n => s.rd (F.SP_CLASS_n_REMAIN n) / Config.spareWeight n)).sum

/-- Count an event of a field port on the field die; the increment reaches the proxy with the next refresh (R470). -/
def State.fdCount (s : State) (f : Fld) : State :=
  { s with fd := { s.fd with cnt := Sparse.put 0 s.fd.cnt f.key (Sparse.get 0 s.fd.cnt f.key + 1) } }

/-- Count an event of port `p` under a counter: at once on a backbone port, on the field die otherwise (R470). -/
def State.portCount (s : State) (p : Nat) (f : Fld) : State := if p < 2 then s.inc f else s.fdCount f

/-- DT in ns. -/
def State.dt (s : State) : Nat := s.tb.dt.toNat

/-! The event log (R439, R440). -/

/-- TYPE of a log record (R439). -/
def logCellar : Nat := 1
def logReset : Nat := 2
def logFirmware : Nat := 3
def logEbain : Nat := 4
def logLc : Nat := 5
def logSub : Nat := 6
def logTwin : Nat := 7
def logPower : Nat := 8
def logToken : Nat := 9
def logDropped : Nat := 10

/-- A record for the buffer; its LOG_SEQ comes with its write to the NOR. -/
def State.logRec (s : State) (type len : Nat) (payload : List Byte) : LogRec :=
  { dt := s.dt, seq := 0, boot := s.rd F.MG_BOOT_CNT, type := type, epoch := s.rd F.TB_EPOCH % 256, len := len, payload := payload }

/-- Put a record into the buffer, after the record that marks a gap (R440). -/
def State.logPut (s : State) (r : LogRec) : State :=
  let gap := if s.mg.dropped = 0 then [] else [s.logRec logDropped 4 (leBytes 4 s.mg.dropped)]
  { s with mg := { s.mg with buf := s.mg.buf ++ gap ++ [r], dropped := 0 } }

/-- Does firmware run: it has started, is in no restart and is not halted (R404, R444, R485)? -/
def State.fwRuns (s : State) : Bool :=
  decide (3 ≤ s.rd F.CRP_BOOT_PHASE) && !s.crp.blk.any (fun x => x.1 == 0x14) && !s.crp.halted && !s.crp.off

/-- Log an event of a type whose event fields the manual does not lay out: its payload bytes are free values (R439). -/
def State.logEvent (s : State) (type : Nat) : State :=
  if s.fwRuns then
    let f := s.freeIdx
    ({ s with freeIdx := f + 41 }).logPut
      (s.logRec type ((Config.freeByte (f + 40)).toNat % 41) ((List.range 40).map (fun i => Config.freeByte (f + i))))
  else s

end Sys2Proof.Machine
end

