-- ==== Sys2Proof/Machine/Flags.lean ====
section
/-!
DEFINITION. The error flags of GCTL that any register access can set: the refused change of an F field and the access of a
wrong width (R11, R16, R18, R505).
Where the manual leaves a point open, the choices are log entries 11, 16 (DESIGN CHOICE).
-/

namespace Sys2Proof.Machine

/-- The word GC_ACC_ERR and GC_CFG_ERR record for an access (R503, R505). -/
def accWord (wr : Bool) (size m off : Nat) : Nat :=
  0x80000000 + wr.toNat * 0x40000000 + size * 0x8000000 + m * 0x200000 + off % 0x200000

/-- The VALID bit of GC_ACC_ERR or of GC_CFG_ERR. -/
def errValid (acc : Bool) : Fld := if acc then F.GC_ACC_ERR_VALID else F.GC_CFG_ERR_VALID

/-- A record enters its register; it is one of this core cycle. -/
def State.errPut (s : State) (x : ErrRec) : State :=
  let s1 := { s with crp := { s.crp with errNow := x :: s.crp.errNow.filter (fun y => y.acc != x.acc) } }
  if x.acc then
    ((((s1.wr F.GC_ACC_ERR_VALID 1).wr F.GC_ACC_ERR_WR x.wr.toNat).wr F.GC_ACC_ERR_SIZE x.size).wr F.GC_ACC_ERR_MASTER x.m).wr
      F.GC_ACC_ERR_OFFSET x.off
  else
    ((((s1.wr F.GC_CFG_ERR_VALID 1).wr F.GC_CFG_ERR_WR x.wr.toNat).wr F.GC_CFG_ERR_SIZE x.size).wr F.GC_CFG_ERR_MASTER x.m).wr
      F.GC_CFG_ERR_OFFSET x.off

/-- A raise is recorded while VALID is 0, and of two in one core cycle the one of the lower master identity (R505). -/
def State.errRecord (s : State) (x : ErrRec) : State :=
  if ¬ s.on (errValid x.acc) then s.errPut x
  else match s.crp.errNow.find? (fun y => y.acc == x.acc) with
    | some y => if x.m < y.m then s.errPut x else s
    | none => { s with crp := { s.crp with errWait := s.crp.errWait ++ [x] } }

/-- A write that clears VALID; a raise of the same core cycle is recorded, and VALID stays 1 (R505). -/
def State.errClear (s : State) (acc : Bool) : State :=
  if s.crp.errNow.any (fun y => y.acc == acc) then s
  else
    let low := (s.crp.errWait.filter (fun y => y.acc == acc)).foldl (fun o y => match o with
      | none => some y
      | some z => if y.m < z.m then some y else some z) none
    match low with
    | some x => s.errPut x
    | none => s.wr (errValid acc) 0

/-- A write that would change an F field of an enabled block: CFG_WHILE_RUNNING once (R16, R18, R505). -/
def State.cfgWhileRunning (s : State) (m off : Nat) : State :=
  (s.raise Src.CFG_WHILE_RUNNING 0xFF (some m) (accWord true 0 m off)).errRecord ⟨false, true, 0, m, off⟩

/-- An access of a wrong width: BAD_ACCESS (R11, R505). -/
def State.badAccess (s : State) (wr : Bool) (size m off : Nat) : State :=
  (s.raise Src.BAD_ACCESS 0xFF (some m) (accWord wr size m off)).errRecord ⟨true, wr, size, m, off⟩

end Sys2Proof.Machine
end

