-- ==== Sys2Proof/Machine/Queues.lean ====
section
/-!
DEFINITION. What QENG does for every job: yields of the precedence ladder (R252, R253), completion entries (R310),
batches (R312), the gap count (R314), messages (R321), HEAD (R309) and the end of a drain (R318).
Where the manual leaves a point open, the choices are log entries 45, 47 (DEDUCED).
-/

namespace Sys2Proof.Machine

/-- Index of the pair of rungs (h, y), h < y (R252). -/
def pairIdx (h y : Nat) : Nat := (h - 1) * (16 - h) / 2 + (y - h - 1)

/-- Count a yield of rung `y` to rung `h`; it raises YIELD at most once per holdoff (R252, R253). -/
def State.yieldTo (s : State) (h y : Nat) : State :=
  if ¬ (1 ≤ h ∧ h < y ∧ y ≤ 8) then s
  else
    let i := pairIdx h y
    let s1 := s.inc (F.LT_YIELD_i i)
    let quiet : Bool := match Sparse.get none s.yieldAt i with
      | some t => decide (t + max 1 (s.rd F.LT_YIELD_HOLDOFF) * 1000 ≤ s.tb.mono)
      | none => true
    if bits (s.rd F.LT_YIELD_MASK_MASK) i 1 = 1 ∧ quiet = true then
      let s2 := ((s1.wr F.LT_YIELD_LAST_VALID 1).wr F.LT_YIELD_LAST_PAIR i).wr64 F.LT_YIELD_LAST_DT_LO F.LT_YIELD_LAST_DT_HI s.dt
      { s2.raise0 Src.YIELD i with yieldAt := Sparse.put none s2.yieldAt i (some s.tb.mono) }
    else s1

/-- Statuses of R311. -/
def stOk : Nat := 0x00
def stLate : Nat := 0x01
def stFar : Nat := 0x02
def stTooLong : Nat := 0x03
def stLsoBad : Nat := 0x04
def stNoCell : Nat := 0x05
def stLinkDown : Nat := 0x06
def stAborted : Nat := 0x07
def stStandby : Nat := 0x08
def stBad : Nat := 0x09
def stPartial : Nat := 0x0A
def stFull : Nat := 0x0B
def stNoPoint : Nat := 0x0C
def stNoRing : Nat := 0x0D
def stLimit : Nat := 0x0E
def stNotFound : Nat := 0x0F
def stBusy : Nat := 0x10
def stDiscarded : Nat := 0x11
def stRefused : Nat := 0x12
def stCancelled : Nat := 0x13
def stDmaErr : Nat := 0x14
def stErrTail : Nat := 0x15
def stQDisabled : Nat := 0x16
def stFetchErr : Nat := 0x17

/-- States of an SQ (R318). -/
def sqDisabled : Nat := 0
def sqEnabled : Nat := 1
def sqDraining : Nat := 2
def sqError : Nat := 3

/-- The 32 bytes of a completion entry (R310). -/
def Cqe.bytes (e : Cqe) (gap : Nat) (phase : Bool) : List Byte :=
  leBytes 8 e.result ++ leBytes 4 e.result2 ++ leBytes 2 e.tag ++ leBytes 2 e.sq ++ leBytes 2 e.head
    ++ leBytes 2 e.entry ++ leBytes 1 e.status ++ leBytes 1 (e.flags + if gap = 0 then 0 else 0x20)
    ++ leBytes 2 (min gap 65535) ++ leBytes 4 e.info ++ leBytes 2 e.len ++ leBytes 1 0
    ++ leBytes 1 (phase.toNat * 128 + e.kind)

/-- The SQ record of queue `q`. -/
def State.sq (s : State) (q : Nat) : Sq := Sparse.get Sq.empty s.qe.sqs q
/-- Set the SQ record. -/
def State.setSq (s : State) (q : Nat) (v : Sq) : State := { s with qe := { s.qe with sqs := Sparse.put Sq.empty s.qe.sqs q v } }
/-- The CQ record of queue `q`. -/
def State.cq (s : State) (q : Nat) : Cq := Sparse.get Cq.empty s.qe.cqs q
/-- Set the CQ record. -/
def State.setCq (s : State) (q : Nat) (v : Cq) : State := { s with qe := { s.qe with cqs := Sparse.put Cq.empty s.qe.cqs q v } }

/-- Owner of an SQ and of a CQ; 0x3F unassigned (R291). -/
def State.sqOwner (s : State) (q : Nat) : Nat := s.rd (F.QE_SQ_OWNER_OWNER q)
def State.cqOwner (s : State) (q : Nat) : Nat := s.rd (F.QE_CQ_INFO_q_OWNER q)

/-- Number of units of an SQ ring, of entries of a CQ ring (R294). -/
def State.sqSize (s : State) (q : Nat) : Nat := 2 ^ s.rd (F.QE_SQ_CFG_SIZE q)
def State.cqSize (s : State) (q : Nat) : Nat := 2 ^ s.rd (F.QE_CQ_CFG_SIZE q)

/-- The queue number that a completion shows: a local index for a VF (R310). -/
def State.sqShown (s : State) (q : Nat) : Nat :=
  if 0x20 < s.sqOwner q ∧ s.sqOwner q < 0x30 then s.rd (F.QE_SQ_OWNER_LOCAL q) else q

/-- Send the CQ's message now; both moderation conditions restart (R321). -/
def State.cqMessage (s : State) (c : Nat) : State :=
  let s1 := s.setCq c { s.cq c with events := 0, firstAt := 0 }
  if s.cqOwner c = 0 then s1 else s1.msix (fnOf (s.cqOwner c)) (s.rd (F.QE_CQ_CFG_VEC c))

/-- An enabled CQ with IRQ_EN sends its message once MOD_CNT events have occurred since the last one (R321). -/
def State.cqModerate (s : State) (c : Nat) : State :=
  if s.on (F.QE_CQ_CFG_EN c) && s.on (F.QE_CQ_CFG_IRQ_EN c) && decide (max 1 (s.rd (F.QE_CQ_CFG_MOD_CNT c)) ≤ (s.cq c).events) then s.cqMessage c
  else s

/-- A completion was written or folded: an event of an enabled CQ (R321). -/
def State.cqEvent (s : State) (c : Nat) : State :=
  if s.on (F.QE_CQ_CFG_EN c) then
    let r := s.cq c
    (s.setCq c { r with events := r.events + 1, firstAt := if r.events = 0 then s.tb.mono else r.firstAt }).cqModerate c
  else s

/-- Room for `n` more entries in an enabled CQ (R294, R314). -/
def State.cqFree (s : State) (c n : Nat) : Bool :=
  s.on (F.QE_CQ_CFG_EN c) && s.on F.QE_CTRL_EN
    && decide ((s.rd (F.QE_CQ_PTR_TAIL c) + s.cqSize c - s.rd (F.QE_CQ_PTR_HEAD c)) % s.cqSize c + n ≤ s.cqSize c - 1)

/-- Room for one more entry in CQ `c` (R294, R314). -/
def State.cqRoom (s : State) (c : Nat) : Bool := s.cqFree c 1

/-- Room for an RX completion: QENG reserves its entry at the frame's delivery, beside those that the present cycle takes (R315); a
notification ring takes none (R317). -/
def State.cqReserve (s : State) (c : Nat) : Bool :=
  s.cqFree c (1 + s.qe.due.countP (fun d => d.c == c)) && !s.on (F.QE_CQ_CFG_NOTIFY c)

/-- Write 32 bytes at the CQ's tail and advance it; PHASE inverts at the wrap (R310). -/
def State.cqWrite (s : State) (c : Nat) (data : List Byte) : State :=
  let tail := s.rd (F.QE_CQ_PTR_TAIL c)
  let base := s.rd (F.QE_CQ_BASE_LO c) * 64 + 2 ^ 32 * s.rd (F.QE_CQ_BASE_HI c)
  let s1 := s.toHost (.mem (fnOf (s.cqOwner c)) (BitVec.ofNat 64 (base + 32 * tail)) data)
  let nt := (tail + 1) % s.cqSize c
  let s2 := s1.wr (F.QE_CQ_PTR_TAIL c) nt
  if nt = 0 then s2.setCq c { s2.cq c with phase := !(s2.cq c).phase } else s2

/-- Ranks of R313 within one core cycle; a TA_DONE completion goes with the jobs'. -/
def rankQueue : Nat := 0
def rankJob : Nat := 1
def rankRx : Nat := 2

/-- A completion of queue `q` sets out for its CQ; it enters at the end of the core cycle (R313). -/
def State.post (s : State) (rank q rung : Nat) (e : Cqe) : State :=
  { s with qe := { s.qe with due := s.qe.due ++ [⟨rank, q, (s.sq q).cq, rung, e⟩] } }

/-- A completion that is not written folds into its CQ's gap count (R314, R254). -/
def State.fold (s : State) (c rung : Nat) : State :=
  let gap := s.rd (F.QE_CQ_INFO_q_GAP c)
  let s1 := (s.inc (F.QE_CQ_INFO_q_GAP c)).inc F.QE_FOLD
  let s2 := if gap = 0 then s1.raise Src.QE_CQ_FOLD c none 0 else s1
  (if 3 ≤ rung ∧ rung ≤ 6 then s2.yieldTo rung 7 else s2).cqEvent c

/-- A completion enters CQ `c`, or folds into its gap count (R314); `rung` is the rung of its frame (R254). `rsv` entries of the CQ are
reserved for RX completions that enter later (R315); a notification ring takes no completion (R317). -/
def State.enter (s : State) (c rung rsv : Nat) (e : Cqe) : State :=
  if s.cqFree c (1 + rsv) && !s.on (F.QE_CQ_CFG_NOTIFY c) then
    let gap := s.rd (F.QE_CQ_INFO_q_GAP c)
    ((s.wr (F.QE_CQ_INFO_q_GAP c) 0).cqWrite c (e.bytes gap (s.cq c).phase)).cqEvent c
  else s.fold c rung

/-- Put a completion among those of the cycle: behind those of its rank and of no higher queue (R313). -/
def insertDue (d : Due) : List Due → List Due
  | [] => [d]
  | x :: t => if d.rank < x.rank ∨ (d.rank = x.rank ∧ d.q < x.q) then d :: x :: t else x :: insertDue d t

/-- The completions of a core cycle enter their CQs in the order given. -/
def State.enterAll (s : State) : List Due → State
  | [] => s
  | d :: t => (s.enter d.c d.rung (if d.rank = rankRx then 0 else t.countP (fun x => x.rank == rankRx && x.c == d.c)) d.e).enterAll t

/-- The end of a core cycle: its completions enter in the order of R313. -/
def State.cqFlush (s : State) : State :=
  ({ s with qe := { s.qe with due := [] } }).enterAll (s.qe.due.foldl (fun l d => insertDue d l) [])

/-- HEAD of an SQ: the first entry whose job has not started (R309). -/
def State.sqHead (s : State) (q : Nat) : Nat :=
  match (s.sq q).jobs.find? (fun j => !j.started) with
  | some j => j.pos
  | none => (s.sq q).fetch

/-- Publish HEAD (R309). -/
def State.syncHead (s : State) (q : Nat) : State := s.wr (F.QE_SQ_HEAD q) (s.sqHead q)

/-- Post a job's own completion or a batch's, unless the owner's function-level reset muted the queue (R320). -/
def State.postJob (s : State) (q : Nat) (j : Job) (e : JobEnd) (extraFlags info : Nat) : State :=
  if (s.sq q).mute then s
  else s.post rankJob q j.rung
    { kind := 1, result := e.result, result2 := e.result2, tag := j.tag, sq := s.sqShown q, head := s.sqHead q,
      entry := j.pos, status := e.status, flags := e.flags + extraFlags, info := info, len := 0 }

/-- The first batch of a job list and the rest: up to and including the first job with COMPL = 1 (R312). -/
def firstBatch : List Job → List Job × List Job
  | [] => ([], [])
  | j :: t => if j.compl then ([j], t) else let r := firstBatch t; (j :: r.1, r.2)

/-- The batch that holds job `p`, within `n` batches. -/
def batchOf : Nat → List Job → Nat → List Job
  | 0, _, _ => []
  | n + 1, l, p =>
    let b := firstBatch l
    if b.1.any (fun j => j.id == p) then b.1 else if b.2.isEmpty then [] else batchOf n b.2 p

/-- Does a batch have its closing entry? -/
def batchClosed (b : List Job) : Bool := match b.getLast? with | some j => j.compl | none => false

/-- Update job `p`. -/
def State.updJob (s : State) (q p : Nat) (f : Job → Job) : State :=
  let r := s.sq q
  s.setSq q { r with jobs := r.jobs.map (fun j => if j.id = p then f j else j) }

/-- Ring position of a job's entry. -/
def State.jobPos (s : State) (q p : Nat) : Nat := match (s.sq q).jobs.find? (fun j => j.id == p) with | some j => j.pos | none => 0

/-- Job `p` starts: it can no longer be withdrawn (R308). -/
def State.startJob (s : State) (q p : Nat) : State := (s.updJob q p (fun j => { j with started := true })).syncHead q

/-- QUEUE completion of an SQ with a status (R318). -/
def State.queueEvent (s : State) (q status : Nat) : State :=
  if (s.sq q).mute then s
  else s.post rankQueue q 7
    { kind := 4, result := 0, result2 := 0, tag := 0, sq := s.sqShown q, head := s.sqHead q, entry := 0,
      status := status, flags := 0, info := 0, len := 0 }

/-- Drop some jobs from the list. -/
def State.forget (s : State) (q : Nat) (gone : List Job) : State :=
  s.setSq q { s.sq q with jobs := (s.sq q).jobs.filter (fun j => !gone.any (fun k => k.id == j.id)) }

/-- A batch whose jobs have all ended completes with its closing entry's completion (R312). -/
def State.finishBatch (s : State) (q : Nat) (b : List Job) : State :=
  match b.getLast? with
  | some l =>
    if b.all (fun j => j.done.isSome) then
      let errs := b.countP (fun j => match j.done with | some d => d.status != 0 | none => false)
      (s.postJob q l (l.done.getD ⟨0, 0, 0, 0⟩) 1 (b.length + errs * 65536)).forget q b
    else s
  | none => s

/-- A job ends (R308, R312): a failing entry completes SOLO, the closing one too; its batch completes when every job of it has ended; every
job of a batch that a drain has broken completes SOLO (R319). -/
def State.finishJob (s : State) (q p : Nat) (e : JobEnd) : State :=
  let s1 := (s.updJob q p (fun j => { j with started := true, done := some e })).syncHead q
  match (s1.sq q).jobs.find? (fun j => j.id == p) with
  | none => s1
  | some j =>
    if j.solo then (s1.postJob q j e 4 0).forget q [j]
    else
      let jobs := (s1.sq q).jobs.filter (fun j => !j.solo)
      let b := batchOf (jobs.length + 1) jobs p
      let s2 := if e.status ≠ 0 then s1.postJob q j e 4 0 else s1
      if batchClosed b then s2.finishBatch q b else s2

/-- A completion of KIND TA_DONE (R305), written whatever COMPL says. -/
def State.postTaDone (s : State) (q pos tag index status : Nat) (lateSeen : Bool) : State :=
  s.post rankJob q 7
    { kind := 3, result := index, result2 := 0, tag := tag, sq := s.sqShown q, head := s.sqHead q, entry := pos,
      status := status, flags := if lateSeen then 0x10 else 0, info := 0, len := 0 }

end Sys2Proof.Machine
end

