-- ==== Sys2Proof/Machine/Grist.lean ====
section
/-!
DEFINITION. GRIST and what PITCH decides for it: cells, quotas, chains, holders (R350 to R361), the pool of a chain
(R364) and the decision trace (R370).
Where the manual leaves a point open, the choices are log entries 26 (DESIGN CHOICE); 64 (DEDUCED).
-/

namespace Sys2Proof.Machine

/-- The chain of an ID. -/
def State.chain (s : State) (c : Nat) : Option Chain := Sparse.get none s.gr.chains c
/-- Set or free the chain of an ID. -/
def State.setChain (s : State) (c : Nat) (v : Option Chain) : State :=
  { s with gr := { s.gr with chains := Sparse.put none s.gr.chains c v } }

/-- Pool of a chain ID or of a cell address. -/
def poolOfChain (c : Nat) : Nat := c / 2 ^ 18 % 2
def poolOfCell (a : Nat) : Nat := a / 2 ^ 22 % 2

/-- The free-cell counter of a pool (R353). -/
def freeFld (q : Nat) : Fld := if q = 0 then F.GR_FREE0 else F.GR_FREE1

/-- Outstanding reserve of a pool: over all masters, RSV beyond USED (R353). -/
def State.grOut (s : State) (q : Nat) : Nat :=
  ((List.range 64).map (fun m => s.rd (F.GR_QRSV_q_m q m) - s.rd (F.GR_QUSED_q_m q m))).sum

/-- Why a request fails (R353). -/
inductive CellFail where
  | limit | quota | empty
deriving DecidableEq, Repr

/-- Every chain index of a pool is in use (R351). -/
def State.noChainId (s : State) (q : Nat) : Bool :=
  decide ((if q = 0 then 32768 else 262144) ≤ s.gr.chains.countP (fun x => x.1 / 2 ^ 18 % 2 == q))

/-- Decide a request of master `m` in pool `q`; `n` is the number of cells its chain has, 0 for a new one, which needs an index as well
(R351, R353). While GRIST does not run, or wipes, every request fails EMPTY, in the DRAM wipe of start-up those of pool 1 (R371, R373, R403). -/
def State.cellDecide (s : State) (m q n : Nat) : Option CellFail :=
  let used := s.rd (F.GR_QUSED_q_m q m)
  let rsv := s.rd (F.GR_QRSV_q_m q m)
  if ¬ s.on F.GR_CTRL_EN ∨ (s.on F.GR_STATUS_WIPING ∧ ¬ (q = 0 ∧ s.on F.CRP_WIPE_STATUS_DRAM)) then some .empty
  else if 4096 ≤ n then some .limit
  else if max (s.rd (F.GR_QMAX_q_m q m)) rsv ≤ used then some .quota
  else if n = 0 ∧ s.noChainId q then some .empty
  else if used < rsv then (if 0 < s.rd (freeFld q) then none else some .empty)
  else if s.grOut q < s.rd (freeFld q) then none else some .empty

/-- Report a failed request of master `m` (R353). -/
def State.cellFailed (s : State) (m : Nat) (r : CellFail) : State :=
  let s1 := s.inc (F.GR_QFAIL_m m)
  match r with
  | .limit => s1.inc F.GR_FAIL_LIMIT
  | .quota => (s1.inc F.GR_FAIL_QUOTA).raise Src.GR_QUOTA 0xFF (some m) 0
  | .empty => (s1.inc F.GR_FAIL_EMPTY).raise Src.GR_EXHAUST 0xFF (some m) 0

/-- All cells in use or waiting for their wipe. -/
def State.cellsUsed (s : State) : List Nat :=
  s.gr.wipe0 ++ s.gr.wipe1 ++ (s.gr.chains.map (fun p => match p.2 with | some c => c.cells | none => [])).flatten

/-- The lowest number of the form `base + i` that a list does not hold. -/
def lowestFree (base : Nat) (used : List Nat) : Nat :=
  base + ((List.range (used.length + 1)).find? (fun i => !used.contains (base + i))).getD used.length

/-- The class of an allocating master (R352); 4 for an identity that never allocates. -/
def allocClass (m : Nat) : Nat :=
  if 0x08 ≤ m ∧ m ≤ 0x11 then 0 else if m = 6 ∨ m = 5 then 1 else if m ≤ 1 then 2
  else if 0x20 ≤ m ∧ m ≤ 0x2F then 3 else 4

/-- GR_RR of a class. -/
def rrFld (cls : Nat) : Fld :=
  match cls with | 0 => F.GR_RR_CLASS0 | 1 => F.GR_RR_CLASS1 | 2 => F.GR_RR_CLASS2 | _ => F.GR_RR_CLASS3

/-- Take a cell of pool `q` for master `m`: counters, USED, and the master last served (R352, R353). -/
def State.takeCell (s : State) (m q : Nat) : State :=
  let s1 := ((s.wr (freeFld q) (s.rd (freeFld q) - 1)).inc F.GR_ALLOC).wr (F.GR_QUSED_q_m q m) (s.rd (F.GR_QUSED_q_m q m) + 1)
  if allocClass m < 4 then s1.wr (rrFld (allocClass m)) m else s1

/-- Write an entry of the decision trace; in MODE 1 the entry that fills the buffer stops it (R370). -/
def State.traceDecision (s : State) (kind reason choice subject : Nat) : State :=
  if s.on F.PT_TRACE_CTRL_EN && bits (s.rd F.PT_TRACE_CTRL_KINDS) (kind - 1) 1 == 1 then
    let lvl := s.rd F.PT_TRACE_STAT_LEVEL
    if s.on F.PT_TRACE_CTRL_MODE && decide (1024 ≤ lvl) then (s.inc F.PT_TRACE_LOST).wr F.PT_TRACE_STAT_FULL 1
    else
      let w := s.rd F.PT_TRACE_STAT_WPTR
      let t1 := Sparse.put 0 s.pt.trace (2 * w) s.tb.dt
      let t2 := Sparse.put 0 t1 (2 * w + 1) (BitVec.ofNat 64 (kind + reason * 2 ^ 8 + choice % 2 ^ 16 * 2 ^ 16 + subject % 2 ^ 23 * 2 ^ 32))
      let s1 := ({ s with pt := { s.pt with trace := t2 } }.wr F.PT_TRACE_STAT_WPTR ((w + 1) % 1024)).wr F.PT_TRACE_STAT_LEVEL (min 1024 (lvl + 1))
      if s.on F.PT_TRACE_CTRL_MODE && lvl + 1 == 1024 then s1.wr F.PT_TRACE_STAT_FULL 1 else s1
  else s

/-- A decision without a permitted outcome (R362). -/
def State.noChoice (s : State) (kind subject : Nat) : State :=
  ((s.inc F.PT_NO_CHOICE).raise0 Src.PT_NO_CHOICE kind).traceDecision 8 kind 0xFFFF subject

/-- Intent of a queue: TIER and DCLASS (R363); while PITCH wipes, the reset intent (R371). -/
def State.intentTier (s : State) (q : Nat) : Nat :=
  if s.on F.PT_STATUS_WIPING then 0 else bits (Sparse.get 0 s.pt.intents q).toNat 2 2
def State.intentClass (s : State) (q : Nat) : Nat :=
  if s.on F.PT_STATUS_WIPING then 0 else bits (Sparse.get 0 s.pt.intents q).toNat 0 2

/-- The pool PITCH chooses for a new chain (of LAUNCH, one with a DT_L is of a template), the trace reason, and whether it may spill (R364). -/
def State.choosePool (s : State) (r : ChainReq) : Nat × Nat × Bool :=
  if allocClass r.m = 0 then (if s.rd F.PT_TIER_CFG_RX_LOW_WM ≤ s.rd F.GR_FREE0 then (0, 5, true) else (1, 5, true))
  else if r.m = 6 then (0, 0, r.dtl.isNone)
  else match r.queue with
    | none => (0, 0, true)
    | some q =>
      if s.intentTier q = 1 then (0, 1, false)
      else if s.intentTier q = 2 then (1, 1, false)
      else match r.dtl with
        | some d => if s.dt + s.rd F.PT_TIER_CFG_FAR_US * 1000 < d then (1, 2, true)
                    else if r.lso ∨ 2 ≤ s.intentClass q then (1, 3, true) else (0, 0, true)
        | none => if r.lso ∨ 2 ≤ s.intentClass q then (1, 3, true) else (0, 0, true)

/-- Create a chain of one cell in pool `q` for master `m`; the ID and the cell are the lowest free ones. -/
def State.newChain (s : State) (m q : Nat) : State × Nat :=
  let c := lowestFree (q * 2 ^ 18) (s.gr.chains.map (·.1))
  let a := lowestFree (q * 2 ^ 22) s.cellsUsed
  let s1 := (s.takeCell m q).inc (if q = 0 then F.PT_ONDIE else F.PT_DRAM)
  (s1.setChain c (some ⟨2 ^ m, [a], [], false, false, m, s.tb.dt⟩), c)

/-- Ask for the first cell of a new chain: PITCH's pool, then the other pool where a spill is allowed (R364). -/
def State.firstCell (s : State) (r : ChainReq) : State × Option Nat :=
  let p := s.choosePool r
  match s.cellDecide r.m p.1 0 with
  | none =>
    let n := s.newChain r.m p.1
    ((if p.2.1 = 2 then n.1.inc F.PT_FAR else n.1).traceDecision 1 p.2.1 p.1 n.2, some n.2)
  | some f =>
    let s1 := s.cellFailed r.m f
    if p.2.2 then
      match s1.cellDecide r.m (1 - p.1) 0 with
      | none =>
        let n := s1.newChain r.m (1 - p.1)
        ((n.1.inc F.PT_SPILL).traceDecision 1 4 (1 - p.1) n.2, some n.2)
      | some f2 => ((s1.cellFailed r.m f2).traceDecision 1 6 0xFFFF 0, none)
    else
      let s2 := s1.traceDecision 1 6 0xFFFF 0
      (if p.2.1 = 1 then s2.noChoice 1 (r.queue.getD 0) else s2, none)

/-- Ask for the next cell of chain `c` for its writer, and append it (R353, R357). -/
def State.nextCell (s : State) (c : Nat) : State × Bool :=
  match s.chain c with
  | none => (s, false)
  | some ch =>
    match s.cellDecide ch.charge (poolOfChain c) ch.cells.length with
    | none =>
      let a := lowestFree (poolOfChain c * 2 ^ 22) s.cellsUsed
      ((s.takeCell ch.charge (poolOfChain c)).setChain c (some { ch with cells := ch.cells ++ [a] }), true)
    | some f => (s.cellFailed ch.charge f, false)

/-- Free chain `c`: its cells leave USED of the CHARGE master, and join FREE, or the wipe queue of their pool (R355). -/
def State.freeChain (s : State) (c : Nat) : State :=
  match s.chain c with
  | none => s
  | some ch =>
    let q := poolOfChain c
    let n := ch.cells.length
    let s1 := ((s.setChain c none).wr (F.GR_QUSED_q_m q ch.charge) (s.rd (F.GR_QUSED_q_m q ch.charge) - n)).add F.GR_FREED n
    if q = 0 then
      if s.on F.GR_CTRL_WIPE0 then { s1 with gr := { s1.gr with wipe0 := s1.gr.wipe0 ++ ch.cells } }
      else s1.wr F.GR_FREE0 (s1.rd F.GR_FREE0 + n)
    else
      if s.on F.GR_CTRL_WIPE1 then { s1 with gr := { s1.gr with wipe1 := s1.gr.wipe1 ++ ch.cells } }
      else s1.wr F.GR_FREE1 (s1.rd F.GR_FREE1 + n)

/-- Does master `m` hold the chain? -/
def Chain.held (c : Chain) (m : Nat) : Bool := bits c.holders m 1 == 1

/-- Record a refused holder operation (R358). -/
def State.holdErr (s : State) (cause op m c : Nat) : State :=
  ((((((s.inc (if cause = 0 then F.GR_NONHOLDER else F.GR_ONFREE)).wr F.GR_HOLD_ERR_INFO_VALID 1).wr
    F.GR_HOLD_ERR_INFO_CAUSE cause).wr F.GR_HOLD_ERR_INFO_OP op).wr F.GR_HOLD_ERR_INFO_MASTER m).wr
    F.GR_HOLD_ERR_INFO_CHAIN c).raise Src.GR_HOLD_ERR 0xFF (some m)
    (0x80000000 + cause * 0x40000000 + op * 0x20000000 + m * 0x80000 + c % 0x80000)

/-- RELEASE(c, m): the chain is freed when its holder set becomes empty (R355, R358). -/
def State.releaseHold (s : State) (c m : Nat) : State :=
  match s.chain c with
  | none => s.holdErr 1 0 m c
  | some ch =>
    if ch.held m then
      let h := ch.holders - 2 ^ m
      if h = 0 then s.freeChain c else s.setChain c (some { ch with holders := h })
    else s.holdErr 0 0 m c

/-- A reserved identity (R19). -/
def reservedId (m : Nat) : Bool := decide ((0x12 ≤ m ∧ m ≤ 0x1F) ∨ 0x30 ≤ m)

/-- SHARE(c, m, n): holder m adds n (R358). -/
def State.shareHold (s : State) (c m n : Nat) : State :=
  match s.chain c with
  | none => s.holdErr 1 1 m c
  | some ch =>
    if !ch.held m then s.holdErr 0 1 m c
    else if reservedId n then s
    else if ch.held n then s.inc F.GR_SHARE_DUP
    else s.setChain c (some { ch with holders := ch.holders + 2 ^ n })

/-- Place of an operation among those of one core cycle: SHAREs by the sharing master, then RELEASEs by theirs (R359). -/
def HoldOp.rank : HoldOp → Nat
  | .share _ m _ => m
  | .release _ m => 64 + m

/-- Insert an operation in the order of R359. -/
def holdInsert (o : HoldOp) : List HoldOp → List HoldOp
  | [] => [o]
  | x :: t => if o.rank < x.rank then o :: x :: t else x :: holdInsert o t

/-- Apply one holder operation. -/
def State.holdApply (s : State) : HoldOp → State
  | .share c m n => s.shareHold c m n
  | .release c m => s.releaseHold c m

/-- The holder operations of the core cycle are applied, each against what those before it have left (R359). -/
def State.holdFlush (s : State) : State := s.gr.ops.foldl State.holdApply { s with gr := { s.gr with ops := [] } }

/-- A holder operation arrives; it is applied with those of its core cycle. -/
def State.holdOp (s : State) (o : HoldOp) : State := { s with gr := { s.gr with ops := holdInsert o s.gr.ops } }

/-- The reset walk: release every hold of master `m` on a valid chain; the holder's own operations of the cycle come first (R360). -/
def State.walkRelease (s0 : State) (m : Nat) : State :=
  let s := s0.holdFlush
  let held := s.gr.chains.filter (fun p => match p.2 with | some c => c.held m | none => false)
  held.foldl (fun s p => (s.releaseHold p.1 m).inc F.GR_WALK_REL) s

/-- Cells that `n` bytes take. -/
def cellsFor (n : Nat) : Nat := max 1 ((n + 127) / 128)

/-- Ask for `n` further cells of chain `c`; false as soon as one fails. -/
def State.moreCells (s : State) (c : Nat) : Nat → State × Bool
  | 0 => (s, true)
  | n + 1 => let r := s.nextCell c; if r.2 then r.1.moreCells c n else (r.1, false)

/-- Store whole data in a new chain of master `m`, complete; without a cell, nothing stays allocated (R353, R364). -/
def State.storeChain (s : State) (r : ChainReq) (data : List Byte) : State × Option Nat :=
  match s.firstCell r with
  | (s1, none) => (s1, none)
  | (s1, some c) =>
    let m := s1.moreCells c (cellsFor data.length - 1)
    if m.2 then
      match m.1.chain c with
      | some ch => (m.1.setChain c (some { ch with data := data, complete := true }), some c)
      | none => (m.1, none)
    else (m.1.freeChain c, none)

/-- Arbitration order of two masters: lower class first, then round-robin after the master served last (R352). -/
def State.arbKey (s : State) (m : Nat) : Nat :=
  let last := s.rd (rrFld (allocClass m))
  allocClass m * 256 + (m + 63 - last) % 64

/-- The master that a request is made for. -/
def State.reqMaster (s : State) : CellReq → Nat
  | .first r => r.m
  | .next c => match s.chain c with | some ch => ch.charge | none => 0x3F

/-- Insert a request in arbitration order. -/
def State.arbInsert (s : State) (r : CellReq) : List CellReq → List CellReq
  | [] => [r]
  | x :: t => if s.arbKey (s.reqMaster r) < s.arbKey (s.reqMaster x) then r :: x :: t else x :: s.arbInsert r t

/-- What a request would get now. -/
def State.reqDecide (s : State) : CellReq → Option CellFail
  | .first r => s.cellDecide r.m (s.choosePool r).1 0
  | .next c => match s.chain c with | some ch => s.cellDecide ch.charge (poolOfChain c) ch.cells.length | none => none

/-- Carry out one request. -/
def State.reqServe (s : State) : CellReq → State
  | .first r => (s.firstCell r).1
  | .next c => (s.nextCell c).1

/-- After the grant of a cycle, a request that would now fail fails at once and is counted in GR_LAST_LOST; one that
would succeed waits for a later cycle (R354). -/
def State.afterGrant (s : State) : List CellReq → State
  | [] => s
  | r :: t => if (s.reqDecide r).isSome then ((s.reqServe r).inc F.GR_LAST_LOST).afterGrant t else s.afterGrant t

/-- One core cycle of requests in arbitration order: those before the first that succeeds fail, that one is granted. -/
def State.allocCycle (s : State) : List CellReq → State
  | [] => s
  | r :: t => if (s.reqDecide r).isSome then (s.reqServe r).allocCycle t else (s.reqServe r).afterGrant t

/-- Cell requests of one core cycle (R352 to R354, R364). -/
def execCellAlloc (reqs : List CellReq) (s : State) : Out :=
  .next (s.allocCycle (reqs.foldl (fun l r => s.arbInsert r l) []))

/-- An append: a new cell at the chain's end, and the bytes that land in it (R357). Only the writer of an incomplete
chain appends. -/
def execChainAppend (c m : Nat) (data : List Byte) (s : State) : Out :=
  match s.chain c with
  | none => .next s
  | some ch =>
    .next (if ch.charge = m ∧ ¬ ch.complete then
      let r := s.nextCell c
      if r.2 then
        match r.1.chain c with
        | some ch2 => r.1.setChain c (some { ch2 with data := (ch2.data ++ data).take (128 * ch2.cells.length) })
        | none => r.1
      else r.1
    else s)

/-- The writer finishes the chain (R357). -/
def execChainComplete (c m : Nat) (s : State) : Out :=
  match s.chain c with
  | none => .next s
  | some ch => .next (if ch.charge = m then s.setChain c (some { ch with complete := true }) else s)

/-- The writer gives up: ABORT and COMPLETE together (R357). -/
def execChainAbort (c m : Nat) (s : State) : Out :=
  match s.chain c with
  | none => .next s
  | some ch => .next (if ch.charge = m then s.setChain c (some { ch with complete := true, abort := true }) else s)

/-- SHARE(c, m, n) (R358, R359). -/
def execShare (c m n : Nat) (s : State) : Out := .next (s.holdOp (.share c m n))

/-- RELEASE(c, m) (R358, R359). -/
def execRelease (c m : Nat) (s : State) : Out := .next (s.holdOp (.release c m))

/-- The oldest freed cell of a pool is wiped and joins the free count (R355). -/
def execCellWipeDone (pool : Fin 2) (s : State) : Out :=
  if pool = 0 then
    match s.gr.wipe0 with
    | [] => .next s
    | _ :: t => .next ({ s with gr := { s.gr with wipe0 := t } }.wr F.GR_FREE0 (s.rd F.GR_FREE0 + 1))
  else
    match s.gr.wipe1 with
    | [] => .next s
    | _ :: t => .next ({ s with gr := { s.gr with wipe1 := t } }.wr F.GR_FREE1 (s.rd F.GR_FREE1 + 1))

/-- Record an ignored quota or size write (R361). -/
def State.grCfgErr (s : State) (code : Nat) : State :=
  ((s.wr F.GR_STATUS_CFG_ERR_SEEN 1).wr F.GR_STATUS_CFG_ERR code).raise0 Src.GR_CFG code

/-- Cells of a pool (R350). -/
def State.poolSize (s : State) (q : Nat) : Nat := if q = 0 then 32768 else min 128 (s.rd F.GR_POOL1_SIZE_UNITS) * 32768

/-- Sum of the reserves of a pool. -/
def State.rsvSum (s : State) (q : Nat) : Nat := ((List.range 64).map (fun m => s.rd (F.GR_QRSV_q_m q m))).sum

/-- A quota write that passed the access table (R361). -/
def State.quotaWrite (s : State) (isMax : Bool) (q who value : Nat) : State :=
  if allocClass who = 4 then s.grCfgErr 3
  else if isMax then s.wr (F.GR_QMAX_q_m q who) value
  else if s.poolSize q < s.rsvSum q - s.rd (F.GR_QRSV_q_m q who) + value % 2 ^ 23 then s.grCfgErr 1
  else s.wr (F.GR_QRSV_q_m q who) value

/-- A write of GR_QRSV or GR_QMAX: administrative (R361, R390). -/
def execQuotaWrite (m : Nat) (isMax : Bool) (pool : Fin 2) (who value : Nat) (s : State) : Out :=
  .next (s.busAdm m (0xB1000 + 0x200 * pool.val + 8 * who + if isMax then 4 else 0)
    (fun s => s.quotaWrite isMax pool.val who value))

/-- A GR_POOL1_SIZE write that passed the access table: frozen while GRIST runs (R16), refused below the reserves
(R361); the free count of pool 1 follows the new size. -/
def State.pool1Write (s : State) (units : Nat) : State :=
  let n := min 128 (units % 256) * 32768
  if n < s.rsvSum 1 then s.grCfgErr 2
  else (s.wr F.GR_FREE1 (s.rd F.GR_FREE1 + n - s.poolSize 1)).wr F.GR_POOL1_SIZE_UNITS units

/-- A write of GR_POOL1_SIZE: administrative and frozen while GRIST runs (R16, R361, R390). -/
def State.pool1Size (s : State) (m units : Nat) : State :=
  if s.on F.GR_CTRL_EN then
    (if units % 256 = s.rd F.GR_POOL1_SIZE_UNITS then s else s.cfgWhileRunning m 0xB0008)
  else s.pool1Write units

/-- A write of GR_POOL1_SIZE (R361). -/
def execPool1SizeWrite (m units : Nat) (s : State) : Out := .next (s.busAdm m 0xB0008 (fun s => s.pool1Size m units))

/-- Empty the trace buffer (R370). -/
def State.traceClear (s : State) : State :=
  ((({ s with pt := { s.pt with trace := [] } }).wr F.PT_TRACE_STAT_LEVEL 0).wr F.PT_TRACE_STAT_WPTR 0).wr F.PT_TRACE_STAT_FULL 0

/-- PT_TRACE_CTRL.CLEAR (R370). -/
def execTraceClear (m : Nat) (s : State) : Out := .next (s.busW m 0xC0020 (fun s => s.traceClear))

end Sys2Proof.Machine
end

