-- ==== Sys2Proof/Machine/TimeBase.lean ====
section
/-!
DEFINITION. TBASE: the counter, its states, the servo, the jump detector, PPS, captures and the follower (R33 to R72).
Steps of DT are in TimeStep.lean, because they move what other blocks hold.
Where the manual leaves a point open, the choices are log entries 18, 19, 22, 24 (DEDUCED); 82 (DESIGN CHOICE).
-/

namespace Sys2Proof.Machine

/-- Time-base states of R40. -/
def tbFree : Nat := 0
def tbAcquire : Nat := 1
def tbLocked : Nat := 2
def tbHoldover : Nat := 3
def tbJump : Nat := 4

/-- Power states of R406 as CRP_PWR_STATUS.STATE codes them. -/
def pwRun : Nat := 0
def pwTrim : Nat := 1
def pwHold : Nat := 2
def pwOff : Nat := 3

/-- The state of the time base. -/
def State.tbState (s : State) : Nat := s.rd F.TB_STATUS_STATE

/-- The power state. -/
def State.power (s : State) : Nat := s.rd F.CRP_PWR_STATUS_STATE

/-- The fraction word of a stamp taken now (R37). -/
def State.fracWord (s : State) : Word :=
  BitVec.ofNat 32 (s.tb.frac.toNat / 2 ^ 30 * 2 ^ 30 + s.rd F.TB_EPOCH % 256)

/-- SGMII's EGRESS delay in ns, rounded down; 0 in other modes (R51). -/
def State.egressDelay (s : State) (p : Nat) : Nat :=
  if p < 2 ∧ s.rd (F.BP_CTRL_MODE p) = 3 then
    (if p = 0 then s.rd F.TB_EXT_DLY_A_EGRESS else s.rd F.TB_EXT_DLY_B_EGRESS) / 4
  else 0

/-- A time stamp taken now (R37). -/
def State.stamp (s : State) : Stamp := ⟨s.tb.dt, s.fracWord⟩

/-- PPS_OUT is driven to its active or inactive level (R65, R69). -/
def State.ppsPin (s : State) (active : Bool) : State := s.emit (.pps (active != s.on F.TB_PPSO_CFG_POL))

/-- The increment, 36 bits (R33). -/
def State.tbInc (s : State) : Nat := s.rd64 F.TB_INC_LO F.TB_INC_HI

/-- Limits of the increment (R34). -/
def incMin : Nat := 0x1FF7CED91
def incMax : Nat := 0x20083126F

/-- An increment within its limits (R34). -/
def clampInc (v : Nat) : Nat := max incMin (min incMax v)

/-- The slew rate in force (R72: 0 acts as 1, above 1,000 as 1,000). -/
def State.slewPpm (s : State) : Nat := max 1 (min 1000 (s.rd F.TB_SLEW_SLEW_PPM))

/-- Enter HOLDOVER: TB_HOLD_NS counts from 0 (R40). -/
def State.enterHoldover (s : State) : State :=
  (s.wr F.TB_STATUS_STATE tbHoldover).wr64 F.TB_HOLD_NS_LO F.TB_HOLD_NS_HI 0

/-- Leave JUMP: to LOCKED, or to HOLDOVER in power state HOLD and from the start of the transition to it (R40, R41, R407); a slew that a re-epoch ends has no remainder (R59). -/
def State.leaveJump (s : State) : State :=
  let s1 := { s with tb := { s.tb with slewing := false, slew := 0, slewCarry := 0 } }
  if s.power = pwHold ∨ s.crp.toHold then s1.enterHoldover else s1.wr F.TB_STATUS_STATE tbLocked

/-- Each step is recorded and counted (R36, R64). -/
def State.recordStep (s : State) (at_ : Int) (d : Int) : State :=
  ((s.wr64 F.TB_LAST_DT_LO F.TB_LAST_DT_HI (ofSigned 64 at_)).wr64 F.TB_LAST_AMT_LO F.TB_LAST_AMT_HI (ofSigned 64 d)).wr
    F.TB_EPOCH (s.rd F.TB_EPOCH + 1)

/-- The extra amount one tick of a slew adds, in 2⁻³² ns, and the carry it leaves (R530). -/
def State.slewTick (s : State) : Int × Nat :=
  let acc := s.slewPpm * 2 ^ 33 + s.tb.slewCarry
  let mag : Nat := min (acc / 1000000) s.tb.slew.natAbs
  let want : Int := if s.tb.slew < 0 then -(mag : Int) else mag
  let got : Int := (clampInc ((s.tbInc : Int) + want).toNat : Int) - s.tbInc
  (got, acc % 1000000)

/-- PPS_OUT is being driven (R65, R66). -/
def State.ppsDriven (s : State) : Bool :=
  s.on F.TB_PPSO_CFG_EN && (decide (tbLocked ≤ s.tbState) || s.on F.TB_PPSO_CFG_UNLOCKED_EN)

/-- Apply staged PPS_OUT values with the limits of R66; COMMIT returns to 0. -/
def State.ppsApply (s : State) (v : Word × Word × Word) : State :=
  let period := max 1000 v.1.toNat
  let width := if period ≤ v.2.2.toNat then period - 8 else v.2.2.toNat
  let s1 := (((s.wr F.TB_PPSO_PERIOD period).wr F.TB_PPSO_PHASE v.2.1.toNat).wr F.TB_PPSO_WIDTH width).wr F.TB_CTRL_COMMIT 0
  { s1 with tb := { s1.tb with ppsCommit := none } }

/-- Setting TB_CTRL.COMMIT: at once while PPS_OUT is not driven, else at its next edge (R17, R66). A commit already
pending stays as it is (R17). -/
def State.ppsSetCommit (s : State) : State :=
  if s.on F.TB_CTRL_COMMIT then s
  else
    let v := (s.tb.ppsPeriod, s.tb.ppsPhase, s.tb.ppsWidth)
    if s.ppsDriven then
      let s1 := s.wr F.TB_CTRL_COMMIT 1
      { s1 with tb := { s1.tb with ppsCommit := some v } }
    else s.ppsApply v

/-- The pending staged values come into force, if a commit is pending (R16, R17). -/
def State.ppsBoundary (s : State) : State :=
  match s.tb.ppsCommit with
  | some v => s.ppsApply v
  | none => s

/-- Ownership of the servo returns to firmware (R55, R56). -/
def State.servoToFirmware (s : State) : State :=
  ((s.wr F.TB_SERVO_OWNER 0).wr F.TB_SERVO_GRANT 0).wr F.TB_SERVO_REQ 0

/-- The servo owner's master identity (R54). -/
def State.servoOwner (s : State) : Nat := if s.on F.TB_SERVO_OWNER then 0x20 else 0

/-- A write of TB_INC that passed the access table: only from the owner and not in HOLDOVER, clamped (R34, R54, R57). -/
def State.incWrite (s : State) (m inc : Nat) : State :=
  if m ≠ s.servoOwner ∨ s.tbState = tbHoldover then s.inc F.TB_INC_REJ
  else
    let v := clampInc (inc % 2 ^ 36)
    let s1 := s.wr64 F.TB_INC_LO F.TB_INC_HI v
    let s2 := if v = inc % 2 ^ 36 then s1 else s1.wr F.TB_STATUS_INC_CLAMP 1
    { s2 with tb := { s2.tb with incAt := s2.tb.mono } }

/-- Present a measured offset to the jump detector (R58): on in LOCKED, off at threshold 0. JUMP_MODE is taken at the entry into JUMP; a
later write of it acts at the next jump: log entry 82, DESIGN CHOICE. -/
def State.presentOffset (s : State) (offs : Int) : State :=
  let thr := s.rd F.TB_STEP_THR
  if s.tbState = tbLocked ∧ thr ≠ 0 ∧ thr < offs.natAbs then
    let s1 := (((s.raise0 Src.TIME_JUMP 0).wr F.TB_STATUS_JUMP_SEEN 1).inc F.TB_JUMP_CNT).wr F.TB_STATUS_STATE tbJump
    if s.rd F.TB_CTRL_JUMP_MODE = 0 then
      { s1 with tb := { s1.tb with slewing := true, slew := -offs * 2 ^ 32, slewCarry := 0 } }
    else s1
  else s

/-- A residue failure of a counter is kept for R449: 0 is the counter that DT first ran from, 1 the one that began as the shadow. -/
def State.residFail (s : State) (c : Nat) : State :=
  { s with sp := { s.sp with resid := (s.tb.mono, c) :: s.sp.resid.filter (fun x => decide (s.tb.mono < x.1 + 86400000000000)) } }

/-- The shadow counter differs from the time base: the module runs from the counter whose residue passes, and the
other is reloaded; with both residues passing it keeps the active one (R39). The operands are what the disturbed
counter reads and which residue checks pass. With both failing no counter is known good: the active one is kept. -/
def execShadowMismatch (dt : DWord) (frac : Word) (activeOk shadowOk : Bool) (s : State) : Out :=
  let s1 := s.inc F.TB_SHADOW_MISMATCH
  if activeOk && !shadowOk then
    .next (({ s1 with tb := { s1.tb with shDt := s1.tb.dt, shFrac := s1.tb.frac } }.raise0 Src.TB_SHADOW 0).residFail (!s.tb.swapped).toNat)
  else if shadowOk && !activeOk then
    let s2 := { s1 with tb := { s1.tb with dt := s1.tb.shDt, frac := s1.tb.shFrac, swapped := !s.tb.swapped } }
    .next (((s2.wr F.TB_SHADOW_ALT 1).raise0 Src.TB_SHADOW 0).residFail s.tb.swapped.toNat)
  else
    let s2 := { s1 with tb := { s1.tb with shDt := dt, shFrac := frac } }
    .next ((s2.wr F.TB_SHADOW_UNRES 1).raise0 Src.TB_SHADOW_UNRES 0)

/-- A write of TB_INC (R34, R35, R54, R57). -/
def execTbIncWrite (m inc : Nat) (s : State) : Out :=
  .next (s.busW m 0x20020 (fun s => s.incWrite m inc))

/-! The state requests of TB_CTRL (R40, R41). -/

/-- FREE to ACQUIRE. -/
def State.acq (s : State) : State := if s.tbState = tbFree then s.wr F.TB_STATUS_STATE tbAcquire else s

/-- ACQUIRE to LOCKED. -/
def State.lockReq (s : State) : State := if s.tbState = tbAcquire then s.wr F.TB_STATUS_STATE tbLocked else s

/-- LOCKED to HOLDOVER. -/
def State.holdReq (s : State) : State := if s.tbState = tbLocked then s.enterHoldover else s

/-- HOLDOVER to LOCKED while the module is in RUN or TRIM. -/
def State.holdExit (s : State) : State :=
  if s.tbState = tbHoldover ∧ s.power ≤ pwTrim then s.wr F.TB_STATUS_STATE tbLocked else s

/-- TB_CTRL.ACQ. -/
def execAcq (m : Nat) (s : State) : Out := .next (s.busW m 0x20000 (fun s => s.acq))

/-- TB_CTRL.LOCK_REQ. -/
def execLockReq (m : Nat) (s : State) : Out := .next (s.busW m 0x20000 (fun s => s.lockReq))

/-- TB_CTRL.HOLD_REQ. -/
def execHoldReq (m : Nat) (s : State) : Out := .next (s.busW m 0x20000 (fun s => s.holdReq))

/-- TB_CTRL.HOLD_EXIT. -/
def execHoldExit (m : Nat) (s : State) : Out := .next (s.busW m 0x20000 (fun s => s.holdExit))

/-- TB_CTRL.COMMIT (R66). -/
def execPpsCommit (m : Nat) (s : State) : Out :=
  .next (s.busW m 0x20000 (fun s => s.ppsSetCommit))

/-- The measured offset is written and presented (R58, R527). -/
def State.measOffset (s : State) (offs : Nat) : State :=
  (s.wr64 F.TB_MEAS_OFFS_LO F.TB_MEAS_OFFS_HI offs).presentOffset (toSigned 64 offs)

/-- A write of TB_MEAS_SEQ sends the TB_MEAS event once (R527). -/
def State.measSeq (s : State) (seq : Nat) : State := (s.wr F.TB_MEAS_SEQ seq).sendEvent 0

/-- A write of TB_MEAS_OFFS_HI together with its low word (R58, R527). -/
def execMeasOffsetWrite (m : Nat) (offs : DWord) (s : State) : Out :=
  .next (s.busW m 0x20074 (fun s => s.measOffset offs.toNat))

/-- A write of TB_MEAS_SEQ (R527). -/
def execMeasSeqWrite (m : Nat) (seq : Word) (s : State) : Out :=
  .next (s.busW m 0x2007C (fun s => s.measSeq seq.toNat))

/-- TB_SLEW_REM has reached 0 in JUMP by mode SLEW (R40, R41, R530). -/
def execSlewComplete (s : State) : Out :=
  .next (if s.tbState = tbJump ∧ s.tb.slewing ∧ s.tb.slew = 0 then s.leaveJump else s)

/-- TB_SNAP_CTRL.SNAP captures DT (R69). -/
def State.snap (s : State) : State := (s.wr64 F.TB_SNAP_LO F.TB_SNAP_HI s.dt).wr F.TB_SNAP_FRAC s.fracWord.toNat

/-- A write of TB_SNAP_CTRL (R69). -/
def execSnap (m : Nat) (s : State) : Out := .next (s.busW m 0x200A0 (fun s => s.snap))

/-- TB_SERVO.REQ written by PF0: 1 asks for the servo, 0 returns it (R55). A write by another master changes nothing: log entry 82,
DESIGN CHOICE. -/
def State.servoReq (s : State) (m : Nat) (b : Bool) : State :=
  if m ≠ 0x20 then s else if b then s.wr F.TB_SERVO_REQ 1 else s.servoToFirmware

/-- PF0 asks for the servo (R55). -/
def execServoRequest (m : Nat) (s : State) : Out := .next (s.busW m 0x20080 (fun s => s.servoReq m true))

/-- Firmware grants the servo that PF0 has asked for (R55). -/
def execServoGrant (s : State) : Out :=
  .next (if s.on F.TB_SERVO_REQ ∧ ¬ s.on F.TB_SERVO_OWNER then
    let s1 := (s.wr F.TB_SERVO_OWNER 1).wr F.TB_SERVO_GRANT 1
    { s1 with tb := { s1.tb with incAt := s1.tb.mono } }
  else s)

/-- PF0 returns the servo (R55). -/
def execServoReturn (m : Nat) (s : State) : Out := .next (s.busW m 0x20080 (fun s => s.servoReq m false))

/-- No accepted TB_INC write of PF0 for TB_SERVO_WDOG ms (R56). -/
def execServoWatchdogExpiry (s : State) : Out :=
  .next (if s.on F.TB_SERVO_OWNER ∧ s.rd F.TB_SERVO_WDOG ≠ 0 ∧ s.tb.incAt + s.rd F.TB_SERVO_WDOG * 1000000 ≤ s.tb.mono then
    s.servoToFirmware.raise0 Src.TB_SERVO_WDOG 0
  else s)

/-- PPS_OUT asserts at every DT that matches period and phase, within 2 ns; a pending commit applies at this edge
(R65, R66). -/
def execPpsOutEdge (s : State) : Out :=
  let s1 := s.ppsBoundary
  let period := s.rd F.TB_PPSO_PERIOD
  let r := ((s.dt : Int) - s.rd F.TB_PPSO_PHASE) % period
  .next (if s.ppsDriven ∧ period ≠ 0 ∧ (r ≤ 2 ∨ (period : Int) - 2 ≤ r) ∧ s.tb.ppsOutEnd = none then
    ({ s1 with tb := { s1.tb with ppsOutEnd := some (s.dt + s1.rd F.TB_PPSO_WIDTH) } }).ppsPin true
  else s)

/-- DT in quarter ns, `q` quarters after the present tick (R37). -/
def State.quarters (s : State) (q : Nat) : Nat := s.dt * 4 + s.tb.frac.toNat / 2 ^ 30 + q

/-- A stamp with 250 ps resolution, `q` quarter ns after the present tick (R37, R67, R68). -/
def State.stampQ (s : State) (q : Nat) : Stamp :=
  ⟨BitVec.ofNat 64 (s.quarters q / 4), BitVec.ofNat 32 (s.quarters q % 4 * 2 ^ 30 + s.rd F.TB_EPOCH % 256)⟩

/-- An edge of PPS_IN: the selected edge is stamped and checked against the expected one, the
previous stamp plus 1 s (R67). -/
def execPpsInEdge (e : PinEdge) (s : State) : Out :=
  .next (if s.on F.TB_PPSI_CFG_EN ∧ (e.rising = !s.on F.TB_PPSI_CFG_EDGE) then
    let st := s.stampQ e.quarter.val
    let off : Int := (s.quarters e.quarter.val : Int) - (s.tb.ppsInAt + 4000000000)
    let bad := s.tb.ppsInHave ∧ s.rd F.TB_PPSI_CFG_WIN_US * 4000 < off.natAbs
    let s1 := (s.wr64 F.TB_PPSI_TS_LO F.TB_PPSI_TS_HI st.ns.toNat).wr F.TB_PPSI_TS_FRAC st.frac.toNat
    let s2 := { s1 with tb := { s1.tb with ppsInAt := s.quarters e.quarter.val, ppsInHave := true } }
    if bad then s2.inc F.TB_PPSI_CNT_BAD else (s2.wr F.TB_STATUS_PPS_IN_OK 1).condEnd Src.PPS_IN_LOSS 0xFF
  else s)

/-- No PPS_IN edge for 1.5 s (R67). -/
def execPpsInLoss (s : State) : Out :=
  .next (if s.on F.TB_PPSI_CFG_EN ∧ s.tb.ppsInAt + 6000000000 ≤ s.quarters 0 then
    let s1 := ((s.inc F.TB_PPSI_CNT_MISS).wr F.TB_STATUS_PPS_IN_OK 0).onset Src.PPS_IN_LOSS 0xFF 0
    { s1 with tb := { s1.tb with ppsInAt := s.quarters 0, ppsInHave := false } }
  else s)

/-- Does a TIN edge selection take an edge? 0 rising, 1 falling, 2 and 3 both (R68). -/
def tinTakes (sel : Nat) (rising : Bool) : Bool := decide (2 ≤ sel) || (decide (sel = 0) == rising)

/-- An edge of TIN0 or TIN1, `quarter` quarter ns after the present tick: stamped into the FIFO, or discarded and counted
when it is closer than 8 ns to the last one or the FIFO is full (R68). A discarded edge counts as the last one for the 8 ns of the
next: log entry 82, DESIGN CHOICE. -/
def execTinEdge (pin : Fin 2) (rising : Bool) (quarter : Fin 8) (s : State) : Out :=
  let now := s.tb.mono * 4 + quarter.val
  let st : Stamp := s.stampQ quarter.val
  if pin = 0 then
    .next (if s.on F.TB_TIN0_CFG_EN ∧ tinTakes (s.rd F.TB_TIN0_CFG_EDGE) rising then
      let close : Bool := match s.tb.tinLast0 with | some l => decide (now < l + 32) | none => false
      let s1 := { s with tb := { s.tb with tinLast0 := some now } }
      if close || decide (16 ≤ s.tb.tin0.length) then (s1.inc F.TB_TIN0_STAT_OVF).raise Src.TIN_OVF 0 none 0
      else { s1 with tb := { s1.tb with tin0 := s1.tb.tin0 ++ [st] } }
    else s)
  else
    .next (if s.on F.TB_TIN1_CFG_EN ∧ tinTakes (s.rd F.TB_TIN1_CFG_EDGE) rising then
      let close : Bool := match s.tb.tinLast1 with | some l => decide (now < l + 32) | none => false
      let s1 := { s with tb := { s.tb with tinLast1 := some now } }
      if close || decide (16 ≤ s.tb.tin1.length) then (s1.inc F.TB_TIN1_STAT_OVF).raise Src.TIN_OVF 1 none 0
      else { s1 with tb := { s1.tb with tin1 := s1.tb.tin1 ++ [st] } }
    else s)

/-- Latch the words of a three-word quantity for a master (R12, R38). -/
def State.latch (s : State) (m off : Nat) (v : Word) : State :=
  { s with latched := Sparse.put none s.latched (m * 2 ^ 24 + off) (some v) }

/-- A read of TB_TINn_TS_LO pops the oldest stamp and latches its other two words; an empty FIFO gives 0 in all three
(R38, R68). -/
def State.tinPop (s : State) (m pin : Nat) : State :=
  let off := 0x20148 + 0x20 * pin
  let q := if pin = 0 then s.tb.tin0 else s.tb.tin1
  let st := q.headD ⟨0, 0⟩
  let s1 := (s.latch m (off + 4) (BitVec.ofNat 32 (st.ns.toNat / 2 ^ 32))).latch m (off + 8) st.frac
  let s2 := { s1 with readData := [BitVec.ofNat 32 st.ns.toNat] }
  if pin = 0 then { s2 with tb := { s2.tb with tin0 := q.tail } } else { s2 with tb := { s2.tb with tin1 := q.tail } }

/-- A read of TB_TINn_TS_LO (R68). -/
def execTinFifoPop (m : Nat) (pin : Fin 2) (s : State) : Out :=
  .next (s.busR m (0x20148 + 0x20 * pin.val) (fun s => s.tinPop m pin.val))

/-- The follower loses a lock that it held (R52). -/
def State.flwUnlock (s : State) : State :=
  if s.on F.TB_FLW_STAT_LOCK then
    let s1 := ((s.wr F.TB_FLW_STAT_LOCK 0).inc F.TB_FLW_CNT).onset Src.TB_FOLLOWER_UNLOCK 0xFF 0
    { s1 with tb := { s1.tb with flwOver := 0 } }
  else s

/-- No marker for 10 µs: the follower unlocks; before its first lock nothing is raised or counted (R52, R528). -/
def execFollowerMarkerTimeout (s : State) : Out :=
  .next (if s.tb.flwAt + 10000 ≤ s.tb.mono then s.flwUnlock else s)

/-- The oldest residence entry of a direction has found no Follow_Up within TB_TC_FU_TMO ms (R47). -/
def execFuTimeout (dirB : Bool) (s : State) : Out :=
  match (if dirB then s.tb.fuB else s.tb.fuA) with
  | [] => .next s
  | e :: rest =>
    .next (if e.since + s.rd F.TB_TC_FU_TMO * 1000000 ≤ s.tb.mono then
      let s1 := s.inc F.TB_TC_CNT_FU_MISS
      if dirB then { s1 with tb := { s1.tb with fuB := rest } } else { s1 with tb := { s1.tb with fuA := rest } }
    else s)

end Sys2Proof.Machine
end

