-- ==== Sys2Proof/Machine/Kiln.lean ====
section
/-!
DEFINITION. KILN: gate lists, configuration changes, field gate events, stream gates, and the table of timed actions
(R73 to R104). Performing an occurrence is in Actions.lean, because a WRITE may reach any register.
Where the manual leaves a point open, the choices are log entries 20, 28, 29 (DEDUCED); 26, 82, 83 (DESIGN CHOICE).
-/

namespace Sys2Proof.Machine

/-! Schedules: cycles of entries at fixed offsets (R76, R77, R80, R81). -/

/-- What an operational list needs for its timing: base time, cycle, the intervals, the minimum interval, and the cycles a
pending change removes: `cct` with the boundary S that R81 does not start, if any. -/
structure Sched where
  base : Int
  cycle : Nat
  ivs : List Nat
  minI : Nat
  cct : Option (Int × Option Int)
deriving DecidableEq, Repr

/-- Entries applied within a span, with their offsets; an entry cut below the minimum interval is not applied (R77). -/
def spanEntries (minI : Nat) (span : Int) : List Nat → Nat → Int → List (Nat × Int)
  | [], _, _ => []
  | v :: t, i, off =>
    if span ≤ off then []
    else if off + v ≤ span then (i, off) :: spanEntries minI span t (i + 1) (off + v)
    else if span - off < minI then []
    else [(i, off)]

/-- Is there a truncated entry that is not applied within a span (R77)? -/
def spanShort (minI : Nat) (span : Int) : List Nat → Int → Bool
  | [], _ => false
  | v :: t, off =>
    if span ≤ off then false
    else if off + v ≤ span then spanShort minI span t (off + v)
    else decide (span - off < minI)

/-- Boundary B_k (R76). -/
def Sched.boundary (c : Sched) (k : Int) : Int := c.base + k * c.cycle

/-- Length of cycle `k`, cut by a CCT; 0 for a cycle that does not run (R81). -/
def Sched.span (c : Sched) (k : Int) : Int :=
  match c.cct with
  | none => c.cycle
  | some (cct, skip) =>
    if skip = some (c.boundary k) ∨ cct ≤ c.boundary k then 0 else min c.cycle (cct - c.boundary k)

/-- Events of cycle `k`: entry index and DT. -/
def Sched.events (c : Sched) (k : Int) : List (Nat × Int) :=
  (spanEntries c.minI (c.span k) c.ivs 0 0).map (fun e => (e.1, c.boundary k + e.2))

/-- The cycle that an instant falls into. -/
def Sched.cycleAt (c : Sched) (t : Int) : Int := (t - c.base) / c.cycle

/-- The first event after an instant, among its cycle and the next, for which `f` holds of the entry: cycle, entry, DT. -/
def Sched.nextOf (c : Sched) (t : Int) (f : Nat → Bool) : Option (Int × Nat × Int) :=
  if c.cycle = 0 then none
  else
    let k := c.cycleAt t
    let pick (k : Int) : Option (Int × Nat × Int) :=
      ((c.events k).find? (fun e => decide (t < e.2) && f e.1)).map (fun e => (k, e.1, e.2))
    (pick k).or (pick (k + 1))

/-- The last event at or before an instant, among its cycle and the one before, for which `f` holds of the entry: entry, DT. -/
def Sched.prevOf (c : Sched) (t : Int) (f : Nat → Bool) : Option (Nat × Int) :=
  if c.cycle = 0 then none
  else
    let k := c.cycleAt t
    let pick (k : Int) : Option (Nat × Int) := ((c.events k).filter (fun e => decide (e.2 ≤ t) && f e.1)).getLast?
    (pick k).or (pick (k - 1))

/-- Does a truncated entry of cycle `k` stay unapplied (R77)? -/
def Sched.short (c : Sched) (k : Int) : Bool := spanShort c.minI (c.span k) c.ivs 0

/-- The first event after an instant. -/
def Sched.next (c : Sched) (t : Int) : Option (Int × Nat × Int) := c.nextOf t (fun _ => true)

/-- The first boundary not earlier than an instant (R78). -/
def firstBoundary (base : Int) (cycle : Nat) (t : Int) : Int :=
  if cycle = 0 then t else base + (t - base + (cycle - 1)) / cycle * cycle

/-- The configuration change time (R80). -/
def cctFor (base : Int) (cycle : Nat) (now : Int) : Int := if now ≤ base then base else firstBoundary base cycle now

/-- The boundary S that an extension removes: CCT lies in (S, S + EXT] and S after the instant of computation (R81). -/
def skippedCycle (base : Int) (cycle ext : Nat) (cct at_ : Int) : Option Int :=
  if cycle = 0 then none
  else
    let s := base + (cct - base) / cycle * cycle
    if s < cct ∧ cct - s ≤ ext ∧ at_ < s then some s else none

/-! Port lists. -/

/-- Limits of R73: entries per list, minimum interval, preparation lead. -/
def listMax (p : Nat) : Nat := if p < 2 then 4096 else 1024
def listMinI (p : Nat) : Nat := if p < 2 then 8 else 400
def listLead (p : Nat) : Nat := if p < 2 then 2000 else 25000

/-- Fields of a port list entry (R74). -/
def leInterval (w : DWord) : Nat := bits w.toNat 0 32
def leGates (w : DWord) : Nat := bits w.toNat 32 8
def leOp (w : DWord) : Nat := bits w.toNat 40 2
def leQuiet (w : DWord) : Bool := bits w.toNat 42 1 == 1

def State.knPort (s : State) (p : Nat) : KnPort := Sparse.get KnPort.empty s.kn.ports p
def State.setKnPort (s : State) (p : Nat) (v : KnPort) : State :=
  { s with kn := { s.kn with ports := Sparse.put KnPort.empty s.kn.ports p v } }

/-- Entry `i` of the administrative and of the operational list of a port (R104). -/
def State.adminEntry (s : State) (p i : Nat) : DWord := Sparse.get 0 s.kn.admin (p * 4096 + i)
def State.operEntry (s : State) (p i : Nat) : DWord := Sparse.get 0 s.kn.oper (p * 4096 + i)

/-- A base time, a DT; one that a step has moved below 0 is held modulo 2⁶⁴ (R63, R76). -/
def baseOf (neg : Bool) (v : Nat) : Int := if neg then (v : Int) - 2 ^ 64 else v

/-- OPER_BASE, ADMIN_BASE and CHG_TIME (R76, R80). -/
def State.operBase (s : State) (p : Nat) : Int := baseOf (s.knPort p).opNeg (s.rd64 (F.KN_Pn_OPER_BASE_LO p) (F.KN_Pn_OPER_BASE_HI p))
def State.adminBase (s : State) (p : Nat) : Int := baseOf (s.knPort p).admNeg (s.rd64 (F.KN_Pn_ADMIN_BASE_LO p) (F.KN_Pn_ADMIN_BASE_HI p))
def State.chgTime (s : State) (p : Nat) : Int := s.rd64 (F.KN_Pn_CHG_TIME_LO p) (F.KN_Pn_CHG_TIME_HI p)
def State.cfgPending (s : State) (p : Nat) : Bool := s.on (F.KN_Pn_STATUS_CFG_PENDING p)
def State.operLen (s : State) (p : Nat) : Nat := s.rd (F.KN_Pn_OPER_LEN p)

/-- CFG_PENDING, which CFG_CHANGE reads too. -/
def State.setPending (s : State) (p : Nat) (b : Bool) : State :=
  (s.wr (F.KN_Pn_STATUS_CFG_PENDING p) b.toNat).wr (F.KN_Pn_CTRL_CFG_CHANGE p) b.toNat

/-- The operational schedule of a port. -/
def State.sched (s : State) (p : Nat) : Sched where
  base := s.operBase p
  cycle := s.rd (F.KN_Pn_OPER_CYCLE p)
  ivs := (List.range (s.operLen p)).map (fun i => leInterval (s.operEntry p i))
  minI := listMinI p
  cct := if s.cfgPending p then
      some (s.chgTime p, skippedCycle (s.operBase p) (s.rd (F.KN_Pn_OPER_CYCLE p)) (s.rd (F.KN_Pn_OPER_EXT p)) (s.chgTime p) (s.knPort p).cctAt)
    else none

/-- Release the hold (R86). -/
def State.setHold (s : State) (p : Nat) (b : Bool) : State :=
  (s.wr (F.KN_Pn_STATUS_HOLD p) b.toNat).wr (F.LN_Pn_MM_STATUS_HOLD_ACTIVE p) b.toNat

/-- Gate states that apply outside a list (R78). A field port's die takes them at once: log entry 83, DESIGN CHOICE. -/
def State.setGates (s : State) (p states : Nat) : State :=
  let s1 := s.wr (F.KN_Pn_STATUS_CUR_STATES p) states
  s1.setKnPort p { s1.knPort p with fdStates := states % 256, fdQ := [] }

/-- The schedule that a pending change brings (R80, R82). -/
def State.adminSched (s : State) (p : Nat) : Sched where
  base := s.adminBase p
  cycle := s.rd (F.KN_Pn_ADMIN_CYCLE p)
  ivs := (List.range (s.rd (F.KN_Pn_ADMIN_LEN p))).map (fun i => leInterval (s.adminEntry p i))
  minI := listMinI p
  cct := none

/-- What a port's gates have before them: the first event after an instant, of the list that runs or is to start and, from CCT on, of
the list that a pending change brings, whose entry meets `f`: DT and entry (R76, R78, R81, R82). -/
def State.planNext (s : State) (p : Nat) (t : Int) (f : DWord → Bool) : Option (Int × DWord) :=
  let r := s.knPort p
  let own (t : Int) : Option (Int × DWord) :=
    ((s.sched p).nextOf t (fun i => f (s.operEntry p i))).map (fun e => (e.2.2, s.operEntry p e.2.1))
  let old := if r.running then own t
    else match r.startAt with
      | some b => if t < b then (if f (s.operEntry p 0) then some (b, s.operEntry p 0) else own b) else own t
      | none => none
  let new := if s.cfgPending p then
      (if t < s.chgTime p ∧ f (s.adminEntry p 0) then some (s.chgTime p, s.adminEntry p 0)
       else ((s.adminSched p).nextOf (max t (s.chgTime p)) (fun i => f (s.adminEntry p i))).map (fun e => (e.2.2, s.adminEntry p e.2.1)))
    else none
  if r.eff then old.or new else none

/-- End of the interval of an entry that begins at `t` in cycle `k` (R88): the entry that an extension holds over lasts to CCT (R81). -/
def State.entryEnd (s : State) (p : Nat) (k : Int) (i : Nat) (t : Int) : Int :=
  let c := s.sched p
  let cut := min (t + (leInterval (s.operEntry p i) : Nat)) (c.boundary k + (c.span k))
  match c.cct with
  | some x =>
    if x.2 = some (c.boundary (k + 1)) ∧ ((c.events k).getLast?).map (·.1) = some i then x.1 else min cut x.1
  | none => cut

/-- A quiet interval in force ends where the list as it now stands ends it: a CCT cuts it, an abort lets it run on (R88). -/
def State.requiet (s : State) (p : Nat) : State :=
  let r := s.knPort p
  match r.quiet with
  | some q => s.setKnPort p { r with quiet := some (q.1, s.entryEnd p r.k (s.rd (F.KN_Pn_STATUS_CUR_ENTRY p)) q.1) }
  | none => s

/-- Count a cycle's truncated entry that is not applied (R77). -/
def State.shortCount (s : State) (p : Nat) (b : Bool) : State := if b then s.inc (F.KN_Pn_SHORT_CNT p) else s

/-- The cycle in force ends (R77). -/
def State.cycleEnds (s : State) (p : Nat) : State :=
  if (s.knPort p).running then s.shortCount p ((s.sched p).short (s.knPort p).k) else s

/-- An entry of the operational list begins (R75, R76, R88); on a field port the gates follow through the field die. -/
def State.applyEntry (s : State) (p : Nat) (k : Int) (i : Nat) (t : Int) : State :=
  let e := s.operEntry p i
  let r := s.knPort p
  let s0 := if i = 0 then s.cycleEnds p else s
  let s1 := (((s0.wr (F.KN_Pn_STATUS_CUR_ENTRY p) i).wr (F.KN_Pn_STATUS_CUR_STATES p) (leGates e)).wr (F.KN_Pn_CYCLE_CNT p) (k % (2 ^ 32 : Nat)).toNat)
  let s2 := if p < 2 then s1.inc (F.KN_Pn_EVT_CNT p) else s1
  s2.setKnPort p { r with running := true, startAt := none, k := k, last := t,
                          quiet := if leQuiet e then some (t, s.entryEnd p k i t) else none }

/-- Boundary B of a re-epoch: the first boundary not before an instant, of the list of the anchor port that is operational then, else
a whole ms (R60, R70). -/
def State.reepBoundary (s : State) (anchor : Nat) (t : Int) : Int :=
  if anchor < 10 ∧ (s.knPort anchor).running then
    let c := s.sched anchor
    let b := firstBoundary c.base c.cycle t
    match c.cct with
    | none => b
    | some (cct, skip) =>
      if b < cct ∧ skip ≠ some b then b else firstBoundary (s.adminBase anchor) (s.rd (F.KN_Pn_ADMIN_CYCLE anchor)) (max t cct)
  else (t + 999999) / 1000000 * 1000000

/-- The list of an anchor port has changed, started or stopped at DT `at_`: B is taken anew from then on (R70). -/
def State.reepAnchor (s : State) (p : Nat) (at_ : Int) : State :=
  match s.tb.reep with
  | none => s
  | some r =>
    let b := s.reepBoundary p (max r.since at_)
    if r.anchor = p ∧ 0 ≤ b + r.delta then { s with tb := { s.tb with reep := some { r with bnd := b } } } else s

/-- GATE_EN takes effect (R78). While the gates hold ADMIN_STATES they keep the value of the enable, and with GATE_EN 0 CUR_ENTRY and
CYCLE_CNT keep their last values: log entry 83, DESIGN CHOICE. -/
def State.gateSet (s : State) (p : Nat) (b : Bool) : State :=
  let r := s.knPort p
  if b then
    let s1 := s.setKnPort p { r with
      eff := true, running := false, quiet := none,
      startAt := if ¬ s.cfgPending p ∧ 0 < s.operLen p then
          some (firstBoundary (s.operBase p) (s.rd (F.KN_Pn_OPER_CYCLE p)) ((s.dt : Int) + listLead p)) else none }
    s1.setGates p (s.rd (F.KN_Pn_ADMIN_STATES p))
  else
    let s0 := s.cycleEnds p
    let s1 := ((s0.setKnPort p { r with eff := false, running := false, startAt := none, quiet := none }).setPending p false).setGates p 0xFF
    (s1.setHold p false).reepAnchor p s.dt

/-- A write of GATE_EN: in force at the next cycle boundary of a running list, otherwise at once (R78). -/
def State.gateWrite (s : State) (p : Nat) (b : Bool) : State :=
  let s1 := s.wr (F.KN_Pn_CTRL_GATE_EN p) b.toNat
  if (s.knPort p).running ∨ (s.knPort p).eff = b then s1 else s1.gateSet p b

/-- The refusal of an admin write or change (R83). -/
def State.adminRej (s : State) (p : Nat) : State := (s.inc (F.KN_Pn_ADMIN_REJ p)).raise Src.KN_ADMIN_LOCKED p none 0

/-- Is the administrative copy locked (R83)? -/
def State.adminLocked (s : State) (p : Nat) : Bool := s.cfgPending p || s.on (F.KN_Pn_STATUS_ADMIN_BUSY p)

/-- The first failing code of R79 for a port's administrative copy. -/
def State.cfgCode (s : State) (p : Nat) : Nat :=
  let n := s.rd (F.KN_Pn_ADMIN_LEN p)
  let es := (List.range n).map (s.adminEntry p)
  let hr := s.on (F.KN_Pn_CTRL_HR_EN p)
  if n = 0 ∨ listMax p < n then 1
  else if s.rd (F.KN_Pn_ADMIN_CYCLE p) < listMinI p then 2
  else if es.any (fun e => decide (leInterval e < listMinI p)) then 3
  else if es.any (fun e => decide (leOp e = 3) || (decide (leOp e ≠ 0) && !hr)) then 4
  else if es.any (fun e => leQuiet e && decide (leGates e &&& s.rd (F.KN_Pn_SCHED_MASK p) ≠ 0)) then 5
  else if s.rd (F.KN_Pn_ADMIN_CYCLE p) ≤ s.rd (F.KN_Pn_ADMIN_EXT p) then 6
  else 0

/-- CFG_CHANGE (R79, R80, R83). -/
def State.cfgChange (s : State) (p : Nat) : State :=
  if s.adminLocked p then
    ((s.wr (F.KN_Pn_STATUS_CFG_ERR p) 8).wr (F.KN_Pn_STATUS_CFG_ERR_SEEN p) 1).adminRej p
  else
    let c := s.cfgCode p
    if c ≠ 0 then
      ((s.wr (F.KN_Pn_STATUS_CFG_ERR p) c).wr (F.KN_Pn_STATUS_CFG_ERR_SEEN p) 1).raise Src.KN_CFG_ERR p none c
    else
      let cct := cctFor (s.adminBase p) (s.rd (F.KN_Pn_ADMIN_CYCLE p)) ((s.dt : Int) + listLead p)
      let s1 := (s.setPending p true).wr64 (F.KN_Pn_CHG_TIME_LO p) (F.KN_Pn_CHG_TIME_HI p) (ofSigned 64 cct)
      ((s1.setKnPort p { s1.knPort p with cctAt := s.dt, startAt := none }).requiet p).reepAnchor p s.dt

/-- CFG_ABORT (R84). Events of the new list that a field port's die already has are dropped, and its own list goes on after the last
event before CCT that was sent. -/
def State.cfgAbort (s : State) (p : Nat) : State :=
  if s.cfgPending p ∧ (s.dt : Int) < s.chgTime p - 1000 then
    let r := s.knPort p
    let q := r.fdQ.filter (fun e => decide (e.1 < s.chgTime p))
    let before (t : Int) : Int := if t < s.chgTime p then t else s.dt
    let r1 := { r with
      fdQ := q, lastHold := before r.lastHold, lastRel := before r.lastRel,
      lastSent := if r.lastSent < s.chgTime p then r.lastSent else (q.getLast?.map (·.1)).getD s.dt,
      startAt := if r.eff ∧ ¬ r.running ∧ 0 < s.operLen p then
        some (firstBoundary (s.operBase p) (s.rd (F.KN_Pn_OPER_CYCLE p)) ((s.dt : Int) + listLead p)) else r.startAt }
    (((s.setPending p false).setKnPort p r1).requiet p).reepAnchor p s.dt
  else s.inc (F.KN_Pn_ADMIN_REJ p)

/-- Copy the `n` entries of a port's list from one bank to the other. -/
def bankCopy (p : Nat) (src dst : List (Nat × DWord)) : List (Nat × DWord) :=
  (src.filter (fun e => decide (p * 4096 ≤ e.1 ∧ e.1 < (p + 1) * 4096))).foldl (fun d e => Sparse.put 0 d e.1 e.2)
    (Sparse.dropRange (p * 4096) ((p + 1) * 4096) dst)

/-- A list with another base or cycle time counts its own cycles: the launches of its cycles are created anew (R82, R174). -/
def State.newCycles (s : State) (p : Nat) : State :=
  if s.operBase p = s.adminBase p ∧ s.rd (F.KN_Pn_OPER_CYCLE p) = s.rd (F.KN_Pn_ADMIN_CYCLE p) then s
  else { s with ms := { s.ms with lastK := s.ms.lastK.filter (fun x => match x.2 with | some y => y.1 != p | none => true) } }

/-- At CCT the banks exchange roles (R82); with GATE_EN in force the new list begins (R81). The cycle that CCT ends, and one that it has
cut so short that not even entry 0 was applied, count their unapplied entries (R77). -/
def State.cctExchange (s0 : State) (p : Nat) : State :=
  let s := s0.newCycles p
  let cct := s.chgTime p
  let r := s.knPort p
  let c := s.sched p
  let s0 := (s.cycleEnds p).shortCount p (r.running && decide (0 < c.span (r.k + 1)) && (c.events (r.k + 1)).isEmpty && c.short (r.k + 1))
  let s1 := (((s0.setPending p false).inc (F.KN_Pn_CHG_CNT p)).wr (F.KN_Pn_STATUS_ADMIN_BUSY p) 1)
  let s2 := { s1 with kn := { s1.kn with oper := bankCopy p s.kn.admin s.kn.oper, admin := bankCopy p s.kn.oper s.kn.admin } }
  let s3 := (((s2.wr64 (F.KN_Pn_OPER_BASE_LO p) (F.KN_Pn_OPER_BASE_HI p) (ofSigned 64 (s.adminBase p))).wr (F.KN_Pn_OPER_CYCLE p)
    (s.rd (F.KN_Pn_ADMIN_CYCLE p))).wr (F.KN_Pn_OPER_EXT p) (s.rd (F.KN_Pn_ADMIN_EXT p))).wr (F.KN_Pn_OPER_LEN p) (s.rd (F.KN_Pn_ADMIN_LEN p))
  let s4 := s3.setKnPort p { r with running := false, opNeg := r.admNeg }
  if r.eff then
    if s.on (F.KN_Pn_CTRL_GATE_EN p) then
      (s4.applyEntry p ((cct - s.adminBase p) / (s.rd (F.KN_Pn_ADMIN_CYCLE p) : Nat)) 0 cct).reepAnchor p cct
    else s4.gateSet p false
  else s4

/-- DT as a port's gate events see it: in SGMII mode they come EGRESS early, so that they hold at the PHY's line side (R51). -/
def State.gateDt (s : State) (p : Nat) : Int := (s.dt + s.egressDelay p : Nat)

/-- Has a GATE_EN of 0 reached its boundary: the next cycle of the running list has begun, be its entry 0 applied or not (R78)? -/
def State.gateEnds (s : State) (p : Nat) : Option Int :=
  let c := s.sched p
  let b := c.boundary ((s.knPort p).k + 1)
  if ¬ s.on (F.KN_Pn_CTRL_GATE_EN p) ∧ 0 < c.span ((s.knPort p).k + 1) ∧ b ≤ s.gateDt p then some b else none

/-- The start of a list entry (R76, R77, R88); a cycle boundary is where a written GATE_EN takes effect (R78). -/
def execGateEntryStart (p : Fin 10) (s : State) : Out :=
  let p := p.val
  let r := s.knPort p
  .next (if r.running then
    match (s.sched p).next r.last, s.gateEnds p with
    | some (k, i, t), some b => if t < b then s.applyEntry p k i t else s.gateSet p false
    | none, some _ => s.gateSet p false
    | some (k, i, t), none =>
      if t ≤ s.gateDt p then s.applyEntry p k i t
      else (match r.quiet with
        | some q => if q.2 ≤ s.gateDt p then s.setKnPort p { r with quiet := none } else s
        | none => s)
    | none, none => s
  else s)

/-- A write of GATE_EN in KN_Pn_CTRL (R78). -/
def execGateEnWrite (m : Nat) (p : Fin 10) (b : Bool) (s : State) : Out :=
  .next (s.busW m (0x60400 + 0x80 * p.val) (fun s => s.gateWrite p.val b))

/-- The stored operational list starts at the boundary chosen at the enable (R78). -/
def execListStart (p : Fin 10) (s : State) : Out :=
  let p := p.val
  .next (match (s.knPort p).startAt with
    | some b => if b ≤ s.gateDt p then (s.applyEntry p ((s.sched p).cycleAt b) 0 b).reepAnchor p b else s
    | none => s)

/-- KN_Pn_CTRL.CFG_CHANGE (R79). -/
def execCfgChange (m : Nat) (p : Fin 10) (s : State) : Out :=
  .next (s.busW m (0x60400 + 0x80 * p.val) (fun s => s.cfgChange p.val))

/-- DT has reached a port's CCT (R82). -/
def execConfigChangeTime (p : Fin 10) (s : State) : Out :=
  .next (if s.cfgPending p.val ∧ s.chgTime p.val ≤ s.gateDt p.val then s.cctExchange p.val else s)

/-- The copy of the operational list into the administrative bank ends (R82). -/
def execAdminCopyDone (p : Fin 10) (s : State) : Out :=
  .next (if s.on (F.KN_Pn_STATUS_ADMIN_BUSY p.val) then
    { s.wr (F.KN_Pn_STATUS_ADMIN_BUSY p.val) 0 with kn := { s.kn with admin := bankCopy p.val s.kn.oper s.kn.admin } }
  else s)

/-- KN_Pn_CTRL.CFG_ABORT (R84). -/
def execCfgAbort (m : Nat) (p : Fin 10) (s : State) : Out :=
  .next (s.busW m (0x60400 + 0x80 * p.val) (fun s => s.cfgAbort p.val))

/-- KILN sends a field port's next gate event with its DT over the isolation channel, the preparation lead ahead (R87). -/
def execFieldGateEventSend (n : Fin 8) (s : State) : Out :=
  let p := n.val + 2
  let r := s.knPort p
  .next (if r.eff then
    match s.planNext p (max r.lastSent r.last) (fun _ => true) with
    | some e =>
      if e.1 ≤ (s.dt : Int) + listLead p then s.setKnPort p { r with lastSent := e.1, fdQ := r.fdQ ++ [(e.1, leGates e.2)] } else s
    | none => s
  else s)

/-- The field die applies a gate event when its locked follower reaches the event's DT (R87). -/
def execFieldGateEventApply (n : Fin 8) (s : State) : Out :=
  let p := n.val + 2
  let r := s.knPort p
  .next (match r.fdQ with
    | [] => s
    | e :: t =>
      if s.on F.TB_FLW_STAT_LOCK ∧ e.1 ≤ (s.dt : Int) then
        (s.setKnPort p { r with fdQ := t, fdStates := e.2 }).inc (F.KN_Pn_EVT_CNT p)
      else s)

/-- A field port's die takes the gate states and the hold state that the operational list gives for the current DT; the events that fell
due are counted, not replayed (R87, R467). -/
def State.gatesNow (s : State) (p : Nat) : State :=
  let r := s.knPort p
  let since : Option Int := if r.running then some (-(2 ^ 64)) else r.startAt
  let inForce (f : DWord → Bool) : Option DWord :=
    match since with
    | some b => (match (s.sched p).prevOf s.dt (fun i => f (s.operEntry p i)) with
        | some e => if b ≤ e.2 then some (s.operEntry p e.1) else none
        | none => none)
    | none => none
  let due := r.fdQ.countP (fun e => decide (e.1 ≤ (s.dt : Int)))
  let s1 := (s.setKnPort p { r with
    fdQ := r.fdQ.filter (fun e => decide ((s.dt : Int) < e.1)), fdStates := ((inForce (fun _ => true)).map leGates).getD r.fdStates,
    lastHold := max r.lastHold s.dt, lastRel := max r.lastRel s.dt }).add (F.KN_Pn_EVT_CNT p) due
  match inForce (fun e => leOp e == 1 || leOp e == 2) with
  | some e => if r.eff ∧ s.on (F.KN_Pn_CTRL_HR_EN p) then s1.setHold p (leOp e == 1) else s1
  | none => s1

/-- On relock every field port takes the gate states of the current DT (R87). -/
def State.flwGates (s : State) : State := (List.range 8).foldl (fun s n => s.gatesNow (n + 2)) s

/-- Does a marker reach the field die: the channel carries messages, and the die is supplied and in no reset (R469, R528, R529)? -/
def State.flwHears (s : State) : Bool := s.on F.FD_STATUS_ISO_UP && !s.fd.dead && !s.fd.inReset

/-- A marker is sent to the field die, with this follower error if it arrives. While locked, three errors beyond UNLOCK_NS in a row
unlock; an unlocked follower takes the marker's time in one step and locks (R52, R528). LOCK_NS has no effect, and TB_FLW_STAT.ERR is
written 0 at a lock: log entry 82, DESIGN CHOICE. -/
def execFollowerMarker (err : Int) (s : State) : Out :=
  if ¬ s.flwHears then .next s
  else
    let s0 := { s with tb := { s.tb with flwAt := s.tb.mono } }
    if s.on F.TB_FLW_STAT_LOCK then
      let s1 := s0.wr F.TB_FLW_STAT_ERR (ofSigned 16 err)
      if s.rd F.TB_FLW_CFG_UNLOCK_NS < err.natAbs then
        if s.tb.flwOver + 1 = 3 then .next s1.flwUnlock
        else .next { s1 with tb := { s1.tb with flwOver := s1.tb.flwOver + 1 } }
      else .next { s1 with tb := { s1.tb with flwOver := 0 } }
    else
      let s1 := (((s0.wr F.TB_FLW_STAT_ERR 0).wr F.TB_FLW_STAT_LOCK 1).condEnd Src.TB_FOLLOWER_UNLOCK 0xFF).flwGates
      .next { s1 with tb := { s1.tb with flwOver := 0, flwEver := true } }

/-- Gate states in force at a port's wire: a field port's are those of its field die (R87). -/
def State.wireGates (s : State) (p : Nat) : Nat :=
  if ¬ (s.knPort p).eff then 0xFF
  else if p < 2 then s.rd (F.KN_Pn_STATUS_CUR_STATES p) else (s.knPort p).fdStates

/-! Stream gates (R89 to R92). -/

def State.sg (s : State) (g : Nat) : Sg := Sparse.get Sg.empty s.kn.sgs g
def State.setSg (s : State) (g : Nat) (v : Sg) : State := { s with kn := { s.kn with sgs := Sparse.put Sg.empty s.kn.sgs g v } }
/-- Words of the administrative and operational descriptor (R90). -/
def State.sgA (s : State) (g n : Nat) : Nat := (Sparse.get 0 s.kn.sgAdmin (g * 4 + n)).toNat
def State.sgO (s : State) (g n : Nat) : Nat := (Sparse.get 0 s.kn.sgOper (g * 4 + n)).toNat

/-- BASE of both (R80, R90). -/
def State.sgBaseA (s : State) (g : Nat) : Int := baseOf (s.sg g).aNeg (s.sgA g 0)
def State.sgBaseO (s : State) (g : Nat) : Int := baseOf (s.sg g).oNeg (s.sgO g 0)

/-- The operational schedule of a stream gate (R91). -/
def State.sgSched (s : State) (g : Nat) : Sched where
  base := s.sgBaseO g
  cycle := bits (s.sgO g 1) 0 32
  ivs := (List.range (bits (s.sgO g 2) 16 13)).map (fun i => bits (Sparse.get 0 s.kn.pool (bits (s.sgO g 2) 0 16 + i)).toNat 0 32)
  minI := 8
  cct := if (s.sg g).pending then
      some ((s.sg g).cct, skippedCycle (s.sgBaseO g) (bits (s.sgO g 1) 0 32) (bits (s.sgO g 1) 32 32) (s.sg g).cct (s.sg g).cctAt)
    else none

/-- The first failing code of a stream gate's administrative descriptor (R79, R91). -/
def State.sgCode (s : State) (g : Nat) : Nat :=
  let n := bits (s.sgA g 2) 16 13
  let st := bits (s.sgA g 2) 0 16
  let cyc := bits (s.sgA g 1) 0 32
  if n = 0 ∨ 4096 < n then 1
  else if cyc < 8 then 2
  else if (List.range n).any (fun i => decide (st + i < 65536 ∧ bits (Sparse.get 0 s.kn.pool (st + i)).toNat 0 32 < 8)) then 3
  else if cyc ≤ bits (s.sgA g 1) 32 32 then 6
  else if 65536 < st + n then 7
  else 0

/-- KN_SG_STAT after a command. -/
def State.sgStat (s : State) (g code : Nat) : State := (s.wr F.KN_SG_STAT_GATE g).wr F.KN_SG_STAT_ERR code

/-- ENABLE starts a gate: a stored list begins at its first boundary after the lead of 2 µs (R78, R91). -/
def State.sgEnable (s : State) (g : Nat) : State :=
  let r := s.sg g
  let s1 := s.sgStat g 0
  if r.enabled then s1
  else s1.setSg g { r with
    enabled := true, running := false,
    startAt := if ¬ r.pending ∧ 0 < bits (s.sgO g 2) 16 13 then
      some (firstBoundary (s.sgBaseO g) (bits (s.sgO g 1) 0 32) ((s.dt : Int) + 2000)) else none }

/-- What is in force from DT `t` on joins a gate's record; entries that no frame in reception can need any more leave it (R92). -/
def State.sgPush (s : State) (g : Nat) (t : Int) (e : Option Nat) : State :=
  let r := s.sg g
  let young := r.hist.takeWhile (fun x => decide ((s.dt : Int) < x.1 + 10000000))
  s.setSg g { r with hist := (t, e) :: (young ++ (r.hist.drop young.length).take 1) }

/-- Entry `e` of a gate's operational list. -/
def State.sgEntry (s : State) (g e : Nat) : Nat := (Sparse.get 0 s.kn.pool (bits (s.sgO g 2) 0 16 + e)).toNat

/-- The entry of a running gate that has fallen due by DT `t` and that the sequencer has not applied yet: its DT and its index. -/
def State.sgDue (s : State) (g : Nat) (t : Int) : Option (Nat × Int) :=
  let r := s.sg g
  let from_ (b : Int) : Option (Nat × Int) :=
    match (s.sgSched g).prevOf t (fun _ => true) with
    | some e => if b ≤ e.2 then some e else none
    | none => none
  if ¬ r.enabled then none
  else match r.startAt with
    | some b => from_ b
    | none => if r.running then from_ (r.last + 1) else none

/-- What a gate has had up to DT `t` is put on record before its list changes or stops. -/
def State.sgSettle (s : State) (g : Nat) (t : Int) : State :=
  match s.sgDue g t with
  | some e => if s.on F.KN_CTRL_SG_EN then s.sgPush g e.2 (some (s.sgEntry g e.1)) else s
  | none => s

/-- DISABLE stops a gate: it is left at DEF_STATE (R91). -/
def State.sgDisable (s : State) (g : Nat) : State :=
  let s1 := ((s.sgSettle g s.dt).sgPush g s.dt none).sgStat g 0
  s1.setSg g { s1.sg g with enabled := false, running := false, startAt := none }

/-- KN_CTRL.SG_EN changes: from here on every gate takes DEF_STATE, or what its list gives (R92, R103). -/
def State.sgRun (s : State) (was : Bool) : State :=
  let now := s.on F.KN_CTRL_SG_EN
  if was = now then s
  else s.kn.sgs.foldl (fun s x =>
    let g := x.1
    let r := s.sg g
    if now then
      (match (s.sgSched g).prevOf s.dt (fun _ => true) with
        | some e => if r.enabled ∧ r.running ∧ e.2 ≤ r.last then s.sgPush g s.dt (some (s.sgEntry g e.1)) else s
        | none => s)
    else
      let s1 := match s.sgDue g s.dt with | some e => s.sgPush g e.2 (some (s.sgEntry g e.1)) | none => s
      s1.sgPush g s.dt none) s

/-- CFG_CHANGE of a stream gate (R79, R91). Code 7 raises KN_CFG_ERR as codes 1 to 6 do: log entry 83, DESIGN CHOICE. -/
def State.sgChange (s : State) (g : Nat) : State :=
  let r := s.sg g
  if r.pending then
    (((s.sgStat g 8).wr F.KN_SG_STAT_ERR_SEEN 1).inc F.KN_SG_REJ).raise0 Src.KN_ADMIN_LOCKED g
  else
    let c := s.sgCode g
    if c ≠ 0 then ((s.sgStat g c).wr F.KN_SG_STAT_ERR_SEEN 1).raise0 Src.KN_CFG_ERR c
    else
      (s.sgStat g 0).setSg g { r with
        pending := true, cctAt := s.dt, startAt := none,
        cct := cctFor (s.sgBaseA g) (bits (s.sgA g 1) 0 32) ((s.dt : Int) + 2000) }

/-- ABORT of a stream gate's pending change (R84, R91). -/
def State.sgAbort (s : State) (g : Nat) : State :=
  let r := s.sg g
  if r.pending ∧ (s.dt : Int) < r.cct - 1000 then
    (s.sgStat g 0).setSg g { r with
      pending := false,
      startAt := if r.enabled ∧ ¬ r.running ∧ 0 < bits (s.sgO g 2) 16 13 then
        some (firstBoundary (s.sgBaseO g) (bits (s.sgO g 1) 0 32) ((s.dt : Int) + 2000)) else r.startAt }
  else (s.sgStat g 0).inc F.KN_SG_REJ

/-- KN_SG_CMD ENABLE (R91). -/
def execSgEnable (m : Nat) (g : BitVec 10) (s : State) : Out := .next (s.busW m 0x60100 (fun s => s.sgEnable g.toNat))
/-- KN_SG_CMD DISABLE (R91). -/
def execSgDisable (m : Nat) (g : BitVec 10) (s : State) : Out := .next (s.busW m 0x60100 (fun s => s.sgDisable g.toNat))
/-- KN_SG_CMD CFG_CHANGE (R91). -/
def execSgCfgChange (m : Nat) (g : BitVec 10) (s : State) : Out := .next (s.busW m 0x60100 (fun s => s.sgChange g.toNat))
/-- KN_SG_CMD ABORT (R91). -/
def execSgAbort (m : Nat) (g : BitVec 10) (s : State) : Out := .next (s.busW m 0x60100 (fun s => s.sgAbort g.toNat))

/-- At a stream gate's CCT its operational descriptor takes the administrative values (R91); entry 0 of an enabled gate is an event of
the sequencer like any other (R92). -/
def execSgCct (g : BitVec 10) (s : State) : Out :=
  let g := g.toNat
  let r := s.sg g
  .next (if r.pending ∧ r.cct ≤ (s.dt : Int) then
    let s0 := s.sgSettle g (r.cct - 1)
    let o := [0, 1, 2].foldl (fun t n => Sparse.put 0 t (g * 4 + n) (Sparse.get 0 s.kn.sgAdmin (g * 4 + n))) s.kn.sgOper
    let s1 := { s0 with kn := { s0.kn with sgOper := o } }
    s1.setSg g { s1.sg g with
      pending := false, running := false, startAt := if r.enabled then some r.cct else none, oNeg := r.aNeg }
  else s)

/-- The stream-gate sequencer applies a gate's next event; at most one event every 4 ns over all gates, and one that comes
after its DT is late (R92). Events that fell while SG_EN was 0 are applied, late, when it is 1 again: log entry 83, DESIGN CHOICE. -/
def execStreamGateEvent (g : BitVec 10) (s : State) : Out :=
  let g := g.toNat
  let r := s.sg g
  let free : Bool := match s.kn.sgAt with | some t => decide (t + 4 ≤ s.tb.mono) | none => true
  let apply (k : Int) (i : Nat) (t : Int) : State :=
    let s0 := s.sgPush g t (some (s.sgEntry g i))
    let s1 := s0.setSg g { s0.sg g with running := true, startAt := none, k := k, ent := i, last := t, octets := 0 }
    let s2 := { s1 with kn := { s1.kn with sgAt := some s.tb.mono } }
    if t + 2 < (s.dt : Int) then (s2.inc F.KN_SG_LATE).raise0 Src.KN_SG_LATE g else s2
  .next (if ¬ (s.on F.KN_CTRL_SG_EN ∧ r.enabled ∧ free) then s
    else match r.startAt with
    | some b => if b ≤ (s.dt : Int) then apply ((s.sgSched g).cycleAt b) 0 b else s
    | none =>
      if r.running then
        match (s.sgSched g).next r.last with
        | some (k, i, t) => if t ≤ (s.dt : Int) then apply k i t else s
        | none => s
      else s)

/-- What was in force on a gate at DT `t` (R92): state, IPV if valid, octet limit in octets, 0 for none. An event that the sequencer has
not applied yet counts from its DT; before its first list and while disabled a gate has DEF_STATE. -/
def State.sgView (s : State) (g : Nat) (t : Int) : Bool × Option Nat × Nat :=
  let word (w : Nat) : Bool × Option Nat × Nat :=
    (bits w 32 1 == 1, if bits w 36 1 = 1 then some (bits w 33 3) else none, bits w 40 16 * 64)
  let dflt : Bool × Option Nat × Nat :=
    let w := if bits (s.sgO g 2) 16 13 = 0 then s.sgA g 2 else s.sgO g 2
    (bits w 32 1 == 1, if bits w 36 1 = 1 then some (bits w 33 3) else none, 0)
  match (if s.on F.KN_CTRL_SG_EN then s.sgDue g t else none) with
  | some e => word (s.sgEntry g e.1)
  | none => (match (s.sg g).hist.find? (fun x => decide (x.1 ≤ t)) with
      | some (_, some w) => word w
      | _ => dflt)

/-! KILN's memory window (R91, R104). -/

/-- Does a pool entry lie in the range of an operational descriptor (R91)? -/
def State.poolUsed (s : State) (a : Nat) : Bool :=
  (List.range 1024).any (fun g =>
    let w := s.sgO g 2
    decide (bits w 0 16 ≤ a ∧ a < bits w 0 16 + bits w 16 13))

/-- The bits of an administrative descriptor's word that are not reserved (R13, R90). -/
def sgMask (n : Nat) : DWord := if n < 2 then 0xFFFFFFFFFFFFFFFF else if n = 2 then 0x0000001F1FFFFFFF else 0

/-- The window write that KN_MDATA_HI completes; reserved bits stay 0 (R13). -/
def State.knStore (s : State) (w : Nat) : State :=
  let a := s.rd F.KN_MADDR
  let v : DWord := BitVec.ofNat 64 w
  match s.rd F.KN_MSEL with
  | 0 =>
    if 10 ≤ a / 4096 ∨ listMax (a / 4096) ≤ a % 4096 then s.wr F.KN_STATUS_WIN_REJ 1
    else if s.adminLocked (a / 4096) then s.adminRej (a / 4096)
    else { s with kn := { s.kn with admin := Sparse.put 0 s.kn.admin a (BitVec.ofNat 64 (w % 2 ^ 43)) } }
  | 2 =>
    if s.poolUsed a then s.inc F.KN_SG_REJ
    else { s with kn := { s.kn with pool := Sparse.put 0 s.kn.pool a (v &&& 0x00FFFF1FFFFFFFFF) } }
  | 3 =>
    if 4096 ≤ a then s.wr F.KN_STATUS_WIN_REJ 1
    else
      let s1 := { s with kn := { s.kn with sgAdmin := Sparse.put 0 s.kn.sgAdmin a (v &&& sgMask (a % 4)) } }
      if a % 4 = 0 then s1.setSg (a / 4) { s1.sg (a / 4) with aNeg := false } else s1
  | _ => s.wr F.KN_STATUS_WIN_REJ 1

/-- The four words of a timed-action entry (R93). -/
def Ta.word (t : Ta) : Nat → Nat
  | 0 => t.dt
  | 1 => t.addr % 2 ^ 32 + t.value % 2 ^ 32 * 2 ^ 32
  | 2 => t.mask % 2 ^ 32 + t.period % 2 ^ 32 * 2 ^ 32
  | _ => t.rep % 2 ^ 16 + (t.kind % 4 + t.lateDiscard.toNat * 8) * 2 ^ 16 + (t.pad % 4 + t.level.toNat * 4) * 2 ^ 24
      + t.owner % 64 * 2 ^ 32 + (1 + t.refused.toNat * 4 + t.late.toNat * 8) * 2 ^ 40 + t.tag % 2 ^ 16 * 2 ^ 48

/-- A word of a KILN window space (R104). -/
def State.knWord (s : State) : Nat :=
  let a := s.rd F.KN_MADDR
  match s.rd F.KN_MSEL with
  | 0 => if 10 ≤ a / 4096 ∨ listMax (a / 4096) ≤ a % 4096 then 0 else (Sparse.get 0 s.kn.admin a).toNat
  | 1 => if 10 ≤ a / 4096 ∨ listMax (a / 4096) ≤ a % 4096 then 0 else (Sparse.get 0 s.kn.oper a).toNat
  | 2 => (Sparse.get 0 s.kn.pool a).toNat
  | 3 => if 4096 ≤ a then 0 else (Sparse.get 0 s.kn.sgAdmin a).toNat
  | 4 =>
    if 4096 ≤ a then 0
    else if a % 4 = 3 then
      let r := s.sg (a / 4)
      (r.k % (2 ^ 32 : Nat)).toNat + r.ent % 2 ^ 13 * 2 ^ 32 + r.pending.toNat * 2 ^ 48 + r.enabled.toNat * 2 ^ 49
    else (Sparse.get 0 s.kn.sgOper a).toNat
  | 5 => if 16384 ≤ a then 0 else (match Sparse.get none s.kn.tas (a / 4) with | some t => t.word (a % 4) | none => 0)
  | _ => 0

/-- The effect of a write of KN_MDATA_HI (R104). -/
def State.knMdata (s : State) (m hi : Nat) : State := s.winWrite m 0x60018 hi F.KN_MADDR State.knStore

/-- A write of KN_MDATA_HI (R104). -/
def execKnMdataWrite (m : Nat) (hi : Word) (s : State) : Out :=
  .next (s.busW m 0x6001C (fun s => s.knMdata m hi.toNat))

/-! The timed-action table (R93, R94, R99, R100). -/

def State.ta (s : State) (i : Nat) : Option Ta := Sparse.get none s.kn.tas i
def State.setTa (s : State) (i : Nat) (v : Option Ta) : State := { s with kn := { s.kn with tas := Sparse.put none s.kn.tas i v } }

/-- The lowest free entry of the table. -/
def State.taFree (s : State) : Option Nat :=
  let i := lowestFree 0 (s.kn.tas.map (·.1))
  if i < 4096 then some i else none

/-- Why a submission is refused (R94). -/
inductive TaRefusal where
  | bad | full
deriving DecidableEq, Repr

/-- A timed action is armed, or refused with no entry taken (R94). -/
def State.taSubmit (s : State) (t : Ta) : State × Except TaRefusal Nat :=
  if t.kind = 0 ∨ (t.kind = 1 ∧ t.addr % 4 ≠ 0) ∨ (0 < t.period ∧ t.period < 1000) then (s, .error .bad)
  else match s.taFree with
    | none => (s.raise0 Src.KN_TA_FULL 0, .error .full)
    | some i =>
      let s1 := (s.setTa i (some { t with seq := s.kn.taSeq, passed := decide (t.dt < s.dt) })).wr F.KN_STATUS_TA_FREE (s.rd F.KN_STATUS_TA_FREE - 1)
      ({ s1 with kn := { s1.kn with taSeq := s1.kn.taSeq + 1 } }, .ok i)

/-- Free an entry; a queue-submitted one posts its TA_DONE completion (R100, R305). -/
def State.taFreeEntry (s : State) (i : Nat) (status : Nat) : State :=
  match s.ta i with
  | none => s
  | some t =>
    let s1 := (s.setTa i none).wr F.KN_STATUS_TA_FREE (s.rd F.KN_STATUS_TA_FREE + 1)
    match t.queue with
    | some q => s1.postTaDone q.1 q.2 t.tag i status t.late
    | none => s1

/-- The entry that a master has staged (R93, R94). -/
def State.taStaged (s : State) (m : Nat) : Ta where
  dt := s.rd64 (F.KN_TA_DT_LO m) (F.KN_TA_DT_HI m)
  addr := s.rd (F.KN_TA_ADDR m)
  value := s.rd (F.KN_TA_VALUE m)
  mask := s.rd (F.KN_TA_MASK m)
  period := s.rd (F.KN_TA_PERIOD m)
  rep := s.rd (F.KN_TA_CTRL_REPEAT m)
  lateDiscard := s.on (F.KN_TA_CTRL_LATE_DISCARD m)
  kind := s.rd (F.KN_TA_CTRL_KIND m)
  pad := s.rd (F.KN_TA_CTRL_TOUT_PAD m)
  level := s.on (F.KN_TA_CTRL_TOUT_LEVEL m)
  owner := m
  late := false
  refused := false
  tag := s.rd (F.KN_TA_TAG m)
  queue := none
  seq := 0
  due := false
  passed := false

/-- KN_TA_CMD.SUBMIT (R94). -/
def State.taSubmitReg (s : State) (m : Nat) : State :=
  match s.taSubmit (s.taStaged m) with
  | (s1, .ok i) => ((s1.wr (F.KN_TA_RESULT_FULL m) 0).wr (F.KN_TA_RESULT_BAD m) 0).wr (F.KN_TA_RESULT_INDEX m) i
  | (s1, .error .bad) => (s1.wr (F.KN_TA_RESULT_FULL m) 0).wr (F.KN_TA_RESULT_BAD m) 1
  | (s1, .error .full) => (s1.wr (F.KN_TA_RESULT_FULL m) 1).wr (F.KN_TA_RESULT_BAD m) 0

/-- KN_TA_CMD.CANCEL (R100). -/
def State.taCancelReg (s : State) (m i : Nat) : State :=
  match s.ta i with
  | none => s.wr (F.KN_TA_RESULT_NOTFOUND m) 1
  | some t =>
    if t.owner = m ∨ m = 0 then (s.taFreeEntry i stCancelled).wr (F.KN_TA_RESULT_NOTFOUND m) 0
    else s.wr (F.KN_TA_RESULT_NOTFOUND m) 1

/-- KN_TA_CMD.SUBMIT (R94). -/
def execTaSubmit (m : Nat) (s : State) : Out := .next (s.busW m 0x60060 (fun s => s.taSubmitReg m))

/-- KN_TA_CMD.CANCEL (R100). -/
def execTaCancel (m : Nat) (i : BitVec 12) (s : State) : Out := .next (s.busW m 0x60060 (fun s => s.taCancelReg m i.toNat))

end Sys2Proof.Machine
end

