-- ==== Sys2Proof/Machine/Gyle.lean ====
section
/-!
DEFINITION. GYLE: points, tiers, writes, extraction maps, the BAR4 window, subscriptions and the age sweep (R131 to
R168), with PITCH's heat (R365), the assembly horizon's queue and view (R185 to R188) and the hand-off of mirrored writes
to the twin agent (R144, R276, R278).
Where the manual leaves a point open, the choices are log entries 26, 32 (DESIGN CHOICE); 31, 33, 34, 45, 69, 80 (DEDUCED).
-/

namespace Sys2Proof.Machine

/-- The record of a point; none while it is undefined (R131). -/
def State.point (s : State) (p : Nat) : Option Point := Sparse.get none s.gy.points p

/-- Set or clear a record. -/
def State.setPoint (s : State) (p : Nat) (v : Option Point) : State :=
  { s with gy := { s.gy with points := Sparse.put none s.gy.points p v } }

/-- The record that DEFINE makes (R131). -/
def Point.fresh (maxage pin : Nat) (force mirror : Bool) : Point :=
  ⟨0, 0, 0, 0xC0, false, pin, force, mirror, false, maxage, 0, none⟩

/-- A maximum age in ns; none for count 0 and unit 3 (R135). -/
def maxAgeNs (c : Nat) : Option Nat :=
  if c % 2 ^ 14 = 0 then none
  else match c / 2 ^ 14 % 4 with
    | 0 => some (c % 2 ^ 14 * 1000)
    | 1 => some (c % 2 ^ 14 * 1000000)
    | 2 => some (c % 2 ^ 14 * 1000000000)
    | _ => none

/-- Age of a record at DT `t` in ns (R156). -/
def Point.age (p : Point) (t : Nat) : Nat := t - p.upd.toNat

/-- Staleness at DT `t` (R156). -/
def Point.stale (p : Point) (t : Nat) : Bool :=
  !p.written || (match maxAgeNs p.maxage with | some m => decide (m < p.age t) | none => false)

/-- The FLAGS byte (R136). -/
def Point.flags (p : Point) : Nat :=
  p.hot.toNat * 128 + p.pin % 4 * 32 + p.force.toNat * 16 + p.mirror.toNat * 8 + p.sub.isSome.toNat * 4 + p.written.toNat * 2 + 1

/-- Bytes 0 to 22 of a record (R132). -/
def Point.head (p : Point) : List Byte :=
  leBytes 8 p.value.toNat ++ leBytes 8 p.upd.toNat ++ leBytes 2 p.src ++ leBytes 1 p.qual ++ leBytes 1 p.flags
    ++ leBytes 2 p.maxage ++ leBytes 1 p.epoch

/-- The 32 bytes of a record (R132). -/
def Point.bytes (p : Point) : List Byte := p.head ++ leBytes 1 0 ++ leBytes 4 (p.sub.getD 0) ++ leBytes 4 0

/-- The copy that a point-read job delivers at DT `t` (R155). -/
def readCopy (p : Option Point) (t : Nat) : List Byte :=
  match p with
  | none => leBytes 16 0 ++ leBytes 2 0 ++ [0xC0] ++ leBytes 4 0 ++ [0x04] ++ leBytes 8 0
  | some p => p.head ++ leBytes 1 ((p.stale t).toNat + (decide (t < p.upd.toNat)).toNat * 2) ++ leBytes 4 (p.sub.getD 0)
      ++ leBytes 4 (min (p.age t / 1000) 0xFFFFFFFF)

/-- Fields that follow the store: defined points, hot pins (R137, R167). -/
def State.gyCounts (s : State) (old new : Option Point) : State :=
  let d (o : Option Point) : Nat := o.isSome.toNat
  let h (o : Option Point) : Nat := match o with | some p => (decide (p.pin = 1)).toNat | none => 0
  let u (o : Option Point) : Nat := match o with | some p => p.hot.toNat | none => 0
  ((s.wr F.GY_DEFINED_DEFINED (s.rd F.GY_DEFINED_DEFINED + d new - d old)).wr F.GY_PINNED_PINNED
    (s.rd F.GY_PINNED_PINNED + h new - h old)).wr F.GY_STATUS_HOT_USED (s.rd F.GY_STATUS_HOT_USED + u new - u old)

/-- Replace a record and keep the counts. -/
def State.putPoint (s : State) (p : Nat) (v : Option Point) : State := (s.gyCounts (s.point p) v).setPoint p v

/-! PITCH's heat (R365). -/

/-- The listed key of least value, lowest key first. -/
def coldest : List (Nat × Nat) → Option (Nat × Nat)
  | [] => none
  | x :: t => match coldest t with | some y => if y.2 < x.2 then some y else some x | none => some x

/-- The listed key of greatest value, lowest key first. -/
def hottest : List (Nat × Nat) → Option (Nat × Nat)
  | [] => none
  | x :: t => match hottest t with | some y => if x.2 < y.2 then some y else some x | none => some x

/-- An access of weight `w` to point `p` (R365). -/
def State.heat (s : State) (p w : Nat) : State :=
  match s.point p with
  | none => s
  | some r =>
    if w = 0 ∨ s.on F.PT_STATUS_WIPING then s
    else if r.hot then
      { s with pt := { s.pt with heatHot := Sparse.put 0 s.pt.heatHot p (min 65535 (Sparse.get 0 s.pt.heatHot p + w)) } }
    else
      let old := Sparse.get 0 s.pt.heatCand p
      let add (l : List (Nat × Nat)) : State := { s with pt := { s.pt with heatCand := Sparse.put 0 l p (min 65535 (old + w)) } }
      if old ≠ 0 ∨ s.pt.heatCand.length < 32768 then add s.pt.heatCand
      else match coldest s.pt.heatCand with
        | some c => if c.2 < w then add (Sparse.del c.1 s.pt.heatCand) else s
        | none => s

/-! Tier moves (R137, R139, R179, R365). -/

/-- Is a pending launch still to read this point as hot (R179)? -/
def State.classedHot (s : State) (p : Nat) : Bool := s.ms.launches.any (fun l => l.hotWait.contains p)

/-- The tier a point will be in when every requested move has completed. -/
def State.plannedHot (s : State) (p : Nat) : Bool :=
  let l := (s.gy.moves ++ s.gy.moveReq).filter (fun m => m.point == p)
  match l.getLast? with
  | some m => m.toHot
  | none => match s.point p with | some r => r.hot | none => false

/-- Hot records once every requested move has completed. -/
def State.plannedUsed (s : State) : Nat :=
  let l := s.gy.moves ++ s.gy.moveReq
  s.rd F.GY_STATUS_HOT_USED + l.countP (fun m => m.toHot) - l.countP (fun m => !m.toHot)

/-- PITCH exchanges the points of a hot record: `h` leaves it before `c` moves in; the two decisions of one cycle are traced in
ascending KIND (R365, R370). -/
def State.requestSwap (s : State) (h c reason : Nat) : State :=
  let s1 := (((s.inc F.PT_PROMOTE).inc F.PT_DEMOTE).traceDecision 2 reason 0xFFFF c).traceDecision 3 reason 0xFFFF h
  { s1 with gy := { s1.gy with moveReq := s1.gy.moveReq ++ [⟨h, false, false, []⟩, ⟨c, true, false, []⟩] } }

/-- PITCH requests a move; REASON 0 heat, 1 PIN (R365, R370). -/
def State.requestMove (s : State) (p : Nat) (toHot : Bool) (reason : Nat) : State :=
  let s1 := (s.inc (if toHot then F.PT_PROMOTE else F.PT_DEMOTE)).traceDecision (if toHot then 2 else 3) reason 0xFFFF p
  { s1 with gy := { s1.gy with moveReq := s1.gy.moveReq ++ [⟨p, toHot, false, []⟩] } }

/-- Does the PIN of a move's point bar it (R137)? -/
def State.pinBars (s : State) (m : Move) : Bool :=
  match s.point m.point with | some r => decide (r.pin = if m.toHot then 2 else 1) | none => false

/-- May a requested move begin now, after its point's earlier ones? -/
def State.canMove (s : State) (m : Move) : Bool :=
  !s.gy.moves.any (fun x => x.point == m.point) && !s.gy.moveReq.any (fun x => x.point == m.point)
    && (if m.toHot then decide (s.rd F.GY_STATUS_HOT_USED + s.gy.moves.countP (fun x => x.toHot) < 131072)
        else !s.classedHot m.point)

/-- Try to begin a requested move; one that PIN bars is dropped (R137), a demotion that a pending launch delays is counted once (R179). -/
def State.tryMove (s : State) (m : Move) : State :=
  if s.pinBars m then s
  else if s.canMove m then { s with gy := { s.gy with moves := s.gy.moves ++ [m] } }
  else if !m.toHot && s.classedHot m.point && !m.counted then
    let s1 := s.inc F.MS_MOVE_WAIT
    { s1 with gy := { s1.gy with moveReq := s1.gy.moveReq ++ [{ m with counted := true }] } }
  else { s with gy := { s.gy with moveReq := s.gy.moveReq ++ [m] } }

/-- Begin every requested move that may begin. -/
def State.tryMoves (s : State) : State :=
  s.gy.moveReq.foldl State.tryMove { s with gy := { s.gy with moveReq := [] } }

/-- The coldest hot point whose PIN is not hot and that is not already leaving (R365). -/
def State.coldestHot (s : State) : Option (Nat × Nat) :=
  coldest (s.gy.points.filterMap (fun x => match x.2 with
    | some r => if r.hot && r.pin != 1 && s.plannedHot x.1 then some (x.1, Sparse.get 0 s.pt.heatHot x.1) else none
    | none => none))

/-- What a new PIN of point `p` asks for at once (R365); a requested move that it bars is withdrawn (R137). -/
def State.pinMoves (s0 : State) (p pin : Nat) : State :=
  let s := { s0 with gy := { s0.gy with moveReq := s0.gy.moveReq.filter (fun m => !(m.point == p && s0.pinBars m)) } }
  if pin = 1 ∧ ¬ s.plannedHot p then
    (match s.coldestHot with
      | some c => if 131072 ≤ s.plannedUsed then s.requestSwap c.1 p 1 else s.requestMove p true 1
      | none => s.requestMove p true 1).tryMoves
  else if pin = 2 ∧ s.plannedHot p then (s.requestMove p false 1).tryMoves
  else s

/-! Defining and configuring points (R131, R137, R154). -/

/-- Would this PIN take the hot pins beyond the hot tier (R137)? -/
def State.pinFull (s : State) (old pin : Nat) : Bool :=
  decide (pin = 1 ∧ old ≠ 1 ∧ 131072 ≤ s.rd F.GY_PINNED_PINNED)

/-- DEFINE (R131, R137): the code of GY_PCFG_RESULT. -/
def State.definePoint (s : State) (p maxage pin : Nat) (force mirror : Bool) : State × Nat :=
  if s.on F.GY_STATUS_WIPING then (s, 5)
  else match s.point p with
    | some _ => (s, 2)
    | none =>
      if s.pinFull 0 pin then (s, 3)
      else ((s.putPoint p (some (Point.fresh (maxage % 65536) pin force mirror))).pinMoves p pin, 0)

/-- SET (R137); `force` none keeps FORCE, as mode CONFIG of a job does (R154). -/
def State.setPointCfg (s : State) (p maxage pin : Nat) (force : Option Bool) (mirror : Bool) : State × Nat :=
  if s.on F.GY_STATUS_WIPING then (s, 5)
  else match s.point p with
    | none => (s, 1)
    | some r =>
      if s.pinFull r.pin pin then (s, 3)
      else
        let r1 := { r with maxage := maxage % 65536, pin := pin, force := force.getD r.force, mirror := mirror }
        ((s.putPoint p (some r1)).pinMoves p pin, 0)

/-- UNDEFINE (R131, R157). -/
def State.undefinePoint (s : State) (p : Nat) : State × Nat :=
  if s.on F.GY_STATUS_WIPING then (s, 5)
  else match s.point p with
    | none => (s, 1)
    | some r =>
      if r.sub.isSome then (s, 4)
      else
        let s1 := s.putPoint p none
        ({ s1 with
            pt := { s1.pt with heatHot := Sparse.del p s1.pt.heatHot, heatCand := Sparse.del p s1.pt.heatCand },
            gy := { s1.gy with moveReq := s1.gy.moveReq.filter (fun m => m.point != p) } }, 0)

/-! The assembly horizon (R185 to R188). -/

/-- Keys order by T_o, then O, then n (R185). -/
def Key.lt (a b : Key) : Bool :=
  decide (a.t < b.t) || (decide (a.t = b.t) && (decide (a.o < b.o) || (decide (a.o = b.o) && decide (a.n < b.n))))

/-- H in ns (R192). -/
def State.hznH (s : State) : Nat := max 2000 (min 20000 (s.rd F.MS_HZN_H_NS))

/-- Put a write into the view; it replaces the entry only if its key is greater (R186). -/
def State.viewPut (s : State) (w : HzWrite) : State :=
  match Sparse.get none s.hz.view w.point with
  | some e => if e.1.lt w.key then { s with hz := { s.hz with view := Sparse.put none s.hz.view w.point (some (w.key, w.val)) } } else s
  | none => { s with hz := { s.hz with view := Sparse.put none s.hz.view w.point (some (w.key, w.val)) } }

/-- Insert in key order. -/
def hzInsert (w : HzWrite) : List HzWrite → List HzWrite
  | [] => [w]
  | x :: t => if w.key.lt x.key then w :: x :: t else x :: hzInsert w t

/-- Publish the queue's level. -/
def State.hzLevel (s : State) : State := s.wr F.MS_STATUS_HZN_LEVEL s.hz.queue.length

/-- Move the lowest-keyed queued write into the view (R186, R187). -/
def State.hzPop (s : State) : State :=
  match s.hz.queue with
  | [] => s
  | w :: t => (({ s with hz := { s.hz with queue := t } }).viewPut w).hzLevel

/-- Every queued write moves into the view in key order: a step or a re-epoch (R188). -/
def State.hzDrain (s : State) : State :=
  (s.hz.queue.foldl State.viewPut { s with hz := { s.hz with queue := [] } }).hzLevel

/-- A write enters the queue; a full queue moves its lowest entry into the view first (R187). -/
def State.hzEnter (s : State) (w : HzWrite) : State :=
  let s1 := if 4096 ≤ s.hz.queue.length then (s.hzPop.inc F.MS_HZN_OVF).raise0 Src.MS_HZN_OVF 0 else s
  ({ s1 with hz := { s1.hz with queue := hzInsert w s1.hz.queue } }).hzLevel

/-- A mirrored write that arrives after T_o + H − A_dram while the horizon runs (R187). -/
def State.hzLate (s : State) (k : Key) : State :=
  if s.on F.MS_CTRL_HZN_EN ∧ k.t + s.hznH < s.dt + 1500 then (s.inc F.MS_HZN_LATE).raise0 Src.MS_HZN_LATE 0 else s

/-! Handing mirrored writes to the twin agent (R144, R276, R278). -/

/-- Insert in ascending order, once. -/
def insertAsc (a : Nat) : List Nat → List Nat
  | [] => [a]
  | x :: t => if a < x then a :: x :: t else if a = x then x :: t else x :: insertAsc a t

/-- A record that cannot be sent sets its point's dirty bit (R278). -/
def State.mirDirty (s : State) (p : Nat) : State :=
  let s1 := (s.inc F.TW_MIR_DROP).wr F.TW_STATUS_MIR_DEGRADED 1
  let s2 := if s1.tw.lossRaised then s1 else s1.raise0 Src.TW_MIR_LOSS 0
  { s2 with tw := { s2.tw with lossRaised := true, dirty := insertAsc p s2.tw.dirty } }

/-- A record towards the peer: buffered for the next MIRROR frame, or dirty while the link is down or the buffer full. -/
def State.mirSend (s : State) (r : MirRec) : State :=
  if s.on F.TW_CTRL_EN && s.on F.TW_CTRL_MIR_EN then
    if s.on F.TW_STATUS_DOLNOS_UP && decide (s.tw.mirBuf.length < 4096) then
      { s with tw := { s.tw with mirBuf := s.tw.mirBuf ++ [r], batchAt := if s.tw.mirBuf.isEmpty then s.tb.mono else s.tw.batchAt } }
    else s.mirDirty r.point
  else s

/-- The mirror record of a point's present record (R276). -/
def mirRecOf (p : Nat) (r : Point) (key : Key) (mode : Nat) : MirRec :=
  ⟨p, mode, key, r.value, r.upd, r.qual, r.epoch, r.src, if mode = 5 then r.maxage else 0,
    if mode = 5 then r.pin % 4 * 32 + r.force.toNat * 16 + r.mirror.toNat * 8 else 0⟩

/-! Subscriptions (R157 to R160). -/

/-- The subscription of an index. -/
def State.sub (s : State) (i : Nat) : Option Sub := Sparse.get none s.gy.subs i
/-- Set or free a subscription. -/
def State.setSub (s : State) (i : Nat) (v : Option Sub) : State :=
  { s with gy := { s.gy with subs := Sparse.put none s.gy.subs i v } }

/-- A binary float of `ew` exponent and `mw` fraction bits as a multiple of its smallest step; none for an infinity or a
NaN. -/
def floatVal (ew mw x : Nat) : Option Int :=
  let e := bits x mw ew
  let m := if e = 0 then bits x 0 mw else bits x 0 mw + 2 ^ mw
  if e = 2 ^ ew - 1 then none
  else
    let v : Int := (m * 2 ^ (max e 1 - 1) : Nat)
    some (if bits x (ew + mw) 1 = 1 then -v else v)

/-- Is a float a NaN? -/
def floatNan (ew mw x : Nat) : Bool := decide (bits x mw ew = 2 ^ ew - 1 ∧ bits x 0 mw ≠ 0)

/-- The deadband test on floats: a NaN on either side counts as a change when the patterns differ (R158); the difference
is taken exactly. -/
def floatChanged (ew mw v l d : Nat) : Bool :=
  if floatNan ew mw v || floatNan ew mw l || floatNan ew mw d then decide (v ≠ l)
  else match floatVal ew mw d with
    | none => if bits d (ew + mw) 1 = 1 then decide (v ≠ l)
              else decide (v ≠ l) && ((floatVal ew mw v).isNone || (floatVal ew mw l).isNone)
    | some dv =>
      if dv ≤ 0 then decide (v ≠ l)
      else match floatVal ew mw v, floatVal ew mw l with
        | some a, some b => decide (dv ≤ ((a - b).natAbs : Int))
        | _, _ => decide (v ≠ l)

/-- TRIGGER 1 (R158): TYPE 0 unsigned, 1 signed, 2 binary64, 3 binary32. -/
def subChanged (type : Nat) (v l d : DWord) : Bool :=
  if d = 0 then decide (v ≠ l)
  else match type with
    | 0 => decide (d.toNat ≤ ((v.toNat : Int) - l.toNat).natAbs)
    | 1 => if d.toInt ≤ 0 then decide (v ≠ l) else decide (d.toInt ≤ ((v.toInt - l.toInt).natAbs : Int))
    | 2 => floatChanged 11 52 v.toNat l.toNat d.toNat
    | _ => floatChanged 8 23 (v.toNat % 2 ^ 32) (l.toNat % 2 ^ 32) (d.toNat % 2 ^ 32)

/-- A notification sets out for its ring (R158). -/
def State.note (s : State) (i : Nat) (b : Sub) (p : Point) (reason : Nat) : State :=
  { s with gy := { s.gy with notes := s.gy.notes ++ [⟨i, p.value, p.upd, b.point, p.qual, reason, p.src, p.epoch⟩] } }

/-- Evaluate one subscription for a landed write (R158). -/
def State.evalSub (s : State) (i : Nat) (b : Sub) (p : Point) : State :=
  let trig := b.mode % 4
  let v := if trig = 1 then !b.lastValid || subChanged (bits b.mode 2 2) p.value b.last b.deadband else decide (trig ≠ 2)
  let q := (decide (trig = 2) || bits b.mode 4 1 == 1) && decide (p.qual / 64 ≠ b.qual)
  let f := b.staleSent && !p.stale s.dt
  let s1 := if f then s.setSub i (some { b with staleSent := false }) else s
  if v || q || f then s1.note i b p (v.toNat + q.toNat * 2 + f.toNat * 8) else s1

/-- Evaluate a point's list, newest first; a point has at most 64 subscriptions (R157, R158). -/
def State.evalSubs (s : State) (p : Point) : Nat → Option Nat → State
  | 0, _ => s
  | _, none => s
  | n + 1, some i =>
    match s.sub i with
    | none => s
    | some b => (s.evalSub i b p).evalSubs p n b.next

/-- The 32 bytes of a notification (R159). -/
def Note.bytes (n : Note) (gap : Nat) (phase : Bool) : List Byte :=
  leBytes 8 n.value.toNat ++ leBytes 8 n.upd.toNat ++ leBytes 4 n.point ++ leBytes 1 n.qual
    ++ leBytes 1 (n.reason + if gap = 0 then 0 else 0x20) ++ leBytes 2 (min gap 65535) ++ leBytes 4 n.sub
    ++ leBytes 2 n.src ++ leBytes 1 n.epoch ++ leBytes 1 (phase.toNat * 128 + 0x20)

/-- Post a notification in its ring, or fold it (R160). -/
def State.postNote (s : State) (n : Note) : State :=
  match s.sub n.sub with
  | none => s
  | some b =>
    let c := b.ring
    if s.cqRoom c then
      let gap := s.rd (F.QE_CQ_INFO_q_GAP c)
      let s1 := ((s.wr (F.QE_CQ_INFO_q_GAP c) 0).cqWrite c (n.bytes gap (s.cq c).phase)).inc F.GY_NOTIFY
      (s1.setSub n.sub (some { b with last := n.value, lastValid := true, qual := n.qual / 64 })).cqEvent c
    else
      (((s.inc (F.QE_CQ_INFO_q_GAP c)).inc F.GY_NOTIFY_GAP).raise0 Src.GY_NOTIFY_GAP c).cqEvent c

/-- The subscriptions of a point: its list from the head. -/
def State.subList (s : State) : Nat → Option Nat → List Nat
  | 0, _ => []
  | _, none => []
  | n + 1, some i => i :: (match s.sub i with | some b => s.subList n b.next | none => [])

/-- The lowest free subscription entry. -/
def State.freeSub (s : State) : Nat := lowestFree 0 (s.gy.subs.map (·.1))

/-- A subscribe job (R157): status and index. -/
def State.subscribe (s : State) (owner p ring mode : Nat) (deadband : DWord) : State × Nat × Nat :=
  if s.on F.GY_STATUS_WIPING then (s, stBusy, 0)
  else if s.rd F.GY_SUB_FREE_FREE = 0 then (s, stFull, 0)
  else match (if s.on F.GY_CTRL_EN then s.point p else none) with
    | none => (s.inc F.GY_NOPT, stNoPoint, 0)
    | some r =>
      if ¬ (ring < 1024 ∧ s.on (F.QE_CQ_CFG_NOTIFY ring) ∧ s.cqOwner ring = owner) then (s, stNoRing, 0)
      else if 64 ≤ (s.subList 65 r.sub).length then (s, stLimit, 0)
      else
        let i := s.freeSub
        let b : Sub := ⟨0, deadband, r.sub, ring, owner, mode % 128, false, false, p, r.qual / 64⟩
        let s1 := ((s.setSub i (some b)).setPoint p (some { r with sub := some i })).wr F.GY_SUB_FREE_FREE (s.rd F.GY_SUB_FREE_FREE - 1)
        (if bits mode 6 1 = 1 then s1.note i b r 0x10 else s1, stOk, i)

/-- Unlink an entry from a point's list and free it. -/
def State.freeSubEntry (s : State) (i : Nat) : State :=
  match s.sub i with
  | none => s
  | some b =>
    let s1 := (s.setSub i none).wr F.GY_SUB_FREE_FREE (s.rd F.GY_SUB_FREE_FREE + 1)
    match s1.point b.point with
    | none => s1
    | some r =>
      if r.sub = some i then s1.setPoint b.point (some { r with sub := b.next })
      else
        { s1 with gy := { s1.gy with subs := s1.gy.subs.map (fun x => match x.2 with
            | some y => if y.next = some i ∧ y.point = b.point then (x.1, some { y with next := b.next }) else x
            | none => x) } }

/-- An unsubscribe job (R157): notifications already evaluated are written first (R165). -/
def State.unsubscribe (s : State) (owner i : Nat) : State × Nat × Nat :=
  if s.on F.GY_STATUS_WIPING then (s, stBusy, 0)
  else match s.sub i with
  | none => (s, stNotFound, 0)
  | some b =>
    if b.owner = owner ∨ owner = 0 then
      let mine := s.gy.notes.filter (fun n => n.sub == i)
      let s1 := mine.foldl State.postNote { s with gy := { s.gy with notes := s.gy.notes.filter (fun n => n.sub != i) } }
      (s1.freeSubEntry i, stOk, i)
    else (s, stNotFound, 0)

/-- Free every subscription of a function; none of its notifications is written any more (R162). -/
def State.freeSubsOf (s : State) (owner : Nat) : State :=
  let mine := (s.gy.subs.filter (fun x => match x.2 with | some b => b.owner == owner | none => false)).map (·.1)
  let s1 := { s with gy := { s.gy with notes := s.gy.notes.filter (fun n => !mine.contains n.sub) } }
  mine.foldl State.freeSubEntry s1

/-! Landing a write (R140 to R144). -/

/-- Weight of a write's access (R365). -/
def PWrite.weight (w : PWrite) : Nat := if w.origin = 4 ∨ w.origin = 6 then 1 else 4

/-- The key of a record whose point has had no keyed write (R284): no landing has it, since the order begins at 1. -/
def Key.none (k : Key) : Bool := k == ⟨0, 0, 0⟩

/-- Does a record of a resynchronisation show a point that has never been written (R131, R276)? -/
def PWrite.unwritten (w : PWrite) : Bool := decide (w.qual = 0xC0 ∧ w.upd = some 0)

/-- Form the key of a local write, or take the one that came with it (R185). -/
def State.keyFor (s : State) (w : PWrite) : State × Key :=
  match w.key with
  | some k => (s, k)
  | none => ({ s with hz := { s.hz with order := (s.hz.order + 1) % 2 ^ 32 } }, ⟨s.dt, s.rd F.TW_STATUS_TWIN_ID, s.hz.order⟩)

/-- Remember the newest write of a mirrored point (R278, R284). -/
def State.newest (s : State) (p : Nat) (k : Key) (mode : Nat) : State :=
  let greater : Bool := match Sparse.get none s.tw.newest p with | some e => e.1.lt k | none => true
  if greater then { s with tw := { s.tw with newest := Sparse.put none s.tw.newest p (some (k, mode)) } } else s

/-- What follows the landing of a value on point `p` whose record is now `r`: counters, horizon, mirror, heat and
subscriptions (R140, R143, R144, R158, R185, R365). -/
def State.landed (s : State) (w : PWrite) (p : Nat) (r : Point) : State :=
  let s1 := (s.inc F.GY_WR_CNT).heat p w.weight
  let s2 := if w.origin = 5 ∧ ¬ r.hot then s1.inc F.GY_WIN_COLD else s1
  let s3 :=
    if r.mirror then
      let k := s2.keyFor w
      let m := if k.2.none then k.1 else k.1.newest p k.2 w.mode
      let h := if m.on F.MS_CTRL_HZN_EN && !k.2.none then m.hzEnter ⟨p, k.2, { r with epoch := if w.key.isSome then w.epoch else r.epoch }⟩ else m
      if w.key.isSome then h else h.mirSend (mirRecOf p r k.2 w.mode)
    else s2
  if s3.on F.GY_CTRL_NOTIFY_EN then s3.evalSubs r 64 r.sub else s3

/-- The record after a value write of DT `t` (R140, R154): QUAL keeps VALUE and UPD_TIME. -/
def Point.written' (r : Point) (w : PWrite) (t epoch : Nat) : Point :=
  let r1 := if w.mode = 4 then r else { r with value := w.value, upd := w.upd.getD (BitVec.ofNat 64 t) }
  { r1 with qual := w.qual % 256, src := w.src % 65536, written := true, epoch := epoch % 256,
            force := if w.mode = 2 then true else if w.mode = 3 then false else r.force }

/-- Mode CONFIG (R154), with the FORCE of a mirrored record (R276); a resynchronisation record writes the value too. The
reasons are those of R302. -/
def State.landConfig (s : State) (w : PWrite) : State × Nat :=
  let maxage := match w.cfg with | some c => c.1 | none => 0
  let flags := match w.cfg with | some c => c.2 | none => 0
  let pin := bits flags 5 2
  let mirror := bits flags 3 1 == 1
  let force := bits flags 4 1 == 1
  let res := match s.point w.point with
    | none => s.definePoint w.point maxage pin (w.key.isSome && force) mirror
    | some _ => s.setPointCfg w.point maxage pin (if w.key.isSome then some force else none) mirror
  match res.2 with
  | 0 =>
    match res.1.point w.point with
    | none => (res.1, 0)
    | some r =>
      match w.key with
      | some k =>
        let newer : Bool := match Sparse.get none s.tw.newest w.point with | some e => e.1.lt k | none => true
        if ¬ w.rs then (if r.mirror then res.1.newest w.point k 5 else res.1, 0)
        else if newer && !(k.none && w.unwritten) then
          let r1 := { r.written' { w with mode := 0 } s.dt (s.rd F.TB_EPOCH) with force := force }
          let a := if s.dt < r1.upd.toNat then res.1.inc F.GY_FUTURE else res.1
          ((a.putPoint w.point (some r1)).landed { w with mode := 0 } w.point r1, 0)
        else (res.1, 0)
      | none =>
        if r.mirror then
          let k := res.1.keyFor w
          ((k.1.newest w.point k.2 5).mirSend (mirRecOf w.point r k.2 5), 0)
        else (res.1, 0)
  | 3 => (res.1, 5)
  | _ => (res.1, 6)

/-- A write reaches its point (R141, R142, R154): the reason of a refusal as R302 codes it, 0 when it lands. -/
def State.landWrite (s : State) (w : PWrite) : State × Nat :=
  if 5 < w.mode then (s, 4)
  else if ¬ s.on F.GY_CTRL_EN then (s.inc F.GY_NOPT, 1)
  else if w.mode = 5 then s.landConfig w
  else match s.point w.point with
    | none => (s.inc F.GY_NOPT, 1)
    | some r =>
      if r.force ∧ w.mode ≠ 2 ∧ w.mode ≠ 3 then (s.inc F.GY_FORCED, 2)
      else
        let t := (w.upd.getD s.tb.dt).toNat
        if (w.mono ∨ w.mode = 1) ∧ t < r.upd.toNat then (s.inc F.GY_OLDER, 3)
        else if w.mode = 3 ∧ ¬ w.present then
          let r1 := { r with force := false }
          let s1 := s.putPoint w.point (some r1)
          if r1.mirror && w.key.isNone then
            let k := s1.keyFor w
            ((k.1.newest w.point k.2 3).mirSend (mirRecOf w.point r1 k.2 3), 0)
          else (s1, 0)
        else
          let r1 := r.written' w s.dt (s.rd F.TB_EPOCH)
          let s1 := if w.mode ≠ 4 ∧ s.dt < t then s.inc F.GY_FUTURE else s
          ((s1.putPoint w.point (some r1)).landed w w.point r1, 0)

/-- One write of a POINT_WRITE job has landed or been refused; the last one ends the job (R302, R308). -/
def State.jobWriteDone (s : State) (j : Nat × Nat × Nat) (reason : Nat) : State :=
  match s.gy.jobs.find? (fun x => x.q == j.1 && x.id == j.2.1) with
  | none => s
  | some x =>
    let y := { x with left := x.left - 1, mask := if reason = 0 then x.mask else x.mask + 2 ^ j.2.2,
                      reason := if reason ≠ 0 ∧ x.reason = 0 then reason else x.reason }
    let rest := s.gy.jobs.filter (fun z => !(z.q == j.1 && z.id == j.2.1))
    if y.left = 0 then
      ({ s with gy := { s.gy with jobs := rest } }).finishJob j.1 j.2.1
        ⟨if y.mask = 0 then stOk else stPartial, 0, y.mask + y.reason * 65536, 0⟩
    else { s with gy := { s.gy with jobs := y :: rest } }

/-- Land a write and report it to its job; a write to a moving point waits for the move (R139). -/
def State.serve (s : State) (w : PWrite) : State :=
  if s.gy.moves.any (fun m => m.point == w.point) then
    { s with gy := { s.gy with moves := s.gy.moves.map (fun m => if m.point = w.point then { m with held := m.held ++ [w] } else m) } }
  else
    let r := s.landWrite w
    match w.job with
    | some j => r.1.jobWriteDone j r.2
    | none => r.1

/-- The operation that GYLE serves next, by the source order of R163. -/
def Gy.next (g : Gy) : Option (HostOp × Gy) :=
  match g.qTa, g.qExt, g.qMir, g.qWin, g.qHost with
  | w :: t, _, _, _, _ => some (.write w, { g with qTa := t })
  | [], w :: t, _, _, _ => some (.write w, { g with qExt := t })
  | [], [], w :: t, _, _ => some (.write w, { g with qMir := t })
  | [], [], [], w :: t, _ => some (.write w, { g with qWin := t })
  | [], [], [], [], o :: t => some (o, { g with qHost := t })
  | [], [], [], [], [] => none

/-- The record that a read of a point takes; a read of an undefined point is counted (R155, R168). -/
def State.readRec (s : State) (p : Nat) : Option Point := if s.on F.GY_CTRL_EN then s.point p else none

/-- The copies of a point-read job in order, counting the records (R155, R168, R303, R365). -/
def State.readPoints (s : State) (l : List Nat) : State :=
  l.foldl (fun s p => ((if (s.readRec p).isNone then s.inc F.GY_NOPT else s).inc F.GY_RD_CNT).heat p 1) s

/-- A point-read job is served (R303). -/
def State.serveRead (s : State) (q id m addr : Nat) (l : List Nat) : State :=
  let data := (l.map (fun p => readCopy (s.readRec p) s.dt)).flatten
  ((s.readPoints l).toHost (.mem (fnOf m) (BitVec.ofNat 64 addr) data)).finishJob q id
    ⟨stOk, 0, l.length + l.countP (fun p => (s.readRec p).isNone) * 2 ^ 32, 0⟩

/-- GYLE serves an operation (R141, R142, R157, R303, R304). -/
def State.serveOp (s : State) : HostOp → State
  | .write w => s.serve w
  | .read q id m addr l => s.serveRead q id m addr l
  | .sub q id m p ring mode d => let r := s.subscribe m p ring mode d; r.1.finishJob q id ⟨r.2.1, 0, r.2.2, 0⟩
  | .unsub q id m i => let r := s.unsubscribe m i; r.1.finishJob q id ⟨r.2.1, 0, r.2.2, 0⟩

/-- The next operation is served. -/
def State.gyStep (s : State) : State :=
  match s.gy.next with
  | none => s
  | some (o, g) => (({ s with gy := g }).wr F.GY_STATUS_OVERLOAD (decide (2048 ≤ g.qExt.length)).toNat).serveOp o

/-- Does nothing wait ahead of a host job (R138, R163)? -/
def Gy.idle (g : Gy) : Bool := g.next.isNone

/-- A host job that is no write arrives: it is served at once, or in its turn (R163). -/
def State.hostOp (s : State) (o : HostOp) : State :=
  if s.gy.idle then s.serveOp o else { s with gy := { s.gy with qHost := s.gy.qHost ++ [o] } }

/-- Does GYLE take another host point job? While it does not, QENG fetches none (R163); the manual gives no number. -/
def State.gyTakes (s : State) : Bool := s.gy.qHost.isEmpty || decide (s.gy.qHost.length < Config.pointQueue)

/-- The oldest evaluated notification is written to its ring, or folded (R160). -/
def execNotificationWrite (s : State) : Out :=
  match s.gy.notes with
  | [] => .next s
  | n :: t => .next (({ s with gy := { s.gy with notes := t } }).postNote n)

/-- PITCH's requested moves begin as far as they may (R139, R179). -/
def execTierMove (s : State) : Out := .next s.tryMoves

/-- Swap a point's heat between the tables of its tiers (R365). -/
def State.heatMove (s : State) (p : Nat) (toHot : Bool) : State :=
  if toHot then
    { s with pt := { s.pt with heatHot := Sparse.put 0 s.pt.heatHot p (Sparse.get 0 s.pt.heatCand p), heatCand := Sparse.del p s.pt.heatCand } }
  else
    { s with pt := { s.pt with heatCand := Sparse.put 0 s.pt.heatCand p (Sparse.get 0 s.pt.heatHot p), heatHot := Sparse.del p s.pt.heatHot } }

/-! Extraction maps (R145 to R150). -/

/-- Word `n` of a map. -/
def State.mapWord (s : State) (m n : Nat) : DWord := Sparse.get 0 s.gy.maps (m * 64 + n)

/-- The 64 words of a map. -/
def State.mapWords (s : State) (m : Nat) : List DWord := (List.range 64).map (s.mapWord m)

/-- Fetch one map: a hit in the cache of 512 maps moves it to the front, a miss is counted (R145). -/
def State.mapFetch (s : State) (m : Nat) : State × Bool :=
  if m ∈ s.gy.cache then ({ s with gy := { s.gy with cache := m :: s.gy.cache.filter (· != m) } }, false)
  else
    let s1 := s.inc F.GY_MAP_MISS
    ({ s1 with gy := { s1.gy with cache := (m :: s1.gy.cache).take 512 } }, true)

/-- Walk a chain of at most eight maps by NEXT (R148). -/
def State.mapWalk (s : State) (m : Nat) : Nat → State × MapChain
  | 0 => (s, ⟨[], false, none⟩)
  | n + 1 =>
    let f := s.mapFetch m
    let w := s.mapWords m
    let h := (w.headD 0).toNat
    let out : Option Nat := if f.2 then some s.gy.mapSeq else none
    if bits h 10 1 = 1 then
      if n = 0 then (f.1, ⟨[w], true, out⟩)
      else
        let r := f.1.mapWalk (bits h 32 14) n
        (r.1, ⟨w :: r.2.maps, r.2.loop, out.or r.2.missing⟩)
    else (f.1, ⟨[w], false, out⟩)

/-- A frame's first map fetch: it passes through the maps as they stand now (R145). -/
def State.mapBegin (s : State) (first : Nat) : State × MapChain :=
  let r := s.mapWalk (first % 16384) 8
  ({ r.1 with gy := { r.1.gy with mapSeq := r.1.gy.mapSeq + 1 } }, r.2)

/-- GY_MAP_ERR (R149). -/
def State.mapErr (s : State) (f : Fld) : State := (s.inc f).raise0 Src.GY_MAP_ERR 0

/-- An extraction-map write enters its queue: it replaces a waiting one of its point, or is dropped from a full queue
(R164); while GYLE wipes it is dropped (R165). -/
def State.extPush (s : State) (w : PWrite) : State :=
  if s.on F.GY_STATUS_WIPING then s.inc F.GY_EXT_DROP
  else if s.gy.qExt.any (fun x => x.point == w.point) then
    let s1 := s.inc F.GY_COALESCE
    { s1 with gy := { s1.gy with qExt := s1.gy.qExt.map (fun x => if x.point = w.point then w else x) } }
  else if 2048 ≤ s.gy.qExt.length then (s.inc F.GY_EXT_DROP).raise0 Src.GY_OVERLOAD 0
  else
    let s1 := { s with gy := { s.gy with qExt := s.gy.qExt ++ [w] } }
    s1.wr F.GY_STATUS_OVERLOAD (decide (2048 ≤ s1.gy.qExt.length)).toNat

/-- One field descriptor, 16 bytes (R147 to R149). -/
def State.mapField (s : State) (handle : Nat) (data : List Byte) (stamp : DWord) (lo hi : Nat) : State :=
  let n := data.length
  let off := bits lo 0 16
  let ctrl := bits lo 16 8
  let len := bits lo 24 4
  let shift := bits lo 32 6
  let wd := bits lo 40 7
  let qoff := bits lo 48 16
  let toff := bits hi 32 16
  let tsel := bits ctrl 4 2
  let qsel := bits ctrl 2 1
  if len = 0 ∨ 8 < len ∨ n < off + len ∨ (qsel = 1 ∧ n ≤ qoff) ∨ (tsel = 2 ∧ n < toff + 8) then s.mapErr F.GY_MAP_SHORT
  else
    let field := slice data off len
    let raw := if bits ctrl 7 1 = 1 then leNat field else beNat field
    let width := if wd = 0 then len * 8 else min wd 64
    let u := raw / 2 ^ shift % 2 ^ width
    let v := if bits ctrl 6 1 = 1 then ofSigned 64 (toSigned width u) else u
    s.extPush { origin := 3, point := bits hi 0 23, value := BitVec.ofNat 64 v,
                upd := if tsel = 1 then none else if tsel = 2 then some (BitVec.ofNat 64 (beNat (slice data toff 8))) else some stamp,
                qual := if qsel = 1 then beNat (slice data qoff 1) else bits lo 48 8, src := handle % 32768, mode := 0,
                mono := bits ctrl 3 1 == 1, present := true, cfg := none, key := none, rs := false, epoch := 0, job := none }

/-- Descriptors `i` to `i + n − 1` of a map. -/
def State.mapFields (s : State) (handle : Nat) (data : List Byte) (stamp : DWord) (m : List DWord) (i : Nat) : Nat → State
  | 0 => s
  | n + 1 => (s.mapField handle data stamp (m.getD (4 + 2 * i) 0).toNat (m.getD (5 + 2 * i) 0).toNat).mapFields handle data stamp m (i + 1) n

/-- Does a map's selector match (R146, R148)? -/
def mapSelected (m : List DWord) (data : List Byte) : Bool :=
  let h := (m.getD 0 0).toNat
  let off := bits h 48 16
  let mv := leBytes 8 (m.getD 1 0).toNat
  bits h 9 1 == 0 || (decide (off + 4 ≤ data.length)
    && decide (beNat (slice data off 4) &&& beNat (mv.take 4) = beNat (mv.drop 4)))

/-- One map on a delivered frame (R148). -/
def State.mapApply (s : State) (handle : Nat) (data : List Byte) (stamp : DWord) (m : List DWord) : State :=
  let h := (m.getD 0 0).toNat
  if bits h 8 1 = 1 ∧ mapSelected m data then s.mapFields handle data stamp m 0 (min 30 (bits h 0 5)) else s

/-- The writes of a delivered frame are issued, in map and descriptor order (R145, R148). -/
def State.extract (s : State) (c : MapChain) (handle : Nat) (data : List Byte) (stamp : DWord) : State :=
  if s.on F.GY_CTRL_EXT_EN then
    let s1 := c.maps.foldl (fun s m => s.mapApply handle data stamp m) s
    if c.loop then s1.mapErr F.GY_MAP_LOOP else s1
  else s

/-- Delivery of a frame with maps, whose chain GYLE then holds: at once, or when the missing map arrives (R145, R359). -/
def State.extDeliver (s : State) (x : ExtWait) : State :=
  if x.chain.missing.isSome then { s with gy := { s.gy with extWait := s.gy.extWait ++ [x] } }
  else (s.extract x.chain x.handle x.data x.stamp).releaseHold x.cell 4

/-- The fetches that are out, those of frames in reception among them, by number (R145). -/
def State.fetches (s : State) : List Nat :=
  s.gy.extWait.filterMap (fun x => x.chain.missing)
    ++ s.rx.filterMap (fun x => match x.2 with | some fr => fr.maps.bind (fun m => m.missing) | none => none)

/-- The maps of the oldest fetch have arrived: the writes of a delivered frame are issued; a frame in reception has its maps (R145). -/
def execMapFetchDone (s : State) : Out :=
  .next (match s.fetches.min? with
  | none => s
  | some n => match s.gy.extWait.find? (fun x => x.chain.missing == some n) with
    | some x =>
      let s1 := { s with gy := { s.gy with extWait := s.gy.extWait.filter (fun y => y.chain.missing != some n) } }
      s1.extDeliver { x with chain := { x.chain with missing := none } }
    | none =>
      let got (m : MapChain) : MapChain := if m.missing = some n then { m with missing := none } else m
      { s with rx := s.rx.map (fun x : Nat × Option RxFrame => (x.1, x.2.map (fun fr => { fr with maps := fr.maps.map got }))) })

/-! The BAR4 point window (R151 to R153, R502). -/

/-- A discarded window write (R152). -/
def State.winBad (s : State) : State := (s.inc F.GY_WIN_BAD).raise0 Src.GY_WIN_BAD 0

/-- One aligned 8-byte part of a window write TLP (R151, R152). -/
def State.winPart (s : State) (slot : Nat) (v : DWord) (enables : Nat) : State :=
  if !s.may 0x0D 0x20 permW then (s.deny 1 0x20 0x0D (slot * 8 % 65536)).winBad
  else
    let e := (Sparse.get 0 s.gy.wmap slot).toNat
    if ¬ s.on F.GY_CTRL_WIN_EN ∨ s.on F.GY_STATUS_WIPING ∨ enables % 256 ≠ 0xFF ∨ bits e 31 1 = 0 then s.winBad
    else
      let w : PWrite := ⟨5, bits e 0 23, v, some s.tb.dt, s.rd F.GY_WIN_CFG_QUAL, 0x8020, 0, false, true, none, none, false, 0, none⟩
      { s with gy := { s.gy with qWin := s.gy.qWin ++ [w] } }

/-- The parts of a TLP in ascending address order. -/
def State.winParts (s : State) (slot : Nat) : List (DWord × Nat) → State
  | [] => s
  | (v, e) :: t => (s.winPart (slot % 131072) v e).winParts (slot + 1) t

/-- A posted write of PF0 to BAR4: each 8-byte part with its byte enables (R151, R152, R497). Without credits for its parts it is not
taken (R153). -/
def execPointWindowWrite (slot : Nat) (parts : List (DWord × Nat)) (s : State) : Out :=
  .next (if s.takes 0x20 ∧ s.gy.qWin.length + parts.length ≤ 512 then s.winParts (slot % 131072) parts else s)

/-- A read of PF0's BAR4, 8 bytes or one half (R502). -/
def execPointWindowRead (slot : Nat) (half : Option Bool) (s : State) : Out :=
  if !s.decodes 0x20 then .next { s with readData := [] }
  else if !s.may 0x0D 0x20 permR then
    .next { (s.deny 0 0x20 0x0D ((slot % 131072 * 8 + if half = some true then 4 else 0) % 65536)) with readData := [0] }
  else
    let e := (Sparse.get 0 s.gy.wmap (slot % 131072)).toNat
    let v : DWord :=
      if bits e 31 1 = 0 ∨ ¬ s.on F.GY_CTRL_EN ∨ s.on F.GY_STATUS_WIPING then 0
      else match s.point (bits e 0 23) with | some r => r.value | none => 0
    let lo : Word := BitVec.ofNat 32 v.toNat
    let hi : Word := BitVec.ofNat 32 (v.toNat / 2 ^ 32)
    .next { s with readData := match half with | none => [lo, hi] | some false => [lo] | some true => [hi] }

/-! Point configuration (R131, R137). -/

/-- Publish the result of a point-configuration command in its bank (R167). -/
def State.pcfgDone (m : Nat) (r : State × Nat) : State :=
  (r.1.wr (F.GY_PCFG_RESULT_DONE m) 1).wr (F.GY_PCFG_RESULT_CODE m) r.2

/-- The commands of GY_PCFG_CMD: 1 DEFINE, 2 UNDEFINE, 3 SET (R131, R137, R157). -/
def State.pcfgCmd (s : State) (m op : Nat) : State :=
  let p := s.rd (F.GY_PCFG_ID_POINT m)
  let age := s.rd (F.GY_PCFG_VAL_MAXAGE m)
  let pin := s.rd (F.GY_PCFG_VAL_PIN m)
  let force := s.on (F.GY_PCFG_VAL_FORCE m)
  let mir := s.on (F.GY_PCFG_VAL_MIRROR m)
  match op with
  | 1 => State.pcfgDone m (s.definePoint p age pin force mir)
  | 2 => State.pcfgDone m (s.undefinePoint p)
  | 3 => State.pcfgDone m (s.setPointCfg p age pin (some force) mir)
  | _ => s

/-- GY_PCFG_CMD DEFINE (R131, R137). -/
def execPcfgDefine (m : Nat) (s : State) : Out :=
  .next (s.busW m 0xD0028 (fun s => s.pcfgCmd m 1))

/-- GY_PCFG_CMD UNDEFINE (R131, R157). -/
def execPcfgUndefine (m : Nat) (s : State) : Out :=
  .next (s.busW m 0xD0028 (fun s => s.pcfgCmd m 2))

/-- GY_PCFG_CMD SET (R137). -/
def execPcfgSet (m : Nat) (s : State) : Out :=
  .next (s.busW m 0xD0028 (fun s => s.pcfgCmd m 3))

/-- Exchange the words of two maps. -/
def State.mapSwap (s : State) (a b : Nat) : State :=
  let f (t : List (Nat × DWord)) (n : Nat) : List (Nat × DWord) :=
    Sparse.put 0 (Sparse.put 0 t (a * 64 + n) (s.mapWord b n)) (b * 64 + n) (s.mapWord a n)
  { s with gy := { s.gy with maps := (List.range 64).foldl f s.gy.maps } }

/-- GY_MAP_CMD.SWAP (R150); while GYLE wipes it changes nothing (R532). -/
def State.mapCmd (s : State) (a b : Nat) : State :=
  if s.on F.GY_STATUS_WIPING then s
  else if a = b then s.wr F.GY_MAP_STAT_ERR 1
  else s.mapSwap a b

/-- A write of GY_MAP_CMD (R150). -/
def execMapSwap (m : Nat) (a b : BitVec 14) (s : State) : Out :=
  .next (s.busW m 0xD0040 (fun s => s.mapCmd a.toNat b.toNat))

/-! GYLE's memory window (R150, R168, R532). -/

/-- The bits of a word of a map that are not reserved (R13, R146, R147). -/
def mapMask (n : Nat) : Nat :=
  if n = 0 then 0xFFFF3FFF0000071F
  else if n = 1 then 0xFFFFFFFFFFFFFFFF
  else if n < 4 then 0
  else if n % 2 = 0 then 0xFFFF7F3F0FFCFFFF
  else 0x0000FFFF007FFFFF

/-- The window write that MDATA_HI completes: space 1 and 3 store, others and addresses outside set WIN_REJ. -/
def State.gyStore (s : State) (w : Nat) : State :=
  let sp := s.rd F.GY_MSEL
  let a := s.rd F.GY_MADDR
  if s.on F.GY_STATUS_WIPING then s.wr F.GY_STATUS_WIN_REJ 1
  else if sp = 1 ∧ a < 16384 * 64 then
    if bits (s.mapWord (a / 64) 0).toNat 8 1 = 1 ∧ ¬ (a % 64 = 0 ∧ bits w 8 1 = 0) then s.wr F.GY_STATUS_WIN_REJ 1
    else { s with gy := { s.gy with maps := Sparse.put 0 s.gy.maps a (BitVec.ofNat 64 (w &&& mapMask (a % 64))) } }
  else if sp = 3 ∧ a < 131072 then
    { s with gy := { s.gy with wmap := Sparse.put 0 s.gy.wmap a (BitVec.ofNat 32 (w &&& 0x807FFFFF)) } }
  else s.wr F.GY_STATUS_WIN_REJ 1

/-- A word of a GYLE window space (R168). -/
def State.gyWord (s : State) : Nat :=
  let a := s.rd F.GY_MADDR
  if s.on F.GY_STATUS_WIPING then 0
  else match s.rd F.GY_MSEL with
    | 0 => (match s.point (a / 4) with | some r => leNat (slice r.bytes (8 * (a % 4)) 8) | none => 0)
    | 1 => if a < 16384 * 64 then (s.mapWord (a / 64) (a % 64)).toNat else 0
    | 2 => (match s.sub (a / 4) with
        | some b => (match a % 4 with
            | 0 => b.last.toNat
            | 1 => b.deadband.toNat
            | 2 => b.next.getD 0 + b.next.isSome.toNat * 2 ^ 31 + b.ring % 1024 * 2 ^ 32 + b.owner % 64 * 2 ^ 48 + b.mode % 128 * 2 ^ 56
            | _ => 1 + b.staleSent.toNat * 2 + b.lastValid.toNat * 4 + b.point * 2 ^ 32)
        | none => 0)
    | _ => if a < 131072 then (Sparse.get 0 s.gy.wmap a).toNat else 0

/-- The effect of a write of the window's data high word (R12). -/
def State.gyMdata (s : State) (m hi : Nat) : State := s.winWrite m 0xD0058 hi F.GY_MADDR State.gyStore

/-- A write of GY_MDATA_HI (R168). -/
def execGyMdataWrite (m : Nat) (hi : Word) (s : State) : Out :=
  .next (s.busW m 0xD005C (fun s => s.gyMdata m hi.toNat))

/-- The sweep's next visit: the next AGE_WATCH subscription of this pass, or the first of a new pass once SWEEP_US have gone by;
with the instant at which its pass began (R161). -/
def State.nextWatched (s : State) : Option (Nat × Sub × Nat) :=
  let l := s.gy.subs.filterMap (fun x => match x.2 with | some b => if bits b.mode 5 1 = 1 then some (x.1, b) else none | none => none)
  match l.find? (fun x => decide (s.gy.sweepAt ≤ x.1)) with
  | some x => some (x.1, x.2, s.gy.sweepPass)
  | none => if s.gy.sweepPass + max 1 (s.rd F.GY_SWEEP_SWEEP_US) * 1000 ≤ s.tb.mono then l.head?.map (fun x => (x.1, x.2, s.tb.mono)) else none

/-- A visit of the age sweep, at most 8,000,000 in a second (R161): a point found stale while STALE_SENT is 0 is reported. -/
def execSweepVisit (s : State) : Out :=
  if ¬ s.on F.GY_CTRL_SWEEP_EN ∨ s.tb.mono < s.gy.sweepLast + 125 then .next s
  else match s.nextWatched with
    | none => .next s
    | some (i, b, pass) =>
      let s1 := { s with gy := { s.gy with sweepAt := i + 1, sweepPass := pass, sweepLast := s.tb.mono } }
      match s1.point b.point with
      | none => .next s1
      | some r =>
        .next (if r.stale s1.dt ∧ ¬ b.staleSent then (s1.setSub i (some { b with staleSent := true })).note i b r 4 else s1)

end Sys2Proof.Machine
end

