-- ==== Sys2Proof/Machine/Frames.lean ====
section
/-!
DEFINITION. Frames as byte lists in network order: FCS, VLAN tags, R-TAG, the fields of the receive parser (R199),
checksums (R123, R183, R299), padding (R125), and the ports' rates, byte times and links (R457, R471).
Where the manual leaves a point open, the choices are log entries 41 (DESIGN CHOICE).
-/

namespace Sys2Proof.Machine

/-- Reverse the low `n` bits of a number. -/
def revBits : Nat → Nat → Nat
  | 0, _ => 0
  | n + 1, x => x % 2 * 2 ^ n + revBits n (x / 2)

/-- `n` shift steps of a CRC of width `w`, most significant bit first (R182). -/
def crcShift (w poly : Nat) : Nat → Nat → Nat
  | 0, c => c
  | n + 1, c => crcShift w poly n (if bits c (w - 1) 1 = 1 then c * 2 % 2 ^ w ^^^ poly else c * 2 % 2 ^ w)

/-- One byte of a CRC (R182). -/
def crcByte (w poly : Nat) (refl : Bool) (c : Nat) (b : Byte) : Nat :=
  crcShift w poly 8 (c ^^^ ((if refl then revBits 8 b.toNat else b.toNat) * 2 ^ (w - 8)))

/-- The CRC of R182. -/
def crc (w poly init xorout : Nat) (reflIn reflOut : Bool) (l : List Byte) : Nat :=
  let c := l.foldl (crcByte w (poly % 2 ^ w) reflIn) (init % 2 ^ w)
  (if reflOut then revBits w c else c) ^^^ xorout % 2 ^ w

/-- The frame check sequence of IEEE 802.3, four bytes in the order they are sent. -/
def fcs (l : List Byte) : List Byte := leBytes 4 (crc 32 0x04C11DB7 0xFFFFFFFF 0xFFFFFFFF true true l)

/-- Is the FCS of a whole frame good? -/
def fcsGood (f : List Byte) : Bool := decide (4 ≤ f.length) && decide (f.drop (f.length - 4) = fcs (f.take (f.length - 4)))

/-- A 16-bit and a 32-bit word of a frame, network order. -/
def be16 (f : List Byte) (off : Nat) : Nat := beNat (slice f off 2)
def be32 (f : List Byte) (off : Nat) : Nat := beNat (slice f off 4)

/-- A VLAN TPID that the parser recognises (R199). -/
def isTpid (t : Nat) : Bool := t == 0x8100 || t == 0x88A8

/-- Number of VLAN tags, up to two (R199). -/
def vlanTags (f : List Byte) : Nat :=
  if isTpid (be16 f 12) then (if isTpid (be16 f 16) then 2 else 1) else 0

/-- Offset after the VLAN tags: of the R-TAG or of the EtherType. -/
def tagEnd (f : List Byte) : Nat := 12 + 4 * vlanTags f

/-- Does the frame carry an R-TAG (R199)? -/
def hasRtag (f : List Byte) : Bool := be16 f (tagEnd f) == 0xF1C1

/-- The number of the R-TAG (R209). -/
def rtagSeq (f : List Byte) : Nat := be16 f (tagEnd f + 4)

/-- Insert an R-TAG after the source MAC and every VLAN tag (R209). -/
def addRtag (f : List Byte) (n : Nat) : List Byte :=
  f.take (tagEnd f) ++ beBytes 2 0xF1C1 ++ beBytes 2 0 ++ beBytes 2 (n % 65536) ++ f.drop (tagEnd f)

/-- Remove the R-TAG (R211). -/
def dropRtag (f : List Byte) : List Byte :=
  if hasRtag f then f.take (tagEnd f) ++ f.drop (tagEnd f + 6) else f

/-- Offset of the EtherType of the payload, and the EtherType. -/
def etOff (f : List Byte) : Nat := tagEnd f + if hasRtag f then 6 else 0
def etherType (f : List Byte) : Nat := be16 f (etOff f)

/-- Padding to 60 bytes (R125). -/
def padFrame (f : List Byte) : List Byte := f ++ List.replicate (60 - f.length) 0

/-- Priority of a frame: PCP of the outer tag, or the port's default (R219, R462). -/
def framePrio (f : List Byte) (dflt : Nat) : Nat := if vlanTags f = 0 then dflt else be16 f 14 / 2 ^ 13

/-- DEI of the outer tag (R223). -/
def frameDei (f : List Byte) : Bool := decide (vlanTags f ≠ 0) && bits (be16 f 14) 12 1 == 1

/-- Set DEI in the outer tag; an untagged frame is not changed (R223). -/
def setDei (f : List Byte) : List Byte :=
  if vlanTags f = 0 then f else patch f 14 (beBytes 2 (putBits (be16 f 14) 12 1 1))

/-! The Internet checksum. -/

/-- One's complement sum of 16-bit words. -/
def sum16 : List Byte → Nat
  | [] => 0
  | [a] => a.toNat * 256
  | a :: b :: t => a.toNat * 256 + b.toNat + sum16 t

/-- Fold the carries; five rounds suffice for any sum below 2³². -/
def fold16 (s : Nat) : Nat :=
  let f (x : Nat) : Nat := x % 65536 + x / 65536
  f (f (f (f (f s))))

/-- The Internet checksum of bytes and a partial sum. -/
def inetSum (part : Nat) (l : List Byte) : Nat := 65535 - fold16 (part + sum16 l)

/-- Write the IPv4 header checksum of the header at `l3` (R123, R183). -/
def ip4Csum (f : List Byte) (l3 : Nat) : List Byte :=
  let ihl := ((slice f l3 1).headD 0).toNat % 16
  let z := patch f (l3 + 10) [0, 0]
  patch z (l3 + 10) (beBytes 2 (inetSum 0 (slice z l3 (ihl * 4))))

/-- Partial sum of the pseudo-header of the IP header at `l3`, of IPv6 or of IPv4, for a payload of `len` bytes (R123, R183). -/
def pseudoSum (v6 : Bool) (f : List Byte) (l3 len proto : Nat) : Nat :=
  if v6 then sum16 (slice f (l3 + 8) 32) + len + proto
  else sum16 (slice f (l3 + 12) 8) + len + proto

/-- Is the IP header at `l3` one of IPv6, by its version? -/
def isV6 (f : List Byte) (l3 : Nat) : Bool := leNat (slice f l3 1) / 16 == 6

/-- Write the L4 checksum of a segment of `len` bytes at `l4`; a UDP result of 0 is sent as 0xFFFF (R123, R299). -/
def l4Csum (v6 : Bool) (f : List Byte) (l3 l4 len : Nat) (udp : Bool) : List Byte :=
  let pos := l4 + if udp then 6 else 16
  let z := patch f pos [0, 0]
  let c := inetSum (pseudoSum v6 z l3 len (if udp then 17 else 6)) (slice z l4 len)
  patch z pos (beBytes 2 (if udp ∧ c = 0 then 0xFFFF else c))

/-! Parser fields (R199). -/

/-- What the parser presents of a frame's head. -/
structure Parsed where
  dmac : List Byte
  smac : List Byte
  tagged : Bool
  prioTag : Bool
  vid : Nat
  ip : Option Nat
  src : List Byte
  dst : List Byte
  dscp : Nat
  proto : Nat
  ports : Option (List Byte × List Byte)
deriving DecidableEq, Repr

/-- Parse a frame's head: two VLAN tags, one R-TAG, the EtherType, IPv4 or IPv6, TCP or UDP ports (R199). -/
def parse (f : List Byte) : Parsed :=
  let o := etOff f + 2
  let tags := vlanTags f
  let vid := if tags = 0 then 0 else be16 f 14 % 4096
  let b (off : Nat) : Nat := ((slice f off 1).headD 0).toNat
  let base : Parsed := ⟨slice f 0 6, slice f 6 6, decide (tags ≠ 0 ∧ vid ≠ 0), decide (tags ≠ 0 ∧ vid = 0), vid, none, [], [], 0, 0, none⟩
  let l4 (proto off : Nat) : Option (List Byte × List Byte) :=
    if (proto = 6 ∨ proto = 17) ∧ off + 8 ≤ f.length then some (slice f off 2, slice f (off + 2) 2) else none
  if etherType f = 0x0800 ∧ o + 20 ≤ f.length then
    { base with
      ip := some 0, src := slice f (o + 12) 4 ++ leBytes 12 0, dst := slice f (o + 16) 4 ++ leBytes 12 0,
      dscp := b (o + 1) / 4, proto := b (o + 9),
      ports := if be16 f (o + 6) % 2 ^ 13 = 0 then l4 (b (o + 9)) (o + b o % 16 * 4) else none }
  else if etherType f = 0x86DD ∧ o + 40 ≤ f.length then
    { base with
      ip := some 1, src := slice f (o + 8) 16, dst := slice f (o + 24) 16,
      dscp := be16 f o / 64 % 64, proto := b (o + 6), ports := l4 (b (o + 6)) (o + 40) }
  else base

/-! Ports. -/

/-- Data rate of a port in kb/s (R242, R457). -/
def State.portRate (s : State) (p : Nat) : Nat :=
  if p < 2 then (match s.rd (F.BP_CTRL_MODE p) with | 0 => 10000000 | 1 => 2500000 | _ => 1000000) else 10000

/-- Byte time in tenths of a ns. -/
def State.byteTime (s : State) (p : Nat) : Nat := 80000000 / s.portRate p

/-- Is the port's link up (R459, R468, R471)? -/
def State.linkUp (s : State) (p : Nat) : Bool :=
  if p < 2 then s.on (F.BP_STATUS_LINK p) else s.on (F.FP_STATUS_LINK (p - 2)) && s.on F.FD_STATUS_ISO_UP

/-- Maximum frame size M of a port (R126, R479, R480). -/
def State.maxFrame (s : State) (p : Nat) : Nat :=
  if p < 2 then max 1518 (min 9220 (s.rd (F.BP_CFG_MAX_FRAME p))) else max 1518 (min 2000 (s.rd (F.FP_CFG_MAX_FRAME (p - 2))))

/-- Default priority and priority map of a port (R462). -/
def State.defPrio (s : State) (p : Nat) : Nat := if p < 2 then s.rd (F.BP_CFG_DEF_PRIO p) else s.rd (F.FP_CFG_DEF_PRIO (p - 2))
def State.pcpClass (s : State) (p prio : Nat) : Nat :=
  bits (if p < 2 then s.rd (F.BP_PCP_MAP p) else s.rd (F.FP_PCP_MAP (p - 2))) (3 * prio) 3

/-- The port's own MAC address (R463). -/
def State.portMac (s : State) (p : Nat) : List Byte :=
  if p < 2 then leBytes 4 (s.rd (F.BP_MAC_LO p)) ++ leBytes 2 (s.rd (F.BP_MAC_HI p))
  else leBytes 4 (s.rd (F.FP_MAC_LO (p - 2))) ++ leBytes 2 (s.rd (F.FP_MAC_HI (p - 2)))

/-- Now in tenths of a ns of `mono`. -/
def State.now10 (s : State) : Nat := s.tb.mono * 10

/-- The external PHY's delays of a port in quarter ns, in SGMII mode only (R51). -/
def State.phyIn (s : State) (p : Nat) : Nat :=
  if p < 2 ∧ s.rd (F.BP_CTRL_MODE p) = 3 then (if p = 0 then s.rd F.TB_EXT_DLY_A_INGRESS else s.rd F.TB_EXT_DLY_B_INGRESS) else 0
def State.phyOut (s : State) (p : Nat) : Nat :=
  if p < 2 ∧ s.rd (F.BP_CTRL_MODE p) = 3 then (if p = 0 then s.rd F.TB_EXT_DLY_A_EGRESS else s.rd F.TB_EXT_DLY_B_EGRESS) else 0

/-- The time stamp of port `p` for an instant `d` quarter ns from now: whole ns and quarters, whole ns on a field port
(R37, R50). -/
def State.stampAt (s : State) (p : Nat) (d : Int) : Stamp :=
  let q : Int := (s.dt : Int) * 4 + (s.tb.frac.toNat / 2 ^ 30 : Nat) + d
  ⟨BitVec.ofInt 64 (q / 4), BitVec.ofNat 32 ((if p < 2 then (q % 4).toNat else 0) * 2 ^ 30 + s.rd F.TB_EPOCH % 256)⟩

/-- The stamp of a frame whose start-of-frame delimiter crossed the pads of port `p` `ago` tenths of a ns ago (R50, R51). -/
def State.rxStamp (s : State) (p ago : Nat) : Stamp := s.stampAt p (-(ago : Int) * 4 / 10 - s.phyIn p)

/-- The stamp of a frame whose first preamble bit crosses the pads of port `p` now (R50, R51). -/
def State.txStamp (s : State) (p : Nat) : Stamp := s.stampAt p ((8 * s.byteTime p * 4 / 10 + s.phyOut p : Nat) : Int)

/-- A stamp in quarter ns. -/
def Stamp.quarters (t : Stamp) : Int := (t.ns.toNat : Int) * 4 + (t.frac.toNat / 2 ^ 30 : Nat)

end Sys2Proof.Machine
end

