-- ==== Sys2Proof/Machine/Fining.lean ====
section
/-!
DEFINITION. FINING: stream entries, identification, sequence generation and recovery, its commands and its window
(R194 to R218, R229, R230, R533).
Where the manual leaves a point open, the choices are log entries 26, 35 (DESIGN CHOICE); 36, 43 (DEDUCED).
-/

namespace Sys2Proof.Machine

/-! Stream entries (R196 to R198). -/

/-- Word `n` of a stream entry. -/
def State.strm (s : State) (h n : Nat) : Nat := (Sparse.get 0 s.fn.streams (h * 4 + n)).toNat

def State.stValid (s : State) (h : Nat) : Bool := bits (s.strm h 0) 0 1 == 1
def State.stGenEn (s : State) (h : Nat) : Bool := bits (s.strm h 0) 4 1 == 1
def State.stEgress (s : State) (h : Nat) : Nat := bits (s.strm h 0) 16 10
def State.stGen (s : State) (h : Nat) : Nat := bits (s.strm h 0) 48 14

/-- Class of a stream on port `p`, from word 0 of its entry. -/
def strmClass (w p : Nat) : Nat := bits w (if p = 0 then 32 else if p = 1 then 36 else 40) 3
def State.stClass (s : State) (h p : Nat) : Nat := strmClass (s.strm h 0) p

/-! The entry of a received frame, as it stood at the frame's lookup (R195, R196, R198). -/

def RxFrame.fwd (fr : RxFrame) : Bool := bits fr.e0.toNat 1 1 == 1
def RxFrame.host (fr : RxFrame) : Bool := bits fr.e0.toNat 2 1 == 1
def RxFrame.mapEn (fr : RxFrame) : Bool := bits fr.e0.toNat 3 1 == 1
def RxFrame.recEn (fr : RxFrame) : Bool := bits fr.e0.toNat 5 1 == 1
def RxFrame.filtEn (fr : RxFrame) : Bool := bits fr.e0.toNat 6 1 == 1
def RxFrame.egress (fr : RxFrame) : Nat := bits fr.e0.toNat 16 10
def RxFrame.rec_ (fr : RxFrame) : Nat := bits fr.e1.toNat 0 15
def RxFrame.filter (fr : RxFrame) : Nat := bits fr.e1.toNat 16 12
def RxFrame.map (fr : RxFrame) : Nat := bits fr.e1.toNat 32 14
def RxFrame.qset (fr : RxFrame) : Nat := bits fr.e1.toNat 48 10

/-- The ports of a stream's EGRESS, ascending (R197). -/
def State.stPorts (s : State) (h : Nat) : List Nat := (List.range 10).filter (fun p => bits (s.stEgress h) p 1 == 1)

/-- Count a stream counter: 0 RX_FRAMES, 1 TX_FRAMES, 2 DROPPED (R230). -/
def State.stCount (s : State) (h i : Nat) : State :=
  { s with fn := { s.fn with scnt := Sparse.put 0 s.fn.scnt (h * 4 + i) (min (2 ^ 32 - 1) (Sparse.get 0 s.fn.scnt (h * 4 + i) + 1)) } }

/-- FINING runs (R229). -/
def State.fnOn (s : State) : Bool := s.on F.FN_CTRL_EN && !s.on F.FN_STATUS_WIPING

/-! Identification (R200 to R204). -/

/-- The words and the bytes of an identification entry. -/
def idBytes (e : List DWord) : List Byte := (e.map (fun w => leBytes 8 w.toNat)).flatten

def idMethod (b : List Byte) : Nat := leNat (slice b 0 1) % 4
def idTagged (b : List Byte) : Nat := leNat (slice b 0 1) / 4 % 4
def idProfile (b : List Byte) : Nat := leNat (slice b 0 1) / 16 % 4
def idVid (b : List Byte) : Nat := leNat (slice b 2 2) % 4096
def idPorts (b : List Byte) : Nat := leNat (slice b 4 2)
def idHandle (b : List Byte) : Nat := leNat (slice b 6 2) % 32768

/-- Which fields a profile selects: DMAC, VID, IPSRC, IPDST, DSCP, PROTO, SPORT, DPORT (R229). -/
def State.idSel (s : State) (n : Nat) : List Bool :=
  [s.on (F.FN_IDPn_DMAC n), s.on (F.FN_IDPn_VID n), s.on (F.FN_IDPn_IPSRC n), s.on (F.FN_IDPn_IPDST n),
   s.on (F.FN_IDPn_DSCP n), s.on (F.FN_IDPn_PROTO n), s.on (F.FN_IDPn_SPORT n), s.on (F.FN_IDPn_DPORT n)]

/-- The fields of an entry that its profile may select, in the order of `idSel`. -/
def idFields (b : List Byte) : List (List Byte) :=
  [slice b 8 6, leBytes 2 (idVid b), slice b 16 16, slice b 32 16, leBytes 1 (leNat (slice b 14 1) % 64), slice b 15 1,
   slice b 48 2, slice b 50 2]

/-- The same fields of a parsed frame; a frame without ports has none of the last two. -/
def parsedFields (f : Parsed) : List (Option (List Byte)) :=
  [some f.dmac, some (leBytes 2 f.vid), some f.src, some f.dst, some (leBytes 1 f.dscp), some (leBytes 1 f.proto),
   f.ports.map (·.1), f.ports.map (·.2)]

/-- Do the selected fields agree? -/
def fieldsMatch : List Bool → List (List Byte) → List (Option (List Byte)) → Bool
  | true :: c, a :: t, b :: u => decide (b = some a) && fieldsMatch c t u
  | false :: c, _ :: t, _ :: u => fieldsMatch c t u
  | _, _, _ => true

/-- Does a frame of port `p` match an entry (R201)? -/
def State.idMatch (s : State) (e : List DWord) (p : Nat) (f : Parsed) : Bool :=
  let b := idBytes e
  let tag := match idTagged b with | 0 => true | 1 => f.tagged | _ => !f.tagged
  let vid := idTagged b == 2 || decide (f.vid = idVid b)
  bits (idPorts b) p 1 == 1 && tag && (match idMethod b with
    | 0 => decide (f.dmac = slice b 8 6) && vid
    | 1 => decide (f.smac = slice b 8 6) && vid
    | _ => decide (f.ip = some (leNat (slice b 52 1) % 2)) && fieldsMatch (s.idSel (idProfile b)) (idFields b) (parsedFields f))

/-- Search order: IP profiles 0 to 3, SMAC_VLAN, NULL (R201). -/
def idRank (e : List DWord) : Nat :=
  let b := idBytes e
  match idMethod b with | 0 => 5 | 1 => 4 | _ => idProfile b

/-- The first match (R201); among matches of one method and profile the lowest index. -/
def State.idSearch (s : State) (p : Nat) (f : Parsed) : Option Nat :=
  let m := s.fn.ids.filterMap (fun x => match x.2 with | some e => if s.idMatch e p f then some (idRank e, idHandle (idBytes e)) else none | none => none)
  (m.foldl (fun o x => match o with | none => some x | some y => if x.1 < y.1 then some x else some y) none).map (·.2)

/-- The stream of a frame received on port `p`; none when it is unidentified (R204). -/
def State.identify (s : State) (p : Nat) (f : List Byte) : Option Nat :=
  if s.fnOn && s.on F.FN_CTRL_ID_EN then
    match s.idSearch p (parse f) with
    | some h => if s.stValid h then some h else none
    | none => none
  else none

/-- The staging record (R200). -/
def State.staging (s : State) : List DWord := (List.range 7).map (fun n => Sparse.get 0 s.fn.staging n)

/-- The key of an entry: METHOD, PROFILE, TAGGED and the matched fields (R203). -/
def State.idKey (s : State) (e : List DWord) : List (List Byte) :=
  let b := idBytes e
  let head := [leBytes 1 (idMethod b), leBytes 1 (idProfile b), leBytes 1 (idTagged b)]
  match idMethod b with
  | 0 => head ++ [slice b 8 6] ++ if idTagged b = 2 then [] else [leBytes 2 (idVid b)]
  | 1 => head ++ [slice b 8 6] ++ if idTagged b = 2 then [] else [leBytes 2 (idVid b)]
  | _ => head ++ [leBytes 1 (leNat (slice b 52 1) % 2)]
      ++ ((s.idSel (idProfile b)).zip (idFields b)).map (fun x => if x.1 then x.2 else [])

/-- The index of the entry with a record's key. -/
def State.idFind (s : State) (rec_ : List DWord) : Option Nat :=
  let k := s.idKey rec_
  (s.fn.ids.find? (fun x => match x.2 with | some e => decide (s.idKey e = k) | none => false)).map (·.1)

/-- A command of FN_CMD has completed (R203). -/
def State.fnDone (s : State) (code : Nat) (index : Option Nat) : State :=
  let s1 := (s.wr F.FN_CMD_RESULT_DONE 1).wr F.FN_CMD_RESULT_CODE code
  match index with | some i => s1.wr F.FN_CMD_RESULT_INDEX i | none => s1

/-- A command is written (R203, R532): while another one runs it is ignored with WIN_REJ; else DONE reads 0 until the command completes, with
code WIPING while FINING wipes. `op` is its kind in `Fn.cmd`; `f` is what it does in the cycle of the write. -/
def State.fnCmd (s : State) (op : Nat) (f : State → State) : State :=
  if s.fn.cmd.isSome then s.wr F.FN_STATUS_WIN_REJ 1
  else
    let wipes := s.on F.FN_STATUS_WIPING
    let s1 := { s.wr F.FN_CMD_RESULT_DONE 0 with fn := { s.fn with cmd := some (if wipes then 4 else op, s.staging) } }
    if wipes then s1 else f s1

/-- May an insertion fail with FULL? Never below 24,576 entries; from there on the module may refuse, which the free value
decides; the table holds 32,768 (R200, R203). -/
def State.idCrowded (s : State) : Bool :=
  decide (32768 ≤ s.rd F.FN_STATUS_ID_USED)
    || (decide (24576 ≤ s.rd F.FN_STATUS_ID_USED) && (Config.freeWord s.freeIdx).toNat % 2 == 1)

/-- ID_INSERT of a record (R203): the entry is placed at the lowest free index. -/
def State.idInsert (s : State) (e : List DWord) : State :=
  let b := idBytes e
  if idMethod b = 3 ∨ idTagged b = 3 then s.fnDone 4 none
  else match s.idFind e with
    | some i => s.fnDone 1 (some i)
    | none =>
      let s0 := if 24576 ≤ s.rd F.FN_STATUS_ID_USED then { s with freeIdx := s.freeIdx + 1 } else s
      if s.idCrowded then ((s0.inc F.FN_ID_FAIL).raise0 Src.FN_ID_FULL 0).fnDone 2 none
      else
        let i := lowestFree 0 (s.fn.ids.map (·.1))
        let s1 := { s0 with fn := { s0.fn with ids := Sparse.put none s0.fn.ids i (some e) } }
        (s1.wr F.FN_STATUS_ID_USED (s1.rd F.FN_STATUS_ID_USED + 1)).fnDone 0 (some i)

/-- ID_DELETE of a record's key (R203). -/
def State.idDelete (s : State) (e : List DWord) : State :=
  match s.idFind e with
  | none => s.fnDone 3 none
  | some i =>
    let s1 := { s with fn := { s.fn with ids := Sparse.put none s.fn.ids i none } }
    (s1.wr F.FN_STATUS_ID_USED (s1.rd F.FN_STATUS_ID_USED - 1)).fnDone 0 (some i)

/-- ID_FIND of a record's key (R203): the index, and the stored entry in the staging record. -/
def State.idLocate (s : State) (e : List DWord) : State :=
  match s.idFind e with
  | none => s.fnDone 3 none
  | some i =>
    let x := (Sparse.get none s.fn.ids i).getD []
    let t := (List.range 7).foldl (fun t n => Sparse.put 0 t n (x.getD n 0)) s.fn.staging
    ({ s with fn := { s.fn with staging := t } }).fnDone 0 (some i)

/-- The command under way completes (R203). -/
def State.fnTick (s : State) : State :=
  match s.fn.cmd with
  | none => s
  | some (op, e) =>
    let s1 := { s with fn := { s.fn with cmd := none } }
    match op with
    | 0 => s1.fnDone 0 none
    | 1 => s1.idInsert e
    | 2 => s1.idDelete e
    | 3 => s1.idLocate e
    | _ => s1.fnDone 5 none

/-! Sequence generation (R205 to R208). -/

/-- Word `n` of a generation function. -/
def State.gen (s : State) (g n : Nat) : Nat := (Sparse.get 0 s.fn.gens (g * 2 + n)).toNat
def State.genValid (s : State) (g : Nat) : Bool := bits (s.gen g 0) 0 1 == 1
def State.genSched (s : State) (g : Nat) : Bool := bits (s.gen g 0) 1 1 == 1
def State.genTwin (s : State) (g : Nat) : Bool := bits (s.gen g 0) 2 1 == 1 && !s.genSched g

/-- Does this twin act? A single module does (R208, R262). -/
def State.acts (s : State) : Bool := !s.on F.TW_CTRL_EN || decide (s.rd F.TW_STATUS_ROLE = 4)

/-- The generation function that numbers the frames of a handle, if R-TAGs are inserted (R209). -/
def State.genOf (s : State) (h : Option Nat) : Option Nat :=
  match h with
  | none => none
  | some h =>
    if s.fnOn && s.on F.FN_CTRL_GEN_EN && s.stValid h && s.stGenEn h && s.genValid (s.stGen h) then some (s.stGen h) else none

/-- The number of a SCHED-mode launch of cycle `k` (R206). -/
def State.schedSeq (s : State) (g : Nat) (k : Int) (slot : Nat) : Nat :=
  let div : Nat := max 1 (bits (s.gen g 0) 32 16)
  let slots : Nat := max 1 (bits (s.gen g 0) 48 8)
  ((k / div * slots + slot + bits (s.gen g 1) 0 16) % 65536).toNat

/-- LAST and GEN_CNT after a number has been assigned (R205). -/
def State.genMark (s : State) (g n : Nat) : State :=
  let w := s.gen g 1
  let v := putBits (putBits w 16 16 n) 32 32 (bits w 32 32 + 1)
  { s with fn := { s.fn with gens := Sparse.put 0 s.fn.gens (g * 2 + 1) (BitVec.ofNat 64 v) } }

/-- Assign a number in EVENT mode (R207); with TWIN it is handed to the twin agent (R208, R276). -/
def State.eventSeq (s : State) (g : Nat) : State × Nat :=
  let w := s.gen g 0
  let n := bits w 16 16
  let s1 := { s with fn := { s.fn with gens := Sparse.put 0 s.fn.gens (g * 2) (BitVec.ofNat 64 (putBits w 16 16 (n + 1))) } }
  let s2 := s1.genMark g n
  (if s.genTwin g && s.on F.TW_CTRL_EN && s.on F.TW_CTRL_MIR_EN then
    { s2 with tw := { s2.tw with seqBuf := s2.tw.seqBuf ++ [(g, n, s.dt % 2 ^ 32)] } } else s2, n)

/-- Is a frame of this handle held back because the twin is not acting (R208)? -/
def State.standbyDrop (s : State) (h : Option Nat) : Bool :=
  match s.genOf h with | some g => s.genTwin g && !s.acts | none => false

/-! Sequence recovery (R212 to R218, R533). -/

/-- Word 0 of a function's configuration (R212): ALG, history length, RESET_MS. -/
def cfgMatch (w : Nat) : Bool := bits w 1 1 == 1
def cfgHist (w : Nat) : Nat := max 2 (min 128 (bits w 8 8))
def cfgResetMs (w : Nat) : Nat := bits w 16 16

def State.recCfg (s : State) (f n : Nat) : Nat := (Sparse.get 0 s.fn.recCfg (f * 2 + n)).toNat
def State.recValid (s : State) (f : Nat) : Bool := bits (s.recCfg f 0) 0 1 == 1
def State.recMatch (s : State) (f : Nat) : Bool := cfgMatch (s.recCfg f 0)
def State.recLatEn (s : State) (f : Nat) : Bool := bits (s.recCfg f 0) 3 1 == 1
/-- History length (R212). -/
def State.recHist (s : State) (f : Nat) : Nat := cfgHist (s.recCfg f 0)
def State.recResetMs (s : State) (f : Nat) : Nat := cfgResetMs (s.recCfg f 0)
def State.recPaths (s : State) (f : Nat) : Nat :=
  let n := bits (s.recCfg f 0) 48 8
  if 2 ≤ n ∧ n ≤ 8 then n else 2

def State.recOf (s : State) (f : Nat) : Rec := Sparse.get Rec.empty s.fn.recs f
def State.setRec (s : State) (f : Nat) (r : Rec) : State := { s with fn := { s.fn with recs := Sparse.put Rec.empty s.fn.recs f r } }

/-- A saturating 32-bit count (R15). -/
def inc32 (n : Nat) : Nat := min (2 ^ 32 - 1) (n + 1)

/-- A function's reset, by timeout or command (R212, R217). -/
def Rec.reset (r : Rec) : Rec := { r with takeAny := true, hist := 0, resets := inc32 r.resets }

/-- Is a number set in the history, pending ones included (R214)? -/
def Rec.seen (r : Rec) (n : Nat) (d : Int) : Bool :=
  bits r.hist d.natAbs 1 == 1 || r.pend.any (fun x => x.2 == n)

/-- Evaluate number `n` of a frame of port `p` (R213 to R215): the verdict and the counts. -/
def State.recEval (s : State) (f p n : Nat) : State × RecV :=
  let r := s.recOf f
  if r.pend.any (fun x => x.2 == n && x.1 != p) then (s.inc F.FN_PEND_WAIT, .held f n)
  else
    let accept : State × RecV := (s.setRec f { r with pend := r.pend ++ [(p, n)] }, .pending f n)
    let dup : State × RecV := (s.setRec f { r with disc := inc32 r.disc }, .drop)
    if r.takeAny then accept
    else if s.recMatch f then (if n = r.seq then dup else accept)
    else
      let d := toSigned 16 (ofSigned 16 ((n : Int) - r.seq))
      let h : Int := s.recHist f
      if h ≤ d ∨ d ≤ -h then
        (((s.setRec f { r with rogue := inc32 r.rogue }).inc F.FN_ROGUE_CNT).raise0 Src.FN_ROGUE f, .drop)
      else if d ≤ 0 ∧ r.seen n d then dup
      else if 0 < d ∧ r.pend.any (fun x => x.2 == n) then dup
      else accept

/-- Zero bits among the top `d` of `h` history bits. -/
def zeroTop (hist h d : Nat) : Nat := (List.range d).countP (fun i => bits hist (h - 1 - i) 1 == 0)

/-- A pending number is committed by the configuration word `w` that it was evaluated by (R195, R213 to R215). The distance is taken from the
RECOV_SEQ of the commit. -/
def State.recCommit (s : State) (f p n w : Nat) : State :=
  let r := s.recOf f
  let h := cfgHist w
  let d := toSigned 16 (ofSigned 16 ((n : Int) - r.seq))
  let r1 := { r with
    pend := r.pend.filter (fun x => !(x.1 == p && x.2 == n)),
    passed := inc32 r.passed,
    timer := if cfgResetMs w = 0 then 0 else s.tb.mono + cfgResetMs w * 1000000 }
  let r2 :=
    if cfgMatch w then
      { r1 with ooo := if r.takeAny ∨ n = (r.seq + 1) % 65536 then r.ooo else inc32 r.ooo, seq := n, takeAny := false }
    else if r.takeAny then { r1 with seq := n, hist := 1, takeAny := false }
    else if d ≤ 0 then
      { r1 with hist := if d.natAbs < h then putBits r.hist d.natAbs 1 1 else r.hist, ooo := inc32 r.ooo }
    else
      let k := min d.natAbs h
      { r1 with
        lost := min (2 ^ 32 - 1) (r.lost + zeroTop r.hist h k),
        hist := (r.hist * 2 ^ k + 1) % 2 ^ h, seq := n,
        ooo := if d = 1 then r.ooo else inc32 r.ooo }
  s.setRec f r2

/-- A pending number is released: it leaves no trace (R213). -/
def State.recRelease (s : State) (f p n : Nat) : State :=
  let r := s.recOf f
  s.setRec f { r with pend := r.pend.filter (fun x => !(x.1 == p && x.2 == n)) }

/-- D of the latent-error test without its base (R218). -/
def State.recDiff (s : State) (f : Nat) : Int :=
  let r := s.recOf f
  (r.passed : Int) * (s.recPaths f - 1 : Nat) - r.disc

/-- FN_CMD REC_RESET (R217). -/
def State.recResetCmd (s : State) (f : Nat) : State :=
  s.fnCmd 0 (fun s => s.setRec f (s.recOf f).reset)

/-- FN_CMD CLR_REC_CNT (R533). -/
def State.recClear (s : State) (f : Nat) : State :=
  s.fnCmd 0 (fun s =>
    let r := s.recOf f
    s.setRec f { r with passed := 0, disc := 0, ooo := 0, rogue := 0, lost := 0, tagless := 0, resets := 0, latResets := 0, latBase := 0, latErr := false })

/-- FN_CMD CLR_STREAM_CNT (R230). -/
def State.strmClear (s : State) (h : Nat) : State :=
  s.fnCmd 0 (fun s => { s with fn := { s.fn with scnt := Sparse.dropRange (h * 4) (h * 4 + 4) s.fn.scnt } })

/-- FN_CMD ID_INSERT (R203). -/
def execIdInsert (m : Nat) (s : State) : Out := .next (s.busW m 0x80030 (fun s => s.fnCmd 1 id))
/-- FN_CMD ID_DELETE (R203). -/
def execIdDelete (m : Nat) (s : State) : Out := .next (s.busW m 0x80030 (fun s => s.fnCmd 2 id))
/-- FN_CMD ID_FIND (R203). -/
def execIdFind (m : Nat) (s : State) : Out := .next (s.busW m 0x80030 (fun s => s.fnCmd 3 id))
/-- FN_CMD REC_RESET (R217). -/
def execRecReset (m : Nat) (f : BitVec 15) (s : State) : Out := .next (s.busW m 0x80030 (fun s => s.recResetCmd f.toNat))
/-- FN_CMD CLR_REC_CNT (R533). -/
def execClrRecCnt (m : Nat) (f : BitVec 15) (s : State) : Out := .next (s.busW m 0x80030 (fun s => s.recClear f.toNat))
/-- FN_CMD CLR_STREAM_CNT (R230). -/
def execClrStreamCnt (m : Nat) (h : BitVec 15) (s : State) : Out := .next (s.busW m 0x80030 (fun s => s.strmClear h.toNat))

/-- A recovery function's TIMER has reached 0 (R217). -/
def execRecoveryTimeout (f : BitVec 15) (s : State) : Out :=
  let r := s.recOf f.toNat
  .next (if s.recResetMs f.toNat ≠ 0 ∧ r.timer ≠ 0 ∧ r.timer ≤ s.tb.mono then s.setRec f.toNat { r.reset with timer := 0 } else s)

/-- Do the latent-error test and reset run (R533)? -/
def State.latRuns (s : State) (f : Nat) : Bool :=
  s.fnOn && s.on F.FN_CTRL_REC_EN && s.recValid f && s.recLatEn f

/-- The latent-error test, every LAT_PERIOD ms (R218, R533). -/
def execLatentTest (f : BitVec 15) (s : State) : Out :=
  let i := f.toNat
  let r := s.recOf i
  .next (if r.latAt + max 1 (bits (s.recCfg i 1) 0 16) * 1000000 ≤ s.tb.mono then
    if s.latRuns i ∧ bits (s.recCfg i 0) 32 16 < (s.recDiff i - r.latBase).natAbs then
      ((s.setRec i { r with latAt := s.tb.mono, latErr := true }).inc F.FN_LATENT_CNT).raise0 Src.FN_LATENT i
    else s.setRec i { r with latAt := s.tb.mono }
  else s)

/-- The latent-error reset, every LAT_RESET s (R218, R533). -/
def execLatentReset (f : BitVec 15) (s : State) : Out :=
  let i := f.toNat
  let r := s.recOf i
  .next (if r.latRstAt + max 1 (bits (s.recCfg i 1) 16 16) * 1000000000 ≤ s.tb.mono then
    if s.latRuns i then
      s.setRec i { r with latRstAt := s.tb.mono, latBase := s.recDiff i, latErr := false, latResets := inc32 r.latResets }
    else s.setRec i { r with latRstAt := s.tb.mono }
  else s)

/-! FINING's memory window (R195, R230). -/

/-- Number of words and words per record of a window space (R230). -/
def fnSpace (sp : Nat) : Nat × Nat :=
  match sp with
  | 0 => (131072, 4)
  | 1 => (65536, 2)
  | 2 => (7, 7)
  | 3 => (229376, 7)
  | 4 => (32768, 2)
  | 5 => (65536, 2)
  | 6 => (131072, 4)
  | _ => (131072, 4)

/-- The bits of a record word that software may write: reserved bits read 0 (R13), bytes the module writes stay (R205). -/
def fnMask (sp n : Nat) : Nat :=
  match sp, n with
  | 0, 0 => 0x3FFF077703FF007F
  | 0, 1 => 0x03FF3FFF0FFF7FFF
  | 0, _ => 0
  | 2, 0 => 0x7FFF03FF0FFF003F
  | 2, 1 => 0xFF3FFFFFFFFFFFFF
  | 2, 6 => 0x00000001FFFFFFFF
  | 2, _ => 0xFFFFFFFFFFFFFFFF
  | 4, 0 => 0x00FFFFFFFFFF0007
  | 4, _ => 0xFFFF
  | 5, 0 => 0x00FFFFFFFFFFFF0F
  | _, _ => 0xFFFFFFFF

/-- The table that a writable space selects. -/
def State.fnTable (s : State) (sp : Nat) : List (Nat × DWord) :=
  match sp with
  | 0 => s.fn.streams
  | 2 => s.fn.staging
  | 4 => s.fn.gens
  | _ => s.fn.recCfg

def State.setFnTable (s : State) (sp : Nat) (t : List (Nat × DWord)) : State :=
  match sp with
  | 0 => { s with fn := { s.fn with streams := t } }
  | 2 => { s with fn := { s.fn with staging := t } }
  | 4 => { s with fn := { s.fn with gens := t } }
  | _ => { s with fn := { s.fn with recCfg := t } }

/-- Merge the writable bits of a word into the stored one. -/
def mergeWord (mask : Nat) (old new : DWord) : DWord :=
  BitVec.ofNat 64 ((old.toNat &&& (2 ^ 64 - 1 - mask)) ||| (new.toNat &&& mask))

/-- Apply a whole record: the words held since its last application, the others as they stand (R195). -/
def applyRecord (mask : Nat → Nat) (base : Nat) (held : Nat → Option DWord) (t : List (Nat × DWord)) (n : Nat) : List (Nat × DWord) :=
  (List.range n).foldl (fun t i => match held i with
    | some v => Sparse.put 0 t (base + i) (mergeWord (mask i) (Sparse.get 0 t (base + i)) v)
    | none => t) t

/-- A change of ALG or HIST of a VALID function resets it (R212). -/
def State.recCfgChanged (s : State) (f old : Nat) : State :=
  let new := s.recCfg f 0
  if bits old 0 1 = 1 ∧ (bits old 1 1 ≠ bits new 1 1 ∨ bits old 8 8 ≠ bits new 8 8) then s.setRec f (s.recOf f).reset else s

/-- The window write that FN_MDATA_HI completes (R195, R230, R532). -/
def State.fnStore (s : State) (w : Nat) : State :=
  let sp := s.rd F.FN_MSEL
  let a := s.rd F.FN_MADDR
  let z := fnSpace sp
  if s.on F.FN_STATUS_WIPING ∨ ¬ (sp = 0 ∨ sp = 2 ∨ sp = 4 ∨ sp = 5) ∨ z.1 ≤ a then s.wr F.FN_STATUS_WIN_REJ 1
  else
    let base := a / z.2 * z.2
    let key (i : Nat) : Nat := sp * 2 ^ 18 + base + i
    let part := Sparse.put none s.fn.part (key (a % z.2)) (some (BitVec.ofNat 64 w))
    if a % z.2 + 1 < z.2 then { s with fn := { s.fn with part := part } }
    else
      let t := applyRecord (fnMask sp) base (fun i => Sparse.get none part (key i)) (s.fnTable sp) z.2
      let s1 := ({ s with fn := { s.fn with part := Sparse.dropRange (key 0) (key z.2) part } }).setFnTable sp t
      if sp = 5 then s1.recCfgChanged (base / 2) (s.recCfg (base / 2) 0) else s1

/-- A word of a FINING window space (R212, R230). -/
def State.fnPeek (s : State) (sp a : Nat) : Nat :=
  if (fnSpace sp).1 ≤ a ∨ s.on F.FN_STATUS_WIPING then 0
  else match sp with
    | 0 => (Sparse.get 0 s.fn.streams a).toNat
    | 1 =>
      let c (i : Nat) : Nat := Sparse.get 0 s.fn.scnt (a / 2 * 4 + i)
      if a % 2 = 0 then c 0 + c 1 * 2 ^ 32 else c 2
    | 2 => (Sparse.get 0 s.fn.staging a).toNat
    | 3 => (match Sparse.get none s.fn.ids (a / 7) with | some e => (e.getD (a % 7) 0).toNat | none => 0)
    | 4 => (Sparse.get 0 s.fn.gens a).toNat
    | 5 => (Sparse.get 0 s.fn.recCfg a).toNat
    | 6 =>
      let r := s.recOf (a / 4)
      (match a % 4 with
        | 0 => r.hist % 2 ^ 64
        | 1 => r.hist / 2 ^ 64 % 2 ^ 64
        | 2 => r.seq + (r.takeAny.toNat + r.latErr.toNat * 2) * 2 ^ 16 + min 255 r.pend.length * 2 ^ 24
            + (r.timer - s.tb.mono + 999999) / 1000000 % 2 ^ 32 * 2 ^ 32
        | _ => ofSigned 32 r.latBase)
    | _ =>
      let r := s.recOf (a / 4)
      (match a % 4 with
        | 0 => r.passed + r.disc * 2 ^ 32
        | 1 => r.ooo + r.rogue * 2 ^ 32
        | 2 => r.lost + r.tagless * 2 ^ 32
        | _ => r.resets + r.latResets * 2 ^ 32)

/-- The effect of a write of the window's data high word (R12). -/
def State.fnMdata (s : State) (m hi : Nat) : State := s.winWrite m 0x80048 hi F.FN_MADDR State.fnStore

/-- A write of FN_MDATA_HI (R230). -/
def execFnMdataWrite (m : Nat) (hi : Word) (s : State) : Out :=
  .next (s.busW m 0x8004C (fun s => s.fnMdata m hi.toNat))

end Sys2Proof.Machine
end

