-- ==== Sys2Proof/Machine/Lauter.lean ====
section
/-!
DEFINITION. LAUTER: token-bucket shapers, the timing wheel, credit-based shapers, received PAUSE and PFC, queue pauses and the
window (R233 to R259).
Where the manual leaves a point open, the choices are log entries 38 (DEDUCED).
-/

namespace Sys2Proof.Machine

/-- LAUTER runs (R233); its registers are at reset values while it wipes. -/
def State.ltOn (s : State) : Bool := s.on F.LT_CTRL_EN

/-! Token-bucket shapers (R234 to R238). -/

/-- Units of TOKENS per byte: 2¹⁶ × 15,625, so that a rate of 1 kb/s adds 128 units each ns. -/
def shpUnit : Int := 1024000000

def State.shWord (s : State) (i n : Nat) : Nat := (Sparse.get 0 s.lt.words (i * 4 + n)).toNat
def State.shp (s : State) (i : Nat) : Shp := Sparse.get Shp.empty s.lt.shps i
def State.setShp (s : State) (i : Nat) (r : Shp) : State :=
  let old := (s.shp i).elig.isSome.toNat
  ({ s with lt := { s.lt with shps := Sparse.put Shp.empty s.lt.shps i r } }).wr F.LT_STATUS_ON_WHEEL
    (s.rd F.LT_STATUS_ON_WHEEL + r.elig.isSome.toNat - old)

def State.shRate (s : State) (i : Nat) : Nat := min 10000000 (bits (s.shWord i 0) 0 32)
def State.shBurst (s : State) (i : Nat) : Nat := max 64 (bits (s.shWord i 0) 32 24)
def State.shValid (s : State) (i : Nat) : Bool := bits (s.shWord i 1) 0 1 == 1
def State.shOverhead (s : State) (i : Nat) : Bool := bits (s.shWord i 1) 2 1 == 1
/-- The parent of a shaper; 0 to 255 have none (R235). -/
def State.shParent (s : State) (i : Nat) : Option Nat :=
  if 256 ≤ i ∧ bits (s.shWord i 1) 1 1 = 1 then some (bits (s.shWord i 1) 16 8) else none

/-- TOKENS now: they grow at RATE while below BURST (R236). -/
def State.shAccrue (s : State) (i : Nat) : Shp :=
  let r := s.shp i
  let cap := (s.shBurst i : Int) * shpUnit
  { r with
    tok := if r.tok < cap then min cap (r.tok + ((s.shRate i * 128 * (s.tb.mono - r.at_) : Nat) : Int)) else r.tok,
    at_ := s.tb.mono }

/-- Wheel level for a distance in ns; 4 is the overflow list (R239). -/
def wheelLevel (d : Nat) : Nat :=
  if d < 8192 then 1 else if d < 2097152 then 2 else if d < 536870912 then 3 else 4

/-- Place a shaper in debt: NEXT_ELIG = now + debt ÷ RATE, rounded up to a whole ns; with RATE 0 it is off the wheel
(R236, R238). -/
def State.shPlace (s : State) (i : Nat) (r : Shp) : State :=
  if 0 ≤ r.tok then s.setShp i r
  else if s.shRate i = 0 then s.setShp i { r with elig := none, lvl := 0 }
  else
    let d := ((-r.tok).toNat + s.shRate i * 128 - 1) / (s.shRate i * 128)
    s.setShp i { r with elig := some (s.tb.mono + d), lvl := wheelLevel d }

/-- The least TOKENS: the limit of the field (R234). -/
def shpMin : Int := -(2 ^ 63 * 15625)

/-- Take `n` bytes from a shaper (R236). -/
def State.shDebit (s : State) (i n : Nat) : State :=
  let r := s.shAccrue i
  s.shPlace i { r with tok := max shpMin (r.tok - (n : Int) * shpUnit) }

/-- Charge a frame of `l` bytes (R236, R237). -/
def State.shCharge (s : State) (i l : Nat) : State := s.shDebit i (l + if s.shOverhead i then 20 else 0)

/-- A shaper is eligible while RATE is above 0, TOKENS are not negative and it does not wait on the wheel (R236, R240). -/
def State.shEligible (s : State) (i : Nat) : Bool :=
  decide (0 < s.shRate i) && (s.shp i).elig.isNone && decide (0 ≤ (s.shAccrue i).tok)

/-- The binding of a frame: its source number, egress port and class (R235). -/
def State.binding (s : State) (src p c : Nat) : Nat :=
  if src < 1024 then Sparse.get 0 s.lt.qbind src
  else if (src = 1025 ∨ src = 1026) ∧ p < 2 then Sparse.get 0 s.lt.pbind (p * 8 + c)
  else 0

/-- Token-bucket shapers run (R258). -/
def State.tbOn (s : State) : Bool := s.ltOn && s.on F.LT_CTRL_TB_EN

/-- Does a frame's binding name a shaper whose VALID is 0 (R235)? -/
def State.noShp (s : State) (src p c : Nat) : Bool :=
  let b := s.binding src p c
  s.tbOn && bits b 31 1 == 1 && !s.shValid (bits b 0 12)

/-- The shapers that a frame is charged to: the bound one and its parent (R235). -/
def State.shapersOf (s : State) (src p c : Nat) : List Nat :=
  let b := s.binding src p c
  let i := bits b 0 12
  if s.tbOn ∧ bits b 31 1 = 1 ∧ s.shValid i then
    match s.shParent i with
    | some q => if s.shValid q then [i, q] else [i]
    | none => [i]
  else []

/-- Apply a written record (R234, R238). -/
def State.shApply (s : State) (i : Nat) (w0 w1 : Option DWord) : State :=
  let r := s.shAccrue i
  let t0 := match w0 with | some v => Sparse.put 0 s.lt.words (i * 4) (BitVec.ofNat 64 (v.toNat % 2 ^ 56)) | none => s.lt.words
  let t1 := match w1 with | some v => Sparse.put 0 t0 (i * 4 + 1) (BitVec.ofNat 64 (v.toNat &&& 0xFF0007)) | none => t0
  let s1 := { s with lt := { s.lt with words := t1 } }
  let cap := (s1.shBurst i : Int) * shpUnit
  let refill : Bool := match w1 with | some v => bits v.toNat 3 1 == 1 | none => false
  let r1 := { r with tok := if refill then cap else min r.tok cap }
  if 0 ≤ r1.tok then (if refill ∨ s1.shRate i = 0 then s1.setShp i { r1 with elig := none, lvl := 0 } else s1.setShp i r1)
  else s1.shPlace i r1

/-! The timing wheel (R239, R240). -/

/-- The DT of an instant of the wheel: the shapers keep instants that steps do not move (R241). -/
def State.eligDt (s : State) (e : Nat) : Nat := e + s.dt - s.tb.mono

/-- Shapers due in the slot of DT that begins at `t`, ascending. -/
def State.shDue (s : State) (t : Nat) : List Nat :=
  (s.lt.shps.filter (fun x => x.2.lvl == 1 && (match x.2.elig with | some e => decide (s.eligDt e ≤ t) | none => false))).map (·.1)

/-- A level-1 slot grants up to 32 shapers; the rest slip to the next slot (R240). -/
def execShaperGrant (s : State) : Out :=
  let slot := s.dt / 32
  .next (if s.lt.slot = slot + 1 then s
  else
    let due := s.shDue (slot * 32)
    let s1 := { s with lt := { s.lt with slot := slot + 1 } }
    ((due.take 32).foldl (fun s i => s.setShp i { s.shp i with elig := none, lvl := 0 }) s1).add F.LT_WHEEL_SLIP (due.length - 32))

/-- Where an entry belongs now, one level down at most; slots are spans of DT (R239). -/
def State.migrate (s : State) (r : Shp) : Shp :=
  match r.elig, r.lvl with
  | some e, 2 => if s.eligDt e / 8192 ≤ s.dt / 8192 + 1 then { r with lvl := 1 } else r
  | some e, 3 => if s.eligDt e / 2097152 ≤ s.dt / 2097152 + 1 then { r with lvl := 2 } else r
  | some e, 4 => if e - s.tb.mono < 536870912 then { r with lvl := 3 } else r
  | _, _ => r

/-- Entries of the upper levels and of the overflow list move down one level ahead of their slot (R239). -/
def execWheelMigrate (s : State) : Out :=
  .next { s with lt := { s.lt with shps := s.lt.shps.map (fun x => (x.1, s.migrate x.2)) } }

/-! Credit-based shapers (R242, R243). -/

/-- A class's credit-based shaper runs (R242). -/
def State.cbsRuns (s : State) (p c : Nat) : Bool :=
  s.ltOn && s.on F.LT_CTRL_CBS_EN && bits (s.rd (F.LT_Pn_CTRL_CBS_MASK p)) c 1 == 1

def State.credit (s : State) (p c : Nat) : Int := Sparse.get 0 s.lt.credit (p * 8 + c)

/-- Set a credit; CREDIT_OK falls with a negative credit, and rises again with R242's restoration. -/
def State.setCredit (s : State) (p c : Nat) (v : Int) : State :=
  let s1 := { s with lt := { s.lt with credit := Sparse.put 0 s.lt.credit (p * 8 + c) v } }
  if v < 0 then s1.wrBit (F.LT_Pn_STATUS_CREDIT_OK p) c false else s1

/-- IDLE_SLOPE and HI_CREDIT in force; all ones is no cap (R243). -/
def State.slope (s : State) (p c : Nat) : Nat := Sparse.get 0 s.lt.slope (p * 8 + c)
def State.hiCredit (s : State) (p c : Nat) : Nat := Sparse.get 0xFFFFFFFF s.lt.hi (p * 8 + c)

/-- Written slopes and caps come into force at a frame boundary of the port (R243). -/
def State.slopesApply (s : State) (p : Nat) : State :=
  (List.range 8).foldl (fun s c =>
    let hi := s.rd (F.LT_Pn_HI_CREDIT_c p c)
    let s1 := { s with lt := { s.lt with slope := Sparse.put 0 s.lt.slope (p * 8 + c) (s.rd (F.LT_Pn_IDLE_SLOPE_c p c)), hi := Sparse.put 0xFFFFFFFF s.lt.hi (p * 8 + c) hi } }
    if hi ≠ 0xFFFFFFFF ∧ (hi : Int) * 1000000 < s1.credit p c then s1.setCredit p c ((hi : Int) * 1000000) else s1) s

/-- SLOPE_OVER after a write of a slope, the mask or the rate; its onset raises LT_CFG (R243). -/
def State.slopeCheck (s : State) (p : Nat) : State :=
  let sum := ((List.range 8).map (fun c => if bits (s.rd (F.LT_Pn_CTRL_CBS_MASK p)) c 1 = 1 then s.rd (F.LT_Pn_IDLE_SLOPE_c p c) else 0)).sum
  if s.portRate p < sum then
    (if s.on (F.LT_Pn_STATUS_SLOPE_OVER p) then s else (s.wr (F.LT_Pn_STATUS_SLOPE_OVER p) 1).raise0 Src.LT_CFG p)
  else s.wr (F.LT_Pn_STATUS_SLOPE_OVER p) 0

/-- A class's credit has come back to 0: it may start frames again (R242). -/
def execCbsCreditRestored (p : Fin 10) (c : Fin 8) (s : State) : Out :=
  .next (if 0 ≤ s.credit p.val c.val then s.wrBit (F.LT_Pn_STATUS_CREDIT_OK p.val) c.val true else s)

/-- May a class start an untimed frame by its credit (R242)? -/
def State.creditOk (s : State) (p c : Nat) : Bool :=
  !s.cbsRuns p c || bits (s.rd (F.LT_Pn_STATUS_CREDIT_OK p)) c 1 == 1

/-! PAUSE and PFC (R246 to R248). -/

/-- Is class `c` of port `p` paused now (R247)? -/
def State.paused (s : State) (p c : Nat) : Bool := s.ltOn && bits (s.rd (F.LT_Pn_STATUS_PAUSED p)) c 1 == 1

/-- Set or end the pause of a class; the end in tenths of a ns. -/
def State.setPause (s : State) (p c : Nat) (t : Option Nat) : State :=
  ({ s with lt := { s.lt with pause := Sparse.put none s.lt.pause (p * 8 + c) t } }).wrBit (F.LT_Pn_STATUS_PAUSED p) c t.isSome

/-- A pause of `quanta` × 512 bit times, cut to PAUSE_MAX; counted once per frame (R247). -/
def State.pauseLen (s : State) (p quanta : Nat) : Nat × Bool :=
  let t := quanta * 64 * s.byteTime p
  let cap := s.rd (F.LT_Pn_PAUSE_MAX p) % 65536 * 10000
  if cap ≠ 0 ∧ cap < t then (cap, true) else (t, false)

/-- Pause one class for a received time, if it is pausable (R247). -/
def State.pauseClass (s : State) (p c quanta : Nat) : State :=
  if bits (s.rd (F.LT_Pn_CTRL_PAUSABLE p)) c 1 = 1 then
    let t := s.pauseLen p quanta
    let s1 := if t.2 then s.inc (F.LT_Pn_PAUSE_CAP p) else s
    s1.setPause p c (if t.1 = 0 then none else some (s.now10 + t.1))
  else s

/-- A valid PAUSE frame (R246, R247). -/
def State.pauseRx (s : State) (p quanta : Nat) : State :=
  if p < 2 ∧ s.on F.LT_CTRL_PAUSE_EN ∧ s.on (F.LT_Pn_CTRL_PAUSE_RX_EN p) then
    let classes := (List.range 8).filter (fun c => bits (s.rd (F.LT_Pn_CTRL_PAUSABLE p)) c 1 == 1)
    let t := s.pauseLen p quanta
    let s1 := (s.inc (F.LT_Pn_PAUSE_RX p)).add (F.LT_Pn_PAUSE_CAP p) t.2.toNat
    classes.foldl (fun s c => s.setPause p c (if t.1 = 0 then none else some (s.now10 + t.1))) s1
  else s.inc (F.LT_Pn_PAUSE_IGN p)

/-- A valid PFC frame: priority-enable vector and eight times (R246, R247). -/
def State.pfcRx (s : State) (p enable : Nat) (times : List Nat) : State :=
  if p < 2 ∧ s.on F.LT_CTRL_PAUSE_EN ∧ s.on (F.LT_Pn_CTRL_PFC_EN p) then
    ((List.range 8).filter (fun i => bits enable i 1 == 1)).foldl
      (fun s i => s.pauseClass p (bits (s.rd (F.LT_Pn_PFC_MAP_MAP p)) (3 * i) 3) (times.getD i 0)) (s.inc (F.LT_Pn_PFC_RX p))
  else s.inc (F.LT_Pn_PAUSE_IGN p)

/-- A valid PAUSE frame on port `p` (R247). -/
def execPauseRx (p : Fin 10) (quanta : BitVec 16) (s : State) : Out := .next (s.pauseRx p.val quanta.toNat)

/-- A valid PFC frame on port `p` (R247). -/
def execPfcRx (p : Fin 10) (enable : BitVec 8) (times : List (BitVec 16)) (s : State) : Out :=
  .next (s.pfcRx p.val enable.toNat (times.map BitVec.toNat))

/-- A class's pause time has run out (R247). -/
def execPauseExpiry (p : Fin 10) (c : Fin 8) (s : State) : Out :=
  .next (match Sparse.get none s.lt.pause (p.val * 8 + c.val) with
    | some e => if e ≤ s.now10 then s.setPause p.val c.val none else s
    | none => s)

/-! Queue pauses (R249). -/

/-- Is a queue paused now? -/
def State.qPaused (s : State) (q : Nat) : Bool := s.ltOn && (Sparse.get none s.lt.qpause q).isSome

/-- Set or end a queue's pause. -/
def State.setQPause (s : State) (q : Nat) (v : Option (Option Nat)) : State :=
  { s with lt := { s.lt with qpause := Sparse.put none s.lt.qpause q v } }

/-- Apply a queue-pause command; while LAUTER wipes it changes nothing (R532). -/
def State.queuePause (s : State) (q us : Nat) : State :=
  if s.on F.LT_STATUS_WIPING then s else (s.setQPause q (if us = 0 then none else if us = 0xFFFF then some none else some (some (s.tb.mono + us * 1000)))).inc F.LT_QP_CNT

/-- A write of LT_QPAUSE with GO: any master with W on LAUTER (R249). -/
def State.ltQPause (s : State) (m q us : Nat) : State :=
  if !s.takes m then s
  else if s.may 0x0A m permW then (if s.heldBlk 0x0A then s else s.queuePause q us)
  else (s.deny 1 m 0x0A 0x0020).inc F.LT_QP_REJ

/-- The SQ that a master owns under a local index (R292). -/
def State.localSq (s : State) (m l : Nat) : Option Nat :=
  (List.range 1024).find? (fun q => s.sqOwner q == m && s.rd (F.QE_SQ_OWNER_LOCAL q) == l)

/-- A write of VF_QPAUSE with GO: W on QENG, and the VF must own the local index (R326, R535). -/
def State.vfQPause (s : State) (m l us : Nat) : State :=
  if !s.takes m then s
  else if s.may 0x0E m permW then
    if s.heldBlk 0x0E then s
    else match s.localSq m l with
    | some q => s.queuePause q us
    | none => s.inc F.QE_CFG_REJ
  else s.deny 1 m 0x0E 0x0D00

/-- A queue pause, by LT_QPAUSE with a global queue number or by VF_QPAUSE with a local one (R249, R326). -/
def execQueuePause (m : Nat) (vf : Bool) (q us : BitVec 16) (s : State) : Out :=
  .next (if vf then s.vfQPause m (q.toNat % 64) us.toNat else s.ltQPause m (q.toNat % 1024) us.toNat)

/-- A queue's pause has run out (R249). -/
def execQueuePauseExpiry (q : BitVec 10) (s : State) : Out :=
  .next (match Sparse.get none s.lt.qpause q.toNat with
    | some (some e) => if e ≤ s.tb.mono then s.setQPause q.toNat none else s
    | _ => s)

/-! LAUTER's memory window (R234, R259). -/

/-- The window write that LT_MDATA_HI completes (R234, R259, R532). -/
def State.ltStore (s : State) (w : Nat) : State :=
  let a := s.rd F.LT_MADDR
  let v : DWord := BitVec.ofNat 64 w
  if s.on F.LT_STATUS_WIPING then s.wr F.LT_STATUS_WIN_REJ 1
  else match s.rd F.LT_MSEL with
    | 0 =>
      let base := a / 4 * 4
      let part := Sparse.put none s.lt.part a (some v)
      if a % 4 < 3 then { s with lt := { s.lt with part := part } }
      else
        ({ s with lt := { s.lt with part := Sparse.dropRange base (base + 4) part } }).shApply (a / 4)
          (Sparse.get none part base) (Sparse.get none part (base + 1))
    | 1 =>
      if a < 1024 then { s with lt := { s.lt with qbind := Sparse.put 0 s.lt.qbind a (w &&& 0x80000FFF) } }
      else s.wr F.LT_STATUS_WIN_REJ 1
    | 2 =>
      if a < 16 then { s with lt := { s.lt with pbind := Sparse.put 0 s.lt.pbind a (w &&& 0x80000FFF) } }
      else s.wr F.LT_STATUS_WIN_REJ 1
    | _ => s.wr F.LT_STATUS_WIN_REJ 1

/-- A word of a LAUTER window space (R234, R259). -/
def State.ltPeek (s : State) (sp a : Nat) : Nat :=
  if s.on F.LT_STATUS_WIPING then 0
  else match sp with
    | 0 =>
      let r := s.shAccrue (a / 4)
      (match a % 4 with
        | 2 => ofSigned 64 (r.tok / 15625)
        | 3 => (match r.elig with
          | some e => s.eligDt e
          | none => if r.tok < 0 then 2 ^ 64 - 1 else 0)
        | n => s.shWord (a / 4) n)
    | 1 => if a < 1024 then Sparse.get 0 s.lt.qbind a else 0
    | 2 => if a < 16 then Sparse.get 0 s.lt.pbind a else 0
    | _ =>
      if 1024 ≤ a then 0
      else match Sparse.get none s.lt.qpause a with
        | none => 0
        | some none => 0x8000FFFF
        | some (some e) => 0x80000000 + min 0xFFFE ((e - s.tb.mono + 999) / 1000)

/-- The effect of a write of the window's data high word (R12). -/
def State.ltMdata (s : State) (m hi : Nat) : State := s.winWrite m 0xA0018 hi F.LT_MADDR State.ltStore

/-- A write of LT_MDATA_HI (R259). -/
def execLtMdataWrite (m : Nat) (hi : Word) (s : State) : Out :=
  .next (s.busW m 0xA001C (fun s => s.ltMdata m hi.toNat))

end Sys2Proof.Machine
end

