-- ==== Sys2Proof/Machine/Ptp.lean ====
section
/-!
DEFINITION. PTP messages on the wire: where the header lies, what a transparent clock adds as a frame leaves, and the
residence tables of the two-step modes (R44 to R48).
Where the manual leaves a point open, the choices are log entries 25 (DEDUCED).
-/

namespace Sys2Proof.Machine

/-- Offset of the PTP header of a frame: over Ethernet, or over UDP ports 319 and 320 on IPv4 and IPv6 (R44). -/
def ptpOff (f : List Byte) : Option Nat :=
  let o := etOff f + 2
  if etherType f = 0x88F7 then some o
  else
    let p := parse f
    match p.ip, p.ports with
    | some v, some (_, d) =>
      if p.proto = 17 ∧ (beNat d = 319 ∨ beNat d = 320) then
        some (if v = 0 then o + ((slice f o 1).headD 0).toNat % 16 * 4 + 8 else o + 48)
      else none
    | _, _ => none

/-- Offset of the UDP header before a PTP header, and the IP version; none over Ethernet. -/
def ptpUdp (f : List Byte) (ptp : Nat) : Option (Nat × Nat) :=
  if etherType f = 0x88F7 then none else (parse f).ip.map (fun v => (ptp - 8, v))

def ptpType (f : List Byte) (o : Nat) : Nat := ((slice f o 1).headD 0).toNat % 16
def ptpDomain (f : List Byte) (o : Nat) : Nat := ((slice f (o + 4) 1).headD 0).toNat
def ptpTwoStep (f : List Byte) (o : Nat) : Bool := bits ((slice f (o + 6) 1).headD 0).toNat 1 1 == 1

/-- Domain, sourcePortIdentity and sequenceId of a message (R47). -/
def ptpKey (f : List Byte) (o : Nat) : Nat := beNat (slice f (o + 4) 1 ++ slice f (o + 20) 12)

/-- A PTP event message: Sync, Delay_Req, Pdelay_Req or Pdelay_Resp. -/
def ptpEvent (f : List Byte) : Bool := match ptpOff f with | some o => decide (ptpType f o ≤ 3) | none => false

/-- Add to the correctionField, in 2⁻¹⁶ ns; a UDP checksum is set to 0 on IPv4 and corrected incrementally on IPv6 (R46). -/
def ptpCorrect (f : List Byte) (o : Nat) (add : Int) : List Byte :=
  let old := slice f (o + 8) 8
  let new := beBytes 8 (ofSigned 64 (toSigned 64 (beNat old) + add))
  let g := patch f (o + 8) new
  match ptpUdp f o with
  | none => g
  | some (u, 0) => patch g (u + 6) [0, 0]
  | some (u, _) =>
    let c := be16 f (u + 6)
    let part := (65535 - c) + sum16 new + (4 * 65535 - sum16 old)
    patch g (u + 6) (beBytes 2 (65535 - fold16 part))

/-- The transparent-clock mode; other values act as 0, and the 802.1AS profile relays no time (R45). -/
def State.tcMode (s : State) : Nat :=
  if s.rd F.TB_PTP_CFG_TC_MODE ≤ 4 ∧ s.rd F.TB_PTP_CFG_PROFILE ≠ 1 then s.rd F.TB_PTP_CFG_TC_MODE else 0

/-- A residence entry enters the table of its direction; a full table drops its oldest entry (R47). -/
def State.fuAdd (s : State) (dirB : Bool) (e : FuEntry) : State :=
  let l := if dirB then s.tb.fuB else s.tb.fuA
  let full := decide (256 ≤ l.length)
  let s1 := if full then s.inc F.TB_TC_CNT_FU_MISS else s
  let l1 := (if full then l.drop 1 else l) ++ [e]
  if dirB then { s1 with tb := { s1.tb with fuB := l1 } } else { s1 with tb := { s1.tb with fuA := l1 } }

/-- Take the entry of a Follow_Up out of its table (R47). -/
def State.fuTake (s : State) (dirB : Bool) (key : Nat) : State × Option Int :=
  let l := if dirB then s.tb.fuB else s.tb.fuA
  match l.find? (fun e => e.key == key) with
  | none => (s, none)
  | some e =>
    let l1 := l.filter (fun x => x.key != key)
    (if dirB then { s with tb := { s.tb with fuB := l1 } } else { s with tb := { s.tb with fuA := l1 } }, some e.residence)

/-- A pass-through frame of port `p` leaves with egress stamp `eg`, having come with `ing`: what the transparent clock does to
it (R46 to R48). -/
def State.ptpForward (s : State) (p : Nat) (ing eg : Stamp) (f : List Byte) : State × List Byte :=
  match ptpOff f with
  | none => (s, f)
  | some o =>
    let m := s.tcMode
    let t := ptpType f o
    let link : Int := if m = 3 ∨ m = 4 then (Sparse.get 0 s.tb.linkDly p : Nat) else 0
    let res : Int := (eg.quarters - ing.quarters) * 16384 + link
    if ¬ s.on F.TB_CTRL_PTP_EN ∨ m = 0 then (s, f)
    else if m = 1 then (if t ≤ 3 then (s, ptpCorrect f o res) else (s, f))
    else if m = 3 then (if t = 0 then (s, ptpCorrect f o res) else (s, f))
    else if t = 0 then
      if ptpTwoStep f o then (s.fuAdd (decide (p = 1)) ⟨ptpKey f o, res, s.tb.mono⟩, f) else (s, ptpCorrect f o res)
    else if t = 8 then
      match s.fuTake (decide (p = 1)) (ptpKey f o) with
      | (s1, some r) => (s1, ptpCorrect f o r)
      | (s1, none) => (s1.inc F.TB_TC_CNT_FU_ORPHAN, f)
    else (s, f)

/-- A PTP time stamp: seconds in 6 bytes, ns in 4. -/
def ptpTime (ns : Nat) : List Byte := beBytes 6 (ns / 1000000000) ++ beBytes 4 (ns % 1000000000)

/-- What a message of the module's own carries of its egress instant: a one-step Sync its time, a Pdelay_Resp its turnaround
(R48, R49). -/
def ptpOwn (ing eg : Stamp) (f : List Byte) : List Byte :=
  match ptpOff f with
  | none => f
  | some o =>
    if ptpType f o = 0 then patch f (o + 34) (ptpTime eg.ns.toNat)
    else if ptpType f o = 3 then ptpCorrect f o ((eg.quarters - ing.quarters) * 16384)
    else f

/-- `n` free bytes. -/
def State.freeBytes (s : State) (n : Nat) : State × List Byte :=
  ({ s with freeIdx := s.freeIdx + n }, (List.range n).map (fun i => Config.freeByte (s.freeIdx + i)))

/-- A PTP message of the module's own over Ethernet, in the layout of IEEE 1588: destination, type, domain, flags, control and
interval, with the clock identity and the sequence number free. -/
def State.ptpMessage (s : State) (p type domain : Nat) (body : List Byte) : State × List Byte :=
  let f := s.freeBytes 10
  let da : List Byte := if type = 2 ∨ type = 3 then [0x01, 0x80, 0xC2, 0, 0, 0x0E] else [0x01, 0x1B, 0x19, 0, 0, 0]
  let hdr := beBytes 1 type ++ beBytes 1 2 ++ beBytes 2 (34 + body.length) ++ beBytes 1 domain ++ beBytes 1 0 ++ beBytes 2 0
    ++ beBytes 8 0 ++ beBytes 4 0 ++ f.2.take 8 ++ beBytes 2 (p + 1) ++ f.2.drop 8
    ++ beBytes 1 (if type = 0 then 0 else if type = 1 then 1 else if type = 9 then 3 else 5) ++ beBytes 1 0x7F
  (f.1, da ++ s.portMac p ++ beBytes 2 0x88F7 ++ hdr ++ body)

/-- Give a message the sequence number of the request that it answers. -/
def ptpAnswerSeq (req msg : List Byte) (o : Nat) : List Byte := patch msg 44 (slice req (o + 30) 2)

/-- The Delay_Resp or Pdelay_Resp that answers a request received with stamp `t` (R49). -/
def State.ptpAnswer (s : State) (p : Nat) (req : List Byte) (o : Nat) (t : Stamp) : State × List Byte :=
  let m := s.ptpMessage p (if ptpType req o = 1 then 9 else 3) (ptpDomain req o)
    ((if ptpType req o = 1 then ptpTime t.ns.toNat else ptpTime 0) ++ slice req (o + 20) 10)
  (m.1, ptpAnswerSeq req m.2 o)

end Sys2Proof.Machine
end

