-- ==== Sys2Proof/Machine/Launch.lean ====
section
/-!
DEFINITION. LAUNCH: the work table, when a frame may start, late jobs, pre-emption, verification and the wire (R105 to R130,
R244, R245, R250 to R255, R531), and the binding of ports to engines (R366).
Where the manual leaves a point open, the choices are log entries 39, 40 (DEDUCED).
-/

namespace Sys2Proof.Machine

/-! The work table (R105 to R108). -/

def State.item (s : State) (i : Nat) : Option Item := Sparse.get none s.ln.items i

/-- WT_USED and its high-water mark. -/
def State.wtCount (s : State) : State :=
  let n := s.ln.items.length
  (s.wr F.LN_STATUS_WT_USED n).wr F.LN_WT_HWM (max n (s.rd F.LN_WT_HWM))

/-- Set or free a work item. -/
def State.setItem (s : State) (i : Nat) (v : Option Item) : State :=
  ({ s with ln := { s.ln with items := Sparse.put none s.ln.items i v } }).wtCount

def State.lnPort (s : State) (p : Nat) : LnPort := Sparse.get LnPort.empty s.ln.ports p
def State.setLnPort (s : State) (p : Nat) (v : LnPort) : State :=
  { s with ln := { s.ln with ports := Sparse.put LnPort.empty s.ln.ports p v } }

/-- Source numbers of the lines (R245); template launches are timed and stand in none. -/
def srcOwn : Nat := 1024
def srcTpl : Nat := 1027

/-- Items of template launches and the module's own frames, which the reserve is for (R105). -/
def Item.reserved (it : Item) : Bool := it.src == srcOwn || it.src == srcTpl

/-- LN_WT_RSV, at most 8,192 (R130). -/
def State.wtRsv (s : State) : Nat := min 8192 (s.rd F.LN_WT_RSV_RSV)

/-- Are `n` items free for a host job or a pass-through frame: outside the reserve (R105)? -/
def State.wtRoom (s : State) (n : Nat) : Bool :=
  let res := s.ln.items.countP (fun x => match x.2 with | some it => it.reserved | none => false)
  decide (s.ln.items.length - res + max res s.wtRsv + n ≤ 16384)

/-- Is an item free for a template launch or an own frame (R106)? -/
def State.wtRoomRsv (s : State) (n : Nat) : Bool := decide (s.ln.items.length + n ≤ 16384)

/-- Admit an item: its admission number. -/
def State.admitItem (s : State) (it : Item) : State × Nat :=
  let i := s.ln.next
  (({ s with ln := { s.ln with next := i + 1 } }).setItem i (some it), i)

/-- A plain item with its frame whole: what every source starts from. -/
def Item.plain (src port cls grp : Nat) (data : List Byte) : Item where
  src := src
  port := port
  cls := cls
  handle := none
  dtl := none
  lateDisc := false
  due := false
  job := none
  grp := grp
  chain := none
  holder := 6
  data := data
  pass := none
  arriving := false
  bad := false
  tagged := false
  seq := none
  nums := []
  lso := none
  seg := 0
  st := .wait
  late := false
  later := false
  sent := 0
  out := []
  stamp := none
  cutOnce := false
  frags := []
  ingress := ⟨0, 0⟩
  marks := []

/-- Items that share an admission number: the copies of one frame (R197, R210). -/
def State.copies (s : State) (grp : Nat) : List (Nat × Item) :=
  s.ln.items.filterMap (fun x => match x.2 with | some it => if it.grp = grp then some (x.1, it) else none | none => none)

/-- An item of the module's own protocols, in cells that LAUNCH allocates (R105, R106, R352): it is not sent when even the reserve is
empty, or without cells. -/
def State.ownItem (s : State) (it : Item) : State :=
  if s.wtRoomRsv 1 then
    match s.storeChain ⟨6, none, false, none⟩ it.data with
    | (s1, none) => (s1.inc F.LN_NOCELL).raise0 Src.LN_NOCELL 0
    | (s1, some c) => (s1.admitItem { it with chain := some c }).1
  else (s.inc F.LN_OWN_MISS).raise0 Src.LN_WT_EXHAUST 0

/-- A frame of the module's own protocols on a port (R105). -/
def State.ownFrame (s : State) (p c : Nat) (data : List Byte) : State :=
  s.ownItem { Item.plain srcOwn p c s.ln.next data with tagged := hasRtag data }

/-! The end of an item (R109, R299). -/

/-- Did a frame leave for an ended copy? -/
def CopyEnd.left (e : CopyEnd) : Bool := e.status == stOk || (e.status == stLate && bits e.flags 1 1 == 0) || e.stamp.isSome

/-- The copy that left first. -/
def firstLeft : List CopyEnd → Option Stamp
  | [] => none
  | e :: t => match e.stamp, firstLeft t with
    | some a, some b => if b.quarters < a.quarters then some b else some a
    | some a, none => some a
    | none, o => o

/-- A host job whose copies have all ended: one completion with the first stamp and the worse status (R299). -/
def State.jobEnds (s : State) (q id : Nat) : State :=
  let mine := s.ln.ends.filter (fun e => e.q == q && e.id == id)
  let s1 := { s with ln := { s.ln with ends := s.ln.ends.filter (fun e => !(e.q == q && e.id == id)) } }
  let st := firstLeft mine
  let status := mine.foldl (fun a e => max a e.status) 0
  let split := decide (2 ≤ mine.countP CopyEnd.left)
  let flags := (if mine.any (fun e => bits e.flags 1 1 == 1) then 2 else 0) + if split then 8 else 0
  s1.finishJob q id ⟨status, flags, match st with | some t => t.ns.toNat | none => 0, match st with | some t => t.frac.toNat | none => 0⟩

/-- An item ends with a status: it is freed, its chain is released with the last copy, and its job completes with the last
copy. -/
def State.endItem (s : State) (i : Nat) (status flags : Nat) : State :=
  match s.item i with
  | none => s
  | some it =>
    let s1 := s.setItem i none
    let more := !(s1.copies it.grp).isEmpty
    let s2 := match it.chain with
      | some c => if more then s1 else s1.releaseHold c it.holder
      | none => s1
    match it.job with
    | none => s2
    | some (q, id) =>
      let s3 := { s2 with ln := { s2.ln with ends := s2.ln.ends ++ [⟨q, id, it.port, status, flags, it.stamp, it.seg⟩] } }
      if more then s3 else s3.jobEnds q id

/-- An item is withdrawn without any completion (R319). -/
def State.dropItem (s : State) (i : Nat) : State :=
  match s.item i with
  | none => s
  | some it =>
    let s1 := s.setItem i none
    let more := !(s1.copies it.grp).isEmpty
    match it.chain with
    | some c => if more then s1 else s1.releaseHold c it.holder
    | none => s1

/-! Rungs and yields (R251 to R254). -/

/-- Is class `c` of port `p` set pre-emptable? -/
def State.preemptable (s : State) (p c : Nat) : Bool := bits (s.rd (F.LN_Pn_PREEMPT_MASK_MASK p)) c 1 == 1
def State.preemptActive (s : State) (p : Nat) : Bool := s.on (F.LN_Pn_MM_STATUS_PREEMPT_ACTIVE p)
/-- On a port without active pre-emption every class counts as express (R244). -/
def State.express (s : State) (p c : Nat) : Bool := !(s.preemptActive p && s.preemptable p c)

/-- Will the frame of an item carry an R-TAG (R209, R211)? A host job's frame under a SCHED-mode stream leaves without one (R206). -/
def State.carriesTag (s : State) (it : Item) : Bool :=
  match s.genOf it.handle with
  | some g => if s.genSched g && it.pass.isNone then it.seq.isSome else it.tagged || !s.genSched g
  | none => it.tagged

/-- Length of an item's next frame without padding and FCS (R123, R209); for an arriving frame what is known. -/
def State.bodyLen (s : State) (it : Item) : Nat :=
  let content := match it.lso with
    | some l => l.hdr.length + min l.mss (it.data.length - it.seg * l.mss)
    | none => it.data.length
  content + (if s.carriesTag it then 6 else 0) - if it.tagged then 6 else 0

/-- The rung of a frame (R251). -/
def State.rung (s : State) (it : Item) : Nat :=
  if it.dtl.isSome then 3
  else if s.carriesTag it then 4
  else if s.preemptActive it.port && !s.preemptable it.port it.cls then 5
  else if !(s.shapersOf it.src it.port it.cls).isEmpty || s.cbsRuns it.port it.cls then 6
  else 8

/-- Add a mark to an item. -/
def State.markItem (s : State) (i m : Nat) : State :=
  match s.item i with
  | none => s
  | some it => s.setItem i (some { it with marks := m :: it.marks })

/-- A yield of an item, counted once per frame (R252). -/
def State.itemYield (s : State) (i h y : Nat) : State :=
  match s.item i with
  | none => s
  | some it => if it.marks.contains (pairIdx h y) then s else (s.markItem i (pairIdx h y)).yieldTo h y

/-- A frame deferred or cut for a rung-3 or a rung-5 frame: a yield of the pairs that R254 gives, and of no other. -/
def State.cutYield (s : State) (i h y : Nat) : State :=
  if (h = 3 ∧ (y = 5 ∨ y = 6 ∨ y = 8)) ∨ (h = 5 ∧ (y = 6 ∨ y = 8)) then s.itemYield i h y else s

/-! When a frame may start (R110 to R114, R118). -/

/-- Tolerance of a timed start in ns (R110, R115). -/
def tolNs (p : Nat) : Nat := if p < 2 then 2 else 8

/-- DT of the plane that DT_L refers to (R51). -/
def State.wireDt (s : State) (p : Nat) : Nat := s.dt + s.egressDelay p

/-- The frame length L that an item's next frame will have (R125). -/
def State.frameLen (s : State) (it : Item) : Nat := max 60 (s.bodyLen it) + 4

/-- Minimum fragment F of a port (R117). -/
def State.fragMin (s : State) (p : Nat) : Nat := 64 * (1 + s.rd (F.LN_Pn_CTRL_ADD_FRAG p))

/-- Bytes from the start of an item's next fragment to the end of its FCS: the frame, or what an interrupted one has left. -/
def State.restLen (s : State) (it : Item) : Nat := if it.st = .cut then it.out.length - it.sent else s.frameLen it

/-- Can what an item sends next be cut (R117)? -/
def State.cuttable (s : State) (it : Item) : Bool :=
  s.preemptActive it.port && s.preemptable it.port it.cls && decide (s.fragMin it.port + 60 ≤ s.restLen it)

/-- Bytes of a frame's first fragment with its 8 bytes ahead: the whole frame if it cannot be cut (R113, R117). -/
def State.firstFrag (s : State) (it : Item) : Nat := 8 + if s.cuttable it then s.fragMin it.port else s.restLen it

/-- G_c: when the gate of class `c` next closes; from the new list where a CCT falls before it (R113). -/
def State.nextClose (s : State) (p c : Nat) : Option Int :=
  (s.planNext p (s.wireDt p) (fun e => bits (leGates e) c 1 == 0)).map (·.1)

/-- DT_L of the earliest admitted job that the guard protects, other than item `i`: timed, not started, not yet late, of a class
in SCHED_MASK (R114). -/
def State.guarded' (s : State) (p i : Nat) : Option (Nat × Nat) :=
  let l := s.ln.items.filterMap (fun x => match x.2 with
    | some it => match it.dtl with
      | some d =>
        if x.1 ≠ i ∧ it.port = p ∧ it.st ≠ .wire ∧ it.st ≠ .cut ∧ bits (s.rd (F.KN_Pn_SCHED_MASK p)) it.cls 1 = 1 ∧ s.wireDt p ≤ d + tolNs p
        then some (d, it.cls) else none
      | none => none
    | none => none)
  l.foldl (fun o x => match o with | none => some x | some y => if x.1 < y.1 then some x else some y) none

/-- Why a READY item may not start now. -/
inductive Block where
  | no
  | other
  | guard
  | nofit
deriving DecidableEq, Repr

/-- DT_E of the next entry that asks for a hold, OP 1, or a release, OP 2 (R74, R86). -/
def State.nextHr (s : State) (p op : Nat) (t : Int) : Option Int :=
  if s.on (F.KN_Pn_CTRL_HR_EN p) then (s.planNext p t (fun e => leOp e == op)).map (·.1) else none

/-- DT_E of the next hold that KILN will ask for on a port (R86, R118). -/
def State.nextHold (s : State) (p : Nat) : Option Int := s.nextHr p 1 (s.wireDt p)

/-- The guard of R114 on what an item sends next, a frame or a continuation: `none` defers it; otherwise whether it must be cut at its
first cut point, so that the protected job finds the wire free. Jobs of the protected classes are not deferred. -/
def State.guardRule (s : State) (i : Nat) (it : Item) : Option Bool :=
  let p := it.port
  let b : Int := s.byteTime p
  let t : Int := (s.wireDt p : Int) * 10
  if ¬ s.on (F.LN_Pn_CTRL_GUARD_EN p) ∨ (it.dtl.isSome ∧ bits (s.rd (F.KN_Pn_SCHED_MASK p)) it.cls 1 = 1) then some false
  else match s.guarded' p i with
    | none => some false
    | some (d, c) =>
      if t + (8 + s.restLen it + 12 : Nat) * b ≤ (d : Int) * 10 then some false
      else if s.cuttable it && s.express p c && decide (t + (s.firstFrag it + 12 : Nat) * b ≤ (d : Int) * 10) then some true
      else none

/-- Does a hold bar what an item sends next: one in force, or, while the guard is on, a coming one by whose entry a pre-emptable frame or
continuation that cannot be cut does not end with its gap (R118, R119)? -/
def State.holdBars (s : State) (it : Item) : Bool :=
  let p := it.port
  let past : Bool := match s.nextHold p with
    | some e => decide (e * 10 < (s.wireDt p : Int) * 10 + (8 + s.restLen it + 12 : Nat) * (s.byteTime p : Int))
    | none => false
  s.preemptable p it.cls && (s.on (F.LN_Pn_MM_STATUS_HOLD_ACTIVE p) || (s.on (F.LN_Pn_CTRL_GUARD_EN p) && !s.cuttable it && past))

/-- R113 and R114, and the hold of R118, for a frame at this instant. -/
def State.startRules (s : State) (i : Nat) (it : Item) : Block :=
  let p := it.port
  let b : Int := s.byteTime p
  let t : Int := (s.wireDt p : Int) * 10
  if s.holdBars it then .other
  else if s.guardRule i it = none then .guard
  else match s.nextClose p it.cls with
    | some g => if g * 10 < t + (s.firstFrag it : Int) * b then .nofit else .no
    | none => .no

/-- Is the gate of an item's class open at the wire (R75)? -/
def State.gateIsOpen (s : State) (it : Item) : Bool := bits (s.wireGates it.port) it.cls 1 == 1

/-- Timed jobs of a port that have reached their DT_L in READY with their gate open, by DT_L, then class, then admission
(R111). A field launch also needs the follower's lock (R52). -/
def timedBefore (a b : Nat × Nat × Nat) : Bool :=
  decide (a.1 < b.1) || (decide (a.1 = b.1) && (decide (b.2.1 < a.2.1) || (decide (a.2.1 = b.2.1) && decide (a.2.2 < b.2.2))))

/-- Insert by R111's order. -/
def insTimed (x : Nat × Nat × Nat) : List (Nat × Nat × Nat) → List (Nat × Nat × Nat)
  | [] => [x]
  | y :: t => if timedBefore x y then x :: y :: t else y :: insTimed x t

/-- May field launches take place (R52)? -/
def State.fieldLocked (s : State) (p : Nat) : Bool := decide (p < 2) || s.on F.TB_FLW_STAT_LOCK

/-- Is an item in READY as R109 has it: a timed backbone item also needs its DT_L? -/
def State.inReady (s : State) (it : Item) : Bool :=
  decide (it.st = .ready) && (match it.dtl with | some d => decide (2 ≤ it.port) || it.due || decide (d ≤ s.wireDt it.port) | none => true)

/-- Item numbers of the timed jobs that could go, in R111's order. -/
def State.timedReady (s : State) (p : Nat) : List Nat :=
  let l := s.ln.items.filterMap (fun x => match x.2 with
    | some it => match it.dtl with
      | some d =>
        if it.port = p ∧ it.st = .ready ∧ (it.due ∨ d ≤ s.wireDt p + tolNs p) ∧ s.gateIsOpen it ∧ s.fieldLocked p then some (d, it.cls, x.1) else none
      | none => none
    | none => none)
  (l.foldl (fun a x => insTimed x a) []).map (fun x => x.2.2)

/-- The head item of each source of a class: the earliest untimed item of the line (R245). -/
def State.heads (s : State) (p c : Nat) : List (Nat × Nat) :=
  s.ln.items.foldl (fun l x => match x.2 with
    | some it =>
      if it.port = p ∧ it.cls = c ∧ it.dtl = none ∧ it.st ≠ .wire ∧ it.st ≠ .cut ∧ ¬ l.any (fun y => y.1 == it.src) then l ++ [(it.src, x.1)] else l
    | none => l) []

/-- LAUTER's conditions on the head item of a source (R233, R244, R249). -/
def State.lauterOk (s : State) (it : Item) : Bool :=
  !s.ltOn ||
  (!(s.paused it.port it.cls && bits (s.rd (F.LT_Pn_CTRL_PAUSABLE it.port)) it.cls 1 == 1 && !s.carriesTag it)
    && !(decide (it.src < 1024) && s.qPaused it.src)
    && (it.later || (s.creditOk it.port it.cls && (s.shapersOf it.src it.port it.cls).all s.shEligible)))

/-- A head item that may go now (R244). -/
def State.selectable (s : State) (i : Nat) : Bool :=
  match s.item i with
  | some it => decide (it.st = .ready) && s.gateIsOpen it && s.startRules i it == .no && s.lauterOk it
  | none => false

/-- The next source of a class, ascending from the one after the last served, wrapping (R245). -/
def State.nextSource (s : State) (p c : Nat) : Option Nat :=
  let h := (s.heads p c).filter (fun x => s.selectable x.2)
  let last := Sparse.get 0 (s.lnPort p).served c
  let better (a b : Nat × Nat) : Bool :=
    let k (x : Nat) : Nat := if last < x + 1 then x else x + 4096
    decide (k a.1 < k b.1)
  (h.foldl (fun o x => match o with | none => some x | some y => if better x y then some x else some y) none).map (·.2)

/-- The highest class of a list with a selectable head. -/
def State.bestClass (s : State) (p : Nat) : List Nat → Option Nat
  | [] => none
  | c :: t => match s.nextSource p c with | some i => some i | none => s.bestClass p t

/-- The interrupted frame of a port that may resume: its gate open, no hold in force and the guard clear (R114, R118, R244). -/
def State.resumable (s : State) (p : Nat) : Option Nat :=
  if s.on (F.LN_Pn_MM_STATUS_HOLD_ACTIVE p) then none
  else (s.ln.items.find? (fun x => match x.2 with
    | some it => decide (it.port = p) && decide (it.st = .cut) && s.gateIsOpen it && !s.holdBars it && (s.guardRule x.1 it).isSome
    | none => false)).map (·.1)

/-- The express item that could start now (R244): timed first, then the express classes from 7 down. -/
def State.pickExpress (s : State) (p : Nat) : Option Nat :=
  let timed := (s.timedReady p).find? (fun i => match s.item i with
    | some it => s.startRules i it == .no
    | none => false)
  match timed with
  | some i => some i
  | none => s.bestClass p ([7, 6, 5, 4, 3, 2, 1, 0].filter (fun c => s.express p c))

/-- What the engine chooses when the wire can take a frame (R244). -/
def State.pick (s : State) (p : Nat) : Option Nat :=
  match s.pickExpress p with
  | some i => some i
  | none => match s.resumable p with
    | some i => some i
    | none => s.bestClass p ([7, 6, 5, 4, 3, 2, 1, 0].filter (fun c => !s.express p c))

/-- The mark of a start lost before the closing of a gate at `g` (R113). -/
def nofitMark (g : Option Int) : Nat := 1000 + (g.getD 0).toNat

/-- Count the READY items of a port that R114 holds back, once per frame, and those that R113 holds back, once per closing of their
gate (R113, R114, R254). -/
def State.countBlocked (s : State) (p : Nat) : State :=
  s.ln.items.foldl (fun s x => match s.item x.1 with
    | some it =>
      if it.port = p ∧ it.st = .ready ∧ s.gateIsOpen it ∧ (it.dtl = none ∨ (s.timedReady p).contains x.1) then
        match s.startRules x.1 it with
        | .guard => if it.marks.contains 100 then s else ((s.markItem x.1 100).inc (F.LN_Pn_GUARD p)).cutYield x.1 3 (s.rung it)
        | .nofit =>
          let k := nofitMark (s.nextClose p it.cls)
          if it.marks.contains k then s else (s.markItem x.1 k).inc (F.LN_Pn_NOFIT p)
        | _ => s
      else s
    | none => s) s

/-! The frame on the wire. -/

/-- Segment `i` of a large send (R123). -/
def lsoFrame (l : Lso) (data : List Byte) (i : Nat) : List Byte :=
  let n := (data.length + l.mss - 1) / l.mss
  let pay := slice data (i * l.mss) (min l.mss (data.length - i * l.mss))
  let h := l.hdr.length
  let seq0 := be32 l.hdr (l.l4 + 4)
  let h1 := if l.ipv6 then patch l.hdr (l.l3 + 4) (beBytes 2 (h - l.l3 - 40 + pay.length))
    else patch (patch l.hdr (l.l3 + 2) (beBytes 2 (h - l.l3 + pay.length))) (l.l3 + 4) (beBytes 2 ((be16 l.hdr (l.l3 + 4) + i) % 65536))
  let fl := ((slice h1 (l.l4 + 13) 1).headD 0).toNat
  let fl1 := if i + 1 = n then fl else fl &&& 0xF6
  let fl2 := if i = 0 then fl1 else fl1 &&& 0x7F
  let h2 := if l.udp then patch h1 (l.l4 + 4) (beBytes 2 (h - l.l4 + pay.length))
    else patch (patch h1 (l.l4 + 4) (beBytes 4 ((seq0 + i * l.mss) % 2 ^ 32))) (l.l4 + 13) [BitVec.ofNat 8 fl2]
  let f := l4Csum l.ipv6 (h2 ++ pay) l.l3 l.l4 (h - l.l4 + pay.length) l.udp
  if l.ipv6 then f else ip4Csum f l.l3

/-- Segments of a large send (R123). -/
def Item.segments (it : Item) : Nat := match it.lso with | some l => (it.data.length + l.mss - 1) / max 1 l.mss | none => 1

/-- What the copies of an item's present segment have in common: its number, or 65,536 for none (R207, R210). -/
def State.shareNum (s : State) (i : Nat) (it : Item) (n : Nat) : State :=
  (s.copies it.grp).foldl (fun s x => if x.1 = i then s else s.setItem x.1 (some { x.2 with nums := (it.seg, n) :: x.2.nums })) s

/-- The number that an item's next frame takes, if it is numbered; an EVENT-mode number is assigned at the first bit of the first
copy and kept for the others, segment by segment; a host job's frame of a SCHED-mode stream is counted once (R123, R206, R207, R211). -/
def State.numberFrame (s : State) (i : Nat) (it : Item) : State × Option Nat :=
  match s.genOf it.handle with
  | none => (s, none)
  | some g => match it.seq, it.nums.find? (fun x => x.1 == it.seg) with
    | some n, _ => (s, some n)
    | none, some (_, n) => (s, if n < 65536 then some n else none)
    | none, none =>
      if s.genSched g then (if it.pass.isSome then (s, none) else ((s.inc F.FN_NOSEQ).shareNum i it 65536, none))
      else
        let r := s.eventSeq g
        (r.1.shareNum i it r.2, some r.2)

/-- The frame that leaves for an item, with its number and what a transparent clock adds (R46, R123, R209, R211). -/
def State.buildFrame (s : State) (it : Item) (seq : Option Nat) (eg : Stamp) : State × List Byte :=
  let base := match it.lso with | some l => lsoFrame l it.data it.seg | none => it.data
  let bare := if it.tagged then dropRtag base else base
  let tagged := match seq with
    | some n => addRtag bare n
    | none => if s.carriesTag it then base else bare
  let r := match it.pass with
    | some p => s.ptpForward p it.ingress eg tagged
    | none => (s, if it.src = srcOwn then ptpOwn it.ingress eg tagged else tagged)
  (r.1, if it.arriving then r.2 else padFrame r.2)

/-- Charge an item's shapers and the class credit's sign for the yields of R254. -/
def State.chargeItem (s : State) (i : Nat) (it : Item) (l : Nat) : State :=
  let sh := s.shapersOf it.src it.port it.cls
  let debt := !(sh.all s.shEligible) || (s.cbsRuns it.port it.cls && !s.creditOk it.port it.cls)
  let s1 := if s.noShp it.src it.port it.cls then s.inc F.LT_NOSHP else s
  let s2 := sh.foldl (fun s j => s.shCharge j l) s1
  let paused := s.paused it.port it.cls && bits (s.rd (F.LT_Pn_CTRL_PAUSABLE it.port)) it.cls 1 == 1
  let s3 := if debt ∧ it.dtl.isSome then s2.itemYield i 3 6 else if debt ∧ it.later then s2.itemYield i 4 6 else s2
  if paused then (if it.dtl.isSome then s3.itemYield i 3 8 else if s.carriesTag it then s3.itemYield i 4 8 else s3) else s3

/-- Egress stamps of a port that wait for their completion (R464). -/
def State.stampsWaiting (s : State) (p : Nat) : Nat :=
  s.ln.items.countP (fun x => match x.2 with | some it => decide (it.port = p) && it.stamp.isSome | none => false)
    + s.ln.ends.countP (fun e => e.port == p && e.stamp.isSome)

/-- Take the egress stamp of an item's first frame, or lose it; a large send takes that of segment 0 only (R50, R123, R464). -/
def State.takeStamp (s : State) (it : Item) (t : Stamp) : State × Option Stamp :=
  if it.stamp.isSome ∨ it.seg ≠ 0 then (s, it.stamp)
  else if 32 ≤ s.stampsWaiting it.port then
    ((if it.port < 2 then s.inc (F.BP_TS_LOST it.port) else s).raise Src.BB_TS_ERR it.port none 0, none)
  else (s, some t)

/-- A timed frame's lateness at its start: counters and LAT_MAX (R110, R115). -/
def State.countTimed (s : State) (i : Nat) (it : Item) : State :=
  match it.dtl with
  | none => s
  | some d =>
    let p := it.port
    let late := s.wireDt p - d
    if it.late then
      let s1 := (s.inc (F.LN_Pn_LATE p)).wr (F.LN_Pn_LAT_MAX p) (max (s.rd (F.LN_Pn_LAT_MAX p)) late)
      if it.due then s1.itemYield i 2 3 else s1
    else s.inc (F.LN_Pn_ONTIME p)

/-- The DT_L of a timed job that starts is kept, for the backward steps that do not repeat it (R62). -/
def State.noteLaunch (s : State) (it : Item) : State :=
  match it.dtl with
  | some d => { s with ln := { s.ln with launched := d :: s.ln.launched } }
  | none => s

/-- Is an item's next frame shorter than 60 bytes before padding (R125)? -/
def State.shortItem (s : State) (it : Item) : Bool := !it.arriving && decide (s.bodyLen it < 60)

/-- The wire of a port with what an item begins to send, `n` bytes with their FCS: an arriving frame has no end yet; one that the guard
lets start only in part is cut at its first cut point (R114, R117). -/
def State.wireOf (s : State) (i : Nat) (it : Item) (n : Nat) : Wire :=
  let b := s.byteTime it.port
  if s.guardRule i it = some true then ⟨some i, false, s.now10, some (s.now10 + (8 + s.fragMin it.port) * b), some (s.fragMin it.port - 4)⟩
  else ⟨some i, false, s.now10, if it.arriving then none else some (s.now10 + (8 + n) * b), none⟩

/-- The first bit of an item's next frame is on the pads. -/
def State.startItem (s : State) (i : Nat) (it : Item) : State :=
  let p := it.port
  let eg := s.txStamp p
  let n := s.numberFrame i it
  let f := n.1.buildFrame it n.2 eg
  let l := f.2.length + 4
  let s1 := f.1.chargeItem i it l
  let s2 := if it.seg = 0 then (s1.countTimed i it).noteLaunch it else s1
  let s3 := if s.shortItem it then s2.inc (F.LN_Pn_PAD p) else s2
  let s4 := if it.pass.isSome then s3.inc (if it.arriving then F.LN_Pn_FWD_CT p else F.LN_Pn_FWD_SF p) else s3
  let s5 := match it.job with | some (q, id) => s4.startJob q id | none => s4
  let t := s5.takeStamp it eg
  let r := t.1.lnPort p
  let it1 := (t.1.item i).getD it
  let s6 := t.1.setItem i (some { it1 with
    st := .wire, sent := 0, out := f.2 ++ (if it.arriving then [] else fcs f.2), stamp := t.2 })
  s6.setLnPort p { r with
    wire := some (s.wireOf i it l),
    served := if it.dtl.isNone then Sparse.put 0 r.served it.cls (it.src + 1) else r.served }

/-- An interrupted frame resumes with a continuation fragment: 8 bytes ahead of its data (R117). -/
def State.resumeItem (s : State) (i : Nat) (it : Item) : State :=
  let p := it.port
  (s.setItem i (some { it with st := .wire })).setLnPort p { s.lnPort p with wire := some (s.wireOf i it (it.out.length - it.sent)) }

/-- A job is late: it is raised once; under the discard policy it ends (R61, R115). -/
def State.lateItem (s : State) (i : Nat) (it : Item) : State :=
  let p := it.port
  let s1 := if it.late then s else s.raise Src.LN_LATE p none 0
  if it.lateDisc ∧ ¬ it.due ∧ it.seg = 0 then (s1.inc (F.LN_Pn_LATE_DISC p)).endItem i stLate 2
  else s1.setItem i (some { it with late := true })

/-- Is a timed item late now (R115)? -/
def State.isLate (s : State) (it : Item) : Bool :=
  match it.dtl with
  | some d => decide (it.seg = 0) && decide (it.st ≠ .wire) && decide (it.st ≠ .cut) && (it.due || decide (d + tolNs it.port < s.wireDt it.port))
  | none => false

/-- A chosen item starts: a standby twin's frame is not sent (R208), a late one is treated as R115 gives. -/
def State.goItem (s : State) (i : Nat) (it : Item) : State :=
  if it.st = .cut then s.resumeItem i it
  else if s.standbyDrop it.handle then (s.inc F.FN_STBY_DROP).endItem i stStandby 0
  else if s.isLate it && !it.late then
    let s1 := s.lateItem i it
    match s1.item i with
    | some it1 => s1.startItem i it1
    | none => s1
  else s.startItem i it

/-- Does the port transmit: link up and TX_EN (R128), and no transition to HOLD under way (R407)? -/
def State.txUp (s : State) (p : Nat) : Bool := s.linkUp p && s.on (F.LN_Pn_CTRL_TX_EN p) && !s.crp.toHold

/-- A port that does not transmit discards each job as it becomes due or eligible (R128). -/
def State.discardDown (s : State) (p : Nat) : State :=
  s.ln.items.foldl (fun s x => match s.item x.1 with
    | some it =>
      let due : Bool := match it.dtl with | some d => it.due || decide (d ≤ s.wireDt p) | none => decide (it.st = .ready) || decide (it.st = .cut)
      if it.port = p ∧ it.st ≠ .wire ∧ due then (s.inc (F.LN_Pn_ABORT p)).endItem x.1 stLinkDown 0 else s
    | none => s) s

/-- Data bytes of the present fragment that have left, rounded up (R117). -/
def State.sentBytes (s : State) (p : Nat) (w : Wire) : Nat :=
  (s.now10 - w.start + s.byteTime p - 1) / s.byteTime p - 8

/-- Bytes of a frame that are known to follow its bytes sent so far: all of it, or of one still arriving what has come in (R117, R122). -/
def State.bytesLeft (s : State) (it : Item) : Nat :=
  let known := match it.pass with
    | some q => if it.arriving then max it.out.length ((s.dt - it.ingress.ns.toNat) * 10 / s.byteTime q) else it.out.length
    | none => it.out.length
  known - it.sent

/-- Cut the frame on the wire at its first permitted point, if it can be cut (R117, R118). -/
def State.cutWire (s : State) (p : Nat) : State × Bool :=
  match (s.lnPort p).wire with
  | none => (s, false)
  | some w =>
    match w.item.bind s.item with
    | none => (s, false)
    | some it =>
      let n := max (s.fragMin p - 4) (s.sentBytes p w)
      if s.preemptActive p ∧ s.preemptable p it.cls ∧ w.cut = none ∧ n + 64 ≤ s.bytesLeft it then
        (s.setLnPort p { s.lnPort p with wire := some { w with cut := some n, stop := some (w.start + (8 + n + 4) * s.byteTime p) } }, true)
      else (s, false)

/-- A hold cuts the frame on the wire at its first permitted point, as soon as one is known (R118, R122, R254). -/
def State.holdCut (s : State) (p : Nat) : State :=
  match (s.lnPort p).wire.bind Wire.item with
  | none => s
  | some i =>
    let c := s.cutWire p
    match s.item i with
    | some it => if c.2 then c.1.cutYield i 3 (s.rung it) else c.1
    | none => c.1

/-- The engine looks at a busy wire: a hold, an express frame that could start, or a closed gate cuts (R113, R118, R254). -/
def State.preemptCheck (s : State) (p : Nat) : State :=
  match (s.lnPort p).wire.bind (fun w => w.item.bind s.item) with
  | none => s
  | some it =>
    if ¬ (s.preemptActive p ∧ s.preemptable p it.cls) then s
    else if s.on (F.LN_Pn_MM_STATUS_HOLD_ACTIVE p) then s.holdCut p
    else if (s.pickExpress p).isSome then
      let c := s.cutWire p
      let y := s.rung it
      let h := match s.pickExpress p with
        | some j => (match s.item j with | some e => s.rung e | none => 5)
        | none => 5
      if c.2 then (match (s.lnPort p).wire.bind Wire.item with
        | some i => c.1.cutYield i (if h = 3 then 3 else 5) y
        | none => c.1) else c.1
    else if ¬ s.gateIsOpen it then (s.cutWire p).1
    else s

/-- The wire of a port at this instant: a new frame, a continuation or nothing; a busy wire may be pre-empted; a port that does
not transmit discards (R113, R128, R244). -/
def execFrameStart (p : Fin 10) (s : State) : Out :=
  let p := p.val
  .next (if ¬ s.on F.LN_CTRL_EN then s
  else if ¬ s.txUp p then s.discardDown p
  else
    let r := s.lnPort p
    if r.wire.isSome then s.preemptCheck p
    else if s.now10 < r.free then s
    else
      let s1 := s.countBlocked p
      match s1.pick p with
      | none => s1
      | some i => match s1.item i with
        | some it => s1.goItem i it
        | none => s1)

/-- Add to a 64-bit counter in two registers; it saturates (R15). -/
def State.add64 (s : State) (lo hi : Fld) (n : Nat) : State := s.wr64 lo hi (min (2 ^ 64 - 1) (s.rd64 lo hi + n))

/-- A frame of `n` bytes has been sent on a port, under a handle or none (R230, R479, R480). -/
def State.countSent (s : State) (p n : Nat) (h : Option Nat) : State :=
  let s1 := if p < 2 then
      (s.add64 (F.BP_TX_FRAMES_LO p) (F.BP_TX_FRAMES_HI p) 1).add64 (F.BP_TX_BYTES_LO p) (F.BP_TX_BYTES_HI p) n
    else s.fdCount (F.FP_TX_FRAMES (p - 2))
  match h with | some h => s1.stCount h 1 | none => s1

/-- The frame with its FCS inverted (R122). -/
def stomp (f : List Byte) : List Byte := f.take (f.length - 4) ++ (f.drop (f.length - 4)).map (fun b => ~~~b)

/-- A frame longer than M is not sent (R126). -/
def State.tooLong (s : State) (i : Nat) (it : Item) : State :=
  ((s.inc (F.LN_Pn_TX_OVERSIZE it.port)).raise Src.LN_TX_OVERSIZE it.port none 0).endItem i stTooLong 0

/-- An item's data are in the engine, or its frame is at the field die: READY (R109, R126). -/
def State.makeReady (s : State) (i : Nat) (it : Item) : State :=
  if ¬ it.arriving ∧ s.maxFrame it.port < s.frameLen it then s.tooLong i it
  else s.setItem i (some { it with st := .ready })

/-- Has another copy of a large send already sent the segment that has just left (R123)? -/
def State.segCounted (s : State) (i : Nat) (it : Item) : Bool :=
  (s.copies it.grp).any (fun x => decide (x.1 ≠ i) && decide (it.seg < x.2.seg))
    || s.ln.ends.any (fun e => decide (it.job = some (e.q, e.id)) && decide (it.seg < e.segs))

/-- The frame on the wire has ended whole: a large send goes on with its next segment, any other item ends (R109, R123). -/
def State.frameDone (s : State) (i : Nat) (it : Item) : State :=
  let p := it.port
  let s1 := s.emit (if it.cutOnce then .fragment p false true (it.out.drop it.sent) else .frame p it.out it.bad)
  let s2 := if it.cutOnce then s1.inc (F.LN_Pn_FRAG_TX p) else s1
  let s3 := (if it.bad then s2.inc (F.LN_Pn_STOMP p) else s2).countSent p it.out.length it.handle
  let status := if it.late then stLate else stOk
  match it.lso with
  | none => s3.endItem i status 0
  | some _ =>
    let s4 := if s3.segCounted i it then s3 else s3.inc F.LN_LSO_SEGS
    let next : Item := { it with seg := it.seg + 1, dtl := none, sent := 0, out := [], cutOnce := false, frags := [], marks := [] }
    let s5 := s4.setItem i (some next)
    if it.seg + 1 < it.segments then
      let abort : Bool := match it.job with | some (q, _) => decide (s.rd (F.QE_SQ_STAT_STATE q) = sqDraining) | none => false
      if abort then s5.endItem i stAborted 0 else s5.makeReady i next
    else (if (s5.copies it.grp).length ≤ 1 then s5.inc F.LN_LSO_JOBS else s5).endItem i status 0

/-- The fragments of a frame whose bytes have come to be known are listed on the wire, from offset `at_` on (R122). -/
def State.emitFrags (s : State) (p : Nat) (out : List Byte) (at_ : Nat) : List Nat → State
  | [] => s
  | n :: t => (s.emit (.fragment p (at_ == 0) false (slice out at_ n))).emitFrags p out (at_ + n) t

/-- The class of the frame on a port's wire. -/
def State.wireCls (s : State) (p : Nat) : Option Nat :=
  match (s.lnPort p).wire with
  | some w => (w.item.bind s.item).map (·.cls)
  | none => none

/-- The wire becomes free 12 byte times after a frame; a frame boundary of the port (R243). -/
def State.wireFree (s : State) (p stop : Nat) : State :=
  (s.setLnPort p { s.lnPort p with wire := none, free := stop + 12 * s.byteTime p, gapCls := s.wireCls p }).slopesApply p

/-- The last bit of what is on the wire has been sent: an mPacket, a fragment, or a whole frame (R109, R117). -/
def execFrameEnd (p : Fin 10) (s : State) : Out :=
  let p := p.val
  .next (match (s.lnPort p).wire with
  | none => s
  | some w => match w.stop with
    | none => s
    | some stop =>
      if s.now10 < stop then s
      else
        let s1 := s.wireFree p stop
        match w.item with
        | none => s1
        | some i => match s.item i with
          | none => s1
          | some it => match w.cut with
            | some n =>
              let s2 := (if it.arriving then s1 else s1.emit (.fragment p (!it.cutOnce) false (slice it.out it.sent n))).inc (F.LN_Pn_FRAG_TX p)
              (if it.cutOnce then s2 else s2.inc (F.LN_Pn_PREEMPT p)).setItem i (some { it with
                st := .cut, sent := it.sent + n, cutOnce := true, frags := if it.arriving then it.frags ++ [n] else it.frags })
            | none => s1.frameDone i it)

/-! The life of an item before its start (R109, R115). -/

/-- Lead of a timed item's chain read in ns (R109). -/
def Item.lead (it : Item) : Nat :=
  if 2 ≤ it.port then 50000 else match it.chain with | some c => if poolOfChain c = 1 then 1500 else 200 | none => 200

/-- Is an untimed item eligible: its chain in cells, and LAUTER willing (R109, R233)? -/
def State.itemEligible (s : State) (it : Item) : Bool :=
  !s.ltOn || it.later || (s.shapersOf it.src it.port it.cls).all s.shEligible

/-- Is the whole chain of an item in cells? -/
def State.chainWhole (s : State) (it : Item) : Bool :=
  match it.chain with
  | some c => (match s.chain c with | some ch => ch.complete | none => true)
  | none => true

/-- When a copy of a split frame becomes eligible first, the copy on the other backbone port is free of the shaper check (R210, R255). -/
def State.freeSiblings (s : State) (i : Nat) (it : Item) : State :=
  if it.dtl.isSome ∨ 2 ≤ it.port then s
  else (s.copies it.grp).foldl (fun s x => if x.1 = i ∨ x.2.st ≠ .wait ∨ 2 ≤ x.2.port then s else s.setItem x.1 (some { x.2 with later := true })) s

/-- An item begins to be read: at its lead before DT_L, or on eligibility (R109). A timed item whose chain is not complete then
is late (R309). -/
def execFetchStart (i : Nat) (s : State) : Out :=
  .next (match s.item i with
  | none => s
  | some it =>
    if it.st ≠ .wait ∨ ¬ s.on F.LN_CTRL_EN ∨ it.src = srcTpl then s
    else match it.dtl with
      | some d =>
        if it.due ∨ d ≤ s.wireDt it.port + it.lead then
          if s.chainWhole it then s.setItem i (some { it with st := .fetch })
          else s.lateItem i { it with st := .fetch }
        else s
      | none => if s.chainWhole it ∧ s.itemEligible it then (s.freeSiblings i it).setItem i (some { it with st := .fetch }) else s)

/-- The first 64 bytes are in the engine (R109). -/
def execFetchDone (i : Nat) (s : State) : Out :=
  .next (match s.item i with
  | none => s
  | some it => if it.st = .fetch ∧ s.chainWhole it ∧ it.src ≠ srcTpl then s.makeReady i it else s)

/-- A timed job cannot start by DT_L + tolerance (R115). While the follower is unlocked a field launch is held, a yield of rung 3; the LATE
policy acts on relock (R52, R128, R254). -/
def execJobLate (i : Nat) (s : State) : Out :=
  .next (match s.item i with
  | none => s
  | some it =>
    if s.isLate it ∧ ¬ it.late then (if s.fieldLocked it.port then s.lateItem i it else s.itemYield i 2 3)
    else s)

/-! Pre-emption: verification and mPackets (R116, R531). -/

/-- PREEMPT_ACTIVE (R116). -/
def State.mmActive (s : State) (p : Nat) : State :=
  s.wr (F.LN_Pn_MM_STATUS_PREEMPT_ACTIVE p) (decide (s.on (F.LN_Pn_CTRL_TX_EN p) ∧ s.on (F.LN_Pn_CTRL_PREEMPT_EN p) ∧ s.linkUp p
    ∧ (s.rd (F.LN_Pn_MM_STATUS_VERIFY_STATE p) = 3 ∨ s.on (F.LN_Pn_CTRL_VERIFY_DIS p)))).toNat

/-- Begin to verify: the first mPacket waits for the wire. -/
def State.mmVerify (s : State) (p : Nat) : State :=
  (s.wr (F.LN_Pn_MM_STATUS_VERIFY_STATE p) 2).setLnPort p { s.lnPort p with pendV := true, sentV := 0 }

/-- The verification state after a change of the link or of PREEMPT_EN, VERIFY_DIS or TX_EN (R116). -/
def State.mmUpdate (s : State) (p : Nat) : State :=
  let st := s.rd (F.LN_Pn_MM_STATUS_VERIFY_STATE p)
  let quiet (s : State) : State := s.setLnPort p { s.lnPort p with pendV := false, pendR := false, sentV := 0 }
  (if ¬ s.on (F.LN_Pn_CTRL_PREEMPT_EN p) ∨ s.on (F.LN_Pn_CTRL_VERIFY_DIS p) then quiet (s.wr (F.LN_Pn_MM_STATUS_VERIFY_STATE p) 0)
  else if ¬ s.linkUp p then quiet (s.wr (F.LN_Pn_MM_STATUS_VERIFY_STATE p) 1)
  else if st ≤ 1 then s.mmVerify p
  else s).mmActive p

/-- No Respond within VERIFY_TIME ms (R116). -/
def execVerifyTimeout (p : Fin 10) (s : State) : Out :=
  let p := p.val
  let r := s.lnPort p
  .next (if s.rd (F.LN_Pn_MM_STATUS_VERIFY_STATE p) = 2 ∧ 0 < r.sentV ∧ ¬ r.pendV
      ∧ r.atV + max 1 (min 128 (s.rd (F.LN_Pn_VERIFY_VERIFY_TIME p))) * 1000000 ≤ s.tb.mono then
    if r.sentV < 3 then s.setLnPort p { r with pendV := true }
    else ((s.wr (F.LN_Pn_MM_STATUS_VERIFY_STATE p) 4).inc (F.LN_Pn_VERIFY_FAIL p)).raise Src.LN_VERIFY_FAIL p none 0
  else s)

/-- A Respond mPacket ends a verification (R116). -/
def State.respondRx (s : State) (p : Nat) : State :=
  if s.rd (F.LN_Pn_MM_STATUS_VERIFY_STATE p) = 2 then
    ((s.wr (F.LN_Pn_MM_STATUS_VERIFY_STATE p) 3).setLnPort p { s.lnPort p with pendV := false }).mmActive p
  else s

/-- A Respond mPacket is received (R116). -/
def execRespondReceived (p : Fin 10) (s : State) : Out :=
  .next (s.looped p.val (fun w => w == .mpacket p.val true) (fun s => if s.linkUp p.val then s.respondRx p.val else s))

/-- A verify mPacket is received: after DISABLED it is answered (R116). -/
def execVerifyReceived (p : Fin 10) (s : State) : Out :=
  .next (s.looped p.val (fun w => w == .mpacket p.val false) (fun s =>
    if s.linkUp p.val ∧ s.rd (F.LN_Pn_MM_STATUS_VERIFY_STATE p.val) ≠ 0 then s.setLnPort p.val { s.lnPort p.val with pendR := true } else s))

/-- May an mPacket leave now (R531)? -/
def State.mpacketFits (s : State) (p : Nat) : Bool :=
  let ready := s.ln.items.any (fun x => match x.2 with | some it => decide (it.port = p) && it.dtl.isSome && s.inReady it | none => false)
  let fits : Bool := match s.guarded' p s.ln.next with
    | some (d, _) => decide ((s.wireDt p : Int) * 10 + ((84 * s.byteTime p : Nat) : Int) ≤ (d : Int) * 10)
    | none => true
  s.txUp p && (s.lnPort p).wire.isNone && decide ((s.lnPort p).free ≤ s.now10) && !ready && (!s.on (F.LN_Pn_CTRL_GUARD_EN p) || fits)

/-- A waiting respond or verify mPacket leaves: 72 byte times and the gap (R531). -/
def execMpacketSend (p : Fin 10) (s : State) : Out :=
  let p := p.val
  let r := s.lnPort p
  .next (if s.mpacketFits p ∧ (r.pendV ∨ r.pendR) then
    let w : Wire := ⟨none, r.pendR, s.now10, some (s.now10 + 72 * s.byteTime p), none⟩
    let r1 := if r.pendR then { r with wire := some w, pendR := false }
      else { r with wire := some w, pendV := false, sentV := r.sentV + 1, atV := s.tb.mono }
    (s.setLnPort p r1).emit (.mpacket p r.pendR)
  else s)

/-- VERIFY_RESTART (R116). -/
def State.verifyRestart (s : State) (p : Nat) : State :=
  if s.rd (F.LN_Pn_MM_STATUS_VERIFY_STATE p) = 4 then
    if s.linkUp p then s.mmVerify p else s.wr (F.LN_Pn_MM_STATUS_VERIFY_STATE p) 1
  else s

/-- LN_Pn_CTRL.VERIFY_RESTART (R116). -/
def execVerifyRestart (m : Nat) (p : Fin 10) (s : State) : Out :=
  .next (s.busW m (0x70400 + 0x80 * p.val) (fun s => s.verifyRestart p.val))

/-! Hold and release (R86, R118). -/

/-- KILN's hold reaches the MAC: HOLD_ACTIVE, and a pre-emptable frame on the wire is cut (R86, R118, R254). -/
def State.holdNow (s : State) (p : Nat) : State :=
  ((s.setHold p true).inc (F.LN_Pn_HOLD_CNT p)).holdCut p

/-- From where the next request of a port is looked for: behind the last one made, and not before the entry in force. -/
def State.hrFrom (s : State) (p : Nat) (made : Int) : Int :=
  max made ((if (s.knPort p).running then (s.knPort p).last else s.gateDt p) - 1)

/-- At DT_E − HOLD_ADV of a Set-And-Hold-MAC entry KILN sends a hold; the field die takes none while its follower is unlocked
(R86, R87). -/
def execHoldRequest (p : Fin 10) (s : State) : Out :=
  let p := p.val
  let r := s.knPort p
  .next (match s.nextHr p 1 (s.hrFrom p r.lastHold) with
    | some t => if s.fieldLocked p ∧ t ≤ s.gateDt p + s.rd (F.KN_Pn_HOLD_ADV p) then (s.setKnPort p { r with lastHold := t }).holdNow p else s
    | none => s)

/-- At DT_E − REL_ADV of a Set-And-Release-MAC entry KILN sends a release (R86, R87). -/
def execReleaseRequest (p : Fin 10) (s : State) : Out :=
  let p := p.val
  let r := s.knPort p
  .next (match s.nextHr p 2 (s.hrFrom p r.lastRel) with
    | some t => if s.fieldLocked p ∧ t ≤ s.gateDt p + s.rd (F.KN_Pn_REL_ADV p) then (s.setKnPort p { r with lastRel := t }).setHold p false else s
    | none => s)

/-! Engines and ports (R108, R127, R366). -/

/-- LN_ENG_MAP of a port. -/
def engFld (p : Nat) : Fld :=
  [F.LN_ENG_MAP_ENG_P0, F.LN_ENG_MAP_ENG_P1, F.LN_ENG_MAP_ENG_P2, F.LN_ENG_MAP_ENG_P3, F.LN_ENG_MAP_ENG_P4, F.LN_ENG_MAP_ENG_P5,
   F.LN_ENG_MAP_ENG_P6, F.LN_ENG_MAP_ENG_P7, F.LN_ENG_MAP_ENG_P8].getD p F.LN_ENG_MAP_ENG_P9

/-- The engine whose ports the spare is taking over (R127, R449). -/
def State.lnRetiring (s : State) : Option Nat := (s.sp.queue.find? (fun e => e.act && e.cls == 4)).map (·.unit)

/-- Engines that take ports: engine 4 only after a substitution, no retired or retiring one (R127, R366). -/
def State.enginesUp (s : State) : List Nat :=
  (if s.on F.LN_STATUS_SPARE_USED || !s.sp.retLn.isEmpty then [0, 1, 2, 3, 4] else [0, 1, 2, 3]).filter
    (fun e => !s.sp.retLn.contains e && s.lnRetiring != some e)

/-- Sum of the rates, in Mb/s, of the other ports bound to an engine (R366). -/
def State.engineLoad (s : State) (p e : Nat) : Nat :=
  ((List.range 10).map (fun q => if q ≠ p ∧ s.rd (engFld q) = e then s.portRate q / 1000 else 0)).sum

/-- The engine PITCH wants for a port, and the trace reason (R366, R370); the ports of a retiring engine are left to the spare (R127). -/
def State.wantEngine (s : State) (p : Nat) : Nat × Nat :=
  let fixed := bits (s.rd F.PT_LN_BIND) (3 * p) 3
  if s.lnRetiring = some (s.rd (engFld p)) then (s.rd (engFld p), 0)
  else if s.enginesUp.contains fixed then (fixed, 1)
  else
    ((s.enginesUp.foldl (fun o e => match o with
      | none => some e
      | some b => if s.engineLoad p e < s.engineLoad p b then some e else some b) none).getD (s.rd (engFld p)), 0)

/-- PITCH rebinds a port inside a quiet interval; outside one it waits, and the wait is a yield (R108, R254, R366). -/
def execEngineRebind (p : Fin 10) (s : State) : Out :=
  let p := p.val
  let w := s.wantEngine p
  .next (if w.1 = s.rd (engFld p) then s
  else if (s.knPort p).quiet.isSome then
    let s0 := if w.1 = 4 then s.wr F.LN_STATUS_SPARE_USED 1 else s
    let s1 := (((s0.wr (engFld p) w.1).inc F.PT_LN_REBIND).traceDecision 4 (if w.1 = 4 then 2 else w.2) w.1 p)
    { s1 with ln := { s1.ln with waits := s1.ln.waits.filter (fun x => x != p) } }
  else if p ∈ s.ln.waits then s
  else ({ s with ln := { s.ln with waits := p :: s.ln.waits } }).yieldTo 3 7)

end Sys2Proof.Machine
end

