-- ==== Sys2Proof/Machine/TimeStep.lean ====
section
/-!
DEFINITION. Steps of DT: the acquisition step and the re-epoch (R42, R60 to R64, R188).
Where the manual leaves a point open, the choices are log entries 19, 20, 21 (DEDUCED).
-/

namespace Sys2Proof.Machine

/-- Add to DT; both residue-checked counters take the step (R39, R42). -/
def State.moveDt (s : State) (d : Int) : State :=
  { s with tb := { s.tb with dt := BitVec.ofInt 64 ((s.dt : Int) + d), shDt := BitVec.ofInt 64 ((s.tb.shDt.toNat : Int) + d) } }

/-- Does a standby twin refuse arms (R281)? -/
def State.reepBarred (s : State) : Bool :=
  s.on F.TW_CTRL_EN && s.on F.TW_CTRL_REEP_SYNC && (s.rd F.TW_STATUS_ROLE == 2 || s.rd F.TW_STATUS_ROLE == 3)

/-- An ARM, written or by a timed action, and whether it was taken (R60, R281). -/
def State.reepArm (s : State) (anchor : Nat) : State × Bool :=
  let d := toSigned 64 (s.rd64 F.TB_REEP_LO F.TB_REEP_HI)
  let since : Int := (s.dt + 10000 : Nat)
  let b := s.reepBoundary anchor since
  let rej := s.wr F.TB_STATUS_REEP_REJ 1
  if s.reepBarred then (rej.wr F.TW_STATUS_REEP_REJ 1, false)
  else if s.tbState ≤ tbAcquire ∨ s.tb.reep.isSome ∨ b + d < 0 then (rej, false)
  else ({ s with tb := { s.tb with reep := some ⟨d, b, anchor, since⟩ } }, true)

/-! Re-anchoring (R63). -/

/-- Move a 64-bit DT register pair. -/
def State.shiftReg (s : State) (d : Int) (lo hi : Fld) : State :=
  s.wr64 lo hi (ofSigned 64 (toSigned 64 (s.rd64 lo hi) + d))

/-- A port's lists move, where it has any: their base times, a computed change time, and the instants kept beside it. -/
def State.shiftPort (s : State) (d : Int) (p : Nat) : State :=
  let s0 := if s.operLen p = 0 then s else s.shiftReg d (F.KN_Pn_OPER_BASE_LO p) (F.KN_Pn_OPER_BASE_HI p)
  let s1 := if s.rd (F.KN_Pn_ADMIN_LEN p) = 0 then s0 else s0.shiftReg d (F.KN_Pn_ADMIN_BASE_LO p) (F.KN_Pn_ADMIN_BASE_HI p)
  let s2 := if s1.cfgPending p then s1.shiftReg d (F.KN_Pn_CHG_TIME_LO p) (F.KN_Pn_CHG_TIME_HI p) else s1
  let r := s2.knPort p
  s2.setKnPort p { r with
    opNeg := if s.operLen p = 0 then r.opNeg else decide (s.operBase p + d < 0),
    admNeg := if s.rd (F.KN_Pn_ADMIN_LEN p) = 0 then r.admNeg else decide (s.adminBase p + d < 0),
    startAt := r.startAt.map (· + d), cctAt := r.cctAt + d, last := r.last + d, lastHold := r.lastHold + d,
    lastRel := r.lastRel + d, lastSent := r.lastSent + d, quiet := r.quiet.map (fun q => (q.1 + d, q.2 + d)),
    fdQ := r.fdQ.map (fun q => (q.1 + d, q.2)) }

/-- Does a bank of descriptors list anything of a gate? -/
def sgListed (l : List (Nat × DWord)) (g : Nat) : Bool := l.any (fun x => x.1 / 4 == g)

/-- Set BASE, word 0 of a gate's descriptor (R90), where the bank lists one. -/
def sgRebase (l : List (Nat × DWord)) (g : Nat) (b : Int) : List (Nat × DWord) :=
  if sgListed l g then Sparse.put 0 l (g * 4) (BitVec.ofInt 64 b) else l

/-- A stream gate's lists move. -/
def State.shiftGate (s : State) (d : Int) (g : Nat) : State :=
  let r := s.sg g
  let s1 := { s with kn := { s.kn with
    sgAdmin := sgRebase s.kn.sgAdmin g (s.sgBaseA g + d), sgOper := sgRebase s.kn.sgOper g (s.sgBaseO g + d) } }
  s1.setSg g { r with
    aNeg := if sgListed s.kn.sgAdmin g then decide (s.sgBaseA g + d < 0) else r.aNeg,
    oNeg := if sgListed s.kn.sgOper g then decide (s.sgBaseO g + d < 0) else r.oNeg,
    cct := r.cct + d, cctAt := r.cctAt + d, startAt := r.startAt.map (· + d), last := r.last + d,
    hist := r.hist.map (fun e => (e.1 + d, e.2)) }

/-- The stream gates' lists move. -/
def State.shiftGates (s : State) (d : Int) : State :=
  (List.range 1024).foldl (fun s g =>
    if sgListed s.kn.sgAdmin g || sgListed s.kn.sgOper g || s.kn.sgs.any (fun x => x.1 == g) then s.shiftGate d g else s) s

/-- The timers of TBASE that are kept as a DT move with it. -/
def State.shiftTb (s : State) (d : Int) : State :=
  { s with tb := { s.tb with
      ppsOutEnd := s.tb.ppsOutEnd.map (fun t => ((t : Int) + d).toNat), ppsInAt := s.tb.ppsInAt + 4 * d,
      nextSync := s.tb.nextSync.map (fun x => (x.1, ((x.2 : Int) + d).toNat)) } }

/-- Jobs and timed actions of the span that a forward step skips become due (R61). -/
def State.makeDue (s : State) (b d : Int) : State :=
  let inSpan (t : Nat) : Bool := decide (b ≤ (t : Int)) && decide ((t : Int) < b + d)
  { s with
    ln := { s.ln with items := s.ln.items.map (fun x => (x.1, x.2.map (fun it => match it.dtl with
      | some t => if inSpan t then { it with due := true } else it
      | none => it))) },
    kn := { s.kn with tas := s.kn.tas.map (fun x => (x.1, x.2.map (fun t => if inSpan t.dt then { t with due := true } else t))) } }

/-- A backward step brings the DT_L of jobs that have started back before DT: they are not repeated, and each is a yield (R62,
R254). -/
def State.notRepeated (s : State) (b d : Int) : State :=
  let back (t : Nat) : Bool := decide (b + d ≤ (t : Int))
  ((s.ln.launched.filter back).foldl (fun s _ => s.yieldTo 2 3)
    { s with ln := { s.ln with launched := s.ln.launched.filter (fun t => !back t) } })

/-- The wait after RS_DONE moves with DT (R63, R284). -/
def State.shiftTw (s : State) (d : Int) : State :=
  { s with tw := { s.tw with rsDoneAt := s.tw.rsDoneAt.map (fun t => ((t : Int) + d).toNat), readyAt := ((s.tw.readyAt : Int) + d).toNat } }

/-- The timed-action engine takes DT as it now is: its cycles of the time before are over (R61, R62, R95). -/
def State.taAnew (s : State) : State := { s with kn := { s.kn with taAt := none, taNs := [] } }

/-- DT steps by `d` at boundary `b`: lists and timers move, the horizon drains, and a forward step makes the jobs of the skipped
span due (R61 to R63, R188). -/
def State.applyStep (s : State) (b d : Int) : State :=
  let s1 := s.moveDt d
  let s2 := (List.range 10).foldl (fun s p => s.shiftPort d p) s1
  let s3 := ((((s2.shiftGates d).shiftTb d).shiftTw d).taAnew).hzDrain
  if 0 < d then s3.makeDue b d else s3.notRepeated b d

/-- TB_CTRL.STEP_GO (R42): in FREE and ACQUIRE only, and never below 0; it acts on jobs, lists and timers as a re-epoch does
(R43), and is recorded (R36). -/
def State.stepGo (s : State) : State :=
  let d := toSigned 64 (s.rd64 F.TB_STEP_LO F.TB_STEP_HI)
  if s.tbState ≤ tbAcquire ∧ 0 ≤ (s.dt : Int) + d then (s.applyStep s.dt d).recordStep (s.dt + d) d
  else (s.wr F.TB_STATUS_STEP_REJ 1).raise0 Src.TB_STEP_REJ 0

/-- A write of TB_CTRL with STEP_GO (R42). -/
def execStepGo (m : Nat) (s : State) : Out := .next (s.busW m 0x20000 (fun s => s.stepGo))

/-- The completion of the re-epoch of boundary `b` (R64). -/
def State.reepDone (s : State) (b d : Int) : State :=
  let s1 := s.recordStep (b + d) d
  ((if s1.tbState = tbJump then s1.leaveJump else s1)).raise0 Src.TB_STEP_DONE 0

/-- At boundary B the armed step is applied (R60 to R64, R188). -/
def execReepochApply (s : State) : Out :=
  .next (match s.tb.reep with
  | none => s
  | some r =>
    if r.bnd ≤ (s.dt : Int) then
      (({ s with tb := { s.tb with reep := none } }).applyStep r.bnd r.delta).reepDone r.bnd r.delta
    else s)

end Sys2Proof.Machine
end

