-- ==== Sys2Proof/Machine/Twin.lean ====
section
/-!
DEFINITION. The twin agent: roles, heartbeats, paths, the lease, claims and releases, mirroring, resynchronisation, re-epoch
forwarding, self-test, health record and frame agreement (R261 to R290).
Where the manual leaves a point open, the choices are log entries 33, 42, 43 (DEDUCED).
-/

namespace Sys2Proof.Machine

/-- Roles (R262). -/
def roleDisabled : Nat := 0
def roleForming : Nat := 1
def roleSyncing : Nat := 2
def roleStandby : Nat := 3
def roleActing : Nat := 4

def State.role (s : State) : Nat := s.rd F.TW_STATUS_ROLE
def State.twinId (s : State) : Nat := s.rd F.TW_STATUS_TWIN_ID

/-! TOUT pads under PAIR_EXCL (R69, R274). -/

/-- Level that the timed actions of a pad have set; IDLE before the first. `tb.tout` holds the level in bit n and, in bit 4 + n,
whether an action has set it. -/
def State.toutLevel (s : State) (n : Nat) : Bool :=
  if bits s.tb.tout (4 + n) 1 = 1 then bits s.tb.tout n 1 == 1 else s.on (F.TB_TOUTn_CFG_IDLE n)

/-- Drive a pad: its level changes only where it is enabled. -/
def State.toutDrive (s : State) (n : Nat) : State :=
  let level := if s.on (F.TB_TOUTn_CFG_PAIR_EXCL n) && !s.acts then s.on (F.TB_TOUTn_CFG_IDLE n) else s.toutLevel n
  if s.on (F.TB_TOUTn_CFG_OE n) ∧ (bits s.tb.toutPad n 1 == 1) ≠ level then
    ({ s with tb := { s.tb with toutPad := putBits s.tb.toutPad n 1 level.toNat } }).emit (.tout n level)
  else s

/-- Drive every pad: the role has changed. -/
def State.toutAll (s : State) : State := (((s.toutDrive 0).toutDrive 1).toutDrive 2).toutDrive 3

/-- Enter a role: READY goes with it (R263), and the pads of R274. -/
def State.setRole (s0 : State) (r : Nat) : State :=
  let s := if 3 ≤ r ∧ s0.role < 3 then { s0 with tw := { s0.tw with readyAt := s0.dt } } else s0
  ((s.wr F.TW_STATUS_ROLE r).wr F.TW_STATUS_READY (decide (3 ≤ r)).toNat).toutAll

/-! Settings (R270, R272, R289). -/

def State.hbPeriod (s : State) : Nat := max 20 (min 10000 (s.rd F.TW_HB_CFG_PERIOD_US)) * 1000
def State.hbLoss (s : State) : Nat := max 1 (s.rd F.TW_HB_CFG_LOSS_N) * s.hbPeriod
/-- LEASE_US + GUARD_US in ns. -/
def State.silenceNs (s : State) : Nat := max (s.rd F.TW_LEASE_LEASE_US * 1000) (3 * s.hbPeriod) + s.rd F.TW_LEASE_GUARD_US * 1000
/-- The last valid heartbeat on either path, or the enable. -/
def State.lastHeard (s : State) : Nat := max s.tw.since (max (s.tw.hbD.getD 0) (s.tw.hbP.getD 0))
def State.dolnosUp (s : State) : Bool := s.on F.TW_STATUS_DOLNOS_UP

/-- H_p of a port (R185), and the largest of them. -/
def State.hznP (s : State) (p : Nat) : Nat := s.hznH + if p < 2 then 0 else 50000
def State.hznMax (s : State) : Nat := s.hznP 2

/-! Frames on the two paths (R266 to R268). -/

/-- A Dolnos frame: header, payload and CRC-32. -/
def State.dolnosFrame (s : State) (type flags seq : Nat) (payload : List Byte) : List Byte :=
  let credit := 1024 - s.gy.qMir.length
  let h := leBytes 1 type ++ leBytes 1 (flags + 2) ++ leBytes 2 payload.length ++ leBytes 4 seq ++ leBytes 4 s.tw.rxNext
    ++ leBytes 2 credit ++ leBytes 1 s.twinId ++ leBytes 1 0
  h ++ payload ++ fcs (h ++ payload)

/-- Send a frame that is not RELIABLE. -/
def State.dolnosSend (s : State) (type flags : Nat) (payload : List Byte) : State := s.emit (.dolnos (s.dolnosFrame type flags 0 payload))

/-- A bare acknowledgement, or a NAK: an empty frame of type MIRROR without RELIABLE. -/
def State.dolnosAck (s : State) (nak : Bool) : State := s.dolnosSend 0x10 (nak.toNat * 4) []

/-- May another RELIABLE frame be sent (R267)? -/
def State.dolnosRoom (s : State) : Bool := s.dolnosUp && decide (s.tw.unacked.length < 64)

/-- Send a RELIABLE frame and keep it (R267). -/
def State.dolnosReliable (s : State) (type : Nat) (payload : List Byte) : State :=
  let n := s.tw.txSeq
  let s1 := s.emit (.dolnos (s.dolnosFrame type 1 n payload))
  { s1 with tw := { s1.tw with
      txSeq := (n + 1) % 2 ^ 32, unacked := s1.tw.unacked ++ [⟨type, n, payload⟩],
      progressAt := if s1.tw.unacked.isEmpty then s1.tb.mono else s1.tw.progressAt } }

/-! The reliable transport (R267). -/

/-- Is a sequence number before another, modulo 2³²? -/
def seqBefore (a b : Nat) : Bool := decide ((b + 2 ^ 32 - a) % 2 ^ 32 < 2 ^ 31) && decide (a ≠ b)

/-- Send every unacknowledged frame again from the first missing one (R267). -/
def State.resend (s : State) : State :=
  let s1 := s.tw.unacked.foldl (fun s f => (s.emit (.dolnos (s.dolnosFrame f.type 1 f.seq f.payload))).inc F.TW_RETX) s
  { s1 with tw := { s1.tw with progressAt := s1.tb.mono } }

/-- A REEP frame that waits leaves when there is room (R267, R281). -/
def State.sendReep (s : State) : State :=
  match s.tw.reepBuf with
  | some b => if s.dolnosRoom then ({ s with tw := { s.tw with reepBuf := none } }).dolnosReliable 0x12 b else s
  | none => s

/-- The acknowledgement in a frame's header. -/
def State.takeAck (s : State) (flags ack : Nat) : State :=
  if bits flags 1 1 = 0 then s
  else
    let rest := s.tw.unacked.filter (fun f => !seqBefore f.seq ack)
    let s1 := { s with tw := { s.tw with
      unacked := rest, progressAt := if rest.length < s.tw.unacked.length then s.tb.mono else s.tw.progressAt } }
    (if bits flags 2 1 = 1 then s1.resend else s1).sendReep

/-- What every valid Dolnos frame's header tells: the acknowledgement and the credit (R266, R267, R276). -/
def State.takeHeader (s : State) (data : List Byte) : State :=
  let s1 := s.takeAck (leNat (slice data 1 1)) (leNat (slice data 8 4))
  { s1 with tw := { s1.tw with credit := leNat (slice data 12 2) } }

/-- CRC-16 of the pulse line (R268). -/
def pulseCrc (l : List Byte) : List Byte := leBytes 2 (crc 16 0x1021 0xFFFF 0 false false l)

/-- SUMMARY of the health record (R283). -/
def State.summary (s : State) : Nat :=
  (s.on F.TW_STATUS_SELFTEST_FAIL).toNat + (decide (s.tbState = tbLocked ∨ s.tbState = tbHoldover)).toNat * 2
    + (s.on F.TW_STATUS_READY).toNat * 4 + (s.linkUp 0).toNat * 8 + (s.linkUp 1).toNat * 16
    + (s.on F.TW_STATUS_MIR_DEGRADED).toNat * 32 + (s.on F.TW_STATUS_DIVERGED).toNat * 64
    + (s.cl.crits.any (fun t => decide (s.tb.mono < t + 1000000000))).toNat * 128

/-- A pulse frame of a type with this twin's lease (R268). -/
def State.pulseFrame (s : State) (type : Nat) : List Byte :=
  let b := leBytes 1 type ++ leBytes 1 (s.twinId + s.role * 2) ++ leBytes 2 (s.tw.hbSeq % 65536) ++ leBytes 4 (s.rd F.TW_PAIR_ID)
    ++ leBytes 4 (s.rd F.TW_EPOCH) ++ leBytes 1 s.summary ++ leBytes 1 0
  b ++ pulseCrc b

/-- Send a claim (3) or a release (4) on both enabled paths; on the Dolnos link the payload is PAIR_ID and EPOCH. -/
def State.announce (s : State) (type : Nat) : State :=
  let s1 := if s.on F.TW_CTRL_DOLNOS_EN then s.dolnosSend type 0 (leBytes 4 (s.rd F.TW_PAIR_ID) ++ leBytes 4 (s.rd F.TW_EPOCH)) else s
  if s1.on F.TW_CTRL_PULSE_EN then s1.emit (.pulse (s1.pulseFrame type)) else s1

/-! Digests and the health record (R265, R283). -/

/-- The configuration digest (R265). -/
def State.cfgDigest (s : State) : Nat :=
  leNat (fcs ((([s.rd F.MS_HZN_H_NS,
    s.rd F.TW_HB_CFG_PERIOD_US + s.rd F.TW_HB_CFG_LOSS_N * 2 ^ 20,
    s.rd F.TW_LEASE_LEASE_US + s.rd F.TW_LEASE_GUARD_US * 2 ^ 16,
    s.rd F.FN_EVT_SKIP_SKIP, s.rd F.TW_PAIR_MAC_LO, s.rd F.TW_PAIR_MAC_HI, s.rd F.TW_CHK_PERIOD, s.rd F.TW_FIELD_DUAL]).map (leBytes 4)).flatten))

/-- Self-tests 1 and 2 as they stand, 0 by the last uncorrectable error, 3 as it last ran (R282). -/
def State.testBits (s : State) : Nat :=
  let recent (t : Option Nat) : Bool := match t with | some t => decide (s.tb.mono < t + 1000000000) | none => false
  (recent s.tw.ueAt).toNat
    + (s.tbState == tbFree || s.tbState == tbAcquire || s.tbState == tbJump || recent s.tw.unresAt).toNat * 2
    + (!s.linkUp 0 && !s.linkUp 1).toNat * 4 + bits s.tw.tests 3 1 * 8

/-- Take the tests' results: SELFTEST_FAIL, and TW_SELFTEST at a change from pass to fail (R282). -/
def State.setTests (s : State) (t : Nat) : State :=
  let fresh := (List.range 4).any (fun i => bits t i 1 == 1 && bits s.tw.tests i 1 == 0)
  let s1 := ({ s with tw := { s.tw with tests := t } }).wr F.TW_STATUS_SELFTEST_FAIL (decide (t ≠ 0)).toNat
  if fresh then s1.raise0 Src.TW_SELFTEST t else s1

/-- The health record (R283). -/
def State.healthRecord (s : State) : List Byte :=
  let o := s.tw.chkOwn.getD (0, 0, 0)
  let temp := (List.range 4).foldl (fun m n => max m (toSigned 16 (s.rd (F.MG_TEMP_n n)))) (-32768 : Int)
  let crit := s.cl.crits.countP (fun t => decide (s.tb.mono < t + 1000000000))
  let links := ((List.range 10).map (fun p => (s.linkUp p).toNat * 2 ^ (4 + p))).sum
  let b := leBytes 1 1 ++ leBytes 1 (s.role + s.twinId * 8) ++ leBytes 1 s.summary ++ leBytes 1 s.tw.tests ++ leBytes 4 (s.rd F.TW_EPOCH)
    ++ leBytes 8 s.dt ++ leBytes 8 o.1 ++ leBytes 4 o.2.1 ++ leBytes 4 o.2.2 ++ leBytes 4 s.cfgDigest
    ++ leBytes 2 (ofSigned 16 temp) ++ leBytes 1 (min 255 s.spUnits) ++ leBytes 1 (min 255 crit)
    ++ leBytes 4 (min (2 ^ 32 - 1) (s.tw.mirBuf.length + s.tw.dirty.length))
    ++ leBytes 4 (s.tbState + (s.on F.TB_FLW_STAT_LOCK).toNat * 8 + links)
    ++ leBytes 8 (s.rd64 F.TW_APP_DIGEST_LO F.TW_APP_DIGEST_HI) ++ leBytes 4 0
  b ++ fcs b

/-- Store the 16 words of a record in a register group. -/
def State.putHealth (s : State) (f : Nat → Fld) (rec_ : List Byte) : State :=
  (List.range 16).foldl (fun s n => s.wr (f n) (leNat (slice rec_ (4 * n) 4))) s

/-! The lease (R271 to R275). -/

/-- Is (e, id) a greater lease than this twin's (R271)? -/
def State.greaterLease (s : State) (e id : Nat) : Bool :=
  decide (s.rd F.TW_EPOCH < e) || (decide (s.rd F.TW_EPOCH = e) && id == 0 && s.twinId == 1)

/-- An epoch seen from the peer (R271). -/
def State.seeEpoch (s : State) (e : Nat) : State := s.wr F.TW_PEER_EPOCH (max e (s.rd F.TW_PEER_EPOCH))

/-- Wipe the horizon's view and queue (R186, R284). -/
def State.hzWipe (s : State) : State := ({ s with hz := { s.hz with queue := [], view := [] } }).hzLevel

/-- The EVENT-mode generation functions with TWIN = 1. -/
def State.twinGens (s : State) : List Nat := (List.range 16384).filter (fun g => s.fn.gens.any (fun x => x.1 == g * 2) && s.genValid g && s.genTwin g)

/-- Set SEQ of a generation function. -/
def State.setGenSeq (s : State) (g n : Nat) : State :=
  { s with fn := { s.fn with gens := Sparse.put 0 s.fn.gens (g * 2) (BitVec.ofNat 64 (putBits (s.gen g 0) 16 16 n)) } }

/-- Enter SYNCING: the horizon is wiped, and with it what the twin knows of newest writes, the EVENT-mode state of TWIN functions cleared, and a resync will be requested (R284). -/
def State.enterSync (s : State) : State :=
  let s1 := (s.setRole roleSyncing).hzWipe
  let s2 := s1.twinGens.foldl (fun s g => s.setGenSeq g 0) s1
  ({ s2 with tw := { s2.tw with rsWait := true, rsServe := false, rsNext := 0, rsDoneAt := none, bbLeft := 0, newest := [] } }).wr F.TW_RS_STAT_ACTIVE 0

/-- The first Sync of each dual-homed port after a claim leaves at once (R274). -/
def State.dualSync (s : State) : State :=
  let ports := (List.range 8).filter (fun n => bits (s.rd F.TW_FIELD_DUAL) n 1 == 1)
  { s with tb := { s.tb with nextSync := ports.foldl (fun t n => Sparse.put 0 t n s.dt) s.tb.nextSync } }

/-- The claim's steps in order (R272). -/
def State.claim (s : State) : State :=
  let s1 := (s.wr F.TW_EPOCH (max (s.rd F.TW_EPOCH) (s.rd F.TW_PEER_EPOCH) + 1)).wr64 F.TW_LAST_CLAIM_DT_LO F.TW_LAST_CLAIM_DT_HI s.dt
  let s2 := (s1.setRole roleActing).dualSync
  let s3 := s2.twinGens.foldl (fun s g => s.setGenSeq g (bits (s.gen g 0) 16 16 + s.rd F.FN_EVT_SKIP_SKIP)) s2
  let s4 := s3.announce 0x03
  let s5 := { s4 with tw := { s4.tw with
    bbLeft := max 1 (s4.rd F.TW_CLAIM_CFG_REPEAT), bbNext := s4.tb.mono, rsWait := false, rsDoneAt := none } }
  (((s5.wr F.TW_RS_STAT_ACTIVE 0).inc F.TW_CLAIM_CNT).raise0 Src.TW_CLAIM (s5.rd F.TW_EPOCH)).logEvent logTwin

/-- Yield to a greater lease (R271). -/
def State.yieldLease (s : State) : State :=
  (((s.enterSync).inc F.TW_YIELD_CNT).raise0 Src.TW_YIELDED (s.rd F.TW_EPOCH)).logEvent logTwin

/-- A lease seen in a frame of the peer: an acting twin yields to a greater one. -/
def State.seeLease (s : State) (e id : Nat) : State :=
  let s1 := s.seeEpoch e
  if s1.role = roleActing ∧ s1.greaterLease e id then s1.yieldLease else s1

/-- TW_CTRL.EN becomes 1 (R262). -/
def State.twinEnable (s : State) : State :=
  let s1 := (s.wr F.TW_CTRL_EN 1).setRole roleForming
  { s1 with tw := { s1.tw with since := s1.tb.mono, hbNext := s1.tb.mono, stNext := s1.tb.mono + 10000000, peerLostSent := false } }

/-- TW_CTRL.EN becomes 0, or a block reset (R290): the horizon and the dirty map stay. -/
def State.twinDisable (s : State) : State :=
  let s1 := ((((s.wr F.TW_CTRL_EN 0).setRole roleDisabled).wr F.TW_EPOCH 0).wr F.TW_STATUS_PEER_OK 0).wr F.TW_RS_STAT_ACTIVE 0
  let s2 := ((s1.wr F.TW_STATUS_DOLNOS_UP 0).wr F.TW_STATUS_PULSE_UP 0).wr F.TW_STATUS_PEER_ACTING 0
  { s2 with tw := { Tw.reset with
      dirty := s2.tw.dirty, newest := s2.tw.newest, ueAt := s2.tw.ueAt, unresAt := s2.tw.unresAt,
      mirBuf := s2.tw.mirBuf, lossRaised := s2.tw.lossRaised, tests := s2.tw.tests } }

/-- TW_CTRL.EN written: only a change acts (R262, R290). -/
def State.twEnWrite (s : State) (b : Bool) : State :=
  if b == s.on F.TW_CTRL_EN then s else if b then s.twinEnable else s.twinDisable

/-- TW_CTRL.EN = 1 (R262). -/
def execTwinEnable (m : Nat) (s : State) : Out := .next (s.busW m 0x120000 (fun s => s.twEnWrite true))

/-- TW_CTRL.EN = 0 (R290). -/
def execTwinDisable (m : Nat) (s : State) : Out := .next (s.busW m 0x120000 (fun s => s.twEnWrite false))

/-! Heartbeats (R264, R265, R269, R270, R280). -/

/-- Every PERIOD_US a heartbeat leaves on each enabled path; TX_DT is the instant of this command (R269). None leaves in HOLD
(R410). -/
def execHeartbeatTx (s : State) : Out :=
  .next (if ¬ s.on F.TW_CTRL_EN ∨ s.tb.mono < s.tw.hbNext ∨ s.power = pwHold then s
  else
    let s0 := s.setTests s.testBits
    let s1 := { s0 with tw := { s0.tw with hbNext := s0.tb.mono + s0.hbPeriod, hbSeq := (s0.tw.hbSeq + 1) % 65536 } }
    let s2 := if s1.on F.TW_CTRL_DOLNOS_EN then
        let r := s1.healthRecord
        ((s1.putHealth F.TW_HEALTH_OWN_n r).dolnosSend 0x02 0 (leBytes 8 s1.dt ++ leBytes 8 s1.tw.echoTx.toNat ++ leBytes 8 s1.tw.echoRx.toNat ++ r)).inc F.TW_HB_TX
      else s1
    if s2.on F.TW_CTRL_PULSE_EN then (s2.emit (.pulse (s2.pulseFrame 0x02))).inc F.TW_HB_TX else s2)

/-- The offset between the twins from the four stamps of a Dolnos heartbeat (R280). -/
def State.twinOffset (s : State) (t1 t2 t3 t4 : Int) : State :=
  let offs := ((t2 - t1) - (t4 - t3)) / 2
  let s1 := (s.wr F.TW_OFFS (ofSigned 32 offs)).wr F.TW_LINK_DLY (ofSigned 32 (((t2 - t1) + (t4 - t3)) / 2))
  if s1.rd F.TW_OFFS_THR < offs.natAbs then
    let s2 := { s1 with tw := { s1.tw with offsOver := min 3 (s1.tw.offsOver + 1), offsUnder := 0 } }
    if s2.tw.offsOver = 3 ∧ ¬ s2.on F.TW_STATUS_TIME_DIFF then (s2.wr F.TW_STATUS_TIME_DIFF 1).raise0 Src.TW_TIME_DIFF 0 else s2
  else
    let s2 := { s1 with tw := { s1.tw with offsUnder := min 3 (s1.tw.offsUnder + 1), offsOver := 0 } }
    if s2.tw.offsUnder = 3 then s2.wr F.TW_STATUS_TIME_DIFF 0 else s2

/-- A difference bit follows; its onset raises TW_CFG_DIFF (R265). -/
def State.diffBit (s : State) (f : Fld) (differs : Bool) : State :=
  if differs ∧ ¬ s.on f then (s.wr f 1).raise0 Src.TW_CFG_DIFF 0 else s.wr f differs.toNat

/-- Compare the window of the peer's record with this twin's own of that index, once per window (R286). -/
def State.chkCompare (s : State) : State :=
  match s.tw.chkPeer, s.tw.chkPeer.bind (fun b => (s.tw.chkOwn.toList ++ s.tw.chkOld).find? (fun a => a.1 == b.1)) with
  | some b, some a =>
    if s.tw.chkSeen ≠ some a.1 then
      let s1 := { s with tw := { s.tw with chkSeen := some a.1 } }
      if a.2 = b.2 then s1 else ((s1.wr F.TW_STATUS_DIVERGED 1).inc F.TW_DIVERGE_CNT).raise0 Src.TW_DIVERGE a.1
    else s
  | _, _ => s

/-- A path has brought a valid heartbeat: two in a row bring it up again (R270). -/
def State.pathBeat (s : State) (pulse : Bool) : State :=
  if pulse then
    let s1 := { s with tw := { s.tw with hbP := some s.tb.mono, rowP := s.tw.rowP + 1 } }
    let s2 := s1.inc F.TW_HB_RX_P
    if 2 ≤ s2.tw.rowP then s2.wr F.TW_STATUS_PULSE_UP 1 else s2
  else
    let s1 := { s with tw := { s.tw with hbD := some s.tb.mono, rowD := s.tw.rowD + 1 } }
    let s2 := s1.inc F.TW_HB_RX_D
    if 2 ≤ s2.tw.rowD ∧ ¬ s2.dolnosUp then ({ s2 with tw := { s2.tw with lossRaised := false } }).wr F.TW_STATUS_DOLNOS_UP 1 else s2

/-- The record of a Dolnos heartbeat (R265, R280, R283, R286). -/
def State.peerRecord (s : State) (payload : List Byte) (at_ : Nat) : State :=
  let r := slice payload 24 64
  let t3 := leNat (slice payload 0 8)
  let t1 := leNat (slice payload 8 8)
  let s1 := s.putHealth F.TW_HEALTH_PEER_n r
  let s2 := (s1.diffBit F.TW_STATUS_CFG_DIFF (decide (leNat (slice r 32 4) ≠ s1.cfgDigest))).diffBit F.TW_STATUS_APP_DIFF
    (decide (leNat (slice r 48 8) ≠ s1.rd64 F.TW_APP_DIGEST_LO F.TW_APP_DIGEST_HI))
  let s3 := s2.wr64 F.TW_PEER_APP_DIGEST_LO F.TW_PEER_APP_DIGEST_HI (leNat (slice r 48 8))
  let s4 := { s3 with tw := { s3.tw with
    echoTx := BitVec.ofNat 64 t3, echoRx := BitVec.ofNat 64 at_,
    chkPeer := some (leNat (slice r 16 8), leNat (slice r 24 4), leNat (slice r 28 4)) } }
  (if t1 = 0 then s4 else s4.twinOffset t1 (leNat (slice payload 16 8)) t3 at_).chkCompare

/-- What a valid heartbeat does to the role (R262, R271). -/
def State.beatRole (s : State) (role epoch id : Nat) : State :=
  if s.role = roleForming then
    if role = roleActing then s.enterSync
    else if role = roleForming then (if s.twinId = 0 then s.claim else s.enterSync)
    else s
  else if role = roleActing then s.seeLease epoch id
  else s

/-- A heartbeat arrives. `pair` is the PAIR_ID that it carries, `ago` the age of its start block at the pads. On the pulse line
`data` is the 16-byte frame, on the Dolnos link the whole frame (R264, R266 to R270). -/
def execHeartbeatRx (pulse : Bool) (pair : Word) (data : List Byte) (ago : Nat) (s : State) : Out :=
  .next (if ¬ s.on F.TW_CTRL_EN ∨ ¬ s.on (if pulse then F.TW_CTRL_PULSE_EN else F.TW_CTRL_DOLNOS_EN) then s
  else
    let payload := slice data 16 88
    let id := if pulse then leNat (slice data 1 1) % 2 else leNat (slice data 14 1) % 2
    let good : Bool := if pulse then decide (data.length = 16) && decide (data.drop 14 = pulseCrc (data.take 14))
      else decide (data.length = 108) && decide (data.drop 104 = fcs (data.take 104))
    let role := if pulse then leNat (slice data 1 1) / 2 % 8 else leNat (slice payload 25 1) % 8
    let epoch := if pulse then leNat (slice data 8 4) else leNat (slice payload 28 4)
    let summary := if pulse then leNat (slice data 12 1) else leNat (slice payload 26 1)
    if ¬ good ∨ pair.toNat ≠ s.rd F.TW_PAIR_ID then s.inc F.TW_HB_BAD
    else if id = s.twinId then (s.inc F.TW_HB_BAD).raise0 Src.TW_ID_CONFLICT 0
    else
      let s1 := (if pulse then s else s.takeHeader data).pathBeat pulse
      let s2 := ((s1.wr F.TW_STATUS_PEER_OK 1).wr F.TW_STATUS_PEER_ACTING (decide (role = roleActing)).toNat).wr F.TW_STATUS_PEER_HEALTH summary
      let s3 := { s2.seeEpoch epoch with tw := { s2.tw with
        peerRole := role, peerReady := bits summary 2 1 == 1, peerLostSent := false,
        rsServe := s2.tw.rsServe && decide (role = roleSyncing), rsNext := if role = roleSyncing then s2.tw.rsNext else 0 } }
      (if pulse then s3 else s3.peerRecord payload (s.dt - ago)).beatRole role epoch id)

/-- Records in the buffer become dirty bits: the link is down (R278). -/
def State.bufToDirty (s : State) : State :=
  s.tw.mirBuf.foldl (fun s r => s.mirDirty r.point) { s with tw := { s.tw with mirBuf := [], seqBuf := [] } }

/-- No valid heartbeat on a path for LOSS_N periods (R270); a resynchronisation over the Dolnos link is abandoned and begins again
(R285). -/
def execPathLoss (pulse : Bool) (s : State) : Out :=
  .next (
    let f := if pulse then F.TW_STATUS_PULSE_UP else F.TW_STATUS_DOLNOS_UP
    let last := (if pulse then s.tw.hbP else s.tw.hbD).getD 0
    if s.on F.TW_CTRL_EN ∧ s.tb.mono ≥ last + s.hbLoss then
      let s0 := { s with tw := { s.tw with rowD := if pulse then s.tw.rowD else 0, rowP := if pulse then 0 else s.tw.rowP } }
      if s.on f then
        let s1 := ((s0.wr f 0).inc F.TW_PATH_LOSS_CNT).raise0 Src.TW_PATH_LOSS pulse.toNat
        if pulse then s1
        else
          let s2 := { s1 with tw := { s1.tw with rsServe := false, rsNext := 0, rsDoneAt := none, rsWait := decide (s1.role = roleSyncing), reepBuf := none } }
          (if s2.role = roleSyncing then s2.wr F.TW_RS_STAT_ACTIVE 0 else s2).bufToDirty
      else s0
    else s)

/-- FORM_WAIT expires with no peer heard (R262). -/
def execFormWaitExpiry (s : State) : Out :=
  .next (if s.role = roleForming ∧ ¬ s.on F.TW_STATUS_PEER_OK ∧ ¬ s.tw.peerLostSent ∧ s.tw.since + s.rd F.TW_FORM_WAIT * 1000000 ≤ s.tb.mono then
    let s1 := ({ s with tw := { s.tw with peerLostSent := true } }).raise0 Src.TW_PEER_LOST 0
    if s1.on F.TW_CTRL_CLAIM_ALONE then s1.claim else s1
  else s)

/-- Silence on both paths for LEASE_US + GUARD_US (R272). -/
def execLeaseExpiry (s : State) : Out :=
  .next (if ¬ s.on F.TW_CTRL_EN ∨ s.tb.mono < s.lastHeard + s.silenceNs then s
  else
    let heard := s.on F.TW_STATUS_PEER_OK
    let s1 := s.wr F.TW_STATUS_PEER_OK 0
    if s.role = roleStandby then
      (if ¬ s.on F.TW_STATUS_SELFTEST_FAIL ∨ s.on F.TW_CTRL_CLAIM_IF_FAILED then s1.claim else s1)
    else if heard then s1.raise0 Src.TW_PEER_LOST 0 else s1)

/-- A CLAIM arrives on a path (R271). -/
def execClaimRx (pulse : Bool) (pair epoch : Word) (id : Fin 2) (s : State) : Out :=
  .next (if ¬ s.on F.TW_CTRL_EN ∨ ¬ s.on (if pulse then F.TW_CTRL_PULSE_EN else F.TW_CTRL_DOLNOS_EN) ∨ pair.toNat ≠ s.rd F.TW_PAIR_ID
      ∨ id.val = s.twinId then s
  else s.seeLease epoch.toNat id.val)

/-- A RELEASE arrives: a standby claims at once when it carries the current epoch (R273). -/
def execReleaseRx (pulse : Bool) (pair epoch : Word) (id : Fin 2) (s : State) : Out :=
  .next (if ¬ s.on F.TW_CTRL_EN ∨ ¬ s.on (if pulse then F.TW_CTRL_PULSE_EN else F.TW_CTRL_DOLNOS_EN) ∨ pair.toNat ≠ s.rd F.TW_PAIR_ID
      ∨ id.val = s.twinId then s
  else
    let s1 := s.seeEpoch epoch.toNat
    if s1.role = roleStandby ∧ epoch.toNat = s1.rd F.TW_PEER_EPOCH then s1.claim else s1)

/-! Backbone claims (R275). -/

/-- The bytes of a backbone claim frame. -/
def State.bbClaim (s : State) (p : Nat) (counter : Bool) : List Byte :=
  leBytes 4 (s.rd F.TW_CLAIM_DA_LO) ++ leBytes 2 (s.rd F.TW_CLAIM_DA_HI) ++ s.portMac p ++ beBytes 2 (s.rd F.TW_CLAIM_CFG_ETYPE)
    ++ leBytes 4 (s.rd F.TW_PAIR_ID) ++ leBytes 4 (s.rd F.TW_EPOCH) ++ leBytes 1 (s.twinId + counter.toNat * 2) ++ leBytes 1 0
    ++ leBytes 8 (s.rd64 F.TW_LAST_CLAIM_DT_LO F.TW_LAST_CLAIM_DT_HI) ++ List.replicate 28 0

/-- A backbone claim frame of this pair is handed to the agent: `f` is its payload (R275). -/
def State.bbClaimRx (s : State) (p : Nat) (f : List Byte) : State :=
  let e := leNat (slice f 4 4)
  let id := leNat (slice f 8 1) % 2
  let s1 := s.inc F.TW_BB_CLAIM_RX
  if ¬ s1.on F.TW_CTRL_EN ∨ id = s1.twinId then s1
  else
    let s2 := s1.seeEpoch e
    if s2.role ≠ roleActing then s2
    else if s2.greaterLease e id then s2.yieldLease
    else if (match s2.tw.bbAt with | some t => decide (t + s2.hbPeriod ≤ s2.tb.mono) | none => true) then
      ({ s2 with tw := { s2.tw with bbAt := some s2.tb.mono } }).ownFrame p (s2.rd F.TW_CLAIM_CFG_CLASS) (s2.bbClaim p true)
    else s2

/-- A backbone claim frame arrives (R275). -/
def execBackboneClaimRx (p : Fin 2) (payload : List Byte) (s : State) : Out :=
  .next (if leNat (slice payload 0 4) = s.rd F.TW_PAIR_ID then s.bbClaimRx p.val payload else s)

/-- A claim frame leaves on every backbone port whose TX_EN is 1, once per heartbeat period (R275). -/
def execBackboneClaimTx (s : State) : Out :=
  .next (if s.tw.bbLeft = 0 ∨ s.tb.mono < s.tw.bbNext then s
  else
    let s1 := { s with tw := { s.tw with bbLeft := s.tw.bbLeft - 1, bbNext := s.tb.mono + s.hbPeriod } }
    let send (s : State) (p : Nat) : State :=
      if s.on (F.LN_Pn_CTRL_TX_EN p) then s.ownFrame p (s.rd F.TW_CLAIM_CFG_CLASS) (s.bbClaim p false) else s
    send (send s1 0) 1)

/-! Commands (R272, R273). -/

def State.twDone (s : State) (code : Nat) : State := (s.wr F.TW_CMD_RESULT_DONE 1).wr F.TW_CMD_RESULT_CODE code

/-- TW_CMD RELEASE (R273): three RELEASE frames on each path, then STANDBY. -/
def State.twRelease (s : State) : State :=
  if ¬ s.on F.TW_CTRL_EN then s.twDone 5
  else if s.role ≠ roleActing then s.twDone 1
  else if ¬ s.on F.TW_STATUS_PEER_OK then s.twDone 2
  else if ¬ (s.tw.peerRole = roleStandby ∧ s.tw.peerReady) then s.twDone 3
  else
    let s1 := ((s.announce 0x04).announce 0x04).announce 0x04
    (({ s1 with tw := { s1.tw with bbLeft := 0 } }).setRole roleStandby).twDone 0

/-- TW_CMD FORCE_CLAIM (R272). -/
def State.forceClaim (s : State) : State :=
  if ¬ s.on F.TW_CTRL_EN then s.twDone 5
  else if s.role = roleActing then s.twDone 4
  else s.claim.twDone 0

/-- TW_CMD REJOIN (R284, R289): from STANDBY, or from ACTING with no peer. -/
def State.rejoin (s : State) : State :=
  if ¬ s.on F.TW_CTRL_EN then s.twDone 5
  else if s.role = roleStandby ∨ (s.role = roleActing ∧ ¬ s.on F.TW_STATUS_PEER_OK) then s.enterSync.twDone 0
  else if s.role = roleActing then s.twDone 4
  else s.twDone 0

def execTwRelease (m : Nat) (s : State) : Out := .next (s.busW m 0x120008 (fun s => s.twRelease))
def execForceClaim (m : Nat) (s : State) : Out := .next (s.busW m 0x120008 (fun s => s.forceClaim))
def execRejoin (m : Nat) (s : State) : Out := .next (s.busW m 0x120008 (fun s => s.rejoin))

/-! Mirroring (R276 to R278). -/

/-- A mirror record's 40 bytes (R276). -/
def MirRec.bytes (r : MirRec) : List Byte :=
  leBytes 4 (r.point % 2 ^ 23 + r.mode % 8 * 2 ^ 24 + r.key.o % 2 * 2 ^ 27) ++ leBytes 4 r.key.n ++ leBytes 8 r.key.t
    ++ leBytes 8 r.value.toNat ++ leBytes 8 r.upd.toNat ++ leBytes 1 r.qual ++ leBytes 1 r.epoch ++ leBytes 2 r.src
    ++ leBytes 2 r.maxage ++ leBytes 1 r.flags ++ leBytes 1 0

/-- The origin key of a record (R276). -/
def recKey (b : List Byte) : Key := ⟨leNat (slice b 8 8), bits (leNat (slice b 0 4)) 27 1, leNat (slice b 4 4)⟩

/-- The write that a record brings; `rs` for a resynchronisation record. -/
def mirWrite (b : List Byte) (rs : Bool) : PWrite :=
  let w := leNat (slice b 0 4)
  { origin := 4, point := bits w 0 23, value := BitVec.ofNat 64 (leNat (slice b 16 8)), upd := some (BitVec.ofNat 64 (leNat (slice b 24 8))),
    qual := leNat (slice b 32 1), src := leNat (slice b 34 2), mode := bits w 24 3, mono := false, present := true,
    cfg := some (leNat (slice b 36 2), leNat (slice b 38 1)), key := some (recKey b),
    rs := rs, epoch := leNat (slice b 33 1), job := none }

/-- Split a payload into records of `n` bytes. -/
def records (n : Nat) (l : List Byte) : List (List Byte) := (List.range (l.length / n)).map (fun i => slice l (i * n) n)

/-- An 8-byte SEQ record (R276). -/
def seqBytes (r : Nat × Nat × Nat) : List Byte := leBytes 4 (r.1 % 2 ^ 14 + r.2.1 % 65536 * 65536) ++ leBytes 4 r.2.2

/-- SEQ records that wait leave, up to 30 in a frame. -/
def State.sendSeqs (s : State) : State :=
  if s.tw.seqBuf.isEmpty then s
  else if ¬ s.dolnosUp then { s with tw := { s.tw with seqBuf := [] } }
  else if ¬ s.dolnosRoom then s
  else
    let now := s.tw.seqBuf.take 30
    ({ s with tw := { s.tw with seqBuf := s.tw.seqBuf.drop 30 } }).dolnosReliable 0x11 (now.map seqBytes).flatten

/-- Send one MIRROR frame of up to 6 records within the credit (R276). -/
def State.sendMirror (s : State) : State :=
  let n := min 6 (min s.tw.mirBuf.length s.tw.credit)
  if n = 0 ∨ ¬ s.dolnosRoom then s
  else
    let now := s.tw.mirBuf.take n
    ((({ s with tw := { s.tw with mirBuf := s.tw.mirBuf.drop n, credit := s.tw.credit - n, batchAt := s.tb.mono } }).dolnosReliable 0x10
      (now.map MirRec.bytes).flatten).add F.TW_MIR_TX n)

/-- A MIRROR frame closes when its first record is TW_MIR_BATCH ns old or it is full; SEQ records go with it (R276). -/
def execMirrorBatchClose (s : State) : Out :=
  .next (
    let s1 := s.sendSeqs
    if s1.tw.mirBuf.length ≥ 6 ∨ (s1.tw.mirBuf ≠ [] ∧ s1.tw.batchAt + s1.rd F.TW_MIR_BATCH ≤ s1.tb.mono) then s1.sendMirror else s1)

/-- MIR_DEGRADED follows the dirty map (R278). -/
def State.mirState (s : State) : State := s.wr F.TW_STATUS_MIR_DEGRADED (decide (s.tw.dirty ≠ [])).toNat

/-- The newest write of the lowest dirty point is sent with its original key (R278). -/
def execDirtyMapFlush (s : State) : Out :=
  .next (match s.tw.dirty with
  | [] => s
  | p :: rest =>
    if s.dolnosUp ∧ s.on F.TW_CTRL_MIR_EN ∧ s.on F.TW_CTRL_EN ∧ 0 < s.tw.credit ∧ s.tw.mirBuf.length < 4096 then
      let s1 := ({ s with tw := { s.tw with dirty := rest } }).mirState
      match s1.point p, Sparse.get none s1.tw.newest p with
      | some r, some (k, mode) => s1.mirSend (mirRecOf p r k mode)
      | _, _ => s1
    else s)

/-- No ACK_SEQ has moved for 5 µs (R267). -/
def execDolnosRetransmit (s : State) : Out :=
  .next (if s.tw.unacked ≠ [] ∧ s.dolnosUp ∧ s.tw.progressAt + 5000 ≤ s.tb.mono then s.resend else s)

/-- A REEP frame: the standby arms the same step at the same boundary if it arrives at least 2 µs before B (R281). -/
def State.reepRx (s : State) (d b : Int) : State :=
  if s.reepBarred then
    if (s.dt : Int) + 2000 ≤ b ∧ tbAcquire < s.tbState ∧ s.tb.reep.isNone ∧ 0 ≤ b + d then
      { s with tb := { s.tb with reep := some ⟨d, b, 15, b⟩ } }
    else (s.wr F.TW_STATUS_REEP_REJ 1).raise0 Src.TW_REEP_MISS 0
  else s

/-- A re-epoch forwarded by the acting twin arrives (R281). -/
def execReepRx (delta bnd : Int) (s : State) : Out := .next (s.reepRx delta bnd)

/-- A number mirrored by the acting twin: the standby holds SEQ one beyond it (R208, R274). -/
def State.seqApply (s : State) (b : List Byte) : State :=
  let w := leNat (slice b 0 4)
  if s.role = roleActing then s else s.setGenSeq (bits w 0 14) (bits w 16 16 + 1)

/-- Records enter the queue of mirrored writes in frame order. -/
def State.queueMirror (s : State) (l : List (List Byte)) (rs : Bool) : State :=
  { s with gy := { s.gy with qMir := s.gy.qMir ++ l.map (fun b => mirWrite b rs) } }

/-- Apply an accepted RELIABLE frame. -/
def State.dolnosApply (s : State) (type : Nat) (payload : List Byte) : State :=
  match type with
  | 0x10 =>
    let l := records 40 payload
    ((l.foldl (fun s b => s.hzLate (recKey b)) s).queueMirror l false).add F.TW_MIR_RX l.length
  | 0x11 => (records 8 payload).foldl State.seqApply s
  | 0x12 => s.reepRx (toSigned 64 (leNat (slice payload 0 8))) (toSigned 64 (leNat (slice payload 8 8)))
  | 0x20 =>
    if s.role = roleSyncing then
      let l := records 40 payload
      let last := match l.getLast? with | some b => bits (leNat (slice b 0 4)) 0 23 | none => s.rd F.TW_RS_STAT_POINT
      ((s.queueMirror l true).add F.TW_RS_REC l.length).wr F.TW_RS_STAT_POINT last
    else s
  | 0x21 => if s.role = roleSyncing then (records 8 payload).foldl State.seqApply s else s
  | _ => if s.role = roleSyncing then { s with tw := { s.tw with rsDoneAt := some s.dt } } else s

/-- A Dolnos frame arrives, header to CRC; heartbeats, claims and releases have rows of their own, here only their
acknowledgement counts (R266, R267). -/
def execDolnosFrameRx (data : List Byte) (s : State) : Out :=
  .next (if ¬ (s.on F.TW_CTRL_EN ∧ s.on F.TW_CTRL_DOLNOS_EN) then s
  else if ¬ (20 ≤ data.length ∧ data.drop (data.length - 4) = fcs (data.take (data.length - 4))) then s.dolnosAck true
  else
    let type := leNat (slice data 0 1)
    let flags := leNat (slice data 1 1)
    let seq := leNat (slice data 4 4)
    let payload := slice data 16 (data.length - 20)
    if type ∉ [0x02, 0x03, 0x04, 0x10, 0x11, 0x12, 0x20, 0x21, 0x22] then s.inc F.TW_HB_BAD
    else
      let s1 := s.takeHeader data
      if bits flags 0 1 = 0 then s1
      else if seq ≠ s1.tw.rxNext then s1.dolnosAck true
      else (({ s1 with tw := { s1.tw with rxNext := (seq + 1) % 2 ^ 32 } }).dolnosApply type payload).dolnosAck false)

/-! Re-epoch arms (R60, R281). -/

/-- Arm a re-epoch; the acting twin forwards it with its boundary. -/
def State.reepochArm (s : State) (anchor : Nat) : State :=
  let r := s.reepArm anchor
  if r.2 ∧ s.on F.TW_CTRL_EN ∧ s.on F.TW_CTRL_REEP_SYNC ∧ s.role = roleActing ∧ s.dolnosUp then
    match r.1.tb.reep with
    | some e =>
      ({ r.1 with tw := { r.1.tw with
        reepBuf := some (leBytes 8 (ofSigned 64 e.delta) ++ leBytes 8 (ofSigned 64 e.bnd) ++ leBytes 1 anchor) } }).sendReep
    | none => r.1
  else r.1

/-- A write of TB_REEP_CTRL; the anchor of an armed re-epoch stays. -/
def State.reepCtrl (s : State) (anchor : Nat) (arm : Bool) : State :=
  let s1 := if s.tb.reep.isSome then s else s.wr F.TB_REEP_CTRL_ANCHOR anchor
  if arm then s1.reepochArm (anchor % 16) else s1

/-- A write of TB_REEP_CTRL with ARM (R60). -/
def execReepochArm (m anchor : Nat) (s : State) : Out := .next (s.busW m 0x20038 (fun s => s.reepCtrl anchor true))

/-! Resynchronisation (R284, R285). -/

/-- A twin in SYNCING asks for a resync once the link is up; its heartbeats' ROLE carries the request (R284). -/
def execResyncRequest (s : State) : Out :=
  .next (if s.role = roleSyncing ∧ s.tw.rsWait ∧ s.dolnosUp then
    ((({ s with tw := { s.tw with rsWait := false } }).wr F.TW_RS_STAT_ACTIVE 1).wr F.TW_RS_STAT_DONE 0).wr F.TW_RS_STAT_POINT 0
  else s)

/-- The mirrored points from a position on, ascending, at most `n`. -/
def State.mirroredFrom (s : State) (at_ n : Nat) : List (Nat × Point) :=
  ((s.gy.points.filterMap (fun x => match x.2 with | some r => if at_ ≤ x.1 ∧ r.mirror then some (x.1, r) else none | none => none))).take n

/-- The record of a point in a resynchronisation: its newest write's key, in mode CONFIG. -/
def State.rsRecord (s : State) (p : Nat) (r : Point) : List Byte :=
  (mirRecOf p r (match Sparse.get none s.tw.newest p with | some e => e.1 | none => ⟨0, 0, 0⟩) 5).bytes

/-- The acting twin sends the next frame of the walk: points, then generation state, then RS_DONE. It yields to mirror and SEQ
frames (R284, R285). -/
def execResyncWalk (s : State) : Out :=
  .next (if ¬ (s.role = roleActing ∧ s.tw.peerRole = roleSyncing ∧ s.dolnosRoom ∧ s.tw.mirBuf = [] ∧ s.tw.seqBuf = []) ∨ s.tw.rsNext > 2 ^ 23 + 16384 then s
  else
    let s0 := { s with tw := { s.tw with rsServe := true } }
    let l := s0.mirroredFrom s0.tw.rsNext (min 6 s0.tw.credit)
    if s0.tw.rsNext < 2 ^ 23 ∧ l ≠ [] then
      let next := match l.getLast? with | some x => x.1 + 1 | none => 0
      ({ s0 with tw := { s0.tw with rsNext := next, credit := s0.tw.credit - l.length } }).dolnosReliable 0x20 (l.map (fun (x : Nat × Point) => s0.rsRecord x.1 x.2)).flatten
    else if s0.tw.rsNext < 2 ^ 23 ∧ s0.tw.credit = 0 ∧ s0.mirroredFrom s0.tw.rsNext 1 ≠ [] then s0
    else
      let gs := (s0.twinGens.filter (fun g => decide (s0.tw.rsNext - 2 ^ 23 ≤ g))).take 30
      match gs.getLast? with
      | some g =>
        ({ s0 with tw := { s0.tw with rsNext := 2 ^ 23 + g + 1 } }).dolnosReliable 0x21
          (gs.map (fun g => seqBytes (g, bits (s0.gen g 0) 16 16 + 65535, s0.dt % 2 ^ 32))).flatten
      | none => ({ s0 with tw := { s0.tw with rsNext := 2 ^ 23 + 16385 } }).dolnosReliable 0x22 [])

/-- After RS_DONE and the largest H_p the twin enters STANDBY (R284). -/
def execResyncComplete (s : State) : Out :=
  .next (match s.tw.rsDoneAt with
  | none => s
  | some t =>
    if s.role = roleSyncing ∧ t + s.hznMax < s.dt then
      ((((({ s with tw := { s.tw with rsDoneAt := none, rsWait := false } }).setRole roleStandby).inc F.TW_RS_CNT).wr F.TW_RS_STAT_ACTIVE 0).wr F.TW_RS_STAT_DONE 1)
    else s)

/-! Self-test and frame agreement (R282, R286). -/

/-- Every 10 ms a free engine assembles the test template: did its CRC match the design value (R282)? -/
def execSelftestAssembly (good : Bool) (s : State) : Out :=
  .next (if s.on F.TW_CTRL_EN ∧ s.tw.stNext ≤ s.tb.mono then
    ({ s with tw := { s.tw with stNext := s.tb.mono + 10000000 }, sp := { s.sp with stFails := if good then 0 else s.sp.stFails + 1 } }).setTests (putBits s.tw.tests 3 1 (!good).toNat)
  else s)

/-- A launch of a TWIN template enters the digest of its window (R286). -/
def State.chkNote (s : State) (dtl tpl crc : Nat) : State :=
  if s.on F.TW_CTRL_EN ∧ s.on F.TW_CTRL_CHK_EN ∧ s.on F.TW_STATUS_READY then { s with tw := { s.tw with chk := s.tw.chk ++ [(dtl, tpl, crc)] } } else s

/-- Order of launches in a digest: DT_L, then template. -/
def chkInsert (x : Nat × Nat × Nat) : List (Nat × Nat × Nat) → List (Nat × Nat × Nat)
  | [] => [x]
  | y :: t => if x.1 < y.1 ∨ (x.1 = y.1 ∧ x.2.1 < y.2.1) then x :: y :: t else y :: chkInsert x t

/-- A window is complete 2 × P after its end; one that is completed while READY has its digest and count published, and compared
(R286). -/
def execCheckWindowComplete (s : State) : Out :=
  .next (
    let p := (if s.rd F.TW_CHK_PERIOD = 0 then 1000 else s.rd F.TW_CHK_PERIOD) * 1000
    let done := s.dt / p - 3
    let from_ := match s.tw.chkOwn with | some o => if done ≤ o.1 + 8 then o.1 + 1 else done | none => done
    let w := max from_ (s.tw.readyAt / p - 2)
    if ¬ s.on F.TW_CTRL_EN ∨ ¬ s.on F.TW_CTRL_CHK_EN ∨ ¬ s.on F.TW_STATUS_READY ∨ s.dt < 3 * p then s
    else if done < w then s
    else
      let l := (s.tw.chk.filter (fun x => x.1 / p == w)).foldl (fun a x => chkInsert x a) []
      let digest := leNat (fcs (l.map (fun (x : Nat × Nat × Nat) => leBytes 2 x.2.1 ++ leBytes 4 x.2.2)).flatten)
      ({ s with tw := { s.tw with
        chk := s.tw.chk.filter (fun x => decide (w < x.1 / p)), chkOwn := some (w, digest, l.length),
        chkOld := s.tw.chkOwn.toList ++ s.tw.chkOld } }).chkCompare)

end Sys2Proof.Machine
end

