-- ==== Sys2Proof/Machine/Mash.lean ====
section
/-!
DEFINITION. MASH: templates and their schedules, assembly, staleness, the horizon's reads, its commands and its window (R169 to
R193, R367).
Where the manual leaves a point open, the choices are log entries 44, 67 (DEDUCED).
-/

namespace Sys2Proof.Machine

/-! Template content as fetched (R169 to R172): `c` the eight words of a control record, `t` the 128 slot descriptors, `g` the 64
words of the image. -/

/-- The bytes of a list of words. -/
def wordBytes (l : List DWord) : List Byte := (l.map (fun w => leBytes 8 w.toNat)).flatten

/-- A little-endian field of a control record. -/
def ctlField (c : List DWord) (off n : Nat) : Nat := leNat (slice (wordBytes c) off n)

def tpLen (c : List DWord) : Nat := ctlField c 0 2 % 1024
def tpCtrl (c : List DWord) (i : Nat) : Bool := bits (ctlField c 2 1) i 1 == 1
/-- STALE_POL: 0 CARRY, 1 MARK, otherwise SUPPRESS. -/
def tpPol (c : List DWord) : Nat := bits (ctlField c 2 1) 4 2
def tpNslot (c : List DWord) : Nat := ctlField c 3 1
def tpStream (c : List DWord) : Nat := ctlField c 4 2 % 32768
def tpPort (c : List DWord) : Nat := ctlField c 6 1 % 16
def tpEvery (c : List DWord) : Nat := ctlField c 12 2
def tpPhase (c : List DWord) : Nat := ctlField c 14 2
def tpOffset (c : List DWord) : Nat := ctlField c 8 4
def tpCsum (c : List DWord) : Nat := ctlField c 19 1
def tpL3 (c : List DWord) : Nat := ctlField c 20 2 % 512
def tpL4 (c : List DWord) : Nat := ctlField c 22 2 % 512
def tpCrc (c : List DWord) : Nat := ctlField c 24 1

/-- A slot descriptor's fields (R171). -/
structure SlotD where
  point : Nat
  chk : Bool
  off : Nat
  len : Nat
  src : Nat
  little : Bool
  shift : Nat
deriving DecidableEq, Repr

def slotOf (w : DWord) : SlotD :=
  let x := w.toNat
  ⟨bits x 0 23, bits x 23 1 == 1, bits x 32 9, bits x 48 4, bits x 52 3, bits x 55 1 == 1, bits x 56 6⟩

/-- The slots in use. -/
def slotsOf (c t : List DWord) : List SlotD := (t.take (tpNslot c)).map slotOf

/-- Bytes that a slot writes (R172). -/
def SlotD.size (d : SlotD) : Nat := if d.src = 4 then 1 else d.len

/-- Does a slot read a point? -/
def SlotD.reads (d : SlotD) : Bool := decide (d.src < 6)

/-! The three parts in memory (R169). -/

def State.msCtl (s : State) (t : Nat) : List DWord := (List.range 8).map (fun n => Sparse.get 0 s.ms.ctl (t * 8 + n))
def State.msSlots (s : State) (t : Nat) : List DWord := (List.range 128).map (fun n => Sparse.get 0 s.ms.slots (t * 128 + n))
def State.msImage (s : State) (t : Nat) : List DWord := (List.range 64).map (fun n => Sparse.get 0 s.ms.images (t * 64 + n))
def State.tplEn (s : State) (t : Nat) : Bool := tpCtrl (s.msCtl t) 0

/-- MASH runs. -/
def State.msOn (s : State) : Bool := s.on F.MS_CTRL_EN && !s.on F.MS_STATUS_WIPING

/-! Port leads (R173, R176). -/

/-- A_hot, A_dram and the hand-off lead in tenths of a ns, by port mode (R176). -/
def State.leads (s : State) (p : Nat) : Nat × Nat × Nat :=
  if 2 ≤ p then (50160, 51500, 500000)
  else match s.rd (F.BP_CTRL_MODE p) with
    | 0 => (160, 1500, 400)
    | 1 => (200, 1500, 794)
    | 2 => (304, 1500, 1770)
    | _ => (304, 1500, 1834)

/-- The slower of two leads, part by part. -/
def slower (a b : Nat × Nat × Nat) : Nat × Nat × Nat := (max a.1 b.1, max a.2.1 b.2.1, max a.2.2 b.2.2)

/-- Leads of a launch: of the slowest of its egress ports; of the anchor port when it has none (R176). -/
def State.launchLeads (s : State) (l : TplLaunch) : Nat × Nat × Nat :=
  match s.stPorts (tpStream l.ctl) with
  | [] => s.leads l.port
  | p :: t => t.foldl (fun a q => slower a (s.leads q)) (s.leads p)

/-- The DT that a launch's instants are compared with: EGRESS of an SGMII port counts (R51, R176). -/
def State.launchDt (s : State) (l : TplLaunch) : Nat :=
  s.dt + ((s.stPorts (tpStream l.ctl)).foldl (fun a q => max a (s.egressDelay q)) 0)

/-- H_p of a launch (R185): a field egress or anchor port takes the longer one. -/
def State.launchH (s : State) (l : TplLaunch) : Nat :=
  ((s.stPorts (tpStream l.ctl)).foldl (fun a q => max a (s.hznP q)) (s.hznP l.port))

def State.launch (s : State) (i : Nat) : Option TplLaunch := s.ms.launches.find? (fun l => l.item == i)
def State.setLaunch (s : State) (v : TplLaunch) : State :=
  { s with ms := { s.ms with launches := s.ms.launches.map (fun l => if l.item = v.item then v else l) } }
def State.dropLaunch (s : State) (i : Nat) : State :=
  { s with ms := { s.ms with launches := s.ms.launches.filter (fun l => l.item != i) } }

/-! Creating launches (R173, R174). -/

/-- The ports of a template's frame; its anchor port when it has none. -/
def State.tplPorts (s : State) (c : List DWord) : List Nat :=
  match s.stPorts (tpStream c) with
  | [] => [tpPort c]
  | l => l

/-- The DT that the creation of a launch is compared with (R51). -/
def State.tplDt (s : State) (c : List DWord) : Nat := s.dt + (s.tplPorts c).foldl (fun a q => max a (s.egressDelay q)) 0

/-- The greatest cycle of a template whose creation instant has come, for the anchor's list now: DT_L − lead ≤ now; a frame for a
field port takes the longer lead. -/
def State.tplCycle (s : State) (c : List DWord) : Int :=
  let sch := s.sched (tpPort c)
  let lead : Int := if (s.tplPorts c).any (fun p => decide (2 ≤ p)) then 60000 else 4000
  let k := sch.cycleAt ((s.tplDt c : Int) + lead - tpOffset c)
  let e : Int := max 1 (tpEvery c)
  k - (k - tpPhase c) % e

/-- The engine with the fewest launches among those allowed, the lower on equal counts (R189, R367). -/
def State.pickEngine (s : State) : Nat :=
  let mask := if s.rd F.PT_MS_MASK % 32 = 0 then 0x1F else s.rd F.PT_MS_MASK % 32
  let up := (if s.sp.msSpare then [0, 1, 2, 3, 4] else [0, 1, 2, 3]).filter (fun e => !s.sp.retMs.contains e)
  let load (e : Nat) : Nat := s.ms.launches.countP (fun l => l.eng == e)
  ((up.filter (fun e => bits mask e 1 == 1)).foldl (fun o e => match o with
    | none => some e
    | some b => if load e < load b then some e else some b) none).getD 7

/-- Mark cycle `k` of a template on its anchor port as created. -/
def State.tplMark (s : State) (t p : Nat) (k : Int) : State :=
  { s with ms := { s.ms with lastK := Sparse.put none s.ms.lastK t (some (p, k)) } }

/-- The item of one egress port of a launch. -/
def tplItem (c : List DWord) (h p cls grp dtl : Nat) (seq : Option Nat) : Item :=
  { Item.plain srcTpl p cls grp [] with handle := some h, dtl := some dtl, lateDisc := tpCtrl c 3, seq := seq }

/-- Create the launch of cycle `k`: one item per egress port, the template fetched (R173, R206). -/
def State.createLaunch (s : State) (t : Nat) (k : Int) (dtl : Nat) : State :=
  let c := s.msCtl t
  let h := tpStream c
  let ports := s.stPorts h
  if ¬ s.wtRoomRsv (max 1 ports.length) then (s.inc F.LN_TPL_MISS).raise0 Src.LN_WT_EXHAUST 0
  else
    let grp := s.ln.next
    let seq := match s.genOf (some h) with
      | some g => if s.genSched g then some (s.schedSeq g k (ctlField c 7 1)) else none
      | none => none
    let s0 := if ports = [] then { s with ln := { s.ln with next := grp + 1 } } else s
    let s1 := ports.foldl (fun s p => (s.admitItem (tplItem c h p (s.stClass h p) grp dtl seq)).1) s0
    let e := s1.pickEngine
    let l : TplLaunch := ⟨grp, t, k, dtl, tpPort c, e, c, s.msSlots t, s.msImage t, false, [], [], [], false⟩
    if e = 7 then (({ s1 with ms := { s1.ms with launches := s1.ms.launches ++ [l] } }).noChoice 5 t)
    else ({ s1 with ms := { s1.ms with launches := s1.ms.launches ++ [l] } }).traceDecision 5 0 e t

/-- At DT_L less 4 µs, or 60 µs for a field port, the launch of the present cycle of a template is created (R173, R263). -/
def execTemplateLaunchCreate (t : BitVec 14) (s : State) : Out :=
  let t := t.toNat
  let c := s.msCtl t
  let p := tpPort c
  let k := s.tplCycle c
  let dtl := (s.sched p).boundary k + tpOffset c
  let fresh : Bool := match Sparse.get none s.ms.lastK t with | some j => decide (j.1 ≠ p ∨ j.2 < k) | none => true
  .next (if ¬ (s.msOn ∧ s.on F.MS_CTRL_SCHED_EN ∧ tpCtrl c 0 ∧ tpCtrl c 1 ∧ p < 10 ∧ (s.knPort p).running ∧ fresh
      ∧ (s.tplDt c : Int) < dtl ∧ 0 ≤ dtl) then s
  else
    let s1 := s.tplMark t p k
    if (s.sched p).cycle ≤ tpOffset c ∨ ¬ s.stValid (tpStream c) then s1.inc F.MS_SCHED_SKIP
    else if tpCtrl c 2 ∧ s.on F.TW_CTRL_EN ∧ ¬ s.on F.TW_STATUS_READY then s1.inc F.TW_NOTREADY_SUPP
    else s1.createLaunch t k dtl.toNat)

/-! Slot reads (R176 to R179, R185). -/

/-- The points that a launch's slots read, each once. -/
def TplLaunch.points (l : TplLaunch) : List Nat :=
  ((slotsOf l.ctl l.slots).filter SlotD.reads).foldl (fun a d => if a.contains d.point then a else a ++ [d.point]) []

/-- Is a point of a TWIN launch read through the horizon (R185)? -/
def State.throughHorizon (s : State) (l : TplLaunch) (p : Nat) : Bool :=
  tpCtrl l.ctl 2 && s.on F.MS_CTRL_HZN_EN && (match s.point p with | some r => r.mirror | none => false)

/-- At DT_L − (A_dram + 40 ns) the slot points are classed; what the horizon serves counts as DRAM (R176, R185). -/
def execSlotClassify (i : Nat) (s : State) : Out :=
  .next (match s.launch i with
  | none => s
  | some l =>
    if l.classed ∨ s.launchDt l + (s.launchLeads l).2.1 + 40 < l.dtl then s
    else
      let hot (p : Nat) : Bool := !s.throughHorizon l p && (match s.point p with | some r => r.hot && !s.gy.moves.any (fun m => m.point == p) | none => false)
      s.setLaunch { l with classed := true, hotWait := l.points.filter hot, dramWait := l.points.filter (fun p => !hot p), cold := l.points.any (fun p => !hot p) })

/-- The record a slot of a TWIN launch takes: the greatest key up to the horizon, of the view's entry and the queued writes
(R185, R186). -/
def State.hzRead (s : State) (p : Nat) (cut : Int) : Option Point :=
  let view := (Sparse.get none s.hz.view p).filter (fun e => decide ((e.1.t : Int) ≤ cut))
  let best := (s.hz.queue.filter (fun w => w.point == p && decide ((w.key.t : Int) ≤ cut))).foldl
    (fun (o : Option (Key × Point)) w => match o with
      | none => some (w.key, w.val)
      | some x => if x.1.lt w.key then some (w.key, w.val) else o) view
  best.map (·.2)

/-- Read one point for a launch, with its heat (R177, R365). -/
def State.slotRead (s : State) (l : TplLaunch) (p : Nat) : State × (Nat × Option Point) :=
  if s.throughHorizon l p then (s, (p, s.hzRead p ((l.dtl : Int) - s.launchH l)))
  else (if tpCtrl l.ctl 2 then s else s.heat p 16, (p, s.point p))

/-- Read a list of points for a launch. -/
def State.slotReads (s : State) (l : TplLaunch) : List Nat → State × List (Nat × Option Point)
  | [] => (s, [])
  | p :: t =>
    let r := s.slotRead l p
    let q := r.1.slotReads l t
    (q.1, r.2 :: q.2)

/-- Is a launch's DRAM, or hot, slot read due (R176)? -/
def State.dramDue (s : State) (l : TplLaunch) : Bool :=
  l.classed && !l.dramWait.isEmpty && decide (l.dtl ≤ s.launchDt l + (s.launchLeads l).2.1)
def State.hotDue (s : State) (l : TplLaunch) : Bool :=
  l.classed && !l.hotWait.isEmpty && decide (l.dtl ≤ s.launchDt l + (s.launchLeads l).1)

/-- The DRAM slots of a launch are read (R177). -/
def State.dramRead (s : State) (l : TplLaunch) : State :=
  let r := s.slotReads l l.dramWait
  r.1.setLaunch { l with dramWait := [], reads := l.reads ++ r.2 }

/-- At DT_L − A_dram the DRAM and horizon slots are read (R177, R185); a TWIN template's slots on unmirrored points are counted
(R187). -/
def execDramSlotRead (i : Nat) (s : State) : Out :=
  .next (match s.launch i with
  | none => s
  | some l => if s.dramDue l then s.dramRead l else s)

/-- One core cycle of the hot read ports: `n` more point reads, for the due launches in the order of their creation (R177). -/
def State.hotCycle (s : State) : List TplLaunch → Nat → State
  | [], _ => s
  | l :: t, n =>
    if s.hotDue l then
      let r := s.slotReads l (l.hotWait.take n)
      (r.1.setLaunch { l with hotWait := l.hotWait.drop n, reads := l.reads ++ r.2 }).hotCycle t (n - l.hotWait.length)
    else s.hotCycle t n

/-- Core cycles of this instant that the hot read ports have still to serve; an instant is two of them (R177). -/
def State.hotCycles (s : State) : Nat := if s.ms.hotAt = s.tb.mono then 2 - s.ms.hotUsed else 2

/-- The four hot read ports serve one core cycle; delayed demotions may then begin (R177, R179). -/
def State.hotServe (s : State) : State :=
  if s.hotCycles = 0 ∨ ¬ s.ms.launches.any s.hotDue then s
  else
    let s1 := { s with ms := { s.ms with hotAt := s.tb.mono, hotUsed := 3 - s.hotCycles } }
    (s1.hotCycle s1.ms.launches 4).tryMoves

/-- At DT_L − A_hot the hot slots are read, four in each core cycle, in the order in which the launches were created (R177, R179). -/
def execHotSlotRead (i : Nat) (s : State) : Out :=
  .next (match s.launch i with
  | none => s
  | some l => if s.hotDue l then s.hotServe else s)

/-- Every slot read that is due and can be served takes place (R163, R177). -/
def State.slotsDue (s : State) : State :=
  ((s.ms.launches.filter s.dramDue).foldl State.dramRead s).hotServe.hotServe

/-- The next write lands or is refused, or the next host job is served; the slot reads that are due come before it (R141, R142, R163,
R177). -/
def execPointWriteLand (s : State) : Out := .next s.slotsDue.gyStep

/-- The oldest move in progress completes: HOT changes, the move is counted, the slot reads that are due
come first, then the writes it held land (R139, R163). -/
def execTierMoveDone (s0 : State) : Out :=
  let s := s0.slotsDue
  match s.gy.moves with
  | [] => .next s0
  | m :: t =>
    let s1 := { s with gy := { s.gy with moves := t } }
    match s1.point m.point with
    | none => .next (m.held.foldl State.serve s1)
    | some r =>
      let s2 := ((s1.putPoint m.point (some { r with hot := m.toHot })).inc (if m.toHot then F.GY_PROMOTE else F.GY_DEMOTE)).heatMove m.point m.toHot
      .next (m.held.foldl State.serve s2)

/-! Filling (R172, R181 to R184). -/

/-- What a read returned for a point: an undefined point reads as never written (R172). -/
def TplLaunch.record (l : TplLaunch) (p : Nat) : Point :=
  match l.reads.find? (fun x => x.1 == p) with
  | some (_, some r) => r
  | _ => Point.fresh 0 0 false false

/-- Is a slot's point stale at DT_L, BAD_STALE included (R184)? -/
def TplLaunch.stale (l : TplLaunch) (d : SlotD) : Bool :=
  let r := l.record d.point
  d.reads && (r.stale l.dtl || (tpCtrl l.ctl 6 && decide (2 ≤ r.qual / 64)))

/-- The bytes of a value in a slot's order. -/
def SlotD.bytes (d : SlotD) (v : Nat) : List Byte := if d.little then leBytes d.len v else beBytes d.len v

/-- A slot's bytes in the frame (R172). -/
def TplLaunch.fill (l : TplLaunch) (f : List Byte) (d : SlotD) : List Byte :=
  let r := l.record d.point
  match d.src with
  | 0 => patch f d.off (d.bytes (r.value.toNat / 2 ^ d.shift % 2 ^ (8 * d.len)))
  | 1 => patch f d.off (d.bytes (r.upd.toNat / 2 ^ d.shift % 2 ^ (8 * d.len)))
  | 2 => patch f d.off (leBytes 1 r.qual)
  | 3 => patch f d.off (d.bytes (min (r.age l.dtl / 1000 / 2 ^ d.shift) (2 ^ (8 * d.len) - 1)))
  | 4 => patch f d.off [BitVec.ofNat 8 (putBits (leNat (slice f d.off 1)) (d.shift % 8) 1 (l.stale d).toNat)]
  | 5 => patch f d.off (leBytes 1 r.epoch)
  | 6 => patch f d.off (d.bytes (l.dtl / 2 ^ d.shift % 2 ^ (8 * d.len)))
  | _ => patch f d.off (d.bytes (ofSigned 32 l.k / 2 ^ d.shift % 2 ^ (8 * d.len)))

/-- Does the staleness policy find a stale slot (R184)? -/
def TplLaunch.marked (l : TplLaunch) : Bool := (slotsOf l.ctl l.slots).any (fun d => d.chk && l.stale d)

/-- The stale mark (R184). -/
def TplLaunch.mark (l : TplLaunch) (f : List Byte) : List Byte :=
  if tpPol l.ctl = 1 then
    let o := ctlField l.ctl 16 2 % 512
    patch f o [BitVec.ofNat 8 (putBits (leNat (slice f o 1)) (ctlField l.ctl 18 1 % 8) 1 l.marked.toNat)]
  else f

/-- The application check field (R182). -/
def TplLaunch.crcField (l : TplLaunch) (f : List Byte) : List Byte :=
  let t := tpCrc l.ctl
  if bits t 0 2 = 1 ∨ bits t 0 2 = 2 then
    let w := bits t 0 2 * 16
    let a := ctlField l.ctl 26 2 % 512
    let b := ctlField l.ctl 28 2 % 512
    let v := crc w (ctlField l.ctl 32 4) (ctlField l.ctl 36 4) (ctlField l.ctl 40 4) (bits t 2 1 == 1) (bits t 3 1 == 1) (slice f a (b + 1 - a))
    patch f (ctlField l.ctl 30 2 % 512) (if bits t 4 1 = 1 then leBytes (w / 8) v else beBytes (w / 8) v)
  else f

/-- The frame of a launch (R181). -/
def TplLaunch.frame (l : TplLaunch) : List Byte :=
  let f0 := (wordBytes l.image).take (tpLen l.ctl)
  let f1 := (slotsOf l.ctl l.slots).foldl l.fill f0
  let f2 := l.crcField (l.mark f1)
  let cs := tpCsum l.ctl
  let f3 := if bits cs 3 1 = 1 then l4Csum (bits cs 0 2 == 2) f2 (tpL3 l.ctl) (tpL4 l.ctl) (be16 f2 (tpL4 l.ctl + 4)) true else f2
  if bits cs 2 1 = 1 then ip4Csum f3 (tpL3 l.ctl) else f3

/-! Hand-off (R180, R181). -/

/-- Items of a launch that have not ended. -/
def State.launchItems (s : State) (l : TplLaunch) : List (Nat × Item) := s.copies l.item

/-- BUSY clears when the last launch of a disabled template has been handed off (R175). -/
def State.busyDone (s : State) : State :=
  match s.ms.disabling with
  | some t => if s.ms.launches.any (fun l => l.tpl == t) then s else ({ s with ms := { s.ms with disabling := none } }).wr F.MS_TPL_STAT_BUSY 0
  | none => s

/-- MASH's record of an assembly: LAST_DT_L and LAUNCHES (R170). -/
def State.tplCount (s : State) (t dtl : Nat) : State :=
  let n := (Sparse.get 0 s.ms.ctl (t * 8 + 7)).toNat
  let c := Sparse.put 0 (Sparse.put 0 s.ms.ctl (t * 8 + 6) (BitVec.ofNat 64 dtl)) (t * 8 + 7) (BitVec.ofNat 64 (putBits n 0 32 (n + 1)))
  { s with ms := { s.ms with ctl := c } }

/-- Put the frame into a launch's items. -/
def State.giveFrame (s : State) (l : TplLaunch) (f : List Byte) (late : Bool) : State :=
  match s.storeChain ⟨6, none, false, some l.dtl⟩ f with
  | (s1, none) => (s1.launchItems l).foldl (fun s x => s.endItem x.1 stNoCell 0) ((s1.inc F.LN_NOCELL).raise0 Src.LN_NOCELL 0)
  | (s1, some c) =>
    (s1.launchItems l).foldl (fun s x => match s.item x.1 with
      | none => s
      | some it =>
        let it1 := { it with data := f, chain := some c, tagged := hasRtag f }
        let s2 := s.setItem x.1 (some it1)
        let s3 := if late then s2.lateItem x.1 it1 else s2
        match s3.item x.1 with
        | some it2 => s3.makeReady x.1 it2
        | none => s3) s1

/-- The engine completes the frame and hands it to LAUNCH (R180, R181, R184). -/
def State.handoff (s : State) (l : TplLaunch) (late : Bool) : State :=
  let s1 := s.dropLaunch l.item
  let twin := tpCtrl l.ctl 2
  let stale := l.marked
  let locals := if twin then (slotsOf l.ctl l.slots).countP (fun d => d.reads && !s.throughHorizon l d.point) else 0
  let s2 := s1.add F.MS_HZN_LOCAL locals
  let s3 := match s2.genOf (some (tpStream l.ctl)), (s2.launchItems l).head? with
    | some g, some x => (match x.2.seq with | some n => if s2.genSched g then s2.genMark g n else s2 | none => s2)
    | _, _ => s2
  if 2 ≤ tpPol l.ctl ∧ stale then
    let s4 := (s3.launchItems l).foldl (fun s x => s.dropItem x.1) (s3.inc F.MS_SUPPRESS)
    (if twin then s4.chkNote l.dtl l.tpl 0 else s4).busyDone
  else
    let f := l.frame
    let s4 := (s3.inc F.MS_ASM_CNT).tplCount l.tpl l.dtl
    let s5 := if tpPol l.ctl = 1 ∧ stale then s4.inc F.MS_MARKED else s4
    let s6 := if l.cold then s5.inc F.MS_COLD else s5
    let s7 := if twin then s6.chkNote l.dtl l.tpl (leNat (fcs f)) else s6
    let s8 := if late then s7.inc F.MS_ASM_LATE else s7
    (if (s8.launchItems l).isEmpty then s8 else s8.giveFrame l f late).busyDone

/-- A launch to which no engine could be assigned is assigned one as soon as one is permitted (R362, R367). -/
def State.giveEngine (s : State) (l : TplLaunch) : TplLaunch := if l.eng = 7 then { l with eng := s.pickEngine } else l

/-- All slots of a launch have been read: its frame is completed and handed off; past the hand-off instant it is late, and it waits
while it has no engine (R180). -/
def execAssemblyHandoff (i : Nat) (s : State) : Out :=
  .next (match s.launch i with
  | none => s
  | some l0 =>
    let l := s.giveEngine l0
    if l.eng ≠ 7 ∧ l.classed ∧ l.hotWait = [] ∧ l.dramWait = [] ∧ l.dtl ≤ s.launchDt l + (s.launchLeads l).1 then
      s.handoff l (decide (l.dtl * 10 < s.launchDt l * 10 + (s.launchLeads l).2.2))
    else s)

/-! Commands (R175). -/

/-- Two byte ranges, each offset and length, overlap. -/
def overlaps (a n b m : Nat) : Bool := decide (a < b + m) && decide (b < a + n)

/-- The check fields of a template: CRC result, UDP checksum, IPv4 header checksum. -/
def checkFields (c : List DWord) (crcToo : Bool) : List (Nat × Nat) :=
  let t := bits (tpCrc c) 0 2
  (if crcToo ∧ (t = 1 ∨ t = 2) then [(ctlField c 30 2 % 512, 2 * t)] else [])
    ++ (if bits (tpCsum c) 3 1 = 1 then [(tpL4 c + 6, 2)] else [])
    ++ (if bits (tpCsum c) 2 1 = 1 then [(tpL3 c + 10, 2)] else [])

/-- Does a slot break code 2 (R175)? -/
def badSlot (c : List DWord) (d : SlotD) : Bool :=
  let lenOk : Bool := match d.src with
    | 2 | 5 => d.len == 1
    | 4 => true
    | 7 => decide (1 ≤ d.len ∧ d.len ≤ 4)
    | _ => decide (1 ≤ d.len ∧ d.len ≤ 8)
  !lenOk || decide (tpLen c < d.off + d.size) || (checkFields c true).any (fun x => overlaps d.off d.size x.1 x.2)

/-- Code 3: the CRC field. -/
def badCrc (c : List DWord) : Bool :=
  let t := bits (tpCrc c) 0 2
  let a := ctlField c 26 2 % 512
  let b := ctlField c 28 2 % 512
  let p := ctlField c 30 2 % 512
  decide (t = 3) || (decide (t ≠ 0) && (decide (b < a) || decide (tpLen c ≤ b) || decide (tpLen c < p + 2 * t)
    || overlaps p (2 * t) a (b + 1 - a) || (checkFields c false).any (fun x => overlaps p (2 * t) x.1 x.2)))

/-- Code 4: the headers. -/
def badHeaders (c : List DWord) (img : List Byte) : Bool :=
  let cs := tpCsum c
  let l3 := bits cs 0 2
  let ihl := max 20 (leNat (slice img (tpL3 c) 1) % 16 * 4)
  let udp := bits cs 3 1 = 1
  decide (l3 = 3) || decide (bits cs 2 1 = 1 ∧ l3 ≠ 1) || decide (udp ∧ l3 = 0)
    || decide (l3 = 1 ∧ tpLen c < tpL3 c + ihl) || decide (l3 = 2 ∧ tpLen c < tpL3 c + 40)
    || decide (udp ∧ (tpLen c < tpL4 c + 8 ∨ tpLen c < tpL4 c + be16 img (tpL4 c + 4)))

/-- The first failing code of a template's content, 0 when it is good (R175). -/
def State.tplCode (s : State) (t : Nat) : Nat :=
  let c := s.msCtl t
  let img := wordBytes (s.msImage t)
  if tpLen c < 14 ∨ 512 < tpLen c ∨ 128 < tpNslot c then 1
  else if (slotsOf c (s.msSlots t)).any (badSlot c) then 2
  else if badCrc c then 3
  else if badHeaders c img then 4
  else if tpCtrl c 1 ∧ (9 < tpPort c ∨ tpEvery c = 0 ∨ tpEvery c ≤ tpPhase c) then 5
  else if tpCtrl c 2 ∧ ¬ s.on F.MS_CTRL_HZN_EN then 6
  else if tpPol c = 1 ∧ tpLen c ≤ ctlField c 16 2 % 512 then 8
  else 0

/-- MS_TPL_STAT after a command (R175). -/
def State.tplStat (s : State) (t code : Nat) : State :=
  let s1 := (s.wr F.MS_TPL_STAT_TPL t).wr F.MS_TPL_STAT_ERR code
  if code = 0 then s1 else (s1.wr F.MS_TPL_STAT_ERR_SEEN 1).raise0 Src.MS_TPL_ERR code

/-- Set EN of a template and the count of enabled ones. -/
def State.setTplEn (s : State) (t : Nat) (b : Bool) : State :=
  let w := (Sparse.get 0 s.ms.ctl (t * 8)).toNat
  ({ s with ms := { s.ms with ctl := Sparse.put 0 s.ms.ctl (t * 8) (BitVec.ofNat 64 (putBits w 16 1 b.toNat)) } }).wr F.MS_ENABLED_COUNT
    (s.rd F.MS_ENABLED_COUNT + b.toNat - (s.tplEn t).toNat)

def State.tplBusy (s : State) : Bool := s.ms.disabling.isSome

/-- ENABLE (R175). -/
def State.tplEnable (s : State) (t : Nat) : State :=
  if s.tplEn t ∨ s.tplBusy then s.tplStat t 7
  else
    let code := s.tplCode t
    if code = 0 then (s.setTplEn t true).tplStat t 0 else s.tplStat t code

/-- DISABLE (R175). -/
def State.tplDisable (s : State) (t : Nat) : State :=
  if ¬ s.tplEn t ∨ s.tplBusy then s.tplStat t 7
  else
    let s1 := (s.setTplEn t false).tplStat t 0
    if s1.ms.launches.any (fun l => l.tpl == t) then ({ s1 with ms := { s1.ms with disabling := some t } }).wr F.MS_TPL_STAT_BUSY 1 else s1

/-- Exchange `n` words at `a` and `b` of a table. -/
def swapWords (n a b : Nat) (l : List (Nat × DWord)) : List (Nat × DWord) :=
  (List.range n).foldl (fun t i => Sparse.put 0 (Sparse.put 0 t (a + i) (Sparse.get 0 l (b + i))) (b + i) (Sparse.get 0 l (a + i))) l

/-- SWAP (R175). -/
def State.tplSwap (s : State) (a b : Nat) : State :=
  if ¬ s.tplEn a ∨ s.tplEn b ∨ a = b ∨ s.tplBusy then s.tplStat a 7
  else
    let code := s.tplCode b
    if code ≠ 0 then s.tplStat a code
    else
      let s1 := { s with ms := { s.ms with
        ctl := swapWords 8 (a * 8) (b * 8) s.ms.ctl, slots := swapWords 128 (a * 128) (b * 128) s.ms.slots,
        images := swapWords 64 (a * 64) (b * 64) s.ms.images } }
      ((s1.setTplEn b false).setTplEn a true).tplStat a 0

/-- MS_TPL_CMD ENABLE (R175). -/
def execTemplateEnable (m : Nat) (t : BitVec 14) (s : State) : Out := .next (s.busW m 0xD8010 (fun s => s.tplEnable t.toNat))
/-- MS_TPL_CMD DISABLE (R175). -/
def execTemplateDisable (m : Nat) (t : BitVec 14) (s : State) : Out := .next (s.busW m 0xD8010 (fun s => s.tplDisable t.toNat))
/-- MS_TPL_CMD SWAP (R175). -/
def execTemplateSwap (m : Nat) (a b : BitVec 14) (s : State) : Out := .next (s.busW m 0xD8010 (fun s => s.tplSwap a.toNat b.toNat))

/-- The last launch of a disabled template has been handed off (R175). -/
def execTemplateDisableDone (s : State) : Out := .next s.busyDone

/-- A queued horizon write moves into the view when DT ≥ T_o + H (R186). -/
def execHorizonMature (s : State) : Out :=
  .next (match s.hz.queue with
  | [] => s
  | w :: _ => if w.key.t + s.hznH ≤ s.dt then s.hzPop else s)

/-! The memory window (R193). -/

/-- The bits of a word of a control record that a window write sets: not EN, and none that is reserved (R13, R170). -/
def ctlMask (n : Nat) : Nat :=
  match n with
  | 0 => 0xFF0F7FFFFF7E03FF
  | 1 => 0xFFFFFFFFFFFFFFFF
  | 2 => 0x01FF01FF0F0701FF
  | 3 => 0x01FF01FF01FF001F
  | 4 => 0xFFFFFFFFFFFFFFFF
  | _ => 0x00000000FFFFFFFF

/-- The window write that MS_MDATA_HI completes; the reserved bits of slots and records stay 0 (R13, R170, R171). -/
def State.msStore (s : State) (w : Nat) : State :=
  let a := s.rd F.MS_MADDR
  let v : DWord := BitVec.ofNat 64 w
  let rej := s.wr F.MS_STATUS_WIN_REJ 1
  if s.on F.MS_STATUS_WIPING then rej
  else match s.rd F.MS_MSEL with
    | 0 =>
      if 131072 ≤ a ∨ 6 ≤ a % 8 ∨ s.tplEn (a / 8) then rej
      else { s with ms := { s.ms with ctl := Sparse.put 0 s.ms.ctl a (BitVec.ofNat 64 (w &&& ctlMask (a % 8))) } }
    | 1 => if 2097152 ≤ a ∨ s.tplEn (a / 128) then rej else { s with ms := { s.ms with slots := Sparse.put 0 s.ms.slots a (v &&& 0x3FFF01FF00FFFFFF) } }
    | 2 => if 1048576 ≤ a ∨ s.tplEn (a / 64) then rej else { s with ms := { s.ms with images := Sparse.put 0 s.ms.images a v } }
    | _ => rej

/-- A word of a MASH window space (R193); the view in the layout of R132. -/
def State.msWord (s : State) : Nat :=
  let a := s.rd F.MS_MADDR
  if s.on F.MS_STATUS_WIPING then 0
  else match s.rd F.MS_MSEL with
    | 0 => if a < 131072 then (Sparse.get 0 s.ms.ctl a).toNat else 0
    | 1 => if a < 2097152 then (Sparse.get 0 s.ms.slots a).toNat else 0
    | 2 => if a < 1048576 then (Sparse.get 0 s.ms.images a).toNat else 0
    | _ => (match Sparse.get none s.hz.view (a / 4) with | some e => leNat (slice e.2.bytes (8 * (a % 4)) 8) | none => 0)

/-- The effect of a write of the window's data high word (R12). -/
def State.msMdata (s : State) (m hi : Nat) : State := s.winWrite m 0xD8028 hi F.MS_MADDR State.msStore

/-- A write of MS_MDATA_HI (R193). -/
def execMsMdataWrite (m : Nat) (hi : Word) (s : State) : Out :=
  .next (s.busW m 0xD802C (fun s => s.msMdata m hi.toNat))

end Sys2Proof.Machine
end

