-- ==== Sys2Proof/Machine/Operands.lean ====
section
/-!
DEFINITION. The operand forms of host queue entries: units, the first unit, and the fields of each opcode (R298 to R307).
Where the manual leaves a point open, the choices are log entries 45 (DEDUCED).
-/

namespace Sys2Proof.Machine

/-- An entry: its bytes, 16 per unit, the first unit first. -/
abbrev Entry := List Byte

def Entry.le (e : Entry) (off n : Nat) : Nat := leNat (slice e off n)

/-- OPCODE, UNITS, COMPL and TAG (R298). -/
def Entry.opcode (e : Entry) : Nat := e.le 0 1
def Entry.units (e : Entry) : Nat := e.le 1 1 % 16 + 1
def Entry.compl (e : Entry) : Bool := bits (e.le 1 1) 4 1 == 1
def Entry.tag (e : Entry) : Nat := e.le 2 2

/-- Opcodes (R298). -/
def opTx : Nat := 0x01
def opTxTimed : Nat := 0x02
def opLso : Nat := 0x03
def opPostRx : Nat := 0x04
def opPointWrite : Nat := 0x05
def opPointRead : Nat := 0x06
def opSubscribe : Nat := 0x07
def opTimedAction : Nat := 0x08
def opDmaCopy : Nat := 0x09
def opFence : Nat := 0x0A
def opNop : Nat := 0x0B

/-- TIMED of a large send (R300). -/
def Entry.lsoTimed (e : Entry) : Bool := bits (e.le 14 1) 2 1 == 1

/-- Least and greatest number of units of an opcode; none for an unknown one (R298). -/
def Entry.range (e : Entry) : Option (Nat × Nat) :=
  match e.opcode with
  | 0x01 => some (2, 16)
  | 0x02 => some (3, 16)
  | 0x03 => some (if e.lsoTimed then 4 else 3, 16)
  | 0x04 => some (2, 16)
  | 0x05 => some (2, 16)
  | 0x06 => some (2, 16)
  | 0x07 => some (2, 2)
  | 0x08 => some (2, 2)
  | 0x09 => some (2, 2)
  | 0x0A => some (1, 1)
  | 0x0B => some (1, 16)
  | _ => none

/-- Does an SQ of this type accept the opcode (R298)? -/
def Entry.accepted (e : Entry) (rx : Bool) : Bool :=
  e.opcode == opFence || e.opcode == opNop || (e.opcode == opPostRx) == rx

/-- Is the entry malformed, or not of the kind that its command names (R298)? -/
def Entry.malformed (e : Entry) (op : Nat) (rx : Bool) : Bool :=
  match e.range with
  | some (a, b) => e.opcode != op || !(decide (a ≤ e.units) && decide (e.units ≤ b)) || !e.accepted rx
  | none => true

/-- HANDLE when HV is set, PORT, CLASS (R299). -/
def Entry.handle (e : Entry) : Option Nat := if bits (e.le 4 2) 15 1 = 1 then some (e.le 4 2 % 32768) else none
def Entry.port (e : Entry) : Nat := e.le 6 1 % 16
def Entry.cls (e : Entry) : Nat := e.le 7 1 % 8

/-- Lengths of the gather units from unit `u` on. -/
def Entry.gather (e : Entry) (u : Nat) : Nat := ((List.range (e.units - u)).map (fun i => e.le (16 * (u + i) + 8) 4)).sum

/-- Point IDs of a POINT_READ (R303): a range, or FIRST and the list up to a word with bit 31. A COUNT above 4,096 reads 4,096
points. -/
def Entry.readPoints (e : Entry) : List Nat :=
  let first := bits (e.le 4 4) 0 23
  if bits (e.le 4 4) 31 1 = 1 then (List.range (min 4096 (e.le 8 2))).map (fun i => (first + i) % 2 ^ 23)
  else
    let words := (List.range (4 * (e.units - 2))).map (fun i => e.le (32 + 4 * i) 4)
    first :: (words.takeWhile (fun w => bits w 31 1 == 0)).map (fun w => bits w 0 23)

end Sys2Proof.Machine
end

