-- ==== Sys2Proof/Machine/Jobs.lean ====
section
/-!
DEFINITION. Host queue entries: admission and the jobs of R298 to R308.
Where the manual leaves a point open, the choices are log entries 45 (DEDUCED); 76 (DESIGN CHOICE).
-/

namespace Sys2Proof.Machine

/-! Fetching an entry (R297, R298). -/

/-- Units between the fetch position and TAIL (R294). -/
def State.sqWaiting (s : State) (q : Nat) : Nat := (s.rd (F.QE_SQ_TAIL q) + s.sqSize q - (s.sq q).fetch) % s.sqSize q

/-- Transmit entries, point entries, and a FENCE, which waits for all that precede it (R298). -/
def opTransmit (op : Nat) : Bool := op == opTx || op == opTxTimed || op == opLso
def opPoint (op : Nat) : Bool := op == opPointWrite || op == opPointRead || op == opSubscribe

/-- Must a job of an opcode wait for an earlier job of its queue to start? Jobs that are no transmit jobs start in ring order (R308);
GYLE and PITCH keep that order themselves among their own. -/
def State.mustWait (s : State) (q op : Nat) : Bool :=
  !opTransmit op && op != opFence && (s.sq q).jobs.any (fun j => !j.started && !opTransmit j.op && j.op != op && !(opPoint op && opPoint j.op))

/-- Does the fetch of a queue stand at its next entry (R297, R308)? -/
def State.stopped (s : State) (q : Nat) : Bool :=
  match (s.sq q).stop with
  | .none => false
  | .items n => !s.wtRoom n
  | .points => !s.gyTakes
  | .earlier op => s.mustWait q op
  | .tail => true

/-- Has a queue units to fetch: ENABLED, TAIL ahead, no FENCE that holds them, no entry at which the fetch stands (R297, R307)? -/
def State.fetchable (s : State) (q : Nat) : Bool :=
  s.rd (F.QE_SQ_STAT_STATE q) == sqEnabled && s.sqWaiting q != 0 && (s.sq q).fence.isNone && !s.stopped q

/-- The queue served last in a PRIO and the units of its turn; before any, the turn begins at queue 0 (R297). -/
def State.turnOf (s : State) (pr : Nat) : Nat × Nat := (Sparse.get none s.qe.turns pr).getD (1023, 64)

/-- How far queue `q` stands behind queue `c` in the round, `c` itself last. -/
def roundDist (c q : Nat) : Nat := (q + 1023 - c) % 1024

/-- Is it the turn of an entry of `units` units of queue `q`: no queue of a higher PRIO has units to fetch, and within its PRIO the queue's
turn of 64 units goes on, or the round has come to it (R297)? -/
def State.myTurn (s : State) (q units : Nat) : Bool :=
  let pr := s.rd (F.QE_SQ_CFG_PRIO q)
  let t := s.turnOf pr
  let go (k : Nat) : Bool := k != q && s.fetchable k
  (t.1 == q && decide (t.2 + units ≤ 64) && !(List.range 1024).any (fun k => go k && decide (pr < s.rd (F.QE_SQ_CFG_PRIO k))))
    || !(List.range 1024).any (fun k => go k && (decide (pr < s.rd (F.QE_SQ_CFG_PRIO k)) || (s.rd (F.QE_SQ_CFG_PRIO k) == pr
        && if k = t.1 then decide (t.2 < 64) else decide (roundDist t.1 k < roundDist t.1 q))))

/-- Does QENG fetch from a queue now (R297, R307)? -/
def State.mayFetch (s : State) (q units : Nat) : Bool :=
  s.on F.QE_CTRL_EN && s.rd (F.QE_SQ_STAT_STATE q) == sqEnabled && s.sqWaiting q != 0 && (s.sq q).fence.isNone && s.myTurn q units

/-- Is an entry of this size there to be fetched: its queue's turn has come, and TAIL covers the entry (R297)? -/
def State.canFetch (s : State) (q units : Nat) : Bool := decide (units ≤ s.sqWaiting q) && s.mayFetch q units

/-- The units of a turn after an entry (R297). -/
def State.takeTurn (s : State) (q units : Nat) : State :=
  let pr := s.rd (F.QE_SQ_CFG_PRIO q)
  let t := s.turnOf pr
  { s with qe := { s.qe with turns := Sparse.put none s.qe.turns pr (some (q, if t.1 = q ∧ t.2 + units ≤ 64 then t.2 + units else units)) } }

/-- A turn whose next entry would pass 64 units has ended (R297). -/
def State.passTurn (s : State) (q units : Nat) : State :=
  let pr := s.rd (F.QE_SQ_CFG_PRIO q)
  let t := s.turnOf pr
  if t.1 = q ∧ 64 < t.2 + units ∧ t.2 < 64 then { s with qe := { s.qe with turns := Sparse.put none s.qe.turns pr (some (q, 64)) } } else s

/-- The entry has been fetched: its job stands in the queue. -/
def State.pushJob (s : State) (q : Nat) (e : Entry) : State :=
  let r := s.sq q
  let j : Job := ⟨s.qe.nextJob, r.fetch, e.opcode, e.units, e.tag, e.compl, 7, false, none, false⟩
  let s1 := s.setSq q { r with fetch := (r.fetch + e.units) % s.sqSize q, jobs := r.jobs ++ [j], stop := .none }
  (({ s1 with qe := { s1.qe with nextJob := s1.qe.nextJob + 1 } }).takeTurn q e.units).syncHead q

/-- A malformed entry completes BAD (R298). -/
def State.badEntry (s : State) (q id : Nat) : State :=
  ((s.inc F.QE_BAD_ENTRY).raise Src.QE_BAD_ENTRY q none 0).finishJob q id ⟨stBad, 0, 0, 0⟩

/-- The fetch of a queue stands at its next entry. -/
def State.stopAt (s : State) (q : Nat) (w : Stop) : State := s.setSq q { s.sq q with stop := w }

/-- The admission of the entry that comes next is deferred; it is counted once (R106). -/
def State.deferJob (s : State) (q room : Nat) : State :=
  match (s.sq q).stop with
  | .items _ => s.stopAt q (.items room)
  | _ => (s.stopAt q (.items room)).inc F.LN_WT_FULL

/-- Fetch an entry of opcode `op` and run its job, which gets a number of its own; the fetch stands at a transmit entry without work
items, at a point entry that GYLE holds back, at an entry that would start before an earlier one (R106, R163, R297, R308). -/
def State.fetchJob (s : State) (q : Nat) (e : Entry) (op room : Nat) (f : State → Nat → State) : State :=
  if ¬ s.mayFetch q e.units then s.passTurn q e.units
  else if s.sqWaiting q < e.units then s.stopAt q .tail
  else if e.malformed op (s.on (F.QE_SQ_CFG_TYPE q)) then (s.pushJob q e).badEntry q s.qe.nextJob
  else if room ≠ 0 ∧ ¬ s.wtRoom room then s.deferJob q room
  else if opPoint op ∧ ¬ s.gyTakes then s.stopAt q .points
  else if s.mustWait q op then s.stopAt q (.earlier op)
  else f (s.pushJob q e) s.qe.nextJob

/-- A job that ends as soon as it is fetched. -/
def State.endNow (s : State) (q id status result result2 : Nat) : State := s.finishJob q id ⟨status, 0, result, result2⟩

/-! Transmit (R196, R197, R299, R300). -/

/-- Handle, ports and their classes that an entry's frame leaves by; a handle that is not VALID names no stream (R196, R197). -/
def State.txPorts (s : State) (e : Entry) : Option Nat × List (Nat × Nat) :=
  let own := if e.port < 10 then [(e.port, e.cls)] else []
  match e.handle with
  | some h => if s.stValid h then (some h, (s.stPorts h).map (fun p => (p, s.stClass h p))) else (none, own)
  | none => (none, own)

/-- Work items that an entry's frame needs. -/
def State.txRoom (s : State) (e : Entry) : Nat := max 1 (s.txPorts e).2.length

/-- Admit one copy of a frame per port. -/
def State.txAdmit (s : State) (base : Item) : List (Nat × Nat) → State
  | [] => s
  | (p, c) :: t => (s.admitItem { base with port := p, cls := c }).1.txAdmit base t

/-- A timed job admitted after the start of a copy's FETCH has its payload in cells too late: that copy is late (R21, R115). -/
def State.lateAdmit (s : State) (grp : Nat) : State :=
  (s.copies grp).foldl (fun s x => match x.2.dtl with
    | some d => if d < s.wireDt x.2.port + x.2.lead then s.lateItem x.1 x.2 else s
    | none => s) s

/-- The rung of a job's frame is that of its first copy (R251). -/
def State.jobRung (s : State) (q id grp : Nat) : State :=
  match (s.copies grp).head? with
  | some x => s.updJob q id (fun j => { j with rung := s.rung x.2 })
  | none => s

/-- Admit a frame or a large send of a job, its payload in cells (R107, R299, R308, R364). -/
def State.txJob (s : State) (q id : Nat) (e : Entry) (dtl : Option Nat) (payload : Option (List Byte)) (lso : Option Lso) : State :=
  let far : Bool := match dtl with | some d => decide (s.dt + 2 ^ 36 < d) | none => false
  let t := s.txPorts e
  let m := s.sqOwner q
  if far then (s.inc F.LN_FAR).endNow q id stFar 0 0
  else match payload with
    | none => (s.inc F.QE_PAYLOAD_ERR).endNow q id stDmaErr 0 0
    | some data =>
      let stored := match lso with | some l => l.hdr ++ data | none => data
      match s.storeChain ⟨m, some q, lso.isSome, dtl⟩ stored with
      | (s1, none) => ((s1.inc F.LN_NOCELL).raise0 Src.LN_NOCELL 0).endNow q id stNoCell 0 0
      | (s1, some c) =>
        let grp := s1.ln.next
        let base : Item := { Item.plain q 0 0 grp data with
          handle := t.1, dtl := dtl, lateDisc := s1.on (F.QE_SQ_CFG_LATE_DISCARD q), job := some (q, id), chain := some c, holder := m,
          tagged := lso.isNone && hasRtag data, lso := lso }
        if t.2 = [] then (s1.releaseHold c m).endNow q id stLinkDown 0 0
        else ((s1.txAdmit base t.2).jobRung q id grp).lateAdmit grp

/-- Checksums that a TX entry asks for, before R-TAG and padding (R299). -/
def Entry.offload (e : Entry) (f : List Byte) : List Byte :=
  let o := e.le 8 1
  let l3 := e.le 9 1
  let l4 := e.le 10 1
  let f1 := if bits o 1 1 = 1 then l4Csum (isV6 f l3) f l3 l4 (f.length - l4) (bits o 2 1 == 1) else f
  if bits o 0 1 = 1 then ip4Csum f1 l3 else f1

/-- TX (R299): `payload` is what host memory answers to the gather reads, none when one fails. -/
def execTx (q : BitVec 10) (e : List Byte) (payload : Option (List Byte)) (s : State) : Out :=
  let q := q.toNat
  .next (s.fetchJob q e opTx (s.txRoom e) (fun s id => s.txJob q id e none (payload.map (Entry.offload e)) none))

/-- TX_TIMED (R299): DT_L is in unit 1. -/
def execTxTimed (q : BitVec 10) (e : List Byte) (payload : Option (List Byte)) (s : State) : Out :=
  let q := q.toNat
  .next (s.fetchJob q e opTxTimed (s.txRoom e) (fun s id => s.txJob q id e (some (Entry.le e 16 8)) (payload.map (Entry.offload e)) none))

/-- Is a large send refused (R124, R300)? `m` is the least maximum frame size of its ports, `sum` the gather lengths. -/
def lsoBad (l : Lso) (p sum m : Nat) : Bool :=
  let h := l.hdr.length
  let next := leNat (slice l.hdr (l.l3 + 6) 1)
  decide (h < 14) || decide (256 < h) || decide (p = 0) || decide (262144 < p) || decide (l.mss < 64) || decide (m < h + l.mss + 4)
    || decide (4096 < (p + l.mss - 1) / l.mss) || (l.ipv6 && next != 6 && next != 17)
    || (!l.ipv6 && decide (h < l.l3 + leNat (slice l.hdr l.l3 1) % 16 * 4)) || decide (sum ≠ p)

/-- The large send that an entry describes, with its header's bytes (R300). -/
def Entry.lso (e : Entry) (hdr : List Byte) : Lso :=
  ⟨hdr.take (e.le 8 2), e.le 10 2, e.le 12 1, e.le 13 1, bits (e.le 14 1) 0 1 == 1, bits (e.le 14 1) 1 1 == 1⟩

/-- LSO (R300): the header and the payload as host memory answers. -/
def execLso (q : BitVec 10) (e : List Byte) (hdr : Option (List Byte)) (payload : Option (List Byte)) (s : State) : Out :=
  let q := q.toNat
  .next (s.fetchJob q e opLso (s.txRoom e) (fun s id =>
    match hdr with
    | none => (s.inc F.QE_PAYLOAD_ERR).endNow q id stDmaErr 0 0
    | some h =>
      let l := Entry.lso e h
      let p := bits (Entry.le e 24 4) 0 19
      let timed := Entry.lsoTimed e
      let m := (s.txPorts e).2.foldl (fun a x => min a (s.maxFrame x.1)) 9220
      if Entry.le e 8 2 ≠ l.hdr.length ∨ lsoBad l p (Entry.gather e (if timed then 3 else 2)) m then (s.inc F.LN_LSO_ERR).endNow q id stLsoBad 0 0
      else s.txJob q id e (if timed then some (Entry.le e 32 8) else none) (payload.map (·.take p)) (some l)))

/-! Buffers, points and subscriptions (R301 to R304). -/

/-- POST_RX (R301). -/
def execPostRx (q : BitVec 10) (e : List Byte) (s : State) : Out :=
  let q := q.toNat
  .next (s.fetchJob q e opPostRx 0 (fun s id =>
    let r := s.sq q
    let bufs := (List.range (Entry.units e - 1)).map (fun i => (⟨BitVec.ofNat 64 (Entry.le e (16 * (i + 1)) 8), Entry.le e (16 * (i + 1) + 8) 2⟩ : RxBuf))
    let l := r.posted ++ bufs
    if 4096 < l.length then s.endNow q id stFull 0 0
    else ((s.setSq q { r with posted := l }).wr (F.QE_SQ_STAT_RX_POSTED q) l.length).endNow q id stOk 0 0))

/-- One write of a POINT_WRITE entry (R302). -/
def Entry.pwrite (e : Entry) (q id owner i : Nat) : PWrite :=
  let u := 16 * (i + 1)
  let w := e.le (u + 8) 4
  let t := e.le 4 8
  { origin := 6, point := bits w 0 23, value := BitVec.ofNat 64 (e.le u 8), upd := if t = 0 then none else some (BitVec.ofNat 64 t),
    qual := e.le (u + 12) 1, src := 0x8000 + owner % 64, mode := bits w 24 3, mono := false, present := bits w 27 1 == 1,
    cfg := some (e.le u 2, e.le (u + 2) 1), key := none, rs := false, epoch := 0, job := some (q, id, i) }

/-- POINT_WRITE (R302, R392, R532). -/
def execPointWrite (q : BitVec 10) (e : List Byte) (s : State) : Out :=
  let q := q.toNat
  .next (s.fetchJob q e opPointWrite 0 (fun s id =>
    let n := Entry.units e - 1
    let m := s.sqOwner q
    let all := 2 ^ n - 1
    if ¬ s.may 0x0D m permW then
      let f := s.freeBytes 1
      (f.1.deny 4 m 0x0D 0).endNow q id stRefused (all + leNat f.2 * 65536) 0
    else if s.on F.GY_STATUS_WIPING then s.endNow q id stPartial (all + 6 * 65536) 0
    else
      let l := (List.range n).map (Entry.pwrite e q id m)
      ({ s with gy := { s.gy with qHost := s.gy.qHost ++ l.map HostOp.write, jobs := s.gy.jobs ++ [(⟨q, id, n, 0, 0⟩ : PwJob)] } }).startJob q id))

/-- POINT_READ (R163, R303): GYLE serves it in its turn; while GYLE wipes it completes BUSY. -/
def execPointRead (q : BitVec 10) (e : List Byte) (s : State) : Out :=
  let q := q.toNat
  .next (s.fetchJob q e opPointRead 0 (fun s id =>
    let m := s.sqOwner q
    if ¬ s.may 0x0D m permR then (s.deny 4 m 0x0D 0).endNow q id stRefused 0 0
    else if s.on F.GY_STATUS_WIPING then s.endNow q id stBusy 0 0
    else s.hostOp (.read q id m (Entry.le e 16 8 / 32 * 32) (Entry.readPoints e))))

/-- A CQ number as its owner gives it: a VF's is a local index (R292). -/
def State.cqRef (s : State) (m c : Nat) : Nat :=
  if 0x20 < m ∧ m < 0x30 then ((List.range 1024).find? (fun q => s.cqOwner q == m && s.rd (F.QE_CQ_INFO_q_LOCAL q) == c)).getD 1024 else c

/-- SUBSCRIBE (R157, R163, R304). -/
def execSubscribe (q : BitVec 10) (e : List Byte) (s : State) : Out :=
  let q := q.toNat
  .next (s.fetchJob q e opSubscribe 0 (fun s id =>
    let m := s.sqOwner q
    if ¬ s.may 0x0D m permW then (s.deny 4 m 0x0D 0).endNow q id stRefused 0 0
    else if bits (Entry.le e 4 4) 31 1 = 1 then s.hostOp (.unsub q id m (bits (Entry.le e 12 4) 0 18))
    else s.hostOp (.sub q id m (bits (Entry.le e 4 4) 0 23) (s.cqRef m (bits (Entry.le e 8 2) 0 10)) (Entry.le e 10 1) (BitVec.ofNat 64 (Entry.le e 16 8)))))

/-- A SUBSCRIBE entry with UNSUB (R157, R163, R304). -/
def execUnsubscribe (q : BitVec 10) (e : List Byte) (s : State) : Out :=
  let q := q.toNat
  .next (s.fetchJob q e opSubscribe 0 (fun s id =>
    let m := s.sqOwner q
    if ¬ s.may 0x0D m permW then (s.deny 4 m 0x0D 0).endNow q id stRefused 0 0
    else s.hostOp (.unsub q id m (bits (Entry.le e 12 4) 0 18))))

/-! Timed actions, copies, fences (R305 to R307). -/

/-- The timed action of an entry (R93, R305). -/
def State.taOfEntry (s : State) (q id : Nat) (e : Entry) : Ta where
  dt := e.le 4 8
  addr := e.le 12 4
  value := e.le 16 4
  mask := e.le 20 4
  period := e.le 24 4
  rep := e.le 28 2
  lateDiscard := s.on (F.QE_SQ_CFG_LATE_DISCARD q)
  kind := bits (e.le 30 1) 0 2
  pad := bits (e.le 31 1) 0 2
  level := bits (e.le 31 1) 2 1 == 1
  owner := s.sqOwner q
  late := false
  refused := false
  tag := e.tag
  queue := some (q, s.jobPos q id)
  seq := 0
  due := false
  passed := false

/-- TIMED_ACTION (R305). -/
def execTimedAction (q : BitVec 10) (e : List Byte) (s : State) : Out :=
  let q := q.toNat
  .next (s.fetchJob q e opTimedAction 0 (fun s id =>
    match s.taSubmit (s.taOfEntry q id e) with
    | (s1, .ok i) => s1.endNow q id stOk i 0
    | (s1, .error .bad) => s1.endNow q id stBad 0 0
    | (s1, .error .full) => s1.endNow q id stFull 0 0))

/-- FENCE (R307). -/
def execFence (q : BitVec 10) (e : List Byte) (s : State) : Out :=
  let q := q.toNat
  .next (s.fetchJob q e opFence 0 (fun s id => s.setSq q { s.sq q with fence := some (id, Entry.le e 4 8) }))

/-- A FENCE passes when every earlier job has ended and DT has reached NOT_BEFORE (R307). -/
def execFencePass (q : BitVec 10) (s : State) : Out :=
  let q := q.toNat
  let r := s.sq q
  .next (match r.fence with
  | none => s
  | some (id, nb) =>
    if r.jobs.all (fun j => j.id == id || j.done.isSome) ∧ nb ≤ s.dt then (s.setSq q { r with fence := none }).endNow q id stOk 0 0 else s)

/-- NOP (R307). -/
def execNop (q : BitVec 10) (e : List Byte) (s : State) : Out :=
  let q := q.toNat
  .next (s.fetchJob q e opNop 0 (fun s id => s.endNow q id stOk 0 0))

end Sys2Proof.Machine
end

