-- ==== Sys2Proof/Machine/QueueCtl.lean ====
section
/-!
DEFINITION. The control of queues: ownership and assignment (R291, R292), doorbells (R295, R296), enabling, draining and
disabling (R316 to R320, R536), and the moderation timer (R321).
Where the manual leaves a point open, the choices are log entries 46 (DEDUCED); 81 (DESIGN CHOICE).
-/

namespace Sys2Proof.Machine

/-- Is `m` the identity of a virtual function? -/
def isVf (m : Nat) : Bool := decide (0x20 < m) && decide (m < 0x30)

/-- The CQ that a master owns under a local index (R292). -/
def State.localCq (s : State) (m l : Nat) : Option Nat :=
  (List.range 1024).find? (fun q => s.cqOwner q == m && s.rd (F.QE_CQ_INFO_q_LOCAL q) == l)

/-- Does a queue's owner let master `m` write the queue's set (R292)? -/
def ownsSet (m owner : Nat) : Bool := owner == m || (owner == 0x3F && (m == 0x20 || m == 0))

/-- A write by master `m` to the set of SQ `l`, a local index for a VF: W on QENG, then the ownership (R292, R326, R392,
R535); `off` is the register's offset in the set. -/
def State.sqSetW (s : State) (m l off : Nat) (f : State → Nat → State) : State :=
  if !s.takes m then s
  else if !s.may 0x0E m permW then s.deny 1 m 0x0E ((if isVf m then 0 else 0x4000) + 0x20 * l + off)
  else if s.heldBlk 0x0E then s
  else match (if isVf m then s.localSq m l else some l) with
    | some q => if ownsSet m (s.sqOwner q) then f s q else s.inc F.QE_CFG_REJ
    | none => s.inc F.QE_CFG_REJ

/-- A write by master `m` to the set of CQ `l`. -/
def State.cqSetW (s : State) (m l off : Nat) (f : State → Nat → State) : State :=
  if !s.takes m then s
  else if !s.may 0x0E m permW then s.deny 1 m 0x0E ((if isVf m then 0x800 else 0xC000) + 0x10 * l + off)
  else if s.heldBlk 0x0E then s
  else match (if isVf m then s.localCq m l else some l) with
    | some q => if ownsSet m (s.cqOwner q) then f s q else s.inc F.QE_CFG_REJ
    | none => s.inc F.QE_CFG_REJ

/-! States of the queues (R318). -/

/-- Set an SQ's STATE; QE_STATUS counts the queues that are not DISABLED. -/
def State.setSqState (s : State) (q v : Nat) : State :=
  let on := s.rd F.QE_STATUS_SQ_ON
  let old := s.rd (F.QE_SQ_STAT_STATE q)
  (s.wr (F.QE_SQ_STAT_STATE q) v).wr F.QE_STATUS_SQ_ON
    (if old = sqDisabled ∧ v ≠ sqDisabled then on + 1 else if old ≠ sqDisabled ∧ v = sqDisabled then on - 1 else on)

/-- Is a function able to own running queues: PF0, MGMT, or a VF while VFs are enabled (R497, R536)? -/
def State.ownerOn (s : State) (m : Nat) : Bool := !isVf m || s.pcie.vfe

/-- Does a vector lie beyond its owner's vectors: 256 for PF0, 32 for a VF (R321)? -/
def vecBad (m v : Nat) : Bool := isVf m && decide (32 ≤ v)

/-- Why an SQ cannot be enabled: 0 when it can, 8 when it is unassigned, else the lowest failing value (R318, R536). -/
def State.sqCode (s : State) (q : Nat) : Nat :=
  let m := s.sqOwner q
  let c := s.cqRef m (s.rd (F.QE_SQ_CFG_CQ q))
  let size := s.rd (F.QE_SQ_CFG_SIZE q)
  let buf := s.rd (F.QE_SQ_CFG2_RX_BUF q)
  if m = 0x3F then 8
  else if size < 4 ∨ 16 < size then 1
  else if 1024 ≤ c ∨ ¬ s.on (F.QE_CQ_CFG_EN c) ∨ s.cqOwner c ≠ m ∨ s.on (F.QE_CQ_CFG_NOTIFY c) then 2
  else if (List.range 1024).any (fun k => k != q && s.sqOwner k == m && s.rd (F.QE_SQ_OWNER_LOCAL k) == s.rd (F.QE_SQ_OWNER_LOCAL q)) then 3
  else if s.on (F.QE_SQ_CFG_TYPE q) ∧ (buf < 256 ∨ 16384 < buf ∨ buf % 64 ≠ 0) then 4
  else if ¬ s.ownerOn m then 6
  else if vecBad m (s.rd (F.QE_CQ_CFG_VEC c)) then 7
  else 0

/-- EN = 1 on an SQ (R318, R536): only a DISABLED one is validated; the others keep EN as it reads. -/
def State.sqEnable (s : State) (q : Nat) : State :=
  if s.rd (F.QE_SQ_STAT_STATE q) ≠ sqDisabled then s
  else
    let code := s.sqCode q
    let s1 := s.wr (F.QE_SQ_STAT_ERR q) code
    if code ≠ 0 then s1.raise Src.QE_Q_CFG q none 0
    else
      let h := s.rd (F.QE_SQ_HEAD q) % s.sqSize q
      let r : Sq := { Sq.empty with fetch := h, cq := s.cqRef (s.sqOwner q) (s.rd (F.QE_SQ_CFG_CQ q)) }
      ((((s1.setSq q r).wr (F.QE_SQ_HEAD q) h).wr (F.QE_SQ_TAIL q) h).wr (F.QE_SQ_CFG_EN q) 1).setSqState q sqEnabled

/-- Post the completions ABORTED of the posted buffers, in posting order (R316). -/
def State.returnBufs (s : State) (q : Nat) : State :=
  let l := (s.sq q).posted
  let s1 := (s.setSq q { s.sq q with posted := [] }).wr (F.QE_SQ_STAT_RX_POSTED q) 0
  if (s.sq q).mute then s1
  else l.foldl (fun s b => s.post rankRx q 7
    { kind := 2, result := 0, result2 := 0, tag := 0, sq := s.sqShown q, head := s.sqHead q, entry := b.bufId,
      status := stAborted, flags := 0, info := 0, len := 0 }) s1

/-- The job of a host operation in GYLE's queue that has not started. -/
def HostOp.waits : HostOp → Option (Nat × Nat)
  | .write _ => none
  | .read q id _ _ _ => some (q, id)
  | .sub q id .. => some (q, id)
  | .unsub q id .. => some (q, id)

/-- Withdraw a job that has not started: its copies in the work table, in PITCH and in GYLE's queue (R319). -/
def State.dropJob (s : State) (q id : Nat) : State :=
  let mine := s.ln.items.filterMap (fun x => match x.2 with | some it => if it.job = some (q, id) then some x.1 else none | none => none)
  let s1 := mine.foldl (fun s i => s.dropItem i) s
  { s1 with pt := { s1.pt with copies := s1.pt.copies.filter (fun c => !(c.q == q && c.id == id)) },
            gy := { s1.gy with qHost := s1.gy.qHost.filter (fun o => o.waits != some (q, id)) } }

/-- A started large send sends no further segment, on either port (R319). -/
def State.abortSends (s : State) (q : Nat) : State :=
  s.ln.items.foldl (fun s x => match s.item x.1 with
    | some it =>
      let mine : Bool := match it.job with | some (k, _) => k == q | none => false
      if mine ∧ it.lso.isSome ∧ it.st ≠ .wire ∧ it.st ≠ .cut then s.endItem x.1 stAborted 0 else s
    | none => s) s

/-- The batches of a job list. -/
def batches : Nat → List Job → List (List Job)
  | 0, _ => []
  | n + 1, l => if l.isEmpty then [] else let b := firstBatch l; b.1 :: batches n b.2

/-- Entry to DRAINING (R319): fetched entries whose jobs have not started are discarded without completion; ended jobs whose
batch will not complete complete SOLO, unless they have failed and done so before; posted buffers come back (R316). -/
def State.sqDrain (s : State) (q : Nat) : State :=
  let r := s.sq q
  let gone := r.jobs.filter (fun j => !j.started)
  let s1 := gone.foldl (fun s j => s.dropJob q j.id) ((s.wr (F.QE_SQ_CFG_EN q) 0).setSqState q sqDraining)
  let lost := ((batches (r.jobs.length + 1) r.jobs).filter (fun b => !batchClosed b || b.any (fun j => !j.started))).flatten
  let ended := lost.filter (fun j => j.done.isSome)
  let kept := (r.jobs.filter (fun j => j.started)).map (fun j => if lost.any (fun k => k.id == j.id) then { j with solo := true } else j)
  let head := s.sqHead q
  let s2 := (s1.setSq q { s1.sq q with fetch := head, fence := none, jobs := kept }).wr (F.QE_SQ_HEAD q) head
  let s3 := (ended.foldl (fun s j => match j.done with
    | some d => if d.status = 0 then s.postJob q j d 4 0 else s
    | none => s) s2).forget q ended
  (s3.abortSends q).returnBufs q

/-- EN = 0 on an SQ that is ENABLED or in ERROR (R318). -/
def State.sqDisable (s : State) (q : Nat) : State :=
  let st := s.rd (F.QE_SQ_STAT_STATE q)
  if st = sqEnabled ∨ st = sqError then s.sqDrain q else s

/-- Why a CQ cannot be enabled (R536). -/
def State.cqCode (s : State) (c : Nat) : Nat :=
  let m := s.cqOwner c
  let size := s.rd (F.QE_CQ_CFG_SIZE c)
  if m = 0x3F then 8
  else if size < 4 ∨ 15 < size then 1
  else if ¬ s.ownerOn m then 6
  else if vecBad m (s.rd (F.QE_CQ_CFG_VEC c)) then 7
  else 0

/-- QE_CQ_ERR and, for a VF's CQ, VF_CQ_ERR record a failed enable (R326, R536). -/
def State.cqErr (s : State) (c code : Nat) : State :=
  let s1 := ((s.wr F.QE_CQ_ERR_VALID 1).wr F.QE_CQ_ERR_ERR code).wr F.QE_CQ_ERR_CQ c
  let m := s.cqOwner c
  if isVf m then
    let v := m - 0x21
    ((s1.wr (F.VF_CQ_ERR_VALID v) 1).wr (F.VF_CQ_ERR_ERR v) code).wr (F.VF_CQ_ERR_CQ v) (s.rd (F.QE_CQ_INFO_q_LOCAL c))
  else s1

/-- EN = 1 on a CQ (R318, R536). -/
def State.cqEnable (s : State) (c : Nat) : State :=
  if s.on (F.QE_CQ_CFG_EN c) then s
  else
    let code := s.cqCode c
    if code ≠ 0 then (s.cqErr c code).raise Src.QE_Q_CFG c none 0
    else
      let h := s.rd (F.QE_CQ_PTR_HEAD c) % s.cqSize c
      ((((s.setCq c Cq.empty).wr (F.QE_CQ_PTR_HEAD c) h).wr (F.QE_CQ_PTR_TAIL c) h).wr (F.QE_CQ_CFG_EN c) 1).inc F.QE_STATUS_CQ_ON

/-- EN = 0 on a CQ (R318). -/
def State.cqDisable (s : State) (c : Nat) : State :=
  if s.on (F.QE_CQ_CFG_EN c) then
    ((s.setCq c { s.cq c with events := 0, firstAt := 0 }).wr (F.QE_CQ_CFG_EN c) 0).wr F.QE_STATUS_CQ_ON (s.rd F.QE_STATUS_CQ_ON - 1)
  else s

/-- Every started job of a DRAINING queue has ended: DISABLED, with Q_DISABLED after all other completions, those of the present cycle too
(R318, R319). -/
def State.sqDrained (s : State) (q : Nat) : State :=
  if s.rd (F.QE_SQ_STAT_STATE q) = sqDraining ∧ (s.sq q).jobs.all (fun j => j.done.isSome) ∧ ¬ s.qe.due.any (fun d => d.q == q) then
    (s.setSqState q sqDisabled).queueEvent q stQDisabled
  else s

/-! Reset of a function's queues (R320). -/

/-- The registers of an SQ set at their reset values, OWNER and LOCAL kept; STATE follows the drain. -/
def State.sqRegsReset (s : State) (q : Nat) : State :=
  [F.QE_SQ_BASE_LO q, F.QE_SQ_BASE_HI q, F.QE_SQ_CFG_EN q, F.QE_SQ_CFG_TYPE q, F.QE_SQ_CFG_LATE_DISCARD q, F.QE_SQ_CFG_PRIO q,
   F.QE_SQ_CFG_SIZE q, F.QE_SQ_CFG_CQ q, F.QE_SQ_CFG2_RX_BUF q, F.QE_SQ_HEAD q, F.QE_SQ_TAIL q, F.QE_SQ_STAT_ERR q,
   F.QE_SQ_STAT_RX_POSTED q].foldl (fun s f => s.wr f f.rst) s

/-- The registers of a CQ set at their reset values, OWNER and LOCAL kept, the gap count 0. -/
def State.cqRegsReset (s : State) (c : Nat) : State :=
  [F.QE_CQ_BASE_LO c, F.QE_CQ_BASE_HI c, F.QE_CQ_CFG_EN c, F.QE_CQ_CFG_NOTIFY c, F.QE_CQ_CFG_IRQ_EN c, F.QE_CQ_CFG_SIZE c,
   F.QE_CQ_CFG_MOD_US c, F.QE_CQ_CFG_MOD_CNT c, F.QE_CQ_CFG_VEC c, F.QE_CQ_PTR_TAIL c, F.QE_CQ_PTR_HEAD c,
   F.QE_CQ_INFO_q_GAP c].foldl (fun s f => s.wr f f.rst) s

/-- An SQ of a function in reset: a silent drain (R319, R320). -/
def State.sqFlr (s : State) (q : Nat) : State :=
  let lost := (s.sq q).jobs.countP (fun j => !j.started && decide (j.rung ≤ 6))
  let s0 := s.setSq q { s.sq q with mute := true }
  let s1 := ({ s0 with qe := { s0.qe with due := s0.qe.due.filter (fun d => d.q != q) } }).sqDisable q
  let s2 := (List.range lost).foldl (fun s _ => s.yieldTo 1 2) s1
  (s2.setSq q { s2.sq q with fetch := 0 }).sqRegsReset q

/-- Every queue of a function (R320). -/
def State.queuesFlr (s : State) (m : Nat) : State :=
  let s1 := ((List.range 1024).filter (fun q => s.sqOwner q == m)).foldl (fun s q => s.sqFlr q) s
  ((List.range 1024).filter (fun c => s.cqOwner c == m)).foldl (fun s c => ((s.cqDisable c).setCq c Cq.empty).cqRegsReset c) s1

/-- Host memory does not answer an entry fetch (R318); an RX queue leaves ENABLED and returns its buffers (R316). -/
def State.fetchError (s : State) (q : Nat) : State :=
  if s.on F.QE_CTRL_EN ∧ s.rd (F.QE_SQ_STAT_STATE q) = sqEnabled ∧ s.sqWaiting q ≠ 0 then
    (((((s.setSqState q sqError).wr (F.QE_SQ_STAT_ERR q) 5).inc F.QE_FETCH_ERR_CNT).raise Src.QE_FETCH_ERR q none 0).queueEvent q stFetchErr).returnBufs q
  else s

/-! Assignment (R291). -/

/-- Owner of a queue by kind: 0 an SQ, 1 a CQ. -/
def State.qOwner (s : State) (cq : Bool) (q : Nat) : Nat := if cq then s.cqOwner q else s.sqOwner q
def State.qLocal (s : State) (cq : Bool) (q : Nat) : Nat := if cq then s.rd (F.QE_CQ_INFO_q_LOCAL q) else s.rd (F.QE_SQ_OWNER_LOCAL q)

/-- Give a queue an owner and a local index. -/
def State.giveQueue (s : State) (cq : Bool) (q m l : Nat) : State :=
  if cq then (s.wr (F.QE_CQ_INFO_q_OWNER q) m).wr (F.QE_CQ_INFO_q_LOCAL q) l
  else (s.wr (F.QE_SQ_OWNER_OWNER q) m).wr (F.QE_SQ_OWNER_LOCAL q) l

/-- Is a queue DISABLED? -/
def State.qOff (s : State) (cq : Bool) (q : Nat) : Bool :=
  if cq then !s.on (F.QE_CQ_CFG_EN q) else s.rd (F.QE_SQ_STAT_STATE q) == sqDisabled

/-- How many queues of one kind an owner may have, and the bound of LOCAL (R291). -/
def qLimit (m : Nat) : Nat := if isVf m then 64 else 256

/-- The result code of an assignment (R291). -/
def State.assignCode (s : State) (cq : Bool) (q m l : Nat) : Nat :=
  if ¬ s.qOff cq q then 1
  else if m = 0x3F then 0
  else if ¬ (m = 0 ∨ (0x20 ≤ m ∧ m ≤ 0x2F)) then 2
  else if qLimit m ≤ l then 6
  else if (List.range 1024).any (fun k => k != q && s.qOwner cq k == m && s.qLocal cq k == l) then 3
  else if qLimit m ≤ (List.range 1024).countP (fun k => k != q && s.qOwner cq k == m) then 4
  else 0

/-- QE_ASSIGN_RESULT. -/
def State.assignDone (s : State) (c : Nat) : State := (s.wr F.QE_ASSIGN_RESULT_DONE 1).wr F.QE_ASSIGN_RESULT_CODE c

/-- A write of QE_ASSIGN with GO (R291): ADM on QENG, and PF0 or MGMT. -/
def State.qeAssign (s : State) (w : Nat) (cq : Bool) (q m l : Nat) : State :=
  if !s.may 0x0E w permADM then (s.deny 3 w 0x0E 0x10).assignDone 5
  else if ¬ (w = 0 ∨ w = 0x20) then s.assignDone 5
  else
    let c := s.assignCode cq q m l
    if c = 0 then (s.giveQueue cq q m (if m = 0x3F then 0 else l)).assignDone 0 else s.assignDone c

/-! Doorbells (R295, R296). -/

/-- A discarded doorbell write. -/
def State.dbBad (s : State) : State := (s.inc F.QE_DB_BAD).raise0 Src.QE_DB_ERR 0

/-- A doorbell write of master `m` into a page: 8 bytes, or 4 to the low half; DB on QENG; the page's own master; an
assigned slot (R295, R296, R392). -/
def State.doorbell (s : State) (m page off bytes : Nat) (hi : Bool) (slot : Option Nat) (f : State → Nat → State) : State :=
  if !s.takes m then s
  else if ¬ (bytes = 8 ∨ (bytes = 4 ∧ hi = false)) then s.dbBad
  else if !s.may 0x0E m permDB then s.deny 2 m 0x0E off
  else if s.heldBlk 0x0E then s
  else if page ≠ m then s.dbBad
  else match slot with
    | none => s.dbBad
    | some q => f s q

/-- A new TAIL of an SQ (R296). -/
def State.sqRing (s : State) (q pos : Nat) : State :=
  let n := s.sqSize q
  let h := s.sqHead q
  if s.rd (F.QE_SQ_STAT_STATE q) ≠ sqEnabled then s.inc F.QE_DB_OFF
  else if n ≤ pos ∨ (pos + n - h) % n < ((s.sq q).fetch + n - h) % n then s.dbBad
  else
    let s1 := s.wr (F.QE_SQ_TAIL q) pos
    if (s.sq q).stop = .tail then s1.stopAt q .none else s1

/-- A new HEAD of a CQ (R296). -/
def State.cqRing (s : State) (c pos : Nat) : State :=
  let n := s.cqSize c
  let h := s.rd (F.QE_CQ_PTR_HEAD c)
  if ¬ s.on (F.QE_CQ_CFG_EN c) then s.inc F.QE_DB_OFF
  else if n ≤ pos ∨ (s.rd (F.QE_CQ_PTR_TAIL c) + n - h) % n < (pos + n - h) % n then s.dbBad
  else s.wr (F.QE_CQ_PTR_HEAD c) pos

/-- What a read of a doorbell returns: the position last accepted, 0 for an unassigned slot (R296, R501). No row of the table reads BAR2:
log entry 81. -/
def State.doorbellValue (s : State) (page l : Nat) (cq : Bool) : Nat :=
  if cq then (match s.localCq page l with | some c => s.rd (F.QE_CQ_PTR_HEAD c) | none => 0)
  else match s.localSq page l with | some q => s.rd (F.QE_SQ_TAIL q) | none => 0

/-- An SQ doorbell: writer, page, local index, width, half, position. -/
def execSqDoorbell (m page : Nat) (l : BitVec 8) (bytes : Nat) (hi : Bool) (pos : BitVec 16) (s : State) : Out :=
  .next (s.doorbell m page (16 * l.toNat) bytes hi (s.localSq page l.toNat) (fun s q => s.sqRing q pos.toNat))

/-- A CQ doorbell. -/
def execCqDoorbell (m page : Nat) (l : BitVec 8) (bytes : Nat) (hi : Bool) (pos : BitVec 16) (s : State) : Out :=
  .next (s.doorbell m page (16 * l.toNat + 8) bytes hi (s.localCq page l.toNat) (fun s c => s.cqRing c pos.toNat))

/-- MOD_US after the first event since the last message of an enabled CQ with IRQ_EN (R321). -/
def execMsixModTimer (c : BitVec 10) (s : State) : Out :=
  let c := c.toNat
  let us := s.rd (F.QE_CQ_CFG_MOD_US c)
  .next (if s.on (F.QE_CQ_CFG_EN c) ∧ s.on (F.QE_CQ_CFG_IRQ_EN c) ∧ us ≠ 0 ∧ (s.cq c).events ≠ 0 ∧ (s.cq c).firstAt + us * 1000 ≤ s.tb.mono then
    s.cqMessage c
  else s)

/-- EN = 1 of an SQ; `q` is a local index for a VF (R318, R326). -/
def execSqEnable (m : Nat) (q : BitVec 10) (s : State) : Out := .next (s.sqSetW m q.toNat 8 (fun s q => s.sqEnable q))

/-- EN = 0 of an SQ (R318, R319). -/
def execSqDisable (m : Nat) (q : BitVec 10) (s : State) : Out := .next (s.sqSetW m q.toNat 8 (fun s q => s.sqDisable q))

/-- The end of a drain (R318). -/
def execQueueDrained (q : BitVec 10) (s : State) : Out := .next (s.sqDrained q.toNat)

/-- EN = 1 of a CQ (R318, R536). -/
def execCqEnable (m : Nat) (c : BitVec 10) (s : State) : Out := .next (s.cqSetW m c.toNat 8 (fun s c => s.cqEnable c))

/-- EN = 0 of a CQ (R318). -/
def execCqDisable (m : Nat) (c : BitVec 10) (s : State) : Out := .next (s.cqSetW m c.toNat 8 (fun s c => s.cqDisable c))

/-- An entry fetch that fails (R318). -/
def execEntryFetchError (q : BitVec 10) (s : State) : Out := .next (s.fetchError q.toNat)

/-- An assignment of queue `q` of kind CQ or SQ to `owner` under `loc` (R291). -/
def execQueueAssign (m : Nat) (cq : Bool) (q : BitVec 10) (owner : BitVec 6) (loc : BitVec 8) (s : State) : Out :=
  .next (s.busW m 0xE0010 (fun s => s.qeAssign m cq q.toNat owner.toNat loc.toNat))

/-- A release of a queue to unassigned: OWNER 0x3F (R291). -/
def execQueueRelease (m : Nat) (cq : Bool) (q : BitVec 10) (s : State) : Out :=
  .next (s.busW m 0xE0010 (fun s => s.qeAssign m cq q.toNat 0x3F 0))

end Sys2Proof.Machine
end

