-- ==== Sys2Proof/Machine/Dma.lean ====
section
/-!
DEFINITION. The DMA engine: channels and owners (R327 to R329), transfers (R330 to R333), descriptor chains (R335 to R340),
errors and drops (R341 to R346), and the copy jobs of the rings (R306, R368).
Where the manual leaves a point open, the choices are log entries 49, 70 (DEDUCED); 76 (DESIGN CHOICE).
-/

namespace Sys2Proof.Machine

/-- States and last statuses of a channel (R349). -/
def chIdle : Nat := 0
def chRun : Nat := 1
def chTail : Nat := 2
def chHalted : Nat := 3
def chStopped : Nat := 4
def lastOk : Nat := 0
def lastBus : Nat := 1
def lastTail : Nat := 2
def lastLoop : Nat := 3
def lastDropped : Nat := 4

def State.ch (s : State) (c : Nat) : Ch := Sparse.get Ch.empty s.dma c
def State.setCh (s : State) (c : Nat) (v : Ch) : State := { s with dma := Sparse.put Ch.empty s.dma c v }
def State.chState (s : State) (c : Nat) : Nat := s.rd (F.CH_STAT_STATE c)
def State.chOwner (s : State) (c : Nat) : Nat := s.rd (F.CH_OWNER c)

/-- Set a channel's STATE and its BUSY bit; an IDLE channel notes the instant (R368). -/
def State.setChState (s : State) (c st : Nat) : State :=
  let s1 := (s.wr (F.CH_STAT_STATE c) st).wrBit F.DMA_STATUS_BUSY c (decide (1 ≤ st ∧ st ≤ 3))
  if st = chIdle then s1.setCh c { Ch.empty with idleAt := s.tb.mono } else s1

/-- A channel is enabled for R16 while it is in RUN, TAIL_WAIT or HALTED (R328). -/
def State.chBusy (s : State) (c : Nat) : Bool := decide (1 ≤ s.chState c ∧ s.chState c ≤ 3)

/-- The interrupt of a channel: PF0's vector; the management core's own and a pool channel's have no effect here (R339). -/
def State.chIrq (s : State) (c : Nat) : State :=
  if s.chOwner c = 0x20 ∧ s.on (F.CH_IRQ_EN c) then s.msix 0 (s.rd (F.CH_IRQ_VEC c)) else s

/-- The function whose memory a channel addresses: a pool job's owner, else PF0 (R329). -/
def State.chFn (s : State) (c : Nat) : Nat :=
  match (s.ch c).act with
  | .pool _ q _ _ => fnOf (s.sqOwner q)
  | _ => 0

/-- Is a side of a channel in the private space (R329)? -/
def State.chPriv (s : State) (c : Nat) (dst : Bool) : Bool :=
  decide (s.chOwner c = 0) && s.on (if dst then F.CH_CFG_SPACE_DST c else F.CH_CFG_SPACE_SRC c)

/-! A transfer (R331 to R333). -/

/-- Reorder one group of the stream; a shorter final group passes as it is. -/
def swapGroup (mode : Nat) (g : List Byte) : List Byte :=
  match mode, g with
  | 1, [a, b] => [b, a]
  | 2, [a, b, c, d] => [d, c, b, a]
  | 3, [a, b, c, d, e, f, g, h] => [h, g, f, e, d, c, b, a]
  | 4, [a, b, c, d] => [c, d, a, b]
  | 5, [a, b, c, d, e, f, g, h] => [g, h, e, f, c, d, a, b]
  | _, g => g

/-- Group size of a swap mode (R333). -/
def swapSize (mode : Nat) : Nat := match mode with | 1 => 2 | 2 => 4 | 3 => 8 | 4 => 4 | 5 => 8 | _ => 1

/-- Cut a list into pieces of `n`, within `fuel` pieces. -/
def pieces (n : Nat) : Nat → List Byte → List (List Byte)
  | 0, _ => []
  | fuel + 1, l => if l.isEmpty then [] else l.take (max 1 n) :: pieces n fuel (l.drop (max 1 n))

/-- The swap mode applied to a stream. -/
def swapStream (mode : Nat) (l : List Byte) : List Byte :=
  if swapSize mode = 1 then l else ((pieces (swapSize mode) l.length l).map (swapGroup mode)).flatten

/-- Bursts of a stream that starts at address `a`: split at 256-byte boundaries (R331). -/
def bursts : Nat → Nat → List Byte → List (Nat × List Byte)
  | 0, _, _ => []
  | fuel + 1, a, l =>
    if l.isEmpty then [] else
      let n := 256 - a % 256
      (a, l.take n) :: bursts fuel (a + n) (l.drop n)

/-- The writes of the bytes that have passed: ascending bursts, or 8-byte pieces at a fixed address (R331, R332). -/
def Xfer.writes (x : Xfer) (data : List Byte) : List (Nat × List Byte) :=
  if x.dstFixed then (pieces 8 data.length data).map (fun p => (x.dst.toNat / 8 * 8, p))
  else bursts data.length x.dst.toNat data

/-- Write what a channel's transfer has read; writes into the private space leave no trace here (R329). -/
def State.chWrite (s : State) (c : Nat) (x : Xfer) (data : List Byte) : State :=
  if s.chPriv c true then s
  else (x.writes (swapStream x.swap data)).foldl (fun s w => s.toHost (.mem (s.chFn c) (BitVec.ofNat 64 w.1) w.2)) s

/-- CH_SRC, CH_DST and CH_COUNT after `issued` bytes of read bursts and `done` bytes of writes (R330). -/
def State.chAdvance (s : State) (c : Nat) (x : Xfer) (issued done : Nat) : State :=
  let s1 := if x.srcFixed then s else s.wr64 (F.CH_SRC_LO c) (F.CH_SRC_HI c) ((x.src.toNat + issued) % 2 ^ 64)
  let s2 := if x.dstFixed then s1 else s1.wr64 (F.CH_DST_LO c) (F.CH_DST_HI c) ((x.dst.toNat + done) % 2 ^ 64)
  s2.wr (F.CH_COUNT c) (x.count - issued)

/-- The transfer that a channel's registers describe (R330). -/
def State.chXfer (s : State) (c : Nat) : Xfer :=
  ⟨BitVec.ofNat 64 (s.rd64 (F.CH_SRC_LO c) (F.CH_SRC_HI c)), BitVec.ofNat 64 (s.rd64 (F.CH_DST_LO c) (F.CH_DST_HI c)),
   s.rd (F.CH_COUNT c), s.rd (F.CH_CFG_SWAP c), s.on (F.CH_CFG_SRC_FIXED c), s.on (F.CH_CFG_DST_FIXED c)⟩

/-! Chains (R335 to R340). -/

/-- The descriptor that a channel is at. -/
def State.chCur (s : State) (c : Nat) : Nat := s.rd64 (F.CH_CUR_LO c) (F.CH_CUR_HI c)

/-- Enter TAIL_WAIT; a pending doorbell starts the re-read at once (R339). -/
def State.chTailWait (s : State) (c : Nat) (whole : Bool) : State :=
  let pend := s.on (F.CH_STAT_DB_PEND c)
  ((s.setCh c { s.ch c with act := .wait whole, reading := pend, again := false }).setChState c chTail).wr (F.CH_STAT_DB_PEND c) 0

/-- Enter STOPPED with a last status and its interrupt (R339, R340, R343). -/
def State.chStop (s : State) (c last : Nat) : State :=
  (((s.setCh c { s.ch c with act := .none, reading := false, again := false }).setChState c chStopped).wr (F.CH_STAT_LAST_ST c) last).chIrq c

/-- Fetch the descriptor at `a`. -/
def State.chFetch (s : State) (c a : Nat) : State :=
  let r := s.ch c
  ((s.setCh c { r with act := .fetch, reading := true, again := false, start := match r.start with | some x => some x | none => some a }).setChState
    c chRun).wr64 (F.CH_CUR_LO c) (F.CH_CUR_HI c) a

/-- Leave TAIL_WAIT: HOPS and the start address begin anew (R340). -/
def State.chLeaveTail (s : State) (c : Nat) : State := (s.setCh c { s.ch c with start := none }).wr (F.CH_STAT_HOPS c) 0

/-- Go on after a descriptor: wait at the tail, or follow the link unless it loops (R336, R340). -/
def State.chFollow (s : State) (c next : Nat) : State :=
  if next % 2 = 1 then s.chTailWait c false
  else
    let a := next / 32 * 32
    let lim := s.rd F.DMA_HOPS_LIMIT
    if (lim ≠ 0 ∧ lim < s.rd (F.CH_STAT_HOPS c) + 1) ∨ (s.ch c).start = some a then
      ((s.inc F.DMA_LOOP_CNT).raise0 Src.DMA_CHAIN_LOOP c).chStop c lastLoop
    else (s.inc (F.CH_STAT_HOPS c)).chFetch c a

/-- Write back the status of the descriptor in two writes (R337). -/
def State.chBack (s : State) (c st done : Nat) (irq : Bool) : State :=
  let d := s.chCur c
  let w := done % 2 ^ 24 + st * 2 ^ 24
  let s1 := if s.chPriv c false then s
    else (s.toHost (.mem 0 (BitVec.ofNat 64 (d + 28)) (leBytes 4 (w + 2 ^ 31)))).toHost (.mem 0 (BitVec.ofNat 64 (d + 31)) (leBytes 1 st))
  let s2 := (s1.inc F.DMA_DESC_CNT).inc (F.CH_DESC_CNT c)
  if irq then s2.chIrq c else s2

/-- The transfer that a descriptor describes (R335). -/
def descXfer (b : List Byte) : Xfer :=
  let ctl := leNat (slice b 27 1)
  ⟨BitVec.ofNat 64 (leNat (slice b 0 8)), BitVec.ofNat 64 (leNat (slice b 8 8)), leNat (slice b 24 3), bits ctl 0 3,
   bits ctl 3 1 == 1, bits ctl 4 1 == 1⟩

/-- A descriptor that has arrived (R336): run it if it is owned, else wait at it; in TAIL_WAIT, go on or wait again, with one more
re-read if a doorbell came in between (R339). -/
def State.chDescriptor (s : State) (c : Nat) (b : List Byte) : State :=
  let r := s.ch c
  let next := leNat (slice b 16 8)
  let run (s : State) : State := s.setCh c { s.ch c with
    act := .desc (descXfer b) next (bits (leNat (slice b 27 1)) 5 1 == 1), reading := false, again := false }
  let own := bits (leNat (slice b 31 1)) 7 1 = 1
  let stay := s.setCh c { r with reading := r.again, again := false }
  match r.act with
  | .fetch => if own then run s else s.chTailWait c true
  | .wait true =>
    if own then
      let s1 := s.chLeaveTail c
      run ((s1.setCh c { s1.ch c with start := some (s.chCur c) }).setChState c chRun)
    else stay
  | .wait false => if next % 2 = 0 then (s.chLeaveTail c).chFetch c (next / 32 * 32) else stay
  | _ => s

/-! Ends of a transfer. -/

/-- A transfer ends with a status after its last write: register mode, a descriptor, or a pool job (R330, R337, R344). -/
def State.chEnd (s : State) (c st : Nat) : State :=
  match (s.ch c).act with
  | .regs x =>
    let s1 := ((s.chAdvance c x x.count x.count).setChState c chIdle).wr (F.CH_STAT_LAST_ST c) st
    if s.on (F.CH_CFG_IRQ c) then s1.chIrq c else s1
  | .desc x next irq => (s.chBack c st x.count irq).chFollow c next
  | .pool _ q id _ =>
    ((s.setChState c chIdle).wr (F.CH_STAT_LAST_ST c) st).finishJob q id ⟨if st = lastOk then stOk else stErrTail, 0, 0, 0⟩
  | _ => s

/-- The transfer under way on a channel. -/
def ChDo.xfer : ChDo → Option Xfer
  | .regs x => some x
  | .pool x _ _ _ => some x
  | .desc x _ _ => some x
  | .none => .none
  | .fetch => .none
  | .wait _ => .none

/-- Start a register-mode transfer on an IDLE or STOPPED channel; a COUNT of 0 ends at once (R330). -/
def State.chRegs (s : State) (c : Nat) (x : Xfer) : State :=
  let s1 := (s.setCh c { s.ch c with act := .regs x, reading := false, again := false }).setChState c chRun
  if x.count = 0 then s1.chEnd c lastOk else s1

/-- May a channel be started (R330, R336, R345)? -/
def State.chMayStart (s : State) (c : Nat) : Bool :=
  s.on (F.CH_CTRL_EN c) && s.on F.DMA_CTRL_EN && !s.on F.DMA_STATUS_HALT && (s.chState c == chIdle || s.chState c == chStopped)

def State.chStart (s : State) (c : Nat) : State := if s.chMayStart c then s.chRegs c (s.chXfer c) else s.inc F.DMA_START_REJ

def State.chChain (s : State) (c : Nat) : State :=
  if s.chMayStart c then
    ((s.setCh c { s.ch c with start := none }).wr (F.CH_STAT_HOPS c) 0).chFetch c (s.rd64 (F.CH_DESC_LO c) (F.CH_DESC_HI c) / 32 * 32)
  else s.inc F.DMA_START_REJ

/-- RESUME of a HALTED channel once HALT is cleared: the transfer runs again from its start (R342). -/
def State.chResume (s : State) (c : Nat) : State :=
  let r := s.ch c
  if s.chState c ≠ chHalted ∨ s.on F.DMA_STATUS_HALT then s
  else if r.was = chTail then s.setChState c chTail
  else
    let s1 := s.setChState c chRun
    match r.act with
    | .regs x => s1.chAdvance c x 0 0
    | _ => s1

/-- EN = 0 drops everything: the registers named in R345 are left undefined, a pool job ends DMA_ERR. -/
def State.chDrop (s : State) (c : Nat) : State :=
  let act := (s.ch c).act
  let free (s : State) (f : Fld) : State := { s with freeIdx := s.freeIdx + 1 }.wr f (Config.freeWord s.freeIdx).toNat
  let s1 := [F.CH_SRC_LO c, F.CH_SRC_HI c, F.CH_DST_LO c, F.CH_DST_HI c, F.CH_COUNT c, F.CH_CUR_LO c, F.CH_CUR_HI c].foldl free s
  let s2 := ((s1.setChState c chIdle).wr (F.CH_STAT_LAST_ST c) lastDropped).wr (F.CH_STAT_DB_PEND c) 0
  match act with
  | .pool _ q id _ => s2.finishJob q id ⟨stDmaErr, 0, 0, 0⟩
  | _ => s2

/-- Drop every channel (R345). -/
def State.dmaDropAll (s : State) : State := (List.range 16).foldl (fun s c => s.chDrop c) s

/-! Bus errors (R341 to R344). -/

/-- Record a bus error. -/
def State.busRecord (s : State) (c cause addr : Nat) (known : Bool) : State :=
  let priv := decide (cause = 4)
  ((((((s.wr64 F.DMA_ERR_ADDR_LO F.DMA_ERR_ADDR_HI addr).wr F.DMA_ERR_INFO_VALID 1).wr F.DMA_ERR_INFO_CAUSE cause).wr F.DMA_ERR_INFO_CH_VALID
    known.toNat).wr F.DMA_ERR_INFO_CH (if known then c else 0)).wr F.DMA_ERR_INFO_MASTER (if priv then 0 else 0x20 + s.chFn c)).inc F.DMA_BUS_ERR_CNT

/-- Shared-prefetch mode: the whole engine halts (R342). -/
def State.dmaHalt (s : State) : State :=
  (List.range 16).foldl (fun s c =>
    let st := s.chState c
    if st = chRun ∨ st = chTail then
      match (s.ch c).act with
      | .pool _ q id _ => ((s.setChState c chIdle).wr (F.CH_STAT_LAST_ST c) lastBus).finishJob q id ⟨stDmaErr, 0, 0, 0⟩
      | _ =>
        let r := s.ch c
        ((s.setCh c { r with was := st, reading := r.reading && st == chRun, again := false }).setChState c chHalted).chIrq c
    else s) (s.wr F.DMA_STATUS_HALT 1)

/-- Attributable mode: the channel's own error (R343); `done` bytes have been written. -/
def State.chError (s : State) (c done : Nat) : State :=
  match (s.ch c).act with
  | .desc _ next irq => (s.chBack c 1 done irq).chFollow c next
  | .pool _ q id _ => ((s.setChState c chIdle).wr (F.CH_STAT_LAST_ST c) lastBus).finishJob q id ⟨stDmaErr, 0, 0, 0⟩
  | _ => s.chStop c lastBus

/-- Bytes of the last 32-byte beat of a transfer (R344). -/
def Xfer.lastBeat (x : Xfer) : Nat := min x.count (((if x.dstFixed then 0 else x.dst.toNat) + x.count - 1) % 32 + 1)

/-- An error on the last beat after the last read burst: every byte before it is written, those of the beat are undefined (R344). -/
def State.chTailError (s : State) (c : Nat) (x : Xfer) (data : List Byte) : State :=
  let n := x.lastBeat
  let f := s.freeBytes n
  let s1 := f.1.chWrite c x (data.take (x.count - n))
  let s2 := if s1.chPriv c true then s1
    else s1.toHost (.mem (s1.chFn c) (if x.dstFixed then BitVec.ofNat 64 (x.dst.toNat / 8 * 8) else x.dst + BitVec.ofNat 64 (x.count - n)) f.2)
  ((s2.inc F.DMA_TAIL_CNT).raise0 Src.DMA_ERR_TAIL c).chEnd c lastTail

/-- A bus error of a channel: cause, address, bytes of the read bursts issued, the stream of the bursts written before it, and
whether it met the last beat after the last burst was issued. -/
def State.busError (s : State) (c cause addr issued : Nat) (data : List Byte) (tail : Bool) : State :=
  let x := (s.ch c).act.xfer
  let attr := s.on F.DMA_CTRL_ATTRIB
  match tail, x with
  | true, some x => (s.busRecord c cause addr true).chTailError c x data
  | _, _ =>
    let s1 := (s.busRecord c cause addr attr).raise0 Src.DMA_BUS_ERR c
    let s2 := match x with
      | some x => (s1.chWrite c x data).chAdvance c x (min issued x.count) data.length
      | none => s1
    if attr then s2.chError c data.length else s2.dmaHalt

/-- May a channel issue requests of a side: the side is private, or the function that it addresses has its Bus Master Enable (R329)?
Descriptors lie on the source side. -/
def State.chBme (s : State) (c : Nat) (dst : Bool) : Bool := bits s.pcie.bme (s.chFn c) 1 == 1 || s.chPriv c dst

/-- A channel in RUN issues the reads of its transfer; the fetch or re-read of a descriptor goes out in RUN and in TAIL_WAIT. A request that
Bus Master Enable forbids takes the bus-error path at once (R329). -/
def State.chIssue (s : State) (c : Nat) : State :=
  let s1 := match (s.ch c).act.xfer with
    | some x => if s.chState c = chRun ∧ x.count ≠ 0 ∧ ¬ s.chBme c false then s.busError c 5 x.src.toNat 0 [] false else s
    | none => s
  if (s1.chState c = chRun ∨ s1.chState c = chTail) ∧ (s1.ch c).reading ∧ ¬ s1.chBme c false then s1.busError c 5 (s1.chCur c) 0 [] false else s1

/-- Priority of a channel's bursts: its job's on a pool channel, else its own (R327, R334). -/
def State.chPrio (s : State) (c : Nat) : Nat :=
  match (s.ch c).act with
  | .pool _ _ _ p => p
  | _ => s.rd (F.CH_CFG_PRIO c)

/-! Access to a channel's set (R327). -/

/-- Only a channel's owner and MGMT write its set. -/
def State.chOwned (s : State) (m c : Nat) (f : State → State) : State := if m = s.chOwner c ∨ m = 0 then f s else s.inc F.DMA_REJ

/-- A write to a channel's set: W on DMA, then its owner or MGMT. -/
def State.chW (s : State) (m c off : Nat) (f : State → State) : State :=
  s.busW m (0xF0100 + 0x40 * c + off) (fun s => s.chOwned m c f)

/-- A write of CH_OWNER (R327). -/
def State.chOwnerSet (s : State) (m c v : Nat) : State :=
  if 14 ≤ c ∨ ¬ (m = 0 ∨ m = 0x20) then s.inc F.DMA_REJ
  else if s.chBusy c then (if v = s.chOwner c then s else s.cfgWhileRunning m (0xF0130 + 0x40 * c))
  else if s.chState c ≠ chIdle ∨ ¬ (v = 0 ∨ v = 3 ∨ v = 0x20) then s.inc F.DMA_REJ
  else s.wr (F.CH_OWNER c) v

/-- A doorbell of a channel: DB on DMA (R339, R390). -/
def State.chDb (s : State) (c : Nat) : State :=
  let r := s.ch c
  match s.chState c with
  | 1 => s.wr (F.CH_STAT_DB_PEND c) 1
  | 2 => if r.reading then s.setCh c { r with again := true } else (s.setCh c { r with reading := true }).chIssue c
  | _ => s.inc F.DMA_DB_IGN

/-- A write to CH_DB by master `m`. -/
def State.chDbW (s : State) (m c : Nat) : State :=
  s.guarded 2 permDB m (0xF0138 + 0x40 * c) (fun s => s.chOwned m c (fun s => s.chDb c))

/-- DMA_CTRL.EN = 0 (R345). -/
def State.dmaOff (s : State) : State := (s.wr F.DMA_CTRL_EN 0).dmaDropAll

/-- Function-level reset: channels that address the function's memory drop; PF0's sets return to reset, its ownership stays
(R346). -/
def State.dmaFlr (s : State) (m : Nat) : State :=
  (List.range 16).foldl (fun s c =>
    let uses := decide (1 ≤ s.chState c ∧ s.chState c ≤ 3) && decide (0x20 + s.chFn c = m) && !(s.chPriv c false && s.chPriv c true)
    let s1 := if uses then s.chDrop c else s
    if m = 0x20 ∧ s.chOwner c = 0x20 then
      [F.CH_SRC_LO c, F.CH_SRC_HI c, F.CH_DST_LO c, F.CH_DST_HI c, F.CH_COUNT c, F.CH_DESC_LO c, F.CH_DESC_HI c, F.CH_CUR_LO c, F.CH_CUR_HI c,
       F.CH_DESC_CNT c, F.CH_CFG_PRIO c, F.CH_CFG_IRQ c, F.CH_CFG_SPACE_DST c, F.CH_CFG_SPACE_SRC c, F.CH_CFG_DST_FIXED c, F.CH_CFG_SRC_FIXED c,
       F.CH_CFG_SWAP c, F.CH_CTRL_EN c, F.CH_STAT_DB_PEND c, F.CH_STAT_LAST_ST c, F.CH_STAT_HOPS c, F.CH_IRQ_EN c,
       F.CH_IRQ_VEC c].foldl (fun s f => s.wr f f.rst) (s1.setChState c chIdle)
    else s1) s

/-! Copy jobs (R306, R368). -/

/-- The pool channel that has been IDLE longest; on equal times the lower one (R368). -/
def State.poolChannel (s : State) : Option Nat :=
  ((List.range 16).filter (fun c => s.chOwner c == 3 && s.chState c == chIdle && s.on (F.CH_CTRL_EN c) && s.on F.DMA_CTRL_EN
    && !s.on F.DMA_STATUS_HALT)).foldl (fun b c => match b with
    | some d => if (s.ch c).idleAt < (s.ch d).idleAt then some c else some d
    | none => some c) none

/-- The copy job served next: highest priority, first in (R368), among the oldest of each queue, whose jobs start in ring order (R308);
`seen` are the queues whose oldest copy has been met. -/
def firstCopy (seen : List Nat) : List CopyJob → Option CopyJob
  | [] => none
  | j :: t =>
    if seen.contains j.q then firstCopy seen t
    else match firstCopy (j.q :: seen) t with
      | some k => if j.prio < k.prio then some k else some j
      | none => some j

/-- Assign the next waiting copy to a pool channel (R368). -/
def State.copyDispatch (s : State) : State :=
  match firstCopy [] s.pt.copies, s.poolChannel with
  | some j, some c =>
    let x : Xfer := ⟨j.src, j.dst, j.len, j.swap, j.srcFixed, j.dstFixed⟩
    let s1 := { s with pt := { s.pt with copies := s.pt.copies.erase j } }
    let s2 := ((s1.traceDecision 6 j.waited.toNat c j.q).setCh c { s1.ch c with act := .pool x j.q j.id j.prio }).setChState c chRun
    let s3 := s2.startJob j.q j.id
    if j.len = 0 then s3.chEnd c lastOk else s3.chIssue c
  | _, _ => s

/-- DMA_COPY (R306): the copy waits for a pool channel; a full copy queue stops the fetch (R368). -/
def execDmaCopy (q : BitVec 10) (e : List Byte) (s : State) : Out :=
  let q := q.toNat
  if 256 ≤ s.pt.copies.length ∧ Entry.opcode e = opDmaCopy then .next s
  else .next (s.fetchJob q e opDmaCopy 0 (fun s id =>
    let waits := s.poolChannel.isNone || !s.pt.copies.isEmpty
    let j : CopyJob := ⟨q, id, Entry.le e 9 1 % 4, Entry.le e 4 4 % 2 ^ 24, bits (Entry.le e 8 1) 0 3, bits (Entry.le e 8 1) 3 1 == 1,
      bits (Entry.le e 8 1) 4 1 == 1, BitVec.ofNat 64 (Entry.le e 16 8), BitVec.ofNat 64 (Entry.le e 24 8), waits⟩
    let s1 := { s with pt := { s.pt with copies := s.pt.copies ++ [j] } }
    if waits then s1.inc F.PT_DMA_WAIT else s1))

/-- A waiting copy gets a channel. -/
def execDmaCopyDispatch (s : State) : Out := .next s.copyDispatch

/-- CH_CTRL.START (R330). -/
def execDmaStart (m : Nat) (c : Fin 16) (s : State) : Out := .next (s.chW m c.val 0x18 (fun s => (s.chStart c.val).chIssue c.val))

/-- CH_CTRL.CHAIN (R336). -/
def execDmaChain (m : Nat) (c : Fin 16) (s : State) : Out := .next (s.chW m c.val 0x18 (fun s => (s.chChain c.val).chIssue c.val))

/-- CH_CTRL.RESUME (R342). -/
def execDmaResume (m : Nat) (c : Fin 16) (s : State) : Out := .next (s.chW m c.val 0x18 (fun s => (s.chResume c.val).chIssue c.val))

/-- CH_CTRL.EN = 0 (R345). -/
def State.chOff (s : State) (c : Nat) : State := (s.wr (F.CH_CTRL_EN c) 0).chDrop c

/-- A write of CH_CTRL with EN = 0 (R345). -/
def execChannelDrop (m : Nat) (c : Fin 16) (s : State) : Out := .next (s.chW m c.val 0x18 (fun s => s.chOff c.val))

/-- DMA_CTRL.EN = 0 (R345). -/
def execDmaEngineDisable (m : Nat) (s : State) : Out := .next (s.busW m 0xF0000 (fun s => s.dmaOff))

/-- A write to CH_DB (R339). -/
def execChDb (m : Nat) (c : Fin 16) (s : State) : Out := .next (s.chDbW m c.val)

/-- A write of CH_OWNER (R327). -/
def execChOwnerWrite (m : Nat) (c : Fin 16) (v : BitVec 6) (s : State) : Out :=
  .next (s.busAdm m (0xF0130 + 0x40 * c.val) (fun s => s.chOwnerSet m c.val v.toNat))

/-- Writing 1 to DMA_STATUS.HALT (R342). -/
def execHaltClear (m : Nat) (s : State) : Out := .next (s.busW m 0xF0004 (fun s => s.wr F.DMA_STATUS_HALT 0))

/-- The 32 bytes that a fetch or re-read of a descriptor has brought (R336, R339). -/
def execDescriptorFetched (c : Fin 16) (b : List Byte) (s : State) : Out :=
  let c := c.val
  .next (if (s.chState c = chRun ∨ s.chState c = chTail) ∧ (s.ch c).reading ∧ b.length = 32 ∧ s.on F.DMA_CTRL_EN then
    (s.chDescriptor c b).chIssue c
  else s)

/-- The reads of a channel's transfer are complete and its last write has been issued: `data` is the stream read, of COUNT bytes
(R330, R337). Without Bus Master Enable of the destination its writes take the bus-error path (R329). -/
def execTransferComplete (c : Fin 16) (data : List Byte) (s : State) : Out :=
  let c := c.val
  .next (match (s.ch c).act.xfer with
  | some x =>
    if s.chState c = chRun ∧ data.length = x.count ∧ s.on F.DMA_CTRL_EN then
      (if x.count = 0 ∨ s.chBme c true then (s.chWrite c x data).chEnd c lastOk else s.busError c 5 x.dst.toNat x.count [] false).chIssue c
    else s
  | none => s)

/-- A request of a channel has failed (R341): cause 1 to 4 of DMA_ERR_INFO. -/
def execBusError (c : Fin 16) (cause : Fin 4) (addr : DWord) (issued : Nat) (data : List Byte) (tail : Bool) (s : State) : Out :=
  let c := c.val
  .next (if (s.chState c = chRun ∧ ((s.ch c).reading ∨ (s.ch c).act.xfer.isSome) ∨ s.chState c = chTail ∧ (s.ch c).reading) ∧ s.on F.DMA_CTRL_EN then
    (s.busError c (cause.val + 1) addr.toNat issued data tail).chIssue c
  else s)

end Sys2Proof.Machine
end

