-- ==== Sys2Proof/Machine/Mbox.lean ====
section
/-!
DEFINITION. MBOX: notices, locks, bindings and the mailbox interrupts (R377 to R386).
Where the manual leaves a point open, the choices are log entries 50 (DEDUCED).
-/

namespace Sys2Proof.Machine

/-- The two masters bound to a channel (R377). -/
def State.mbSender (s : State) (n : Nat) : Nat := s.rd (F.MB_BIND_n_SENDER n)
def State.mbReceiver (s : State) (n : Nat) : Nat := s.rd (F.MB_BIND_n_RECEIVER n)
def State.mbBound (s : State) (n m : Nat) : Bool := s.on (F.MB_BIND_n_VALID n) && (s.mbSender n == m || s.mbReceiver n == m)

/-- The two words of a banked register of master `m` that channel `n` uses. -/
def mbNotify (m n : Nat) : Fld := if n < 32 then F.MB_NOTIFY_PEND_LO m else F.MB_NOTIFY_PEND_HI m
def mbEmpty (m n : Nat) : Fld := if n < 32 then F.MB_EMPTY_PEND_LO m else F.MB_EMPTY_PEND_HI m
def mbNotifyIe (m n : Nat) : Fld := if n < 32 then F.MB_NOTIFY_IE_LO m else F.MB_NOTIFY_IE_HI m
def mbEmptyIe (m n : Nat) : Fld := if n < 32 then F.MB_EMPTY_IE_LO m else F.MB_EMPTY_IE_HI m

/-- The mailbox interrupt of a master (R383): event 2 of PF0, a vector of a VF; the others have none that leaves the module. -/
def State.mbIrq (s : State) (m : Nat) : State :=
  if m = 0x20 then s.sendEvent 2
  else if isVf m ∧ s.on (F.MB_VF_IRQ_EN (m - 0x21)) then s.msix (fnOf m) (s.rd (F.MB_VF_IRQ_VEC (m - 0x21)))
  else s

/-- Set a pending bit; it interrupts when it becomes 1 while enabled (R383). -/
def State.mbPend (s : State) (m n : Nat) (pend ie : Fld) : State :=
  let was := bits (s.rd pend) (n % 32) 1
  let s1 := s.wrBit pend (n % 32) true
  if was = 0 ∧ bits (s1.rd ie) (n % 32) 1 = 1 then s1.mbIrq m else s1

/-- Write an enable register; an enable bit that becomes 1 over a pending bit interrupts (R383). -/
def State.mbIeWrite (s : State) (m : Nat) (ie pend : Fld) (v : Nat) : State :=
  let old := s.rd ie
  let s1 := s.wr ie v
  if (List.range 32).any (fun i => bits v i 1 == 1 && bits old i 1 == 0 && bits (s.rd pend) i 1 == 1) then s1.mbIrq m else s1

/-- An access that MBOX refuses (R379). -/
def State.mbReject (s : State) (m : Nat) : State := (s.inc F.MB_REJ).raise Src.MB_ACCESS 0xFF (some m) 0

/-- An access of master `m` to channel `n`, in a VF's window or in PF0 BAR0 (R379, R389, R535). -/
def State.mbGuard (s : State) (op perm m n off : Nat) (f : State → State) : State :=
  if !(if op = 0 then s.decodes m else s.takes m) then s
  else if s.may 0x10 m perm then (if s.heldBlk 0x10 then s else f s)
  else s.deny op m 0x10 ((if isVf m then 0x1000 else 0x100) + 0x20 * n + off)

/-- Fill the staging pointer: by the sender (R380). -/
def State.mbStage (s : State) (m n : Nat) (v : DWord) : State :=
  if s.mbBound n m ∧ s.mbSender n = m then { s with mb := { s.mb with stage := Sparse.put 0 s.mb.stage n v } } else s.mbReject m

/-- Insert a channel in ascending order. -/
def chInsert (n : Nat) : List Nat → List Nat
  | [] => [n]
  | k :: t => if n ≤ k then n :: k :: t else k :: chInsert n t

/-- A request waits: in posting order, those of one core cycle in ascending channel order (R436). -/
def State.reqPost (s : State) (n : Nat) : State :=
  let new := chInsert n (s.mg.reqsNew.filter (fun k => s.mg.reqs.contains k && k != n))
  { s with mg := { s.mg with reqs := s.mg.reqs.filter (fun k => !new.contains k) ++ new, reqsNew := new } }

/-- A notice enters an empty channel (R380). -/
def State.mbNotice (s0 : State) (n : Nat) (ptr : DWord) (tag : Word) : State :=
  let r := s0.mbReceiver n
  let s := if n < 4 then s0.reqPost n else s0
  ((((s.wr64 (F.MB_CH_PTR_LO n) (F.MB_CH_PTR_HI n) ptr.toNat).wr (F.MB_CH_TAG n) tag.toNat).wr (F.MB_CH_STAT_FULL n) 1).inc F.MB_POSTS).mbPend
    r n (mbNotify r n) (mbNotifyIe r n)

/-- A write of MB_CH_TAG (R380). On a FULL channel the post is refused at the end of its core cycle, unless an EMPTY of that cycle comes
before it (R382). -/
def State.mbPost (s : State) (m n : Nat) (tag : Word) : State :=
  let ptr := Sparse.get 0 s.mb.stage n
  if ¬ s.on F.MB_CTRL_EN then s.inc F.MB_REJ
  else if ¬ (s.mbBound n m ∧ s.mbSender n = m) then s.mbReject m
  else if s.on (F.MB_CH_STAT_FULL n) then { s with mb := { s.mb with posts := s.mb.posts ++ [⟨m, n, tag, ptr⟩] } }
  else s.mbNotice n ptr tag

/-- A post to a FULL channel is refused (R380). -/
def State.postRefuse (s : State) (x : HeldPost) : State :=
  ((s.wr (F.MB_CH_STAT_POST_REJ x.n) 1).inc F.MB_POST_REJ).raise Src.MB_POST_FULL 0xFF (some x.m) x.n

/-- The core cycle ends: the posts of it that no EMPTY let through are refused (R380, R382). -/
def State.postFlush (s : State) : State := s.mb.posts.foldl State.postRefuse { s with mb := { s.mb with posts := [] } }

/-- The first post of the cycle that waits for channel `n` enters it (R382). -/
def State.postAfter (s : State) (n : Nat) : State :=
  match s.mb.posts.find? (fun x => x.n == n) with
  | some x => ({ s with mb := { s.mb with posts := s.mb.posts.erase x } }).mbNotice n x.ptr x.tag
  | none => s

/-- EMPTY by the receiver; it comes before a post of its core cycle (R381, R382). -/
def State.mbClear (s : State) (m n : Nat) : State :=
  if ¬ s.on F.MB_CTRL_EN then s.inc F.MB_REJ
  else if ¬ (s.mbBound n m ∧ s.mbReceiver n = m) then s.mbReject m
  else if ¬ s.on (F.MB_CH_STAT_FULL n) then s.inc F.MB_EMPTY_IGN
  else
    let o := s.mbSender n
    (((s.wr (F.MB_CH_STAT_FULL n) 0).wrBit (mbNotify m n) (n % 32) false).mbPend o n (mbEmpty o n) (mbEmptyIe o n)).postAfter n

/-- Firmware posts the oldest reply that waits for channel `n`, once the channel is free (R436). -/
def State.replyNext (s : State) (n : Nat) : State :=
  match s.mg.replies.find? (fun r => r.1 == n) with
  | some r =>
    if s.fwRuns ∧ s.on F.MB_CTRL_EN ∧ ¬ s.on (F.MB_CH_STAT_FULL n) then
      ({ s with mg := { s.mg with replies := s.mg.replies.erase r }, mb := { s.mb with stage := Sparse.put 0 s.mb.stage n r.2.1 } }).mbPost 0 n r.2.2
    else s
  | none => s

/-- Does master `m` hold the lock of channel `n`? -/
def State.mbHolds (s : State) (n m : Nat) : Bool := s.on (F.MB_CH_STAT_LOCKED n) && s.rd (F.MB_CH_STAT_LOCK_OWNER n) == m

/-- Give the lock to a master. -/
def State.mbLock (s : State) (n m : Nat) : State := (s.wr (F.MB_CH_STAT_LOCKED n) 1).wr (F.MB_CH_STAT_LOCK_OWNER n) m

/-- Free the lock. -/
def State.mbUnlock (s : State) (n : Nat) : State := (s.wr (F.MB_CH_STAT_LOCKED n) 0).wr (F.MB_CH_STAT_LOCK_OWNER n) 0

/-- The winner among contenders: the lowest identity above MB_RR, else the lowest (R385). -/
def lockWinner (rr : Nat) (ms : List Nat) : Option Nat :=
  match (ms.filter (fun m => decide (rr < m))).min? with
  | some m => some m
  | none => ms.min?

/-- May master `m` read the lock of channel `n`: the permission, MBOX enabled, the binding (R379, R384, R389)? -/
def State.mbMayLock (s : State) (n m : Nat) : Bool := s.decodes m && s.may 0x10 m permW && !s.heldBlk 0x10 && s.on F.MB_CTRL_EN && s.mbBound n m

/-- What a refused lock read leaves. -/
def State.mbLockRefused (s : State) (n m : Nat) : State :=
  s.mbGuard 0 permW m n 0x14 (fun s => if ¬ s.on F.MB_CTRL_EN then s.inc F.MB_REJ else s.mbReject m)

/-- What a reader finds once the cycle's winner has the lock (R384). -/
def State.mbLockWord (s : State) (n m : Nat) : Nat := if s.mbHolds n m then 0 else 0x80000000 + s.rd (F.MB_CH_STAT_LOCK_OWNER n)

/-- Lock reads of one channel in one cycle (R384, R385); `readData` gets one word for each reader. -/
def State.mbTake (s : State) (n : Nat) (ms : List Nat) : State :=
  let ok := ms.filter (fun m => s.mbMayLock n m)
  let s1 :=
    if s.on (F.MB_CH_STAT_LOCKED n) then s
    else match lockWinner (s.rd F.MB_RR) ok with
      | some w => if 2 ≤ ok.length then (s.mbLock n w).wr F.MB_RR w else s.mbLock n w
      | none => s
  let s2 := ms.foldl (fun a m =>
    if s.mbMayLock n m then (if a.mbHolds n m then a else a.inc F.MB_LOCK_BUSY) else a.mbLockRefused n m) s1
  { s2 with readData := ms.map (fun m => if s.mbMayLock n m then BitVec.ofNat 32 (s1.mbLockWord n m) else 0) }

/-- A write of MB_CH_LOCK (R384). -/
def State.mbFree (s : State) (m n : Nat) : State :=
  if ¬ s.mbBound n m then s.mbReject m
  else if s.mbHolds n m then s.mbUnlock n
  else s.inc F.MB_REJ

/-- Can a master be bound (R377)? -/
def mbBindable (m : Nat) : Bool := decide (m ≤ 1) || (decide (0x20 ≤ m) && decide (m ≤ 0x2F))

/-- Why a binding write is ignored; 0 when it is not (R378). A write that clears VALID names no masters. -/
def State.bindCode (s : State) (m n v : Nat) : Nat :=
  let r := bits v 8 6
  let o := bits v 0 6
  if s.on F.MB_CTRL_BIND_LOCK then 1
  else if m ≠ 0 then 2
  else if bits v 31 1 = 1 ∧ ¬ (mbBindable r ∧ mbBindable o) then 3
  else if bits v 31 1 = 1 ∧ r = o then 4
  else if s.on (F.MB_CH_STAT_FULL n) ∨ s.on (F.MB_CH_STAT_LOCKED n) then 5
  else 0

/-- A write of MB_BIND_n (R377, R378). -/
def State.mbBind (s : State) (m n v : Nat) : State :=
  if n < 8 then s
  else
    let c := s.bindCode m n v
    if c = 0 then
      ((s.wr (F.MB_BIND_n_VALID n) (bits v 31 1)).wr (F.MB_BIND_n_RECEIVER n) (bits v 8 6)).wr (F.MB_BIND_n_SENDER n) (bits v 0 6)
    else ((s.wr F.MB_STATUS_BIND_ERR_SEEN 1).wr F.MB_STATUS_BIND_ERR c).raise Src.MB_ACCESS 0xFF (some m) c

/-- BIND_LOCK is set by MGMT only (R378). -/
def State.mbBindLock (s : State) (m : Nat) : State := if m = 0 then s.wr F.MB_CTRL_BIND_LOCK 1 else s

/-- The reset of a bound master (R386): its locks are freed, its enables return to 0, and a notice posted for it pends again. -/
def State.mbMasterReset (s : State) (m : Nat) : State :=
  let s1 := (List.range 64).foldl (fun s n => if s.mbHolds n m then s.mbUnlock n else s) s
  let pend (h : Nat) : Nat := ((List.range 32).map (fun i =>
    if s.on (F.MB_CH_STAT_FULL (32 * h + i)) ∧ s.mbReceiver (32 * h + i) = m then 2 ^ i else 0)).sum
  let s2 := [F.MB_NOTIFY_IE_LO m, F.MB_NOTIFY_IE_HI m, F.MB_EMPTY_IE_LO m, F.MB_EMPTY_IE_HI m, F.MB_EMPTY_PEND_LO m,
    F.MB_EMPTY_PEND_HI m].foldl (fun s f => s.wr f 0) s1
  let s3 := (s2.wr (F.MB_NOTIFY_PEND_LO m) (pend 0)).wr (F.MB_NOTIFY_PEND_HI m) (pend 1)
  if isVf m then (s3.wr (F.MB_VF_IRQ_EN (m - 0x21)) 0).wr (F.MB_VF_IRQ_VEC (m - 0x21)) 0 else s3

/-- A write of MB_CH_TAG. -/
def execMailboxPost (m : Nat) (n : Fin 64) (tag : Word) (s : State) : Out :=
  .next (s.mbGuard 1 permW m n.val 8 (fun s => s.mbPost m n.val tag))

/-- MB_CH_CMD.EMPTY; a reply that waits for the channel follows (R381, R436). -/
def State.mbCmdEmpty (s : State) (m n : Nat) : State := (s.mbClear m n).replyNext n

def execMailboxEmpty (m : Nat) (n : Fin 64) (s : State) : Out := .next (s.mbGuard 1 permW m n.val 0x10 (fun s => s.mbCmdEmpty m n.val))

/-- Reads of MB_CH_LOCK by one master, or by several in one core cycle (R384, R385). -/
def execMailboxLockTake (n : Fin 64) (ms : List Nat) (s : State) : Out := .next (s.mbTake n.val ms)

/-- A write of MB_CH_LOCK. -/
def execMailboxLockFree (m : Nat) (n : Fin 64) (s : State) : Out := .next (s.mbGuard 1 permW m n.val 0x14 (fun s => s.mbFree m n.val))

/-- A write of MB_BIND_n. -/
def execMailboxBindWrite (m : Nat) (n : Fin 64) (v : Word) (s : State) : Out :=
  .next (s.busW m (0x100A00 + 4 * n.val) (fun s => s.mbBind m n.val v.toNat))

/-- MB_CTRL.BIND_LOCK. -/
def execBindLock (m : Nat) (s : State) : Out := .next (s.busW m 0x100000 (fun s => s.mbBindLock m))

end Sys2Proof.Machine
end

