-- ==== Sys2Proof/Machine/Psfp.lean ====
section
/-!
DEFINITION. PSFP: stream filters, gate verdicts and policing, flow meters, its commands and its window (R219 to R226, R231,
R232).
Where the manual leaves a point open, the choices are log entries 37 (DEDUCED).
-/

namespace Sys2Proof.Machine

/-- PSFP runs (R220, R227, R231). -/
def State.psOn (s : State) : Bool := s.on F.PS_CTRL_EN && !s.on F.PS_STATUS_WIPING

/-! Stream filters (R219). -/

def State.filt (s : State) (f n : Nat) : Nat := (Sparse.get 0 s.ps.filters (f * 2 + n)).toNat
def State.ftBit (s : State) (f i : Nat) : Bool := bits (s.filt f 0) i 1 == 1
def State.ftNext (s : State) (f : Nat) : Nat := bits (s.filt f 0) 48 12

/-- Fields of a filter's words, as a frame took them (R195, R219). -/
def ftGate (w0 : Nat) : Nat := bits w0 16 10
def ftMeter (w0 : Nat) : Nat := bits w0 32 12
def ftMaxSdu (w1 : Nat) : Nat := bits w1 0 16

/-- Count a filter counter: 0 MATCH, 1 GATE_PASS, 2 GATE_DROP, 3 SDU_PASS, 4 SDU_DROP, 5 RED (R226). -/
def State.ftCount (s : State) (f i : Nat) : State :=
  { s with ps := { s.ps with fcnt := Sparse.put 0 s.ps.fcnt (f * 8 + i) (inc32 (Sparse.get 0 s.ps.fcnt (f * 8 + i))) } }

/-- Set or clear BLOCKED of a filter; PS_STATUS.BLOCKED counts the blocked filters (R220, R231). -/
def State.setBlocked (s : State) (f : Nat) (b : Bool) : State :=
  let old := s.ftBit f 5
  let w := putBits (s.filt f 0) 5 1 b.toNat
  ({ s with ps := { s.ps with filters := Sparse.put 0 s.ps.filters (f * 2) (BitVec.ofNat 64 w) } }).wr F.PS_STATUS_BLOCKED
    (s.rd F.PS_STATUS_BLOCKED + b.toNat - old.toNat)

/-- The first VALID filter of a chain of up to `n` that takes a priority (R219). -/
def State.ftSelect (s : State) (prio : Nat) : Nat → Nat → Option Nat
  | 0, _ => none
  | n + 1, f =>
    if s.ftBit f 0 && (s.ftBit f 1 || decide (bits (s.filt f 0) 8 3 = prio)) then some f
    else if s.ftBit f 6 then s.ftSelect prio n (s.ftNext f) else none

/-! Gates and their policing (R220, R221). -/

def State.police (s : State) (g : Nat) : Nat := Sparse.get 0 s.ps.police g

/-- Set a latched-closed bit of a gate: 2 INV_RX_CLOSED, 3 OCT_EX_CLOSED (R221). -/
def State.latchGate (s : State) (g bit : Nat) : State :=
  ({ s with ps := { s.ps with police := Sparse.put 0 s.ps.police g (putBits (s.police g) bit 1 1) } }).raise0 Src.PS_GATE_CLOSED g

/-- Is a gate open for a frame with ingress DT `t` (R92, R220, R221)? -/
def State.gateOpen (s : State) (g t : Nat) : Bool :=
  (s.sgView g t).1 && bits (s.police g) 2 2 == 0

/-! Flow meters (R222 to R224). -/

def State.meter (s : State) (i n : Nat) : Nat := (Sparse.get 0 s.ps.meters (i * 4 + n)).toNat
def State.mtBit (s : State) (i b : Nat) : Bool := bits (s.meter i 2) b 1 == 1
def State.mtTok (s : State) (i : Nat) : Meter := Sparse.get Meter.empty s.ps.toks i
def State.setTok (s : State) (i : Nat) (t : Meter) : State := { s with ps := { s.ps with toks := Sparse.put Meter.empty s.ps.toks i t } }

/-- Tokens per byte. -/
def tokUnit : Nat := 8000000

/-- Tokens accrued up to an instant (R223). -/
def State.mtAccrue (s : State) (i at_ : Nat) : Meter :=
  let t := s.mtTok i
  let dt := at_ - t.at_
  let cap := bits (s.meter i 0) 32 32 * tokUnit
  let c := t.c + bits (s.meter i 0) 0 32 * dt
  let extra := if s.mtBit i 1 then c - cap else 0
  ⟨min c cap, min (bits (s.meter i 1) 32 32 * tokUnit) (t.e + bits (s.meter i 1) 0 32 * dt + extra), max at_ t.at_⟩

/-- Colours (R223). -/
inductive Colour where
  | green
  | yellow
  | red
deriving DecidableEq, Repr

/-- A meter charges a frame of length `l` (R223). -/
def State.mtCharge (s : State) (i l at_ : Nat) (dei : Bool) : State × Colour :=
  let t := s.mtAccrue i at_
  let yellowIn := s.mtBit i 2 && dei
  if s.mtBit i 5 then (s.setTok i t, .red)
  else if ¬ yellowIn ∧ l * tokUnit ≤ t.c then (s.setTok i { t with c := t.c - l * tokUnit }, .green)
  else if l * tokUnit ≤ t.e then (s.setTok i { t with e := t.e - l * tokUnit }, .yellow)
  else (s.setTok i t, .red)

/-- Set or clear MARK_RED. -/
def State.setMarkRed (s : State) (i : Nat) (b : Bool) : State :=
  { s with ps := { s.ps with meters := Sparse.put 0 s.ps.meters (i * 4 + 2) (BitVec.ofNat 64 (putBits (s.meter i 2) 5 1 b.toNat)) } }

/-- The meter's verdict on a frame that passed every earlier check: the frame's yellow mark, or none when it is discarded
(R223). -/
def State.mtVerdict (s : State) (f i l at_ : Nat) (dei : Bool) : State × Option Bool :=
  match s.mtCharge i l at_ dei with
  | (s1, .green) => (s1, some false)
  | (s1, .yellow) => if s.mtBit i 3 then (s1.inc F.PS_YELLOW_DROP, none) else (s1, some true)
  | (s1, .red) =>
    let s2 := (s1.ftCount f 5).inc F.PS_RED_DROP
    (if s.mtBit i 4 then s2.setMarkRed i true else s2, none)

/-- What PSFP decided of a frame: discarded, or passed with an IPV and a yellow mark. -/
inductive PsVerdict where
  | drop
  | pass (ipv : Option Nat) (yellow : Bool)
deriving DecidableEq, Repr

/-- The checks of R220 from the gate on, at the frame's end; `w0` is the filter's word as the frame took it. -/
def State.psGate (s : State) (f w0 l t at_ : Nat) (dei : Bool) : State × PsVerdict :=
  let meterStep (s : State) (ipv : Option Nat) : State × PsVerdict :=
    if bits w0 3 1 = 1 ∧ s.on F.PS_CTRL_METER_EN ∧ s.mtBit (ftMeter w0) 0 then
      match s.mtVerdict f (ftMeter w0) l at_ dei with
      | (s1, some y) => (s1, .pass ipv y)
      | (s1, none) => (s1, .drop)
    else (s, .pass ipv false)
  if bits w0 2 1 = 1 then
    let g := ftGate w0
    let v := s.sgView g t
    if ¬ s.gateOpen g t then
      let s1 := s.ftCount f 2
      (if ¬ v.1 ∧ bits (s.police g) 0 1 = 1 ∧ bits (s.police g) 2 1 = 0 then s1.latchGate g 2 else s1, .drop)
    else
      let r := s.sg g
      if v.2.2 ≠ 0 ∧ v.2.2 < r.octets + l then
        let s1 := (s.ftCount f 2).inc F.PS_OCT_DROP
        (if bits (s.police g) 1 1 = 1 ∧ bits (s.police g) 3 1 = 0 then s1.latchGate g 3 else s1, .drop)
      else meterStep ((s.setSg g { r with octets := r.octets + l }).ftCount f 1) v.2.1
  else meterStep s none

/-- Every check of PSFP on a frame of length `l` with its filter, in the order of R220; BLOCKED is the filter's own state. -/
def State.psCheck (s : State) (f w0 w1 l t at_ : Nat) (dei : Bool) : State × PsVerdict :=
  let s1 := s.ftCount f 0
  if s.ftBit f 5 then (s1.ftCount f 4, .drop)
  else if ftMaxSdu w1 ≠ 0 ∧ ftMaxSdu w1 < l then
    let s2 := s1.ftCount f 4
    (if bits w0 4 1 = 1 then (s2.setBlocked f true).raise0 Src.PS_BLOCKED f else s2, .drop)
  else (s1.ftCount f 3).psGate f w0 l t at_ dei

/-- The filter that a frame takes when its stage begins, with its words; none where PSFP does not filter (R195, R219). -/
def State.psPick (s : State) (en : Bool) (prio first : Nat) : Option (Option (Nat × DWord × DWord)) :=
  if s.psOn && en then
    some ((s.ftSelect prio 8 first).map (fun f => (f, Sparse.get 0 s.ps.filters (f * 2), Sparse.get 0 s.ps.filters (f * 2 + 1))))
  else none

/-- PSFP's whole pass over an identified frame, with the tokens accrued to its ingress stamp (R219, R220, R223). -/
def State.psFrame (s : State) (fr : RxFrame) : State × PsVerdict :=
  match fr.filt with
  | none => (s, .pass none false)
  | some x =>
    if !s.psOn then (s, .pass none false)
    else match x with
      | none => (s.inc F.PS_NOFILT, .drop)
      | some (f, w0, w1) => s.psCheck f w0.toNat w1.toNat fr.data.length fr.stamp.ns.toNat fr.at_ (frameDei fr.data)

/-- What can be said at the frame's head: does a filter take it, unblocked, with its gate open, and the IPV (R92, R220)? -/
def State.psHead (s : State) (fr : RxFrame) : Option (Option Nat) :=
  match fr.filt with
  | none => some none
  | some x =>
    if !s.psOn then some none
    else match x with
      | none => none
      | some (f, w0, _) =>
        if s.ftBit f 5 then none
        else if bits w0.toNat 2 1 = 1 then
          (if s.gateOpen (ftGate w0.toNat) fr.stamp.ns.toNat then some (s.sgView (ftGate w0.toNat) fr.stamp.ns.toNat).2.1 else none)
        else some none

/-! Commands (R231). -/

/-- PS_CMD_RESULT. -/
def State.psDone (s : State) (code : Nat) : State := (s.wr F.PS_CMD_RESULT_DONE 1).wr F.PS_CMD_RESULT_CODE code

/-- UNBLOCK (R220). -/
def State.psUnblock (s : State) (f : Nat) : State :=
  if s.on F.PS_STATUS_WIPING then s.psDone 3
  else if ¬ s.ftBit f 0 then s.psDone 2
  else (s.setBlocked f false).psDone 0

/-- CLR_FILTER_CNT (R226). -/
def State.psClear (s : State) (f : Nat) : State :=
  if s.on F.PS_STATUS_WIPING then s.psDone 3
  else if ¬ s.ftBit f 0 then s.psDone 2
  else ({ s with ps := { s.ps with fcnt := Sparse.dropRange (f * 8) (f * 8 + 8) s.ps.fcnt } }).psDone 0

/-- METER_RESET (R224). -/
def State.psMeterReset (s : State) (i : Nat) : State :=
  if s.on F.PS_STATUS_WIPING then s.psDone 3
  else if ¬ s.mtBit i 0 then s.psDone 2
  else
    let t : Meter := ⟨bits (s.meter i 0) 32 32 * tokUnit, bits (s.meter i 1) 32 32 * tokUnit, s.tb.mono⟩
    ((s.setTok i t).setMarkRed i false).psDone 0

/-- GATE_REOPEN (R221). -/
def State.psReopen (s : State) (g : Nat) : State :=
  if s.on F.PS_STATUS_WIPING then s.psDone 3
  else if 1024 ≤ g then s.psDone 1
  else ({ s with ps := { s.ps with police := Sparse.put 0 s.ps.police g (putBits (s.police g) 2 2 0) } }).psDone 0

/-- PS_CMD UNBLOCK (R220). -/
def execPsUnblock (m : Nat) (f : BitVec 12) (s : State) : Out := .next (s.busW m 0x90008 (fun s => s.psUnblock f.toNat))
/-- PS_CMD CLR_FILTER_CNT (R226). -/
def execPsClrFilterCnt (m : Nat) (f : BitVec 12) (s : State) : Out := .next (s.busW m 0x90008 (fun s => s.psClear f.toNat))
/-- PS_CMD METER_RESET (R224). -/
def execMeterReset (m : Nat) (i : BitVec 12) (s : State) : Out := .next (s.busW m 0x90008 (fun s => s.psMeterReset i.toNat))
/-- PS_CMD GATE_REOPEN (R221). -/
def execGateReopen (m : Nat) (g : BitVec 12) (s : State) : Out := .next (s.busW m 0x90008 (fun s => s.psReopen g.toNat))

/-! PSFP's memory window (R195, R232). -/

/-- Writable bits of a filter word (R219) and of a meter word (R222). -/
def psMask (sp n : Nat) : Nat :=
  match sp, n with
  | 0, 0 => 0x0FFF0FFF03FF075F
  | 0, _ => 0xFFFF
  | _, 0 => 0xFFFFFFFFFFFFFFFF
  | _, 1 => 0xFFFFFFFFFFFFFFFF
  | _, 2 => 0x1F
  | _, _ => 0

/-- A filter's whole word as the window shows it, and a meter's: C_TOK and E_TOK in whole bytes (R222). -/
def State.psPeek (s : State) (sp a : Nat) : Nat :=
  if s.on F.PS_STATUS_WIPING then 0
  else match sp with
    | 0 => if a < 8192 then (Sparse.get 0 s.ps.filters a).toNat else 0
    | 1 =>
      let c (i : Nat) : Nat := Sparse.get 0 s.ps.fcnt (a / 4 * 8 + i)
      (match a % 4 with | 0 => c 0 + c 1 * 2 ^ 32 | 1 => c 2 + c 3 * 2 ^ 32 | 2 => c 4 + c 5 * 2 ^ 32 | _ => 0)
    | 2 =>
      let t := s.mtAccrue (a / 4) s.tb.mono
      (match a % 4 with
        | 2 => s.meter (a / 4) 2 % 2 ^ 32 + min (2 ^ 32 - 1) (t.c / tokUnit) * 2 ^ 32
        | 3 => min (2 ^ 32 - 1) (t.e / tokUnit)
        | n => s.meter (a / 4) n)
    | _ => if a < 1024 then s.police a else 0

/-- New rates keep the tokens, clamped to the new bursts (R224); the old rates apply up to the write. -/
def State.mtRates (s : State) (i : Nat) (t : Meter) : State :=
  s.setTok i ⟨min t.c (bits (s.meter i 0) 32 32 * tokUnit), min t.e (bits (s.meter i 1) 32 32 * tokUnit), t.at_⟩

/-- Does a window word reach read-only bytes: the tokens of a meter (R222, R232)? -/
def psReadOnly (sp a : Nat) : Bool := decide (sp = 2 ∧ 2 ≤ a % 4)

/-- The window write that PS_MDATA_HI completes (R195, R232, R532). -/
def State.psStore (s : State) (w : Nat) : State :=
  let sp := s.rd F.PS_MSEL
  let a := s.rd F.PS_MADDR
  let n := if sp = 0 then 2 else 4
  let size := if sp = 0 then 8192 else 16384
  if s.on F.PS_STATUS_WIPING ∨ sp = 1 ∨ (sp = 0 ∧ size ≤ a) ∨ (sp = 3 ∧ 1024 ≤ a) then s.wr F.PS_STATUS_WIN_REJ 1
  else if sp = 3 then
    { s with ps := { s.ps with police := Sparse.put 0 s.ps.police a (putBits (s.police a) 0 2 w) } }
  else
    let s0 := if psReadOnly sp a then s.wr F.PS_STATUS_WIN_REJ 1 else s
    let base := a / n * n
    let key (i : Nat) : Nat := sp * 2 ^ 18 + base + i
    let part := Sparse.put none s.ps.part (key (a % n)) (some (BitVec.ofNat 64 w))
    if a % n + 1 < n then { s0 with ps := { s0.ps with part := part } }
    else
      let s1 := { s0 with ps := { s0.ps with part := Sparse.dropRange (key 0) (key n) part } }
      if sp = 0 then
        { s1 with ps := { s1.ps with filters := applyRecord (psMask 0) base (fun i => Sparse.get none part (key i)) s.ps.filters n } }
      else
        let t := s.mtAccrue (a / 4) s.tb.mono
        ({ s1 with ps := { s1.ps with meters := applyRecord (psMask 2) base (fun i => Sparse.get none part (key i)) s.ps.meters n } }).mtRates (a / 4) t

/-- The effect of a write of the window's data high word (R12). -/
def State.psMdata (s : State) (m hi : Nat) : State := s.winWrite m 0x90018 hi F.PS_MADDR State.psStore

/-- A write of PS_MDATA_HI (R232). -/
def execPsMdataWrite (m : Nat) (hi : Word) (s : State) : Out :=
  .next (s.busW m 0x9001C (fun s => s.psMdata m hi.toNat))

end Sys2Proof.Machine
end

