-- ==== Sys2Proof/Machine/Receive.lean ====
section
/-!
DEFINITION. The receive path: lookup, recovery, the checks at a frame's end, delivery, reassembly of fragments (R23 to R26,
R44 to R49, R120 to R126, R198 to R217, R225, R246, R275, R315, R369, R461, R462).
Where the manual leaves a point open, the choices are log entries 40, 52 (DEDUCED); 41 (DESIGN CHOICE).
-/

namespace Sys2Proof.Machine

/-- Where a port's frame in reception stands: an express frame, or a pre-emptable one beside it (R120). -/
def rxSlot (p : Nat) (pre : Bool) : Nat := p + if pre then 10 else 0
def RxFrame.slot (fr : RxFrame) : Nat := rxSlot fr.port fr.frags

def State.rxOf (s : State) (k : Nat) : Option RxFrame := Sparse.get none s.rx k
def State.setRx (s : State) (k : Nat) (v : Option RxFrame) : State := { s with rx := Sparse.put none s.rx k v }

/-- A frame that has begun to arrive, `ago` tenths of a ns after its start-of-frame delimiter. -/
def State.newRx (s : State) (p : Nat) (pre : Bool) (head : List Byte) (ago : Nat) : RxFrame where
  port := p
  data := head
  stamp := s.rxStamp p ago
  at_ := s.tb.mono - ago / 10
  look := none
  e0 := 0
  e1 := 0
  maps := none
  filt := none
  ipv := none
  verdict := .open
  rcfg := 0
  yellow := false
  items := []
  whole := false
  frags := pre
  chain := none

/-- Are all fields that R199 presents for a frame among its bytes so far (R202): to the EtherType, to the end of an IP header, or to the
first 8 bytes of a TCP or UDP header? -/
def fieldsIn (f : List Byte) : Bool :=
  let o := etOff f + 2
  let b (off : Nat) : Nat := ((slice f off 1).headD 0).toNat
  let need (hdr proto : Nat) (first : Bool) : Bool :=
    decide (hdr + (if first && (proto == 6 || proto == 17) then 8 else 0) ≤ f.length)
  decide (o ≤ f.length) && (
    if etherType f = 0x0800 then decide (o + 20 ≤ f.length) && need (o + b o % 16 * 4) (b (o + 9)) (be16 f (o + 6) % 2 ^ 13 == 0)
    else if etherType f = 0x86DD then decide (o + 40 ≤ f.length) && need (o + 40) (b (o + 6)) true
    else true)

/-- Does the other backbone port exist for this ingress, and which is it? -/
def otherPort (p : Nat) : Option Nat := if p = 0 then some 1 else if p = 1 then some 0 else none

/-! Frames that the ports keep for themselves. -/

/-- PTP event messages of the transparent clock: all four end-to-end, Sync and the terminated Pdelay messages peer-to-peer
(R46 to R48). -/
def tcHandles (m t : Nat) : Bool :=
  match m with
  | 0 => false
  | 3 | 4 => t == 0 || t == 2 || t == 3 || t == 0xA
  | _ => decide (t ≤ 3)

/-- Is a received frame a PTP message that the time base handles (R44, R48, R49, R204)? -/
def State.ptpHandled (s : State) (p : Nat) (f : List Byte) : Bool :=
  match ptpOff f with
  | none => false
  | some o =>
    let t := ptpType f o
    s.on F.TB_CTRL_PTP_EN && (
      if p < 2 then tcHandles s.tcMode t || (s.on F.TB_PTP_CFG_ROLE_OC && decide (s.rd F.TB_PTP_CFG_OC_PORT = p)
        && decide (ptpDomain f o = s.rd F.TB_PTP_CFG_DOMAIN) && decide (t ≤ 3))
      else bits (s.rd F.TB_FPTP_CFG_PORT_EN) (p - 2) 1 == 1 && decide (ptpDomain f o = s.rd F.TB_FPTP_CFG_DOMAIN) && decide (t ≤ 3))

/-- Does the transparent clock forward this handled message (R44, R46, R48)? -/
def State.ptpForwards (s : State) (p : Nat) (f : List Byte) : Bool :=
  match ptpOff f with
  | none => false
  | some o => decide (p < 2) && tcHandles s.tcMode (ptpType f o) && !(decide (3 ≤ s.tcMode) && decide (ptpType f o ≠ 0))

/-- Does this twin transmit time on a field port (R49, R274)? -/
def State.fieldTime (s : State) (p : Nat) : Bool :=
  s.on F.TB_CTRL_PTP_EN && decide (2 ≤ p) && bits (s.rd F.TB_FPTP_CFG_PORT_EN) (p - 2) 1 == 1
    && (s.acts || bits (s.rd F.TW_FIELD_DUAL) (p - 2) 1 == 0)

/-- A request on a field port is answered by the mechanism that DELAY_MECH selects (R49). -/
def State.fieldAnswer (s : State) (p : Nat) (f : List Byte) (t : Stamp) : State :=
  match ptpOff f with
  | none => s
  | some o =>
    if s.fieldTime p ∧ ptpType f o = (if s.on F.TB_FPTP_CFG_DELAY_MECH then 2 else 1) then
      let m := s.ptpAnswer p f o t
      m.1.ownItem { Item.plain srcOwn p 7 m.1.ln.next m.2 with ingress := t }
    else s

/-- A MAC control frame of a port (R246). -/
def State.macControl (s : State) (p : Nat) (f : List Byte) : Bool :=
  be16 f 12 == 0x8808 && (decide (f.take 6 = [0x01, 0x80, 0xC2, 0, 0, 1]) || decide (f.take 6 = s.portMac p))

/-- What a MAC control frame does (R246, R247). -/
def State.macControlRx (s : State) (p : Nat) (f : List Byte) : State :=
  if be16 f 14 = 0x0001 then s.pauseRx p (be16 f 16)
  else if be16 f 14 = 0x0101 then s.pfcRx p (be16 f 16 % 256) ((List.range 8).map (fun i => be16 f (18 + 2 * i)))
  else s.inc (F.LT_Pn_PAUSE_IGN p)

/-- A backbone claim frame of this pair (R275). -/
def State.claimFrame (s : State) (p : Nat) (f : List Byte) : Bool :=
  decide (p < 2) && decide (f.take 6 = leBytes 4 (s.rd F.TW_CLAIM_DA_LO) ++ leBytes 2 (s.rd F.TW_CLAIM_DA_HI))
    && be16 f 12 == s.rd F.TW_CLAIM_CFG_ETYPE && decide (leNat (slice f 14 4) = s.rd F.TW_PAIR_ID)

/-- Frames that are not looked up. -/
def State.kept (s : State) (p : Nat) (f : List Byte) : Bool := s.ptpHandled p f || s.macControl p f || s.claimFrame p f

/-! Forwarding between the backbone ports (R26, R121, R122, R198, R204). -/

/-- The class of a forwarded copy: the gate's IPV, else the stream's class on the egress port; without a handle, the class of the
priority (R198, R462). -/
def State.fwdClass (s : State) (fr : RxFrame) (e : Nat) : Nat :=
  match fr.look with
  | some (some _) => fr.ipv.getD (strmClass fr.e0.toNat e)
  | _ => s.pcpClass fr.port (framePrio fr.data (s.defPrio fr.port))

/-- The port that a frame is forwarded to, if any (R198, R204). -/
def State.fwdPort (s : State) (fr : RxFrame) : Option Nat :=
  match otherPort fr.port with
  | none => none
  | some e => match fr.look with
    | some (some _) => if fr.fwd && bits fr.egress e 1 == 1 then some e else none
    | _ =>
      if s.ptpHandled fr.port fr.data then (if s.ptpForwards fr.port fr.data then some e else none)
      else if bits (s.rd F.FN_UNID_ACT) (2 * fr.port) 1 = 1 then some e else none

/-- The work item of a forwarded copy. -/
def State.fwdItem (s : State) (fr : RxFrame) (e : Nat) (arriving : Bool) (content : List Byte) : Item :=
  { Item.plain (1025 + fr.port) e (s.fwdClass fr e) s.ln.next content with
    handle := match fr.look with | some h => h | none => none,
    pass := some fr.port, arriving := arriving, tagged := hasRtag content, ingress := fr.stamp }

/-- A pass-through frame that finds no item is counted at its ingress port (R106). -/
def State.fwdAdmit (s : State) (fr : RxFrame) (it : Item) : State × RxFrame :=
  if s.wtRoom 1 then
    let a := s.admitItem it
    (a.1, { fr with items := fr.items ++ [a.2] })
  else (s.inc (F.LN_Pn_FWD_DROP fr.port), fr)

/-- Is the PTP header, if the frame has one, among the bytes that have arrived? -/
def ptpInHead (f : List Byte) : Bool := match ptpOff f with | some o => decide (o + 34 ≤ f.length) | none => true

/-- Begin cut-through of a frame that nothing stands against so far; a pre-emptable frame, which may come in fragments, is stored
(R26, R120, R121). -/
def State.cutThrough (s : State) (fr : RxFrame) : State × RxFrame :=
  match s.fwdPort fr with
  | none => (s, fr)
  | some e =>
    if s.on (F.LN_Pn_CTRL_CT_EN e) ∧ s.portRate e ≤ s.portRate fr.port ∧ ¬ fr.frags ∧ fr.items.isEmpty ∧ ptpInHead fr.data ∧ s.wtRoom 1 then
      s.fwdAdmit fr (s.fwdItem fr e true fr.data)
    else (s, fr)

/-- A frame is looked up by its bytes `f` (R195, R202): it takes its handle, the stream entry, its filter and the recovery configuration as
they stand now, and its maps are fetched (R145). -/
def State.lookUp (s : State) (fr : RxFrame) (f : List Byte) : State × RxFrame :=
  match s.identify fr.port f with
  | none => (s, { fr with look := some none })
  | some h =>
    let fr1 := { fr with look := some (some h), e0 := Sparse.get 0 s.fn.streams (h * 4), e1 := Sparse.get 0 s.fn.streams (h * 4 + 1) }
    let fr2 := { fr1 with
      filt := s.psPick fr1.filtEn (framePrio f (s.defPrio fr.port)) fr1.filter,
      rcfg := Sparse.get 0 s.fn.recCfg (fr1.rec_ * 2) }
    if fr2.mapEn then
      let m := s.mapBegin fr2.map
      (m.1, { fr2 with maps := some m.2 })
    else (s, fr2)

/-- Does sequence recovery run for a frame (R216)? -/
def State.recRuns (s : State) (fr : RxFrame) : Bool := s.fnOn && s.on F.FN_CTRL_REC_EN && fr.recEn && bits fr.rcfg.toNat 0 1 == 1

/-- May a frame without an R-TAG pass its recovery function (R216)? -/
def RxFrame.takeNoSeq (fr : RxFrame) : Bool := bits fr.rcfg.toNat 2 1 == 1

/-- A looked-up frame whose gate and recovery let it through so far is cut through where it may. -/
def State.lookedUp (s : State) (fr : RxFrame) (head : List Byte) : State :=
  let go (s : State) (fr : RxFrame) : State := let c := s.cutThrough fr; c.1.setRx fr.slot (some c.2)
  match fr.look with
  | some (some _) => match s.psHead fr with
    | none => s.setRx fr.slot (some fr)
    | some ipv =>
      let fr2 := { fr with ipv := ipv }
      if s.recRuns fr2 ∧ (hasRtag head ∨ ¬ fr2.takeNoSeq) then s.setRx fr.slot (some fr2) else go s fr2
  | _ => go s fr

/-- Is a head one that the receiver of a port hears: in loopback that of the port's own frame (R459)? -/
def State.hears (s : State) (p : Nat) (head : List Byte) : Bool :=
  !s.loops p || (match s.bp.loop.find? (fun w => w.mac == some p) with
    | some (.frame _ d _) => head == d.take head.length
    | some (.fragment _ first _ d) => first && head == d.take head.length
    | some _ => false
    | none => match (s.lnPort p).wire with
      | some w => (match w.item with
        | some i => (match s.item i with | some it => head == it.out.take head.length | none => false)
        | none => false)
      | none => false)

/-- The head of a frame in reception, express or pre-emptable: once the last of its fields has crossed its handle is looked up and its gate
seen; `ago` is the age, in tenths of a ns, of its start-of-frame delimiter at the pads (R50, R202). It is looked up once. A field frame
is looked up when it has crossed whole (R466). -/
def execStreamLookup (x : RxLane) (head : List Byte) (ago : Nat) (s : State) : Out :=
  let p := x.port.val
  let k := rxSlot p x.pre
  let known : Bool := match s.rxOf k with | some fr => fr.look.isSome || !fr.items.isEmpty | none => false
  .next (if ¬ s.linkUp p ∨ ¬ s.hears p head ∨ known then s
  else
    let fr := s.newRx p x.pre head ago
    if 2 ≤ p ∨ ¬ fieldsIn head then s.setRx k (some fr)
    else if s.kept p head then
      let c := if s.ptpHandled p head then s.cutThrough fr else (s, fr)
      c.1.setRx k (some c.2)
    else
      let l := s.lookUp fr head
      l.1.lookedUp l.2 head)

/-- A recovery function evaluates a frame in reception, if it waits for that: its R-TAG is in, its gate check passed (R213). -/
def State.evalRx (s : State) (k : Nat) : State :=
  match s.rxOf k with
  | none => s
  | some fr =>
    let fr0 := { fr with rcfg := Sparse.get 0 s.fn.recCfg (fr.rec_ * 2) }
    match fr.look with
    | some (some _) =>
      if s.recRuns fr0 ∧ hasRtag fr.data ∧ fr.verdict = .open ∧ (s.psHead fr).isSome then
        let r := s.recEval fr.rec_ fr.port (rtagSeq fr.data)
        let fr1 := { fr0 with verdict := r.2 }
        match r.2 with
        | .pending _ _ =>
          let c := r.1.cutThrough fr1
          c.1.setRx k (some c.2)
        | _ => r.1.setRx k (some fr1)
      else s
    | _ => s

/-- The function that a frame in reception waits for. -/
def State.recWaits (s : State) (k : Nat) : Option Nat :=
  match s.rxOf k with
  | some fr => if fr.verdict = .open ∧ fr.look.isSome then some fr.rec_ else none
  | none => none

/-- A frame's R-TAG is in and its gate check has passed: its recovery function evaluates it (R213). Frames of lower ports that wait for the
same function have reached it in this cycle or before, and come first. -/
def execRecoveryEvaluate (x : RxLane) (s : State) : Out :=
  let p := x.port.val
  let k := rxSlot p x.pre
  let s1 := (List.range p).foldl (fun s q => [rxSlot q false, rxSlot q true].foldl (fun s j =>
    if (s.recWaits k).isSome ∧ s.recWaits j = s.recWaits k then s.evalRx j else s) s) s
  .next (s1.evalRx k)

/-! The end of a cut-through frame (R122). -/

/-- The frame's end reaches an item: whole content, or a bad end. One on the wire ends as R122 gives, and what its shapers have not been
charged yet is charged (R236); one that has not started takes `fresh`, which a yellow frame has marked (R223), or is dropped if the frame
turned out bad. Answers whether the item was on the wire. -/
def State.ctFinish (s : State) (i : Nat) (content fresh : List Byte) (bad : Bool) (chain : Option Nat) : State × Bool :=
  match s.item i with
  | none => (s, false)
  | some it =>
    let p := it.port
    if it.st = .wire ∨ it.st = .cut then
      let body := it.out ++ content.drop it.data.length
      let long := decide (s.maxFrame p < body.length + 4)
      let stompIt := bad || long
      let f := body ++ (if stompIt then (fcs body).map (fun b => ~~~b) else fcs body)
      let s0 := (s.shapersOf it.src p it.cls).foldl (fun s j => s.shDebit j (f.length - (it.out.length + 4))) s
      let s1 := if long then (s0.inc (F.LN_Pn_TX_OVERSIZE p)).raise Src.LN_TX_OVERSIZE p none 0 else s0
      let s2 := (s1.setItem i (some { it with data := content, arriving := false, bad := stompIt, out := f, chain := chain, frags := [] })).emitFrags
        p f 0 it.frags
      match (s2.lnPort p).wire with
      | some w => (if w.item = some i ∧ w.cut = none then s2.setLnPort p { s2.lnPort p with
          wire := some { w with stop := some (max (w.start + (8 + (f.length - it.sent)) * s2.byteTime p) s2.now10) } } else s2, true)
      | none => (s2, true)
    else if bad then (s.dropItem i, false)
    else
      let it1 := { it with data := fresh, arriving := false, chain := chain }
      let s1 := s.setItem i (some it1)
      (if it.st = .ready then s1.makeReady i it1 else s1, false)

/-! Delivery to the host (R198, R301, R315, R369). -/

/-- A received frame has no queue to go to (R315). -/
def State.rxNoBuf (s : State) (q : Nat) : State := (s.inc F.QE_RX_NOBUF).raise0 Src.QE_RX_NOBUF q

/-- An ENABLED SQ of type RX. -/
def State.rxQueue (s : State) (q : Nat) : Bool := s.on (F.QE_SQ_CFG_TYPE q) && decide (s.rd (F.QE_SQ_STAT_STATE q) = sqEnabled)

/-- The queue's owner holds the frame's chain until QENG has read it into its host writes; one whose writes wait for the link keeps it
(R359, R409). -/
def State.rxRead (s : State) (q p c : Nat) (w : HostWrite) : State :=
  let m := s.sqOwner q
  let s1 := (s.shareHold c (8 + p) m).toHost w
  if s.pcie.held.length < s1.pcie.held.length then { s1 with pcie := { s1.pcie with rxHold := s1.pcie.rxHold ++ [(c, m)] } }
  else s1.releaseHold c m

/-- Deliver a frame of chain `cell` to an RX queue: the oldest buffer and one completion (R315). -/
def State.rxDeliver (s : State) (q p : Nat) (h : Option Nat) (data : List Byte) (t : Stamp) (cell : Nat) : State :=
  let r := s.sq q
  if ¬ (s.rxQueue q ∧ s.on F.QE_CTRL_EN) then s.rxNoBuf q
  else match r.posted with
    | [] => s.rxNoBuf q
    | b :: rest =>
      let c := (s.sq q).cq
      let e : Cqe := ⟨2, t.ns.toNat, t.frac.toNat, 0, s.sqShown q, s.sqHead q, b.bufId, stOk, 0,
        h.getD 0 + h.isSome.toNat * 32768 + p * 65536, data.length⟩
      if s.rd (F.QE_SQ_CFG2_RX_BUF q) < data.length then s.inc F.QE_RX_TOOBIG
      else if ¬ s.cqReserve c then s.fold c 7
      else
        let s1 := (s.setSq q { r with posted := rest }).wr (F.QE_SQ_STAT_RX_POSTED q) rest.length
        (s1.rxRead q p cell (.mem (fnOf (s.sqOwner q)) b.addr data)).post rankRx q 7 e

/-- The members of a queue set in order (R369). -/
def State.qsetMembers (s : State) (set : Nat) : List Nat :=
  if s.on F.PT_STATUS_WIPING then []
  else
    ((List.range 8).map (fun i => bits (Sparse.get 0 s.pt.qsets (2 * set + i / 4)).toNat (16 * (i % 4)) 16)).filterMap
      (fun m => if bits m 15 1 = 1 then some (m % 1024) else none)

/-- The member with the most posted buffers, the earlier on equal counts. -/
def State.mostPosted (s : State) : List Nat → Option Nat
  | [] => none
  | q :: t => match s.mostPosted t with
    | some r => if (s.sq q).posted.length < (s.sq r).posted.length then some r else some q
    | none => some q

/-- PITCH keeps or rebinds a stream's receive queue, out of its queue set (R369). -/
def State.chooseRxq (s : State) (h set : Nat) : State × Option Nat :=
  let usable := (s.qsetMembers set).filter s.rxQueue
  let cur := Sparse.get none s.pt.bind h
  let fresh := decide (s.tb.mono ≤ Sparse.get 0 s.pt.lastRx h + s.rd F.PT_REBIND_IDLE * 1000)
  let s1 := { s with pt := { s.pt with lastRx := Sparse.put 0 s.pt.lastRx h s.tb.mono } }
  let rebind (reason : Nat) : State × Option Nat :=
    match s.mostPosted usable with
    | none => (s1.noChoice 7 h, none)
    | some q =>
      let s2 := { s1 with pt := { s1.pt with bind := Sparse.put none s1.pt.bind h (some q) } }
      ((s2.inc F.PT_RXQ_BIND).traceDecision 7 reason q h, some q)
  match cur with
  | none => rebind 0
  | some q =>
    if ¬ usable.contains q then rebind 2
    else if (s.sq q).posted.isEmpty then rebind 3
    else if ¬ fresh then rebind 1
    else (s1, some q)

/-- Host delivery to the pair's address is suppressed in a standby twin (R274). -/
def State.pairSuppressed (s : State) (f : List Byte) : Bool :=
  decide (f.take 6 = leBytes 4 (s.rd F.TW_PAIR_MAC_LO) ++ leBytes 2 (s.rd F.TW_PAIR_MAC_HI)) && !s.acts

/-- The host consumer of an identified frame. -/
def State.hostStream (s : State) (fr : RxFrame) (h : Nat) (content : List Byte) (c : Nat) : State :=
  if s.pairSuppressed content then s.inc F.TW_STBY_RXDROP
  else match s.chooseRxq h fr.qset with
    | (s1, some q) => s1.rxDeliver q fr.port (some h) content fr.stamp c
    | (s1, none) => s1.rxNoBuf 0x3FF

/-- The host consumer of an unidentified frame: the port's default queue (R204). -/
def State.hostDefault (s : State) (fr : RxFrame) (content : List Byte) (c : Nat) : State :=
  let q := s.rd (F.QE_RX_DEFAULT_p_QUEUE fr.port)
  if s.pairSuppressed content then s.inc F.TW_STBY_RXDROP
  else if s.on (F.QE_RX_DEFAULT_p_VALID fr.port) then s.rxDeliver q fr.port none content fr.stamp c
  else s.rxNoBuf q

/-! Delivery (R23, R198). -/

/-- The forwarded copy at the frame's end: the cut-through item gets its end, or a stored copy is admitted. -/
def State.forward (s : State) (fr : RxFrame) (content : List Byte) (c : Nat) : State :=
  let out := if fr.yellow then setDei content else content
  match fr.items with
  | i :: _ =>
    let s1 := if (s.item i).isSome then s.shareHold c (8 + fr.port) 6 else s
    (s1.ctFinish i content out false (some c)).1
  | [] => match s.fwdPort fr with
    | none => s
    | some e =>
      if s.wtRoom 1 then
        ((s.shareHold c (8 + fr.port) 6).fwdAdmit fr { s.fwdItem fr e false out with chain := some c }).1
      else s.inc (F.LN_Pn_FWD_DROP fr.port)

/-- A frame that has passed every stage goes to its consumers, each a holder of its chain: LAUNCH, GYLE until the fields have been read, the
owner of the receive queue; the port lets go of it (R23, R359). -/
def State.consumers (s : State) (fr : RxFrame) (c : Nat) : State :=
  let content := fr.data.take (fr.data.length - 4)
  let s1 := s.forward fr content c
  let s2 := match fr.look with
    | some (some h) =>
      let local_ := dropRtag content
      let a := match fr.maps with
        | some m => (s1.shareHold c (8 + fr.port) 4).extDeliver ⟨m, h, local_, fr.stamp.ns, c⟩
        | none => s1
      if fr.host then a.hostStream fr h local_ c else a
    | _ => if bits (s1.rd F.FN_UNID_ACT) (2 * fr.port + 1) 1 = 1 ∧ ¬ s1.ptpHandled fr.port fr.data then s1.hostDefault fr content c else s1
  s2.releaseHold c (8 + fr.port)

/-- Deliver a stored frame. -/
def State.deliver (s : State) (fr : RxFrame) : State :=
  match fr.chain with
  | some c => s.consumers fr c
  | none => s

/-- The port lets go of a frame's chain. -/
def State.freeRx (s : State) (fr : RxFrame) : State :=
  match fr.chain with
  | some c => s.releaseHold c (8 + fr.port)
  | none => s

/-- A frame is discarded: its stream counts it where `cnt` says that a cause of R230 has discarded it, its pending number is released, its
cut-through copies end bad, its chain is freed. `stage` marks a filter or meter failure (R225). -/
def State.discardRx (s : State) (fr : RxFrame) (stage cnt : Bool) : State :=
  let s1 := match fr.look with | some (some h) => if cnt then s.stCount h 2 else s | _ => s
  let s2 := match fr.verdict with | .pending f n => s1.recRelease f fr.port n | _ => s1
  let content := fr.data.take (fr.data.length - 4)
  let s3 := fr.items.foldl (fun s i =>
    let r := s.ctFinish i content content true none
    if r.2 && stage then r.1.inc F.PS_CT_STOMP else r.1) s2
  s3.freeRx fr

/-! Held copies (R213). -/

/-- Is a number still pending from another ingress port? -/
def State.stillPending (s : State) (f p n : Nat) : Bool := (s.recOf f).pend.any (fun x => x.2 == n && x.1 != p)

/-- Evaluate one held copy again. A whole one is delivered or discarded at once. -/
def State.retryHeld (s : State) (fr : RxFrame) (f n : Nat) : State :=
  if s.stillPending f fr.port n then
    (if fr.whole then { s with fn := { s.fn with held := s.fn.held ++ [fr] } } else s)
  else
    let r := s.recEval f fr.port n
    let fr1 := { fr with verdict := r.2 }
    if ¬ fr.whole then r.1.setRx fr.slot (some fr1)
    else match r.2 with
      | .pending _ _ => (r.1.recCommit f fr.port n fr.rcfg.toNat).deliver fr1
      | _ => r.1.discardRx fr1 false true

/-- Number `n` of function `f` has been committed or released: the held copies are evaluated again, whole ones first in order of
their coming, then those in reception by port. -/
def State.retryAll (s : State) (f n : Nat) : State :=
  let is (fr : RxFrame) : Bool := fr.verdict == .held f n
  let whole := s.fn.held.filter is
  let s1 := { s with fn := { s.fn with held := s.fn.held.filter (fun x => !is x) } }
  let s2 := whole.foldl (fun s fr => s.retryHeld fr f n) s1
  (List.range 20).foldl (fun s k => match s.rxOf k with | some fr => if is fr then s.retryHeld fr f n else s | none => s) s2

/-- Discard, then evaluate the copies that waited for this one. -/
def State.failRx (s : State) (fr : RxFrame) (stage cnt : Bool) : State :=
  let s1 := s.discardRx fr stage cnt
  match fr.verdict with
  | .pending f n => s1.retryAll f n
  | _ => s1

/-! The end of a received frame (R461). -/

/-- RX counters of a port. -/
def rxFcsErr (p : Nat) : Fld := if p < 2 then F.BP_RX_FCS_ERR p else F.FP_RX_FCS_ERR (p - 2)
def rxRunt (p : Nat) : Fld := if p < 2 then F.BP_RX_RUNT p else F.FP_RX_RUNT (p - 2)
def rxOversize (p : Nat) : Fld := if p < 2 then F.BP_RX_OVERSIZE p else F.FP_RX_OVERSIZE (p - 2)
def rxNocell (p : Nat) : Fld := if p < 2 then F.BP_RX_NOCELL p else F.FP_RX_NOCELL (p - 2)

/-- A frame that passed the checks is counted (R461, R479). -/
def State.countRx (s : State) (p n : Nat) : State :=
  if p < 2 then (s.add64 (F.BP_RX_FRAMES_LO p) (F.BP_RX_FRAMES_HI p) 1).add64 (F.BP_RX_BYTES_LO p) (F.BP_RX_BYTES_HI p) n
  else s.fdCount (F.FP_RX_FRAMES (p - 2))

/-- What a verdict of recovery does with a frame that has passed the filter stage (R213). -/
def State.afterVerdict (s : State) (fr : RxFrame) : State :=
  match fr.verdict with
  | .pending f n => ((s.recCommit f fr.port n fr.rcfg.toNat).deliver { fr with verdict := .free }).retryAll f n
  | .held _ _ => { s with fn := { s.fn with held := s.fn.held ++ [{ fr with whole := true }] } }
  | .drop => s.failRx fr false true
  | _ => s.deliver fr

/-- Recovery and delivery of a frame that the filter stage passed (R213, R216); one that has been evaluated keeps its verdict. -/
def State.afterFilter (s : State) (fr : RxFrame) : State :=
  let f := fr.rec_
  if fr.verdict ≠ .open then s.afterVerdict fr
  else if ¬ s.recRuns fr then s.deliver fr
  else if ¬ hasRtag fr.data then
    let r := s.recOf f
    let s1 := s.setRec f { r with tagless := inc32 r.tagless }
    if fr.takeNoSeq then s1.deliver fr else s1.failRx fr false true
  else
    let r := s.recEval f fr.port (rtagSeq fr.data)
    r.1.afterVerdict { fr with verdict := r.2, rcfg := Sparse.get 0 s.fn.recCfg (f * 2) }

/-- The stages of a good frame (R23). -/
def State.stages (s : State) (fr : RxFrame) : State :=
  match fr.look with
  | some (some _) =>
    (match s.psFrame fr with
      | (s1, .drop) => s1.failRx fr true true
      | (s1, .pass ipv yellow) => s1.afterFilter { fr with ipv := ipv, yellow := yellow })
  | _ => (s.inc F.FN_UNID_CNT).deliver fr

/-- A good frame: kept by the port, or looked up, at its end if it has not been, and passed through the stages. -/
def State.goodRx (s : State) (fr : RxFrame) : State :=
  let p := fr.port
  let content := fr.data.take (fr.data.length - 4)
  if s.macControl p fr.data then (s.freeRx fr).macControlRx p content
  else if s.claimFrame p fr.data then (s.freeRx fr).bbClaimRx p (content.drop 14)
  else if s.ptpHandled p fr.data then (s.deliver { fr with look := some none }).fieldAnswer p content fr.stamp
  else
    let l := if fr.look.isSome then (s, fr) else s.lookUp fr fr.data
    (match l.2.look with | some (some h) => l.1.stCount h 0 | _ => l.1).stages l.2

/-- A bad frame is looked up at its end if it has not been, and counted as one of its stream's frames, or as unidentified (R202, R204,
R230); `cnt` says whether its stream counts it as dropped. -/
def State.badRx (s : State) (fr : RxFrame) (cnt : Bool) : State :=
  let look : Option (Option Nat) := if fr.look.isSome then fr.look else if s.kept fr.port fr.data then none else some (s.identify fr.port fr.data)
  let s1 := match look with
    | some (some h) => s.stCount h 0
    | some none => s.inc F.FN_UNID_CNT
    | none => s
  s1.failRx { fr with look := look } false cnt

/-- The link of a port as its receiver sees it: a field link stays up while the isolation channel is down (R468). -/
def State.rxLink (s : State) (p : Nat) : Bool := if p < 2 then s.linkUp p else s.on (F.FP_STATUS_LINK (p - 2))

/-- R461's checks after the receive buffer and the cells: the counter of the first one that fails. -/
def State.rxCheck (s : State) (p : Nat) (data : List Byte) (coding : Bool) : Option Fld :=
  if coding then some (rxFcsErr p)
  else if data.length < 64 then some (rxRunt p)
  else if s.maxFrame p < data.length then some (rxOversize p)
  else if ¬ fcsGood data then some (rxFcsErr p)
  else none

/-- A field frame has crossed: it is stored and goes through the stages (R466). -/
def State.fieldArrive (s : State) (fr : RxFrame) : State :=
  match s.storeChain ⟨8 + fr.port, none, false, none⟩ fr.data with
  | (s1, none) => (s1.inc (rxNocell fr.port)).badRx fr false
  | (s1, some c) => s1.goodRx { fr with chain := some c }

/-- The end of a received frame with its bytes, FCS included: R461's checks in order. A port that is not up receives nothing
(R459). A field frame that passes waits to cross (R466). -/
def State.rxEnd (s : State) (p : Nat) (pre : Bool) (data : List Byte) (coding ovf : Bool) (ago : Nat) : State :=
  let kept := data.take (s.maxFrame p + 1)
  let fr := { (s.rxOf (rxSlot p pre)).getD (s.newRx p pre [] ago) with data := kept }
  let s0 := s.setRx (rxSlot p pre) none
  if ¬ s.rxLink p then s
  else if 2 ≤ p then match s.rxCheck p data coding with
    | some f => s0.fdCount f
    | none =>
      let s1 := s0.countRx p data.length
      { s1 with fd := { s1.fd with cross := s1.fd.cross ++ [fr] } }
  else if ovf then ((s0.inc (F.BP_RX_OVF p)).raise Src.BB_RX_OVF p none 0).badRx fr false
  else match s0.storeChain ⟨8 + p, none, false, none⟩ kept with
    | (s1, none) => (s1.inc (rxNocell p)).badRx fr false
    | (s1, some c) => match s.rxCheck p data coding with
      | some f => (s1.inc f).badRx { fr with chain := some c } true
      | none => (s1.countRx p data.length).goodRx { fr with chain := some c }

/-- The end of a received frame: its bytes with FCS, whether it held a coding error, whether the port's receive buffer was full,
and the age of its start-of-frame delimiter when it was not looked up before (R461). -/
def execRxFrameEnd (p : Fin 10) (data : List Byte) (coding ovf : Bool) (ago : Nat) (s : State) : Out :=
  .next (s.looped p.val (fun w => match w with | .frame _ d _ => d == data | _ => false)
    (fun s => s.rxEnd p.val false data coding ovf ago))

/-! Fragments (R120). -/

/-- A frame under reassembly is discarded. -/
def State.asmErr (s : State) (p : Nat) : State :=
  let s1 := ((s.inc (F.LN_Pn_RX_ASM_ERR p)).raise Src.LN_RX_ASM p none 0).setLnPort p { s.lnPort p with asm := none }
  match s1.rxOf (rxSlot p true) with
  | some fr => (s1.setRx (rxSlot p true) none).badRx fr false
  | none => s1

/-- The mCRC of a fragment: the CRC of the frame so far with its lower half inverted. -/
def mcrc (l : List Byte) : List Byte := leBytes 4 (leNat (fcs l) ^^^ 0x0000FFFF)

/-- Fragment of a frame with the bytes before it: the last one ends the frame, another one is checked and kept. -/
def State.asmTake (s : State) (p : Nat) (sofar : List Byte) (count : Nat) (final : Bool) (data : List Byte) (ago : Nat) : State :=
  if final then (s.setLnPort p { s.lnPort p with asm := none }).rxEnd p true (sofar ++ data) false false ago
  else
    let body := sofar ++ data.take (data.length - 4)
    if data.length < 64 ∨ data.drop (data.length - 4) ≠ mcrc body then s.asmErr p
    else s.setLnPort p { s.lnPort p with asm := some (body, count) }

/-- Is a received mPacket one that the port has sent in loopback (R459)? -/
def fragIs (k : Frag) (final : Bool) (data : List Byte) : WireOut → Bool
  | .frame _ d _ => k == .start && final && d == data
  | .fragment _ first last d => (k == .start) == first && k != .unknown && final == last && d == (if final then data else data.take (data.length - 4))
  | _ => false

/-- An mPacket of a pre-emptable frame: its bytes with mCRC or FCS, and whether it is the last of its frame (R120). -/
def State.fragRx (s : State) (p : Nat) (k : Frag) (final : Bool) (data : List Byte) (ago : Nat) : State :=
  if ¬ s.linkUp p then s
  else match k with
  | .unknown => s.inc (F.LN_Pn_RX_SMD_ERR p)
  | .start =>
    let s1 := if (s.lnPort p).asm.isSome then s.asmErr p else s
    if final then s1.rxEnd p true data false false ago else (s1.inc (F.LN_Pn_RX_FRAG p)).asmTake p [] 0 false data ago
  | .cont n =>
    let s1 := s.inc (F.LN_Pn_RX_FRAG p)
    match (s.lnPort p).asm with
    | none => s1.asmErr p
    | some (sofar, next) => if n = next then s1.asmTake p sofar ((next + 1) % 4) final data ago else s1.asmErr p

/-- An mPacket of a pre-emptable frame is received. -/
def execFragmentReceived (p : Fin 10) (k : Frag) (final : Bool) (data : List Byte) (ago : Nat) (s : State) : Out :=
  .next (s.looped p.val (fragIs k final data) (fun s => s.fragRx p.val k final data ago))

end Sys2Proof.Machine
end

