-- ==== Sys2Proof/Machine/Ports.lean ====
section
/-!
DEFINITION. The backbone ports: bring-up, departure from UP, auto-negotiation, MDIO, error rates (R457 to R465, R477, R478).
Where the manual leaves a point open, the choices are log entries 51 (DEDUCED); 78 (DESIGN CHOICE).
-/

namespace Sys2Proof.Machine

/-- Port states of R459. -/
def portDisabled : Nat := 0
def portAcquire : Nat := 1
def portNegotiate : Nat := 2
def portHold : Nat := 3
def portUp : Nat := 4

/-- The record of a backbone port. -/
def State.bpPort (s : State) (p : Nat) : BpPort := Sparse.get BpPort.empty s.bp.ports p
def State.setBp (s : State) (p : Nat) (r : BpPort) : State := { s with bp := { s.bp with ports := Sparse.put BpPort.empty s.bp.ports p r } }

/-- The frame on a port's wire ends with an inverted FCS where it stands (R460): its bytes so far, and its job ends with
`status`, keeping its stamp. -/
def State.cutDown (s : State) (p status : Nat) : State :=
  match (s.lnPort p).wire with
  | none => s
  | some w =>
    let s1 := s.wireFree p (s.now10 / 10 * 10)
    match w.item with
    | none => s1
    | some i => match s.item i with
      | none => s1
      | some it =>
        let sent := slice it.out it.sent (min (s.sentBytes p w) (it.out.length - it.sent))
        let bad := it.out.take it.sent ++ sent
        let tail := (fcs bad).map (fun b => ~~~b)
        let s2 := (s1.emitFrags p it.out 0 it.frags).emit (if it.cutOnce then .fragment p false true (sent ++ tail) else .frame p (sent ++ tail) true)
        (((s2.inc (F.LN_Pn_STOMP p)).inc (F.LN_Pn_ABORT p)).setItem i (some { it with lso := none })).endItem i status 0

/-- A frame in reception is discarded and counted once (R460); `part` says that one has begun whose head has not been looked
up. -/
def State.rxCut (s : State) (p : Nat) (part : Bool) : State :=
  let cut (s : State) (k : Nat) (begun : Bool) : State := match s.rxOf k with
    | some fr => ((s.setRx k none).portCount p (rxFcsErr p)).badRx fr true
    | none => if begun then s.portCount p (rxFcsErr p) else s
  let s1 := s.setLnPort p { s.lnPort p with asm := none }
  cut (cut s1 (rxSlot p false) (part && (s.lnPort p).asm.isNone)) (rxSlot p true) (s.lnPort p).asm.isSome

/-- What a departure from UP does to the port's traffic (R460): the frame on the wire, the frame in reception, verification. -/
def State.linkLost (s : State) (p : Nat) (part : Bool) : State := ((s.cutDown p stLinkDown).rxCut p part).mmUpdate p

/-- A backbone port departs from UP (R460); `raise` is false when EN is written 0 (R478). -/
def State.bpDepart (s : State) (p : Nat) (part raise : Bool) : State :=
  let s0 := { s with bp := { s.bp with loop := s.bp.loop.filter (fun w => w.mac != some p) } }
  let s1 := (s0.wr (F.BP_STATUS_LINK p) 0).inc (F.BP_LINK_DOWN_CNT p)
  (if raise then s1.onset Src.BB_LINK_DOWN p 0 else s1).linkLost p part

/-- Nothing is locked. -/
def State.bpUnlock (s : State) (p st : Nat) : State :=
  (((s.wr (F.BP_STATUS_STATE p) st).wr (F.BP_STATUS_PCS_LOCK p) 0).wr (F.BP_STATUS_AN_DONE p) 0).wr (F.BP_STATUS_SPEED_ERR p) 0

/-- Enter ACQUIRE: nothing is locked yet, and the port sends remote fault, in modes 2 and 3 its equivalent (R459). -/
def State.bpAcquire (s : State) (p : Nat) : State :=
  let s1 := s.bpUnlock p portAcquire
  if s.rd (F.BP_CTRL_MODE p) = 1 then s1 else s1.emit (.remoteFault p true)

/-- Does the port negotiate (R457)? -/
def State.negotiates (s : State) (p : Nat) : Bool := decide (2 ≤ s.rd (F.BP_CTRL_MODE p)) && s.on (F.BP_CTRL_AN_EN p)

/-- Enter NEGOTIATE; in 1000BASE-X the port advertises full duplex only, and BP_AN_ADV's two bits, in the places of IEEE 802.3
clause 37 (R458). -/
def State.bpNegotiate (s : State) (p : Nat) : State :=
  let adv := s.rd (F.BP_AN_ADV p)
  let s1 := s.wr (F.BP_STATUS_STATE p) portNegotiate
  if s.rd (F.BP_CTRL_MODE p) = 2 then s1.emit (.anPage p (0x20 + bits adv 1 1 * 2 ^ 7 + bits adv 0 1 * 2 ^ 8)) else s1

/-- Enter HOLD now. -/
def State.bpHold (s : State) (p : Nat) : State :=
  (s.wr (F.BP_STATUS_STATE p) portHold).setBp p { s.bpPort p with holdAt := s.tb.mono }

/-- EN of a backbone port becomes 1 (R459): the receiver has no CDR lock yet (R478). Ports stay down in HOLD (R408). -/
def State.bpEnable (s : State) (p : Nat) : State :=
  if s.rd (F.BP_STATUS_STATE p) ≠ portDisabled then s
  else
    let s1 := (s.bpAcquire p).wr (F.BP_STATUS_CDR_LOCK p) 0
    let s2 := s1.setBp p { s1.bpPort p with checkAt := s1.tb.mono }
    s2.onset Src.BB_CDR_LOSS p 0

/-- EN of a backbone port becomes 0 (R459, R478). -/
def State.bpDisable (s : State) (p : Nat) : State :=
  let s1 := if s.rd (F.BP_STATUS_STATE p) = portUp then s.bpDepart p false false else s
  let s2 := [F.BP_STATUS_LINK p, F.BP_STATUS_CDR_LOCK p, F.BP_STATUS_HI_BER p, F.BP_STATUS_LF p, F.BP_STATUS_RF p].foldl
    (fun s f => s.wr f 0) (s1.bpUnlock p portDisabled)
  (s2.condEnd Src.BB_LINK_DOWN p).condEnd Src.BB_CDR_LOSS p

/-- A write of BP_CTRL.EN. -/
def State.bpEnWrite (s : State) (p : Nat) (en : Bool) : State :=
  let s1 := s.wr (F.BP_CTRL_EN p) en.toNat
  if en then s1.bpEnable p else s1.bpDisable p

/-- Lock is found: ACQUIRE goes on; in HOLD the port counts its clean time anew when a fault has ended (R459). -/
def State.bpLocked (s : State) (p : Nat) : State :=
  let clean (s : State) : State := ((s.wr (F.BP_STATUS_HI_BER p) 0).wr (F.BP_STATUS_LF p) 0).wr (F.BP_STATUS_RF p) 0
  let st := s.rd (F.BP_STATUS_STATE p)
  if st = portAcquire then
    let s1 := clean (((s.wr (F.BP_STATUS_CDR_LOCK p) 1).wr (F.BP_STATUS_PCS_LOCK p) 1).condEnd Src.BB_CDR_LOSS p)
    if s1.negotiates p then s1.bpNegotiate p else s1.bpHold p
  else if st = portHold ∧ (s.on (F.BP_STATUS_LF p) ∨ s.on (F.BP_STATUS_RF p) ∨ s.on (F.BP_STATUS_HI_BER p)) then (clean s).bpHold p
  else s

/-- Is what the partner sends acceptable (R458)? Mode 2 asks for full duplex, mode 3 for 1000 Mb/s full duplex; the places of the
bits are those of IEEE 802.3 clause 37 and of SGMII's in-band status. -/
def State.anAccepts (s : State) (p page : Nat) : Bool :=
  if s.rd (F.BP_CTRL_MODE p) = 3 then bits page 10 2 == 2 && bits page 12 1 == 1 else bits page 5 1 == 1

/-- The exchange is complete (R458, R459). -/
def State.anComplete (s : State) (p page : Nat) : State :=
  if s.rd (F.BP_STATUS_STATE p) ≠ portNegotiate then s
  else
    let s1 := (s.wr (F.BP_AN_LP p) page).wr (F.BP_STATUS_AN_DONE p) 1
    if s.anAccepts p page then (s1.wr (F.BP_STATUS_SPEED_ERR p) 0).bpHold p else s1.wr (F.BP_STATUS_SPEED_ERR p) 1

/-- Clean lock for BP_LINK_HOLD ms: UP (R459, R460). In power state HOLD ports are down (R408). -/
def State.bpHoldDone (s : State) (p : Nat) : State :=
  if s.rd (F.BP_STATUS_STATE p) = portHold ∧ (s.bpPort p).holdAt + s.rd (F.BP_LINK_HOLD p) * 1000000 ≤ s.tb.mono
      ∧ ¬ s.on (F.BP_STATUS_LF p) ∧ ¬ s.on (F.BP_STATUS_RF p) ∧ ¬ s.on (F.BP_STATUS_HI_BER p) ∧ s.power ≤ pwTrim then
    let s1 := (((s.wr (F.BP_STATUS_STATE p) portUp).wr (F.BP_STATUS_LINK p) 1).condEnd Src.BB_LINK_DOWN p).mmUpdate p
    if s.rd (F.BP_CTRL_MODE p) = 1 then s1 else s1.emit (.remoteFault p false)
  else s

/-- A loss at the receive pads: of CDR lock, of block lock or sync, hi_ber, a local or a remote fault; in loopback the pads are
ignored (R459). -/
def State.bpLoss (s : State) (p : Nat) (c : LinkLoss) (part : Bool) : State :=
  let st := s.rd (F.BP_STATUS_STATE p)
  if st = portDisabled ∨ s.on (F.BP_CTRL_LOOP p) then s
  else
    let s1 := match c with
      | .cdr => ((s.wr (F.BP_STATUS_CDR_LOCK p) 0).wr (F.BP_STATUS_PCS_LOCK p) 0).onset Src.BB_CDR_LOSS p 0
      | .lock => s.wr (F.BP_STATUS_PCS_LOCK p) 0
      | .hiBer => s.wr (F.BP_STATUS_HI_BER p) 1
      | .localFault => s.wr (F.BP_STATUS_LF p) 1
      | .remoteFault => s.wr (F.BP_STATUS_RF p) 1
    if st = portUp then (s1.bpDepart p part true).bpAcquire p
    else if c = .cdr ∨ c = .lock then s1.bpAcquire p
    else s1

/-- RESTART_AN: UP goes back to ACQUIRE; a negotiation starts anew (R459). -/
def State.bpRestart (s : State) (p : Nat) : State :=
  let st := s.rd (F.BP_STATUS_STATE p)
  if st = portUp then (s.bpDepart p false true).bpAcquire p
  else if 2 ≤ st ∧ s.negotiates p then
    ((s.wr (F.BP_STATUS_AN_DONE p) 0).wr (F.BP_STATUS_SPEED_ERR p) 0).bpNegotiate p
  else s

/-- BP_CTRL.EN = 1. -/
def execPortEnable (m : Nat) (p : Fin 2) (s : State) : Out := .next (s.busW m (0x30000 + 0x10000 * p.val) (fun s => s.bpEnWrite p.val true))

/-- BP_CTRL.EN = 0. -/
def execPortDisable (m : Nat) (p : Fin 2) (s : State) : Out := .next (s.busW m (0x30000 + 0x10000 * p.val) (fun s => s.bpEnWrite p.val false))

/-- BP_CTRL.RESTART_AN. -/
def execRestartAn (m : Nat) (p : Fin 2) (s : State) : Out := .next (s.busW m (0x30000 + 0x10000 * p.val) (fun s => s.bpRestart p.val))

/-- CDR lock and then block lock or code-group sync is found; in HOLD, a fault has ended (R459). -/
def execPcsLock (p : Fin 2) (s : State) : Out := .next (s.bpLocked p.val)

/-- The exchange ends with the partner's page (R458). -/
def execAnComplete (p : Fin 2) (page : BitVec 16) (s : State) : Out := .next (s.anComplete p.val page.toNat)

/-- BP_LINK_HOLD ms have passed in HOLD. -/
def execLinkHoldExpiry (p : Fin 2) (s : State) : Out := .next (s.bpHoldDone p.val)

/-- The receive side loses its lock or reports a fault; `receiving` says that a frame has begun to arrive (R459, R460). -/
def execLinkDown (p : Fin 2) (c : LinkLoss) (receiving : Bool) (s : State) : Out := .next (s.bpLoss p.val c receiving)

/-! MDIO (R465). -/

/-- ST of BP_MDIO_CMD (R479). -/
def mdioC22 : Nat := 0
def mdioC45 : Nat := 1

/-- A write of BP_MDIO_CMD with GO: a command while one runs is ignored with ERR = 1; in PORTB's block there is no controller. -/
def State.mdioGo (s : State) (st op phy reg data : Nat) : State :=
  if s.on F.BP_MDIO_STAT_BUSY then (s.wr F.BP_MDIO_STAT_ERR 1).wr F.BP_MDIO_STAT_ERR_SEEN 1
  else
    let s1 := ((s.wr F.BP_MDIO_STAT_BUSY 1).wr F.BP_MDIO_STAT_ERR 0).emit (.mdio st op phy reg data)
    { s1 with bp := { s1.bp with mdio := some (st, op) } }

/-- Does the command read: clause 22 operation 2, clause 45 operations 2 and 3 (R479)? -/
def mdioReads (st op : Nat) : Bool := decide (op = 2) || (decide (st = mdioC45) && decide (op = 3))

/-- The command ends; `answered` says that the PHY drove the turnaround of a read (R465). -/
def State.mdioDone (s : State) (rdata : Nat) (answered : Bool) : State :=
  match s.bp.mdio with
  | none => s
  | some (st, op) =>
    let s1 := { (s.wr F.BP_MDIO_STAT_BUSY 0) with bp := { s.bp with mdio := none } }
    if ¬ mdioReads st op then s1
    else if answered then s1.wr F.BP_MDIO_STAT_RDATA rdata
    else (((s1.wr F.BP_MDIO_STAT_RDATA 0xFFFF).wr F.BP_MDIO_STAT_ERR 2).wr F.BP_MDIO_STAT_ERR_SEEN 1).raise Src.BB_MDIO_ERR 0 none 0

def execMdioC22Write (m : Nat) (phy reg : Fin 32) (data : BitVec 16) (s : State) : Out :=
  .next (s.busW m 0x30044 (fun s => s.mdioGo mdioC22 1 phy.val reg.val data.toNat))
def execMdioC22Read (m : Nat) (phy reg : Fin 32) (s : State) : Out :=
  .next (s.busW m 0x30044 (fun s => s.mdioGo mdioC22 2 phy.val reg.val 0))
def execMdioC45Address (m : Nat) (phy dev : Fin 32) (addr : BitVec 16) (s : State) : Out :=
  .next (s.busW m 0x30044 (fun s => s.mdioGo mdioC45 0 phy.val dev.val addr.toNat))
def execMdioC45Write (m : Nat) (phy dev : Fin 32) (data : BitVec 16) (s : State) : Out :=
  .next (s.busW m 0x30044 (fun s => s.mdioGo mdioC45 1 phy.val dev.val data.toNat))
def execMdioC45Read (m : Nat) (phy dev : Fin 32) (s : State) : Out :=
  .next (s.busW m 0x30044 (fun s => s.mdioGo mdioC45 3 phy.val dev.val 0))
def execMdioC45ReadInc (m : Nat) (phy dev : Fin 32) (s : State) : Out :=
  .next (s.busW m 0x30044 (fun s => s.mdioGo mdioC45 2 phy.val dev.val 0))

/-- The MDIO frame has ended. -/
def execMdioDone (rdata : BitVec 16) (answered : Bool) (s : State) : Out := .next (s.mdioDone rdata.toNat answered)

/-- A falling edge of PHYINT_A or PHYINT_B (R465). -/
def execPhyInterrupt (p : Fin 2) (s : State) : Out :=
  .next (if s.on (F.BP_PHYINT p.val) then s.raise Src.BB_PHY_INT p.val none 0 else s)

/-! Error rates (R478). -/

/-- A read or CNT_CLEAR is about to clear a port's counters: what they have grown by stays in the comparison (R478). -/
def State.bpCleared (s : State) (p : Nat) (pcs fcs : Bool) : State :=
  let r := s.bpPort p
  s.setBp p { r with
    pcsBase := if pcs then r.pcsBase - s.rd (F.BP_PCS_ERR p) else r.pcsBase,
    fcsBase := if fcs then r.fcsBase - s.rd (F.BP_RX_FCS_ERR p) else r.fcsBase }

/-- A second has passed: growth of BP_PCS_ERR raises, growth of BP_RX_FCS_ERR beyond the threshold holds the condition; a
threshold of 0 disables it (R478, R479). `pcs` is the number of PCS errors of that second. -/
def State.bpRates (s : State) (p pcs : Nat) : State :=
  let r := s.bpPort p
  if s.tb.mono < r.checkAt + 1000000000 then s
  else
    let s1 := s.add (F.BP_PCS_ERR p) (if s.loops p then 0 else pcs)
    let dp : Int := (s1.rd (F.BP_PCS_ERR p) : Int) - r.pcsBase
    let df : Int := (s1.rd (F.BP_RX_FCS_ERR p) : Int) - r.fcsBase
    let s2 := s1.setBp p { r with pcsBase := s1.rd (F.BP_PCS_ERR p), fcsBase := s1.rd (F.BP_RX_FCS_ERR p), checkAt := s1.tb.mono }
    let s3 := if 0 < dp then s2.raise Src.BB_PCS_ERR p none 0 else s2
    if s.rd (F.BP_FCS_THR p) ≠ 0 ∧ (s.rd (F.BP_FCS_THR p) : Int) < df then s3.onset Src.BB_FCS_RATE p 0 else s3.condEnd Src.BB_FCS_RATE p

/-- The check of each second. -/
def execPortErrorRateCheck (p : Fin 2) (pcs : Nat) (s : State) : Out := .next (s.bpRates p.val pcs)

end Sys2Proof.Machine
end

