-- ==== Sys2Proof/Machine/Field.lean ====
section
/-!
DEFINITION. The field side: the isolation channel, the field die's resets, field links and the power coupling (R466 to R478,
R528, R529). FIELDn is port n + 2.
Where the manual leaves a point open, the choices are log entries 52, 53 (DEDUCED); 74, 78 (DESIGN CHOICE).
-/

namespace Sys2Proof.Machine

/-- Power states of a field port (R472). -/
def pdOff : Nat := 0
def pdDetect : Nat := 1
def pdClassify : Nat := 2
def pdPowerUp : Nat := 3
def pdOn : Nat := 4
def pdFault : Nat := 5
def pdShed : Nat := 6

def State.fdPort (s : State) (n : Nat) : FdPort := Sparse.get FdPort.empty s.fd.ports n
def State.setFd (s : State) (n : Nat) (r : FdPort) : State := { s with fd := { s.fd with ports := Sparse.put FdPort.empty s.fd.ports n r } }

/-- Does the channel carry messages? -/
def State.isoUp (s : State) : Bool := s.on F.FD_STATUS_ISO_UP

/-- A register as the field die has it: while the channel is down and until the reload, as it stood before (R470). -/
def State.dieRd (s : State) (f : Fld) : Nat := match s.fd.die with
  | some r => ({ s with regs := r }).rd f
  | none => s.rd f

/-- A condition of a field port holds, or not. -/
def State.fdCond (s : State) (src n : Nat) (b : Bool) : State := if b then s.onset src (n + 2) 0 else s.condEnd src (n + 2)

/-- The proxy's copy of a port's power state with its conditions; a change crosses at once while the channel is up (R470, R472, R475). -/
def State.fdShow (s : State) (n : Nat) : State :=
  if s.isoUp then
    let r := s.fdPort n
    let s1 := ((((s.wr (F.FP_STATUS_PWR_STATE n) r.pst).wrBit F.FD_STATUS_SHED n (r.pst == pdShed)).wr (F.FP_STATUS_MISWIRE n) r.mis.toNat).wr
      (F.FP_STATUS_REVERSED n) r.rev.toNat).wr (F.FP_STATUS_CLASS_RD n) r.clsRd
    ((s1.fdCond Src.FD_OVERCURRENT n (r.pst == pdFault)).fdCond Src.FD_AGG_LIMIT n (r.pst == pdShed)).fdCond Src.FD_MISWIRE n r.mis
  else s

/-- The proxy's copy of FVIN's supervision, with its conditions (R476). -/
def State.fvinShow (s : State) : State :=
  if s.isoUp then
    let s1 := ((s.wr F.FD_STATUS_FVIN_UV s.fd.uv.toNat).wr F.FD_STATUS_FVIN_OV s.fd.ov.toNat).wr F.FD_STATUS_FVIN_OK
      (!s.fd.uv && !s.fd.ov).toNat
    let s2 := if s.fd.uv then s1.onset Src.FD_FVIN_UV 0xFF 0 else s1.condEnd Src.FD_FVIN_UV 0xFF
    if s.fd.ov then s2.onset Src.FD_FVIN_OV 0xFF 0 else s2.condEnd Src.FD_FVIN_OV 0xFF
  else s

/-- A port enters a power state, and a DETECT takes SCCP and CLASS (R472, R474, R475, R480). -/
def State.fdGo (s : State) (n st : Nat) : State :=
  let r := s.fdPort n
  let c := s.dieRd (F.FP_CTRL_CLASS n)
  let r1 := { r with
    pst := st, since := s.tb.mono, failed := none, lowAt := none, off := false, used := if st = pdOff then 0 else r.used,
    sccp := if st = pdDetect then s.dieRd (F.FP_CTRL_SCCP n) == 1 else r.sccp,
    cls := if st = pdDetect then (if 10 ≤ c ∧ c ≤ 12 then c else 10) else r.cls,
    mis := r.mis && decide (st ≠ pdOff),
    rev := r.rev && decide (st ≠ pdOff) }
  (s.setFd n r1).fdShow n

/-- Every port's power goes off; a port whose retries are spent stays in FAULT (R468, R472, R476). -/
def State.retriesLeft (s : State) (n : Nat) : Bool :=
  s.dieRd (F.FP_OC_RETRY_N n) == 15 || decide ((s.fdPort n).used < s.dieRd (F.FP_OC_RETRY_N n))
def State.spent (s : State) (n : Nat) : Bool := (s.fdPort n).pst == pdFault && !s.retriesLeft n
def State.fdPowerOff (s : State) : State :=
  (List.range 8).foldl (fun s n => if (s.fdPort n).pst = pdOff ∨ s.spent n then s else s.fdGo n pdOff) s

/-! Links (R469, R471). -/

/-- A field link is lost (R471): LINK clears, the loss is counted by the proxy and raised, R460 applies to the traffic. -/
def State.fieldLost (s : State) (n : Nat) (raise : Bool) : State :=
  let s1 := (s.wr (F.FP_STATUS_LINK n) 0).inc (F.FP_LINK_DOWN_CNT n)
  (if raise then s1.onset Src.FD_LINK_DOWN (n + 2) 0 else s1).linkLost (n + 2) false

/-- Negotiation and training begin (R471). -/
def State.fieldTrain (s : State) (n : Nat) : State :=
  if s.on (F.FP_CTRL_EN n) then
    (s.wr (F.FP_STATUS_LINK_STATE n) (if s.on (F.FP_CTRL_AN_EN n) then 1 else 2)).setFd n { s.fdPort n with trainAt := s.tb.mono }
  else (s.wr (F.FP_STATUS_LINK_STATE n) 0).condEnd Src.FD_LINK_DOWN (n + 2)

/-- A write of FP_CTRL.EN that reaches the die (R470). -/
def State.fpEnWrite (s : State) (n : Nat) (en : Bool) : State :=
  let was := s.on (F.FP_CTRL_EN n)
  let s1 := s.wr (F.FP_CTRL_EN n) en.toNat
  if was = en ∨ ¬ s.on F.FD_STATUS_READY ∨ ¬ s.isoUp then s1
  else
    let s2 := if ¬ en ∧ s.on (F.FP_STATUS_LINK n) then s1.fieldLost n false else s1
    s2.fieldTrain n

/-- FP_CTRL.RESTART. -/
def State.fieldRestart (s : State) (n : Nat) : State :=
  if s.isoUp ∧ s.on (F.FP_CTRL_EN n) ∧ s.on F.FD_STATUS_READY then
    (if s.on (F.FP_STATUS_LINK n) then s.fieldLost n true else s).fieldTrain n
  else s

/-- A write of FP_CTRL.PWR_EN: a 0 is remembered until the next power evaluation (R470, R472). -/
def State.fpPwrWrite (s : State) (n : Nat) (en : Bool) : State :=
  let s1 := s.wr (F.FP_CTRL_PWR_EN n) en.toNat
  if en then s1 else s1.setFd n { s1.fdPort n with off := true }

/-! Resets of the field die (R469, R529, R534). -/

/-- A field-side reset begins: links go down; ports that are ON keep their power and one whose retries are spent its FAULT, unless the
supply fell or `all` says that every port's power goes off (R469, R472, R477). -/
def State.fieldReset (s : State) (all : Bool) : State :=
  let s1 := (List.range 8).foldl (fun s n =>
    let a := if s.on (F.FP_STATUS_LINK n) then s.fieldLost n true else s
    let b := a.wr (F.FP_STATUS_LINK_STATE n) 0
    if all ∨ s.fd.dead ∨ ((s.fdPort n).pst ≠ pdOn ∧ ¬ s.spent n) then (if (s.fdPort n).pst = pdOff then b else b.fdGo n pdOff) else b)
    (s.wr F.FD_STATUS_READY 0)
  ({ s1 with fd := { s1.fd with inReset := true, safe := false, dead := false, cnt := [], cross := [] } }).flwUnlock

/-- A cause of a field-side reset reaches the die, once it has been released (R469, R529). -/
def State.fieldResetIf (s : State) : State := if s.fd.released ∧ ¬ s.fd.dead then s.fieldReset false else s

/-- The die has restarted and the proxy has sent the configuration (R469). -/
def State.fieldReady (s : State) : State :=
  if s.fd.inReset ∧ s.isoUp then
    let s1 := ((s.raise0 Src.FD_RESET 0).inc F.FD_RESET_CNT).wr F.FD_STATUS_READY 1
    let s2 := { s1 with fd := { s1.fd with inReset := false, die := none } }
    ((List.range 8).foldl (fun s n => (s.fieldTrain n).fdShow n) s2).fvinShow
  else s

/-- FVIN is now `mv` mV: the two supervisions with their hysteresis (R476). -/
def State.fvinSet (s : State) (mv : Nat) : State :=
  { s with fd := { s.fd with
      fvin := mv,
      uv := if mv < 19000 then true else if 19500 < mv then false else s.fd.uv,
      ov := if 31000 < mv then true else if mv < 30500 then false else s.fd.ov,
      dead := s.fd.dead || decide (mv < 16000) } }

/-- The die's first release (R529). It is no field-side reset. -/
def State.fieldRelease (s : State) (mv : Nat) : State :=
  if ¬ s.fd.released ∧ 3 ≤ s.rd F.CRP_BOOT_PHASE ∧ 16000 ≤ mv then
    let s1 := s.fvinSet mv
    let s2 := ({ s1 with fd := { s1.fd with released := true, dead := false } }).wr F.FD_STATUS_ISO_UP 1
    ((List.range 8).foldl (fun s n => s.fieldTrain n) ((s2.wr F.FD_STATUS_READY 1).condEnd Src.FD_ISO_LOSS 0xFF)).fvinShow
  else s

/-! The channel (R466 to R468). -/

/-- The channel is down (R468); the die runs on by the registers it has (R470). -/
def State.isoLoss (s : State) : State :=
  if s.isoUp then
    let s1 := (((s.wr F.FD_STATUS_ISO_UP 0).onset Src.FD_ISO_LOSS 0xFF 0).inc F.FD_ISO_LOSS_CNT).flwUnlock
    { s1 with fd := { s1.fd with lostAt := s1.tb.mono, safe := false,
                                 die := s1.fd.die.orElse (fun _ => some (s1.regs.filter (fun x => x.1 / 2 ^ 21 == 5))) } }
  else s

/-- After 1 ms of loss the die sends idle, and with SAFE_PWR switches port power off (R468). -/
def State.isoSafe (s : State) : State :=
  if s.isoUp ∨ ¬ s.fd.released ∨ s.fd.safe ∨ s.tb.mono < s.fd.lostAt + 1000000 then s
  else
    let s1 := (List.range 8).foldl (fun s n => s.cutDown (n + 2) stLinkDown) s
    let s2 := if s.dieRd F.FD_CTRL_SAFE_PWR = 1 then s1.fdPowerOff else s1
    { s2 with fd := { s2.fd with safe := true } }

/-- The channel returns: a field-side reset (R468). -/
def State.isoReturn (s : State) : State :=
  if s.fd.released ∧ ¬ s.isoUp ∧ ¬ s.fd.dead then
    ((s.wr F.FD_STATUS_ISO_UP 1).condEnd Src.FD_ISO_LOSS 0xFF).fieldReset false
  else s

/-- A message fails its check and is sent again (R467). -/
def State.isoCrc (s : State) : State := (s.raise0 Src.FD_ISO_CRC 0).inc F.FD_ISO_CRC_CNT

/-- A message has crossed, or has failed its check (R466, R467). The completion of a lost transmit frame has a free status. -/
def State.isoMessage (s : State) (k : IsoMsg) (ok : Bool) : State :=
  if ¬ s.isoUp then s
  else match k with
  | .rxFrame => match s.fd.cross with
    | [] => s
    | fr :: rest =>
      let s1 := { s with fd := { s.fd with cross := rest } }
      if ok then s1.fieldArrive fr else s1.inc F.FD_ISO_DROP
  | .txFrame i => match s.item i with
    | none => s
    | some it =>
      if it.port < 2 ∨ it.st ≠ .fetch ∨ ¬ s.chainWhole it then s
      else if ok then s.makeReady i it
      else ({ (s.inc F.FD_ISO_DROP) with freeIdx := s.freeIdx + 1 }).endItem i (Config.freeByte s.freeIdx).toNat 0
  | .marker => s
  | .register => if ok then s else s.isoCrc
  | .gate n => if ¬ ok then s.isoCrc else if s.on F.TB_FLW_STAT_LOCK then s.gatesNow (n.val + 2) else s
  | .power => if ok then s else s.isoCrc

/-- The counters of the die reach the proxy, and its status copies are refreshed; `snr` gives each port's ratio (R470, R471). -/
def State.fdRefresh (s : State) (snr : List Nat) : State :=
  if ¬ s.isoUp then s
  else
    let s1 := s.fd.cnt.foldl (fun s x => s.add ⟨x.1 / 32, x.1 % 32, 32, .rc, .hard, 0⟩ x.2) s
    let s2 := { s1 with fd := { s1.fd with cnt := [] } }
    let s3 := (List.range 8).foldl (fun s n =>
      let v := snr.getD n (s.rd (F.FP_SNR_SNR n)) % 65536
      let a := (s.wr (F.FP_SNR_SNR n) v).fdShow n
      if s.on (F.FP_STATUS_LINK n) ∧ v < s.rd (F.FP_SNR_SNR_MIN n) then a.onset Src.FD_SNR_LOW (n + 2) v
      else a.condEnd Src.FD_SNR_LOW (n + 2)) s2
    s3.fvinShow

/-- A field frame or another message crosses the channel (R466, R467). -/
def execIsoFrameArrive (k : IsoMsg) (ok : Bool) (s : State) : Out := .next (s.isoMessage k ok)

/-- No valid message for 10 µs. -/
def execIsoChannelLoss (s : State) : Out := .next s.isoLoss

/-- The loss has lasted 1 ms. -/
def execIsoLossSafe (s : State) : Out := .next s.isoSafe

/-- Valid messages arrive again. -/
def execIsoChannelReturn (s : State) : Out := .next s.isoReturn

/-- FD_CTRL.FRESET; while the channel is down it reaches no die. -/
def execFreset (m : Nat) (s : State) : Out := .next (s.busW m 0x50000 (fun s => if s.isoUp then s.fieldResetIf else s))

/-- The die runs again and has its configuration. -/
def execFieldResetDone (s : State) : Out := .next s.fieldReady

/-- The field die's own watchdog (R469). -/
def execFieldDieWatchdog (s : State) : Out := .next s.fieldResetIf

/-- FVIN is at or above 16 V and firmware runs (R529). -/
def execFieldDieRelease (mv : Nat) (s : State) : Out := .next (s.fieldRelease mv)

/-- The refresh of every 100 µs. -/
def execFieldStatusRefresh (snr : List Nat) (s : State) : Out := .next (s.fdRefresh snr)

/-- A field link is up, with the amplitude and role that negotiation has found and the polarity (R471). -/
def execFieldLinkUp (n : Fin 8) (low slave reversed : Bool) (s : State) : Out :=
  let n := n.val
  .next (if s.on (F.FP_CTRL_EN n) ∧ ¬ s.on (F.FP_STATUS_LINK n) ∧ s.on F.FD_STATUS_READY ∧ s.isoUp ∧ s.power ≤ pwTrim then
    let an := s.on (F.FP_CTRL_AN_EN n)
    let s1 := (s.wr (F.FP_STATUS_AMP_ACT n) (s.on (F.FP_CTRL_AMP n) || (an && low)).toNat).wr (F.FP_STATUS_ROLE_ACT n)
      (if an then slave else s.on (F.FP_CTRL_ROLE n)).toNat
    let s2 := ((s1.wr (F.FP_STATUS_POL_REV n) reversed.toNat).wr (F.FP_STATUS_LINK n) 1).wr (F.FP_STATUS_LINK_STATE n) 3
    (s2.condEnd Src.FD_LINK_DOWN (n + 2)).mmUpdate (n + 2)
  else s)

/-- 5 s of training without a link (R471); a loss of the channel hides it. -/
def execFieldTrainTimeout (n : Fin 8) (s : State) : Out :=
  let n := n.val
  .next (if s.isoUp ∧ s.on (F.FP_CTRL_EN n) ∧ ¬ s.on (F.FP_STATUS_LINK n) ∧ s.rd (F.FP_STATUS_LINK_STATE n) ≠ 0
      ∧ (s.fdPort n).trainAt + 5000000000 ≤ s.tb.mono then
    (s.raise Src.FD_TRAIN_FAIL (n + 2) none 0).fieldTrain n
  else s)

/-- The die detects the loss of a link (R471); the proxy hears of it while the channel is up (R470). -/
def execFieldLinkDown (n : Fin 8) (s : State) : Out :=
  .next (if s.isoUp ∧ s.on (F.FP_STATUS_LINK n.val) then (s.fieldLost n.val true).fieldTrain n.val else s)

/-- FP_CTRL.RESTART. -/
def execFieldLinkRestart (m : Nat) (n : Fin 8) (s : State) : Out :=
  .next (s.busW m (0x50400 + 0x80 * n.val) (fun s => s.fieldRestart n.val))

/-! Power coupling (R472 to R476). -/

/-- May a port leave OFF (R472, R408)? -/
def State.fdEnabled (s : State) (n : Nat) : Bool :=
  s.on F.FD_CTRL_PWR_EN && s.on (F.FP_CTRL_PWR_EN n) && !s.fd.uv && !s.fd.ov && s.fd.released && !s.fd.inReset
    && (decide (s.power ≤ pwTrim) || (decide (s.power = pwHold) && s.on F.CRP_PWR_CFG_FPWR_HOLD))

/-- The aggregate limit in mA (R480), and the sum of the port currents. -/
def State.aggLim (s : State) : Nat := max 100 (min 1600 (s.dieRd F.FD_AGG_LIM))
def State.fdSum (s : State) : Nat := s.fd.cur.sum

/-- The enables of a port are evaluated: OFF, DETECT, or a failed classification's second is over (R472). While the channel is down
the die keeps the enables it has. -/
def State.fdEnables (s : State) (n : Nat) : State :=
  let r := s.fdPort n
  if s.isoUp ∧ (r.off ∨ ¬ s.fdEnabled n) then
    (if r.pst = pdOff ∨ (s.spent n ∧ ¬ r.off ∧ s.on (F.FP_CTRL_PWR_EN n)) then s.setFd n { r with off := false } else s.fdGo n pdOff)
  else if r.pst = pdOff then (if s.isoUp then s.fdGo n pdDetect else s)
  else match r.failed with
    | some t => if t + 1000000000 ≤ s.tb.mono then s.fdGo n pdDetect else s
    | none => s

/-- The port to shed: the lowest PRIO, and the highest number among equals (R475). -/
def State.shedPort (s : State) : Option Nat :=
  ((List.range 8).filter (fun n => (s.fdPort n).pst == pdOn)).foldl (fun o n => match o with
    | none => some n
    | some k => if s.dieRd (F.FP_CTRL_PRIO n) ≤ s.dieRd (F.FP_CTRL_PRIO k) then some n else o) none

/-- Shed one port while the sum exceeds the limit (R475). -/
def State.shedOne (s : State) : State :=
  if s.aggLim < s.fdSum then
    match s.shedPort with
    | some n => ((s.fdGo n pdShed).fdCount (F.FP_SHED_CNT n)).setFd n { (s.fdGo n pdShed).fdPort n with iLast := s.fd.cur.getD n 0 }
    | none => s
  else s

/-- Since when the sum has left room for each shed port's return (R475). -/
def State.shedRoom (s : State) : State :=
  (List.range 8).foldl (fun s n =>
    let r := s.fdPort n
    if r.pst = pdShed then
      if s.fdSum + r.iLast + 25 ≤ s.aggLim then s.setFd n { r with lowAt := some (r.lowAt.getD s.tb.mono) }
      else s.setFd n { r with lowAt := none }
    else s) s

/-- The current limit of a port in mA (R473, R480). -/
def State.ilim (s : State) (n : Nat) : Nat := max 10 (min 300 (s.dieRd (F.FP_ILIM n)))

/-- The port currents, each held at its limit (R474). -/
def State.heldCur (s : State) (cur : List Nat) : List Nat := (List.range 8).map (fun n => min (cur.getD n 0) (s.ilim n))

/-- The evaluation of every 1 ms, with the port currents in mA (R472, R475); none while the die restarts (R469). -/
def execPowerEvaluation (cur : List Nat) (s : State) : Out :=
  .next (if s.fd.released ∧ ¬ s.fd.inReset ∧ s.fd.evalAt + 1000000 ≤ s.tb.mono then
    let s1 := { s with fd := { s.fd with cur := s.heldCur cur, evalAt := s.tb.mono } }
    (((List.range 8).foldl (fun s n => s.fdEnables n) s1).shedOne).shedRoom
  else s)

/-- A detection probe of a port in DETECT (R472). -/
def State.fdProbe (s : State) (n : Nat) (k : Probe) : State :=
  let r := s.fdPort n
  if r.pst ≠ pdDetect ∨ s.tb.mono < r.probeAt then s
  else
    let again (mis rev : Bool) : State := (s.setFd n { r with probeAt := s.tb.mono + 500000000, mis := mis, rev := rev }).fdShow n
    match k with
    | .foreign rev => again true rev
    | .nothing => again false false
    | .valid =>
      if s.fdSum + 25 ≤ s.aggLim then (s.setFd n { r with mis := false, rev := false }).fdGo n (if r.sccp then pdClassify else pdPowerUp)
      else again false false

/-- A probe has ended. -/
def execPdDetect (n : Fin 8) (k : Probe) (s : State) : Out := .next (s.fdProbe n.val k)

/-- The SCCP class is read, or no answer came within 100 ms (R472). -/
def execPdClassify (n : Fin 8) (cls : Option (Fin 16)) (s : State) : Out :=
  let n := n.val
  let r := s.fdPort n
  let fail (s : State) : State := (s.setFd n { s.fdPort n with failed := some s.tb.mono }).raise Src.FD_CLASS_FAIL (n + 2) none 0
  .next (if r.pst ≠ pdClassify ∨ r.failed.isSome then s
  else match cls with
    | some c =>
      let s1 := (s.setFd n { r with clsRd := c.val }).fdShow n
      if c.val ≤ r.cls then s1.fdGo n pdPowerUp else fail s1
    | none => if r.since + 100000000 ≤ s.tb.mono then fail s else s)

/-- A port faults (R472, R474). -/
def State.fdFault (s : State) (n : Nat) : State := (s.fdGo n pdFault).fdCount (F.FP_OC_CNT n)

/-- The output is in range, or 50 ms are over (R472). -/
def execPowerUpDone (n : Fin 8) (inRange : Bool) (s : State) : Out :=
  let n := n.val
  let r := s.fdPort n
  .next (if r.pst ≠ pdPowerUp then s
  else if r.since + 50000000 < s.tb.mono then s.fdFault n
  else if inRange then s.fdGo n pdOn
  else if r.since + 50000000 ≤ s.tb.mono then s.fdFault n
  else s)

/-- The current has been below 2 mA for 300 ms (R472). -/
def execPdDisconnect (n : Fin 8) (s : State) : Out :=
  .next (if (s.fdPort n.val).pst = pdOn ∧ (s.fdPort n.val).since + 300000000 ≤ s.tb.mono then s.fdGo n.val pdDetect else s)

/-- Does it trip: held at ILIM for OC_MS, of which 0 acts as 1, or not to be held at all (R474, R480)? -/
def State.tripped (s : State) (n : Nat) : Option Nat → Bool
  | some t => decide (max 1 (s.dieRd (F.FP_OC_OC_MS n)) ≤ t)
  | none => true

/-- A port's current has now been held at ILIM for `held` ms; `none`: it cannot be held, or the pair's voltage has fallen below
5 V (R474). -/
def execOvercurrentTrip (n : Fin 8) (held : Option Nat) (s : State) : Out :=
  .next (if (s.fdPort n.val).pst = pdOn ∧ s.tripped n.val held then s.fdFault n.val else s)

/-- RETRY_MS after a fault (R474). -/
def execFaultRetry (n : Fin 8) (s : State) : Out :=
  let n := n.val
  let r := s.fdPort n
  .next (if r.pst = pdFault ∧ r.since + s.dieRd (F.FP_OC_RETRY_MS n) * 1000000 ≤ s.tb.mono ∧ s.retriesLeft n then
    (s.setFd n { r with used := min 15 (r.used + 1) }).fdGo n pdDetect
  else s)

/-- 60 s in ON (R474). -/
def execRetryCountReset (n : Fin 8) (s : State) : Out :=
  let r := s.fdPort n.val
  .next (if r.pst = pdOn ∧ r.since + 60000000000 ≤ s.tb.mono then s.setFd n.val { r with used := 0 } else s)

/-- The shed port that may return: room for 10 s, the highest PRIO first (R475). -/
def State.recoverPort (s : State) : Option Nat :=
  let ready := (List.range 8).filter (fun n => (s.fdPort n).pst == pdShed
    && (match (s.fdPort n).lowAt with | some t => decide (t + 10000000000 ≤ s.tb.mono) | none => false))
  ready.foldl (fun o n => match o with
    | none => some n
    | some k => if s.dieRd (F.FP_CTRL_PRIO k) < s.dieRd (F.FP_CTRL_PRIO n) then some n else o) none

/-- One shed port returns to DETECT; the others wait 10 s anew (R475). -/
def execShedRecover (s : State) : Out :=
  .next (match s.recoverPort with
  | none => s
  | some n =>
    let s1 := s.fdGo n pdDetect
    (List.range 8).foldl (fun s k => s.setFd k { s.fdPort k with lowAt := none }) s1)

/-- FVIN falls to `mv` mV (R476); below 16 V the die is no longer supplied (R469). -/
def execFvinUndervoltage (mv : Nat) (s : State) : Out :=
  .next (if mv < 19000 then (s.fvinSet mv).fvinShow.fdPowerOff else s)

/-- FVIN rises to `mv` mV (R476). -/
def execFvinOvervoltage (mv : Nat) (s : State) : Out :=
  .next (if 31000 < mv then (s.fvinSet mv).fvinShow.fdPowerOff else s)

/-- FVIN returns to `mv` mV (R476); from below 16 V this is a field-side reset (R469). -/
def execFvinRestore (mv : Nat) (s : State) : Out :=
  let s1 := (s.fvinSet mv).fvinShow
  .next (if s.fd.released ∧ s.fd.dead ∧ 16000 ≤ mv then ({ s1 with fd := { s1.fd with dead := true } }).fieldReset false else s1)

end Sys2Proof.Machine
end

