-- ==== Sys2Proof/Machine/Mgmt.lean ====
section
/-!
DEFINITION. What management firmware does at its start and its restart: the check of the firmware slots, its states, the factory
MAC addresses and the log of the cellar book (R421, R440 to R444, R463).
Where the manual leaves a point open, the choices are log entries 58 (DEDUCED).
-/

namespace Sys2Proof.Machine

/-- MG_STATUS.STATE (R443). -/
def mgBoot : Nat := 0
def mgRun : Nat := 1
def mgTrial : Nat := 2
def mgRestart : Nat := 3
def mgRecovery : Nat := 4

def State.mgState (s : State) : Nat := s.rd F.MG_STATUS_STATE

/-- Set a bit of MG_EVT; with its enable set, event 3 is sent (R436). -/
def State.mgEvent (s : State) (evt ie : Fld) : State :=
  let s1 := s.wr evt 1
  if s.on ie then s1.sendEvent 3 else s1

/-! The book in the log (R421, R424, R440). -/

/-- The 32 bytes of a book entry (R421). -/
def BookEntry.bytes (e : BookEntry) : List Byte :=
  leBytes 8 e.dt ++ leBytes 1 e.src ++ leBytes 1 (e.sev + e.conseq.toNat * 4 + e.inject.toNat * 8 + e.coal.toNat * 16) ++ leBytes 1 e.react
    ++ leBytes 1 (match e.master with | some m => m % 64 + 64 | none => 0) ++ leBytes 1 e.inst ++ leBytes 1 e.blk
    ++ leBytes 2 e.repeats ++ leBytes 4 e.info ++ leBytes 4 e.seq ++ leBytes 8 e.last

/-- Copy a book entry into the log; below CRITICAL it is dropped while the buffer is half full (R440). -/
def State.logBook (s : State) (e : BookEntry) : State :=
  let s1 := { s with mg := { s.mg with nmiSeq := e.seq + 1 } }
  if e.sev < 3 ∧ 256 ≤ s.mg.buf.length then { (s1.inc F.MG_LOG_DROP) with mg := { s1.mg with dropped := s.mg.dropped + 1 } }
  else s1.logPut (s1.logRec logCellar 32 e.bytes)

/-- After a start, every NMI entry of the book not yet logged (R440). -/
def State.logMissed (s : State) : State :=
  (s.cl.book.filter (fun e => decide (s.mg.nmiSeq ≤ e.seq) && bits e.react 1 1 == 1)).foldl (fun s e => s.logBook e) s

/-! Firmware slots (R442, R443). -/

def State.fwSlot (s : State) (b : Bool) : FwSlot := if b then s.mg.fwB else s.mg.fwA

/-- Both checks of a slot. -/
def State.fwPasses (s : State) (x : FwSlot) : Bool := x.ok && decide (s.rd F.MG_FW_CNT ≤ x.svn)

/-- The boot code's choice of a slot; true: no slot passes (R442). -/
def State.fwBoot (s : State) : State × Bool :=
  let a := s.fwSlot s.mg.active
  if s.fwPasses a then (s.wr F.MG_STATUS_SLOT s.mg.active.toNat, false)
  else
    let s1 := if a.ok then s else s.raise0 Src.MG_FW_AUTH 0
    let s2 := if a.svn < s.rd F.MG_FW_CNT then s1.raise0 Src.MG_FW_ROLLBACK 0 else s1
    if s.fwPasses (s.fwSlot (!s.mg.active)) then
      ((({ s2 with mg := { s2.mg with active := !s.mg.active, staged := false } }).wr F.MG_STATUS_SLOT (!s.mg.active).toNat).raise0
        Src.MG_FW_FALLBACK 0, false)
    else (s2, true)

/-- The core runs again after a restart (R443, R444); in RECOVERY the tables are locked (R442); replies that wait are posted (R436). -/
def State.mgRestarted (s : State) : State :=
  let r := s.fwBoot
  let s1 := { r.1 with mg := { r.1.mg with trialNext := false, trialAt := r.1.tb.mono } }
  let s2 := if r.2 then ((s1.wr F.MG_STATUS_STATE mgRecovery).wr F.AC_CTRL_LOCK 1).wr F.AC_STATUS_LOCKED 1
    else if s.mg.trialNext ∧ r.1.mg.active = s.mg.active then
      (s1.wr F.MG_STATUS_STATE mgTrial).mgEvent F.MG_EVT_FW_ACTIVE F.MG_EVT_IE_FW_ACTIVE
    else s1.wr F.MG_STATUS_STATE mgRun
  [4, 5, 6, 7].foldl (fun s n => s.replyNext n) s2.logMissed

/-- A restart of the core begins (R444): MGMT's locks are freed, the log buffer is lost. -/
def State.mgReset (s : State) : State :=
  let s1 := ((s.mbMasterReset 0).wr F.MG_STATUS_STATE mgRestart).wr F.MG_STATUS_REQ_BUSY 0
  { s1 with mg := { s1.mg with buf := [], dropped := 0, trialNext := s1.mg.trialNext || decide (s.mgState = mgTrial) } }

/-- A trial fails: the previous slot is the active one again, and the core restarts into it (R443). -/
def State.mgRevert (s : State) : State :=
  let s1 := ((s.raise0 Src.MG_UPDATE_FAIL 0).mgEvent F.MG_EVT_FW_REVERTED F.MG_EVT_IE_FW_REVERTED).logEvent logFirmware
  { (s1.wr F.MG_STATUS_STATE mgRestart) with mg := { s1.mg with active := !s1.mg.active, trialNext := false } }

/-! Spares (R449, R451). -/

/-- A condition begins, holds on, or ends. -/
def State.condSet (s : State) (src inst : Nat) (b : Bool) : State :=
  if b then s.onset src inst 0 else if (src, inst) ∈ s.cl.conds then s.condEnd src inst else s

/-- Spares of a class that can be used: those left, less idle ones that have failed their test. -/
def State.spUsable (s : State) (c : Nat) : Nat := s.rd (F.SP_CLASS_n_REMAIN c) - s.sp.bad.count c

/-- SPARE_EN of an engine's block (R127, R189). -/
def State.spareEn (s : State) (c : Nat) : Bool :=
  if c = 4 then s.on F.LN_CTRL_SPARE_EN else if c = 5 then s.on F.MS_CTRL_SPARE_EN else true

/-- May firmware begin a substitution of a class: SP_CTRL.EN, a spare, and for an engine SPARE_EN of its block? -/
def State.spMay (s : State) (c : Nat) : Bool :=
  s.fwRuns && s.on F.SP_CTRL_EN && decide (s.spUsable c ≠ 0) && s.spareEn c

/-- Does a row of block `b` with an uncorrectable error still wait for its substitution? -/
def State.ueWaits (s : State) (b : Nat) : Bool :=
  b != 20 && s.sp.queue.any (fun e => e.blk == some b && s.spMay e.cls && (e.act || !s.sp.queue.any (fun x => x.act)))

/-! MAC addresses (R463, R504). -/

/-- GC_MAC_BASE_HI: bytes 4 and 5 of the base; the last byte is a multiple of 16 (R504). -/
def macBaseHi : Nat := (Config.factoryWord 6).toNat % 256 + (Config.factoryWord 6).toNat / 4096 % 16 * 4096

/-- Firmware writes the factory address of a port: base + k, in the low bits of the last byte. -/
def State.writeMac (s : State) (p : Nat) : State :=
  let lo := (Config.factoryWord 5).toNat
  let hi := macBaseHi + p * 256
  if p < 2 then (s.wr (F.BP_MAC_LO p) lo).wr (F.BP_MAC_HI p) hi else (s.wr (F.FP_MAC_LO (p - 2)) lo).wr (F.FP_MAC_HI (p - 2)) hi

def State.writeMacs (s : State) : State := (List.range 10).foldl (fun s p => s.writeMac p) s

end Sys2Proof.Machine
end

