-- ==== Sys2Proof/Machine/Crp.lean ====
section
/-!
DEFINITION. Block resets, the chip reset, function-level resets and the host link (R425, R428, R481 to R497). Blocks are numbered
by their bit in CRP_BLK_RST: the target, 22 for MASH (R493).
Where the manual leaves a point open, the choices are log entries 17, 24, 54, 75 (DEDUCED); 82 (DESIGN CHOICE).
-/

namespace Sys2Proof.Machine

/-! The registers of a block. -/

/-- Every register of a block at its reset value, but for the fields named. -/
def State.regsReset (s : State) (b : Nat) (keep : List Fld) : State :=
  keep.foldl (fun t f => t.wr f (s.rd f)) { s with regs := s.regs.filter (fun e => blkOf (e.1 / 32) != b) }

/-- Change every work item, and every frame in reception. -/
def State.mapItems (s : State) (f : Item → Item) : State :=
  { s with ln := { s.ln with items := s.ln.items.map (fun x : Nat × Option Item => (x.1, x.2.map f)) } }
def State.mapRx (s : State) (f : RxFrame → RxFrame) : State :=
  { s with rx := s.rx.map (fun x : Nat × Option RxFrame => (x.1, x.2.map f)) }

/-! What a block reset clears, block by block (R425, R492). -/

/-- A pad that is no longer driven falls to its pull-down (R69, R515). -/
def State.toutOff (s : State) (n : Nat) : State :=
  if bits s.tb.toutPad n 1 = 1 then ({ s with tb := { s.tb with toutPad := putBits s.tb.toutPad n 1 0 } }).emit (.tout n false) else s

/-- TBASE (R70): time, increment, state, epoch, the servo owner and the shadow go on; every other register returns to its reset value,
TB_SHADOW.ALT too, although DT goes on running from the same counter: log entry 82, DESIGN CHOICE. -/
def State.resetTbase (s : State) : State :=
  let s1 := if s.tb.ppsOutEnd.isSome then s.ppsPin false else s
  let s2 := (List.range 4).foldl (fun s n => s.toutOff n) s1
  let s3 := { s2 with tb := { s2.tb with
    slew := 0, slewCarry := 0, reep := none, ppsPeriod := Tb.reset.ppsPeriod, ppsPhase := Tb.reset.ppsPhase, ppsWidth := Tb.reset.ppsWidth,
    ppsCommit := none, ppsOutEnd := none, ppsInHave := false, tin0 := [], tin1 := [], tinLast0 := none, tinLast1 := none,
    tout := 0, fuA := [], fuB := [], nextSync := [] } }
  (s3.regsReset 2 [F.TB_INC_LO, F.TB_INC_HI, F.TB_EPOCH, F.TB_SERVO_OWNER, F.TB_STATUS_STATE]).condEnd Src.PPS_IN_LOSS 0xFF

/-- A holder that is gone: its items keep what the engine has, without their chains; the walk of R360 releases the rest. -/
def State.holderGone (s : State) (m : Nat) : State :=
  (s.mapItems (fun it => if it.holder = m then { it with chain := none } else it)).walkRelease m

/-- Is an item a timed job or a template launch? -/
def Item.timed (it : Item) : Bool := it.dtl.isSome

/-- A reaction that takes a port down: the scheduled frames of that port are not sent (R254). -/
def State.portYield (s : State) (p : Nat) (react : Bool) : State :=
  s.ln.items.foldl (fun s x => match x.2 with
    | some it => if react && it.timed && it.port == p then s.yieldTo 1 3 else s
    | none => s) s

/-- PORTA and PORTB (R477). -/
def State.resetPort (s : State) (p : Nat) (react : Bool) : State :=
  let s0 := s.portYield p react
  let s1 := if s.rd (F.BP_STATUS_STATE p) = portUp then s0.bpDepart p false true else s0
  let s2 := (((s1.regsReset (3 + p) []).slopeCheck p).condEnd Src.BB_LINK_DOWN p).condEnd Src.BB_CDR_LOSS p
  let s3 := (s2.condEnd Src.BB_FCS_RATE p).setBp p BpPort.empty
  ((if p = 0 then { s3 with bp := { s3.bp with mdio := none } } else s3).mmUpdate p).holderGone (8 + p)

/-- FIELD (R477, R534): the proxy at reset values, a field-side reset with every port's power off. -/
def State.resetField (s : State) (react : Bool) : State :=
  let keep := [F.FD_STATUS_ISO_UP, F.FD_STATUS_FVIN_OK, F.FD_STATUS_FVIN_UV, F.FD_STATUS_FVIN_OV] ++ (List.range 8).map (fun n => F.FP_STATUS_LINK n)
  let s1 := ((List.range 8).foldl (fun s n => s.portYield (n + 2) react) s).regsReset 5 keep
  let s2 := if s.fd.released ∧ ¬ s.fd.dead then s1.fieldReset true else s1
  (List.range 8).foldl (fun s n => (s.condEnd Src.FD_LINK_DOWN (n + 2)).holderGone (0x0A + n)) s2

/-- KILN (R101): all gates open, the MAC released, every timed action freed. -/
def State.resetKiln (s : State) : State :=
  let s1 := s.kn.tas.foldl (fun s x => s.taFreeEntry x.1 stCancelled) s
  let s2 := (List.range 10).foldl (fun s p => s.setHold p false) { s1 with kn := Kn.reset }
  (List.range 10).foldl (fun s p => s.reepAnchor p s.dt) (s2.regsReset 6 [])

/-- Is a work item the first copy of its frame? -/
def State.firstCopy (s : State) (i : Nat) (it : Item) : Bool := (s.copies it.grp).all (fun x => decide (i ≤ x.1))

/-- What a reset ends: a job or a launch is a yield of rung 2, once whatever its copies, and in a reset by a reaction each of its scheduled
frames one of rung 3 (R252, R254). -/
def State.resetYield (s : State) (i : Nat) (it : Item) (react : Bool) : State :=
  let s1 := if s.firstCopy i it ∧ (it.job.isSome ∨ it.src = srcTpl) then s.yieldTo 1 2 else s
  if react && it.timed then s1.yieldTo 1 3 else s1

/-- LAUNCH (R128): the registers take their reset values, all items end, a frame on the wire with an inverted FCS. -/
def State.resetLaunch (s : State) (react : Bool) : State :=
  let s0 := s.regsReset 7 []
  let s1 := s.ln.items.foldl (fun s x => match x.2 with | some it => s.resetYield x.1 it react | none => s) s0
  let s2 := (List.range 10).foldl (fun s p => s.cutDown p stAborted) s1
  let s3 := s2.ln.items.foldl (fun s x => match x.2 with
    | some it => (s.inc (F.LN_Pn_ABORT it.port)).endItem x.1 stAborted 0
    | none => s) s2
  (({ s3 with ln := { s3.ln with ports := [], waits := [] } }).wr F.LN_WT_HWM 0).walkRelease 6

/-- FINING (R227): frames in reception are unidentified, held copies are discarded and counted. -/
def State.resetFining (s : State) : State :=
  let held := s.fn.held
  let s1 := s.mapRx (fun fr => { fr with look := fr.look.map (fun _ => none), filt := none, maps := none, verdict := .open })
  let s2 := held.foldl (fun s fr => s.discardRx { fr with verdict := .open, look := none } false false) s1
  let s3 := ({ s2 with fn := Fn.reset }).regsReset 8 []
  (s3.add F.FN_UNID_CNT held.length).wr F.FN_STATUS_WIPING 1

/-- PSFP (R227). -/
def State.resetPsfp (s : State) : State :=
  let s1 := { s.mapRx (fun fr => { fr with filt := none }) with ps := Ps.reset }
  (s1.regsReset 9 []).wr F.PS_STATUS_WIPING 1

/-- LAUTER (R256). -/
def State.resetLauter (s : State) : State := (({ s with lt := Lt.reset, yieldAt := [] }).regsReset 10 []).wr F.LT_STATUS_WIPING 1

/-- GRIST (R371): jobs that hold chains end, frames on the wire are stomped, received frames are discarded. -/
def State.resetGrist (s : State) (react : Bool) : State :=
  let s1 := s.rx.foldl (fun s x => match x.2 with | some fr => (s.setRx x.1 none).badRx fr false | none => s) s
  let s2 := s1.fn.held.foldl (fun s fr => s.discardRx fr false false) { s1 with fn := { s1.fn with held := [] } }
  let cell (i : Nat) (s : State) : Bool := match s.item i with | some it => it.chain.isSome | none => false
  let s3 := (List.range 10).foldl (fun s p => match (s.lnPort p).wire with
    | some w => (match w.item with
      | some i => if cell i s then s.cutDown p stNoCell else s
      | none => s)
    | none => s) s2
  let s4 := s2.ln.items.foldl (fun s x => match x.2 with
    | some it => if it.chain.isNone then s else
      let a := (s.inc F.LN_NOCELL).raise0 Src.LN_NOCELL 0
      (a.resetYield x.1 it react).endItem x.1 stNoCell 0
    | none => s) s3
  let s5 := { s4 with
    gr := Gr.reset, gy := { s4.gy with extWait := [] }, pcie := { s4.pcie with rxHold := [] } }
  (s5.regsReset 11 []).wr F.GR_STATUS_WIPING 1

/-- PITCH (R371): chains keep their pools, ports their engines, waiting copies their places. -/
def State.resetPitch (s : State) : State :=
  (({ s with pt := { Pt.reset with copies := s.pt.copies, heatAt := s.tb.mono } }).regsReset 12 []).wr F.PT_STATUS_WIPING 1

/-- GYLE (R165): point jobs complete BUSY; frames in reception lose their maps. -/
def State.resetGyle (s : State) : State :=
  let jobs := s.gy.jobs.map (fun j => (j.q, j.id)) ++ s.gy.qHost.filterMap HostOp.waits
  let s1 := { s.mapRx (fun fr => { fr with maps := none }) with gy := Gy.reset, pt := { s.pt with heatHot := [], heatCand := [] } }
  let s2 := jobs.foldl (fun s j => s.finishJob j.1 j.2 ⟨stBusy, 0, 0, 0⟩) s1
  ((s2.regsReset 13 []).wr F.GY_STATUS_WIPING 1).walkRelease 4

/-- MASH (R190): launches that have not been handed off end without a frame. -/
def State.resetMash (s : State) (react : Bool) : State :=
  let ls := s.ms.launches
  let s1 := ls.foldl (fun s l => (s.launchItems l).foldl (fun s x => (s.resetYield x.1 x.2 react).dropItem x.1) s) s
  let s2 := { s1 with ms := Ms.reset, hz := { s1.hz with queue := [], view := [] } }
  ((s2.regsReset 22 []).add F.MS_ASM_ABORT ls.length).wr F.MS_STATUS_WIPING 1

/-- QENG (R323): all queues DISABLED without completions; assignments stay. -/
def State.resetQeng (s : State) : State :=
  let s1 := s.qe.sqs.foldl (fun s x =>
    let lost := x.2.jobs.countP (fun j => !j.started && decide (j.rung ≤ 6))
    let a := x.2.jobs.foldl (fun s j => if j.started then s else s.dropJob x.1 j.id) s
    (List.range lost).foldl (fun s _ => s.yieldTo 1 2) a) s
  let s2 := { s1.mapItems (fun it => { it with job := none }) with qe := { Qe.reset with nextJob := s1.qe.nextJob } }
  let keep := (List.range 1024).flatMap (fun q =>
    [F.QE_SQ_OWNER_OWNER q, F.QE_SQ_OWNER_LOCAL q, F.QE_CQ_INFO_q_OWNER q, F.QE_CQ_INFO_q_LOCAL q])
  (s2.regsReset 14 keep).walkRelease 3

/-- DMA (R346). -/
def State.resetDma (s : State) : State := ({ s.dmaDropAll with dma := [] }).regsReset 15 []

/-- MBOX (R386): the bindings and BIND_LOCK survive. -/
def State.resetMbox (s : State) : State :=
  let keep := F.MB_CTRL_BIND_LOCK :: (List.range 64).flatMap (fun n => [F.MB_BIND_n_VALID n, F.MB_BIND_n_SENDER n, F.MB_BIND_n_RECEIVER n])
  let s1 := { s with mb := Mb.reset, mg := { s.mg with reqs := [], reqsNew := [] } }
  s1.regsReset 16 keep

/-- The RELEASE of an acting twin before a reset (R273). -/
def State.sendRelease (s : State) : State :=
  if s.on F.TW_CTRL_EN ∧ s.role = roleActing then ((s.announce 0x04).announce 0x04).announce 0x04 else s

/-- TWIN (R287, R290): the horizon and the dirty map are not touched. -/
def State.resetTwin (s : State) : State :=
  let s1 := s.sendRelease.twinDisable
  let s2 := [Src.TW_PATH_LOSS, Src.TW_PEER_LOST, Src.TW_CFG_DIFF, Src.TW_MIR_LOSS, Src.TW_TIME_DIFF, Src.TW_SELFTEST].foldl
    (fun s n => (s.cl.conds.filter (fun c => c.1 == n)).foldl (fun s c => s.condEnd c.1 c.2) s) (s1.regsReset 18 [F.TW_STATUS_TWIN_ID])
  ((({ s2 with tw := { s2.tw with tests := 0 } }).mirState).toutAll).walkRelease 5

/-- SPARE: the spares that are left and the ageing readings stay (R449). -/
def State.resetSpare (s : State) : State :=
  let keep := (List.range 8).flatMap (fun n => [F.SP_CLASS_n_USED n, F.SP_CLASS_n_REMAIN n])
    ++ (List.range 12).flatMap (fun n => [F.SP_AGE_n_REMAIN_WK n, F.SP_AGE_n_DEGR n])
  ({ s with sp := { s.sp with queue := [], open_ := false, errs := [], resid := [] } }).regsReset 21 keep

/-- What the reset of a block clears; `react` tells a reaction from a register write. -/
def State.blockClear (s : State) (b : Nat) (react : Bool) : State :=
  match b with
  | 2 => s.resetTbase
  | 3 => s.resetPort 0 react
  | 4 => s.resetPort 1 react
  | 5 => s.resetField react
  | 6 => s.resetKiln
  | 7 => s.resetLaunch react
  | 8 => s.resetFining
  | 9 => s.resetPsfp
  | 10 => s.resetLauter
  | 11 => s.resetGrist react
  | 12 => s.resetPitch
  | 13 => s.resetGyle
  | 14 => s.resetQeng
  | 15 => s.resetDma
  | 16 => s.resetMbox
  | 18 => s.resetTwin
  | 20 => s.mgReset
  | 21 => s.resetSpare
  | 22 => s.resetMash react
  | _ => s

/-- Blocks that no block reset reaches: GCTL, CRP, CELLAR, ACCESS (R419, R493). -/
def neverReset (b : Nat) : Bool := b == 0 || b == 1 || b == 0x11 || b == 0x13

/-- The high data word of a block's window, and the place of its records in `recLatch` (3: none). -/
def winHi : Nat → Nat × Nat
  | 6 => (0x6001C, 3)
  | 8 => (0x8004C, 0)
  | 9 => (0x9001C, 1)
  | 10 => (0xA001C, 3)
  | 11 => (0xB004C, 2)
  | 12 => (0xC004C, 3)
  | 13 => (0xD005C, 3)
  | 22 => (0xD802C, 3)
  | _ => (0, 3)

/-- Nothing stays latched of a window whose memories are cleared: its reads return 0 (R532). -/
def State.winForget (s : State) (b : Nat) : State :=
  { s with latched := s.latched.filter (fun x => x.1 % 2 ^ 24 != (winHi b).1), recLatch := s.recLatch.filter (fun x => x.1 % 4 != (winHi b).2) }

/-- A block goes into reset: its settling window opens (R428), and it is cleared. -/
def State.blockReset (s : State) (b : Nat) (react : Bool) : State :=
  if neverReset b || s.inReset b then s
  else
    let s1 := { s with crp := { s.crp with blk := (b, s.tb.mono) :: s.crp.blk },
                       cl := { s.cl with settle := (b, none) :: s.cl.settle.filter (fun x => x.1 != b) } }
    (s1.blockClear b react).winForget b

/-- CL_SETTLE in ns (R434). -/
def State.settleNs (s : State) : Nat := max 1 (min 10000 (s.rd F.CL_SETTLE)) * 1000

/-- The status bit that a block shows while its memories are wiped (R532). -/
def wipingFld : Nat → Option Fld
  | 8 => some F.FN_STATUS_WIPING
  | 9 => some F.PS_STATUS_WIPING
  | 10 => some F.LT_STATUS_WIPING
  | 11 => some F.GR_STATUS_WIPING
  | 12 => some F.PT_STATUS_WIPING
  | 13 => some F.GY_STATUS_WIPING
  | 22 => some F.MS_STATUS_WIPING
  | _ => none

/-- The memories of a block are clear: WIPING falls. -/
def State.wipeDone (s : State) (b : Nat) : State := match wipingFld b with | some f => s.wr f 0 | none => s

/-- The block runs again (R425, R463): WIPING falls, and the settling window closes after CL_SETTLE (R428). -/
def State.blockEnd (s : State) (b : Nat) : State :=
  let s1 := { s with crp := { s.crp with blk := s.crp.blk.filter (fun x => x.1 != b) },
                     cl := { s.cl with settle := (b, some (s.tb.mono + s.settleNs)) :: s.cl.settle.filter (fun x => x.1 != b) } }
  let s2 := s1.wipeDone b
  match b with
  | 3 => if s2.fwRuns then s2.writeMac 0 else s2
  | 4 => if s2.fwRuns then s2.writeMac 1 else s2
  | 5 => if s2.fwRuns then (List.range 8).foldl (fun s n => s.writeMac (n + 2)) s2 else s2
  | 20 => s2.mgRestarted
  | _ => s2

/-- May the reset of a block end now? A held block's does not (R430); in RETIRED the blocks stay in reset (R411); FIELD's ends with
READY, or after 10 ms (R534); a row with an uncorrectable error is substituted first (R451). -/
def State.mayEnd (s : State) (b : Nat) : Bool :=
  s.inReset b && !s.heldBlk b && !s.ueWaits b && !(s.rd F.AC_STATUS_LC == 5 && b != 20)
    && (b != 5 || s.on F.FD_STATUS_READY || s.crp.blk.any (fun x => x.1 == 5 && decide (x.2 + 10000000 ≤ s.tb.mono)))

/-- One bit of a write of CRP_BLK_RST (R412, R493). -/
def State.blkBit (s : State) (m b : Nat) : State :=
  let t := heldBit b
  if ¬ s.may t m permADM then s.deny 3 m t 0x10
  else if neverReset b || s.heldBlk b then
    let s1 := s.inc F.CRP_BLK_REJ
    if b = 0x13 then s1.inc F.AC_LOCK_REJ else s1
  else s.blockReset b false

/-- A write of CRP_BLK_RST: its bits reset their blocks together (R493). -/
def State.blkWrite (s : State) (m v : Nat) : State :=
  ((List.range 23).filter (fun b => bits v b 1 == 1)).foldl (fun s b => s.blkBit m b) s

/-- A write of CRP_BLK_RST. -/
def execBlockReset (m : Nat) (v : Word) (s : State) : Out := .next (s.busW m 0x10010 (fun s => s.blkWrite m v.toNat))

/-- The block's memories are wiped and it runs again. -/
def execBlockResetEnd (b : Fin 23) (s : State) : Out := .next (if s.mayEnd b.val then s.blockEnd b.val else s)

/-- A block runs again after its hold (R430). -/
def State.holdEnd (s : State) (t : Nat) : State :=
  if bits (s.rd F.CL_HELD) t 1 = 1 then
    let s1 := s.wrBit F.CL_HELD t false
    let s2 := if s1.inReset t then s1.blockEnd t else s1
    if t = 0x0D ∧ s2.inReset 22 then s2.blockEnd 22 else s2
  else s

end Sys2Proof.Machine
end

