-- ==== Sys2Proof/Machine/Resets.lean ====
section
/-!
DEFINITION. The chip reset and what survives it, OFF, function-level resets, PERST#, the host link, configuration writes, supplies
and clocks (R407, R409, R481 to R497).
Where the manual leaves a point open, the choices are log entries 48 (DESIGN CHOICE); 54, 66 (DEDUCED); 79 (PRESUMED).
-/

namespace Sys2Proof.Machine

/-- What fuses and NOR hold of the registers (R492). -/
def norFields : List Fld :=
  [F.MG_FW_CNT, F.MG_EBAIN_CNT, F.MG_BOOT_CNT, F.MG_HOURS, F.MG_TEMP_MAX_LIFE, F.MG_LOG_HEAD, F.MG_LOG_OLDEST, F.AC_STATUS_LC,
   F.AC_STATUS_REOWN] ++ (List.range 8).map F.AC_OWNER_HASH_n
  ++ (List.range 8).flatMap (fun n => [F.SP_CLASS_n_USED n, F.SP_CLASS_n_REMAIN n])

/-- What a chip reset keeps besides (R426, R427, R492): its own record, a low ERR_N, and the level of the PERST# pad. -/
def chipFields : List Fld :=
  [F.CL_LAST_RESET_VALID, F.CL_LAST_RESET_KIND, F.CL_LAST_RESET_INST, F.CL_LAST_RESET_SOURCE, F.CL_LAST_RESET_DT_LO, F.CL_LAST_RESET_DT_HI,
   F.CL_STATUS_ERR_PAD, F.CRP_PCIE_STAT_PERST]

/-- The module as after a reset of all of it (R402, R492): the NOR, the fields named, what has left the module and the pads' outside
stay; AC_NONCE is new (R400). -/
def State.restart (s : State) (keep : List Fld) : State :=
  let base : State := { State.reset with
    tb := { Tb.reset with mono := s.tb.mono }
    pcie := { Pcie.reset with out := s.pcie.out }
    fd := { Fd.reset with fvin := s.fd.fvin }
    mg := { Mg.reset with fwA := s.mg.fwA, fwB := s.mg.fwB, active := s.mg.active, ebA := s.mg.ebA, ebB := s.mg.ebB, log := s.mg.log,
                          ownerKey := s.mg.ownerKey, deviceKey := s.mg.deviceKey, erases := s.mg.erases, staged := s.mg.staged, logSeq := s.mg.logSeq }
    sp := { Sp.reset with bad := s.sp.bad, rows := s.sp.rows, retLn := s.sp.retLn, retMs := s.sp.retMs, msSpare := s.sp.msSpare }
    crp := { Crp.reset with vio33 := s.crp.vio33, rstLow := s.crp.rstLow, tr := s.tb.mono + 10000, nonce := s.crp.nonce + 1 }
    wire := s.wire
    readData := s.readData
    freeIdx := s.freeIdx + 1
    pending := s.pending }
  keep.foldl (fun t f => t.wr f (s.rd f)) base

/-- Outputs that were driven high fall to their pull-downs (R515). -/
def State.padsOff (s : State) : State :=
  (List.range 4).foldl (fun s n => s.toutOff n) (if s.tb.ppsOutEnd.isSome then s.ppsPin false else s)

/-- A chip reset (R485, R491, R492). -/
def State.chipReset (s : State) : State :=
  let s1 := s.padsOff.restart (norFields ++ chipFields)
  { s1 with crp := { s1.crp with again := true } }

/-- CL_LAST_RESET and its DT (R426). -/
def State.lastReset (s : State) (kind src inst : Nat) : State :=
  ((((s.wr F.CL_LAST_RESET_VALID 1).wr F.CL_LAST_RESET_KIND kind).wr F.CL_LAST_RESET_SOURCE src).wr F.CL_LAST_RESET_INST inst).wr64
    F.CL_LAST_RESET_DT_LO F.CL_LAST_RESET_DT_HI s.dt

/-- Ask for a chip reset by register or reaction: the cause is recorded, an acting twin releases first (R426, R491). During a chip
reset nothing further happens (R494). -/
def State.chipRequest (s : State) (kind src inst : Nat) : State :=
  if s.crp.chipReq ∨ s.crp.off ∨ s.crp.rstLow ∨ s.tb.mono < s.crp.tr then s
  else
    let s1 := (s.lastReset kind src inst).sendRelease
    { s1 with crp := { s1.crp with chipReq := true } }

/-- A write of CRP_CHIP_RST: a wrong KEY is counted (R494); ADM on GCTL (R390, R496). -/
def State.chipRst (s : State) (m key : Nat) (go : Bool) : State :=
  if !go then s
  else if key % 256 ≠ 0xC3 then s.inc F.CRP_BLK_REJ
  else if s.may 0 m permADM then s.chipRequest 2 0 0
  else s.deny 3 m 0 0x14

/-- A write of CRP_CHIP_RST (R491). -/
def execChipResetRegister (m key : Nat) (go : Bool) (s : State) : Out := .next (s.busW m 0x10014 (fun s => s.chipRst m key go))

/-- The requested chip reset is carried out. -/
def execChipReset (s : State) : Out := .next (if s.crp.chipReq then s.chipReset else s)

/-- The main side is off (R406, R481): nothing but fuses and NOR keeps its content. -/
def State.powerOff (s : State) : State :=
  let s1 := s.padsOff.restart norFields
  { (s1.wr F.CRP_PWR_STATUS_STATE pwOff) with crp := { s1.crp with off := true, pwrGood := false } }

/-- Power-on (R485, R488): straight to the reset of the whole module. -/
def State.powerOn (s : State) : State :=
  let s1 := s.restart norFields
  { s1 with crp := { s1.crp with tr := s1.tb.mono } }

/-- Does VIO hold its level? While it does not, RESET_N and PERST# keep their last sampled levels (R525). -/
def State.vioOk (s : State) : Bool := !decide ((Src.VIO_FAULT, 1) ∈ s.cl.conds)

/-- RESET_N has been low for 10 µs (R483): a chip reset of KIND 3; in OFF, power-on. -/
def execResetNAssert (s : State) : Out :=
  let low (s : State) : State := { s with crp := { s.crp with rstLow := true } }
  .next (if !s.vioOk ∨ s.crp.rstLow then s
  else if s.crp.off then low s.powerOn
  else if s.tb.mono < s.crp.tr then low s
  else low (s.lastReset 3 0 0).chipReset)

/-- RESET_N is high again: t_r follows 10 µs later (R485). -/
def execResetNRelease (s : State) : Out :=
  .next (if s.vioOk ∧ s.crp.rstLow then { s with crp := { s.crp with rstLow := false, tr := s.tb.mono + 10000 } } else s)

/-- VMAIN below 9.5 V (R481). -/
def execVmainLoss (s : State) : Out := .next (if s.crp.off then s else s.powerOff)

/-- VMAIN reaches 10.8 V with VIO in range; the VIO level is detected (R481, R485). -/
def execPowerOn (vio33 : Bool) (s : State) : Out :=
  .next (if s.crp.off then
    let s1 := s.powerOn
    { s1 with crp := { s1.crp with vio33 := vio33 } }
  else s)

/-! Functions (R320, R346, R162, R249, R386, R360, R489, R490). -/

/-- Is the module ready (R486)? -/
def State.ready (s : State) : Bool := s.rd F.CRP_BOOT_PHASE == 6

/-- A function-level reset of function `fn`. -/
def State.flr (s : State) (fn : Nat) : State :=
  let m := 0x20 + fn
  let s1 := (s.queuesFlr m).freeSubsOf m
  let mine := (List.range 1024).filter (fun q => s.sqOwner q == m)
  let s2 := { s1 with lt := { s1.lt with qpause := mine.foldl (fun l q => Sparse.put none l q none) s1.lt.qpause } }
  let s3 := ((s2.dmaFlr m).holderGone m).mbMasterReset m
  let s4 := if fn = 0 then s3.servoToFirmware
    else ((s3.wr (F.VF_CQ_ERR_VALID (fn - 1)) 0).wr (F.VF_CQ_ERR_ERR (fn - 1)) 0).wr (F.VF_CQ_ERR_CQ (fn - 1)) 0
  { s4 with pcie := { s4.pcie with
    rxHold := s4.pcie.rxHold.filter (fun x => x.2 != m), bme := putBits s4.pcie.bme fn 1 0, mse := putBits s4.pcie.mse fn 1 0, vfe := s4.pcie.vfe && fn != 0, fmask := putBits s4.pcie.fmask fn 1 0,
    msixTab := s4.pcie.msixTab.filter (fun x => x.1 / 1024 != fn), msixPend := s4.pcie.msixPend.filter (fun x => x / 256 != fn),
    flr := (fn, s4.tb.mono) :: s4.pcie.flr.filter (fun x => x.1 != fn) } }

/-- The host resets one function; before readiness it cannot. -/
def execFunctionLevelReset (fn : Fin 16) (s : State) : Out := .next (if s.ready then s.flr fn.val else s)

/-- The function answers again. -/
def execFlrDone (fn : Fin 16) (s : State) : Out :=
  .next { s with pcie := { s.pcie with flr := s.pcie.flr.filter (fun x => x.1 != fn.val) } }

/-- The link is gone (R495). -/
def State.linkGone (s : State) : State :=
  let s1 := ((s.wr F.CRP_PCIE_STAT_LINK_UP 0).wr F.CRP_PCIE_STAT_WIDTH 0).wr F.CRP_PCIE_STAT_SPEED 0
  { s1 with pcie := { s1.pcie with l12 := false } }

/-- PERST# is asserted (R489, R495): in a module that is ready, every function is reset and the writes that wait are discarded. -/
def execPerstAssert (s : State) : Out :=
  .next (if !s.vioOk ∨ s.crp.off ∨ s.on F.CRP_PCIE_STAT_PERST then s
  else
    let s1 := (s.linkGone.wr F.CRP_PCIE_STAT_PERST 1).onset Src.PCIE_LINK_DOWN 0xFF 0
    if s.ready then
      let s2 := (List.range 16).foldl (fun s fn => s.flr fn) (s1.inc F.CRP_PERST_CNT)
      s2.pcie.rxHold.foldl (fun s x => s.releaseHold x.1 x.2) { s2 with pcie := { s2.pcie with held := [], heldAt := 0, rxHold := [], wakeAsked := false } }
    else s1)

/-- PERST# is deasserted; the host drives its reference clock. -/
def execPerstDeassert (s : State) : Out :=
  .next (if s.vioOk ∧ ¬ s.crp.off ∧ s.on F.CRP_PCIE_STAT_PERST then
    let s1 := (s.wr F.CRP_PCIE_STAT_PERST 0).wr F.CRP_CLK_STATUS_PCIE_REFCLK 1
    if s.ready then s1 else s1.condEnd Src.PCIE_LINK_DOWN 0xFF
  else s)

/-- The writes that wait leave in order, and their receive queues' owners let go of the frames (R359, R409). -/
def State.heldLeave (s : State) : State :=
  let s1 := { s with pcie := { s.pcie with out := s.pcie.out ++ s.pcie.held, held := [], heldAt := 0, rxHold := [], wakeAsked := false } }
  s.pcie.rxHold.foldl (fun s x => s.releaseHold x.1 x.2) s1

/-- The link is up with `width` lanes at generation `speed` (R495). -/
def execPcieLinkUp (width speed : Nat) (s : State) : Out :=
  .next (if s.on F.CRP_PCIE_STAT_PERST ∨ s.crp.off ∨ s.crp.rstLow then s
  else
    ((((s.wr F.CRP_PCIE_STAT_LINK_UP 1).wr F.CRP_PCIE_STAT_WIDTH width).wr F.CRP_PCIE_STAT_SPEED speed).wr
      F.CRP_CLK_STATUS_PCIE_REFCLK 1).condEnd Src.PCIE_LINK_DOWN 0xFF |>.heldLeave)

/-- The link is lost (R495). -/
def execPcieLinkDown (s : State) : Out :=
  let s1 := s.linkGone
  .next (if s.ready ∧ ¬ s.on F.CRP_PCIE_STAT_PERST then s1.onset Src.PCIE_LINK_DOWN 0xFF 0 else s1)

/-- The PCIe controller detects an error of a function (R495). -/
def execPcieError (fn : Fin 16) (uncorr : Bool) (s : State) : Out :=
  .next (s.raise (if uncorr then Src.PCIE_UNCORR else Src.PCIE_CORR) (0x20 + fn.val) none 0)

/-! L1.2 (R407, R409). -/

def execLinkEntersL12 (s : State) : Out :=
  .next (if (s.power = pwTrim ∨ s.power = pwHold) ∧ s.on F.CRP_PCIE_STAT_LINK_UP then
    { s with pcie := { s.pcie with l12 := true, wakeAsked := false } } else s)

def execLinkExitsL12 (s : State) : Out :=
  .next (if s.pcie.l12 then ({ s with pcie := { s.pcie with l12 := false } }).heldLeave else s)

/-- WAKE_US after the first write that waits, the module asks for the link's exit. -/
def execLinkWakeRequest (s : State) : Out :=
  .next (if s.pcie.l12 ∧ ¬ s.pcie.wakeAsked ∧ s.pcie.held ≠ [] ∧ s.pcie.heldAt + max 1 (s.rd F.CRP_PWR_CFG_WAKE_US) * 1000 ≤ s.tb.mono then
    ({ s with pcie := { s.pcie with wakeAsked := true } }).inc F.CRP_TRIM_WAKE
  else s)

/-! Configuration requests (R486, R497). -/

/-- Does a configuration request of a function get an answer (R486, R490)? -/
def State.cfgAnswers (s : State) (fn : Nat) : Bool :=
  s.ready && !s.on F.CRP_PCIE_STAT_PERST && !s.pcie.flr.any (fun x => x.1 == fn) && (fn == 0 || s.pcie.vfe)

/-- A word of a function's configuration space: the identity of R7 (word 0 device and vendor, word 2 class code and revision), and in word 1
the two enables of R497 at the places of the PCI Express specification (log entry 79); every other bit is a free value. -/
def State.cfgWord (s : State) (fn word : Nat) : Nat :=
  let f := (Config.freeWord s.freeIdx).toNat
  match word with
  | 0 => (if fn = 0 then 0x9640 else 0x9641) * 65536 + Config.vendorId.toNat % 65536
  | 1 => putBits (putBits f 1 1 (bits s.pcie.mse fn 1)) 2 1 (bits s.pcie.bme fn 1)
  | 2 => 0x028000 * 256 + 0x01
  | _ => f

/-- A configuration read: Retry Status and no data while the module is not ready or the function in reset (R486), else the word. -/
def execConfigRetry (x : CfgRead) (s : State) : Out :=
  .next (if s.cfgAnswers x.fn.val then { s with readData := [BitVec.ofNat 32 (s.cfgWord x.fn.val x.word.val)], freeIdx := s.freeIdx + 1 }
    else { s with readData := [] })

/-- The Function Mask of MSI-X is written; when it falls, the pending vectors that nothing masks any more are sent (R321). -/
def State.funMask (s : State) (fn : Nat) (b : Bool) : State :=
  let s1 := { s with pcie := { s.pcie with fmask := putBits s.pcie.fmask fn 1 b.toNat } }
  (s1.pcie.msixPend.filter (fun k => decide (k / 256 = fn) && !s1.msixMasked fn (k % 256))).foldl
    (fun s k => ({ s with pcie := { s.pcie with msixPend := s.pcie.msixPend.erase k } }).toHost (.msix fn (k % 256))) s1

/-- Bus Master Enable, Memory Space Enable and the VF enable (R497), and the Function Mask (R321). -/
def execConfigurationWrite (fn : Fin 16) (w : CfgWrite) (s : State) : Out :=
  .next (if s.cfgAnswers fn.val then
    match w with
    | .busMaster b => { s with pcie := { s.pcie with bme := putBits s.pcie.bme fn.val 1 b.toNat } }
    | .memSpace b => { s with pcie := { s.pcie with mse := putBits s.pcie.mse fn.val 1 b.toNat } }
    | .vfEnable b => if fn.val = 0 then { s with pcie := { s.pcie with vfe := b } } else s
    | .msixMask b => s.funMask fn.val b
  else s)

/-! Supplies and clocks (R482, R495). -/

def execSupplyFault (x : Supply) (s : State) : Out :=
  .next (match x with
  | .vmainLow => s.onset Src.VMAIN_UV 0 0
  | .vmainHigh => s.onset Src.VMAIN_OV 0 0
  | .vio => s.onset Src.VIO_FAULT 1 0
  | .rail i => if 2 ≤ i ∧ i ≤ 6 then { (s.onset Src.RAIL_FAULT i 0) with crp := { s.crp with pwrGood := false } } else s)

def execRefLoss (s : State) : Out := .next ((s.wr F.CRP_CLK_STATUS_REF_OK 0).onset Src.REF_LOSS 0xFF 0)

/-- The lock bit of a PLL by its place in CRP_CLK_STATUS (R496). -/
def pllFld : Nat → Option Fld
  | 30 => some F.CRP_CLK_STATUS_PLL_CORE
  | 29 => some F.CRP_CLK_STATUS_PLL_TIME
  | 28 => some F.CRP_CLK_STATUS_PLL_MGMT
  | 27 => some F.CRP_CLK_STATUS_PLL_DRAM
  | 26 => some F.CRP_CLK_STATUS_PLL_SERDES
  | _ => none

def execPllUnlock (bit : Nat) (s : State) : Out :=
  .next (match pllFld bit with
  | some f => (s.wr f 0).onset Src.PLL_UNLOCK bit 0
  | none => s)

def execPcieRefclkLoss (s : State) : Out :=
  let s1 := s.wr F.CRP_CLK_STATUS_PCIE_REFCLK 0
  .next (if s.on F.CRP_PCIE_STAT_PERST then s1 else s1.onset Src.PCIE_REFCLK_LOSS 0xFF 0)

end Sys2Proof.Machine
end

