-- ==== Sys2Proof/Machine/Cellar.lean ====
section
/-!
DEFINITION. CELLAR: the raises of one core cycle, their order, the book, the reactions, settling windows, holds and the fault state
(R416 to R434).
Where the manual leaves a point open, the choices are log entries 15, 55, 75 (DEDUCED).
-/

namespace Sys2Proof.Machine

/-! The configuration of a source (R418, R419). -/

/-- What CL_SRC_CFG_n says. -/
structure SrcCfg where
  en : Bool
  sev : Nat
  irq : Bool
  nmi : Bool
  blkrst : Bool
  chiprst : Bool
  errpad : Bool
  blk : Nat
deriving DecidableEq, Repr

/-- The word of CL_SRC_CFG_n; after a parity error that of CRITICAL with IRQ, NMI and ERRPAD (R419). -/
def State.srcWord (s : State) (n : Nat) : Nat :=
  if n ∈ s.cl.parity then 0x80FF1303
  else s.rd (F.CL_SRC_CFG_n_EN n) * 2 ^ 31 + s.rd (F.CL_SRC_CFG_n_BLK n) * 2 ^ 16 + s.rd (F.CL_SRC_CFG_n_ERRPAD n) * 2 ^ 12
    + s.rd (F.CL_SRC_CFG_n_CHIPRST n) * 2 ^ 11 + s.rd (F.CL_SRC_CFG_n_BLKRST n) * 2 ^ 10 + s.rd (F.CL_SRC_CFG_n_NMI n) * 2 ^ 9
    + s.rd (F.CL_SRC_CFG_n_IRQ n) * 2 ^ 8 + s.rd (F.CL_SRC_CFG_n_SEV n)

/-- The fields of a configuration word. -/
def SrcCfg.ofWord (v : Nat) : SrcCfg :=
  ⟨bitOn v 31, bits v 0 2, bitOn v 8, bitOn v 9, bitOn v 10, bitOn v 11, bitOn v 12, bits v 16 8⟩

/-- The configuration in force: in the core cycle of a write still the former one (R419). -/
def State.srcCfg (s : State) (n : Nat) : SrcCfg := SrcCfg.ofWord ((Sparse.get none s.cl.cfgOld n).getD (s.srcWord n))

/-- FAULT_MIN of the core cycle (R431). -/
def State.faultMin (s : State) : Nat := s.cl.minOld.getD (s.rd F.CL_CTRL_FAULT_MIN)

/-- Is a source one of MASH's own (R493)? -/
def mashSrc (n : Nat) : Bool := n == Src.MEM_UE_MASH || (decide (62 ≤ n) && decide (n ≤ 65))

/-- The block that a reaction of this source resets (R493). -/
def reactBlk (n blk : Nat) : Nat := if blk = 0x0D ∧ mashSrc n then 22 else blk

/-- The block of a source (R416); none is 0xFF. -/
def srcBlock (n inst : Nat) : Nat :=
  if n ≤ 15 then 0xFF
  else if n ≤ 24 then 2
  else if n ≤ 32 then (if inst = 1 then 4 else 3)
  else if n ≤ 44 then 5
  else if n ≤ 50 then 6
  else if n ≤ 57 then 7
  else if n ≤ 61 then 13
  else if n ≤ 65 then 22
  else if n ≤ 68 then 8
  else if n ≤ 70 then 9
  else if n ≤ 72 then 10
  else if n ≤ 83 then 18
  else if n ≤ 89 then 14
  else if n ≤ 92 then 15
  else if n ≤ 96 then 11
  else if n ≤ 97 then 12
  else if n ≤ 99 then 16
  else if n ≤ 102 then 0x13
  else if n ≤ 117 then [2, 6, 7, 13, 22, 8, 9, 10, 11, 12, 14, 15, 16, 18, 0x13].getD (n - 103) 0xFF
  else if n ≤ 122 then 0xFF
  else if n ≤ 141 then 20
  else 21

/-- The blocks whose sources the window of a reset covers (R429). -/
def covered : Nat → List Nat
  | 2 => [2, 6, 7, 22, 18]
  | 3 => [3, 7, 8, 9, 18]
  | 4 => [4, 7, 8, 9, 18]
  | 5 => [5, 7]
  | 6 => [6, 7, 22]
  | 7 => [7, 22, 14, 11]
  | 8 => [8, 9, 13]
  | 10 => [10, 7]
  | 11 => [11, 12, 7, 14, 3, 4, 5]
  | 13 => [13, 22, 18]
  | 14 => [14, 15, 11]
  | 15 => [15, 14]
  | 18 => [18, 22]
  | 20 => [20, 21, 2]
  | 21 => [20, 21, 2]
  | 22 => [22, 7]
  | b => [b]

/-- Is a settling window open that covers the source (R428, R429)? -/
def State.conseq (s : State) (n inst : Nat) : Bool :=
  s.cl.settle.any (fun w =>
    (match w.2 with | none => true | some t => decide (s.tb.mono < t))
      && ((covered w.1).contains (srcBlock n inst) || (w.1 == 5 && n == Src.TB_FOLLOWER_UNLOCK)))

/-! One raise. -/

/-- A raise with the configuration and the consequence that its cycle gives it. -/
structure Hit where
  r : Raise
  cfg : SrcCfg
  conseq : Bool
deriving DecidableEq, Repr

def State.hit (s : State) (r : Raise) : Hit :=
  let c := s.srcCfg r.src
  ⟨r, c, c.sev != 3 && s.conseq r.src r.inst⟩

/-- Does a raise ask for reactions: its source is enabled and it is no consequence (R417, R428)? -/
def Hit.acts (h : Hit) : Bool := h.cfg.en && !h.conseq

/-- Does it ask for a block reset, and of which block? -/
def Hit.wantBlk (h : Hit) : Option Nat := if h.acts && h.cfg.blkrst && h.cfg.blk != 0xFF then some (reactBlk h.r.src h.cfg.blk) else none

/-- The order of a cycle (R420): severity, source number, instance; of GCTL's own two sources the lower master first (R505). -/
def Hit.before (a b : Hit) : Bool :=
  decide (b.cfg.sev < a.cfg.sev) || (a.cfg.sev == b.cfg.sev && (decide (a.r.src < b.r.src) || (a.r.src == b.r.src
    && (decide (a.r.inst < b.r.inst)
      || (a.r.inst == b.r.inst && decide (a.r.src ≤ Src.CFG_WHILE_RUNNING) && decide (a.r.master.getD 0 < b.r.master.getD 0))))))

def hitInsert (x : Hit) : List Hit → List Hit
  | [] => [x]
  | y :: t => if x.before y then x :: y :: t else y :: hitInsert x t

/-- The raises of a cycle in order; equal ones in the order of their detection. -/
def State.hits (s : State) (l : List Raise) : List Hit := l.foldl (fun a r => hitInsert (s.hit r) a) []

/-! The book (R421, R422). -/

/-- Remove the oldest entry whose severity is not higher than `sev`; it and the rest. -/
def bookMakeRoom (sev : Nat) : List BookEntry → Option (BookEntry × List BookEntry)
  | [] => none
  | e :: t => if e.sev ≤ sev then some (e, t) else (bookMakeRoom sev t).map (fun x => (x.1, e :: x.2))

/-- The book has been full: BOOK_OVF and CL_BOOK_OVF, with the source that was not kept. -/
def State.bookOvf (s : State) (src : Nat) : State := (s.wr F.CL_STATUS_BOOK_OVF 1).raise0 Src.CL_BOOK_OVF src

/-- A new entry; in a full book it takes the place of another, or is not kept. -/
def State.bookNew (s : State) (h : Hit) (react blk : Nat) : State :=
  let e : BookEntry := { dt := s.dt, src := h.r.src, sev := h.cfg.sev, conseq := h.conseq, inject := h.r.inject, coal := false,
                         react := react, master := h.r.master, inst := h.r.inst, blk := blk, repeats := 0, info := h.r.info,
                         seq := s.cl.seq, last := s.dt }
  let s1 := { s with cl := { s.cl with seq := (s.cl.seq + 1) % 2 ^ 32 } }
  if s.cl.book.length < 16 then { s1 with cl := { s1.cl with book := s1.cl.book ++ [e] } }
  else match bookMakeRoom h.cfg.sev s.cl.book with
    | some (old, rest) => ({ s1 with cl := { s1.cl with book := rest ++ [e] } }).bookOvf old.src
    | none => s1.bookOvf h.r.src

/-- A raise enters the book: it is coalesced into the newest entry, or makes a new one. -/
def State.bookAdd (s : State) (h : Hit) (react blk : Nat) : State :=
  match s.cl.book.getLast? with
  | some e =>
    if e.src = h.r.src ∧ e.inst = h.r.inst ∧ e.conseq = h.conseq then
      let e1 := { e with repeats := min 65535 (e.repeats + 1), last := s.dt, coal := true }
      { s with cl := { s.cl with book := s.cl.book.dropLast ++ [e1] } }
    else s.bookNew h react blk
  | none => s.bookNew h react blk

/-! Reactions (R423 to R427, R430, R431). -/

/-- ALERT_N follows CL_PEND (R423). -/
def State.alertSet (s : State) : State :=
  { s with cl := { s.cl with alert := s.on F.CL_CTRL_ALERT_EN && (List.range 5).any (fun w => s.rd (F.CL_PEND_w w) != 0) } }

/-- IRQ of a cycle's sources: CL_PEND, and one message if a bit has become 1 (R423). -/
def State.irqReact (s : State) (srcs : List Nat) : State :=
  let fresh := srcs.any (fun n => bits (s.rd (F.CL_PEND_w (n / 32))) (n % 32) 1 == 0)
  let s0 := srcs.foldl (fun s n => s.wrBit (F.CL_PEND_w (n / 32)) (n % 32) true) s
  let s1 := { s0 with cl := { s0.cl with pendNow := s0.cl.pendNow ++ srcs } }
  (if fresh then s1.sendEvent 1 else s1).alertSet

/-- A write of CL_PEND: a bit that a raise of the same core cycle has set stays set (R423). -/
def State.pendWrite (s : State) (w v : Nat) : State :=
  ((List.range 32).foldl (fun s j =>
    if bitOn v j ∧ w * 32 + j ∉ s.cl.pendNow then s.wrBit (F.CL_PEND_w w) j false else s) s).alertSet

/-- ERRPAD (R427): a release that waits or that came in the same core cycle is cancelled; the minimum width begins only with the pad's
fall. -/
def State.errPad (s : State) : State :=
  let s0 := s.wr F.CL_STATUS_REL_PEND 0
  let s1 := { s0 with cl := { s0.cl with padNow := true } }
  if s.on F.CL_STATUS_ERR_PAD then s1
  else if s.cl.rose then s1.wr F.CL_STATUS_ERR_PAD 1
  else { ((s1.wr F.CL_STATUS_ERR_PAD 1).wr F.CL_STATUS_PULSE 1) with cl := { s1.cl with padAt := s1.tb.mono } }

/-- CL_ERR_WIDTH in ns (R434). -/
def State.errWidth (s : State) : Nat := max 1 (min 10000 (s.rd F.CL_ERR_WIDTH)) * 1000

/-- The reaction resets of a block within the storm window (R430). -/
def State.stormCount (s : State) (b : Nat) : Nat :=
  s.cl.resets.countP (fun x => x.1 == b && decide (s.tb.mono < x.2 + max 1 (s.rd F.CL_STORM_CFG_WINDOW_MS) * 1000000))
def State.stormed (s : State) (b : Nat) : Bool := decide (max 1 (s.rd F.CL_STORM_CFG_COUNT) ≤ s.stormCount b)

/-- Is a reaction reset of a block carried out: the block is not in reset, and it is not one too many (R425, R430)? -/
def State.blkCarried (s : State) (b : Nat) : Bool := !neverReset b && !s.inReset b && !s.stormed b

/-- The reaction reset of a block, or its hold (R425, R430). -/
def State.blkReact (s : State) (b : Nat) : State :=
  if neverReset b || s.inReset b then s
  else if s.stormed b then
    let n := s.stormCount b
    ((s.blockReset b true).wrBit F.CL_HELD (heldBit b) true).raise Src.CL_STORM (heldBit b) none n
  else ({ s with cl := { s.cl with resets := (b, s.tb.mono) :: s.cl.resets } }).blockReset b true

/-- The fault state begins or goes on (R431). -/
def State.faultHit (s : State) : State :=
  let s1 := if s.on F.CL_STATUS_FAULT then s else (s.wr F.CL_STATUS_FAULT 1).inc F.CL_FAULT_CNT
  { s1 with cl := { s1.cl with faultAt := s1.tb.mono } }

/-- REACT of an entry: what its raise asks for and the cycle carries out (R420). -/
def State.reactOf (s : State) (h : Hit) (chip : Bool) : Nat × Nat :=
  if !h.acts then (0, 0xFF)
  else
    let b := match h.wantBlk with | some b => !chip && s.blkCarried b | none => false
    (h.cfg.irq.toNat + h.cfg.nmi.toNat * 2 + b.toNat * 4 + h.cfg.chiprst.toNat * 8 + h.cfg.errpad.toNat * 16,
     if b then h.cfg.blk else 0xFF)

/-- What a raise does on its own: it is counted and shown, enters the book, and holds the fault state (R417, R421, R431). -/
def State.hitOne (s : State) (h : Hit) (rb : Nat × Nat) : State :=
  let n := h.r.src
  let s1 := s.inc (F.CL_SRC_CNT_n n)
  let s2 := if s.cond n then s1.wrBit (F.CL_ACTIVE_w (n / 32)) (n % 32) true else s1
  if !h.cfg.en then s2
  else
    let s3 := if n = Src.CL_BOOK_OVF then s2 else s2.bookAdd h rb.1 rb.2
    if h.conseq then s3
    else
      let s4 := if h.cfg.sev = 3 then
        { s3 with cl := { s3.cl with crits := s3.tb.mono :: s3.cl.crits.filter (fun t => decide (s3.tb.mono < t + 1000000000)) } } else s3
      if s4.faultMin ≤ h.cfg.sev then s4.faultHit else s4

/-- What the detection of an error means elsewhere: a parity error changes its source's handling (R419); uncorrectable errors and
unresolved mismatches show in the twin's self-tests (R282); corrected errors are counted for R449. -/
def State.detected (s : State) (r : Raise) : State :=
  if r.src = Src.CL_PARITY ∧ ¬ r.inject then
    { s with cl := { s.cl with parity := if r.info ∈ s.cl.parity ∨ 160 ≤ r.info then s.cl.parity else r.info :: s.cl.parity } }
  else if Src.MEM_UE_TBASE ≤ r.src ∧ r.src ≤ Src.MEM_UE_ACCESS then { s with tw := { s.tw with ueAt := some s.tb.mono } }
  else if r.src = Src.TB_SHADOW_UNRES then { s with tw := { s.tw with unresAt := some s.tb.mono } }
  else if r.src = Src.SRAM_CE ∨ r.src = Src.DRAM_CE then
    { s with sp := { s.sp with errs := (s.tb.mono, r.src, r.info) :: s.sp.errs.filter (fun x => decide (s.tb.mono < x.1 + 86400000000000)) } }
  else s

/-- The raises that reach CELLAR in one core cycle (R417, R420). A watchdog or exception in a trial brings the previous firmware back
(R443). -/
def State.cycle (s : State) (l : List Raise) : State :=
  let s0 := l.foldl (fun s r => s.detected r) s
  let hs := s0.hits l
  let acting := hs.filter (fun h => h.acts)
  let chip := acting.find? (fun h => h.cfg.chiprst)
  let blks := ((acting.filterMap (fun h => h.wantBlk)).eraseDups)
  let s1 := hs.foldl (fun t h => t.hitOne h (s0.reactOf h chip.isSome)) s0
  let s2 := s1.irqReact ((acting.filter (fun h => h.cfg.irq)).map (fun h => h.r.src))
  let s3 := if acting.any (fun h => h.cfg.errpad) then s2.errPad else s2
  let s4 := if acting.any (fun h => h.cfg.nmi) ∧ s3.fwRuns then s3.logMissed else s3
  let revert := l.any (fun r => r.src == Src.MG_WDT || r.src == Src.MG_EXC) && s4.mgState == mgTrial
  let s5 := if revert then s4.mgRevert else s4
  match chip with
  | some h => s5.chipRequest 1 h.r.src h.r.inst
  | none =>
    let s6 := blks.foldl (fun s b => s.blkReact b) s5
    if revert then s6.blockReset 20 true else s6

/-- The oldest `n` raises on their way reach CELLAR in one core cycle, with those that `more` names: errors that hardware detects. -/
def execFaultRaise (n : Nat) (more : List Raise) (s : State) : Out :=
  let l := s.cl.inbox.take n ++ (more.filter (fun r => decide (r.src < 160))).map (fun r => { r with inject := false })
  .next (({ s with cl := { s.cl with inbox := s.cl.inbox.drop n } }).cycle l)

/-- A condition ends (R417); a supply or clock that returns shows again (R482, R496). -/
def State.condOver (s : State) (src inst : Nat) : State :=
  let s1 := s.condEnd src inst
  if src = Src.REF_LOSS then s1.wr F.CRP_CLK_STATUS_REF_OK 1
  else if src = Src.PLL_UNLOCK then (match pllFld inst with | some f => s1.wr f 1 | none => s1)
  else if src = Src.PCIE_REFCLK_LOSS then s1.wr F.CRP_CLK_STATUS_PCIE_REFCLK 1
  else if src = Src.RAIL_FAULT ∧ ¬ s1.cond Src.RAIL_FAULT then { s1 with crp := { s1.crp with pwrGood := !s1.crp.off } }
  else s1

def execConditionEnd (src inst : Nat) (s : State) : Out :=
  .next (if (src, inst) ∈ s.cl.conds then s.condOver src inst else s)

/-- A settling window closes (R428). -/
def execSettleWindowEnd (b : Fin 23) (s : State) : Out :=
  .next { s with cl := { s.cl with settle := s.cl.settle.filter (fun w =>
    !(w.1 == b.val && (match w.2 with | none => false | some t => decide (t ≤ s.tb.mono)))) } }

/-- The fault state ends (R431). -/
def State.faultOver (s : State) : Bool :=
  s.on F.CL_STATUS_FAULT && decide (s.cl.faultAt + max 1 (s.rd F.CL_QUIET) * 1000000 ≤ s.tb.mono)
    && !s.cl.conds.any (fun c => (s.srcCfg c.1).en && decide (s.faultMin ≤ (s.srcCfg c.1).sev))

def execFaultQuietExpiry (s : State) : Out :=
  .next (if s.faultOver then (s.wr F.CL_STATUS_FAULT 0).inc F.CL_RECOVER_CNT else s)

/-- ERR_N rises (R427). -/
def State.errRise (s : State) : State := (s.wr F.CL_STATUS_REL_PEND 0).wr F.CL_STATUS_ERR_PAD 0

/-- The minimum width is over. -/
def execErrWidthExpiry (s : State) : Out :=
  .next (if s.on F.CL_STATUS_PULSE ∧ s.cl.padAt + s.errWidth ≤ s.tb.mono then
    let s1 := s.wr F.CL_STATUS_PULSE 0
    if s.on F.CL_STATUS_REL_PEND then s1.errRise else s1
  else s)

/-- CL_CTRL.ERR_RELEASE; an ERRPAD of the same core cycle cancels it (R427). -/
def State.errRelease (s : State) : State :=
  if s.cl.padNow ∨ ¬ s.on F.CL_STATUS_ERR_PAD then s
  else if s.on F.CL_STATUS_PULSE then s.wr F.CL_STATUS_REL_PEND 1
  else { s.errRise with cl := { s.errRise.cl with rose := true } }

def execErrRelease (m : Nat) (s : State) : Out := .next (s.busW m 0x110000 (fun s => s.errRelease))

/-- CL_CTRL.BOOK_POP (R422). -/
def State.bookPop (s : State) : State :=
  match s.cl.book with
  | [] => s
  | _ :: t => { s with cl := { s.cl with book := t, rdAt := (s.cl.rdAt + 1) % 16 } }

def execBookPop (m : Nat) (s : State) : Out := .next (s.busW m 0x110000 (fun s => s.bookPop))

/-- CL_CTRL.BOOK_CLEAR (R422). -/
def State.bookClear (s : State) : State :=
  { s with cl := { s.cl with book := [], rdAt := (s.cl.rdAt + s.cl.book.length) % 16 } }

def execBookClear (m : Nat) (s : State) : Out := .next (s.busW m 0x110000 (fun s => s.bookClear))

/-- CL_TEST (R432). -/
def State.faultInject (s : State) (m src : Nat) : State :=
  if src < 160 then { s with cl := { s.cl with inbox := s.cl.inbox ++ [⟨src, 0xFF, some m, 0, true⟩] } } else s

def execFaultInject (m src : Nat) (s : State) : Out := .next (s.busAdm m 0x110040 (fun s => s.faultInject m src))

/-- A write of CL_HELD: the holds of the bits written 1 end (R430). -/
def State.heldWrite (s : State) (v : Nat) : State :=
  ((List.range 22).filter (fun t => bits v t 1 == 1)).foldl (fun s t => s.holdEnd t) s

def execBlockHoldEnd (m : Nat) (v : Word) (s : State) : Out := .next (s.busW m 0x110018 (fun s => s.heldWrite v.toNat))

/-- The BLK that a write stores (R419). -/
def storedBlk (b : Nat) : Nat := if neverReset b || decide (0x15 < b) then 0xFF else b

/-- A write of CL_CTRL's FAULT_MIN, which the fault state's test sees from the next core cycle on (R431). -/
def State.faultMinKeep (s : State) : State := { s with cl := { s.cl with minOld := some s.faultMin } }

/-- A write of CL_SRC_CFG_n for the raises of later core cycles; it ends the handling after a parity error (R419). -/
def State.srcCfgWrite (s : State) (n v : Nat) : State :=
  let s0 := { s with cl := { s.cl with cfgOld := Sparse.put none s.cl.cfgOld n (some ((Sparse.get none s.cl.cfgOld n).getD (s.srcWord n))) } }
  let s1 := ((((((((s0.wr (F.CL_SRC_CFG_n_EN n) (bits v 31 1)).wr (F.CL_SRC_CFG_n_BLK n) (storedBlk (bits v 16 8))).wr
    (F.CL_SRC_CFG_n_ERRPAD n) (bits v 12 1)).wr (F.CL_SRC_CFG_n_CHIPRST n) (bits v 11 1)).wr (F.CL_SRC_CFG_n_BLKRST n) (bits v 10 1)).wr
    (F.CL_SRC_CFG_n_NMI n) (bits v 9 1)).wr (F.CL_SRC_CFG_n_IRQ n) (bits v 8 1)).wr (F.CL_SRC_CFG_n_SEV n) (bits v 0 2))
  { s1 with cl := { s1.cl with parity := s1.cl.parity.filter (fun x => x != n) } }

def execSourceConfigWrite (m : Nat) (n : Fin 160) (v : Word) (s : State) : Out :=
  .next (s.busW m (0x110400 + 4 * n.val) (fun s => s.srcCfgWrite n.val v.toNat))

end Sys2Proof.Machine
end

