-- ==== Sys2Proof/Machine/Access.lean ====
section
/-!
DEFINITION. Access tables and their lock, authorisation tokens, the life-cycle, the debug port, and power states (R390 to R415).
Where the manual leaves a point open, the choices are log entries 17, 56, 57, 60, 72 (DEDUCED); 65, 73, 78 (DESIGN CHOICE).
-/

namespace Sys2Proof.Machine

/-! The tables (R394, R396). -/

/-- The entries of a table word that a write reaches: MGMT's, PF0's and the VFs'. DBG's, the internal masters' and those of
the reserved identities are read-only (R391, R393, R396). -/
def tblMask (w : Nat) : Nat := if w = 0 then 0x0000000F else if w = 4 ∨ w = 5 then 0xFFFFFFFF else 0

/-- A table write that is accepted; the checks of its core cycle still use the word as it stood (R395). -/
def State.tblSet (s : State) (t w v : Nat) : State :=
  { s.wr (F.AC_TBL_t_w t w) (v &&& tblMask w) with crp := { s.crp with tblOld := Sparse.put none s.crp.tblOld (t * 8 + w) (some (s.tblWord t w)) } }

/-- A write of a table word: MGMT's while the tables are not locked, otherwise refused (R394). -/
def State.tblWrite (s : State) (m t w v : Nat) : State :=
  if m = 0 ∧ ¬ s.on F.AC_STATUS_LOCKED then s.tblSet t w v else (s.inc F.AC_LOCK_REJ).raise0 Src.AC_TBL_LOCKED 0

def execAccessTableWrite (m : Nat) (t : Fin 22) (w : Fin 8) (v : Word) (s : State) : Out :=
  .next (s.busW m (0x131000 + 0x20 * t.val + 4 * w.val) (fun s => s.tblWrite m t.val w.val v.toNat))

/-- The tables are locked; with the bindings, start-up reaches PHASE 5 (R485). -/
def State.lockTables (s : State) : State :=
  let s1 := (s.wr F.AC_CTRL_LOCK 1).wr F.AC_STATUS_LOCKED 1
  if s1.rd F.CRP_BOOT_PHASE = 4 ∧ s1.on F.MB_CTRL_BIND_LOCK then s1.wr F.CRP_BOOT_PHASE 5 else s1

/-- AC_CTRL.LOCK is MGMT's (R394). -/
def State.tblLock (s : State) (m : Nat) : State := if m = 0 then s.lockTables else s

def execTableLock (m : Nat) (s : State) : Out := .next (s.busW m 0x130000 (fun s => s.tblLock m))

/-! Debug level (R404, R405). -/

/-- Debug levels. -/
def dbgClosed : Nat := 0
def dbgDiag : Nat := 1
def dbgOpen : Nat := 2

/-- Life-cycle states (R397). -/
def lcFactory : Nat := 1
def lcOwned : Nat := 2
def lcField : Nat := 3
def lcReturn : Nat := 4
def lcRetired : Nat := 5

def State.lc (s : State) : Nat := s.rd F.AC_STATUS_LC
def State.dbg (s : State) : Nat := s.rd F.AC_STATUS_DBG

/-- The level after start-up, and after a level by token has ended. -/
def State.dbgStart (s : State) : State :=
  { (s.wr F.AC_STATUS_DBG (if s.lc = lcFactory then dbgOpen else dbgClosed)) with crp := { s.crp with dbgEnd := none, halted := false } }

/-- AC_CTRL.DBG_END, by PF0, MGMT or DBG (R405). -/
def State.dbgEndWrite (s : State) (m : Nat) : State := if m = 0x20 ∨ m = 0 ∨ m = 1 then s.dbgStart else s

/-- A write of AC_CTRL with DBG_END. -/
def execDbgEnd (m : Nat) (s : State) : Out := .next (s.busW m 0x130000 (fun s => s.dbgEndWrite m))

/-- The time of a token runs out. -/
def execDebugExpiry (s : State) : Out :=
  .next (match s.crp.dbgEnd with
  | some t => if t ≤ s.tb.mono then s.dbgStart else s
  | none => s)

/-! Tokens (R398 to R401, R404). -/

/-- CODE of AC_TOKEN_RESULT (R414). -/
def tkOk : Nat := 0
def tkSignature : Nat := 1
def tkSerial : Nat := 2
def tkNonce : Nat := 3
def tkNotAllowed : Nat := 4
def tkSigner : Nat := 5
def tkNoOwner : Nat := 6
def tkLimit : Nat := 7
def tkFormat : Nat := 8

def tkByte (t : List Byte) (i : Nat) : Nat := (t.getD i 0).toNat
def tkKind (t : List Byte) : Nat := tkByte t 1
def tkTo (t : List Byte) : Nat := tkByte t 3
def tkDuration (t : List Byte) : Nat := leNat (slice t 24 4)
def tkOwner (t : List Byte) : Bool := tkByte t 28 == 1

/-- Is the format valid (R399)? -/
def tkFormatOk (t : List Byte) : Bool :=
  decide (t.length = 112) && tkByte t 0 == 1 && (tkKind t == 1 || tkKind t == 2) && decide (tkByte t 28 ≤ 1)
    && (slice t 29 19).all (fun b => b == 0)
    && (if tkKind t = 1 then tkDuration t == 0 else decide (1 ≤ tkDuration t) && decide (tkDuration t ≤ 1440))

/-- The 12 characters of the serial number (R503). -/
def serialBytes : List Byte := ((List.range 3).map (fun n => leBytes 4 (Config.factoryWord n).toNat)).flatten

def State.nonce (s : State) : DWord := Config.nonce s.crp.nonce

/-- The owner's signature counts only with an owner key. -/
def State.ownerCode (s : State) : Nat := if s.mg.ownerKey.isSome then tkOk else tkNoOwner

/-- May the transition be made by this signer (R398, R401)? -/
def State.tkTransition (s : State) (dest : Nat) (owner : Bool) : Nat :=
  match s.lc, dest with
  | 1, 2 => if owner then tkSigner else tkOk
  | 2, 3 => if owner then s.ownerCode else tkSigner
  | 3, 2 => if ¬ owner then tkSigner else if 15 ≤ s.rd F.AC_STATUS_REOWN then tkLimit else s.ownerCode
  | 2, 4 | 3, 4 => if owner then s.ownerCode else if s.on F.AC_STATUS_RETURN_ARMED then tkOk else tkSigner
  | 2, 5 | 3, 5 => if owner then s.ownerCode else tkSigner
  | 1, 5 | 4, 5 => if owner then tkSigner else tkOk
  | _, _ => tkNotAllowed

/-- May the level be set by this signer (R404)? -/
def State.tkLevel (s : State) (dest : Nat) (owner : Bool) : Nat :=
  match s.lc, dest with
  | 1, 1 | 1, 2 => if owner then s.ownerCode else tkOk
  | 2, 1 => if owner then s.ownerCode else if s.mg.ownerKey.isSome then tkSigner else tkOk
  | 3, 1 => if owner then s.ownerCode else tkSigner
  | 4, 1 | 4, 2 => if owner then tkSigner else tkOk
  | _, _ => tkNotAllowed

/-- The result of a token's checks; `sig` says whether the signature verifies against the signer's key (R400). In RETIRED every token
gets code 4 (R411). -/
def State.tkCode (s : State) (t : List Byte) (sig : Bool) : Nat :=
  if s.lc = lcRetired then tkNotAllowed
  else if !tkFormatOk t then tkFormat
  else if tkByte t 2 ≠ s.lc then tkNotAllowed
  else if slice t 4 12 ≠ serialBytes then tkSerial
  else if leNat (slice t 16 8) ≠ s.nonce.toNat then tkNonce
  else
    let c := if tkKind t = 1 then s.tkTransition (tkTo t) (tkOwner t) else s.tkLevel (tkTo t) (tkOwner t)
    if c ≠ tkOk then c else if sig then tkOk else tkSignature

/-- What an accepted token does: it arms RETURN, orders a transition, or sets a debug level. -/
def State.tkAccept (s : State) (t : List Byte) : State :=
  if tkKind t = 1 then
    if tkTo t = lcReturn ∧ tkOwner t then s.wr F.AC_STATUS_RETURN_ARMED 1
    else { s with crp := { s.crp with lcNext := some (tkTo t) } }
  else { (s.wr F.AC_STATUS_DBG (tkTo t)) with crp := { s.crp with dbgEnd := some (s.tb.mono + tkDuration t * 60000000000) } }

/-- The evaluation of a token (R400): its result, a new nonce, and the log. -/
def State.tkEval (s : State) (t : List Byte) (sig : Bool) : State :=
  let c := s.tkCode t sig
  let s1 := if c = tkOk then s.tkAccept t else s.raise0 Src.AC_TOKEN_BAD c
  let s2 := (((s1.wr F.AC_TOKEN_RESULT_DONE 1).wr F.AC_TOKEN_RESULT_KIND (tkKind t)).wr F.AC_TOKEN_RESULT_CODE c).logEvent logToken
  { s2 with crp := { s2.crp with nonce := s2.crp.nonce + 1 } }

/-! The log's way into the NOR (R439, R440). -/

/-- One record is written. Before the writer enters a sector of 1,024 records, the one that the ring returns to is erased. -/
def State.norWrite (s : State) (r : LogRec) : State :=
  let n := s.mg.logSeq
  let full := decide (n % 1024 = 0 ∧ s.rd F.MG_LOG_OLDEST + 262144 ≤ n)
  let s1 := if full then
    (({ s with mg := { s.mg with erases := Sparse.put 0 s.mg.erases (n / 1024 % 256) (Sparse.get 0 s.mg.erases (n / 1024 % 256) + 1),
                                 log := s.mg.log.filter (fun x => decide (s.rd F.MG_LOG_OLDEST + 1024 ≤ x.seq)) } }).wr F.MG_LOG_OLDEST
      (s.rd F.MG_LOG_OLDEST + 1024)).raise0 Src.MG_LOG_FULL 0 |>.mgEvent F.MG_EVT_LOG_WRAP F.MG_EVT_IE_LOG_WRAP
  else s
  { (s1.wr F.MG_LOG_HEAD n) with mg := { s1.mg with log := s1.mg.log ++ [{ r with seq := n }], logSeq := n + 1 } }

/-- Everything in the buffer is written. -/
def State.logFlush (s : State) : State :=
  s.mg.buf.foldl (fun s r => s.norWrite r) { s with mg := { s.mg with buf := [] } }

/-- An ordered life-cycle change: fuses, erasures, and the chip reset (R398). -/
def State.lcChange (s : State) (dest : Nat) : State :=
  let s1 := (s.logEvent logLc).logFlush
  let s2 := if s.lc = lcField ∧ dest = lcOwned then s1.wr F.AC_STATUS_REOWN (s.rd F.AC_STATUS_REOWN + 1) else s1
  let s3 := if dest = lcReturn ∨ dest = lcRetired then
    (List.range 8).foldl (fun s n => s.wr (F.AC_OWNER_HASH_n n) 0) { s2 with mg := { s2.mg with ebA := none, ebB := none, ownerKey := none } } else s2
  let s4 := if dest = lcRetired then (({ s3 with mg := { s3.mg with log := [], deviceKey := false } }).wr F.MG_LOG_OLDEST s3.mg.logSeq) else s3
  (s4.wr F.AC_STATUS_LC dest).chipReset

def execLifecycleChange (s : State) : Out :=
  .next (match s.crp.lcNext with
  | some dest => s.lcChange dest
  | none => s)

/-! The debug port (R404, R411). It is unpowered in OFF; an instruction that its level does not offer returns nothing. -/

def execIdcode (s : State) : Out := .next (if s.crp.off then s else { s with readData := [Config.idcode] })

/-- TOKEN shifts a token in for evaluation. -/
def execDbgToken (token : List Byte) (s : State) : Out :=
  .next (if s.crp.off then s else { s with crp := { s.crp with token := some token } })

/-- TRACE reads the management core's trace, whose content the manual does not give. -/
def execDbgTrace (s : State) : Out :=
  .next (if s.crp.off ∨ s.dbg < dbgDiag then { s with readData := [] }
  else { s with readData := [Config.freeWord s.freeIdx], freeIdx := s.freeIdx + 1 })

def execDbgHalt (s : State) : Out :=
  .next (if s.crp.off ∨ s.dbg < dbgOpen then s else { s with crp := { s.crp with halted := true } })

/-- STEP runs one instruction of a halted core. -/
def execDbgStep (s : State) : Out :=
  .next (if s.crp.off ∨ s.dbg < dbgOpen ∨ ¬ s.crp.halted then s else { s with crp := { s.crp with steps := s.crp.steps + 1 } })

/-- Boundary scan drives the pads. -/
def execBoundaryScan (pads : List Bool) (s : State) : Out :=
  .next (if s.crp.off ∨ s.dbg < dbgOpen then s else { s with crp := { s.crp with pads := pads } })

/-! Power states (R406 to R410). -/

/-- A refused request. -/
def State.pwRej (s : State) (code : Nat) : State :=
  ((s.wr F.CRP_PWR_STATUS_REJ 1).wr F.CRP_PWR_STATUS_REJ_CODE code).raise0 Src.PWR_REQ_REJ code

/-- A request for a power state: the permissions, CONFIRM, a wipe, a transition under way; one that passes is carried out at the end of
its core cycle (R406). -/
def State.pwReq (s : State) (m st : Nat) (confirmed : Bool) : State :=
  if ¬ s.may 1 m permW then (s.deny 1 m 1 0x100).pwRej 1
  else if st = pwOff ∧ ¬ s.may 1 m permADM then (s.deny 3 m 1 0x100).pwRej 1
  else if st = pwOff ∧ !confirmed then s.pwRej 2
  else if s.on F.CRP_WIPE_STATUS_DRAM then s.pwRej 3
  else if s.on F.CRP_PWR_STATUS_BUSY then s.pwRej 4
  else { s with crp := { s.crp with pwReqs := s.crp.pwReqs ++ [(m, st)] } }

/-- The new state is reported and logged. -/
def State.pwSet (s : State) (st : Nat) : State := (s.wr F.CRP_PWR_STATUS_STATE st).logEvent logPower

/-- Leaving HOLD: the enabled ports begin their bring-up, the twin agent forms anew (R407, R410). -/
def State.holdLeft (s : State) : State :=
  let s1 := (List.range 2).foldl (fun s p => if s.on (F.BP_CTRL_EN p) then s.bpAcquire p else s) s
  let s2 := if s1.on F.FD_STATUS_READY ∧ s1.isoUp then (List.range 8).foldl (fun s n => s.fieldTrain n) s1 else s1
  if s2.on F.TW_CTRL_EN then
    { (s2.setRole roleForming) with tw := { s2.tw with since := s2.tb.mono, hbNext := s2.tb.mono, peerLostSent := false } } else s2

/-- RUN or TRIM. -/
def State.pwLive (s : State) (st : Nat) : State := let s1 := s.pwSet st; if s.power = pwHold then s1.holdLeft else s1

/-- The transition to HOLD begins: holdover, no new frame, and RELEASE of an acting twin whatever the peer's state (R407, R410). -/
def State.holdBegin (s : State) : State :=
  let s1 := s.wr F.CRP_PWR_STATUS_BUSY 1
  let s2 := if s1.tbState = tbLocked then s1.enterHoldover else s1
  let s3 := if s2.on F.TW_CTRL_EN ∧ s2.role = roleActing then
    let a := ((s2.announce 0x04).announce 0x04).announce 0x04
    ({ a with tw := { a.tw with bbLeft := 0 } }).setRole roleStandby else s2
  { s3 with crp := { s3.crp with toHold := true } }

/-- The frames on the wire have ended: ports down, DRAM in self-refresh; a time base that has locked in the meantime goes to HOLDOVER
(R40, R41, R407). -/
def State.holdDone (s : State) : State :=
  let s1 := (List.range 2).foldl (fun s p => if s.rd (F.BP_STATUS_STATE p) = portUp then (s.bpDepart p false true).bpAcquire p else s) s
  let s2 := (List.range 8).foldl (fun s n => if s.on (F.FP_STATUS_LINK n) then s.fieldLost n true else s) s1
  let s3 := ((s2.wr F.CRP_PWR_STATUS_BUSY 0).inc F.CRP_HOLD_CNT).pwSet pwHold
  let s3 := if s3.tbState = tbLocked then s3.enterHoldover else s3
  { s3 with crp := { s3.crp with toHold := false } }

def execHoldEntered (s : State) : Out :=
  .next (if s.crp.toHold ∧ (List.range 10).all (fun p => (s.lnPort p).wire.isNone) then s.holdDone else s)

/-- RUN asks for the link's exit from L1.2. -/
def State.pwRunBegin (s : State) : State :=
  let s1 := s.pwLive pwRun
  if s1.pcie.l12 then { s1 with pcie := { s1.pcie with wakeAsked := true } } else s1

/-- A write of CRP_PWR_REQ with the codes of STATE (R406). -/
def State.pwWrite (s : State) (m st confirm : Nat) : State :=
  match st with
  | 0 => s.pwReq m pwRun true
  | 1 => s.pwReq m pwTrim true
  | 2 => s.pwReq m pwHold true
  | _ => s.pwReq m pwOff (confirm == 0xA5)

/-- The transition that a request asks for; on the way to OFF firmware still logs the change (R406, R407). -/
def State.pwGo (s : State) (st : Nat) : State :=
  if s.power = st then s
  else match st with
    | 0 => s.pwRunBegin
    | 1 => s.pwLive pwTrim
    | 2 => s.holdBegin
    | _ => ((s.logEvent logPower).logFlush).powerOff

/-- Of the requests of one core cycle the one of the lowest master identity stands, its last one (R406). -/
def State.pwFlush (s : State) : State :=
  let s1 := { s with crp := { s.crp with pwReqs := [] } }
  match (s.crp.pwReqs.map (·.1)).min? with
  | none => s1
  | some m => match s.crp.pwReqs.reverse.find? (fun x => x.1 == m) with
    | some x => s1.pwGo x.2
    | none => s1

/-- The same from the bus (R497). -/
def State.pwBus (s : State) (m st confirm : Nat) : State := if s.takes m then s.pwWrite m st confirm else s

def execPowerReqRun (m : Nat) (s : State) : Out := .next (s.pwBus m 0 0)
def execPowerReqTrim (m : Nat) (s : State) : Out := .next (s.pwBus m 1 0)
def execPowerReqHold (m : Nat) (s : State) : Out := .next (s.pwBus m 2 0)
def execPowerReqOff (m confirm : Nat) (s : State) : Out := .next (s.pwBus m 3 confirm)

end Sys2Proof.Machine
end

