-- ==== Sys2Proof/Machine/Spare.lean ====
section
/-!
DEFINITION. SPARE: the triggers, the queue of substitutions, guarded windows, the switch to a spare, and the self-test of idle spares
(R127, R189, R449 to R451).
Where the manual leaves a point open, the choices are log entries 61 (DEDUCED).
-/

namespace Sys2Proof.Machine

/-! Guarded windows (R450). -/

/-- Does a port restrict the guarded window: its gates enabled, a scheduled class, its link up? -/
def State.guards (s : State) (p : Nat) : Bool :=
  s.on (F.KN_Pn_CTRL_GATE_EN p) && decide (s.rd (F.KN_Pn_SCHED_MASK p) ≠ 0) && s.linkUp p

/-- L_p in ns. -/
def guardTail (p : Nat) : Int := if p < 2 then 2000 else 52000

/-- Is the guarded window open? -/
def State.guarded_ (s : State) : Bool :=
  (List.range 10).all (fun p => !s.guards p || (match (s.knPort p).quiet with
    | some q => decide (q.1 ≤ (s.dt : Int)) && decide ((s.dt : Int) < q.2 - guardTail p)
    | none => false))

/-- Is a port in a quiet interval, or without one to wait for (R88)? -/
def State.quietNow (s : State) (p : Nat) : Bool := !s.guards p || (s.knPort p).quiet.isSome

/-- Ports bound to a launch engine. -/
def State.boundTo (s : State) (e : Nat) : List Nat := (List.range 10).filter (fun p => s.rd (engFld p) == e)

/-- Does the time allow a substitution to go on: at once in a block reset or in HOLD with SPARE_HOLD, a guarded window for memory, a
quiet interval for an engine, otherwise always (R449, R451)? -/
def State.subWindow (s : State) (e : Subst) : Bool :=
  (match e.blk with | some b => s.inReset b | none => false)
    || (s.power == pwHold && s.on F.CRP_PWR_CFG_SPARE_HOLD)
    || (if e.cls ≤ 2 then s.guarded_
        else if e.cls = 4 then (s.boundTo e.unit).all s.quietNow
        else if e.cls = 5 then (List.range 10).any s.quietNow
        else true)

/-! The queue (R451). -/

/-- The substitution under way. -/
def State.subAct (s : State) : Option Subst := s.sp.queue.find? (fun e => e.act)

/-- The substitution that firmware begins next: a row whose block is in reset, else the first that has a spare. -/
def State.subNext (s : State) : Option Subst :=
  let can := s.sp.queue.filter (fun e => s.spMay e.cls)
  match can.find? (fun e => match e.blk with | some b => s.inReset b | none => false) with
  | some e => some e
  | none => can.head?

/-- Does an entry stand for the same unit? -/
def Subst.same (a b : Subst) : Bool := a.cls == b.cls && a.unit == b.unit

/-- Replace the entry of the same unit. -/
def State.subPut (s : State) (e : Subst) : State :=
  { s with sp := { s.sp with queue := s.sp.queue.map (fun x => if x.same e then e else x) } }

/-- SP_LOW, SP_EXHAUSTED, SP_SELFTEST and SP_ERR_RATE follow (R449, R451). -/
def State.spConds (s : State) : State :=
  let low := (List.range 8).any (fun c => decide (s.rd (F.SP_CLASS_n_REMAIN c) * 4 < Config.spareCount c))
  let out := s.sp.queue.any (fun e => s.spUsable e.cls == 0)
  let rate := decide (100 < s.sp.errs.countP (fun x => decide (s.tb.mono < x.1 + 3600000000000)))
  (((s.condSet Src.SP_LOW 0xFF low).condSet Src.SP_EXHAUSTED 0xFF out).condSet Src.SP_SELFTEST 0xFF (s.sp.bad != [])).condSet
    Src.SP_ERR_RATE 0xFF rate

/-- The substitution whose turn it is waits for a window: counted once as a yield (R252, R451). -/
def State.subWait (s : State) : State :=
  match s.subAct.orElse (fun _ => s.subNext) with
  | some e => if s.subWindow e ∨ e.yielded then s else (s.subPut { e with yielded := true, waitAt := s.tb.mono }).yieldTo 3 7
  | none => s

/-- Launch engines that wait for a spare when none is left are retired all the same, and PITCH rebinds their ports (R127). -/
def State.retireRest (s : State) : State :=
  if s.sp.retLn.isEmpty ∨ s.spUsable 4 ≠ 0 then s
  else (s.sp.queue.filter (fun e => decide (e.cls = 4) && !e.act && !s.sp.retLn.contains e.unit)).foldl (fun s e =>
    { (s.wr F.LN_STATUS_RETIRED e.unit) with sp := { s.sp with retLn := e.unit :: s.sp.retLn } }) s

/-- Queue a substitution; a unit already queued is not queued again, and 256 fill the queue. -/
def State.subQueue (s : State) (cls unit mac : Nat) (blk : Option Nat) : State :=
  let e : Subst := ⟨cls, unit, mac, blk, false, s.tb.mono, false, false⟩
  if s.sp.queue.any (fun x => x.same e) then s
  else
    let s1 := s.raise0 Src.SP_SUB_PEND (cls * 2 ^ 28 + unit % 2 ^ 28)
    let s2 := if s1.sp.queue.length < 256 then { s1 with sp := { s1.sp with queue := s1.sp.queue ++ [e] } } else s1
    s2.retireRest.spConds.subWait

/-- Corrected errors within 24 h of a source, and of one DRAM row. -/
def State.ceCount (s : State) (src : Nat) (row : Option Nat) : Nat :=
  s.sp.errs.countP (fun x => x.2.1 == src && decide (s.tb.mono < x.1 + 86400000000000)
    && (match row with | some r => x.2.2 == r | none => true))

/-- SP_CFG.CE_THR; 0 acts as 1 (R456). -/
def State.ceThr (s : State) : Nat := max 1 (s.rd F.SP_CFG_CE_THR)

/-- DEGR of an ageing monitor at LIMIT (R449). -/
def State.aged (s : State) (n : Nat) : Bool := decide (s.rd F.SP_AGE_THR_LIMIT ≤ s.rd (F.SP_AGE_n_DEGR n))

/-- Spare rows used or asked for in an SRAM macro. -/
def State.rowsOf (s : State) (mac : Nat) : Nat :=
  Sparse.get 0 s.sp.rows mac + s.sp.queue.countP (fun e => e.cls == 0 && e.mac == mac)

/-- What a trigger queues: a ninth row of a macro takes the macro (R449). -/
def State.trigger (s : State) : SubCause → State
  | .sramRow mac row ue =>
    if ue.isSome ∨ s.ceThr ≤ s.ceCount Src.SRAM_CE none then
      (if 8 ≤ s.rowsOf mac ∧ ¬ s.sp.queue.any (fun e => e.cls == 0 && e.unit == row) then s.subQueue 1 mac mac (ue.map (fun b => b.val))
       else s.subQueue 0 row mac (ue.map (fun b => b.val)))
    else s
  | .dramRow row ue =>
    if ue.isSome ∨ s.ceThr ≤ s.ceCount Src.DRAM_CE (some row) then s.subQueue 2 row 0 (ue.map (fun b => b.val)) else s
  | .launch e => if s.aged e.val ∧ s.on F.LN_CTRL_SPARE_EN ∧ e.val ∉ s.sp.retLn then s.subQueue 4 e.val 0 none else s
  | .assembly e =>
    if (s.aged (4 + e.val) ∨ 2 ≤ s.sp.stFails) ∧ s.on F.MS_CTRL_SPARE_EN ∧ e.val ∉ s.sp.retMs then s.subQueue 5 e.val 0 none else s
  | .counter c =>
    if s.aged (8 + c.val) ∨ 3 ≤ s.sp.resid.countP (fun x => x.2 == c.val && decide (s.tb.mono < x.1 + 86400000000000)) then
      s.subQueue 6 c.val 0 none else s
  | .norSector sector page =>
    if page ∨ 90000 ≤ Sparse.get 0 s.mg.erases sector then s.subQueue 7 sector 0 none else s

/-- Do firmware and SPARE run? -/
def State.spRuns (s : State) : Bool := s.fwRuns && !s.inReset 21

def execSubstitutionTrigger (cause : SubCause) (s : State) : Out := .next (if s.spRuns then s.trigger cause else s)

/-- A substitution begins, or its copy resumes, inside its window. An assembly engine gets no new launch from now on (R189). -/
def State.subStart (s : State) : State :=
  match s.subAct with
  | some e => if ¬ s.sp.open_ ∧ s.subWindow e then { s with sp := { s.sp with open_ := true } } else s
  | none => (match s.subNext with
    | some e =>
      if 3 ≤ e.cls ∨ s.subWindow e then
        let s1 := s.subPut { e with act := true, stalled := e.stalled }
        let s2 := { s1 with sp := { s1.sp with open_ := true } }
        if e.cls = 5 then { (s2.wr F.MS_STATUS_RETIRED e.unit) with sp := { s2.sp with retMs := e.unit :: s2.sp.retMs } } else s2
      else s
    | none => s)

def execSubstitutionCopyStart (s : State) : Out := .next (if s.spRuns then s.subStart else s)

/-- The window closes: a running copy of a memory pauses; it goes on waiting (R450). -/
def execGuardedWindowClose (s : State) : Out :=
  .next (match s.subAct with
  | some e =>
    if s.sp.open_ ∧ e.cls ≤ 2 ∧ ¬ s.subWindow e then
      let s1 := s.subPut { e with waitAt := s.tb.mono }
      { s1 with sp := { s1.sp with open_ := false } }
    else s
  | none => s)

/-- The source of a class (R451). -/
def subSrc : Nat → Nat
  | 0 => Src.SP_SRAM_ROW
  | 1 => Src.SP_SRAM_MACRO
  | 2 => Src.SP_DRAM_ROW
  | 4 => Src.SP_LN_RETIRE
  | 5 => Src.SP_MS_RETIRE
  | 6 => Src.SP_TB_RETIRE
  | _ => Src.SP_FLASH

/-- What the switch changes in the unit's block (R127, R189, R449). -/
def State.subUnit (s : State) (e : Subst) : State :=
  match e.cls with
  | 0 => { s with sp := { s.sp with rows := Sparse.put 0 s.sp.rows e.mac (Sparse.get 0 s.sp.rows e.mac + 1) } }
  | 1 => { s with sp := { s.sp with rows := Sparse.put 0 s.sp.rows e.unit 0 } }
  | 4 =>
    let s1 := { s with sp := { s.sp with retLn := e.unit :: s.sp.retLn.filter (fun x => x != e.unit) } }
    (((s1.wr F.LN_STATUS_SPARE_USED 1).wr F.LN_STATUS_RETIRED e.unit).inc F.LN_SUB_CNT).raise0 Src.LN_ENG_SUB e.unit
  | 5 => (({ s with sp := { s.sp with msSpare := true } }.wr F.MS_STATUS_SPARE_USED 1).inc F.MS_SUB_CNT).raise0 Src.MS_ENG_SUB e.unit
  | 6 => { s with sp := { s.sp with resid := s.sp.resid.filter (fun x => x.2 != e.unit) } }
  | 7 => { s with mg := { s.mg with erases := Sparse.put 0 s.mg.erases e.unit 0 } }
  | _ => s

/-- The unit runs on its spare (R451). -/
def State.subDone (s : State) (e : Subst) : State :=
  let s1 := (s.raise0 Src.SP_SUB_DONE (e.cls * 2 ^ 28 + e.unit % 2 ^ 28)).raise0 (subSrc e.cls) e.unit
  let s2 := (s1.add (F.SP_CLASS_n_USED e.cls) 1).wr (F.SP_CLASS_n_REMAIN e.cls) (s.rd (F.SP_CLASS_n_REMAIN e.cls) - 1)
  let s3 := ((s2.inc F.SP_SUB_CNT).wr64 F.SP_LAST_DT_LO F.SP_LAST_DT_HI s.dt).subUnit e
  let s4 := { s3 with sp := { s3.sp with queue := s3.sp.queue.filter (fun x => !x.same e), open_ := false } }
  ((s4.retireRest.logEvent logSub).mgEvent F.MG_EVT_SUB_DONE F.MG_EVT_IE_SUB_DONE).spConds.subWait

/-- A read-back mismatch: the spare is bad, and the next one is tried (R451). -/
def State.subFail (s : State) (e : Subst) : State :=
  let s1 := ((s.wr (F.SP_CLASS_n_REMAIN e.cls) (s.rd (F.SP_CLASS_n_REMAIN e.cls) - 1)).inc F.SP_FAIL_CNT).raise0 Src.SP_SUB_FAIL e.unit
  let s2 := if s1.spUsable e.cls = 0 then
      let a := s1.subPut { e with act := false }
      { a with sp := { a.sp with open_ := false } }
    else s1
  s2.spConds.subWait

/-- The spare launch engine takes over the ports that are in a quiet interval (R127). -/
def State.takeOver (s : State) (e : Nat) : State :=
  ((s.boundTo e).filter s.quietNow).foldl (fun s p => s.wr (engFld p) 4) s

/-- The copy and its read-back are over; `bad` says that they differ. While SPARE_EN is 0 no engine is taken over (R127, R189). -/
def execSubstitutionSwitch (bad : Bool) (s : State) : Out :=
  .next (match s.subAct with
  | some e =>
    if ¬ (s.spRuns ∧ s.sp.open_ ∧ s.spareEn e.cls) then s
    else if e.cls = 4 then
      let s1 := s.takeOver e.unit
      if (s1.boundTo e.unit).isEmpty then s1.subDone e else s1.subWait
    else if ¬ s.subWindow e then s
    else if bad ∧ e.cls ≤ 2 then s.subFail e
    else s.subDone e
  | none => s)

/-- No usable window for STALL_S seconds (R451). -/
def execSubstitutionStall (s : State) : Out :=
  .next (match s.subAct.orElse (fun _ => s.subNext) with
  | some e =>
    if s.spRuns ∧ ¬ e.stalled ∧ ¬ s.subWindow e ∧ e.waitAt + max 1 (s.rd F.SP_CFG_STALL_S) * 1000000000 ≤ s.tb.mono then
      ((s.subPut { e with stalled := true }).inc F.SP_STALL_CNT).raise0 Src.SP_SUB_STALL e.unit
    else s
  | none => s)

/-- The classes of the idle spares that fail their test; these spares are not used (R451). -/
def execSpareSelftest (failed : List Nat) (s : State) : Out :=
  .next (if s.spRuns then ({ s with sp := { s.sp with bad := failed.filter (fun c => decide (c < 8)) } }).spConds else s)

end Sys2Proof.Machine
end

