-- ==== Sys2Proof/Machine/Ebain.lean ====
section
/-!
DEFINITION. The Ebain image: header, directory, sections, and the checks of a slot and of a staged image (R411, R446 to R448).
Where the manual leaves a point open, the choices are log entries 58 (DEDUCED).
-/

namespace Sys2Proof.Machine

/-- An Ebain image as it stands in a slot. -/
abbrev EbImage := List Byte

def EbImage.le (x : EbImage) (off n : Nat) : Nat := leNat (slice x off n)
def EbImage.nsect (x : EbImage) : Nat := x.le 6 2
def EbImage.length_ (x : EbImage) : Nat := x.le 8 4
def EbImage.version (x : EbImage) : Nat := x.le 12 4
def EbImage.signer (x : EbImage) : Nat := x.le 28 1

/-- A directory entry: its index and fields (R446). -/
structure EbSect where
  idx : Nat
  type : Nat
  required : Bool
  off : Nat
  len : Nat
  crc : Nat
deriving DecidableEq, Repr

def EbImage.sect (x : EbImage) (i : Nat) : EbSect :=
  let o := 128 + 16 * i
  ⟨i, x.le o 2, bits (x.le (o + 2) 2) 0 1 == 1, x.le (o + 4) 4, x.le (o + 8) 4, x.le (o + 12) 4⟩

def EbImage.sects (x : EbImage) : List EbSect := (List.range x.nsect).map x.sect

/-- The content of a section. -/
def EbImage.body (x : EbImage) (e : EbSect) : List Byte := slice x e.off e.len

/-- The length of a section's content by its type; an unknown one refuses the image only if REQUIRED. -/
def EbSect.lenOk (e : EbSect) : Bool :=
  match e.type with
  | 1 => e.len == 704
  | 2 => e.len == 224
  | 3 => e.len == 660
  | 4 => e.len % 12 == 0
  | 5 => true
  | 6 => e.len == 12
  | 7 => e.len == 12
  | 8 => decide (e.len ≤ 65536)
  | _ => !e.required

/-- A directory entry and its CRC-32. -/
def EbImage.sectOk (x : EbImage) (e : EbSect) : Bool :=
  e.lenOk && decide (128 + 16 * x.nsect ≤ e.off) && decide (e.off + e.len + 64 ≤ x.length_) && decide (leNat (fcs (x.body e)) = e.crc)

/-- Do header, directory and CRCs pass (R446)? -/
def EbImage.formatOk (x : EbImage) : Bool :=
  decide (slice x 0 4 = [0x45, 0x42, 0x4E, 0x31]) && x.le 4 2 == 1 && decide (1 ≤ x.nsect) && decide (x.nsect ≤ 64)
    && decide (128 + 16 * x.nsect + 64 ≤ x.length_) && decide (x.length_ ≤ x.length)
    && (x.signer == 1 || x.signer == 0xFF) && (slice x 29 3).all (fun b => b == 0) && (slice x 64 64).all (fun b => b == 0)
    && x.sects.all x.sectOk

/-- Result codes of requests (R436). -/
def rcOk : Nat := 0
def rcSignature : Nat := 1
def rcFormat : Nat := 2
def rcRollback : Nat := 3
def rcSize : Nat := 4
def rcLifecycle : Nat := 5
def rcBusy : Nat := 6
def rcDmaErr : Nat := 7
def rcUnknown : Nat := 8
def rcNoneStaged : Nat := 9
def rcNotTrial : Nat := 10
def rcSerial : Nat := 11
def rcNorErr : Nat := 12

/-- The checks of R447 for the present life-cycle; `sig` says whether the signature verifies against the owner key. -/
def State.ebCheck (s : State) (x : EbImage) (sig : Bool) : Nat :=
  let zero := (slice x 16 12).all (fun b => b == 0)
  if 4194304 < x.length_ then rcSize
  else if !x.formatOk then rcFormat
  else if ¬ zero ∧ slice x 16 12 ≠ serialBytes then rcSerial
  else if s.lc = lcField ∧ ¬ (x.signer = 1 ∧ sig) then rcSignature
  else if s.lc = lcOwned ∧ s.mg.ownerKey.isSome ∧ ¬ (x.signer = 1 ∧ sig) then rcSignature
  else if s.lc = lcField ∧ x.version < s.rd F.MG_EBAIN_CNT then rcRollback
  else rcOk

/-- Slot A (false) and slot B (true). -/
def State.ebSlot (s : State) (b : Bool) : Option EbSlot := if b then s.mg.ebB else s.mg.ebA

/-- The image loaded at the last start-up. -/
def State.ebLoaded (s : State) : Option EbSlot :=
  match s.rd F.MG_STATUS_EBAIN with
  | 1 => s.mg.ebA
  | 2 => s.mg.ebB
  | _ => none

/-- The OWNER_DATA section of the image in force. -/
def State.ownerData (s : State) : Option (List Byte) :=
  match s.ebLoaded with
  | some e => (EbImage.sects e.image).find? (fun x => x.type == 8) |>.map (fun x => EbImage.body e.image x)
  | none => none

end Sys2Proof.Machine
end

