-- ==== Sys2Proof/Machine/Maltster.lean ====
section
/-!
DEFINITION. MALTSTER: the requests of the host, firmware trials, the restart of the core, sensors, ageing monitors, the SMBus target and
the writing of the event log (R435 to R444, R448, R449, R452).
Where the manual leaves a point open, the choices are log entries 58, 59, 60, 61, 62 (DEDUCED); 78 (DESIGN CHOICE).
-/

namespace Sys2Proof.Machine

/-! Requests (R436). -/

/-- Is the request on channel `c` the one to be served: posted first, and firmware serves (R411, R436)? -/
def State.reqNow (s : State) (c : Nat) : Bool :=
  s.fwRuns && decide (s.lc ≠ lcRetired) && s.on F.MB_CTRL_EN && s.mg.reqs.head? == some c && s.on (F.MB_CH_STAT_FULL c)

def State.reqTag (s : State) (c : Nat) : Nat := s.rd (F.MB_CH_TAG c)
def State.reqPtr (s : State) (c : Nat) : Nat := s.rd64 (F.MB_CH_PTR_LO c) (F.MB_CH_PTR_HI c)

/-- Firmware has finished with the buffer: it empties the channel. -/
def State.reqEmpty (s : State) (c : Nat) : State := ({ s with mg := { s.mg with reqs := s.mg.reqs.drop 1 } }).mbClear 0 c

/-- The end of a request: the channel is emptied, and the reply is posted on channel c + 4, or waits while that is full. -/
def State.reply (s : State) (c kind arg : Nat) : State :=
  let r : Nat × DWord × Word := (c + 4, BitVec.ofNat 64 (s.reqPtr c), BitVec.ofNat 32 (kind * 65536 + arg % 65536))
  let s1 := s.reqEmpty c
  ({ s1 with mg := { s1.mg with replies := s1.mg.replies ++ [r] } }).replyNext (c + 4)

/-- A result. -/
def State.result (s : State) (c code : Nat) : State := s.reply c 1 code

/-- The buffer cannot be read or written (R453). -/
def State.noBuffer (s : State) (c : Nat) : State := (s.raise0 Src.MG_WIN_ERR (s.reqTag c)).result c rcDmaErr

/-- The host memory of a buffer, if PF0 may master the bus (R497). -/
def State.hostBuf (s : State) (buf : Option (List Byte)) : Option (List Byte) := if bits s.pcie.bme 0 1 = 1 then buf else none

/-- Firmware writes into the request's buffer. -/
def State.bufWrite (s : State) (c off : Nat) (data : List Byte) : State :=
  s.toHost (.mem 0 (BitVec.ofNat 64 (s.reqPtr c + off)) data)

/-- Serve the request of a tag; in RECOVERY only 0x0102 is answered (R442). -/
def State.mgServe (s : State) (c tag : Nat) (f : State → State) : State :=
  if ¬ (s.reqNow c ∧ s.reqTag c = tag) then s
  else if s.mgState = mgRecovery ∧ tag ≠ 0x102 then s.reqEmpty c
  else f s

/-- The evaluation of a token, from mailbox channel `chan` or from the debug port (R400). -/
def execTokenEval (chan : Option (Fin 4)) (buf : Option (List Byte)) (sig : Bool) (s : State) : Out :=
  .next (match chan with
  | some c => s.mgServe c.val 0x101 (fun s => match s.hostBuf buf with
    | some b =>
      if b.length < 112 then s.noBuffer c.val
      else (s.tkEval (b.take 112) sig).result c.val (s.tkCode (b.take 112) sig)
    | none => s.noBuffer c.val)
  | none => (match s.crp.token with
    | some t => if s.fwRuns ∧ s.mgState ≠ mgRecovery then ({ s with crp := { s.crp with token := none } }).tkEval t sig else s
    | none => s))

/-- A firmware image: SVN and LENGTH of its header. -/
def fwSvn (b : List Byte) : Nat := leNat (slice b 8 1)
def fwLength (b : List Byte) : Nat := leNat (slice b 12 4)

/-- The checks of a firmware image; `fmt` stands for the parts of its format that the manual leaves out. -/
def State.fwCheck (s : State) (b : List Byte) (fmt sig : Bool) : Nat :=
  if !fmt ∨ 63 < fwSvn b then rcFormat
  else if 8388608 < fwLength b then rcSize
  else if !sig then rcSignature
  else if fwSvn b < s.rd F.MG_FW_CNT then rcRollback
  else rcOk

/-- A slot takes a firmware image. -/
def State.fwPut (s : State) (slot : Bool) (x : FwSlot) : State :=
  if slot then ({ s with mg := { s.mg with fwB := x } }).wr F.MG_FW_B_VER x.version
  else ({ s with mg := { s.mg with fwA := x } }).wr F.MG_FW_A_VER x.version

/-- Staging (R443): `nor` says that the write into the NOR fails. -/
def State.fwStage (s : State) (c : Nat) (b : List Byte) (fmt sig nor : Bool) : State :=
  let code := s.fwCheck b fmt sig
  let x : FwSlot := ⟨leNat (slice b 4 4), fwSvn b, !nor⟩
  if b.length < 16 ∨ (fwLength b ≤ 8388608 ∧ b.length < fwLength b) then s.noBuffer c
  else if code ≠ rcOk then s.result c code
  else if nor then
    (({ (s.fwPut (!s.mg.active) x) with mg := { (s.fwPut (!s.mg.active) x).mg with staged := false } }).raise0 Src.MG_UPDATE_FAIL rcNorErr).result
      c rcNorErr
  else
    let s1 := s.fwPut (!s.mg.active) x
    ((({ s1 with mg := { s1.mg with staged := true } }).mgEvent F.MG_EVT_FW_STAGED F.MG_EVT_IE_FW_STAGED).logEvent logFirmware).result c rcOk

def execReqStageFirmware (c : Fin 4) (buf : Option (List Byte)) (fmt sig nor : Bool) (s : State) : Out :=
  .next (s.mgServe c.val 0x102 (fun s =>
    if s.mgState = mgTrial then s.result c.val rcBusy
    else match s.hostBuf buf with
      | some b => s.fwStage c.val b fmt sig nor
      | none => s.noBuffer c.val))

/-- A code that the manual does not state for a refusal: any but OK. -/
def State.refuse (s : State) (c : Nat) : State :=
  ({ s with freeIdx := s.freeIdx + 1 }).result c (1 + (Config.freeWord s.freeIdx).toNat % 12)

/-- The owner slot is written once, in OWNED (R411). -/
def State.keyInstall (s : State) (c : Nat) (key : List Byte) : State :=
  if s.lc ≠ lcOwned then s.result c rcLifecycle
  else if s.mg.ownerKey.isSome then s.refuse c
  else
    let h := (Config.sha256 key).toNat
    let s1 := (List.range 8).foldl (fun s n => s.wr (F.AC_OWNER_HASH_n n) (leNat (slice (beBytes 32 h) (4 * n) 4))) s
    ({ s1 with mg := { s1.mg with ownerKey := some key } }).result c rcOk

def execReqInstallOwnerKey (c : Fin 4) (buf : Option (List Byte)) (s : State) : Out :=
  .next (s.mgServe c.val 0x103 (fun s => match s.hostBuf buf with
    | some b => if b.length < 64 then s.noBuffer c.val else s.keyInstall c.val (b.take 64)
    | none => s.noBuffer c.val))

/-- An Ebain image is written into the slot that was not loaded (R448); A when neither was. -/
def State.ebStage (s : State) (c : Nat) (x : EbImage) (sig nor : Bool) : State :=
  let code := s.ebCheck x sig
  let slot := s.rd F.MG_STATUS_EBAIN == 1
  if x.length < 128 ∨ (x.length_ ≤ 4194304 ∧ x.length < x.length_) then s.noBuffer c
  else if code ≠ rcOk then s.result c code
  else if nor then (s.raise0 Src.MG_UPDATE_FAIL rcNorErr).result c rcNorErr
  else
    let e : EbSlot := ⟨x.take x.length_, sig⟩
    let s1 := if slot then ({ s with mg := { s.mg with ebB := some e } }).wr F.MG_EBAIN_B_VER x.version
      else ({ s with mg := { s.mg with ebA := some e } }).wr F.MG_EBAIN_A_VER x.version
    let s2 := if s.lc = lcField then s1.wr F.MG_EBAIN_CNT x.version else s1
    ((s2.mgEvent F.MG_EVT_EBAIN_STAGED F.MG_EVT_IE_EBAIN_STAGED).logEvent logEbain).result c rcOk

def execReqStageEbain (c : Fin 4) (buf : Option (List Byte)) (sig nor : Bool) (s : State) : Out :=
  .next (s.mgServe c.val 0x104 (fun s =>
    if s.lc = lcFactory ∨ s.lc = lcReturn then s.result c.val rcLifecycle
    else match s.hostBuf buf with
      | some b => s.ebStage c.val b sig nor
      | none => s.noBuffer c.val))

/-- The 64 bytes of a log record (R439); unused payload bytes are free values. -/
def LogRec.bytes (r : LogRec) : List Byte :=
  let b := leBytes 8 r.dt ++ leBytes 4 r.seq ++ leBytes 4 r.boot ++ leBytes 1 r.type ++ leBytes 1 r.epoch ++ leBytes 2 r.len
    ++ (r.payload ++ (List.range (40 - r.payload.length)).map (fun i => Config.freeByte (r.seq * 64 + i))).take 40
  b ++ fcs b

/-- Records are written from FROM_SEQ on (R441). -/
def State.logExtract (s : State) (c : Nat) (b : List Byte) : State :=
  let frm := leNat (slice b 0 8)
  let rs := (s.mg.log.filter (fun r => decide (frm ≤ r.seq))).take (leNat (slice b 8 4))
  let f := s.freeIdx
  let first := match rs.head? with | some r => leBytes 8 r.seq | none => (List.range 8).map (fun i => Config.freeByte (f + i))
  let s1 := ({ s with freeIdx := f + 8 }).bufWrite c 16 (first ++ leBytes 4 rs.length)
  let s2 := if rs.isEmpty then s1 else s1.bufWrite c 64 (rs.flatMap LogRec.bytes)
  s2.reply c 3 (min 65535 rs.length)

def execReqLogExtract (c : Fin 4) (buf : Option (List Byte)) (s : State) : Out :=
  .next (s.mgServe c.val 0x105 (fun s => match s.hostBuf buf with
    | some b => if b.length < 12 then s.noBuffer c.val else s.logExtract c.val b
    | none => s.noBuffer c.val))

/-- The health and spares report (R452). -/
def State.healthReport (s : State) : List Byte :=
  let flag (src i : Nat) : Nat := (s.cond src).toNat * 2 ^ i
  let b := leBytes 1 1
    ++ leBytes 1 ((decide (s.sp.queue ≠ [])).toNat + flag Src.SP_LOW 1 + flag Src.SP_EXHAUSTED 2 + flag Src.SP_SELFTEST 3)
    ++ leBytes 2 s.spUnits ++ leBytes 4 (s.rd F.MG_HOURS) ++ leBytes 8 s.dt
    ++ (List.range 8).flatMap (fun n => leBytes 2 (s.rd (F.SP_CLASS_n_REMAIN n)) ++ leBytes 2 (s.rd (F.SP_CLASS_n_USED n)))
    ++ (List.range 12).flatMap (fun n => leBytes 2 (s.rd (F.SP_AGE_n_DEGR n)))
    ++ (List.range 4).flatMap (fun n => leBytes 2 (s.rd (F.MG_TEMP_n n)))
    ++ leBytes 2 (s.rd F.MG_TEMP_MAX_LIFE) ++ leBytes 2 0
    ++ leBytes 4 (s.sp.errs.countP (fun x => decide (s.tb.mono < x.1 + 86400000000000)))
    ++ leBytes 4 ((List.range 8).map (fun n => s.rd (F.SP_CLASS_n_USED n))).sum
    ++ leBytes 4 s.sp.queue.length
    ++ leBytes 2 ((List.range 12).foldl (fun a n => min a (s.rd (F.SP_AGE_n_REMAIN_WK n))) 0xFFFF)
    ++ leBytes 26 0
  b ++ fcs b

/-- `ok`: the buffer can be written. -/
def execReqHealthReport (c : Fin 4) (ok : Bool) (s : State) : Out :=
  .next (s.mgServe c.val 0x106 (fun s =>
    if ok ∧ bits s.pcie.bme 0 1 = 1 then (s.bufWrite c.val 0 s.healthReport).reply c.val 4 0 else s.noBuffer c.val))

/-- The staged slot becomes the active one, and the core restarts into it, after its reply and the log's buffer (R443, R444). -/
def State.fwActivate (s : State) (c : Nat) : State :=
  let s1 := ((s.result c rcOk).logEvent logFirmware).logFlush
  ({ s1 with mg := { s1.mg with active := !s1.mg.active, staged := false, trialNext := true } }).blockReset 20 false

def execReqActivateFirmware (c : Fin 4) (s : State) : Out :=
  .next (s.mgServe c.val 0x107 (fun s => if s.mg.staged then s.fwActivate c.val else s.result c.val rcNoneStaged))

/-- The trial is over (R443). -/
def State.fwConfirm (s : State) (c : Nat) : State :=
  let svn := (s.fwSlot s.mg.active).svn
  let s1 := (s.wr F.MG_STATUS_STATE mgRun).wr F.MG_FW_CNT (max (s.rd F.MG_FW_CNT) svn)
  ((s1.mgEvent F.MG_EVT_FW_ACTIVE F.MG_EVT_IE_FW_ACTIVE).logEvent logFirmware).result c rcOk

def execReqConfirmFirmware (c : Fin 4) (s : State) : Out :=
  .next (s.mgServe c.val 0x108 (fun s => if s.mgState = mgTrial then s.fwConfirm c.val else s.result c.val rcNotTrial))

/-- The section is written to the buffer; without one the code is a free value. -/
def execReqReadOwnerData (c : Fin 4) (ok : Bool) (s : State) : Out :=
  .next (s.mgServe c.val 0x109 (fun s => match s.ownerData with
    | some d => if ok ∧ bits s.pcie.bme 0 1 = 1 then (s.bufWrite c.val 0 d).result c.val rcOk else s.noBuffer c.val
    | none => ({ s with freeIdx := s.freeIdx + 1 }).result c.val ((Config.freeWord s.freeIdx).toNat % 13)))

/-- A tag that R436 does not list. -/
def execReqUnknown (c : Fin 4) (s : State) : Out :=
  .next (if ¬ s.reqNow c.val ∨ (0x101 ≤ s.reqTag c.val ∧ s.reqTag c.val ≤ 0x109) then s
  else if s.mgState = mgRecovery then s.reqEmpty c.val
  else (s.raise0 Src.MG_WIN_ERR (s.reqTag c.val)).result c.val rcUnknown)

/-! Trials, watchdog, restart (R443, R444, R453). -/

/-- MG_FW_TRIAL seconds without a confirm. -/
def execFwTrialExpiry (s : State) : Out :=
  .next (if s.fwRuns ∧ s.mgState = mgTrial ∧ s.mg.trialAt + max 1 (s.rd F.MG_FW_TRIAL) * 1000000000 ≤ s.tb.mono then
    s.mgRevert.blockReset 20 false else s)

/-- The watchdog of a core that has been started. -/
def execMgWdt (s : State) : Out :=
  .next (if 3 ≤ s.rd F.CRP_BOOT_PHASE ∧ ¬ s.inReset 20 ∧ ¬ s.crp.off then s.raise0 Src.MG_WDT 0 else s)

/-- The core restarts out of block reset 0x14. -/
def execMgmtRestart (s : State) : Out := .next (if s.mayEnd 20 then s.blockEnd 20 else s)

/-! Sensors (R437). -/

/-- A sensor condition; its beginning sets MG_EVT.SENSOR (R455). -/
def State.sensorCond (s : State) (src inst : Nat) (b : Bool) : State :=
  let s1 := s.condSet src inst b
  if b ∧ (src, inst) ∉ s.cl.conds then s1.mgEvent F.MG_EVT_SENSOR F.MG_EVT_IE_SENSOR else s1

/-- Insertion into a sorted list. -/
def insInt (x : Int) : List Int → List Int
  | [] => [x]
  | y :: t => if x ≤ y then x :: y :: t else y :: insInt x t

/-- Twice the median of four readings. -/
def median2 (l : List Int) : Int :=
  let a := l.foldl (fun a x => insInt x a) []
  a.getD 1 0 + a.getD 2 0

/-- Is a temperature point valid: within 10 °C of the median and from −55 °C to +150 °C, in 1/16 °C? -/
def tempValid (l : List Int) (t : Int) : Bool :=
  decide ((2 * t - median2 l).natAbs ≤ 320) && decide (-880 ≤ t) && decide (t ≤ 2400)

/-- A threshold condition with 2 °C of hysteresis. -/
def State.tempCond (s : State) (src : Nat) (thr : Int) (ts : List Int) : State :=
  let lim := if (src, 0xFF) ∈ s.cl.conds then thr - 31 else thr
  s.sensorCond src 0xFF (ts.any (fun t => decide (lim ≤ t)))

/-- The temperatures. -/
def State.tempSample (s : State) (raw : List Nat) : State :=
  let ts := (List.range 4).map (fun n => toSigned 16 (raw.getD n 0))
  let s1 := (List.range 4).foldl (fun s n => s.wr (F.MG_TEMP_n n) (raw.getD n 0)) s
  let s2 := (List.range 4).foldl (fun s n => s.sensorCond Src.TEMP_SENS n (!tempValid ts (ts.getD n 0))) s1
  let good := ts.filter (tempValid ts)
  let s3 := match good with
    | [] => s2
    | t :: l =>
      let top := l.foldl max t
      let a := s2.wr F.MG_TEMP_MAX_CHIP (ofSigned 16 (if s.mg.tempSeen then max top (toSigned 16 (s.rd F.MG_TEMP_MAX_CHIP)) else top))
      { (a.wr F.MG_TEMP_MAX_LIFE (ofSigned 16 (max top (toSigned 16 (s.rd F.MG_TEMP_MAX_LIFE))))) with mg := { a.mg with tempSeen := true } }
  (s3.tempCond Src.TEMP_WARN (min (toSigned 16 (s.rd F.MG_TEMP_THR_WARN)) 1680) good).tempCond Src.TEMP_CRIT
    (min (toSigned 16 (s.rd F.MG_TEMP_THR_CRIT)) 1840) good

/-- The operating range of a supply in mV (R437, and the operating conditions of Electrical Characteristics and Package). -/
def State.supRange (s : State) (n : Nat) : Nat × Nat :=
  match n with
  | 0 => (10800, 13200)
  | 1 => if s.crp.vio33 then (3135, 3465) else (1710, 1890)
  | 7 => (20000, 30000)
  | n => (Config.railLow n, Config.railHigh n)

/-- Inside its range, but within 2 % of a limit. -/
def supMargin (r : Nat × Nat) (v : Nat) : Bool :=
  decide (r.1 ≤ v) && decide (v ≤ r.2) && (decide (v * 100 ≤ r.1 * 102) || decide (r.2 * 98 ≤ v * 100))

/-- The supplies. -/
def State.supSample (s : State) (raw : List Nat) : State :=
  (List.range 8).foldl (fun s n =>
    let v := raw.getD n 0 % 65536
    (s.wr (F.MG_SUP_n n) v).sensorCond Src.SUP_MARGIN n (supMargin (s.supRange n) v)) s

/-- The field port currents; they come over the isolation channel. -/
def State.curSample (s : State) (raw : List Nat) (tot : Nat) : State :=
  let s1 := (List.range 8).foldl (fun s n => s.wr (F.MG_FCUR_n n) (raw.getD n 0)) s
  let s2 := s1.wr F.MG_FCUR_TOT tot
  let sum := ((List.range 8).map (fun n => s2.rd (F.MG_FCUR_n n))).sum
  let t := s2.rd F.MG_FCUR_TOT
  s2.sensorCond Src.FCUR_SENS 0xFF (decide (50 * 100 + 5 * t < (max sum t - min sum t) * 100))

/-- MALTSTER takes a sample of its sensors (R437). -/
def execSensorSample (temps sups curs : List Nat) (tot : Nat) (s : State) : Out :=
  .next (if s.fwRuns then
    let s1 := (s.tempSample temps).supSample sups
    (if s1.isoUp then s1.curSample curs tot else s1).spConds
  else s)

/-- Every hour: the ageing monitors, and the powered hours (R449). -/
def State.ageSample (s : State) (degr weeks : List Nat) : State :=
  let s1 := (List.range 12).foldl (fun s n => (s.wr (F.SP_AGE_n_DEGR n) (degr.getD n 0)).wr (F.SP_AGE_n_REMAIN_WK n) (weeks.getD n 0xFFFF)) s
  let any (thr : Nat) : Bool := (List.range 12).any (fun n => decide (thr ≤ s1.rd (F.SP_AGE_n_DEGR n)))
  let s2 := ((s1.condSet Src.SP_AGE_WARN 0xFF (any (s1.rd F.SP_AGE_THR_WARN))).condSet Src.SP_AGE_LIMIT 0xFF (any (s1.rd F.SP_AGE_THR_LIMIT))).inc
    F.MG_HOURS
  let s3 := [0, 1, 2, 3].foldl (fun (s : State) (e : Fin 4) => (s.trigger (.launch e))) s2
  let s4 := [0, 1, 2, 3].foldl (fun (s : State) (e : Fin 4) => if s.aged (4 + e.val) then s.trigger (.assembly e) else s) s3
  ([0, 1].foldl (fun (s : State) (c : Fin 2) => if s.aged (8 + c.val) then s.trigger (.counter c) else s) s4).spConds

def execAgeingSample (degr weeks : List Nat) (s : State) : Out := .next (if s.spRuns then s.ageSample degr weeks else s)

/-! SMBus (R438). -/

/-- What a command code reads. -/
def State.smbusWord (s : State) (code : Nat) : Nat :=
  if code ≤ 3 then s.rd (F.MG_TEMP_n code)
  else if code = 4 then s.rd F.MG_TEMP_MAX_CHIP
  else if 0x10 ≤ code ∧ code ≤ 0x17 then s.rd (F.MG_SUP_n (code - 0x10))
  else if 0x20 ≤ code ∧ code ≤ 0x27 then s.rd (F.MG_FCUR_n (code - 0x20))
  else if code = 0x28 then s.rd F.MG_FCUR_TOT
  else if code = 0x30 then s.rd F.CL_STATUS_FAULT + 2 * s.rd F.CL_STATUS_ERR_PAD
  else if code = 0x31 then s.spUnits
  else 0xFFFF

/-- The target answers at its address in every power state but OFF. -/
def execSmbusReadWord (addr code : Nat) (s : State) : Out :=
  .next (if ¬ s.crp.off ∧ s.on F.MG_I2C_CFG_EN ∧ addr = s.rd F.MG_I2C_CFG_ADDR then s.emit (.answer (s.smbusWord (code % 256))) else s)

def execSmbusError (s : State) : Out :=
  .next (if ¬ s.crp.off ∧ s.on F.MG_I2C_CFG_EN then s.raise0 Src.MG_I2C_ERR 0 else s)

/-! The log (R440). -/

/-- Records that have been written in this second. -/
def State.logSpent (s : State) : Nat := if s.mg.logAt = s.tb.mono / 1000000000 then s.mg.logN else 0

/-- One record of the buffer goes into the NOR, at up to RATE records a second; `fail`: all three attempts fail, and the sector passes
to Spares. -/
def execLogRecordWrite (fail : Bool) (s : State) : Out :=
  .next (match s.mg.buf with
  | [] => s
  | r :: t =>
    if ¬ s.fwRuns ∨ max 1 (s.rd F.MG_LOG_CFG) ≤ s.logSpent then s
    else
      let s1 := { s with mg := { s.mg with logAt := s.tb.mono / 1000000000, logN := s.logSpent + 1 } }
      if fail then (s1.raise0 Src.MG_LOG_ERR 0).subQueue 7 (s.mg.logSeq / 1024 % 256) 0 none
      else ({ s1 with mg := { s1.mg with buf := t } }).norWrite r)

end Sys2Proof.Machine
end

