-- ==== Sys2Proof/Machine/Pitch.lean ====
section
/-!
DEFINITION. PITCH's periodic choice of hot points (R365) and its memory window (R376).
Where the manual leaves a point open, the choices are log entries 44, 64, 71 (DEDUCED).
-/

namespace Sys2Proof.Machine

/-- Is a hot record free once every requested move has completed? -/
def State.hotFree (s : State) : Bool := decide (s.plannedUsed < 131072)

/-- Candidates that may be promoted: not pinned to DRAM and not already moving (R137, R365). -/
def State.heatCands (s : State) : List (Nat × Nat) :=
  s.pt.heatCand.filter (fun x => !s.plannedHot x.1 && (match s.point x.1 with | some r => r.pin != 2 | none => false))

/-- Steps 1 to 3 of a heat window with `n` moves left: promotions into free records, then exchanges (R365). An exchange is
two moves. -/
def State.heatMoves (s : State) (left : Nat) : Nat → State
  | 0 => s
  | n + 1 =>
    match hottest s.heatCands with
    | none => s
    | some c =>
      if left = 0 then s
      else if s.rd F.PT_HEAT_CFG_PROMOTE_MIN ≤ c.2 ∧ s.hotFree then (s.requestMove c.1 true 0).heatMoves (left - 1) n
      else match s.coldestHot with
        | none => s
        | some h =>
          if h.2 + s.rd F.PT_HEAT_CFG_HYST < c.2 ∧ 2 ≤ left then
            (s.requestSwap h.1 c.1 0).heatMoves (left - 2) n
          else s

/-- Halve every heat count; a candidate whose count reaches 0 is none any more (R365). -/
def halve (l : List (Nat × Nat)) : List (Nat × Nat) :=
  l.filterMap (fun x => if x.2 / 2 = 0 then none else some (x.1, x.2 / 2))

/-- The end of a heat window of WIN_MS ms (R365). -/
def execHeatWindowEnd (s : State) : Out :=
  .next (if s.pt.heatAt + max 1 (s.rd F.PT_HEAT_CFG_WIN_MS) * 1000000 ≤ s.tb.mono then
    let s1 := { s with pt := { s.pt with heatAt := s.tb.mono } }
    if s1.on F.PT_CTRL_HEAT_EN ∧ ¬ s1.on F.PT_STATUS_WIPING then
      let s2 := s1.heatMoves (s1.rd F.PT_MOVE_MAX) (s1.rd F.PT_MOVE_MAX)
      { s2 with pt := { s2.pt with heatHot := halve s2.pt.heatHot, heatCand := halve s2.pt.heatCand } }
    else s1
  else s)

/-- The window write that PT_MDATA_HI completes; reserved bits stay 0 (R13, R363, R369, R376, R532). -/
def State.ptStore (s : State) (w : Nat) : State :=
  let sp := s.rd F.PT_MSEL
  let a := s.rd F.PT_MADDR
  if s.on F.PT_STATUS_WIPING then s.wr F.PT_STATUS_WIN_REJ 1
  else if sp = 0 ∧ a < 1024 then
    { s with pt := { s.pt with intents := Sparse.put 0 s.pt.intents a (BitVec.ofNat 64 (w &&& 0xFFFF000F)) } }
  else if sp = 1 ∧ a < 2048 then
    { s with pt := { s.pt with qsets := Sparse.put 0 s.pt.qsets a (BitVec.ofNat 64 (w &&& 0x83FF83FF83FF83FF)) } }
  else s.wr F.PT_STATUS_WIN_REJ 1

/-- A word of a PITCH window space (R376). -/
def State.ptWord (s : State) : Nat :=
  let a := s.rd F.PT_MADDR
  if s.on F.PT_STATUS_WIPING then 0
  else match s.rd F.PT_MSEL with
    | 0 => if a < 1024 then (Sparse.get 0 s.pt.intents a).toNat % 2 ^ 32 else 0
    | 1 => if a < 2048 then (Sparse.get 0 s.pt.qsets a).toNat else 0
    | 2 => if a < 32768 then (match Sparse.get none s.pt.bind a with | some q => 2 ^ 31 + q % 1024 | none => 0) else 0
    | _ => if a < 2048 then (Sparse.get 0 s.pt.trace a).toNat else 0

/-- The effect of a write of the window's data high word (R12). -/
def State.ptMdata (s : State) (m hi : Nat) : State := s.winWrite m 0xC0048 hi F.PT_MADDR State.ptStore

/-- A write of PT_MDATA_HI (R376). -/
def execPtMdataWrite (m : Nat) (hi : Word) (s : State) : Out :=
  .next (s.busW m 0xC004C (fun s => s.ptMdata m hi.toNat))

end Sys2Proof.Machine
end

