-- ==== Sys2Proof/Machine/Reads.lean ====
section
/-!
DEFINITION. Reads of registers: the values that no register field of State holds by itself, the memory windows, and what a read
leaves behind (R11 to R14, R38, R195, R499, R500).
Where the manual leaves a point open, the choices are log entries 8 (PRESUMED); 11, 16, 23, 27, 68 (DESIGN CHOICE); 12, 13, 72 (DEDUCED).
-/

namespace Sys2Proof.Machine

/-! Addresses (R498 to R500). A VF's window stands at 0x20_0000 + 0x1_0000 × VF in this model; its queue and mailbox registers are those
of PF0 BAR0. -/

/-- What an offset of a master's BAR0 reaches. -/
inductive Reach where
  /-- A register at a BAR0 offset, and the target whose table is asked, none for VF_IDENT and reserved blocks (R499, R535). -/
  | reg (g : Nat) (t : Option Nat)
  /-- A local queue index that the VF does not own (R326). -/
  | alien
deriving DecidableEq, Repr

/-- The register at offset `o` of a VF's window (R500, R326, R389). -/
def State.vfReach (s : State) (m o : Nat) : Reach :=
  let here := 0x200000 + 0x10000 * fnOf m + o
  let own (q : Option Nat) (f : Nat → Nat) : Reach := match q with | some q => .reg (f q) (some 0x0E) | none => .alien
  if o < 0x800 then own (s.localSq m (o / 0x20)) (fun q => 0xE4000 + 0x20 * q + o % 0x20)
  else if o < 0xC00 then own (s.localCq m ((o - 0x800) / 0x10)) (fun q => 0xEC000 + 0x10 * q + o % 0x10)
  else if o < 0xD00 then own (s.localCq m ((o - 0xC00) / 4)) (fun q => 0xE1000 + 4 * q + o % 4)
  else if o < 0xD08 then .reg here (some 0x0E)
  else if 0x1000 ≤ o ∧ o < 0x1800 then .reg (0x100100 + (o - 0x1000)) (some 0x10)
  else if 0x1800 ≤ o ∧ o < 0x1820 then .reg (0x100010 + (o - 0x1800)) (some 0x10)
  else if o = 0x1820 then .reg here (some 0x10)
  else if (0x2000 ≤ o ∧ o < 0x2200) ∨ (0x3000 ≤ o ∧ o < 0x3004) then .reg here (some 0x0E)
  else .reg here none

/-- What a master's access reaches: a VF its window, every other master the blocks of PF0 BAR0. -/
def State.reach (s : State) (m off : Nat) : Reach :=
  if isVf m then s.vfReach m (off % 0x10000)
  else let o := off % 0x200000; .reg o (if o / 0x10000 ≤ 0x15 then some (o / 0x10000) else none)

/-! Values that are computed when they are read. -/

/-- Between a quotient rounded down and the same rounded up: how a remaining time is rounded is a free value. -/
def State.rounded (s : State) (x d : Int) : Int := if x % d = 0 then x / d else x / d + ((Config.freeWord s.freeIdx).toNat % 2 : Nat)

/-- The words of a fact that fuses hold (R503, R504). -/
def gctlView (m g : Nat) : Nat :=
  match g with
  | 0x00 => Config.vendorId.toNat
  | 0x08 => (Config.factoryWord 0).toNat
  | 0x0C => (Config.factoryWord 1).toNat
  | 0x10 => (Config.factoryWord 2).toNat
  | 0x14 => (Config.factoryWord 3).toNat / 65536 * 65536
  | 0x18 => (Config.factoryWord 4).toNat
  | 0x20 => (Config.factoryWord 5).toNat
  | 0x24 => macBaseHi
  | 0x28 => m % 64
  | _ => 0

/-- CRP: the blocks in reset (R493), and the share of the DRAM wiped, whose progress is open while the wipe runs (R402). -/
def State.crpView (s : State) (g : Nat) : Nat :=
  if g = 0x10010 then (s.crp.blk.map (fun x => 2 ^ x.1)).sum
  else if g = 0x10110 then
    (if s.on F.CRP_WIPE_STATUS_DRAM then (Config.freeWord s.freeIdx).toNat % 101 else if 4 ≤ s.rd F.CRP_BOOT_PHASE then 100 else 0)
  else 0

/-- TBASE (R37, R52, R60, R68, R69, R530). -/
def State.tbView (s : State) (g : Nat) : Nat :=
  let rem := ofSigned 64 (s.tb.slew.tdiv (2 ^ 32))
  match g with
  | 0x20004 => s.rd F.TB_FLW_STAT_LOCK * 2 ^ 11 + s.tb.reep.isSome.toNat * 2 ^ 12
  | 0x20010 => s.dt % 2 ^ 32
  | 0x20014 => s.dt / 2 ^ 32
  | 0x20018 => s.fracWord.toNat
  | 0x20038 => s.tb.reep.isSome.toNat * 2 ^ 31
  | 0x20068 => rem % 2 ^ 32
  | 0x2006C => rem / 2 ^ 32
  | 0x20144 => s.tb.tin0.length * 2 ^ 16
  | 0x20164 => s.tb.tin1.length * 2 ^ 16
  | _ => if 0x20180 ≤ g ∧ g < 0x20190 then bits s.tb.toutPad ((g - 0x20180) / 4) 1 * 2 ^ 8 else 0

/-- A cell's place: its chain and its index in it. -/
def State.cellChain (s : State) (a : Nat) : Option (Chain × Nat) :=
  s.gr.chains.findSome? (fun x => match x.2 with
    | some c => (c.cells.findIdx? (fun b => b == a)).map (fun i => (c, i))
    | none => none)

/-- Word `n` of a chain record (R351); of a record that is not VALID only its empty holder set and its STATE are given. -/
def State.chainWord (s : State) (c n : Nat) : Nat :=
  match s.chain c with
  | some r =>
    (match n with
      | 0 => r.holders % 2 ^ 64
      | 1 => r.cells.headD 0 % 2 ^ 23 + r.cells.getLastD 0 % 2 ^ 23 * 2 ^ 32
      | 2 => r.data.length % 2 ^ 20 + r.cells.length % 2 ^ 13 * 2 ^ 32 + (1 + r.complete.toNat * 2 + r.abort.toNat * 4) * 2 ^ 48
          + r.charge % 64 * 2 ^ 56
      | _ => r.allocDt.toNat)
  | none =>
    let f := (Config.freeWord s.freeIdx).toNat + (Config.freeWord (s.freeIdx + 1)).toNat * 2 ^ 32
    (match n with
      | 0 => 0
      | 1 => f &&& 0x007FFFFF007FFFFF
      | 2 => f &&& 0x3F001FFF000FFFFF
      | _ => f)

/-- Is a cell address inside its pool (R350)? -/
def State.cellThere (s : State) (a : Nat) : Bool := decide (a % 2 ^ 22 < s.poolSize (poolOfCell a))

/-- A link entry (R350); the NEXT of a last or free cell is open. -/
def State.linkWord (s : State) (a : Nat) : Nat :=
  let open_ := (Config.freeWord s.freeIdx).toNat % 2 ^ 23
  match s.cellChain a with
  | some (c, i) => (match c.cells[i + 1]? with | some b => b % 2 ^ 23 | none => open_ + 2 ^ 23)
  | none => (Config.freeWord s.freeIdx).toNat % 2 ^ 24

/-- Eight data bytes of a cell; bytes that no chain has stored are open. -/
def State.cellWord (s : State) (a n : Nat) : Nat :=
  let byte (k : Nat) : Byte := Config.freeByte (s.freeIdx + k)
  leNat ((List.range 8).map (fun k => match s.cellChain a with
    | some (c, i) => c.data.getD (i * 128 + n * 8 + k) (byte k)
    | none => byte k))

/-- A word of a GRIST window space (R374); cell data are for MGMT and DBG. -/
def State.grWord (s : State) (m : Nat) : Nat :=
  let a := s.rd F.GR_MADDR
  if s.on F.GR_STATUS_WIPING then 0
  else match s.rd F.GR_MSEL with
    | 0 => if a < 131072 then s.chainWord (a / 4) (a % 4) else 0
    | 1 => if a < 1048576 then s.chainWord (2 ^ 18 + a / 4) (a % 4) else 0
    | 2 => if a < 2 ^ 23 ∧ s.cellThere a then s.linkWord a else 0
    | _ => if 1 < m then 0 else if s.cellThere (a / 16) then s.cellWord (a / 16) (a % 16) else 0

/-- GRIST (R350, R353, R355). -/
def State.grView (s : State) (g : Nat) : Nat :=
  match g with
  | 0xB0004 => s.gr.chains.countP (fun x => x.2.isSome)
  | 0xB0018 => min (2 ^ 17 - 1) (s.grOut 0)
  | 0xB001C => min (2 ^ 23 - 1) (s.grOut 1)
  | 0xB0020 => min 65535 s.gr.wipe0.length + min 65535 s.gr.wipe1.length * 65536
  | _ => 0

/-- Word `w` of book slot `e` (R421): what a slot holds after its entry has left is open; a slot never used reads 0. -/
def State.bookWord (s : State) (e w : Nat) : Nat :=
  match s.cl.book[(e + 16 - s.cl.rdAt) % 16]? with
  | some x => leNat (slice x.bytes (4 * w) 4)
  | none => if s.cl.seq ≤ e then 0 else (Config.freeWord s.freeIdx).toNat

/-- LAUTER's port pages: a class without a running shaper shows CREDIT_OK, and the credit of a class in bits; a part of a bit rounds
in a way that is open, and so is what a credit outside 32 bits reads as (R242, R258). -/
def State.ltView (s : State) (g : Nat) : Nat :=
  let p := (g - 0xA0400) / 0x100
  let o := (g - 0xA0400) % 0x100
  if g < 0xA0400 ∨ 10 ≤ p then 0
  else if o = 4 then
    ((List.range 8).map (fun c => if !s.cbsRuns p c && bits (s.rd (F.LT_Pn_STATUS_CREDIT_OK p)) c 1 == 0 then 2 ^ c else 0)).sum
  else if 0x40 ≤ o ∧ o < 0xC0 ∧ o % 0x10 = 0xC then
    let v := s.rounded (s.credit p ((o - 0x40) / 0x10)) 1000000
    if -(2 ^ 31) ≤ v ∧ v < 2 ^ 31 then ofSigned 32 v else (Config.freeWord s.freeIdx).toNat
  else 0

/-- CELLAR (R421, R428, R431). -/
def State.clView (s : State) (g : Nat) : Nat :=
  if g = 0x110004 then s.cl.rdAt + s.cl.book.length * 2 ^ 16 + (!s.cl.settle.isEmpty).toNat * 2 ^ 27
  else if g = 0x110028 then min 255 (s.cl.crits.countP (fun t => decide (s.tb.mono < t + 1000000000)))
  else if 0x110100 ≤ g ∧ g < 0x110300 then s.bookWord ((g - 0x110100) / 32) ((g - 0x110100) % 32 / 4)
  else 0

/-- ACCESS (R400, R405); word 0 of a table shows the entry of DBG that the debug level gives (R396). -/
def State.acView (s : State) (g : Nat) : Nat :=
  if g = 0x130018 then (Config.nonce s.crp.nonce).toNat % 2 ^ 32
  else if g = 0x13001C then (Config.nonce s.crp.nonce).toNat / 2 ^ 32
  else if g = 0x130024 then
    (match s.crp.dbgEnd with
      | some t => (s.rounded (t - s.tb.mono : Nat) 60000000000).toNat % 65536
      | none => 0)
  else if 0x131000 ≤ g ∧ g < 0x1312C0 ∧ g % 0x20 = 0 then s.perms ((g - 0x131000) / 0x20) 1 * 16
  else 0

/-- SPARE (R449, R451). -/
def State.spView (s : State) (g : Nat) : Nat :=
  if g = 0x150004 then
    min 255 s.sp.queue.length + (s.sp.queue.any (fun e => e.act)).toNat * 2 ^ 8 + (s.cond Src.SP_LOW).toNat * 2 ^ 9
      + (s.cond Src.SP_EXHAUSTED).toNat * 2 ^ 10 + (s.cond Src.SP_SELFTEST).toNat * 2 ^ 11 + s.spUnits % 65536 * 65536
  else if 0x150080 ≤ g ∧ g < 0x1500C0 then
    (match s.sp.queue[(g - 0x150080) / 4]? with
      | some e => 2 ^ 31 + e.cls % 8 * 2 ^ 28 + e.unit % 2 ^ 28
      | none => 0)
  else 0

/-- MSI-X tables of PF0 and of the VFs: function and word (R321). -/
def msixPlace (g : Nat) : Option (Nat × Nat) :=
  if 0xE2000 ≤ g ∧ g < 0xE3000 then some (0, (g - 0xE2000) / 4)
  else if 0x200000 ≤ g ∧ 0x2000 ≤ g % 0x10000 ∧ g % 0x10000 < 0x2200 then some (g / 0x10000 - 0x20, (g % 0x10000 - 0x2000) / 4)
  else none

/-- Pending-bit arrays: function and word. -/
def pbaPlace (g : Nat) : Option (Nat × Nat) :=
  if 0xE3000 ≤ g ∧ g < 0xE3020 then some (0, (g - 0xE3000) / 4)
  else if 0x200000 ≤ g ∧ g % 0x10000 = 0x3000 then some (g / 0x10000 - 0x20, 0)
  else none

/-- A word of an MSI-X table; vector control resets to masked (PRESUMED, the PCI Express specification). -/
def State.msixWord (s : State) (fn i : Nat) : Nat :=
  (Sparse.get 0 s.pcie.msixTab (fn * 1024 + i) ^^^ (if i % 4 = 3 then 1 else 0)).toNat

/-- QENG's tables that lie beside its registers. -/
def State.qeView (s : State) (g : Nat) : Nat :=
  match msixPlace g, pbaPlace g with
  | some (fn, i), _ => s.msixWord fn i
  | _, some (fn, i) => ((List.range 32).map (fun k => if fn * 256 + 32 * i + k ∈ s.pcie.msixPend then 2 ^ k else 0)).sum
  | _, _ => 0

/-- Sender and receiver of a mailbox channel in MB_CH_STAT (R377). -/
def State.mbView (s : State) (g : Nat) : Nat :=
  if 0x100100 ≤ g ∧ g < 0x100900 ∧ g % 0x20 = 0xC then
    let n := (g - 0x100100) / 0x20
    s.mbSender n + s.mbReceiver n * 2 ^ 8
  else 0

/-- What a register shows beside the fields that State holds for it. -/
def State.viewVal (s : State) (m g : Nat) : Nat :=
  if 0x200000 ≤ g then s.qeView g
  else match g / 0x10000 with
    | 0x00 => gctlView m g
    | 0x01 => s.crpView g
    | 0x02 => s.tbView g
    | 0x0A => s.ltView g
    | 0x0B => s.grView g
    | 0x0C => if g = 0xC0004 then s.pt.copies.length else 0
    | 0x0E => s.qeView g
    | 0x10 => s.mbView g
    | 0x11 => s.clView g
    | 0x13 => s.acView g
    | 0x15 => s.spView g
    | _ => 0

/-- The bits of a register that its fields hold; WO fields read 0 (R14). -/
def State.fieldVal (s : State) (fs : List Fld) : Nat :=
  (fs.map (fun f => if f.acc = .wo then 0 else s.rd f * 2 ^ f.lo)).sum

/-! Memory windows (R12, R195). -/

/-- A memory window: the low word of its data, its address register. -/
def winOf (g : Nat) : Option (Nat × Fld) :=
  if g = 0x60018 ∨ g = 0x6001C then some (0x60018, F.KN_MADDR)
  else if g = 0x80048 ∨ g = 0x8004C then some (0x80048, F.FN_MADDR)
  else if g = 0x90018 ∨ g = 0x9001C then some (0x90018, F.PS_MADDR)
  else if g = 0xA0018 ∨ g = 0xA001C then some (0xA0018, F.LT_MADDR)
  else if g = 0xB0048 ∨ g = 0xB004C then some (0xB0048, F.GR_MADDR)
  else if g = 0xC0048 ∨ g = 0xC004C then some (0xC0048, F.PT_MADDR)
  else if g = 0xD0058 ∨ g = 0xD005C then some (0xD0058, F.GY_MADDR)
  else if g = 0xD8028 ∨ g = 0xD802C then some (0xD8028, F.MS_MADDR)
  else none

/-- The record that a window address belongs to, for windows whose reads latch whole records: block, first word with its space, length
(R195, R374). -/
def State.winRec (s : State) (lo : Nat) : Option (Nat × Nat × Nat) :=
  let of (b sp a n : Nat) : Option (Nat × Nat × Nat) := some (b, sp * 2 ^ 32 + a / n * n, n)
  if lo = 0x80048 then of 0 (s.rd F.FN_MSEL) (s.rd F.FN_MADDR) (fnSpace (s.rd F.FN_MSEL)).2
  else if lo = 0x90018 then
    (match s.rd F.PS_MSEL with
      | 0 => of 1 0 (s.rd F.PS_MADDR) 2
      | 3 => none
      | sp => of 1 sp (s.rd F.PS_MADDR) 4)
  else if lo = 0xB0048 ∧ s.rd F.GR_MSEL ≤ 1 then of 2 (s.rd F.GR_MSEL) (s.rd F.GR_MADDR) 4
  else none

/-- The word that a window's address selects, as it stands now. -/
def State.winNow (s : State) (m lo : Nat) : Nat :=
  match lo with
  | 0x60018 => s.knWord
  | 0x80048 => s.fnPeek (s.rd F.FN_MSEL) (s.rd F.FN_MADDR)
  | 0x90018 => s.psPeek (s.rd F.PS_MSEL) (s.rd F.PS_MADDR)
  | 0xA0018 => s.ltPeek (s.rd F.LT_MSEL) (s.rd F.LT_MADDR)
  | 0xB0048 => s.grWord m
  | 0xC0048 => s.ptWord
  | 0xD0058 => s.gyWord
  | 0xD8028 => s.msWord
  | _ => 0

/-- The word that a master reads: of a record whose word 0 it has read, the word latched then. -/
def State.winVal (s : State) (m lo : Nat) (adr : Fld) : Nat :=
  match s.winRec lo with
  | some (b, base, n) =>
    (match Sparse.get none s.recLatch (m * 4 + b) with
      | some (base', ws) => if base' = base ∧ s.rd adr % n ≠ 0 then (ws.getD (s.rd adr % n) 0).toNat else s.winNow m lo
      | none => s.winNow m lo)
  | none => s.winNow m lo

/-- The words of the record at a window's address, read one after the other. -/
def State.winRecord (s : State) (m lo n : Nat) (adr : Fld) : List DWord :=
  (List.range n).map (fun i => BitVec.ofNat 64 ((s.wr adr (s.rd adr + i)).winNow m lo))

/-- A read of word 0 of a record latches the record for the master (R195). -/
def State.winLatch (s : State) (m lo : Nat) (adr : Fld) : State :=
  match s.winRec lo with
  | some (b, base, n) =>
    if s.rd adr % n = 0 then { s with recLatch := Sparse.put none s.recLatch (m * 4 + b) (some (base, s.winRecord m lo n adr)) } else s
  | none => s

/-- The value of a register for a master, without any effect of reading it (R96). -/
def State.regVal (s : State) (m g : Nat) : Nat :=
  match winOf g with
  | some (lo, adr) => if g = lo then s.winVal m lo adr % 2 ^ 32 else s.winVal m lo adr / 2 ^ 32 % 2 ^ 32
  | none => (s.fieldVal (fieldsAt m g) + s.viewVal m g) % 2 ^ 32

/-! What a read does. -/

/-- Has a register counters that a read clears? -/
def rcFields (m g : Nat) : List Fld := (fieldsAt m g).filter (fun f => f.acc = .rc)

/-- The counters of a register are cleared by a read (R14); a port's error rates go on (R478). -/
def State.rcClear (s : State) (m g : Nat) : State :=
  let s1 := if g % 0x10000 = 0x0134 ∧ (g / 0x10000 = 3 ∨ g / 0x10000 = 4) then s.bpCleared (g / 0x10000 - 3) true false
    else if g % 0x10000 = 0x0120 ∧ (g / 0x10000 = 3 ∨ g / 0x10000 = 4) then s.bpCleared (g / 0x10000 - 3) false true
    else s
  (rcFields m g).foldl (fun s f => s.wr f 0) s1

/-- The word latched for a master at an offset (R12). -/
def State.latchedAt (s : State) (m g : Nat) : Option Word := Sparse.get none s.latched (m * 2 ^ 24 + g)

/-- A latched word is returned once. -/
def State.unlatch (s : State) (m g : Nat) : State := { s with latched := Sparse.put none s.latched (m * 2 ^ 24 + g) none }

/-- A read of a window's data: the low word latches the high word, the high word moves the address on (R104). In space 3 of GRIST
only MGMT and DBG read (R374). -/
def State.winRead (s : State) (m g lo : Nat) (adr : Fld) : State :=
  if g = lo then
    let s0 := if lo = 0xB0048 ∧ s.rd F.GR_MSEL = 3 ∧ 1 < m then s.wr F.GR_STATUS_WIN_REJ 1 else s
    let v := s.winVal m lo adr
    { (s0.winLatch m lo adr).latch m (lo + 4) (BitVec.ofNat 32 (v / 2 ^ 32)) with
      readData := [BitVec.ofNat 32 v], freeIdx := s.freeIdx + 8 }
  else
    let v : Word := match s.latchedAt m g with
      | some w => w
      | none => BitVec.ofNat 32 (s.winVal m lo adr / 2 ^ 32)
    { ((s.unlatch m g).advance adr) with readData := [v], freeIdx := s.freeIdx + 8 }

/-- A read of a register of a mailbox channel by a master that is not bound to it: MGMT still reads MB_CH_STAT (R379). -/
def State.mbAlien (s : State) (m g : Nat) : Bool :=
  let n := (g - 0x100100) / 0x20
  decide (0x100100 ≤ g) && decide (g < 0x100900) && !s.mbBound n m && !(decide (m = 0) && decide (g % 0x20 = 0xC))

/-- A 32-bit read of a register with all that it does (R12, R14, R38, R68, R195, R384). -/
def State.regRead (s : State) (m g : Nat) : State :=
  match winOf g with
  | some (lo, adr) => s.winRead m g lo adr
  | none =>
    if g = 0x20148 then s.tinPop m 0
    else if g = 0x20168 then s.tinPop m 1
    else if 0x100100 ≤ g ∧ g < 0x100900 ∧ g % 0x20 = 0x14 then s.mbTake ((g - 0x100100) / 0x20) [m]
    else if s.mbAlien m g then { (s.mbReject m) with readData := [0] }
    else match s.latchedAt m g with
      | some w => { s.unlatch m g with readData := [w] }
      | none =>
        let v := s.regVal m g
        let n := pairWords g
        let s1 := if 2 ≤ n then s.latch m (g + 4) (BitVec.ofNat 32 (s.regVal m (g + 4))) else s
        let s2 := if n = 3 then s1.latch m (g + 8) (BitVec.ofNat 32 (s.regVal m (g + 8))) else s1
        let s3 := s2.rcClear m g
        let s4 := if 2 ≤ n then s3.rcClear m (g + 4) else s3
        { s4 with readData := [BitVec.ofNat 32 v], freeIdx := s.freeIdx + 1 }

/-! Widths (R11, R12). -/

/-- The words that an access touches: its own, and for 64 bits the next. -/
def accWords (bytes off : Nat) : List Nat := if bytes = 8 then [off / 4 * 4, off / 4 * 4 + 4] else [off / 4 * 4]

/-- GC_ACC_ERR.SIZE of an access that is not naturally aligned 32 or 64 bits, none for one that is; which of the codes 5 to 7 another
width has is open. -/
def State.accSize (s : State) (bytes off : Nat) : Option Nat :=
  match bytes with
  | 1 => some 0
  | 2 => some 1
  | 3 => some 2
  | 4 => if off % 4 = 0 then none else some 3
  | 8 => if off % 8 = 0 then none else some 4
  | _ => some (5 + (Config.freeWord s.freeIdx).toNat % 3)

/-- One word of a read: the table of the block that it reaches, then the read (R392, R500, R535). -/
def State.readWord (s : State) (m off : Nat) : State :=
  match s.reach m off with
  | .alien => { (if s.may 0x0E m permR then s else s.deny 0 m 0x0E (off % 0x10000)) with readData := [0] }
  | .reg g none => { s with readData := [BitVec.ofNat 32 (s.regVal m g)] }
  | .reg g (some t) =>
    if s.may t m permR ∨ (t = 0x10 ∧ 0x100100 ≤ g ∧ g < 0x100900 ∧ g % 0x20 = 0x14) then s.regRead m g
    else { s.deny 0 m t (off % 0x10000) with readData := [0] }

/-- A read of `bytes` bytes of a master's BAR0: the words that it touches in order; another width than 32 or 64 bits returns the
addressed bytes of its register (R11, R12, R497). -/
def State.busRead (s : State) (m off bytes : Nat) : State :=
  if !s.decodes m then { s with readData := [] }
  else
    let s1 := (accWords bytes off).foldl (fun s w =>
      let old := s.readData
      let s1 := s.readWord m w
      { s1 with readData := old ++ s1.readData }) { s with readData := [] }
    match s1.readData with
    | [w] => { s1 with readData := [BitVec.ofNat 32 (w.toNat / 2 ^ (8 * (off % 4)) % 2 ^ (8 * bytes))] }
    | _ => s1

end Sys2Proof.Machine
end

