-- ==== Sys2Proof/Machine/Bus.lean ====
section
/-!
DEFINITION. Writes of registers: access codes and change classes (R12 to R18), what each block does at a write (R16, R390, R392), and
the commands that reach registers by their address.
Where the manual leaves a point open, the choices are log entries 8 (PRESUMED); 11, 14, 16 (DESIGN CHOICE); 12, 17 (DEDUCED).
-/

namespace Sys2Proof.Machine

/-! Plain registers (R14, R16, R18). -/

/-- Does the block that a register belongs to count as enabled, so that its F fields are kept (R16)? -/
def State.frozenOn (s : State) (g : Nat) : Bool :=
  match g / 0x10000 with
  | 0x02 => s.on F.TB_CTRL_PTP_EN
  | 0x03 => s.on (F.BP_CTRL_EN 0)
  | 0x04 => s.on (F.BP_CTRL_EN 1)
  | 0x05 => 0x50400 ≤ g && s.on (F.FP_CTRL_EN ((g - 0x50400) / 0x80))
  | 0x06 => 0x60400 ≤ g && s.on (F.KN_Pn_CTRL_GATE_EN ((g - 0x60400) / 0x80))
  | 0x07 => 0x70400 ≤ g && s.on (F.LN_Pn_CTRL_TX_EN ((g - 0x70400) / 0x80))
  | 0x08 => s.on F.FN_CTRL_EN
  | 0x0B => s.on F.GR_CTRL_EN
  | 0x0D => 0xD8000 ≤ g && s.on F.MS_CTRL_EN
  | 0x0E => if 0xEC000 ≤ g then s.on (F.QE_CQ_CFG_EN ((g - 0xEC000) / 0x10)) else 0xE4000 ≤ g && s.on (F.QE_SQ_CFG_EN ((g - 0xE4000) / 0x20))
  | 0x0F => if g < 0xF0100 then s.on F.DMA_CTRL_EN else s.chBusy ((g - 0xF0100) / 0x40)
  | 0x12 => s.on F.TW_CTRL_EN
  | _ => false

/-- The bits of a written word that belong to a field. -/
def Fld.of (f : Fld) (v : Nat) : Nat := bits v f.lo f.w

/-- One field of a register that is written; `en` tells whether its block is enabled. Staged fields and fields that only act or only
report stay. -/
def State.fldWrite (s : State) (en : Bool) (v : Nat) (f : Fld) : State :=
  match f.acc with
  | .rw => (match f.cls with
      | .live => s.wr f (f.of v)
      | .frozen => if en then s else s.wr f (f.of v)
      | _ => s)
  | .w1c => s.wr f (s.rd f &&& (2 ^ f.w - 1 - f.of v))
  | .w1s => s.wr f (s.rd f ||| f.of v)
  | _ => s

/-- Would a write change an F field (R16)? -/
def State.fldFrozen (s : State) (v : Nat) (f : Fld) : Bool := f.acc = .rw && f.cls = .frozen && f.of v != s.rd f

/-- A write of a register's fields but `skip`, by their access codes and change classes (R14, R16, R18). -/
def State.plainWrite (s : State) (m g v : Nat) (skip : List Fld) : State :=
  let fs := (fieldsAt m g).filter (fun f => !skip.contains f)
  let en := s.frozenOn g
  let s1 := if en && fs.any (fun f => s.fldFrozen v f) then s.cfgWhileRunning m (g % 0x200000) else s
  fs.foldl (fun s f => s.fldWrite en v f) s1

/-! Pairs (R12). -/

/-- Is the register the low word of a 64-bit quantity that software writes? -/
def holdsLow (m g : Nat) : Bool := pairWords g == 2 && (fieldsAt m g).any (fun f => f.acc = .rw)

/-- The low word is held for the master. -/
def State.holdLow (s : State) (m g v : Nat) : State :=
  { s with loHeld := Sparse.put none s.loHeld (m * 2 ^ 24 + g) (some (BitVec.ofNat 32 v)) }

/-- The low word that goes with a write of a high word: the one held, else the one in force. -/
def State.lowFor (s : State) (m g : Nat) (f : Fld) : Nat :=
  match Sparse.get none s.loHeld (m * 2 ^ 24 + g) with
  | some w => w.toNat
  | none => s.rd f

/-- A write of a plain register; the two words of a pair apply together. -/
def State.wordWrite (s : State) (m g v : Nat) (skip : List Fld) : State :=
  if holdsLow m g then s.holdLow m g v
  else if 4 ≤ g ∧ holdsLow m (g - 4) then
    (match Sparse.get none s.loHeld (m * 2 ^ 24 + (g - 4)) with
      | some w => ((s.dropLow m (g - 4)).plainWrite m (g - 4) w.toNat skip).plainWrite m g v skip
      | none => s.plainWrite m g v skip)
  else s.plainWrite m g v skip

/-- An effect that needs ADM on its target besides W (R390). -/
def State.admOr (s : State) (m g : Nat) (f : State → State) : State :=
  if s.may (g / 0x10000) m permADM then f s else s.deny 3 m (g / 0x10000) (g % 0x10000)

/-! The blocks. -/

/-- The RC registers that CNT_CLEAR clears: all of PF0 BAR0 but CL_SRC_CNT_n (R506). -/
def clearedKey (k : Nat) : Bool :=
  let g := k / 32
  decide (g < 0x200000) && !(decide (0x110800 ≤ g) && decide (g < 0x110A80))
    && (fieldsAt 0 g).any (fun f => f.acc = .rc && f.lo == k % 32)

/-- GC_CTRL.CNT_CLEAR; increments that wait on the field die are counted afterwards (R470, R506). -/
def State.cntClear (s : State) : State :=
  let s1 := (s.bpCleared 0 true true).bpCleared 1 true true
  { s1 with regs := s1.regs.filter (fun x => !clearedKey x.1) }

/-- GCTL (R503, R505, R506). -/
def State.gcWrite (s : State) (m g v : Nat) : State :=
  if g = 0x40 then (if bitOn v 31 then s.admOr m g State.cntClear else s)
  else if g = 0x48 ∨ g = 0x4C then (if bitOn v 31 then s.errClear (g == 0x48) else s)
  else s.wordWrite m g v []

/-- CRP (R406, R491, R493). -/
def State.crpWrite (s : State) (m g v : Nat) : State :=
  if g = 0x10010 then s.blkWrite m v
  else if g = 0x10014 then s.chipRst m (bits v 24 8) (bitOn v 0)
  else if g = 0x10100 then s.pwWrite m (bits v 0 2) (bits v 24 8)
  else s.wordWrite m g v []

/-- TB_CTRL: of several requests in one write, each is judged by the state before it (R17, R40, R42). -/
def State.tbCtrl (s : State) (m v : Nat) : State :=
  let s1 := s.plainWrite m 0x20000 v [F.TB_CTRL_COMMIT]
  let s2 := if bitOn v 3 then s1.stepGo else s1
  let s3 :=
    if s.tbState = tbFree then (if bitOn v 4 then s2.acq else s2)
    else if s.tbState = tbAcquire then (if bitOn v 5 then s2.lockReq else s2)
    else if s.tbState = tbLocked then (if bitOn v 2 then s2.holdReq else s2)
    else if bitOn v 1 then s2.holdExit else s2
  if bitOn v 31 then s3.ppsSetCommit else s3

/-- A TOUT pad's settings are written (R69). -/
def State.toutWrite (s : State) (m g v : Nat) : State :=
  let n := (g - 0x20180) / 4
  let s1 := s.plainWrite m g v []
  if s1.on (F.TB_TOUTn_CFG_OE n) then s1.toutDrive n else s1.toutOff n

/-- PPS_IN is written: an enable starts its second (R67). -/
def State.ppsInWrite (s : State) (m v : Nat) : State :=
  let s1 := s.plainWrite m 0x20110 v []
  if bitOn v 31 && !s.on F.TB_PPSI_CFG_EN then { s1 with tb := { s1.tb with ppsInAt := s1.quarters 0, ppsInHave := false } } else s1

/-- A write of TB_REEP: ignored and reported while a re-epoch is armed (R60). -/
def State.reepWrite (s : State) (m g v : Nat) : State :=
  if s.tb.reep.isSome then s.wr F.TB_STATUS_REEP_REJ 1 else s.wordWrite m g v []

/-- TBASE (R33 to R72). -/
def State.tbWrite (s : State) (m g v : Nat) : State :=
  match g with
  | 0x20030 => s.reepWrite m g v
  | 0x20034 => s.reepWrite m g v
  | 0x20000 => s.tbCtrl m v
  | 0x20024 => (s.incWrite m (s.lowFor m 0x20020 F.TB_INC_LO + v % 16 * 2 ^ 32)).dropLow m 0x20020
  | 0x20038 => s.reepCtrl (v % 16) (bitOn v 31)
  | 0x20074 => (s.measOffset (s.lowFor m 0x20070 F.TB_MEAS_OFFS_LO + v * 2 ^ 32)).dropLow m 0x20070
  | 0x2007C => s.measSeq v
  | 0x20080 => s.servoReq m (bitOn v 30)
  | 0x200A0 => if bitOn v 0 then s.snap else s
  | 0x20104 => { s with tb := { s.tb with ppsPeriod := BitVec.ofNat 32 v } }
  | 0x20108 => { s with tb := { s.tb with ppsPhase := BitVec.ofNat 32 v } }
  | 0x2010C => { s with tb := { s.tb with ppsWidth := BitVec.ofNat 32 v } }
  | 0x20110 => s.ppsInWrite m v
  | _ => if 0x20180 ≤ g ∧ g < 0x20190 then s.toutWrite m g v else s.wordWrite m g v []

/-- A backbone port (R457 to R465, R479); a change of MODE changes the port rate (R243). -/
def State.bpWrite (s : State) (m g v : Nat) : State :=
  let p := g / 0x10000 - 3
  if g % 0x10000 = 0 then
    let s1 := s.plainWrite m g v [F.BP_CTRL_EN p]
    let s2 := if bitOn v 0 != s.on (F.BP_CTRL_EN p) then s1.bpEnWrite p (bitOn v 0) else s1
    let s3 := if s2.rd (F.BP_CTRL_MODE p) = s.rd (F.BP_CTRL_MODE p) then s2 else s2.slopeCheck p
    if bitOn v 31 then s3.bpRestart p else s3
  else if g = 0x30044 then
    (if bitOn v 31 then s.mdioGo (bits v 30 1) (bits v 28 2) (bits v 21 5) (bits v 16 5) (bits v 0 16) else s)
  else s.wordWrite m g v []

/-- The FIELD proxy (R469 to R472, R480). -/
def State.fdWrite (s : State) (m g v : Nat) : State :=
  if g = 0x50000 then
    let s1 := s.plainWrite m g v []
    if bitOn v 31 && s1.isoUp then s1.fieldResetIf else s1
  else if 0x50400 ≤ g ∧ g < 0x50800 ∧ g % 0x80 = 0 then
    let n := (g - 0x50400) / 0x80
    let s1 := s.plainWrite m g v [F.FP_CTRL_EN n, F.FP_CTRL_PWR_EN n]
    let s2 := if bitOn v 11 != s.on (F.FP_CTRL_PWR_EN n) then s1.fpPwrWrite n (bitOn v 11) else s1
    let s3 := if bitOn v 0 != s.on (F.FP_CTRL_EN n) then s2.fpEnWrite n (bitOn v 0) else s2
    if bitOn v 31 then s3.fieldRestart n else s3
  else s.wordWrite m g v []

/-- KN_SG_CMD (R91). -/
def State.sgCmd (s : State) (op g : Nat) : State :=
  match op with
  | 1 => s.sgEnable g
  | 2 => s.sgDisable g
  | 3 => s.sgChange g
  | 4 => s.sgAbort g
  | _ => s

/-- A port page of KILN: its administrative registers are refused while locked (R83). -/
def State.knPage (s : State) (m g v : Nat) : State :=
  let p := (g - 0x60400) / 0x80
  let o := (g - 0x60400) % 0x80
  if o = 0 then
    let s1 := s.plainWrite m g v [F.KN_Pn_CTRL_GATE_EN p, F.KN_Pn_CTRL_CFG_CHANGE p]
    let s2 := if bitOn v 30 then s1.cfgAbort p else s1
    let s3 := if bitOn v 31 then s2.cfgChange p else s2
    if bitOn v 0 != s.on (F.KN_Pn_CTRL_GATE_EN p) then s3.gateWrite p (bitOn v 0) else s3
  else if 8 ≤ o ∧ o < 0x20 ∧ s.adminLocked p then s.adminRej p
  else
    let s1 := s.wordWrite m g v []
    if o = 0xC then s1.setKnPort p { s1.knPort p with admNeg := false } else s1

/-- KN_CTRL: the stream gates follow SG_EN; an action whose DT has passed while TA_EN was 0 is late when it is 1 again (R92, R98). -/
def State.knCtrl (s : State) (m v : Nat) : State :=
  let s1 := (s.plainWrite m 0x60000 v []).sgRun (s.on F.KN_CTRL_SG_EN)
  if s1.on F.KN_CTRL_TA_EN ∧ ¬ s.on F.KN_CTRL_TA_EN then
    { s1 with kn := { s1.kn with tas := s1.kn.tas.map (fun x => (x.1, x.2.map (fun t => if t.dt < s.dt then { t with passed := true } else t))) } }
  else s1

/-- KILN (R73 to R104). -/
def State.knWrite (s : State) (m g v : Nat) : State :=
  if g = 0x6001C then s.knMdata m v
  else if g = 0x60000 then s.knCtrl m v
  else if g = 0x60060 then
    let s1 := if bitOn v 31 then s.taSubmitReg m else s
    if bitOn v 30 then s1.taCancelReg m (bits v 0 12) else s1
  else if g = 0x60100 then s.sgCmd (bits v 29 3) (bits v 0 10)
  else if 0x60400 ≤ g ∧ g < 0x60900 then s.knPage m g v
  else s.wordWrite m g v []

/-- LAUNCH (R105 to R129). -/
def State.lnWrite (s : State) (m g v : Nat) : State :=
  if 0x70400 ≤ g ∧ g < 0x70900 ∧ g % 0x80 = 0 then
    let p := (g - 0x70400) / 0x80
    let s1 := (s.plainWrite m g v []).mmUpdate p
    if bitOn v 31 then s1.verifyRestart p else s1
  else s.wordWrite m g v []

/-- FN_CMD (R203, R217, R230). -/
def State.fnOp (s : State) (op i : Nat) : State :=
  match op with
  | 1 => s.fnCmd 1 id
  | 2 => s.fnCmd 2 id
  | 3 => s.fnCmd 3 id
  | 4 => s.recResetCmd i
  | 5 => s.recClear i
  | 6 => s.strmClear i
  | _ => s

/-- FINING. -/
def State.fnWrite (s : State) (m g v : Nat) : State :=
  if g = 0x80030 then s.fnOp (bits v 28 4) (bits v 0 15)
  else if g = 0x8004C then s.fnMdata m v
  else s.wordWrite m g v []

/-- PS_CMD (R220 to R226). -/
def State.psOp (s : State) (op i : Nat) : State :=
  match op with
  | 1 => s.psUnblock i
  | 2 => s.psClear i
  | 3 => s.psMeterReset i
  | 4 => s.psReopen i
  | _ => s

/-- PSFP. -/
def State.psWrite (s : State) (m g v : Nat) : State :=
  if g = 0x90008 then s.psOp (bits v 28 4) (bits v 0 12)
  else if g = 0x9001C then s.psMdata m v
  else s.wordWrite m g v []

/-- A port page of LAUTER: slopes and caps apply at the port's next frame boundary (R243). -/
def State.ltPage (s : State) (m g v : Nat) : State :=
  let p := (g - 0xA0400) / 0x100
  let o := (g - 0xA0400) % 0x100
  let s1 := s.plainWrite m g v []
  if o = 0 then s1.slopeCheck p
  else if 0x40 ≤ o ∧ o < 0xC0 then ((if (s1.lnPort p).wire.isNone then s1.slopesApply p else s1).slopeCheck p)
  else s1

/-- LAUTER. -/
def State.ltWrite (s : State) (m g v : Nat) : State :=
  if g = 0xA001C then s.ltMdata m v
  else if g = 0xA0020 then (if bitOn v 31 then s.queuePause (bits v 16 10) (bits v 0 16) else s)
  else if 0xA0400 ≤ g ∧ g < 0xA0E00 then s.ltPage m g v
  else s.wordWrite m g v []

/-- GRIST (R361, R374). -/
def State.grWrite (s : State) (m g v : Nat) : State :=
  if g = 0xB0008 then s.admOr m g (fun s => s.pool1Size m (bits v 0 8))
  else if g = 0xB0048 ∨ g = 0xB004C then s.wr F.GR_STATUS_WIN_REJ 1
  else if 0xB1000 ≤ g ∧ g < 0xB1400 then
    s.admOr m g (fun s => s.quotaWrite (g % 8 == 4) ((g - 0xB1000) / 0x200) ((g - 0xB1000) % 0x200 / 8) (bits v 0 23))
  else s.wordWrite m g v []

/-- PITCH. -/
def State.ptWrite (s : State) (m g v : Nat) : State :=
  if g = 0xC0020 then
    let s1 := s.plainWrite m g v []
    if bitOn v 31 then s1.traceClear else s1
  else if g = 0xC004C then s.ptMdata m v
  else s.wordWrite m g v []

/-- MS_TPL_CMD (R175). -/
def State.msOp (s : State) (op a b : Nat) : State :=
  match op with
  | 1 => s.tplEnable a
  | 2 => s.tplDisable a
  | 3 => s.tplSwap a b
  | _ => s

/-- GYLE and MASH; setting HZN_EN wipes the horizon (R186). -/
def State.gyWrite (s : State) (m g v : Nat) : State :=
  if g = 0xD0028 then s.pcfgCmd m (bits v 30 2)
  else if g = 0xD0040 then (if bitOn v 31 then s.mapCmd (bits v 0 14) (bits v 14 14) else s)
  else if g = 0xD005C then s.gyMdata m v
  else if g = 0xD8010 then s.msOp (bits v 29 3) (bits v 0 14) (bits v 14 14)
  else if g = 0xD802C then s.msMdata m v
  else if g = 0xD8000 then
    let s1 := s.wordWrite m g v []
    if s1.on F.MS_CTRL_HZN_EN && !s.on F.MS_CTRL_HZN_EN then s1.hzWipe else s1
  else s.wordWrite m g v []

/-- An SQ set (R292, R293, R318); QE_SQ_HEAD is written only while the queue is DISABLED (R325). -/
def State.sqSetWrite (s : State) (m g v : Nat) : State :=
  let q := (g - 0xE4000) / 0x20
  if !ownsSet m (s.sqOwner q) then s.inc F.QE_CFG_REJ
  else if g % 0x20 = 8 then
    let s1 := s.plainWrite m g v [F.QE_SQ_CFG_EN q]
    if bitOn v 31 then s1.sqEnable q else s1.sqDisable q
  else if g % 0x20 = 16 ∧ ¬ s.on (F.QE_SQ_CFG_EN q) ∧ ¬ s.qOff false q then s
  else s.wordWrite m g v []

/-- A CQ set (R292, R293, R318); a moderation condition that the write meets sends the message (R321). -/
def State.cqSetWrite (s : State) (m g v : Nat) : State :=
  let c := (g - 0xEC000) / 0x10
  if !ownsSet m (s.cqOwner c) then s.inc F.QE_CFG_REJ
  else if g % 0x10 = 8 then
    let s1 := s.plainWrite m g v [F.QE_CQ_CFG_EN c]
    if bitOn v 31 then (s1.cqEnable c).cqModerate c else s1.cqDisable c
  else s.wordWrite m g v []

/-- A word of an MSI-X table; a pending vector that is no longer masked is sent (R321, PRESUMED: the PCI Express specification). -/
def State.msixSet (s : State) (fn i v : Nat) : State :=
  let v := if i % 4 = 3 then v % 2 else if i % 4 = 0 then v / 4 * 4 else v
  let w : Word := BitVec.ofNat 32 v ^^^ (if i % 4 = 3 then 1 else 0)
  let s1 := { s with pcie := { s.pcie with msixTab := Sparse.put 0 s.pcie.msixTab (fn * 1024 + i) w } }
  let key := fn * 256 + i / 4
  if key ∈ s1.pcie.msixPend ∧ ¬ s1.msixMasked fn (i / 4) then
    ({ s1 with pcie := { s1.pcie with msixPend := s1.pcie.msixPend.erase key } }).toHost (.msix fn (i / 4))
  else s1

/-- QENG. -/
def State.qeWrite (s : State) (m g v : Nat) : State :=
  if g = 0xE0010 then
    (if bitOn v 31 then s.qeAssign m (bitOn v 30) (bits v 0 10) (bits v 16 6) (bits v 22 8) else s)
  else if 0xE4000 ≤ g ∧ g < 0xEC000 then s.sqSetWrite m g v
  else if 0xEC000 ≤ g ∧ g < 0xF0000 then s.cqSetWrite m g v
  else match msixPlace g with
    | some (fn, i) => s.msixSet fn i v
    | none => s.wordWrite m g v []

/-- A channel's set in DMA (R327, R330, R336, R342, R345). -/
def State.chSetWrite (s : State) (m g v : Nat) : State :=
  let c := (g - 0xF0100) / 0x40
  let o := (g - 0xF0100) % 0x40
  if o = 0x30 then s.admOr m g (fun s => s.chOwnerSet m c (bits v 0 6))
  else if o = 0x38 then s.chOwned m c (fun s => s.chDb c)
  else s.chOwned m c (fun s =>
    if o = 0x18 then
      let s1 := if bitOn v 0 = s.on (F.CH_CTRL_EN c) then s else if bitOn v 0 then s.wr (F.CH_CTRL_EN c) 1 else s.chOff c
      let s2 := if bitOn v 31 then s1.chStart c else s1
      let s3 := if bitOn v 30 then s2.chChain c else s2
      (if bitOn v 29 then s3.chResume c else s3).chIssue c
    else s.wordWrite m g v [])

/-- DMA. -/
def State.dmaWrite (s : State) (m g v : Nat) : State :=
  if 0xF0100 ≤ g ∧ g < 0xF0500 then s.chSetWrite m g v
  else if g = 0xF0000 then
    let s1 := s.plainWrite m g v [F.DMA_CTRL_EN]
    if bitOn v 0 then s1.wr F.DMA_CTRL_EN 1 else if s.on F.DMA_CTRL_EN then s1.dmaOff else s1
  else s.wordWrite m g v []

/-- A channel set of MBOX (R379 to R384). -/
def State.mbChWrite (s : State) (m g v : Nat) : State :=
  let n := (g - 0x100100) / 0x20
  let o := (g - 0x100100) % 0x20
  let lo := match Sparse.get none s.loHeld (m * 2 ^ 24 + (g - 4)) with
    | some w => w.toNat
    | none => (Sparse.get 0 s.mb.stage n).toNat % 2 ^ 32
  if o = 0x00 then (if s.mbBound n m ∧ s.mbSender n = m then s.holdLow m g v else s.mbReject m)
  else if o = 0x04 then (s.dropLow m (g - 4)).mbStage m n (BitVec.ofNat 64 (lo + v * 2 ^ 32))
  else if o = 0x08 then s.mbPost m n (BitVec.ofNat 32 v)
  else if o = 0x0C then (if s.mbBound n m then s.plainWrite m g v [] else s.mbReject m)
  else if o = 0x10 then (if bitOn v 0 then s.mbCmdEmpty m n else if s.mbBound n m then s else s.mbReject m)
  else if o = 0x14 then s.mbFree m n
  else s

/-- MBOX. -/
def State.mbWrite (s : State) (m g v : Nat) : State :=
  if 0x100100 ≤ g ∧ g < 0x100900 then s.mbChWrite m g v
  else if 0x100A00 ≤ g ∧ g < 0x100B00 then s.mbBind m ((g - 0x100A00) / 4) v
  else match g with
    | 0x100000 =>
      let s1 := s.plainWrite m g v [F.MB_CTRL_BIND_LOCK]
      if bitOn v 31 then s1.mbBindLock m else s1
    | 0x100020 => s.mbIeWrite m (F.MB_NOTIFY_IE_LO m) (F.MB_NOTIFY_PEND_LO m) v
    | 0x100024 => s.mbIeWrite m (F.MB_NOTIFY_IE_HI m) (F.MB_NOTIFY_PEND_HI m) v
    | 0x100028 => s.mbIeWrite m (F.MB_EMPTY_IE_LO m) (F.MB_EMPTY_PEND_LO m) v
    | 0x10002C => s.mbIeWrite m (F.MB_EMPTY_IE_HI m) (F.MB_EMPTY_PEND_HI m) v
    | _ => s.wordWrite m g v []

/-- CELLAR (R419 to R432). -/
def State.clWrite (s : State) (m g v : Nat) : State :=
  if g = 0x110000 then
    let s1 := (s.faultMinKeep.plainWrite m g v []).alertSet
    let s2 := if bitOn v 31 then s1.errRelease else s1
    let s3 := if bitOn v 30 then s2.bookPop else s2
    if bitOn v 29 then s3.bookClear else s3
  else if g = 0x110018 then s.heldWrite v
  else if g = 0x110040 then (if bitOn v 31 then s.admOr m g (fun s => s.faultInject m (bits v 0 8)) else s)
  else if 0x110400 ≤ g ∧ g < 0x110680 then s.srcCfgWrite ((g - 0x110400) / 4) v
  else if 0x110C20 ≤ g ∧ g < 0x110C34 then s.pendWrite ((g - 0x110C20) / 4) v
  else s.wordWrite m g v []

/-- TWIN (R262, R273, R275, R284). -/
def State.twWrite (s : State) (m g v : Nat) : State :=
  if g = 0x120000 then
    let s1 := s.plainWrite m g v [F.TW_CTRL_EN]
    s1.twEnWrite (bitOn v 0)
  else if g = 0x120008 then
    (match bits v 28 4 with
      | 1 => s.twRelease
      | 2 => s.forceClaim
      | 3 => s.rejoin
      | _ => s)
  else s.wordWrite m g v []

/-- ACCESS (R394, R405). -/
def State.acWrite (s : State) (m g v : Nat) : State :=
  if g = 0x130000 then
    let s1 := if bitOn v 31 then s.tblLock m else s
    if bitOn v 30 then s1.dbgEndWrite m else s1
  else if 0x131000 ≤ g ∧ g < 0x1312C0 then s.tblWrite m ((g - 0x131000) / 0x20) ((g - 0x131000) % 0x20 / 4) v
  else s.wordWrite m g v []

/-- The registers that only a VF's window has (R249, R326, R389). -/
def State.vfWrite (s : State) (m g v : Nat) : State :=
  if g % 0x10000 = 0x0D00 then
    (if bitOn v 31 then
      (match s.localSq m (bits v 16 6) with
        | some q => s.queuePause q (bits v 0 16)
        | none => s.inc F.QE_CFG_REJ)
    else s)
  else match msixPlace g with
    | some (fn, i) => s.msixSet fn i v
    | none => s.wordWrite m g v []

/-- A 32-bit write of a register that its block accepts, whoever brings it: what the write does (R14, R16, R96). -/
def State.regWrite (s : State) (m g v : Nat) : State :=
  if 0x200000 ≤ g then s.vfWrite m g v
  else match g / 0x10000 with
    | 0x00 => s.gcWrite m g v
    | 0x01 => s.crpWrite m g v
    | 0x02 => s.tbWrite m g v
    | 0x03 => s.bpWrite m g v
    | 0x04 => s.bpWrite m g v
    | 0x05 => s.fdWrite m g v
    | 0x06 => s.knWrite m g v
    | 0x07 => s.lnWrite m g v
    | 0x08 => s.fnWrite m g v
    | 0x09 => s.psWrite m g v
    | 0x0A => s.ltWrite m g v
    | 0x0B => s.grWrite m g v
    | 0x0C => s.ptWrite m g v
    | 0x0D => s.gyWrite m g v
    | 0x0E => s.qeWrite m g v
    | 0x0F => s.dmaWrite m g v
    | 0x10 => s.mbWrite m g v
    | 0x11 => s.clWrite m g v
    | 0x12 => s.twWrite m g v
    | 0x13 => s.acWrite m g v
    | _ => s.wordWrite m g v []

/-! The bus (R11, R392, R499, R535). -/

/-- One word of a write. CH_DB needs DB in place of W (R339, R390). A refused LT_QPAUSE is counted there as well (R249), a refused power
request in its own way (R406). -/
def State.writeWord (s : State) (m off v : Nat) : State :=
  match s.reach m off with
  | .alien => if s.may 0x0E m permW then s.inc F.QE_CFG_REJ else s.deny 1 m 0x0E (off % 0x10000)
  | .reg _ none => s
  | .reg g (some t) =>
    let db := decide (0xF0100 ≤ g ∧ g < 0xF0500 ∧ (g - 0xF0100) % 0x40 = 0x38)
    if g = 0x10100 then s.pwWrite m (bits v 0 2) (bits v 24 8)
    else if s.may t m (if db then permDB else permW) then (if s.heldBlk (blkOf g) then s else s.regWrite m g v)
    else
      let s1 := s.deny (if db then 2 else 1) m t (off % 0x10000)
      if g = 0xA0020 ∧ bitOn v 31 then s1.inc F.LT_QP_REJ else s1

/-- The BAR0 offset that a bad access is recorded with: that of the register it reaches. -/
def Reach.off : Reach → Nat → Nat
  | .reg g _, _ => g % 0x200000
  | .alien, o => o

/-- A write of `bytes` bytes to a master's BAR0: of 32 or 64 bits, or discarded with BAD_ACCESS (R11, R12, R497). -/
def State.busWrite (s : State) (m off bytes v : Nat) : State :=
  if !s.takes m then s
  else match s.accSize bytes off with
    | some z => { s.badAccess true z m ((s.reach m off).off off) with freeIdx := s.freeIdx + 1 }
    | none =>
      if bytes = 8 then (s.writeWord m off (v % 2 ^ 32)).writeWord m (off + 4) (v / 2 ^ 32 % 2 ^ 32) else s.writeWord m off (v % 2 ^ 32)

end Sys2Proof.Machine
end

