-- ==== Sys2Proof/Machine/Actions.lean ====
section
/-!
DEFINITION. The occurrences of timed actions (R95 to R100), and the commands that reach registers by their address: from the bus, from
the debug port, and as writes of the FIELD proxy (R11 to R18, R404, R470, R506).
Where the manual leaves a point open, the choices are log entries 29, 30, 77 (DEDUCED); 82 (DESIGN CHOICE).
-/

namespace Sys2Proof.Machine

/-! Timed actions. -/

/-- KIND of a timed action (R93). -/
def taWrite : Nat := 1
def taTout : Nat := 2
def taPoint : Nat := 3

/-- Is one action before another: by DT, then by arming order (R95)? -/
def Ta.before (a b : Ta) : Bool := decide (a.dt < b.dt) || (decide (a.dt = b.dt) && decide (a.seq < b.seq))

/-- How many actions that take a cycle have been taken at this DT: the n of the next one (R95). -/
def State.taN (s : State) (dt : Nat) : Nat := Sparse.get 0 s.kn.taNs dt

/-- Is an action held because GYLE's queue of point actions is full (R163)? -/
def State.taHeld (s : State) (t : Ta) : Bool := t.kind == taPoint && decide (256 ≤ s.gy.qTa.length)

/-- The first action in DT order: of the TOUT actions, whose edges take no cycle of the engine, or of the others (R95). -/
def State.taFirst (s : State) (tout : Bool) : Option (Nat × Ta) :=
  s.kn.tas.foldl (fun b (x : Nat × Option Ta) => match x.2 with
    | some t => if (t.kind == taTout) != tout || s.taHeld t then b else (match b with
        | some (_, u) => if t.before u then some (x.1, t) else b
        | none => some (x.1, t))
    | none => b) none

/-- Has the instant of an action gone by before the engine came to it (R61, R98)? -/
def Ta.gone (t : Ta) : Bool := t.due || t.passed

/-- The core cycle, as a DT, in which an action takes effect: one per cycle, behind those before it in DT order (R95). -/
def State.taEffect (s : State) (t : Ta) : Nat :=
  if t.kind = taTout then t.dt
  else max (if t.gone then s.dt else t.dt) (match s.kn.taAt with | some a => a + 1 | none => 0)

/-- Is it an action's turn now? A tick of the time island has two core cycles. -/
def State.taTurn (s : State) (t : Ta) : Bool := decide (s.taEffect t ≤ s.dt + t.gone.toNat)

/-- The action whose turn it is. -/
def State.taNext (s : State) : Option (Nat × Ta) :=
  let of (o : Option (Nat × Ta)) : Option (Nat × Ta) := match o with | some x => if s.taTurn x.2 then some x else none | none => none
  match of (s.taFirst true), of (s.taFirst false) with
  | some a, some b => if a.2.before b.2 then some a else some b
  | some a, none => some a
  | none, o => o

/-- Does an occurrence take effect later than DT + n: its instant had gone by, others stand before it, or it has waited beyond the width of
a tick (R98)? -/
def State.taLate (s : State) (t : Ta) : Bool :=
  let n := if t.kind = taTout then 0 else s.taN t.dt
  t.gone || decide (t.dt + n < s.taEffect t) || decide (t.dt + n + 2 < s.dt)

/-- The target whose table is asked, if the address lies in a block (R97, R499). -/
def Ta.target (t : Ta) : Option Nat :=
  if t.kind = taWrite then (let b := t.addr % 0x200000 / 0x10000; if b ≤ 0x15 then some b else none)
  else if t.kind = taPoint then some 0x0D else some 0x02

/-- The offset that a denial records. -/
def Ta.offset (t : Ta) : Nat :=
  if t.kind = taWrite then t.addr % 0x10000 else if t.kind = taPoint then 0 else 0x180 + 4 * (t.pad % 4)

/-- May the owner perform the action (R97)? -/
def State.taMay (s : State) (t : Ta) : Bool := match t.target with | some b => s.may b t.owner permW | none => true

/-- The value that a masked WRITE brings: W1C, W1S and WO bits outside MASK as 0; of a word that has no fields, a memory window's or a
table's, the whole word (R96). -/
def State.taValue (s : State) (t : Ta) : Nat :=
  let g := t.addr % 0x200000
  let fs := fieldsAt t.owner g
  let old := if (winOf g).isSome || fs.isEmpty then s.regVal t.owner g else s.fieldVal (fs.filter (fun f => f.acc = .rw))
  (t.value &&& t.mask) ||| (old &&& (2 ^ 32 - 1 - t.mask % 2 ^ 32))

/-- A WRITE: one write by the owner; one that sets a block's COMMIT applies the staged fields at once (R96). -/
def State.taRegWrite (s : State) (t : Ta) : State :=
  let g := t.addr % 0x200000
  if 0x160000 ≤ g ∨ s.heldBlk (blkOf g) then s
  else
    let v := s.taValue t
    let s1 := s.regWrite t.owner g v
    if g = 0x20000 ∧ bitOn v 31 then s1.ppsBoundary else s1

/-- A POINT: a write on its way to the point (R96, R140, R163). -/
def State.taPointWrite (s : State) (t : Ta) : State :=
  let w : PWrite := { origin := 2, point := t.addr % 2 ^ 23, value := BitVec.ofNat 64 (t.value % 2 ^ 32 + t.mask % 2 ^ 32 * 2 ^ 32),
                      upd := some (BitVec.ofNat 64 t.dt), qual := 0, src := 0x8000 + t.owner, mode := 0, mono := false, present := false,
                      cfg := none, key := none, rs := false, epoch := 0, job := none }
  { s with gy := { s.gy with qTa := s.gy.qTa ++ [w] } }

/-- What an occurrence does. -/
def State.taPerform (s : State) (t : Ta) : State :=
  if t.kind = taWrite then s.taRegWrite t
  else if t.kind = taPoint then s.taPointWrite t
  else { s with kn := { s.kn with edges := s.kn.edges ++ [(t.pad % 4, t.level, if s.taLate t then s.dt else t.dt)] } }

/-- The status of an entry that ends after its last occurrence: DISCARDED of one that was discarded, else LATE if any was late (R100). -/
def Ta.last (t : Ta) (discarded : Bool) : Nat := if discarded then stDiscarded else if t.late then stLate else stOk

/-- The next occurrence of an entry; those whose DT has passed are skipped (R99). -/
def State.taReschedule (s : State) (i : Nat) (t : Ta) (discarded : Bool) : State :=
  if t.period = 0 ∨ t.rep = 0 then s.taFreeEntry i (t.last discarded)
  else
    let next := t.dt + t.period
    let skip := if next < s.dt then (s.dt - next + t.period - 1) / t.period else 0
    if t.rep = 0xFFFF then
      (s.setTa i (some { t with dt := next + skip * t.period, due := false, passed := false })).add F.KN_TA_SKIP skip
    else if t.rep ≤ skip then (s.add F.KN_TA_SKIP t.rep).taFreeEntry i (t.last discarded)
    else (s.setTa i (some { t with dt := next + skip * t.period, rep := t.rep - 1 - skip, due := false, passed := false })).add F.KN_TA_SKIP skip

/-- Count a cycle of the engine at a DT (R95); counts that no action can need any more are dropped. -/
def State.taCycle (s : State) (t : Ta) : State :=
  if t.kind = taTout then s
  else { s with kn := { s.kn with
    taAt := some (s.taEffect t),
    taNs := (Sparse.put 0 s.kn.taNs t.dt (s.taN t.dt + 1)).filter (fun x => decide (s.dt < x.1 + 8192)) } }

/-- One occurrence of the entry at index `i` (R97 to R100). An entry that its own WRITE has freed ends there. -/
def State.taOccur (s : State) (i : Nat) (t : Ta) : State :=
  let late := s.taLate t
  let s0 := s.taCycle t
  if late ∧ t.lateDiscard ∧ ¬ t.due then (s0.inc F.KN_TA_DISC).taReschedule i { t with late := true } true
  else if !s.taMay t then
    let s1 := (s0.deny 4 t.owner (t.target.getD 0) t.offset).inc F.KN_TA_REF
    ((s1.raise0 Src.KN_TA_REFUSED i).setTa i (some { t with refused := true, late := t.late || late })).taFreeEntry i stRefused
  else
    let t1 := { t with late := t.late || late }
    let s1 := ((s0.setTa i (some t1)).taPerform t).inc F.KN_TA_CNT
    let s2 := if late then (s1.inc F.KN_TA_LATE).raise0 Src.KN_TA_LATE i else s1
    match s2.ta i with
    | some u => if u.seq = t.seq then s2.taReschedule i t1 false else s2
    | none => s2

/-- The timed-action engine takes its next due entry (R95). -/
def execTaOccurrence (s : State) : Out :=
  .next (if s.on F.KN_CTRL_TA_EN ∧ ¬ s.inReset 6 then
    match s.taNext with
    | some (i, t) => s.taOccur i t
    | none => s
  else s)

/-- A scheduled edge reaches its pad (R69, R95). -/
def execToutEdge (s : State) : Out :=
  .next (match s.kn.edges.find? (fun e => decide (e.2.2 ≤ s.dt + 2)) with
  | some e =>
    let s1 := { s with kn := { s.kn with edges := s.kn.edges.erase e } }
    let n := e.1
    { s1 with tb := { s1.tb with tout := putBits (putBits s1.tb.tout n 1 e.2.1.toNat) (4 + n) 1 1 } }.toutDrive n
  | none => s)

/-! Registers by their address. -/

/-- A write of `bytes` bytes to a register of a master's BAR0 that has no row of its own; the ones that have act the same way here
(R16). -/
def execRegisterWrite (m off bytes : Nat) (v : DWord) (s : State) : Out := .next (s.busWrite m off bytes v.toNat)

/-- A read of a low word: the other words are latched for the master (R12, R38). -/
def execLowWordRead (m off bytes : Nat) (s : State) : Out := .next (s.busRead m off bytes)

/-- A write of a low word: it is held until the high word is written (R12). -/
def execLowWordWrite (m off : Nat) (v : Word) (s : State) : Out := .next (s.busWrite m off 4 v.toNat)

/-- A read of a register with RC counters: they are returned and cleared (R14). -/
def execCounterReadClear (m off bytes : Nat) (s : State) : Out := .next (s.busRead m off bytes)

/-- A block's COMMIT bit is set; TBASE is the one block that has staged fields (R17, R66). -/
def execCommit (m : Nat) (s : State) : Out := .next (s.busW m 0x20000 (fun s => s.ppsSetCommit))

/-- Has PPS_OUT reached an edge, where a commit applies while it is driven (R66)? -/
def State.ppsAtEdge (s : State) : Bool :=
  let period := s.rd F.TB_PPSO_PERIOD
  let r := ((s.dt : Int) - s.rd F.TB_PPSO_PHASE) % period
  !s.ppsDriven || (decide (period ≠ 0) && (decide (r ≤ 2) || decide ((period : Int) - 2 ≤ r)))

/-- At the boundary the staged fields are applied together (R16, R66). When PPS_OUT has stopped being driven with a commit pending, the
fields are applied at once (DESIGN CHOICE, log entry 82). -/
def execStagedApply (s : State) : Out := .next (if s.ppsAtEdge then s.ppsBoundary else s)

/-- A read of a memory window's data (R104, R168, R193, R230, R232, R259, R374, R376). -/
def execWindowDataRead (m off bytes : Nat) (s : State) : Out := .next (if (winOf off).isSome then s.busRead m off bytes else s)

/-- GC_CTRL.CNT_CLEAR: W and ADM on GCTL (R503, R506). -/
def execCntClear (m : Nat) (s : State) : Out := .next (s.busAdm m 0x40 State.cntClear)

/-- A write of a FIELD register: it takes effect in the proxy (R470). -/
def execFieldProxyWrite (m off : Nat) (v : Word) (s : State) : Out := .next (s.busWrite m (0x50000 + off % 0x10000) 4 v.toNat)

/-- The debug port's READ, a read as master DBG at level DIAG or OPEN (R404). -/
def execDbgRead (off : Nat) (s : State) : Out :=
  .next (if s.crp.off ∨ s.dbg < dbgDiag then { s with readData := [] } else s.busRead 1 off 4)

/-- The debug port's WRITE, at level OPEN (R404). -/
def execDbgWrite (off : Nat) (v : Word) (s : State) : Out :=
  .next (if s.crp.off ∨ s.dbg < dbgOpen then s else s.busWrite 1 off 4 v.toNat)

end Sys2Proof.Machine
end

