-- ==== Sys2Proof/Machine/Boot.lean ====
section
/-!
DEFINITION. Start-up: straps, wipes, the start of firmware, the load of the Ebain image, the locks and readiness (R402, R411, R440 to
R447, R484 to R487).
Where the manual leaves a point open, the choices are log entries 6, 23 (DESIGN CHOICE); 9, 54, 61, 62, 63 (DEDUCED).
-/

namespace Sys2Proof.Machine

/-- CRP_BOOT.PHASE (R485). -/
def State.phase (s : State) : Nat := s.rd F.CRP_BOOT_PHASE

/-- Write several fields. -/
def State.wrAll (s : State) (l : List (Fld × Nat)) : State := l.foldl (fun s x => s.wr x.1 x.2) s

/-! The internal reset release (R484, R485). -/

/-- The blocks that RETIRED holds in block reset (R411). -/
def retiredBlocks : List Nat := (List.range 23).filter (fun b => !neverReset b && b != 0x14)

/-- In RETIRED most blocks are held in block reset (R411). -/
def State.retireHold (s : State) : State := if s.lc = lcRetired then retiredBlocks.foldl (fun s b => s.blockReset b false) s else s

/-- In a module that is ready, or while PERST# is asserted, PCIE_LINK_DOWN holds as long as the link is not up (R495). -/
def State.linkCheck (s : State) : State :=
  if (s.ready ∨ s.on F.CRP_PCIE_STAT_PERST) ∧ ¬ s.on F.CRP_PCIE_STAT_LINK_UP then s.onset Src.PCIE_LINK_DOWN 0xFF 0 else s

/-- t_r: straps, the PERST# pad, clocks, the debug level of the life-cycle state, and the identity key of a new module. -/
def State.release (s : State) (twinId bootSel refSel perst : Bool) : State :=
  let s1 := s.wrAll [(F.CRP_STRAP_TWIN_ID, twinId.toNat), (F.CRP_STRAP_BOOT_SEL, bootSel.toNat), (F.CRP_STRAP_REFSEL, refSel.toNat),
    (F.TW_STATUS_TWIN_ID, twinId.toNat), (F.CRP_BOOT_SAFE, bootSel.toNat), (F.CRP_PCIE_STAT_PERST, perst.toNat),
    (F.CRP_CLK_STATUS_REF_OK, 1), (F.CRP_CLK_STATUS_PLL_CORE, 1), (F.CRP_CLK_STATUS_PLL_TIME, 1), (F.CRP_CLK_STATUS_PLL_MGMT, 1),
    (F.CRP_CLK_STATUS_PLL_DRAM, 1), (F.CRP_CLK_STATUS_PLL_SERDES, 1), (F.CRP_BOOT_PHASE, 1)]
  ({ s1 with crp := { s1.crp with tr := s1.tb.mono } }).dbgStart.retireHold.linkCheck

def execInternalResetRelease (twinId bootSel refSel perst : Bool) (s : State) : Out :=
  .next (if s.phase = 0 ∧ ¬ s.crp.off ∧ ¬ s.crp.rstLow ∧ s.crp.tr ≤ s.tb.mono then s.release twinId bootSel refSel perst else s)

/-! The wipes (R402, R403, R449). -/

/-- The DRAM's own repair makes reserve rows permanent and frees them (R449). -/
def State.rowRepair (s : State) : State :=
  let k := if s.on F.SP_CTRL_REPAIR_EN then min (s.rd (F.SP_CLASS_n_USED 2)) (s.rd (F.SP_CLASS_n_REMAIN 3)) else 0
  let s1 := s.wrAll [(F.SP_CLASS_n_USED 2, s.rd (F.SP_CLASS_n_USED 2) - k), (F.SP_CLASS_n_REMAIN 2, s.rd (F.SP_CLASS_n_REMAIN 2) + k),
    (F.SP_CLASS_n_USED 3, s.rd (F.SP_CLASS_n_USED 3) + k), (F.SP_CLASS_n_REMAIN 3, s.rd (F.SP_CLASS_n_REMAIN 3) - k)]
  (List.range k).foldl (fun s _ => s.raise0 Src.SP_DRAM_RSV 0) s1

/-- The on-die memories are clear, the DRAM is trained and repaired, and its wipe begins: the blocks that use it report WIPING. -/
def execSramWipeDone (s : State) : Out :=
  .next (if s.phase = 1 then
    s.rowRepair.wrAll [(F.CRP_WIPE_STATUS_SRAM, 0), (F.CRP_WIPE_STATUS_DRAM, 1), (F.GY_STATUS_WIPING, 1), (F.MS_STATUS_WIPING, 1), (F.GR_STATUS_WIPING, 1),
      (F.CRP_BOOT_PHASE, 2)]
  else s)

/-! Firmware (R440, R442, R463, R485). -/

/-- The reset record of the log: CL_LAST_RESET and its DT (R439). -/
def State.resetRecord (s : State) : List Byte :=
  leBytes 4 (s.fieldVal (fieldsAt 0 0x110030)) ++ leBytes 8 (s.rd64 F.CL_LAST_RESET_DT_LO F.CL_LAST_RESET_DT_HI)

/-- VERSION of an Ebain slot as MG_EBAIN_x_VER shows it. -/
def ebVersion : Option EbSlot → Nat
  | some e => EbImage.version e.image
  | none => 0

/-- The device identity key is generated at the first start-up (R411). -/
def State.makeKey (s : State) : State :=
  if s.lc = lcFactory then { s with mg := { s.mg with deviceKey := true } } else s

/-- What firmware enables and writes when it runs; not in blocks that RETIRED holds in reset. -/
def State.fwEnables (s : State) : State :=
  if s.lc = lcRetired then s
  else
    let s1 := (s.wrAll [(F.MB_CTRL_EN, 1), (F.DMA_CTRL_EN, 1)]).writeMacs
    if s1.on F.FD_STATUS_ISO_UP then s1 else s1.onset Src.FD_ISO_LOSS 0xFF 0

/-- Firmware runs, or the core enters RECOVERY. -/
def State.fwStart (s : State) : State :=
  let r := s.fwBoot
  let s1 := if r.2 then r.1.wr F.MG_STATUS_STATE mgRecovery else r.1
  let s2 := s1.makeKey.wrAll [(F.CRP_BOOT_PHASE, 3), (F.MG_FW_A_VER, s1.mg.fwA.version), (F.MG_FW_B_VER, s1.mg.fwB.version),
    (F.MG_EBAIN_A_VER, ebVersion s1.mg.ebA), (F.MG_EBAIN_B_VER, ebVersion s1.mg.ebB)]
  let s3 := s2.fwEnables
  (if s3.crp.again then s3.logPut (s3.logRec logReset 12 s3.resetRecord) else s3).logMissed

def execFirmwareStart (s : State) : Out := .next (if s.phase = 2 then s.fwStart else s)

/-! Loading the Ebain image (R445 to R447). -/

/-- Does the state of the module let firmware load an image (R411, R442, R447, R484)? -/
def State.ebMay (s : State) : Bool :=
  !s.on F.CRP_BOOT_SAFE && s.mgState != mgRecovery && (s.lc == lcOwned || s.lc == lcField)

/-- Slots in the order of their trial: higher VERSION first, A before an equal B. -/
def State.ebOrder (s : State) : List (Bool × EbSlot) :=
  match s.mg.ebA, s.mg.ebB with
  | some a, some b => if EbImage.version a.image < EbImage.version b.image then [(true, b), (false, a)] else [(false, a), (true, b)]
  | some a, none => [(false, a)]
  | none, some b => [(true, b)]
  | none, none => []

/-- A_RESULT or B_RESULT. -/
def ebResult (b : Bool) : Fld := if b then F.MG_EBAIN_STAT_B_RESULT else F.MG_EBAIN_STAT_A_RESULT

/-- Try one slot after the other until one is valid: the image to load. -/
def State.ebTry (s : State) : List (Bool × EbSlot) → State × Option EbImage
  | [] => (s, none)
  | (b, e) :: t =>
    let c := s.ebCheck e.image e.sig
    if c = rcOk then ((s.wr (ebResult b) 0).wr F.MG_STATUS_EBAIN (if b then 2 else 1), some e.image)
    else if c = rcRollback then ((s.wr (ebResult b) 2).raise0 Src.MG_EBAIN_OLD 0).ebTry t
    else (if c = rcSerial then s.wr (ebResult b) 1 else (s.wr (ebResult b) 1).raise0 Src.MG_EBAIN_BAD 0).ebTry t

/-- 32-bit words of a section. -/
def sectWord (b : List Byte) (i : Nat) : Nat := leNat (slice b (4 * i) 4)

/-- Refusals of MGMT writes that a record's writes can meet: BAD_ACCESS and CFG_WHILE_RUNNING (R454). -/
def State.refusals (s : State) : Nat := s.cl.inbox.countP (fun r => r.src == Src.BAD_ACCESS || r.src == Src.CFG_WHILE_RUNNING)

/-- What a field keeps where a preset's mask is 0: a field that software writes, its value, staged ones their shadow; any other bit is
written 0, which changes nothing. -/
def State.presetKeep (s : State) (f : Fld) : Nat :=
  if f.acc = .rw then
    (if f.key = F.TB_PPSO_PERIOD.key then s.tb.ppsPeriod.toNat else if f.key = F.TB_PPSO_PHASE.key then s.tb.ppsPhase.toNat
      else if f.key = F.TB_PPSO_WIDTH.key then s.tb.ppsWidth.toNat else s.rd f) * 2 ^ f.lo
  else 0

/-- One REG_PRESET record: a write by MGMT that changes the bits under the mask. -/
def State.regPreset (s : State) (off v mask : Nat) : State :=
  let old := ((fieldsAt 0 off).map s.presetKeep).sum
  s.busWrite 0 off 4 ((old &&& (mask ^^^ 0xFFFFFFFF)) ||| (v &&& mask))

/-- MSEL, MADDR and the low data word of a target's memory window; 22 stands for MASH. -/
def presetWin : Nat → Option (Nat × Nat × Nat)
  | 0x06 => some (0x60010, 0x60014, 0x60018)
  | 0x08 => some (0x80040, 0x80044, 0x80048)
  | 0x09 => some (0x90010, 0x90014, 0x90018)
  | 0x0A => some (0xA0010, 0xA0014, 0xA0018)
  | 0x0B => some (0xB0040, 0xB0044, 0xB0048)
  | 0x0C => some (0xC0040, 0xC0044, 0xC0048)
  | 0x0D => some (0xD0050, 0xD0054, 0xD0058)
  | 22 => some (0xD8020, 0xD8024, 0xD8028)
  | _ => none

/-- Eight bytes go through a window's data register. -/
def State.winPresetWord (s : State) (d : Nat) (b : List Byte) : State :=
  (s.busWrite 0 d 4 (leNat (b.take 4))).busWrite 0 (d + 4) 4 (leNat (slice b 4 4))

/-- One WIN_PRESET record. -/
def State.winPreset (s : State) (t msel maddr : Nat) (data : List Byte) : State :=
  match presetWin t with
  | some (a, b, d) =>
    (List.range (data.length / 8)).foldl (fun s i => s.winPresetWord d (slice data (8 * i) 8)) ((s.busWrite 0 a 4 msel).busWrite 0 b 4 maddr)
  | none => s

/-- Count a refused preset record and keep the section of the first (R447): one whose writes met more refusals than were `before`, or
that names a target without a window (none). -/
def State.presetCount (s : State) (idx : Nat) (before : Option Nat) : State :=
  if (match before with | some n => decide (n < s.refusals) | none => true) then
    let s1 := if s.rd F.MG_EBAIN_STAT_REC_ERR = 0 then s.wr F.MG_EBAIN_STAT_FIRST_SECT idx else s
    s1.inc F.MG_EBAIN_STAT_REC_ERR
  else s

/-- The records of a WIN_PRESET section; `fuel` bounds their number. -/
def State.winPresets (idx : Nat) : Nat → List Byte → State → State
  | 0, _, s => s
  | fuel + 1, b, s =>
    let n := sectWord b 3
    if b.length < 16 + 8 * n then s
    else State.winPresets idx fuel (b.drop (16 + 8 * n))
      ((s.winPreset (sectWord b 0) (sectWord b 1) (sectWord b 2) (slice b 16 (8 * n))).presetCount idx
        (if (presetWin (sectWord b 0)).isSome then some s.refusals else none))

/-- Words of a section written to consecutive or listed registers by MGMT. -/
def State.sectWrite (s : State) (b : List Byte) (offs : List Nat) : State :=
  (offs.zipIdx).foldl (fun s x => s.busWrite 0 x.1 4 (sectWord b x.2)) s

/-- Apply one section (R446). -/
def State.sectApply (s : State) (x : EbImage) (e : EbSect) : State :=
  let b := x.body e
  match e.type with
  | 1 => (s.sectWrite b ((List.range 176).map (fun i => 0x131000 + 4 * i))).wr F.AC_STATUS_LOADED 1
  | 2 => s.sectWrite b ((List.range 56).map (fun i => 0x100A20 + 4 * i))
  | 3 => s.sectWrite b ((List.range 160).map (fun i => 0x110400 + 4 * i) ++ [0x110008, 0x11000C, 0x110010, 0x110014, 0x110000])
  | 4 => (List.range (b.length / 12)).foldl (fun s i =>
      (s.regPreset (sectWord b (3 * i)) (sectWord b (3 * i + 1)) (sectWord b (3 * i + 2))).presetCount e.idx (some s.refusals)) s
  | 5 => State.winPresets e.idx b.length b s
  | 6 => s.sectWrite b [0x1400A4, 0x1400C0, 0x1400C4]
  | 7 => s.sectWrite b [0x150000, 0x150008, 0x15000C]
  | _ => s

/-- Apply the sections of one type. -/
def State.sectType (s : State) (x : EbImage) (t : Nat) : State :=
  (x.sects.filter (fun e => e.type == t)).foldl (fun s e => s.sectApply x e) s

/-- Choose an image and apply it in the order of R447; the bindings are locked before the tables' section. -/
def State.ebLoad (s : State) : State :=
  let s1 := s.wrAll [(F.MG_EBAIN_STAT_A_RESULT, 3), (F.MG_EBAIN_STAT_B_RESULT, 3)]
  if s1.ebMay then
    match s1.ebTry s1.ebOrder with
    | (s2, some x) =>
      let s3 := ([3, 6, 7, 4, 5, 2].foldl (fun s t => s.sectType x t) s2).mbBindLock 0
      (s3.sectType x 1).logEvent logEbain
    | (s2, none) => s2.mbBindLock 0
  else s1.mbBindLock 0

/-- The tables of RETIRED (R411). -/
def State.retireTables (s : State) : State :=
  (List.range 22).foldl (fun s t => (List.range 8).foldl (fun s w => s.wr (F.AC_TBL_t_w t w)
    (if w = 0 then 0xF else if w = 4 ∧ (t = 0x00 ∨ t = 0x11 ∨ t = 0x14) then 1 else 0)) s) s

/-- The DRAM is wiped: WIPING falls, the image is applied, bindings and tables are locked (R447, R485). In FACTORY firmware may leave
the tables unlocked. -/
def State.dramWiped (s : State) (unlocked : Bool) : State :=
  let s1 := (s.wrAll [(F.CRP_WIPE_STATUS_DRAM, 0), (F.GY_STATUS_WIPING, 0), (F.MS_STATUS_WIPING, 0), (F.GR_STATUS_WIPING, 0), (F.CRP_BOOT_PHASE, 4)]).ebLoad
  let s2 := if s1.lc = lcRetired then s1.retireTables else s1
  if s2.lc = lcFactory ∧ unlocked then s2.wr F.CRP_BOOT_PHASE 5 else s2.lockTables

def execDramWipeDone (unlocked : Bool) (s : State) : Out := .next (if s.phase = 3 ∧ s.fwRuns then s.dramWiped unlocked else s)

/-! Readiness (R443, R485, R486). -/

/-- Milliseconds since t_r; which way a part of one is rounded is open. -/
def State.readyMs (s : State) : Nat :=
  let n := s.tb.mono - s.crp.tr
  min 65535 (n / 1000000 + if n % 1000000 = 0 then 0 else (Config.freeWord s.freeIdx).toNat % 2)

/-- Ready. -/
def State.readyNow (s : State) : State :=
  let s1 := s.wrAll [(F.CRP_BOOT_PHASE, 6), (F.CRP_BOOT_READY_MS, s.readyMs)]
  let s2 := { s1 with freeIdx := s1.freeIdx + 1 }.linkCheck
  if s2.mgState = mgRecovery then s2
  else (if s2.mgState = mgBoot then s2.wr F.MG_STATUS_STATE mgRun else s2).inc F.MG_BOOT_CNT

def execModuleReady (s : State) : Out := .next (if s.phase = 5 ∧ s.fwRuns then s.readyNow else s)

end Sys2Proof.Machine
end

