-- ==== Sys2Proof/Machine/PtpGen.lean ====
section
/-!
DEFINITION. PTP messages of the module's own: field Sync, the firmware protocol engine on the backbone, and the loss of the
timeTransmitter (R44, R45, R48, R49, R453).
Where the manual leaves a point open, the choices are log entries 25 (DEDUCED).
-/

namespace Sys2Proof.Machine

/-- Sync interval in ns: 2^LOG_SYNC s, −7 to +1; other values act as −3 (R49). -/
def State.syncInterval (s : State) : Nat :=
  match s.rd F.TB_FPTP_CFG_LOG_SYNC with
  | 0 => 1000000000
  | 1 => 2000000000
  | 15 => 500000000
  | 14 => 250000000
  | 12 => 62500000
  | 11 => 31250000
  | 10 => 15625000
  | 9 => 7812500
  | _ => 125000000

/-- On an enabled field port a one-step Sync leaves every interval (R49). -/
def execFieldSyncTx (n : Fin 8) (s : State) : Out :=
  .next (if s.on F.TB_CTRL_PTP_EN ∧ bits (s.rd F.TB_FPTP_CFG_PORT_EN) n.val 1 = 1 ∧ Sparse.get 0 s.tb.nextSync n.val ≤ s.dt then
    let s1 := { s with tb := { s.tb with nextSync := Sparse.put 0 s.tb.nextSync n.val (s.dt + s.syncInterval) } }
    if s1.fieldTime (n.val + 2) then
      let m := s1.ptpMessage (n.val + 2) 0 (s1.rd F.TB_FPTP_CFG_DOMAIN) (List.replicate 10 0)
      m.1.ownFrame (n.val + 2) 7 m.2
    else s1
  else s)

/-- Does the ordinary clock use port `p`, and by which delay mechanism (R44, R45)? -/
def State.ocOn (s : State) (p : Nat) : Bool := s.on F.TB_PTP_CFG_ROLE_OC && decide (s.rd F.TB_PTP_CFG_OC_PORT = p)

/-- May the protocol engine send this message on a backbone port: Delay_Req (1) for an end-to-end ordinary clock, Pdelay_Req (2)
and its answer (3) for a peer-to-peer clock (R44, R45, R48)? -/
def State.ptpMay (s : State) (p type : Nat) : Bool :=
  let peer := (s.ocOn p && (s.on F.TB_PTP_CFG_OC_DELAY || s.rd F.TB_PTP_CFG_PROFILE == 1)) || decide (3 ≤ s.tcMode)
  s.on F.TB_CTRL_PTP_EN && (match type with
    | 1 => s.ocOn p && !s.on F.TB_PTP_CFG_OC_DELAY && s.rd F.TB_PTP_CFG_PROFILE != 1
    | 2 => peer
    | 3 => peer
    | _ => false)

/-- Firmware originates a backbone PTP message; `req` is the request that a Pdelay_Resp answers and `ago` its age in tenths of a
ns; `dly`, when firmware has measured one, is the link delay of the port in 2⁻¹⁶ ns (R44, R48). -/
def execPtpMessageGeneration (p : Fin 2) (type : Fin 4) (req : List Byte) (ago : Nat) (dly : Option Nat) (s : State) : Out :=
  let s0 := match dly with
    | some d => { s with tb := { s.tb with linkDly := Sparse.put 0 s.tb.linkDly p.val d } }
    | none => s
  .next (if s0.ptpMay p.val type.val then
    if type.val = 3 then
      match ptpOff req with
      | some o =>
        let t := s0.rxStamp p.val ago
        let m := s0.ptpAnswer p.val req o t
        m.1.ownItem { Item.plain srcOwn p.val 7 m.1.ln.next m.2 with ingress := t }
      | none => s0
    else
      let m := s0.ptpMessage p.val type.val (s0.rd F.TB_PTP_CFG_DOMAIN) (List.replicate (if type.val = 2 then 20 else 10) 0)
      m.1.ownFrame p.val 7 m.2
  else s0)

/-- No Announce within the receipt timeout: the firmware servo enters HOLDOVER from LOCKED and raises MG_SERVO (R40, R453). -/
def execAnnounceTimeout (s : State) : Out :=
  .next (if s.on F.TB_CTRL_PTP_EN ∧ s.on F.TB_PTP_CFG_ROLE_OC ∧ ¬ s.on F.TB_SERVO_OWNER then
    (if s.tbState = tbLocked then s.enterHoldover else s).onset Src.MG_SERVO 0xFF 0
  else s)

end Sys2Proof.Machine
end

