-- ==== Sys2Proof/Machine/Dispatch.lean ====
section
/-!
DEFINITION. What each command does: one arm per constructor, each one direct call of its meaning.
-/

namespace Sys2Proof.Machine

def exec (i : Instr) (s : State) : Host.Outcome State Fault Refusal :=
  match i with
  | .registerWrite m off bytes v => Sys2Proof.Machine.execRegisterWrite m off bytes v s
  | .lowWordRead m off bytes => Sys2Proof.Machine.execLowWordRead m off bytes s
  | .lowWordWrite m off v => Sys2Proof.Machine.execLowWordWrite m off v s
  | .counterReadClear m off bytes => Sys2Proof.Machine.execCounterReadClear m off bytes s
  | .commit m => Sys2Proof.Machine.execCommit m s
  | .stagedApply => Sys2Proof.Machine.execStagedApply s
  | .windowDataRead m off bytes => Sys2Proof.Machine.execWindowDataRead m off bytes s
  | .shadowMismatch dt frac activeOk shadowOk => Sys2Proof.Machine.execShadowMismatch dt frac activeOk shadowOk s
  | .tbIncWrite m inc => Sys2Proof.Machine.execTbIncWrite m inc s
  | .acq m => Sys2Proof.Machine.execAcq m s
  | .lockReq m => Sys2Proof.Machine.execLockReq m s
  | .stepGo m => Sys2Proof.Machine.execStepGo m s
  | .holdReq m => Sys2Proof.Machine.execHoldReq m s
  | .holdExit m => Sys2Proof.Machine.execHoldExit m s
  | .ppsCommit m => Sys2Proof.Machine.execPpsCommit m s
  | .measOffsetWrite m offs => Sys2Proof.Machine.execMeasOffsetWrite m offs s
  | .measSeqWrite m seq => Sys2Proof.Machine.execMeasSeqWrite m seq s
  | .slewComplete => Sys2Proof.Machine.execSlewComplete s
  | .reepochArm m anchor => Sys2Proof.Machine.execReepochArm m anchor s
  | .reepochApply => Sys2Proof.Machine.execReepochApply s
  | .snap m => Sys2Proof.Machine.execSnap m s
  | .servoRequest m => Sys2Proof.Machine.execServoRequest m s
  | .servoGrant => Sys2Proof.Machine.execServoGrant s
  | .servoReturn m => Sys2Proof.Machine.execServoReturn m s
  | .servoWatchdogExpiry => Sys2Proof.Machine.execServoWatchdogExpiry s
  | .announceTimeout => Sys2Proof.Machine.execAnnounceTimeout s
  | .ppsOutEdge => Sys2Proof.Machine.execPpsOutEdge s
  | .ppsInEdge edge => Sys2Proof.Machine.execPpsInEdge edge s
  | .ppsInLoss => Sys2Proof.Machine.execPpsInLoss s
  | .tinEdge pin rising quarter => Sys2Proof.Machine.execTinEdge pin rising quarter s
  | .tinFifoPop m pin => Sys2Proof.Machine.execTinFifoPop m pin s
  | .followerMarker err => Sys2Proof.Machine.execFollowerMarker err s
  | .followerMarkerTimeout => Sys2Proof.Machine.execFollowerMarkerTimeout s
  | .fuTimeout dirB => Sys2Proof.Machine.execFuTimeout dirB s
  | .fieldSyncTx n => Sys2Proof.Machine.execFieldSyncTx n s
  | .gateEntryStart p => Sys2Proof.Machine.execGateEntryStart p s
  | .gateEnWrite m p b => Sys2Proof.Machine.execGateEnWrite m p b s
  | .listStart p => Sys2Proof.Machine.execListStart p s
  | .cfgChange m p => Sys2Proof.Machine.execCfgChange m p s
  | .configChangeTime p => Sys2Proof.Machine.execConfigChangeTime p s
  | .adminCopyDone p => Sys2Proof.Machine.execAdminCopyDone p s
  | .cfgAbort m p => Sys2Proof.Machine.execCfgAbort m p s
  | .holdRequest p => Sys2Proof.Machine.execHoldRequest p s
  | .releaseRequest p => Sys2Proof.Machine.execReleaseRequest p s
  | .fieldGateEventSend n => Sys2Proof.Machine.execFieldGateEventSend n s
  | .fieldGateEventApply n => Sys2Proof.Machine.execFieldGateEventApply n s
  | .streamGateEvent g => Sys2Proof.Machine.execStreamGateEvent g s
  | .sgEnable m g => Sys2Proof.Machine.execSgEnable m g s
  | .sgDisable m g => Sys2Proof.Machine.execSgDisable m g s
  | .sgCfgChange m g => Sys2Proof.Machine.execSgCfgChange m g s
  | .sgAbort m g => Sys2Proof.Machine.execSgAbort m g s
  | .sgCct g => Sys2Proof.Machine.execSgCct g s
  | .knMdataWrite m hi => Sys2Proof.Machine.execKnMdataWrite m hi s
  | .taSubmit m => Sys2Proof.Machine.execTaSubmit m s
  | .taCancel m idx => Sys2Proof.Machine.execTaCancel m idx s
  | .taOccurrence => Sys2Proof.Machine.execTaOccurrence s
  | .toutEdge => Sys2Proof.Machine.execToutEdge s
  | .fetchStart idx => Sys2Proof.Machine.execFetchStart idx s
  | .fetchDone idx => Sys2Proof.Machine.execFetchDone idx s
  | .frameStart p => Sys2Proof.Machine.execFrameStart p s
  | .frameEnd p => Sys2Proof.Machine.execFrameEnd p s
  | .jobLate idx => Sys2Proof.Machine.execJobLate idx s
  | .verifyTimeout p => Sys2Proof.Machine.execVerifyTimeout p s
  | .respondReceived p => Sys2Proof.Machine.execRespondReceived p s
  | .verifyReceived p => Sys2Proof.Machine.execVerifyReceived p s
  | .mpacketSend p => Sys2Proof.Machine.execMpacketSend p s
  | .verifyRestart m p => Sys2Proof.Machine.execVerifyRestart m p s
  | .fragmentReceived p k final data ago => Sys2Proof.Machine.execFragmentReceived p k final data ago s
  | .pointWriteLand => Sys2Proof.Machine.execPointWriteLand s
  | .notificationWrite => Sys2Proof.Machine.execNotificationWrite s
  | .tierMove => Sys2Proof.Machine.execTierMove s
  | .tierMoveDone => Sys2Proof.Machine.execTierMoveDone s
  | .mapFetchDone => Sys2Proof.Machine.execMapFetchDone s
  | .pointWindowWrite slot parts => Sys2Proof.Machine.execPointWindowWrite slot parts s
  | .pointWindowRead slot half => Sys2Proof.Machine.execPointWindowRead slot half s
  | .pcfgDefine m => Sys2Proof.Machine.execPcfgDefine m s
  | .pcfgUndefine m => Sys2Proof.Machine.execPcfgUndefine m s
  | .pcfgSet m => Sys2Proof.Machine.execPcfgSet m s
  | .mapSwap m a b => Sys2Proof.Machine.execMapSwap m a b s
  | .gyMdataWrite m hi => Sys2Proof.Machine.execGyMdataWrite m hi s
  | .sweepVisit => Sys2Proof.Machine.execSweepVisit s
  | .templateLaunchCreate t => Sys2Proof.Machine.execTemplateLaunchCreate t s
  | .slotClassify idx => Sys2Proof.Machine.execSlotClassify idx s
  | .dramSlotRead idx => Sys2Proof.Machine.execDramSlotRead idx s
  | .hotSlotRead idx => Sys2Proof.Machine.execHotSlotRead idx s
  | .assemblyHandoff idx => Sys2Proof.Machine.execAssemblyHandoff idx s
  | .templateEnable m t => Sys2Proof.Machine.execTemplateEnable m t s
  | .templateDisable m t => Sys2Proof.Machine.execTemplateDisable m t s
  | .templateSwap m a b => Sys2Proof.Machine.execTemplateSwap m a b s
  | .templateDisableDone => Sys2Proof.Machine.execTemplateDisableDone s
  | .msMdataWrite m hi => Sys2Proof.Machine.execMsMdataWrite m hi s
  | .horizonMature => Sys2Proof.Machine.execHorizonMature s
  | .streamLookup lane head ago => Sys2Proof.Machine.execStreamLookup lane head ago s
  | .idInsert m => Sys2Proof.Machine.execIdInsert m s
  | .idDelete m => Sys2Proof.Machine.execIdDelete m s
  | .idFind m => Sys2Proof.Machine.execIdFind m s
  | .recReset m f => Sys2Proof.Machine.execRecReset m f s
  | .clrRecCnt m f => Sys2Proof.Machine.execClrRecCnt m f s
  | .clrStreamCnt m h => Sys2Proof.Machine.execClrStreamCnt m h s
  | .fnMdataWrite m hi => Sys2Proof.Machine.execFnMdataWrite m hi s
  | .recoveryEvaluate lane => Sys2Proof.Machine.execRecoveryEvaluate lane s
  | .recoveryTimeout f => Sys2Proof.Machine.execRecoveryTimeout f s
  | .latentTest f => Sys2Proof.Machine.execLatentTest f s
  | .latentReset f => Sys2Proof.Machine.execLatentReset f s
  | .psUnblock m f => Sys2Proof.Machine.execPsUnblock m f s
  | .psClrFilterCnt m f => Sys2Proof.Machine.execPsClrFilterCnt m f s
  | .meterReset m idx => Sys2Proof.Machine.execMeterReset m idx s
  | .gateReopen m g => Sys2Proof.Machine.execGateReopen m g s
  | .psMdataWrite m hi => Sys2Proof.Machine.execPsMdataWrite m hi s
  | .shaperGrant => Sys2Proof.Machine.execShaperGrant s
  | .wheelMigrate => Sys2Proof.Machine.execWheelMigrate s
  | .ltMdataWrite m hi => Sys2Proof.Machine.execLtMdataWrite m hi s
  | .cbsCreditRestored p c => Sys2Proof.Machine.execCbsCreditRestored p c s
  | .pauseRx p quanta => Sys2Proof.Machine.execPauseRx p quanta s
  | .pfcRx p enable times => Sys2Proof.Machine.execPfcRx p enable times s
  | .pauseExpiry p c => Sys2Proof.Machine.execPauseExpiry p c s
  | .queuePause m vf q us => Sys2Proof.Machine.execQueuePause m vf q us s
  | .queuePauseExpiry q => Sys2Proof.Machine.execQueuePauseExpiry q s
  | .twinEnable m => Sys2Proof.Machine.execTwinEnable m s
  | .twinDisable m => Sys2Proof.Machine.execTwinDisable m s
  | .heartbeatTx => Sys2Proof.Machine.execHeartbeatTx s
  | .heartbeatRx pulse pair data ago => Sys2Proof.Machine.execHeartbeatRx pulse pair data ago s
  | .pathLoss pulse => Sys2Proof.Machine.execPathLoss pulse s
  | .formWaitExpiry => Sys2Proof.Machine.execFormWaitExpiry s
  | .leaseExpiry => Sys2Proof.Machine.execLeaseExpiry s
  | .claimRx pulse pair epoch id => Sys2Proof.Machine.execClaimRx pulse pair epoch id s
  | .releaseRx pulse pair epoch id => Sys2Proof.Machine.execReleaseRx pulse pair epoch id s
  | .backboneClaimRx p payload => Sys2Proof.Machine.execBackboneClaimRx p payload s
  | .backboneClaimTx => Sys2Proof.Machine.execBackboneClaimTx s
  | .twRelease m => Sys2Proof.Machine.execTwRelease m s
  | .forceClaim m => Sys2Proof.Machine.execForceClaim m s
  | .rejoin m => Sys2Proof.Machine.execRejoin m s
  | .resyncRequest => Sys2Proof.Machine.execResyncRequest s
  | .resyncWalk => Sys2Proof.Machine.execResyncWalk s
  | .resyncComplete => Sys2Proof.Machine.execResyncComplete s
  | .dolnosFrameRx data => Sys2Proof.Machine.execDolnosFrameRx data s
  | .reepRx delta bnd => Sys2Proof.Machine.execReepRx delta bnd s
  | .dolnosRetransmit => Sys2Proof.Machine.execDolnosRetransmit s
  | .mirrorBatchClose => Sys2Proof.Machine.execMirrorBatchClose s
  | .dirtyMapFlush => Sys2Proof.Machine.execDirtyMapFlush s
  | .selftestAssembly good => Sys2Proof.Machine.execSelftestAssembly good s
  | .checkWindowComplete => Sys2Proof.Machine.execCheckWindowComplete s
  | .sqDoorbell m page l bytes hi pos => Sys2Proof.Machine.execSqDoorbell m page l bytes hi pos s
  | .cqDoorbell m page l bytes hi pos => Sys2Proof.Machine.execCqDoorbell m page l bytes hi pos s
  | .tx q e payload => Sys2Proof.Machine.execTx q e payload s
  | .txTimed q e payload => Sys2Proof.Machine.execTxTimed q e payload s
  | .lso q e hdr payload => Sys2Proof.Machine.execLso q e hdr payload s
  | .postRx q e => Sys2Proof.Machine.execPostRx q e s
  | .pointWrite q e => Sys2Proof.Machine.execPointWrite q e s
  | .pointRead q e => Sys2Proof.Machine.execPointRead q e s
  | .subscribe q e => Sys2Proof.Machine.execSubscribe q e s
  | .unsubscribe q e => Sys2Proof.Machine.execUnsubscribe q e s
  | .timedAction q e => Sys2Proof.Machine.execTimedAction q e s
  | .dmaCopy q e => Sys2Proof.Machine.execDmaCopy q e s
  | .fence q e => Sys2Proof.Machine.execFence q e s
  | .fencePass q => Sys2Proof.Machine.execFencePass q s
  | .nop q e => Sys2Proof.Machine.execNop q e s
  | .msixModTimer c => Sys2Proof.Machine.execMsixModTimer c s
  | .sqEnable m q => Sys2Proof.Machine.execSqEnable m q s
  | .sqDisable m q => Sys2Proof.Machine.execSqDisable m q s
  | .queueDrained q => Sys2Proof.Machine.execQueueDrained q s
  | .cqEnable m c => Sys2Proof.Machine.execCqEnable m c s
  | .cqDisable m c => Sys2Proof.Machine.execCqDisable m c s
  | .entryFetchError q => Sys2Proof.Machine.execEntryFetchError q s
  | .queueAssign m cq q owner loc => Sys2Proof.Machine.execQueueAssign m cq q owner loc s
  | .queueRelease m cq q => Sys2Proof.Machine.execQueueRelease m cq q s
  | .dmaStart m c => Sys2Proof.Machine.execDmaStart m c s
  | .dmaChain m c => Sys2Proof.Machine.execDmaChain m c s
  | .dmaResume m c => Sys2Proof.Machine.execDmaResume m c s
  | .channelDrop m c => Sys2Proof.Machine.execChannelDrop m c s
  | .dmaEngineDisable m => Sys2Proof.Machine.execDmaEngineDisable m s
  | .chDb m c => Sys2Proof.Machine.execChDb m c s
  | .chOwnerWrite m c v => Sys2Proof.Machine.execChOwnerWrite m c v s
  | .haltClear m => Sys2Proof.Machine.execHaltClear m s
  | .descriptorFetched c b => Sys2Proof.Machine.execDescriptorFetched c b s
  | .transferComplete c data => Sys2Proof.Machine.execTransferComplete c data s
  | .busError c cause addr issued data tail => Sys2Proof.Machine.execBusError c cause addr issued data tail s
  | .cellAlloc reqs => Sys2Proof.Machine.execCellAlloc reqs s
  | .chainAppend c m data => Sys2Proof.Machine.execChainAppend c m data s
  | .chainComplete c m => Sys2Proof.Machine.execChainComplete c m s
  | .chainAbort c m => Sys2Proof.Machine.execChainAbort c m s
  | .share c m n => Sys2Proof.Machine.execShare c m n s
  | .release c m => Sys2Proof.Machine.execRelease c m s
  | .cellWipeDone pool => Sys2Proof.Machine.execCellWipeDone pool s
  | .quotaWrite m isMax pool who value => Sys2Proof.Machine.execQuotaWrite m isMax pool who value s
  | .pool1SizeWrite m units => Sys2Proof.Machine.execPool1SizeWrite m units s
  | .heatWindowEnd => Sys2Proof.Machine.execHeatWindowEnd s
  | .engineRebind p => Sys2Proof.Machine.execEngineRebind p s
  | .dmaCopyDispatch => Sys2Proof.Machine.execDmaCopyDispatch s
  | .traceClear m => Sys2Proof.Machine.execTraceClear m s
  | .ptMdataWrite m hi => Sys2Proof.Machine.execPtMdataWrite m hi s
  | .mailboxPost m n tag => Sys2Proof.Machine.execMailboxPost m n tag s
  | .mailboxEmpty m n => Sys2Proof.Machine.execMailboxEmpty m n s
  | .mailboxLockTake n ms => Sys2Proof.Machine.execMailboxLockTake n ms s
  | .mailboxLockFree m n => Sys2Proof.Machine.execMailboxLockFree m n s
  | .mailboxBindWrite m n v => Sys2Proof.Machine.execMailboxBindWrite m n v s
  | .bindLock m => Sys2Proof.Machine.execBindLock m s
  | .accessTableWrite m t w v => Sys2Proof.Machine.execAccessTableWrite m t w v s
  | .tableLock m => Sys2Proof.Machine.execTableLock m s
  | .dbgEnd m => Sys2Proof.Machine.execDbgEnd m s
  | .debugExpiry => Sys2Proof.Machine.execDebugExpiry s
  | .tokenEval chan buf sig => Sys2Proof.Machine.execTokenEval chan buf sig s
  | .lifecycleChange => Sys2Proof.Machine.execLifecycleChange s
  | .idcode => Sys2Proof.Machine.execIdcode s
  | .dbgToken token => Sys2Proof.Machine.execDbgToken token s
  | .dbgRead off => Sys2Proof.Machine.execDbgRead off s
  | .dbgTrace => Sys2Proof.Machine.execDbgTrace s
  | .dbgWrite off v => Sys2Proof.Machine.execDbgWrite off v s
  | .dbgHalt => Sys2Proof.Machine.execDbgHalt s
  | .dbgStep => Sys2Proof.Machine.execDbgStep s
  | .boundaryScan pads => Sys2Proof.Machine.execBoundaryScan pads s
  | .powerReqRun m => Sys2Proof.Machine.execPowerReqRun m s
  | .powerReqTrim m => Sys2Proof.Machine.execPowerReqTrim m s
  | .powerReqHold m => Sys2Proof.Machine.execPowerReqHold m s
  | .powerReqOff m confirm => Sys2Proof.Machine.execPowerReqOff m confirm s
  | .holdEntered => Sys2Proof.Machine.execHoldEntered s
  | .linkWakeRequest => Sys2Proof.Machine.execLinkWakeRequest s
  | .faultRaise n more => Sys2Proof.Machine.execFaultRaise n more s
  | .conditionEnd src inst => Sys2Proof.Machine.execConditionEnd src inst s
  | .settleWindowEnd b => Sys2Proof.Machine.execSettleWindowEnd b s
  | .faultQuietExpiry => Sys2Proof.Machine.execFaultQuietExpiry s
  | .errWidthExpiry => Sys2Proof.Machine.execErrWidthExpiry s
  | .errRelease m => Sys2Proof.Machine.execErrRelease m s
  | .bookPop m => Sys2Proof.Machine.execBookPop m s
  | .bookClear m => Sys2Proof.Machine.execBookClear m s
  | .faultInject m src => Sys2Proof.Machine.execFaultInject m src s
  | .blockHoldEnd m v => Sys2Proof.Machine.execBlockHoldEnd m v s
  | .sourceConfigWrite m n v => Sys2Proof.Machine.execSourceConfigWrite m n v s
  | .reqStageFirmware c buf fmt sig nor => Sys2Proof.Machine.execReqStageFirmware c buf fmt sig nor s
  | .reqInstallOwnerKey c buf => Sys2Proof.Machine.execReqInstallOwnerKey c buf s
  | .reqStageEbain c buf sig nor => Sys2Proof.Machine.execReqStageEbain c buf sig nor s
  | .reqLogExtract c buf => Sys2Proof.Machine.execReqLogExtract c buf s
  | .reqHealthReport c ok => Sys2Proof.Machine.execReqHealthReport c ok s
  | .reqActivateFirmware c => Sys2Proof.Machine.execReqActivateFirmware c s
  | .reqConfirmFirmware c => Sys2Proof.Machine.execReqConfirmFirmware c s
  | .reqReadOwnerData c ok => Sys2Proof.Machine.execReqReadOwnerData c ok s
  | .reqUnknown c => Sys2Proof.Machine.execReqUnknown c s
  | .fwTrialExpiry => Sys2Proof.Machine.execFwTrialExpiry s
  | .mgWdt => Sys2Proof.Machine.execMgWdt s
  | .mgmtRestart => Sys2Proof.Machine.execMgmtRestart s
  | .sensorSample temps sups curs tot => Sys2Proof.Machine.execSensorSample temps sups curs tot s
  | .ageingSample degr weeks => Sys2Proof.Machine.execAgeingSample degr weeks s
  | .smbusReadWord addr code => Sys2Proof.Machine.execSmbusReadWord addr code s
  | .smbusError => Sys2Proof.Machine.execSmbusError s
  | .logRecordWrite fail => Sys2Proof.Machine.execLogRecordWrite fail s
  | .substitutionTrigger cause => Sys2Proof.Machine.execSubstitutionTrigger cause s
  | .substitutionCopyStart => Sys2Proof.Machine.execSubstitutionCopyStart s
  | .guardedWindowClose => Sys2Proof.Machine.execGuardedWindowClose s
  | .substitutionSwitch bad => Sys2Proof.Machine.execSubstitutionSwitch bad s
  | .substitutionStall => Sys2Proof.Machine.execSubstitutionStall s
  | .spareSelftest failed => Sys2Proof.Machine.execSpareSelftest failed s
  | .portEnable m p => Sys2Proof.Machine.execPortEnable m p s
  | .portDisable m p => Sys2Proof.Machine.execPortDisable m p s
  | .restartAn m p => Sys2Proof.Machine.execRestartAn m p s
  | .pcsLock p => Sys2Proof.Machine.execPcsLock p s
  | .anComplete p page => Sys2Proof.Machine.execAnComplete p page s
  | .linkHoldExpiry p => Sys2Proof.Machine.execLinkHoldExpiry p s
  | .linkDown p c receiving => Sys2Proof.Machine.execLinkDown p c receiving s
  | .rxFrameEnd p data coding ovf ago => Sys2Proof.Machine.execRxFrameEnd p data coding ovf ago s
  | .mdioC22Write m phy reg data => Sys2Proof.Machine.execMdioC22Write m phy reg data s
  | .mdioC22Read m phy reg => Sys2Proof.Machine.execMdioC22Read m phy reg s
  | .mdioC45Address m phy dev addr => Sys2Proof.Machine.execMdioC45Address m phy dev addr s
  | .mdioC45Write m phy dev data => Sys2Proof.Machine.execMdioC45Write m phy dev data s
  | .mdioC45Read m phy dev => Sys2Proof.Machine.execMdioC45Read m phy dev s
  | .mdioC45ReadInc m phy dev => Sys2Proof.Machine.execMdioC45ReadInc m phy dev s
  | .mdioDone rdata answered => Sys2Proof.Machine.execMdioDone rdata answered s
  | .phyInterrupt p => Sys2Proof.Machine.execPhyInterrupt p s
  | .portErrorRateCheck p pcs => Sys2Proof.Machine.execPortErrorRateCheck p pcs s
  | .isoFrameArrive k ok => Sys2Proof.Machine.execIsoFrameArrive k ok s
  | .isoChannelLoss => Sys2Proof.Machine.execIsoChannelLoss s
  | .isoLossSafe => Sys2Proof.Machine.execIsoLossSafe s
  | .isoChannelReturn => Sys2Proof.Machine.execIsoChannelReturn s
  | .freset m => Sys2Proof.Machine.execFreset m s
  | .fieldResetDone => Sys2Proof.Machine.execFieldResetDone s
  | .fieldDieRelease mv => Sys2Proof.Machine.execFieldDieRelease mv s
  | .fieldProxyWrite m off v => Sys2Proof.Machine.execFieldProxyWrite m off v s
  | .fieldStatusRefresh snr => Sys2Proof.Machine.execFieldStatusRefresh snr s
  | .fieldLinkUp n low slave reversed => Sys2Proof.Machine.execFieldLinkUp n low slave reversed s
  | .fieldTrainTimeout n => Sys2Proof.Machine.execFieldTrainTimeout n s
  | .fieldLinkDown n => Sys2Proof.Machine.execFieldLinkDown n s
  | .fieldLinkRestart m n => Sys2Proof.Machine.execFieldLinkRestart m n s
  | .powerEvaluation cur => Sys2Proof.Machine.execPowerEvaluation cur s
  | .pdDetect n k => Sys2Proof.Machine.execPdDetect n k s
  | .pdClassify n cls => Sys2Proof.Machine.execPdClassify n cls s
  | .powerUpDone n inRange => Sys2Proof.Machine.execPowerUpDone n inRange s
  | .pdDisconnect n => Sys2Proof.Machine.execPdDisconnect n s
  | .overcurrentTrip n held => Sys2Proof.Machine.execOvercurrentTrip n held s
  | .faultRetry n => Sys2Proof.Machine.execFaultRetry n s
  | .retryCountReset n => Sys2Proof.Machine.execRetryCountReset n s
  | .shedRecover => Sys2Proof.Machine.execShedRecover s
  | .fvinUndervoltage mv => Sys2Proof.Machine.execFvinUndervoltage mv s
  | .fvinOvervoltage mv => Sys2Proof.Machine.execFvinOvervoltage mv s
  | .fvinRestore mv => Sys2Proof.Machine.execFvinRestore mv s
  | .powerOn vio33 => Sys2Proof.Machine.execPowerOn vio33 s
  | .internalResetRelease twinId bootSel refSel perst => Sys2Proof.Machine.execInternalResetRelease twinId bootSel refSel perst s
  | .sramWipeDone => Sys2Proof.Machine.execSramWipeDone s
  | .firmwareStart => Sys2Proof.Machine.execFirmwareStart s
  | .dramWipeDone unlocked => Sys2Proof.Machine.execDramWipeDone unlocked s
  | .moduleReady => Sys2Proof.Machine.execModuleReady s
  | .configRetry read => Sys2Proof.Machine.execConfigRetry read s
  | .resetNAssert => Sys2Proof.Machine.execResetNAssert s
  | .resetNRelease => Sys2Proof.Machine.execResetNRelease s
  | .chipResetRegister m key go => Sys2Proof.Machine.execChipResetRegister m key go s
  | .chipReset => Sys2Proof.Machine.execChipReset s
  | .vmainLoss => Sys2Proof.Machine.execVmainLoss s
  | .perstAssert => Sys2Proof.Machine.execPerstAssert s
  | .perstDeassert => Sys2Proof.Machine.execPerstDeassert s
  | .functionLevelReset fn => Sys2Proof.Machine.execFunctionLevelReset fn s
  | .flrDone fn => Sys2Proof.Machine.execFlrDone fn s
  | .blockReset m v => Sys2Proof.Machine.execBlockReset m v s
  | .blockResetEnd b => Sys2Proof.Machine.execBlockResetEnd b s
  | .supplyFault x => Sys2Proof.Machine.execSupplyFault x s
  | .refLoss => Sys2Proof.Machine.execRefLoss s
  | .pllUnlock bit => Sys2Proof.Machine.execPllUnlock bit s
  | .pcieRefclkLoss => Sys2Proof.Machine.execPcieRefclkLoss s
  | .pcieLinkDown => Sys2Proof.Machine.execPcieLinkDown s
  | .pcieError fn uncorr => Sys2Proof.Machine.execPcieError fn uncorr s
  | .cntClear m => Sys2Proof.Machine.execCntClear m s
  | .ptpMessageGeneration p type req ago dly => Sys2Proof.Machine.execPtpMessageGeneration p type req ago dly s
  | .fieldDieWatchdog => Sys2Proof.Machine.execFieldDieWatchdog s
  | .pcieLinkUp width speed => Sys2Proof.Machine.execPcieLinkUp width speed s
  | .linkEntersL12 => Sys2Proof.Machine.execLinkEntersL12 s
  | .linkExitsL12 => Sys2Proof.Machine.execLinkExitsL12 s
  | .configurationWrite fn w => Sys2Proof.Machine.execConfigurationWrite fn w s

end Sys2Proof.Machine
end

