-- ==== Sys2Proof/Machine/Tick.lean ====
section
/-!
DEFINITION. One tick of the time island (2 ns): device time, the shadow counter, a slew, time in holdover, the end of a PPS_OUT
pulse, and the credits of credit-based shapers (R33, R36, R57, R65, R242, R530).
Where the manual leaves a point open, the choices are log entries 1, 2 (DESIGN CHOICE); 38 (DEDUCED).
-/

namespace Sys2Proof.Machine

/-- Does the time base run: power, no reset pad, and t_r reached (R33, R485)? -/
def State.timeRuns (s : State) : Bool := !s.crp.off && !s.crp.rstLow && decide (s.crp.tr ≤ s.tb.mono)

/-- A counter of 64 bits and a fraction of 32, after an addition in 2⁻³² ns. -/
def counterAdd (dt : DWord) (frac : Word) (n : Nat) : DWord × Word :=
  (dt + BitVec.ofNat 64 ((frac.toNat + n) / 2 ^ 32), BitVec.ofNat 32 (frac.toNat + n))

/-- DT, its shadow and the slew move on (R33, R36, R530). -/
def State.timeTick (s : State) : State :=
  let sl : Int × Nat := if s.tb.slewing then s.slewTick else (0, s.tb.slewCarry)
  let n := ((s.tbInc : Int) + sl.1).toNat
  let a := counterAdd s.tb.dt s.tb.frac n
  let b := counterAdd s.tb.shDt s.tb.shFrac n
  { s with tb := { s.tb with dt := a.1, frac := a.2, shDt := b.1, shFrac := b.2, slew := s.tb.slew - sl.1, slewCarry := sl.2 } }

/-- TB_HOLD_NS counts in HOLDOVER (R57). -/
def State.holdTick (s : State) : State :=
  if s.tbState = tbHoldover then s.wr64 F.TB_HOLD_NS_LO F.TB_HOLD_NS_HI (s.rd64 F.TB_HOLD_NS_LO F.TB_HOLD_NS_HI + 2) else s

/-- PPS_OUT falls at the end of its width (R65). -/
def State.ppsTick (s : State) : State :=
  match s.tb.ppsOutEnd with
  | some e => if e ≤ s.dt then ({ s with tb := { s.tb with ppsOutEnd := none } }).ppsPin false else s
  | none => s

/-- The class whose frame, or the gap after it, is on the wire (R242). -/
def State.wireBusyCls (s : State) (p : Nat) : Option Nat :=
  match (s.lnPort p).wire with
  | some w => if (match w.stop with | some e => decide (s.now10 < e + 12 * s.byteTime p) | none => true) then s.wireCls p else none
  | none => if s.now10 < (s.lnPort p).free then (s.lnPort p).gapCls else none

/-- Has a class a frame waiting: in READY, and a timed one at its launch instant (R242)? -/
def State.classWaits (s : State) (p c : Nat) : Bool :=
  s.ln.items.any (fun x => match x.2 with
    | some it => it.port == p && it.cls == c && s.inReady it && (match it.dtl with | some d => it.due || decide (d ≤ s.wireDt p) | none => true)
    | none => false)

/-- Is a frame of the class interrupted by pre-emption? -/
def State.classCut (s : State) (p c : Nat) : Bool :=
  s.ln.items.any (fun x => match x.2 with
    | some it => it.port == p && it.cls == c && decide (it.st = .cut)
    | none => false)

/-- A class's credit after 2 ns, in millionths of a bit (R242). -/
def State.creditNext (s : State) (p c : Nat) : Int :=
  let v := s.credit p c
  let up : Int := 2 * s.slope p c
  if s.wireBusyCls p = some c then v + up - 2 * s.portRate p
  else if s.classCut p c ∨ bits (s.wireGates p) c 1 = 0 then v
  else if s.classWaits p c then
    (if s.hiCredit p c = 0xFFFFFFFF then v + up else max v (min (v + up) (s.hiCredit p c * 1000000)))
  else if 0 ≤ v then 0 else min 0 (v + up)

/-- The credits of the classes whose shaper runs. -/
def State.creditTick (s : State) : State :=
  if s.ltOn ∧ s.on F.LT_CTRL_CBS_EN then
    (List.range 10).foldl (fun s p => (List.range 8).foldl (fun s c => if s.cbsRuns p c then s.setCredit p c (s.creditNext p c) else s) s) s
  else s

/-- The core cycle ends: its holder operations are applied (R359), posts that no EMPTY let through are refused (R382), its completions
enter their CQs (R313), a command of FINING completes (R203), table writes reach the checks (R395), writes of CELLAR's configuration reach its raises (R419),
and a power request takes effect (R406). -/
def State.cycleEnd (s : State) : State :=
  let s1 := s.holdFlush.postFlush.cqFlush.fnTick
  { s1 with crp := { s1.crp with tblOld := [], errNow := [], errWait := [] },
            mg := { s1.mg with reqsNew := [] },
            cl := { s1.cl with cfgOld := [], minOld := none, pendNow := [], padNow := false, rose := false } }.pwFlush

/-- One tick of the time island, after the end of the core cycle. Device time runs from t_r on, and the relative timers run with it (R63); before, they count ticks. -/
def State.tick (s : State) : State :=
  let s0 := s.cycleEnd
  let s1 := if s.timeRuns then s0.creditTick.timeTick.holdTick.ppsTick else s0
  { s1 with tb := { s1.tb with mono := s1.tb.mono + if s.timeRuns then (s1.tb.dt - s.tb.dt).toNat else 2 } }

end Sys2Proof.Machine
end

