-- ==== Sys2Proof/Machine/Step.lean ====
section
/-!
DEFINITION. One step: the command at the front of the queue is carried out on the state with the rest of the queue; on
an empty queue the time island ticks once (R33). The word interface of the host puts a command in front of the queue.
Where the manual leaves a point open, the choices are log entries 1, 2, 10 (DESIGN CHOICE).
-/

namespace Sys2Proof.Machine

/-- Take the command at the front of the queue; with none waiting, one tick of the time island passes. -/
def step (s : State) : Host.Outcome State Fault Refusal :=
  match s.pending with
  | [] => .next s.tick
  | c :: rest => exec c { s with pending := rest }

/-- The state with the command that the word spells put in front of its queue; no word spells a command, because the
opcode table gives no row any bits. -/
def State.withFetchWord (s : State) (nbits w : Nat) : State :=
  match decodeTableWord nbits w with
  | none => s
  | some c => { s with pending := c :: s.pending }

end Sys2Proof.Machine
end

