-- ==== Sys2Proof/Safety.lean ====
section
/-!
DEFINITION. The terms that statements about the block are made in: when a register command reaches its block, what a command changes,
and the invariants of the state.
-/

namespace Sys2Proof.Machine

/-- A register command of master `m` at offset `off` reaches its block: the write arrives (R153, R497), the access table of the target
gives the permission (R390), and the block is not held in block reset (R430). -/
abbrev State.accepts (s : State) (m off bit : Nat) : Prop :=
  s.takes m = true ∧ s.may (off / 0x10000) m bit = true ∧ s.heldBlk (blkOf off) = false

/-- A read of master `m` at offset `off` is answered with data (R390, R497). -/
abbrev State.gives (s : State) (m off : Nat) : Prop :=
  s.decodes m = true ∧ s.may (off / 0x10000) m permR = true

/-- The register file is in its one canonical form: keys rising, no field listed at its reset value. -/
abbrev State.Canon (s : State) : Prop := Sparse.wf 0 s.regs = true

/-- DT with its fraction, in 2⁻³² ns (R33). -/
def State.dtFine (s : State) : Nat := s.tb.dt.toNat * 2 ^ 32 + s.tb.frac.toNat

/-- From `s` to `t` every register field keeps its value, but those listed. -/
def State.keepsRegs (s t : State) (l : List Fld) : Prop := ∀ f : Fld, f.key ∉ l.map Fld.key → t.rd f = s.rd f

/-- Entry `e` has been fetched from SQ `q` in which no other entry stands; its job, if it is to stand there still, is `jobs` (R297, R308,
R309). -/
def State.entryTaken (s : State) (q : Nat) (e : Entry) (jobs : List Job) (head : Nat) : State :=
  let r := s.sq q
  let t := s.setSq q { r with fetch := (r.fetch + e.units) % s.sqSize q, jobs := jobs, stop := .none }
  (({ t with qe := { t.qe with nextJob := t.qe.nextJob + 1 } }).takeTurn q e.units).wr (F.QE_SQ_HEAD q) head

/-- The job of an entry that is fetched now. -/
def State.newJob (s : State) (q : Nat) (e : Entry) (rung : Nat) (started : Bool) (done : Option JobEnd) : Job :=
  ⟨s.qe.nextJob, (s.sq q).fetch, e.opcode, e.units, e.tag, e.compl, rung, started, done, false⟩

/-- Entry `e` has been fetched from SQ `q` in which no other entry stands, and its job has ended with a status and results (R308 to
R312): one that failed completes SOLO, and one that closes its batch completes it. -/
def State.entryEnds (s : State) (q : Nat) (e : Entry) (status result result2 : Nat) : State :=
  let next := ((s.sq q).fetch + e.units) % s.sqSize q
  let job := s.newJob q e 7 true (some ⟨status, 0, result, result2⟩)
  let t := s.entryTaken q e (if e.compl then [] else [job]) next
  let cqe (flags info : Nat) : Cqe := ⟨1, result, result2, e.tag, s.sqShown q, next, (s.sq q).fetch, status, flags, info, 0⟩
  let t1 := if status = 0 then t else t.post rankJob q 7 (cqe 4 0)
  if e.compl then t1.post rankJob q 7 (cqe 1 (1 + if status = 0 then 0 else 65536)) else t1

/-- Entry `e` has been fetched from SQ `q` in which no other entry stands, and its job has not ended. -/
def State.entryRuns (s : State) (q : Nat) (e : Entry) (rung : Nat) (started : Bool) : State :=
  s.entryTaken q e [s.newJob q e rung started none]
    (if started then ((s.sq q).fetch + e.units) % s.sqSize q else (s.sq q).fetch)

end Sys2Proof.Machine
end

