-- ==== Sys2Proof/WellFormed.lean ====
section
/-!
DEFINITION. Which commands can be sent: operands in the ranges that the spec gives them. The machine answers every command; this says
what a sender of R391 and the wires of the block can produce.
-/

namespace Sys2Proof

/-- A master that accesses registers: MGMT, DBG, PF0 and VF1 to VF15 (R390). -/
def busMaster (m : Nat) : Bool := decide (m ≤ 1) || (decide (0x20 ≤ m) && decide (m ≤ 0x2F))

/-- A master identity: six bits (R390). -/
def identity (m : Nat) : Bool := decide (m < 0x40)

/-- An offset of the register space: BAR0 of PF0 or, above it, the window of a VF (R500). -/
def busOff (off : Nat) : Bool := decide (off < 0x300000)

/-- The bytes of a read request. -/
def readBytes (b : Nat) : Bool := decide (1 ≤ b) && decide (b ≤ 4096)

/-- The bytes of a queue entry: one to sixteen units of 16 bytes (R298). -/
def entryBytes (e : List Byte) : Bool := decide (e.length % 16 = 0) && decide (16 ≤ e.length) && decide (e.length ≤ 256)

/-- A command that can be sent. -/
def Instr.wf : Instr → Bool
  | .registerWrite m off bytes _ => busMaster m && busOff off && decide (1 ≤ bytes) && decide (bytes ≤ 8)
  | .lowWordRead m off bytes => busMaster m && busOff off && readBytes bytes
  | .lowWordWrite m off _ => busMaster m && busOff off && decide (off % 4 = 0)
  | .counterReadClear m off bytes => busMaster m && busOff off && readBytes bytes
  | .commit m => busMaster m
  | .stagedApply => true
  | .windowDataRead m off bytes => busMaster m && busOff off && readBytes bytes
  | .shadowMismatch _ _ _ _ => true
  | .tbIncWrite m _ => busMaster m
  | .acq m => busMaster m
  | .lockReq m => busMaster m
  | .stepGo m => busMaster m
  | .holdReq m => busMaster m
  | .holdExit m => busMaster m
  | .ppsCommit m => busMaster m
  | .measOffsetWrite m _ => busMaster m
  | .measSeqWrite m _ => busMaster m
  | .slewComplete => true
  | .reepochArm m anchor => busMaster m && decide (anchor < 16)
  | .reepochApply => true
  | .snap m => busMaster m
  | .servoRequest m => busMaster m
  | .servoGrant => true
  | .servoReturn m => busMaster m
  | .servoWatchdogExpiry => true
  | .announceTimeout => true
  | .ppsOutEdge => true
  | .ppsInEdge _ => true
  | .ppsInLoss => true
  | .tinEdge _ _ _ => true
  | .tinFifoPop m _ => busMaster m
  | .followerMarker _ => true
  | .followerMarkerTimeout => true
  | .fuTimeout _ => true
  | .fieldSyncTx _ => true
  | .gateEntryStart _ => true
  | .gateEnWrite m _ _ => busMaster m
  | .listStart _ => true
  | .cfgChange m _ => busMaster m
  | .configChangeTime _ => true
  | .adminCopyDone _ => true
  | .cfgAbort m _ => busMaster m
  | .holdRequest _ => true
  | .releaseRequest _ => true
  | .fieldGateEventSend _ => true
  | .fieldGateEventApply _ => true
  | .streamGateEvent _ => true
  | .sgEnable m _ => busMaster m
  | .sgDisable m _ => busMaster m
  | .sgCfgChange m _ => busMaster m
  | .sgAbort m _ => busMaster m
  | .sgCct _ => true
  | .knMdataWrite m _ => busMaster m
  | .taSubmit m => busMaster m
  | .taCancel m _ => busMaster m
  | .taOccurrence => true
  | .toutEdge => true
  | .fetchStart _ => true
  | .fetchDone _ => true
  | .frameStart _ => true
  | .frameEnd _ => true
  | .jobLate _ => true
  | .verifyTimeout _ => true
  | .respondReceived _ => true
  | .verifyReceived _ => true
  | .mpacketSend _ => true
  | .verifyRestart m _ => busMaster m
  | .fragmentReceived _ _ _ _ _ => true
  | .pointWriteLand => true
  | .notificationWrite => true
  | .tierMove => true
  | .tierMoveDone => true
  | .mapFetchDone => true
  | .pointWindowWrite _ parts => decide (parts ≠ []) && parts.all (fun x => decide (x.2 < 256))
  | .pointWindowRead _ _ => true
  | .pcfgDefine m => busMaster m
  | .pcfgUndefine m => busMaster m
  | .pcfgSet m => busMaster m
  | .mapSwap m _ _ => busMaster m
  | .gyMdataWrite m _ => busMaster m
  | .sweepVisit => true
  | .templateLaunchCreate _ => true
  | .slotClassify _ => true
  | .dramSlotRead _ => true
  | .hotSlotRead _ => true
  | .assemblyHandoff _ => true
  | .templateEnable m _ => busMaster m
  | .templateDisable m _ => busMaster m
  | .templateSwap m _ _ => busMaster m
  | .templateDisableDone => true
  | .msMdataWrite m _ => busMaster m
  | .horizonMature => true
  | .streamLookup _ _ _ => true
  | .idInsert m => busMaster m
  | .idDelete m => busMaster m
  | .idFind m => busMaster m
  | .recReset m _ => busMaster m
  | .clrRecCnt m _ => busMaster m
  | .clrStreamCnt m _ => busMaster m
  | .fnMdataWrite m _ => busMaster m
  | .recoveryEvaluate _ => true
  | .recoveryTimeout _ => true
  | .latentTest _ => true
  | .latentReset _ => true
  | .psUnblock m _ => busMaster m
  | .psClrFilterCnt m _ => busMaster m
  | .meterReset m _ => busMaster m
  | .gateReopen m _ => busMaster m
  | .psMdataWrite m _ => busMaster m
  | .shaperGrant => true
  | .wheelMigrate => true
  | .ltMdataWrite m _ => busMaster m
  | .cbsCreditRestored _ _ => true
  | .pauseRx _ _ => true
  | .pfcRx _ _ times => decide (times.length = 8)
  | .pauseExpiry _ _ => true
  | .queuePause m _ _ _ => busMaster m
  | .queuePauseExpiry _ => true
  | .twinEnable m => busMaster m
  | .twinDisable m => busMaster m
  | .heartbeatTx => true
  | .heartbeatRx _ _ _ _ => true
  | .pathLoss _ => true
  | .formWaitExpiry => true
  | .leaseExpiry => true
  | .claimRx _ _ _ _ => true
  | .releaseRx _ _ _ _ => true
  | .backboneClaimRx _ payload => decide (payload.length ≤ 1500)
  | .backboneClaimTx => true
  | .twRelease m => busMaster m
  | .forceClaim m => busMaster m
  | .rejoin m => busMaster m
  | .resyncRequest => true
  | .resyncWalk => true
  | .resyncComplete => true
  | .dolnosFrameRx _ => true
  | .reepRx _ _ => true
  | .dolnosRetransmit => true
  | .mirrorBatchClose => true
  | .dirtyMapFlush => true
  | .selftestAssembly _ => true
  | .checkWindowComplete => true
  | .sqDoorbell m page _ _ _ _ => busMaster m && decide (page < 16)
  | .cqDoorbell m page _ _ _ _ => busMaster m && decide (page < 16)
  | .tx _ e _ => entryBytes e
  | .txTimed _ e _ => entryBytes e
  | .lso _ e _ _ => entryBytes e
  | .postRx _ e => entryBytes e
  | .pointWrite _ e => entryBytes e
  | .pointRead _ e => entryBytes e
  | .subscribe _ e => entryBytes e
  | .unsubscribe _ e => entryBytes e
  | .timedAction _ e => entryBytes e
  | .dmaCopy _ e => entryBytes e
  | .fence _ e => entryBytes e
  | .fencePass _ => true
  | .nop _ e => entryBytes e
  | .msixModTimer _ => true
  | .sqEnable m _ => busMaster m
  | .sqDisable m _ => busMaster m
  | .queueDrained _ => true
  | .cqEnable m _ => busMaster m
  | .cqDisable m _ => busMaster m
  | .entryFetchError _ => true
  | .queueAssign m _ _ _ _ => busMaster m
  | .queueRelease m _ _ => busMaster m
  | .dmaStart m _ => busMaster m
  | .dmaChain m _ => busMaster m
  | .dmaResume m _ => busMaster m
  | .channelDrop m _ => busMaster m
  | .dmaEngineDisable m => busMaster m
  | .chDb m _ => busMaster m
  | .chOwnerWrite m _ _ => busMaster m
  | .haltClear m => busMaster m
  | .descriptorFetched _ _ => true
  | .transferComplete _ _ => true
  | .busError _ _ _ issued data _ => decide (issued ≤ data.length)
  | .cellAlloc reqs => decide (reqs ≠ [])
  | .chainAppend c m _ => identity m && decide (c < 2 ^ 19)
  | .chainComplete c m => identity m && decide (c < 32768)
  | .chainAbort c m => identity m && decide (c < 32768)
  | .share c m _ => identity m && decide (c < 2 ^ 19)
  | .release c m => identity m && decide (c < 32768)
  | .cellWipeDone _ => true
  | .quotaWrite m _ _ who _ => busMaster m && decide (who < 16)
  | .pool1SizeWrite m units => busMaster m && decide (units < 2 ^ 32)
  | .heatWindowEnd => true
  | .engineRebind _ => true
  | .dmaCopyDispatch => true
  | .traceClear m => busMaster m
  | .ptMdataWrite m _ => busMaster m
  | .mailboxPost m _ _ => busMaster m
  | .mailboxEmpty m _ => busMaster m
  | .mailboxLockTake _ ms => decide (ms ≠ []) && ms.all busMaster
  | .mailboxLockFree m _ => busMaster m
  | .mailboxBindWrite m _ _ => busMaster m
  | .bindLock m => busMaster m
  | .accessTableWrite m _ _ _ => busMaster m
  | .tableLock m => busMaster m
  | .dbgEnd m => busMaster m
  | .debugExpiry => true
  | .tokenEval _ _ _ => true
  | .lifecycleChange => true
  | .idcode => true
  | .dbgToken _ => true
  | .dbgRead off => busOff off
  | .dbgTrace => true
  | .dbgWrite off _ => busOff off
  | .dbgHalt => true
  | .dbgStep => true
  | .boundaryScan _ => true
  | .powerReqRun m => busMaster m
  | .powerReqTrim m => busMaster m
  | .powerReqHold m => busMaster m
  | .powerReqOff m _ => busMaster m
  | .holdEntered => true
  | .linkWakeRequest => true
  | .faultRaise _ more => more.all (fun r => decide (r.src < 160))
  | .conditionEnd src inst => decide (src < 160) && decide (inst < 256)
  | .settleWindowEnd _ => true
  | .faultQuietExpiry => true
  | .errWidthExpiry => true
  | .errRelease m => busMaster m
  | .bookPop m => busMaster m
  | .bookClear m => busMaster m
  | .faultInject m src => busMaster m && decide (src < 256)
  | .blockHoldEnd m _ => busMaster m
  | .sourceConfigWrite m _ _ => busMaster m
  | .reqStageFirmware _ _ _ _ _ => true
  | .reqInstallOwnerKey _ _ => true
  | .reqStageEbain _ _ _ _ => true
  | .reqLogExtract _ _ => true
  | .reqHealthReport _ _ => true
  | .reqActivateFirmware _ => true
  | .reqConfirmFirmware _ => true
  | .reqReadOwnerData _ _ => true
  | .reqUnknown _ => true
  | .fwTrialExpiry => true
  | .mgWdt => true
  | .mgmtRestart => true
  | .sensorSample _ sups curs _ => decide (sups.length = 8) && decide (curs.length = 8)
  | .ageingSample degr weeks => decide (degr.length = 12) && decide (weeks.length = 12)
  | .smbusReadWord addr code => decide (addr < 128) && decide (code < 256)
  | .smbusError => true
  | .logRecordWrite _ => true
  | .substitutionTrigger _ => true
  | .substitutionCopyStart => true
  | .guardedWindowClose => true
  | .substitutionSwitch _ => true
  | .substitutionStall => true
  | .spareSelftest failed => failed.all (fun c => decide (c < 8))
  | .portEnable m _ => busMaster m
  | .portDisable m _ => busMaster m
  | .restartAn m _ => busMaster m
  | .pcsLock _ => true
  | .anComplete _ _ => true
  | .linkHoldExpiry _ => true
  | .linkDown _ _ _ => true
  | .rxFrameEnd _ _ _ _ _ => true
  | .mdioC22Write m _ _ _ => busMaster m
  | .mdioC22Read m _ _ => busMaster m
  | .mdioC45Address m _ _ _ => busMaster m
  | .mdioC45Write m _ _ _ => busMaster m
  | .mdioC45Read m _ _ => busMaster m
  | .mdioC45ReadInc m _ _ => busMaster m
  | .mdioDone _ _ => true
  | .phyInterrupt _ => true
  | .portErrorRateCheck _ _ => true
  | .isoFrameArrive _ _ => true
  | .isoChannelLoss => true
  | .isoLossSafe => true
  | .isoChannelReturn => true
  | .freset m => busMaster m
  | .fieldResetDone => true
  | .fieldDieRelease _ => true
  | .fieldProxyWrite m off _ => busMaster m && decide (off < 0x10000)
  | .fieldStatusRefresh snr => decide (snr.length = 8)
  | .fieldLinkUp _ _ _ _ => true
  | .fieldTrainTimeout _ => true
  | .fieldLinkDown _ => true
  | .fieldLinkRestart m _ => busMaster m
  | .powerEvaluation cur => decide (cur.length = 8)
  | .pdDetect _ _ => true
  | .pdClassify _ _ => true
  | .powerUpDone _ _ => true
  | .pdDisconnect _ => true
  | .overcurrentTrip _ _ => true
  | .faultRetry _ => true
  | .retryCountReset _ => true
  | .shedRecover => true
  | .fvinUndervoltage _ => true
  | .fvinOvervoltage _ => true
  | .fvinRestore _ => true
  | .powerOn _ => true
  | .internalResetRelease _ _ _ _ => true
  | .sramWipeDone => true
  | .firmwareStart => true
  | .dramWipeDone _ => true
  | .moduleReady => true
  | .configRetry _ => true
  | .resetNAssert => true
  | .resetNRelease => true
  | .chipResetRegister m _ _ => busMaster m
  | .chipReset => true
  | .vmainLoss => true
  | .perstAssert => true
  | .perstDeassert => true
  | .functionLevelReset _ => true
  | .flrDone _ => true
  | .blockReset m _ => busMaster m
  | .blockResetEnd _ => true
  | .supplyFault _ => true
  | .refLoss => true
  | .pllUnlock bit => decide (bit < 32)
  | .pcieRefclkLoss => true
  | .pcieLinkDown => true
  | .pcieError _ _ => true
  | .cntClear m => busMaster m
  | .ptpMessageGeneration _ _ _ _ _ => true
  | .fieldDieWatchdog => true
  | .pcieLinkUp width speed => decide (width < 64) && decide (speed < 16)
  | .linkEntersL12 => true
  | .linkExitsL12 => true
  | .configurationWrite _ _ => true

end Sys2Proof
end

