-- ==== Sys2Proof/Certificates/Slice0/Obligations.lean ====
section
/-!
DEFINITION. The statements for the provers: what each family of commands does, what a step of the block is, and what every step keeps.
A statement names in its docstring the rules it comes from and, where it states a choice of the model, the log entries.
-/

open Sys2Proof Sys2Proof.Machine

/-- The model's step (NOTES.md): with a command at the front of the queue, a step is that command's effect on the state with the rest of the
queue. Where the manual leaves a point open it states the model's choice: log entry 1 (DESIGN CHOICE). -/
def Obligations.StepTakesTheFrontCommand : Prop :=
  ∀ (c : Instr) (rest : List Instr) (s : State), s.pending = c :: rest → step s = exec c { s with pending := rest }

/-- What every command leaves to the machine: it answers a next state (no command of this hardware stops it), leaves the queue of waiting
commands as it is, and lets no time pass (log entry 2: time passes in ticks of the idle block only). Where the manual leaves a point open
it states the model's choice: log entries 1 (DESIGN CHOICE), 2 (DESIGN CHOICE). -/
def Obligations.EveryCommandCompletes : Prop :=
  ∀ (c : Instr) (s : State), ∃ t, exec c s = .next t ∧ t.pending = s.pending ∧ t.tb.mono = s.tb.mono

/-- The register file keeps its one canonical form (fields in rising order, none listed at its reset value) through every step, of a command
or of the idle block. -/
def Obligations.EveryStepKeepsTheForm : Prop :=
  ∀ (s t : State), s.Canon → step s = .next t → t.Canon

/-- The module right after power-on: nothing is listed in the register file, so every field reads its reset value; no command waits; DT is 0;
the values of R33, R43, R290, R393, R411, R459 and R485. Where the manual leaves a point open it states the model's choice: log entries 5
(DESIGN CHOICE), 6 (DESIGN CHOICE), 7 (DESIGN CHOICE), 9 (DEDUCED). -/
def Obligations.ResetState : Prop :=
  let s := State.reset
  s.Canon ∧ s.pending = [] ∧ (∀ f : Fld, f.rst < 2 ^ 32 → s.rd f = f.rst) ∧ s.tb.dt = 0 ∧ s.tb.frac = 0 ∧ s.tbInc = 0x200000000
    ∧ s.rd F.TB_STATUS_STATE = 0 ∧ s.rd F.TW_STATUS_ROLE = 0 ∧ s.rd F.CRP_BOOT_PHASE = 0 ∧ s.on F.AC_STATUS_LOCKED = false
    ∧ s.may 0x13 0x20 permR = true ∧ s.may 0x13 0x20 permW = false ∧ s.may 0x0E 0x2F permDB = true ∧ s.may 0x0D 0x21 permW = true
    ∧ s.may 0x02 0x21 permR = false ∧ s.may 0x15 0 permADM = true ∧ s.rd (F.BP_STATUS_STATE 1) = 0 ∧ s.rd F.CL_STATUS_FAULT = 0 ∧ s.cl.book = []

/-- R33, R36, R63: on a tick of the running time island in a core cycle that has nothing left to do at its end (no holder operation, no held
post, no completion, no command of FINING and no power request waits), DT and its fraction move by TB_INC, and during a slew by the amount
that leaves what remains of it; TB_INC and TB_EPOCH stay, and the clock of the relative timers moves as DT does. While the time base does
not run, DT and the registers stay and that clock counts 2 ns (log entry 2). At power-on and at chip reset DT is 0, TB_INC 2 ns and
TB_STATUS.STATE FREE. A tick of the model is a step of the idle block (log entry 2). Where the manual leaves a point open it states the
model's choice: log entry 2 (DESIGN CHOICE). -/
def Obligations.TickOfDeviceTime : Prop :=
  (∀ s : State, s.pending = [] → s.gr.ops = [] → s.mb.posts = [] → s.qe.due = [] → s.fn.cmd = none → s.crp.pwReqs = [] →
    (s.crp.off = false → s.crp.rstLow = false → s.crp.tr ≤ s.tb.mono → ∃ t, step s = .next t
      ∧ t.dtFine = (s.dtFine + (s.rd F.TB_INC_LO + 2 ^ 32 * s.rd F.TB_INC_HI + (s.tb.slew - t.tb.slew)).toNat) % 2 ^ 96
      ∧ (s.tb.slewing = false → t.tb.slew = s.tb.slew) ∧ t.tb.mono = s.tb.mono + (t.tb.dt - s.tb.dt).toNat ∧ t.rd F.TB_EPOCH = s.rd F.TB_EPOCH
      ∧ t.rd F.TB_INC_LO = s.rd F.TB_INC_LO ∧ t.rd F.TB_INC_HI = s.rd F.TB_INC_HI)
    ∧ (s.crp.off = true ∨ s.crp.rstLow = true ∨ s.tb.mono < s.crp.tr → ∃ t, step s = .next t
      ∧ t.dtFine = s.dtFine ∧ t.tb.mono = s.tb.mono + 2 ∧ t.regs = s.regs))
  ∧ (∀ (v33 : Bool) (s : State),
    (s.crp.off = true → ∃ t, exec (.powerOn v33) s = .next t ∧ t.tb.dt = 0 ∧ t.tb.frac = 0 ∧ t.tbInc = 0x200000000 ∧ t.rd F.TB_STATUS_STATE = 0)
    ∧ (s.crp.chipReq = true → ∃ t, exec .chipReset s = .next t ∧ t.tb.dt = 0 ∧ t.tb.frac = 0 ∧ t.tbInc = 0x200000000 ∧ t.rd F.TB_STATUS_STATE = 0))

/-- Steps of the block while no command waits: one moves the clock of the relative timers as it moves DT, or by 2 ns while the time base does
not run; after n of them no command has appeared, that clock has not gone back, and the register file still has its canonical form. Where
the manual leaves a point open it states the model's choice: log entry 2 (DESIGN CHOICE). -/
def Obligations.IdleStepsPassTime : Prop :=
  ∀ (n : Nat) (s : State), s.pending = [] →
    (∃ u, step s = .next u ∧ u.tb.mono = s.tb.mono + if s.timeRuns then (u.tb.dt - s.tb.dt).toNat else 2)
    ∧ (∃ t, Host.Core.run Sys2Proof.core n s = .next t ∧ t.pending = [] ∧ s.tb.mono ≤ t.tb.mono ∧ (s.Canon → t.Canon))

/-- R396: no write changes the permissions of DBG; on every target they are what the debug level gives, and word 0 of the target's table reads
so. -/
def Obligations.EntriesOfDbg : Prop :=
  ∀ (t : Fin 22) (bit : Fin 4) (m : Nat) (w : Fin 8) (v : Word) (s : State),
    (s.rd F.AC_STATUS_DBG = 0 → s.may t.val 1 bit.val = false)
    ∧ (s.rd F.AC_STATUS_DBG = 1 → s.may t.val 1 bit.val = decide (bit.val = 0))
    ∧ (s.rd F.AC_STATUS_DBG = 2 → s.may t.val 1 bit.val = true)
    ∧ (∃ u, exec (.accessTableWrite m t w v) s = .next u ∧ u.may t.val 1 bit.val = s.may t.val 1 bit.val)
    ∧ (bits (s.rd (F.AC_TBL_t_w t.val 0)) 4 4 = 0 → s.gives 0 (0x131000 + 0x20 * t.val) → s.rd F.AC_STATUS_DBG ≤ 2 →
      Sparse.get none s.latched (0x131000 + 0x20 * t.val) = none → ∃ u, exec (.lowWordRead 0 (0x131000 + 0x20 * t.val) 4) s = .next u
      ∧ u.readData.map (fun x => bits x.toNat 4 4) = [if s.rd F.AC_STATUS_DBG = 0 then 0 else if s.rd F.AC_STATUS_DBG = 1 then 1 else 15]
      ∧ u.regs = s.regs)

/-- R499: a read of a reserved block of PF0 BAR0 returns 0, a write to it is ignored, and neither raises a source or counts a denial; the
width check still applies. -/
def Obligations.ReservedBlocks : Prop :=
  ∀ (m off : Nat) (v : DWord) (s : State), s.decodes m = true → isVf m = false → 0x160000 ≤ off → off < 0x200000 → off % 4 = 0 →
    (∀ bytes, bytes = 1 ∨ bytes = 2 ∨ bytes = 4 → Sparse.get none s.latched (m * 2 ^ 24 + off) = none →
      ∃ t, exec (.lowWordRead m off bytes) s = .next t ∧ t.readData = [0] ∧ t.cl = s.cl ∧ t.regs = s.regs)
    ∧ exec (.registerWrite m off 4 v) s = .next s
    ∧ (∃ t, exec (.registerWrite m off 2 v) s = .next t ∧ t.cl.inbox.length = s.cl.inbox.length + 1
      ∧ t.cl.inbox.getLast?.map (fun r => r.src) = some Src.BAD_ACCESS ∧ t.rd F.AC_DENY_CNT = s.rd F.AC_DENY_CNT)

/-- R390, R392, R430, R497: a command of a master that the access table gives no W leaves nothing but the record of its denial; a block held
in block reset takes no command; and no command reaches a function without Memory Space Enable. Where the manual leaves a point open it
states the model's choice: log entries 14 (DESIGN CHOICE), 15 (DEDUCED), 17 (DEDUCED). -/
def Obligations.CommandsThatAreNotTaken : Prop :=
  ∀ (m : Nat) (p : Fin 10) (n : Fin 8) (b : Fin 2) (v : Word) (s : State),
    let all := fun (off : Nat) (c : Instr) =>
      (s.decodes m = false → exec c s = .next s)
      ∧ (s.decodes m = true → s.may (off / 0x10000) m permW = false → exec c s = .next (s.deny 1 m (off / 0x10000) (off % 0x10000)))
      ∧ (s.decodes m = true → s.may (off / 0x10000) m permW = true → s.heldBlk (blkOf off) = true → exec c s = .next s)
    all 0x10010 (.blockReset m v) ∧ all 0x20000 (.lockReq m) ∧ all (0x30000 + 0x10000 * b.val) (.portEnable m b)
      ∧ all (0x50400 + 0x80 * n.val) (.fieldLinkRestart m n) ∧ all (0x60400 + 0x80 * p.val) (.cfgAbort m p) ∧ all 0x80030 (.recReset m (v.setWidth 15))
      ∧ all 0x90008 (.meterReset m (v.setWidth 12)) ∧ all 0xD0028 (.pcfgSet m) ∧ all 0xD8010 (.templateDisable m (v.setWidth 14)) ∧ all 0x120000 (.twinEnable m)
      ∧ all 0x110000 (.bookPop m) ∧ all 0x30044 (.mdioC22Read m 0 0)
      ∧ (let t := s.deny 1 m 2 0
         t.rd F.AC_DENY_CNT = min (s.rd F.AC_DENY_CNT + 1) (2 ^ 32 - 1) ∧ t.rd F.AC_STATUS_DENY_SEEN = 1 ∧ t.rd F.AC_DENY_INFO_VALID = 1
         ∧ s.keepsRegs t [F.AC_DENY_CNT, F.AC_STATUS_DENY_SEEN, F.AC_DENY_INFO_VALID, F.AC_DENY_INFO_OP, F.AC_DENY_INFO_MASTER, F.AC_DENY_INFO_TARGET,
            F.AC_DENY_INFO_OFFSET]
         ∧ t.cl.inbox.length = s.cl.inbox.length + 1 ∧ t = { s with regs := t.regs, cl := t.cl })

/-- R40, R58: what the four requests of TB_CTRL do in each state of the time base (in the states that the table of R40 does not give them they
change nothing); what a write of TB_MEAS_OFFS_HI does, with a jump and without one; where a slew whose remainder has reached 0 leaves JUMP
to; and what an Announce receipt timeout does while the firmware has the servo, and otherwise. Where the manual leaves a point open it
states the model's choice: log entries 19 (DEDUCED), 82 (DESIGN CHOICE). -/
def Obligations.TimeBaseStateTransitions : Prop :=
  (∀ (m : Nat) (s : State), s.accepts m 0x20000 permW →
    exec (.acq m) s = .next (if s.rd F.TB_STATUS_STATE = 0 then s.wr F.TB_STATUS_STATE 1 else s)
    ∧ exec (.lockReq m) s = .next (if s.rd F.TB_STATUS_STATE = 1 then s.wr F.TB_STATUS_STATE 2 else s)
    ∧ exec (.holdReq m) s = .next (if s.rd F.TB_STATUS_STATE = 2 then
        (s.wr F.TB_STATUS_STATE 3).wr64 F.TB_HOLD_NS_LO F.TB_HOLD_NS_HI 0 else s)
    ∧ exec (.holdExit m) s = .next (if s.rd F.TB_STATUS_STATE = 3 ∧ s.rd F.CRP_PWR_STATUS_STATE ≤ 1 then s.wr F.TB_STATUS_STATE 2 else s))
  ∧ (∀ (m : Nat) (offs : DWord) (s : State), s.accepts m 0x20074 permW →
      ∃ t, exec (.measOffsetWrite m offs) s = .next t ∧ t.rd64 F.TB_MEAS_OFFS_LO F.TB_MEAS_OFFS_HI = offs.toNat
        ∧ (s.rd F.TB_STATUS_STATE = 2 ∧ s.rd F.TB_STEP_THR ≠ 0 ∧ s.rd F.TB_STEP_THR < (toSigned 64 offs.toNat).natAbs →
            t.rd F.TB_STATUS_STATE = 4 ∧ t.rd F.TB_STATUS_JUMP_SEEN = 1 ∧ t.rd F.TB_JUMP_CNT = min (s.rd F.TB_JUMP_CNT + 1) (2 ^ 32 - 1)
            ∧ t.cl.inbox = s.cl.inbox ++ [⟨Src.TIME_JUMP, 0xFF, none, 0, false⟩]
            ∧ (s.rd F.TB_CTRL_JUMP_MODE = 0 → t.tb = { s.tb with slewing := true, slew := -(toSigned 64 offs.toNat) * 2 ^ 32, slewCarry := 0 })
            ∧ (s.rd F.TB_CTRL_JUMP_MODE ≠ 0 → t.tb = s.tb)
            ∧ s.keepsRegs t [F.TB_MEAS_OFFS_LO, F.TB_MEAS_OFFS_HI, F.TB_STATUS_STATE, F.TB_STATUS_JUMP_SEEN, F.TB_JUMP_CNT]
            ∧ t = { s with regs := t.regs, tb := t.tb, cl := { s.cl with inbox := t.cl.inbox } })
        ∧ (¬ (s.rd F.TB_STATUS_STATE = 2 ∧ s.rd F.TB_STEP_THR ≠ 0 ∧ s.rd F.TB_STEP_THR < (toSigned 64 offs.toNat).natAbs) →
            t = s.wr64 F.TB_MEAS_OFFS_LO F.TB_MEAS_OFFS_HI offs.toNat))
  ∧ (∀ s : State, s.rd F.TB_STATUS_STATE = 4 → s.tb.slewing = true → s.tb.slew = 0 →
      exec .slewComplete s = .next (
        if s.rd F.CRP_PWR_STATUS_STATE = 2 ∨ s.crp.toHold = true then
          ({ s with tb := { s.tb with slewing := false, slewCarry := 0 } }.wr F.TB_STATUS_STATE 3).wr64 F.TB_HOLD_NS_LO F.TB_HOLD_NS_HI 0
        else { s with tb := { s.tb with slewing := false, slewCarry := 0 } }.wr F.TB_STATUS_STATE 2))
  ∧ (∀ s : State,
      (s.on F.TB_CTRL_PTP_EN = true ∧ s.on F.TB_PTP_CFG_ROLE_OC = true ∧ s.on F.TB_SERVO_OWNER = false →
        exec .announceTimeout s = .next ((if s.rd F.TB_STATUS_STATE = 2 then
          (s.wr F.TB_STATUS_STATE 3).wr64 F.TB_HOLD_NS_LO F.TB_HOLD_NS_HI 0 else s).onset Src.MG_SERVO 0xFF 0))
      ∧ (¬ (s.on F.TB_CTRL_PTP_EN = true ∧ s.on F.TB_PTP_CFG_ROLE_OC = true ∧ s.on F.TB_SERVO_OWNER = false) →
        exec .announceTimeout s = .next s))

/-- R34, R54, R55, R56, R57: a TB_INC write of the owner outside HOLDOVER is clamped to the range of R34 and stored, every other one is only
counted; PF0 asks for the servo and returns it, firmware grants it, and an expired watchdog takes it back. -/
def Obligations.ServoAndIncrement : Prop :=
  (∀ (m inc : Nat) (s : State), s.accepts m 0x20020 permW →
    (m = (if s.on F.TB_SERVO_OWNER then 0x20 else 0) → s.rd F.TB_STATUS_STATE ≠ 3 →
      exec (.tbIncWrite m inc) s = .next (
        let v := max 0x1FF7CED91 (min 0x20083126F (inc % 2 ^ 36))
        let t := s.wr64 F.TB_INC_LO F.TB_INC_HI v
        { (if v = inc % 2 ^ 36 then t else t.wr F.TB_STATUS_INC_CLAMP 1) with tb := { s.tb with incAt := s.tb.mono } }))
    ∧ (m ≠ (if s.on F.TB_SERVO_OWNER then 0x20 else 0) ∨ s.rd F.TB_STATUS_STATE = 3 →
      exec (.tbIncWrite m inc) s = .next (s.inc F.TB_INC_REJ)))
  ∧ (∀ s : State, s.accepts 0x20 0x20080 permW →
      exec (.servoRequest 0x20) s = .next (s.wr F.TB_SERVO_REQ 1)
      ∧ exec (.servoReturn 0x20) s = .next (((s.wr F.TB_SERVO_OWNER 0).wr F.TB_SERVO_GRANT 0).wr F.TB_SERVO_REQ 0))
  ∧ (∀ s : State, s.on F.TB_SERVO_REQ = true → s.on F.TB_SERVO_OWNER = false →
      exec .servoGrant s = .next { (s.wr F.TB_SERVO_OWNER 1).wr F.TB_SERVO_GRANT 1 with tb := { s.tb with incAt := s.tb.mono } })
  ∧ (∀ s : State, s.on F.TB_SERVO_OWNER = true → s.rd F.TB_SERVO_WDOG ≠ 0 → s.tb.incAt + s.rd F.TB_SERVO_WDOG * 1000000 ≤ s.tb.mono →
      exec .servoWatchdogExpiry s =
        .next ((((s.wr F.TB_SERVO_OWNER 0).wr F.TB_SERVO_GRANT 0).wr F.TB_SERVO_REQ 0).raise0 Src.TB_SERVO_WDOG 0))

/-- R36, R39, R42, R60, R61, R64, R69: an accepted STEP_GO moves DT by its amount, keeps the fraction and is recorded, a refused one only sets
STEP_REJ and raises TB_STEP_REJ; a snapshot; an ARM of a re-epoch of a module without a twin, which takes its boundary from the list of
the anchor or a whole millisecond, and its application at the boundary; and what the residue check of the two DT counters does when one or
both fail. Where the manual leaves a point open it states the model's choice: log entries 18 (DEDUCED), 19 (DEDUCED), 20 (DEDUCED), 21
(DEDUCED). -/
def Obligations.StepsOfDeviceTime : Prop :=
  (∀ (m : Nat) (s : State), s.accepts m 0x20000 permW →
    (s.rd F.TB_STATUS_STATE ≤ 1 → 0 ≤ (s.dt : Int) + toSigned 64 (s.rd64 F.TB_STEP_LO F.TB_STEP_HI) →
      ∃ t, exec (.stepGo m) s = .next t
        ∧ t.tb.dt = s.tb.dt + BitVec.ofNat 64 (s.rd64 F.TB_STEP_LO F.TB_STEP_HI) ∧ t.tb.frac = s.tb.frac
        ∧ t.rd F.TB_EPOCH = (s.rd F.TB_EPOCH + 1) % 2 ^ 32
        ∧ t.rd64 F.TB_LAST_DT_LO F.TB_LAST_DT_HI = t.tb.dt.toNat
        ∧ t.rd64 F.TB_LAST_AMT_LO F.TB_LAST_AMT_HI = s.rd64 F.TB_STEP_LO F.TB_STEP_HI
        ∧ t = { s with regs := t.regs, tb := t.tb, kn := t.kn, hz := t.hz, tw := t.tw, ln := t.ln, cl := t.cl, yieldAt := t.yieldAt })
    ∧ (¬ (s.rd F.TB_STATUS_STATE ≤ 1 ∧ 0 ≤ (s.dt : Int) + toSigned 64 (s.rd64 F.TB_STEP_LO F.TB_STEP_HI)) →
      exec (.stepGo m) s = .next ((s.wr F.TB_STATUS_STEP_REJ 1).raise0 Src.TB_STEP_REJ 0)))
  ∧ (∀ s : State, s.accepts 0x20 0x200A0 permW →
      exec (.snap 0x20) s = .next ((s.wr64 F.TB_SNAP_LO F.TB_SNAP_HI s.tb.dt.toNat).wr F.TB_SNAP_FRAC
        (s.tb.frac.toNat / 2 ^ 30 * 2 ^ 30 + s.rd F.TB_EPOCH % 256)))
  ∧ (∀ (m anchor : Nat) (s : State), s.accepts m 0x20038 permW → s.on F.TW_CTRL_EN = false → s.tb.reep = none → anchor < 16 →
      2 ≤ s.rd F.TB_STATUS_STATE →
      let b := s.reepBoundary anchor (s.dt + 10000 : Nat)
      (10 ≤ anchor ∨ (s.knPort anchor).running = false → b = ((s.dt : Int) + 1009999) / 1000000 * 1000000)
      ∧ (0 ≤ b + toSigned 64 (s.rd64 F.TB_REEP_LO F.TB_REEP_HI) →
        exec (.reepochArm m anchor) s = .next { s.wr F.TB_REEP_CTRL_ANCHOR anchor with tb := { s.tb with 
          reep := some ⟨toSigned 64 (s.rd64 F.TB_REEP_LO F.TB_REEP_HI), b, anchor, s.dt + 10000⟩ } })
      ∧ (b + toSigned 64 (s.rd64 F.TB_REEP_LO F.TB_REEP_HI) < 0 →
        exec (.reepochArm m anchor) s = .next ((s.wr F.TB_REEP_CTRL_ANCHOR anchor).wr F.TB_STATUS_REEP_REJ 1)))
  ∧ (∀ (r : Reep) (s : State), s.tb.reep = some r → r.bnd ≤ (s.dt : Int) → 0 ≤ r.bnd + r.delta →
      ∃ t, exec .reepochApply s = .next t ∧ t.tb.reep = none
        ∧ t.tb.dt = BitVec.ofInt 64 ((s.dt : Int) + r.delta) ∧ t.tb.frac = s.tb.frac
        ∧ t.rd F.TB_EPOCH = (s.rd F.TB_EPOCH + 1) % 2 ^ 32
        ∧ (s.rd F.TB_STATUS_STATE = 4 → t.rd F.TB_STATUS_STATE = if s.rd F.CRP_PWR_STATUS_STATE = 2 then 3 else 2)
        ∧ (s.rd F.TB_STATUS_STATE ≠ 4 → t.rd F.TB_STATUS_STATE = s.rd F.TB_STATUS_STATE)
        ∧ ⟨Src.TB_STEP_DONE, 0xFF, none, 0, false⟩ ∈ t.cl.inbox
        ∧ t = { s with regs := t.regs, tb := t.tb, kn := t.kn, hz := t.hz, tw := t.tw, ln := t.ln, cl := t.cl, yieldAt := t.yieldAt })
  ∧ (∀ (dt : DWord) (frac : Word) (s : State),
      (∃ t, exec (.shadowMismatch dt frac true false) s = .next t ∧ t.tb = { s.tb with shDt := s.tb.dt, shFrac := s.tb.frac }
        ∧ t.cl.inbox = s.cl.inbox ++ [⟨Src.TB_SHADOW, 0xFF, none, 0, false⟩]
        ∧ t = { s.inc F.TB_SHADOW_MISMATCH with tb := t.tb, sp := t.sp, cl := t.cl })
      ∧ (∃ t, exec (.shadowMismatch dt frac false true) s = .next t
        ∧ t.tb = { s.tb with dt := s.tb.shDt, frac := s.tb.shFrac, swapped := !s.tb.swapped }
        ∧ t.cl.inbox = s.cl.inbox ++ [⟨Src.TB_SHADOW, 0xFF, none, 0, false⟩]
        ∧ t = { (s.inc F.TB_SHADOW_MISMATCH).wr F.TB_SHADOW_ALT 1 with tb := t.tb, sp := t.sp, cl := t.cl })
      ∧ (∃ t, exec (.shadowMismatch dt frac true true) s = .next t ∧ t.tb = { s.tb with shDt := dt, shFrac := frac }
        ∧ t.cl.inbox = s.cl.inbox ++ [⟨Src.TB_SHADOW_UNRES, 0xFF, none, 0, false⟩]
        ∧ t = { (s.inc F.TB_SHADOW_MISMATCH).wr F.TB_SHADOW_UNRES 1 with tb := t.tb, cl := t.cl }))

/-- R16, R17, R65, R66: the staged PPS_OUT values wait for the edge while the pad is driven and come into force at once while it is not; the
pad asserts when DT matches period and phase within 2 ns, and a commit that waits for the edge is applied with it. Where the manual leaves
a point open it states the model's choice: log entries 22 (DEDUCED), 82 (DESIGN CHOICE). -/
def Obligations.PulseOutputAndItsCommit : Prop :=
  (∀ (m : Nat) (s : State), s.accepts m 0x20000 permW → s.on F.TB_CTRL_COMMIT = false →
    (s.ppsDriven = true →
      let t := { s.wr F.TB_CTRL_COMMIT 1 with tb := { s.tb with ppsCommit := some (s.tb.ppsPeriod, s.tb.ppsPhase, s.tb.ppsWidth) } }
      exec (.commit m) s = .next t ∧ exec (.ppsCommit m) s = .next t)
    ∧ (s.ppsDriven = false → ∃ t, exec (.commit m) s = .next t ∧ exec (.ppsCommit m) s = .next t ∧ t.rd F.TB_PPSO_PERIOD = max 1000 s.tb.ppsPeriod.toNat
        ∧ t.rd F.TB_PPSO_PHASE = s.tb.ppsPhase.toNat
        ∧ t.rd F.TB_PPSO_WIDTH = (if max 1000 s.tb.ppsPeriod.toNat ≤ s.tb.ppsWidth.toNat then max 1000 s.tb.ppsPeriod.toNat - 8 else s.tb.ppsWidth.toNat)
        ∧ t.rd F.TB_CTRL_COMMIT = 0 ∧ t = { s with regs := t.regs, tb := { s.tb with ppsCommit := none } }
        ∧ s.keepsRegs t [F.TB_PPSO_PERIOD, F.TB_PPSO_PHASE, F.TB_PPSO_WIDTH, F.TB_CTRL_COMMIT]))
  ∧ (∀ (period phase width : Word) (s : State), s.tb.ppsCommit = some (period, phase, width) →
      s.ppsDriven = false ∨ (s.rd F.TB_PPSO_PERIOD ≠ 0 ∧ (((s.dt : Int) - s.rd F.TB_PPSO_PHASE) % s.rd F.TB_PPSO_PERIOD ≤ 2
        ∨ (s.rd F.TB_PPSO_PERIOD : Int) - 2 ≤ ((s.dt : Int) - s.rd F.TB_PPSO_PHASE) % s.rd F.TB_PPSO_PERIOD)) →
      ∃ t, exec .stagedApply s = .next t ∧ t.rd F.TB_PPSO_PERIOD = max 1000 period.toNat ∧ t.rd F.TB_PPSO_PHASE = phase.toNat
        ∧ t.rd F.TB_CTRL_COMMIT = 0 ∧ t = { s with regs := t.regs, tb := { s.tb with ppsCommit := none } }
        ∧ s.keepsRegs t [F.TB_PPSO_PERIOD, F.TB_PPSO_PHASE, F.TB_PPSO_WIDTH, F.TB_CTRL_COMMIT])
  ∧ (∀ s : State, s.ppsDriven = true → s.rd F.TB_PPSO_PERIOD ≠ 0 → s.tb.ppsOutEnd = none →
      (((s.dt : Int) - s.rd F.TB_PPSO_PHASE) % s.rd F.TB_PPSO_PERIOD ≤ 2
        ∨ (s.rd F.TB_PPSO_PERIOD : Int) - 2 ≤ ((s.dt : Int) - s.rd F.TB_PPSO_PHASE) % s.rd F.TB_PPSO_PERIOD) →
      ∃ t, exec .ppsOutEdge s = .next t ∧ t.tb.ppsOutEnd = some (s.dt + t.rd F.TB_PPSO_WIDTH)
        ∧ t.wire = s.wire ++ (if (Src.VIO_FAULT, 1) ∈ s.cl.conds then [] else [.pps (!s.on F.TB_PPSO_CFG_POL)])
        ∧ (s.tb.ppsCommit = none → t.regs = s.regs)
        ∧ (s.tb.ppsCommit ≠ none → t.rd F.TB_CTRL_COMMIT = 0 ∧ t.tb.ppsCommit = none)
        ∧ t = { s with regs := t.regs, tb := { s.tb with ppsOutEnd := t.tb.ppsOutEnd, ppsCommit := t.tb.ppsCommit }, wire := t.wire })

/-- R38, R47, R49, R52, R67, R68, R527, R528: what an edge of PPS_IN and its absence record, what an edge of TIN0 or TIN1 and a pop of its
FIFO do, what a write of TB_MEAS_SEQ sends, how a marker that reaches the field die or a missing one moves the follower, and when a
residence entry and the next field-port Sync come due. Where the manual leaves a point open it states the model's choice: log entries 12
(DEDUCED), 24 (DEDUCED), 82 (DESIGN CHOICE). -/
def Obligations.CapturesAndFollower : Prop :=
  (∀ (m : Nat) (seq : Word) (s : State), s.accepts m 0x2007C permW →
      exec (.measSeqWrite m seq) s = .next (if s.on (F.QE_EVT_MAP_n_EN 0) then (s.wr F.TB_MEAS_SEQ seq.toNat).msix 0 (s.rd (F.QE_EVT_MAP_n_VEC 0))
        else s.wr F.TB_MEAS_SEQ seq.toNat))
  ∧ (∀ (rising : Bool) (q : Fin 8) (s : State), s.on F.TB_PPSI_CFG_EN = true → rising = !s.on F.TB_PPSI_CFG_EDGE →
      ∃ t, exec (.ppsInEdge ⟨rising, q⟩) s = .next t ∧ t.rd64 F.TB_PPSI_TS_LO F.TB_PPSI_TS_HI = s.quarters q.val / 4 % 2 ^ 64
        ∧ t.rd F.TB_PPSI_TS_FRAC = s.quarters q.val % 4 * 2 ^ 30 + s.rd F.TB_EPOCH % 256
        ∧ t = { s with regs := t.regs, tb := { s.tb with ppsInAt := s.quarters q.val, ppsInHave := true }, cl := t.cl }
        ∧ (s.tb.ppsInHave = true ∧ s.rd F.TB_PPSI_CFG_WIN_US * 4000 < ((s.quarters q.val : Int) - (s.tb.ppsInAt + 4000000000)).natAbs →
            t.rd F.TB_PPSI_CNT_BAD = min (s.rd F.TB_PPSI_CNT_BAD + 1) 0xFFFF ∧ t.cl = s.cl)
        ∧ (¬ (s.tb.ppsInHave = true ∧ s.rd F.TB_PPSI_CFG_WIN_US * 4000 < ((s.quarters q.val : Int) - (s.tb.ppsInAt + 4000000000)).natAbs) →
            t.rd F.TB_STATUS_PPS_IN_OK = 1 ∧ (Src.PPS_IN_LOSS, 0xFF) ∉ t.cl.conds))
  ∧ (∀ s : State, s.on F.TB_PPSI_CFG_EN = true → s.tb.ppsInAt + 6000000000 ≤ s.quarters 0 →
      ∃ t, exec .ppsInLoss s = .next t ∧ t.rd F.TB_PPSI_CNT_MISS = min (s.rd F.TB_PPSI_CNT_MISS + 1) 0xFFFF
        ∧ t.rd F.TB_STATUS_PPS_IN_OK = 0 ∧ (Src.PPS_IN_LOSS, 0xFF) ∈ t.cl.conds
        ∧ s.keepsRegs t [F.TB_PPSI_CNT_MISS, F.TB_STATUS_PPS_IN_OK]
        ∧ t = { s with regs := t.regs, tb := { s.tb with ppsInAt := s.quarters 0, ppsInHave := false }, cl := t.cl })
  ∧ (∀ (pin : Fin 2) (rising : Bool) (q : Fin 8) (s : State),
      let sel := s.rd (if pin.val = 0 then F.TB_TIN0_CFG_EDGE else F.TB_TIN1_CFG_EDGE)
      let ok := s.on (if pin.val = 0 then F.TB_TIN0_CFG_EN else F.TB_TIN1_CFG_EN) = true ∧ (2 ≤ sel ∨ (sel = 0 ↔ rising = true))
      let fifo := if pin.val = 0 then s.tb.tin0 else s.tb.tin1
      let far := (if pin.val = 0 then s.tb.tinLast0 else s.tb.tinLast1).all (fun l => decide (l + 32 ≤ s.tb.mono * 4 + q.val))
      let tb := if pin.val = 0 then { s.tb with tinLast0 := some (s.tb.mono * 4 + q.val) } else { s.tb with tinLast1 := some (s.tb.mono * 4 + q.val) }
      (¬ ok → exec (.tinEdge pin rising q) s = .next s)
      ∧ (ok → far = true → fifo.length < 16 → exec (.tinEdge pin rising q) s = .next { s with tb :=
          if pin.val = 0 then { tb with tin0 := fifo ++ [s.stampQ q.val] } else { tb with tin1 := fifo ++ [s.stampQ q.val] } })
      ∧ (ok → far = false ∨ 16 ≤ fifo.length → exec (.tinEdge pin rising q) s = .next
          { (s.inc (if pin.val = 0 then F.TB_TIN0_STAT_OVF else F.TB_TIN1_STAT_OVF)).raise Src.TIN_OVF pin.val none 0 with tb := tb }))
  ∧ (∀ (m : Nat) (pin : Fin 2) (s : State), s.gives m (0x20148 + 0x20 * pin.val) →
      let fifo := if pin.val = 0 then s.tb.tin0 else s.tb.tin1
      ∃ t, exec (.tinFifoPop m pin) s = .next t ∧ t.readData = [BitVec.ofNat 32 (fifo.headD ⟨0, 0⟩).ns.toNat]
        ∧ t = { s with tb := t.tb, readData := t.readData, latched := t.latched }
        ∧ t.tb = (if pin.val = 0 then { s.tb with tin0 := fifo.tail } else { s.tb with tin1 := fifo.tail })
        ∧ Sparse.get none t.latched (m * 2 ^ 24 + 0x2014C + 0x20 * pin.val) = some (BitVec.ofNat 32 ((fifo.headD ⟨0, 0⟩).ns.toNat / 2 ^ 32))
        ∧ Sparse.get none t.latched (m * 2 ^ 24 + 0x20150 + 0x20 * pin.val) = some (fifo.headD ⟨0, 0⟩).frac)
  ∧ (∀ (err : Int) (s : State),
      (s.flwHears = false → exec (.followerMarker err) s = .next s)
      ∧ (s.flwHears = true → s.on F.TB_FLW_STAT_LOCK = false →
          ∃ t, exec (.followerMarker err) s = .next t ∧ t.rd F.TB_FLW_STAT_LOCK = 1 ∧ t.rd F.TB_FLW_STAT_ERR = 0
            ∧ t.tb = { s.tb with flwAt := s.tb.mono, flwOver := 0, flwEver := true } ∧ t = { s with regs := t.regs, tb := t.tb, kn := t.kn, ln := t.ln, wire := t.wire, bp := t.bp, cl := t.cl })
      ∧ (s.flwHears = true → s.on F.TB_FLW_STAT_LOCK = true → s.rd F.TB_FLW_CFG_UNLOCK_NS < err.natAbs → s.tb.flwOver = 2 →
          ∃ t, exec (.followerMarker err) s = .next t ∧ t.rd F.TB_FLW_STAT_LOCK = 0 ∧ t.rd F.TB_FLW_CNT = min (s.rd F.TB_FLW_CNT + 1) (2 ^ 32 - 1)
            ∧ (Src.TB_FOLLOWER_UNLOCK, 0xFF) ∈ t.cl.conds ∧ s.keepsRegs t [F.TB_FLW_STAT_LOCK, F.TB_FLW_STAT_ERR, F.TB_FLW_CNT])
      ∧ (s.flwHears = true → s.on F.TB_FLW_STAT_LOCK = true → s.rd F.TB_FLW_CFG_UNLOCK_NS < err.natAbs → s.tb.flwOver ≠ 2 →
          exec (.followerMarker err) s = .next { s.wr F.TB_FLW_STAT_ERR (ofSigned 16 err) with tb := { s.tb with flwAt := s.tb.mono, flwOver := s.tb.flwOver + 1 } })
      ∧ (s.flwHears = true → s.on F.TB_FLW_STAT_LOCK = true → err.natAbs ≤ s.rd F.TB_FLW_CFG_UNLOCK_NS →
          exec (.followerMarker err) s = .next { s.wr F.TB_FLW_STAT_ERR (ofSigned 16 err) with tb := { s.tb with flwAt := s.tb.mono, flwOver := 0 } }))
  ∧ (∀ s : State, s.on F.TB_FLW_STAT_LOCK = true → s.tb.flwAt + 10000 ≤ s.tb.mono →
      ∃ t, exec .followerMarkerTimeout s = .next t ∧ t.rd F.TB_FLW_STAT_LOCK = 0 ∧ t.rd F.TB_FLW_CNT = min (s.rd F.TB_FLW_CNT + 1) (2 ^ 32 - 1)
        ∧ (Src.TB_FOLLOWER_UNLOCK, 0xFF) ∈ t.cl.conds
        ∧ s.keepsRegs t [F.TB_FLW_STAT_LOCK, F.TB_FLW_CNT] ∧ t = { s with regs := t.regs, tb := { s.tb with flwOver := 0 }, cl := t.cl })
  ∧ (∀ (dirB : Bool) (e : FuEntry) (rest : List FuEntry) (s : State), (if dirB then s.tb.fuB else s.tb.fuA) = e :: rest →
      e.since + s.rd F.TB_TC_FU_TMO * 1000000 ≤ s.tb.mono →
      exec (.fuTimeout dirB) s = .next { s.inc F.TB_TC_CNT_FU_MISS with tb := if dirB then { s.tb with fuB := rest } else { s.tb with fuA := rest } })
  ∧ (∀ (n : Fin 8) (s : State), s.on F.TB_CTRL_PTP_EN = true → bits (s.rd F.TB_FPTP_CFG_PORT_EN) n.val 1 = 1 →
      Sparse.get 0 s.tb.nextSync n.val ≤ s.dt →
      ∃ t, exec (.fieldSyncTx n) s = .next t ∧ Sparse.get 0 t.tb.nextSync n.val = s.dt + s.syncInterval
        ∧ (∀ k, k < 8 → k ≠ n.val → Sparse.get 0 t.tb.nextSync k = Sparse.get 0 s.tb.nextSync k) ∧ t.tb = { s.tb with nextSync := t.tb.nextSync }
        ∧ t.kn = s.kn ∧ t.wire = s.wire)

/-- R79, R80, R83, R84: what a configuration change of a port list does and when it is refused. The change time is the administrative base, or
the first later boundary of the administrative list, that is not earlier than now plus the preparation lead. Where the manual leaves a
point open it states the model's choice: log entry 28 (DEDUCED). -/
def Obligations.ConfigurationChangeTime : Prop :=
  ∀ (m : Nat) (p : Fin 10) (s : State), s.accepts m (0x60400 + 0x80 * p.val) permW →
    ((s.cfgPending p.val = true ∨ s.on (F.KN_Pn_STATUS_ADMIN_BUSY p.val) = true) →
      exec (.cfgChange m p) s = .next ((((s.wr (F.KN_Pn_STATUS_CFG_ERR p.val) 8).wr (F.KN_Pn_STATUS_CFG_ERR_SEEN p.val) 1).inc
        (F.KN_Pn_ADMIN_REJ p.val)).raise Src.KN_ADMIN_LOCKED p.val none 0))
    ∧ (s.cfgPending p.val = false → s.on (F.KN_Pn_STATUS_ADMIN_BUSY p.val) = false → s.cfgCode p.val ≠ 0 →
      exec (.cfgChange m p) s = .next (((s.wr (F.KN_Pn_STATUS_CFG_ERR p.val) (s.cfgCode p.val)).wr (F.KN_Pn_STATUS_CFG_ERR_SEEN p.val) 1).raise
        Src.KN_CFG_ERR p.val none (s.cfgCode p.val)))
    ∧ (s.cfgPending p.val = false → s.on (F.KN_Pn_STATUS_ADMIN_BUSY p.val) = false → s.cfgCode p.val = 0 →
      ∃ (t : State) (c : Int), exec (.cfgChange m p) s = .next t ∧ t.cfgPending p.val = true
        ∧ t.rd64 (F.KN_Pn_CHG_TIME_LO p.val) (F.KN_Pn_CHG_TIME_HI p.val) = ofSigned 64 c
        ∧ (if (s.dt : Int) + listLead p.val ≤ s.adminBase p.val then c = s.adminBase p.val
          else (s.dt : Int) + listLead p.val ≤ c ∧ c < (s.dt : Int) + listLead p.val + s.rd (F.KN_Pn_ADMIN_CYCLE p.val)
            ∧ (c - s.adminBase p.val) % s.rd (F.KN_Pn_ADMIN_CYCLE p.val) = 0)
        ∧ t = { s with regs := t.regs, tb := { s.tb with reep := t.tb.reep }, kn := { s.kn with ports := t.kn.ports } }
        ∧ s.keepsRegs t [F.KN_Pn_STATUS_CFG_PENDING p.val, F.KN_Pn_CTRL_CFG_CHANGE p.val, F.KN_Pn_CHG_TIME_LO p.val, F.KN_Pn_CHG_TIME_HI p.val])
    ∧ (s.cfgPending p.val = true → (s.dt : Int) < s.chgTime p.val - 1000 →
      ∃ t, exec (.cfgAbort m p) s = .next t ∧ t.cfgPending p.val = false
        ∧ t = { s with regs := t.regs, tb := { s.tb with reep := t.tb.reep }, kn := { s.kn with ports := t.kn.ports } }
        ∧ s.keepsRegs t [F.KN_Pn_STATUS_CFG_PENDING p.val, F.KN_Pn_CTRL_CFG_CHANGE p.val] ∧ ((s.knPort p.val).running = true → (t.knPort p.val).running = true))
    ∧ (¬ (s.cfgPending p.val = true ∧ (s.dt : Int) < s.chgTime p.val - 1000) →
      exec (.cfgAbort m p) s = .next (s.inc (F.KN_Pn_ADMIN_REJ p.val)))

/-- R79: a copy passes the checks exactly when none of the codes 1 to 6 applies. -/
def Obligations.AdministrativeCopyChecks : Prop :=
  ∀ (p : Fin 10) (s : State), s.cfgCode p.val = 0 ↔
    (0 < s.rd (F.KN_Pn_ADMIN_LEN p.val) ∧ s.rd (F.KN_Pn_ADMIN_LEN p.val) ≤ listMax p.val
    ∧ listMinI p.val ≤ s.rd (F.KN_Pn_ADMIN_CYCLE p.val)
    ∧ (∀ i, i < s.rd (F.KN_Pn_ADMIN_LEN p.val) →
        listMinI p.val ≤ leInterval (s.adminEntry p.val i)
        ∧ leOp (s.adminEntry p.val i) ≠ 3
        ∧ (leOp (s.adminEntry p.val i) ≠ 0 → s.on (F.KN_Pn_CTRL_HR_EN p.val) = true)
        ∧ (leQuiet (s.adminEntry p.val i) = true → leGates (s.adminEntry p.val i) &&& s.rd (F.KN_Pn_SCHED_MASK p.val) = 0))
    ∧ s.rd (F.KN_Pn_ADMIN_EXT p.val) < s.rd (F.KN_Pn_ADMIN_CYCLE p.val))

/-- R78, R81, R82: at the change time the two copies of a port's list exchange roles, and with GATE_EN in force the new list begins, or the
gates stop where GATE_EN has been written 0; the copy back; and what a write of GATE_EN does: at once where no list runs, otherwise only
in the register. Where the manual leaves a point open it states the model's choice: log entries 28 (DEDUCED), 83 (DESIGN CHOICE). -/
def Obligations.ListExchangeAndGateEnable : Prop :=
  (∀ (p : Fin 10) (s : State), s.cfgPending p.val = true → s.chgTime p.val ≤ s.gateDt p.val →
      Sparse.wf 0 s.kn.admin = true → Sparse.wf 0 s.kn.oper = true →
      ∃ t, exec (.configChangeTime p) s = .next t ∧ t.cfgPending p.val = false
        ∧ t.rd (F.KN_Pn_CHG_CNT p.val) = min (s.rd (F.KN_Pn_CHG_CNT p.val) + 1) (2 ^ 32 - 1)
        ∧ t.rd (F.KN_Pn_STATUS_ADMIN_BUSY p.val) = 1 ∧ t.rd (F.KN_Pn_OPER_LEN p.val) = s.rd (F.KN_Pn_ADMIN_LEN p.val) % 2 ^ 13
        ∧ t.rd (F.KN_Pn_OPER_CYCLE p.val) = s.rd (F.KN_Pn_ADMIN_CYCLE p.val) ∧ t.operBase p.val = s.adminBase p.val
        ∧ (∀ i, i < 4096 → t.operEntry p.val i = s.adminEntry p.val i ∧ t.adminEntry p.val i = s.operEntry p.val i)
        ∧ (∀ q, q < 10 → q ≠ p.val → t.knPort q = s.knPort q
          ∧ ∀ i, i < 4096 → t.operEntry q i = s.operEntry q i ∧ t.adminEntry q i = s.adminEntry q i)
        ∧ ((s.knPort p.val).eff = false → (t.knPort p.val).running = false ∧ (t.knPort p.val).eff = false)
        ∧ ((s.knPort p.val).eff = true → s.on (F.KN_Pn_CTRL_GATE_EN p.val) = true →
          (t.knPort p.val).running = true ∧ (t.knPort p.val).last = s.chgTime p.val ∧ t.rd (F.KN_Pn_STATUS_CUR_ENTRY p.val) = 0
          ∧ t.rd (F.KN_Pn_STATUS_CUR_STATES p.val) = leGates (s.adminEntry p.val 0))
        ∧ ((s.knPort p.val).eff = true → s.on (F.KN_Pn_CTRL_GATE_EN p.val) = false →
          (t.knPort p.val).running = false ∧ (t.knPort p.val).eff = false ∧ t.rd (F.KN_Pn_STATUS_CUR_STATES p.val) = 0xFF)
        ∧ t.kn = { s.kn with admin := t.kn.admin, oper := t.kn.oper, ports := t.kn.ports }
        ∧ t = { s with regs := t.regs, tb := { s.tb with reep := t.tb.reep }, kn := t.kn, ms := { s.ms with lastK := t.ms.lastK } }
        ∧ s.keepsRegs t [F.KN_Pn_STATUS_CFG_PENDING p.val, F.KN_Pn_CTRL_CFG_CHANGE p.val, F.KN_Pn_CHG_CNT p.val, F.KN_Pn_STATUS_ADMIN_BUSY p.val,
          F.KN_Pn_SHORT_CNT p.val, F.KN_Pn_OPER_BASE_LO p.val, F.KN_Pn_OPER_BASE_HI p.val, F.KN_Pn_OPER_CYCLE p.val, F.KN_Pn_OPER_EXT p.val,
          F.KN_Pn_OPER_LEN p.val, F.KN_Pn_STATUS_CUR_ENTRY p.val, F.KN_Pn_STATUS_CUR_STATES p.val, F.KN_Pn_CYCLE_CNT p.val, F.KN_Pn_EVT_CNT p.val,
          F.KN_Pn_STATUS_HOLD p.val, F.LN_Pn_MM_STATUS_HOLD_ACTIVE p.val])
  ∧ (∀ (p : Fin 10) (s : State), s.on (F.KN_Pn_STATUS_ADMIN_BUSY p.val) = true → Sparse.wf 0 s.kn.admin = true → Sparse.wf 0 s.kn.oper = true →
      ∃ t, exec (.adminCopyDone p) s = .next t ∧ (∀ i, i < 4096 → t.adminEntry p.val i = s.operEntry p.val i)
        ∧ (∀ q, q < 10 → q ≠ p.val → ∀ i, i < 4096 → t.adminEntry q i = s.adminEntry q i)
        ∧ t = { s.wr (F.KN_Pn_STATUS_ADMIN_BUSY p.val) 0 with kn := { s.kn with admin := t.kn.admin } })
  ∧ (∀ (m : Nat) (p : Fin 10) (b : Bool) (s : State), s.accepts m (0x60400 + 0x80 * p.val) permW →
      ((s.knPort p.val).running = true ∨ (s.knPort p.val).eff = b →
        exec (.gateEnWrite m p b) s = .next (s.wr (F.KN_Pn_CTRL_GATE_EN p.val) b.toNat))
      ∧ ((s.knPort p.val).running = false → (s.knPort p.val).eff = true → b = false →
        ∃ t, exec (.gateEnWrite m p b) s = .next t ∧ t.rd (F.KN_Pn_STATUS_CUR_STATES p.val) = 0xFF
        ∧ t.cfgPending p.val = false ∧ t.rd (F.KN_Pn_STATUS_HOLD p.val) = 0 ∧ t.wireGates p.val = 0xFF
        ∧ t = { s with regs := t.regs, tb := { s.tb with reep := t.tb.reep }, kn := { s.kn with ports := t.kn.ports } }
        ∧ s.keepsRegs t [F.KN_Pn_CTRL_GATE_EN p.val, F.KN_Pn_STATUS_CUR_STATES p.val, F.KN_Pn_STATUS_CFG_PENDING p.val,
          F.KN_Pn_CTRL_CFG_CHANGE p.val, F.KN_Pn_STATUS_HOLD p.val, F.LN_Pn_MM_STATUS_HOLD_ACTIVE p.val])
      ∧ ((s.knPort p.val).running = false → (s.knPort p.val).eff = false → b = true → ∃ t, exec (.gateEnWrite m p b) s = .next t
        ∧ t.rd (F.KN_Pn_STATUS_CUR_STATES p.val) = s.rd (F.KN_Pn_ADMIN_STATES p.val) % 256
        ∧ (t.knPort p.val).startAt = (if s.cfgPending p.val = false ∧ 0 < s.operLen p.val then
            some (firstBoundary (s.operBase p.val) (s.rd (F.KN_Pn_OPER_CYCLE p.val)) ((s.dt : Int) + listLead p.val)) else none)
        ∧ t = { s with regs := t.regs, kn := { s.kn with ports := t.kn.ports } }
        ∧ s.keepsRegs t [F.KN_Pn_CTRL_GATE_EN p.val, F.KN_Pn_STATUS_CUR_STATES p.val]))

/-- R76, R78, R86, R87: a list entry that begins, of a running list and of one that starts, sets what the port shows of it; a GATE_EN of 0
stops the gates at the end of a cycle; hold and release requests; and the events that a field port's die is sent and applies. Where the
manual leaves a point open it states the model's choice: log entries 28 (DEDUCED), 29 (DEDUCED), 83 (DESIGN CHOICE). -/
def Obligations.GateEntriesAndFieldEvents : Prop :=
  (∀ (p : Fin 10) (k : Int) (i : Nat) (at_ : Int) (s : State), (s.knPort p.val).running = true →
      (s.sched p.val).next (s.knPort p.val).last = some (k, i, at_) →
      (at_ ≤ s.gateDt p.val → s.on (F.KN_Pn_CTRL_GATE_EN p.val) = true →
        ∃ t, exec (.gateEntryStart p) s = .next t ∧ t.rd (F.KN_Pn_STATUS_CUR_ENTRY p.val) = i % 2 ^ 13
          ∧ t.rd (F.KN_Pn_STATUS_CUR_STATES p.val) = leGates (s.operEntry p.val i)
          ∧ t.rd (F.KN_Pn_CYCLE_CNT p.val) = (k % (2 ^ 32 : Nat)).toNat ∧ (t.knPort p.val).last = at_
          ∧ t = { s with regs := t.regs, kn := { s.kn with ports := t.kn.ports } }
          ∧ s.keepsRegs t [F.KN_Pn_SHORT_CNT p.val, F.KN_Pn_STATUS_CUR_ENTRY p.val, F.KN_Pn_STATUS_CUR_STATES p.val, F.KN_Pn_CYCLE_CNT p.val,
            F.KN_Pn_EVT_CNT p.val])
      ∧ (∀ b, s.gateEnds p.val = some b → b ≤ at_ →
        ∃ t, exec (.gateEntryStart p) s = .next t ∧ (t.knPort p.val).eff = false ∧ (t.knPort p.val).running = false
          ∧ t.rd (F.KN_Pn_STATUS_CUR_STATES p.val) = 0xFF ∧ t.wireGates p.val = 0xFF ∧ t.cfgPending p.val = false
          ∧ t = { s with regs := t.regs, tb := { s.tb with reep := t.tb.reep }, kn := { s.kn with ports := t.kn.ports } }
          ∧ s.keepsRegs t [F.KN_Pn_SHORT_CNT p.val, F.KN_Pn_STATUS_CUR_STATES p.val, F.KN_Pn_STATUS_CFG_PENDING p.val,
            F.KN_Pn_CTRL_CFG_CHANGE p.val, F.KN_Pn_STATUS_HOLD p.val, F.LN_Pn_MM_STATUS_HOLD_ACTIVE p.val]))
  ∧ (∀ (p : Fin 10) (b : Int) (s : State), (s.knPort p.val).startAt = some b → b ≤ s.gateDt p.val →
      ∃ t, exec (.listStart p) s = .next t ∧ (t.knPort p.val).running = true ∧ t.rd (F.KN_Pn_STATUS_CUR_ENTRY p.val) = 0
        ∧ t.rd (F.KN_Pn_STATUS_CUR_STATES p.val) = leGates (s.operEntry p.val 0) ∧ (t.knPort p.val).last = b
        ∧ t = { s with regs := t.regs, tb := { s.tb with reep := t.tb.reep }, kn := { s.kn with ports := t.kn.ports } }
        ∧ s.keepsRegs t [F.KN_Pn_SHORT_CNT p.val, F.KN_Pn_STATUS_CUR_ENTRY p.val, F.KN_Pn_STATUS_CUR_STATES p.val, F.KN_Pn_CYCLE_CNT p.val,
          F.KN_Pn_EVT_CNT p.val])
  ∧ (∀ (p : Fin 10) (at_ : Int) (s : State), s.fieldLocked p.val = true →
      (s.nextHr p.val 1 (s.hrFrom p.val (s.knPort p.val).lastHold) = some at_ → at_ ≤ s.gateDt p.val + s.rd (F.KN_Pn_HOLD_ADV p.val) →
        ∃ t, exec (.holdRequest p) s = .next t ∧ t.rd (F.KN_Pn_STATUS_HOLD p.val) = 1 ∧ t.rd (F.LN_Pn_MM_STATUS_HOLD_ACTIVE p.val) = 1
          ∧ t.rd (F.LN_Pn_HOLD_CNT p.val) = min (s.rd (F.LN_Pn_HOLD_CNT p.val) + 1) (2 ^ 32 - 1) ∧ (t.knPort p.val).lastHold = at_
          ∧ ((s.lnPort p.val).wire = none →
            s.keepsRegs t [F.KN_Pn_STATUS_HOLD p.val, F.LN_Pn_MM_STATUS_HOLD_ACTIVE p.val, F.LN_Pn_HOLD_CNT p.val]
            ∧ t = { s with regs := t.regs, kn := { s.kn with ports := t.kn.ports } }))
      ∧ (s.nextHr p.val 2 (s.hrFrom p.val (s.knPort p.val).lastRel) = some at_ → at_ ≤ s.gateDt p.val + s.rd (F.KN_Pn_REL_ADV p.val) →
        exec (.releaseRequest p) s = .next (((s.setKnPort p.val { s.knPort p.val with lastRel := at_ }).wr (F.KN_Pn_STATUS_HOLD p.val) 0).wr
          (F.LN_Pn_MM_STATUS_HOLD_ACTIVE p.val) 0)))
  ∧ (∀ (n : Fin 8) (at_ : Int) (e : DWord) (s : State), (s.knPort (n.val + 2)).eff = true →
      s.planNext (n.val + 2) (max (s.knPort (n.val + 2)).lastSent (s.knPort (n.val + 2)).last) (fun _ => true) = some (at_, e) →
      at_ ≤ (s.dt : Int) + 25000 →
      exec (.fieldGateEventSend n) s = .next (s.setKnPort (n.val + 2) { s.knPort (n.val + 2) with
        lastSent := at_, fdQ := (s.knPort (n.val + 2)).fdQ ++ [(at_, leGates e)] }))
  ∧ (∀ (n : Fin 8) (at_ : Int) (g : Nat) (rest : List (Int × Nat)) (s : State), (s.knPort (n.val + 2)).fdQ = (at_, g) :: rest →
      s.on F.TB_FLW_STAT_LOCK = true → at_ ≤ (s.dt : Int) →
      exec (.fieldGateEventApply n) s = .next ((s.setKnPort (n.val + 2) { s.knPort (n.val + 2) with fdQ := rest, fdStates := g }).inc
        (F.KN_Pn_EVT_CNT (n.val + 2))))

/-- R78, R80, R82, R84, R90, R91, R92, R104: what ENABLE, DISABLE, CFG_CHANGE and ABORT do to a stream gate and to its KN_SG_STAT, its change
time, the event that begins a gate's list, in time and late, and a pool entry written through the memory window of KILN. Where the manual
leaves a point open it states the model's choice: log entries 12 (DEDUCED), 28 (DEDUCED), 29 (DEDUCED), 83 (DESIGN CHOICE). -/
def Obligations.StreamGatesAndWindow : Prop :=
  (∀ (m : Nat) (g : BitVec 10) (s : State), s.accepts m 0x60100 permW →
    ((s.sg g.toNat).enabled = false →
        exec (.sgEnable m g) s = .next (((s.wr F.KN_SG_STAT_GATE g.toNat).wr F.KN_SG_STAT_ERR 0).setSg g.toNat { s.sg g.toNat with
          enabled := true, running := false,
          startAt := if (s.sg g.toNat).pending = false ∧ 0 < bits (s.sgO g.toNat 2) 16 13 then
            some (firstBoundary (s.sgBaseO g.toNat) (bits (s.sgO g.toNat 1) 0 32) ((s.dt : Int) + 2000)) else none }))
    ∧ ((s.sg g.toNat).enabled = true →
        exec (.sgEnable m g) s = .next ((s.wr F.KN_SG_STAT_GATE g.toNat).wr F.KN_SG_STAT_ERR 0))
    ∧ (∃ t, exec (.sgDisable m g) s = .next t ∧ (t.sg g.toNat).enabled = false ∧ (t.sg g.toNat).running = false
        ∧ (t.sg g.toNat).startAt = none ∧ (t.sg g.toNat).pending = (s.sg g.toNat).pending ∧ (t.sgView g.toNat s.dt).1 = (bits (if
          bits (s.sgO g.toNat 2) 16 13 = 0 then s.sgA g.toNat 2 else s.sgO g.toNat 2) 32 1 == 1)
        ∧ (∀ h, h < 1024 → h ≠ g.toNat → t.sg h = s.sg h)
        ∧ t = { s with regs := t.regs, kn := { s.kn with sgs := t.kn.sgs } } ∧ s.keepsRegs t [F.KN_SG_STAT_GATE, F.KN_SG_STAT_ERR]
        ∧ t.rd F.KN_SG_STAT_GATE = g.toNat ∧ t.rd F.KN_SG_STAT_ERR = 0)
    ∧ ((s.sg g.toNat).pending = true → exec (.sgCfgChange m g) s = .next (((((s.wr F.KN_SG_STAT_GATE g.toNat).wr F.KN_SG_STAT_ERR 8).wr
        F.KN_SG_STAT_ERR_SEEN 1).inc F.KN_SG_REJ).raise0 Src.KN_ADMIN_LOCKED g.toNat))
    ∧ ((s.sg g.toNat).pending = false → s.sgCode g.toNat ≠ 0 → exec (.sgCfgChange m g) s = .next ((((s.wr F.KN_SG_STAT_GATE g.toNat).wr
        F.KN_SG_STAT_ERR (s.sgCode g.toNat)).wr F.KN_SG_STAT_ERR_SEEN 1).raise0 Src.KN_CFG_ERR (s.sgCode g.toNat)))
    ∧ ((s.sg g.toNat).pending = false → s.sgCode g.toNat = 0 →
        ∃ (t : State) (c : Int), exec (.sgCfgChange m g) s = .next t
        ∧ t = ((s.wr F.KN_SG_STAT_GATE g.toNat).wr F.KN_SG_STAT_ERR 0).setSg g.toNat { s.sg g.toNat with
          pending := true, cctAt := s.dt, startAt := none, cct := c }
        ∧ (s.dt : Int) + 2000 ≤ c ∧ (c - s.sgBaseA g.toNat) % bits (s.sgA g.toNat 1) 0 32 = 0)
    ∧ ((s.sg g.toNat).pending = true → (s.dt : Int) < (s.sg g.toNat).cct - 1000 →
        exec (.sgAbort m g) s = .next (((s.wr F.KN_SG_STAT_GATE g.toNat).wr F.KN_SG_STAT_ERR 0).setSg g.toNat { s.sg g.toNat with
          pending := false,
          startAt := if (s.sg g.toNat).enabled = true ∧ (s.sg g.toNat).running = false ∧ 0 < bits (s.sgO g.toNat 2) 16 13 then
            some (firstBoundary (s.sgBaseO g.toNat) (bits (s.sgO g.toNat 1) 0 32) ((s.dt : Int) + 2000)) else (s.sg g.toNat).startAt }))
    ∧ (¬ ((s.sg g.toNat).pending = true ∧ (s.dt : Int) < (s.sg g.toNat).cct - 1000) →
        exec (.sgAbort m g) s = .next (((s.wr F.KN_SG_STAT_GATE g.toNat).wr F.KN_SG_STAT_ERR 0).inc F.KN_SG_REJ)))
  ∧ (∀ (g : BitVec 10) (s : State), (s.sg g.toNat).pending = true → (s.sg g.toNat).cct ≤ (s.dt : Int) →
      ∃ t, exec (.sgCct g) s = .next t ∧ (t.sg g.toNat).pending = false ∧ (∀ n, n < 3 → t.sgO g.toNat n = s.sgA g.toNat n)
        ∧ (t.sg g.toNat).startAt = (if (s.sg g.toNat).enabled = true then some (s.sg g.toNat).cct else none)
        ∧ t = { s with kn := { s.kn with sgOper := t.kn.sgOper, sgs := t.kn.sgs } }
        ∧ (∀ h, h < 1024 → h ≠ g.toNat → t.sg h = s.sg h ∧ ∀ n, n < 4 → t.sgO h n = s.sgO h n))
  ∧ (∀ (g : BitVec 10) (b : Int) (s : State), s.on F.KN_CTRL_SG_EN = true → (s.sg g.toNat).enabled = true → (s.sg g.toNat).startAt = some b →
      s.kn.sgAt = none → b ≤ (s.dt : Int) →
      (s.dt ≤ b + 2 → ∃ t, exec (.streamGateEvent g) s = .next t ∧ (t.sg g.toNat).running = true ∧ (t.sg g.toNat).last = b
          ∧ (t.sg g.toNat).startAt = none ∧ (t.sg g.toNat).ent = 0 ∧ (t.sg g.toNat).octets = 0
          ∧ (∀ h, h < 1024 → h ≠ g.toNat → t.sg h = s.sg h)
          ∧ t = { s with kn := { s.kn with sgs := t.kn.sgs, sgAt := some s.tb.mono } })
      ∧ (b + 2 < s.dt → ∃ t, exec (.streamGateEvent g) s = .next t ∧ t.rd F.KN_SG_LATE = min (s.rd F.KN_SG_LATE + 1) (2 ^ 32 - 1)
          ∧ t.cl.inbox = s.cl.inbox ++ [⟨Src.KN_SG_LATE, 0xFF, none, g.toNat, false⟩]
          ∧ t = { s.inc F.KN_SG_LATE with kn := t.kn, cl := t.cl }))
  ∧ (∀ (m : Nat) (hi : Word) (s : State), s.accepts m 0x6001C permW → s.rd F.KN_MSEL = 2 → s.poolUsed (s.rd F.KN_MADDR) = false →
      exec (.knMdataWrite m hi) s = .next { s.wr F.KN_MADDR (s.rd F.KN_MADDR + 1) with
        kn := { s.kn with
          pool := Sparse.put 0 s.kn.pool (s.rd F.KN_MADDR) (BitVec.ofNat 64 (s.heldLow m 0x60018 + 2 ^ 32 * hi.toNat) &&& 0x00FFFF1FFFFFFFFF) },
        loHeld := Sparse.put none s.loHeld (m * 2 ^ 24 + 0x60018) none })

/-- R94, R95, R97, R100: a submission of a timed action that is refused as bad or for want of an entry, or taken; a cancellation of an entry
that is not there, is another master's or is the master's own; the one occurrence in time of a TOUT action that no queue has submitted,
permitted or denied; and an edge that reaches its TOUT pad. Where the manual leaves a point open it states the model's choice: log entries
26 (DESIGN CHOICE), 29 (DEDUCED), 30 (DEDUCED), 77 (DEDUCED). -/
def Obligations.TimedActions : Prop :=
  (∀ (m : Nat) (s : State), s.accepts m 0x60060 permW →
    (let u := s.taStaged m
     (u.kind = 0 ∨ (u.kind = 1 ∧ u.addr % 4 ≠ 0) ∨ (0 < u.period ∧ u.period < 1000) →
        exec (.taSubmit m) s = .next ((s.wr (F.KN_TA_RESULT_FULL m) 0).wr (F.KN_TA_RESULT_BAD m) 1))
     ∧ (¬ (u.kind = 0 ∨ (u.kind = 1 ∧ u.addr % 4 ≠ 0) ∨ (0 < u.period ∧ u.period < 1000)) → s.taFree = none →
        exec (.taSubmit m) s = .next (((s.raise0 Src.KN_TA_FULL 0).wr (F.KN_TA_RESULT_FULL m) 1).wr (F.KN_TA_RESULT_BAD m) 0))
     ∧ (∀ i, ¬ (u.kind = 0 ∨ (u.kind = 1 ∧ u.addr % 4 ≠ 0) ∨ (0 < u.period ∧ u.period < 1000)) → s.taFree = some i →
        ∃ t, exec (.taSubmit m) s = .next t ∧ t.ta i = some { u with seq := s.kn.taSeq, passed := decide (u.dt < s.dt) } ∧ t.rd (F.KN_TA_RESULT_INDEX m) = i
          ∧ t.rd (F.KN_TA_RESULT_BAD m) = 0 ∧ t.rd F.KN_STATUS_TA_FREE = (s.rd F.KN_STATUS_TA_FREE - 1) % 2 ^ 13
          ∧ (∀ j, j < 4096 → j ≠ i → t.ta j = s.ta j)
          ∧ t = { s with regs := t.regs, kn := { s.kn with tas := t.kn.tas, taSeq := s.kn.taSeq + 1 } }
          ∧ s.keepsRegs t [F.KN_TA_RESULT_FULL m, F.KN_TA_RESULT_BAD m, F.KN_TA_RESULT_INDEX m, F.KN_STATUS_TA_FREE]))
    ∧ (∀ i : BitVec 12,
        (s.ta i.toNat = none → exec (.taCancel m i) s = .next (s.wr (F.KN_TA_RESULT_NOTFOUND m) 1))
        ∧ (∀ u, s.ta i.toNat = some u → u.owner ≠ m → m ≠ 0 → exec (.taCancel m i) s = .next (s.wr (F.KN_TA_RESULT_NOTFOUND m) 1))
        ∧ (∀ u, s.ta i.toNat = some u → u.owner = m ∨ m = 0 → u.queue = none →
            exec (.taCancel m i) s = .next (((s.setTa i.toNat none).wr F.KN_STATUS_TA_FREE (s.rd F.KN_STATUS_TA_FREE + 1)).wr (F.KN_TA_RESULT_NOTFOUND m) 0))))
  ∧ (∀ (i : Nat) (u : Ta) (s : State), s.on F.KN_CTRL_TA_EN = true → s.inReset 6 = false → s.taNext = some (i, u) → u.kind = 2 → u.queue = none →
      s.ta i = some u → u.period = 0 → s.taLate u = false →
      (s.may 2 u.owner permW = true → ∃ t, exec .taOccurrence s = .next t ∧ t.kn.edges = s.kn.edges ++ [(u.pad % 4, u.level, u.dt)]
        ∧ t.rd F.KN_TA_CNT = min (s.rd F.KN_TA_CNT + 1) (2 ^ 32 - 1) ∧ t.ta i = none
        ∧ s.keepsRegs t [F.KN_TA_CNT, F.KN_STATUS_TA_FREE] ∧ t = { s with regs := t.regs, kn := { s.kn with tas := t.kn.tas, edges := t.kn.edges } })
      ∧ (s.may 2 u.owner permW = false → ∃ t, exec .taOccurrence s = .next t ∧ t.kn.edges = s.kn.edges ∧ t.ta i = none
        ∧ t.rd F.KN_TA_REF = min (s.rd F.KN_TA_REF + 1) (2 ^ 32 - 1)
        ∧ ⟨Src.KN_TA_REFUSED, 0xFF, none, i, false⟩ ∈ t.cl.inbox
        ∧ t = { s with regs := t.regs, kn := { s.kn with tas := t.kn.tas }, cl := t.cl }))
  ∧ (∀ (n at_ : Nat) (level : Bool) (rest : List (Nat × Bool × Nat)) (s : State), s.kn.edges = (n, level, at_) :: rest → at_ ≤ s.dt + 2 → n < 4 →
      ∃ t, exec .toutEdge s = .next t ∧ t.kn.edges = rest ∧ bits t.tb.tout n 1 = level.toNat
        ∧ t = { s with tb := { s.tb with tout := t.tb.tout, toutPad := t.tb.toutPad }, kn := { s.kn with edges := rest }, wire := t.wire })

/-- R109, R115, R126: a timed work item without a chain of its own begins to be read at its lead before DT_L and not sooner; with its data in
the engine it becomes READY, or is discarded and counted when it is too long; and a timed item of a backbone port that has not started by
its DT_L plus 2 ns is late, once. Where the manual leaves a point open it states the model's choice: log entry 39 (DEDUCED). -/
def Obligations.LifeOfAWorkItem : Prop :=
  ∀ (i : Nat) (it : Item) (s : State), s.item i = some it →
    (∀ d, it.st = .wait → s.on F.LN_CTRL_EN = true → it.src ≠ 1027 → it.dtl = some d → it.chain = none →
      (d ≤ s.wireDt it.port + (if 2 ≤ it.port then 50000 else 200) → exec (.fetchStart i) s = .next (s.setItem i (some { it with st := .fetch })))
      ∧ (it.due = false → s.wireDt it.port + (if 2 ≤ it.port then 50000 else 200) < d → exec (.fetchStart i) s = .next s))
    ∧ (it.st = .fetch → it.chain = none → it.src ≠ 1027 → it.lso = none → it.arriving = false →
      (s.frameLen it ≤ s.maxFrame it.port → exec (.fetchDone i) s = .next (s.setItem i (some { it with st := .ready })))
      ∧ (s.maxFrame it.port < s.frameLen it → it.job = none →
          exec (.fetchDone i) s = .next (((s.inc (F.LN_Pn_TX_OVERSIZE it.port)).raise Src.LN_TX_OVERSIZE it.port none 0).setItem i none)))
    ∧ (∀ d, it.dtl = some d → it.seg = 0 → it.st = .ready → it.late = false → it.due = false → it.port < 2 → d + 2 < s.wireDt it.port →
      (it.lateDisc = false → exec (.jobLate i) s = .next ((s.raise Src.LN_LATE it.port none 0).setItem i (some { it with late := true })))
      ∧ (it.lateDisc = true → it.chain = none → it.job = none → exec (.jobLate i) s =
          .next (((s.raise Src.LN_LATE it.port none 0).inc (F.LN_Pn_LATE_DISC it.port)).setItem i none)))

/-- R110, R117, R121, R128, R244: the wire of a port. The only item of a port, an untimed whole frame that nothing holds back, goes on the
free wire, padded and with its FCS, and ends one byte time per byte later; when an unfragmented frame that no job or handle waits for has
ended, the gap of 12 byte times runs and the frame has left; and a port that does not transmit discards the timed item that has come due.
Where the manual leaves a point open it states the model's choice: log entry 39 (DEDUCED). -/
def Obligations.FramesOnTheWire : Prop :=
  (∀ (p : Fin 10) (i : Nat) (it : Item) (s : State), s.on F.LN_CTRL_EN = true → s.txUp p.val = true → (s.lnPort p.val).wire = none →
      (s.lnPort p.val).free ≤ s.now10 → s.ln.items = [(i, some it)] → it.st = .ready → it.port = p.val → it.dtl = none → it.lso = none → it.handle = none →
      it.pass = none → it.arriving = false → it.tagged = false → it.job = none → it.src ≠ 1024 → it.cls < 8 →
      (s.knPort p.val).eff = false → s.on (F.LN_Pn_CTRL_GUARD_EN p.val) = false → s.on (F.LN_Pn_MM_STATUS_HOLD_ACTIVE p.val) = false → s.ltOn = false →
      ∃ t, exec (.frameStart p) s = .next t
        ∧ (t.lnPort p.val).wire = some ⟨some i, false, s.now10, some (s.now10 + (8 + max 60 it.data.length + 4) * s.byteTime p.val), none⟩
        ∧ (t.item i).map (fun e => (e.st, e.out)) = some (.wire,
          (it.data ++ List.replicate (60 - it.data.length) 0) ++ fcs (it.data ++ List.replicate (60 - it.data.length) 0))
        ∧ t = { s with regs := t.regs, kn := t.kn, ln := t.ln, fd := t.fd, cl := t.cl, yieldAt := t.yieldAt })
  ∧ (∀ (p : Fin 10) (i stop start : Nat) (it : Item) (s : State), (s.lnPort p.val).wire = some ⟨some i, false, start, some stop, none⟩ → stop ≤ s.now10 →
      s.item i = some it → it.port = p.val → it.cutOnce = false → it.bad = false → it.lso = none → it.job = none → it.chain = none → it.handle = none →
      ∃ t, exec (.frameEnd p) s = .next t ∧ (t.lnPort p.val).wire = none ∧ (t.lnPort p.val).free = stop + 12 * s.byteTime p.val
        ∧ t.item i = none ∧ t.wire = s.wire ++ [.frame p.val it.out false]
        ∧ t = { s with regs := t.regs, lt := t.lt, ln := t.ln, bp := { s.bp with loop := t.bp.loop }, fd := t.fd, cl := t.cl, wire := t.wire }
        ∧ (s.loops p.val = false → t.bp.loop = s.bp.loop))
  ∧ (∀ (p : Fin 10) (i d : Nat) (it : Item) (s : State), s.on F.LN_CTRL_EN = true → s.txUp p.val = false → s.ln.items = [(i, some it)] → it.port = p.val →
      it.st = .ready → it.dtl = some d → d ≤ s.wireDt p.val → it.job = none → it.chain = none →
      ∃ t, exec (.frameStart p) s = .next t ∧ t.item i = none ∧ t.rd (F.LN_Pn_ABORT p.val) = min (s.rd (F.LN_Pn_ABORT p.val) + 1) (2 ^ 32 - 1)
        ∧ s.keepsRegs t [F.LN_Pn_ABORT p.val, F.LN_STATUS_WT_USED, F.LN_WT_HWM] ∧ t = { s with regs := t.regs, ln := { s.ln with items := t.ln.items } })

/-- R116, R120, R459, R531: a VERIFY_TIME that runs out; a respond and a verify mPacket that reach a port which is not in loopback; an mPacket
with an unknown SMD, a first fragment that is whole, and a continuation out of its order while no frame is being looked at; the mPackets
that a port sends when one fits; and VERIFY_RESTART. Where the manual leaves a point open it states the model's choice: log entry 40
(DEDUCED). -/
def Obligations.PreemptionAndFragments : Prop :=
  (∀ (p : Fin 10) (s : State), s.rd (F.LN_Pn_MM_STATUS_VERIFY_STATE p.val) = 2 → 0 < (s.lnPort p.val).sentV → (s.lnPort p.val).pendV = false →
      (s.lnPort p.val).atV + max 1 (min 128 (s.rd (F.LN_Pn_VERIFY_VERIFY_TIME p.val))) * 1000000 ≤ s.tb.mono →
      exec (.verifyTimeout p) s = .next (if (s.lnPort p.val).sentV < 3 then s.setLnPort p.val { s.lnPort p.val with pendV := true }
        else ((s.wr (F.LN_Pn_MM_STATUS_VERIFY_STATE p.val) 4).inc (F.LN_Pn_VERIFY_FAIL p.val)).raise Src.LN_VERIFY_FAIL p.val none 0))
  ∧ (∀ (p : Fin 10) (s : State), s.linkUp p.val = true → s.loops p.val = false →
      (s.rd (F.LN_Pn_MM_STATUS_VERIFY_STATE p.val) = 2 → s.on (F.LN_Pn_CTRL_TX_EN p.val) = true → s.on (F.LN_Pn_CTRL_PREEMPT_EN p.val) = true →
        exec (.respondReceived p) s = .next (((s.wr (F.LN_Pn_MM_STATUS_VERIFY_STATE p.val) 3).setLnPort p.val { s.lnPort p.val with pendV := false }).wr
          (F.LN_Pn_MM_STATUS_PREEMPT_ACTIVE p.val) 1))
      ∧ (s.rd (F.LN_Pn_MM_STATUS_VERIFY_STATE p.val) ≠ 0 →
        exec (.verifyReceived p) s = .next (s.setLnPort p.val { s.lnPort p.val with pendR := true }))
      ∧ (∀ (final : Bool) (data : List Byte) (ago : Nat),
        exec (.fragmentReceived p .unknown final data ago) s = .next (s.inc (F.LN_Pn_RX_SMD_ERR p.val)))
      ∧ (∀ (data : List Byte) (ago : Nat), (s.lnPort p.val).asm = none → 64 ≤ data.length →
        data.drop (data.length - 4) = mcrc (data.take (data.length - 4)) →
        exec (.fragmentReceived p .start false data ago) s = .next ((s.inc (F.LN_Pn_RX_FRAG p.val)).setLnPort p.val { s.lnPort p.val with
          asm := some (data.take (data.length - 4), 0) }))
      ∧ (∀ (n : Nat) (data sofar : List Byte) (next ago : Nat), (s.lnPort p.val).asm = some (sofar, next) → n ≠ next → s.rxOf (rxSlot p.val true) = none →
        exec (.fragmentReceived p (.cont n) false data ago) s = .next ((((s.inc (F.LN_Pn_RX_FRAG p.val)).inc (F.LN_Pn_RX_ASM_ERR p.val)).raise
          Src.LN_RX_ASM p.val none 0).setLnPort p.val { s.lnPort p.val with asm := none })))
  ∧ (∀ (p : Fin 10) (s : State), s.mpacketFits p.val = true →
      ((s.lnPort p.val).pendR = true →
        exec (.mpacketSend p) s = .next ((s.setLnPort p.val { s.lnPort p.val with
          wire := some ⟨none, true, s.now10, some (s.now10 + 72 * s.byteTime p.val), none⟩, pendR := false }).emit (.mpacket p.val true)))
      ∧ ((s.lnPort p.val).pendR = false → (s.lnPort p.val).pendV = true →
        exec (.mpacketSend p) s = .next ((s.setLnPort p.val { s.lnPort p.val with
          wire := some ⟨none, false, s.now10, some (s.now10 + 72 * s.byteTime p.val), none⟩, pendV := false,
          sentV := (s.lnPort p.val).sentV + 1, atV := s.tb.mono }).emit (.mpacket p.val false))))
  ∧ (∀ (m : Nat) (p : Fin 10) (s : State), s.accepts m (0x70400 + 0x80 * p.val) permW → s.rd (F.LN_Pn_MM_STATUS_VERIFY_STATE p.val) = 4 →
      exec (.verifyRestart m p) s = .next (if s.linkUp p.val = true then
        (s.wr (F.LN_Pn_MM_STATUS_VERIFY_STATE p.val) 2).setLnPort p.val { s.lnPort p.val with pendV := true, sentV := 0 }
        else s.wr (F.LN_Pn_MM_STATUS_VERIFY_STATE p.val) 1))

/-- R234, R239, R240, R242, R259: a slot of the wheel grants its due shapers, at most 32, the rest slip; an entry moves down one level at a
time; CREDIT_OK of a class whose credit is not negative is set; and through the window a queue's binding and a part of a record are
written and a number beyond the port bindings is refused. Where the manual leaves a point open it states the model's choice: log entries
12 (DEDUCED), 38 (DEDUCED). -/
def Obligations.ShapersAndTheWheel : Prop :=
  (∀ s : State, s.lt.slot ≠ s.dt / 32 + 1 →
    ∃ t, exec .shaperGrant s = .next t ∧ t.lt.slot = s.dt / 32 + 1
      ∧ (∀ i, i < 4096 → t.shp i =
        if i ∈ (s.shDue (s.dt / 32 * 32)).take 32 then { s.shp i with elig := none, lvl := 0 } else s.shp i)
      ∧ t.rd F.LT_WHEEL_SLIP = min (s.rd F.LT_WHEEL_SLIP + ((s.shDue (s.dt / 32 * 32)).length - 32)) (2 ^ 32 - 1)
      ∧ t = { s with regs := t.regs, lt := { s.lt with slot := t.lt.slot, shps := t.lt.shps } }
      ∧ s.keepsRegs t [F.LT_STATUS_ON_WHEEL, F.LT_WHEEL_SLIP])
  ∧ (∀ s : State, ∃ t, exec .wheelMigrate s = .next t ∧ t = { s with lt := { s.lt with shps := t.lt.shps } }
      ∧ ∀ i, i < 4096 →
        ((s.shp i).lvl ≤ 1 → t.shp i = s.shp i)
        ∧ (∀ e, (s.shp i).elig = some e →
          ((s.shp i).lvl = 2 → t.shp i = { s.shp i with lvl := if s.eligDt e / 8192 ≤ s.dt / 8192 + 1 then 1 else 2 })
          ∧ ((s.shp i).lvl = 3 → t.shp i = { s.shp i with lvl := if s.eligDt e / 2097152 ≤ s.dt / 2097152 + 1 then 2 else 3 })
          ∧ ((s.shp i).lvl = 4 → t.shp i = { s.shp i with lvl := if e - s.tb.mono < 536870912 then 3 else 4 })))
  ∧ (∀ (p : Fin 10) (c : Fin 8) (s : State), 0 ≤ s.credit p.val c.val →
      exec (.cbsCreditRestored p c) s = .next (s.wr (F.LT_Pn_STATUS_CREDIT_OK p.val) (putBits (s.rd (F.LT_Pn_STATUS_CREDIT_OK p.val)) c.val 1 1)))
  ∧ (∀ (m : Nat) (hi : Word) (s : State), s.accepts m 0xA001C permW → s.on F.LT_STATUS_WIPING = false →
      (s.rd F.LT_MSEL = 1 → s.rd F.LT_MADDR < 1024 →
        exec (.ltMdataWrite m hi) s = .next { s.wr F.LT_MADDR (s.rd F.LT_MADDR + 1) with
          lt := { s.lt with qbind := Sparse.put 0 s.lt.qbind (s.rd F.LT_MADDR) ((s.heldLow m 0xA0018 + 2 ^ 32 * hi.toNat) &&& 0x80000FFF) },
          loHeld := Sparse.put none s.loHeld (m * 2 ^ 24 + 0xA0018) none })
      ∧ (s.rd F.LT_MSEL = 0 → s.rd F.LT_MADDR % 4 < 3 →
        exec (.ltMdataWrite m hi) s = .next { s.wr F.LT_MADDR (s.rd F.LT_MADDR + 1) with
          lt := { s.lt with part := Sparse.put none s.lt.part (s.rd F.LT_MADDR) (some (BitVec.ofNat 64 (s.heldLow m 0xA0018 + 2 ^ 32 * hi.toNat))) },
          loHeld := Sparse.put none s.loHeld (m * 2 ^ 24 + 0xA0018) none })
      ∧ (s.rd F.LT_MSEL = 2 → 16 ≤ s.rd F.LT_MADDR →
        exec (.ltMdataWrite m hi) s = .next { (s.wr F.LT_STATUS_WIN_REJ 1).wr F.LT_MADDR (s.rd F.LT_MADDR + 1) with
          loHeld := Sparse.put none s.loHeld (m * 2 ^ 24 + 0xA0018) none }))

/-- R246, R247, R248, R249, R532: a PAUSE frame pauses the pausable classes of its port for its quanta, cut to PAUSE_MAX; a PFC frame for one
priority pauses the pausable class that it maps to where no PAUSE_MAX cuts it; a port that does not take them counts and ignores them; a
pause time runs out; a queue is paused by command, by its number or as a VF's own, but by none while LAUTER wipes, and its pause runs out.
Where the manual leaves a point open it states the model's choice: log entry 38 (DEDUCED). -/
def Obligations.PausesOfClassesAndQueues : Prop :=
  (∀ (p : Fin 10) (quanta : BitVec 16) (s : State),
    (p.val < 2 → s.on F.LT_CTRL_PAUSE_EN = true → s.on (F.LT_Pn_CTRL_PAUSE_RX_EN p.val) = true →
      let full := quanta.toNat * 64 * s.byteTime p.val
      let cap := s.rd (F.LT_Pn_PAUSE_MAX p.val) % 65536 * 10000
      let len := if cap ≠ 0 ∧ cap < full then cap else full
      ∃ t, exec (.pauseRx p quanta) s = .next t
        ∧ t.rd (F.LT_Pn_PAUSE_RX p.val) = min (s.rd (F.LT_Pn_PAUSE_RX p.val) + 1) (2 ^ 32 - 1)
        ∧ t.rd (F.LT_Pn_PAUSE_CAP p.val) = min (s.rd (F.LT_Pn_PAUSE_CAP p.val) + if cap ≠ 0 ∧ cap < full then 1 else 0) (2 ^ 32 - 1)
        ∧ (∀ c, c < 8 → if bits (s.rd (F.LT_Pn_CTRL_PAUSABLE p.val)) c 1 = 1 then
            Sparse.get none t.lt.pause (p.val * 8 + c) = (if len = 0 then none else some (s.now10 + len))
            ∧ bits (t.rd (F.LT_Pn_STATUS_PAUSED p.val)) c 1 = if len = 0 then 0 else 1
          else Sparse.get none t.lt.pause (p.val * 8 + c) = Sparse.get none s.lt.pause (p.val * 8 + c)
            ∧ bits (t.rd (F.LT_Pn_STATUS_PAUSED p.val)) c 1 = bits (s.rd (F.LT_Pn_STATUS_PAUSED p.val)) c 1)
        ∧ t = { s with regs := t.regs, lt := { s.lt with pause := t.lt.pause } }
        ∧ s.keepsRegs t [F.LT_Pn_PAUSE_RX p.val, F.LT_Pn_PAUSE_CAP p.val, F.LT_Pn_STATUS_PAUSED p.val])
    ∧ (2 ≤ p.val ∨ s.on F.LT_CTRL_PAUSE_EN = false ∨ s.on (F.LT_Pn_CTRL_PAUSE_RX_EN p.val) = false →
      exec (.pauseRx p quanta) s = .next (s.inc (F.LT_Pn_PAUSE_IGN p.val)))
    ∧ (∀ (prio : Fin 8) (times : List (BitVec 16)),
      (p.val < 2 → s.on F.LT_CTRL_PAUSE_EN = true → s.on (F.LT_Pn_CTRL_PFC_EN p.val) = true → s.rd (F.LT_Pn_PAUSE_MAX p.val) % 65536 = 0 →
        bits (s.rd (F.LT_Pn_CTRL_PAUSABLE p.val)) (bits (s.rd (F.LT_Pn_PFC_MAP_MAP p.val)) (3 * prio.val) 3) 1 = 1 →
        let c := bits (s.rd (F.LT_Pn_PFC_MAP_MAP p.val)) (3 * prio.val) 3
        let len := (times.getD prio.val 0).toNat * 64 * s.byteTime p.val
        exec (.pfcRx p (BitVec.ofNat 8 (2 ^ prio.val)) times) s = .next { (s.inc (F.LT_Pn_PFC_RX p.val)).wr (F.LT_Pn_STATUS_PAUSED p.val)
            (putBits (s.rd (F.LT_Pn_STATUS_PAUSED p.val)) c 1 (if len = 0 then 0 else 1)) with
          lt := { s.lt with pause := Sparse.put none s.lt.pause (p.val * 8 + c) (if len = 0 then none else some (s.now10 + len)) } })
      ∧ (2 ≤ p.val ∨ s.on F.LT_CTRL_PAUSE_EN = false ∨ s.on (F.LT_Pn_CTRL_PFC_EN p.val) = false →
        ∀ enable, exec (.pfcRx p enable times) s = .next (s.inc (F.LT_Pn_PAUSE_IGN p.val)))))
  ∧ (∀ (p : Fin 10) (c : Fin 8) (e : Nat) (s : State), Sparse.get none s.lt.pause (p.val * 8 + c.val) = some e → e ≤ s.now10 →
      exec (.pauseExpiry p c) s = .next { s.wr (F.LT_Pn_STATUS_PAUSED p.val) (putBits (s.rd (F.LT_Pn_STATUS_PAUSED p.val)) c.val 1 0) with
        lt := { s.lt with pause := Sparse.put none s.lt.pause (p.val * 8 + c.val) none } })
  ∧ (∀ (m : Nat) (q us : BitVec 16) (s : State),
      let v : Option (Option Nat) := if us = 0 then none else if us = 0xFFFF then some none else some (some (s.tb.mono + us.toNat * 1000))
      (s.accepts m 0xA0020 permW → s.on F.LT_STATUS_WIPING = true → exec (.queuePause m false q us) s = .next s)
      ∧ (s.accepts m 0xA0020 permW → s.on F.LT_STATUS_WIPING = false → exec (.queuePause m false q us) s = .next { s.inc F.LT_QP_CNT with
        lt := { s.lt with qpause := Sparse.put none s.lt.qpause (q.toNat % 1024) v } })
      ∧ (s.decodes m = true → s.may 0x0A m permW = false →
        exec (.queuePause m false q us) s = .next ((s.deny 1 m 0x0A 0x0020).inc F.LT_QP_REJ))
      ∧ (s.accepts m 0xE0D00 permW →
        (∀ g, s.localSq m (q.toNat % 64) = some g → s.on F.LT_STATUS_WIPING = false → exec (.queuePause m true q us) s = .next { s.inc F.LT_QP_CNT with
          lt := { s.lt with qpause := Sparse.put none s.lt.qpause g v } })
        ∧ (∀ g, s.localSq m (q.toNat % 64) = some g → s.on F.LT_STATUS_WIPING = true → exec (.queuePause m true q us) s = .next s)
        ∧ (s.localSq m (q.toNat % 64) = none → exec (.queuePause m true q us) s = .next (s.inc F.QE_CFG_REJ))))
  ∧ (∀ (q : BitVec 10) (e : Nat) (s : State), Sparse.get none s.lt.qpause q.toNat = some (some e) → e ≤ s.tb.mono →
      exec (.queuePauseExpiry q) s = .next { s with lt := { s.lt with qpause := Sparse.put none s.lt.qpause q.toNat none } })

/-- R11, R12, R14, R16, R18, R404, R470, R505: what a write does to one register of each kind: a live, a staged and a frozen field, a
write-1-to-clear bit; a write of a wrong width and its record in GC_ACC_ERR, also against a record of the same core cycle; a write of 8
bytes as two of 4; a 64-bit quantity by its two words; and a write through the debug port and the FIELD proxy. Where the manual leaves a
point open it states the model's choice: log entries 11 (DESIGN CHOICE), 12 (DEDUCED), 15 (DEDUCED), 16 (DESIGN CHOICE). -/
def Obligations.WritesOfRegisters : Prop :=
  (∀ (m : Nat) (v : DWord) (s : State), isVf m = false →
    (s.accepts m 0x1400C0 permW → exec (.registerWrite m 0x1400C0 4 v) s = .next (s.wr F.MG_LOG_CFG v.toNat))
    ∧ (s.accepts m 0x20104 permW → exec (.registerWrite m 0x20104 4 v) s = .next { s with tb := { s.tb with ppsPeriod := BitVec.ofNat 32 v.toNat } })
    ∧ (s.accepts m 0x120010 permW → s.on F.TW_CTRL_EN = false → exec (.registerWrite m 0x120010 4 v) s = .next (s.wr F.TW_PAIR_ID v.toNat))
    ∧ (s.accepts m 0x120010 permW → s.on F.TW_CTRL_EN = true → v.toNat % 2 ^ 32 = s.rd F.TW_PAIR_ID → exec (.registerWrite m 0x120010 4 v) s = .next s)
    ∧ (s.accepts m 0x120010 permW → s.on F.TW_CTRL_EN = true → v.toNat % 2 ^ 32 ≠ s.rd F.TW_PAIR_ID →
        let x : ErrRec := ⟨false, true, 0, m, 0x120010⟩
        let u := s.raise Src.CFG_WHILE_RUNNING 0xFF (some m) (accWord true 0 m 0x120010)
        (s.on F.GC_CFG_ERR_VALID = false → exec (.registerWrite m 0x120010 4 v) s = .next ((((({ u with
          crp := { s.crp with errNow := x :: s.crp.errNow.filter (fun y => y.acc) } }.wr F.GC_CFG_ERR_VALID 1).wr F.GC_CFG_ERR_WR 1).wr
          F.GC_CFG_ERR_SIZE 0).wr F.GC_CFG_ERR_MASTER m).wr F.GC_CFG_ERR_OFFSET 0x120010))
        ∧ (s.on F.GC_CFG_ERR_VALID = true → s.crp.errNow.find? (fun y => !y.acc) = none →
          exec (.registerWrite m 0x120010 4 v) s = .next { u with crp := { s.crp with errWait := s.crp.errWait ++ [x] } }))
    ∧ (s.accepts m 0x130008 permW → bits v.toNat 31 1 = 1 → exec (.registerWrite m 0x130008 4 v) s = .next (s.wr F.AC_DENY_INFO_VALID 0)))
  ∧ (∀ (m off bytes : Nat) (v : DWord) (s : State), isVf m = false → s.takes m = true → bytes = 1 ∨ bytes = 2 ∨ bytes = 3 ∨ (bytes = 4 ∧ off % 4 ≠ 0) →
      let x : ErrRec := ⟨true, true, bytes - 1, m, off % 0x200000⟩
      let u := { s.raise Src.BAD_ACCESS 0xFF (some m) (accWord true (bytes - 1) m (off % 0x200000)) with freeIdx := s.freeIdx + 1 }
      let put := (((({ u with crp := { s.crp with errNow := x :: s.crp.errNow.filter (fun y => !y.acc) } }.wr F.GC_ACC_ERR_VALID 1).wr
        F.GC_ACC_ERR_WR 1).wr F.GC_ACC_ERR_SIZE (bytes - 1)).wr F.GC_ACC_ERR_MASTER m).wr F.GC_ACC_ERR_OFFSET (off % 0x200000)
      (s.on F.GC_ACC_ERR_VALID = false → exec (.registerWrite m off bytes v) s = .next put)
      ∧ (s.on F.GC_ACC_ERR_VALID = true → s.crp.errNow.find? (fun y => y.acc) = none →
        exec (.registerWrite m off bytes v) s = .next { u with crp := { s.crp with errWait := s.crp.errWait ++ [x] } })
      ∧ (∀ y, s.on F.GC_ACC_ERR_VALID = true → s.crp.errNow.find? (fun y => y.acc) = some y →
        exec (.registerWrite m off bytes v) s = .next (if m < y.m then put else u)))
  ∧ (∀ (m off : Nat) (v : DWord) (s t : State), s.takes m = true → off % 8 = 0 →
      exec (.registerWrite m off 4 v) s = .next t → t.takes m = true →
      exec (.registerWrite m off 8 v) s = exec (.registerWrite m (off + 4) 4 (v >>> 32)) t)
  ∧ (∀ (m : Nat) (lo hi : Word) (s : State), isVf m = false →
      (s.accepts m 0x20028 permW →
        exec (.lowWordWrite m 0x20028 lo) s = .next { s with loHeld := Sparse.put none s.loHeld (m * 2 ^ 24 + 0x20028) (some lo) })
      ∧ (s.accepts m 0x2002C permW → Sparse.get none s.loHeld (m * 2 ^ 24 + 0x20028) = some lo →
        exec (.registerWrite m 0x2002C 4 (hi.setWidth 64)) s = .next { (s.wr F.TB_STEP_LO lo.toNat).wr F.TB_STEP_HI hi.toNat with
          loHeld := Sparse.put none s.loHeld (m * 2 ^ 24 + 0x20028) none }))
  ∧ (∀ (m : Nat) (n : Fin 8) (v : Word) (s : State), isVf m = false → s.accepts m (0x5041C + 0x80 * n.val) permW →
      exec (.fieldProxyWrite m (0x41C + 0x80 * n.val) v) s = .next (s.wr (F.FP_ILIM n.val) v.toNat))
  ∧ (∀ (v : Word) (off : Nat) (s : State), s.crp.off = false →
      (s.rd F.AC_STATUS_DBG = 2 → s.accepts 1 0x1400C0 permW → exec (.dbgWrite 0x1400C0 v) s = .next (s.wr F.MG_LOG_CFG v.toNat))
      ∧ (s.rd F.AC_STATUS_DBG < 2 → exec (.dbgWrite off v) s = .next s))

/-- R11, R12, R14, R38, R104, R392, R404, R506: what a read of one register of each kind returns and does: a low word latches its high word
for the master, a latched high word is taken once, a counter clears, the data of KILN's pool window moves its address on, a denied read
returns 0; a read through the debug port; and CNT_CLEAR with and without ADM. Where the manual leaves a point open it states the model's
choice: log entries 11 (DESIGN CHOICE), 12 (DEDUCED), 13 (DEDUCED). -/
def Obligations.ReadsOfRegisters : Prop :=
  (∀ (m : Nat) (s : State), isVf m = false →
    (s.gives m 0x20090 → Sparse.get none s.latched (m * 2 ^ 24 + 0x20090) = none →
      exec (.lowWordRead m 0x20090 4) s = .next { s with
        readData := [BitVec.ofNat 32 (s.rd F.TB_HOLD_NS_LO)],
        latched := Sparse.put none s.latched (m * 2 ^ 24 + 0x20094) (some (BitVec.ofNat 32 (s.rd F.TB_HOLD_NS_HI))),
        freeIdx := s.freeIdx + 1 })
    ∧ (∀ w, s.gives m 0x20094 → Sparse.get none s.latched (m * 2 ^ 24 + 0x20094) = some w →
      exec (.lowWordRead m 0x20094 4) s = .next { s with
        readData := [w], latched := Sparse.put none s.latched (m * 2 ^ 24 + 0x20094) none })
    ∧ (s.gives m 0x100080 → Sparse.get none s.latched (m * 2 ^ 24 + 0x100080) = none →
      exec (.counterReadClear m 0x100080 4) s = .next { s.wr F.MB_POSTS 0 with
        readData := [BitVec.ofNat 32 (s.rd F.MB_POSTS)], freeIdx := s.freeIdx + 1 })
    ∧ (s.gives m 0x60018 → s.rd F.KN_MSEL = 2 →
      exec (.windowDataRead m 0x60018 4) s = .next { s with
        readData := [(Sparse.get 0 s.kn.pool (s.rd F.KN_MADDR)).setWidth 32],
        latched := Sparse.put none s.latched (m * 2 ^ 24 + 0x6001C) (some ((Sparse.get 0 s.kn.pool (s.rd F.KN_MADDR) >>> 32).setWidth 32)),
        freeIdx := s.freeIdx + 8 })
    ∧ (∀ w, s.gives m 0x6001C → Sparse.get none s.latched (m * 2 ^ 24 + 0x6001C) = some w →
      exec (.windowDataRead m 0x6001C 4) s = .next { s.wr F.KN_MADDR (s.rd F.KN_MADDR + 1) with
        readData := [w], latched := Sparse.put none s.latched (m * 2 ^ 24 + 0x6001C) none, freeIdx := s.freeIdx + 8 })
    ∧ (s.decodes m = true → s.may 0x14 m permR = false → exec (.counterReadClear m 0x1400C0 4) s = .next { s.deny 0 m 0x14 0xC0 with readData := [0] }))
  ∧ (∀ (off : Nat) (s : State), s.crp.off = false →
      (1 ≤ s.rd F.AC_STATUS_DBG → s.gives 1 0x1400C0 → Sparse.get none s.latched (2 ^ 24 + 0x1400C0) = none →
        exec (.dbgRead 0x1400C0) s = .next { s with readData := [BitVec.ofNat 32 (s.rd F.MG_LOG_CFG)], freeIdx := s.freeIdx + 1 })
      ∧ (s.rd F.AC_STATUS_DBG = 0 → exec (.dbgRead off) s = .next { s with readData := [] }))
  ∧ (∀ (m : Nat) (s : State), s.accepts m 0x40 permW →
      (s.may 0 m permADM = true → ∃ t, exec (.cntClear m) s = .next t ∧ t = { s with regs := t.regs, bp := t.bp }
        ∧ (∀ f : Fld, clearedKey f.key = true → t.rd f = f.rst % 2 ^ 32) ∧ (∀ f : Fld, clearedKey f.key = false → t.rd f = s.rd f)
        ∧ t.rd F.MB_POSTS = 0 ∧ (∀ n, n < 160 → t.rd (F.CL_SRC_CNT_n n) = s.rd (F.CL_SRC_CNT_n n)))
      ∧ (s.may 0 m permADM = false → exec (.cntClear m) s = .next (s.deny 3 m 0 0x40)))

/-- R140, R141, R142, R152, R153, R154, R163, R502: GYLE serves its sources in their order; after the slot reads that are due, the next write
of a point that no move holds, of no job, lands or is refused and counted (a write of a value to a point that is neither mirrored nor
notified, in every mode but 3 and 5); and the BAR4 window takes an aligned 8-byte part of a valid slot, drops any other, withholds at 512,
and answers a read. Where the manual leaves a point open it states the model's choice: log entries 31 (DEDUCED), 33 (DEDUCED), 80
(DEDUCED). -/
def Obligations.PointWritesAndTheWindow : Prop :=
  (∀ (g : Gy) (w : PWrite) (l : List PWrite) (op : HostOp) (h : List HostOp),
    (g.qTa = w :: l → g.next = some (.write w, { g with qTa := l }))
    ∧ (g.qTa = [] → g.qExt = w :: l → g.next = some (.write w, { g with qExt := l }))
    ∧ (g.qTa = [] → g.qExt = [] → g.qMir = w :: l → g.next = some (.write w, { g with qMir := l }))
    ∧ (g.qTa = [] → g.qExt = [] → g.qMir = [] → g.qWin = w :: l → g.next = some (.write w, { g with qWin := l }))
    ∧ (g.qTa = [] → g.qExt = [] → g.qMir = [] → g.qWin = [] → g.qHost = op :: h → g.next = some (op, { g with qHost := h })))
  ∧ (∀ (w : PWrite) (g : Gy) (p : Nat) (s : State), s.slotsDue.gy.next = some (.write w, g) → g.moves.any (fun x => x.point == w.point) = false →
      w.job = none →
      let u := s.slotsDue
      let o := { u with gy := g }.wr F.GY_STATUS_OVERLOAD (if 2048 ≤ g.qExt.length then 1 else 0)
      (u.on F.GY_CTRL_EN = false → w.mode ≤ 5 → exec .pointWriteLand s = .next (o.inc F.GY_NOPT))
      ∧ (5 < w.mode → exec .pointWriteLand s = .next o)
      ∧ (u.on F.GY_CTRL_EN = true → w.mode ≤ 4 →
        (Sparse.get none g.points w.point = none → exec .pointWriteLand s = .next (o.inc F.GY_NOPT))
        ∧ (∀ r, Sparse.get none g.points w.point = some r →
          (r.force = true → w.mode ≠ 2 → w.mode ≠ 3 → exec .pointWriteLand s = .next (o.inc F.GY_FORCED))
          ∧ ((r.force = false ∨ w.mode = 2 ∨ w.mode = 3) → (w.mono = true ∨ w.mode = 1) → (w.upd.getD u.tb.dt).toNat < r.upd.toNat →
            exec .pointWriteLand s = .next (o.inc F.GY_OLDER))
          ∧ ((r.force = false ∨ w.mode = 2) → w.mode ≠ 3 → ((w.mono = false ∧ w.mode ≠ 1) ∨ r.upd.toNat ≤ (w.upd.getD u.tb.dt).toNat) →
            r.mirror = false → u.on F.GY_CTRL_NOTIFY_EN = false →
            ∃ t, exec .pointWriteLand s = .next t
              ∧ t.point w.point = some { r with
                  value := if w.mode = 4 then r.value else w.value, upd := if w.mode = 4 then r.upd else w.upd.getD u.tb.dt,
                  qual := w.qual % 256, src := w.src % 65536, written := true, epoch := u.rd F.TB_EPOCH % 256,
                  force := if w.mode = 2 then true else r.force }
              ∧ (p ≠ w.point → t.point p = Sparse.get none g.points p)
              ∧ t.rd F.GY_WR_CNT = min (u.rd F.GY_WR_CNT + 1) (2 ^ 32 - 1)
              ∧ u.keepsRegs t [F.GY_STATUS_OVERLOAD, F.GY_WR_CNT, F.GY_FUTURE, F.GY_WIN_COLD, F.GY_DEFINED_DEFINED, F.GY_PINNED_PINNED,
                F.GY_STATUS_HOT_USED]
              ∧ t = { u with regs := t.regs, gy := { g with points := t.gy.points }, pt := { u.pt with heatHot := t.pt.heatHot, heatCand := t.pt.heatCand } }))))
  ∧ (∀ (slot enables : Nat) (v : DWord) (s : State), s.decodes 0x20 = true → slot < 131072 →
      (512 ≤ s.gy.qWin.length → exec (.pointWindowWrite slot [(v, enables)]) s = .next s)
      ∧ (s.gy.qWin.length < 512 → s.may 0x0D 0x20 permW = true → s.on F.GY_CTRL_WIN_EN = true → s.on F.GY_STATUS_WIPING = false → enables % 256 = 0xFF →
        bits (Sparse.get 0 s.gy.wmap slot).toNat 31 1 = 1 →
        exec (.pointWindowWrite slot [(v, enables)]) s = .next { s with gy := { s.gy with
          qWin := s.gy.qWin ++ [⟨5, bits (Sparse.get 0 s.gy.wmap slot).toNat 0 23, v, some s.tb.dt, s.rd F.GY_WIN_CFG_QUAL, 0x8020, 0, false, true, none,
            none, false, 0, none⟩] } })
      ∧ (s.gy.qWin.length < 512 → s.may 0x0D 0x20 permW = true →
        s.on F.GY_CTRL_WIN_EN = false ∨ s.on F.GY_STATUS_WIPING = true ∨ enables % 256 ≠ 0xFF ∨ bits (Sparse.get 0 s.gy.wmap slot).toNat 31 1 = 0 →
        exec (.pointWindowWrite slot [(v, enables)]) s = .next ((s.inc F.GY_WIN_BAD).raise0 Src.GY_WIN_BAD 0))
      ∧ (s.may 0x0D 0x20 permR = true → s.on F.GY_CTRL_EN = true → s.on F.GY_STATUS_WIPING = false →
        bits (Sparse.get 0 s.gy.wmap slot).toNat 31 1 = 1 → ∀ r, s.point (bits (Sparse.get 0 s.gy.wmap slot).toNat 0 23) = some r →
        exec (.pointWindowRead slot none) s = .next { s with readData := [r.value.setWidth 32, (r.value >>> 32).setWidth 32] }))

/-- R131, R137, R157: DEFINE, UNDEFINE and SET of a point, with the code each publishes in the bank of its master, the record it leaves, and
the move that a DEFINE with PIN hot begins. Where the manual leaves a point open it states the model's choice: log entry 33 (DEDUCED). -/
def Obligations.PointConfiguration : Prop :=
  ∀ (m : Nat) (s : State), s.accepts m 0xD0028 permW →
    let p := s.rd (F.GY_PCFG_ID_POINT m)
    let pin := s.rd (F.GY_PCFG_VAL_PIN m)
    let done := fun (t : State) (code : Nat) => (t.wr (F.GY_PCFG_RESULT_DONE m) 1).wr (F.GY_PCFG_RESULT_CODE m) code
    (s.on F.GY_STATUS_WIPING = true → exec (.pcfgDefine m) s = .next (done s 5) ∧ exec (.pcfgUndefine m) s = .next (done s 5)
      ∧ exec (.pcfgSet m) s = .next (done s 5))
    ∧ (s.on F.GY_STATUS_WIPING = false →
      (s.point p = none → exec (.pcfgUndefine m) s = .next (done s 1) ∧ exec (.pcfgSet m) s = .next (done s 1)
        ∧ (pin = 1 → 131072 ≤ s.rd F.GY_PINNED_PINNED → exec (.pcfgDefine m) s = .next (done s 3))
        ∧ (pin ≠ 1 ∨ s.rd F.GY_PINNED_PINNED < 131072 →
          ∃ t, exec (.pcfgDefine m) s = .next t ∧ t.rd (F.GY_PCFG_RESULT_CODE m) = 0 ∧ t.rd (F.GY_PCFG_RESULT_DONE m) = 1
            ∧ t.point p = some ⟨0, 0, 0, 0xC0, false, pin, s.on (F.GY_PCFG_VAL_FORCE m), s.on (F.GY_PCFG_VAL_MIRROR m), false,
              s.rd (F.GY_PCFG_VAL_MAXAGE m) % 65536, 0, none⟩
            ∧ (pin = 1 → s.gy.moves = [] → s.gy.moveReq = [] → s.rd F.GY_STATUS_HOT_USED < 131072 → t.gy.moves = [⟨p, true, false, []⟩])
            ∧ t = { s with regs := t.regs, gy := { s.gy with points := t.gy.points, moves := t.gy.moves, moveReq := t.gy.moveReq }, pt := t.pt }))
      ∧ (∀ r, s.point p = some r → exec (.pcfgDefine m) s = .next (done s 2)
        ∧ (r.sub.isSome = true → exec (.pcfgUndefine m) s = .next (done s 4))
        ∧ (r.sub = none → ∃ t, exec (.pcfgUndefine m) s = .next t ∧ t.rd (F.GY_PCFG_RESULT_CODE m) = 0 ∧ t.rd (F.GY_PCFG_RESULT_DONE m) = 1
            ∧ t.point p = none ∧ t.rd F.GY_DEFINED_DEFINED = (s.rd F.GY_DEFINED_DEFINED - 1) % 2 ^ 24
            ∧ t = { s with regs := t.regs, gy := { s.gy with points := t.gy.points, moveReq := t.gy.moveReq }, pt := t.pt })
        ∧ (pin = 1 → r.pin ≠ 1 → 131072 ≤ s.rd F.GY_PINNED_PINNED → exec (.pcfgSet m) s = .next (done s 3))
        ∧ (pin ≠ 1 ∨ r.pin = 1 ∨ s.rd F.GY_PINNED_PINNED < 131072 →
          ∃ t, exec (.pcfgSet m) s = .next t ∧ t.rd (F.GY_PCFG_RESULT_CODE m) = 0
            ∧ t.point p = some { r with
                maxage := s.rd (F.GY_PCFG_VAL_MAXAGE m) % 65536, pin := pin, force := s.on (F.GY_PCFG_VAL_FORCE m), mirror := s.on (F.GY_PCFG_VAL_MIRROR m) }
            ∧ t = { s with regs := t.regs, gy := { s.gy with points := t.gy.points, moves := t.gy.moves, moveReq := t.gy.moveReq }, pt := t.pt })))

/-- R139, R145, R149, R150, R160, R161, R168, R179, R365: a notification is posted to its ring or, where it has no room, folded and counted; a
requested move begins, waits for room or for a launch, or is barred by PIN, and completes; the map of a delivered frame that arrives
issues its write of an unsigned big-endian field, or none; SWAP exchanges two maps; the memory window of GYLE; and a visit of the age
sweep. Where the manual leaves a point open it states the model's choice: log entries 31 (DEDUCED), 32 (DESIGN CHOICE), 34 (DEDUCED), 69
(DEDUCED). -/
def Obligations.NotificationsMovesAndMaps : Prop :=
  (∀ (n : Note) (rest : List Note) (b : Sub) (s : State), s.gy.notes = n :: rest → s.sub n.sub = some b → b.ring < 1024 →
    (s.cqRoom b.ring = false → ∃ t, exec .notificationWrite s = .next t ∧ t.gy = { s.gy with notes := rest }
      ∧ t.rd F.GY_NOTIFY_GAP = min (s.rd F.GY_NOTIFY_GAP + 1) (2 ^ 32 - 1)
      ∧ t.rd (F.QE_CQ_INFO_q_GAP b.ring) = min (s.rd (F.QE_CQ_INFO_q_GAP b.ring) + 1) (2 ^ (F.QE_CQ_INFO_q_GAP b.ring).w - 1)
      ∧ ⟨Src.GY_NOTIFY_GAP, 0xFF, none, b.ring, false⟩ ∈ t.cl.inbox ∧ s.keepsRegs t [F.QE_CQ_INFO_q_GAP b.ring, F.GY_NOTIFY_GAP]
      ∧ t = { s with regs := t.regs, gy := t.gy, qe := t.qe, pcie := t.pcie, cl := t.cl })
    ∧ (s.cqRoom b.ring = true → ∃ t, exec .notificationWrite s = .next t ∧ t.gy.notes = rest
      ∧ t.sub n.sub = some { b with last := n.value, lastValid := true, qual := n.qual / 64 }
      ∧ t.rd F.GY_NOTIFY = min (s.rd F.GY_NOTIFY + 1) (2 ^ 32 - 1) ∧ t.rd (F.QE_CQ_INFO_q_GAP b.ring) = 0
      ∧ s.keepsRegs t [F.QE_CQ_INFO_q_GAP b.ring, F.QE_CQ_PTR_TAIL b.ring, F.GY_NOTIFY]
      ∧ t = { s with regs := t.regs, gy := { s.gy with notes := rest, subs := t.gy.subs }, qe := t.qe, pcie := t.pcie }))
  ∧ (∀ (m : Move) (s : State), s.gy.moveReq = [m] → s.gy.moves = [] →
      (s.pinBars m = true → exec .tierMove s = .next { s with gy := { s.gy with moveReq := [] } })
      ∧ (s.pinBars m = false → (m.toHot = true ∧ s.rd F.GY_STATUS_HOT_USED < 131072) ∨ (m.toHot = false ∧ s.classedHot m.point = false) →
        exec .tierMove s = .next { s with gy := { s.gy with moves := [m], moveReq := [] } })
      ∧ (s.pinBars m = false → m.toHot = true → 131072 ≤ s.rd F.GY_STATUS_HOT_USED → exec .tierMove s = .next s)
      ∧ (s.pinBars m = false → m.toHot = false → s.classedHot m.point = true → m.counted = false →
        exec .tierMove s = .next { s.inc F.MS_MOVE_WAIT with gy := { s.gy with moveReq := [{ m with counted := true }] } }))
  ∧ (∀ (m : Move) (rest : List Move) (r : Point) (s : State), s.slotsDue.gy.moves = m :: rest → s.slotsDue.point m.point = some r → m.held = [] →
      let u := s.slotsDue
      ∃ t, exec .tierMoveDone s = .next t ∧ t.point m.point = some { r with hot := m.toHot } ∧ t.gy.moves = rest
        ∧ (m.toHot = true → t.rd F.GY_PROMOTE = min (u.rd F.GY_PROMOTE + 1) (2 ^ 32 - 1)
          ∧ Sparse.get 0 t.pt.heatHot m.point = Sparse.get 0 u.pt.heatCand m.point)
        ∧ (m.toHot = false → t.rd F.GY_DEMOTE = min (u.rd F.GY_DEMOTE + 1) (2 ^ 32 - 1)
          ∧ Sparse.get 0 t.pt.heatCand m.point = Sparse.get 0 u.pt.heatHot m.point)
        ∧ t = { u with regs := t.regs, gy := { u.gy with points := t.gy.points, moves := rest }, pt := { u.pt with heatHot := t.pt.heatHot, heatCand := t.pt.heatCand } })
  ∧ (∀ (w : List DWord) (handle n cell : Nat) (data : List Byte) (stamp : DWord) (rest : List ExtWait) (s : State),
      s.gy.extWait = ⟨⟨[w], false, some n⟩, handle, data, stamp, cell⟩ :: rest → s.fetches.min? = some n →
      rest.all (fun y => y.chain.missing != some n) = true →
      (s.on F.GY_CTRL_EXT_EN = false → exec .mapFetchDone s = .next (({ s with gy := { s.gy with extWait := rest } }).releaseHold cell 4))
      ∧ (s.on F.GY_CTRL_EXT_EN = true → s.on F.GY_STATUS_WIPING = false → s.gy.qExt = [] →
        bits (w.getD 0 0).toNat 8 2 = 1 → bits (w.getD 0 0).toNat 0 5 = 1 →
        bits (w.getD 4 0).toNat 16 12 = 0x400 → bits (w.getD 4 0).toNat 32 16 = 0 → bits (w.getD 4 0).toNat 0 16 + 4 ≤ data.length →
        exec .mapFetchDone s = .next (({ s.wr F.GY_STATUS_OVERLOAD 0 with gy := { s.gy with
          extWait := rest,
          qExt := [⟨3, bits (w.getD 5 0).toNat 0 23, BitVec.ofNat 64 (beNat (slice data (bits (w.getD 4 0).toNat 0 16) 4)), some stamp,
            bits (w.getD 4 0).toNat 48 8, handle % 32768, 0, false, true, none, none, false, 0, none⟩] } }).releaseHold cell 4)))
  ∧ (∀ (m : Nat) (a b : BitVec 14) (s : State), s.accepts m 0xD0040 permW → s.on F.GY_STATUS_WIPING = false →
      (a = b → exec (.mapSwap m a b) s = .next (s.wr F.GY_MAP_STAT_ERR 1))
      ∧ (a ≠ b → ∃ t, exec (.mapSwap m a b) s = .next t ∧ t = { s with gy := { s.gy with maps := t.gy.maps } }
        ∧ (∀ n, n < 64 → t.mapWord a.toNat n = s.mapWord b.toNat n ∧ t.mapWord b.toNat n = s.mapWord a.toNat n)
        ∧ (∀ k, k < 1048576 → k / 64 ≠ a.toNat → k / 64 ≠ b.toNat → Sparse.get 0 t.gy.maps k = Sparse.get 0 s.gy.maps k)))
  ∧ (∀ (m : Nat) (hi : Word) (s : State), s.accepts m 0xD005C permW → s.on F.GY_STATUS_WIPING = false →
      (s.rd F.GY_MSEL = 3 → s.rd F.GY_MADDR < 131072 →
        exec (.gyMdataWrite m hi) s = .next { s.wr F.GY_MADDR (s.rd F.GY_MADDR + 1) with
          gy := { s.gy with
            wmap := Sparse.put 0 s.gy.wmap (s.rd F.GY_MADDR) (BitVec.ofNat 32 ((s.heldLow m 0xD0058 + 2 ^ 32 * hi.toNat) &&& 0x807FFFFF)) },
          loHeld := Sparse.put none s.loHeld (m * 2 ^ 24 + 0xD0058) none })
      ∧ (s.rd F.GY_MSEL = 1 → s.rd F.GY_MADDR < 1048576 → bits (s.mapWord (s.rd F.GY_MADDR / 64) 0).toNat 8 1 = 1 → s.rd F.GY_MADDR % 64 ≠ 0 →
        exec (.gyMdataWrite m hi) s = .next { (s.wr F.GY_STATUS_WIN_REJ 1).wr F.GY_MADDR (s.rd F.GY_MADDR + 1) with
          loHeld := Sparse.put none s.loHeld (m * 2 ^ 24 + 0xD0058) none }))
  ∧ (∀ (i pass : Nat) (b : Sub) (r : Point) (s : State), s.on F.GY_CTRL_SWEEP_EN = true → s.gy.sweepLast + 125 ≤ s.tb.mono →
      s.nextWatched = some (i, b, pass) → s.point b.point = some r →
      (r.stale s.dt = true → b.staleSent = false → exec .sweepVisit s = .next { s with gy := { s.gy with
        sweepAt := i + 1, sweepPass := pass, sweepLast := s.tb.mono, subs := Sparse.put none s.gy.subs i (some { b with staleSent := true }),
        notes := s.gy.notes ++ [⟨i, r.value, r.upd, b.point, r.qual, 4, r.src, r.epoch⟩] } })
      ∧ (r.stale s.dt = false ∨ b.staleSent = true → exec .sweepVisit s = .next { s with gy := { s.gy with
        sweepAt := i + 1, sweepPass := pass, sweepLast := s.tb.mono } }))

/-- R170, R175, R186, R193: what ENABLE, DISABLE and SWAP of a template do and when they are refused with code 7 or with the code of the
check, the end of BUSY, a write of each space of MASH's window and its refusal, and the maturing of a queued horizon write. Where the
manual leaves a point open it states the model's choice: log entry 44 (DEDUCED). -/
def Obligations.TemplateCommands : Prop :=
  (∀ (m : Nat) (a b : BitVec 14) (s : State), s.accepts m 0xD8010 permW →
    let en := fun (t : BitVec 14) => bits (Sparse.get 0 s.ms.ctl (t.toNat * 8)).toNat 16 1 = 1
    let said := fun (t : State) (x : BitVec 14) (code : Nat) =>
      t.rd F.MS_TPL_STAT_TPL = x.toNat ∧ t.rd F.MS_TPL_STAT_ERR = code
    (en a ∨ s.ms.disabling.isSome = true → ∃ t, exec (.templateEnable m a) s = .next t ∧ said t a 7 ∧ t.rd F.MS_TPL_STAT_ERR_SEEN = 1
      ∧ ⟨Src.MS_TPL_ERR, 0xFF, none, 7, false⟩ ∈ t.cl.inbox ∧ s.keepsRegs t [F.MS_TPL_STAT_TPL, F.MS_TPL_STAT_ERR, F.MS_TPL_STAT_ERR_SEEN]
      ∧ t = { s with regs := t.regs, cl := { s.cl with inbox := t.cl.inbox } })
    ∧ (¬ en a → s.ms.disabling = none → s.tplCode a.toNat ≠ 0 → ∃ t, exec (.templateEnable m a) s = .next t ∧ said t a (s.tplCode a.toNat)
      ∧ t.rd F.MS_TPL_STAT_ERR_SEEN = 1 ∧ t.ms = s.ms)
    ∧ (¬ en a → s.ms.disabling = none → s.tplCode a.toNat = 0 → ∃ t, exec (.templateEnable m a) s = .next t ∧ said t a 0
      ∧ (∀ k, (Sparse.get 0 t.ms.ctl k).toNat = if k = a.toNat * 8 then (Sparse.get 0 s.ms.ctl k).toNat + 2 ^ 16 else (Sparse.get 0 s.ms.ctl k).toNat)
      ∧ t.rd F.MS_ENABLED_COUNT = (s.rd F.MS_ENABLED_COUNT + 1) % 2 ^ F.MS_ENABLED_COUNT.w
      ∧ s.keepsRegs t [F.MS_TPL_STAT_TPL, F.MS_TPL_STAT_ERR, F.MS_ENABLED_COUNT]
      ∧ t = { s with regs := t.regs, ms := { s.ms with ctl := t.ms.ctl } })
    ∧ (¬ en a ∨ s.ms.disabling.isSome = true → ∃ t, exec (.templateDisable m a) s = .next t ∧ said t a 7 ∧ t.ms = s.ms)
    ∧ (en a → s.ms.disabling = none → 0 < s.rd F.MS_ENABLED_COUNT → ∃ t, exec (.templateDisable m a) s = .next t ∧ said t a 0
      ∧ (∀ k, (Sparse.get 0 t.ms.ctl k).toNat = if k = a.toNat * 8 then (Sparse.get 0 s.ms.ctl k).toNat - 2 ^ 16 else (Sparse.get 0 s.ms.ctl k).toNat)
      ∧ t.rd F.MS_ENABLED_COUNT = (s.rd F.MS_ENABLED_COUNT - 1) % 2 ^ 15
      ∧ (if s.ms.launches.any (fun l => l.tpl == a.toNat) = true then t.ms.disabling = some a.toNat ∧ t.rd F.MS_TPL_STAT_BUSY = 1
        else t.ms.disabling = none ∧ t.rd F.MS_TPL_STAT_BUSY = s.rd F.MS_TPL_STAT_BUSY)
      ∧ s.keepsRegs t [F.MS_TPL_STAT_TPL, F.MS_TPL_STAT_ERR, F.MS_ENABLED_COUNT, F.MS_TPL_STAT_BUSY]
      ∧ t = { s with regs := t.regs, ms := { s.ms with ctl := t.ms.ctl, disabling := t.ms.disabling } })
    ∧ (¬ en a ∨ en b ∨ s.ms.disabling.isSome = true → ∃ t, exec (.templateSwap m a b) s = .next t ∧ said t a 7 ∧ t.ms = s.ms)
    ∧ (en a → ¬ en b → s.ms.disabling = none → s.tplCode b.toNat ≠ 0 →
      ∃ t, exec (.templateSwap m a b) s = .next t ∧ said t a (s.tplCode b.toNat) ∧ t.ms = s.ms)
    ∧ (en a → ¬ en b → s.ms.disabling = none → s.tplCode b.toNat = 0 → ∃ t, exec (.templateSwap m a b) s = .next t ∧ said t a 0
      ∧ (Sparse.get 0 t.ms.ctl (a.toNat * 8)).toNat = (Sparse.get 0 s.ms.ctl (b.toNat * 8)).toNat + 2 ^ 16 ∧ (Sparse.get 0 t.ms.ctl (b.toNat * 8)).toNat + 2 ^ 16 = (Sparse.get 0 s.ms.ctl (a.toNat * 8)).toNat
      ∧ (∀ n, 0 < n → n < 8 → Sparse.get 0 t.ms.ctl (a.toNat * 8 + n) = Sparse.get 0 s.ms.ctl (b.toNat * 8 + n)
        ∧ Sparse.get 0 t.ms.ctl (b.toNat * 8 + n) = Sparse.get 0 s.ms.ctl (a.toNat * 8 + n))
      ∧ t.msSlots a.toNat = s.msSlots b.toNat ∧ t.msSlots b.toNat = s.msSlots a.toNat
      ∧ t.msImage a.toNat = s.msImage b.toNat ∧ t.msImage b.toNat = s.msImage a.toNat
      ∧ t.ms.launches = s.ms.launches ∧ t.rd F.MS_ENABLED_COUNT = s.rd F.MS_ENABLED_COUNT % 2 ^ 15))
  ∧ (∀ (a : Nat) (s : State), s.ms.disabling = some a →
      (s.ms.launches.any (fun l => l.tpl == a) = false →
        exec .templateDisableDone s = .next ({ s with ms := { s.ms with disabling := none } }.wr F.MS_TPL_STAT_BUSY 0))
      ∧ (s.ms.launches.any (fun l => l.tpl == a) = true → exec .templateDisableDone s = .next s))
  ∧ (∀ (m : Nat) (hi : Word) (s : State), s.accepts m 0xD802C permW → s.on F.MS_STATUS_WIPING = false →
      let a := s.rd F.MS_MADDR
      let w := s.heldLow m 0xD8028 + 2 ^ 32 * hi.toNat
      let low := Sparse.put none s.loHeld (m * 2 ^ 24 + 0xD8028) none
      (s.rd F.MS_MSEL = 2 → a < 1048576 → s.tplEn (a / 64) = false →
        exec (.msMdataWrite m hi) s = .next { s.wr F.MS_MADDR (a + 1) with
          ms := { s.ms with images := Sparse.put 0 s.ms.images a (BitVec.ofNat 64 w) }, loHeld := low })
      ∧ (s.rd F.MS_MSEL = 1 → a < 2097152 → s.tplEn (a / 128) = false →
        exec (.msMdataWrite m hi) s = .next { s.wr F.MS_MADDR (a + 1) with
          ms := { s.ms with slots := Sparse.put 0 s.ms.slots a (BitVec.ofNat 64 w &&& 0x3FFF01FF00FFFFFF) }, loHeld := low })
      ∧ (s.rd F.MS_MSEL = 0 → a < 131072 → a % 8 < 6 → s.tplEn (a / 8) = false → ∃ t, exec (.msMdataWrite m hi) s = .next t
        ∧ bits (Sparse.get 0 t.ms.ctl a).toNat 16 1 = (if a % 8 = 0 then 0 else bits (Sparse.get 0 t.ms.ctl a).toNat 16 1)
        ∧ (a % 8 = 1 → (Sparse.get 0 t.ms.ctl a).toNat = w % 2 ^ 64)
        ∧ t = { s.wr F.MS_MADDR (a + 1) with ms := { s.ms with ctl := t.ms.ctl }, loHeld := low })
      ∧ ((s.rd F.MS_MSEL = 0 ∧ (131072 ≤ a ∨ 6 ≤ a % 8 ∨ s.tplEn (a / 8) = true)) ∨ (s.rd F.MS_MSEL = 1 ∧ (2097152 ≤ a ∨ s.tplEn (a / 128) = true))
          ∨ (s.rd F.MS_MSEL = 2 ∧ (1048576 ≤ a ∨ s.tplEn (a / 64) = true)) ∨ 3 ≤ s.rd F.MS_MSEL →
        exec (.msMdataWrite m hi) s = .next { (s.wr F.MS_STATUS_WIN_REJ 1).wr F.MS_MADDR (a + 1) with loHeld := low }))
  ∧ (∀ (w : HzWrite) (rest : List HzWrite) (s : State), s.hz.queue = w :: rest →
      (s.dt < w.key.t + max 2000 (min 20000 (s.rd F.MS_HZN_H_NS)) → exec .horizonMature s = .next s)
      ∧ (w.key.t + max 2000 (min 20000 (s.rd F.MS_HZN_H_NS)) ≤ s.dt → ∃ t, exec .horizonMature s = .next t
        ∧ t.hz.queue = rest ∧ t.rd F.MS_STATUS_HZN_LEVEL = rest.length % 2 ^ F.MS_STATUS_HZN_LEVEL.w
        ∧ (Sparse.get none s.hz.view w.point = none → Sparse.get none t.hz.view w.point = some (w.key, w.val))
        ∧ s.keepsRegs t [F.MS_STATUS_HZN_LEVEL] ∧ t = { s with regs := t.regs, hz := { s.hz with queue := rest, view := t.hz.view } }))

/-- R173, R176, R177, R180, R184: a launch of a template that is not a TWIN one is created, or skipped, in a cycle that has none yet; its
points are classed, and without the horizon the one DRAM or hot point that it waits for is read at its instant and not sooner; and a
launch without numbering whose points are read is suppressed, or assembled and counted. Where the manual leaves a point open it states the
model's choice: log entries 44 (DEDUCED), 67 (DEDUCED). -/
def Obligations.LaunchOfATemplate : Prop :=
  (∀ (t : BitVec 14) (s : State),
      let c := s.msCtl t.toNat
      let p := tpPort c
      let k := s.tplCycle c
      let d := (s.sched p).boundary k + tpOffset c
      s.msOn = true → s.on F.MS_CTRL_SCHED_EN = true → tpCtrl c 0 = true → tpCtrl c 1 = true → tpCtrl c 2 = false → p < 10 → (s.knPort p).running = true →
      (Sparse.get none s.ms.lastK t.toNat).all (fun x => decide (x.1 ≠ p ∨ x.2 < k)) = true →
      (s.tplDt c : Int) < d → 0 ≤ d →
      let lastK := Sparse.put none s.ms.lastK t.toNat (some (p, k))
      ((s.sched p).cycle ≤ tpOffset c ∨ s.stValid (tpStream c) = false →
        exec (.templateLaunchCreate t) s = .next ({ s with ms := { s.ms with lastK := lastK } }.inc F.MS_SCHED_SKIP))
      ∧ ((tpOffset c : Int) < (s.sched p).cycle → s.stValid (tpStream c) = true → s.ln.items.length + max 1 (s.stPorts (tpStream c)).length ≤ 16384 →
        ∃ u, exec (.templateLaunchCreate t) s = .next u
          ∧ u.ms = { s.ms with lastK := lastK, launches := s.ms.launches ++ [⟨s.ln.next, t.toNat, k, d.toNat, p, s.pickEngine, c, s.msSlots t.toNat, s.msImage t.toNat, false, [], [], [], false⟩] }
          ∧ u.ln.next = s.ln.next + max 1 (s.stPorts (tpStream c)).length
          ∧ s.keepsRegs u [F.PT_TRACE_LOST, F.PT_TRACE_STAT_FULL, F.PT_TRACE_STAT_WPTR, F.PT_TRACE_STAT_LEVEL, F.PT_NO_CHOICE, F.LN_STATUS_WT_USED, F.LN_WT_HWM]
          ∧ u = { s with regs := u.regs, ms := u.ms, ln := { s.ln with items := u.ln.items, next := u.ln.next }, pt := u.pt, cl := u.cl }))
  ∧ (∀ (i : Nat) (l : TplLaunch) (s : State), s.launch i = some l → l.classed = false →
      (s.launchDt l + (s.launchLeads l).2.1 + 40 < l.dtl → exec (.slotClassify i) s = .next s)
      ∧ (l.dtl ≤ s.launchDt l + (s.launchLeads l).2.1 + 40 →
        let hot := fun p => !s.throughHorizon l p && (s.point p).any (fun r => r.hot) && !s.gy.moves.any (fun m => m.point == p)
        exec (.slotClassify i) s = .next (s.setLaunch { l with
          classed := true, hotWait := l.points.filter hot, dramWait := l.points.filter (fun p => !hot p), cold := l.points.any (fun p => !hot p) })))
  ∧ (∀ (i p : Nat) (l : TplLaunch) (s : State), s.launch i = some l → l.classed = true → tpCtrl l.ctl 2 = true → s.on F.MS_CTRL_HZN_EN = false →
      (l.dramWait = [p] → l.dtl ≤ s.launchDt l + (s.launchLeads l).2.1 → exec (.dramSlotRead i) s = .next (s.setLaunch { l with dramWait := [], reads := l.reads ++ [(p, s.point p)] }))
      ∧ (l.hotWait = [p] → s.ms.launches = [l] → s.gy.moveReq = [] → l.dtl ≤ s.launchDt l + (s.launchLeads l).1 →
        exec (.hotSlotRead i) s = .next (if s.hotCycles = 0 then s else { s with ms := { s.ms with
          launches := [{ l with hotWait := [], reads := l.reads ++ [(p, s.point p)] }], hotAt := s.tb.mono, hotUsed := 3 - s.hotCycles } }))
      ∧ (l.dramWait = [] ∨ s.launchDt l + (s.launchLeads l).2.1 < l.dtl → exec (.dramSlotRead i) s = .next s)
      ∧ (l.hotWait = [] ∨ s.launchDt l + (s.launchLeads l).1 < l.dtl → exec (.hotSlotRead i) s = .next s))
  ∧ (∀ (i : Nat) (l : TplLaunch) (s : State), s.launch i = some l → l.classed = true → l.hotWait = [] → l.dramWait = [] → l.tpl < 16384 →
      l.eng ≠ 7 → s.ms.disabling = none →
      (s.launchDt l + (s.launchLeads l).1 < l.dtl → exec (.assemblyHandoff i) s = .next s)
      ∧ (l.dtl ≤ s.launchDt l + (s.launchLeads l).1 → s.genOf (some (tpStream l.ctl)) = none → tpCtrl l.ctl 2 = false → s.copies l.item = [] →
        let ms := { s.ms with launches := s.ms.launches.filter (fun x => x.item != i) }
        (2 ≤ tpPol l.ctl → l.marked = true → exec (.assemblyHandoff i) s = .next { s.inc F.MS_SUPPRESS with ms := ms })
        ∧ (l.marked = false ∨ tpPol l.ctl = 0 → ∃ t, exec (.assemblyHandoff i) s = .next t
          ∧ t.rd F.MS_ASM_CNT = min (s.rd F.MS_ASM_CNT + 1) (2 ^ 32 - 1)
          ∧ Sparse.get 0 t.ms.ctl (l.tpl * 8 + 6) = BitVec.ofNat 64 l.dtl
          ∧ bits (Sparse.get 0 t.ms.ctl (l.tpl * 8 + 7)).toNat 0 32 = (bits (Sparse.get 0 s.ms.ctl (l.tpl * 8 + 7)).toNat 0 32 + 1) % 2 ^ 32
          ∧ t.rd F.MS_ASM_LATE = (if l.dtl * 10 < s.launchDt l * 10 + (s.launchLeads l).2.2 then min (s.rd F.MS_ASM_LATE + 1) (2 ^ 32 - 1) else s.rd F.MS_ASM_LATE)
          ∧ s.keepsRegs t [F.MS_ASM_CNT, F.MS_ASM_LATE, F.MS_COLD]
          ∧ t = { s with regs := t.regs, ms := { ms with ctl := t.ms.ctl } })))

/-- R200, R203, R212, R217, R230, R532, R533: FN_CMD, what each command changes, and its completion (`State.fnTick`, which each tick calls).
Where the manual leaves a point open it states the model's choice: log entries 26 (DESIGN CHOICE), 35 (DESIGN CHOICE). -/
def Obligations.IdentificationAndRecoveryCommands : Prop :=
  (∀ (m : Nat) (f : BitVec 15) (s : State), s.accepts m 0x80030 permW →
    let said := fun (t : State) (op : Nat) => { t.wr F.FN_CMD_RESULT_DONE 0 with fn := { t.fn with cmd := some (op, s.staging) } }
    let r := s.recOf f.toNat
    (∀ c, s.fn.cmd = some c →
      let no := s.wr F.FN_STATUS_WIN_REJ 1
      exec (.idInsert m) s = .next no ∧ exec (.idDelete m) s = .next no ∧ exec (.idFind m) s = .next no ∧ exec (.recReset m f) s = .next no
      ∧ exec (.clrRecCnt m f) s = .next no ∧ exec (.clrStreamCnt m f) s = .next no)
    ∧ (s.fn.cmd = none → s.on F.FN_STATUS_WIPING = true →
      exec (.idInsert m) s = .next (said s 4) ∧ exec (.idDelete m) s = .next (said s 4) ∧ exec (.idFind m) s = .next (said s 4)
      ∧ exec (.recReset m f) s = .next (said s 4) ∧ exec (.clrRecCnt m f) s = .next (said s 4) ∧ exec (.clrStreamCnt m f) s = .next (said s 4))
    ∧ (s.fn.cmd = none → s.on F.FN_STATUS_WIPING = false →
      exec (.idInsert m) s = .next (said s 1) ∧ exec (.idDelete m) s = .next (said s 2) ∧ exec (.idFind m) s = .next (said s 3)
      ∧ exec (.recReset m f) s = .next (said (s.setRec f.toNat { r with takeAny := true, hist := 0, resets := min (2 ^ 32 - 1) (r.resets + 1) }) 0)
      ∧ exec (.clrRecCnt m f) s = .next (said (s.setRec f.toNat { r with
          passed := 0, disc := 0, ooo := 0, rogue := 0, lost := 0, tagless := 0, resets := 0, latResets := 0, latBase := 0, latErr := false }) 0)
      ∧ ∃ t, exec (.clrStreamCnt m f) s = .next t ∧ t = said { s with fn := { s.fn with scnt := t.fn.scnt } } 0
        ∧ (∀ k, k < 131072 → Sparse.get 0 t.fn.scnt k = if k / 4 = f.toNat then 0 else Sparse.get 0 s.fn.scnt k)))
  ∧ (∀ (op : Nat) (e : List DWord) (s : State), s.fn.cmd = some (op, e) →
    let t := s.fnTick
    let i := lowestFree 0 (s.fn.ids.map (·.1))
    let full := fun (t : State) => t.rd F.FN_CMD_RESULT_CODE = 2 ∧ t.rd F.FN_ID_FAIL = min (s.rd F.FN_ID_FAIL + 1) (2 ^ 32 - 1)
      ∧ ⟨Src.FN_ID_FULL, 0xFF, none, 0, false⟩ ∈ t.cl.inbox ∧ s.keepsRegs t [F.FN_CMD_RESULT_DONE, F.FN_CMD_RESULT_CODE, F.FN_ID_FAIL]
      ∧ t.fn = { s.fn with cmd := none }
    let placed := fun (t : State) (n : Nat) => t.rd F.FN_CMD_RESULT_CODE = 0 ∧ t.rd F.FN_STATUS_ID_USED = s.rd F.FN_STATUS_ID_USED + 1
      ∧ t.rd F.FN_CMD_RESULT_INDEX = i % 2 ^ 15
      ∧ s.keepsRegs t [F.FN_CMD_RESULT_DONE, F.FN_CMD_RESULT_CODE, F.FN_STATUS_ID_USED, F.FN_CMD_RESULT_INDEX]
      ∧ t = { s with
          regs := t.regs, freeIdx := s.freeIdx + n, fn := { s.fn with cmd := none, ids := Sparse.put none s.fn.ids i (some e) } }
    t.rd F.FN_CMD_RESULT_DONE = 1 ∧ t.fn.cmd = none
    ∧ (op = 0 ∨ 4 ≤ op → t.rd F.FN_CMD_RESULT_CODE = (if op = 0 then 0 else 5) ∧ t.fn = { s.fn with cmd := none }
      ∧ s.keepsRegs t [F.FN_CMD_RESULT_DONE, F.FN_CMD_RESULT_CODE])
    ∧ (op = 1 → idMethod (idBytes e) = 3 ∨ idTagged (idBytes e) = 3 → t.rd F.FN_CMD_RESULT_CODE = 4 ∧ t.fn = { s.fn with cmd := none }
      ∧ s.keepsRegs t [F.FN_CMD_RESULT_DONE, F.FN_CMD_RESULT_CODE])
    ∧ (op = 1 → idMethod (idBytes e) ≠ 3 → idTagged (idBytes e) ≠ 3 →
      (∀ n, s.idFind e = some n → t.rd F.FN_CMD_RESULT_CODE = 1 ∧ t.rd F.FN_CMD_RESULT_INDEX = n % 2 ^ 15 ∧ t.fn = { s.fn with cmd := none }
        ∧ s.keepsRegs t [F.FN_CMD_RESULT_DONE, F.FN_CMD_RESULT_CODE, F.FN_CMD_RESULT_INDEX])
      ∧ (s.idFind e = none → (s.rd F.FN_STATUS_ID_USED < 24576 → placed t 0) ∧ (32768 ≤ s.rd F.FN_STATUS_ID_USED → full t)
        ∧ (24576 ≤ s.rd F.FN_STATUS_ID_USED → s.rd F.FN_STATUS_ID_USED < 32768 → placed t 1 ∨ full t)))
    ∧ (op = 2 ∨ op = 3 → s.idFind e = none → t.rd F.FN_CMD_RESULT_CODE = 3 ∧ t.fn = { s.fn with cmd := none }
      ∧ s.keepsRegs t [F.FN_CMD_RESULT_DONE, F.FN_CMD_RESULT_CODE])
    ∧ (∀ n, s.idFind e = some n →
      (op = 2 → t.rd F.FN_CMD_RESULT_CODE = 0 ∧ t.rd F.FN_CMD_RESULT_INDEX = n % 2 ^ 15
        ∧ t.rd F.FN_STATUS_ID_USED = (s.rd F.FN_STATUS_ID_USED - 1) % 65536
        ∧ s.keepsRegs t [F.FN_CMD_RESULT_DONE, F.FN_CMD_RESULT_CODE, F.FN_STATUS_ID_USED, F.FN_CMD_RESULT_INDEX]
        ∧ t = { s with regs := t.regs, fn := { s.fn with cmd := none, ids := Sparse.put none s.fn.ids n none } })
      ∧ (op = 3 → t.rd F.FN_CMD_RESULT_CODE = 0 ∧ t.rd F.FN_CMD_RESULT_INDEX = n % 2 ^ 15
        ∧ t.staging = (List.range 7).map (((Sparse.get none s.fn.ids n).getD []).getD · 0)
        ∧ s.keepsRegs t [F.FN_CMD_RESULT_DONE, F.FN_CMD_RESULT_CODE, F.FN_CMD_RESULT_INDEX]
        ∧ t = { s with regs := t.regs, fn := { s.fn with cmd := none, staging := t.fn.staging } })))

/-- R195, R212, R217, R218, R230, R533: a recovery function's time-out, its latent-error test and reset, and the memory window. Where the
manual leaves a point open it states the model's choice: log entry 36 (DEDUCED). -/
def Obligations.RecoveryTimersAndTheWindow : Prop :=
  (∀ (f : BitVec 15) (s : State),
    let i := f.toNat
    let r := s.recOf i
    (s.recResetMs i = 0 ∨ r.timer = 0 ∨ s.tb.mono < r.timer → exec (.recoveryTimeout f) s = .next s)
    ∧ (s.recResetMs i ≠ 0 → r.timer ≠ 0 → r.timer ≤ s.tb.mono → exec (.recoveryTimeout f) s =
      .next (s.setRec i { r with timer := 0, takeAny := true, hist := 0, resets := min (2 ^ 32 - 1) (r.resets + 1) }))
    ∧ (s.tb.mono < r.latAt + max 1 (bits (s.recCfg i 1) 0 16) * 1000000 → exec (.latentTest f) s = .next s)
    ∧ (r.latAt + max 1 (bits (s.recCfg i 1) 0 16) * 1000000 ≤ s.tb.mono →
      (s.latRuns i = true → (bits (s.recCfg i 0) 32 16 : Int) < |(r.passed : Int) * ((s.recPaths i : Int) - 1) - r.disc - r.latBase| →
        exec (.latentTest f) s = .next (((s.setRec i { r with latAt := s.tb.mono, latErr := true }).inc F.FN_LATENT_CNT).raise0 Src.FN_LATENT i))
      ∧ (s.latRuns i = false ∨ |(r.passed : Int) * ((s.recPaths i : Int) - 1) - r.disc - r.latBase| ≤ (bits (s.recCfg i 0) 32 16 : Int) →
        exec (.latentTest f) s = .next (s.setRec i { r with latAt := s.tb.mono })))
    ∧ (s.tb.mono < r.latRstAt + max 1 (bits (s.recCfg i 1) 16 16) * 1000000000 → exec (.latentReset f) s = .next s)
    ∧ (r.latRstAt + max 1 (bits (s.recCfg i 1) 16 16) * 1000000000 ≤ s.tb.mono → s.latRuns i = true →
      exec (.latentReset f) s = .next (s.setRec i { r with
        latRstAt := s.tb.mono, latBase := (r.passed : Int) * ((s.recPaths i : Int) - 1) - r.disc, latErr := false, latResets := min (2 ^ 32 - 1) (r.latResets + 1) })))
  ∧ (∀ (m : Nat) (hi : Word) (s : State), s.accepts m 0x8004C permW →
      let sp := s.rd F.FN_MSEL
      let a := s.rd F.FN_MADDR
      let w : DWord := BitVec.ofNat 64 (s.heldLow m 0x80048 + 2 ^ 32 * hi.toNat)
      let low := Sparse.put none s.loHeld (m * 2 ^ 24 + 0x80048) none
      (s.on F.FN_STATUS_WIPING = true ∨ (sp ≠ 0 ∧ sp ≠ 2 ∧ sp ≠ 4 ∧ sp ≠ 5) ∨ (fnSpace sp).1 ≤ a →
        exec (.fnMdataWrite m hi) s = .next { (s.wr F.FN_STATUS_WIN_REJ 1).wr F.FN_MADDR (a + 1) with loHeld := low })
      ∧ (s.on F.FN_STATUS_WIPING = false → (sp = 0 ∧ a < 131072 ∧ a % 4 ≠ 3) ∨ (sp = 2 ∧ a < 6) ∨ (sp = 4 ∧ a < 32768 ∧ a % 2 = 0) ∨ (sp = 5 ∧ a < 65536 ∧ a % 2 = 0) →
        exec (.fnMdataWrite m hi) s = .next { s.wr F.FN_MADDR (a + 1) with
          fn := { s.fn with part := Sparse.put none s.fn.part (sp * 2 ^ 18 + a) (some w) }, loHeld := low })
      ∧ (s.on F.FN_STATUS_WIPING = false → sp = 4 → a < 32768 → a % 2 = 1 → ∀ w0, Sparse.get none s.fn.part (sp * 2 ^ 18 + (a - 1)) = some w0 →
        ∃ t, exec (.fnMdataWrite m hi) s = .next t
          ∧ Sparse.get 0 t.fn.gens (a - 1) = mergeWord 0x00FFFFFFFFFF0007 (Sparse.get 0 s.fn.gens (a - 1)) w0
          ∧ Sparse.get 0 t.fn.gens a = mergeWord 0xFFFF (Sparse.get 0 s.fn.gens a) w
          ∧ (∀ k, k ≠ a → k + 1 ≠ a → Sparse.get 0 t.fn.gens k = Sparse.get 0 s.fn.gens k)
          ∧ Sparse.get none t.fn.part (sp * 2 ^ 18 + a) = none ∧ Sparse.get none t.fn.part (sp * 2 ^ 18 + (a - 1)) = none
          ∧ t = { s.wr F.FN_MADDR (a + 1) with fn := { s.fn with gens := t.fn.gens, part := t.fn.part }, loHeld := low }))

/-- R219 to R221, R224, R226, R231, R232, R532: PS_CMD, its result, what each command changes, and the memory window. Where the manual leaves
a point open it states the model's choice: log entry 37 (DEDUCED). -/
def Obligations.FilterCommandsAndWindow : Prop :=
  (∀ (m : Nat) (f : BitVec 12) (s : State), s.accepts m 0x90008 permW →
    let said := fun (t : State) (code : Nat) => (t.wr F.PS_CMD_RESULT_DONE 1).wr F.PS_CMD_RESULT_CODE code
    let i := f.toNat
    let fw := (Sparse.get 0 s.ps.filters (i * 2)).toNat
    let mw := fun n => (Sparse.get 0 s.ps.meters (i * 4 + n)).toNat
    (s.on F.PS_STATUS_WIPING = true → exec (.psUnblock m f) s = .next (said s 3) ∧ exec (.psClrFilterCnt m f) s = .next (said s 3)
      ∧ exec (.meterReset m f) s = .next (said s 3) ∧ exec (.gateReopen m f) s = .next (said s 3))
    ∧ (s.on F.PS_STATUS_WIPING = false →
      (bits fw 0 1 = 0 → exec (.psUnblock m f) s = .next (said s 2) ∧ exec (.psClrFilterCnt m f) s = .next (said s 2))
      ∧ (bits fw 0 1 = 1 →
        (bits fw 5 1 = 1 → exec (.psUnblock m f) s = .next (said
          ({ s with ps := { s.ps with filters := Sparse.put 0 s.ps.filters (i * 2) (BitVec.ofNat 64 (fw - 2 ^ 5)) } }.wr F.PS_STATUS_BLOCKED
            (s.rd F.PS_STATUS_BLOCKED - 1)) 0))
        ∧ ∃ t, exec (.psClrFilterCnt m f) s = .next t ∧ t = said { s with ps := { s.ps with fcnt := t.ps.fcnt } } 0
          ∧ (∀ k, k < 32768 → Sparse.get 0 t.ps.fcnt k = if k / 8 = i then 0 else Sparse.get 0 s.ps.fcnt k))
      ∧ (bits (mw 2) 0 1 = 0 → exec (.meterReset m f) s = .next (said s 2))
      ∧ (bits (mw 2) 0 1 = 1 → exec (.meterReset m f) s = .next (said { s with ps := { s.ps with
          toks := Sparse.put Meter.empty s.ps.toks i ⟨bits (mw 0) 32 32 * 8000000, bits (mw 1) 32 32 * 8000000, s.tb.mono⟩,
          meters := Sparse.put 0 s.ps.meters (i * 4 + 2) (BitVec.ofNat 64 (mw 2 - 32 * bits (mw 2) 5 1)) } } 0))
      ∧ (1024 ≤ i → exec (.gateReopen m f) s = .next (said s 1))
      ∧ (i < 1024 → s.police i < 16 → exec (.gateReopen m f) s = .next (said { s with ps := { s.ps with
          police := Sparse.put 0 s.ps.police i (s.police i % 4) } } 0))))
  ∧ (∀ (m : Nat) (hi : Word) (s : State), s.accepts m 0x9001C permW →
      let sp := s.rd F.PS_MSEL
      let a := s.rd F.PS_MADDR
      let w := s.heldLow m 0x90018 + 2 ^ 32 * hi.toNat
      let low := Sparse.put none s.loHeld (m * 2 ^ 24 + 0x90018) none
      (s.on F.PS_STATUS_WIPING = true ∨ sp = 1 ∨ (sp = 0 ∧ 8192 ≤ a) ∨ (sp = 3 ∧ 1024 ≤ a) →
        exec (.psMdataWrite m hi) s = .next { (s.wr F.PS_STATUS_WIN_REJ 1).wr F.PS_MADDR (a + 1) with loHeld := low })
      ∧ (s.on F.PS_STATUS_WIPING = false → sp = 3 → a < 1024 → exec (.psMdataWrite m hi) s = .next { s.wr F.PS_MADDR (a + 1) with
          ps := { s.ps with police := Sparse.put 0 s.ps.police a (putBits (s.police a) 0 2 w) }, loHeld := low })
      ∧ (s.on F.PS_STATUS_WIPING = false → sp = 0 → a < 8192 → a % 2 = 0 → exec (.psMdataWrite m hi) s = .next { s.wr F.PS_MADDR (a + 1) with
          ps := { s.ps with part := Sparse.put none s.ps.part a (some (BitVec.ofNat 64 w)) }, loHeld := low })
      ∧ (s.on F.PS_STATUS_WIPING = false → sp = 0 → a < 8192 → a % 2 = 1 → Sparse.get none s.ps.part (a - 1) = none →
        ∃ t, exec (.psMdataWrite m hi) s = .next t
          ∧ Sparse.get 0 t.ps.filters a = mergeWord 0xFFFF (Sparse.get 0 s.ps.filters a) (BitVec.ofNat 64 w)
          ∧ (∀ k, k ≠ a → Sparse.get 0 t.ps.filters k = Sparse.get 0 s.ps.filters k)
          ∧ t = { s.wr F.PS_MADDR (a + 1) with ps := { s.ps with filters := t.ps.filters, part := t.ps.part }, loHeld := low }))

/-- R201, R202, R204, R213 to R216, R461, R466: the lookup of an arriving frame, the evaluation of its number, and its end. Where the manual
leaves a point open it states the model's choice: log entries 36 (DEDUCED), 41 (DESIGN CHOICE), 52 (DEDUCED). -/
def Obligations.ReceivedFrames : Prop :=
  (∀ (p : Fin 10) (pre : Bool) (head : List Byte) (ago : Nat) (s : State),
      s.linkUp p.val = true → s.loops p.val = false → s.rxOf (rxSlot p.val pre) = none →
      let fr := s.newRx p.val pre head ago
      let put := fun (t : State) (x : RxFrame) => { t with rx := Sparse.put none t.rx (rxSlot p.val pre) (some x) }
      (2 ≤ p.val ∨ fieldsIn head = false → exec (.streamLookup ⟨p, pre⟩ head ago) s = .next (put s fr))
      ∧ (p.val < 2 → fieldsIn head = true → s.kept p.val head = false →
        (s.identify p.val head = none → bits (s.rd F.FN_UNID_ACT) (2 * p.val) 1 = 0 →
          exec (.streamLookup ⟨p, pre⟩ head ago) s = .next (put s { fr with look := some none }))
        ∧ (∀ h, s.identify p.val head = some h →
          let e0 := Sparse.get 0 s.fn.streams (h * 4)
          let e1 := Sparse.get 0 s.fn.streams (h * 4 + 1)
          let fr1 := { fr with
            look := some (some h), e0 := e0, e1 := e1, rcfg := Sparse.get 0 s.fn.recCfg (bits e1.toNat 0 15 * 2),
            filt := s.psPick (bits e0.toNat 6 1 == 1) (framePrio head (s.defPrio p.val)) (bits e1.toNat 16 12) }
          let m := s.mapBegin (bits e1.toNat 32 14)
          let a := if bits e0.toNat 3 1 = 1 then (m.1, { fr1 with maps := some m.2 }) else (s, fr1)
          (a.1.psHead a.2 = none → exec (.streamLookup ⟨p, pre⟩ head ago) s = .next (put a.1 a.2))
          ∧ (∀ ipv, a.1.psHead a.2 = some ipv → bits e0.toNat 1 1 = 0 ∨ (a.1.recRuns a.2 = true ∧ hasRtag head = true) →
            exec (.streamLookup ⟨p, pre⟩ head ago) s = .next (put a.1 { a.2 with ipv := ipv })))))
  ∧ (∀ (p : Fin 10) (pre : Bool) (fr : RxFrame) (h : Nat) (s : State), s.rxOf (rxSlot p.val pre) = some fr → fr.port = p.val →
      (∀ q, q < p.val → s.rxOf (rxSlot q false) = none ∧ s.rxOf (rxSlot q true) = none) → fr.look = some (some h) →
      let f := bits fr.e1.toNat 0 15
      let fr0 := { fr with rcfg := Sparse.get 0 s.fn.recCfg (f * 2) }
      s.recRuns fr0 = true → hasRtag fr.data = true → fr.verdict = .open → (s.psHead fr).isSome = true →
      let n := rtagSeq fr.data
      let r := s.recOf f
      let d := toSigned 16 (ofSigned 16 ((n : Int) - r.seq))
      let put := fun (t : State) (v : RecV) => { t with rx := Sparse.put none t.rx (rxSlot p.val pre) (some { fr0 with verdict := v }) }
      (r.pend.any (fun x => x.2 == n && x.1 != p) = true →
        exec (.recoveryEvaluate ⟨p, pre⟩) s = .next (put (s.inc F.FN_PEND_WAIT) (.held f n)))
      ∧ (r.pend = [] →
        (r.takeAny = true ∨ (s.recMatch f = true ∧ n ≠ r.seq) ∨ (s.recMatch f = false ∧ 0 < d ∧ d < s.recHist f)
            ∨ (s.recMatch f = false ∧ d ≤ 0 ∧ -(s.recHist f : Int) < d ∧ bits r.hist d.natAbs 1 = 0) → fr.fwd = false →
          exec (.recoveryEvaluate ⟨p, pre⟩) s = .next (put (s.setRec f { r with pend := [(p.val, n)] }) (.pending f n)))
        ∧ (r.takeAny = false → (s.recMatch f = true ∧ n = r.seq)
            ∨ (s.recMatch f = false ∧ d ≤ 0 ∧ -(s.recHist f : Int) < d ∧ bits r.hist d.natAbs 1 = 1) →
          exec (.recoveryEvaluate ⟨p, pre⟩) s = .next (put (s.setRec f { r with disc := min (2 ^ 32 - 1) (r.disc + 1) }) .drop))
        ∧ (r.takeAny = false → s.recMatch f = false → (s.recHist f : Int) ≤ d ∨ d ≤ -(s.recHist f : Int) →
          exec (.recoveryEvaluate ⟨p, pre⟩) s = .next (put (((s.setRec f { r with rogue := min (2 ^ 32 - 1) (r.rogue + 1) }).inc F.FN_ROGUE_CNT).raise0
            Src.FN_ROGUE f) .drop))))
  ∧ (∀ (p : Fin 10) (data : List Byte) (coding : Bool) (ago : Nat) (s : State),
      s.rxOf p.val = none → s.rxLink p.val = true → s.loops p.val = false →
      let s0 := { s with rx := Sparse.put none s.rx p.val none }
      let cut := data.take (s.maxFrame p.val + 1)
      let lost := fun (t : State) (g : Fld) => t.rd g = min (s.rd g + 1) (2 ^ 32 - 1) ∧ t.qe = s.qe ∧ t.ln = s.ln ∧ t.gy = s.gy
        ∧ (s.kept p.val cut = true → t.fn = s.fn ∧ t.rd F.FN_UNID_CNT = s.rd F.FN_UNID_CNT)
        ∧ (s.kept p.val cut = false → s.identify p.val cut = none →
          t.fn = s.fn ∧ t.rd F.FN_UNID_CNT = min (s.rd F.FN_UNID_CNT + 1) (2 ^ 32 - 1))
      (p.val < 2 →
        (∃ t, exec (.rxFrameEnd p data coding true ago) s = .next t ∧ lost t (F.BP_RX_OVF p.val)
          ∧ ⟨Src.BB_RX_OVF, p.val, none, 0, false⟩ ∈ t.cl.inbox)
        ∧ ((s0.storeChain ⟨8 + p.val, none, false, none⟩ cut).2 = none →
          ∃ t, exec (.rxFrameEnd p data coding false ago) s = .next t ∧ lost t (F.BP_RX_NOCELL p.val))
        ∧ ((s0.storeChain ⟨8 + p.val, none, false, none⟩ cut).2.isSome = true →
          (coding = false → data.length < 64 → ∃ t, exec (.rxFrameEnd p data coding false ago) s = .next t ∧ lost t (F.BP_RX_RUNT p.val))
          ∧ (coding = true ∨ (64 ≤ data.length ∧ data.length ≤ s.maxFrame p.val ∧ fcsGood data = false) →
            ∃ t, exec (.rxFrameEnd p data coding false ago) s = .next t ∧ lost t (F.BP_RX_FCS_ERR p.val))
          ∧ (coding = false → 64 ≤ data.length → s.maxFrame p.val < data.length →
            ∃ t, exec (.rxFrameEnd p data coding false ago) s = .next t ∧ lost t (F.BP_RX_OVERSIZE p.val))
          ∧ (coding = false → 64 ≤ data.length → data.length ≤ s.maxFrame p.val → fcsGood data = true → s.kept p.val data = false →
            s.identify p.val data = none → s.rd F.FN_UNID_ACT = 0 →
            ∃ t, exec (.rxFrameEnd p data coding false ago) s = .next t
              ∧ t.rd F.FN_UNID_CNT = min (s.rd F.FN_UNID_CNT + 1) (2 ^ 32 - 1)
              ∧ t.rd64 (F.BP_RX_FRAMES_LO p.val) (F.BP_RX_FRAMES_HI p.val) = min (s.rd64 (F.BP_RX_FRAMES_LO p.val) (F.BP_RX_FRAMES_HI p.val) + 1) (2 ^ 64 - 1)
              ∧ t.rd64 (F.BP_RX_BYTES_LO p.val) (F.BP_RX_BYTES_HI p.val)
                = min (s.rd64 (F.BP_RX_BYTES_LO p.val) (F.BP_RX_BYTES_HI p.val) + data.length) (2 ^ 64 - 1)
              ∧ t.rx = s0.rx ∧ t.fn = s.fn ∧ t.qe = s.qe ∧ t.ln = s.ln ∧ t.gy = s.gy)))
      ∧ (2 ≤ p.val → s.rxCheck p.val data coding = none →
        ∃ t, exec (.rxFrameEnd p data coding false ago) s = .next t
          ∧ t.fd.cross = s.fd.cross ++ [{ s.newRx p.val false [] ago with data := cut }]
          ∧ Sparse.get 0 t.fd.cnt (F.FP_RX_FRAMES (p.val - 2)).key = Sparse.get 0 s.fd.cnt (F.FP_RX_FRAMES (p.val - 2)).key + 1
          ∧ t = { s with rx := s0.rx, fd := { s.fd with cross := t.fd.cross, cnt := t.fd.cnt } }))

/-- R262, R263, R271 to R274, R284, R289, R290: the roles of a twin: EN, forming alone, the lease's expiry, a claim and a release of the peer,
and TW_CMD. A claim raises EPOCH beyond every epoch seen, makes the twin act, counts and raises TW_CLAIM. Where the manual leaves a point
open it states the model's choice: log entries 42 (DEDUCED), 43 (DEDUCED). -/
def Obligations.RolesOfTheTwin : Prop :=
  ∀ (m : Nat) (pulse : Bool) (pair epoch : Word) (id : Fin 2) (s : State),
    let role := s.rd F.TW_STATUS_ROLE
    let claimed := fun (s t : State) => t.rd F.TW_STATUS_ROLE = 4 ∧ t.rd F.TW_STATUS_READY = 1
      ∧ t.rd F.TW_EPOCH = (max (s.rd F.TW_EPOCH) (s.rd F.TW_PEER_EPOCH) + 1) % 2 ^ 32
      ∧ t.rd64 F.TW_LAST_CLAIM_DT_LO F.TW_LAST_CLAIM_DT_HI = s.tb.dt.toNat
      ∧ t.rd F.TW_CLAIM_CNT = min (s.rd F.TW_CLAIM_CNT + 1) (2 ^ 32 - 1)
      ∧ ⟨Src.TW_CLAIM, 0xFF, none, t.rd F.TW_EPOCH, false⟩ ∈ t.cl.inbox
      ∧ t.tw.bbLeft = max 1 (s.rd F.TW_CLAIM_CFG_REPEAT)
      ∧ (s.fwRuns = false → s.keepsRegs t [F.TW_STATUS_ROLE, F.TW_STATUS_READY, F.TW_EPOCH, F.TW_PEER_EPOCH, F.TW_LAST_CLAIM_DT_LO, F.TW_LAST_CLAIM_DT_HI,
          F.TW_CLAIM_CNT, F.TW_RS_STAT_ACTIVE, F.TW_CMD_RESULT_DONE, F.TW_CMD_RESULT_CODE, F.TW_STATUS_PEER_OK])
      ∧ t.gy = s.gy ∧ t.kn = s.kn ∧ t.ms = s.ms ∧ t.ln = s.ln
    let said := fun (t : State) (code : Nat) => (t.wr F.TW_CMD_RESULT_DONE 1).wr F.TW_CMD_RESULT_CODE code
    let listens := s.on F.TW_CTRL_EN = true ∧ s.on (if pulse then F.TW_CTRL_PULSE_EN else F.TW_CTRL_DOLNOS_EN) = true
      ∧ pair.toNat = s.rd F.TW_PAIR_ID ∧ id.val ≠ s.rd F.TW_STATUS_TWIN_ID
    (s.accepts m 0x120000 permW →
      (s.on F.TW_CTRL_EN = false → ∃ t, exec (.twinEnable m) s = .next t ∧ t.on F.TW_CTRL_EN = true ∧ t.rd F.TW_STATUS_ROLE = 1 ∧ t.rd F.TW_STATUS_READY = 0
        ∧ t.tw.since = s.tb.mono ∧ t.tw.hbNext = s.tb.mono ∧ s.keepsRegs t [F.TW_CTRL_EN, F.TW_STATUS_ROLE, F.TW_STATUS_READY])
      ∧ (s.on F.TW_CTRL_EN = true → exec (.twinEnable m) s = .next s)
      ∧ (s.on F.TW_CTRL_EN = true → ∃ t, exec (.twinDisable m) s = .next t ∧ t.on F.TW_CTRL_EN = false ∧ t.rd F.TW_STATUS_ROLE = 0
        ∧ t.rd F.TW_EPOCH = 0 ∧ t.rd F.TW_STATUS_PEER_OK = 0 ∧ t.hz = s.hz ∧ t.tw.dirty = s.tw.dirty ∧ t.tw.unacked = [] ∧ t.gy = s.gy)
      ∧ (s.on F.TW_CTRL_EN = false → exec (.twinDisable m) s = .next s))
    ∧ (role = 1 → s.on F.TW_STATUS_PEER_OK = false → s.tw.peerLostSent = false → s.tw.since + s.rd F.TW_FORM_WAIT * 1000000 ≤ s.tb.mono →
      (s.on F.TW_CTRL_CLAIM_ALONE = true → ∃ t, exec .formWaitExpiry s = .next t ∧ claimed s t)
      ∧ (s.on F.TW_CTRL_CLAIM_ALONE = false → exec .formWaitExpiry s =
        .next ({ s with tw := { s.tw with peerLostSent := true } }.raise0 Src.TW_PEER_LOST 0)))
    ∧ (role ≠ 1 ∨ s.on F.TW_STATUS_PEER_OK = true ∨ s.tb.mono < s.tw.since + s.rd F.TW_FORM_WAIT * 1000000 → exec .formWaitExpiry s = .next s)
    ∧ (s.on F.TW_CTRL_EN = true → max s.tw.since (max (s.tw.hbD.getD 0) (s.tw.hbP.getD 0)) + s.silenceNs ≤ s.tb.mono →
      (role = 3 → s.on F.TW_STATUS_SELFTEST_FAIL = false ∨ s.on F.TW_CTRL_CLAIM_IF_FAILED = true →
        ∃ t, exec .leaseExpiry s = .next t ∧ claimed s t ∧ t.rd F.TW_STATUS_PEER_OK = 0)
      ∧ (role = 3 → s.on F.TW_STATUS_SELFTEST_FAIL = true → s.on F.TW_CTRL_CLAIM_IF_FAILED = false →
        exec .leaseExpiry s = .next (s.wr F.TW_STATUS_PEER_OK 0)))
    ∧ (s.on F.TW_CTRL_EN = false ∨ s.tb.mono < max s.tw.since (max (s.tw.hbD.getD 0) (s.tw.hbP.getD 0)) + s.silenceNs → exec .leaseExpiry s = .next s)
    ∧ (¬ listens → exec (.claimRx pulse pair epoch id) s = .next s ∧ exec (.releaseRx pulse pair epoch id) s = .next s)
    ∧ (listens →
      (role ≠ 4 ∨ epoch.toNat < s.rd F.TW_EPOCH → exec (.claimRx pulse pair epoch id) s =
        .next (s.wr F.TW_PEER_EPOCH (max epoch.toNat (s.rd F.TW_PEER_EPOCH))))
      ∧ (role = 4 → s.rd F.TW_EPOCH < epoch.toNat → ∃ t, exec (.claimRx pulse pair epoch id) s = .next t ∧ t.rd F.TW_STATUS_ROLE = 2
        ∧ t.rd F.TW_STATUS_READY = 0 ∧ t.rd F.TW_PEER_EPOCH = max epoch.toNat (s.rd F.TW_PEER_EPOCH)
        ∧ t.rd F.TW_YIELD_CNT = min (s.rd F.TW_YIELD_CNT + 1) (2 ^ 32 - 1) ∧ t.hz.queue = [] ∧ t.hz.view = [] ∧ t.gy = s.gy)
      ∧ (role = 3 → s.rd F.TW_PEER_EPOCH ≤ epoch.toNat → ∃ t, exec (.releaseRx pulse pair epoch id) s = .next t
        ∧ claimed (s.wr F.TW_PEER_EPOCH epoch.toNat) t)
      ∧ (role ≠ 3 ∨ epoch.toNat < s.rd F.TW_PEER_EPOCH → exec (.releaseRx pulse pair epoch id) s =
        .next (s.wr F.TW_PEER_EPOCH (max epoch.toNat (s.rd F.TW_PEER_EPOCH)))))
    ∧ (s.accepts m 0x120008 permW →
      (s.on F.TW_CTRL_EN = false → exec (.twRelease m) s = .next (said s 5) ∧ exec (.forceClaim m) s = .next (said s 5) ∧ exec (.rejoin m) s = .next (said s 5))
      ∧ (s.on F.TW_CTRL_EN = true →
        (role = 4 → exec (.forceClaim m) s = .next (said s 4))
        ∧ (role ≠ 4 → exec (.twRelease m) s = .next (said s 1)
          ∧ ∃ t, exec (.forceClaim m) s = .next t ∧ claimed s t ∧ t.rd F.TW_CMD_RESULT_CODE = 0)
        ∧ (role = 4 → s.on F.TW_STATUS_PEER_OK = false → exec (.twRelease m) s = .next (said s 2))
        ∧ (role = 4 → s.on F.TW_STATUS_PEER_OK = true → s.tw.peerRole ≠ 3 ∨ s.tw.peerReady = false → exec (.twRelease m) s = .next (said s 3))
        ∧ (role = 4 → s.on F.TW_STATUS_PEER_OK = true → s.tw.peerRole = 3 → s.tw.peerReady = true → ∃ t, exec (.twRelease m) s = .next t
          ∧ t.rd F.TW_STATUS_ROLE = 3 ∧ t.rd F.TW_CMD_RESULT_CODE = 0 ∧ t.rd F.TW_EPOCH = s.rd F.TW_EPOCH ∧ t.tw.bbLeft = 0 ∧ t.gy = s.gy
          ∧ s.keepsRegs t [F.TW_STATUS_ROLE, F.TW_STATUS_READY, F.TW_CMD_RESULT_DONE, F.TW_CMD_RESULT_CODE])
        ∧ (role = 3 ∨ (role = 4 ∧ s.on F.TW_STATUS_PEER_OK = false) → ∃ t, exec (.rejoin m) s = .next t
          ∧ t.rd F.TW_STATUS_ROLE = 2 ∧ t.rd F.TW_CMD_RESULT_CODE = 0 ∧ t.tw.rsWait = true ∧ t.hz.queue = [] ∧ t.hz.view = [])
        ∧ (role = 4 → s.on F.TW_STATUS_PEER_OK = true → exec (.rejoin m) s = .next (said s 4))))

/-- R264 to R270, R275, R280, R282, R286: heartbeats sent and received, the loss of a path, backbone claims, the assembly self-test and the
windows of frame agreement. Where the manual leaves a point open it states the model's choice: log entries 42 (DEDUCED), 43 (DEDUCED). -/
def Obligations.HeartbeatsAndAgreement : Prop :=
  (∀ (s : State),
    (s.on F.TW_CTRL_EN = false ∨ s.tb.mono < s.tw.hbNext → exec .heartbeatTx s = .next s)
    ∧ (s.on F.TW_CTRL_EN = true → s.tw.hbNext ≤ s.tb.mono → s.rd F.CRP_PWR_STATUS_STATE ≠ pwHold → ∃ t, exec .heartbeatTx s = .next t
      ∧ t.tw.hbNext = s.tb.mono + max 20 (min 10000 (s.rd F.TW_HB_CFG_PERIOD_US)) * 1000
      ∧ t.tw.hbSeq = (s.tw.hbSeq + 1) % 65536
      ∧ t.rd F.TW_HB_TX = min (s.rd F.TW_HB_TX + (s.on F.TW_CTRL_DOLNOS_EN).toNat + (s.on F.TW_CTRL_PULSE_EN).toNat) (2 ^ 32 - 1)
      ∧ t.rd F.TW_STATUS_ROLE = s.rd F.TW_STATUS_ROLE ∧ t.rd F.TW_EPOCH = s.rd F.TW_EPOCH ∧ t.gy = s.gy ∧ t.ln = s.ln))
  ∧ (∀ (pulse : Bool) (pair : Word) (data : List Byte) (ago : Nat) (s : State),
      (s.on F.TW_CTRL_EN = false ∨ s.on (if pulse then F.TW_CTRL_PULSE_EN else F.TW_CTRL_DOLNOS_EN) = false →
        exec (.heartbeatRx pulse pair data ago) s = .next s)
      ∧ (s.on F.TW_CTRL_EN = true → pulse = true → s.on F.TW_CTRL_PULSE_EN = true →
        (data.length ≠ 16 ∨ data.drop 14 ≠ pulseCrc (data.take 14) ∨ pair.toNat ≠ s.rd F.TW_PAIR_ID →
          exec (.heartbeatRx pulse pair data ago) s = .next (s.inc F.TW_HB_BAD))
        ∧ (data.length = 16 → data.drop 14 = pulseCrc (data.take 14) → pair.toNat = s.rd F.TW_PAIR_ID →
          (leNat (slice data 1 1) % 2 = s.rd F.TW_STATUS_TWIN_ID →
            exec (.heartbeatRx pulse pair data ago) s = .next ((s.inc F.TW_HB_BAD).raise0 Src.TW_ID_CONFLICT 0))
          ∧ (leNat (slice data 1 1) % 2 ≠ s.rd F.TW_STATUS_TWIN_ID → s.rd F.TW_STATUS_ROLE ≠ 1 → s.rd F.TW_STATUS_ROLE ≠ 4 →
            ∃ t, exec (.heartbeatRx pulse pair data ago) s = .next t
              ∧ t.rd F.TW_HB_RX_P = min (s.rd F.TW_HB_RX_P + 1) (2 ^ 32 - 1) ∧ t.tw.hbP = some s.tb.mono ∧ t.rd F.TW_STATUS_PEER_OK = 1
              ∧ t.rd F.TW_STATUS_PEER_ACTING = (if leNat (slice data 1 1) / 2 % 8 = 4 then 1 else 0)
              ∧ t.rd F.TW_STATUS_PEER_HEALTH = leNat (slice data 12 1)
              ∧ t.rd F.TW_PEER_EPOCH = max (leNat (slice data 8 4)) (s.rd F.TW_PEER_EPOCH)
              ∧ t.rd F.TW_STATUS_PULSE_UP = (if s.tw.rowP = 0 then s.rd F.TW_STATUS_PULSE_UP else 1)
              ∧ s.keepsRegs t [F.TW_HB_RX_P, F.TW_STATUS_PEER_OK, F.TW_STATUS_PEER_ACTING, F.TW_STATUS_PEER_HEALTH, F.TW_PEER_EPOCH, F.TW_STATUS_PULSE_UP]
              ∧ t = { s with regs := t.regs, tw := t.tw }))))
  ∧ (∀ (pulse : Bool) (s : State), s.on F.TW_CTRL_EN = true →
      let last := (if pulse then s.tw.hbP else s.tw.hbD).getD 0
      let quiet := max 1 (s.rd F.TW_HB_CFG_LOSS_N) * (max 20 (min 10000 (s.rd F.TW_HB_CFG_PERIOD_US)) * 1000)
      (s.tb.mono < last + quiet → exec (.pathLoss pulse) s = .next s)
      ∧ (last + quiet ≤ s.tb.mono → pulse = true → s.on F.TW_STATUS_PULSE_UP = true → exec (.pathLoss pulse) s =
        .next ((({ s with tw := { s.tw with rowP := 0 } }.wr F.TW_STATUS_PULSE_UP 0).inc F.TW_PATH_LOSS_CNT).raise0 Src.TW_PATH_LOSS 1))
      ∧ (last + quiet ≤ s.tb.mono → pulse = false → s.on F.TW_STATUS_DOLNOS_UP = true → s.tw.mirBuf = [] → exec (.pathLoss pulse) s =
        .next (({ s with tw := { s.tw with rowD := 0, rsServe := false, rsDoneAt := none, seqBuf := [] } }.wr F.TW_STATUS_DOLNOS_UP 0).inc
          F.TW_PATH_LOSS_CNT |>.raise0 Src.TW_PATH_LOSS 0)))
  ∧ (∀ (p : Fin 2) (payload : List Byte) (s : State),
      (leNat (slice payload 0 4) ≠ s.rd F.TW_PAIR_ID → exec (.backboneClaimRx p payload) s = .next s)
      ∧ (leNat (slice payload 0 4) = s.rd F.TW_PAIR_ID →
        (s.on F.TW_CTRL_EN = false ∨ leNat (slice payload 8 1) % 2 = s.rd F.TW_STATUS_TWIN_ID →
          exec (.backboneClaimRx p payload) s = .next (s.inc F.TW_BB_CLAIM_RX))
        ∧ (s.on F.TW_CTRL_EN = true → leNat (slice payload 8 1) % 2 ≠ s.rd F.TW_STATUS_TWIN_ID → s.rd F.TW_STATUS_ROLE ≠ 4 →
          exec (.backboneClaimRx p payload) s = .next ((s.inc F.TW_BB_CLAIM_RX).wr F.TW_PEER_EPOCH
            (max (leNat (slice payload 4 4)) (s.rd F.TW_PEER_EPOCH))))))
  ∧ (∀ (s : State),
      (s.tw.bbLeft = 0 ∨ s.tb.mono < s.tw.bbNext → exec .backboneClaimTx s = .next s)
      ∧ (0 < s.tw.bbLeft → s.tw.bbNext ≤ s.tb.mono → s.on (F.LN_Pn_CTRL_TX_EN 0) = true → s.on (F.LN_Pn_CTRL_TX_EN 1) = false → s.ln.items.length < 16384 →
        let cells := (s.storeChain ⟨6, none, false, none⟩ (s.bbClaim 0 false)).2
        let sent := { s.tw with bbLeft := s.tw.bbLeft - 1, bbNext := s.tb.mono + s.hbPeriod }
        let frame := s.bbClaim 0 false
        (cells.isSome = true → ∃ t, exec .backboneClaimTx s = .next t ∧ t.tw = sent ∧ t.item s.ln.next = some
          { Item.plain srcOwn 0 (s.rd F.TW_CLAIM_CFG_CLASS) s.ln.next frame with tagged := hasRtag frame, chain := cells })
        ∧ (cells = none → ∃ t, exec .backboneClaimTx s = .next t ∧ t.tw = sent ∧ t.ln = s.ln
          ∧ t.rd F.LN_NOCELL = min (s.rd F.LN_NOCELL + 1) (2 ^ 32 - 1))))
  ∧ (∀ (good : Bool) (s : State),
      (s.on F.TW_CTRL_EN = false ∨ s.tb.mono < s.tw.stNext → exec (.selftestAssembly good) s = .next s)
      ∧ (s.on F.TW_CTRL_EN = true → s.tw.stNext ≤ s.tb.mono → s.tw.tests = 0 → ∃ t, exec (.selftestAssembly good) s = .next t
        ∧ t.tw = { s.tw with stNext := s.tb.mono + 10000000, tests := if good then 0 else 8 }
        ∧ t.rd F.TW_STATUS_SELFTEST_FAIL = (if good then 0 else 1) ∧ s.keepsRegs t [F.TW_STATUS_SELFTEST_FAIL]
        ∧ t.cl.inbox = s.cl.inbox ++ (if good then [] else [⟨Src.TW_SELFTEST, 0xFF, none, 8, false⟩])))
  ∧ (∀ (s : State) (w : Nat) (d : Nat), let p := s.rd F.TW_CHK_PERIOD * 1000
      0 < p → s.on F.TW_CTRL_EN = true → s.on F.TW_CTRL_CHK_EN = true → s.on F.TW_STATUS_READY = true →
      w = s.dt / p - 3 → 3 * p ≤ s.dt → s.tw.chkOwn = none → s.tw.chk = [] →
      (s.tw.chkPeer = none ∨ s.tw.chkPeer = some (w, 0, 0) →
        ∃ t, exec .checkWindowComplete s = .next t ∧ t.tw.chkOwn = some (w, 0, 0) ∧ t.regs = s.regs)
      ∧ (s.tw.chkPeer = some (w, d, 1) → s.tw.chkSeen = none → ∃ t, exec .checkWindowComplete s = .next t ∧ t.tw.chkOwn = some (w, 0, 0)
        ∧ t.rd F.TW_STATUS_DIVERGED = 1 ∧ t.rd F.TW_DIVERGE_CNT = min (s.rd F.TW_DIVERGE_CNT + 1) (2 ^ 32 - 1)
        ∧ ⟨Src.TW_DIVERGE, 0xFF, none, w, false⟩ ∈ t.cl.inbox))

/-- R60, R267, R276, R278, R281, R284, R285: mirror batches, the dirty map, retransmission, received frames, re-epochs between twins and
resynchronisation. Where the manual leaves a point open it states the model's choice: log entries 20 (DEDUCED), 42 (DEDUCED), 43
(DEDUCED). -/
def Obligations.MirroringAndResynchronisation : Prop :=
  (∀ (s : State), s.tw.seqBuf = [] →
    (s.tw.mirBuf = [] → exec .mirrorBatchClose s = .next s)
    ∧ (s.tw.mirBuf.length < 6 → s.tb.mono < s.tw.batchAt + s.rd F.TW_MIR_BATCH → exec .mirrorBatchClose s = .next s)
    ∧ (s.tw.mirBuf ≠ [] → s.tw.mirBuf.length ≤ 6 → s.tw.batchAt + s.rd F.TW_MIR_BATCH ≤ s.tb.mono → s.tw.mirBuf.length ≤ s.tw.credit →
      s.on F.TW_STATUS_DOLNOS_UP = true → s.tw.unacked.length < 64 → ∃ t, exec .mirrorBatchClose s = .next t
        ∧ t.tw.mirBuf = [] ∧ t.tw.credit = s.tw.credit - s.tw.mirBuf.length ∧ t.tw.txSeq = (s.tw.txSeq + 1) % 2 ^ 32
        ∧ t.tw.unacked = s.tw.unacked ++ [⟨0x10, s.tw.txSeq, (s.tw.mirBuf.map MirRec.bytes).flatten⟩]
        ∧ t.rd F.TW_MIR_TX = min (s.rd F.TW_MIR_TX + s.tw.mirBuf.length) (2 ^ 32 - 1)
        ∧ s.keepsRegs t [F.TW_MIR_TX] ∧ t = { s with regs := t.regs, tw := t.tw, wire := t.wire }))
  ∧ (∀ (p : Nat) (rest : List Nat) (r : Point) (key : Key) (mode : Nat) (s : State), s.tw.dirty = p :: rest → s.point p = some r →
      Sparse.get none s.tw.newest p = some (key, mode) →
      (s.on F.TW_STATUS_DOLNOS_UP = true → s.on F.TW_CTRL_MIR_EN = true → s.on F.TW_CTRL_EN = true → 0 < s.tw.credit → s.tw.mirBuf.length < 4096 →
        ∃ t, exec .dirtyMapFlush s = .next t ∧ t.tw.dirty = rest ∧ t.tw.mirBuf = s.tw.mirBuf ++ [mirRecOf p r key mode]
          ∧ t.rd F.TW_STATUS_MIR_DEGRADED = (if rest = [] then 0 else 1) ∧ s.keepsRegs t [F.TW_STATUS_MIR_DEGRADED]
          ∧ t = { s with regs := t.regs, tw := t.tw })
      ∧ (s.on F.TW_STATUS_DOLNOS_UP = false ∨ s.tw.credit = 0 → exec .dirtyMapFlush s = .next s))
  ∧ (∀ (f : DFrame) (s : State), s.tw.unacked = [f] →
      (s.on F.TW_STATUS_DOLNOS_UP = true → s.tw.progressAt + 5000 ≤ s.tb.mono → ∃ t, exec .dolnosRetransmit s = .next t
        ∧ t.rd F.TW_RETX = min (s.rd F.TW_RETX + 1) (2 ^ 32 - 1) ∧ t.tw = { s.tw with progressAt := s.tb.mono } ∧ s.keepsRegs t [F.TW_RETX]
        ∧ t = { s with regs := t.regs, tw := t.tw, wire := t.wire })
      ∧ (s.on F.TW_STATUS_DOLNOS_UP = false ∨ s.tb.mono < s.tw.progressAt + 5000 → exec .dolnosRetransmit s = .next s))
  ∧ (∀ (m anchor : Nat) (delta bnd : Int) (s : State),
      (s.reepBarred = false → exec (.reepRx delta bnd) s = .next s)
      ∧ (s.reepBarred = true → (s.tb.dt.toNat : Int) + 2000 ≤ bnd → 1 < s.rd F.TB_STATUS_STATE → s.tb.reep = none → 0 ≤ bnd + delta →
        exec (.reepRx delta bnd) s = .next { s with tb := { s.tb with reep := some ⟨delta, bnd, 15, bnd⟩ } })
      ∧ (s.reepBarred = true → bnd < (s.tb.dt.toNat : Int) + 2000 →
        exec (.reepRx delta bnd) s = .next ((s.wr F.TW_STATUS_REEP_REJ 1).raise0 Src.TW_REEP_MISS 0))
      ∧ (s.accepts m 0x20038 permW → s.tb.reep = none →
        (s.reepBarred = true → exec (.reepochArm m anchor) s = .next (((s.wr F.TB_REEP_CTRL_ANCHOR anchor).wr F.TB_STATUS_REEP_REJ 1).wr F.TW_STATUS_REEP_REJ 1))
        ∧ (s.reepBarred = false → s.rd F.TB_STATUS_STATE ≤ 1 →
          exec (.reepochArm m anchor) s = .next ((s.wr F.TB_REEP_CTRL_ANCHOR anchor).wr F.TB_STATUS_REEP_REJ 1))
        ∧ (s.on F.TW_CTRL_EN = false → 1 < s.rd F.TB_STATUS_STATE → 10 ≤ anchor % 16 → 0 ≤ toSigned 64 (s.rd64 F.TB_REEP_LO F.TB_REEP_HI) →
          exec (.reepochArm m anchor) s = .next { s.wr F.TB_REEP_CTRL_ANCHOR anchor with tb := { s.tb with
            reep := some ⟨toSigned 64 (s.rd64 F.TB_REEP_LO F.TB_REEP_HI), s.reepBoundary (anchor % 16) (s.dt + 10000 : Nat), anchor % 16, (s.dt + 10000 : Nat)⟩ } })))
  ∧ (∀ (data : List Byte) (s : State), s.on F.TW_CTRL_EN = true → s.on F.TW_CTRL_DOLNOS_EN = true →
      (data.length < 20 ∨ data.drop (data.length - 4) ≠ fcs (data.take (data.length - 4)) → ∃ t, exec (.dolnosFrameRx data) s = .next t
        ∧ t = { s with wire := t.wire })
      ∧ (20 ≤ data.length → data.drop (data.length - 4) = fcs (data.take (data.length - 4)) → leNat (slice data 0 1) = 0x22 →
        leNat (slice data 1 1) = 1 → leNat (slice data 4 4) = s.tw.rxNext →
        ∃ t, exec (.dolnosFrameRx data) s = .next t ∧ t.tw.rxNext = (s.tw.rxNext + 1) % 2 ^ 32 ∧ t.tw.credit = leNat (slice data 12 2)
          ∧ t.tw.rsDoneAt = (if s.rd F.TW_STATUS_ROLE = 2 then some s.dt else s.tw.rsDoneAt) ∧ t = { s with tw := t.tw, wire := t.wire }))
  ∧ (∀ (s : State),
      (s.rd F.TW_STATUS_ROLE = 2 → s.tw.rsWait = true → s.on F.TW_STATUS_DOLNOS_UP = true → exec .resyncRequest s =
        .next ((({ s with tw := { s.tw with rsWait := false } }.wr F.TW_RS_STAT_ACTIVE 1).wr F.TW_RS_STAT_DONE 0).wr F.TW_RS_STAT_POINT 0))
      ∧ (s.rd F.TW_STATUS_ROLE ≠ 2 ∨ s.tw.rsWait = false ∨ s.on F.TW_STATUS_DOLNOS_UP = false → exec .resyncRequest s = .next s)
      ∧ (∀ d, s.tw.rsDoneAt = some d → s.rd F.TW_STATUS_ROLE = 2 → d + s.hznMax < s.dt → ∃ t, exec .resyncComplete s = .next t
        ∧ t.rd F.TW_STATUS_ROLE = 3 ∧ t.rd F.TW_STATUS_READY = 1 ∧ t.rd F.TW_RS_STAT_ACTIVE = 0 ∧ t.rd F.TW_RS_STAT_DONE = 1
        ∧ t.rd F.TW_RS_CNT = min (s.rd F.TW_RS_CNT + 1) (2 ^ 32 - 1) ∧ t.gy = s.gy ∧ t.hz = s.hz
        ∧ s.keepsRegs t [F.TW_STATUS_ROLE, F.TW_STATUS_READY, F.TW_RS_STAT_ACTIVE, F.TW_RS_STAT_DONE, F.TW_RS_CNT])
      ∧ (s.tw.rsDoneAt = none → exec .resyncComplete s = .next s)
      ∧ (s.rd F.TW_STATUS_ROLE = 4 → s.tw.peerRole = 2 → s.on F.TW_STATUS_DOLNOS_UP = true → s.tw.unacked.length < 64 → s.tw.mirBuf = [] → s.tw.seqBuf = [] →
        (s.tw.rsNext = 2 ^ 23 + 16384 → s.fn.gens = [] → ∃ t, exec .resyncWalk s = .next t ∧ t.tw.rsNext = 2 ^ 23 + 16385
          ∧ t.tw.unacked = s.tw.unacked ++ [⟨0x22, s.tw.txSeq, []⟩] ∧ t = { s with tw := t.tw, wire := t.wire })
        ∧ (∀ p r, s.tw.rsNext ≤ p → p < 2 ^ 23 → s.gy.points = [(p, some r)] → r.mirror = true → 0 < s.tw.credit → ∃ t, exec .resyncWalk s = .next t
          ∧ t.tw.rsNext = p + 1 ∧ t.tw.credit = s.tw.credit - 1
          ∧ t.tw.unacked = s.tw.unacked ++ [⟨0x20, s.tw.txSeq, s.rsRecord p r⟩] ∧ t = { s with tw := t.tw, wire := t.wire })))

/-- R291, R292, R294 to R297, R318, R319, R321, R536: enabling and disabling a queue, doorbells, and the assignment of queues. Where the
manual leaves a point open it states the model's choice: log entries 46 (DEDUCED), 81 (DESIGN CHOICE). -/
def Obligations.QueuesAndDoorbells : Prop :=
  (∀ (m : Nat) (l : BitVec 10) (q : Nat) (s : State), s.decodes m = true → s.may 0x0E m permW = true → s.heldBlk 0x0E = false → q < 1024 →
    ((if isVf m then s.localSq m l.toNat else some l.toNat) = some q →
      (ownsSet m (s.sqOwner q) = false → exec (.sqEnable m l) s = .next (s.inc F.QE_CFG_REJ) ∧ exec (.sqDisable m l) s = .next (s.inc F.QE_CFG_REJ))
      ∧ (ownsSet m (s.sqOwner q) = true →
        (s.rd (F.QE_SQ_STAT_STATE q) ≠ 0 → exec (.sqEnable m l) s = .next s)
        ∧ (s.rd (F.QE_SQ_STAT_STATE q) = 0 → s.sqCode q ≠ 0 →
          exec (.sqEnable m l) s = .next ((s.wr (F.QE_SQ_STAT_ERR q) (s.sqCode q)).raise Src.QE_Q_CFG q none 0))
        ∧ (s.rd (F.QE_SQ_STAT_STATE q) = 0 → s.sqCode q = 0 → ∃ t, exec (.sqEnable m l) s = .next t
          ∧ t.rd (F.QE_SQ_STAT_STATE q) = 1 ∧ t.rd (F.QE_SQ_CFG_EN q) = 1 ∧ t.rd (F.QE_SQ_STAT_ERR q) = 0
          ∧ t.rd (F.QE_SQ_HEAD q) = s.rd (F.QE_SQ_HEAD q) % s.sqSize q ∧ t.rd (F.QE_SQ_TAIL q) = s.rd (F.QE_SQ_HEAD q) % s.sqSize q
          ∧ t.rd F.QE_STATUS_SQ_ON = (s.rd F.QE_STATUS_SQ_ON + 1) % 2 ^ 11
          ∧ s.keepsRegs t [F.QE_SQ_STAT_STATE q, F.QE_SQ_CFG_EN q, F.QE_SQ_STAT_ERR q, F.QE_SQ_HEAD q, F.QE_SQ_TAIL q, F.QE_STATUS_SQ_ON]
          ∧ t.sq q = { Sq.empty with fetch := s.rd (F.QE_SQ_HEAD q) % s.sqSize q, cq := s.cqRef (s.sqOwner q) (s.rd (F.QE_SQ_CFG_CQ q)) }
          ∧ t = { s with regs := t.regs, qe := t.qe })
        ∧ (s.rd (F.QE_SQ_STAT_STATE q) ≠ 1 → s.rd (F.QE_SQ_STAT_STATE q) ≠ 3 → exec (.sqDisable m l) s = .next s)
        ∧ (s.rd (F.QE_SQ_STAT_STATE q) = 1 → (s.sq q).jobs = [] → (s.sq q).posted = [] → s.ln.items = [] →
          ∃ t, exec (.sqDisable m l) s = .next t ∧ t.rd (F.QE_SQ_STAT_STATE q) = 2 ∧ t.rd (F.QE_SQ_CFG_EN q) = 0 ∧ t.rd (F.QE_SQ_HEAD q) = (s.sq q).fetch % 65536
            ∧ t.sq q = { s.sq q with fence := none }
            ∧ s.keepsRegs t [F.QE_SQ_STAT_STATE q, F.QE_SQ_CFG_EN q, F.QE_SQ_HEAD q, F.QE_SQ_STAT_RX_POSTED q]
            ∧ t = { s with regs := t.regs, qe := t.qe })))
    ∧ ((if isVf m then s.localCq m l.toNat else some l.toNat) = some q →
      (ownsSet m (s.cqOwner q) = false → exec (.cqEnable m l) s = .next (s.inc F.QE_CFG_REJ) ∧ exec (.cqDisable m l) s = .next (s.inc F.QE_CFG_REJ))
      ∧ (ownsSet m (s.cqOwner q) = true →
        (s.on (F.QE_CQ_CFG_EN q) = true → exec (.cqEnable m l) s = .next s
          ∧ exec (.cqDisable m l) s = .next ((({ s with qe := { s.qe with cqs := Sparse.put Cq.empty s.qe.cqs q { s.cq q with events := 0, firstAt := 0 } } }.wr
              (F.QE_CQ_CFG_EN q) 0)).wr F.QE_STATUS_CQ_ON (s.rd F.QE_STATUS_CQ_ON - 1)))
        ∧ (s.on (F.QE_CQ_CFG_EN q) = false → exec (.cqDisable m l) s = .next s
          ∧ (s.cqCode q = 0 → ∃ t, exec (.cqEnable m l) s = .next t ∧ t.rd (F.QE_CQ_CFG_EN q) = 1
            ∧ t.rd (F.QE_CQ_PTR_HEAD q) = s.rd (F.QE_CQ_PTR_HEAD q) % s.cqSize q ∧ t.rd (F.QE_CQ_PTR_TAIL q) = s.rd (F.QE_CQ_PTR_HEAD q) % s.cqSize q
            ∧ t.cq q = Cq.empty ∧ s.keepsRegs t [F.QE_CQ_CFG_EN q, F.QE_CQ_PTR_HEAD q, F.QE_CQ_PTR_TAIL q, F.QE_STATUS_CQ_ON]
            ∧ t = { s with regs := t.regs, qe := t.qe })
          ∧ (s.cqCode q ≠ 0 → isVf (s.cqOwner q) = false → exec (.cqEnable m l) s =
            .next ((((s.wr F.QE_CQ_ERR_VALID 1).wr F.QE_CQ_ERR_ERR (s.cqCode q)).wr F.QE_CQ_ERR_CQ q).raise Src.QE_Q_CFG q none 0))))))
  ∧ (∀ (m page : Nat) (l : BitVec 8) (bytes : Nat) (hi : Bool) (pos : BitVec 16) (q : Nat) (s : State), s.decodes m = true → q < 1024 →
      let wide := bytes = 8 ∨ (bytes = 4 ∧ hi = false)
      let bad := (s.inc F.QE_DB_BAD).raise0 Src.QE_DB_ERR 0
      (¬ wide → exec (.sqDoorbell m page l bytes hi pos) s = .next bad ∧ exec (.cqDoorbell m page l bytes hi pos) s = .next bad)
      ∧ (wide → s.may 0x0E m permDB = true → s.heldBlk 0x0E = false →
        (page ≠ m → exec (.sqDoorbell m page l bytes hi pos) s = .next bad ∧ exec (.cqDoorbell m page l bytes hi pos) s = .next bad)
        ∧ (page = m →
          (s.localSq page l.toNat = none → exec (.sqDoorbell m page l bytes hi pos) s = .next bad)
          ∧ (s.localCq page l.toNat = none → exec (.cqDoorbell m page l bytes hi pos) s = .next bad)
          ∧ (s.localSq page l.toNat = some q →
            let n := s.sqSize q
            let h := s.sqHead q
            (s.rd (F.QE_SQ_STAT_STATE q) ≠ 1 → exec (.sqDoorbell m page l bytes hi pos) s = .next (s.inc F.QE_DB_OFF))
            ∧ (s.rd (F.QE_SQ_STAT_STATE q) = 1 →
              (n ≤ pos.toNat ∨ (pos.toNat + n - h) % n < ((s.sq q).fetch + n - h) % n → exec (.sqDoorbell m page l bytes hi pos) s = .next bad)
              ∧ (pos.toNat < n → ((s.sq q).fetch + n - h) % n ≤ (pos.toNat + n - h) % n →
                exec (.sqDoorbell m page l bytes hi pos) s = .next (s.wr (F.QE_SQ_TAIL q) pos.toNat))))
          ∧ (s.localCq page l.toNat = some q →
            let n := s.cqSize q
            let h := s.rd (F.QE_CQ_PTR_HEAD q)
            (s.on (F.QE_CQ_CFG_EN q) = false → exec (.cqDoorbell m page l bytes hi pos) s = .next (s.inc F.QE_DB_OFF))
            ∧ (s.on (F.QE_CQ_CFG_EN q) = true →
              (n ≤ pos.toNat ∨ (s.rd (F.QE_CQ_PTR_TAIL q) + n - h) % n < (pos.toNat + n - h) % n → exec (.cqDoorbell m page l bytes hi pos) s = .next bad)
              ∧ (pos.toNat < n → (pos.toNat + n - h) % n ≤ (s.rd (F.QE_CQ_PTR_TAIL q) + n - h) % n →
                exec (.cqDoorbell m page l bytes hi pos) s = .next (s.wr (F.QE_CQ_PTR_HEAD q) pos.toNat)))))))
  ∧ (∀ (m : Nat) (cq : Bool) (q : BitVec 10) (owner : BitVec 6) (loc : BitVec 8) (s : State), s.accepts m 0xE0010 permW →
      let said := fun (t : State) (code : Nat) => (t.wr F.QE_ASSIGN_RESULT_DONE 1).wr F.QE_ASSIGN_RESULT_CODE code
      (s.may 0x0E m permADM = false → ∃ t, exec (.queueAssign m cq q owner loc) s = .next t ∧ t = said (s.deny 3 m 0x0E 0x10) 5
        ∧ exec (.queueRelease m cq q) s = .next t)
      ∧ (s.may 0x0E m permADM = true → m ≠ 0 → m ≠ 0x20 → exec (.queueAssign m cq q owner loc) s = .next (said s 5) ∧ exec (.queueRelease m cq q) s = .next (said s 5))
      ∧ (s.may 0x0E m permADM = true → m = 0 ∨ m = 0x20 →
        (s.qOff cq q.toNat = false → exec (.queueAssign m cq q owner loc) s = .next (said s 1) ∧ exec (.queueRelease m cq q) s = .next (said s 1))
        ∧ (s.qOff cq q.toNat = true →
          exec (.queueRelease m cq q) s = .next (said (if cq then (s.wr (F.QE_CQ_INFO_q_OWNER q.toNat) 0x3F).wr (F.QE_CQ_INFO_q_LOCAL q.toNat) 0
            else (s.wr (F.QE_SQ_OWNER_OWNER q.toNat) 0x3F).wr (F.QE_SQ_OWNER_LOCAL q.toNat) 0) 0)
          ∧ (s.assignCode cq q.toNat owner.toNat loc.toNat ≠ 0 → exec (.queueAssign m cq q owner loc) s = .next (said s (s.assignCode cq q.toNat owner.toNat loc.toNat)))
          ∧ (s.assignCode cq q.toNat owner.toNat loc.toNat = 0 → owner.toNat ≠ 0x3F → exec (.queueAssign m cq q owner loc) s =
            .next (said (if cq then (s.wr (F.QE_CQ_INFO_q_OWNER q.toNat) owner.toNat).wr (F.QE_CQ_INFO_q_LOCAL q.toNat) loc.toNat
              else (s.wr (F.QE_SQ_OWNER_OWNER q.toNat) owner.toNat).wr (F.QE_SQ_OWNER_LOCAL q.toNat) loc.toNat) 0)))))

/-- R310, R313 to R316, R318, R319, R321: the end of a drain, a failing entry fetch, the moderation timer, and the completions of a core
cycle, which enter their CQs at its end (`State.cqFlush`, which each tick calls). Where the manual leaves a point open it states the
model's choice: log entries 46 (DEDUCED), 47 (DEDUCED). -/
def Obligations.DrainsFetchErrorsAndModeration : Prop :=
  (∀ (q : BitVec 10) (s : State),
    let q0 := q.toNat
    let r := s.sq q0
    let note := fun (status : Nat) => (⟨0, q0, r.cq, 7, ⟨4, 0, 0, 0, s.sqShown q0, s.sqHead q0, 0, status, 0, 0, 0⟩⟩ : Due)
    (s.rd (F.QE_SQ_STAT_STATE q0) ≠ 2 ∨ r.jobs.all (fun j => j.done.isSome) = false ∨ s.qe.due.any (fun d => d.q == q0) = true →
      exec (.queueDrained q) s = .next s)
    ∧ (s.rd (F.QE_SQ_STAT_STATE q0) = 2 → r.jobs.all (fun j => j.done.isSome) = true → s.qe.due.any (fun d => d.q == q0) = false → r.mute = false →
      exec (.queueDrained q) s = .next { (s.wr (F.QE_SQ_STAT_STATE q0) 0).wr F.QE_STATUS_SQ_ON (s.rd F.QE_STATUS_SQ_ON - 1) with
        qe := { s.qe with due := s.qe.due ++ [note 0x16] } })
    ∧ (s.on F.QE_CTRL_EN = false ∨ s.rd (F.QE_SQ_STAT_STATE q0) ≠ 1 ∨ s.sqWaiting q0 = 0 → exec (.entryFetchError q) s = .next s)
    ∧ (s.on F.QE_CTRL_EN = true → s.rd (F.QE_SQ_STAT_STATE q0) = 1 → s.sqWaiting q0 ≠ 0 → r.mute = false →
      ∃ t, exec (.entryFetchError q) s = .next t ∧ t.rd (F.QE_SQ_STAT_STATE q0) = 3 ∧ t.rd (F.QE_SQ_STAT_ERR q0) = 5
        ∧ t.rd F.QE_FETCH_ERR_CNT = min (s.rd F.QE_FETCH_ERR_CNT + 1) (2 ^ 32 - 1) ∧ t.rd (F.QE_SQ_STAT_RX_POSTED q0) = 0
        ∧ s.keepsRegs t [F.QE_SQ_STAT_STATE q0, F.QE_SQ_STAT_ERR q0, F.QE_FETCH_ERR_CNT, F.QE_SQ_STAT_RX_POSTED q0]
        ∧ t.qe.due = s.qe.due ++ note 0x17 :: r.posted.map (fun b => ⟨2, q0, r.cq, 7, ⟨2, 0, 0, 0, s.sqShown q0, s.sqHead q0, b.bufId, 7, 0, 0, 0⟩⟩)
        ∧ t.sq q0 = { r with posted := [] } ∧ t.cl.inbox = s.cl.inbox ++ [⟨Src.QE_FETCH_ERR, q0, none, 0, false⟩]
        ∧ t = { s with regs := t.regs, qe := t.qe, cl := t.cl })
    ∧ (s.on (F.QE_CQ_CFG_EN q0) = true → s.on (F.QE_CQ_CFG_IRQ_EN q0) = true → s.rd (F.QE_CQ_CFG_MOD_US q0) ≠ 0 → (s.cq q0).events ≠ 0 →
      (s.tb.mono < (s.cq q0).firstAt + s.rd (F.QE_CQ_CFG_MOD_US q0) * 1000 → exec (.msixModTimer q) s = .next s)
      ∧ ((s.cq q0).firstAt + s.rd (F.QE_CQ_CFG_MOD_US q0) * 1000 ≤ s.tb.mono →
        ∃ t, exec (.msixModTimer q) s = .next t ∧ (t.cq q0).events = 0 ∧ (t.cq q0).firstAt = 0 ∧ (t.cq q0).phase = (s.cq q0).phase
          ∧ t.regs = s.regs ∧ t = { s with qe := t.qe, pcie := t.pcie }))
    ∧ (s.on (F.QE_CQ_CFG_EN q0) = false ∨ s.on (F.QE_CQ_CFG_IRQ_EN q0) = false ∨ s.rd (F.QE_CQ_CFG_MOD_US q0) = 0 ∨ (s.cq q0).events = 0 →
      exec (.msixModTimer q) s = .next s))
  ∧ (∀ (d : Due) (s : State), s.qe.due = [d] →
      let t := s.cqFlush
      let n := (s.rd (F.QE_CQ_PTR_TAIL d.c) + 1) % s.cqSize d.c
      let gap := s.rd (F.QE_CQ_INFO_q_GAP d.c)
      t.qe.due = []
      ∧ (s.cqFree d.c 1 = true → s.on (F.QE_CQ_CFG_NOTIFY d.c) = false →
        t.rd (F.QE_CQ_PTR_TAIL d.c) = n ∧ t.rd (F.QE_CQ_INFO_q_GAP d.c) = 0 ∧ (t.cq d.c).phase = ((s.cq d.c).phase != (n == 0))
        ∧ s.keepsRegs t [F.QE_CQ_PTR_TAIL d.c, F.QE_CQ_INFO_q_GAP d.c]
        ∧ (s.on (F.QE_CQ_CFG_IRQ_EN d.c) = false → t.pcie = (s.toHost (.mem (fnOf (s.cqOwner d.c))
          (BitVec.ofNat 64 (s.rd (F.QE_CQ_BASE_LO d.c) * 64 + 2 ^ 32 * s.rd (F.QE_CQ_BASE_HI d.c) + 32 * s.rd (F.QE_CQ_PTR_TAIL d.c)))
          (d.e.bytes gap (s.cq d.c).phase))).pcie))
      ∧ (s.cqFree d.c 1 = false ∨ s.on (F.QE_CQ_CFG_NOTIFY d.c) = true → d.rung = 7 →
        t.rd (F.QE_CQ_INFO_q_GAP d.c) = min (gap + 1) 65535 ∧ t.rd F.QE_FOLD = min (s.rd F.QE_FOLD + 1) (2 ^ 32 - 1)
        ∧ t.rd (F.QE_CQ_PTR_TAIL d.c) = s.rd (F.QE_CQ_PTR_TAIL d.c) ∧ (t.cq d.c).phase = (s.cq d.c).phase
        ∧ t.cl.inbox = s.cl.inbox ++ (if gap = 0 then [⟨Src.QE_CQ_FOLD, d.c, none, 0, false⟩] else [])
        ∧ s.keepsRegs t [F.QE_CQ_INFO_q_GAP d.c, F.QE_FOLD]))
  ∧ (∀ (d e : Due) (s : State), s.qe.due = [d, e] → d.rank ≠ 2 → e.rank ≠ 2 →
      let one := fun (s : State) (d : Due) => { s with qe := { s.qe with due := [d] } }.cqFlush
      s.cqFlush = if e.rank < d.rank ∨ (e.rank = d.rank ∧ e.q < d.q) then one (one s e) d else one (one s d) e)

/-- R106, R196, R197, R297 to R300, R308 to R312, R364: a transmit entry: what is fetched and when, which entries complete at once with an
error, and the copies that a good one puts into the work table. Where the manual leaves a point open it states the model's choice: log
entries 45 (DEDUCED), 47 (DEDUCED), 76 (DESIGN CHOICE). -/
def Obligations.TransmitEntries : Prop :=
  ∀ (q : BitVec 10) (e : List Byte) (payload hdr : Option (List Byte)) (s : State),
    let q0 := q.toNat
    let r := s.sq q0
    let rx := s.on (F.QE_SQ_CFG_TYPE q0)
    let good := fun (op : Nat) => s.canFetch q0 (Entry.units e) = true ∧ Entry.malformed e op rx = false ∧ r.jobs = [] ∧ r.mute = false
    let ports := (s.txPorts e).2
    let copies := fun (t : State) (dtl : Option Nat) (data : List Byte) (lso : Option Lso) =>
      t.ln.next = s.ln.next + ports.length
      ∧ (∀ i, i < ports.length →
        (t.item (s.ln.next + i)).map (fun it => (it.port, it.cls)) = some (ports.getD i (0, 0))
        ∧ (t.item (s.ln.next + i)).map (fun it => (it.data, it.dtl, it.lso, it.st)) = some (data, dtl, lso, .wait)
        ∧ (t.item (s.ln.next + i)).map (fun it => (it.job, it.handle, it.src)) = some (some (q0, s.qe.nextJob), (s.txPorts e).1, q0))
      ∧ (t.sq q0).fetch = (r.fetch + Entry.units e) % s.sqSize q0 ∧ (t.sq q0).jobs.length = 1 ∧ (t.sq q0).jobs.all (fun j => !j.started && j.done.isNone) = true
      ∧ t.rd (F.QE_SQ_HEAD q0) = r.fetch % 65536
    let stay := if s.mayFetch q0 (Entry.units e) then s.stopAt q0 .tail else s.passTurn q0 (Entry.units e)
    let kept := s.stopAt q0 (.items (max 1 ports.length))
    let full := match r.stop with | .items _ => kept | _ => kept.inc F.LN_WT_FULL
    (s.canFetch q0 (Entry.units e) = false → exec (.tx q e payload) s = .next stay ∧ exec (.txTimed q e payload) s = .next stay
      ∧ exec (.lso q e hdr payload) s = .next stay)
    ∧ (s.canFetch q0 (Entry.units e) = true → r.jobs = [] → r.mute = false →
      let bad := ((s.inc F.QE_BAD_ENTRY).raise Src.QE_BAD_ENTRY q0 none 0).entryEnds q0 e 9 0 0
      (Entry.malformed e opTx rx = true → exec (.tx q e payload) s = .next bad)
      ∧ (Entry.malformed e opTxTimed rx = true → exec (.txTimed q e payload) s = .next bad)
      ∧ (Entry.malformed e opLso rx = true → exec (.lso q e hdr payload) s = .next bad))
    ∧ (s.wtRoom (max 1 ports.length) = false →
      (good opTx → exec (.tx q e payload) s = .next full)
      ∧ (good opTxTimed → exec (.txTimed q e payload) s = .next full)
      ∧ (good opLso → exec (.lso q e hdr payload) s = .next full))
    ∧ (s.wtRoom (max 1 ports.length) = true →
      (good opTx → payload = none → exec (.tx q e payload) s = .next ((s.inc F.QE_PAYLOAD_ERR).entryEnds q0 e 0x14 0 0))
      ∧ (good opTxTimed → s.dt + 2 ^ 36 < Entry.le e 16 8 → exec (.txTimed q e payload) s = .next ((s.inc F.LN_FAR).entryEnds q0 e 2 0 0))
      ∧ (good opLso → hdr = none → exec (.lso q e hdr payload) s = .next ((s.inc F.QE_PAYLOAD_ERR).entryEnds q0 e 0x14 0 0))
      ∧ (∀ data, payload = some data → ports ≠ [] →
        (good opTx → (s.storeChain ⟨s.sqOwner q0, some q0, false, none⟩ (Entry.offload e data)).2.isSome = true → ∃ t, exec (.tx q e payload) s = .next t
          ∧ copies t none (Entry.offload e data) none)
        ∧ (good opTxTimed → Entry.le e 16 8 ≤ s.dt + 2 ^ 36 →
          (∀ i, i < ports.length → s.wireDt (ports.getD i (0, 0)).1 + (if (ports.getD i (0, 0)).1 < 2 then 1500 else 50000) ≤ Entry.le e 16 8) →
          (s.storeChain ⟨s.sqOwner q0, some q0, false, some (Entry.le e 16 8)⟩ (Entry.offload e data)).2.isSome = true → ∃ t, exec (.txTimed q e payload) s = .next t
          ∧ copies t (some (Entry.le e 16 8)) (Entry.offload e data) none)
        ∧ (∀ h, good opLso → hdr = some h →
          let l := Entry.lso e h
          let p := bits (Entry.le e 24 4) 0 19
          let wrong := Entry.le e 8 2 ≠ l.hdr.length ∨ lsoBad l p (Entry.gather e (if Entry.lsoTimed e then 3 else 2)) (ports.foldl (fun a x => min a (s.maxFrame x.1)) 9220) = true
          (wrong → exec (.lso q e hdr payload) s = .next ((s.inc F.LN_LSO_ERR).entryEnds q0 e 4 0 0))
          ∧ (¬ wrong → Entry.lsoTimed e = false → (s.storeChain ⟨s.sqOwner q0, some q0, true, none⟩ (l.hdr ++ data.take p)).2.isSome = true →
            ∃ t, exec (.lso q e hdr payload) s = .next t ∧ copies t none (data.take p) (some l)))))

/-- R301 to R305, R307 to R312, R392, R532: the other entries of a host queue, alone in their SQ: buffers, points, subscriptions, timed
actions, fences and NOP. Where the manual leaves a point open it states the model's choice: log entries 26 (DESIGN CHOICE), 45 (DEDUCED),
76 (DESIGN CHOICE). -/
def Obligations.OtherQueueEntries : Prop :=
  ∀ (q : BitVec 10) (e : List Byte) (s : State),
    let q0 := q.toNat
    let r := s.sq q0
    let m := s.sqOwner q0
    let rx := s.on (F.QE_SQ_CFG_TYPE q0)
    let stay := if s.mayFetch q0 (Entry.units e) then s.stopAt q0 .tail else s.passTurn q0 (Entry.units e)
    let queued := fun (o : HostOp) => { s.entryRuns q0 e 7 false with gy := { s.gy with qHost := s.gy.qHost ++ [o] } }
    (s.canFetch q0 (Entry.units e) = false → exec (.postRx q e) s = .next stay ∧ exec (.pointWrite q e) s = .next stay
      ∧ exec (.pointRead q e) s = .next stay ∧ exec (.subscribe q e) s = .next stay ∧ exec (.unsubscribe q e) s = .next stay
      ∧ exec (.timedAction q e) s = .next stay ∧ exec (.fence q e) s = .next stay ∧ exec (.nop q e) s = .next stay)
    ∧ (s.canFetch q0 (Entry.units e) = true → r.jobs = [] → s.gyTakes = false →
      let held := s.stopAt q0 .points
      (Entry.malformed e opPointWrite rx = false → exec (.pointWrite q e) s = .next held)
      ∧ (Entry.malformed e opPointRead rx = false → exec (.pointRead q e) s = .next held)
      ∧ (Entry.malformed e opSubscribe rx = false → exec (.subscribe q e) s = .next held ∧ exec (.unsubscribe q e) s = .next held))
    ∧ (s.canFetch q0 (Entry.units e) = true → r.jobs = [] → r.mute = false →
      (Entry.malformed e opNop rx = true →
        exec (.nop q e) s = .next (((s.inc F.QE_BAD_ENTRY).raise Src.QE_BAD_ENTRY q0 none 0).entryEnds q0 e 9 0 0))
      ∧ (Entry.malformed e opNop rx = false → exec (.nop q e) s = .next (s.entryEnds q0 e 0 0 0))
      ∧ (Entry.malformed e opFence rx = false → exec (.fence q e) s = .next
        (let t := s.entryRuns q0 e 7 false; { t with qe := { t.qe with sqs := Sparse.put Sq.empty t.qe.sqs q0 { t.sq q0 with fence := some (s.qe.nextJob, Entry.le e 4 8) } } }))
      ∧ (Entry.malformed e opPostRx rx = false →
        let n := r.posted.length + (Entry.units e - 1)
        (4096 < n → exec (.postRx q e) s = .next (s.entryEnds q0 e 0x0B 0 0))
        ∧ (n ≤ 4096 → ∃ t, exec (.postRx q e) s = .next t ∧ t.rd (F.QE_SQ_STAT_RX_POSTED q0) = n
          ∧ (t.sq q0).posted = r.posted ++ (List.range (Entry.units e - 1)).map (fun i =>
            ⟨BitVec.ofNat 64 (Entry.le e (16 * (i + 1)) 8), Entry.le e (16 * (i + 1) + 8) 2⟩)
          ∧ (t.sq q0).fetch = (r.fetch + Entry.units e) % s.sqSize q0 ∧ t.ln = s.ln ∧ t.gy = s.gy))
      ∧ (Entry.malformed e opPointWrite rx = false → s.gyTakes = true →
        let n := Entry.units e - 1
        (s.may 0x0D m permW = false → let b := s.freeBytes 1
          exec (.pointWrite q e) s = .next ((b.1.deny 4 m 0x0D 0).entryEnds q0 e 0x12 (2 ^ n - 1 + leNat b.2 * 65536) 0))
        ∧ (s.may 0x0D m permW = true →
          (s.on F.GY_STATUS_WIPING = true → exec (.pointWrite q e) s = .next (s.entryEnds q0 e 0x0A (2 ^ n - 1 + 6 * 65536) 0))
          ∧ (s.on F.GY_STATUS_WIPING = false → exec (.pointWrite q e) s = .next { s.entryRuns q0 e 7 true with gy := { s.gy with
              qHost := s.gy.qHost ++ (List.range n).map (fun i => .write (Entry.pwrite e q0 s.qe.nextJob m i)),
              jobs := s.gy.jobs ++ [⟨q0, s.qe.nextJob, n, 0, 0⟩] } })))
      ∧ (Entry.malformed e opPointRead rx = false → s.gyTakes = true →
        (s.may 0x0D m permR = false → exec (.pointRead q e) s = .next ((s.deny 4 m 0x0D 0).entryEnds q0 e 0x12 0 0))
        ∧ (s.may 0x0D m permR = true →
          (s.on F.GY_STATUS_WIPING = true → exec (.pointRead q e) s = .next (s.entryEnds q0 e 0x10 0 0))
          ∧ (s.on F.GY_STATUS_WIPING = false → s.gy.idle = false →
            exec (.pointRead q e) s = .next (queued (.read q0 s.qe.nextJob m (Entry.le e 16 8 / 32 * 32) (Entry.readPoints e))))
          ∧ (s.on F.GY_STATUS_WIPING = false → s.gy.idle = true → s.on F.GY_CTRL_EN = true → ∀ p x, Entry.readPoints e = [p] → s.point p = some x →
            exec (.pointRead q e) s = .next ((((s.inc F.GY_RD_CNT).heat p 1).toHost
              (.mem (fnOf m) (BitVec.ofNat 64 (Entry.le e 16 8 / 32 * 32)) (readCopy (some x) s.dt))).entryEnds q0 e 0 1 0))))
      ∧ (Entry.malformed e opSubscribe rx = false → s.gyTakes = true →
        let p := bits (Entry.le e 4 4) 0 23
        let ring := s.cqRef m (bits (Entry.le e 8 2) 0 10)
        let db : DWord := BitVec.ofNat 64 (Entry.le e 16 8)
        let i := bits (Entry.le e 12 4) 0 18
        (s.may 0x0D m permW = false → let t := (s.deny 4 m 0x0D 0).entryEnds q0 e 0x12 0 0
          exec (.subscribe q e) s = .next t ∧ exec (.unsubscribe q e) s = .next t)
        ∧ (s.may 0x0D m permW = true →
          (bits (Entry.le e 4 4) 31 1 = 1 → exec (.subscribe q e) s = exec (.unsubscribe q e) s)
          ∧ (s.gy.idle = false → exec (.unsubscribe q e) s = .next (queued (.unsub q0 s.qe.nextJob m i))
            ∧ (bits (Entry.le e 4 4) 31 1 = 0 → exec (.subscribe q e) s = .next (queued (.sub q0 s.qe.nextJob m p ring (Entry.le e 10 1) db))))
          ∧ (s.gy.idle = true → s.gy.notes = [] →
            (bits (Entry.le e 4 4) 31 1 = 0 → let x := s.subscribe m p ring (Entry.le e 10 1) db
              exec (.subscribe q e) s = .next (x.1.entryEnds q0 e x.2.1 x.2.2 0))
            ∧ (let x := s.unsubscribe m i
              exec (.unsubscribe q e) s = .next (x.1.entryEnds q0 e x.2.1 x.2.2 0)))))
      ∧ (Entry.malformed e opTimedAction rx = false →
        let a := { s.taOfEntry q0 s.qe.nextJob e with queue := some (q0, r.fetch) }
        (a.kind = 0 ∨ (a.kind = 1 ∧ a.addr % 4 ≠ 0) ∨ (0 < a.period ∧ a.period < 1000) → exec (.timedAction q e) s = .next (s.entryEnds q0 e 9 0 0))
        ∧ (a.kind ≠ 0 → (a.kind = 1 → a.addr % 4 = 0) → (a.period = 0 ∨ 1000 ≤ a.period) →
          (s.taFree = none → exec (.timedAction q e) s = .next ((s.raise0 Src.KN_TA_FULL 0).entryEnds q0 e 0x0B 0 0))
          ∧ (∀ i, s.taFree = some i →
            exec (.timedAction q e) s = .next (let t := s.wr F.KN_STATUS_TA_FREE (s.rd F.KN_STATUS_TA_FREE - 1)
              { t with kn := { t.kn with
                tas := Sparse.put none t.kn.tas i (some { a with seq := s.kn.taSeq, passed := decide (a.dt < s.dt) }), taSeq := s.kn.taSeq + 1 } }.entryEnds
                  q0 e 0 i 0)))))
    ∧ (r.fence = none → exec (.fencePass q) s = .next s)
    ∧ (∀ id nb pos, r.fence = some (id, nb) → r.mute = false →
      (s.dt < nb → exec (.fencePass q) s = .next s)
      ∧ (nb ≤ s.dt → r.jobs = [⟨id, pos, 0x0A, 1, 5, false, 7, false, none, false⟩] → ∃ t, exec (.fencePass q) s = .next t
        ∧ (t.sq q0).fence = none ∧ (t.sq q0).jobs = [⟨id, pos, 0x0A, 1, 5, false, 7, true, some ⟨0, 0, 0, 0⟩, false⟩] ∧ t.ln = s.ln
        ∧ s.keepsRegs t [F.QE_SQ_HEAD q0]))

/-- R306, R327, R328, R330, R336, R339, R342, R345, R368, R390: commands to the channels of the DMA engine, and copy jobs of the rings. What
R345 leaves undefined after a drop is free. Where the manual leaves a point open it states the model's choice: log entries 49 (DEDUCED),
70 (DEDUCED). -/
def Obligations.DmaChannels : Prop :=
  (∀ (m : Nat) (c : Fin 16) (v : BitVec 6) (s : State),
    let i := c.val
    let mine := m = s.chOwner i ∨ m = 0
    let st := s.rd (F.CH_STAT_STATE i)
    let ready := s.on (F.CH_CTRL_EN i) = true ∧ s.on F.DMA_CTRL_EN = true ∧ s.on F.DMA_STATUS_HALT = false ∧ (st = 0 ∨ st = 4)
    (s.accepts m (0xF0100 + 0x40 * i + 0x18) permW →
      (¬ mine → exec (.dmaStart m c) s = .next (s.inc F.DMA_REJ) ∧ exec (.dmaChain m c) s = .next (s.inc F.DMA_REJ)
        ∧ exec (.dmaResume m c) s = .next (s.inc F.DMA_REJ) ∧ exec (.channelDrop m c) s = .next (s.inc F.DMA_REJ))
      ∧ (mine →
        (¬ ready → exec (.dmaStart m c) s = .next (s.inc F.DMA_START_REJ) ∧ exec (.dmaChain m c) s = .next (s.inc F.DMA_START_REJ))
        ∧ (ready →
          (0 < s.rd (F.CH_COUNT i) → s.chBme i false = true → ∃ t, exec (.dmaStart m c) s = .next t ∧ t.rd (F.CH_STAT_STATE i) = 1
            ∧ bits (t.rd F.DMA_STATUS_BUSY) i 1 = 1 ∧ (t.ch i).act = .regs (s.chXfer i) ∧ s.keepsRegs t [F.CH_STAT_STATE i, F.DMA_STATUS_BUSY]
            ∧ t = { s with regs := t.regs, dma := t.dma })
          ∧ (s.rd (F.CH_COUNT i) = 0 → s.on (F.CH_CFG_IRQ i) = false → ∃ t, exec (.dmaStart m c) s = .next t ∧ t.rd (F.CH_STAT_STATE i) = 0
            ∧ t.rd (F.CH_STAT_LAST_ST i) = 0 ∧ t.rd64 (F.CH_SRC_LO i) (F.CH_SRC_HI i) = s.rd64 (F.CH_SRC_LO i) (F.CH_SRC_HI i)
            ∧ t.rd64 (F.CH_DST_LO i) (F.CH_DST_HI i) = s.rd64 (F.CH_DST_LO i) (F.CH_DST_HI i) ∧ (t.ch i).act = .none)
          ∧ (s.chBme i false = true → ∃ t, exec (.dmaChain m c) s = .next t ∧ t.rd (F.CH_STAT_STATE i) = 1 ∧ t.rd (F.CH_STAT_HOPS i) = 0
            ∧ t.rd64 (F.CH_CUR_LO i) (F.CH_CUR_HI i) = s.rd64 (F.CH_DESC_LO i) (F.CH_DESC_HI i) / 32 * 32 ∧ (t.ch i).act = .fetch ∧ (t.ch i).reading = true
            ∧ s.keepsRegs t [F.CH_STAT_STATE i, F.DMA_STATUS_BUSY, F.CH_STAT_HOPS i, F.CH_CUR_LO i, F.CH_CUR_HI i])
          ∧ (s.chBme i false = false → s.on F.DMA_CTRL_ATTRIB = true → s.on (F.CH_CFG_IRQ i) = false →
            let failed := fun (t : State) (addr : Nat) => t.rd (F.CH_STAT_STATE i) = 4 ∧ t.rd (F.CH_STAT_LAST_ST i) = 1 ∧ t.rd F.DMA_ERR_INFO_CAUSE = 5
              ∧ t.rd64 F.DMA_ERR_ADDR_LO F.DMA_ERR_ADDR_HI = addr ∧ t.rd F.DMA_BUS_ERR_CNT = min (s.rd F.DMA_BUS_ERR_CNT + 1) (2 ^ 32 - 1)
            (0 < s.rd (F.CH_COUNT i) → ∃ t, exec (.dmaStart m c) s = .next t ∧ failed t (s.rd64 (F.CH_SRC_LO i) (F.CH_SRC_HI i)))
            ∧ ∃ t, exec (.dmaChain m c) s = .next t ∧ failed t (s.rd64 (F.CH_DESC_LO i) (F.CH_DESC_HI i) / 32 * 32)))
        ∧ (st ≠ 3 ∨ s.on F.DMA_STATUS_HALT = true → exec (.dmaResume m c) s = .next s)
        ∧ (st = 3 → s.on F.DMA_STATUS_HALT = false → s.chBme i false = true →
          ((s.ch i).was = 2 → ∃ t, exec (.dmaResume m c) s = .next t ∧ t.rd (F.CH_STAT_STATE i) = 2 ∧ t.dma = s.dma
            ∧ s.keepsRegs t [F.CH_STAT_STATE i, F.DMA_STATUS_BUSY])
          ∧ (∀ x, (s.ch i).was = 1 → (s.ch i).act = .regs x → x.srcFixed = false → x.dstFixed = false → x.count < 2 ^ 24 → ∃ t, exec (.dmaResume m c) s = .next t
            ∧ t.rd (F.CH_STAT_STATE i) = 1 ∧ t.rd (F.CH_COUNT i) = x.count ∧ t.rd64 (F.CH_SRC_LO i) (F.CH_SRC_HI i) = x.src.toNat
            ∧ t.rd64 (F.CH_DST_LO i) (F.CH_DST_HI i) = x.dst.toNat ∧ t.dma = s.dma))
        ∧ ((match (s.ch i).act with | .pool _ _ _ _ => false | _ => true) = true → ∃ t, exec (.channelDrop m c) s = .next t
          ∧ t.rd (F.CH_CTRL_EN i) = 0 ∧ t.rd (F.CH_STAT_STATE i) = 0 ∧ t.rd (F.CH_STAT_LAST_ST i) = 4 ∧ t.rd (F.CH_STAT_DB_PEND i) = 0
          ∧ t.ch i = { Ch.empty with idleAt := s.tb.mono }
          ∧ s.keepsRegs t [F.CH_CTRL_EN i, F.CH_STAT_STATE i, F.CH_STAT_LAST_ST i, F.CH_STAT_DB_PEND i, F.DMA_STATUS_BUSY, F.CH_SRC_LO i, F.CH_SRC_HI i,
            F.CH_DST_LO i, F.CH_DST_HI i, F.CH_COUNT i, F.CH_CUR_LO i, F.CH_CUR_HI i]
          ∧ t = { s with regs := t.regs, dma := t.dma, freeIdx := s.freeIdx + 7 })))
    ∧ (s.accepts m (0xF0138 + 0x40 * i) permDB →
      (¬ mine → exec (.chDb m c) s = .next (s.inc F.DMA_REJ))
      ∧ (mine →
        (st = 1 → exec (.chDb m c) s = .next (s.wr (F.CH_STAT_DB_PEND i) 1))
        ∧ (st = 2 → s.chBme i false = true → exec (.chDb m c) s = .next { s with dma := Sparse.put Ch.empty s.dma i (
            if (s.ch i).reading then { s.ch i with again := true } else { s.ch i with reading := true }) })
        ∧ (st ≠ 1 → st ≠ 2 → exec (.chDb m c) s = .next (s.inc F.DMA_DB_IGN))))
    ∧ (s.accepts m (0xF0130 + 0x40 * i) permW → s.may 0x0F m permADM = true →
      (14 ≤ i ∨ (m ≠ 0 ∧ m ≠ 0x20) → exec (.chOwnerWrite m c v) s = .next (s.inc F.DMA_REJ))
      ∧ (i < 14 → m = 0 ∨ m = 0x20 →
        (st = 0 → v = 0 ∨ v = 3 ∨ v = 0x20 → exec (.chOwnerWrite m c v) s = .next (s.wr (F.CH_OWNER i) v.toNat))
        ∧ (st = 4 ∨ (st = 0 ∧ v ≠ 0 ∧ v ≠ 3 ∧ v ≠ 0x20) → exec (.chOwnerWrite m c v) s = .next (s.inc F.DMA_REJ))
        ∧ (1 ≤ st → st ≤ 3 → v.toNat = s.chOwner i → exec (.chOwnerWrite m c v) s = .next s)))
    ∧ (s.accepts m 0xF0004 permW → exec (.haltClear m) s = .next (s.wr F.DMA_STATUS_HALT 0))
    ∧ (s.accepts m 0xF0000 permW → (∀ k, k < 16 → s.chState k = 0 ∧ s.ch k = Ch.empty) → ∃ t, exec (.dmaEngineDisable m) s = .next t ∧ t.on F.DMA_CTRL_EN = false
      ∧ t.rd (F.CH_STAT_LAST_ST i) = 4 ∧ t.chState i = 0))
  ∧ (∀ (q : BitVec 10) (e : List Byte) (s : State),
      let q0 := q.toNat
      let r := s.sq q0
      let j : CopyJob := ⟨q0, s.qe.nextJob, Entry.le e 9 1 % 4, Entry.le e 4 4 % 2 ^ 24, bits (Entry.le e 8 1) 0 3, bits (Entry.le e 8 1) 3 1 == 1,
        bits (Entry.le e 8 1) 4 1 == 1, BitVec.ofNat 64 (Entry.le e 16 8), BitVec.ofNat 64 (Entry.le e 24 8), s.poolChannel.isNone || !s.pt.copies.isEmpty⟩
      (256 ≤ s.pt.copies.length → Entry.opcode e = opDmaCopy → exec (.dmaCopy q e) s = .next s)
      ∧ (s.canFetch q0 (Entry.units e) = false → s.pt.copies.length < 256 → exec (.dmaCopy q e) s = .next
        (if s.mayFetch q0 (Entry.units e) then s.stopAt q0 .tail else s.passTurn q0 (Entry.units e)))
      ∧ (s.canFetch q0 (Entry.units e) = true → Entry.malformed e opDmaCopy (s.on (F.QE_SQ_CFG_TYPE q0)) = false → r.jobs = [] → s.pt.copies.length < 256 →
        exec (.dmaCopy q e) s = .next (let t := s.entryRuns q0 e 7 false
          { (if j.waited then t.inc F.PT_DMA_WAIT else t) with pt := { t.pt with copies := t.pt.copies ++ [j] } })))
  ∧ (∀ (j : CopyJob) (c : Nat) (s : State), s.pt.copies = [j] →
      (s.poolChannel = none → exec .dmaCopyDispatch s = .next s)
      ∧ (s.poolChannel = some c → 0 < j.len → bits s.pcie.bme (fnOf (s.sqOwner j.q)) 1 = 1 → s.on F.PT_TRACE_CTRL_EN = false → (s.sq j.q).jobs = [] → ∃ t, exec .dmaCopyDispatch s = .next t
        ∧ t.pt.copies = [] ∧ (t.ch c).act = .pool ⟨j.src, j.dst, j.len, j.swap, j.srcFixed, j.dstFixed⟩ j.q j.id j.prio ∧ t.rd (F.CH_STAT_STATE c) = 1
        ∧ s.keepsRegs t [F.CH_STAT_STATE c, F.DMA_STATUS_BUSY, F.QE_SQ_HEAD j.q]))

/-- R329 to R331, R335 to R344: what arrives at a channel: a descriptor, the end of a transfer, and a bus error. Where the manual leaves a
point open it states the model's choice: log entry 49 (DEDUCED). -/
def Obligations.DmaDataAndErrors : Prop :=
  ∀ (c : Fin 16) (b data : List Byte) (cause : Fin 4) (addr : DWord) (issued : Nat) (s : State),
    let i := c.val
    let st := s.rd (F.CH_STAT_STATE i)
    let own := bits (leNat (slice b 31 1)) 7 1
    let next := leNat (slice b 16 8)
    ((st ≠ 1 ∧ st ≠ 2) ∨ (s.ch i).reading = false → exec (.descriptorFetched c b) s = .next s)
    ∧ (s.on F.DMA_CTRL_EN = true → (s.ch i).reading = true → b.length = 32 → (∀ d, s.chBme i d = true) →
      (st = 1 → (s.ch i).act = .fetch →
        (own = 1 → exec (.descriptorFetched c b) s = .next { s with dma := Sparse.put Ch.empty s.dma i { s.ch i with
            act := .desc (descXfer b) next (bits (leNat (slice b 27 1)) 5 1 == 1), reading := false, again := false } })
        ∧ (own = 0 → ∃ t, exec (.descriptorFetched c b) s = .next t ∧ t.rd (F.CH_STAT_STATE i) = 2 ∧ (t.ch i).act = .wait true
          ∧ (t.ch i).reading = s.on (F.CH_STAT_DB_PEND i) ∧ t.rd (F.CH_STAT_DB_PEND i) = 0
          ∧ s.keepsRegs t [F.CH_STAT_STATE i, F.CH_STAT_DB_PEND i, F.DMA_STATUS_BUSY]))
      ∧ (st = 2 → (s.ch i).act = .wait false →
        (next % 2 = 0 → ∃ t, exec (.descriptorFetched c b) s = .next t ∧ t.rd (F.CH_STAT_STATE i) = 1 ∧ t.rd (F.CH_STAT_HOPS i) = 0
          ∧ t.rd64 (F.CH_CUR_LO i) (F.CH_CUR_HI i) = next / 32 * 32 ∧ (t.ch i).act = .fetch)
        ∧ (next % 2 = 1 → exec (.descriptorFetched c b) s =
          .next { s with dma := Sparse.put Ch.empty s.dma i { s.ch i with reading := (s.ch i).again, again := false } })))
    ∧ (∀ x, (s.ch i).act = .regs x →
      (st ≠ 1 ∨ data.length ≠ x.count → exec (.transferComplete c data) s = .next s)
      ∧ (st = 1 → data.length = x.count → s.on F.DMA_CTRL_EN = true → (∀ d, s.chBme i d = true) → x.srcFixed = false → x.dstFixed = false →
        s.on (F.CH_CFG_IRQ i) = false → x.src.toNat + x.count < 2 ^ 64 → x.dst.toNat + x.count < 2 ^ 64 → ∃ t, exec (.transferComplete c data) s = .next t
          ∧ t.rd (F.CH_STAT_STATE i) = 0 ∧ t.rd (F.CH_STAT_LAST_ST i) = 0 ∧ t.rd (F.CH_COUNT i) = 0
          ∧ t.rd64 (F.CH_SRC_LO i) (F.CH_SRC_HI i) = x.src.toNat + x.count ∧ t.rd64 (F.CH_DST_LO i) (F.CH_DST_HI i) = x.dst.toNat + x.count
          ∧ t = { s with regs := t.regs, dma := t.dma, pcie := t.pcie }))
    ∧ (∀ x irq, (s.ch i).act = .desc x next irq → st = 1 → data.length = x.count → s.on F.DMA_CTRL_EN = true → (∀ d, s.chBme i d = true) →
      next % 2 = 1 → ∃ t, exec (.transferComplete c data) s = .next t
        ∧ t.rd (F.CH_STAT_STATE i) = 2 ∧ t.rd F.DMA_DESC_CNT = min (s.rd F.DMA_DESC_CNT + 1) (2 ^ 32 - 1)
        ∧ t.rd (F.CH_DESC_CNT i) = min (s.rd (F.CH_DESC_CNT i) + 1) (2 ^ 32 - 1) ∧ (t.ch i).act = .wait false)
    ∧ ((st ≠ 1 ∧ st ≠ 2) ∨ s.on F.DMA_CTRL_EN = false → exec (.busError c cause addr issued data false) s = .next s)
    ∧ (st = 1 → s.on F.DMA_CTRL_EN = true → (s.ch i).act = .fetch → (s.ch i).reading = true → ∃ t, exec (.busError c cause addr issued data false) s = .next t
      ∧ t.rd64 F.DMA_ERR_ADDR_LO F.DMA_ERR_ADDR_HI = addr.toNat ∧ t.rd F.DMA_ERR_INFO_VALID = 1 ∧ t.rd F.DMA_ERR_INFO_CAUSE = cause.val + 1
      ∧ t.rd F.DMA_BUS_ERR_CNT = min (s.rd F.DMA_BUS_ERR_CNT + 1) (2 ^ 32 - 1) ∧ ⟨Src.DMA_BUS_ERR, 0xFF, none, i, false⟩ ∈ t.cl.inbox
      ∧ (s.on F.DMA_CTRL_ATTRIB = true → t.rd (F.CH_STAT_STATE i) = 4 ∧ t.rd (F.CH_STAT_LAST_ST i) = 1 ∧ t.rd F.DMA_ERR_INFO_CH = i
        ∧ t.on F.DMA_STATUS_HALT = s.on F.DMA_STATUS_HALT)
      ∧ (s.on F.DMA_CTRL_ATTRIB = false → t.rd (F.CH_STAT_STATE i) = 3 ∧ t.on F.DMA_STATUS_HALT = true ∧ t.rd F.DMA_ERR_INFO_CH_VALID = 0))
    ∧ (∀ x, st = 1 → s.on F.DMA_CTRL_EN = true → (s.ch i).act = .regs x → s.on (F.CH_CFG_IRQ i) = false → ∃ t, exec (.busError c cause addr issued data true) s = .next t
      ∧ t.rd F.DMA_TAIL_CNT = min (s.rd F.DMA_TAIL_CNT + 1) (2 ^ 32 - 1) ∧ ⟨Src.DMA_ERR_TAIL, 0xFF, none, i, false⟩ ∈ t.cl.inbox
      ∧ t.rd (F.CH_STAT_STATE i) = 0 ∧ t.rd (F.CH_STAT_LAST_ST i) = 2 ∧ t.rd (F.CH_COUNT i) = 0)

/-- R350 to R359, R361, R370, R390: cells and chains, their holders, whose operations are applied at the end of a core cycle
(`State.holdFlush`), the wipe of freed cells, quotas, the size of pool 1, and the clearing of the decision trace. Where the manual leaves
a point open it states the model's choice: log entries 26 (DESIGN CHOICE), 64 (DEDUCED). -/
def Obligations.CellsChainsAndHolders : Prop :=
  (∀ (c : Nat) (ch : Chain) (s : State), s.chain c = some ch → ch.charge < 64 → c < 2 ^ 19 →
    let q := poolOfChain c
    let free := if q = 0 then F.GR_FREE0 else F.GR_FREE1
    let used := F.GR_QUSED_q_m q ch.charge
    (s.cellDecide ch.charge q ch.cells.length = none → s.rd used + 1 < 2 ^ 23 → ∃ t, exec (.cellAlloc [.next c]) s = .next t
      ∧ t.rd free + 1 = s.rd free ∧ t.rd used = s.rd used + 1 ∧ t.rd F.GR_ALLOC = min (s.rd F.GR_ALLOC + 1) (2 ^ 32 - 1)
      ∧ t.chain c = some { ch with cells := ch.cells ++ [lowestFree (q * 2 ^ 22) s.cellsUsed] }
      ∧ s.keepsRegs t [free, used, F.GR_ALLOC, F.GR_RR_CLASS0, F.GR_RR_CLASS1, F.GR_RR_CLASS2, F.GR_RR_CLASS3]
      ∧ t = { s with regs := t.regs, gr := { s.gr with chains := t.gr.chains } })
    ∧ (s.cellDecide ch.charge q ch.cells.length = some .quota →
      exec (.cellAlloc [.next c]) s = .next (((s.inc (F.GR_QFAIL_m ch.charge)).inc F.GR_FAIL_QUOTA).raise Src.GR_QUOTA 0xFF (some ch.charge) 0))
    ∧ (s.cellDecide ch.charge q ch.cells.length = some .empty →
      exec (.cellAlloc [.next c]) s = .next (((s.inc (F.GR_QFAIL_m ch.charge)).inc F.GR_FAIL_EMPTY).raise Src.GR_EXHAUST 0xFF (some ch.charge) 0))
    ∧ (s.cellDecide ch.charge q ch.cells.length = some .limit →
      exec (.cellAlloc [.next c]) s = .next ((s.inc (F.GR_QFAIL_m ch.charge)).inc F.GR_FAIL_LIMIT))
    ∧ (∀ m data, (m ≠ ch.charge ∨ ch.complete = true → exec (.chainAppend c m data) s = .next s)
      ∧ (m ≠ ch.charge → exec (.chainComplete c m) s = .next s ∧ exec (.chainAbort c m) s = .next s)
      ∧ (m = ch.charge → exec (.chainComplete c m) s = .next (s.setChain c (some { ch with complete := true }))
        ∧ exec (.chainAbort c m) s = .next (s.setChain c (some { ch with complete := true, abort := true })))
      ∧ (m = ch.charge → ch.complete = false → s.cellDecide ch.charge q ch.cells.length = none → ∃ t, exec (.chainAppend c m data) s = .next t
        ∧ t.chain c = some { ch with
            cells := ch.cells ++ [lowestFree (q * 2 ^ 22) s.cellsUsed], data := (ch.data ++ data).take (128 * (ch.cells.length + 1)) }))
    ∧ (∀ m n, m < 64 → s.gr.ops = [] →
      let shared := { s with gr := { s.gr with ops := [.share c m n] } }
      let released := { s with gr := { s.gr with ops := [.release c m] } }
      exec (.share c m n) s = .next shared ∧ exec (.release c m) s = .next released
      ∧ exec (.share c m n) released = .next { s with gr := { s.gr with ops := [.share c m n, .release c m] } }
      ∧ exec (.release c m) shared = .next { s with gr := { s.gr with ops := [.share c m n, .release c m] } }
      ∧ (ch.held m = false → n < 64 →
        let u := fun (op : Nat) => ((((((s.inc F.GR_NONHOLDER).wr F.GR_HOLD_ERR_INFO_VALID 1).wr F.GR_HOLD_ERR_INFO_CAUSE 0).wr
          F.GR_HOLD_ERR_INFO_OP op).wr F.GR_HOLD_ERR_INFO_MASTER m).wr F.GR_HOLD_ERR_INFO_CHAIN c).raise Src.GR_HOLD_ERR 0xFF (some m)
          (0x80000000 + op * 0x20000000 + m * 0x80000 + c)
        shared.holdFlush = u 1 ∧ released.holdFlush = u 0)
      ∧ (ch.held m = true →
        (reservedId n = true → shared.holdFlush = s)
        ∧ (reservedId n = false → ch.held n = true → shared.holdFlush = s.inc F.GR_SHARE_DUP)
        ∧ (reservedId n = false → ch.held n = false → shared.holdFlush = s.setChain c (some { ch with holders := ch.holders + 2 ^ n }))
        ∧ (ch.holders ≠ 2 ^ m → released.holdFlush = s.setChain c (some { ch with holders := ch.holders - 2 ^ m }))
        ∧ (ch.holders = 2 ^ m → q = 0 → let t := released.holdFlush
          t.chain c = none
          ∧ t.rd used = (s.rd used - ch.cells.length) % 2 ^ 23 ∧ t.rd F.GR_FREED = min (s.rd F.GR_FREED + ch.cells.length) (2 ^ 32 - 1)
          ∧ (s.on F.GR_CTRL_WIPE0 = true → t.gr.wipe0 = s.gr.wipe0 ++ ch.cells ∧ t.rd F.GR_FREE0 = s.rd F.GR_FREE0)
          ∧ (s.on F.GR_CTRL_WIPE0 = false → t.gr.wipe0 = s.gr.wipe0 ∧ t.rd F.GR_FREE0 = (s.rd F.GR_FREE0 + ch.cells.length) % 2 ^ 17)))))
  ∧ (∀ (r1 r2 : CellReq) (s : State), s.arbKey (s.reqMaster r1) < s.arbKey (s.reqMaster r2) → s.reqDecide r1 = none → (s.reqServe r1).reqDecide r2 = none →
      exec (.cellAlloc [r1, r2]) s = exec (.cellAlloc [r1]) s ∧ exec (.cellAlloc [r2, r1]) s = exec (.cellAlloc [r1]) s)
  ∧ (∀ (a : Nat) (l : List Nat) (s : State),
      (s.gr.wipe0 = a :: l → exec (.cellWipeDone 0) s = .next ({ s with gr := { s.gr with wipe0 := l } }.wr F.GR_FREE0 (s.rd F.GR_FREE0 + 1)))
      ∧ (s.gr.wipe1 = a :: l → exec (.cellWipeDone 1) s = .next ({ s with gr := { s.gr with wipe1 := l } }.wr F.GR_FREE1 (s.rd F.GR_FREE1 + 1)))
      ∧ (s.gr.wipe0 = [] → exec (.cellWipeDone 0) s = .next s) ∧ (s.gr.wipe1 = [] → exec (.cellWipeDone 1) s = .next s))
  ∧ (∀ (m : Nat) (isMax : Bool) (pool : Fin 2) (who value units : Nat) (s : State),
      let err := fun (code : Nat) => ((s.wr F.GR_STATUS_CFG_ERR_SEEN 1).wr F.GR_STATUS_CFG_ERR code).raise0 Src.GR_CFG code
      (s.accepts m (0xB1000 + 0x200 * pool.val + 8 * who + if isMax then 4 else 0) permW → s.may 0x0B m permADM = true → who < 64 →
        (allocClass who = 4 → exec (.quotaWrite m isMax pool who value) s = .next (err 3))
        ∧ (allocClass who < 4 → isMax = true → exec (.quotaWrite m isMax pool who value) s = .next (s.wr (F.GR_QMAX_q_m pool.val who) value))
        ∧ (allocClass who < 4 → isMax = false →
          (s.poolSize pool.val < s.rsvSum pool.val - s.rd (F.GR_QRSV_q_m pool.val who) + value % 2 ^ 23 → exec (.quotaWrite m isMax pool who value) s = .next (err 1))
          ∧ (s.rsvSum pool.val - s.rd (F.GR_QRSV_q_m pool.val who) + value % 2 ^ 23 ≤ s.poolSize pool.val →
            exec (.quotaWrite m isMax pool who value) s = .next (s.wr (F.GR_QRSV_q_m pool.val who) value))))
      ∧ (s.accepts m 0xB0008 permW → s.may 0x0B m permADM = true → s.on F.GR_CTRL_EN = false →
        (min 128 (units % 256) * 32768 < s.rsvSum 1 → exec (.pool1SizeWrite m units) s = .next (err 2))
        ∧ (s.rsvSum 1 ≤ min 128 (units % 256) * 32768 → exec (.pool1SizeWrite m units) s = .next
          ((s.wr F.GR_FREE1 (s.rd F.GR_FREE1 + min 128 (units % 256) * 32768 - s.poolSize 1)).wr F.GR_POOL1_SIZE_UNITS units)))
      ∧ (s.accepts m 0xC0020 permW → exec (.traceClear m) s = .next
        ((({ s with pt := { s.pt with trace := [] } }.wr F.PT_TRACE_STAT_LEVEL 0).wr F.PT_TRACE_STAT_WPTR 0).wr F.PT_TRACE_STAT_FULL 0)))

/-- R44, R48, R363, R365, R366, R369, R376: the end of a heat window, PITCH's memory window, the binding of a port to an engine, and the
messages of the module's own PTP ports. Where the manual leaves a point open it states the model's choice: log entries 25 (DEDUCED), 71
(DEDUCED). -/
def Obligations.HeatBindingAndPtpMessages : Prop :=
  (∀ (s : State), let win := max 1 (s.rd F.PT_HEAT_CFG_WIN_MS) * 1000000
    (s.tb.mono < s.pt.heatAt + win → exec .heatWindowEnd s = .next s)
    ∧ (s.pt.heatAt + win ≤ s.tb.mono →
      (s.on F.PT_CTRL_HEAT_EN = false → exec .heatWindowEnd s = .next { s with pt := { s.pt with heatAt := s.tb.mono } })
      ∧ (s.on F.PT_CTRL_HEAT_EN = true → s.on F.PT_STATUS_WIPING = false → s.pt.heatCand = [] → exec .heatWindowEnd s =
        .next { s with pt := { s.pt with heatAt := s.tb.mono, heatHot := halve s.pt.heatHot } })
      ∧ (∀ p r h, s.on F.PT_CTRL_HEAT_EN = true → s.on F.PT_STATUS_WIPING = false → s.pt.heatCand = [(p, h)] → s.point p = some r → r.hot = false →
        r.pin = 0 → s.gy.moves = [] → s.gy.moveReq = [] → s.rd F.GY_STATUS_HOT_USED < 131072 → s.rd F.PT_HEAT_CFG_PROMOTE_MIN ≤ h → 0 < s.rd F.PT_MOVE_MAX →
        ∃ t, exec .heatWindowEnd s = .next t ∧ t.gy.moveReq = [⟨p, true, false, []⟩] ∧ t.rd F.PT_PROMOTE = min (s.rd F.PT_PROMOTE + 1) (2 ^ 32 - 1) ∧ t.pt.heatCand = (if h / 2 = 0 then [] else [(p, h / 2)])
          ∧ t.pt.heatHot = halve s.pt.heatHot ∧ t.pt.heatAt = s.tb.mono)))
  ∧ (∀ (m : Nat) (hi : Word) (s : State), s.accepts m 0xC004C permW → s.on F.PT_STATUS_WIPING = false →
      let a := s.rd F.PT_MADDR
      let w := s.heldLow m 0xC0048 + 2 ^ 32 * hi.toNat
      let low := Sparse.put none s.loHeld (m * 2 ^ 24 + 0xC0048) none
      (s.rd F.PT_MSEL = 0 → a < 1024 → exec (.ptMdataWrite m hi) s = .next { s.wr F.PT_MADDR (a + 1) with
        pt := { s.pt with intents := Sparse.put 0 s.pt.intents a (BitVec.ofNat 64 (w &&& 0xFFFF000F)) }, loHeld := low })
      ∧ (s.rd F.PT_MSEL = 1 → a < 2048 → exec (.ptMdataWrite m hi) s = .next { s.wr F.PT_MADDR (a + 1) with
        pt := { s.pt with qsets := Sparse.put 0 s.pt.qsets a (BitVec.ofNat 64 (w &&& 0x83FF83FF83FF83FF)) }, loHeld := low })
      ∧ (2 ≤ s.rd F.PT_MSEL ∨ (s.rd F.PT_MSEL = 0 ∧ 1024 ≤ a) ∨ (s.rd F.PT_MSEL = 1 ∧ 2048 ≤ a) →
        exec (.ptMdataWrite m hi) s = .next { (s.wr F.PT_STATUS_WIN_REJ 1).wr F.PT_MADDR (a + 1) with loHeld := low }))
  ∧ (∀ (p : Fin 10) (s : State), let w := s.wantEngine p.val
      (w.1 = s.rd (engFld p.val) → exec (.engineRebind p) s = .next s)
      ∧ (w.1 ≠ s.rd (engFld p.val) →
        ((s.knPort p.val).quiet.isSome = true → s.on F.PT_TRACE_CTRL_EN = false → exec (.engineRebind p) s = .next { (s.wr (engFld p.val) w.1).inc F.PT_LN_REBIND with
          ln := { s.ln with waits := s.ln.waits.filter (fun x => x != p.val) } })
        ∧ ((s.knPort p.val).quiet = none → p.val ∈ s.ln.waits → exec (.engineRebind p) s = .next s)
        ∧ ((s.knPort p.val).quiet = none → p.val ∉ s.ln.waits → exec (.engineRebind p) s =
          .next ({ s with ln := { s.ln with waits := p.val :: s.ln.waits } }.yieldTo 3 7))))
  ∧ (∀ (p : Fin 2) (req : List Byte) (ago d : Nat) (s : State),
      (s.on F.TB_CTRL_PTP_EN = false → exec (.ptpMessageGeneration p 1 req ago none) s = .next s ∧ exec (.ptpMessageGeneration p 2 req ago (some d)) s =
        .next { s with tb := { s.tb with linkDly := Sparse.put 0 s.tb.linkDly p.val d } })
      ∧ (exec (.ptpMessageGeneration p 0 req ago none) s = .next s)
      ∧ (s.on F.TB_CTRL_PTP_EN = true → s.on F.TB_PTP_CFG_ROLE_OC = true → s.rd F.TB_PTP_CFG_OC_PORT = p.val → s.ln.items.length < 16384 →
        let msg := fun (type : Nat) => s.ptpMessage p.val type (s.rd F.TB_PTP_CFG_DOMAIN) (List.replicate (if type = 2 then 20 else 10) 0)
        let cells := fun (type : Nat) => ((msg type).1.storeChain ⟨6, none, false, none⟩ (msg type).2).2.isSome
        let sent := fun (t : State) (type : Nat) => t.ln.next = s.ln.next + 1
          ∧ (t.item s.ln.next).map (fun it => (it.port, it.cls, it.data)) = some (p.val, 7, (msg type).2)
        (s.on F.TB_PTP_CFG_OC_DELAY = false → s.rd F.TB_PTP_CFG_PROFILE ≠ 1 → cells 1 = true →
          ∃ t, exec (.ptpMessageGeneration p 1 req ago none) s = .next t ∧ sent t 1)
        ∧ (s.on F.TB_PTP_CFG_OC_DELAY = true → cells 2 = true →
          ∃ t, exec (.ptpMessageGeneration p 2 req ago none) s = .next t ∧ sent t 2)))

/-- R377 to R386, R389, R436: posting to a mailbox channel, emptying it, its lock, its binding, and BIND_LOCK; a post to a FULL channel waits
to the end of its core cycle for an EMPTY, and is refused there (`State.postFlush`). Where the manual leaves a point open it states the
model's choice: log entries 15 (DEDUCED), 50 (DEDUCED). -/
def Obligations.Mailboxes : Prop :=
  ∀ (m : Nat) (n : Fin 64) (tag v : Word) (s : State), s.decodes m = true → s.takes m = true → s.may 0x10 m permW = true → s.heldBlk 0x10 = false → m < 64 →
    let i := n.val
    let r := s.mbReceiver i
    let o := s.mbSender i
    let valid := s.on (F.MB_BIND_n_VALID i) = true
    let rej := (s.inc F.MB_REJ).raise Src.MB_ACCESS 0xFF (some m) 0
    (s.on F.MB_CTRL_EN = false → exec (.mailboxPost m n tag) s = .next (s.inc F.MB_REJ))
    ∧ (s.on F.MB_CTRL_EN = true →
      (¬ (valid ∧ o = m) → exec (.mailboxPost m n tag) s = .next rej)
      ∧ (valid → o = m →
        (s.on (F.MB_CH_STAT_FULL i) = true →
          let held := { s with mb := { s.mb with posts := s.mb.posts ++ [⟨m, i, tag, Sparse.get 0 s.mb.stage i⟩] } }
          exec (.mailboxPost m n tag) s = .next held
          ∧ (s.mb.posts = [] → held.postFlush = ((s.wr (F.MB_CH_STAT_POST_REJ i) 1).inc F.MB_POST_REJ).raise Src.MB_POST_FULL 0xFF (some m) i))
        ∧ (s.on (F.MB_CH_STAT_FULL i) = false → ∃ t, exec (.mailboxPost m n tag) s = .next t
          ∧ t.rd (F.MB_CH_STAT_FULL i) = 1 ∧ t.rd (F.MB_CH_TAG i) = tag.toNat
          ∧ t.rd64 (F.MB_CH_PTR_LO i) (F.MB_CH_PTR_HI i) = (Sparse.get 0 s.mb.stage i).toNat
          ∧ t.rd F.MB_POSTS = min (s.rd F.MB_POSTS + 1) (2 ^ 32 - 1) ∧ bits (t.rd (mbNotify r i)) (i % 32) 1 = 1
          ∧ (s.mg.reqsNew = [] → t.mg.reqs = (if i < 4 then s.mg.reqs.filter (· ≠ i) ++ [i] else s.mg.reqs))
          ∧ s.keepsRegs t [F.MB_CH_STAT_FULL i, F.MB_CH_TAG i, F.MB_CH_PTR_LO i, F.MB_CH_PTR_HI i, F.MB_POSTS, mbNotify r i]
          ∧ t = { s with regs := t.regs, mg := t.mg, pcie := t.pcie }))
      ∧ (¬ (valid ∧ r = m) → s.mg.replies = [] → exec (.mailboxEmpty m n) s = .next rej)
      ∧ (valid → r = m → s.mg.replies = [] →
        (s.on (F.MB_CH_STAT_FULL i) = false → exec (.mailboxEmpty m n) s = .next (s.inc F.MB_EMPTY_IGN))
        ∧ (∀ x, s.on (F.MB_CH_STAT_FULL i) = true → s.mb.posts = [x] → x.n = i → ∃ t, exec (.mailboxEmpty m n) s = .next t ∧ t.mb.posts = []
          ∧ t.rd (F.MB_CH_STAT_FULL i) = 1 ∧ t.rd (F.MB_CH_TAG i) = x.tag.toNat ∧ t.rd64 (F.MB_CH_PTR_LO i) (F.MB_CH_PTR_HI i) = x.ptr.toNat
          ∧ bits (t.rd (mbEmpty o i)) (i % 32) 1 = 1 ∧ bits (t.rd (mbNotify m i)) (i % 32) 1 = 1)
        ∧ (s.on (F.MB_CH_STAT_FULL i) = true → s.mb.posts = [] → ∃ t, exec (.mailboxEmpty m n) s = .next t ∧ t.rd (F.MB_CH_STAT_FULL i) = 0
          ∧ bits (t.rd (mbEmpty o i)) (i % 32) 1 = 1 ∧ bits (t.rd (mbNotify m i)) (i % 32) 1 = 0
          ∧ s.keepsRegs t [F.MB_CH_STAT_FULL i, mbEmpty o i, mbNotify m i] ∧ t = { s with regs := t.regs, pcie := t.pcie }))
      ∧ (s.mbBound i m = true →
        (s.on (F.MB_CH_STAT_LOCKED i) = false → exec (.mailboxLockTake n [m]) s =
          .next { (s.wr (F.MB_CH_STAT_LOCKED i) 1).wr (F.MB_CH_STAT_LOCK_OWNER i) m with readData := [0] })
        ∧ (s.on (F.MB_CH_STAT_LOCKED i) = true → s.rd (F.MB_CH_STAT_LOCK_OWNER i) ≠ m → exec (.mailboxLockTake n [m]) s =
          .next { s.inc F.MB_LOCK_BUSY with readData := [BitVec.ofNat 32 (0x80000000 + s.rd (F.MB_CH_STAT_LOCK_OWNER i))] })
        ∧ (s.on (F.MB_CH_STAT_LOCKED i) = true → s.rd (F.MB_CH_STAT_LOCK_OWNER i) = m → exec (.mailboxLockTake n [m]) s = .next { s with readData := [0] })))
    ∧ (s.mbBound i m = false → exec (.mailboxLockFree m n) s = .next rej)
    ∧ (s.mbBound i m = true →
      (s.on (F.MB_CH_STAT_LOCKED i) = true ∧ s.rd (F.MB_CH_STAT_LOCK_OWNER i) = m →
        exec (.mailboxLockFree m n) s = .next ((s.wr (F.MB_CH_STAT_LOCKED i) 0).wr (F.MB_CH_STAT_LOCK_OWNER i) 0))
      ∧ (s.on (F.MB_CH_STAT_LOCKED i) = false ∨ s.rd (F.MB_CH_STAT_LOCK_OWNER i) ≠ m → exec (.mailboxLockFree m n) s = .next (s.inc F.MB_REJ)))
    ∧ (s.accepts m (0x100A00 + 4 * i) permW →
      (i < 8 → exec (.mailboxBindWrite m n v) s = .next s)
      ∧ (8 ≤ i →
        (s.bindCode m i v.toNat = 0 → exec (.mailboxBindWrite m n v) s = .next
          (((s.wr (F.MB_BIND_n_VALID i) (bits v.toNat 31 1)).wr (F.MB_BIND_n_RECEIVER i) (bits v.toNat 8 6)).wr (F.MB_BIND_n_SENDER i) (bits v.toNat 0 6)))
        ∧ (s.bindCode m i v.toNat ≠ 0 → exec (.mailboxBindWrite m n v) s = .next
          (((s.wr F.MB_STATUS_BIND_ERR_SEEN 1).wr F.MB_STATUS_BIND_ERR (s.bindCode m i v.toNat)).raise Src.MB_ACCESS 0xFF (some m) (s.bindCode m i v.toNat)))))
    ∧ (s.accepts m 0x100000 permW → exec (.bindLock m) s = .next (if m = 0 then s.wr F.MB_CTRL_BIND_LOCK 1 else s))

/-- R391 to R398, R404, R405, R411: the access tables, whose old word still holds for the checks of the core cycle of its write, and their
lock, the end of a debug level, an ordered life-cycle change, and the instructions of the debug port. What TRACE returns is not in the
manual: it is a free value. Where the manual leaves a point open it states the model's choice: log entries 56 (DEDUCED), 65 (DESIGN
CHOICE), 72 (DEDUCED). -/
def Obligations.AccessTablesAndDebugPort : Prop :=
  (∀ (m : Nat) (t : Fin 22) (w : Fin 8) (v : Word) (s : State), s.accepts m (0x131000 + 0x20 * t.val + 4 * w.val) permW →
    (m = 0 → s.on F.AC_STATUS_LOCKED = false → ∃ u, exec (.accessTableWrite m t w v) s = .next u
      ∧ u.rd (F.AC_TBL_t_w t.val w.val) = v.toNat &&& (if w.val = 0 then 0xF else if w.val = 4 ∨ w.val = 5 then 0xFFFFFFFF else 0)
      ∧ s.keepsRegs u [F.AC_TBL_t_w t.val w.val] ∧ (∀ k, k < 64 → u.may t.val k permW = s.may t.val k permW)
      ∧ u = { s with regs := u.regs, crp := { s.crp with tblOld := u.crp.tblOld } })
    ∧ (m ≠ 0 ∨ s.on F.AC_STATUS_LOCKED = true → exec (.accessTableWrite m t w v) s = .next ((s.inc F.AC_LOCK_REJ).raise0 Src.AC_TBL_LOCKED 0)))
  ∧ (∀ (m : Nat) (s : State), s.accepts m 0x130000 permW →
      let start := { s.wr F.AC_STATUS_DBG (if s.rd F.AC_STATUS_LC = 1 then 2 else 0) with crp := { s.crp with dbgEnd := none, halted := false } }
      (m = 0 → ∃ u, exec (.tableLock m) s = .next u ∧ u.rd F.AC_CTRL_LOCK = 1 ∧ u.rd F.AC_STATUS_LOCKED = 1
        ∧ s.keepsRegs u [F.AC_CTRL_LOCK, F.AC_STATUS_LOCKED, F.CRP_BOOT_PHASE] ∧ u = { s with regs := u.regs })
      ∧ (m ≠ 0 → exec (.tableLock m) s = .next s)
      ∧ (m = 0 ∨ m = 1 ∨ m = 0x20 → exec (.dbgEnd m) s = .next start)
      ∧ (m ≠ 0 → m ≠ 1 → m ≠ 0x20 → exec (.dbgEnd m) s = .next s))
  ∧ (∀ (d dest : Nat) (s : State),
      (s.crp.dbgEnd = none → exec .debugExpiry s = .next s)
      ∧ (s.crp.dbgEnd = some d → s.tb.mono < d → exec .debugExpiry s = .next s)
      ∧ (s.crp.dbgEnd = some d → d ≤ s.tb.mono → exec .debugExpiry s =
        .next { s.wr F.AC_STATUS_DBG (if s.rd F.AC_STATUS_LC = 1 then 2 else 0) with crp := { s.crp with dbgEnd := none, halted := false } })
      ∧ (s.crp.lcNext = none → exec .lifecycleChange s = .next s)
      ∧ (s.crp.lcNext = some dest → dest < 8 → ∃ t, exec .lifecycleChange s = .next t ∧ t.rd F.AC_STATUS_LC = dest
        ∧ (s.rd F.AC_STATUS_LC = 3 → dest = 2 → t.rd F.AC_STATUS_REOWN = (s.rd F.AC_STATUS_REOWN + 1) % 16)
        ∧ (dest = 4 ∨ dest = 5 → t.mg.ownerKey = none ∧ t.mg.ebA = none ∧ t.mg.ebB = none)
        ∧ (dest = 5 → t.mg.deviceKey = false) ∧ t.on F.AC_STATUS_LOCKED = false))
  ∧ (∀ (token : List Byte) (pads : List Bool) (s : State),
      (s.crp.off = true → exec .idcode s = .next s ∧ exec (.dbgToken token) s = .next s ∧ exec .dbgHalt s = .next s ∧ exec .dbgStep s = .next s
        ∧ exec (.boundaryScan pads) s = .next s ∧ exec .dbgTrace s = .next { s with readData := [] })
      ∧ (s.crp.off = false → exec .idcode s = .next { s with readData := [Config.idcode] }
        ∧ exec (.dbgToken token) s = .next { s with crp := { s.crp with token := some token } }
        ∧ (s.rd F.AC_STATUS_DBG = 0 → exec .dbgTrace s = .next { s with readData := [] })
        ∧ (1 ≤ s.rd F.AC_STATUS_DBG → ∃ w, exec .dbgTrace s = .next { s with readData := [w], freeIdx := s.freeIdx + 1 })
        ∧ (s.rd F.AC_STATUS_DBG < 2 → exec .dbgHalt s = .next s ∧ exec .dbgStep s = .next s ∧ exec (.boundaryScan pads) s = .next s)
        ∧ (2 ≤ s.rd F.AC_STATUS_DBG → exec .dbgHalt s = .next { s with crp := { s.crp with halted := true } }
          ∧ exec (.boundaryScan pads) s = .next { s with crp := { s.crp with pads := pads } }
          ∧ (s.crp.halted = true → exec .dbgStep s = .next { s with crp := { s.crp with steps := s.crp.steps + 1 } })
          ∧ (s.crp.halted = false → exec .dbgStep s = .next s))))

/-- R390, R406, R407, R410: requests for a power state, their refusals in order, what the one that stands at the end of its core cycle does
(`State.pwFlush`, which each tick calls), and the end of the transition to HOLD. Where the manual leaves a point open it states the
model's choice: log entry 57 (DEDUCED). -/
def Obligations.PowerStates : Prop :=
  (∀ (m confirm : Nat) (s : State), s.takes m = true →
    let rej := fun (t : State) (code : Nat) => ((t.wr F.CRP_PWR_STATUS_REJ 1).wr F.CRP_PWR_STATUS_REJ_CODE code).raise0 Src.PWR_REQ_REJ code
    (s.may 1 m permW = false →
      let t := rej (s.deny 1 m 1 0x100) 1
      exec (.powerReqRun m) s = .next t ∧ exec (.powerReqTrim m) s = .next t ∧ exec (.powerReqHold m) s = .next t ∧ exec (.powerReqOff m confirm) s = .next t)
    ∧ (s.may 1 m permW = true →
      (s.may 1 m permADM = false → exec (.powerReqOff m confirm) s = .next (rej (s.deny 3 m 1 0x100) 1))
      ∧ (s.may 1 m permADM = true → confirm ≠ 0xA5 → exec (.powerReqOff m confirm) s = .next (rej s 2))
      ∧ (s.on F.CRP_WIPE_STATUS_DRAM = true → exec (.powerReqRun m) s = .next (rej s 3) ∧ exec (.powerReqTrim m) s = .next (rej s 3)
        ∧ exec (.powerReqHold m) s = .next (rej s 3) ∧ (s.may 1 m permADM = true → exec (.powerReqOff m 0xA5) s = .next (rej s 3)))
      ∧ (s.on F.CRP_WIPE_STATUS_DRAM = false →
        (s.on F.CRP_PWR_STATUS_BUSY = true → exec (.powerReqRun m) s = .next (rej s 4) ∧ exec (.powerReqTrim m) s = .next (rej s 4)
          ∧ exec (.powerReqHold m) s = .next (rej s 4))
        ∧ (s.on F.CRP_PWR_STATUS_BUSY = false →
          let asked := fun (st : Nat) => { s with crp := { s.crp with pwReqs := s.crp.pwReqs ++ [(m, st)] } }
          exec (.powerReqRun m) s = .next (asked pwRun) ∧ exec (.powerReqTrim m) s = .next (asked pwTrim)
          ∧ exec (.powerReqHold m) s = .next (asked pwHold) ∧ (s.may 1 m permADM = true → exec (.powerReqOff m 0xA5) s = .next (asked pwOff))))))
  ∧ (∀ (m st : Nat) (s : State), s.crp.pwReqs = [(m, st)] →
      let now := s.rd F.CRP_PWR_STATUS_STATE
      let t := s.pwFlush
      t.crp.pwReqs = []
      ∧ (now = st → t = { s with crp := { s.crp with pwReqs := [] } })
      ∧ (st = pwRun → now = pwTrim → s.fwRuns = false → t.rd F.CRP_PWR_STATUS_STATE = pwRun ∧ s.keepsRegs t [F.CRP_PWR_STATUS_STATE]
        ∧ t = { s with regs := t.regs, pcie := t.pcie, crp := t.crp })
      ∧ (st = pwTrim → now = pwRun → s.fwRuns = false → t = { s with crp := { s.crp with pwReqs := [] } }.wr F.CRP_PWR_STATUS_STATE pwTrim)
      ∧ (st = pwHold → now = pwRun ∨ now = pwTrim → t.rd F.CRP_PWR_STATUS_BUSY = 1 ∧ t.crp.toHold = true ∧ t.rd F.CRP_PWR_STATUS_STATE = now)
      ∧ (st = pwOff → now ≠ pwOff → t.rd F.CRP_PWR_STATUS_STATE = pwOff ∧ t.crp.off = true))
  ∧ (∀ (m n x y : Nat) (s : State), s.crp.pwReqs = [(m, x), (n, y)] →
      s.pwFlush = { s with crp := { s.crp with pwReqs := [if m < n then (m, x) else (n, y)] } }.pwFlush)
  ∧ (∀ (s : State),
      (s.crp.toHold = false ∨ (List.range 10).all (fun p => (s.lnPort p).wire.isNone) = false → exec .holdEntered s = .next s)
      ∧ (s.crp.toHold = true → (List.range 10).all (fun p => (s.lnPort p).wire.isNone) = true → ∃ t, exec .holdEntered s = .next t
        ∧ t.rd F.CRP_PWR_STATUS_STATE = pwHold ∧ t.rd F.CRP_PWR_STATUS_BUSY = 0 ∧ t.crp.toHold = false
        ∧ t.rd F.CRP_HOLD_CNT = min (s.rd F.CRP_HOLD_CNT + 1) (2 ^ F.CRP_HOLD_CNT.w - 1)))

/-- R436, R400, R411, R441 to R443, R446 to R448, R452: the requests of the host. A request that is not the one to be served does nothing; in
RECOVERY every tag but 0x0102 is only taken off its channel; an unusable buffer gives code 7 and MG_WIN_ERR. The content of a refusal's
code that the manual does not state is a free value; the formats of firmware images beyond their header are the command's own word. Where
the manual leaves a point open it states the model's choice: log entries 58 (DEDUCED), 62 (DEDUCED). -/
def Obligations.RequestsOfTheHost : Prop :=
  (∀ (c : Fin 4) (buf : Option (List Byte)) (a b d : Bool) (s : State), s.reqNow c.val = false →
    exec (.tokenEval (some c) buf a) s = .next s ∧ exec (.reqStageFirmware c buf a b d) s = .next s ∧ exec (.reqInstallOwnerKey c buf) s = .next s
      ∧ exec (.reqStageEbain c buf a b) s = .next s ∧ exec (.reqLogExtract c buf) s = .next s ∧ exec (.reqHealthReport c a) s = .next s
      ∧ exec (.reqActivateFirmware c) s = .next s ∧ exec (.reqConfirmFirmware c) s = .next s ∧ exec (.reqReadOwnerData c a) s = .next s
      ∧ exec (.reqUnknown c) s = .next s)
  ∧ (∀ (c : Fin 4) (buf : Option (List Byte)) (sig fmt nor ok : Bool) (s : State), s.reqNow c.val = true →
    let tag := s.rd (F.MB_CH_TAG c.val)
    let got := if bits s.pcie.bme 0 1 = 1 then buf else none
    let code := fun (t : State) (k : Nat) => t.reply c.val 1 k
    let noBuf := code (s.raise0 Src.MG_WIN_ERR tag) 7
    let off := s.reqEmpty c.val
    (s.rd F.MG_STATUS_STATE = 4 →
      (tag = 0x101 → exec (.tokenEval (some c) buf sig) s = .next off) ∧ (tag = 0x103 → exec (.reqInstallOwnerKey c buf) s = .next off)
      ∧ (tag = 0x104 → exec (.reqStageEbain c buf sig nor) s = .next off) ∧ (tag = 0x105 → exec (.reqLogExtract c buf) s = .next off)
      ∧ (tag = 0x106 → exec (.reqHealthReport c ok) s = .next off) ∧ (tag = 0x107 → exec (.reqActivateFirmware c) s = .next off)
      ∧ (tag = 0x108 → exec (.reqConfirmFirmware c) s = .next off) ∧ (tag = 0x109 → exec (.reqReadOwnerData c ok) s = .next off)
      ∧ (tag < 0x101 ∨ 0x109 < tag → exec (.reqUnknown c) s = .next off))
    ∧ (s.rd F.MG_STATUS_STATE ≠ 4 →
      (tag = 0x101 → got = none → exec (.tokenEval (some c) buf sig) s = .next noBuf)
      ∧ (tag = 0x101 → Option.all (fun b => decide (b.length = 112)) got = true → got.isSome = true →
        exec (.tokenEval (some c) buf sig) s = .next (code (s.tkEval (got.getD []) sig) (s.tkCode (got.getD []) sig)))
      ∧ (tag = 0x102 → s.rd F.MG_STATUS_STATE = 2 → exec (.reqStageFirmware c buf fmt sig nor) s = .next (code s 6))
      ∧ (tag = 0x102 → s.rd F.MG_STATUS_STATE ≠ 2 → got = none → exec (.reqStageFirmware c buf fmt sig nor) s = .next noBuf)
      ∧ (tag = 0x102 → s.rd F.MG_STATUS_STATE ≠ 2 → Option.all (fun b => decide (16 ≤ b.length ∧ (fwLength b ≤ b.length ∨ 8388608 < fwLength b))) got = true → got.isSome = true →
        let b := got.getD []
        (fmt = false → exec (.reqStageFirmware c buf fmt sig nor) s = .next (code s 2))
        ∧ (fmt = true → fwSvn b < 64 → 8388608 < fwLength b → exec (.reqStageFirmware c buf fmt sig nor) s = .next (code s 4))
        ∧ (fmt = true → fwSvn b < 64 → fwLength b ≤ 8388608 → sig = false → exec (.reqStageFirmware c buf fmt sig nor) s = .next (code s 1))
        ∧ (fmt = true → fwSvn b < 64 → fwLength b ≤ 8388608 → sig = true → fwSvn b < s.rd F.MG_FW_CNT →
          exec (.reqStageFirmware c buf fmt sig nor) s = .next (code s 3))
        ∧ (fmt = true → fwSvn b < 64 → fwLength b ≤ 8388608 → sig = true → s.rd F.MG_FW_CNT ≤ fwSvn b → ∃ t,
          exec (.reqStageFirmware c buf fmt sig nor) s = .next t ∧ t.fwSlot s.mg.active = s.fwSlot s.mg.active ∧ t.mg.active = s.mg.active
          ∧ t.mg.staged = !nor ∧ t.fwSlot (!s.mg.active) = ⟨leNat (slice b 4 4), fwSvn b, !nor⟩
          ∧ (nor = false → t.rd F.MG_EVT_FW_STAGED = 1)))
      ∧ (tag = 0x103 → got = none → exec (.reqInstallOwnerKey c buf) s = .next noBuf)
      ∧ (tag = 0x103 → Option.all (fun b => decide (b.length = 64)) got = true → got.isSome = true →
        (s.lc ≠ lcOwned → exec (.reqInstallOwnerKey c buf) s = .next (code s 5))
        ∧ (s.lc = lcOwned → s.mg.ownerKey = none → ∃ t, exec (.reqInstallOwnerKey c buf) s = .next t ∧ t.mg.ownerKey = got)
        ∧ (s.lc = lcOwned → s.mg.ownerKey.isSome = true → ∃ t, exec (.reqInstallOwnerKey c buf) s = .next t ∧ t.mg.ownerKey = s.mg.ownerKey))
      ∧ (tag = 0x104 → s.lc = lcFactory ∨ s.lc = lcReturn → exec (.reqStageEbain c buf sig nor) s = .next (code s 5))
      ∧ (tag = 0x104 → s.lc ≠ lcFactory → s.lc ≠ lcReturn → got = none → exec (.reqStageEbain c buf sig nor) s = .next noBuf)
      ∧ (tag = 0x104 → s.lc ≠ lcFactory → s.lc ≠ lcReturn → Option.all (fun b => decide (128 ≤ b.length ∧ EbImage.length_ b ≤ b.length)) got = true →
        got.isSome = true →
        let b := got.getD []
        (s.ebCheck b sig ≠ 0 → exec (.reqStageEbain c buf sig nor) s = .next (code s (s.ebCheck b sig)))
        ∧ (s.ebCheck b sig = 0 → nor = true → exec (.reqStageEbain c buf sig nor) s = .next (code (s.raise0 Src.MG_UPDATE_FAIL 12) 12))
        ∧ (s.ebCheck b sig = 0 → nor = false → ∃ t, exec (.reqStageEbain c buf sig nor) s = .next t ∧ t.rd F.MG_EVT_EBAIN_STAGED = 1
          ∧ (if s.rd F.MG_STATUS_EBAIN = 1 then t.mg.ebB else t.mg.ebA) = some ⟨b.take (EbImage.length_ b), sig⟩
          ∧ (if s.rd F.MG_STATUS_EBAIN = 1 then t.mg.ebA else t.mg.ebB) = (if s.rd F.MG_STATUS_EBAIN = 1 then s.mg.ebA else s.mg.ebB)
          ∧ (s.lc = lcField → t.rd F.MG_EBAIN_CNT = EbImage.version b)))
      ∧ (tag = 0x105 → got = none → exec (.reqLogExtract c buf) s = .next noBuf)
      ∧ (tag = 0x105 → Option.all (fun b => decide (12 ≤ b.length)) got = true → got.isSome = true → ∃ t, exec (.reqLogExtract c buf) s = .next t
        ∧ t.mg.log = s.mg.log ∧ t.mg.reqs = s.mg.reqs.drop 1)
      ∧ (tag = 0x106 → ok = false → exec (.reqHealthReport c ok) s = .next noBuf)
      ∧ (tag = 0x106 → ok = true → bits s.pcie.bme 0 1 = 1 →
        exec (.reqHealthReport c ok) s = .next ((s.toHost (.mem 0 (BitVec.ofNat 64 (s.reqPtr c.val)) s.healthReport)).reply c.val 4 0))
      ∧ (tag = 0x107 → s.mg.staged = false → exec (.reqActivateFirmware c) s = .next (code s 9))
      ∧ (tag = 0x107 → s.mg.staged = true → s.inReset 20 = false → ∃ t, exec (.reqActivateFirmware c) s = .next t ∧ t.mg.active = !s.mg.active
        ∧ t.mg.staged = false ∧ t.mg.trialNext = true ∧ t.rd F.MG_STATUS_STATE = 3 ∧ t.inReset 20 = true ∧ t.mg.buf = [])
      ∧ (tag = 0x108 → s.rd F.MG_STATUS_STATE ≠ 2 → exec (.reqConfirmFirmware c) s = .next (code s 10))
      ∧ (tag = 0x108 → s.rd F.MG_STATUS_STATE = 2 → ∃ t, exec (.reqConfirmFirmware c) s = .next t ∧ t.rd F.MG_STATUS_STATE = 1
        ∧ t.rd F.MG_EVT_FW_ACTIVE = 1 ∧ t.rd F.MG_FW_CNT = max (s.rd F.MG_FW_CNT) (s.fwSlot s.mg.active).svn % 64)
      ∧ (tag = 0x109 → s.ownerData.isSome = true → ok = true → bits s.pcie.bme 0 1 = 1 → exec (.reqReadOwnerData c ok) s =
        .next (code (s.toHost (.mem 0 (BitVec.ofNat 64 (s.reqPtr c.val)) (s.ownerData.getD []))) 0))
      ∧ (tag = 0x109 → s.ownerData.isSome = true → ok = false → exec (.reqReadOwnerData c ok) s = .next noBuf)
      ∧ (tag = 0x109 → s.ownerData = none → ∃ t, exec (.reqReadOwnerData c ok) s = .next t ∧ t.freeIdx = s.freeIdx + 1)
      ∧ (tag < 0x101 ∨ 0x109 < tag → exec (.reqUnknown c) s = .next (code (s.raise0 Src.MG_WIN_ERR tag) 8))))
  ∧ (∀ (c : Fin 4) (kind arg : Nat) (s : State), s.rd F.MB_CTRL_EN = 1 → s.fwRuns = true → s.rd (F.MB_CH_STAT_FULL c.val) = 1 → s.mg.replies = [] →
      s.mbBound c.val 0 = true → s.mbReceiver c.val = 0 → s.mbBound (c.val + 4) 0 = true → s.mbSender (c.val + 4) = 0 → kind < 65536 → arg < 65536 →
      let t := s.reply c.val kind arg
      t.rd (F.MB_CH_STAT_FULL c.val) = 0
      ∧ (s.rd (F.MB_CH_STAT_FULL (c.val + 4)) = 0 → t.rd (F.MB_CH_STAT_FULL (c.val + 4)) = 1 ∧ t.rd (F.MB_CH_TAG (c.val + 4)) = kind * 65536 + arg
        ∧ t.mg.replies = [])
      ∧ (s.rd (F.MB_CH_STAT_FULL (c.val + 4)) = 1 → t.mg.replies.length = 1 ∧ t.rd (F.MB_CH_TAG (c.val + 4)) = s.rd (F.MB_CH_TAG (c.val + 4))))

/-- R400, R437, R438, R440, R443, R444, R449: tokens of the debug port, trials and their end, the core's watchdog and restart, a sensor
sample, the hourly ageing sample, SMBus reads, and the writing of the log. Where the manual leaves a point open it states the model's
choice: log entries 58 (DEDUCED), 59 (DEDUCED), 60 (DEDUCED), 61 (DEDUCED). -/
def Obligations.FirmwareAndItsSensors : Prop :=
  (∀ (tk : List Byte) (sig : Bool) (s : State),
    (s.crp.token = none → exec (.tokenEval none none sig) s = .next s)
    ∧ (s.crp.token = some tk → s.fwRuns = true → s.rd F.MG_STATUS_STATE ≠ 4 →
      exec (.tokenEval none none sig) s = .next (({ s with crp := { s.crp with token := none } } : State).tkEval tk sig)))
  ∧ (∀ (addr code : Nat) (fail : Bool) (r : LogRec) (l : List LogRec) (s : State),
    let ends := s.mg.trialAt + max 1 (s.rd F.MG_FW_TRIAL) * 1000000000
    (s.rd F.MG_STATUS_STATE ≠ 2 ∨ s.tb.mono < ends → exec .fwTrialExpiry s = .next s)
    ∧ (s.fwRuns = true → s.rd F.MG_STATUS_STATE = 2 → ends ≤ s.tb.mono → s.inReset 20 = false → ∃ t, exec .fwTrialExpiry s = .next t
      ∧ t.mg.active = !s.mg.active ∧ t.rd F.MG_STATUS_STATE = 3 ∧ t.rd F.MG_EVT_FW_REVERTED = 1 ∧ t.inReset 20 = true)
    ∧ (s.rd F.CRP_BOOT_PHASE < 3 ∨ s.inReset 20 = true ∨ s.crp.off = true → exec .mgWdt s = .next s)
    ∧ (3 ≤ s.rd F.CRP_BOOT_PHASE → s.inReset 20 = false → s.crp.off = false → exec .mgWdt s = .next (s.raise0 Src.MG_WDT 0))
    ∧ (s.mayEnd 20 = false → exec .mgmtRestart s = .next s)
    ∧ (s.mayEnd 20 = true → s.fwPasses (s.fwSlot s.mg.active) = true → ∃ t, exec .mgmtRestart s = .next t ∧ t.inReset 20 = false
      ∧ t.rd F.MG_STATUS_STATE = (if s.mg.trialNext then 2 else 1) ∧ t.mg.active = s.mg.active ∧ t.mg.trialNext = false
      ∧ (s.mg.trialNext = true → t.rd F.MG_EVT_FW_ACTIVE = 1))
    ∧ (s.mayEnd 20 = true → s.fwPasses (s.fwSlot s.mg.active) = false → s.fwPasses (s.fwSlot (!s.mg.active)) = false → ∃ t,
      exec .mgmtRestart s = .next t ∧ t.rd F.MG_STATUS_STATE = 4)
    ∧ (s.crp.off = false → s.rd F.MG_I2C_CFG_EN = 1 → addr = s.rd F.MG_I2C_CFG_ADDR →
      (code < 4 → exec (.smbusReadWord addr code) s = .next (s.emit (.answer (s.rd (F.MG_TEMP_n code)))))
      ∧ (0x10 ≤ code → code < 0x18 → exec (.smbusReadWord addr code) s = .next (s.emit (.answer (s.rd (F.MG_SUP_n (code - 0x10))))))
      ∧ (0x20 ≤ code → code < 0x28 → exec (.smbusReadWord addr code) s = .next (s.emit (.answer (s.rd (F.MG_FCUR_n (code - 0x20))))))
      ∧ (code = 0x30 → exec (.smbusReadWord addr code) s = .next (s.emit (.answer (s.rd F.CL_STATUS_FAULT + 2 * s.rd F.CL_STATUS_ERR_PAD))))
      ∧ (0x32 ≤ code → code < 0x100 → exec (.smbusReadWord addr code) s = .next (s.emit (.answer 0xFFFF))))
    ∧ (s.crp.off = true ∨ s.rd F.MG_I2C_CFG_EN = 0 ∨ addr ≠ s.rd F.MG_I2C_CFG_ADDR → exec (.smbusReadWord addr code) s = .next s)
    ∧ (s.crp.off = false → s.rd F.MG_I2C_CFG_EN = 1 → exec .smbusError s = .next (s.raise0 Src.MG_I2C_ERR 0))
    ∧ (s.crp.off = true ∨ s.rd F.MG_I2C_CFG_EN = 0 → exec .smbusError s = .next s)
    ∧ (s.mg.buf = [] → exec (.logRecordWrite fail) s = .next s)
    ∧ (s.fwRuns = false ∨ max 1 (s.rd F.MG_LOG_CFG) ≤ s.logSpent → exec (.logRecordWrite fail) s = .next s)
    ∧ (s.mg.buf = r :: l → s.fwRuns = true → s.logSpent < max 1 (s.rd F.MG_LOG_CFG) → s.mg.logSeq % 1024 ≠ 0 → ∃ t, exec (.logRecordWrite fail) s = .next t
      ∧ (fail = false → t.mg.buf = l ∧ t.mg.log = s.mg.log ++ [{ r with seq := s.mg.logSeq }] ∧ t.rd F.MG_LOG_HEAD = s.mg.logSeq % 2 ^ 32
        ∧ t.mg.logSeq = s.mg.logSeq + 1)
      ∧ (fail = true → t.mg.buf = s.mg.buf ∧ t.mg.log = s.mg.log ∧ t.cl.inbox.head? = (s.raise0 Src.MG_LOG_ERR 0).cl.inbox.head?)))
  ∧ (∀ (temps sups curs degr weeks : List Nat) (tot : Nat) (s : State),
    (s.fwRuns = false → exec (.sensorSample temps sups curs tot) s = .next s ∧ exec (.ageingSample degr weeks) s = .next s)
    ∧ (s.fwRuns = true → s.rd F.FD_STATUS_ISO_UP = 1 → temps.length = 4 → sups.length = 8 → curs.length = 8 →
      ∃ t, exec (.sensorSample temps sups curs tot) s = .next t
      ∧ (List.range 4).all (fun n => decide (t.rd (F.MG_TEMP_n n) = temps.getD n 0 % 65536)) = true
      ∧ (List.range 8).all (fun n => decide (t.rd (F.MG_SUP_n n) = sups.getD n 0 % 65536)) = true
      ∧ (List.range 8).all (fun n => decide (t.rd (F.MG_FCUR_n n) = curs.getD n 0 % 65536)) = true ∧ t.rd F.MG_FCUR_TOT = tot % 65536)
    ∧ (s.fwRuns = true → s.inReset 21 = false → degr.length = 12 → weeks.length = 12 → ∃ t, exec (.ageingSample degr weeks) s = .next t
      ∧ (List.range 12).all (fun n => decide (t.rd (F.SP_AGE_n_DEGR n) = degr.getD n 0 % 2 ^ (F.SP_AGE_n_DEGR n).w)) = true
      ∧ (List.range 12).all (fun n => decide (t.rd (F.SP_AGE_n_REMAIN_WK n) = weeks.getD n 0 % 2 ^ (F.SP_AGE_n_REMAIN_WK n).w)) = true
      ∧ t.rd F.MG_HOURS = min (s.rd F.MG_HOURS + 1) (2 ^ F.MG_HOURS.w - 1)))

/-- R481, R483, R485, R489 to R494, R407: power-on, RESET_N, the chip reset, the loss of VMAIN, and function-level resets. After a chip reset
every register field reads its reset value but what fuses and NOR hold, CL_LAST_RESET, a low ERR_N and the level of PERST#. Where the
manual leaves a point open it states the model's choice: log entries 5 (DESIGN CHOICE), 54 (DEDUCED), 57 (DEDUCED), 82 (DESIGN CHOICE). -/
def Obligations.ResetsOfTheModule : Prop :=
  (∀ (m key : Nat) (go v33 : Bool) (s : State),
    let hi := s.cl.conds.contains (Src.VIO_FAULT, 1) = false
    let low := s.cl.conds.contains (Src.VIO_FAULT, 1) = true
    (s.crp.off = false → exec (.powerOn v33) s = .next s)
    ∧ (s.crp.off = true → ∃ t, exec (.powerOn v33) s = .next t ∧ State.reset.keepsRegs t norFields ∧ t.crp.vio33 = v33 ∧ t.crp.off = false
      ∧ t.tb.dt = 0 ∧ t.cl = State.reset.cl ∧ t.qe = State.reset.qe ∧ t.rd F.AC_STATUS_LC = s.rd F.AC_STATUS_LC % 8 ∧ t.rd F.MG_FW_CNT = s.rd F.MG_FW_CNT % 64
      ∧ t.mg.log = s.mg.log)
    ∧ (s.crp.rstLow = true ∨ low → exec .resetNAssert s = .next s)
    ∧ (hi → s.crp.rstLow = false → s.crp.off = false → s.crp.tr ≤ s.tb.mono → ∃ t, exec .resetNAssert s = .next t ∧ t.crp.rstLow = true
      ∧ State.reset.keepsRegs t (norFields ++ chipFields) ∧ t.rd F.CL_LAST_RESET_VALID = 1 ∧ t.rd F.CL_LAST_RESET_KIND = 3
      ∧ t.rd F.AC_STATUS_LC = s.rd F.AC_STATUS_LC % 8 ∧ t.tb.dt = 0 ∧ t.rd64 F.CL_LAST_RESET_DT_LO F.CL_LAST_RESET_DT_HI = s.tb.dt.toNat)
    ∧ (s.crp.rstLow = false ∨ low → exec .resetNRelease s = .next s)
    ∧ (hi → s.crp.rstLow = true → exec .resetNRelease s = .next { s with crp := { s.crp with rstLow := false, tr := s.tb.mono + 10000 } })
    ∧ (s.crp.chipReq = false → exec .chipReset s = .next s)
    ∧ (s.crp.chipReq = true → ∃ t, exec .chipReset s = .next t ∧ State.reset.keepsRegs t (norFields ++ chipFields) ∧ t.crp.chipReq = false
      ∧ t.rd F.AC_STATUS_LC = s.rd F.AC_STATUS_LC % 8 ∧ t.rd F.CL_LAST_RESET_KIND = s.rd F.CL_LAST_RESET_KIND % 2 ^ F.CL_LAST_RESET_KIND.w
      ∧ t.rd F.CL_STATUS_ERR_PAD = s.rd F.CL_STATUS_ERR_PAD % 2
      ∧ t.tb.dt = 0 ∧ t.tw = State.reset.tw ∧ t.qe = State.reset.qe ∧ t.ln = State.reset.ln ∧ t.gy = State.reset.gy ∧ t.cl = State.reset.cl
      ∧ t.mg.log = s.mg.log ∧ t.mg.ownerKey = s.mg.ownerKey ∧ t.crp.nonce = s.crp.nonce + 1 ∧ t.pending = s.pending)
    ∧ (s.accepts m 0x10014 permW →
      (go = false → exec (.chipResetRegister m key go) s = .next s)
      ∧ (go = true → key % 256 ≠ 0xC3 → exec (.chipResetRegister m key go) s = .next (s.inc F.CRP_BLK_REJ))
      ∧ (go = true → key % 256 = 0xC3 → s.may 0 m permADM = false → exec (.chipResetRegister m key go) s = .next (s.deny 3 m 0 0x14))
      ∧ (go = true → key % 256 = 0xC3 → s.may 0 m permADM = true → s.crp.chipReq = false → s.crp.tr ≤ s.tb.mono → ∃ t,
        exec (.chipResetRegister m key go) s = .next t ∧ t.crp.chipReq = true ∧ t.rd F.CL_LAST_RESET_VALID = 1 ∧ t.rd F.CL_LAST_RESET_KIND = 2)
      ∧ (go = true → key % 256 = 0xC3 → s.may 0 m permADM = true → s.crp.chipReq = true → exec (.chipResetRegister m key go) s = .next s))
    ∧ (s.crp.off = true → exec .vmainLoss s = .next s)
    ∧ (s.crp.off = false → ∃ t, exec .vmainLoss s = .next t ∧ t.crp.off = true ∧ t.rd F.CRP_PWR_STATUS_STATE = pwOff
      ∧ State.reset.keepsRegs t (F.CRP_PWR_STATUS_STATE :: norFields) ∧ t.mg.log = s.mg.log))
  ∧ (∀ (fn : Fin 16) (s : State),
    (s.rd F.CRP_BOOT_PHASE ≠ 6 → exec (.functionLevelReset fn) s = .next s)
    ∧ (s.rd F.CRP_BOOT_PHASE = 6 → ∃ t, exec (.functionLevelReset fn) s = .next t ∧ bits t.pcie.bme fn.val 1 = 0 ∧ bits t.pcie.mse fn.val 1 = 0
      ∧ (fn.val = 0 → t.pcie.vfe = false ∧ t.rd F.TB_SERVO_OWNER = 0) ∧ (fn.val ≠ 0 → t.pcie.vfe = s.pcie.vfe)
      ∧ t.pcie.flr.contains (fn.val, s.tb.mono) = true ∧ t.pcie.msixPend.all (fun x => decide (x / 256 ≠ fn.val)) = true)
    ∧ exec (.flrDone fn) s = .next { s with pcie := { s.pcie with flr := s.pcie.flr.filter (fun x => x.1 != fn.val) } })
  ∧ (∀ (m b : Nat) (s : State), s.accepts m 0x10010 permW → b < 23 →
    let cmd := exec (.blockReset m (BitVec.ofNat 32 (2 ^ b))) s
    (s.may (if b = 22 then 13 else b) m permADM = false → cmd = .next (s.deny 3 m (if b = 22 then 13 else b) 0x10))
    ∧ (s.may (if b = 22 then 13 else b) m permADM = true →
      (b = 0 ∨ b = 1 ∨ b = 0x11 ∨ s.heldBlk b = true → cmd = .next (s.inc F.CRP_BLK_REJ))
      ∧ (b = 0x13 → s.heldBlk b = false → cmd = .next ((s.inc F.CRP_BLK_REJ).inc F.AC_LOCK_REJ))
      ∧ (b ≠ 0 → b ≠ 1 → b ≠ 0x11 → b ≠ 0x13 → s.inReset b = true → s.heldBlk b = false → cmd = .next s)
      ∧ (b ≠ 0 → b ≠ 1 → b ≠ 0x11 → b ≠ 0x13 → s.inReset b = false → ∃ t, cmd = .next t ∧ t.inReset b = true
        ∧ t.cl.settle.contains (b, none) = true ∧ t.tb.dt = s.tb.dt ∧ t.rd F.AC_STATUS_LC = s.rd F.AC_STATUS_LC
        ∧ t.rd F.CL_LAST_RESET_KIND = s.rd F.CL_LAST_RESET_KIND
        ∧ (b = 9 ∨ b = 10 ∨ b = 12 → ∀ f : Fld, blkOf (f.key / 32) = b →
          f.key ∉ [F.PS_STATUS_WIPING.key, F.LT_STATUS_WIPING.key, F.PT_STATUS_WIPING.key] → t.rd f = State.reset.rd f))))
  ∧ (∀ (b : Fin 23) (s : State),
    (s.mayEnd b.val = false → exec (.blockResetEnd b) s = .next s)
    ∧ (s.inReset b.val = false → exec (.blockResetEnd b) s = .next s)
    ∧ (s.mayEnd b.val = true → b.val ≠ 20 → ∃ t, exec (.blockResetEnd b) s = .next t ∧ t.inReset b.val = false
      ∧ t.cl.settle.contains (b.val, some (s.tb.mono + max 1 (min 10000 (s.rd F.CL_SETTLE)) * 1000)) = true
      ∧ (b.val = 13 → t.rd F.GY_STATUS_WIPING = 0) ∧ (b.val = 11 → t.rd F.GR_STATUS_WIPING = 0) ∧ (b.val = 22 → t.rd F.MS_STATUS_WIPING = 0)))

/-- R7, R321, R408, R409, R482, R486, R489, R490, R495 to R497: PERST#, the host link and its writes that wait, L1.2, the configuration space,
and what the supplies and clocks report. Where the manual leaves a point open it states the model's choice: log entries 9 (DEDUCED), 48
(DESIGN CHOICE), 54 (DEDUCED), 79 (PRESUMED). -/
def Obligations.HostLinkAndSupplies : Prop :=
  (∀ (width speed bit : Nat) (fn : Fin 16) (word : Fin 1024) (b : Bool) (x : Supply) (s : State),
    let hi := s.cl.conds.contains (Src.VIO_FAULT, 1) = false
    let down := ((s.wr F.CRP_PCIE_STAT_LINK_UP 0).wr F.CRP_PCIE_STAT_WIDTH 0).wr F.CRP_PCIE_STAT_SPEED 0
    let gone : State := { down with pcie := { down.pcie with l12 := false } }
    let free := fun (t : State) => ({ t with pcie := { t.pcie with out := t.pcie.out ++ t.pcie.held, held := [], heldAt := 0, wakeAsked := false } } : State)
    (s.crp.off = true ∨ s.rd F.CRP_PCIE_STAT_PERST = 1 → exec .perstAssert s = .next s)
    ∧ (hi → s.crp.off = false → s.rd F.CRP_PCIE_STAT_PERST = 0 →
      (s.rd F.CRP_BOOT_PHASE ≠ 6 → exec .perstAssert s = .next ((gone.wr F.CRP_PCIE_STAT_PERST 1).onset Src.PCIE_LINK_DOWN 0xFF 0))
      ∧ (s.rd F.CRP_BOOT_PHASE = 6 → ∃ t, exec .perstAssert s = .next t ∧ t.rd F.CRP_PCIE_STAT_PERST = 1 ∧ t.rd F.CRP_PCIE_STAT_LINK_UP = 0
        ∧ t.rd F.CRP_PERST_CNT = min (s.rd F.CRP_PERST_CNT + 1) (2 ^ F.CRP_PERST_CNT.w - 1) ∧ t.pcie.bme % 65536 = 0 ∧ t.pcie.mse % 65536 = 0
        ∧ t.pcie.vfe = false ∧ t.pcie.held = []))
    ∧ (hi → s.crp.off = false → s.rd F.CRP_PCIE_STAT_PERST = 1 → ∃ t, exec .perstDeassert s = .next t ∧ t.rd F.CRP_PCIE_STAT_PERST = 0
      ∧ t.rd F.CRP_CLK_STATUS_PCIE_REFCLK = 1 ∧ (s.rd F.CRP_BOOT_PHASE = 6 → t.cl = s.cl))
    ∧ (s.crp.off = true ∨ s.rd F.CRP_PCIE_STAT_PERST = 0 → exec .perstDeassert s = .next s)
    ∧ (s.rd F.CRP_PCIE_STAT_PERST = 1 ∨ s.crp.off = true ∨ s.crp.rstLow = true → exec (.pcieLinkUp width speed) s = .next s)
    ∧ (s.rd F.CRP_PCIE_STAT_PERST = 0 → s.crp.off = false → s.crp.rstLow = false → s.pcie.rxHold = [] → exec (.pcieLinkUp width speed) s = .next (free
      (((((s.wr F.CRP_PCIE_STAT_LINK_UP 1).wr F.CRP_PCIE_STAT_WIDTH width).wr F.CRP_PCIE_STAT_SPEED speed).wr F.CRP_CLK_STATUS_PCIE_REFCLK 1).condEnd
        Src.PCIE_LINK_DOWN 0xFF)))
    ∧ (s.rd F.CRP_BOOT_PHASE = 6 → s.rd F.CRP_PCIE_STAT_PERST = 0 → exec .pcieLinkDown s = .next (gone.onset Src.PCIE_LINK_DOWN 0xFF 0))
    ∧ (s.rd F.CRP_BOOT_PHASE ≠ 6 ∨ s.rd F.CRP_PCIE_STAT_PERST = 1 → exec .pcieLinkDown s = .next gone)
    ∧ exec (.pcieError fn b) s = .next (s.raise (if b then Src.PCIE_UNCORR else Src.PCIE_CORR) (0x20 + fn.val) none 0)
    ∧ ((s.rd F.CRP_PWR_STATUS_STATE = pwTrim ∨ s.rd F.CRP_PWR_STATUS_STATE = pwHold) → s.rd F.CRP_PCIE_STAT_LINK_UP = 1 →
      exec .linkEntersL12 s = .next { s with pcie := { s.pcie with l12 := true, wakeAsked := false } })
    ∧ (s.rd F.CRP_PWR_STATUS_STATE = pwRun ∨ s.rd F.CRP_PCIE_STAT_LINK_UP = 0 → exec .linkEntersL12 s = .next s)
    ∧ (s.pcie.l12 = true → s.pcie.rxHold = [] → exec .linkExitsL12 s = .next (free { s with pcie := { s.pcie with l12 := false } }))
    ∧ (s.pcie.l12 = false → exec .linkExitsL12 s = .next s)
    ∧ (s.pcie.l12 = false ∨ s.pcie.wakeAsked = true ∨ s.pcie.held = [] ∨ s.tb.mono < s.pcie.heldAt + max 1 (s.rd F.CRP_PWR_CFG_WAKE_US) * 1000 →
      exec .linkWakeRequest s = .next s)
    ∧ (s.pcie.l12 = true → s.pcie.wakeAsked = false → s.pcie.held ≠ [] → s.pcie.heldAt + max 1 (s.rd F.CRP_PWR_CFG_WAKE_US) * 1000 ≤ s.tb.mono →
      exec .linkWakeRequest s = .next (({ s with pcie := { s.pcie with wakeAsked := true } } : State).inc F.CRP_TRIM_WAKE))
    ∧ (let answers := s.rd F.CRP_BOOT_PHASE = 6 ∧ s.rd F.CRP_PCIE_STAT_PERST = 0 ∧ s.pcie.flr.any (fun y => y.1 == fn.val) = false
          ∧ (fn.val = 0 ∨ s.pcie.vfe = true)
      (¬ answers → exec (.configRetry ⟨fn, word⟩) s = .next { s with readData := [] } ∧ exec (.configurationWrite fn (.busMaster b)) s = .next s
        ∧ exec (.configurationWrite fn (.msixMask b)) s = .next s)
      ∧ (answers →
        (word.val = 0 → exec (.configRetry ⟨fn, word⟩) s = .next { s with
          readData := [BitVec.ofNat 32 ((if fn.val = 0 then 0x9640 else 0x9641) * 65536 + Config.vendorId.toNat % 65536)], freeIdx := s.freeIdx + 1 })
        ∧ (word.val = 2 → exec (.configRetry ⟨fn, word⟩) s = .next { s with readData := [0x02800001], freeIdx := s.freeIdx + 1 })
        ∧ exec (.configurationWrite fn (.busMaster b)) s = .next { s with pcie := { s.pcie with bme := putBits s.pcie.bme fn.val 1 b.toNat } }
        ∧ exec (.configurationWrite fn (.memSpace b)) s = .next { s with pcie := { s.pcie with mse := putBits s.pcie.mse fn.val 1 b.toNat } }
        ∧ exec (.configurationWrite fn (.vfEnable b)) s = .next (if fn.val = 0 then { s with pcie := { s.pcie with vfe := b } } else s)
        ∧ (b = true → exec (.configurationWrite fn (.msixMask b)) s = .next { s with pcie := { s.pcie with fmask := putBits s.pcie.fmask fn.val 1 1 } })))
    ∧ (x = .vmainLow → exec (.supplyFault x) s = .next (s.onset Src.VMAIN_UV 0 0))
    ∧ (x = .vmainHigh → exec (.supplyFault x) s = .next (s.onset Src.VMAIN_OV 0 0))
    ∧ (x = .vio → exec (.supplyFault x) s = .next (s.onset Src.VIO_FAULT 1 0))
    ∧ (x = .rail 6 → exec (.supplyFault x) s = .next { s.onset Src.RAIL_FAULT 6 0 with crp := { s.crp with pwrGood := false } })
    ∧ exec .refLoss s = .next ((s.wr F.CRP_CLK_STATUS_REF_OK 0).onset Src.REF_LOSS 0xFF 0)
    ∧ (bit = 30 → exec (.pllUnlock bit) s = .next ((s.wr F.CRP_CLK_STATUS_PLL_CORE 0).onset Src.PLL_UNLOCK 30 0))
    ∧ (bit = 29 → exec (.pllUnlock bit) s = .next ((s.wr F.CRP_CLK_STATUS_PLL_TIME 0).onset Src.PLL_UNLOCK 29 0))
    ∧ (bit = 28 → exec (.pllUnlock bit) s = .next ((s.wr F.CRP_CLK_STATUS_PLL_MGMT 0).onset Src.PLL_UNLOCK 28 0))
    ∧ (bit = 27 → exec (.pllUnlock bit) s = .next ((s.wr F.CRP_CLK_STATUS_PLL_DRAM 0).onset Src.PLL_UNLOCK 27 0))
    ∧ (bit = 26 → exec (.pllUnlock bit) s = .next ((s.wr F.CRP_CLK_STATUS_PLL_SERDES 0).onset Src.PLL_UNLOCK 26 0))
    ∧ (s.rd F.CRP_PCIE_STAT_PERST = 1 → exec .pcieRefclkLoss s = .next (s.wr F.CRP_CLK_STATUS_PCIE_REFCLK 0))
    ∧ (s.rd F.CRP_PCIE_STAT_PERST = 0 → exec .pcieRefclkLoss s = .next ((s.wr F.CRP_CLK_STATUS_PCIE_REFCLK 0).onset Src.PCIE_REFCLK_LOSS 0xFF 0)))

/-- R402, R411, R440, R442, R443, R445, R447, R484 to R486: the steps of a start-up, each taken only from the phase before it. In FACTORY
firmware may leave the tables unlocked (the command's own word). Where the manual leaves a point open it states the model's choice: log
entries 9 (DEDUCED), 62 (DEDUCED), 63 (DEDUCED). -/
def Obligations.StartUp : Prop :=
  ∀ (tw bs rs pe unlocked : Bool) (s : State),
    (s.rd F.CRP_BOOT_PHASE ≠ 0 ∨ s.crp.off = true ∨ s.crp.rstLow = true ∨ s.tb.mono < s.crp.tr → exec (.internalResetRelease tw bs rs pe) s = .next s)
    ∧ (s.rd F.CRP_BOOT_PHASE = 0 → s.crp.off = false → s.crp.rstLow = false → s.crp.tr ≤ s.tb.mono → s.rd F.AC_STATUS_LC ≠ 5 →
      ∃ t, exec (.internalResetRelease tw bs rs pe) s = .next t ∧ t.rd F.CRP_BOOT_PHASE = 1 ∧ t.rd F.CRP_STRAP_TWIN_ID = tw.toNat
      ∧ t.rd F.CRP_STRAP_BOOT_SEL = bs.toNat ∧ t.rd F.CRP_STRAP_REFSEL = rs.toNat ∧ t.rd F.CRP_BOOT_SAFE = bs.toNat ∧ t.rd F.CRP_PCIE_STAT_PERST = pe.toNat
      ∧ t.rd F.AC_STATUS_DBG = (if s.rd F.AC_STATUS_LC = 1 then 2 else 0) ∧ t.crp.tr = s.tb.mono)
    ∧ (s.rd F.CRP_BOOT_PHASE ≠ 1 → exec .sramWipeDone s = .next s)
    ∧ (s.rd F.CRP_BOOT_PHASE = 1 → ∃ t, exec .sramWipeDone s = .next t ∧ t.rd F.CRP_BOOT_PHASE = 2 ∧ t.rd F.CRP_WIPE_STATUS_SRAM = 0
      ∧ t.rd F.CRP_WIPE_STATUS_DRAM = 1 ∧ t.rd F.GY_STATUS_WIPING = 1 ∧ t.rd F.MS_STATUS_WIPING = 1 ∧ t.rd F.GR_STATUS_WIPING = 1)
    ∧ (s.rd F.CRP_BOOT_PHASE ≠ 2 → exec .firmwareStart s = .next s)
    ∧ (s.rd F.CRP_BOOT_PHASE = 2 → s.rd F.AC_STATUS_LC ≠ 5 → s.fwPasses (s.fwSlot s.mg.active) = true → ∃ t, exec .firmwareStart s = .next t
      ∧ t.rd F.CRP_BOOT_PHASE = 3 ∧ t.rd F.MG_STATUS_SLOT = s.mg.active.toNat ∧ t.rd F.MB_CTRL_EN = 1 ∧ t.rd F.DMA_CTRL_EN = 1
      ∧ t.rd F.MG_STATUS_STATE = s.rd F.MG_STATUS_STATE ∧ t.rd F.MG_FW_A_VER = s.mg.fwA.version % 2 ^ 32 ∧ t.rd F.MG_FW_B_VER = s.mg.fwB.version % 2 ^ 32)
    ∧ (s.rd F.CRP_BOOT_PHASE = 2 → s.fwPasses (s.fwSlot s.mg.active) = false → s.fwPasses (s.fwSlot (!s.mg.active)) = true →
      ∃ t, exec .firmwareStart s = .next t ∧ t.mg.active = !s.mg.active ∧ t.rd F.MG_STATUS_SLOT = (!s.mg.active).toNat)
    ∧ (s.rd F.CRP_BOOT_PHASE = 2 → s.fwPasses (s.fwSlot s.mg.active) = false → s.fwPasses (s.fwSlot (!s.mg.active)) = false →
      ∃ t, exec .firmwareStart s = .next t ∧ t.rd F.MG_STATUS_STATE = 4 ∧ t.rd F.CRP_BOOT_PHASE = 3)
    ∧ (s.rd F.CRP_BOOT_PHASE ≠ 3 → exec (.dramWipeDone unlocked) s = .next s)
    ∧ (s.rd F.CRP_BOOT_PHASE = 3 → s.fwRuns = true → s.rd F.AC_STATUS_LC = 1 → unlocked = true → ∃ t, exec (.dramWipeDone unlocked) s = .next t
      ∧ t.rd F.CRP_BOOT_PHASE = 5 ∧ t.rd F.CRP_WIPE_STATUS_DRAM = 0 ∧ t.rd F.GY_STATUS_WIPING = 0 ∧ t.rd F.AC_STATUS_LOCKED = s.rd F.AC_STATUS_LOCKED
      ∧ t.rd F.MB_CTRL_BIND_LOCK = 1)
    ∧ (s.rd F.CRP_BOOT_PHASE = 3 → s.fwRuns = true → s.rd F.CRP_BOOT_SAFE = 1 → s.rd F.AC_STATUS_LC = 3 → ∃ t, exec (.dramWipeDone unlocked) s = .next t
      ∧ t.rd F.CRP_BOOT_PHASE = 5 ∧ t.rd F.AC_STATUS_LOCKED = 1 ∧ t.rd F.MB_CTRL_BIND_LOCK = 1 ∧ t.rd F.MG_STATUS_EBAIN = s.rd F.MG_STATUS_EBAIN
      ∧ t.rd F.MG_EBAIN_STAT_A_RESULT = 3 ∧ t.rd F.MG_EBAIN_STAT_B_RESULT = 3)
    ∧ (s.rd F.CRP_BOOT_PHASE ≠ 5 → exec .moduleReady s = .next s)
    ∧ (s.rd F.CRP_BOOT_PHASE = 5 → s.fwRuns = true → s.rd F.MG_STATUS_STATE = 0 → ∃ t, exec .moduleReady s = .next t ∧ t.rd F.CRP_BOOT_PHASE = 6
      ∧ t.rd F.MG_STATUS_STATE = 1 ∧ t.rd F.MG_BOOT_CNT = min (s.rd F.MG_BOOT_CNT + 1) (2 ^ F.MG_BOOT_CNT.w - 1))
    ∧ (s.rd F.CRP_BOOT_PHASE = 5 → s.fwRuns = true → s.rd F.MG_STATUS_STATE = 4 → ∃ t, exec .moduleReady s = .next t ∧ t.rd F.CRP_BOOT_PHASE = 6
      ∧ t.rd F.MG_STATUS_STATE = 4 ∧ t.rd F.MG_BOOT_CNT = s.rd F.MG_BOOT_CNT)

/-- R416 to R425, R427, R430 to R432, R434: a raise in a core cycle of its own and what it does by its source's configuration, which a write
of the same cycle does not yet change, the end of conditions, settling windows and the fault state, ERR_N, the book, injected raises,
holds, and the configuration of sources. Where the manual leaves a point open it states the model's choice: log entries 55 (DEDUCED), 75
(DEDUCED). -/
def Obligations.FaultsAndReactions : Prop :=
  (∀ (r : Raise) (s : State), s.cl.inbox = [r] → r.src < 160 → r.src ≠ Src.CL_PARITY → r.src ≠ Src.CL_BOOK_OVF → s.cl.settle = [] → s.cl.parity = [] →
      s.rd F.MG_STATUS_STATE ≠ 2 → Sparse.get none s.cl.cfgOld r.src = none → s.cl.minOld = none → s.cl.rose = false →
    let n := r.src
    let sev := s.rd (F.CL_SRC_CFG_n_SEV n)
    let last := fun (e : BookEntry) => decide (e.src = n ∧ e.inst = r.inst ∧ e.conseq = false)
    ∃ t, exec (.faultRaise 1 []) s = .next t ∧ t.rd (F.CL_SRC_CNT_n n) = min (s.rd (F.CL_SRC_CNT_n n) + 1) (2 ^ (F.CL_SRC_CNT_n n).w - 1)
      ∧ t.tb.mono = s.tb.mono
      ∧ (s.rd (F.CL_SRC_CFG_n_EN n) = 0 → t.cl.book = s.cl.book ∧ t.rd F.CL_STATUS_FAULT = s.rd F.CL_STATUS_FAULT
        ∧ t.rd (F.CL_PEND_w (n / 32)) = s.rd (F.CL_PEND_w (n / 32)) ∧ t.rd F.CL_STATUS_ERR_PAD = s.rd F.CL_STATUS_ERR_PAD ∧ t.crp.chipReq = s.crp.chipReq
        ∧ t.crp.blk = s.crp.blk)
      ∧ (s.rd (F.CL_SRC_CFG_n_EN n) = 1 →
        (s.cl.book = [] → t.cl.book.map (fun e => [e.dt, e.src, e.sev, e.inst, e.info, e.seq, e.repeats]) =
          [[s.tb.dt.toNat, n, sev, r.inst, r.info, s.cl.seq, 0]] ∧ t.cl.book.map (fun e => e.master) = [r.master] ∧ t.cl.seq = (s.cl.seq + 1) % 2 ^ 32)
        ∧ (Option.all last s.cl.book.getLast? = true → s.cl.book ≠ [] → t.cl.book.length = s.cl.book.length ∧ t.cl.seq = s.cl.seq
          ∧ t.cl.book.getLast?.map (fun e => (e.coal, e.repeats, e.last)) =
            s.cl.book.getLast?.map (fun e => (true, min 65535 (e.repeats + 1), s.tb.dt.toNat)))
        ∧ (s.rd (F.CL_SRC_CFG_n_IRQ n) = 1 → bits (t.rd (F.CL_PEND_w (n / 32))) (n % 32) 1 = 1)
        ∧ (s.rd (F.CL_SRC_CFG_n_IRQ n) = 0 → t.rd (F.CL_PEND_w (n / 32)) = s.rd (F.CL_PEND_w (n / 32)))
        ∧ (s.rd (F.CL_SRC_CFG_n_ERRPAD n) = 1 → t.rd F.CL_STATUS_ERR_PAD = 1 ∧ t.rd F.CL_STATUS_REL_PEND = 0)
        ∧ (s.rd (F.CL_SRC_CFG_n_ERRPAD n) = 0 → t.rd F.CL_STATUS_ERR_PAD = s.rd F.CL_STATUS_ERR_PAD)
        ∧ (s.rd F.CL_CTRL_FAULT_MIN ≤ sev → t.rd F.CL_STATUS_FAULT = 1 ∧ t.cl.faultAt = s.tb.mono)
        ∧ (sev < s.rd F.CL_CTRL_FAULT_MIN → t.rd F.CL_STATUS_FAULT = s.rd F.CL_STATUS_FAULT ∧ t.cl.faultAt = s.cl.faultAt)
        ∧ (s.rd (F.CL_SRC_CFG_n_CHIPRST n) = 1 → s.crp.off = false → s.crp.rstLow = false → s.crp.tr ≤ s.tb.mono → s.crp.chipReq = false →
          t.crp.chipReq = true ∧ t.rd F.CL_LAST_RESET_KIND = 1 ∧ t.rd F.CL_LAST_RESET_SOURCE = n % 2 ^ F.CL_LAST_RESET_SOURCE.w)
        ∧ (s.rd (F.CL_SRC_CFG_n_CHIPRST n) = 0 → s.rd (F.CL_SRC_CFG_n_BLKRST n) = 1 → 2 ≤ s.rd (F.CL_SRC_CFG_n_BLK n) → s.rd (F.CL_SRC_CFG_n_BLK n) < 13 →
          t.inReset (s.rd (F.CL_SRC_CFG_n_BLK n)) = true)
        ∧ (s.rd (F.CL_SRC_CFG_n_CHIPRST n) = 0 → s.rd (F.CL_SRC_CFG_n_BLKRST n) = 0 → t.crp.blk = s.crp.blk)))
  ∧ (∀ (src inst : Nat) (b : Fin 23) (s : State),
    let since := s.cl.faultAt + max 1 (s.rd F.CL_QUIET) * 1000000
    let width := s.cl.padAt + max 1 (min 10000 (s.rd F.CL_ERR_WIDTH)) * 1000
    (s.cl.conds.contains (src, inst) = false → exec (.conditionEnd src inst) s = .next s)
    ∧ (s.cl.conds.contains (src, inst) = true → src ≠ Src.REF_LOSS → src ≠ Src.PLL_UNLOCK → src ≠ Src.PCIE_REFCLK_LOSS → src ≠ Src.RAIL_FAULT →
      exec (.conditionEnd src inst) s = .next (s.condEnd src inst))
    ∧ (s.cl.conds.contains (src, inst) = true → src = Src.REF_LOSS → exec (.conditionEnd src inst) s = .next ((s.condEnd src inst).wr F.CRP_CLK_STATUS_REF_OK 1))
    ∧ exec (.settleWindowEnd b) s = .next { s with cl := { s.cl with settle := s.cl.settle.filter (fun w =>
        !(w.1 == b.val && (match w.2 with | none => false | some t => decide (t ≤ s.tb.mono)))) } }
    ∧ (s.rd F.CL_STATUS_FAULT = 0 ∨ s.tb.mono < since → exec .faultQuietExpiry s = .next s)
    ∧ (s.rd F.CL_STATUS_FAULT = 1 → since ≤ s.tb.mono → s.cl.conds = [] → exec .faultQuietExpiry s = .next ((s.wr F.CL_STATUS_FAULT 0).inc F.CL_RECOVER_CNT))
    ∧ (s.rd F.CL_STATUS_PULSE = 0 ∨ s.tb.mono < width → exec .errWidthExpiry s = .next s)
    ∧ (s.rd F.CL_STATUS_PULSE = 1 → width ≤ s.tb.mono →
      (s.rd F.CL_STATUS_REL_PEND = 0 → exec .errWidthExpiry s = .next (s.wr F.CL_STATUS_PULSE 0))
      ∧ (s.rd F.CL_STATUS_REL_PEND = 1 → exec .errWidthExpiry s = .next (((s.wr F.CL_STATUS_PULSE 0).wr F.CL_STATUS_REL_PEND 0).wr F.CL_STATUS_ERR_PAD 0))))
  ∧ (∀ (m : Nat) (e : BookEntry) (l : List BookEntry) (s : State), s.accepts m 0x110000 permW →
    (s.cl.padNow = true ∨ s.rd F.CL_STATUS_ERR_PAD = 0 → exec (.errRelease m) s = .next s)
    ∧ (s.cl.padNow = false → s.rd F.CL_STATUS_ERR_PAD = 1 →
      (s.rd F.CL_STATUS_PULSE = 1 → exec (.errRelease m) s = .next (s.wr F.CL_STATUS_REL_PEND 1))
      ∧ (s.rd F.CL_STATUS_PULSE = 0 → exec (.errRelease m) s =
        .next { (s.wr F.CL_STATUS_REL_PEND 0).wr F.CL_STATUS_ERR_PAD 0 with cl := { s.cl with rose := true } }))
    ∧ (s.cl.book = [] → exec (.bookPop m) s = .next s)
    ∧ (s.cl.book = e :: l → exec (.bookPop m) s = .next { s with cl := { s.cl with book := l, rdAt := (s.cl.rdAt + 1) % 16 } })
    ∧ exec (.bookClear m) s = .next { s with cl := { s.cl with book := [], rdAt := (s.cl.rdAt + s.cl.book.length) % 16 } })
  ∧ (∀ (m src : Nat) (t : Fin 22) (n : Fin 160) (v : Word) (s : State),
    (s.accepts m 0x110040 permW → s.may 17 m permADM = true → src < 160 →
      exec (.faultInject m src) s = .next { s with cl := { s.cl with inbox := s.cl.inbox ++ [⟨src, 0xFF, some m, 0, true⟩] } })
    ∧ (s.accepts m 0x110040 permW → s.may 17 m permADM = false → exec (.faultInject m src) s = .next (s.deny 3 m 17 0x40))
    ∧ (s.accepts m 0x110018 permW → bits (s.rd F.CL_HELD) t.val 1 = 0 → exec (.blockHoldEnd m (BitVec.ofNat 32 (2 ^ t.val))) s = .next s)
    ∧ (s.accepts m 0x110018 permW → bits (s.rd F.CL_HELD) t.val 1 = 1 → t.val ≠ 13 → t.val ≠ 20 → ∃ u, exec (.blockHoldEnd m (BitVec.ofNat 32 (2 ^ t.val))) s = .next u
      ∧ bits (u.rd F.CL_HELD) t.val 1 = 0 ∧ u.inReset t.val = false)
    ∧ (s.accepts m (0x110400 + 4 * n.val) permW → ∃ u, exec (.sourceConfigWrite m n v) s = .next u
      ∧ u.rd (F.CL_SRC_CFG_n_EN n.val) = bits v.toNat 31 1 ∧ u.rd (F.CL_SRC_CFG_n_SEV n.val) = bits v.toNat 0 2
      ∧ u.rd (F.CL_SRC_CFG_n_IRQ n.val) = bits v.toNat 8 1 ∧ u.rd (F.CL_SRC_CFG_n_NMI n.val) = bits v.toNat 9 1
      ∧ u.rd (F.CL_SRC_CFG_n_BLKRST n.val) = bits v.toNat 10 1 ∧ u.rd (F.CL_SRC_CFG_n_CHIPRST n.val) = bits v.toNat 11 1
      ∧ u.rd (F.CL_SRC_CFG_n_ERRPAD n.val) = bits v.toNat 12 1
      ∧ u.rd (F.CL_SRC_CFG_n_BLK n.val) = (let k := bits v.toNat 16 8
          if k = 0 ∨ k = 1 ∨ k = 0x11 ∨ k = 0x13 ∨ 0x15 < k then 0xFF else k)
      ∧ u.cl.parity = s.cl.parity.filter (fun x => x != n.val)
      ∧ s.keepsRegs u [F.CL_SRC_CFG_n_EN n.val, F.CL_SRC_CFG_n_SEV n.val, F.CL_SRC_CFG_n_IRQ n.val, F.CL_SRC_CFG_n_NMI n.val, F.CL_SRC_CFG_n_BLKRST n.val,
        F.CL_SRC_CFG_n_CHIPRST n.val, F.CL_SRC_CFG_n_ERRPAD n.val, F.CL_SRC_CFG_n_BLK n.val]
      ∧ u.srcCfg n.val = s.srcCfg n.val ∧ u = { s with regs := u.regs, cl := { s.cl with parity := u.cl.parity, cfgOld := u.cl.cfgOld } }))

/-- R127, R189, R449 to R451: the triggers of SPARE, the start of a copy inside its window, its pause and its stall, the switch to the spare,
and the self-test. Where the manual leaves a point open it states the model's choice: log entry 61 (DEDUCED). -/
def Obligations.SubstitutionsOfUnits : Prop :=
  (∀ (cause : SubCause) (bad : Bool) (failed : List Nat) (s : State),
    (s.spRuns = false → exec (.substitutionTrigger cause) s = .next s ∧ exec .substitutionCopyStart s = .next s ∧ exec (.substitutionSwitch bad) s = .next s
      ∧ exec .substitutionStall s = .next s ∧ exec (.spareSelftest failed) s = .next s)
    ∧ (s.sp.queue = [] → exec .substitutionCopyStart s = .next s ∧ exec .guardedWindowClose s = .next s ∧ exec (.substitutionSwitch bad) s = .next s
      ∧ exec .substitutionStall s = .next s)
    ∧ (s.spRuns = true → ∃ t, exec (.spareSelftest failed) s = .next t ∧ t.sp.bad = failed.filter (fun c => decide (c < 8)) ∧ t.sp.queue = s.sp.queue))
  ∧ (∀ (sector : Nat) (page : Bool) (s : State), s.spRuns = true → s.sp.queue = [] →
    (page = false → Sparse.get 0 s.mg.erases sector < 90000 → exec (.substitutionTrigger (.norSector sector page)) s = .next s)
    ∧ (page = true ∨ 90000 ≤ Sparse.get 0 s.mg.erases sector → ∃ t, exec (.substitutionTrigger (.norSector sector page)) s = .next t
      ∧ t.sp.queue.map (fun e => (e.cls, e.unit, e.act)) = [(7, sector, false)] ∧ (s.raise0 Src.SP_SUB_PEND (7 * 2 ^ 28 + sector % 2 ^ 28)).cl.inbox.isPrefixOf t.cl.inbox = true))
  ∧ (∀ (e : Subst) (s : State), s.spRuns = true → s.sp.queue = [e] → e.cls < 8 →
    let done := exec (.substitutionSwitch false) s
    (e.act = false → s.spMay e.cls = true → e.cls < 3 → s.subWindow e = false → exec .substitutionCopyStart s = .next s)
    ∧ (e.act = false → s.spMay e.cls = true → e.cls ≠ 5 → 3 ≤ e.cls ∨ s.subWindow e = true → exec .substitutionCopyStart s =
      .next { s with sp := { s.sp with queue := [{ e with act := true }], open_ := true } })
    ∧ (e.act = false → s.spMay e.cls = false → exec .substitutionCopyStart s = .next s)
    ∧ (e.act = true → s.sp.open_ = true → e.cls < 3 → s.subWindow e = false →
      exec .guardedWindowClose s = .next { s with sp := { s.sp with queue := [{ e with waitAt := s.tb.mono }], open_ := false } })
    ∧ (e.act = true → s.sp.open_ = false ∨ 3 ≤ e.cls ∨ s.subWindow e = true → exec .guardedWindowClose s = .next s)
    ∧ (e.act = true → s.sp.open_ = false → done = .next s)
    ∧ (e.act = true → s.sp.open_ = true → s.subWindow e = true → e.cls ≠ 4 → ∃ t, done = .next t ∧ t.sp.queue = [] ∧ t.sp.open_ = false
      ∧ t.rd (F.SP_CLASS_n_USED e.cls) = min (s.rd (F.SP_CLASS_n_USED e.cls) + 1) 65535 ∧ t.rd (F.SP_CLASS_n_REMAIN e.cls) = (s.rd (F.SP_CLASS_n_REMAIN e.cls) - 1) % 65536
      ∧ t.rd F.SP_SUB_CNT = min (s.rd F.SP_SUB_CNT + 1) (2 ^ 32 - 1) ∧ t.rd64 F.SP_LAST_DT_LO F.SP_LAST_DT_HI = s.tb.dt.toNat ∧ t.rd F.MG_EVT_SUB_DONE = 1
      ∧ (e.cls = 5 → t.rd F.MS_STATUS_SPARE_USED = 1))
    ∧ (e.act = true → s.sp.open_ = true → s.subWindow e = true → e.cls < 3 → ∃ t, exec (.substitutionSwitch true) s = .next t
      ∧ t.rd (F.SP_CLASS_n_REMAIN e.cls) = (s.rd (F.SP_CLASS_n_REMAIN e.cls) - 1) % 65536 ∧ t.rd (F.SP_CLASS_n_USED e.cls) = s.rd (F.SP_CLASS_n_USED e.cls)
      ∧ t.rd F.SP_FAIL_CNT = min (s.rd F.SP_FAIL_CNT + 1) (2 ^ 32 - 1) ∧ t.sp.queue.length = 1)
    ∧ (e.act = true → e.cls = 4 → s.sp.open_ = true → (List.range 10).all (fun p => decide (s.rd (engFld p) ≠ e.unit)) = true → ∃ t, done = .next t
      ∧ t.sp.queue = [] ∧ t.rd F.LN_STATUS_SPARE_USED = 1 ∧ t.rd F.LN_STATUS_RETIRED = e.unit % 2 ^ F.LN_STATUS_RETIRED.w)
    ∧ (e.act = true → e.stalled = false → s.subWindow e = false → e.waitAt + max 1 (s.rd F.SP_CFG_STALL_S) * 1000000000 ≤ s.tb.mono →
      exec .substitutionStall s =
        .next ((({ s with sp := { s.sp with queue := [{ e with stalled := true }] } } : State).inc F.SP_STALL_CNT).raise0 Src.SP_SUB_STALL e.unit))
    ∧ (e.act = true → e.stalled = true ∨ s.subWindow e = true ∨ s.tb.mono < e.waitAt + max 1 (s.rd F.SP_CFG_STALL_S) * 1000000000 →
      exec .substitutionStall s = .next s))

/-- R457 to R460, R465, R477 to R479: the states of a backbone port, its departure from UP, MDIO, and the check of error rates each second.
Where the manual leaves a point open it states the model's choice: log entry 51 (DEDUCED). -/
def Obligations.BackbonePorts : Prop :=
  (∀ (m : Nat) (p : Fin 2) (s : State), s.accepts m (0x30000 + 0x10000 * p.val) permW →
    let st := s.rd (F.BP_STATUS_STATE p.val)
    (st = 0 → ∃ t, exec (.portEnable m p) s = .next t ∧ t.rd (F.BP_CTRL_EN p.val) = 1 ∧ t.rd (F.BP_STATUS_STATE p.val) = 1
      ∧ t.rd (F.BP_STATUS_CDR_LOCK p.val) = 0 ∧ t.rd (F.BP_STATUS_PCS_LOCK p.val) = 0 ∧ t.cl.conds.contains (Src.BB_CDR_LOSS, p.val) = true)
    ∧ (st ≠ 0 → exec (.portEnable m p) s = .next (s.wr (F.BP_CTRL_EN p.val) 1))
    ∧ (∃ t, exec (.portDisable m p) s = .next t ∧ t.rd (F.BP_CTRL_EN p.val) = 0 ∧ t.rd (F.BP_STATUS_STATE p.val) = 0 ∧ t.rd (F.BP_STATUS_LINK p.val) = 0
      ∧ t.cl.conds.contains (Src.BB_LINK_DOWN, p.val) = false ∧ t.cl.conds.contains (Src.BB_CDR_LOSS, p.val) = false
      ∧ t.rd (F.BP_LINK_DOWN_CNT p.val) = (if st = 4 then min (s.rd (F.BP_LINK_DOWN_CNT p.val) + 1) (2 ^ (F.BP_LINK_DOWN_CNT p.val).w - 1)
          else s.rd (F.BP_LINK_DOWN_CNT p.val)))
    ∧ (st < 2 → exec (.restartAn m p) s = .next s)
    ∧ (st = 4 → ∃ t, exec (.restartAn m p) s = .next t ∧ t.rd (F.BP_STATUS_STATE p.val) = 1 ∧ t.rd (F.BP_STATUS_LINK p.val) = 0
      ∧ t.cl.conds.contains (Src.BB_LINK_DOWN, p.val) = true)
    ∧ (st = 3 → s.negotiates p.val = true → ∃ t, exec (.restartAn m p) s = .next t ∧ t.rd (F.BP_STATUS_STATE p.val) = 2 ∧ t.rd (F.BP_STATUS_AN_DONE p.val) = 0))
  ∧ (∀ (p : Fin 2) (page : BitVec 16) (c : LinkLoss) (r : Bool) (s : State),
    let st := s.rd (F.BP_STATUS_STATE p.val)
    let clear := s.rd (F.BP_STATUS_LF p.val) = 0 ∧ s.rd (F.BP_STATUS_RF p.val) = 0 ∧ s.rd (F.BP_STATUS_HI_BER p.val) = 0
    let until_ := (s.bpPort p.val).holdAt + s.rd (F.BP_LINK_HOLD p.val) * 1000000
    (st = 0 ∨ st = 2 ∨ st = 4 → exec (.pcsLock p) s = .next s)
    ∧ (st = 1 → ∃ t, exec (.pcsLock p) s = .next t ∧ t.rd (F.BP_STATUS_PCS_LOCK p.val) = 1 ∧ t.rd (F.BP_STATUS_CDR_LOCK p.val) = 1
      ∧ t.rd (F.BP_STATUS_STATE p.val) = (if 2 ≤ s.rd (F.BP_CTRL_MODE p.val) ∧ s.rd (F.BP_CTRL_AN_EN p.val) ≠ 0 then 2 else 3)
      ∧ t.cl.conds.contains (Src.BB_CDR_LOSS, p.val) = false)
    ∧ (st ≠ 2 → exec (.anComplete p page) s = .next s)
    ∧ (st = 2 → s.rd (F.BP_CTRL_MODE p.val) = 2 → ∃ t, exec (.anComplete p page) s = .next t ∧ t.rd (F.BP_AN_LP p.val) = page.toNat
      ∧ t.rd (F.BP_STATUS_AN_DONE p.val) = 1 ∧ (bits page.toNat 5 1 = 1 → t.rd (F.BP_STATUS_STATE p.val) = 3 ∧ (t.bpPort p.val).holdAt = s.tb.mono)
      ∧ (bits page.toNat 5 1 = 0 → t.rd (F.BP_STATUS_STATE p.val) = 2 ∧ t.rd (F.BP_STATUS_SPEED_ERR p.val) = 1))
    ∧ (st ≠ 3 ∨ s.tb.mono < until_ ∨ ¬ clear ∨ pwTrim < s.power → exec (.linkHoldExpiry p) s = .next s)
    ∧ (st = 3 → until_ ≤ s.tb.mono → clear → s.power ≤ pwTrim → ∃ t, exec (.linkHoldExpiry p) s = .next t ∧ t.rd (F.BP_STATUS_STATE p.val) = 4
      ∧ t.rd (F.BP_STATUS_LINK p.val) = 1 ∧ t.cl.conds.contains (Src.BB_LINK_DOWN, p.val) = false)
    ∧ (st = 0 ∨ s.rd (F.BP_CTRL_LOOP p.val) = 1 → exec (.linkDown p c r) s = .next s)
    ∧ (st = 4 → s.rd (F.BP_CTRL_LOOP p.val) = 0 → ∃ t, exec (.linkDown p c r) s = .next t ∧ t.rd (F.BP_STATUS_STATE p.val) = 1
      ∧ t.rd (F.BP_STATUS_LINK p.val) = 0 ∧ t.cl.conds.contains (Src.BB_LINK_DOWN, p.val) = true ∧ (t.lnPort p.val).wire = none
      ∧ t.rd (F.BP_LINK_DOWN_CNT p.val) = min (s.rd (F.BP_LINK_DOWN_CNT p.val) + 1) (2 ^ (F.BP_LINK_DOWN_CNT p.val).w - 1))
    ∧ (st = 3 → s.rd (F.BP_CTRL_LOOP p.val) = 0 →
      (c = .lock → exec (.linkDown p c r) s = .next ((s.wr (F.BP_STATUS_PCS_LOCK p.val) 0).bpAcquire p.val))
      ∧ (c = .hiBer → exec (.linkDown p c r) s = .next (s.wr (F.BP_STATUS_HI_BER p.val) 1))
      ∧ (c = .localFault → exec (.linkDown p c r) s = .next (s.wr (F.BP_STATUS_LF p.val) 1))
      ∧ (c = .remoteFault → exec (.linkDown p c r) s = .next (s.wr (F.BP_STATUS_RF p.val) 1)))
    ∧ (s.rd (F.BP_PHYINT p.val) = 0 → exec (.phyInterrupt p) s = .next s)
    ∧ (s.rd (F.BP_PHYINT p.val) = 1 → exec (.phyInterrupt p) s = .next (s.raise Src.BB_PHY_INT p.val none 0)))
  ∧ (∀ (p : Fin 2) (pcs : Nat) (s : State),
    let rec_ := s.bpPort p.val
    let thr := s.rd (F.BP_FCS_THR p.val)
    let grown : Int := (s.rd (F.BP_RX_FCS_ERR p.val) : Int) - rec_.fcsBase
    (s.tb.mono < rec_.checkAt + 1000000000 → exec (.portErrorRateCheck p pcs) s = .next s)
    ∧ (rec_.checkAt + 1000000000 ≤ s.tb.mono → ∃ t, exec (.portErrorRateCheck p pcs) s = .next t
      ∧ t.rd (F.BP_PCS_ERR p.val) = min (s.rd (F.BP_PCS_ERR p.val) + pcs) (2 ^ (F.BP_PCS_ERR p.val).w - 1)
      ∧ (t.bpPort p.val).checkAt = s.tb.mono ∧ t.cl.conds.contains (Src.BB_FCS_RATE, p.val) = decide (thr ≠ 0 ∧ (thr : Int) < grown)))
  ∧ (∀ (m : Nat) (phy reg : Fin 32) (data : BitVec 16) (s : State), s.accepts m 0x30044 permW →
    let go := fun (st op d : Nat) => ({ ((s.wr F.BP_MDIO_STAT_BUSY 1).wr F.BP_MDIO_STAT_ERR 0).emit (.mdio st op phy.val reg.val d) with
      bp := { s.bp with mdio := some (st, op) } } : State)
    (s.rd F.BP_MDIO_STAT_BUSY = 0 →
      exec (.mdioC22Write m phy reg data) s = .next (go 0 1 data.toNat) ∧ exec (.mdioC22Read m phy reg) s = .next (go 0 2 0)
      ∧ exec (.mdioC45Address m phy reg data) s = .next (go 1 0 data.toNat) ∧ exec (.mdioC45Write m phy reg data) s = .next (go 1 1 data.toNat)
      ∧ exec (.mdioC45ReadInc m phy reg) s = .next (go 1 2 0) ∧ exec (.mdioC45Read m phy reg) s = .next (go 1 3 0))
    ∧ (s.rd F.BP_MDIO_STAT_BUSY = 1 →
      let t := (s.wr F.BP_MDIO_STAT_ERR 1).wr F.BP_MDIO_STAT_ERR_SEEN 1
      exec (.mdioC22Write m phy reg data) s = .next t ∧ exec (.mdioC22Read m phy reg) s = .next t ∧ exec (.mdioC45Address m phy reg data) s = .next t
      ∧ exec (.mdioC45Write m phy reg data) s = .next t ∧ exec (.mdioC45ReadInc m phy reg) s = .next t ∧ exec (.mdioC45Read m phy reg) s = .next t))
  ∧ (∀ (rdata : BitVec 16) (answered : Bool) (st op : Nat) (s : State),
    (s.bp.mdio = none → exec (.mdioDone rdata answered) s = .next s)
    ∧ (s.bp.mdio = some (st, op) →
      let idle : State := { s.wr F.BP_MDIO_STAT_BUSY 0 with bp := { s.bp with mdio := none } }
      (op < 2 → exec (.mdioDone rdata answered) s = .next idle)
      ∧ (op = 2 → answered = true → exec (.mdioDone rdata answered) s = .next (idle.wr F.BP_MDIO_STAT_RDATA rdata.toNat))
      ∧ (op = 2 → answered = false → exec (.mdioDone rdata answered) s =
        .next ((((idle.wr F.BP_MDIO_STAT_RDATA 0xFFFF).wr F.BP_MDIO_STAT_ERR 2).wr F.BP_MDIO_STAT_ERR_SEEN 1).raise Src.BB_MDIO_ERR 0 none 0))))

/-- R466 to R471, R476, R529: the isolation channel and its loss, the resets and the release of the field die, its links and its supply. The
status of a transmit frame that is lost on the channel is a free value. Where the manual leaves a point open it states the model's choice:
log entry 52 (DEDUCED). -/
def Obligations.FieldDieAndItsLinks : Prop :=
  (∀ (k : IsoMsg) (ok : Bool) (snr : List Nat) (mv : Nat) (s : State),
    (s.rd F.FD_STATUS_ISO_UP = 0 → exec (.isoFrameArrive k ok) s = .next s ∧ exec .isoChannelLoss s = .next s ∧ exec (.fieldStatusRefresh snr) s = .next s)
    ∧ (s.rd F.FD_STATUS_ISO_UP = 1 →
      (k = .marker → exec (.isoFrameArrive k ok) s = .next s)
      ∧ (k = .register → exec (.isoFrameArrive k true) s = .next s
        ∧ exec (.isoFrameArrive k false) s = .next ((s.raise0 Src.FD_ISO_CRC 0).inc F.FD_ISO_CRC_CNT))
      ∧ (k = .power → exec (.isoFrameArrive k true) s = .next s
        ∧ exec (.isoFrameArrive k false) s = .next ((s.raise0 Src.FD_ISO_CRC 0).inc F.FD_ISO_CRC_CNT))
      ∧ (k = .rxFrame → s.fd.cross ≠ [] → ok = false →
        exec (.isoFrameArrive k ok) s = .next (({ s with fd := { s.fd with cross := s.fd.cross.drop 1 } } : State).inc F.FD_ISO_DROP))
      ∧ (k = .rxFrame → s.fd.cross = [] → exec (.isoFrameArrive k ok) s = .next s)
      ∧ (∃ t, exec .isoChannelLoss s = .next t ∧ t.rd F.FD_STATUS_ISO_UP = 0 ∧ t.cl.conds.contains (Src.FD_ISO_LOSS, 0xFF) = true
        ∧ t.rd F.FD_ISO_LOSS_CNT = min (s.rd F.FD_ISO_LOSS_CNT + 1) (2 ^ F.FD_ISO_LOSS_CNT.w - 1) ∧ t.rd F.TB_FLW_STAT_LOCK = 0 ∧ t.fd.lostAt = s.tb.mono)
      ∧ (s.fd.cnt = [] → s.fd.ports = [] → (List.range 8).all (fun n => decide (s.rd (F.FP_STATUS_LINK n) = 0)) = true → snr.length = 8 →
        ∃ t, exec (.fieldStatusRefresh snr) s = .next t ∧ (List.range 8).all (fun n => decide (t.rd (F.FP_SNR_SNR n) = snr.getD n 0 % 65536)) = true
        ∧ t.rd F.FD_STATUS_FVIN_UV = s.fd.uv.toNat ∧ t.rd F.FD_STATUS_FVIN_OV = s.fd.ov.toNat))
    ∧ (s.rd F.FD_STATUS_ISO_UP = 1 ∨ s.fd.released = false ∨ s.fd.safe = true ∨ s.tb.mono < s.fd.lostAt + 1000000 → exec .isoLossSafe s = .next s)
    ∧ (s.rd F.FD_STATUS_ISO_UP = 0 → s.fd.released = true → s.fd.safe = false → s.fd.lostAt + 1000000 ≤ s.tb.mono → ∃ t, exec .isoLossSafe s = .next t
      ∧ t.fd.safe = true ∧ (List.range 8).all (fun n => decide ((t.lnPort (n + 2)).wire = none)) = true
      ∧ (s.rd F.FD_CTRL_SAFE_PWR = 0 → t.fd.ports = s.fd.ports)
      ∧ (s.rd F.FD_CTRL_SAFE_PWR = 1 → (List.range 8).all (fun n => decide ((t.fdPort n).pst = pdOff ∨ (t.fdPort n).pst = pdFault)) = true))
    ∧ (s.rd F.FD_STATUS_ISO_UP = 1 ∨ s.fd.released = false ∨ s.fd.dead = true → exec .isoChannelReturn s = .next s)
    ∧ (s.rd F.FD_STATUS_ISO_UP = 0 → s.fd.released = true → s.fd.dead = false → ∃ t, exec .isoChannelReturn s = .next t ∧ t.rd F.FD_STATUS_ISO_UP = 1
      ∧ t.rd F.FD_STATUS_READY = 0 ∧ t.fd.inReset = true ∧ t.cl.conds.contains (Src.FD_ISO_LOSS, 0xFF) = false)
    ∧ (s.fd.released = false ∨ s.fd.dead = true → exec .fieldDieWatchdog s = .next s)
    ∧ (s.fd.released = true → s.fd.dead = false → ∃ t, exec .fieldDieWatchdog s = .next t ∧ t.fd.inReset = true ∧ t.rd F.FD_STATUS_READY = 0
      ∧ (List.range 8).all (fun n => decide (t.rd (F.FP_STATUS_LINK n) = 0 ∧ ((s.fdPort n).pst = pdOn → (t.fdPort n).pst = pdOn))) = true)
    ∧ (s.fd.inReset = false ∨ s.rd F.FD_STATUS_ISO_UP = 0 → exec .fieldResetDone s = .next s)
    ∧ (s.fd.inReset = true → s.rd F.FD_STATUS_ISO_UP = 1 → ∃ t, exec .fieldResetDone s = .next t ∧ t.fd.inReset = false ∧ t.rd F.FD_STATUS_READY = 1
      ∧ t.rd F.FD_RESET_CNT = min (s.rd F.FD_RESET_CNT + 1) (2 ^ F.FD_RESET_CNT.w - 1)
      ∧ (List.range 8).all (fun n => decide (t.rd (F.FP_STATUS_LINK_STATE n) =
          if s.rd (F.FP_CTRL_EN n) = 0 then 0 else if s.rd (F.FP_CTRL_AN_EN n) ≠ 0 then 1 else 2)) = true)
    ∧ (s.fd.released = true ∨ s.rd F.CRP_BOOT_PHASE < 3 ∨ mv < 16000 → exec (.fieldDieRelease mv) s = .next s)
    ∧ (s.fd.released = false → 3 ≤ s.rd F.CRP_BOOT_PHASE → 16000 ≤ mv → ∃ t, exec (.fieldDieRelease mv) s = .next t ∧ t.fd.released = true
      ∧ t.rd F.FD_STATUS_ISO_UP = 1 ∧ t.rd F.FD_STATUS_READY = 1 ∧ t.rd F.FD_RESET_CNT = s.rd F.FD_RESET_CNT)
    ∧ (19000 ≤ mv → exec (.fvinUndervoltage mv) s = .next s)
    ∧ (mv < 19000 → ∃ t, exec (.fvinUndervoltage mv) s = .next t ∧ t.fd.uv = true ∧ t.fd.dead = (s.fd.dead || decide (mv < 16000))
      ∧ (s.rd F.FD_STATUS_ISO_UP = 1 → t.rd F.FD_STATUS_FVIN_UV = 1 ∧ t.rd F.FD_STATUS_FVIN_OK = 0 ∧ t.cl.conds.contains (Src.FD_FVIN_UV, 0xFF) = true))
    ∧ (mv ≤ 31000 → exec (.fvinOvervoltage mv) s = .next s)
    ∧ (31000 < mv → ∃ t, exec (.fvinOvervoltage mv) s = .next t ∧ t.fd.ov = true
      ∧ (s.rd F.FD_STATUS_ISO_UP = 1 → t.rd F.FD_STATUS_FVIN_OV = 1 ∧ t.cl.conds.contains (Src.FD_FVIN_OV, 0xFF) = true))
    ∧ (19500 < mv → mv < 30500 → s.fd.dead = false → ∃ t, exec (.fvinRestore mv) s = .next t ∧ t.fd.uv = false ∧ t.fd.ov = false ∧ t.fd.fvin = mv
      ∧ (s.rd F.FD_STATUS_ISO_UP = 1 → t.rd F.FD_STATUS_FVIN_OK = 1))
    ∧ (16000 ≤ mv → s.fd.dead = true → s.fd.released = true → ∃ t, exec (.fvinRestore mv) s = .next t ∧ t.fd.dead = false ∧ t.fd.inReset = true
      ∧ t.rd F.FD_STATUS_READY = 0))
  ∧ (∀ (m : Nat) (s : State), s.accepts m 0x50000 permW →
    (s.rd F.FD_STATUS_ISO_UP = 0 ∨ s.fd.released = false ∨ s.fd.dead = true → exec (.freset m) s = .next s)
    ∧ (s.rd F.FD_STATUS_ISO_UP = 1 → s.fd.released = true → s.fd.dead = false → ∃ t, exec (.freset m) s = .next t ∧ t.fd.inReset = true
      ∧ t.rd F.FD_STATUS_READY = 0))
  ∧ (∀ (m : Nat) (n : Fin 8) (low slave reversed : Bool) (s : State),
    let can := s.rd (F.FP_CTRL_EN n.val) ≠ 0 ∧ s.rd (F.FP_STATUS_LINK n.val) = 0 ∧ s.rd F.FD_STATUS_READY ≠ 0 ∧ s.rd F.FD_STATUS_ISO_UP ≠ 0 ∧ s.power ≤ pwTrim
    let late := s.rd F.FD_STATUS_ISO_UP ≠ 0 ∧ s.rd (F.FP_CTRL_EN n.val) ≠ 0 ∧ s.rd (F.FP_STATUS_LINK n.val) = 0 ∧ s.rd (F.FP_STATUS_LINK_STATE n.val) ≠ 0
      ∧ (s.fdPort n.val).trainAt + 5000000000 ≤ s.tb.mono
    let mode := if s.rd (F.FP_CTRL_EN n.val) = 0 then 0 else if s.rd (F.FP_CTRL_AN_EN n.val) ≠ 0 then 1 else 2
    (¬ can → exec (.fieldLinkUp n low slave reversed) s = .next s)
    ∧ (can → ∃ t, exec (.fieldLinkUp n low slave reversed) s = .next t ∧ t.rd (F.FP_STATUS_LINK n.val) = 1 ∧ t.rd (F.FP_STATUS_LINK_STATE n.val) = 3
      ∧ t.rd (F.FP_STATUS_POL_REV n.val) = reversed.toNat
      ∧ t.rd (F.FP_STATUS_ROLE_ACT n.val) = (if s.rd (F.FP_CTRL_AN_EN n.val) ≠ 0 then slave.toNat else (s.on (F.FP_CTRL_ROLE n.val)).toNat)
      ∧ t.cl.conds.contains (Src.FD_LINK_DOWN, n.val + 2) = false)
    ∧ (¬ late → exec (.fieldTrainTimeout n) s = .next s)
    ∧ (late → ∃ t, exec (.fieldTrainTimeout n) s = .next t ∧ t.rd (F.FP_STATUS_LINK_STATE n.val) = mode ∧ (t.fdPort n.val).trainAt = s.tb.mono
      ∧ t.cl = (s.raise Src.FD_TRAIN_FAIL (n.val + 2) none 0).cl)
    ∧ (s.rd (F.FP_STATUS_LINK n.val) = 0 → exec (.fieldLinkDown n) s = .next s)
    ∧ (s.rd (F.FP_STATUS_LINK n.val) = 1 → s.rd (F.FP_CTRL_EN n.val) = 1 → ∃ t, exec (.fieldLinkDown n) s = .next t ∧ t.rd (F.FP_STATUS_LINK n.val) = 0
      ∧ t.rd (F.FP_LINK_DOWN_CNT n.val) = min (s.rd (F.FP_LINK_DOWN_CNT n.val) + 1) (2 ^ (F.FP_LINK_DOWN_CNT n.val).w - 1)
      ∧ t.cl.conds.contains (Src.FD_LINK_DOWN, n.val + 2) = true ∧ t.rd (F.FP_STATUS_LINK_STATE n.val) = mode ∧ (t.lnPort (n.val + 2)).wire = none)
    ∧ (s.accepts m (0x50400 + 0x80 * n.val) permW →
      (s.rd F.FD_STATUS_ISO_UP = 0 ∨ s.rd (F.FP_CTRL_EN n.val) = 0 ∨ s.rd F.FD_STATUS_READY = 0 → exec (.fieldLinkRestart m n) s = .next s)
      ∧ (s.rd F.FD_STATUS_ISO_UP = 1 → s.rd (F.FP_CTRL_EN n.val) = 1 → s.rd F.FD_STATUS_READY = 1 → ∃ t, exec (.fieldLinkRestart m n) s = .next t
        ∧ t.rd (F.FP_STATUS_LINK n.val) = 0 ∧ t.rd (F.FP_STATUS_LINK_STATE n.val) = mode ∧ (t.fdPort n.val).trainAt = s.tb.mono)))

/-- R470, R472 to R475, R480: the power states of a field port, and the shedding and the return of ports at the aggregate limit. Where the
manual leaves a point open it states the model's choice: log entries 53 (DEDUCED), 74 (DESIGN CHOICE). -/
def Obligations.PowerOfFieldPorts : Prop :=
  (∀ (n : Fin 8) (k : Probe) (cls : Option (Fin 16)) (inRange : Bool) (held : Option Nat) (s : State),
    let r := s.fdPort n.val
    let up := s.rd F.FD_STATUS_ISO_UP = 1
    let lim := s.dieRd (F.FP_OC_RETRY_N n.val)
    let again := r.since + s.dieRd (F.FP_OC_RETRY_MS n.val) * 1000000
    (r.pst ≠ pdDetect → exec (.pdDetect n k) s = .next s)
    ∧ (r.pst = pdDetect → s.tb.mono < r.probeAt → exec (.pdDetect n k) s = .next s)
    ∧ (r.pst = pdDetect → r.probeAt ≤ s.tb.mono →
      (k = .nothing → ∃ t, exec (.pdDetect n k) s = .next t ∧ (t.fdPort n.val).mis = false ∧ (up → t.rd (F.FP_STATUS_MISWIRE n.val) = 0)
        ∧ (t.fdPort n.val).pst = pdDetect
        ∧ (t.fdPort n.val).probeAt = s.tb.mono + 500000000)
      ∧ (k = .foreign true → ∃ t, exec (.pdDetect n k) s = .next t ∧ (t.fdPort n.val).mis = true ∧ (t.fdPort n.val).rev = true
        ∧ (up → t.rd (F.FP_STATUS_MISWIRE n.val) = 1 ∧ t.rd (F.FP_STATUS_REVERSED n.val) = 1 ∧ t.cl.conds.contains (Src.FD_MISWIRE, n.val + 2) = true) ∧ (t.fdPort n.val).pst = pdDetect ∧ (t.fdPort n.val).probeAt = s.tb.mono + 500000000)
      ∧ (k = .valid → s.fdSum + 25 ≤ s.aggLim → ∃ t, exec (.pdDetect n k) s = .next t
        ∧ (t.fdPort n.val).pst = (if r.sccp then pdClassify else pdPowerUp) ∧ (t.fdPort n.val).mis = false
        ∧ (up → t.rd (F.FP_STATUS_MISWIRE n.val) = 0))
      ∧ (k = .valid → s.aggLim < s.fdSum + 25 → ∃ t, exec (.pdDetect n k) s = .next t ∧ (t.fdPort n.val).pst = pdDetect))
    ∧ (r.pst ≠ pdClassify → exec (.pdClassify n cls) s = .next s)
    ∧ (r.pst = pdClassify → r.failed = none →
      (∀ c, cls = some c → ∃ t, exec (.pdClassify n cls) s = .next t ∧ (t.fdPort n.val).clsRd = c.val ∧ (up → t.rd (F.FP_STATUS_CLASS_RD n.val) = c.val)
        ∧ (c.val ≤ r.cls → (t.fdPort n.val).pst = pdPowerUp)
        ∧ (r.cls < c.val → t.fdPort n.val = { r with clsRd := c.val, failed := some s.tb.mono }
          ∧ ⟨Src.FD_CLASS_FAIL, n.val + 2, none, 0, false⟩ ∈ t.cl.inbox))
      ∧ (cls = none → r.since + 100000000 ≤ s.tb.mono → exec (.pdClassify n cls) s =
        .next ((s.setFd n.val { r with failed := some s.tb.mono }).raise Src.FD_CLASS_FAIL (n.val + 2) none 0))
      ∧ (cls = none → s.tb.mono < r.since + 100000000 → exec (.pdClassify n cls) s = .next s))
    ∧ (r.pst ≠ pdPowerUp → exec (.powerUpDone n inRange) s = .next s)
    ∧ (r.pst = pdPowerUp → inRange = true → s.tb.mono ≤ r.since + 50000000 → ∃ t, exec (.powerUpDone n inRange) s = .next t ∧ (t.fdPort n.val).pst = pdOn
      ∧ (t.fdPort n.val).since = s.tb.mono)
    ∧ (r.pst = pdPowerUp → r.since + 50000000 < s.tb.mono → ∃ t, exec (.powerUpDone n inRange) s = .next t ∧ (t.fdPort n.val).pst = pdFault
      ∧ (up → t.cl.conds.contains (Src.FD_OVERCURRENT, n.val + 2) = true))
    ∧ (r.pst ≠ pdOn → exec (.pdDisconnect n) s = .next s ∧ exec (.overcurrentTrip n held) s = .next s ∧ exec (.retryCountReset n) s = .next s)
    ∧ (r.pst = pdOn → r.since + 300000000 ≤ s.tb.mono → ∃ t, exec (.pdDisconnect n) s = .next t ∧ (t.fdPort n.val).pst = pdDetect)
    ∧ (r.pst = pdOn → held = none → ∃ t, exec (.overcurrentTrip n held) s = .next t ∧ (t.fdPort n.val).pst = pdFault
      ∧ (up → t.cl.conds.contains (Src.FD_OVERCURRENT, n.val + 2) = true))
    ∧ (r.pst = pdOn → Option.all (fun ms => decide (ms < max 1 (s.dieRd (F.FP_OC_OC_MS n.val)))) held = true → held.isSome = true →
      exec (.overcurrentTrip n held) s = .next s)
    ∧ (r.pst = pdOn → r.since + 60000000000 ≤ s.tb.mono → exec (.retryCountReset n) s = .next (s.setFd n.val { r with used := 0 }))
    ∧ (r.pst ≠ pdFault ∨ s.tb.mono < again → exec (.faultRetry n) s = .next s)
    ∧ (r.pst = pdFault → again ≤ s.tb.mono →
      (lim ≠ 15 → lim ≤ r.used → exec (.faultRetry n) s = .next s)
      ∧ (lim = 15 ∨ r.used < lim → ∃ t, exec (.faultRetry n) s = .next t ∧ (t.fdPort n.val).pst = pdDetect
        ∧ (t.fdPort n.val).used = min 15 (r.used + 1))))
  ∧ (∀ (n : Fin 8) (cur : List Nat) (s : State),
    let r := s.fdPort n.val
    let sum := (List.range 8).foldl (fun a k => a + min (cur.getD k 0) (max 10 (min 300 (s.dieRd (F.FP_ILIM k))))) 0
    let lowest := (List.range 8).all (fun k => decide (k = n.val ∨ (s.fdPort k).pst ≠ pdOn ∨ s.dieRd (F.FP_CTRL_PRIO n.val) < s.dieRd (F.FP_CTRL_PRIO k)
      ∨ (s.dieRd (F.FP_CTRL_PRIO n.val) = s.dieRd (F.FP_CTRL_PRIO k) ∧ k < n.val))) = true
    (s.fd.released = false ∨ s.fd.inReset = true ∨ s.tb.mono < s.fd.evalAt + 1000000 → exec (.powerEvaluation cur) s = .next s)
    ∧ (s.fd.released = true → s.fd.inReset = false → s.fd.evalAt + 1000000 ≤ s.tb.mono → s.rd F.FD_STATUS_ISO_UP = 1 → ∃ t, exec (.powerEvaluation cur) s = .next t
      ∧ t.fd.evalAt = s.tb.mono ∧ t.fdSum = sum
      ∧ (s.rd (F.FP_CTRL_PWR_EN n.val) = 0 ∨ s.rd F.FD_CTRL_PWR_EN = 0 → r.pst ≠ pdFault → (t.fdPort n.val).pst = pdOff)
      ∧ (r.pst = pdOff → r.off = false → s.fdEnabled n.val = true → (t.fdPort n.val).pst = pdDetect)
      ∧ (r.pst = pdOn → r.off = false → r.failed = none → s.fdEnabled n.val = true → sum ≤ max 100 (min 1600 (s.dieRd F.FD_AGG_LIM)) → (t.fdPort n.val).pst = pdOn)
      ∧ (r.pst = pdOn → r.off = false → r.failed = none → s.fdEnabled n.val = true → max 100 (min 1600 (s.dieRd F.FD_AGG_LIM)) < sum → lowest →
        (t.fdPort n.val).pst = pdShed ∧ t.cl.conds.contains (Src.FD_AGG_LIMIT, n.val + 2) = true)))
  ∧ (∀ (n : Nat) (s : State),
    (s.recoverPort = none → exec .shedRecover s = .next s)
    ∧ ((List.range 8).all (fun k => decide ((s.fdPort k).pst ≠ pdShed)) = true → exec .shedRecover s = .next s)
    ∧ (s.recoverPort = some n → ∃ t, exec .shedRecover s = .next t ∧ (t.fdPort n).pst = pdDetect
      ∧ (List.range 8).all (fun k => decide ((t.fdPort k).lowAt = none)) = true))
end

