-- ==== Sys2Proof/Laws/Guard.lean ====
section
/-!
SUPPORT. What the register interface does with a command: it reaches its block, is denied, finds a held block, or is not decoded (R390, R392,
R430, R497).
-/

namespace Sys2Proof.Machine

/-- A write that reaches its block has the effect of the block. -/
theorem State.busW_accepts {s : State} {m off : Nat} (h : s.accepts m off permW) (f : State → State) : s.busW m off f = f s := by
  obtain ⟨h1, h2, h3⟩ := h
  simp [State.busW, State.guarded, h1, h2, h3]

/-- The same for a command that needs another permission. -/
theorem State.guarded_accepts {s : State} {m off bit : Nat} (h : s.accepts m off bit) (op : Nat) (f : State → State) :
    s.guarded op bit m off f = f s := by
  obtain ⟨h1, h2, h3⟩ := h
  simp [State.guarded, h1, h2, h3]

/-- A read that is answered. -/
theorem State.busR_gives {s : State} {m off : Nat} (h : s.gives m off) (f : State → State) : s.busR m off f = f s := by
  obtain ⟨h1, h2⟩ := h
  simp [State.busR, h1, h2]

/-- An administrative write. -/
theorem State.busAdm_accepts {s : State} {m off : Nat} (h : s.accepts m off permW) (ha : s.may (off / 0x10000) m permADM = true)
    (f : State → State) : s.busAdm m off f = f s := by
  obtain ⟨h1, h2, h3⟩ := h
  simp [State.busAdm, h1, h2, h3, ha]

/-- A write that the access table does not permit is denied. -/
theorem State.busW_denied {s : State} {m off : Nat} (h1 : s.takes m = true) (h2 : s.may (off / 0x10000) m permW = false)
    (f : State → State) : s.busW m off f = s.deny 1 m (off / 0x10000) (off % 0x10000) := by
  simp [State.busW, State.guarded, h1, h2]

/-- Nothing takes a command of a function without Memory Space Enable, or while the block is off. -/
theorem State.busW_undecoded {s : State} {m off : Nat} (h : s.takes m = false) (f : State → State) : s.busW m off f = s := by
  simp [State.busW, State.guarded, h]

/-- A held block takes no write. -/
theorem State.busW_held {s : State} {m off : Nat} (h2 : s.may (off / 0x10000) m permW = true) (h3 : s.heldBlk (blkOf off) = true)
    (f : State → State) : s.busW m off f = s := by
  unfold State.busW State.guarded
  split <;> simp_all

end Sys2Proof.Machine
end

