-- ==== Sys2Proof/Laws/Sparse.lean ====
section
/-!
SUPPORT. What the operations on sparse tables do: read after write, writes elsewhere, and the canonical form kept.
-/

namespace Sys2Proof.Machine

variable {α : Type}

@[simp] theorem Sparse.get_nil (d : α) (a : Nat) : Sparse.get d [] a = d := rfl

theorem Sparse.get_del_same (d : α) (l : List (Nat × α)) (a : Nat) : Sparse.get d (Sparse.del a l) a = d := by
  induction l with
  | nil => rfl
  | cons p t ih =>
    obtain ⟨k, v⟩ := p
    by_cases h : k = a
    · simp [Sparse.del, h, ih]
    · simp [Sparse.del, Sparse.get, h, ih]

theorem Sparse.get_del_ne (d : α) (l : List (Nat × α)) {a b : Nat} (hab : b ≠ a) :
    Sparse.get d (Sparse.del a l) b = Sparse.get d l b := by
  induction l with
  | nil => rfl
  | cons p t ih =>
    obtain ⟨k, v⟩ := p
    by_cases h : k = a
    · have hk : k ≠ b := by omega
      simp [Sparse.del, Sparse.get, h, ih]; omega
    · simp [Sparse.del, Sparse.get, h, ih]

theorem Sparse.get_ins_same (d : α) (l : List (Nat × α)) (a : Nat) (v : α) (h : ∀ p ∈ l, p.1 ≠ a) :
    Sparse.get d (Sparse.ins a v l) a = v := by
  induction l with
  | nil => simp [Sparse.ins, Sparse.get]
  | cons p t ih =>
    obtain ⟨k, w⟩ := p
    have hk : k ≠ a := h (k, w) (by simp)
    have ht : ∀ p ∈ t, p.1 ≠ a := fun p hp => h p (by simp [hp])
    simp only [Sparse.ins]
    split
    · simp [Sparse.get]
    · simp [Sparse.get, hk, ih ht]

theorem Sparse.get_ins_ne (d : α) (l : List (Nat × α)) {a b : Nat} (v : α) (h : b ≠ a) :
    Sparse.get d (Sparse.ins a v l) b = Sparse.get d l b := by
  induction l with
  | nil => simp [Sparse.ins, Sparse.get, Ne.symm h]
  | cons p t ih =>
    obtain ⟨k, w⟩ := p
    simp only [Sparse.ins]
    split
    · simp [Sparse.get, Ne.symm h]
    · simp [Sparse.get, ih]

theorem Sparse.del_ne_mem (l : List (Nat × α)) (a : Nat) : ∀ p ∈ Sparse.del a l, p.1 ≠ a := by
  induction l with
  | nil => simp [Sparse.del]
  | cons q t ih =>
    obtain ⟨k, w⟩ := q
    by_cases h : k = a
    · simpa [Sparse.del, h] using ih
    · intro p hp
      simp only [Sparse.del, h, if_false, List.mem_cons] at hp
      rcases hp with rfl | hp
      · exact h
      · exact ih p hp

/-- A read after a write to the same key gives the value written. -/
@[simp] theorem Sparse.get_put_same [DecidableEq α] (d : α) (l : List (Nat × α)) (a : Nat) (v : α) :
    Sparse.get d (Sparse.put d l a v) a = v := by
  unfold Sparse.put
  split
  · next h => rw [Sparse.get_del_same, h]
  · exact Sparse.get_ins_same d _ a v (Sparse.del_ne_mem l a)

/-- A write leaves every other key alone. -/
theorem Sparse.get_put_ne [DecidableEq α] (d : α) (l : List (Nat × α)) {a b : Nat} (v : α) (h : b ≠ a) :
    Sparse.get d (Sparse.put d l a v) b = Sparse.get d l b := by
  unfold Sparse.put
  split
  · exact Sparse.get_del_ne d l h
  · rw [Sparse.get_ins_ne d _ v h, Sparse.get_del_ne d l h]

theorem Sparse.above_of_lt {l : List (Nat × α)} {a b : Nat} (h : Sparse.above b l = true) (hab : a ≤ b) :
    Sparse.above a l = true := by
  induction l with
  | nil => rfl
  | cons p t ih =>
    obtain ⟨k, v⟩ := p
    simp only [Sparse.above, Bool.and_eq_true, decide_eq_true_eq] at h ⊢
    exact ⟨by omega, ih h.2⟩

theorem Sparse.above_del {l : List (Nat × α)} {a b : Nat} (h : Sparse.above b l = true) :
    Sparse.above b (Sparse.del a l) = true := by
  induction l with
  | nil => rfl
  | cons p t ih =>
    obtain ⟨k, v⟩ := p
    simp only [Sparse.above, Bool.and_eq_true, decide_eq_true_eq] at h
    simp only [Sparse.del]
    split
    · exact ih h.2
    · simp [Sparse.above, h.1, ih h.2]

theorem Sparse.above_ins {l : List (Nat × α)} {a b : Nat} (v : α) (h : Sparse.above b l = true) (hb : b < a) :
    Sparse.above b (Sparse.ins a v l) = true := by
  induction l with
  | nil => simp [Sparse.ins, Sparse.above, hb]
  | cons p t ih =>
    obtain ⟨k, w⟩ := p
    simp only [Sparse.above, Bool.and_eq_true, decide_eq_true_eq] at h
    simp only [Sparse.ins]
    split
    · simp [Sparse.above, hb, h.1, h.2]
    · simp [Sparse.above, h.1, ih h.2]

theorem Sparse.wf_del [DecidableEq α] {d : α} {l : List (Nat × α)} (a : Nat) (h : Sparse.wf d l = true) :
    Sparse.wf d (Sparse.del a l) = true := by
  induction l with
  | nil => rfl
  | cons p t ih =>
    obtain ⟨k, v⟩ := p
    simp only [Sparse.wf, Bool.and_eq_true, decide_eq_true_eq] at h
    simp only [Sparse.del]
    split
    · exact ih h.2
    · simp [Sparse.wf, Sparse.above_del h.1.1, h.1.2, ih h.2]

theorem Sparse.wf_ins [DecidableEq α] {d : α} {l : List (Nat × α)} (a : Nat) (v : α) (hv : v ≠ d)
    (hm : ∀ p ∈ l, p.1 ≠ a) (h : Sparse.wf d l = true) : Sparse.wf d (Sparse.ins a v l) = true := by
  induction l with
  | nil => simp [Sparse.ins, Sparse.wf, Sparse.above, hv]
  | cons p t ih =>
    obtain ⟨k, w⟩ := p
    have hk : k ≠ a := hm (k, w) (by simp)
    have ht : ∀ p ∈ t, p.1 ≠ a := fun p hp => hm p (by simp [hp])
    simp only [Sparse.wf, Bool.and_eq_true, decide_eq_true_eq] at h
    simp only [Sparse.ins]
    split
    · next hlt =>
      simp [Sparse.wf, Sparse.above, hv, hlt, h.1.1, h.1.2, h.2, Sparse.above_of_lt h.1.1 (Nat.le_of_lt hlt)]
    · next hlt =>
      have : k < a := by omega
      simp [Sparse.wf, Sparse.above_ins v h.1.1 this, h.1.2, ih ht h.2]

/-- Every write keeps the canonical form. -/
theorem Sparse.wf_put [DecidableEq α] {d : α} {l : List (Nat × α)} (a : Nat) (v : α) (h : Sparse.wf d l = true) :
    Sparse.wf d (Sparse.put d l a v) = true := by
  unfold Sparse.put
  split
  · exact Sparse.wf_del a h
  · next hv => exact Sparse.wf_ins a v hv (Sparse.del_ne_mem l a) (Sparse.wf_del a h)

theorem Sparse.above_filter {l : List (Nat × α)} {b : Nat} (f : Nat × α → Bool) (h : Sparse.above b l = true) :
    Sparse.above b (l.filter f) = true := by
  induction l with
  | nil => rfl
  | cons p t ih =>
    obtain ⟨k, v⟩ := p
    simp only [Sparse.above, Bool.and_eq_true, decide_eq_true_eq] at h
    simp only [List.filter_cons]
    split
    · simp [Sparse.above, h.1, ih h.2]
    · exact ih h.2

/-- Dropping entries keeps the canonical form. -/
theorem Sparse.wf_filter [DecidableEq α] {d : α} {l : List (Nat × α)} (f : Nat × α → Bool) (h : Sparse.wf d l = true) :
    Sparse.wf d (l.filter f) = true := by
  induction l with
  | nil => rfl
  | cons p t ih =>
    obtain ⟨k, v⟩ := p
    simp only [Sparse.wf, Bool.and_eq_true, decide_eq_true_eq] at h
    simp only [List.filter_cons]
    split
    · simp [Sparse.wf, Sparse.above_filter f h.1.1, h.1.2, ih h.2]
    · exact ih h.2

theorem Sparse.above_dropRange {l : List (Nat × α)} {b : Nat} (lo hi : Nat) (h : Sparse.above b l = true) :
    Sparse.above b (Sparse.dropRange lo hi l) = true := by
  induction l with
  | nil => rfl
  | cons p t ih =>
    obtain ⟨k, v⟩ := p
    simp only [Sparse.above, Bool.and_eq_true, decide_eq_true_eq] at h
    simp only [Sparse.dropRange]
    split
    · exact ih h.2
    · simp [Sparse.above, h.1, ih h.2]

/-- Dropping a range keeps the canonical form. -/
theorem Sparse.wf_dropRange [DecidableEq α] {d : α} {l : List (Nat × α)} (lo hi : Nat) (h : Sparse.wf d l = true) :
    Sparse.wf d (Sparse.dropRange lo hi l) = true := by
  induction l with
  | nil => rfl
  | cons p t ih =>
    obtain ⟨k, v⟩ := p
    simp only [Sparse.wf, Bool.and_eq_true, decide_eq_true_eq] at h
    simp only [Sparse.dropRange]
    split
    · exact ih h.2
    · simp [Sparse.wf, Sparse.above_dropRange lo hi h.1.1, h.1.2, ih h.2]

/-- A dropped key reads as the default. -/
theorem Sparse.get_dropRange_in (d : α) (l : List (Nat × α)) {lo hi a : Nat} (h : lo ≤ a ∧ a < hi) :
    Sparse.get d (Sparse.dropRange lo hi l) a = d := by
  induction l with
  | nil => rfl
  | cons p t ih =>
    obtain ⟨k, v⟩ := p
    simp only [Sparse.dropRange]
    split
    · exact ih
    · next hk =>
      have : k ≠ a := by rintro rfl; exact hk h
      simp [Sparse.get, this, ih]

/-- A key outside the range keeps its value. -/
theorem Sparse.get_dropRange_out (d : α) (l : List (Nat × α)) {lo hi a : Nat} (h : ¬ (lo ≤ a ∧ a < hi)) :
    Sparse.get d (Sparse.dropRange lo hi l) a = Sparse.get d l a := by
  induction l with
  | nil => rfl
  | cons p t ih =>
    obtain ⟨k, v⟩ := p
    simp only [Sparse.dropRange]
    split
    · next hk =>
      have : k ≠ a := by rintro rfl; exact h hk
      simp [Sparse.get, this, ih]
    · simp [Sparse.get, ih]

end Sys2Proof.Machine
end

