-- ==== Sys2Proof/Laws/Kept.lean ====
section
/-!
SUPPORT. What every operation of the block keeps: the queue, the clock of the relative timers, and the canonical form of the register
file. One lemma per operation, so that what holds of every command is put together without unfolding the operations again.
-/

namespace Sys2Proof.Machine

/-- From `r` to `s` the queue and the clock of the relative timers have not moved, and a canonical register file is canonical still. -/
structure Kept (r s : State) : Prop where
  pending : s.pending = r.pending
  mono : s.tb.mono = r.tb.mono
  regs : Sparse.wf (0 : Word) r.regs = true → Sparse.wf (0 : Word) s.regs = true

theorem Kept.refl (s : State) : Kept s s := ⟨rfl, rfl, id⟩

theorem Kept.trans {r s t : State} (h : Kept r s) (g : Kept s t) : Kept r t :=
  ⟨g.pending.trans h.pending, g.mono.trans h.mono, g.regs ∘ h.regs⟩

/-- A record that keeps the register file, the time base and the queue of a state. -/
theorem Kept.mk_ {r x : State} {pcie : Pcie} {qe : Qe} {dma : List (Nat × Ch)} {mb : Mb} {gr : Gr} {pt : Pt} {kn : Kn} {gy : Gy} {hz :
    Hz} {ms : Ms} {tw : Tw} {fn : Fn} {ps : Ps} {lt : Lt} {ln : Ln} {rx : List (Nat × Option RxFrame)} {cl : Cl} {bp : Bp} {fd : Fd}
    {crp : Crp} {mg : Mg} {sp : Sp} {yieldAt : List (Nat × Option Nat)} {wire : List WireOut} {latched : List (Nat × Option Word)}
    {loHeld : List (Nat × Option Word)} {recLatch : List (Nat × Option (Nat × List DWord))} {readData : List Word} {freeIdx : Nat} (h :
    Kept r x) : Kept r (State.mk x.regs x.tb pcie qe dma mb gr pt kn gy hz ms tw fn ps lt ln rx cl bp fd crp mg sp yieldAt wire latched
    loHeld recLatch readData freeIdx x.pending) := ⟨h.pending, h.mono, h.regs⟩

/-- A record that keeps the register file, the clock of the time base and the queue of a state. -/
theorem Kept.mkTb {r x : State} {pcie : Pcie} {qe : Qe} {dma : List (Nat × Ch)} {mb : Mb} {gr : Gr} {pt : Pt} {kn : Kn} {gy : Gy} {hz :
    Hz} {ms : Ms} {tw : Tw} {fn : Fn} {ps : Ps} {lt : Lt} {ln : Ln} {rx : List (Nat × Option RxFrame)} {cl : Cl} {bp : Bp} {fd : Fd}
    {crp : Crp} {mg : Mg} {sp : Sp} {yieldAt : List (Nat × Option Nat)} {wire : List WireOut} {latched : List (Nat × Option Word)}
    {loHeld : List (Nat × Option Word)} {recLatch : List (Nat × Option (Nat × List DWord))} {readData : List Word} {freeIdx : Nat} {dt :
    DWord} {frac : Word} {shDt : DWord} {shFrac : Word} {slew : Int} {slewCarry : Nat} {slewing : Bool} {reep : Option Reep} {incAt :
    Nat} {ppsPeriod : Word} {ppsPhase : Word} {ppsWidth : Word} {ppsCommit : Option (Word × Word × Word)} {ppsOutEnd : Option Nat}
    {ppsInAt : Int} {ppsInHave : Bool} {tin0 : List Stamp} {tin1 : List Stamp} {tinLast0 : Option Nat} {tinLast1 : Option Nat} {tout :
    Nat} {toutPad : Nat} {flwEver : Bool} {flwOver : Nat} {flwAt : Nat} {fuA : List FuEntry} {fuB : List FuEntry} {nextSync : List (Nat
    × Nat)} {linkDly : List (Nat × Nat)} {swapped : Bool} (h : Kept r x) : Kept r (State.mk x.regs (Tb.mk dt frac x.tb.mono shDt shFrac
    slew slewCarry slewing reep incAt ppsPeriod ppsPhase ppsWidth ppsCommit ppsOutEnd ppsInAt ppsInHave tin0 tin1 tinLast0 tinLast1 tout
    toutPad flwEver flwOver flwAt fuA fuB nextSync linkDly swapped) pcie qe dma mb gr pt kn gy hz ms tw fn ps lt ln rx cl bp fd crp mg
    sp yieldAt wire latched loHeld recLatch readData freeIdx x.pending) := ⟨h.pending, h.mono, h.regs⟩

theorem Kept.ite {r a b : State} {c : Prop} [Decidable c] (h : Kept r a) (g : Kept r b) : Kept r (if c then a else b) := by
  split <;> assumption

theorem Kept.foldl {α : Type} {r s : State} {f : State → α → State} (h : Kept r s) (hf : ∀ s x, Kept r s → Kept r (f s x)) :
    ∀ l : List α, Kept r (l.foldl f s)
  | [] => h
  | x :: t => Kept.foldl (hf s x h) hf t

theorem Kept.foldlPair {α β : Type} {r : State} {a : State × β} {f : State × β → α → State × β} (h : Kept r a.1)
    (hf : ∀ a x, Kept r a.1 → Kept r (f a x).1) : ∀ l : List α, Kept r (l.foldl f a).1
  | [] => h
  | x :: t => Kept.foldlPair (hf a x h) hf t

theorem Kept.itePair {β : Type} {r : State} {a b : State × β} {c : Prop} [Decidable c] (h : Kept r a.1) (g : Kept r b.1) :
    Kept r (if c then a else b).1 := by
  split <;> assumption

/-- A register write. -/
theorem Kept.wr {r s : State} {f : Fld} {v : Nat} (h : Kept r s) : Kept r (s.wr f v) :=
  ⟨h.pending, h.mono, fun w => Sparse.wf_put _ _ (h.regs w)⟩

/-- Dropping entries of the register file. -/
theorem Kept.regsFilter {r s : State} {f : Nat × Word → Bool} (h : Kept r s) : Kept r { s with regs := s.regs.filter f } :=
  ⟨h.pending, h.mono, fun w => Sparse.wf_filter _ (h.regs w)⟩

/-- What a meaning answers keeps what `Kept` says; a stop keeps nothing to speak of. -/
def KeptOut (r : State) : Out → Prop
  | .next t => Kept r t
  | _ => True

theorem KeptOut.next {r t : State} (h : Kept r t) : KeptOut r (.next t) := h

theorem KeptOut.ite {r : State} {a b : Out} {c : Prop} [Decidable c] (h : KeptOut r a) (g : KeptOut r b) : KeptOut r (if c then a else b) := by
  split <;> assumption

end Sys2Proof.Machine
end

