-- ==== Sys2Proof/Laws/KeptOps.lean ====
section
/-!
SUPPORT. What the operations of Machine/Ops.lean keep (Laws/Kept.lean).
-/

namespace Sys2Proof.Machine

theorem Kept.add {s₀ s : State} {f : Fld} {n : Nat} (hk : Kept s₀ s) : Kept s₀ (State.add s f n) := by
  unfold State.add; exact (.wr hk)

theorem Kept.inc {s₀ s : State} {f : Fld} (hk : Kept s₀ s) : Kept s₀ (State.inc s f) := by
  unfold State.inc; exact (.add hk)

theorem Kept.wr64 {s₀ s : State} {lo hi : Fld} {v : Nat} (hk : Kept s₀ s) : Kept s₀ (State.wr64 s lo hi v) := by
  unfold State.wr64; exact (.wr (.wr hk))

theorem Kept.raise {s₀ s : State} {src inst : Nat} {master : Option Nat} {info : Nat} (hk : Kept s₀ s) : Kept s₀ (State.raise s src inst
    master info) := by
  unfold State.raise; exact (.mk_ hk)

theorem Kept.raise0 {s₀ s : State} {src info : Nat} (hk : Kept s₀ s) : Kept s₀ (State.raise0 s src info) := by
  unfold State.raise0; exact (.raise hk)

theorem Kept.onset {s₀ s : State} {src inst info : Nat} (hk : Kept s₀ s) : Kept s₀ (State.onset s src inst info) := by
  unfold State.onset; exact (.ite hk (.mk_ hk))

theorem Kept.wrBit {s₀ s : State} {f : Fld} {i : Nat} {b : Bool} (hk : Kept s₀ s) : Kept s₀ (State.wrBit s f i b) := by
  unfold State.wrBit; exact (.wr hk)

theorem Kept.condEnd {s₀ s : State} {src inst : Nat} (hk : Kept s₀ s) : Kept s₀ (State.condEnd s src inst) := by
  unfold State.condEnd; exact (.ite (.mk_ hk) (.wrBit (.mk_ hk)))

theorem Kept.deny {s₀ s : State} {op m t off : Nat} (hk : Kept s₀ s) : Kept s₀ (State.deny s op m t off) := by
  unfold State.deny; exact (.raise (.wr (.wr (.wr (.wr (.wr (.wr (.inc hk))))))))

theorem Kept.guarded {s₀ s : State} {op bit m off : Nat} {f : State → State} (hk : Kept s₀ s) (h_f : ∀ t : State, Kept s₀ t → Kept s₀ (f t))
    : Kept s₀ (State.guarded s op bit m off f) := by
  unfold State.guarded; exact (.ite hk (.ite (.ite hk (h_f _ hk)) (.deny hk)))

theorem Kept.dropLow {s₀ s : State} {m off : Nat} (hk : Kept s₀ s) : Kept s₀ (State.dropLow s m off) := by
  unfold State.dropLow; exact (.mk_ hk)

theorem Kept.advance {s₀ s : State} {f : Fld} (hk : Kept s₀ s) : Kept s₀ (State.advance s f) := by
  unfold State.advance; exact (.wr hk)

theorem Kept.winWrite {s₀ s : State} {m lo hi : Nat} {adr : Fld} {store : State → Nat → State} (hk : Kept s₀ s) (h_store : ∀ (t : State) (x
    : Nat), Kept s₀ t → Kept s₀ (store t x)) : Kept s₀ (State.winWrite s m lo hi adr store) := by
  unfold State.winWrite; exact (.advance (.dropLow (h_store _ _ hk)))

theorem Kept.busW {s₀ s : State} {m off : Nat} {f : State → State} (hk : Kept s₀ s) (h_f : ∀ t : State, Kept s₀ t → Kept s₀ (f t)) : Kept s₀
    (State.busW s m off f) := by
  unfold State.busW; exact (.guarded hk (fun _ k1 => (h_f _ k1)))

theorem Kept.busR {s₀ s : State} {m off : Nat} {f : State → State} (hk : Kept s₀ s) (h_f : ∀ t : State, Kept s₀ t → Kept s₀ (f t)) : Kept s₀
    (State.busR s m off f) := by
  unfold State.busR; exact (.ite (.mk_ hk) (.ite (h_f _ hk) (.mk_ (.deny hk))))

theorem Kept.busAdm {s₀ s : State} {m off : Nat} {f : State → State} (hk : Kept s₀ s) (h_f : ∀ t : State, Kept s₀ t → Kept s₀ (f t)) : Kept
    s₀ (State.busAdm s m off f) := by
  unfold State.busAdm; exact (.ite hk (.ite (.deny hk) (.ite (.deny hk) (.ite hk (h_f _ hk)))))

theorem Kept.loopPut {s₀ s : State} {w : WireOut} (hk : Kept s₀ s) : Kept s₀ (State.loopPut s w) := by
  unfold State.loopPut; exact (by (split; exacts [(.ite (.mk_ hk) hk), hk]))

theorem Kept.looped {s₀ s : State} {p : Nat} {is : WireOut → Bool} {f : State → State} (hk : Kept s₀ s) (h_f : ∀ t : State, Kept s₀ t → Kept
    s₀ (f t)) : Kept s₀ (State.looped s p is f) := by
  unfold State.looped; exact (.ite (h_f _ hk) (by (split; exacts [(.ite (h_f _ (.mk_ hk)) hk), hk])))

theorem Kept.emit {s₀ s : State} {w : WireOut} (hk : Kept s₀ s) : Kept s₀ (State.emit s w) := by
  unfold State.emit; exact (.ite hk (.mk_ (.loopPut hk)))

theorem Kept.toHost {s₀ s : State} {w : HostWrite} (hk : Kept s₀ s) : Kept s₀ (State.toHost s w) := by
  unfold State.toHost; exact (.ite hk (.ite (.mk_ hk) (.mk_ hk)))

theorem Kept.msix {s₀ s : State} {fn vec : Nat} (hk : Kept s₀ s) : Kept s₀ (State.msix s fn vec) := by
  unfold State.msix; exact (.ite (.mk_ hk) (.toHost hk))

theorem Kept.sendEvent {s₀ s : State} {e : Nat} (hk : Kept s₀ s) : Kept s₀ (State.sendEvent s e) := by
  unfold State.sendEvent; exact (.ite (.msix hk) hk)

theorem Kept.fdCount {s₀ s : State} {f : Fld} (hk : Kept s₀ s) : Kept s₀ (State.fdCount s f) := by
  unfold State.fdCount; exact (.mk_ hk)

theorem Kept.portCount {s₀ s : State} {p : Nat} {f : Fld} (hk : Kept s₀ s) : Kept s₀ (State.portCount s p f) := by
  unfold State.portCount; exact (.ite (.inc hk) (.fdCount hk))

theorem Kept.logPut {s₀ s : State} {r : LogRec} (hk : Kept s₀ s) : Kept s₀ (State.logPut s r) := by
  unfold State.logPut; exact (.mk_ hk)

theorem Kept.logEvent {s₀ s : State} {type : Nat} (hk : Kept s₀ s) : Kept s₀ (State.logEvent s type) := by
  unfold State.logEvent; exact (.ite (.logPut (.mk_ hk)) hk)

end Sys2Proof.Machine
end

