-- ==== Sys2Proof/Laws/KeptFlags.lean ====
section
/-!
SUPPORT. What the operations of Machine/Flags.lean keep (Laws/Kept.lean).
-/

namespace Sys2Proof.Machine

theorem Kept.errPut {s₀ s : State} {x : ErrRec} (hk : Kept s₀ s) : Kept s₀ (State.errPut s x) := by
  unfold State.errPut; exact (.ite (.wr (.wr (.wr (.wr (.wr (.mk_ hk)))))) (.wr (.wr (.wr (.wr (.wr (.mk_ hk)))))))

theorem Kept.errRecord {s₀ s : State} {x : ErrRec} (hk : Kept s₀ s) : Kept s₀ (State.errRecord s x) := by
  unfold State.errRecord; exact (.ite (.errPut hk) (by (split; exacts [(.ite (.errPut hk) hk), (.mk_ hk)])))

theorem Kept.errClear {s₀ s : State} {acc : Bool} (hk : Kept s₀ s) : Kept s₀ (State.errClear s acc) := by
  unfold State.errClear; exact (.ite hk (by ((try dsimp only); split; exacts [(.errPut hk), (.wr hk)])))

theorem Kept.cfgWhileRunning {s₀ s : State} {m off : Nat} (hk : Kept s₀ s) : Kept s₀ (State.cfgWhileRunning s m off) := by
  unfold State.cfgWhileRunning; exact (.errRecord (.raise hk))

theorem Kept.badAccess {s₀ s : State} {wr : Bool} {size m off : Nat} (hk : Kept s₀ s) : Kept s₀ (State.badAccess s wr size m off) := by
  unfold State.badAccess; exact (.errRecord (.raise hk))

end Sys2Proof.Machine
end

