-- ==== Sys2Proof/Laws/KeptTimeBase.lean ====
section
/-!
SUPPORT. What the operations of Machine/TimeBase.lean keep (Laws/Kept.lean).
-/

namespace Sys2Proof.Machine

theorem Kept.ppsPin {s₀ s : State} {active : Bool} (hk : Kept s₀ s) : Kept s₀ (State.ppsPin s active) := by
  unfold State.ppsPin; exact (.emit hk)

theorem Kept.enterHoldover {s₀ s : State}  (hk : Kept s₀ s) : Kept s₀ (State.enterHoldover s) := by
  unfold State.enterHoldover; exact (.wr64 (.wr hk))

theorem Kept.leaveJump {s₀ s : State}  (hk : Kept s₀ s) : Kept s₀ (State.leaveJump s) := by
  unfold State.leaveJump; exact (.ite (.enterHoldover (.mkTb hk)) (.wr (.mkTb hk)))

theorem Kept.recordStep {s₀ s : State} {at_ : Int} {d : Int} (hk : Kept s₀ s) : Kept s₀ (State.recordStep s at_ d) := by
  unfold State.recordStep; exact (.wr (.wr64 (.wr64 hk)))

theorem Kept.ppsApply {s₀ s : State} {v : Word × Word × Word} (hk : Kept s₀ s) : Kept s₀ (State.ppsApply s v) := by
  unfold State.ppsApply; exact (.mkTb (.wr (.wr (.wr (.wr hk)))))

theorem Kept.ppsSetCommit {s₀ s : State}  (hk : Kept s₀ s) : Kept s₀ (State.ppsSetCommit s) := by
  unfold State.ppsSetCommit; exact (.ite hk (.ite (.mkTb (.wr hk)) (.ppsApply hk)))

theorem Kept.ppsBoundary {s₀ s : State}  (hk : Kept s₀ s) : Kept s₀ (State.ppsBoundary s) := by
  unfold State.ppsBoundary; exact (by (split; exacts [(.ppsApply hk), hk]))

theorem Kept.servoToFirmware {s₀ s : State}  (hk : Kept s₀ s) : Kept s₀ (State.servoToFirmware s) := by
  unfold State.servoToFirmware; exact (.wr (.wr (.wr hk)))

theorem Kept.incWrite {s₀ s : State} {m inc : Nat} (hk : Kept s₀ s) : Kept s₀ (State.incWrite s m inc) := by
  unfold State.incWrite; exact (.ite (.inc hk) (.mkTb (.ite (.wr64 hk) (.wr (.wr64 hk)))))

theorem Kept.presentOffset {s₀ s : State} {offs : Int} (hk : Kept s₀ s) : Kept s₀ (State.presentOffset s offs) := by
  unfold State.presentOffset; exact (.ite (.ite (.mkTb (.wr (.inc (.wr (.raise0 hk))))) (.wr (.inc (.wr (.raise0 hk))))) hk)

theorem Kept.residFail {s₀ s : State} {c : Nat} (hk : Kept s₀ s) : Kept s₀ (State.residFail s c) := by
  unfold State.residFail; exact (.mk_ hk)

theorem execShadowMismatch_kept (dt : DWord) (frac : Word) (activeOk shadowOk : Bool) (s : State) : KeptOut s (execShadowMismatch dt frac
    activeOk shadowOk s) := by
  have hk := Kept.refl s
  unfold execShadowMismatch; exact (KeptOut.ite (KeptOut.next (.residFail (.raise0 (.mkTb (.inc hk))))) (KeptOut.ite (KeptOut.next (.residFail
    (.raise0 (.wr (.mkTb (.inc hk)))))) (KeptOut.next (.raise0 (.wr (.mkTb (.inc hk)))))))

theorem execTbIncWrite_kept (m inc : Nat) (s : State) : KeptOut s (execTbIncWrite m inc s) := by
  have hk := Kept.refl s
  unfold execTbIncWrite; exact (KeptOut.next (.busW hk (fun _ k1 => (.incWrite k1))))

theorem Kept.acq {s₀ s : State}  (hk : Kept s₀ s) : Kept s₀ (State.acq s) := by
  unfold State.acq; exact (.ite (.wr hk) hk)

theorem Kept.lockReq {s₀ s : State}  (hk : Kept s₀ s) : Kept s₀ (State.lockReq s) := by
  unfold State.lockReq; exact (.ite (.wr hk) hk)

theorem Kept.holdReq {s₀ s : State}  (hk : Kept s₀ s) : Kept s₀ (State.holdReq s) := by
  unfold State.holdReq; exact (.ite (.enterHoldover hk) hk)

theorem Kept.holdExit {s₀ s : State}  (hk : Kept s₀ s) : Kept s₀ (State.holdExit s) := by
  unfold State.holdExit; exact (.ite (.wr hk) hk)

theorem execAcq_kept (m : Nat) (s : State) : KeptOut s (execAcq m s) := by
  have hk := Kept.refl s
  unfold execAcq; exact (KeptOut.next (.busW hk (fun _ k1 => (.acq k1))))

theorem execLockReq_kept (m : Nat) (s : State) : KeptOut s (execLockReq m s) := by
  have hk := Kept.refl s
  unfold execLockReq; exact (KeptOut.next (.busW hk (fun _ k1 => (.lockReq k1))))

theorem execHoldReq_kept (m : Nat) (s : State) : KeptOut s (execHoldReq m s) := by
  have hk := Kept.refl s
  unfold execHoldReq; exact (KeptOut.next (.busW hk (fun _ k1 => (.holdReq k1))))

theorem execHoldExit_kept (m : Nat) (s : State) : KeptOut s (execHoldExit m s) := by
  have hk := Kept.refl s
  unfold execHoldExit; exact (KeptOut.next (.busW hk (fun _ k1 => (.holdExit k1))))

theorem execPpsCommit_kept (m : Nat) (s : State) : KeptOut s (execPpsCommit m s) := by
  have hk := Kept.refl s
  unfold execPpsCommit; exact (KeptOut.next (.busW hk (fun _ k1 => (.ppsSetCommit k1))))

theorem Kept.measOffset {s₀ s : State} {offs : Nat} (hk : Kept s₀ s) : Kept s₀ (State.measOffset s offs) := by
  unfold State.measOffset; exact (.presentOffset (.wr64 hk))

theorem Kept.measSeq {s₀ s : State} {seq : Nat} (hk : Kept s₀ s) : Kept s₀ (State.measSeq s seq) := by
  unfold State.measSeq; exact (.sendEvent (.wr hk))

theorem execMeasOffsetWrite_kept (m : Nat) (offs : DWord) (s : State) : KeptOut s (execMeasOffsetWrite m offs s) := by
  have hk := Kept.refl s
  unfold execMeasOffsetWrite; exact (KeptOut.next (.busW hk (fun _ k1 => (.measOffset k1))))

theorem execMeasSeqWrite_kept (m : Nat) (seq : Word) (s : State) : KeptOut s (execMeasSeqWrite m seq s) := by
  have hk := Kept.refl s
  unfold execMeasSeqWrite; exact (KeptOut.next (.busW hk (fun _ k1 => (.measSeq k1))))

theorem execSlewComplete_kept  (s : State) : KeptOut s (execSlewComplete s) := by
  have hk := Kept.refl s
  unfold execSlewComplete; exact (KeptOut.next (.ite (.leaveJump hk) hk))

theorem Kept.snap {s₀ s : State}  (hk : Kept s₀ s) : Kept s₀ (State.snap s) := by
  unfold State.snap; exact (.wr (.wr64 hk))

theorem execSnap_kept (m : Nat) (s : State) : KeptOut s (execSnap m s) := by
  have hk := Kept.refl s
  unfold execSnap; exact (KeptOut.next (.busW hk (fun _ k1 => (.snap k1))))

theorem Kept.servoReq {s₀ s : State} {m : Nat} {b : Bool} (hk : Kept s₀ s) : Kept s₀ (State.servoReq s m b) := by
  unfold State.servoReq; exact (.ite hk (.ite (.wr hk) (.servoToFirmware hk)))

theorem execServoRequest_kept (m : Nat) (s : State) : KeptOut s (execServoRequest m s) := by
  have hk := Kept.refl s
  unfold execServoRequest; exact (KeptOut.next (.busW hk (fun _ k1 => (.servoReq k1))))

theorem execServoGrant_kept  (s : State) : KeptOut s (execServoGrant s) := by
  have hk := Kept.refl s
  unfold execServoGrant; exact (KeptOut.next (.ite (.mkTb (.wr (.wr hk))) hk))

theorem execServoReturn_kept (m : Nat) (s : State) : KeptOut s (execServoReturn m s) := by
  have hk := Kept.refl s
  unfold execServoReturn; exact (KeptOut.next (.busW hk (fun _ k1 => (.servoReq k1))))

theorem execServoWatchdogExpiry_kept  (s : State) : KeptOut s (execServoWatchdogExpiry s) := by
  have hk := Kept.refl s
  unfold execServoWatchdogExpiry; exact (KeptOut.next (.ite (.raise0 (.servoToFirmware hk)) hk))

theorem execPpsOutEdge_kept  (s : State) : KeptOut s (execPpsOutEdge s) := by
  have hk := Kept.refl s
  unfold execPpsOutEdge; exact (KeptOut.next (.ite (.ppsPin (.mkTb (.ppsBoundary hk))) hk))

theorem execPpsInEdge_kept (e : PinEdge) (s : State) : KeptOut s (execPpsInEdge e s) := by
  have hk := Kept.refl s
  unfold execPpsInEdge; exact (KeptOut.next (.ite (.ite (.inc (.mkTb (.wr (.wr64 hk)))) (.condEnd (.wr (.mkTb (.wr (.wr64 hk)))))) hk))

theorem execPpsInLoss_kept  (s : State) : KeptOut s (execPpsInLoss s) := by
  have hk := Kept.refl s
  unfold execPpsInLoss; exact (KeptOut.next (.ite (.mkTb (.onset (.wr (.inc hk)))) hk))

theorem execTinEdge_kept (pin : Fin 2) (rising : Bool) (quarter : Fin 8) (s : State) : KeptOut s (execTinEdge pin rising quarter s) := by
  have hk := Kept.refl s
  unfold execTinEdge; exact (KeptOut.ite (KeptOut.next (.ite (.ite (.raise (.inc (.mkTb hk))) (.mkTb (.mkTb hk))) hk)) (KeptOut.next (.ite
    (.ite (.raise (.inc (.mkTb hk))) (.mkTb (.mkTb hk))) hk)))

theorem Kept.latch {s₀ s : State} {m off : Nat} {v : Word} (hk : Kept s₀ s) : Kept s₀ (State.latch s m off v) := by
  unfold State.latch; exact (.mk_ hk)

theorem Kept.tinPop {s₀ s : State} {m pin : Nat} (hk : Kept s₀ s) : Kept s₀ (State.tinPop s m pin) := by
  unfold State.tinPop; exact (.ite (.mkTb (.mk_ (.latch (.latch hk)))) (.mkTb (.mk_ (.latch (.latch hk)))))

theorem execTinFifoPop_kept (m : Nat) (pin : Fin 2) (s : State) : KeptOut s (execTinFifoPop m pin s) := by
  have hk := Kept.refl s
  unfold execTinFifoPop; exact (KeptOut.next (.busR hk (fun _ k1 => (.tinPop k1))))

theorem Kept.flwUnlock {s₀ s : State}  (hk : Kept s₀ s) : Kept s₀ (State.flwUnlock s) := by
  unfold State.flwUnlock; exact (.ite (.mkTb (.onset (.inc (.wr hk)))) hk)

theorem execFollowerMarkerTimeout_kept  (s : State) : KeptOut s (execFollowerMarkerTimeout s) := by
  have hk := Kept.refl s
  unfold execFollowerMarkerTimeout; exact (KeptOut.next (.ite (.flwUnlock hk) hk))

theorem execFuTimeout_kept (dirB : Bool) (s : State) : KeptOut s (execFuTimeout dirB s) := by
  have hk := Kept.refl s
  unfold execFuTimeout; exact (by (split; exacts [(KeptOut.next hk), (KeptOut.next (.ite (.ite (.mkTb (.inc hk)) (.mkTb (.inc hk))) hk))]))

end Sys2Proof.Machine
end

