-- ==== Sys2Proof/Laws/KeptQueues.lean ====
section
/-!
SUPPORT. What the operations of Machine/Queues.lean keep (Laws/Kept.lean).
-/

namespace Sys2Proof.Machine

theorem Kept.yieldTo {s₀ s : State} {h y : Nat} (hk : Kept s₀ s) : Kept s₀ (State.yieldTo s h y) := by
  unfold State.yieldTo; exact (.ite hk (.ite (.mk_ (.raise0 (.wr64 (.wr (.wr (.inc hk)))))) (.inc hk)))

theorem Kept.setSq {s₀ s : State} {q : Nat} {v : Sq} (hk : Kept s₀ s) : Kept s₀ (State.setSq s q v) := by
  unfold State.setSq; exact (.mk_ hk)

theorem Kept.setCq {s₀ s : State} {q : Nat} {v : Cq} (hk : Kept s₀ s) : Kept s₀ (State.setCq s q v) := by
  unfold State.setCq; exact (.mk_ hk)

theorem Kept.cqMessage {s₀ s : State} {c : Nat} (hk : Kept s₀ s) : Kept s₀ (State.cqMessage s c) := by
  unfold State.cqMessage; exact (.ite (.setCq hk) (.msix (.setCq hk)))

theorem Kept.cqModerate {s₀ s : State} {c : Nat} (hk : Kept s₀ s) : Kept s₀ (State.cqModerate s c) := by
  unfold State.cqModerate; exact (.ite (.cqMessage hk) hk)

theorem Kept.cqEvent {s₀ s : State} {c : Nat} (hk : Kept s₀ s) : Kept s₀ (State.cqEvent s c) := by
  unfold State.cqEvent; exact (.ite (.cqModerate (.setCq hk)) hk)

theorem Kept.cqWrite {s₀ s : State} {c : Nat} {data : List Byte} (hk : Kept s₀ s) : Kept s₀ (State.cqWrite s c data) := by
  unfold State.cqWrite; exact (.ite (.setCq (.wr (.toHost hk))) (.wr (.toHost hk)))

theorem Kept.post {s₀ s : State} {rank q rung : Nat} {e : Cqe} (hk : Kept s₀ s) : Kept s₀ (State.post s rank q rung e) := by
  unfold State.post; exact (.mk_ hk)

theorem Kept.fold {s₀ s : State} {c rung : Nat} (hk : Kept s₀ s) : Kept s₀ (State.fold s c rung) := by
  unfold State.fold; exact (.cqEvent (.ite (.yieldTo (.ite (.raise (.inc (.inc hk))) (.inc (.inc hk)))) (.ite (.raise (.inc (.inc hk))) (.inc
    (.inc hk)))))

theorem Kept.enter {s₀ s : State} {c rung rsv : Nat} {e : Cqe} (hk : Kept s₀ s) : Kept s₀ (State.enter s c rung rsv e) := by
  unfold State.enter; exact (.ite (.cqEvent (.cqWrite (.wr hk))) (.fold hk))

theorem Kept.enterAll {r : State} : ∀ {l : List Due} {s : State}, Kept r s → Kept r (s.enterAll l)
  | [], _, h => h
  | _ :: _, _, h => by
    simp only [State.enterAll]
    exact .enterAll (.enter h)

theorem Kept.cqFlush {s₀ s : State}  (hk : Kept s₀ s) : Kept s₀ (State.cqFlush s) := by
  unfold State.cqFlush; exact (.enterAll (.mk_ hk))

theorem Kept.syncHead {s₀ s : State} {q : Nat} (hk : Kept s₀ s) : Kept s₀ (State.syncHead s q) := by
  unfold State.syncHead; exact (.wr hk)

theorem Kept.postJob {s₀ s : State} {q : Nat} {j : Job} {e : JobEnd} {extraFlags info : Nat} (hk : Kept s₀ s) : Kept s₀ (State.postJob s q j
    e extraFlags info) := by
  unfold State.postJob; exact (.ite hk (.post hk))

theorem Kept.updJob {s₀ s : State} {q p : Nat} {f : Job → Job} (hk : Kept s₀ s) : Kept s₀ (State.updJob s q p f) := by
  unfold State.updJob; exact (.setSq hk)

theorem Kept.startJob {s₀ s : State} {q p : Nat} (hk : Kept s₀ s) : Kept s₀ (State.startJob s q p) := by
  unfold State.startJob; exact (.syncHead (.updJob hk))

theorem Kept.queueEvent {s₀ s : State} {q status : Nat} (hk : Kept s₀ s) : Kept s₀ (State.queueEvent s q status) := by
  unfold State.queueEvent; exact (.ite hk (.post hk))

theorem Kept.forget {s₀ s : State} {q : Nat} {gone : List Job} (hk : Kept s₀ s) : Kept s₀ (State.forget s q gone) := by
  unfold State.forget; exact (.setSq hk)

theorem Kept.finishBatch {s₀ s : State} {q : Nat} {b : List Job} (hk : Kept s₀ s) : Kept s₀ (State.finishBatch s q b) := by
  unfold State.finishBatch; exact (by (split; exacts [(.ite (.forget (.postJob hk)) hk), hk]))

theorem Kept.finishJob {s₀ s : State} {q p : Nat} {e : JobEnd} (hk : Kept s₀ s) : Kept s₀ (State.finishJob s q p e) := by
  unfold State.finishJob; exact (by ((try dsimp only); split; exacts [(.syncHead (.updJob hk)), (.ite (.forget (.postJob (.syncHead (.updJob
    hk)))) (.ite (.finishBatch (.ite (.postJob (.syncHead (.updJob hk))) (.syncHead (.updJob hk)))) (.ite (.postJob (.syncHead (.updJob
    hk))) (.syncHead (.updJob hk)))))]))

theorem Kept.postTaDone {s₀ s : State} {q pos tag index status : Nat} {lateSeen : Bool} (hk : Kept s₀ s) : Kept s₀ (State.postTaDone s q pos
    tag index status lateSeen) := by
  unfold State.postTaDone; exact (.post hk)

end Sys2Proof.Machine
end

