-- ==== Sys2Proof/Laws/KeptGrist.lean ====
section
/-!
SUPPORT. What the operations of Machine/Grist.lean keep (Laws/Kept.lean).
-/

namespace Sys2Proof.Machine

theorem Kept.setChain {s₀ s : State} {c : Nat} {v : Option Chain} (hk : Kept s₀ s) : Kept s₀ (State.setChain s c v) := by
  unfold State.setChain; exact (.mk_ hk)

theorem Kept.cellFailed {s₀ s : State} {m : Nat} {r : CellFail} (hk : Kept s₀ s) : Kept s₀ (State.cellFailed s m r) := by
  unfold State.cellFailed; exact (by ((try dsimp only); split; exacts [(.inc (.inc hk)), (.raise (.inc (.inc hk))), (.raise (.inc (.inc
    hk)))]))

theorem Kept.takeCell {s₀ s : State} {m q : Nat} (hk : Kept s₀ s) : Kept s₀ (State.takeCell s m q) := by
  unfold State.takeCell; exact (.ite (.wr (.wr (.inc (.wr hk)))) (.wr (.inc (.wr hk))))

theorem Kept.traceDecision {s₀ s : State} {kind reason choice subject : Nat} (hk : Kept s₀ s) : Kept s₀ (State.traceDecision s kind reason
    choice subject) := by
  unfold State.traceDecision; exact (.ite (.ite (.wr (.inc hk)) (.ite (.wr (.wr (.wr (.mk_ hk)))) (.wr (.wr (.mk_ hk))))) hk)

theorem Kept.noChoice {s₀ s : State} {kind subject : Nat} (hk : Kept s₀ s) : Kept s₀ (State.noChoice s kind subject) := by
  unfold State.noChoice; exact (.traceDecision (.raise0 (.inc hk)))

theorem Kept.newChain {s₀ s : State} {m q : Nat} (hk : Kept s₀ s) : Kept s₀ (State.newChain s m q).1 := by
  unfold State.newChain; exact (by ((try dsimp only); exact (.setChain (.inc (.takeCell hk)))))

theorem Kept.firstCell {s₀ s : State} {r : ChainReq} (hk : Kept s₀ s) : Kept s₀ (State.firstCell s r).1 := by
  unfold State.firstCell; exact (by ((try dsimp only); split; exacts [(by ((try dsimp only); exact (.traceDecision (.ite (.inc (.newChain hk))
    (.newChain hk))))), (.itePair (by (split; exacts [(by ((try dsimp only); exact (.traceDecision (.inc (.newChain (.cellFailed hk)))))),
    (.traceDecision (.cellFailed (.cellFailed hk)))])) (by ((try dsimp only); exact (.ite (.noChoice (.traceDecision (.cellFailed hk)))
    (.traceDecision (.cellFailed hk))))))]))

theorem Kept.nextCell {s₀ s : State} {c : Nat} (hk : Kept s₀ s) : Kept s₀ (State.nextCell s c).1 := by
  unfold State.nextCell; exact (by (split; exacts [hk, (by (split; exacts [(by ((try dsimp only); exact (.setChain (.takeCell hk)))),
    (.cellFailed hk)]))]))

theorem Kept.freeChain {s₀ s : State} {c : Nat} (hk : Kept s₀ s) : Kept s₀ (State.freeChain s c) := by
  unfold State.freeChain; exact (by (split; exacts [hk, (.ite (.ite (.mk_ (.add (.wr (.setChain hk)))) (.wr (.add (.wr (.setChain hk)))))
    (.ite (.mk_ (.add (.wr (.setChain hk)))) (.wr (.add (.wr (.setChain hk))))))]))

theorem Kept.holdErr {s₀ s : State} {cause op m c : Nat} (hk : Kept s₀ s) : Kept s₀ (State.holdErr s cause op m c) := by
  unfold State.holdErr; exact (.raise (.wr (.wr (.wr (.wr (.wr (.inc hk)))))))

theorem Kept.releaseHold {s₀ s : State} {c m : Nat} (hk : Kept s₀ s) : Kept s₀ (State.releaseHold s c m) := by
  unfold State.releaseHold; exact (by (split; exacts [(.holdErr hk), (.ite (.ite (.freeChain hk) (.setChain hk)) (.holdErr hk))]))

theorem Kept.shareHold {s₀ s : State} {c m n : Nat} (hk : Kept s₀ s) : Kept s₀ (State.shareHold s c m n) := by
  unfold State.shareHold; exact (by (split; exacts [(.holdErr hk), (.ite (.holdErr hk) (.ite hk (.ite (.inc hk) (.setChain hk))))]))

theorem Kept.holdApply {s₀ s : State} {y0 : HoldOp} (hk : Kept s₀ s) : Kept s₀ (State.holdApply s y0) := by
  unfold State.holdApply; exact (by (split; exacts [(.shareHold hk), (.releaseHold hk)]))

theorem Kept.holdFlush {s₀ s : State}  (hk : Kept s₀ s) : Kept s₀ (State.holdFlush s) := by
  unfold State.holdFlush; exact (.foldl (.mk_ hk) (fun _ _ k1 => (.holdApply k1)) _)

theorem Kept.holdOp {s₀ s : State} {o : HoldOp} (hk : Kept s₀ s) : Kept s₀ (State.holdOp s o) := by
  unfold State.holdOp; exact (.mk_ hk)

theorem Kept.walkRelease {s₀ s0 : State} {m : Nat} (hk : Kept s₀ s0) : Kept s₀ (State.walkRelease s0 m) := by
  unfold State.walkRelease; exact (.foldl (.holdFlush hk) (fun _ _ k1 => (.inc (.releaseHold k1))) _)

theorem Kept.moreCells {r : State} {c : Nat} : ∀ {n : Nat} {s : State}, Kept r s → Kept r (s.moreCells c n).1
  | 0, _, h => h
  | n + 1, s, h => by
    simp only [State.moreCells]
    exact .itePair (.moreCells (.nextCell h)) (.nextCell h)

theorem Kept.storeChain {s₀ s : State} {r : ChainReq} {data : List Byte} (hk : Kept s₀ s) : Kept s₀ (State.storeChain s r data).1 := by
  unfold State.storeChain; exact (by (split; exacts [(by (rename_i hq; have e := congrArg Prod.fst hq; dsimp only at e; subst e; exact
    (.firstCell hk))), (by (rename_i hq; have e := congrArg Prod.fst hq; dsimp only at e; subst e; exact (.itePair (by (split; exacts
    [(.setChain (.moreCells (.firstCell hk))), (.moreCells (.firstCell hk))])) (.freeChain (.moreCells (.firstCell hk))))))]))

theorem Kept.reqServe {s₀ s : State} {y0 : CellReq} (hk : Kept s₀ s) : Kept s₀ (State.reqServe s y0) := by
  unfold State.reqServe; exact (by (split; exacts [(.firstCell hk), (.nextCell hk)]))

theorem Kept.afterGrant {r : State} : ∀ {l : List CellReq} {s : State}, Kept r s → Kept r (s.afterGrant l)
  | [], _, h => h
  | _ :: _, _, h => by
    simp only [State.afterGrant]
    exact .ite (.afterGrant (.inc (.reqServe h))) (.afterGrant h)

theorem Kept.allocCycle {r : State} : ∀ {l : List CellReq} {s : State}, Kept r s → Kept r (s.allocCycle l)
  | [], _, h => h
  | _ :: _, _, h => by
    simp only [State.allocCycle]
    exact .ite (.allocCycle (.reqServe h)) (.afterGrant (.reqServe h))

theorem execCellAlloc_kept (reqs : List CellReq) (s : State) : KeptOut s (execCellAlloc reqs s) := by
  have hk := Kept.refl s
  unfold execCellAlloc; exact (KeptOut.next (.allocCycle hk))

theorem execChainAppend_kept (c m : Nat) (data : List Byte) (s : State) : KeptOut s (execChainAppend c m data s) := by
  have hk := Kept.refl s
  unfold execChainAppend; exact (by (split; exacts [(KeptOut.next hk), (KeptOut.next (.ite (.ite (by (split; exacts [(.setChain (.nextCell
    hk)), (.nextCell hk)])) (.nextCell hk)) hk))]))

theorem execChainComplete_kept (c m : Nat) (s : State) : KeptOut s (execChainComplete c m s) := by
  have hk := Kept.refl s
  unfold execChainComplete; exact (by (split; exacts [(KeptOut.next hk), (KeptOut.next (.ite (.setChain hk) hk))]))

theorem execChainAbort_kept (c m : Nat) (s : State) : KeptOut s (execChainAbort c m s) := by
  have hk := Kept.refl s
  unfold execChainAbort; exact (by (split; exacts [(KeptOut.next hk), (KeptOut.next (.ite (.setChain hk) hk))]))

theorem execShare_kept (c m n : Nat) (s : State) : KeptOut s (execShare c m n s) := by
  have hk := Kept.refl s
  unfold execShare; exact (KeptOut.next (.holdOp hk))

theorem execRelease_kept (c m : Nat) (s : State) : KeptOut s (execRelease c m s) := by
  have hk := Kept.refl s
  unfold execRelease; exact (KeptOut.next (.holdOp hk))

theorem execCellWipeDone_kept (pool : Fin 2) (s : State) : KeptOut s (execCellWipeDone pool s) := by
  have hk := Kept.refl s
  unfold execCellWipeDone; exact (KeptOut.ite (by (split; exacts [(KeptOut.next hk), (KeptOut.next (.wr (.mk_ hk)))])) (by (split; exacts
    [(KeptOut.next hk), (KeptOut.next (.wr (.mk_ hk)))])))

theorem Kept.grCfgErr {s₀ s : State} {code : Nat} (hk : Kept s₀ s) : Kept s₀ (State.grCfgErr s code) := by
  unfold State.grCfgErr; exact (.raise0 (.wr (.wr hk)))

theorem Kept.quotaWrite {s₀ s : State} {isMax : Bool} {q who value : Nat} (hk : Kept s₀ s) : Kept s₀ (State.quotaWrite s isMax q who value)
    := by
  unfold State.quotaWrite; exact (.ite (.grCfgErr hk) (.ite (.wr hk) (.ite (.grCfgErr hk) (.wr hk))))

theorem execQuotaWrite_kept (m : Nat) (isMax : Bool) (pool : Fin 2) (who value : Nat) (s : State) : KeptOut s (execQuotaWrite m isMax pool
    who value s) := by
  have hk := Kept.refl s
  unfold execQuotaWrite; exact (KeptOut.next (.busAdm hk (fun _ k1 => (.quotaWrite k1))))

theorem Kept.pool1Write {s₀ s : State} {units : Nat} (hk : Kept s₀ s) : Kept s₀ (State.pool1Write s units) := by
  unfold State.pool1Write; exact (.ite (.grCfgErr hk) (.wr (.wr hk)))

theorem Kept.pool1Size {s₀ s : State} {m units : Nat} (hk : Kept s₀ s) : Kept s₀ (State.pool1Size s m units) := by
  unfold State.pool1Size; exact (.ite (.ite hk (.cfgWhileRunning hk)) (.pool1Write hk))

theorem execPool1SizeWrite_kept (m units : Nat) (s : State) : KeptOut s (execPool1SizeWrite m units s) := by
  have hk := Kept.refl s
  unfold execPool1SizeWrite; exact (KeptOut.next (.busAdm hk (fun _ k1 => (.pool1Size k1))))

theorem Kept.traceClear {s₀ s : State}  (hk : Kept s₀ s) : Kept s₀ (State.traceClear s) := by
  unfold State.traceClear; exact (.wr (.wr (.wr (.mk_ hk))))

theorem execTraceClear_kept (m : Nat) (s : State) : KeptOut s (execTraceClear m s) := by
  have hk := Kept.refl s
  unfold execTraceClear; exact (KeptOut.next (.busW hk (fun _ k1 => (.traceClear k1))))

end Sys2Proof.Machine
end

