-- ==== Sys2Proof/Laws/KeptKiln.lean ====
section
/-!
SUPPORT. What the operations of Machine/Kiln.lean keep (Laws/Kept.lean).
-/

namespace Sys2Proof.Machine

theorem Kept.setKnPort {s₀ s : State} {p : Nat} {v : KnPort} (hk : Kept s₀ s) : Kept s₀ (State.setKnPort s p v) := by
  unfold State.setKnPort; exact (.mk_ hk)

theorem Kept.setPending {s₀ s : State} {p : Nat} {b : Bool} (hk : Kept s₀ s) : Kept s₀ (State.setPending s p b) := by
  unfold State.setPending; exact (.wr (.wr hk))

theorem Kept.setHold {s₀ s : State} {p : Nat} {b : Bool} (hk : Kept s₀ s) : Kept s₀ (State.setHold s p b) := by
  unfold State.setHold; exact (.wr (.wr hk))

theorem Kept.setGates {s₀ s : State} {p states : Nat} (hk : Kept s₀ s) : Kept s₀ (State.setGates s p states) := by
  unfold State.setGates; exact (.setKnPort (.wr hk))

theorem Kept.requiet {s₀ s : State} {p : Nat} (hk : Kept s₀ s) : Kept s₀ (State.requiet s p) := by
  unfold State.requiet; exact (by ((try dsimp only); split; exacts [(.setKnPort hk), hk]))

theorem Kept.shortCount {s₀ s : State} {p : Nat} {b : Bool} (hk : Kept s₀ s) : Kept s₀ (State.shortCount s p b) := by
  unfold State.shortCount; exact (.ite (.inc hk) hk)

theorem Kept.cycleEnds {s₀ s : State} {p : Nat} (hk : Kept s₀ s) : Kept s₀ (State.cycleEnds s p) := by
  unfold State.cycleEnds; exact (.ite (.shortCount hk) hk)

theorem Kept.applyEntry {s₀ s : State} {p : Nat} {k : Int} {i : Nat} {t : Int} (hk : Kept s₀ s) : Kept s₀ (State.applyEntry s p k i t) := by
  unfold State.applyEntry; exact (.setKnPort (.ite (.inc (.wr (.wr (.wr (.ite (.cycleEnds hk) hk))))) (.wr (.wr (.wr (.ite (.cycleEnds hk)
    hk))))))

theorem Kept.reepAnchor {s₀ s : State} {p : Nat} {at_ : Int} (hk : Kept s₀ s) : Kept s₀ (State.reepAnchor s p at_) := by
  unfold State.reepAnchor; exact (by (split; exacts [hk, (.ite (.mkTb hk) hk)]))

theorem Kept.gateSet {s₀ s : State} {p : Nat} {b : Bool} (hk : Kept s₀ s) : Kept s₀ (State.gateSet s p b) := by
  unfold State.gateSet; exact (.ite (.setGates (.setKnPort hk)) (.reepAnchor (.setHold (.setGates (.setPending (.setKnPort (.cycleEnds
    hk)))))))

theorem Kept.gateWrite {s₀ s : State} {p : Nat} {b : Bool} (hk : Kept s₀ s) : Kept s₀ (State.gateWrite s p b) := by
  unfold State.gateWrite; exact (.ite (.wr hk) (.gateSet (.wr hk)))

theorem Kept.adminRej {s₀ s : State} {p : Nat} (hk : Kept s₀ s) : Kept s₀ (State.adminRej s p) := by
  unfold State.adminRej; exact (.raise (.inc hk))

theorem Kept.cfgChange {s₀ s : State} {p : Nat} (hk : Kept s₀ s) : Kept s₀ (State.cfgChange s p) := by
  unfold State.cfgChange; exact (.ite (.adminRej (.wr (.wr hk))) (.ite (.raise (.wr (.wr hk))) (.reepAnchor (.requiet (.setKnPort (.wr64
    (.setPending hk)))))))

theorem Kept.cfgAbort {s₀ s : State} {p : Nat} (hk : Kept s₀ s) : Kept s₀ (State.cfgAbort s p) := by
  unfold State.cfgAbort; exact (.ite (.reepAnchor (.requiet (.setKnPort (.setPending hk)))) (.inc hk))

theorem Kept.newCycles {s₀ s : State} {p : Nat} (hk : Kept s₀ s) : Kept s₀ (State.newCycles s p) := by
  unfold State.newCycles; exact (.ite hk (.mk_ hk))

theorem Kept.cctExchange {s₀ s0 : State} {p : Nat} (hk : Kept s₀ s0) : Kept s₀ (State.cctExchange s0 p) := by
  unfold State.cctExchange; exact (.ite (.ite (.reepAnchor (.applyEntry (.setKnPort (.wr (.wr (.wr (.wr64 (.mk_ (.wr (.inc (.setPending
    (.shortCount (.cycleEnds (.newCycles hk)))))))))))))) (.gateSet (.setKnPort (.wr (.wr (.wr (.wr64 (.mk_ (.wr (.inc (.setPending
    (.shortCount (.cycleEnds (.newCycles hk)))))))))))))) (.setKnPort (.wr (.wr (.wr (.wr64 (.mk_ (.wr (.inc (.setPending (.shortCount
    (.cycleEnds (.newCycles hk)))))))))))))

theorem execGateEntryStart_kept (p : Fin 10) (s : State) : KeptOut s (execGateEntryStart p s) := by
  have hk := Kept.refl s
  unfold execGateEntryStart; exact (KeptOut.next (.ite (by (split; exacts [(.ite (.applyEntry hk) (.gateSet hk)), (.gateSet hk), (.ite
    (.applyEntry hk) (by (split; exacts [(.ite (.setKnPort hk) hk), hk]))), hk])) hk))

theorem execGateEnWrite_kept (m : Nat) (p : Fin 10) (b : Bool) (s : State) : KeptOut s (execGateEnWrite m p b s) := by
  have hk := Kept.refl s
  unfold execGateEnWrite; exact (KeptOut.next (.busW hk (fun _ k1 => (.gateWrite k1))))

theorem execListStart_kept (p : Fin 10) (s : State) : KeptOut s (execListStart p s) := by
  have hk := Kept.refl s
  unfold execListStart; exact (KeptOut.next (by (split; exacts [(.ite (.reepAnchor (.applyEntry hk)) hk), hk])))

theorem execCfgChange_kept (m : Nat) (p : Fin 10) (s : State) : KeptOut s (execCfgChange m p s) := by
  have hk := Kept.refl s
  unfold execCfgChange; exact (KeptOut.next (.busW hk (fun _ k1 => (.cfgChange k1))))

theorem execConfigChangeTime_kept (p : Fin 10) (s : State) : KeptOut s (execConfigChangeTime p s) := by
  have hk := Kept.refl s
  unfold execConfigChangeTime; exact (KeptOut.next (.ite (.cctExchange hk) hk))

theorem execAdminCopyDone_kept (p : Fin 10) (s : State) : KeptOut s (execAdminCopyDone p s) := by
  have hk := Kept.refl s
  unfold execAdminCopyDone; exact (KeptOut.next (.ite (.mk_ (.wr hk)) hk))

theorem execCfgAbort_kept (m : Nat) (p : Fin 10) (s : State) : KeptOut s (execCfgAbort m p s) := by
  have hk := Kept.refl s
  unfold execCfgAbort; exact (KeptOut.next (.busW hk (fun _ k1 => (.cfgAbort k1))))

theorem execFieldGateEventSend_kept (n : Fin 8) (s : State) : KeptOut s (execFieldGateEventSend n s) := by
  have hk := Kept.refl s
  unfold execFieldGateEventSend; exact (KeptOut.next (.ite (by (split; exacts [(.ite (.setKnPort hk) hk), hk])) hk))

theorem execFieldGateEventApply_kept (n : Fin 8) (s : State) : KeptOut s (execFieldGateEventApply n s) := by
  have hk := Kept.refl s
  unfold execFieldGateEventApply; exact (KeptOut.next (by (split; exacts [hk, (.ite (.inc (.setKnPort hk)) hk)])))

theorem Kept.gatesNow {s₀ s : State} {p : Nat} (hk : Kept s₀ s) : Kept s₀ (State.gatesNow s p) := by
  unfold State.gatesNow; exact (by ((try dsimp only); split; exacts [(.ite (.setHold (.add (.setKnPort hk))) (.add (.setKnPort hk))), (.add
    (.setKnPort hk))]))

theorem Kept.flwGates {s₀ s : State}  (hk : Kept s₀ s) : Kept s₀ (State.flwGates s) := by
  unfold State.flwGates; exact (.foldl hk (fun _ _ k1 => (.gatesNow k1)) _)

theorem execFollowerMarker_kept (err : Int) (s : State) : KeptOut s (execFollowerMarker err s) := by
  have hk := Kept.refl s
  unfold execFollowerMarker; exact (KeptOut.ite (KeptOut.next hk) (KeptOut.ite (KeptOut.ite (KeptOut.ite (KeptOut.next (.flwUnlock (.wr (.mkTb
    hk)))) (KeptOut.next (.mkTb (.wr (.mkTb hk))))) (KeptOut.next (.mkTb (.wr (.mkTb hk))))) (KeptOut.next (.mkTb (.flwGates (.condEnd (.wr
    (.wr (.mkTb hk)))))))))

theorem Kept.setSg {s₀ s : State} {g : Nat} {v : Sg} (hk : Kept s₀ s) : Kept s₀ (State.setSg s g v) := by
  unfold State.setSg; exact (.mk_ hk)

theorem Kept.sgStat {s₀ s : State} {g code : Nat} (hk : Kept s₀ s) : Kept s₀ (State.sgStat s g code) := by
  unfold State.sgStat; exact (.wr (.wr hk))

theorem Kept.sgEnable {s₀ s : State} {g : Nat} (hk : Kept s₀ s) : Kept s₀ (State.sgEnable s g) := by
  unfold State.sgEnable; exact (.ite (.sgStat hk) (.setSg (.sgStat hk)))

theorem Kept.sgPush {s₀ s : State} {g : Nat} {t : Int} {e : Option Nat} (hk : Kept s₀ s) : Kept s₀ (State.sgPush s g t e) := by
  unfold State.sgPush; exact (.setSg hk)

theorem Kept.sgSettle {s₀ s : State} {g : Nat} {t : Int} (hk : Kept s₀ s) : Kept s₀ (State.sgSettle s g t) := by
  unfold State.sgSettle; exact (by (split; exacts [(.ite (.sgPush hk) hk), hk]))

theorem Kept.sgDisable {s₀ s : State} {g : Nat} (hk : Kept s₀ s) : Kept s₀ (State.sgDisable s g) := by
  unfold State.sgDisable; exact (.setSg (.sgStat (.sgPush (.sgSettle hk))))

theorem Kept.sgRun {s₀ s : State} {was : Bool} (hk : Kept s₀ s) : Kept s₀ (State.sgRun s was) := by
  unfold State.sgRun; exact (.ite hk (.foldl hk (fun _ _ k1 => (.ite (by (split; exacts [(.ite (.sgPush k1) k1), k1])) (.sgPush
    (by (split; exacts [(.sgPush k1), k1]))))) _))

theorem Kept.sgChange {s₀ s : State} {g : Nat} (hk : Kept s₀ s) : Kept s₀ (State.sgChange s g) := by
  unfold State.sgChange; exact (.ite (.raise0 (.inc (.wr (.sgStat hk)))) (.ite (.raise0 (.wr (.sgStat hk))) (.setSg (.sgStat hk))))

theorem Kept.sgAbort {s₀ s : State} {g : Nat} (hk : Kept s₀ s) : Kept s₀ (State.sgAbort s g) := by
  unfold State.sgAbort; exact (.ite (.setSg (.sgStat hk)) (.inc (.sgStat hk)))

theorem execSgEnable_kept (m : Nat) (g : BitVec 10) (s : State) : KeptOut s (execSgEnable m g s) := by
  have hk := Kept.refl s
  unfold execSgEnable; exact (KeptOut.next (.busW hk (fun _ k1 => (.sgEnable k1))))

theorem execSgDisable_kept (m : Nat) (g : BitVec 10) (s : State) : KeptOut s (execSgDisable m g s) := by
  have hk := Kept.refl s
  unfold execSgDisable; exact (KeptOut.next (.busW hk (fun _ k1 => (.sgDisable k1))))

theorem execSgCfgChange_kept (m : Nat) (g : BitVec 10) (s : State) : KeptOut s (execSgCfgChange m g s) := by
  have hk := Kept.refl s
  unfold execSgCfgChange; exact (KeptOut.next (.busW hk (fun _ k1 => (.sgChange k1))))

theorem execSgAbort_kept (m : Nat) (g : BitVec 10) (s : State) : KeptOut s (execSgAbort m g s) := by
  have hk := Kept.refl s
  unfold execSgAbort; exact (KeptOut.next (.busW hk (fun _ k1 => (.sgAbort k1))))

theorem execSgCct_kept (g : BitVec 10) (s : State) : KeptOut s (execSgCct g s) := by
  have hk := Kept.refl s
  unfold execSgCct; exact (KeptOut.next (.ite (.setSg (.mk_ (.sgSettle hk))) hk))

theorem execStreamGateEvent_kept (g : BitVec 10) (s : State) : KeptOut s (execStreamGateEvent g s) := by
  have hk := Kept.refl s
  unfold execStreamGateEvent; exact (KeptOut.next (.ite hk (by (split; exacts [(.ite (.ite (.raise0 (.inc (.mk_ (.setSg (.sgPush hk))))) (.mk_
    (.setSg (.sgPush hk)))) hk), (.ite (by (split; exacts [(.ite (.ite (.raise0 (.inc (.mk_ (.setSg (.sgPush hk))))) (.mk_ (.setSg (.sgPush
    hk)))) hk), hk])) hk)]))))

theorem Kept.knStore {s₀ s : State} {w : Nat} (hk : Kept s₀ s) : Kept s₀ (State.knStore s w) := by
  unfold State.knStore; exact (by ((try dsimp only); split; exacts [(.ite (.wr hk) (.ite (.adminRej hk) (.mk_ hk))), (.ite (.inc hk) (.mk_
    hk)), (.ite (.wr hk) (.ite (.setSg (.mk_ hk)) (.mk_ hk))), (.wr hk)]))

theorem Kept.knMdata {s₀ s : State} {m hi : Nat} (hk : Kept s₀ s) : Kept s₀ (State.knMdata s m hi) := by
  unfold State.knMdata; exact (.winWrite hk (fun _ _ k1 => (.knStore k1)))

theorem execKnMdataWrite_kept (m : Nat) (hi : Word) (s : State) : KeptOut s (execKnMdataWrite m hi s) := by
  have hk := Kept.refl s
  unfold execKnMdataWrite; exact (KeptOut.next (.busW hk (fun _ k1 => (.knMdata k1))))

theorem Kept.setTa {s₀ s : State} {i : Nat} {v : Option Ta} (hk : Kept s₀ s) : Kept s₀ (State.setTa s i v) := by
  unfold State.setTa; exact (.mk_ hk)

theorem Kept.taSubmit {s₀ s : State} {t : Ta} (hk : Kept s₀ s) : Kept s₀ (State.taSubmit s t).1 := by
  unfold State.taSubmit; exact (.itePair hk (by (split; exacts [(.raise0 hk), (by ((try dsimp only); exact (.mk_ (.wr (.setTa hk)))))])))

theorem Kept.taFreeEntry {s₀ s : State} {i : Nat} {status : Nat} (hk : Kept s₀ s) : Kept s₀ (State.taFreeEntry s i status) := by
  unfold State.taFreeEntry; exact (by (split; exacts [hk, (by ((try dsimp only); split; exacts [(.postTaDone (.wr (.setTa hk))), (.wr (.setTa
    hk))]))]))

theorem Kept.taSubmitReg {s₀ s : State} {m : Nat} (hk : Kept s₀ s) : Kept s₀ (State.taSubmitReg s m) := by
  unfold State.taSubmitReg; exact (by (split; exacts [(by (rename_i hq; have e := congrArg Prod.fst hq; dsimp only at e; subst e; exact (.wr
    (.wr (.wr (.taSubmit hk)))))), (by (rename_i hq; have e := congrArg Prod.fst hq; dsimp only at e; subst e; exact (.wr (.wr (.taSubmit
    hk))))), (by (rename_i hq; have e := congrArg Prod.fst hq; dsimp only at e; subst e; exact (.wr (.wr (.taSubmit hk)))))]))

theorem Kept.taCancelReg {s₀ s : State} {m i : Nat} (hk : Kept s₀ s) : Kept s₀ (State.taCancelReg s m i) := by
  unfold State.taCancelReg; exact (by (split; exacts [(.wr hk), (.ite (.wr (.taFreeEntry hk)) (.wr hk))]))

theorem execTaSubmit_kept (m : Nat) (s : State) : KeptOut s (execTaSubmit m s) := by
  have hk := Kept.refl s
  unfold execTaSubmit; exact (KeptOut.next (.busW hk (fun _ k1 => (.taSubmitReg k1))))

theorem execTaCancel_kept (m : Nat) (i : BitVec 12) (s : State) : KeptOut s (execTaCancel m i s) := by
  have hk := Kept.refl s
  unfold execTaCancel; exact (KeptOut.next (.busW hk (fun _ k1 => (.taCancelReg k1))))

end Sys2Proof.Machine
end

