-- ==== Sys2Proof/Laws/KeptGyle.lean ====
section
/-!
SUPPORT. What the operations of Machine/Gyle.lean keep (Laws/Kept.lean).
-/

namespace Sys2Proof.Machine

theorem Kept.setPoint {s₀ s : State} {p : Nat} {v : Option Point} (hk : Kept s₀ s) : Kept s₀ (State.setPoint s p v) := by
  unfold State.setPoint; exact (.mk_ hk)

theorem Kept.gyCounts {s₀ s : State} {old new : Option Point} (hk : Kept s₀ s) : Kept s₀ (State.gyCounts s old new) := by
  unfold State.gyCounts; exact (.wr (.wr (.wr hk)))

theorem Kept.putPoint {s₀ s : State} {p : Nat} {v : Option Point} (hk : Kept s₀ s) : Kept s₀ (State.putPoint s p v) := by
  unfold State.putPoint; exact (.setPoint (.gyCounts hk))

theorem Kept.heat {s₀ s : State} {p w : Nat} (hk : Kept s₀ s) : Kept s₀ (State.heat s p w) := by
  unfold State.heat; exact (by (split; exacts [hk, (.ite hk (.ite (.mk_ hk) (.ite (.mk_ hk) (by (split; exacts [(.ite (.mk_ hk) hk),
    hk])))))]))

theorem Kept.requestSwap {s₀ s : State} {h c reason : Nat} (hk : Kept s₀ s) : Kept s₀ (State.requestSwap s h c reason) := by
  unfold State.requestSwap; exact (.mk_ (.traceDecision (.traceDecision (.inc (.inc hk)))))

theorem Kept.requestMove {s₀ s : State} {p : Nat} {toHot : Bool} {reason : Nat} (hk : Kept s₀ s) : Kept s₀ (State.requestMove s p toHot
    reason) := by
  unfold State.requestMove; exact (.mk_ (.traceDecision (.inc hk)))

theorem Kept.tryMove {s₀ s : State} {m : Move} (hk : Kept s₀ s) : Kept s₀ (State.tryMove s m) := by
  unfold State.tryMove; exact (.ite hk (.ite (.mk_ hk) (.ite (.mk_ (.inc hk)) (.mk_ hk))))

theorem Kept.tryMoves {s₀ s : State}  (hk : Kept s₀ s) : Kept s₀ (State.tryMoves s) := by
  unfold State.tryMoves; exact (.foldl (.mk_ hk) (fun _ _ k1 => (.tryMove k1)) _)

theorem Kept.pinMoves {s₀ s0 : State} {p pin : Nat} (hk : Kept s₀ s0) : Kept s₀ (State.pinMoves s0 p pin) := by
  unfold State.pinMoves; exact (.ite (.tryMoves (by (split; exacts [(.ite (.requestSwap (.mk_ hk)) (.requestMove (.mk_ hk))), (.requestMove
    (.mk_ hk))]))) (.ite (.tryMoves (.requestMove (.mk_ hk))) (.mk_ hk)))

theorem Kept.definePoint {s₀ s : State} {p maxage pin : Nat} {force mirror : Bool} (hk : Kept s₀ s) : Kept s₀ (State.definePoint s p maxage
    pin force mirror).1 := by
  unfold State.definePoint; exact (.itePair hk (by (split; exacts [hk, (.itePair hk (.pinMoves (.putPoint hk)))])))

theorem Kept.setPointCfg {s₀ s : State} {p maxage pin : Nat} {force : Option Bool} {mirror : Bool} (hk : Kept s₀ s) : Kept s₀
    (State.setPointCfg s p maxage pin force mirror).1 := by
  unfold State.setPointCfg; exact (.itePair hk (by (split; exacts [hk, (.itePair hk (by ((try dsimp only); exact (.pinMoves (.putPoint
    hk)))))])))

theorem Kept.undefinePoint {s₀ s : State} {p : Nat} (hk : Kept s₀ s) : Kept s₀ (State.undefinePoint s p).1 := by
  unfold State.undefinePoint; exact (.itePair hk (by (split; exacts [hk, (.itePair hk (by ((try dsimp only); exact (.mk_ (.putPoint
    hk)))))])))

theorem Kept.viewPut {s₀ s : State} {w : HzWrite} (hk : Kept s₀ s) : Kept s₀ (State.viewPut s w) := by
  unfold State.viewPut; exact (by (split; exacts [(.ite (.mk_ hk) hk), (.mk_ hk)]))

theorem Kept.hzLevel {s₀ s : State}  (hk : Kept s₀ s) : Kept s₀ (State.hzLevel s) := by
  unfold State.hzLevel; exact (.wr hk)

theorem Kept.hzPop {s₀ s : State}  (hk : Kept s₀ s) : Kept s₀ (State.hzPop s) := by
  unfold State.hzPop; exact (by (split; exacts [hk, (.hzLevel (.viewPut (.mk_ hk)))]))

theorem Kept.hzDrain {s₀ s : State}  (hk : Kept s₀ s) : Kept s₀ (State.hzDrain s) := by
  unfold State.hzDrain; exact (.hzLevel (.foldl (.mk_ hk) (fun _ _ k1 => (.viewPut k1)) _))

theorem Kept.hzEnter {s₀ s : State} {w : HzWrite} (hk : Kept s₀ s) : Kept s₀ (State.hzEnter s w) := by
  unfold State.hzEnter; exact (.hzLevel (.mk_ (.ite (.raise0 (.inc (.hzPop hk))) hk)))

theorem Kept.hzLate {s₀ s : State} {k : Key} (hk : Kept s₀ s) : Kept s₀ (State.hzLate s k) := by
  unfold State.hzLate; exact (.ite (.raise0 (.inc hk)) hk)

theorem Kept.mirDirty {s₀ s : State} {p : Nat} (hk : Kept s₀ s) : Kept s₀ (State.mirDirty s p) := by
  unfold State.mirDirty; exact (.mk_ (.ite (.wr (.inc hk)) (.raise0 (.wr (.inc hk)))))

theorem Kept.mirSend {s₀ s : State} {r : MirRec} (hk : Kept s₀ s) : Kept s₀ (State.mirSend s r) := by
  unfold State.mirSend; exact (.ite (.ite (.mk_ hk) (.mirDirty hk)) hk)

theorem Kept.setSub {s₀ s : State} {i : Nat} {v : Option Sub} (hk : Kept s₀ s) : Kept s₀ (State.setSub s i v) := by
  unfold State.setSub; exact (.mk_ hk)

theorem Kept.note {s₀ s : State} {i : Nat} {b : Sub} {p : Point} {reason : Nat} (hk : Kept s₀ s) : Kept s₀ (State.note s i b p reason) := by
  unfold State.note; exact (.mk_ hk)

theorem Kept.evalSub {s₀ s : State} {i : Nat} {b : Sub} {p : Point} (hk : Kept s₀ s) : Kept s₀ (State.evalSub s i b p) := by
  unfold State.evalSub; exact (.ite (.note (.ite (.setSub hk) hk)) (.ite (.setSub hk) hk))

theorem Kept.evalSubs {r : State} {p : Point} : ∀ {n : Nat} {i : Option Nat} {s : State}, Kept r s → Kept r (s.evalSubs p n i)
  | 0, _, _, h => by simpa only [State.evalSubs] using h
  | _ + 1, none, _, h => by simpa only [State.evalSubs] using h
  | n + 1, some i, s, h => by
    simp only [State.evalSubs]
    split
    · exact h
    · exact .evalSubs (.evalSub h)

theorem Kept.postNote {s₀ s : State} {n : Note} (hk : Kept s₀ s) : Kept s₀ (State.postNote s n) := by
  unfold State.postNote; exact (by (split; exacts [hk, (.ite (.cqEvent (.setSub (.inc (.cqWrite (.wr hk))))) (.cqEvent (.raise0 (.inc (.inc
    hk)))))]))

theorem Kept.subscribe {s₀ s : State} {owner p ring mode : Nat} {deadband : DWord} (hk : Kept s₀ s) : Kept s₀ (State.subscribe s owner p
    ring mode deadband).1 := by
  unfold State.subscribe; exact (.itePair hk (.itePair hk (by (split; exacts [(.inc hk), (.itePair hk (.itePair hk
    (by ((try dsimp only); exact (.ite (.note (.wr (.setPoint (.setSub hk)))) (.wr (.setPoint (.setSub hk))))))))]))))

theorem Kept.freeSubEntry {s₀ s : State} {i : Nat} (hk : Kept s₀ s) : Kept s₀ (State.freeSubEntry s i) := by
  unfold State.freeSubEntry; exact (by (split; exacts [hk, (by ((try dsimp only); split; exacts [(.wr (.setSub hk)), (.ite (.setPoint (.wr
    (.setSub hk))) (.mk_ (.wr (.setSub hk))))]))]))

theorem Kept.unsubscribe {s₀ s : State} {owner i : Nat} (hk : Kept s₀ s) : Kept s₀ (State.unsubscribe s owner i).1 := by
  unfold State.unsubscribe; exact (.itePair hk (by (split; exacts [hk, (.itePair (by ((try dsimp only); exact (.freeSubEntry (.foldl (.mk_ hk)
    (fun _ _ k1 => (.postNote k1)) _)))) hk)])))

theorem Kept.freeSubsOf {s₀ s : State} {owner : Nat} (hk : Kept s₀ s) : Kept s₀ (State.freeSubsOf s owner) := by
  unfold State.freeSubsOf; exact (.foldl (.mk_ hk) (fun _ _ k1 => (.freeSubEntry k1)) _)

theorem Kept.keyFor {s₀ s : State} {w : PWrite} (hk : Kept s₀ s) : Kept s₀ (State.keyFor s w).1 := by
  unfold State.keyFor; exact (by (split; exacts [hk, (.mk_ hk)]))

theorem Kept.newest {s₀ s : State} {p : Nat} {k : Key} {mode : Nat} (hk : Kept s₀ s) : Kept s₀ (State.newest s p k mode) := by
  unfold State.newest; exact (.ite (.mk_ hk) hk)

theorem Kept.landed {s₀ s : State} {w : PWrite} {p : Nat} {r : Point} (hk : Kept s₀ s) : Kept s₀ (State.landed s w p r) := by
  unfold State.landed; exact (.ite (.evalSubs (.ite (.ite (.ite (.hzEnter (.ite (.keyFor (.ite (.inc (.heat (.inc hk))) (.heat (.inc hk))))
    (.newest (.keyFor (.ite (.inc (.heat (.inc hk))) (.heat (.inc hk))))))) (.ite (.keyFor (.ite (.inc (.heat (.inc hk))) (.heat (.inc
    hk)))) (.newest (.keyFor (.ite (.inc (.heat (.inc hk))) (.heat (.inc hk))))))) (.mirSend (.ite (.hzEnter (.ite (.keyFor (.ite (.inc
    (.heat (.inc hk))) (.heat (.inc hk)))) (.newest (.keyFor (.ite (.inc (.heat (.inc hk))) (.heat (.inc hk))))))) (.ite (.keyFor (.ite
    (.inc (.heat (.inc hk))) (.heat (.inc hk)))) (.newest (.keyFor (.ite (.inc (.heat (.inc hk))) (.heat (.inc hk))))))))) (.ite (.inc
    (.heat (.inc hk))) (.heat (.inc hk))))) (.ite (.ite (.ite (.hzEnter (.ite (.keyFor (.ite (.inc (.heat (.inc hk))) (.heat (.inc hk))))
    (.newest (.keyFor (.ite (.inc (.heat (.inc hk))) (.heat (.inc hk))))))) (.ite (.keyFor (.ite (.inc (.heat (.inc hk))) (.heat (.inc
    hk)))) (.newest (.keyFor (.ite (.inc (.heat (.inc hk))) (.heat (.inc hk))))))) (.mirSend (.ite (.hzEnter (.ite (.keyFor (.ite (.inc
    (.heat (.inc hk))) (.heat (.inc hk)))) (.newest (.keyFor (.ite (.inc (.heat (.inc hk))) (.heat (.inc hk))))))) (.ite (.keyFor (.ite
    (.inc (.heat (.inc hk))) (.heat (.inc hk)))) (.newest (.keyFor (.ite (.inc (.heat (.inc hk))) (.heat (.inc hk))))))))) (.ite (.inc
    (.heat (.inc hk))) (.heat (.inc hk)))))

theorem Kept.landConfig {s₀ s : State} {w : PWrite} (hk : Kept s₀ s) : Kept s₀ (State.landConfig s w).1 := by
  unfold State.landConfig; exact (by ((try dsimp only); split; exacts [(by (split; exacts [(by (split; exacts [(.definePoint hk),
    (.setPointCfg hk)])), (by (split; exacts [(.itePair (.ite (.newest (by (split; exacts [(.definePoint hk), (.setPointCfg hk)])))
    (by (split; exacts [(.definePoint hk), (.setPointCfg hk)]))) (.itePair (by ((try dsimp only); exact (.landed (.putPoint (.ite (.inc
    (by (split; exacts [(.definePoint hk), (.setPointCfg hk)]))) (by (split; exacts [(.definePoint hk), (.setPointCfg hk)])))))))
    (by (split; exacts [(.definePoint hk), (.setPointCfg hk)])))), (.itePair (by ((try dsimp only); exact (.mirSend (.newest (.keyFor
    (by (split; exacts [(.definePoint hk), (.setPointCfg hk)]))))))) (by (split; exacts [(.definePoint hk), (.setPointCfg hk)])))]))])),
    (by (split; exacts [(.definePoint hk), (.setPointCfg hk)])), (by (split; exacts [(.definePoint hk), (.setPointCfg hk)]))]))

theorem Kept.landWrite {s₀ s : State} {w : PWrite} (hk : Kept s₀ s) : Kept s₀ (State.landWrite s w).1 := by
  unfold State.landWrite; exact (.itePair hk (.itePair (.inc hk) (.itePair (.landConfig hk) (by (split; exacts [(.inc hk), (.itePair (.inc hk)
    (.itePair (.inc hk) (.itePair (.itePair (by ((try dsimp only); exact (.mirSend (.newest (.keyFor (.putPoint hk)))))) (.putPoint hk))
    (by ((try dsimp only); exact (.landed (.putPoint (.ite (.inc hk) hk))))))))])))))

theorem Kept.jobWriteDone {s₀ s : State} {j : Nat × Nat × Nat} {reason : Nat} (hk : Kept s₀ s) : Kept s₀ (State.jobWriteDone s j reason) :=
    by
  unfold State.jobWriteDone; exact (by (split; exacts [hk, (.ite (.finishJob (.mk_ hk)) (.mk_ hk))]))

theorem Kept.serve {s₀ s : State} {w : PWrite} (hk : Kept s₀ s) : Kept s₀ (State.serve s w) := by
  unfold State.serve; exact (.ite (.mk_ hk) (by ((try dsimp only); split; exacts [(.jobWriteDone (.landWrite hk)), (.landWrite hk)])))

theorem Kept.readPoints {s₀ s : State} {l : List Nat} (hk : Kept s₀ s) : Kept s₀ (State.readPoints s l) := by
  unfold State.readPoints; exact (.foldl hk (fun _ _ k1 => (.heat (.inc (.ite (.inc k1) k1)))) _)

theorem Kept.serveRead {s₀ s : State} {q id m addr : Nat} {l : List Nat} (hk : Kept s₀ s) : Kept s₀ (State.serveRead s q id m addr l) := by
  unfold State.serveRead; exact (.finishJob (.toHost (.readPoints hk)))

theorem Kept.serveOp {s₀ s : State} {y0 : HostOp} (hk : Kept s₀ s) : Kept s₀ (State.serveOp s y0) := by
  unfold State.serveOp; exact (by (split; exacts [(.serve hk), (.serveRead hk), (.finishJob (.subscribe hk)), (.finishJob (.unsubscribe
    hk))]))

theorem Kept.gyStep {s₀ s : State}  (hk : Kept s₀ s) : Kept s₀ (State.gyStep s) := by
  unfold State.gyStep; exact (by (split; exacts [hk, (.serveOp (.wr (.mk_ hk)))]))

theorem Kept.hostOp {s₀ s : State} {o : HostOp} (hk : Kept s₀ s) : Kept s₀ (State.hostOp s o) := by
  unfold State.hostOp; exact (.ite (.serveOp hk) (.mk_ hk))

theorem execNotificationWrite_kept  (s : State) : KeptOut s (execNotificationWrite s) := by
  have hk := Kept.refl s
  unfold execNotificationWrite; exact (by (split; exacts [(KeptOut.next hk), (KeptOut.next (.postNote (.mk_ hk)))]))

theorem execTierMove_kept  (s : State) : KeptOut s (execTierMove s) := by
  have hk := Kept.refl s
  unfold execTierMove; exact (KeptOut.next (.tryMoves hk))

theorem Kept.heatMove {s₀ s : State} {p : Nat} {toHot : Bool} (hk : Kept s₀ s) : Kept s₀ (State.heatMove s p toHot) := by
  unfold State.heatMove; exact (.ite (.mk_ hk) (.mk_ hk))

theorem Kept.mapFetch {s₀ s : State} {m : Nat} (hk : Kept s₀ s) : Kept s₀ (State.mapFetch s m).1 := by
  unfold State.mapFetch; exact (.itePair (.mk_ hk) (by ((try dsimp only); exact (.mk_ (.inc hk)))))

theorem Kept.mapWalk {r : State} : ∀ {n m : Nat} {s : State}, Kept r s → Kept r (s.mapWalk m n).1
  | 0, _, _, h => h
  | n + 1, m, s, h => by
    simp only [State.mapWalk]
    exact .itePair (.itePair (.mapFetch h) (.mapWalk (.mapFetch h))) (.mapFetch h)

theorem Kept.mapBegin {s₀ s : State} {first : Nat} (hk : Kept s₀ s) : Kept s₀ (State.mapBegin s first).1 := by
  unfold State.mapBegin; exact (by ((try dsimp only); exact (.mk_ (.mapWalk hk))))

theorem Kept.mapErr {s₀ s : State} {f : Fld} (hk : Kept s₀ s) : Kept s₀ (State.mapErr s f) := by
  unfold State.mapErr; exact (.raise0 (.inc hk))

theorem Kept.extPush {s₀ s : State} {w : PWrite} (hk : Kept s₀ s) : Kept s₀ (State.extPush s w) := by
  unfold State.extPush; exact (.ite (.inc hk) (.ite (.mk_ (.inc hk)) (.ite (.raise0 (.inc hk)) (.wr (.mk_ hk)))))

theorem Kept.mapField {s₀ s : State} {handle : Nat} {data : List Byte} {stamp : DWord} {lo hi : Nat} (hk : Kept s₀ s) : Kept s₀
    (State.mapField s handle data stamp lo hi) := by
  unfold State.mapField; exact (.ite (.mapErr hk) (.extPush hk))

theorem Kept.mapFields {r : State} {g : Nat} {data : List Byte} {stamp : DWord} {m : List DWord} :
    ∀ {n i : Nat} {s : State}, Kept r s → Kept r (s.mapFields g data stamp m i n)
  | 0, _, _, h => h
  | _ + 1, _, _, h => by
    simp only [State.mapFields]
    exact .mapFields (.mapField h)

theorem Kept.mapApply {s₀ s : State} {handle : Nat} {data : List Byte} {stamp : DWord} {m : List DWord} (hk : Kept s₀ s) : Kept s₀
    (State.mapApply s handle data stamp m) := by
  unfold State.mapApply; exact (.ite (.mapFields hk) hk)

theorem Kept.extract {s₀ s : State} {c : MapChain} {handle : Nat} {data : List Byte} {stamp : DWord} (hk : Kept s₀ s) : Kept s₀
    (State.extract s c handle data stamp) := by
  unfold State.extract; exact (.ite (.ite (.mapErr (.foldl hk (fun _ _ k1 => (.mapApply k1)) _)) (.foldl hk (fun _ _ k1 => (.mapApply k1)) _))
    hk)

theorem Kept.extDeliver {s₀ s : State} {x : ExtWait} (hk : Kept s₀ s) : Kept s₀ (State.extDeliver s x) := by
  unfold State.extDeliver; exact (.ite (.mk_ hk) (.releaseHold (.extract hk)))

theorem execMapFetchDone_kept  (s : State) : KeptOut s (execMapFetchDone s) := by
  have hk := Kept.refl s
  unfold execMapFetchDone; exact (KeptOut.next (by (split; exacts [hk, (by (split; exacts [(.extDeliver (.mk_ hk)), (.mk_ hk)]))])))

theorem Kept.winBad {s₀ s : State}  (hk : Kept s₀ s) : Kept s₀ (State.winBad s) := by
  unfold State.winBad; exact (.raise0 (.inc hk))

theorem Kept.winPart {s₀ s : State} {slot : Nat} {v : DWord} {enables : Nat} (hk : Kept s₀ s) : Kept s₀ (State.winPart s slot v enables) :=
    by
  unfold State.winPart; exact (.ite (.winBad (.deny hk)) (.ite (.winBad hk) (.mk_ hk)))

theorem Kept.winParts {r : State} : ∀ {l : List (DWord × Nat)} {slot : Nat} {s : State}, Kept r s → Kept r (s.winParts slot l)
  | [], _, _, h => h
  | _ :: _, _, _, h => by
    simp only [State.winParts]
    exact .winParts (.winPart h)

theorem execPointWindowWrite_kept (slot : Nat) (parts : List (DWord × Nat)) (s : State) : KeptOut s (execPointWindowWrite slot parts s) :=
    by
  have hk := Kept.refl s
  unfold execPointWindowWrite; exact (KeptOut.next (.ite (.winParts hk) hk))

theorem execPointWindowRead_kept (slot : Nat) (half : Option Bool) (s : State) : KeptOut s (execPointWindowRead slot half s) := by
  have hk := Kept.refl s
  unfold execPointWindowRead; exact (KeptOut.ite (KeptOut.next (.mk_ hk)) (KeptOut.ite (KeptOut.next (.mk_ (.deny hk))) (KeptOut.next (.mk_
    hk))))

theorem Kept.pcfgDone {r : State} {m : Nat} {x : State × Nat} (h : Kept r x.1) : Kept r (State.pcfgDone m x) := .wr (.wr h)

theorem Kept.pcfgCmd {s₀ s : State} {m op : Nat} (hk : Kept s₀ s) : Kept s₀ (State.pcfgCmd s m op) := by
  unfold State.pcfgCmd; exact (by ((try dsimp only); split; exacts [(.pcfgDone (.definePoint hk)), (.pcfgDone (.undefinePoint hk)), (.pcfgDone
    (.setPointCfg hk)), hk]))

theorem execPcfgDefine_kept (m : Nat) (s : State) : KeptOut s (execPcfgDefine m s) := by
  have hk := Kept.refl s
  unfold execPcfgDefine; exact (KeptOut.next (.busW hk (fun _ k1 => (.pcfgCmd k1))))

theorem execPcfgUndefine_kept (m : Nat) (s : State) : KeptOut s (execPcfgUndefine m s) := by
  have hk := Kept.refl s
  unfold execPcfgUndefine; exact (KeptOut.next (.busW hk (fun _ k1 => (.pcfgCmd k1))))

theorem execPcfgSet_kept (m : Nat) (s : State) : KeptOut s (execPcfgSet m s) := by
  have hk := Kept.refl s
  unfold execPcfgSet; exact (KeptOut.next (.busW hk (fun _ k1 => (.pcfgCmd k1))))

theorem Kept.mapSwap {s₀ s : State} {a b : Nat} (hk : Kept s₀ s) : Kept s₀ (State.mapSwap s a b) := by
  unfold State.mapSwap; exact (.mk_ hk)

theorem Kept.mapCmd {s₀ s : State} {a b : Nat} (hk : Kept s₀ s) : Kept s₀ (State.mapCmd s a b) := by
  unfold State.mapCmd; exact (.ite hk (.ite (.wr hk) (.mapSwap hk)))

theorem execMapSwap_kept (m : Nat) (a b : BitVec 14) (s : State) : KeptOut s (execMapSwap m a b s) := by
  have hk := Kept.refl s
  unfold execMapSwap; exact (KeptOut.next (.busW hk (fun _ k1 => (.mapCmd k1))))

theorem Kept.gyStore {s₀ s : State} {w : Nat} (hk : Kept s₀ s) : Kept s₀ (State.gyStore s w) := by
  unfold State.gyStore; exact (.ite (.wr hk) (.ite (.ite (.wr hk) (.mk_ hk)) (.ite (.mk_ hk) (.wr hk))))

theorem Kept.gyMdata {s₀ s : State} {m hi : Nat} (hk : Kept s₀ s) : Kept s₀ (State.gyMdata s m hi) := by
  unfold State.gyMdata; exact (.winWrite hk (fun _ _ k1 => (.gyStore k1)))

theorem execGyMdataWrite_kept (m : Nat) (hi : Word) (s : State) : KeptOut s (execGyMdataWrite m hi s) := by
  have hk := Kept.refl s
  unfold execGyMdataWrite; exact (KeptOut.next (.busW hk (fun _ k1 => (.gyMdata k1))))

theorem execSweepVisit_kept  (s : State) : KeptOut s (execSweepVisit s) := by
  have hk := Kept.refl s
  unfold execSweepVisit; exact (KeptOut.ite (KeptOut.next hk) (by (split; exacts [(KeptOut.next hk), (by ((try dsimp only); split; exacts
    [(KeptOut.next (.mk_ hk)), (KeptOut.next (.ite (.note (.setSub (.mk_ hk))) (.mk_ hk)))]))])))

end Sys2Proof.Machine
end

