-- ==== Sys2Proof/Laws/KeptPitch.lean ====
section
/-!
SUPPORT. What the operations of Machine/Pitch.lean keep (Laws/Kept.lean).
-/

namespace Sys2Proof.Machine

theorem Kept.heatMoves {r : State} : ∀ {n left : Nat} {s : State}, Kept r s → Kept r (s.heatMoves left n)
  | 0, _, _, h => h
  | n + 1, left, s, h => by
    simp only [State.heatMoves]
    split
    · exact h
    · refine .ite h (.ite (.heatMoves (.requestMove h)) ?_)
      split
      · exact h
      · exact .ite (.heatMoves (.requestSwap h)) h

theorem execHeatWindowEnd_kept  (s : State) : KeptOut s (execHeatWindowEnd s) := by
  have hk := Kept.refl s
  unfold execHeatWindowEnd; exact (KeptOut.next (.ite (.ite (.mk_ (.heatMoves (.mk_ hk))) (.mk_ hk)) hk))

theorem Kept.ptStore {s₀ s : State} {w : Nat} (hk : Kept s₀ s) : Kept s₀ (State.ptStore s w) := by
  unfold State.ptStore; exact (.ite (.wr hk) (.ite (.mk_ hk) (.ite (.mk_ hk) (.wr hk))))

theorem Kept.ptMdata {s₀ s : State} {m hi : Nat} (hk : Kept s₀ s) : Kept s₀ (State.ptMdata s m hi) := by
  unfold State.ptMdata; exact (.winWrite hk (fun _ _ k1 => (.ptStore k1)))

theorem execPtMdataWrite_kept (m : Nat) (hi : Word) (s : State) : KeptOut s (execPtMdataWrite m hi s) := by
  have hk := Kept.refl s
  unfold execPtMdataWrite; exact (KeptOut.next (.busW hk (fun _ k1 => (.ptMdata k1))))

end Sys2Proof.Machine
end

