-- ==== Sys2Proof/Laws/KeptFrames.lean ====
section
/-!
SUPPORT. What the operations of Machine/Frames.lean keep (Laws/Kept.lean).
-/

namespace Sys2Proof.Machine



end Sys2Proof.Machine
end

