-- ==== Sys2Proof/Laws/KeptPtp.lean ====
section
/-!
SUPPORT. What the operations of Machine/Ptp.lean keep (Laws/Kept.lean).
-/

namespace Sys2Proof.Machine

theorem Kept.fuAdd {s₀ s : State} {dirB : Bool} {e : FuEntry} (hk : Kept s₀ s) : Kept s₀ (State.fuAdd s dirB e) := by
  unfold State.fuAdd; exact (.ite (.mkTb (.ite (.inc hk) hk)) (.mkTb (.ite (.inc hk) hk)))

theorem Kept.fuTake {s₀ s : State} {dirB : Bool} {key : Nat} (hk : Kept s₀ s) : Kept s₀ (State.fuTake s dirB key).1 := by
  unfold State.fuTake; exact (by ((try dsimp only); split; exacts [hk, (by ((try dsimp only); exact (.ite (.mkTb hk) (.mkTb hk))))]))

theorem Kept.ptpForward {s₀ s : State} {p : Nat} {ing eg : Stamp} {f : List Byte} (hk : Kept s₀ s) : Kept s₀ (State.ptpForward s p ing eg
    f).1 := by
  unfold State.ptpForward; exact (by (split; exacts [hk, (.itePair hk (.itePair (.itePair hk hk) (.itePair (.itePair hk hk) (.itePair
    (.itePair (.fuAdd hk) hk) (.itePair (by (split; exacts
    [(by (rename_i hq; have e := congrArg Prod.fst hq; dsimp only at e; subst e; exact (.fuTake hk))),
    (by (rename_i hq; have e := congrArg Prod.fst hq; dsimp only at e; subst e; exact (.inc (.fuTake hk))))])) hk)))))]))

theorem Kept.freeBytes {s₀ s : State} {n : Nat} (hk : Kept s₀ s) : Kept s₀ (State.freeBytes s n).1 := by
  unfold State.freeBytes; exact (.mk_ hk)

theorem Kept.ptpMessage {s₀ s : State} {p type domain : Nat} {body : List Byte} (hk : Kept s₀ s) : Kept s₀ (State.ptpMessage s p type domain
    body).1 := by
  unfold State.ptpMessage; exact (by ((try dsimp only); exact (.freeBytes hk)))

theorem Kept.ptpAnswer {s₀ s : State} {p : Nat} {req : List Byte} {o : Nat} {t : Stamp} (hk : Kept s₀ s) : Kept s₀ (State.ptpAnswer s p req
    o t).1 := by
  unfold State.ptpAnswer; exact (by ((try dsimp only); exact (.ptpMessage hk)))

end Sys2Proof.Machine
end

