-- ==== Sys2Proof/Laws/KeptFining.lean ====
section
/-!
SUPPORT. What the operations of Machine/Fining.lean keep (Laws/Kept.lean).
-/

namespace Sys2Proof.Machine

theorem Kept.stCount {s₀ s : State} {h i : Nat} (hk : Kept s₀ s) : Kept s₀ (State.stCount s h i) := by
  unfold State.stCount; exact (.mk_ hk)

theorem Kept.fnDone {s₀ s : State} {code : Nat} {index : Option Nat} (hk : Kept s₀ s) : Kept s₀ (State.fnDone s code index) := by
  unfold State.fnDone; exact (by ((try dsimp only); split; exacts [(.wr (.wr (.wr hk))), (.wr (.wr hk))]))

theorem Kept.fnCmd {s₀ s : State} {op : Nat} {f : State → State} (hk : Kept s₀ s) (h_f : ∀ t : State, Kept s₀ t → Kept s₀ (f t)) : Kept s₀
    (State.fnCmd s op f) := by
  unfold State.fnCmd; exact (.ite (.wr hk) (.ite (.mk_ (.wr hk)) (h_f _ (.mk_ (.wr hk)))))

theorem Kept.idInsert {s₀ s : State} {e : List DWord} (hk : Kept s₀ s) : Kept s₀ (State.idInsert s e) := by
  unfold State.idInsert; exact (.ite (.fnDone hk) (by (split; exacts [(.fnDone hk), (.ite (.fnDone (.raise0 (.inc (.ite (.mk_ hk) hk))))
    (.fnDone (.wr (.mk_ (.ite (.mk_ hk) hk)))))])))

theorem Kept.idDelete {s₀ s : State} {e : List DWord} (hk : Kept s₀ s) : Kept s₀ (State.idDelete s e) := by
  unfold State.idDelete; exact (by (split; exacts [(.fnDone hk), (.fnDone (.wr (.mk_ hk)))]))

theorem Kept.idLocate {s₀ s : State} {e : List DWord} (hk : Kept s₀ s) : Kept s₀ (State.idLocate s e) := by
  unfold State.idLocate; exact (by (split; exacts [(.fnDone hk), (.fnDone (.mk_ hk))]))

theorem Kept.fnTick {s₀ s : State}  (hk : Kept s₀ s) : Kept s₀ (State.fnTick s) := by
  unfold State.fnTick; exact (by (split; exacts [hk, (by ((try dsimp only); split; exacts [(.fnDone (.mk_ hk)), (.idInsert (.mk_ hk)),
    (.idDelete (.mk_ hk)), (.idLocate (.mk_ hk)), (.fnDone (.mk_ hk))]))]))

theorem Kept.genMark {s₀ s : State} {g n : Nat} (hk : Kept s₀ s) : Kept s₀ (State.genMark s g n) := by
  unfold State.genMark; exact (.mk_ hk)

theorem Kept.eventSeq {s₀ s : State} {g : Nat} (hk : Kept s₀ s) : Kept s₀ (State.eventSeq s g).1 := by
  unfold State.eventSeq; exact (by ((try dsimp only); exact (.ite (.mk_ (.genMark (.mk_ hk))) (.genMark (.mk_ hk)))))

theorem Kept.setRec {s₀ s : State} {f : Nat} {r : Rec} (hk : Kept s₀ s) : Kept s₀ (State.setRec s f r) := by
  unfold State.setRec; exact (.mk_ hk)

theorem Kept.recEval {s₀ s : State} {f p n : Nat} (hk : Kept s₀ s) : Kept s₀ (State.recEval s f p n).1 := by
  unfold State.recEval; exact (.itePair (.inc hk) (.itePair (.setRec hk) (.itePair (.itePair (.setRec hk) (.setRec hk)) (.itePair (.raise0
    (.inc (.setRec hk))) (.itePair (.setRec hk) (.itePair (.setRec hk) (.setRec hk)))))))

theorem Kept.recCommit {s₀ s : State} {f p n w : Nat} (hk : Kept s₀ s) : Kept s₀ (State.recCommit s f p n w) := by
  unfold State.recCommit; exact (.setRec hk)

theorem Kept.recRelease {s₀ s : State} {f p n : Nat} (hk : Kept s₀ s) : Kept s₀ (State.recRelease s f p n) := by
  unfold State.recRelease; exact (.setRec hk)

theorem Kept.recResetCmd {s₀ s : State} {f : Nat} (hk : Kept s₀ s) : Kept s₀ (State.recResetCmd s f) := by
  unfold State.recResetCmd; exact (.fnCmd hk (fun _ k1 => (.setRec k1)))

theorem Kept.recClear {s₀ s : State} {f : Nat} (hk : Kept s₀ s) : Kept s₀ (State.recClear s f) := by
  unfold State.recClear; exact (.fnCmd hk (fun _ k1 => (.setRec k1)))

theorem Kept.strmClear {s₀ s : State} {h : Nat} (hk : Kept s₀ s) : Kept s₀ (State.strmClear s h) := by
  unfold State.strmClear; exact (.fnCmd hk (fun _ k1 => (.mk_ k1)))

theorem execIdInsert_kept (m : Nat) (s : State) : KeptOut s (execIdInsert m s) := by
  have hk := Kept.refl s
  unfold execIdInsert; exact (KeptOut.next (.busW hk (fun _ k1 => (.fnCmd k1 (fun _ k2 => k2)))))

theorem execIdDelete_kept (m : Nat) (s : State) : KeptOut s (execIdDelete m s) := by
  have hk := Kept.refl s
  unfold execIdDelete; exact (KeptOut.next (.busW hk (fun _ k1 => (.fnCmd k1 (fun _ k2 => k2)))))

theorem execIdFind_kept (m : Nat) (s : State) : KeptOut s (execIdFind m s) := by
  have hk := Kept.refl s
  unfold execIdFind; exact (KeptOut.next (.busW hk (fun _ k1 => (.fnCmd k1 (fun _ k2 => k2)))))

theorem execRecReset_kept (m : Nat) (f : BitVec 15) (s : State) : KeptOut s (execRecReset m f s) := by
  have hk := Kept.refl s
  unfold execRecReset; exact (KeptOut.next (.busW hk (fun _ k1 => (.recResetCmd k1))))

theorem execClrRecCnt_kept (m : Nat) (f : BitVec 15) (s : State) : KeptOut s (execClrRecCnt m f s) := by
  have hk := Kept.refl s
  unfold execClrRecCnt; exact (KeptOut.next (.busW hk (fun _ k1 => (.recClear k1))))

theorem execClrStreamCnt_kept (m : Nat) (h : BitVec 15) (s : State) : KeptOut s (execClrStreamCnt m h s) := by
  have hk := Kept.refl s
  unfold execClrStreamCnt; exact (KeptOut.next (.busW hk (fun _ k1 => (.strmClear k1))))

theorem execRecoveryTimeout_kept (f : BitVec 15) (s : State) : KeptOut s (execRecoveryTimeout f s) := by
  have hk := Kept.refl s
  unfold execRecoveryTimeout; exact (KeptOut.next (.ite (.setRec hk) hk))

theorem execLatentTest_kept (f : BitVec 15) (s : State) : KeptOut s (execLatentTest f s) := by
  have hk := Kept.refl s
  unfold execLatentTest; exact (KeptOut.next (.ite (.ite (.raise0 (.inc (.setRec hk))) (.setRec hk)) hk))

theorem execLatentReset_kept (f : BitVec 15) (s : State) : KeptOut s (execLatentReset f s) := by
  have hk := Kept.refl s
  unfold execLatentReset; exact (KeptOut.next (.ite (.ite (.setRec hk) (.setRec hk)) hk))

theorem Kept.setFnTable {s₀ s : State} {sp : Nat} {t : List (Nat × DWord)} (hk : Kept s₀ s) : Kept s₀ (State.setFnTable s sp t) := by
  unfold State.setFnTable; exact (by (split; exacts [(.mk_ hk), (.mk_ hk), (.mk_ hk), (.mk_ hk)]))

theorem Kept.recCfgChanged {s₀ s : State} {f old : Nat} (hk : Kept s₀ s) : Kept s₀ (State.recCfgChanged s f old) := by
  unfold State.recCfgChanged; exact (.ite (.setRec hk) hk)

theorem Kept.fnStore {s₀ s : State} {w : Nat} (hk : Kept s₀ s) : Kept s₀ (State.fnStore s w) := by
  unfold State.fnStore; exact (.ite (.wr hk) (.ite (.mk_ hk) (.ite (.recCfgChanged (.setFnTable (.mk_ hk))) (.setFnTable (.mk_ hk)))))

theorem Kept.fnMdata {s₀ s : State} {m hi : Nat} (hk : Kept s₀ s) : Kept s₀ (State.fnMdata s m hi) := by
  unfold State.fnMdata; exact (.winWrite hk (fun _ _ k1 => (.fnStore k1)))

theorem execFnMdataWrite_kept (m : Nat) (hi : Word) (s : State) : KeptOut s (execFnMdataWrite m hi s) := by
  have hk := Kept.refl s
  unfold execFnMdataWrite; exact (KeptOut.next (.busW hk (fun _ k1 => (.fnMdata k1))))

end Sys2Proof.Machine
end

