-- ==== Sys2Proof/Laws/KeptPsfp.lean ====
section
/-!
SUPPORT. What the operations of Machine/Psfp.lean keep (Laws/Kept.lean).
-/

namespace Sys2Proof.Machine

theorem Kept.ftCount {s₀ s : State} {f i : Nat} (hk : Kept s₀ s) : Kept s₀ (State.ftCount s f i) := by
  unfold State.ftCount; exact (.mk_ hk)

theorem Kept.setBlocked {s₀ s : State} {f : Nat} {b : Bool} (hk : Kept s₀ s) : Kept s₀ (State.setBlocked s f b) := by
  unfold State.setBlocked; exact (.wr (.mk_ hk))

theorem Kept.latchGate {s₀ s : State} {g bit : Nat} (hk : Kept s₀ s) : Kept s₀ (State.latchGate s g bit) := by
  unfold State.latchGate; exact (.raise0 (.mk_ hk))

theorem Kept.setTok {s₀ s : State} {i : Nat} {t : Meter} (hk : Kept s₀ s) : Kept s₀ (State.setTok s i t) := by
  unfold State.setTok; exact (.mk_ hk)

theorem Kept.mtCharge {s₀ s : State} {i l at_ : Nat} {dei : Bool} (hk : Kept s₀ s) : Kept s₀ (State.mtCharge s i l at_ dei).1 := by
  unfold State.mtCharge; exact (.itePair (.setTok hk) (.itePair (.setTok hk) (.itePair (.setTok hk) (.setTok hk))))

theorem Kept.setMarkRed {s₀ s : State} {i : Nat} {b : Bool} (hk : Kept s₀ s) : Kept s₀ (State.setMarkRed s i b) := by
  unfold State.setMarkRed; exact (.mk_ hk)

theorem Kept.mtVerdict {s₀ s : State} {f i l at_ : Nat} {dei : Bool} (hk : Kept s₀ s) : Kept s₀ (State.mtVerdict s f i l at_ dei).1 := by
  unfold State.mtVerdict; exact (by (split; exacts [(by (rename_i hq; have e := congrArg Prod.fst hq; dsimp only at e; subst e; exact
    (.mtCharge hk))), (by (rename_i hq; have e := congrArg Prod.fst hq; dsimp only at e; subst e; exact (.itePair (.inc (.mtCharge hk))
    (.mtCharge hk)))), (by (rename_i hq; have e := congrArg Prod.fst hq; dsimp only at e; subst e; exact (by ((try dsimp only); exact (.ite
    (.setMarkRed (.inc (.ftCount (.mtCharge hk)))) (.inc (.ftCount (.mtCharge hk))))))))]))

theorem Kept.psGate {s₀ s : State} {f w0 l t at_ : Nat} {dei : Bool} (hk : Kept s₀ s) : Kept s₀ (State.psGate s f w0 l t at_ dei).1 := by
  unfold State.psGate; exact (.itePair (.itePair (by ((try dsimp only); exact (.ite (.latchGate (.ftCount hk)) (.ftCount hk)))) (.itePair
    (by ((try dsimp only); exact (.ite (.latchGate (.inc (.ftCount hk))) (.inc (.ftCount hk))))) (.itePair (by (split; exacts
    [(by (rename_i hq; have e := congrArg Prod.fst hq; dsimp only at e; subst e; exact (.mtVerdict (.ftCount (.setSg hk))))),
    (by (rename_i hq; have e := congrArg Prod.fst hq; dsimp only at e; subst e; exact (.mtVerdict (.ftCount (.setSg hk)))))])) (.ftCount
    (.setSg hk))))) (.itePair (by (split; exacts [(by (rename_i hq; have e := congrArg Prod.fst hq; dsimp only at e; subst e; exact
    (.mtVerdict hk))), (by (rename_i hq; have e := congrArg Prod.fst hq; dsimp only at e; subst e; exact (.mtVerdict hk)))])) hk))

theorem Kept.psCheck {s₀ s : State} {f w0 w1 l t at_ : Nat} {dei : Bool} (hk : Kept s₀ s) : Kept s₀ (State.psCheck s f w0 w1 l t at_ dei).1
    := by
  unfold State.psCheck; exact (.itePair (.ftCount (.ftCount hk)) (.itePair (by ((try dsimp only); exact (.ite (.raise0 (.setBlocked (.ftCount
    (.ftCount hk)))) (.ftCount (.ftCount hk))))) (.psGate (.ftCount (.ftCount hk)))))

theorem Kept.psFrame {s₀ s : State} {fr : RxFrame} (hk : Kept s₀ s) : Kept s₀ (State.psFrame s fr).1 := by
  unfold State.psFrame; exact (by (split; exacts [hk, (.itePair hk (by (split; exacts [(.inc hk), (.psCheck hk)])))]))

theorem Kept.psDone {s₀ s : State} {code : Nat} (hk : Kept s₀ s) : Kept s₀ (State.psDone s code) := by
  unfold State.psDone; exact (.wr (.wr hk))

theorem Kept.psUnblock {s₀ s : State} {f : Nat} (hk : Kept s₀ s) : Kept s₀ (State.psUnblock s f) := by
  unfold State.psUnblock; exact (.ite (.psDone hk) (.ite (.psDone hk) (.psDone (.setBlocked hk))))

theorem Kept.psClear {s₀ s : State} {f : Nat} (hk : Kept s₀ s) : Kept s₀ (State.psClear s f) := by
  unfold State.psClear; exact (.ite (.psDone hk) (.ite (.psDone hk) (.psDone (.mk_ hk))))

theorem Kept.psMeterReset {s₀ s : State} {i : Nat} (hk : Kept s₀ s) : Kept s₀ (State.psMeterReset s i) := by
  unfold State.psMeterReset; exact (.ite (.psDone hk) (.ite (.psDone hk) (.psDone (.setMarkRed (.setTok hk)))))

theorem Kept.psReopen {s₀ s : State} {g : Nat} (hk : Kept s₀ s) : Kept s₀ (State.psReopen s g) := by
  unfold State.psReopen; exact (.ite (.psDone hk) (.ite (.psDone hk) (.psDone (.mk_ hk))))

theorem execPsUnblock_kept (m : Nat) (f : BitVec 12) (s : State) : KeptOut s (execPsUnblock m f s) := by
  have hk := Kept.refl s
  unfold execPsUnblock; exact (KeptOut.next (.busW hk (fun _ k1 => (.psUnblock k1))))

theorem execPsClrFilterCnt_kept (m : Nat) (f : BitVec 12) (s : State) : KeptOut s (execPsClrFilterCnt m f s) := by
  have hk := Kept.refl s
  unfold execPsClrFilterCnt; exact (KeptOut.next (.busW hk (fun _ k1 => (.psClear k1))))

theorem execMeterReset_kept (m : Nat) (i : BitVec 12) (s : State) : KeptOut s (execMeterReset m i s) := by
  have hk := Kept.refl s
  unfold execMeterReset; exact (KeptOut.next (.busW hk (fun _ k1 => (.psMeterReset k1))))

theorem execGateReopen_kept (m : Nat) (g : BitVec 12) (s : State) : KeptOut s (execGateReopen m g s) := by
  have hk := Kept.refl s
  unfold execGateReopen; exact (KeptOut.next (.busW hk (fun _ k1 => (.psReopen k1))))

theorem Kept.mtRates {s₀ s : State} {i : Nat} {t : Meter} (hk : Kept s₀ s) : Kept s₀ (State.mtRates s i t) := by
  unfold State.mtRates; exact (.setTok hk)

theorem Kept.psStore {s₀ s : State} {w : Nat} (hk : Kept s₀ s) : Kept s₀ (State.psStore s w) := by
  unfold State.psStore; exact (.ite (.wr hk) (.ite (.mk_ hk) (.ite (.mk_ (.ite (.wr hk) hk)) (.ite (.mk_ (.mk_ (.ite (.wr hk) hk))) (.mtRates
    (.mk_ (.mk_ (.ite (.wr hk) hk))))))))

theorem Kept.psMdata {s₀ s : State} {m hi : Nat} (hk : Kept s₀ s) : Kept s₀ (State.psMdata s m hi) := by
  unfold State.psMdata; exact (.winWrite hk (fun _ _ k1 => (.psStore k1)))

theorem execPsMdataWrite_kept (m : Nat) (hi : Word) (s : State) : KeptOut s (execPsMdataWrite m hi s) := by
  have hk := Kept.refl s
  unfold execPsMdataWrite; exact (KeptOut.next (.busW hk (fun _ k1 => (.psMdata k1))))

end Sys2Proof.Machine
end

