-- ==== Sys2Proof/Laws/KeptLauter.lean ====
section
/-!
SUPPORT. What the operations of Machine/Lauter.lean keep (Laws/Kept.lean).
-/

namespace Sys2Proof.Machine

theorem Kept.setShp {s₀ s : State} {i : Nat} {r : Shp} (hk : Kept s₀ s) : Kept s₀ (State.setShp s i r) := by
  unfold State.setShp; exact (.wr (.mk_ hk))

theorem Kept.shPlace {s₀ s : State} {i : Nat} {r : Shp} (hk : Kept s₀ s) : Kept s₀ (State.shPlace s i r) := by
  unfold State.shPlace; exact (.ite (.setShp hk) (.ite (.setShp hk) (.setShp hk)))

theorem Kept.shDebit {s₀ s : State} {i n : Nat} (hk : Kept s₀ s) : Kept s₀ (State.shDebit s i n) := by
  unfold State.shDebit; exact (.shPlace hk)

theorem Kept.shCharge {s₀ s : State} {i l : Nat} (hk : Kept s₀ s) : Kept s₀ (State.shCharge s i l) := by
  unfold State.shCharge; exact (.shDebit hk)

theorem Kept.shApply {s₀ s : State} {i : Nat} {w0 w1 : Option DWord} (hk : Kept s₀ s) : Kept s₀ (State.shApply s i w0 w1) := by
  unfold State.shApply; exact (.ite (.ite (.setShp (.mk_ hk)) (.setShp (.mk_ hk))) (.shPlace (.mk_ hk)))

theorem execShaperGrant_kept  (s : State) : KeptOut s (execShaperGrant s) := by
  have hk := Kept.refl s
  unfold execShaperGrant; exact (KeptOut.next (.ite hk (.add (.foldl (.mk_ hk) (fun _ _ k1 => (.setShp k1)) _))))

theorem execWheelMigrate_kept  (s : State) : KeptOut s (execWheelMigrate s) := by
  have hk := Kept.refl s
  unfold execWheelMigrate; exact (KeptOut.next (.mk_ hk))

theorem Kept.setCredit {s₀ s : State} {p c : Nat} {v : Int} (hk : Kept s₀ s) : Kept s₀ (State.setCredit s p c v) := by
  unfold State.setCredit; exact (.ite (.wrBit (.mk_ hk)) (.mk_ hk))

theorem Kept.slopesApply {s₀ s : State} {p : Nat} (hk : Kept s₀ s) : Kept s₀ (State.slopesApply s p) := by
  unfold State.slopesApply; exact (.foldl hk (fun _ _ k1 => (.ite (.setCredit (.mk_ k1)) (.mk_ k1))) _)

theorem Kept.slopeCheck {s₀ s : State} {p : Nat} (hk : Kept s₀ s) : Kept s₀ (State.slopeCheck s p) := by
  unfold State.slopeCheck; exact (.ite (.ite hk (.raise0 (.wr hk))) (.wr hk))

theorem execCbsCreditRestored_kept (p : Fin 10) (c : Fin 8) (s : State) : KeptOut s (execCbsCreditRestored p c s) := by
  have hk := Kept.refl s
  unfold execCbsCreditRestored; exact (KeptOut.next (.ite (.wrBit hk) hk))

theorem Kept.setPause {s₀ s : State} {p c : Nat} {t : Option Nat} (hk : Kept s₀ s) : Kept s₀ (State.setPause s p c t) := by
  unfold State.setPause; exact (.wrBit (.mk_ hk))

theorem Kept.pauseClass {s₀ s : State} {p c quanta : Nat} (hk : Kept s₀ s) : Kept s₀ (State.pauseClass s p c quanta) := by
  unfold State.pauseClass; exact (.ite (.setPause (.ite (.inc hk) hk)) hk)

theorem Kept.pauseRx {s₀ s : State} {p quanta : Nat} (hk : Kept s₀ s) : Kept s₀ (State.pauseRx s p quanta) := by
  unfold State.pauseRx; exact (.ite (.foldl (.add (.inc hk)) (fun _ _ k1 => (.setPause k1)) _) (.inc hk))

theorem Kept.pfcRx {s₀ s : State} {p enable : Nat} {times : List Nat} (hk : Kept s₀ s) : Kept s₀ (State.pfcRx s p enable times) := by
  unfold State.pfcRx; exact (.ite (.foldl (.inc hk) (fun _ _ k1 => (.pauseClass k1)) _) (.inc hk))

theorem execPauseRx_kept (p : Fin 10) (quanta : BitVec 16) (s : State) : KeptOut s (execPauseRx p quanta s) := by
  have hk := Kept.refl s
  unfold execPauseRx; exact (KeptOut.next (.pauseRx hk))

theorem execPfcRx_kept (p : Fin 10) (enable : BitVec 8) (times : List (BitVec 16)) (s : State) : KeptOut s (execPfcRx p enable times s) :=
    by
  have hk := Kept.refl s
  unfold execPfcRx; exact (KeptOut.next (.pfcRx hk))

theorem execPauseExpiry_kept (p : Fin 10) (c : Fin 8) (s : State) : KeptOut s (execPauseExpiry p c s) := by
  have hk := Kept.refl s
  unfold execPauseExpiry; exact (KeptOut.next (by (split; exacts [(.ite (.setPause hk) hk), hk])))

theorem Kept.setQPause {s₀ s : State} {q : Nat} {v : Option (Option Nat)} (hk : Kept s₀ s) : Kept s₀ (State.setQPause s q v) := by
  unfold State.setQPause; exact (.mk_ hk)

theorem Kept.queuePause {s₀ s : State} {q us : Nat} (hk : Kept s₀ s) : Kept s₀ (State.queuePause s q us) := by
  unfold State.queuePause; exact (.ite hk (.inc (.setQPause hk)))

theorem Kept.ltQPause {s₀ s : State} {m q us : Nat} (hk : Kept s₀ s) : Kept s₀ (State.ltQPause s m q us) := by
  unfold State.ltQPause; exact (.ite hk (.ite (.ite hk (.queuePause hk)) (.inc (.deny hk))))

theorem Kept.vfQPause {s₀ s : State} {m l us : Nat} (hk : Kept s₀ s) : Kept s₀ (State.vfQPause s m l us) := by
  unfold State.vfQPause; exact (.ite hk (.ite (.ite hk (by (split; exacts [(.queuePause hk), (.inc hk)]))) (.deny hk)))

theorem execQueuePause_kept (m : Nat) (vf : Bool) (q us : BitVec 16) (s : State) : KeptOut s (execQueuePause m vf q us s) := by
  have hk := Kept.refl s
  unfold execQueuePause; exact (KeptOut.next (.ite (.vfQPause hk) (.ltQPause hk)))

theorem execQueuePauseExpiry_kept (q : BitVec 10) (s : State) : KeptOut s (execQueuePauseExpiry q s) := by
  have hk := Kept.refl s
  unfold execQueuePauseExpiry; exact (KeptOut.next (by (split; exacts [(.ite (.setQPause hk) hk), hk])))

theorem Kept.ltStore {s₀ s : State} {w : Nat} (hk : Kept s₀ s) : Kept s₀ (State.ltStore s w) := by
  unfold State.ltStore; exact (.ite (.wr hk) (by (split; exacts [(.ite (.mk_ hk) (.shApply (.mk_ hk))), (.ite (.mk_ hk) (.wr hk)), (.ite (.mk_
    hk) (.wr hk)), (.wr hk)])))

theorem Kept.ltMdata {s₀ s : State} {m hi : Nat} (hk : Kept s₀ s) : Kept s₀ (State.ltMdata s m hi) := by
  unfold State.ltMdata; exact (.winWrite hk (fun _ _ k1 => (.ltStore k1)))

theorem execLtMdataWrite_kept (m : Nat) (hi : Word) (s : State) : KeptOut s (execLtMdataWrite m hi s) := by
  have hk := Kept.refl s
  unfold execLtMdataWrite; exact (KeptOut.next (.busW hk (fun _ k1 => (.ltMdata k1))))

end Sys2Proof.Machine
end

