-- ==== Sys2Proof/Laws/KeptLaunch.lean ====
section
/-!
SUPPORT. What the operations of Machine/Launch.lean keep (Laws/Kept.lean).
-/

namespace Sys2Proof.Machine

theorem Kept.wtCount {s₀ s : State}  (hk : Kept s₀ s) : Kept s₀ (State.wtCount s) := by
  unfold State.wtCount; exact (.wr (.wr hk))

theorem Kept.setItem {s₀ s : State} {i : Nat} {v : Option Item} (hk : Kept s₀ s) : Kept s₀ (State.setItem s i v) := by
  unfold State.setItem; exact (.wtCount (.mk_ hk))

theorem Kept.setLnPort {s₀ s : State} {p : Nat} {v : LnPort} (hk : Kept s₀ s) : Kept s₀ (State.setLnPort s p v) := by
  unfold State.setLnPort; exact (.mk_ hk)

theorem Kept.admitItem {s₀ s : State} {it : Item} (hk : Kept s₀ s) : Kept s₀ (State.admitItem s it).1 := by
  unfold State.admitItem; exact (by ((try dsimp only); exact (.setItem (.mk_ hk))))

theorem Kept.ownItem {s₀ s : State} {it : Item} (hk : Kept s₀ s) : Kept s₀ (State.ownItem s it) := by
  unfold State.ownItem; exact (.ite (by (split; exacts [(by (rename_i hq; have e := congrArg Prod.fst hq; dsimp only at e; subst e; exact
    (.raise0 (.inc (.storeChain hk))))), (by (rename_i hq; have e := congrArg Prod.fst hq; dsimp only at e; subst e; exact (.admitItem
    (.storeChain hk))))])) (.raise0 (.inc hk)))

theorem Kept.ownFrame {s₀ s : State} {p c : Nat} {data : List Byte} (hk : Kept s₀ s) : Kept s₀ (State.ownFrame s p c data) := by
  unfold State.ownFrame; exact (.ownItem hk)

theorem Kept.jobEnds {s₀ s : State} {q id : Nat} (hk : Kept s₀ s) : Kept s₀ (State.jobEnds s q id) := by
  unfold State.jobEnds; exact (.finishJob (.mk_ hk))

theorem Kept.endItem {s₀ s : State} {i : Nat} {status flags : Nat} (hk : Kept s₀ s) : Kept s₀ (State.endItem s i status flags) := by
  unfold State.endItem; exact (by (split; exacts [hk, (by ((try dsimp only); split; exacts [(by (split; exacts [(.ite (.setItem hk)
    (.releaseHold (.setItem hk))), (.setItem hk)])), (.ite (.mk_ (by (split; exacts [(.ite (.setItem hk) (.releaseHold (.setItem hk))),
    (.setItem hk)]))) (.jobEnds (.mk_ (by (split; exacts [(.ite (.setItem hk) (.releaseHold (.setItem hk))), (.setItem hk)])))))]))]))

theorem Kept.dropItem {s₀ s : State} {i : Nat} (hk : Kept s₀ s) : Kept s₀ (State.dropItem s i) := by
  unfold State.dropItem; exact (by (split; exacts [hk, (by ((try dsimp only); split; exacts [(.ite (.setItem hk) (.releaseHold (.setItem
    hk))), (.setItem hk)]))]))

theorem Kept.markItem {s₀ s : State} {i m : Nat} (hk : Kept s₀ s) : Kept s₀ (State.markItem s i m) := by
  unfold State.markItem; exact (by (split; exacts [hk, (.setItem hk)]))

theorem Kept.itemYield {s₀ s : State} {i h y : Nat} (hk : Kept s₀ s) : Kept s₀ (State.itemYield s i h y) := by
  unfold State.itemYield; exact (by (split; exacts [hk, (.ite hk (.yieldTo (.markItem hk)))]))

theorem Kept.cutYield {s₀ s : State} {i h y : Nat} (hk : Kept s₀ s) : Kept s₀ (State.cutYield s i h y) := by
  unfold State.cutYield; exact (.ite (.itemYield hk) hk)

theorem Kept.countBlocked {s₀ s : State} {p : Nat} (hk : Kept s₀ s) : Kept s₀ (State.countBlocked s p) := by
  unfold State.countBlocked; exact (.foldl hk (fun _ _ k1 => (by (split; exacts [(.ite (by (split; exacts [(.ite k1 (.cutYield (.inc
    (.markItem k1)))), (.ite k1 (.inc (.markItem k1))), k1])) k1), k1]))) _)

theorem Kept.shareNum {s₀ s : State} {i : Nat} {it : Item} {n : Nat} (hk : Kept s₀ s) : Kept s₀ (State.shareNum s i it n) := by
  unfold State.shareNum; exact (.foldl hk (fun _ _ k1 => (.ite k1 (.setItem k1))) _)

theorem Kept.numberFrame {s₀ s : State} {i : Nat} {it : Item} (hk : Kept s₀ s) : Kept s₀ (State.numberFrame s i it).1 := by
  unfold State.numberFrame; exact (by (split; exacts [hk, (by (split; exacts [hk, hk, (.itePair (.itePair hk (.shareNum (.inc hk)))
    (by ((try dsimp only); exact (.shareNum (.eventSeq hk)))))]))]))

theorem Kept.buildFrame {s₀ s : State} {it : Item} {seq : Option Nat} {eg : Stamp} (hk : Kept s₀ s) : Kept s₀ (State.buildFrame s it seq
    eg).1 := by
  unfold State.buildFrame; exact (by ((try dsimp only); exact (by (split; exacts [(.ptpForward hk), hk]))))

theorem Kept.chargeItem {s₀ s : State} {i : Nat} {it : Item} {l : Nat} (hk : Kept s₀ s) : Kept s₀ (State.chargeItem s i it l) := by
  unfold State.chargeItem; exact (.ite (.ite (.itemYield (.ite (.itemYield (.foldl (.ite (.inc hk) hk) (fun _ _ k1 => (.shCharge k1)) _))
    (.ite (.itemYield (.foldl (.ite (.inc hk) hk) (fun _ _ k1 => (.shCharge k1)) _)) (.foldl (.ite (.inc hk) hk) (fun _ _ k1 => (.shCharge
    k1)) _)))) (.ite (.itemYield (.ite (.itemYield (.foldl (.ite (.inc hk) hk) (fun _ _ k1 => (.shCharge k1)) _)) (.ite (.itemYield (.foldl
    (.ite (.inc hk) hk) (fun _ _ k1 => (.shCharge k1)) _)) (.foldl (.ite (.inc hk) hk) (fun _ _ k1 => (.shCharge k1)) _)))) (.ite
    (.itemYield (.foldl (.ite (.inc hk) hk) (fun _ _ k1 => (.shCharge k1)) _)) (.ite (.itemYield (.foldl (.ite (.inc hk) hk) (fun _ _ k1 =>
    (.shCharge k1)) _)) (.foldl (.ite (.inc hk) hk) (fun _ _ k1 => (.shCharge k1)) _))))) (.ite (.itemYield (.foldl (.ite (.inc hk) hk) (fun
    _ _ k1 => (.shCharge k1)) _)) (.ite (.itemYield (.foldl (.ite (.inc hk) hk) (fun _ _ k1 => (.shCharge k1)) _)) (.foldl (.ite (.inc hk)
    hk) (fun _ _ k1 => (.shCharge k1)) _))))

theorem Kept.takeStamp {s₀ s : State} {it : Item} {t : Stamp} (hk : Kept s₀ s) : Kept s₀ (State.takeStamp s it t).1 := by
  unfold State.takeStamp; exact (.itePair hk (.itePair (.raise (.ite (.inc hk) hk)) hk))

theorem Kept.countTimed {s₀ s : State} {i : Nat} {it : Item} (hk : Kept s₀ s) : Kept s₀ (State.countTimed s i it) := by
  unfold State.countTimed; exact (by (split; exacts [hk, (.ite (.ite (.itemYield (.wr (.inc hk))) (.wr (.inc hk))) (.inc hk))]))

theorem Kept.noteLaunch {s₀ s : State} {it : Item} (hk : Kept s₀ s) : Kept s₀ (State.noteLaunch s it) := by
  unfold State.noteLaunch; exact (by (split; exacts [(.mk_ hk), hk]))

theorem Kept.startItem {s₀ s : State} {i : Nat} {it : Item} (hk : Kept s₀ s) : Kept s₀ (State.startItem s i it) := by
  unfold State.startItem; exact (.setLnPort (.setItem (.takeStamp (by (split; exacts [(.startJob (.ite (.inc (.ite (.inc (.ite (.noteLaunch
    (.countTimed (.chargeItem (.buildFrame (.numberFrame hk))))) (.chargeItem (.buildFrame (.numberFrame hk))))) (.ite (.noteLaunch
    (.countTimed (.chargeItem (.buildFrame (.numberFrame hk))))) (.chargeItem (.buildFrame (.numberFrame hk)))))) (.ite (.inc (.ite
    (.noteLaunch (.countTimed (.chargeItem (.buildFrame (.numberFrame hk))))) (.chargeItem (.buildFrame (.numberFrame hk))))) (.ite
    (.noteLaunch (.countTimed (.chargeItem (.buildFrame (.numberFrame hk))))) (.chargeItem (.buildFrame (.numberFrame hk))))))), (.ite (.inc
    (.ite (.inc (.ite (.noteLaunch (.countTimed (.chargeItem (.buildFrame (.numberFrame hk))))) (.chargeItem (.buildFrame (.numberFrame
    hk))))) (.ite (.noteLaunch (.countTimed (.chargeItem (.buildFrame (.numberFrame hk))))) (.chargeItem (.buildFrame (.numberFrame hk))))))
    (.ite (.inc (.ite (.noteLaunch (.countTimed (.chargeItem (.buildFrame (.numberFrame hk))))) (.chargeItem (.buildFrame (.numberFrame
    hk))))) (.ite (.noteLaunch (.countTimed (.chargeItem (.buildFrame (.numberFrame hk))))) (.chargeItem (.buildFrame (.numberFrame
    hk))))))])))))

theorem Kept.resumeItem {s₀ s : State} {i : Nat} {it : Item} (hk : Kept s₀ s) : Kept s₀ (State.resumeItem s i it) := by
  unfold State.resumeItem; exact (.setLnPort (.setItem hk))

theorem Kept.lateItem {s₀ s : State} {i : Nat} {it : Item} (hk : Kept s₀ s) : Kept s₀ (State.lateItem s i it) := by
  unfold State.lateItem; exact (.ite (.endItem (.inc (.ite hk (.raise hk)))) (.setItem (.ite hk (.raise hk))))

theorem Kept.goItem {s₀ s : State} {i : Nat} {it : Item} (hk : Kept s₀ s) : Kept s₀ (State.goItem s i it) := by
  unfold State.goItem; exact (.ite (.resumeItem hk) (.ite (.endItem (.inc hk)) (.ite (by ((try dsimp only); split; exacts [(.startItem
    (.lateItem hk)), (.lateItem hk)])) (.startItem hk))))

theorem Kept.discardDown {s₀ s : State} {p : Nat} (hk : Kept s₀ s) : Kept s₀ (State.discardDown s p) := by
  unfold State.discardDown; exact (.foldl hk (fun _ _ k1 => (by (split; exacts [(.ite (.endItem (.inc k1)) k1), k1]))) _)

theorem Kept.cutWire {s₀ s : State} {p : Nat} (hk : Kept s₀ s) : Kept s₀ (State.cutWire s p).1 := by
  unfold State.cutWire; exact (by (split; exacts [hk, (by (split; exacts [hk, (.itePair (.setLnPort hk) hk)]))]))

theorem Kept.holdCut {s₀ s : State} {p : Nat} (hk : Kept s₀ s) : Kept s₀ (State.holdCut s p) := by
  unfold State.holdCut; exact (by (split; exacts [hk, (by ((try dsimp only); split; exacts [(.ite (.cutYield (.cutWire hk)) (.cutWire hk)),
    (.cutWire hk)]))]))

theorem Kept.preemptCheck {s₀ s : State} {p : Nat} (hk : Kept s₀ s) : Kept s₀ (State.preemptCheck s p) := by
  unfold State.preemptCheck; exact (by (split; exacts [hk, (.ite hk (.ite (.holdCut hk) (.ite (.ite (by (split; exacts [(.cutYield (.cutWire
    hk)), (.cutWire hk)])) (.cutWire hk)) (.ite (.cutWire hk) hk))))]))

theorem execFrameStart_kept (p : Fin 10) (s : State) : KeptOut s (execFrameStart p s) := by
  have hk := Kept.refl s
  unfold execFrameStart; exact (KeptOut.next (.ite hk (.ite (.discardDown hk) (.ite (.preemptCheck hk) (.ite hk
    (by ((try dsimp only); split; exacts [(.countBlocked hk), (by (split; exacts [(.goItem (.countBlocked hk)), (.countBlocked
    hk)]))])))))))

theorem Kept.add64 {s₀ s : State} {lo hi : Fld} {n : Nat} (hk : Kept s₀ s) : Kept s₀ (State.add64 s lo hi n) := by
  unfold State.add64; exact (.wr64 hk)

theorem Kept.countSent {s₀ s : State} {p n : Nat} {h : Option Nat} (hk : Kept s₀ s) : Kept s₀ (State.countSent s p n h) := by
  unfold State.countSent; exact (by ((try dsimp only); split; exacts [(.stCount (.ite (.add64 (.add64 hk)) (.fdCount hk))), (.ite (.add64
    (.add64 hk)) (.fdCount hk))]))

theorem Kept.tooLong {s₀ s : State} {i : Nat} {it : Item} (hk : Kept s₀ s) : Kept s₀ (State.tooLong s i it) := by
  unfold State.tooLong; exact (.endItem (.raise (.inc hk)))

theorem Kept.makeReady {s₀ s : State} {i : Nat} {it : Item} (hk : Kept s₀ s) : Kept s₀ (State.makeReady s i it) := by
  unfold State.makeReady; exact (.ite (.tooLong hk) (.setItem hk))

theorem Kept.frameDone {s₀ s : State} {i : Nat} {it : Item} (hk : Kept s₀ s) : Kept s₀ (State.frameDone s i it) := by
  unfold State.frameDone; exact (by ((try dsimp only); split; exacts [(.endItem (.countSent (.ite (.inc (.ite (.inc (.emit hk)) (.emit hk)))
    (.ite (.inc (.emit hk)) (.emit hk))))), (.ite (.ite (.endItem (.setItem (.ite (.countSent (.ite (.inc (.ite (.inc (.emit hk)) (.emit
    hk))) (.ite (.inc (.emit hk)) (.emit hk)))) (.inc (.countSent (.ite (.inc (.ite (.inc (.emit hk)) (.emit hk))) (.ite (.inc (.emit hk))
    (.emit hk)))))))) (.makeReady (.setItem (.ite (.countSent (.ite (.inc (.ite (.inc (.emit hk)) (.emit hk))) (.ite (.inc (.emit hk))
    (.emit hk)))) (.inc (.countSent (.ite (.inc (.ite (.inc (.emit hk)) (.emit hk))) (.ite (.inc (.emit hk)) (.emit hk))))))))) (.endItem
    (.ite (.inc (.setItem (.ite (.countSent (.ite (.inc (.ite (.inc (.emit hk)) (.emit hk))) (.ite (.inc (.emit hk)) (.emit hk)))) (.inc
    (.countSent (.ite (.inc (.ite (.inc (.emit hk)) (.emit hk))) (.ite (.inc (.emit hk)) (.emit hk)))))))) (.setItem (.ite (.countSent (.ite
    (.inc (.ite (.inc (.emit hk)) (.emit hk))) (.ite (.inc (.emit hk)) (.emit hk)))) (.inc (.countSent (.ite (.inc (.ite (.inc (.emit hk))
    (.emit hk))) (.ite (.inc (.emit hk)) (.emit hk))))))))))]))

theorem Kept.emitFrags {r : State} {p : Nat} {out : List Byte} : ∀ {l : List Nat} {a : Nat} {s : State},
    Kept r s → Kept r (s.emitFrags p out a l)
  | [], _, _, h => h
  | _ :: _, _, _, h => by
    simp only [State.emitFrags]
    exact .emitFrags (.emit h)

theorem Kept.wireFree {s₀ s : State} {p stop : Nat} (hk : Kept s₀ s) : Kept s₀ (State.wireFree s p stop) := by
  unfold State.wireFree; exact (.slopesApply (.setLnPort hk))

theorem execFrameEnd_kept (p : Fin 10) (s : State) : KeptOut s (execFrameEnd p s) := by
  have hk := Kept.refl s
  unfold execFrameEnd; exact (KeptOut.next (by (split; exacts [hk, (by (split; exacts [hk, (.ite hk (by ((try dsimp only); split; exacts
    [(.wireFree hk), (by (split; exacts [(.wireFree hk), (by (split; exacts [(.setItem (.ite (.inc (.ite (.wireFree hk) (.emit (.wireFree
    hk)))) (.inc (.inc (.ite (.wireFree hk) (.emit (.wireFree hk))))))), (.frameDone (.wireFree hk))]))]))])))]))])))

theorem Kept.freeSiblings {s₀ s : State} {i : Nat} {it : Item} (hk : Kept s₀ s) : Kept s₀ (State.freeSiblings s i it) := by
  unfold State.freeSiblings; exact (.ite hk (.foldl hk (fun _ _ k1 => (.ite k1 (.setItem k1))) _))

theorem execFetchStart_kept (i : Nat) (s : State) : KeptOut s (execFetchStart i s) := by
  have hk := Kept.refl s
  unfold execFetchStart; exact (KeptOut.next (by (split; exacts [hk, (.ite hk (by (split; exacts [(.ite (.ite (.setItem hk) (.lateItem hk))
    hk), (.ite (.setItem (.freeSiblings hk)) hk)])))])))

theorem execFetchDone_kept (i : Nat) (s : State) : KeptOut s (execFetchDone i s) := by
  have hk := Kept.refl s
  unfold execFetchDone; exact (KeptOut.next (by (split; exacts [hk, (.ite (.makeReady hk) hk)])))

theorem execJobLate_kept (i : Nat) (s : State) : KeptOut s (execJobLate i s) := by
  have hk := Kept.refl s
  unfold execJobLate; exact (KeptOut.next (by (split; exacts [hk, (.ite (.ite (.lateItem hk) (.itemYield hk)) hk)])))

theorem Kept.mmActive {s₀ s : State} {p : Nat} (hk : Kept s₀ s) : Kept s₀ (State.mmActive s p) := by
  unfold State.mmActive; exact (.wr hk)

theorem Kept.mmVerify {s₀ s : State} {p : Nat} (hk : Kept s₀ s) : Kept s₀ (State.mmVerify s p) := by
  unfold State.mmVerify; exact (.setLnPort (.wr hk))

theorem Kept.mmUpdate {s₀ s : State} {p : Nat} (hk : Kept s₀ s) : Kept s₀ (State.mmUpdate s p) := by
  unfold State.mmUpdate; exact (.mmActive (.ite (.setLnPort (.wr hk)) (.ite (.setLnPort (.wr hk)) (.ite (.mmVerify hk) hk))))

theorem execVerifyTimeout_kept (p : Fin 10) (s : State) : KeptOut s (execVerifyTimeout p s) := by
  have hk := Kept.refl s
  unfold execVerifyTimeout; exact (KeptOut.next (.ite (.ite (.setLnPort hk) (.raise (.inc (.wr hk)))) hk))

theorem Kept.respondRx {s₀ s : State} {p : Nat} (hk : Kept s₀ s) : Kept s₀ (State.respondRx s p) := by
  unfold State.respondRx; exact (.ite (.mmActive (.setLnPort (.wr hk))) hk)

theorem execRespondReceived_kept (p : Fin 10) (s : State) : KeptOut s (execRespondReceived p s) := by
  have hk := Kept.refl s
  unfold execRespondReceived; exact (KeptOut.next (.looped hk (fun _ k1 => (.ite (.respondRx k1) k1))))

theorem execVerifyReceived_kept (p : Fin 10) (s : State) : KeptOut s (execVerifyReceived p s) := by
  have hk := Kept.refl s
  unfold execVerifyReceived; exact (KeptOut.next (.looped hk (fun _ k1 => (.ite (.setLnPort k1) k1))))

theorem execMpacketSend_kept (p : Fin 10) (s : State) : KeptOut s (execMpacketSend p s) := by
  have hk := Kept.refl s
  unfold execMpacketSend; exact (KeptOut.next (.ite (.emit (.setLnPort hk)) hk))

theorem Kept.verifyRestart {s₀ s : State} {p : Nat} (hk : Kept s₀ s) : Kept s₀ (State.verifyRestart s p) := by
  unfold State.verifyRestart; exact (.ite (.ite (.mmVerify hk) (.wr hk)) hk)

theorem execVerifyRestart_kept (m : Nat) (p : Fin 10) (s : State) : KeptOut s (execVerifyRestart m p s) := by
  have hk := Kept.refl s
  unfold execVerifyRestart; exact (KeptOut.next (.busW hk (fun _ k1 => (.verifyRestart k1))))

theorem Kept.holdNow {s₀ s : State} {p : Nat} (hk : Kept s₀ s) : Kept s₀ (State.holdNow s p) := by
  unfold State.holdNow; exact (.holdCut (.inc (.setHold hk)))

theorem execHoldRequest_kept (p : Fin 10) (s : State) : KeptOut s (execHoldRequest p s) := by
  have hk := Kept.refl s
  unfold execHoldRequest; exact (KeptOut.next (by (split; exacts [(.ite (.holdNow (.setKnPort hk)) hk), hk])))

theorem execReleaseRequest_kept (p : Fin 10) (s : State) : KeptOut s (execReleaseRequest p s) := by
  have hk := Kept.refl s
  unfold execReleaseRequest; exact (KeptOut.next (by (split; exacts [(.ite (.setHold (.setKnPort hk)) hk), hk])))

theorem execEngineRebind_kept (p : Fin 10) (s : State) : KeptOut s (execEngineRebind p s) := by
  have hk := Kept.refl s
  unfold execEngineRebind; exact (KeptOut.next (.ite hk (.ite (.mk_ (.traceDecision (.inc (.wr (.ite (.wr hk) hk))))) (.ite hk (.yieldTo (.mk_
    hk))))))

end Sys2Proof.Machine
end

