-- ==== Sys2Proof/Laws/KeptTimeStep.lean ====
section
/-!
SUPPORT. What the operations of Machine/TimeStep.lean keep (Laws/Kept.lean).
-/

namespace Sys2Proof.Machine

theorem Kept.moveDt {s₀ s : State} {d : Int} (hk : Kept s₀ s) : Kept s₀ (State.moveDt s d) := by
  unfold State.moveDt; exact (.mkTb hk)

theorem Kept.reepArm {s₀ s : State} {anchor : Nat} (hk : Kept s₀ s) : Kept s₀ (State.reepArm s anchor).1 := by
  unfold State.reepArm; exact (.itePair (.wr (.wr hk)) (.itePair (.wr hk) (.mkTb hk)))

theorem Kept.shiftReg {s₀ s : State} {d : Int} {lo hi : Fld} (hk : Kept s₀ s) : Kept s₀ (State.shiftReg s d lo hi) := by
  unfold State.shiftReg; exact (.wr64 hk)

theorem Kept.shiftPort {s₀ s : State} {d : Int} {p : Nat} (hk : Kept s₀ s) : Kept s₀ (State.shiftPort s d p) := by
  unfold State.shiftPort; exact (.setKnPort (.ite (.shiftReg (.ite (.ite hk (.shiftReg hk)) (.shiftReg (.ite hk (.shiftReg hk))))) (.ite (.ite
    hk (.shiftReg hk)) (.shiftReg (.ite hk (.shiftReg hk))))))

theorem Kept.shiftGate {s₀ s : State} {d : Int} {g : Nat} (hk : Kept s₀ s) : Kept s₀ (State.shiftGate s d g) := by
  unfold State.shiftGate; exact (.setSg (.mk_ hk))

theorem Kept.shiftGates {s₀ s : State} {d : Int} (hk : Kept s₀ s) : Kept s₀ (State.shiftGates s d) := by
  unfold State.shiftGates; exact (.foldl hk (fun _ _ k1 => (.ite (.shiftGate k1) k1)) _)

theorem Kept.shiftTb {s₀ s : State} {d : Int} (hk : Kept s₀ s) : Kept s₀ (State.shiftTb s d) := by
  unfold State.shiftTb; exact (.mkTb hk)

theorem Kept.makeDue {s₀ s : State} {b d : Int} (hk : Kept s₀ s) : Kept s₀ (State.makeDue s b d) := by
  unfold State.makeDue; exact (.mk_ hk)

theorem Kept.notRepeated {s₀ s : State} {b d : Int} (hk : Kept s₀ s) : Kept s₀ (State.notRepeated s b d) := by
  unfold State.notRepeated; exact (.foldl (.mk_ hk) (fun _ _ k1 => (.yieldTo k1)) _)

theorem Kept.shiftTw {s₀ s : State} {d : Int} (hk : Kept s₀ s) : Kept s₀ (State.shiftTw s d) := by
  unfold State.shiftTw; exact (.mk_ hk)

theorem Kept.taAnew {s₀ s : State}  (hk : Kept s₀ s) : Kept s₀ (State.taAnew s) := by
  unfold State.taAnew; exact (.mk_ hk)

theorem Kept.applyStep {s₀ s : State} {b d : Int} (hk : Kept s₀ s) : Kept s₀ (State.applyStep s b d) := by
  unfold State.applyStep; exact (.ite (.makeDue (.hzDrain (.taAnew (.shiftTw (.shiftTb (.shiftGates (.foldl (.moveDt hk) (fun _ _ k1 =>
    (.shiftPort k1)) _))))))) (.notRepeated (.hzDrain (.taAnew (.shiftTw (.shiftTb (.shiftGates (.foldl (.moveDt hk) (fun _ _ k1 =>
    (.shiftPort k1)) _))))))))

theorem Kept.stepGo {s₀ s : State}  (hk : Kept s₀ s) : Kept s₀ (State.stepGo s) := by
  unfold State.stepGo; exact (.ite (.recordStep (.applyStep hk)) (.raise0 (.wr hk)))

theorem execStepGo_kept (m : Nat) (s : State) : KeptOut s (execStepGo m s) := by
  have hk := Kept.refl s
  unfold execStepGo; exact (KeptOut.next (.busW hk (fun _ k1 => (.stepGo k1))))

theorem Kept.reepDone {s₀ s : State} {b d : Int} (hk : Kept s₀ s) : Kept s₀ (State.reepDone s b d) := by
  unfold State.reepDone; exact (.raise0 (.ite (.leaveJump (.recordStep hk)) (.recordStep hk)))

theorem execReepochApply_kept  (s : State) : KeptOut s (execReepochApply s) := by
  have hk := Kept.refl s
  unfold execReepochApply; exact (KeptOut.next (by (split; exacts [hk, (.ite (.reepDone (.applyStep (.mkTb hk))) hk)])))

end Sys2Proof.Machine
end

