-- ==== Sys2Proof/Laws/KeptTwin.lean ====
section
/-!
SUPPORT. What the operations of Machine/Twin.lean keep (Laws/Kept.lean).
-/

namespace Sys2Proof.Machine

theorem Kept.toutDrive {s₀ s : State} {n : Nat} (hk : Kept s₀ s) : Kept s₀ (State.toutDrive s n) := by
  unfold State.toutDrive; exact (.ite (.emit (.mkTb hk)) hk)

theorem Kept.toutAll {s₀ s : State}  (hk : Kept s₀ s) : Kept s₀ (State.toutAll s) := by
  unfold State.toutAll; exact (.toutDrive (.toutDrive (.toutDrive (.toutDrive hk))))

theorem Kept.setRole {s₀ s0 : State} {r : Nat} (hk : Kept s₀ s0) : Kept s₀ (State.setRole s0 r) := by
  unfold State.setRole; exact (.toutAll (.wr (.wr (.ite (.mk_ hk) hk))))

theorem Kept.dolnosSend {s₀ s : State} {type flags : Nat} {payload : List Byte} (hk : Kept s₀ s) : Kept s₀ (State.dolnosSend s type flags
    payload) := by
  unfold State.dolnosSend; exact (.emit hk)

theorem Kept.dolnosAck {s₀ s : State} {nak : Bool} (hk : Kept s₀ s) : Kept s₀ (State.dolnosAck s nak) := by
  unfold State.dolnosAck; exact (.dolnosSend hk)

theorem Kept.dolnosReliable {s₀ s : State} {type : Nat} {payload : List Byte} (hk : Kept s₀ s) : Kept s₀ (State.dolnosReliable s type
    payload) := by
  unfold State.dolnosReliable; exact (.mk_ (.emit hk))

theorem Kept.resend {s₀ s : State}  (hk : Kept s₀ s) : Kept s₀ (State.resend s) := by
  unfold State.resend; exact (.mk_ (.foldl hk (fun _ _ k1 => (.inc (.emit k1))) _))

theorem Kept.sendReep {s₀ s : State}  (hk : Kept s₀ s) : Kept s₀ (State.sendReep s) := by
  unfold State.sendReep; exact (by (split; exacts [(.ite (.dolnosReliable (.mk_ hk)) hk), hk]))

theorem Kept.takeAck {s₀ s : State} {flags ack : Nat} (hk : Kept s₀ s) : Kept s₀ (State.takeAck s flags ack) := by
  unfold State.takeAck; exact (.ite hk (.sendReep (.ite (.resend (.mk_ hk)) (.mk_ hk))))

theorem Kept.takeHeader {s₀ s : State} {data : List Byte} (hk : Kept s₀ s) : Kept s₀ (State.takeHeader s data) := by
  unfold State.takeHeader; exact (.mk_ (.takeAck hk))

theorem Kept.announce {s₀ s : State} {type : Nat} (hk : Kept s₀ s) : Kept s₀ (State.announce s type) := by
  unfold State.announce; exact (.ite (.emit (.ite (.dolnosSend hk) hk)) (.ite (.dolnosSend hk) hk))

theorem Kept.setTests {s₀ s : State} {t : Nat} (hk : Kept s₀ s) : Kept s₀ (State.setTests s t) := by
  unfold State.setTests; exact (.ite (.raise0 (.wr (.mk_ hk))) (.wr (.mk_ hk)))

theorem Kept.putHealth {s₀ s : State} {f : Nat → Fld} {rec_ : List Byte} (hk : Kept s₀ s) : Kept s₀ (State.putHealth s f rec_) := by
  unfold State.putHealth; exact (.foldl hk (fun _ _ k1 => (.wr k1)) _)

theorem Kept.seeEpoch {s₀ s : State} {e : Nat} (hk : Kept s₀ s) : Kept s₀ (State.seeEpoch s e) := by
  unfold State.seeEpoch; exact (.wr hk)

theorem Kept.hzWipe {s₀ s : State}  (hk : Kept s₀ s) : Kept s₀ (State.hzWipe s) := by
  unfold State.hzWipe; exact (.hzLevel (.mk_ hk))

theorem Kept.setGenSeq {s₀ s : State} {g n : Nat} (hk : Kept s₀ s) : Kept s₀ (State.setGenSeq s g n) := by
  unfold State.setGenSeq; exact (.mk_ hk)

theorem Kept.enterSync {s₀ s : State}  (hk : Kept s₀ s) : Kept s₀ (State.enterSync s) := by
  unfold State.enterSync; exact (.wr (.mk_ (.foldl (.hzWipe (.setRole hk)) (fun _ _ k1 => (.setGenSeq k1)) _)))

theorem Kept.dualSync {s₀ s : State}  (hk : Kept s₀ s) : Kept s₀ (State.dualSync s) := by
  unfold State.dualSync; exact (.mkTb hk)

theorem Kept.claim {s₀ s : State}  (hk : Kept s₀ s) : Kept s₀ (State.claim s) := by
  unfold State.claim; exact (.logEvent (.raise0 (.inc (.wr (.mk_ (.announce (.foldl (.dualSync (.setRole (.wr64 (.wr hk)))) (fun _ _ k1 =>
    (.setGenSeq k1)) _)))))))

theorem Kept.yieldLease {s₀ s : State}  (hk : Kept s₀ s) : Kept s₀ (State.yieldLease s) := by
  unfold State.yieldLease; exact (.logEvent (.raise0 (.inc (.enterSync hk))))

theorem Kept.seeLease {s₀ s : State} {e id : Nat} (hk : Kept s₀ s) : Kept s₀ (State.seeLease s e id) := by
  unfold State.seeLease; exact (.ite (.yieldLease (.seeEpoch hk)) (.seeEpoch hk))

theorem Kept.twinEnable {s₀ s : State}  (hk : Kept s₀ s) : Kept s₀ (State.twinEnable s) := by
  unfold State.twinEnable; exact (.mk_ (.setRole (.wr hk)))

theorem Kept.twinDisable {s₀ s : State}  (hk : Kept s₀ s) : Kept s₀ (State.twinDisable s) := by
  unfold State.twinDisable; exact (.mk_ (.wr (.wr (.wr (.wr (.wr (.wr (.setRole (.wr hk)))))))))

theorem Kept.twEnWrite {s₀ s : State} {b : Bool} (hk : Kept s₀ s) : Kept s₀ (State.twEnWrite s b) := by
  unfold State.twEnWrite; exact (.ite hk (.ite (.twinEnable hk) (.twinDisable hk)))

theorem execTwinEnable_kept (m : Nat) (s : State) : KeptOut s (execTwinEnable m s) := by
  have hk := Kept.refl s
  unfold execTwinEnable; exact (KeptOut.next (.busW hk (fun _ k1 => (.twEnWrite k1))))

theorem execTwinDisable_kept (m : Nat) (s : State) : KeptOut s (execTwinDisable m s) := by
  have hk := Kept.refl s
  unfold execTwinDisable; exact (KeptOut.next (.busW hk (fun _ k1 => (.twEnWrite k1))))

theorem execHeartbeatTx_kept  (s : State) : KeptOut s (execHeartbeatTx s) := by
  have hk := Kept.refl s
  unfold execHeartbeatTx; exact (KeptOut.next (.ite hk (.ite (.inc (.emit (.ite (.inc (.dolnosSend (.putHealth (.mk_ (.setTests hk))))) (.mk_
    (.setTests hk))))) (.ite (.inc (.dolnosSend (.putHealth (.mk_ (.setTests hk))))) (.mk_ (.setTests hk))))))

theorem Kept.twinOffset {s₀ s : State} {t1 t2 t3 t4 : Int} (hk : Kept s₀ s) : Kept s₀ (State.twinOffset s t1 t2 t3 t4) := by
  unfold State.twinOffset; exact (.ite (.ite (.raise0 (.wr (.mk_ (.wr (.wr hk))))) (.mk_ (.wr (.wr hk)))) (.ite (.wr (.mk_ (.wr (.wr hk))))
    (.mk_ (.wr (.wr hk)))))

theorem Kept.diffBit {s₀ s : State} {f : Fld} {differs : Bool} (hk : Kept s₀ s) : Kept s₀ (State.diffBit s f differs) := by
  unfold State.diffBit; exact (.ite (.raise0 (.wr hk)) (.wr hk))

theorem Kept.chkCompare {s₀ s : State}  (hk : Kept s₀ s) : Kept s₀ (State.chkCompare s) := by
  unfold State.chkCompare; exact (by (split; exacts [(.ite (.ite (.mk_ hk) (.raise0 (.inc (.wr (.mk_ hk))))) hk), hk]))

theorem Kept.pathBeat {s₀ s : State} {pulse : Bool} (hk : Kept s₀ s) : Kept s₀ (State.pathBeat s pulse) := by
  unfold State.pathBeat; exact (.ite (.ite (.wr (.inc (.mk_ hk))) (.inc (.mk_ hk))) (.ite (.wr (.mk_ (.inc (.mk_ hk)))) (.inc (.mk_ hk))))

theorem Kept.peerRecord {s₀ s : State} {payload : List Byte} {at_ : Nat} (hk : Kept s₀ s) : Kept s₀ (State.peerRecord s payload at_) := by
  unfold State.peerRecord; exact (.chkCompare (.ite (.mk_ (.wr64 (.diffBit (.diffBit (.putHealth hk))))) (.twinOffset (.mk_ (.wr64 (.diffBit
    (.diffBit (.putHealth hk))))))))

theorem Kept.beatRole {s₀ s : State} {role epoch id : Nat} (hk : Kept s₀ s) : Kept s₀ (State.beatRole s role epoch id) := by
  unfold State.beatRole; exact (.ite (.ite (.enterSync hk) (.ite (.ite (.claim hk) (.enterSync hk)) hk)) (.ite (.seeLease hk) hk))

theorem execHeartbeatRx_kept (pulse : Bool) (pair : Word) (data : List Byte) (ago : Nat) (s : State) : KeptOut s (execHeartbeatRx pulse pair
    data ago s) := by
  have hk := Kept.refl s
  unfold execHeartbeatRx; exact (KeptOut.next (.ite hk (.ite (.inc hk) (.ite (.raise0 (.inc hk)) (.beatRole (.ite (.mk_ (.seeEpoch (.wr (.wr
    (.wr (.pathBeat (.ite hk (.takeHeader hk)))))))) (.peerRecord (.mk_ (.seeEpoch (.wr (.wr (.wr (.pathBeat (.ite hk (.takeHeader
    hk)))))))))))))))

theorem Kept.bufToDirty {s₀ s : State}  (hk : Kept s₀ s) : Kept s₀ (State.bufToDirty s) := by
  unfold State.bufToDirty; exact (.foldl (.mk_ hk) (fun _ _ k1 => (.mirDirty k1)) _)

theorem execPathLoss_kept (pulse : Bool) (s : State) : KeptOut s (execPathLoss pulse s) := by
  have hk := Kept.refl s
  unfold execPathLoss; exact (KeptOut.next (.ite (.ite (.ite (.raise0 (.inc (.wr (.mk_ hk)))) (.bufToDirty (.ite (.wr (.mk_ (.raise0 (.inc
    (.wr (.mk_ hk)))))) (.mk_ (.raise0 (.inc (.wr (.mk_ hk)))))))) (.mk_ hk)) hk))

theorem execFormWaitExpiry_kept  (s : State) : KeptOut s (execFormWaitExpiry s) := by
  have hk := Kept.refl s
  unfold execFormWaitExpiry; exact (KeptOut.next (.ite (.ite (.claim (.raise0 (.mk_ hk))) (.raise0 (.mk_ hk))) hk))

theorem execLeaseExpiry_kept  (s : State) : KeptOut s (execLeaseExpiry s) := by
  have hk := Kept.refl s
  unfold execLeaseExpiry; exact (KeptOut.next (.ite hk (.ite (.ite (.claim (.wr hk)) (.wr hk)) (.ite (.raise0 (.wr hk)) (.wr hk)))))

theorem execClaimRx_kept (pulse : Bool) (pair epoch : Word) (id : Fin 2) (s : State) : KeptOut s (execClaimRx pulse pair epoch id s) := by
  have hk := Kept.refl s
  unfold execClaimRx; exact (KeptOut.next (.ite hk (.seeLease hk)))

theorem execReleaseRx_kept (pulse : Bool) (pair epoch : Word) (id : Fin 2) (s : State) : KeptOut s (execReleaseRx pulse pair epoch id s) :=
    by
  have hk := Kept.refl s
  unfold execReleaseRx; exact (KeptOut.next (.ite hk (.ite (.claim (.seeEpoch hk)) (.seeEpoch hk))))

theorem Kept.bbClaimRx {s₀ s : State} {p : Nat} {f : List Byte} (hk : Kept s₀ s) : Kept s₀ (State.bbClaimRx s p f) := by
  unfold State.bbClaimRx; exact (.ite (.inc hk) (.ite (.seeEpoch (.inc hk)) (.ite (.yieldLease (.seeEpoch (.inc hk))) (.ite (.ownFrame (.mk_
    (.seeEpoch (.inc hk)))) (.seeEpoch (.inc hk))))))

theorem execBackboneClaimRx_kept (p : Fin 2) (payload : List Byte) (s : State) : KeptOut s (execBackboneClaimRx p payload s) := by
  have hk := Kept.refl s
  unfold execBackboneClaimRx; exact (KeptOut.next (.ite (.bbClaimRx hk) hk))

theorem execBackboneClaimTx_kept  (s : State) : KeptOut s (execBackboneClaimTx s) := by
  have hk := Kept.refl s
  unfold execBackboneClaimTx; exact (KeptOut.next (.ite hk (.ite (.ownFrame (.ite (.ownFrame (.mk_ hk)) (.mk_ hk))) (.ite (.ownFrame (.mk_
    hk)) (.mk_ hk)))))

theorem Kept.twDone {s₀ s : State} {code : Nat} (hk : Kept s₀ s) : Kept s₀ (State.twDone s code) := by
  unfold State.twDone; exact (.wr (.wr hk))

theorem Kept.twRelease {s₀ s : State}  (hk : Kept s₀ s) : Kept s₀ (State.twRelease s) := by
  unfold State.twRelease; exact (.ite (.twDone hk) (.ite (.twDone hk) (.ite (.twDone hk) (.ite (.twDone hk) (.twDone (.setRole (.mk_
    (.announce (.announce (.announce hk))))))))))

theorem Kept.forceClaim {s₀ s : State}  (hk : Kept s₀ s) : Kept s₀ (State.forceClaim s) := by
  unfold State.forceClaim; exact (.ite (.twDone hk) (.ite (.twDone hk) (.twDone (.claim hk))))

theorem Kept.rejoin {s₀ s : State}  (hk : Kept s₀ s) : Kept s₀ (State.rejoin s) := by
  unfold State.rejoin; exact (.ite (.twDone hk) (.ite (.twDone (.enterSync hk)) (.ite (.twDone hk) (.twDone hk))))

theorem execTwRelease_kept (m : Nat) (s : State) : KeptOut s (execTwRelease m s) := by
  have hk := Kept.refl s
  unfold execTwRelease; exact (KeptOut.next (.busW hk (fun _ k1 => (.twRelease k1))))

theorem execForceClaim_kept (m : Nat) (s : State) : KeptOut s (execForceClaim m s) := by
  have hk := Kept.refl s
  unfold execForceClaim; exact (KeptOut.next (.busW hk (fun _ k1 => (.forceClaim k1))))

theorem execRejoin_kept (m : Nat) (s : State) : KeptOut s (execRejoin m s) := by
  have hk := Kept.refl s
  unfold execRejoin; exact (KeptOut.next (.busW hk (fun _ k1 => (.rejoin k1))))

theorem Kept.sendSeqs {s₀ s : State}  (hk : Kept s₀ s) : Kept s₀ (State.sendSeqs s) := by
  unfold State.sendSeqs; exact (.ite hk (.ite (.mk_ hk) (.ite hk (.dolnosReliable (.mk_ hk)))))

theorem Kept.sendMirror {s₀ s : State}  (hk : Kept s₀ s) : Kept s₀ (State.sendMirror s) := by
  unfold State.sendMirror; exact (.ite hk (.add (.dolnosReliable (.mk_ hk))))

theorem execMirrorBatchClose_kept  (s : State) : KeptOut s (execMirrorBatchClose s) := by
  have hk := Kept.refl s
  unfold execMirrorBatchClose; exact (KeptOut.next (.ite (.sendMirror (.sendSeqs hk)) (.sendSeqs hk)))

theorem Kept.mirState {s₀ s : State}  (hk : Kept s₀ s) : Kept s₀ (State.mirState s) := by
  unfold State.mirState; exact (.wr hk)

theorem execDirtyMapFlush_kept  (s : State) : KeptOut s (execDirtyMapFlush s) := by
  have hk := Kept.refl s
  unfold execDirtyMapFlush; exact (KeptOut.next (by (split; exacts [hk, (.ite (by ((try dsimp only); split; exacts [(.mirSend (.mirState (.mk_
    hk))), (.mirState (.mk_ hk))])) hk)])))

theorem execDolnosRetransmit_kept  (s : State) : KeptOut s (execDolnosRetransmit s) := by
  have hk := Kept.refl s
  unfold execDolnosRetransmit; exact (KeptOut.next (.ite (.resend hk) hk))

theorem Kept.reepRx {s₀ s : State} {d b : Int} (hk : Kept s₀ s) : Kept s₀ (State.reepRx s d b) := by
  unfold State.reepRx; exact (.ite (.ite (.mkTb hk) (.raise0 (.wr hk))) hk)

theorem execReepRx_kept (delta bnd : Int) (s : State) : KeptOut s (execReepRx delta bnd s) := by
  have hk := Kept.refl s
  unfold execReepRx; exact (KeptOut.next (.reepRx hk))

theorem Kept.seqApply {s₀ s : State} {b : List Byte} (hk : Kept s₀ s) : Kept s₀ (State.seqApply s b) := by
  unfold State.seqApply; exact (.ite hk (.setGenSeq hk))

theorem Kept.queueMirror {s₀ s : State} {l : List (List Byte)} {rs : Bool} (hk : Kept s₀ s) : Kept s₀ (State.queueMirror s l rs) := by
  unfold State.queueMirror; exact (.mk_ hk)

theorem Kept.dolnosApply {s₀ s : State} {type : Nat} {payload : List Byte} (hk : Kept s₀ s) : Kept s₀ (State.dolnosApply s type payload) :=
    by
  unfold State.dolnosApply; exact (by (split; exacts [(.add (.queueMirror (.foldl hk (fun _ _ k1 => (.hzLate k1)) _))), (.foldl hk (fun _ _ k1
    => (.seqApply k1)) _), (.reepRx hk), (.ite (.wr (.add (.queueMirror hk))) hk), (.ite (.foldl hk (fun _ _ k1 => (.seqApply k1)) _) hk),
    (.ite (.mk_ hk) hk)]))

theorem execDolnosFrameRx_kept (data : List Byte) (s : State) : KeptOut s (execDolnosFrameRx data s) := by
  have hk := Kept.refl s
  unfold execDolnosFrameRx; exact (KeptOut.next (.ite hk (.ite (.dolnosAck hk) (.ite (.inc hk) (.ite (.takeHeader hk) (.ite (.dolnosAck
    (.takeHeader hk)) (.dolnosAck (.dolnosApply (.mk_ (.takeHeader hk))))))))))

theorem Kept.reepochArm {s₀ s : State} {anchor : Nat} (hk : Kept s₀ s) : Kept s₀ (State.reepochArm s anchor) := by
  unfold State.reepochArm; exact (.ite (by (split; exacts [(.sendReep (.mk_ (.reepArm hk))), (.reepArm hk)])) (.reepArm hk))

theorem Kept.reepCtrl {s₀ s : State} {anchor : Nat} {arm : Bool} (hk : Kept s₀ s) : Kept s₀ (State.reepCtrl s anchor arm) := by
  unfold State.reepCtrl; exact (.ite (.reepochArm (.ite hk (.wr hk))) (.ite hk (.wr hk)))

theorem execReepochArm_kept (m anchor : Nat) (s : State) : KeptOut s (execReepochArm m anchor s) := by
  have hk := Kept.refl s
  unfold execReepochArm; exact (KeptOut.next (.busW hk (fun _ k1 => (.reepCtrl k1))))

theorem execResyncRequest_kept  (s : State) : KeptOut s (execResyncRequest s) := by
  have hk := Kept.refl s
  unfold execResyncRequest; exact (KeptOut.next (.ite (.wr (.wr (.wr (.mk_ hk)))) hk))

theorem execResyncWalk_kept  (s : State) : KeptOut s (execResyncWalk s) := by
  have hk := Kept.refl s
  unfold execResyncWalk; exact (KeptOut.next (.ite hk (.ite (.dolnosReliable (.mk_ (.mk_ hk))) (.ite (.mk_ hk)
    (by ((try dsimp only); split; exacts [(.dolnosReliable (.mk_ (.mk_ hk))), (.dolnosReliable (.mk_ (.mk_ hk)))]))))))

theorem execResyncComplete_kept  (s : State) : KeptOut s (execResyncComplete s) := by
  have hk := Kept.refl s
  unfold execResyncComplete; exact (KeptOut.next (by (split; exacts [hk, (.ite (.wr (.wr (.inc (.setRole (.mk_ hk))))) hk)])))

theorem execSelftestAssembly_kept (good : Bool) (s : State) : KeptOut s (execSelftestAssembly good s) := by
  have hk := Kept.refl s
  unfold execSelftestAssembly; exact (KeptOut.next (.ite (.setTests (.mk_ hk)) hk))

theorem Kept.chkNote {s₀ s : State} {dtl tpl crc : Nat} (hk : Kept s₀ s) : Kept s₀ (State.chkNote s dtl tpl crc) := by
  unfold State.chkNote; exact (.ite (.mk_ hk) hk)

theorem execCheckWindowComplete_kept  (s : State) : KeptOut s (execCheckWindowComplete s) := by
  have hk := Kept.refl s
  unfold execCheckWindowComplete; exact (KeptOut.next (.ite hk (.ite hk (.chkCompare (.mk_ hk)))))

end Sys2Proof.Machine
end

