-- ==== Sys2Proof/Laws/KeptReceive.lean ====
section
/-!
SUPPORT. What the operations of Machine/Receive.lean keep (Laws/Kept.lean).
-/

namespace Sys2Proof.Machine

theorem Kept.setRx {s₀ s : State} {k : Nat} {v : Option RxFrame} (hk : Kept s₀ s) : Kept s₀ (State.setRx s k v) := by
  unfold State.setRx; exact (.mk_ hk)

theorem Kept.fieldAnswer {s₀ s : State} {p : Nat} {f : List Byte} {t : Stamp} (hk : Kept s₀ s) : Kept s₀ (State.fieldAnswer s p f t) := by
  unfold State.fieldAnswer; exact (by (split; exacts [hk, (.ite (.ownItem (.ptpAnswer hk)) hk)]))

theorem Kept.macControlRx {s₀ s : State} {p : Nat} {f : List Byte} (hk : Kept s₀ s) : Kept s₀ (State.macControlRx s p f) := by
  unfold State.macControlRx; exact (.ite (.pauseRx hk) (.ite (.pfcRx hk) (.inc hk)))

theorem Kept.fwdAdmit {s₀ s : State} {fr : RxFrame} {it : Item} (hk : Kept s₀ s) : Kept s₀ (State.fwdAdmit s fr it).1 := by
  unfold State.fwdAdmit; exact (.itePair (by ((try dsimp only); exact (.admitItem hk))) (.inc hk))

theorem Kept.cutThrough {s₀ s : State} {fr : RxFrame} (hk : Kept s₀ s) : Kept s₀ (State.cutThrough s fr).1 := by
  unfold State.cutThrough; exact (by (split; exacts [hk, (.itePair (.fwdAdmit hk) hk)]))

theorem Kept.lookUp {s₀ s : State} {fr : RxFrame} {f : List Byte} (hk : Kept s₀ s) : Kept s₀ (State.lookUp s fr f).1 := by
  unfold State.lookUp; exact (by (split; exacts [hk, (.itePair (by ((try dsimp only); exact (.mapBegin hk))) hk)]))

theorem Kept.lookedUp {s₀ s : State} {fr : RxFrame} {head : List Byte} (hk : Kept s₀ s) : Kept s₀ (State.lookedUp s fr head) := by
  unfold State.lookedUp; exact (by ((try dsimp only); split; exacts [(by (split; exacts [(.setRx hk), (.ite (.setRx hk) (.setRx (.cutThrough
    hk)))])), (.setRx (.cutThrough hk))]))

theorem execStreamLookup_kept (x : RxLane) (head : List Byte) (ago : Nat) (s : State) : KeptOut s (execStreamLookup x head
    ago s) := by
  have hk := Kept.refl s
  unfold execStreamLookup; exact (KeptOut.next (.ite hk (.ite (.setRx hk) (.ite (.setRx (.itePair (.cutThrough hk) hk)) (.lookedUp (.lookUp
    hk))))))

theorem Kept.evalRx {s₀ s : State} {k : Nat} (hk : Kept s₀ s) : Kept s₀ (State.evalRx s k) := by
  unfold State.evalRx; exact (by (split; exacts [hk, (by ((try dsimp only); split; exacts [(.ite (by (split; exacts [(.setRx
    (.cutThrough (.recEval hk))), (.setRx (.recEval hk))])) hk), hk]))]))

theorem execRecoveryEvaluate_kept (x : RxLane) (s : State) : KeptOut s (execRecoveryEvaluate x s) := by
  have hk := Kept.refl s
  unfold execRecoveryEvaluate; exact (KeptOut.next (.evalRx (.foldl hk (fun _ _ k1 => (.foldl k1 (fun _ _ k2 => (.ite (.evalRx k2) k2)) _))
    _)))

theorem Kept.ctFinish {s₀ s : State} {i : Nat} {content fresh : List Byte} {bad : Bool} {chain : Option Nat} (hk : Kept s₀ s) : Kept s₀
    (State.ctFinish s i content fresh bad chain).1 := by
  unfold State.ctFinish; exact (by (split; exacts [hk, (.itePair (by ((try dsimp only); split; exacts [(.ite (.setLnPort (.emitFrags (.setItem
    (.ite (.raise (.inc (.foldl hk (fun _ _ k1 => (.shDebit k1)) _))) (.foldl hk (fun _ _ k1 => (.shDebit k1)) _))))) (.emitFrags (.setItem
    (.ite (.raise (.inc (.foldl hk (fun _ _ k1 => (.shDebit k1)) _))) (.foldl hk (fun _ _ k1 => (.shDebit k1)) _))))), (.emitFrags (.setItem
    (.ite (.raise (.inc (.foldl hk (fun _ _ k1 => (.shDebit k1)) _))) (.foldl hk (fun _ _ k1 => (.shDebit k1)) _))))])) (.itePair (.dropItem
    hk) (by ((try dsimp only); exact (.ite (.makeReady (.setItem hk)) (.setItem hk))))))]))

theorem Kept.rxNoBuf {s₀ s : State} {q : Nat} (hk : Kept s₀ s) : Kept s₀ (State.rxNoBuf s q) := by
  unfold State.rxNoBuf; exact (.raise0 (.inc hk))

theorem Kept.rxRead {s₀ s : State} {q p c : Nat} {w : HostWrite} (hk : Kept s₀ s) : Kept s₀ (State.rxRead s q p c w) := by
  unfold State.rxRead; exact (.ite (.mk_ (.toHost (.shareHold hk))) (.releaseHold (.toHost (.shareHold hk))))

theorem Kept.rxDeliver {s₀ s : State} {q p : Nat} {h : Option Nat} {data : List Byte} {t : Stamp} {cell : Nat} (hk : Kept s₀ s) : Kept s₀
    (State.rxDeliver s q p h data t cell) := by
  unfold State.rxDeliver; exact (.ite (.rxNoBuf hk) (by (split; exacts [(.rxNoBuf hk), (.ite (.inc hk) (.ite (.fold hk) (.post (.rxRead (.wr
    (.setSq hk))))))])))

theorem Kept.chooseRxq {s₀ s : State} {h set : Nat} (hk : Kept s₀ s) : Kept s₀ (State.chooseRxq s h set).1 := by
  unfold State.chooseRxq; exact (by ((try dsimp only); split; exacts [(by (split; exacts [(.noChoice (.mk_ hk)),
    (by ((try dsimp only); exact (.traceDecision (.inc (.mk_ (.mk_ hk))))))])), (.itePair (by (split; exacts [(.noChoice
    (.mk_ hk)), (by ((try dsimp only); exact (.traceDecision (.inc (.mk_ (.mk_ hk))))))])) (.itePair (by (split; exacts
    [(.noChoice (.mk_ hk)), (by ((try dsimp only); exact (.traceDecision (.inc (.mk_ (.mk_ hk))))))])) (.itePair
    (by (split; exacts [(.noChoice (.mk_ hk)), (by ((try dsimp only); exact (.traceDecision (.inc (.mk_ (.mk_ hk))))))]))
    (.mk_ hk))))]))

theorem Kept.hostStream {s₀ s : State} {fr : RxFrame} {h : Nat} {content : List Byte} {c : Nat} (hk : Kept s₀ s) : Kept s₀ (State.hostStream
    s fr h content c) := by
  unfold State.hostStream; exact (.ite (.inc hk) (by (split; exacts
    [(by (rename_i hq; have e := congrArg Prod.fst hq; dsimp only at e; subst e; exact (.rxDeliver (.chooseRxq hk)))),
    (by (rename_i hq; have e := congrArg Prod.fst hq; dsimp only at e; subst e; exact (.rxNoBuf (.chooseRxq hk))))])))

theorem Kept.hostDefault {s₀ s : State} {fr : RxFrame} {content : List Byte} {c : Nat} (hk : Kept s₀ s) : Kept s₀ (State.hostDefault s fr
    content c) := by
  unfold State.hostDefault; exact (.ite (.inc hk) (.ite (.rxDeliver hk) (.rxNoBuf hk)))

theorem Kept.forward {s₀ s : State} {fr : RxFrame} {content : List Byte} {c : Nat} (hk : Kept s₀ s) : Kept s₀ (State.forward s fr content c)
    := by
  unfold State.forward; exact (by ((try dsimp only); split; exacts [(.ctFinish (.ite (.shareHold hk) hk)), (by (split; exacts [hk, (.ite
    (.fwdAdmit (.shareHold hk)) (.inc hk))]))]))

theorem Kept.consumers {s₀ s : State} {fr : RxFrame} {c : Nat} (hk : Kept s₀ s) : Kept s₀ (State.consumers s fr c) := by
  unfold State.consumers; exact (.releaseHold (by (split; exacts [(.ite (.hostStream (by (split; exacts [(.extDeliver (.shareHold (.forward
    hk))), (.forward hk)]))) (by (split; exacts [(.extDeliver (.shareHold (.forward hk))), (.forward hk)]))), (.ite (.hostDefault (.forward
    hk)) (.forward hk))])))

theorem Kept.deliver {s₀ s : State} {fr : RxFrame} (hk : Kept s₀ s) : Kept s₀ (State.deliver s fr) := by
  unfold State.deliver; exact (by (split; exacts [(.consumers hk), hk]))

theorem Kept.freeRx {s₀ s : State} {fr : RxFrame} (hk : Kept s₀ s) : Kept s₀ (State.freeRx s fr) := by
  unfold State.freeRx; exact (by (split; exacts [(.releaseHold hk), hk]))

theorem Kept.discardRx {s₀ s : State} {fr : RxFrame} {stage cnt : Bool} (hk : Kept s₀ s) : Kept s₀ (State.discardRx s fr stage cnt) := by
  unfold State.discardRx; exact (.freeRx (.foldl (by (split; exacts [(.recRelease (by (split; exacts [(.ite (.stCount hk) hk), hk]))),
    (by (split; exacts [(.ite (.stCount hk) hk), hk]))])) (fun _ _ k1 => (.ite (.inc (.ctFinish k1)) (.ctFinish k1))) _))

theorem Kept.retryHeld {s₀ s : State} {fr : RxFrame} {f n : Nat} (hk : Kept s₀ s) : Kept s₀ (State.retryHeld s fr f n) := by
  unfold State.retryHeld; exact (.ite (.ite (.mk_ hk) hk) (.ite (.setRx (.recEval hk)) (by (split; exacts [(.deliver (.recCommit (.recEval
    hk))), (.discardRx (.recEval hk))]))))

theorem Kept.retryAll {s₀ s : State} {f n : Nat} (hk : Kept s₀ s) : Kept s₀ (State.retryAll s f n) := by
  unfold State.retryAll; exact (.foldl (.foldl (.mk_ hk) (fun _ _ k1 => (.retryHeld k1)) _) (fun _ _ k1 => (by (split; exacts [(.ite
    (.retryHeld k1) k1), k1]))) _)

theorem Kept.failRx {s₀ s : State} {fr : RxFrame} {stage cnt : Bool} (hk : Kept s₀ s) : Kept s₀ (State.failRx s fr stage cnt) := by
  unfold State.failRx; exact (by ((try dsimp only); split; exacts [(.retryAll (.discardRx hk)), (.discardRx hk)]))

theorem Kept.countRx {s₀ s : State} {p n : Nat} (hk : Kept s₀ s) : Kept s₀ (State.countRx s p n) := by
  unfold State.countRx; exact (.ite (.add64 (.add64 hk)) (.fdCount hk))

theorem Kept.afterVerdict {s₀ s : State} {fr : RxFrame} (hk : Kept s₀ s) : Kept s₀ (State.afterVerdict s fr) := by
  unfold State.afterVerdict; exact (by (split; exacts [(.retryAll (.deliver (.recCommit hk))), (.mk_ hk), (.failRx hk), (.deliver hk)]))

theorem Kept.afterFilter {s₀ s : State} {fr : RxFrame} (hk : Kept s₀ s) : Kept s₀ (State.afterFilter s fr) := by
  unfold State.afterFilter; exact (.ite (.afterVerdict hk) (.ite (.deliver hk) (.ite (.ite (.deliver (.setRec hk)) (.failRx (.setRec hk)))
    (.afterVerdict (.recEval hk)))))

theorem Kept.stages {s₀ s : State} {fr : RxFrame} (hk : Kept s₀ s) : Kept s₀ (State.stages s fr) := by
  unfold State.stages; exact (by (split; exacts [(by (split; exacts
    [(by (rename_i hq; have e := congrArg Prod.fst hq; dsimp only at e; subst e; exact (.failRx (.psFrame hk)))),
    (by (rename_i hq; have e := congrArg Prod.fst hq; dsimp only at e; subst e; exact (.afterFilter (.psFrame hk))))])), (.deliver (.inc
    hk))]))

theorem Kept.goodRx {s₀ s : State} {fr : RxFrame} (hk : Kept s₀ s) : Kept s₀ (State.goodRx s fr) := by
  unfold State.goodRx; exact (.ite (.macControlRx (.freeRx hk)) (.ite (.bbClaimRx (.freeRx hk)) (.ite (.fieldAnswer (.deliver hk)) (.stages
    (by (split; exacts [(.stCount (.itePair hk (.lookUp hk))), (.itePair hk (.lookUp hk))]))))))

theorem Kept.badRx {s₀ s : State} {fr : RxFrame} {cnt : Bool} (hk : Kept s₀ s) : Kept s₀ (State.badRx s fr cnt) := by
  unfold State.badRx; exact (.failRx (by (split; exacts [(.stCount hk), (.inc hk), hk])))

theorem Kept.fieldArrive {s₀ s : State} {fr : RxFrame} (hk : Kept s₀ s) : Kept s₀ (State.fieldArrive s fr) := by
  unfold State.fieldArrive; exact (by (split; exacts [(by (rename_i hq; have e := congrArg Prod.fst hq; dsimp only at e; subst e; exact
    (.badRx (.inc (.storeChain hk))))), (by (rename_i hq; have e := congrArg Prod.fst hq; dsimp only at e; subst e; exact (.goodRx
    (.storeChain hk))))]))

theorem Kept.rxEnd {s₀ s : State} {p : Nat} {pre : Bool} {data : List Byte} {coding ovf : Bool} {ago : Nat} (hk : Kept s₀ s) : Kept s₀
    (State.rxEnd s p pre data coding ovf ago) := by
  unfold State.rxEnd; exact (.ite hk (.ite (by (split; exacts [(.fdCount (.setRx hk)), (.mk_ (.countRx (.setRx hk)))])) (.ite (.badRx (.raise
    (.inc (.setRx hk)))) (by (split; exacts [(by (rename_i hq; have e := congrArg Prod.fst hq; dsimp only at e; subst e; exact (.badRx (.inc
    (.storeChain (.setRx hk)))))), (by (rename_i hq; have e := congrArg Prod.fst hq; dsimp only at e; subst e; exact (by (split; exacts
    [(.badRx (.inc (.storeChain (.setRx hk)))), (.goodRx (.countRx (.storeChain (.setRx hk))))]))))])))))

theorem execRxFrameEnd_kept (p : Fin 10) (data : List Byte) (coding ovf : Bool) (ago : Nat) (s : State) : KeptOut s (execRxFrameEnd p data
    coding ovf ago s) := by
  have hk := Kept.refl s
  unfold execRxFrameEnd; exact (KeptOut.next (.looped hk (fun _ k1 => (.rxEnd k1))))

theorem Kept.asmErr {s₀ s : State} {p : Nat} (hk : Kept s₀ s) : Kept s₀ (State.asmErr s p) := by
  unfold State.asmErr; exact (by ((try dsimp only); split; exacts [(.badRx (.setRx (.setLnPort (.raise (.inc hk))))), (.setLnPort (.raise
    (.inc hk)))]))

theorem Kept.asmTake {s₀ s : State} {p : Nat} {sofar : List Byte} {count : Nat} {final : Bool} {data : List Byte} {ago : Nat} (hk : Kept s₀
    s) : Kept s₀ (State.asmTake s p sofar count final data ago) := by
  unfold State.asmTake; exact (.ite (.rxEnd (.setLnPort hk)) (.ite (.asmErr hk) (.setLnPort hk)))

theorem Kept.fragRx {s₀ s : State} {p : Nat} {k : Frag} {final : Bool} {data : List Byte} {ago : Nat} (hk : Kept s₀ s) : Kept s₀
    (State.fragRx s p k final data ago) := by
  unfold State.fragRx; exact (.ite hk (by (split; exacts [(.inc hk), (.ite (.rxEnd (.ite (.asmErr hk) hk)) (.asmTake (.inc (.ite (.asmErr hk)
    hk)))), (by ((try dsimp only); split; exacts [(.asmErr (.inc hk)), (.ite (.asmTake (.inc hk)) (.asmErr (.inc hk)))]))])))

theorem execFragmentReceived_kept (p : Fin 10) (k : Frag) (final : Bool) (data : List Byte) (ago : Nat) (s : State) : KeptOut s
    (execFragmentReceived p k final data ago s) := by
  have hk := Kept.refl s
  unfold execFragmentReceived; exact (KeptOut.next (.looped hk (fun _ k1 => (.fragRx k1))))

end Sys2Proof.Machine
end

