-- ==== Sys2Proof/Laws/KeptPtpGen.lean ====
section
/-!
SUPPORT. What the operations of Machine/PtpGen.lean keep (Laws/Kept.lean).
-/

namespace Sys2Proof.Machine

theorem execFieldSyncTx_kept (n : Fin 8) (s : State) : KeptOut s (execFieldSyncTx n s) := by
  have hk := Kept.refl s
  unfold execFieldSyncTx; exact (KeptOut.next (.ite (.ite (.ownFrame (.ptpMessage (.mkTb hk))) (.mkTb hk)) hk))

theorem execPtpMessageGeneration_kept (p : Fin 2) (type : Fin 4) (req : List Byte) (ago : Nat) (dly : Option Nat) (s : State) : KeptOut s
    (execPtpMessageGeneration p type req ago dly s) := by
  have hk := Kept.refl s
  unfold execPtpMessageGeneration; exact (KeptOut.next (.ite (.ite (by (split; exacts [(.ownItem (.ptpAnswer (by (split; exacts [(.mkTb hk),
    hk])))), (by (split; exacts [(.mkTb hk), hk]))])) (.ownFrame (.ptpMessage (by (split; exacts [(.mkTb hk), hk]))))) (by (split; exacts
    [(.mkTb hk), hk]))))

theorem execAnnounceTimeout_kept  (s : State) : KeptOut s (execAnnounceTimeout s) := by
  have hk := Kept.refl s
  unfold execAnnounceTimeout; exact (KeptOut.next (.ite (.onset (.ite (.enterHoldover hk) hk)) hk))

end Sys2Proof.Machine
end

