-- ==== Sys2Proof/Laws/KeptMash.lean ====
section
/-!
SUPPORT. What the operations of Machine/Mash.lean keep (Laws/Kept.lean).
-/

namespace Sys2Proof.Machine

theorem Kept.setLaunch {s₀ s : State} {v : TplLaunch} (hk : Kept s₀ s) : Kept s₀ (State.setLaunch s v) := by
  unfold State.setLaunch; exact (.mk_ hk)

theorem Kept.dropLaunch {s₀ s : State} {i : Nat} (hk : Kept s₀ s) : Kept s₀ (State.dropLaunch s i) := by
  unfold State.dropLaunch; exact (.mk_ hk)

theorem Kept.tplMark {s₀ s : State} {t p : Nat} {k : Int} (hk : Kept s₀ s) : Kept s₀ (State.tplMark s t p k) := by
  unfold State.tplMark; exact (.mk_ hk)

theorem Kept.createLaunch {s₀ s : State} {t : Nat} {k : Int} {dtl : Nat} (hk : Kept s₀ s) : Kept s₀ (State.createLaunch s t k dtl) := by
  unfold State.createLaunch; exact (.ite (.raise0 (.inc hk)) (.ite (.noChoice (.mk_ (.foldl (.ite (.mk_ hk) hk) (fun _ _ k1 => (.admitItem
    k1)) _))) (.traceDecision (.mk_ (.foldl (.ite (.mk_ hk) hk) (fun _ _ k1 => (.admitItem k1)) _)))))

theorem execTemplateLaunchCreate_kept (t : BitVec 14) (s : State) : KeptOut s (execTemplateLaunchCreate t s) := by
  have hk := Kept.refl s
  unfold execTemplateLaunchCreate; exact (KeptOut.next (.ite hk (.ite (.inc (.tplMark hk)) (.ite (.inc (.tplMark hk)) (.createLaunch (.tplMark
    hk))))))

theorem execSlotClassify_kept (i : Nat) (s : State) : KeptOut s (execSlotClassify i s) := by
  have hk := Kept.refl s
  unfold execSlotClassify; exact (KeptOut.next (by (split; exacts [hk, (.ite hk (.setLaunch hk))])))

theorem Kept.slotRead {s₀ s : State} {l : TplLaunch} {p : Nat} (hk : Kept s₀ s) : Kept s₀ (State.slotRead s l p).1 := by
  unfold State.slotRead; exact (.itePair hk (.ite hk (.heat hk)))

theorem Kept.slotReads {r : State} {l : TplLaunch} : ∀ {ps : List Nat} {s : State}, Kept r s → Kept r (s.slotReads l ps).1
  | [], _, h => h
  | _ :: _, _, h => by
    simp only [State.slotReads]
    exact .slotReads (.slotRead h)

theorem Kept.dramRead {s₀ s : State} {l : TplLaunch} (hk : Kept s₀ s) : Kept s₀ (State.dramRead s l) := by
  unfold State.dramRead; exact (.setLaunch (.slotReads hk))

theorem execDramSlotRead_kept (i : Nat) (s : State) : KeptOut s (execDramSlotRead i s) := by
  have hk := Kept.refl s
  unfold execDramSlotRead; exact (KeptOut.next (by (split; exacts [hk, (.ite (.dramRead hk) hk)])))

theorem Kept.hotCycle {r : State} : ∀ {l : List TplLaunch} {n : Nat} {s : State}, Kept r s → Kept r (s.hotCycle l n)
  | [], _, _, h => h
  | _ :: _, _, _, h => by
    simp only [State.hotCycle]
    exact .ite (.hotCycle (.setLaunch (.slotReads h))) (.hotCycle h)

theorem Kept.hotServe {s₀ s : State}  (hk : Kept s₀ s) : Kept s₀ (State.hotServe s) := by
  unfold State.hotServe; exact (.ite hk (.tryMoves (.hotCycle (.mk_ hk))))

theorem execHotSlotRead_kept (i : Nat) (s : State) : KeptOut s (execHotSlotRead i s) := by
  have hk := Kept.refl s
  unfold execHotSlotRead; exact (KeptOut.next (by (split; exacts [hk, (.ite (.hotServe hk) hk)])))

theorem Kept.slotsDue {s₀ s : State}  (hk : Kept s₀ s) : Kept s₀ (State.slotsDue s) := by
  unfold State.slotsDue; exact (.hotServe (.hotServe (.foldl hk (fun _ _ k1 => (.dramRead k1)) _)))

theorem execPointWriteLand_kept  (s : State) : KeptOut s (execPointWriteLand s) := by
  have hk := Kept.refl s
  unfold execPointWriteLand; exact (KeptOut.next (.gyStep (.slotsDue hk)))

theorem execTierMoveDone_kept  (s0 : State) : KeptOut s0 (execTierMoveDone s0) := by
  have hk := Kept.refl s0
  unfold execTierMoveDone; exact (by ((try dsimp only); split; exacts [(KeptOut.next hk), (by (split; exacts [(KeptOut.next
    (.foldl (.mk_ (.slotsDue hk)) (fun _ _ k1 => (.serve k1)) _)), (KeptOut.next (.foldl (.heatMove (.inc (.putPoint (.mk_ (.slotsDue
    hk))))) (fun _ _ k1 => (.serve k1)) _))]))]))

theorem Kept.busyDone {s₀ s : State}  (hk : Kept s₀ s) : Kept s₀ (State.busyDone s) := by
  unfold State.busyDone; exact (by (split; exacts [(.ite hk (.wr (.mk_ hk))), hk]))

theorem Kept.tplCount {s₀ s : State} {t dtl : Nat} (hk : Kept s₀ s) : Kept s₀ (State.tplCount s t dtl) := by
  unfold State.tplCount; exact (.mk_ hk)

theorem Kept.giveFrame {s₀ s : State} {l : TplLaunch} {f : List Byte} {late : Bool} (hk : Kept s₀ s) : Kept s₀ (State.giveFrame s l f late)
    := by
  unfold State.giveFrame; exact (by (split; exacts [(by (rename_i hq; have e := congrArg Prod.fst hq; dsimp only at e; subst e; exact (.foldl
    (.raise0 (.inc (.storeChain hk))) (fun _ _ k2 => (.endItem k2)) _))),
    (by (rename_i hq; have e := congrArg Prod.fst hq; dsimp only at e; subst e; exact (.foldl (.storeChain hk) (fun _ _ k2 =>
    (by (split; exacts [k2, (by ((try dsimp only); split; exacts [(.makeReady (.ite (.lateItem (.setItem k2)) (.setItem k2))), (.ite
    (.lateItem (.setItem k2)) (.setItem k2))]))]))) _)))]))

theorem Kept.handoff {s₀ s : State} {l : TplLaunch} {late : Bool} (hk : Kept s₀ s) : Kept s₀ (State.handoff s l late) := by
  unfold State.handoff; exact (.ite (.busyDone (.ite (.chkNote (.foldl (.inc (by (split; exacts [(by (split; exacts [(.ite (.genMark (.add
    (.dropLaunch hk))) (.add (.dropLaunch hk))), (.add (.dropLaunch hk))])), (.add (.dropLaunch hk))]))) (fun _ _ k1 => (.dropItem k1)) _))
    (.foldl (.inc (by (split; exacts [(by (split; exacts [(.ite (.genMark (.add (.dropLaunch hk))) (.add (.dropLaunch hk))), (.add
    (.dropLaunch hk))])), (.add (.dropLaunch hk))]))) (fun _ _ k1 => (.dropItem k1)) _))) (.busyDone (.ite (.ite (.inc (.ite (.chkNote (.ite
    (.inc (.ite (.inc (.tplCount (.inc (by (split; exacts [(by (split; exacts [(.ite (.genMark (.add (.dropLaunch hk))) (.add (.dropLaunch
    hk))), (.add (.dropLaunch hk))])), (.add (.dropLaunch hk))]))))) (.tplCount (.inc (by (split; exacts [(by (split; exacts [(.ite
    (.genMark (.add (.dropLaunch hk))) (.add (.dropLaunch hk))), (.add (.dropLaunch hk))])), (.add (.dropLaunch hk))])))))) (.ite (.inc
    (.tplCount (.inc (by (split; exacts [(by (split; exacts [(.ite (.genMark (.add (.dropLaunch hk))) (.add (.dropLaunch hk))), (.add
    (.dropLaunch hk))])), (.add (.dropLaunch hk))]))))) (.tplCount (.inc (by (split; exacts [(by (split; exacts [(.ite (.genMark (.add
    (.dropLaunch hk))) (.add (.dropLaunch hk))), (.add (.dropLaunch hk))])), (.add (.dropLaunch hk))]))))))) (.ite (.inc (.ite (.inc
    (.tplCount (.inc (by (split; exacts [(by (split; exacts [(.ite (.genMark (.add (.dropLaunch hk))) (.add (.dropLaunch hk))), (.add
    (.dropLaunch hk))])), (.add (.dropLaunch hk))]))))) (.tplCount (.inc (by (split; exacts [(by (split; exacts [(.ite (.genMark (.add
    (.dropLaunch hk))) (.add (.dropLaunch hk))), (.add (.dropLaunch hk))])), (.add (.dropLaunch hk))])))))) (.ite (.inc (.tplCount (.inc
    (by (split; exacts [(by (split; exacts [(.ite (.genMark (.add (.dropLaunch hk))) (.add (.dropLaunch hk))), (.add (.dropLaunch hk))])),
    (.add (.dropLaunch hk))]))))) (.tplCount (.inc (by (split; exacts [(by (split; exacts [(.ite (.genMark (.add (.dropLaunch hk))) (.add
    (.dropLaunch hk))), (.add (.dropLaunch hk))])), (.add (.dropLaunch hk))])))))))) (.ite (.chkNote (.ite (.inc (.ite (.inc (.tplCount
    (.inc (by (split; exacts [(by (split; exacts [(.ite (.genMark (.add (.dropLaunch hk))) (.add (.dropLaunch hk))), (.add (.dropLaunch
    hk))])), (.add (.dropLaunch hk))]))))) (.tplCount (.inc (by (split; exacts [(by (split; exacts [(.ite (.genMark (.add (.dropLaunch hk)))
    (.add (.dropLaunch hk))), (.add (.dropLaunch hk))])), (.add (.dropLaunch hk))])))))) (.ite (.inc (.tplCount (.inc (by (split; exacts
    [(by (split; exacts [(.ite (.genMark (.add (.dropLaunch hk))) (.add (.dropLaunch hk))), (.add (.dropLaunch hk))])), (.add (.dropLaunch
    hk))]))))) (.tplCount (.inc (by (split; exacts [(by (split; exacts [(.ite (.genMark (.add (.dropLaunch hk))) (.add (.dropLaunch hk))),
    (.add (.dropLaunch hk))])), (.add (.dropLaunch hk))]))))))) (.ite (.inc (.ite (.inc (.tplCount (.inc (by (split; exacts
    [(by (split; exacts [(.ite (.genMark (.add (.dropLaunch hk))) (.add (.dropLaunch hk))), (.add (.dropLaunch hk))])), (.add (.dropLaunch
    hk))]))))) (.tplCount (.inc (by (split; exacts [(by (split; exacts [(.ite (.genMark (.add (.dropLaunch hk))) (.add (.dropLaunch hk))),
    (.add (.dropLaunch hk))])), (.add (.dropLaunch hk))])))))) (.ite (.inc (.tplCount (.inc (by (split; exacts [(by (split; exacts [(.ite
    (.genMark (.add (.dropLaunch hk))) (.add (.dropLaunch hk))), (.add (.dropLaunch hk))])), (.add (.dropLaunch hk))]))))) (.tplCount (.inc
    (by (split; exacts [(by (split; exacts [(.ite (.genMark (.add (.dropLaunch hk))) (.add (.dropLaunch hk))), (.add (.dropLaunch hk))])),
    (.add (.dropLaunch hk))])))))))) (.giveFrame (.ite (.inc (.ite (.chkNote (.ite (.inc (.ite (.inc (.tplCount (.inc (by (split; exacts
    [(by (split; exacts [(.ite (.genMark (.add (.dropLaunch hk))) (.add (.dropLaunch hk))), (.add (.dropLaunch hk))])), (.add (.dropLaunch
    hk))]))))) (.tplCount (.inc (by (split; exacts [(by (split; exacts [(.ite (.genMark (.add (.dropLaunch hk))) (.add (.dropLaunch hk))),
    (.add (.dropLaunch hk))])), (.add (.dropLaunch hk))])))))) (.ite (.inc (.tplCount (.inc (by (split; exacts [(by (split; exacts [(.ite
    (.genMark (.add (.dropLaunch hk))) (.add (.dropLaunch hk))), (.add (.dropLaunch hk))])), (.add (.dropLaunch hk))]))))) (.tplCount (.inc
    (by (split; exacts [(by (split; exacts [(.ite (.genMark (.add (.dropLaunch hk))) (.add (.dropLaunch hk))), (.add (.dropLaunch hk))])),
    (.add (.dropLaunch hk))]))))))) (.ite (.inc (.ite (.inc (.tplCount (.inc (by (split; exacts [(by (split; exacts [(.ite (.genMark (.add
    (.dropLaunch hk))) (.add (.dropLaunch hk))), (.add (.dropLaunch hk))])), (.add (.dropLaunch hk))]))))) (.tplCount (.inc
    (by (split; exacts [(by (split; exacts [(.ite (.genMark (.add (.dropLaunch hk))) (.add (.dropLaunch hk))), (.add (.dropLaunch hk))])),
    (.add (.dropLaunch hk))])))))) (.ite (.inc (.tplCount (.inc (by (split; exacts [(by (split; exacts [(.ite (.genMark (.add (.dropLaunch
    hk))) (.add (.dropLaunch hk))), (.add (.dropLaunch hk))])), (.add (.dropLaunch hk))]))))) (.tplCount (.inc (by (split; exacts
    [(by (split; exacts [(.ite (.genMark (.add (.dropLaunch hk))) (.add (.dropLaunch hk))), (.add (.dropLaunch hk))])), (.add (.dropLaunch
    hk))])))))))) (.ite (.chkNote (.ite (.inc (.ite (.inc (.tplCount (.inc (by (split; exacts [(by (split; exacts [(.ite (.genMark (.add
    (.dropLaunch hk))) (.add (.dropLaunch hk))), (.add (.dropLaunch hk))])), (.add (.dropLaunch hk))]))))) (.tplCount (.inc
    (by (split; exacts [(by (split; exacts [(.ite (.genMark (.add (.dropLaunch hk))) (.add (.dropLaunch hk))), (.add (.dropLaunch hk))])),
    (.add (.dropLaunch hk))])))))) (.ite (.inc (.tplCount (.inc (by (split; exacts [(by (split; exacts [(.ite (.genMark (.add (.dropLaunch
    hk))) (.add (.dropLaunch hk))), (.add (.dropLaunch hk))])), (.add (.dropLaunch hk))]))))) (.tplCount (.inc (by (split; exacts
    [(by (split; exacts [(.ite (.genMark (.add (.dropLaunch hk))) (.add (.dropLaunch hk))), (.add (.dropLaunch hk))])), (.add (.dropLaunch
    hk))]))))))) (.ite (.inc (.ite (.inc (.tplCount (.inc (by (split; exacts [(by (split; exacts [(.ite (.genMark (.add (.dropLaunch hk)))
    (.add (.dropLaunch hk))), (.add (.dropLaunch hk))])), (.add (.dropLaunch hk))]))))) (.tplCount (.inc (by (split; exacts
    [(by (split; exacts [(.ite (.genMark (.add (.dropLaunch hk))) (.add (.dropLaunch hk))), (.add (.dropLaunch hk))])), (.add (.dropLaunch
    hk))])))))) (.ite (.inc (.tplCount (.inc (by (split; exacts [(by (split; exacts [(.ite (.genMark (.add (.dropLaunch hk))) (.add
    (.dropLaunch hk))), (.add (.dropLaunch hk))])), (.add (.dropLaunch hk))]))))) (.tplCount (.inc (by (split; exacts [(by (split; exacts
    [(.ite (.genMark (.add (.dropLaunch hk))) (.add (.dropLaunch hk))), (.add (.dropLaunch hk))])), (.add (.dropLaunch hk))]))))))))))))

theorem execAssemblyHandoff_kept (i : Nat) (s : State) : KeptOut s (execAssemblyHandoff i s) := by
  have hk := Kept.refl s
  unfold execAssemblyHandoff; exact (KeptOut.next (by (split; exacts [hk, (.ite (.handoff hk) hk)])))

theorem Kept.tplStat {s₀ s : State} {t code : Nat} (hk : Kept s₀ s) : Kept s₀ (State.tplStat s t code) := by
  unfold State.tplStat; exact (.ite (.wr (.wr hk)) (.raise0 (.wr (.wr (.wr hk)))))

theorem Kept.setTplEn {s₀ s : State} {t : Nat} {b : Bool} (hk : Kept s₀ s) : Kept s₀ (State.setTplEn s t b) := by
  unfold State.setTplEn; exact (.wr (.mk_ hk))

theorem Kept.tplEnable {s₀ s : State} {t : Nat} (hk : Kept s₀ s) : Kept s₀ (State.tplEnable s t) := by
  unfold State.tplEnable; exact (.ite (.tplStat hk) (.ite (.tplStat (.setTplEn hk)) (.tplStat hk)))

theorem Kept.tplDisable {s₀ s : State} {t : Nat} (hk : Kept s₀ s) : Kept s₀ (State.tplDisable s t) := by
  unfold State.tplDisable; exact (.ite (.tplStat hk) (.ite (.wr (.mk_ (.tplStat (.setTplEn hk)))) (.tplStat (.setTplEn hk))))

theorem Kept.tplSwap {s₀ s : State} {a b : Nat} (hk : Kept s₀ s) : Kept s₀ (State.tplSwap s a b) := by
  unfold State.tplSwap; exact (.ite (.tplStat hk) (.ite (.tplStat hk) (.tplStat (.setTplEn (.setTplEn (.mk_ hk))))))

theorem execTemplateEnable_kept (m : Nat) (t : BitVec 14) (s : State) : KeptOut s (execTemplateEnable m t s) := by
  have hk := Kept.refl s
  unfold execTemplateEnable; exact (KeptOut.next (.busW hk (fun _ k1 => (.tplEnable k1))))

theorem execTemplateDisable_kept (m : Nat) (t : BitVec 14) (s : State) : KeptOut s (execTemplateDisable m t s) := by
  have hk := Kept.refl s
  unfold execTemplateDisable; exact (KeptOut.next (.busW hk (fun _ k1 => (.tplDisable k1))))

theorem execTemplateSwap_kept (m : Nat) (a b : BitVec 14) (s : State) : KeptOut s (execTemplateSwap m a b s) := by
  have hk := Kept.refl s
  unfold execTemplateSwap; exact (KeptOut.next (.busW hk (fun _ k1 => (.tplSwap k1))))

theorem execTemplateDisableDone_kept  (s : State) : KeptOut s (execTemplateDisableDone s) := by
  have hk := Kept.refl s
  unfold execTemplateDisableDone; exact (KeptOut.next (.busyDone hk))

theorem execHorizonMature_kept  (s : State) : KeptOut s (execHorizonMature s) := by
  have hk := Kept.refl s
  unfold execHorizonMature; exact (KeptOut.next (by (split; exacts [hk, (.ite (.hzPop hk) hk)])))

theorem Kept.msStore {s₀ s : State} {w : Nat} (hk : Kept s₀ s) : Kept s₀ (State.msStore s w) := by
  unfold State.msStore; exact (.ite (.wr hk) (by (split; exacts [(.ite (.wr hk) (.mk_ hk)), (.ite (.wr hk) (.mk_ hk)), (.ite (.wr hk) (.mk_
    hk)), (.wr hk)])))

theorem Kept.msMdata {s₀ s : State} {m hi : Nat} (hk : Kept s₀ s) : Kept s₀ (State.msMdata s m hi) := by
  unfold State.msMdata; exact (.winWrite hk (fun _ _ k1 => (.msStore k1)))

theorem execMsMdataWrite_kept (m : Nat) (hi : Word) (s : State) : KeptOut s (execMsMdataWrite m hi s) := by
  have hk := Kept.refl s
  unfold execMsMdataWrite; exact (KeptOut.next (.busW hk (fun _ k1 => (.msMdata k1))))

end Sys2Proof.Machine
end

