-- ==== Sys2Proof/Laws/KeptJobs.lean ====
section
/-!
SUPPORT. What the operations of Machine/Jobs.lean keep (Laws/Kept.lean).
-/

namespace Sys2Proof.Machine

theorem Kept.takeTurn {s₀ s : State} {q units : Nat} (hk : Kept s₀ s) : Kept s₀ (State.takeTurn s q units) := by
  unfold State.takeTurn; exact (.mk_ hk)

theorem Kept.passTurn {s₀ s : State} {q units : Nat} (hk : Kept s₀ s) : Kept s₀ (State.passTurn s q units) := by
  unfold State.passTurn; exact (.ite (.mk_ hk) hk)

theorem Kept.pushJob {s₀ s : State} {q : Nat} {e : Entry} (hk : Kept s₀ s) : Kept s₀ (State.pushJob s q e) := by
  unfold State.pushJob; exact (.syncHead (.takeTurn (.mk_ (.setSq hk))))

theorem Kept.badEntry {s₀ s : State} {q id : Nat} (hk : Kept s₀ s) : Kept s₀ (State.badEntry s q id) := by
  unfold State.badEntry; exact (.finishJob (.raise (.inc hk)))

theorem Kept.stopAt {s₀ s : State} {q : Nat} {w : Stop} (hk : Kept s₀ s) : Kept s₀ (State.stopAt s q w) := by
  unfold State.stopAt; exact (.setSq hk)

theorem Kept.deferJob {s₀ s : State} {q room : Nat} (hk : Kept s₀ s) : Kept s₀ (State.deferJob s q room) := by
  unfold State.deferJob; exact (by (split; exacts [(.stopAt hk), (.inc (.stopAt hk))]))

theorem Kept.fetchJob {s₀ s : State} {q : Nat} {e : Entry} {op room : Nat} {f : State → Nat → State} (hk : Kept s₀ s) (h_f : ∀ (t : State)
    (x : Nat), Kept s₀ t → Kept s₀ (f t x)) : Kept s₀ (State.fetchJob s q e op room f) := by
  unfold State.fetchJob; exact (.ite (.passTurn hk) (.ite (.stopAt hk) (.ite (.badEntry (.pushJob hk)) (.ite (.deferJob hk) (.ite (.stopAt hk)
    (.ite (.stopAt hk) (h_f _ _ (.pushJob hk))))))))

theorem Kept.endNow {s₀ s : State} {q id status result result2 : Nat} (hk : Kept s₀ s) : Kept s₀ (State.endNow s q id status result result2)
    := by
  unfold State.endNow; exact (.finishJob hk)

theorem Kept.txAdmit {r : State} {base : Item} : ∀ {l : List (Nat × Nat)} {s : State}, Kept r s → Kept r (s.txAdmit base l)
  | [], _, h => h
  | _ :: _, _, h => by
    simp only [State.txAdmit]
    exact .txAdmit (.admitItem h)

theorem Kept.lateAdmit {s₀ s : State} {grp : Nat} (hk : Kept s₀ s) : Kept s₀ (State.lateAdmit s grp) := by
  unfold State.lateAdmit; exact (.foldl hk (fun _ _ k1 => (by (split; exacts [(.ite (.lateItem k1) k1), k1]))) _)

theorem Kept.jobRung {s₀ s : State} {q id grp : Nat} (hk : Kept s₀ s) : Kept s₀ (State.jobRung s q id grp) := by
  unfold State.jobRung; exact (by (split; exacts [(.updJob hk), hk]))

theorem Kept.txJob {s₀ s : State} {q id : Nat} {e : Entry} {dtl : Option Nat} {payload : Option (List Byte)} {lso : Option Lso} (hk : Kept
    s₀ s) : Kept s₀ (State.txJob s q id e dtl payload lso) := by
  unfold State.txJob; exact (.ite (.endNow (.inc hk)) (by (split; exacts [(.endNow (.inc hk)), (by ((try dsimp only); split; exacts
    [(by (rename_i hq; have e := congrArg Prod.fst hq; dsimp only at e; subst e; exact (.endNow (.raise0 (.inc (.storeChain hk)))))),
    (by (rename_i hq; have e := congrArg Prod.fst hq; dsimp only at e; subst e; exact (.ite (.endNow (.releaseHold (.storeChain hk)))
    (.lateAdmit (.jobRung (.txAdmit (.storeChain hk)))))))]))])))

theorem execTx_kept (q : BitVec 10) (e : List Byte) (payload : Option (List Byte)) (s : State) : KeptOut s (execTx q e payload s) := by
  have hk := Kept.refl s
  unfold execTx; exact (KeptOut.next (.fetchJob hk (fun _ _ k1 => (.txJob k1))))

theorem execTxTimed_kept (q : BitVec 10) (e : List Byte) (payload : Option (List Byte)) (s : State) : KeptOut s (execTxTimed q e payload s)
    := by
  have hk := Kept.refl s
  unfold execTxTimed; exact (KeptOut.next (.fetchJob hk (fun _ _ k1 => (.txJob k1))))

theorem execLso_kept (q : BitVec 10) (e : List Byte) (hdr : Option (List Byte)) (payload : Option (List Byte)) (s : State) : KeptOut s
    (execLso q e hdr payload s) := by
  have hk := Kept.refl s
  unfold execLso; exact (KeptOut.next (.fetchJob hk (fun _ _ k1 => (by (split; exacts [(.endNow (.inc k1)), (.ite (.endNow (.inc k1)) (.txJob
    k1))])))))

theorem execPostRx_kept (q : BitVec 10) (e : List Byte) (s : State) : KeptOut s (execPostRx q e s) := by
  have hk := Kept.refl s
  unfold execPostRx; exact (KeptOut.next (.fetchJob hk (fun _ _ k1 => (.ite (.endNow k1) (.endNow (.wr (.setSq k1)))))))

theorem execPointWrite_kept (q : BitVec 10) (e : List Byte) (s : State) : KeptOut s (execPointWrite q e s) := by
  have hk := Kept.refl s
  unfold execPointWrite; exact (KeptOut.next (.fetchJob hk (fun _ _ k1 => (.ite (.endNow (.deny (.freeBytes k1))) (.ite (.endNow k1)
    (.startJob (.mk_ k1)))))))

theorem execPointRead_kept (q : BitVec 10) (e : List Byte) (s : State) : KeptOut s (execPointRead q e s) := by
  have hk := Kept.refl s
  unfold execPointRead; exact (KeptOut.next (.fetchJob hk (fun _ _ k1 => (.ite (.endNow (.deny k1)) (.ite (.endNow k1) (.hostOp k1))))))

theorem execSubscribe_kept (q : BitVec 10) (e : List Byte) (s : State) : KeptOut s (execSubscribe q e s) := by
  have hk := Kept.refl s
  unfold execSubscribe; exact (KeptOut.next (.fetchJob hk (fun _ _ k1 => (.ite (.endNow (.deny k1)) (.ite (.hostOp k1) (.hostOp k1))))))

theorem execUnsubscribe_kept (q : BitVec 10) (e : List Byte) (s : State) : KeptOut s (execUnsubscribe q e s) := by
  have hk := Kept.refl s
  unfold execUnsubscribe; exact (KeptOut.next (.fetchJob hk (fun _ _ k1 => (.ite (.endNow (.deny k1)) (.hostOp k1)))))

theorem execTimedAction_kept (q : BitVec 10) (e : List Byte) (s : State) : KeptOut s (execTimedAction q e s) := by
  have hk := Kept.refl s
  unfold execTimedAction; exact (KeptOut.next (.fetchJob hk (fun _ _ k1 => (by (split; exacts
    [(by (rename_i hq; have e := congrArg Prod.fst hq; dsimp only at e; subst e; exact (.endNow (.taSubmit k1)))),
    (by (rename_i hq; have e := congrArg Prod.fst hq; dsimp only at e; subst e; exact (.endNow (.taSubmit k1)))),
    (by (rename_i hq; have e := congrArg Prod.fst hq; dsimp only at e; subst e; exact (.endNow (.taSubmit k1))))])))))

theorem execFence_kept (q : BitVec 10) (e : List Byte) (s : State) : KeptOut s (execFence q e s) := by
  have hk := Kept.refl s
  unfold execFence; exact (KeptOut.next (.fetchJob hk (fun _ _ k1 => (.setSq k1))))

theorem execFencePass_kept (q : BitVec 10) (s : State) : KeptOut s (execFencePass q s) := by
  have hk := Kept.refl s
  unfold execFencePass; exact (KeptOut.next (by (split; exacts [hk, (.ite (.endNow (.setSq hk)) hk)])))

theorem execNop_kept (q : BitVec 10) (e : List Byte) (s : State) : KeptOut s (execNop q e s) := by
  have hk := Kept.refl s
  unfold execNop; exact (KeptOut.next (.fetchJob hk (fun _ _ k1 => (.endNow k1))))

end Sys2Proof.Machine
end

