-- ==== Sys2Proof/Laws/KeptQueueCtl.lean ====
section
/-!
SUPPORT. What the operations of Machine/QueueCtl.lean keep (Laws/Kept.lean).
-/

namespace Sys2Proof.Machine

theorem Kept.sqSetW {s₀ s : State} {m l off : Nat} {f : State → Nat → State} (hk : Kept s₀ s) (h_f : ∀ (t : State) (x : Nat), Kept s₀ t →
    Kept s₀ (f t x)) : Kept s₀ (State.sqSetW s m l off f) := by
  unfold State.sqSetW; exact (.ite hk (.ite (.deny hk) (.ite hk (by (split; exacts [(.ite (h_f _ _ hk) (.inc hk)), (.inc hk)])))))

theorem Kept.cqSetW {s₀ s : State} {m l off : Nat} {f : State → Nat → State} (hk : Kept s₀ s) (h_f : ∀ (t : State) (x : Nat), Kept s₀ t →
    Kept s₀ (f t x)) : Kept s₀ (State.cqSetW s m l off f) := by
  unfold State.cqSetW; exact (.ite hk (.ite (.deny hk) (.ite hk (by (split; exacts [(.ite (h_f _ _ hk) (.inc hk)), (.inc hk)])))))

theorem Kept.setSqState {s₀ s : State} {q v : Nat} (hk : Kept s₀ s) : Kept s₀ (State.setSqState s q v) := by
  unfold State.setSqState; exact (.wr (.wr hk))

theorem Kept.sqEnable {s₀ s : State} {q : Nat} (hk : Kept s₀ s) : Kept s₀ (State.sqEnable s q) := by
  unfold State.sqEnable; exact (.ite hk (.ite (.raise (.wr hk)) (.setSqState (.wr (.wr (.wr (.setSq (.wr hk))))))))

theorem Kept.returnBufs {s₀ s : State} {q : Nat} (hk : Kept s₀ s) : Kept s₀ (State.returnBufs s q) := by
  unfold State.returnBufs; exact (.ite (.wr (.setSq hk)) (.foldl (.wr (.setSq hk)) (fun _ _ k1 => (.post k1)) _))

theorem Kept.dropJob {s₀ s : State} {q id : Nat} (hk : Kept s₀ s) : Kept s₀ (State.dropJob s q id) := by
  unfold State.dropJob; exact (.mk_ (.foldl hk (fun _ _ k1 => (.dropItem k1)) _))

theorem Kept.abortSends {s₀ s : State} {q : Nat} (hk : Kept s₀ s) : Kept s₀ (State.abortSends s q) := by
  unfold State.abortSends; exact (.foldl hk (fun _ _ k1 => (by (split; exacts [(.ite (.endItem k1) k1), k1]))) _)

theorem Kept.sqDrain {s₀ s : State} {q : Nat} (hk : Kept s₀ s) : Kept s₀ (State.sqDrain s q) := by
  unfold State.sqDrain; exact (.returnBufs (.abortSends (.forget (.foldl (.wr (.setSq (.foldl (.setSqState (.wr hk)) (fun _ _ k1 => (.dropJob
    k1)) _))) (fun _ _ k1 => (by (split; exacts [(.ite (.postJob k1) k1), k1]))) _))))

theorem Kept.sqDisable {s₀ s : State} {q : Nat} (hk : Kept s₀ s) : Kept s₀ (State.sqDisable s q) := by
  unfold State.sqDisable; exact (.ite (.sqDrain hk) hk)

theorem Kept.cqErr {s₀ s : State} {c code : Nat} (hk : Kept s₀ s) : Kept s₀ (State.cqErr s c code) := by
  unfold State.cqErr; exact (.ite (.wr (.wr (.wr (.wr (.wr (.wr hk)))))) (.wr (.wr (.wr hk))))

theorem Kept.cqEnable {s₀ s : State} {c : Nat} (hk : Kept s₀ s) : Kept s₀ (State.cqEnable s c) := by
  unfold State.cqEnable; exact (.ite hk (.ite (.raise (.cqErr hk)) (.inc (.wr (.wr (.wr (.setCq hk)))))))

theorem Kept.cqDisable {s₀ s : State} {c : Nat} (hk : Kept s₀ s) : Kept s₀ (State.cqDisable s c) := by
  unfold State.cqDisable; exact (.ite (.wr (.wr (.setCq hk))) hk)

theorem Kept.sqDrained {s₀ s : State} {q : Nat} (hk : Kept s₀ s) : Kept s₀ (State.sqDrained s q) := by
  unfold State.sqDrained; exact (.ite (.queueEvent (.setSqState hk)) hk)

theorem Kept.sqRegsReset {s₀ s : State} {q : Nat} (hk : Kept s₀ s) : Kept s₀ (State.sqRegsReset s q) := by
  unfold State.sqRegsReset; exact (.foldl hk (fun _ _ k1 => (.wr k1)) _)

theorem Kept.cqRegsReset {s₀ s : State} {c : Nat} (hk : Kept s₀ s) : Kept s₀ (State.cqRegsReset s c) := by
  unfold State.cqRegsReset; exact (.foldl hk (fun _ _ k1 => (.wr k1)) _)

theorem Kept.sqFlr {s₀ s : State} {q : Nat} (hk : Kept s₀ s) : Kept s₀ (State.sqFlr s q) := by
  unfold State.sqFlr; exact (.sqRegsReset (.setSq (.foldl (.sqDisable (.mk_ (.setSq hk))) (fun _ _ k1 => (.yieldTo k1)) _)))

theorem Kept.queuesFlr {s₀ s : State} {m : Nat} (hk : Kept s₀ s) : Kept s₀ (State.queuesFlr s m) := by
  unfold State.queuesFlr; exact (.foldl (.foldl hk (fun _ _ k1 => (.sqFlr k1)) _) (fun _ _ k1 => (.cqRegsReset (.setCq (.cqDisable k1)))) _)

theorem Kept.fetchError {s₀ s : State} {q : Nat} (hk : Kept s₀ s) : Kept s₀ (State.fetchError s q) := by
  unfold State.fetchError; exact (.ite (.returnBufs (.queueEvent (.raise (.inc (.wr (.setSqState hk)))))) hk)

theorem Kept.giveQueue {s₀ s : State} {cq : Bool} {q m l : Nat} (hk : Kept s₀ s) : Kept s₀ (State.giveQueue s cq q m l) := by
  unfold State.giveQueue; exact (.ite (.wr (.wr hk)) (.wr (.wr hk)))

theorem Kept.assignDone {s₀ s : State} {c : Nat} (hk : Kept s₀ s) : Kept s₀ (State.assignDone s c) := by
  unfold State.assignDone; exact (.wr (.wr hk))

theorem Kept.qeAssign {s₀ s : State} {w : Nat} {cq : Bool} {q m l : Nat} (hk : Kept s₀ s) : Kept s₀ (State.qeAssign s w cq q m l) := by
  unfold State.qeAssign; exact (.ite (.assignDone (.deny hk)) (.ite (.assignDone hk) (.ite (.assignDone (.giveQueue hk)) (.assignDone hk))))

theorem Kept.dbBad {s₀ s : State}  (hk : Kept s₀ s) : Kept s₀ (State.dbBad s) := by
  unfold State.dbBad; exact (.raise0 (.inc hk))

theorem Kept.doorbell {s₀ s : State} {m page off bytes : Nat} {hi : Bool} {slot : Option Nat} {f : State → Nat → State} (hk : Kept s₀ s)
    (h_f : ∀ (t : State) (x : Nat), Kept s₀ t → Kept s₀ (f t x)) : Kept s₀ (State.doorbell s m page off bytes hi slot f) := by
  unfold State.doorbell; exact (.ite hk (.ite (.dbBad hk) (.ite (.deny hk) (.ite hk (.ite (.dbBad hk) (by (split; exacts [(.dbBad hk), (h_f _
    _ hk)])))))))

theorem Kept.sqRing {s₀ s : State} {q pos : Nat} (hk : Kept s₀ s) : Kept s₀ (State.sqRing s q pos) := by
  unfold State.sqRing; exact (.ite (.inc hk) (.ite (.dbBad hk) (.ite (.stopAt (.wr hk)) (.wr hk))))

theorem Kept.cqRing {s₀ s : State} {c pos : Nat} (hk : Kept s₀ s) : Kept s₀ (State.cqRing s c pos) := by
  unfold State.cqRing; exact (.ite (.inc hk) (.ite (.dbBad hk) (.wr hk)))

theorem execSqDoorbell_kept (m page : Nat) (l : BitVec 8) (bytes : Nat) (hi : Bool) (pos : BitVec 16) (s : State) : KeptOut s
    (execSqDoorbell m page l bytes hi pos s) := by
  have hk := Kept.refl s
  unfold execSqDoorbell; exact (KeptOut.next (.doorbell hk (fun _ _ k1 => (.sqRing k1))))

theorem execCqDoorbell_kept (m page : Nat) (l : BitVec 8) (bytes : Nat) (hi : Bool) (pos : BitVec 16) (s : State) : KeptOut s
    (execCqDoorbell m page l bytes hi pos s) := by
  have hk := Kept.refl s
  unfold execCqDoorbell; exact (KeptOut.next (.doorbell hk (fun _ _ k1 => (.cqRing k1))))

theorem execMsixModTimer_kept (c : BitVec 10) (s : State) : KeptOut s (execMsixModTimer c s) := by
  have hk := Kept.refl s
  unfold execMsixModTimer; exact (KeptOut.next (.ite (.cqMessage hk) hk))

theorem execSqEnable_kept (m : Nat) (q : BitVec 10) (s : State) : KeptOut s (execSqEnable m q s) := by
  have hk := Kept.refl s
  unfold execSqEnable; exact (KeptOut.next (.sqSetW hk (fun _ _ k1 => (.sqEnable k1))))

theorem execSqDisable_kept (m : Nat) (q : BitVec 10) (s : State) : KeptOut s (execSqDisable m q s) := by
  have hk := Kept.refl s
  unfold execSqDisable; exact (KeptOut.next (.sqSetW hk (fun _ _ k1 => (.sqDisable k1))))

theorem execQueueDrained_kept (q : BitVec 10) (s : State) : KeptOut s (execQueueDrained q s) := by
  have hk := Kept.refl s
  unfold execQueueDrained; exact (KeptOut.next (.sqDrained hk))

theorem execCqEnable_kept (m : Nat) (c : BitVec 10) (s : State) : KeptOut s (execCqEnable m c s) := by
  have hk := Kept.refl s
  unfold execCqEnable; exact (KeptOut.next (.cqSetW hk (fun _ _ k1 => (.cqEnable k1))))

theorem execCqDisable_kept (m : Nat) (c : BitVec 10) (s : State) : KeptOut s (execCqDisable m c s) := by
  have hk := Kept.refl s
  unfold execCqDisable; exact (KeptOut.next (.cqSetW hk (fun _ _ k1 => (.cqDisable k1))))

theorem execEntryFetchError_kept (q : BitVec 10) (s : State) : KeptOut s (execEntryFetchError q s) := by
  have hk := Kept.refl s
  unfold execEntryFetchError; exact (KeptOut.next (.fetchError hk))

theorem execQueueAssign_kept (m : Nat) (cq : Bool) (q : BitVec 10) (owner : BitVec 6) (loc : BitVec 8) (s : State) : KeptOut s
    (execQueueAssign m cq q owner loc s) := by
  have hk := Kept.refl s
  unfold execQueueAssign; exact (KeptOut.next (.busW hk (fun _ k1 => (.qeAssign k1))))

theorem execQueueRelease_kept (m : Nat) (cq : Bool) (q : BitVec 10) (s : State) : KeptOut s (execQueueRelease m cq q s) := by
  have hk := Kept.refl s
  unfold execQueueRelease; exact (KeptOut.next (.busW hk (fun _ k1 => (.qeAssign k1))))

end Sys2Proof.Machine
end

