-- ==== Sys2Proof/Laws/KeptDma.lean ====
section
/-!
SUPPORT. What the operations of Machine/Dma.lean keep (Laws/Kept.lean).
-/

namespace Sys2Proof.Machine

theorem Kept.setCh {s₀ s : State} {c : Nat} {v : Ch} (hk : Kept s₀ s) : Kept s₀ (State.setCh s c v) := by
  unfold State.setCh; exact (.mk_ hk)

theorem Kept.setChState {s₀ s : State} {c st : Nat} (hk : Kept s₀ s) : Kept s₀ (State.setChState s c st) := by
  unfold State.setChState; exact (.ite (.setCh (.wrBit (.wr hk))) (.wrBit (.wr hk)))

theorem Kept.chIrq {s₀ s : State} {c : Nat} (hk : Kept s₀ s) : Kept s₀ (State.chIrq s c) := by
  unfold State.chIrq; exact (.ite (.msix hk) hk)

theorem Kept.chWrite {s₀ s : State} {c : Nat} {x : Xfer} {data : List Byte} (hk : Kept s₀ s) : Kept s₀ (State.chWrite s c x data) := by
  unfold State.chWrite; exact (.ite hk (.foldl hk (fun _ _ k1 => (.toHost k1)) _))

theorem Kept.chAdvance {s₀ s : State} {c : Nat} {x : Xfer} {issued done : Nat} (hk : Kept s₀ s) : Kept s₀ (State.chAdvance s c x issued
    done) := by
  unfold State.chAdvance; exact (.wr (.ite (.ite hk (.wr64 hk)) (.wr64 (.ite hk (.wr64 hk)))))

theorem Kept.chTailWait {s₀ s : State} {c : Nat} {whole : Bool} (hk : Kept s₀ s) : Kept s₀ (State.chTailWait s c whole) := by
  unfold State.chTailWait; exact (.wr (.setChState (.setCh hk)))

theorem Kept.chStop {s₀ s : State} {c last : Nat} (hk : Kept s₀ s) : Kept s₀ (State.chStop s c last) := by
  unfold State.chStop; exact (.chIrq (.wr (.setChState (.setCh hk))))

theorem Kept.chFetch {s₀ s : State} {c a : Nat} (hk : Kept s₀ s) : Kept s₀ (State.chFetch s c a) := by
  unfold State.chFetch; exact (.wr64 (.setChState (.setCh hk)))

theorem Kept.chLeaveTail {s₀ s : State} {c : Nat} (hk : Kept s₀ s) : Kept s₀ (State.chLeaveTail s c) := by
  unfold State.chLeaveTail; exact (.wr (.setCh hk))

theorem Kept.chFollow {s₀ s : State} {c next : Nat} (hk : Kept s₀ s) : Kept s₀ (State.chFollow s c next) := by
  unfold State.chFollow; exact (.ite (.chTailWait hk) (.ite (.chStop (.raise0 (.inc hk))) (.chFetch (.inc hk))))

theorem Kept.chBack {s₀ s : State} {c st done : Nat} {irq : Bool} (hk : Kept s₀ s) : Kept s₀ (State.chBack s c st done irq) := by
  unfold State.chBack; exact (.ite (.chIrq (.inc (.inc (.ite hk (.toHost (.toHost hk)))))) (.inc (.inc (.ite hk (.toHost (.toHost hk))))))

theorem Kept.chDescriptor {s₀ s : State} {c : Nat} {b : List Byte} (hk : Kept s₀ s) : Kept s₀ (State.chDescriptor s c b) := by
  unfold State.chDescriptor; exact (by ((try dsimp only); split; exacts [(.ite (.setCh hk) (.chTailWait hk)), (.ite (.setCh (.setChState
    (.setCh (.chLeaveTail hk)))) (.setCh hk)), (.ite (.chFetch (.chLeaveTail hk)) (.setCh hk)), hk]))

theorem Kept.chEnd {s₀ s : State} {c st : Nat} (hk : Kept s₀ s) : Kept s₀ (State.chEnd s c st) := by
  unfold State.chEnd; exact (by (split; exacts [(.ite (.chIrq (.wr (.setChState (.chAdvance hk)))) (.wr (.setChState (.chAdvance hk)))),
    (.chFollow (.chBack hk)), (.finishJob (.wr (.setChState hk))), hk]))

theorem Kept.chRegs {s₀ s : State} {c : Nat} {x : Xfer} (hk : Kept s₀ s) : Kept s₀ (State.chRegs s c x) := by
  unfold State.chRegs; exact (.ite (.chEnd (.setChState (.setCh hk))) (.setChState (.setCh hk)))

theorem Kept.chStart {s₀ s : State} {c : Nat} (hk : Kept s₀ s) : Kept s₀ (State.chStart s c) := by
  unfold State.chStart; exact (.ite (.chRegs hk) (.inc hk))

theorem Kept.chChain {s₀ s : State} {c : Nat} (hk : Kept s₀ s) : Kept s₀ (State.chChain s c) := by
  unfold State.chChain; exact (.ite (.chFetch (.wr (.setCh hk))) (.inc hk))

theorem Kept.chResume {s₀ s : State} {c : Nat} (hk : Kept s₀ s) : Kept s₀ (State.chResume s c) := by
  unfold State.chResume; exact (.ite hk (.ite (.setChState hk) (by ((try dsimp only); split; exacts [(.chAdvance (.setChState hk)),
    (.setChState hk)]))))

theorem Kept.chDrop {s₀ s : State} {c : Nat} (hk : Kept s₀ s) : Kept s₀ (State.chDrop s c) := by
  unfold State.chDrop; exact (by ((try dsimp only); split; exacts [(.finishJob (.wr (.wr (.setChState (.foldl hk (fun _ _ k1 => (.wr (.mk_
    k1))) _))))), (.wr (.wr (.setChState (.foldl hk (fun _ _ k1 => (.wr (.mk_ k1))) _))))]))

theorem Kept.dmaDropAll {s₀ s : State}  (hk : Kept s₀ s) : Kept s₀ (State.dmaDropAll s) := by
  unfold State.dmaDropAll; exact (.foldl hk (fun _ _ k1 => (.chDrop k1)) _)

theorem Kept.busRecord {s₀ s : State} {c cause addr : Nat} {known : Bool} (hk : Kept s₀ s) : Kept s₀ (State.busRecord s c cause addr known)
    := by
  unfold State.busRecord; exact (.inc (.wr (.wr (.wr (.wr (.wr (.wr64 hk)))))))

theorem Kept.dmaHalt {s₀ s : State}  (hk : Kept s₀ s) : Kept s₀ (State.dmaHalt s) := by
  unfold State.dmaHalt; exact (.foldl (.wr hk) (fun _ _ k1 => (.ite (by (split; exacts [(.finishJob (.wr (.setChState k1))), (.chIrq
    (.setChState (.setCh k1)))])) k1)) _)

theorem Kept.chError {s₀ s : State} {c done : Nat} (hk : Kept s₀ s) : Kept s₀ (State.chError s c done) := by
  unfold State.chError; exact (by (split; exacts [(.chFollow (.chBack hk)), (.finishJob (.wr (.setChState hk))), (.chStop hk)]))

theorem Kept.chTailError {s₀ s : State} {c : Nat} {x : Xfer} {data : List Byte} (hk : Kept s₀ s) : Kept s₀ (State.chTailError s c x data) :=
    by
  unfold State.chTailError; exact (.chEnd (.raise0 (.inc (.ite (.chWrite (.freeBytes hk)) (.toHost (.chWrite (.freeBytes hk)))))))

theorem Kept.busError {s₀ s : State} {c cause addr issued : Nat} {data : List Byte} {tail : Bool} (hk : Kept s₀ s) : Kept s₀ (State.busError
    s c cause addr issued data tail) := by
  unfold State.busError; exact (by ((try dsimp only); split; exacts [(.chTailError (.busRecord hk)), (.ite (.chError (by (split; exacts
    [(.chAdvance (.chWrite (.raise0 (.busRecord hk)))), (.raise0 (.busRecord hk))]))) (.dmaHalt (by (split; exacts [(.chAdvance (.chWrite
    (.raise0 (.busRecord hk)))), (.raise0 (.busRecord hk))]))))]))

theorem Kept.chIssue {s₀ s : State} {c : Nat} (hk : Kept s₀ s) : Kept s₀ (State.chIssue s c) := by
  unfold State.chIssue; exact (.ite (.busError (by (split; exacts [(.ite (.busError hk) hk), hk]))) (by (split; exacts [(.ite (.busError hk)
    hk), hk])))

theorem Kept.chOwned {s₀ s : State} {m c : Nat} {f : State → State} (hk : Kept s₀ s) (h_f : ∀ t : State, Kept s₀ t → Kept s₀ (f t)) : Kept
    s₀ (State.chOwned s m c f) := by
  unfold State.chOwned; exact (.ite (h_f _ hk) (.inc hk))

theorem Kept.chW {s₀ s : State} {m c off : Nat} {f : State → State} (hk : Kept s₀ s) (h_f : ∀ t : State, Kept s₀ t → Kept s₀ (f t)) : Kept
    s₀ (State.chW s m c off f) := by
  unfold State.chW; exact (.busW hk (fun _ k1 => (.chOwned k1 (fun _ k2 => (h_f _ k2)))))

theorem Kept.chOwnerSet {s₀ s : State} {m c v : Nat} (hk : Kept s₀ s) : Kept s₀ (State.chOwnerSet s m c v) := by
  unfold State.chOwnerSet; exact (.ite (.inc hk) (.ite (.ite hk (.cfgWhileRunning hk)) (.ite (.inc hk) (.wr hk))))

theorem Kept.chDb {s₀ s : State} {c : Nat} (hk : Kept s₀ s) : Kept s₀ (State.chDb s c) := by
  unfold State.chDb; exact (by ((try dsimp only); split; exacts [(.wr hk), (.ite (.setCh hk) (.chIssue (.setCh hk))), (.inc hk)]))

theorem Kept.chDbW {s₀ s : State} {m c : Nat} (hk : Kept s₀ s) : Kept s₀ (State.chDbW s m c) := by
  unfold State.chDbW; exact (.guarded hk (fun _ k1 => (.chOwned k1 (fun _ k2 => (.chDb k2)))))

theorem Kept.dmaOff {s₀ s : State}  (hk : Kept s₀ s) : Kept s₀ (State.dmaOff s) := by
  unfold State.dmaOff; exact (.dmaDropAll (.wr hk))

theorem Kept.dmaFlr {s₀ s : State} {m : Nat} (hk : Kept s₀ s) : Kept s₀ (State.dmaFlr s m) := by
  unfold State.dmaFlr; exact (.foldl hk (fun _ _ k1 => (.ite (.foldl (.setChState (.ite (.chDrop k1) k1)) (fun _ _ k2 => (.wr k2)) _) (.ite
    (.chDrop k1) k1))) _)

theorem Kept.copyDispatch {s₀ s : State}  (hk : Kept s₀ s) : Kept s₀ (State.copyDispatch s) := by
  unfold State.copyDispatch; exact (by (split; exacts [(.ite (.chEnd (.startJob (.setChState (.setCh (.traceDecision (.mk_ hk)))))) (.chIssue
    (.startJob (.setChState (.setCh (.traceDecision (.mk_ hk))))))), hk]))

theorem execDmaCopy_kept (q : BitVec 10) (e : List Byte) (s : State) : KeptOut s (execDmaCopy q e s) := by
  have hk := Kept.refl s
  unfold execDmaCopy; exact (KeptOut.ite (KeptOut.next hk) (KeptOut.next (.fetchJob hk (fun _ _ k1 => (.ite (.inc (.mk_ k1)) (.mk_ k1))))))

theorem execDmaCopyDispatch_kept  (s : State) : KeptOut s (execDmaCopyDispatch s) := by
  have hk := Kept.refl s
  unfold execDmaCopyDispatch; exact (KeptOut.next (.copyDispatch hk))

theorem execDmaStart_kept (m : Nat) (c : Fin 16) (s : State) : KeptOut s (execDmaStart m c s) := by
  have hk := Kept.refl s
  unfold execDmaStart; exact (KeptOut.next (.chW hk (fun _ k1 => (.chIssue (.chStart k1)))))

theorem execDmaChain_kept (m : Nat) (c : Fin 16) (s : State) : KeptOut s (execDmaChain m c s) := by
  have hk := Kept.refl s
  unfold execDmaChain; exact (KeptOut.next (.chW hk (fun _ k1 => (.chIssue (.chChain k1)))))

theorem execDmaResume_kept (m : Nat) (c : Fin 16) (s : State) : KeptOut s (execDmaResume m c s) := by
  have hk := Kept.refl s
  unfold execDmaResume; exact (KeptOut.next (.chW hk (fun _ k1 => (.chIssue (.chResume k1)))))

theorem Kept.chOff {s₀ s : State} {c : Nat} (hk : Kept s₀ s) : Kept s₀ (State.chOff s c) := by
  unfold State.chOff; exact (.chDrop (.wr hk))

theorem execChannelDrop_kept (m : Nat) (c : Fin 16) (s : State) : KeptOut s (execChannelDrop m c s) := by
  have hk := Kept.refl s
  unfold execChannelDrop; exact (KeptOut.next (.chW hk (fun _ k1 => (.chOff k1))))

theorem execDmaEngineDisable_kept (m : Nat) (s : State) : KeptOut s (execDmaEngineDisable m s) := by
  have hk := Kept.refl s
  unfold execDmaEngineDisable; exact (KeptOut.next (.busW hk (fun _ k1 => (.dmaOff k1))))

theorem execChDb_kept (m : Nat) (c : Fin 16) (s : State) : KeptOut s (execChDb m c s) := by
  have hk := Kept.refl s
  unfold execChDb; exact (KeptOut.next (.chDbW hk))

theorem execChOwnerWrite_kept (m : Nat) (c : Fin 16) (v : BitVec 6) (s : State) : KeptOut s (execChOwnerWrite m c v s) := by
  have hk := Kept.refl s
  unfold execChOwnerWrite; exact (KeptOut.next (.busAdm hk (fun _ k1 => (.chOwnerSet k1))))

theorem execHaltClear_kept (m : Nat) (s : State) : KeptOut s (execHaltClear m s) := by
  have hk := Kept.refl s
  unfold execHaltClear; exact (KeptOut.next (.busW hk (fun _ k1 => (.wr k1))))

theorem execDescriptorFetched_kept (c : Fin 16) (b : List Byte) (s : State) : KeptOut s (execDescriptorFetched c b s) := by
  have hk := Kept.refl s
  unfold execDescriptorFetched; exact (KeptOut.next (.ite (.chIssue (.chDescriptor hk)) hk))

theorem execTransferComplete_kept (c : Fin 16) (data : List Byte) (s : State) : KeptOut s (execTransferComplete c data s) := by
  have hk := Kept.refl s
  unfold execTransferComplete; exact (KeptOut.next (by (split; exacts [(.ite (.chIssue (.ite (.chEnd (.chWrite hk)) (.busError hk))) hk),
    hk])))

theorem execBusError_kept (c : Fin 16) (cause : Fin 4) (addr : DWord) (issued : Nat) (data : List Byte) (tail : Bool) (s : State) : KeptOut
    s (execBusError c cause addr issued data tail s) := by
  have hk := Kept.refl s
  unfold execBusError; exact (KeptOut.next (.ite (.chIssue (.busError hk)) hk))

end Sys2Proof.Machine
end

