-- ==== Sys2Proof/Laws/KeptMbox.lean ====
section
/-!
SUPPORT. What the operations of Machine/Mbox.lean keep (Laws/Kept.lean).
-/

namespace Sys2Proof.Machine

theorem Kept.mbIrq {s₀ s : State} {m : Nat} (hk : Kept s₀ s) : Kept s₀ (State.mbIrq s m) := by
  unfold State.mbIrq; exact (.ite (.sendEvent hk) (.ite (.msix hk) hk))

theorem Kept.mbPend {s₀ s : State} {m n : Nat} {pend ie : Fld} (hk : Kept s₀ s) : Kept s₀ (State.mbPend s m n pend ie) := by
  unfold State.mbPend; exact (.ite (.mbIrq (.wrBit hk)) (.wrBit hk))

theorem Kept.mbIeWrite {s₀ s : State} {m : Nat} {ie pend : Fld} {v : Nat} (hk : Kept s₀ s) : Kept s₀ (State.mbIeWrite s m ie pend v) := by
  unfold State.mbIeWrite; exact (.ite (.mbIrq (.wr hk)) (.wr hk))

theorem Kept.mbReject {s₀ s : State} {m : Nat} (hk : Kept s₀ s) : Kept s₀ (State.mbReject s m) := by
  unfold State.mbReject; exact (.raise (.inc hk))

theorem Kept.mbGuard {s₀ s : State} {op perm m n off : Nat} {f : State → State} (hk : Kept s₀ s) (h_f : ∀ t : State, Kept s₀ t → Kept s₀ (f
    t)) : Kept s₀ (State.mbGuard s op perm m n off f) := by
  unfold State.mbGuard; exact (.ite hk (.ite (.ite hk (h_f _ hk)) (.deny hk)))

theorem Kept.mbStage {s₀ s : State} {m n : Nat} {v : DWord} (hk : Kept s₀ s) : Kept s₀ (State.mbStage s m n v) := by
  unfold State.mbStage; exact (.ite (.mk_ hk) (.mbReject hk))

theorem Kept.reqPost {s₀ s : State} {n : Nat} (hk : Kept s₀ s) : Kept s₀ (State.reqPost s n) := by
  unfold State.reqPost; exact (.mk_ hk)

theorem Kept.mbNotice {s₀ s0 : State} {n : Nat} {ptr : DWord} {tag : Word} (hk : Kept s₀ s0) : Kept s₀ (State.mbNotice s0 n ptr tag) := by
  unfold State.mbNotice; exact (.mbPend (.inc (.wr (.wr (.wr64 (.ite (.reqPost hk) hk))))))

theorem Kept.mbPost {s₀ s : State} {m n : Nat} {tag : Word} (hk : Kept s₀ s) : Kept s₀ (State.mbPost s m n tag) := by
  unfold State.mbPost; exact (.ite (.inc hk) (.ite (.mbReject hk) (.ite (.mk_ hk) (.mbNotice hk))))

theorem Kept.postRefuse {s₀ s : State} {x : HeldPost} (hk : Kept s₀ s) : Kept s₀ (State.postRefuse s x) := by
  unfold State.postRefuse; exact (.raise (.inc (.wr hk)))

theorem Kept.postFlush {s₀ s : State}  (hk : Kept s₀ s) : Kept s₀ (State.postFlush s) := by
  unfold State.postFlush; exact (.foldl (.mk_ hk) (fun _ _ k1 => (.postRefuse k1)) _)

theorem Kept.postAfter {s₀ s : State} {n : Nat} (hk : Kept s₀ s) : Kept s₀ (State.postAfter s n) := by
  unfold State.postAfter; exact (by (split; exacts [(.mbNotice (.mk_ hk)), hk]))

theorem Kept.mbClear {s₀ s : State} {m n : Nat} (hk : Kept s₀ s) : Kept s₀ (State.mbClear s m n) := by
  unfold State.mbClear; exact (.ite (.inc hk) (.ite (.mbReject hk) (.ite (.inc hk) (.postAfter (.mbPend (.wrBit (.wr hk)))))))

theorem Kept.replyNext {s₀ s : State} {n : Nat} (hk : Kept s₀ s) : Kept s₀ (State.replyNext s n) := by
  unfold State.replyNext; exact (by (split; exacts [(.ite (.mbPost (.mk_ hk)) hk), hk]))

theorem Kept.mbLock {s₀ s : State} {n m : Nat} (hk : Kept s₀ s) : Kept s₀ (State.mbLock s n m) := by
  unfold State.mbLock; exact (.wr (.wr hk))

theorem Kept.mbUnlock {s₀ s : State} {n : Nat} (hk : Kept s₀ s) : Kept s₀ (State.mbUnlock s n) := by
  unfold State.mbUnlock; exact (.wr (.wr hk))

theorem Kept.mbLockRefused {s₀ s : State} {n m : Nat} (hk : Kept s₀ s) : Kept s₀ (State.mbLockRefused s n m) := by
  unfold State.mbLockRefused; exact (.mbGuard hk (fun _ k1 => (.ite (.inc k1) (.mbReject k1))))

theorem Kept.mbTake {s₀ s : State} {n : Nat} {ms : List Nat} (hk : Kept s₀ s) : Kept s₀ (State.mbTake s n ms) := by
  unfold State.mbTake; exact (.mk_ (.foldl (.ite hk (by (split; exacts [(.ite (.wr (.mbLock hk)) (.mbLock hk)), hk]))) (fun _ _ k1 => (.ite
    (.ite k1 (.inc k1)) (.mbLockRefused k1))) _))

theorem Kept.mbFree {s₀ s : State} {m n : Nat} (hk : Kept s₀ s) : Kept s₀ (State.mbFree s m n) := by
  unfold State.mbFree; exact (.ite (.mbReject hk) (.ite (.mbUnlock hk) (.inc hk)))

theorem Kept.mbBind {s₀ s : State} {m n v : Nat} (hk : Kept s₀ s) : Kept s₀ (State.mbBind s m n v) := by
  unfold State.mbBind; exact (.ite hk (.ite (.wr (.wr (.wr hk))) (.raise (.wr (.wr hk)))))

theorem Kept.mbBindLock {s₀ s : State} {m : Nat} (hk : Kept s₀ s) : Kept s₀ (State.mbBindLock s m) := by
  unfold State.mbBindLock; exact (.ite (.wr hk) hk)

theorem Kept.mbMasterReset {s₀ s : State} {m : Nat} (hk : Kept s₀ s) : Kept s₀ (State.mbMasterReset s m) := by
  unfold State.mbMasterReset; exact (.ite (.wr (.wr (.wr (.wr (.foldl (.foldl hk (fun _ _ k1 => (.ite (.mbUnlock k1) k1)) _) (fun _ _ k1 =>
    (.wr k1)) _))))) (.wr (.wr (.foldl (.foldl hk (fun _ _ k1 => (.ite (.mbUnlock k1) k1)) _) (fun _ _ k1 => (.wr k1)) _))))

theorem execMailboxPost_kept (m : Nat) (n : Fin 64) (tag : Word) (s : State) : KeptOut s (execMailboxPost m n tag s) := by
  have hk := Kept.refl s
  unfold execMailboxPost; exact (KeptOut.next (.mbGuard hk (fun _ k1 => (.mbPost k1))))

theorem Kept.mbCmdEmpty {s₀ s : State} {m n : Nat} (hk : Kept s₀ s) : Kept s₀ (State.mbCmdEmpty s m n) := by
  unfold State.mbCmdEmpty; exact (.replyNext (.mbClear hk))

theorem execMailboxEmpty_kept (m : Nat) (n : Fin 64) (s : State) : KeptOut s (execMailboxEmpty m n s) := by
  have hk := Kept.refl s
  unfold execMailboxEmpty; exact (KeptOut.next (.mbGuard hk (fun _ k1 => (.mbCmdEmpty k1))))

theorem execMailboxLockTake_kept (n : Fin 64) (ms : List Nat) (s : State) : KeptOut s (execMailboxLockTake n ms s) := by
  have hk := Kept.refl s
  unfold execMailboxLockTake; exact (KeptOut.next (.mbTake hk))

theorem execMailboxLockFree_kept (m : Nat) (n : Fin 64) (s : State) : KeptOut s (execMailboxLockFree m n s) := by
  have hk := Kept.refl s
  unfold execMailboxLockFree; exact (KeptOut.next (.mbGuard hk (fun _ k1 => (.mbFree k1))))

theorem execMailboxBindWrite_kept (m : Nat) (n : Fin 64) (v : Word) (s : State) : KeptOut s (execMailboxBindWrite m n v s) := by
  have hk := Kept.refl s
  unfold execMailboxBindWrite; exact (KeptOut.next (.busW hk (fun _ k1 => (.mbBind k1))))

theorem execBindLock_kept (m : Nat) (s : State) : KeptOut s (execBindLock m s) := by
  have hk := Kept.refl s
  unfold execBindLock; exact (KeptOut.next (.busW hk (fun _ k1 => (.mbBindLock k1))))

end Sys2Proof.Machine
end

