-- ==== Sys2Proof/Laws/KeptPorts.lean ====
section
/-!
SUPPORT. What the operations of Machine/Ports.lean keep (Laws/Kept.lean).
-/

namespace Sys2Proof.Machine

theorem Kept.setBp {s₀ s : State} {p : Nat} {r : BpPort} (hk : Kept s₀ s) : Kept s₀ (State.setBp s p r) := by
  unfold State.setBp; exact (.mk_ hk)

theorem Kept.cutDown {s₀ s : State} {p status : Nat} (hk : Kept s₀ s) : Kept s₀ (State.cutDown s p status) := by
  unfold State.cutDown; exact (by (split; exacts [hk, (by ((try dsimp only); split; exacts [(.wireFree hk), (by (split; exacts [(.wireFree
    hk), (.endItem (.setItem (.inc (.inc (.emit (.emitFrags (.wireFree hk)))))))]))]))]))

theorem Kept.rxCut {s₀ s : State} {p : Nat} {part : Bool} (hk : Kept s₀ s) : Kept s₀ (State.rxCut s p part) := by
  unfold State.rxCut; exact (by ((try dsimp only); split; exacts [(.badRx (.portCount (.setRx (by (split; exacts [(.badRx
    (.portCount (.setRx (.setLnPort hk)))), (.ite (.portCount (.setLnPort hk)) (.setLnPort hk))]))))), (.ite (.portCount
    (by (split; exacts [(.badRx (.portCount (.setRx (.setLnPort hk)))), (.ite (.portCount (.setLnPort hk)) (.setLnPort
    hk))]))) (by (split; exacts [(.badRx (.portCount (.setRx (.setLnPort hk)))), (.ite (.portCount (.setLnPort hk))
    (.setLnPort hk))])))]))

theorem Kept.linkLost {s₀ s : State} {p : Nat} {part : Bool} (hk : Kept s₀ s) : Kept s₀ (State.linkLost s p part) := by
  unfold State.linkLost; exact (.mmUpdate (.rxCut (.cutDown hk)))

theorem Kept.bpDepart {s₀ s : State} {p : Nat} {part raise : Bool} (hk : Kept s₀ s) : Kept s₀ (State.bpDepart s p part raise) := by
  unfold State.bpDepart; exact (.linkLost (.ite (.onset (.inc (.wr (.mk_ hk)))) (.inc (.wr (.mk_ hk)))))

theorem Kept.bpUnlock {s₀ s : State} {p st : Nat} (hk : Kept s₀ s) : Kept s₀ (State.bpUnlock s p st) := by
  unfold State.bpUnlock; exact (.wr (.wr (.wr (.wr hk))))

theorem Kept.bpAcquire {s₀ s : State} {p : Nat} (hk : Kept s₀ s) : Kept s₀ (State.bpAcquire s p) := by
  unfold State.bpAcquire; exact (.ite (.bpUnlock hk) (.emit (.bpUnlock hk)))

theorem Kept.bpNegotiate {s₀ s : State} {p : Nat} (hk : Kept s₀ s) : Kept s₀ (State.bpNegotiate s p) := by
  unfold State.bpNegotiate; exact (.ite (.emit (.wr hk)) (.wr hk))

theorem Kept.bpHold {s₀ s : State} {p : Nat} (hk : Kept s₀ s) : Kept s₀ (State.bpHold s p) := by
  unfold State.bpHold; exact (.setBp (.wr hk))

theorem Kept.bpEnable {s₀ s : State} {p : Nat} (hk : Kept s₀ s) : Kept s₀ (State.bpEnable s p) := by
  unfold State.bpEnable; exact (.ite hk (.onset (.setBp (.wr (.bpAcquire hk)))))

theorem Kept.bpDisable {s₀ s : State} {p : Nat} (hk : Kept s₀ s) : Kept s₀ (State.bpDisable s p) := by
  unfold State.bpDisable; exact (.condEnd (.condEnd (.foldl (.bpUnlock (.ite (.bpDepart hk) hk)) (fun _ _ k1 => (.wr k1)) _)))

theorem Kept.bpEnWrite {s₀ s : State} {p : Nat} {en : Bool} (hk : Kept s₀ s) : Kept s₀ (State.bpEnWrite s p en) := by
  unfold State.bpEnWrite; exact (.ite (.bpEnable (.wr hk)) (.bpDisable (.wr hk)))

theorem Kept.bpLocked {s₀ s : State} {p : Nat} (hk : Kept s₀ s) : Kept s₀ (State.bpLocked s p) := by
  unfold State.bpLocked; exact (.ite (.ite (.bpNegotiate (.wr (.wr (.wr (.condEnd (.wr (.wr hk))))))) (.bpHold (.wr (.wr (.wr (.condEnd (.wr
    (.wr hk)))))))) (.ite (.bpHold (.wr (.wr (.wr hk)))) hk))

theorem Kept.anComplete {s₀ s : State} {p page : Nat} (hk : Kept s₀ s) : Kept s₀ (State.anComplete s p page) := by
  unfold State.anComplete; exact (.ite hk (.ite (.bpHold (.wr (.wr (.wr hk)))) (.wr (.wr (.wr hk)))))

theorem Kept.bpHoldDone {s₀ s : State} {p : Nat} (hk : Kept s₀ s) : Kept s₀ (State.bpHoldDone s p) := by
  unfold State.bpHoldDone; exact (.ite (.ite (.mmUpdate (.condEnd (.wr (.wr hk)))) (.emit (.mmUpdate (.condEnd (.wr (.wr hk)))))) hk)

theorem Kept.bpLoss {s₀ s : State} {p : Nat} {c : LinkLoss} {part : Bool} (hk : Kept s₀ s) : Kept s₀ (State.bpLoss s p c part) := by
  unfold State.bpLoss; exact (.ite hk (.ite (.bpAcquire (.bpDepart (by (split; exacts [(.onset (.wr (.wr hk))), (.wr hk), (.wr hk), (.wr hk),
    (.wr hk)])))) (.ite (.bpAcquire (by (split; exacts [(.onset (.wr (.wr hk))), (.wr hk), (.wr hk), (.wr hk), (.wr hk)])))
    (by (split; exacts [(.onset (.wr (.wr hk))), (.wr hk), (.wr hk), (.wr hk), (.wr hk)])))))

theorem Kept.bpRestart {s₀ s : State} {p : Nat} (hk : Kept s₀ s) : Kept s₀ (State.bpRestart s p) := by
  unfold State.bpRestart; exact (.ite (.bpAcquire (.bpDepart hk)) (.ite (.bpNegotiate (.wr (.wr hk))) hk))

theorem execPortEnable_kept (m : Nat) (p : Fin 2) (s : State) : KeptOut s (execPortEnable m p s) := by
  have hk := Kept.refl s
  unfold execPortEnable; exact (KeptOut.next (.busW hk (fun _ k1 => (.bpEnWrite k1))))

theorem execPortDisable_kept (m : Nat) (p : Fin 2) (s : State) : KeptOut s (execPortDisable m p s) := by
  have hk := Kept.refl s
  unfold execPortDisable; exact (KeptOut.next (.busW hk (fun _ k1 => (.bpEnWrite k1))))

theorem execRestartAn_kept (m : Nat) (p : Fin 2) (s : State) : KeptOut s (execRestartAn m p s) := by
  have hk := Kept.refl s
  unfold execRestartAn; exact (KeptOut.next (.busW hk (fun _ k1 => (.bpRestart k1))))

theorem execPcsLock_kept (p : Fin 2) (s : State) : KeptOut s (execPcsLock p s) := by
  have hk := Kept.refl s
  unfold execPcsLock; exact (KeptOut.next (.bpLocked hk))

theorem execAnComplete_kept (p : Fin 2) (page : BitVec 16) (s : State) : KeptOut s (execAnComplete p page s) := by
  have hk := Kept.refl s
  unfold execAnComplete; exact (KeptOut.next (.anComplete hk))

theorem execLinkHoldExpiry_kept (p : Fin 2) (s : State) : KeptOut s (execLinkHoldExpiry p s) := by
  have hk := Kept.refl s
  unfold execLinkHoldExpiry; exact (KeptOut.next (.bpHoldDone hk))

theorem execLinkDown_kept (p : Fin 2) (c : LinkLoss) (receiving : Bool) (s : State) : KeptOut s (execLinkDown p c receiving s) := by
  have hk := Kept.refl s
  unfold execLinkDown; exact (KeptOut.next (.bpLoss hk))

theorem Kept.mdioGo {s₀ s : State} {st op phy reg data : Nat} (hk : Kept s₀ s) : Kept s₀ (State.mdioGo s st op phy reg data) := by
  unfold State.mdioGo; exact (.ite (.wr (.wr hk)) (.mk_ (.emit (.wr (.wr hk)))))

theorem Kept.mdioDone {s₀ s : State} {rdata : Nat} {answered : Bool} (hk : Kept s₀ s) : Kept s₀ (State.mdioDone s rdata answered) := by
  unfold State.mdioDone; exact (by (split; exacts [hk, (.ite (.mk_ (.wr hk)) (.ite (.wr (.mk_ (.wr hk))) (.raise (.wr (.wr (.wr (.mk_ (.wr
    hk))))))))]))

theorem execMdioC22Write_kept (m : Nat) (phy reg : Fin 32) (data : BitVec 16) (s : State) : KeptOut s (execMdioC22Write m phy reg data s) :=
    by
  have hk := Kept.refl s
  unfold execMdioC22Write; exact (KeptOut.next (.busW hk (fun _ k1 => (.mdioGo k1))))

theorem execMdioC22Read_kept (m : Nat) (phy reg : Fin 32) (s : State) : KeptOut s (execMdioC22Read m phy reg s) := by
  have hk := Kept.refl s
  unfold execMdioC22Read; exact (KeptOut.next (.busW hk (fun _ k1 => (.mdioGo k1))))

theorem execMdioC45Address_kept (m : Nat) (phy dev : Fin 32) (addr : BitVec 16) (s : State) : KeptOut s (execMdioC45Address m phy dev addr
    s) := by
  have hk := Kept.refl s
  unfold execMdioC45Address; exact (KeptOut.next (.busW hk (fun _ k1 => (.mdioGo k1))))

theorem execMdioC45Write_kept (m : Nat) (phy dev : Fin 32) (data : BitVec 16) (s : State) : KeptOut s (execMdioC45Write m phy dev data s) :=
    by
  have hk := Kept.refl s
  unfold execMdioC45Write; exact (KeptOut.next (.busW hk (fun _ k1 => (.mdioGo k1))))

theorem execMdioC45Read_kept (m : Nat) (phy dev : Fin 32) (s : State) : KeptOut s (execMdioC45Read m phy dev s) := by
  have hk := Kept.refl s
  unfold execMdioC45Read; exact (KeptOut.next (.busW hk (fun _ k1 => (.mdioGo k1))))

theorem execMdioC45ReadInc_kept (m : Nat) (phy dev : Fin 32) (s : State) : KeptOut s (execMdioC45ReadInc m phy dev s) := by
  have hk := Kept.refl s
  unfold execMdioC45ReadInc; exact (KeptOut.next (.busW hk (fun _ k1 => (.mdioGo k1))))

theorem execMdioDone_kept (rdata : BitVec 16) (answered : Bool) (s : State) : KeptOut s (execMdioDone rdata answered s) := by
  have hk := Kept.refl s
  unfold execMdioDone; exact (KeptOut.next (.mdioDone hk))

theorem execPhyInterrupt_kept (p : Fin 2) (s : State) : KeptOut s (execPhyInterrupt p s) := by
  have hk := Kept.refl s
  unfold execPhyInterrupt; exact (KeptOut.next (.ite (.raise hk) hk))

theorem Kept.bpCleared {s₀ s : State} {p : Nat} {pcs fcs : Bool} (hk : Kept s₀ s) : Kept s₀ (State.bpCleared s p pcs fcs) := by
  unfold State.bpCleared; exact (.setBp hk)

theorem Kept.bpRates {s₀ s : State} {p pcs : Nat} (hk : Kept s₀ s) : Kept s₀ (State.bpRates s p pcs) := by
  unfold State.bpRates; exact (.ite hk (.ite (.onset (.ite (.raise (.setBp (.add hk))) (.setBp (.add hk)))) (.condEnd (.ite (.raise (.setBp
    (.add hk))) (.setBp (.add hk))))))

theorem execPortErrorRateCheck_kept (p : Fin 2) (pcs : Nat) (s : State) : KeptOut s (execPortErrorRateCheck p pcs s) := by
  have hk := Kept.refl s
  unfold execPortErrorRateCheck; exact (KeptOut.next (.bpRates hk))

end Sys2Proof.Machine
end

