-- ==== Sys2Proof/Laws/KeptField.lean ====
section
/-!
SUPPORT. What the operations of Machine/Field.lean keep (Laws/Kept.lean).
-/

namespace Sys2Proof.Machine

theorem Kept.setFd {s₀ s : State} {n : Nat} {r : FdPort} (hk : Kept s₀ s) : Kept s₀ (State.setFd s n r) := by
  unfold State.setFd; exact (.mk_ hk)

theorem Kept.fdCond {s₀ s : State} {src n : Nat} {b : Bool} (hk : Kept s₀ s) : Kept s₀ (State.fdCond s src n b) := by
  unfold State.fdCond; exact (.ite (.onset hk) (.condEnd hk))

theorem Kept.fdShow {s₀ s : State} {n : Nat} (hk : Kept s₀ s) : Kept s₀ (State.fdShow s n) := by
  unfold State.fdShow; exact (.ite (.fdCond (.fdCond (.fdCond (.wr (.wr (.wr (.wrBit (.wr hk)))))))) hk)

theorem Kept.fvinShow {s₀ s : State}  (hk : Kept s₀ s) : Kept s₀ (State.fvinShow s) := by
  unfold State.fvinShow; exact (.ite (.ite (.onset (.ite (.onset (.wr (.wr (.wr hk)))) (.condEnd (.wr (.wr (.wr hk)))))) (.condEnd (.ite
    (.onset (.wr (.wr (.wr hk)))) (.condEnd (.wr (.wr (.wr hk))))))) hk)

theorem Kept.fdGo {s₀ s : State} {n st : Nat} (hk : Kept s₀ s) : Kept s₀ (State.fdGo s n st) := by
  unfold State.fdGo; exact (.fdShow (.setFd hk))

theorem Kept.fdPowerOff {s₀ s : State}  (hk : Kept s₀ s) : Kept s₀ (State.fdPowerOff s) := by
  unfold State.fdPowerOff; exact (.foldl hk (fun _ _ k1 => (.ite k1 (.fdGo k1))) _)

theorem Kept.fieldLost {s₀ s : State} {n : Nat} {raise : Bool} (hk : Kept s₀ s) : Kept s₀ (State.fieldLost s n raise) := by
  unfold State.fieldLost; exact (.linkLost (.ite (.onset (.inc (.wr hk))) (.inc (.wr hk))))

theorem Kept.fieldTrain {s₀ s : State} {n : Nat} (hk : Kept s₀ s) : Kept s₀ (State.fieldTrain s n) := by
  unfold State.fieldTrain; exact (.ite (.setFd (.wr hk)) (.condEnd (.wr hk)))

theorem Kept.fpEnWrite {s₀ s : State} {n : Nat} {en : Bool} (hk : Kept s₀ s) : Kept s₀ (State.fpEnWrite s n en) := by
  unfold State.fpEnWrite; exact (.ite (.wr hk) (.fieldTrain (.ite (.fieldLost (.wr hk)) (.wr hk))))

theorem Kept.fieldRestart {s₀ s : State} {n : Nat} (hk : Kept s₀ s) : Kept s₀ (State.fieldRestart s n) := by
  unfold State.fieldRestart; exact (.ite (.fieldTrain (.ite (.fieldLost hk) hk)) hk)

theorem Kept.fpPwrWrite {s₀ s : State} {n : Nat} {en : Bool} (hk : Kept s₀ s) : Kept s₀ (State.fpPwrWrite s n en) := by
  unfold State.fpPwrWrite; exact (.ite (.wr hk) (.setFd (.wr hk)))

theorem Kept.fieldReset {s₀ s : State} {all : Bool} (hk : Kept s₀ s) : Kept s₀ (State.fieldReset s all) := by
  unfold State.fieldReset; exact (.flwUnlock (.mk_ (.foldl (.wr hk) (fun _ _ k1 => (.ite (.ite (.wr (.ite (.fieldLost k1) k1)) (.fdGo (.wr
    (.ite (.fieldLost k1) k1)))) (.wr (.ite (.fieldLost k1) k1)))) _)))

theorem Kept.fieldResetIf {s₀ s : State}  (hk : Kept s₀ s) : Kept s₀ (State.fieldResetIf s) := by
  unfold State.fieldResetIf; exact (.ite (.fieldReset hk) hk)

theorem Kept.fieldReady {s₀ s : State}  (hk : Kept s₀ s) : Kept s₀ (State.fieldReady s) := by
  unfold State.fieldReady; exact (.ite (.fvinShow (.foldl (.mk_ (.wr (.inc (.raise0 hk)))) (fun _ _ k1 => (.fdShow (.fieldTrain k1))) _)) hk)

theorem Kept.fvinSet {s₀ s : State} {mv : Nat} (hk : Kept s₀ s) : Kept s₀ (State.fvinSet s mv) := by
  unfold State.fvinSet; exact (.mk_ hk)

theorem Kept.fieldRelease {s₀ s : State} {mv : Nat} (hk : Kept s₀ s) : Kept s₀ (State.fieldRelease s mv) := by
  unfold State.fieldRelease; exact (.ite (.fvinShow (.foldl (.condEnd (.wr (.wr (.mk_ (.fvinSet hk))))) (fun _ _ k1 => (.fieldTrain k1)) _))
    hk)

theorem Kept.isoLoss {s₀ s : State}  (hk : Kept s₀ s) : Kept s₀ (State.isoLoss s) := by
  unfold State.isoLoss; exact (.ite (.mk_ (.flwUnlock (.inc (.onset (.wr hk))))) hk)

theorem Kept.isoSafe {s₀ s : State}  (hk : Kept s₀ s) : Kept s₀ (State.isoSafe s) := by
  unfold State.isoSafe; exact (.ite hk (.mk_ (.ite (.fdPowerOff (.foldl hk (fun _ _ k1 => (.cutDown k1)) _)) (.foldl hk (fun _ _ k1 =>
    (.cutDown k1)) _))))

theorem Kept.isoReturn {s₀ s : State}  (hk : Kept s₀ s) : Kept s₀ (State.isoReturn s) := by
  unfold State.isoReturn; exact (.ite (.fieldReset (.condEnd (.wr hk))) hk)

theorem Kept.isoCrc {s₀ s : State}  (hk : Kept s₀ s) : Kept s₀ (State.isoCrc s) := by
  unfold State.isoCrc; exact (.inc (.raise0 hk))

theorem Kept.isoMessage {s₀ s : State} {k : IsoMsg} {ok : Bool} (hk : Kept s₀ s) : Kept s₀ (State.isoMessage s k ok) := by
  unfold State.isoMessage; exact (.ite hk (by (split; exacts [(by (split; exacts [hk, (.ite (.fieldArrive (.mk_ hk)) (.inc (.mk_ hk)))])),
    (by (split; exacts [hk, (.ite hk (.ite (.makeReady hk) (.endItem (.mk_ (.inc hk)))))])), hk, (.ite hk (.isoCrc hk)), (.ite (.isoCrc hk)
    (.ite (.gatesNow hk) hk)), (.ite hk (.isoCrc hk))])))

theorem Kept.fdRefresh {s₀ s : State} {snr : List Nat} (hk : Kept s₀ s) : Kept s₀ (State.fdRefresh s snr) := by
  unfold State.fdRefresh; exact (.ite hk (.fvinShow (.foldl (.mk_ (.foldl hk (fun _ _ k1 => (.add k1)) _)) (fun _ _ k1 => (.ite (.onset
    (.fdShow (.wr k1))) (.condEnd (.fdShow (.wr k1))))) _)))

theorem execIsoFrameArrive_kept (k : IsoMsg) (ok : Bool) (s : State) : KeptOut s (execIsoFrameArrive k ok s) := by
  have hk := Kept.refl s
  unfold execIsoFrameArrive; exact (KeptOut.next (.isoMessage hk))

theorem execIsoChannelLoss_kept  (s : State) : KeptOut s (execIsoChannelLoss s) := by
  have hk := Kept.refl s
  unfold execIsoChannelLoss; exact (KeptOut.next (.isoLoss hk))

theorem execIsoLossSafe_kept  (s : State) : KeptOut s (execIsoLossSafe s) := by
  have hk := Kept.refl s
  unfold execIsoLossSafe; exact (KeptOut.next (.isoSafe hk))

theorem execIsoChannelReturn_kept  (s : State) : KeptOut s (execIsoChannelReturn s) := by
  have hk := Kept.refl s
  unfold execIsoChannelReturn; exact (KeptOut.next (.isoReturn hk))

theorem execFreset_kept (m : Nat) (s : State) : KeptOut s (execFreset m s) := by
  have hk := Kept.refl s
  unfold execFreset; exact (KeptOut.next (.busW hk (fun _ k1 => (.ite (.fieldResetIf k1) k1))))

theorem execFieldResetDone_kept  (s : State) : KeptOut s (execFieldResetDone s) := by
  have hk := Kept.refl s
  unfold execFieldResetDone; exact (KeptOut.next (.fieldReady hk))

theorem execFieldDieWatchdog_kept  (s : State) : KeptOut s (execFieldDieWatchdog s) := by
  have hk := Kept.refl s
  unfold execFieldDieWatchdog; exact (KeptOut.next (.fieldResetIf hk))

theorem execFieldDieRelease_kept (mv : Nat) (s : State) : KeptOut s (execFieldDieRelease mv s) := by
  have hk := Kept.refl s
  unfold execFieldDieRelease; exact (KeptOut.next (.fieldRelease hk))

theorem execFieldStatusRefresh_kept (snr : List Nat) (s : State) : KeptOut s (execFieldStatusRefresh snr s) := by
  have hk := Kept.refl s
  unfold execFieldStatusRefresh; exact (KeptOut.next (.fdRefresh hk))

theorem execFieldLinkUp_kept (n : Fin 8) (low slave reversed : Bool) (s : State) : KeptOut s (execFieldLinkUp n low slave reversed s) := by
  have hk := Kept.refl s
  unfold execFieldLinkUp; exact (KeptOut.next (.ite (.mmUpdate (.condEnd (.wr (.wr (.wr (.wr (.wr hk))))))) hk))

theorem execFieldTrainTimeout_kept (n : Fin 8) (s : State) : KeptOut s (execFieldTrainTimeout n s) := by
  have hk := Kept.refl s
  unfold execFieldTrainTimeout; exact (KeptOut.next (.ite (.fieldTrain (.raise hk)) hk))

theorem execFieldLinkDown_kept (n : Fin 8) (s : State) : KeptOut s (execFieldLinkDown n s) := by
  have hk := Kept.refl s
  unfold execFieldLinkDown; exact (KeptOut.next (.ite (.fieldTrain (.fieldLost hk)) hk))

theorem execFieldLinkRestart_kept (m : Nat) (n : Fin 8) (s : State) : KeptOut s (execFieldLinkRestart m n s) := by
  have hk := Kept.refl s
  unfold execFieldLinkRestart; exact (KeptOut.next (.busW hk (fun _ k1 => (.fieldRestart k1))))

theorem Kept.fdEnables {s₀ s : State} {n : Nat} (hk : Kept s₀ s) : Kept s₀ (State.fdEnables s n) := by
  unfold State.fdEnables; exact (.ite (.ite (.setFd hk) (.fdGo hk)) (.ite (.ite (.fdGo hk) hk) (by (split; exacts [(.ite (.fdGo hk) hk),
    hk]))))

theorem Kept.shedOne {s₀ s : State}  (hk : Kept s₀ s) : Kept s₀ (State.shedOne s) := by
  unfold State.shedOne; exact (.ite (by (split; exacts [(.setFd (.fdCount (.fdGo hk))), hk])) hk)

theorem Kept.shedRoom {s₀ s : State}  (hk : Kept s₀ s) : Kept s₀ (State.shedRoom s) := by
  unfold State.shedRoom; exact (.foldl hk (fun _ _ k1 => (.ite (.ite (.setFd k1) (.setFd k1)) k1)) _)

theorem execPowerEvaluation_kept (cur : List Nat) (s : State) : KeptOut s (execPowerEvaluation cur s) := by
  have hk := Kept.refl s
  unfold execPowerEvaluation; exact (KeptOut.next (.ite (.shedRoom (.shedOne (.foldl (.mk_ hk) (fun _ _ k1 => (.fdEnables k1)) _))) hk))

theorem Kept.fdProbe {s₀ s : State} {n : Nat} {k : Probe} (hk : Kept s₀ s) : Kept s₀ (State.fdProbe s n k) := by
  unfold State.fdProbe; exact (.ite hk (by ((try dsimp only); split; exacts [(.fdShow (.setFd hk)), (.fdShow (.setFd hk)), (.ite (.fdGo
    (.setFd hk)) (.fdShow (.setFd hk)))])))

theorem execPdDetect_kept (n : Fin 8) (k : Probe) (s : State) : KeptOut s (execPdDetect n k s) := by
  have hk := Kept.refl s
  unfold execPdDetect; exact (KeptOut.next (.fdProbe hk))

theorem execPdClassify_kept (n : Fin 8) (cls : Option (Fin 16)) (s : State) : KeptOut s (execPdClassify n cls s) := by
  have hk := Kept.refl s
  unfold execPdClassify; exact (KeptOut.next (.ite hk (by (split; exacts [(.ite (.fdGo (.fdShow (.setFd hk))) (.raise (.setFd (.fdShow (.setFd
    hk))))), (.ite (.raise (.setFd hk)) hk)]))))

theorem Kept.fdFault {s₀ s : State} {n : Nat} (hk : Kept s₀ s) : Kept s₀ (State.fdFault s n) := by
  unfold State.fdFault; exact (.fdCount (.fdGo hk))

theorem execPowerUpDone_kept (n : Fin 8) (inRange : Bool) (s : State) : KeptOut s (execPowerUpDone n inRange s) := by
  have hk := Kept.refl s
  unfold execPowerUpDone; exact (KeptOut.next (.ite hk (.ite (.fdFault hk) (.ite (.fdGo hk) (.ite (.fdFault hk) hk)))))

theorem execPdDisconnect_kept (n : Fin 8) (s : State) : KeptOut s (execPdDisconnect n s) := by
  have hk := Kept.refl s
  unfold execPdDisconnect; exact (KeptOut.next (.ite (.fdGo hk) hk))

theorem execOvercurrentTrip_kept (n : Fin 8) (held : Option Nat) (s : State) : KeptOut s (execOvercurrentTrip n held s) := by
  have hk := Kept.refl s
  unfold execOvercurrentTrip; exact (KeptOut.next (.ite (.fdFault hk) hk))

theorem execFaultRetry_kept (n : Fin 8) (s : State) : KeptOut s (execFaultRetry n s) := by
  have hk := Kept.refl s
  unfold execFaultRetry; exact (KeptOut.next (.ite (.fdGo (.setFd hk)) hk))

theorem execRetryCountReset_kept (n : Fin 8) (s : State) : KeptOut s (execRetryCountReset n s) := by
  have hk := Kept.refl s
  unfold execRetryCountReset; exact (KeptOut.next (.ite (.setFd hk) hk))

theorem execShedRecover_kept  (s : State) : KeptOut s (execShedRecover s) := by
  have hk := Kept.refl s
  unfold execShedRecover; exact (KeptOut.next (by (split; exacts [hk, (.foldl (.fdGo hk) (fun _ _ k1 => (.setFd k1)) _)])))

theorem execFvinUndervoltage_kept (mv : Nat) (s : State) : KeptOut s (execFvinUndervoltage mv s) := by
  have hk := Kept.refl s
  unfold execFvinUndervoltage; exact (KeptOut.next (.ite (.fdPowerOff (.fvinShow (.fvinSet hk))) hk))

theorem execFvinOvervoltage_kept (mv : Nat) (s : State) : KeptOut s (execFvinOvervoltage mv s) := by
  have hk := Kept.refl s
  unfold execFvinOvervoltage; exact (KeptOut.next (.ite (.fdPowerOff (.fvinShow (.fvinSet hk))) hk))

theorem execFvinRestore_kept (mv : Nat) (s : State) : KeptOut s (execFvinRestore mv s) := by
  have hk := Kept.refl s
  unfold execFvinRestore; exact (KeptOut.next (.ite (.fieldReset (.mk_ (.fvinShow (.fvinSet hk)))) (.fvinShow (.fvinSet hk))))

end Sys2Proof.Machine
end

