-- ==== Sys2Proof/Laws/KeptMgmt.lean ====
section
/-!
SUPPORT. What the operations of Machine/Mgmt.lean keep (Laws/Kept.lean).
-/

namespace Sys2Proof.Machine

theorem Kept.mgEvent {s₀ s : State} {evt ie : Fld} (hk : Kept s₀ s) : Kept s₀ (State.mgEvent s evt ie) := by
  unfold State.mgEvent; exact (.ite (.sendEvent (.wr hk)) (.wr hk))

theorem Kept.logBook {s₀ s : State} {e : BookEntry} (hk : Kept s₀ s) : Kept s₀ (State.logBook s e) := by
  unfold State.logBook; exact (.ite (.mk_ (.inc (.mk_ hk))) (.logPut (.mk_ hk)))

theorem Kept.logMissed {s₀ s : State}  (hk : Kept s₀ s) : Kept s₀ (State.logMissed s) := by
  unfold State.logMissed; exact (.foldl hk (fun _ _ k1 => (.logBook k1)) _)

theorem Kept.fwBoot {s₀ s : State}  (hk : Kept s₀ s) : Kept s₀ (State.fwBoot s).1 := by
  unfold State.fwBoot; exact (.itePair (.wr hk) (.itePair (.raise0 (.wr (.mk_ (.ite (.raise0 (.ite hk (.raise0 hk))) (.ite hk (.raise0
    hk)))))) (.ite (.raise0 (.ite hk (.raise0 hk))) (.ite hk (.raise0 hk)))))

theorem Kept.mgRestarted {s₀ s : State}  (hk : Kept s₀ s) : Kept s₀ (State.mgRestarted s) := by
  unfold State.mgRestarted; exact (.foldl (.logMissed (.ite (.wr (.wr (.wr (.mk_ (.fwBoot hk))))) (.ite (.mgEvent (.wr (.mk_ (.fwBoot hk))))
    (.wr (.mk_ (.fwBoot hk)))))) (fun _ _ k1 => (.replyNext k1)) _)

theorem Kept.mgReset {s₀ s : State}  (hk : Kept s₀ s) : Kept s₀ (State.mgReset s) := by
  unfold State.mgReset; exact (.mk_ (.wr (.wr (.mbMasterReset hk))))

theorem Kept.mgRevert {s₀ s : State}  (hk : Kept s₀ s) : Kept s₀ (State.mgRevert s) := by
  unfold State.mgRevert; exact (.mk_ (.wr (.logEvent (.mgEvent (.raise0 hk)))))

theorem Kept.condSet {s₀ s : State} {src inst : Nat} {b : Bool} (hk : Kept s₀ s) : Kept s₀ (State.condSet s src inst b) := by
  unfold State.condSet; exact (.ite (.onset hk) (.ite (.condEnd hk) hk))

theorem Kept.writeMac {s₀ s : State} {p : Nat} (hk : Kept s₀ s) : Kept s₀ (State.writeMac s p) := by
  unfold State.writeMac; exact (.ite (.wr (.wr hk)) (.wr (.wr hk)))

theorem Kept.writeMacs {s₀ s : State}  (hk : Kept s₀ s) : Kept s₀ (State.writeMacs s) := by
  unfold State.writeMacs; exact (.foldl hk (fun _ _ k1 => (.writeMac k1)) _)

end Sys2Proof.Machine
end

