-- ==== Sys2Proof/Laws/KeptCrp.lean ====
section
/-!
SUPPORT. What the operations of Machine/Crp.lean keep (Laws/Kept.lean).
-/

namespace Sys2Proof.Machine

theorem Kept.regsReset {r s : State} {b : Nat} {keep : List Fld} (h : Kept r s) : Kept r (s.regsReset b keep) :=
  .foldl (.regsFilter h) (fun _ _ k => .wr k) _

theorem Kept.mapItems {s₀ s : State} {f : Item → Item} (hk : Kept s₀ s) : Kept s₀ (State.mapItems s f) := by
  unfold State.mapItems; exact (.mk_ hk)

theorem Kept.mapRx {s₀ s : State} {f : RxFrame → RxFrame} (hk : Kept s₀ s) : Kept s₀ (State.mapRx s f) := by
  unfold State.mapRx; exact (.mk_ hk)

theorem Kept.toutOff {s₀ s : State} {n : Nat} (hk : Kept s₀ s) : Kept s₀ (State.toutOff s n) := by
  unfold State.toutOff; exact (.ite (.emit (.mkTb hk)) hk)

theorem Kept.resetTbase {s₀ s : State}  (hk : Kept s₀ s) : Kept s₀ (State.resetTbase s) := by
  unfold State.resetTbase; exact (.condEnd (.regsReset (.mkTb (.foldl (.ite (.ppsPin hk) hk) (fun _ _ k1 => (.toutOff k1)) _))))

theorem Kept.holderGone {s₀ s : State} {m : Nat} (hk : Kept s₀ s) : Kept s₀ (State.holderGone s m) := by
  unfold State.holderGone; exact (.walkRelease (.mapItems hk))

theorem Kept.portYield {s₀ s : State} {p : Nat} {react : Bool} (hk : Kept s₀ s) : Kept s₀ (State.portYield s p react) := by
  unfold State.portYield; exact (.foldl hk (fun _ _ k1 => (by (split; exacts [(.ite (.yieldTo k1) k1), k1]))) _)

theorem Kept.resetPort {s₀ s : State} {p : Nat} {react : Bool} (hk : Kept s₀ s) : Kept s₀ (State.resetPort s p react) := by
  unfold State.resetPort; exact (.holderGone (.mmUpdate (.ite (.mk_ (.setBp (.condEnd (.condEnd (.condEnd (.slopeCheck (.regsReset (.ite
    (.bpDepart (.portYield hk)) (.portYield hk))))))))) (.setBp (.condEnd (.condEnd (.condEnd (.slopeCheck (.regsReset (.ite (.bpDepart
    (.portYield hk)) (.portYield hk)))))))))))

theorem Kept.resetField {s₀ s : State} {react : Bool} (hk : Kept s₀ s) : Kept s₀ (State.resetField s react) := by
  unfold State.resetField; exact (.foldl (.ite (.fieldReset (.regsReset (.foldl hk (fun _ _ k1 => (.portYield k1)) _))) (.regsReset (.foldl hk
    (fun _ _ k1 => (.portYield k1)) _))) (fun _ _ k1 => (.holderGone (.condEnd k1))) _)

theorem Kept.resetKiln {s₀ s : State}  (hk : Kept s₀ s) : Kept s₀ (State.resetKiln s) := by
  unfold State.resetKiln; exact (.foldl (.regsReset (.foldl (.mk_ (.foldl hk (fun _ _ k1 => (.taFreeEntry k1)) _)) (fun _ _ k1 => (.setHold
    k1)) _)) (fun _ _ k1 => (.reepAnchor k1)) _)

theorem Kept.resetYield {s₀ s : State} {i : Nat} {it : Item} {react : Bool} (hk : Kept s₀ s) : Kept s₀ (State.resetYield s i it react) := by
  unfold State.resetYield; exact (.ite (.yieldTo (.ite (.yieldTo hk) hk)) (.ite (.yieldTo hk) hk))

theorem Kept.resetLaunch {s₀ s : State} {react : Bool} (hk : Kept s₀ s) : Kept s₀ (State.resetLaunch s react) := by
  unfold State.resetLaunch; exact (.walkRelease (.wr (.mk_ (.foldl (.foldl (.foldl (.regsReset hk) (fun _ _ k1 => (by (split; exacts
    [(.resetYield k1), k1]))) _) (fun _ _ k1 => (.cutDown k1)) _) (fun _ _ k1 => (by (split; exacts [(.endItem (.inc k1)), k1]))) _))))

theorem Kept.resetFining {s₀ s : State}  (hk : Kept s₀ s) : Kept s₀ (State.resetFining s) := by
  unfold State.resetFining; exact (.wr (.add (.regsReset (.mk_ (.foldl (.mapRx hk) (fun _ _ k1 => (.discardRx k1)) _)))))

theorem Kept.resetPsfp {s₀ s : State}  (hk : Kept s₀ s) : Kept s₀ (State.resetPsfp s) := by
  unfold State.resetPsfp; exact (.wr (.regsReset (.mk_ (.mapRx hk))))

theorem Kept.resetLauter {s₀ s : State}  (hk : Kept s₀ s) : Kept s₀ (State.resetLauter s) := by
  unfold State.resetLauter; exact (.wr (.regsReset (.mk_ hk)))

theorem Kept.resetGrist {s₀ s : State} {react : Bool} (hk : Kept s₀ s) : Kept s₀ (State.resetGrist s react) := by
  unfold State.resetGrist; exact (.wr (.regsReset (.mk_ (.foldl (.foldl (.foldl (.mk_ (.foldl hk (fun _ _ k1 => (by (split; exacts [(.badRx
    (.setRx k1)), k1]))) _)) (fun _ _ k1 => (.discardRx k1)) _) (fun _ _ k1 => (by (split; exacts [(by (split; exacts [(.ite (.cutDown k1)
    k1), k1])), k1]))) _) (fun _ _ k1 => (by (split; exacts [(.ite k1 (.endItem (.resetYield (.raise0 (.inc k1))))), k1]))) _))))

theorem Kept.resetPitch {s₀ s : State}  (hk : Kept s₀ s) : Kept s₀ (State.resetPitch s) := by
  unfold State.resetPitch; exact (.wr (.regsReset (.mk_ hk)))

theorem Kept.resetGyle {s₀ s : State}  (hk : Kept s₀ s) : Kept s₀ (State.resetGyle s) := by
  unfold State.resetGyle; exact (.walkRelease (.wr (.regsReset (.foldl (.mk_ (.mapRx hk)) (fun _ _ k1 => (.finishJob k1)) _))))

theorem Kept.resetMash {s₀ s : State} {react : Bool} (hk : Kept s₀ s) : Kept s₀ (State.resetMash s react) := by
  unfold State.resetMash; exact (.wr (.add (.regsReset (.mk_ (.foldl hk (fun _ _ k1 => (.foldl k1 (fun _ _ k2 => (.dropItem (.resetYield k2)))
    _)) _)))))

theorem Kept.resetQeng {s₀ s : State}  (hk : Kept s₀ s) : Kept s₀ (State.resetQeng s) := by
  unfold State.resetQeng; exact (.walkRelease (.regsReset (.mk_ (.mapItems (.foldl hk (fun _ _ k1 => (.foldl (.foldl k1 (fun _ _ k2 => (.ite
    k2 (.dropJob k2))) _) (fun _ _ k2 => (.yieldTo k2)) _)) _)))))

theorem Kept.resetDma {s₀ s : State}  (hk : Kept s₀ s) : Kept s₀ (State.resetDma s) := by
  unfold State.resetDma; exact (.regsReset (.mk_ (.dmaDropAll hk)))

theorem Kept.resetMbox {s₀ s : State}  (hk : Kept s₀ s) : Kept s₀ (State.resetMbox s) := by
  unfold State.resetMbox; exact (.regsReset (.mk_ hk))

theorem Kept.sendRelease {s₀ s : State}  (hk : Kept s₀ s) : Kept s₀ (State.sendRelease s) := by
  unfold State.sendRelease; exact (.ite (.announce (.announce (.announce hk))) hk)

theorem Kept.resetTwin {s₀ s : State}  (hk : Kept s₀ s) : Kept s₀ (State.resetTwin s) := by
  unfold State.resetTwin; exact (.walkRelease (.toutAll (.mirState (.mk_ (.foldl (.regsReset (.twinDisable (.sendRelease hk))) (fun _ _ k1 =>
    (.foldl k1 (fun _ _ k2 => (.condEnd k2)) _)) _)))))

theorem Kept.resetSpare {s₀ s : State}  (hk : Kept s₀ s) : Kept s₀ (State.resetSpare s) := by
  unfold State.resetSpare; exact (.regsReset (.mk_ hk))

theorem Kept.blockClear {s₀ s : State} {b : Nat} {react : Bool} (hk : Kept s₀ s) : Kept s₀ (State.blockClear s b react) := by
  unfold State.blockClear; exact (by (split; exacts [(.resetTbase hk), (.resetPort hk), (.resetPort hk), (.resetField hk), (.resetKiln hk),
    (.resetLaunch hk), (.resetFining hk), (.resetPsfp hk), (.resetLauter hk), (.resetGrist hk), (.resetPitch hk), (.resetGyle hk),
    (.resetQeng hk), (.resetDma hk), (.resetMbox hk), (.resetTwin hk), (.mgReset hk), (.resetSpare hk), (.resetMash hk), hk]))

theorem Kept.winForget {s₀ s : State} {b : Nat} (hk : Kept s₀ s) : Kept s₀ (State.winForget s b) := by
  unfold State.winForget; exact (.mk_ hk)

theorem Kept.blockReset {s₀ s : State} {b : Nat} {react : Bool} (hk : Kept s₀ s) : Kept s₀ (State.blockReset s b react) := by
  unfold State.blockReset; exact (.ite hk (.winForget (.blockClear (.mk_ hk))))

theorem Kept.wipeDone {s₀ s : State} {b : Nat} (hk : Kept s₀ s) : Kept s₀ (State.wipeDone s b) := by
  unfold State.wipeDone; exact (by (split; exacts [(.wr hk), hk]))

theorem Kept.blockEnd {s₀ s : State} {b : Nat} (hk : Kept s₀ s) : Kept s₀ (State.blockEnd s b) := by
  unfold State.blockEnd; exact (by ((try dsimp only); split; exacts [(.ite (.writeMac (.wipeDone (.mk_ hk))) (.wipeDone (.mk_ hk))), (.ite
    (.writeMac (.wipeDone (.mk_ hk))) (.wipeDone (.mk_ hk))), (.ite (.foldl (.wipeDone (.mk_ hk)) (fun _ _ k1 => (.writeMac k1)) _)
    (.wipeDone (.mk_ hk))), (.mgRestarted (.wipeDone (.mk_ hk))), (.wipeDone (.mk_ hk))]))

theorem Kept.blkBit {s₀ s : State} {m b : Nat} (hk : Kept s₀ s) : Kept s₀ (State.blkBit s m b) := by
  unfold State.blkBit; exact (.ite (.deny hk) (.ite (.ite (.inc (.inc hk)) (.inc hk)) (.blockReset hk)))

theorem Kept.blkWrite {s₀ s : State} {m v : Nat} (hk : Kept s₀ s) : Kept s₀ (State.blkWrite s m v) := by
  unfold State.blkWrite; exact (.foldl hk (fun _ _ k1 => (.blkBit k1)) _)

theorem execBlockReset_kept (m : Nat) (v : Word) (s : State) : KeptOut s (execBlockReset m v s) := by
  have hk := Kept.refl s
  unfold execBlockReset; exact (KeptOut.next (.busW hk (fun _ k1 => (.blkWrite k1))))

theorem execBlockResetEnd_kept (b : Fin 23) (s : State) : KeptOut s (execBlockResetEnd b s) := by
  have hk := Kept.refl s
  unfold execBlockResetEnd; exact (KeptOut.next (.ite (.blockEnd hk) hk))

theorem Kept.holdEnd {s₀ s : State} {t : Nat} (hk : Kept s₀ s) : Kept s₀ (State.holdEnd s t) := by
  unfold State.holdEnd; exact (.ite (.ite (.blockEnd (.ite (.blockEnd (.wrBit hk)) (.wrBit hk))) (.ite (.blockEnd (.wrBit hk)) (.wrBit hk)))
    hk)

end Sys2Proof.Machine
end

