-- ==== Sys2Proof/Laws/KeptResets.lean ====
section
/-!
SUPPORT. What the operations of Machine/Resets.lean keep (Laws/Kept.lean).
-/

namespace Sys2Proof.Machine

theorem Kept.restart {r s : State} {keep : List Fld} (h : Kept r s) : Kept r (s.restart keep) := by
  unfold State.restart
  refine .foldl ?_ (fun _ _ k => .wr k) _
  exact ⟨h.pending, h.mono, fun _ => rfl⟩

theorem Kept.padsOff {s₀ s : State}  (hk : Kept s₀ s) : Kept s₀ (State.padsOff s) := by
  unfold State.padsOff; exact (.foldl (.ite (.ppsPin hk) hk) (fun _ _ k1 => (.toutOff k1)) _)

theorem Kept.chipReset {s₀ s : State}  (hk : Kept s₀ s) : Kept s₀ (State.chipReset s) := by
  unfold State.chipReset; exact (.mk_ (.restart (.padsOff hk)))

theorem Kept.lastReset {s₀ s : State} {kind src inst : Nat} (hk : Kept s₀ s) : Kept s₀ (State.lastReset s kind src inst) := by
  unfold State.lastReset; exact (.wr64 (.wr (.wr (.wr (.wr hk)))))

theorem Kept.chipRequest {s₀ s : State} {kind src inst : Nat} (hk : Kept s₀ s) : Kept s₀ (State.chipRequest s kind src inst) := by
  unfold State.chipRequest; exact (.ite hk (.mk_ (.sendRelease (.lastReset hk))))

theorem Kept.chipRst {s₀ s : State} {m key : Nat} {go : Bool} (hk : Kept s₀ s) : Kept s₀ (State.chipRst s m key go) := by
  unfold State.chipRst; exact (.ite hk (.ite (.inc hk) (.ite (.chipRequest hk) (.deny hk))))

theorem execChipResetRegister_kept (m key : Nat) (go : Bool) (s : State) : KeptOut s (execChipResetRegister m key go s) := by
  have hk := Kept.refl s
  unfold execChipResetRegister; exact (KeptOut.next (.busW hk (fun _ k1 => (.chipRst k1))))

theorem execChipReset_kept  (s : State) : KeptOut s (execChipReset s) := by
  have hk := Kept.refl s
  unfold execChipReset; exact (KeptOut.next (.ite (.chipReset hk) hk))

theorem Kept.powerOff {s₀ s : State}  (hk : Kept s₀ s) : Kept s₀ (State.powerOff s) := by
  unfold State.powerOff; exact (.mk_ (.wr (.restart (.padsOff hk))))

theorem Kept.powerOn {s₀ s : State}  (hk : Kept s₀ s) : Kept s₀ (State.powerOn s) := by
  unfold State.powerOn; exact (.mk_ (.restart hk))

theorem execResetNAssert_kept  (s : State) : KeptOut s (execResetNAssert s) := by
  have hk := Kept.refl s
  unfold execResetNAssert; exact (KeptOut.next (.ite hk (.ite (.mk_ (.powerOn hk)) (.ite (.mk_ hk) (.mk_ (.chipReset (.lastReset hk)))))))

theorem execResetNRelease_kept  (s : State) : KeptOut s (execResetNRelease s) := by
  have hk := Kept.refl s
  unfold execResetNRelease; exact (KeptOut.next (.ite (.mk_ hk) hk))

theorem execVmainLoss_kept  (s : State) : KeptOut s (execVmainLoss s) := by
  have hk := Kept.refl s
  unfold execVmainLoss; exact (KeptOut.next (.ite hk (.powerOff hk)))

theorem execPowerOn_kept (vio33 : Bool) (s : State) : KeptOut s (execPowerOn vio33 s) := by
  have hk := Kept.refl s
  unfold execPowerOn; exact (KeptOut.next (.ite (.mk_ (.powerOn hk)) hk))

theorem Kept.flr {s₀ s : State} {fn : Nat} (hk : Kept s₀ s) : Kept s₀ (State.flr s fn) := by
  unfold State.flr; exact (.mk_ (.ite (.servoToFirmware (.mbMasterReset (.holderGone (.dmaFlr (.mk_ (.freeSubsOf (.queuesFlr hk))))))) (.wr
    (.wr (.wr (.mbMasterReset (.holderGone (.dmaFlr (.mk_ (.freeSubsOf (.queuesFlr hk)))))))))))

theorem execFunctionLevelReset_kept (fn : Fin 16) (s : State) : KeptOut s (execFunctionLevelReset fn s) := by
  have hk := Kept.refl s
  unfold execFunctionLevelReset; exact (KeptOut.next (.ite (.flr hk) hk))

theorem execFlrDone_kept (fn : Fin 16) (s : State) : KeptOut s (execFlrDone fn s) := by
  have hk := Kept.refl s
  unfold execFlrDone; exact (KeptOut.next (.mk_ hk))

theorem Kept.linkGone {s₀ s : State}  (hk : Kept s₀ s) : Kept s₀ (State.linkGone s) := by
  unfold State.linkGone; exact (.mk_ (.wr (.wr (.wr hk))))

theorem execPerstAssert_kept  (s : State) : KeptOut s (execPerstAssert s) := by
  have hk := Kept.refl s
  unfold execPerstAssert; exact (KeptOut.next (.ite hk (.ite (.foldl (.mk_ (.foldl (.inc (.onset (.wr (.linkGone hk)))) (fun _ _ k1 => (.flr
    k1)) _)) (fun _ _ k1 => (.releaseHold k1)) _) (.onset (.wr (.linkGone hk))))))

theorem execPerstDeassert_kept  (s : State) : KeptOut s (execPerstDeassert s) := by
  have hk := Kept.refl s
  unfold execPerstDeassert; exact (KeptOut.next (.ite (.ite (.wr (.wr hk)) (.condEnd (.wr (.wr hk)))) hk))

theorem Kept.heldLeave {s₀ s : State}  (hk : Kept s₀ s) : Kept s₀ (State.heldLeave s) := by
  unfold State.heldLeave; exact (.foldl (.mk_ hk) (fun _ _ k1 => (.releaseHold k1)) _)

theorem execPcieLinkUp_kept (width speed : Nat) (s : State) : KeptOut s (execPcieLinkUp width speed s) := by
  have hk := Kept.refl s
  unfold execPcieLinkUp; exact (KeptOut.next (.ite hk (.heldLeave (.condEnd (.wr (.wr (.wr (.wr hk))))))))

theorem execPcieLinkDown_kept  (s : State) : KeptOut s (execPcieLinkDown s) := by
  have hk := Kept.refl s
  unfold execPcieLinkDown; exact (KeptOut.next (.ite (.onset (.linkGone hk)) (.linkGone hk)))

theorem execPcieError_kept (fn : Fin 16) (uncorr : Bool) (s : State) : KeptOut s (execPcieError fn uncorr s) := by
  have hk := Kept.refl s
  unfold execPcieError; exact (KeptOut.next (.raise hk))

theorem execLinkEntersL12_kept  (s : State) : KeptOut s (execLinkEntersL12 s) := by
  have hk := Kept.refl s
  unfold execLinkEntersL12; exact (KeptOut.next (.ite (.mk_ hk) hk))

theorem execLinkExitsL12_kept  (s : State) : KeptOut s (execLinkExitsL12 s) := by
  have hk := Kept.refl s
  unfold execLinkExitsL12; exact (KeptOut.next (.ite (.heldLeave (.mk_ hk)) hk))

theorem execLinkWakeRequest_kept  (s : State) : KeptOut s (execLinkWakeRequest s) := by
  have hk := Kept.refl s
  unfold execLinkWakeRequest; exact (KeptOut.next (.ite (.inc (.mk_ hk)) hk))

theorem execConfigRetry_kept (x : CfgRead) (s : State) : KeptOut s (execConfigRetry x s) := by
  have hk := Kept.refl s
  unfold execConfigRetry; exact (KeptOut.next (.ite (.mk_ hk) (.mk_ hk)))

theorem Kept.funMask {s₀ s : State} {fn : Nat} {b : Bool} (hk : Kept s₀ s) : Kept s₀ (State.funMask s fn b) := by
  unfold State.funMask; exact (.foldl (.mk_ hk) (fun _ _ k1 => (.toHost (.mk_ k1))) _)

theorem execConfigurationWrite_kept (fn : Fin 16) (w : CfgWrite) (s : State) : KeptOut s (execConfigurationWrite fn w s) := by
  have hk := Kept.refl s
  unfold execConfigurationWrite; exact (KeptOut.next (.ite (by (split; exacts [(.mk_ hk), (.mk_ hk), (.ite (.mk_ hk) hk), (.funMask hk)]))
    hk))

theorem execSupplyFault_kept (x : Supply) (s : State) : KeptOut s (execSupplyFault x s) := by
  have hk := Kept.refl s
  unfold execSupplyFault; exact (KeptOut.next (by (split; exacts [(.onset hk), (.onset hk), (.onset hk), (.ite (.mk_ (.onset hk)) hk)])))

theorem execRefLoss_kept  (s : State) : KeptOut s (execRefLoss s) := by
  have hk := Kept.refl s
  unfold execRefLoss; exact (KeptOut.next (.onset (.wr hk)))

theorem execPllUnlock_kept (bit : Nat) (s : State) : KeptOut s (execPllUnlock bit s) := by
  have hk := Kept.refl s
  unfold execPllUnlock; exact (KeptOut.next (by (split; exacts [(.onset (.wr hk)), hk])))

theorem execPcieRefclkLoss_kept  (s : State) : KeptOut s (execPcieRefclkLoss s) := by
  have hk := Kept.refl s
  unfold execPcieRefclkLoss; exact (KeptOut.next (.ite (.wr hk) (.onset (.wr hk))))

end Sys2Proof.Machine
end

