-- ==== Sys2Proof/Laws/KeptCellar.lean ====
section
/-!
SUPPORT. What the operations of Machine/Cellar.lean keep (Laws/Kept.lean).
-/

namespace Sys2Proof.Machine

theorem Kept.bookOvf {s₀ s : State} {src : Nat} (hk : Kept s₀ s) : Kept s₀ (State.bookOvf s src) := by
  unfold State.bookOvf; exact (.raise0 (.wr hk))

theorem Kept.bookNew {s₀ s : State} {h : Hit} {react blk : Nat} (hk : Kept s₀ s) : Kept s₀ (State.bookNew s h react blk) := by
  unfold State.bookNew; exact (.ite (.mk_ (.mk_ hk)) (by (split; exacts [(.bookOvf (.mk_ (.mk_ hk))), (.bookOvf (.mk_ hk))])))

theorem Kept.bookAdd {s₀ s : State} {h : Hit} {react blk : Nat} (hk : Kept s₀ s) : Kept s₀ (State.bookAdd s h react blk) := by
  unfold State.bookAdd; exact (by (split; exacts [(.ite (.mk_ hk) (.bookNew hk)), (.bookNew hk)]))

theorem Kept.alertSet {s₀ s : State}  (hk : Kept s₀ s) : Kept s₀ (State.alertSet s) := by
  unfold State.alertSet; exact (.mk_ hk)

theorem Kept.irqReact {s₀ s : State} {srcs : List Nat} (hk : Kept s₀ s) : Kept s₀ (State.irqReact s srcs) := by
  unfold State.irqReact; exact (.alertSet (.ite (.sendEvent (.mk_ (.foldl hk (fun _ _ k1 => (.wrBit k1)) _))) (.mk_ (.foldl hk (fun _ _ k1 =>
    (.wrBit k1)) _))))

theorem Kept.pendWrite {s₀ s : State} {w v : Nat} (hk : Kept s₀ s) : Kept s₀ (State.pendWrite s w v) := by
  unfold State.pendWrite; exact (.alertSet (.foldl hk (fun _ _ k1 => (.ite (.wrBit k1) k1)) _))

theorem Kept.errPad {s₀ s : State}  (hk : Kept s₀ s) : Kept s₀ (State.errPad s) := by
  unfold State.errPad; exact (.ite (.mk_ (.wr hk)) (.ite (.wr (.mk_ (.wr hk))) (.mk_ (.wr (.wr (.mk_ (.wr hk)))))))

theorem Kept.blkReact {s₀ s : State} {b : Nat} (hk : Kept s₀ s) : Kept s₀ (State.blkReact s b) := by
  unfold State.blkReact; exact (.ite hk (.ite (.raise (.wrBit (.blockReset hk))) (.blockReset (.mk_ hk))))

theorem Kept.faultHit {s₀ s : State}  (hk : Kept s₀ s) : Kept s₀ (State.faultHit s) := by
  unfold State.faultHit; exact (.mk_ (.ite hk (.inc (.wr hk))))

theorem Kept.hitOne {s₀ s : State} {h : Hit} {rb : Nat × Nat} (hk : Kept s₀ s) : Kept s₀ (State.hitOne s h rb) := by
  unfold State.hitOne; exact (.ite (.ite (.wrBit (.inc hk)) (.inc hk)) (.ite (.ite (.ite (.wrBit (.inc hk)) (.inc hk)) (.bookAdd (.ite (.wrBit
    (.inc hk)) (.inc hk)))) (.ite (.faultHit (.ite (.mk_ (.ite (.ite (.wrBit (.inc hk)) (.inc hk)) (.bookAdd (.ite (.wrBit (.inc hk)) (.inc
    hk))))) (.ite (.ite (.wrBit (.inc hk)) (.inc hk)) (.bookAdd (.ite (.wrBit (.inc hk)) (.inc hk)))))) (.ite (.mk_ (.ite (.ite (.wrBit
    (.inc hk)) (.inc hk)) (.bookAdd (.ite (.wrBit (.inc hk)) (.inc hk))))) (.ite (.ite (.wrBit (.inc hk)) (.inc hk)) (.bookAdd (.ite (.wrBit
    (.inc hk)) (.inc hk))))))))

theorem Kept.detected {s₀ s : State} {r : Raise} (hk : Kept s₀ s) : Kept s₀ (State.detected s r) := by
  unfold State.detected; exact (.ite (.mk_ hk) (.ite (.mk_ hk) (.ite (.mk_ hk) (.ite (.mk_ hk) hk))))

theorem Kept.cycle {s₀ s : State} {l : List Raise} (hk : Kept s₀ s) : Kept s₀ (State.cycle s l) := by
  unfold State.cycle; exact (by ((try dsimp only); split; exacts [(.chipRequest (.ite (.mgRevert (.ite (.logMissed (.ite (.errPad (.irqReact
    (.foldl (.foldl hk (fun _ _ k1 => (.detected k1)) _) (fun _ _ k1 => (.hitOne k1)) _))) (.irqReact (.foldl (.foldl hk (fun _ _ k1 =>
    (.detected k1)) _) (fun _ _ k1 => (.hitOne k1)) _)))) (.ite (.errPad (.irqReact (.foldl (.foldl hk (fun _ _ k1 => (.detected k1)) _)
    (fun _ _ k1 => (.hitOne k1)) _))) (.irqReact (.foldl (.foldl hk (fun _ _ k1 => (.detected k1)) _) (fun _ _ k1 => (.hitOne k1)) _)))))
    (.ite (.logMissed (.ite (.errPad (.irqReact (.foldl (.foldl hk (fun _ _ k1 => (.detected k1)) _) (fun _ _ k1 => (.hitOne k1)) _)))
    (.irqReact (.foldl (.foldl hk (fun _ _ k1 => (.detected k1)) _) (fun _ _ k1 => (.hitOne k1)) _)))) (.ite (.errPad (.irqReact (.foldl
    (.foldl hk (fun _ _ k1 => (.detected k1)) _) (fun _ _ k1 => (.hitOne k1)) _))) (.irqReact (.foldl (.foldl hk (fun _ _ k1 => (.detected
    k1)) _) (fun _ _ k1 => (.hitOne k1)) _)))))), (.ite (.blockReset (.foldl (.ite (.mgRevert (.ite (.logMissed (.ite (.errPad (.irqReact
    (.foldl (.foldl hk (fun _ _ k1 => (.detected k1)) _) (fun _ _ k1 => (.hitOne k1)) _))) (.irqReact (.foldl (.foldl hk (fun _ _ k1 =>
    (.detected k1)) _) (fun _ _ k1 => (.hitOne k1)) _)))) (.ite (.errPad (.irqReact (.foldl (.foldl hk (fun _ _ k1 => (.detected k1)) _)
    (fun _ _ k1 => (.hitOne k1)) _))) (.irqReact (.foldl (.foldl hk (fun _ _ k1 => (.detected k1)) _) (fun _ _ k1 => (.hitOne k1)) _)))))
    (.ite (.logMissed (.ite (.errPad (.irqReact (.foldl (.foldl hk (fun _ _ k1 => (.detected k1)) _) (fun _ _ k1 => (.hitOne k1)) _)))
    (.irqReact (.foldl (.foldl hk (fun _ _ k1 => (.detected k1)) _) (fun _ _ k1 => (.hitOne k1)) _)))) (.ite (.errPad (.irqReact (.foldl
    (.foldl hk (fun _ _ k1 => (.detected k1)) _) (fun _ _ k1 => (.hitOne k1)) _))) (.irqReact (.foldl (.foldl hk (fun _ _ k1 => (.detected
    k1)) _) (fun _ _ k1 => (.hitOne k1)) _))))) (fun _ _ k1 => (.blkReact k1)) _)) (.foldl (.ite (.mgRevert (.ite (.logMissed (.ite (.errPad
    (.irqReact (.foldl (.foldl hk (fun _ _ k1 => (.detected k1)) _) (fun _ _ k1 => (.hitOne k1)) _))) (.irqReact (.foldl (.foldl hk (fun _ _
    k1 => (.detected k1)) _) (fun _ _ k1 => (.hitOne k1)) _)))) (.ite (.errPad (.irqReact (.foldl (.foldl hk (fun _ _ k1 => (.detected k1))
    _) (fun _ _ k1 => (.hitOne k1)) _))) (.irqReact (.foldl (.foldl hk (fun _ _ k1 => (.detected k1)) _) (fun _ _ k1 => (.hitOne k1)) _)))))
    (.ite (.logMissed (.ite (.errPad (.irqReact (.foldl (.foldl hk (fun _ _ k1 => (.detected k1)) _) (fun _ _ k1 => (.hitOne k1)) _)))
    (.irqReact (.foldl (.foldl hk (fun _ _ k1 => (.detected k1)) _) (fun _ _ k1 => (.hitOne k1)) _)))) (.ite (.errPad (.irqReact (.foldl
    (.foldl hk (fun _ _ k1 => (.detected k1)) _) (fun _ _ k1 => (.hitOne k1)) _))) (.irqReact (.foldl (.foldl hk (fun _ _ k1 => (.detected
    k1)) _) (fun _ _ k1 => (.hitOne k1)) _))))) (fun _ _ k1 => (.blkReact k1)) _))]))

theorem execFaultRaise_kept (n : Nat) (more : List Raise) (s : State) : KeptOut s (execFaultRaise n more s) := by
  have hk := Kept.refl s
  unfold execFaultRaise; exact (KeptOut.next (.cycle (.mk_ hk)))

theorem Kept.condOver {s₀ s : State} {src inst : Nat} (hk : Kept s₀ s) : Kept s₀ (State.condOver s src inst) := by
  unfold State.condOver; exact (.ite (.wr (.condEnd hk)) (.ite (by (split; exacts [(.wr (.condEnd hk)), (.condEnd hk)])) (.ite (.wr (.condEnd
    hk)) (.ite (.mk_ (.condEnd hk)) (.condEnd hk)))))

theorem execConditionEnd_kept (src inst : Nat) (s : State) : KeptOut s (execConditionEnd src inst s) := by
  have hk := Kept.refl s
  unfold execConditionEnd; exact (KeptOut.next (.ite (.condOver hk) hk))

theorem execSettleWindowEnd_kept (b : Fin 23) (s : State) : KeptOut s (execSettleWindowEnd b s) := by
  have hk := Kept.refl s
  unfold execSettleWindowEnd; exact (KeptOut.next (.mk_ hk))

theorem execFaultQuietExpiry_kept  (s : State) : KeptOut s (execFaultQuietExpiry s) := by
  have hk := Kept.refl s
  unfold execFaultQuietExpiry; exact (KeptOut.next (.ite (.inc (.wr hk)) hk))

theorem Kept.errRise {s₀ s : State}  (hk : Kept s₀ s) : Kept s₀ (State.errRise s) := by
  unfold State.errRise; exact (.wr (.wr hk))

theorem execErrWidthExpiry_kept  (s : State) : KeptOut s (execErrWidthExpiry s) := by
  have hk := Kept.refl s
  unfold execErrWidthExpiry; exact (KeptOut.next (.ite (.ite (.errRise (.wr hk)) (.wr hk)) hk))

theorem Kept.errRelease {s₀ s : State}  (hk : Kept s₀ s) : Kept s₀ (State.errRelease s) := by
  unfold State.errRelease; exact (.ite hk (.ite (.wr hk) (.mk_ (.errRise hk))))

theorem execErrRelease_kept (m : Nat) (s : State) : KeptOut s (execErrRelease m s) := by
  have hk := Kept.refl s
  unfold execErrRelease; exact (KeptOut.next (.busW hk (fun _ k1 => (.errRelease k1))))

theorem Kept.bookPop {s₀ s : State}  (hk : Kept s₀ s) : Kept s₀ (State.bookPop s) := by
  unfold State.bookPop; exact (by (split; exacts [hk, (.mk_ hk)]))

theorem execBookPop_kept (m : Nat) (s : State) : KeptOut s (execBookPop m s) := by
  have hk := Kept.refl s
  unfold execBookPop; exact (KeptOut.next (.busW hk (fun _ k1 => (.bookPop k1))))

theorem Kept.bookClear {s₀ s : State}  (hk : Kept s₀ s) : Kept s₀ (State.bookClear s) := by
  unfold State.bookClear; exact (.mk_ hk)

theorem execBookClear_kept (m : Nat) (s : State) : KeptOut s (execBookClear m s) := by
  have hk := Kept.refl s
  unfold execBookClear; exact (KeptOut.next (.busW hk (fun _ k1 => (.bookClear k1))))

theorem Kept.faultInject {s₀ s : State} {m src : Nat} (hk : Kept s₀ s) : Kept s₀ (State.faultInject s m src) := by
  unfold State.faultInject; exact (.ite (.mk_ hk) hk)

theorem execFaultInject_kept (m src : Nat) (s : State) : KeptOut s (execFaultInject m src s) := by
  have hk := Kept.refl s
  unfold execFaultInject; exact (KeptOut.next (.busAdm hk (fun _ k1 => (.faultInject k1))))

theorem Kept.heldWrite {s₀ s : State} {v : Nat} (hk : Kept s₀ s) : Kept s₀ (State.heldWrite s v) := by
  unfold State.heldWrite; exact (.foldl hk (fun _ _ k1 => (.holdEnd k1)) _)

theorem execBlockHoldEnd_kept (m : Nat) (v : Word) (s : State) : KeptOut s (execBlockHoldEnd m v s) := by
  have hk := Kept.refl s
  unfold execBlockHoldEnd; exact (KeptOut.next (.busW hk (fun _ k1 => (.heldWrite k1))))

theorem Kept.faultMinKeep {s₀ s : State}  (hk : Kept s₀ s) : Kept s₀ (State.faultMinKeep s) := by
  unfold State.faultMinKeep; exact (.mk_ hk)

theorem Kept.srcCfgWrite {s₀ s : State} {n v : Nat} (hk : Kept s₀ s) : Kept s₀ (State.srcCfgWrite s n v) := by
  unfold State.srcCfgWrite; exact (.mk_ (.wr (.wr (.wr (.wr (.wr (.wr (.wr (.wr (.mk_ hk))))))))))

theorem execSourceConfigWrite_kept (m : Nat) (n : Fin 160) (v : Word) (s : State) : KeptOut s (execSourceConfigWrite m n v s) := by
  have hk := Kept.refl s
  unfold execSourceConfigWrite; exact (KeptOut.next (.busW hk (fun _ k1 => (.srcCfgWrite k1))))

end Sys2Proof.Machine
end

