-- ==== Sys2Proof/Laws/KeptAccess.lean ====
section
/-!
SUPPORT. What the operations of Machine/Access.lean keep (Laws/Kept.lean).
-/

namespace Sys2Proof.Machine

theorem Kept.tblSet {s₀ s : State} {t w v : Nat} (hk : Kept s₀ s) : Kept s₀ (State.tblSet s t w v) := by
  unfold State.tblSet; exact (.mk_ (.wr hk))

theorem Kept.tblWrite {s₀ s : State} {m t w v : Nat} (hk : Kept s₀ s) : Kept s₀ (State.tblWrite s m t w v) := by
  unfold State.tblWrite; exact (.ite (.tblSet hk) (.raise0 (.inc hk)))

theorem execAccessTableWrite_kept (m : Nat) (t : Fin 22) (w : Fin 8) (v : Word) (s : State) : KeptOut s (execAccessTableWrite m t w v s) :=
    by
  have hk := Kept.refl s
  unfold execAccessTableWrite; exact (KeptOut.next (.busW hk (fun _ k1 => (.tblWrite k1))))

theorem Kept.lockTables {s₀ s : State}  (hk : Kept s₀ s) : Kept s₀ (State.lockTables s) := by
  unfold State.lockTables; exact (.ite (.wr (.wr (.wr hk))) (.wr (.wr hk)))

theorem Kept.tblLock {s₀ s : State} {m : Nat} (hk : Kept s₀ s) : Kept s₀ (State.tblLock s m) := by
  unfold State.tblLock; exact (.ite (.lockTables hk) hk)

theorem execTableLock_kept (m : Nat) (s : State) : KeptOut s (execTableLock m s) := by
  have hk := Kept.refl s
  unfold execTableLock; exact (KeptOut.next (.busW hk (fun _ k1 => (.tblLock k1))))

theorem Kept.dbgStart {s₀ s : State}  (hk : Kept s₀ s) : Kept s₀ (State.dbgStart s) := by
  unfold State.dbgStart; exact (.mk_ (.wr hk))

theorem Kept.dbgEndWrite {s₀ s : State} {m : Nat} (hk : Kept s₀ s) : Kept s₀ (State.dbgEndWrite s m) := by
  unfold State.dbgEndWrite; exact (.ite (.dbgStart hk) hk)

theorem execDbgEnd_kept (m : Nat) (s : State) : KeptOut s (execDbgEnd m s) := by
  have hk := Kept.refl s
  unfold execDbgEnd; exact (KeptOut.next (.busW hk (fun _ k1 => (.dbgEndWrite k1))))

theorem execDebugExpiry_kept  (s : State) : KeptOut s (execDebugExpiry s) := by
  have hk := Kept.refl s
  unfold execDebugExpiry; exact (KeptOut.next (by (split; exacts [(.ite (.dbgStart hk) hk), hk])))

theorem Kept.tkAccept {s₀ s : State} {t : List Byte} (hk : Kept s₀ s) : Kept s₀ (State.tkAccept s t) := by
  unfold State.tkAccept; exact (.ite (.ite (.wr hk) (.mk_ hk)) (.mk_ (.wr hk)))

theorem Kept.tkEval {s₀ s : State} {t : List Byte} {sig : Bool} (hk : Kept s₀ s) : Kept s₀ (State.tkEval s t sig) := by
  unfold State.tkEval; exact (.mk_ (.logEvent (.wr (.wr (.wr (.ite (.tkAccept hk) (.raise0 hk)))))))

theorem Kept.norWrite {s₀ s : State} {r : LogRec} (hk : Kept s₀ s) : Kept s₀ (State.norWrite s r) := by
  unfold State.norWrite; exact (.mk_ (.wr (.ite (.mgEvent (.raise0 (.wr (.mk_ hk)))) hk)))

theorem Kept.logFlush {s₀ s : State}  (hk : Kept s₀ s) : Kept s₀ (State.logFlush s) := by
  unfold State.logFlush; exact (.foldl (.mk_ hk) (fun _ _ k1 => (.norWrite k1)) _)

theorem Kept.lcChange {s₀ s : State} {dest : Nat} (hk : Kept s₀ s) : Kept s₀ (State.lcChange s dest) := by
  unfold State.lcChange; exact (.chipReset (.wr (.ite (.wr (.mk_ (.ite (.foldl (.mk_ (.ite (.wr (.logFlush (.logEvent hk))) (.logFlush
    (.logEvent hk)))) (fun _ _ k1 => (.wr k1)) _) (.ite (.wr (.logFlush (.logEvent hk))) (.logFlush (.logEvent hk)))))) (.ite (.foldl (.mk_
    (.ite (.wr (.logFlush (.logEvent hk))) (.logFlush (.logEvent hk)))) (fun _ _ k1 => (.wr k1)) _) (.ite (.wr (.logFlush (.logEvent hk)))
    (.logFlush (.logEvent hk)))))))

theorem execLifecycleChange_kept  (s : State) : KeptOut s (execLifecycleChange s) := by
  have hk := Kept.refl s
  unfold execLifecycleChange; exact (KeptOut.next (by (split; exacts [(.lcChange hk), hk])))

theorem execIdcode_kept  (s : State) : KeptOut s (execIdcode s) := by
  have hk := Kept.refl s
  unfold execIdcode; exact (KeptOut.next (.ite hk (.mk_ hk)))

theorem execDbgToken_kept (token : List Byte) (s : State) : KeptOut s (execDbgToken token s) := by
  have hk := Kept.refl s
  unfold execDbgToken; exact (KeptOut.next (.ite hk (.mk_ hk)))

theorem execDbgTrace_kept  (s : State) : KeptOut s (execDbgTrace s) := by
  have hk := Kept.refl s
  unfold execDbgTrace; exact (KeptOut.next (.ite (.mk_ hk) (.mk_ hk)))

theorem execDbgHalt_kept  (s : State) : KeptOut s (execDbgHalt s) := by
  have hk := Kept.refl s
  unfold execDbgHalt; exact (KeptOut.next (.ite hk (.mk_ hk)))

theorem execDbgStep_kept  (s : State) : KeptOut s (execDbgStep s) := by
  have hk := Kept.refl s
  unfold execDbgStep; exact (KeptOut.next (.ite hk (.mk_ hk)))

theorem execBoundaryScan_kept (pads : List Bool) (s : State) : KeptOut s (execBoundaryScan pads s) := by
  have hk := Kept.refl s
  unfold execBoundaryScan; exact (KeptOut.next (.ite hk (.mk_ hk)))

theorem Kept.pwRej {s₀ s : State} {code : Nat} (hk : Kept s₀ s) : Kept s₀ (State.pwRej s code) := by
  unfold State.pwRej; exact (.raise0 (.wr (.wr hk)))

theorem Kept.pwReq {s₀ s : State} {m st : Nat} {confirmed : Bool} (hk : Kept s₀ s) : Kept s₀ (State.pwReq s m st confirmed) := by
  unfold State.pwReq; exact (.ite (.pwRej (.deny hk)) (.ite (.pwRej (.deny hk)) (.ite (.pwRej hk) (.ite (.pwRej hk) (.ite (.pwRej hk) (.mk_
    hk))))))

theorem Kept.pwSet {s₀ s : State} {st : Nat} (hk : Kept s₀ s) : Kept s₀ (State.pwSet s st) := by
  unfold State.pwSet; exact (.logEvent (.wr hk))

theorem Kept.holdLeft {s₀ s : State}  (hk : Kept s₀ s) : Kept s₀ (State.holdLeft s) := by
  unfold State.holdLeft; exact (.ite (.mk_ (.setRole (.ite (.foldl (.foldl hk (fun _ _ k1 => (.ite (.bpAcquire k1) k1)) _) (fun _ _ k1 =>
    (.fieldTrain k1)) _) (.foldl hk (fun _ _ k1 => (.ite (.bpAcquire k1) k1)) _)))) (.ite (.foldl (.foldl hk (fun _ _ k1 => (.ite
    (.bpAcquire k1) k1)) _) (fun _ _ k1 => (.fieldTrain k1)) _) (.foldl hk (fun _ _ k1 => (.ite (.bpAcquire k1) k1)) _)))

theorem Kept.pwLive {s₀ s : State} {st : Nat} (hk : Kept s₀ s) : Kept s₀ (State.pwLive s st) := by
  unfold State.pwLive; exact (.ite (.holdLeft (.pwSet hk)) (.pwSet hk))

theorem Kept.holdBegin {s₀ s : State}  (hk : Kept s₀ s) : Kept s₀ (State.holdBegin s) := by
  unfold State.holdBegin; exact (.mk_ (.ite (.setRole (.mk_ (.announce (.announce (.announce (.ite (.enterHoldover (.wr hk)) (.wr hk)))))))
    (.ite (.enterHoldover (.wr hk)) (.wr hk))))

theorem Kept.holdDone {s₀ s : State}  (hk : Kept s₀ s) : Kept s₀ (State.holdDone s) := by
  unfold State.holdDone; exact (.mk_ (.ite (.enterHoldover (.pwSet (.inc (.wr (.foldl (.foldl hk (fun _ _ k1 => (.ite (.bpAcquire (.bpDepart
    k1)) k1)) _) (fun _ _ k1 => (.ite (.fieldLost k1) k1)) _))))) (.pwSet (.inc (.wr (.foldl (.foldl hk (fun _ _ k1 => (.ite (.bpAcquire
    (.bpDepart k1)) k1)) _) (fun _ _ k1 => (.ite (.fieldLost k1) k1)) _))))))

theorem execHoldEntered_kept  (s : State) : KeptOut s (execHoldEntered s) := by
  have hk := Kept.refl s
  unfold execHoldEntered; exact (KeptOut.next (.ite (.holdDone hk) hk))

theorem Kept.pwRunBegin {s₀ s : State}  (hk : Kept s₀ s) : Kept s₀ (State.pwRunBegin s) := by
  unfold State.pwRunBegin; exact (.ite (.mk_ (.pwLive hk)) (.pwLive hk))

theorem Kept.pwWrite {s₀ s : State} {m st confirm : Nat} (hk : Kept s₀ s) : Kept s₀ (State.pwWrite s m st confirm) := by
  unfold State.pwWrite; exact (by (split; exacts [(.pwReq hk), (.pwReq hk), (.pwReq hk), (.pwReq hk)]))

theorem Kept.pwGo {s₀ s : State} {st : Nat} (hk : Kept s₀ s) : Kept s₀ (State.pwGo s st) := by
  unfold State.pwGo; exact (.ite hk (by (split; exacts [(.pwRunBegin hk), (.pwLive hk), (.holdBegin hk), (.powerOff (.logFlush (.logEvent
    hk)))])))

theorem Kept.pwFlush {s₀ s : State}  (hk : Kept s₀ s) : Kept s₀ (State.pwFlush s) := by
  unfold State.pwFlush; exact (by ((try dsimp only); split; exacts [(.mk_ hk), (by (split; exacts [(.pwGo (.mk_ hk)), (.mk_ hk)]))]))

theorem Kept.pwBus {s₀ s : State} {m st confirm : Nat} (hk : Kept s₀ s) : Kept s₀ (State.pwBus s m st confirm) := by
  unfold State.pwBus; exact (.ite (.pwWrite hk) hk)

theorem execPowerReqRun_kept (m : Nat) (s : State) : KeptOut s (execPowerReqRun m s) := by
  have hk := Kept.refl s
  unfold execPowerReqRun; exact (KeptOut.next (.pwBus hk))

theorem execPowerReqTrim_kept (m : Nat) (s : State) : KeptOut s (execPowerReqTrim m s) := by
  have hk := Kept.refl s
  unfold execPowerReqTrim; exact (KeptOut.next (.pwBus hk))

theorem execPowerReqHold_kept (m : Nat) (s : State) : KeptOut s (execPowerReqHold m s) := by
  have hk := Kept.refl s
  unfold execPowerReqHold; exact (KeptOut.next (.pwBus hk))

theorem execPowerReqOff_kept (m confirm : Nat) (s : State) : KeptOut s (execPowerReqOff m confirm s) := by
  have hk := Kept.refl s
  unfold execPowerReqOff; exact (KeptOut.next (.pwBus hk))

end Sys2Proof.Machine
end

