-- ==== Sys2Proof/Laws/KeptSpare.lean ====
section
/-!
SUPPORT. What the operations of Machine/Spare.lean keep (Laws/Kept.lean).
-/

namespace Sys2Proof.Machine

theorem Kept.subPut {s₀ s : State} {e : Subst} (hk : Kept s₀ s) : Kept s₀ (State.subPut s e) := by
  unfold State.subPut; exact (.mk_ hk)

theorem Kept.spConds {s₀ s : State}  (hk : Kept s₀ s) : Kept s₀ (State.spConds s) := by
  unfold State.spConds; exact (.condSet (.condSet (.condSet (.condSet hk))))

theorem Kept.subWait {s₀ s : State}  (hk : Kept s₀ s) : Kept s₀ (State.subWait s) := by
  unfold State.subWait; exact (by (split; exacts [(.ite hk (.yieldTo (.subPut hk))), hk]))

theorem Kept.retireRest {s₀ s : State}  (hk : Kept s₀ s) : Kept s₀ (State.retireRest s) := by
  unfold State.retireRest; exact (.ite hk (.foldl hk (fun _ _ k1 => (.mk_ (.wr k1))) _))

theorem Kept.subQueue {s₀ s : State} {cls unit mac : Nat} {blk : Option Nat} (hk : Kept s₀ s) : Kept s₀ (State.subQueue s cls unit mac blk)
    := by
  unfold State.subQueue; exact (.ite hk (.subWait (.spConds (.retireRest (.ite (.mk_ (.raise0 hk)) (.raise0 hk))))))

theorem Kept.trigger {s₀ s : State} {y0 : SubCause} (hk : Kept s₀ s) : Kept s₀ (State.trigger s y0) := by
  unfold State.trigger; exact (by (split; exacts [(.ite (.ite (.subQueue hk) (.subQueue hk)) hk), (.ite (.subQueue hk) hk), (.ite (.subQueue
    hk) hk), (.ite (.subQueue hk) hk), (.ite (.subQueue hk) hk), (.ite (.subQueue hk) hk)]))

theorem execSubstitutionTrigger_kept (cause : SubCause) (s : State) : KeptOut s (execSubstitutionTrigger cause s) := by
  have hk := Kept.refl s
  unfold execSubstitutionTrigger; exact (KeptOut.next (.ite (.trigger hk) hk))

theorem Kept.subStart {s₀ s : State}  (hk : Kept s₀ s) : Kept s₀ (State.subStart s) := by
  unfold State.subStart; exact (by (split; exacts [(.ite (.mk_ hk) hk), (by (split; exacts [(.ite (.ite (.mk_ (.wr (.mk_ (.subPut hk)))) (.mk_
    (.subPut hk))) hk), hk]))]))

theorem execSubstitutionCopyStart_kept  (s : State) : KeptOut s (execSubstitutionCopyStart s) := by
  have hk := Kept.refl s
  unfold execSubstitutionCopyStart; exact (KeptOut.next (.ite (.subStart hk) hk))

theorem execGuardedWindowClose_kept  (s : State) : KeptOut s (execGuardedWindowClose s) := by
  have hk := Kept.refl s
  unfold execGuardedWindowClose; exact (KeptOut.next (by (split; exacts [(.ite (.mk_ (.subPut hk)) hk), hk])))

theorem Kept.subUnit {s₀ s : State} {e : Subst} (hk : Kept s₀ s) : Kept s₀ (State.subUnit s e) := by
  unfold State.subUnit; exact (by (split; exacts [(.mk_ hk), (.mk_ hk), (.raise0 (.inc (.wr (.wr (.mk_ hk))))), (.raise0 (.inc (.wr (.mk_
    hk)))), (.mk_ hk), (.mk_ hk), hk]))

theorem Kept.subDone {s₀ s : State} {e : Subst} (hk : Kept s₀ s) : Kept s₀ (State.subDone s e) := by
  unfold State.subDone; exact (.subWait (.spConds (.mgEvent (.logEvent (.retireRest (.mk_ (.subUnit (.wr64 (.inc (.wr (.add (.raise0 (.raise0
    hk)))))))))))))

theorem Kept.subFail {s₀ s : State} {e : Subst} (hk : Kept s₀ s) : Kept s₀ (State.subFail s e) := by
  unfold State.subFail; exact (.subWait (.spConds (.ite (.mk_ (.subPut (.raise0 (.inc (.wr hk))))) (.raise0 (.inc (.wr hk))))))

theorem Kept.takeOver {s₀ s : State} {e : Nat} (hk : Kept s₀ s) : Kept s₀ (State.takeOver s e) := by
  unfold State.takeOver; exact (.foldl hk (fun _ _ k1 => (.wr k1)) _)

theorem execSubstitutionSwitch_kept (bad : Bool) (s : State) : KeptOut s (execSubstitutionSwitch bad s) := by
  have hk := Kept.refl s
  unfold execSubstitutionSwitch; exact (KeptOut.next (by (split; exacts [(.ite hk (.ite (.ite (.subDone (.takeOver hk)) (.subWait (.takeOver
    hk))) (.ite hk (.ite (.subFail hk) (.subDone hk))))), hk])))

theorem execSubstitutionStall_kept  (s : State) : KeptOut s (execSubstitutionStall s) := by
  have hk := Kept.refl s
  unfold execSubstitutionStall; exact (KeptOut.next (by (split; exacts [(.ite (.raise0 (.inc (.subPut hk))) hk), hk])))

theorem execSpareSelftest_kept (failed : List Nat) (s : State) : KeptOut s (execSpareSelftest failed s) := by
  have hk := Kept.refl s
  unfold execSpareSelftest; exact (KeptOut.next (.ite (.spConds (.mk_ hk)) hk))

end Sys2Proof.Machine
end

