-- ==== Sys2Proof/Laws/KeptEbain.lean ====
section
/-!
SUPPORT. What the operations of Machine/Ebain.lean keep (Laws/Kept.lean).
-/

namespace Sys2Proof.Machine



end Sys2Proof.Machine
end

