-- ==== Sys2Proof/Laws/KeptMaltster.lean ====
section
/-!
SUPPORT. What the operations of Machine/Maltster.lean keep (Laws/Kept.lean).
-/

namespace Sys2Proof.Machine

theorem Kept.reqEmpty {s₀ s : State} {c : Nat} (hk : Kept s₀ s) : Kept s₀ (State.reqEmpty s c) := by
  unfold State.reqEmpty; exact (.mbClear (.mk_ hk))

theorem Kept.reply {s₀ s : State} {c kind arg : Nat} (hk : Kept s₀ s) : Kept s₀ (State.reply s c kind arg) := by
  unfold State.reply; exact (.replyNext (.mk_ (.reqEmpty hk)))

theorem Kept.result {s₀ s : State} {c code : Nat} (hk : Kept s₀ s) : Kept s₀ (State.result s c code) := by
  unfold State.result; exact (.reply hk)

theorem Kept.noBuffer {s₀ s : State} {c : Nat} (hk : Kept s₀ s) : Kept s₀ (State.noBuffer s c) := by
  unfold State.noBuffer; exact (.result (.raise0 hk))

theorem Kept.bufWrite {s₀ s : State} {c off : Nat} {data : List Byte} (hk : Kept s₀ s) : Kept s₀ (State.bufWrite s c off data) := by
  unfold State.bufWrite; exact (.toHost hk)

theorem Kept.mgServe {s₀ s : State} {c tag : Nat} {f : State → State} (hk : Kept s₀ s) (h_f : ∀ t : State, Kept s₀ t → Kept s₀ (f t)) : Kept
    s₀ (State.mgServe s c tag f) := by
  unfold State.mgServe; exact (.ite hk (.ite (.reqEmpty hk) (h_f _ hk)))

theorem execTokenEval_kept (chan : Option (Fin 4)) (buf : Option (List Byte)) (sig : Bool) (s : State) : KeptOut s (execTokenEval chan buf
    sig s) := by
  have hk := Kept.refl s
  unfold execTokenEval; exact (KeptOut.next (by (split; exacts [(.mgServe hk (fun _ k1 => (by (split; exacts [(.ite (.noBuffer k1) (.result
    (.tkEval k1))), (.noBuffer k1)])))), (by (split; exacts [(.ite (.tkEval (.mk_ hk)) hk), hk]))])))

theorem Kept.fwPut {s₀ s : State} {slot : Bool} {x : FwSlot} (hk : Kept s₀ s) : Kept s₀ (State.fwPut s slot x) := by
  unfold State.fwPut; exact (.ite (.wr (.mk_ hk)) (.wr (.mk_ hk)))

theorem Kept.fwStage {s₀ s : State} {c : Nat} {b : List Byte} {fmt sig nor : Bool} (hk : Kept s₀ s) : Kept s₀ (State.fwStage s c b fmt sig
    nor) := by
  unfold State.fwStage; exact (.ite (.noBuffer hk) (.ite (.result hk) (.ite (.result (.raise0 (.mk_ (.fwPut hk)))) (.result (.logEvent
    (.mgEvent (.mk_ (.fwPut hk))))))))

theorem execReqStageFirmware_kept (c : Fin 4) (buf : Option (List Byte)) (fmt sig nor : Bool) (s : State) : KeptOut s (execReqStageFirmware
    c buf fmt sig nor s) := by
  have hk := Kept.refl s
  unfold execReqStageFirmware; exact (KeptOut.next (.mgServe hk (fun _ k1 => (.ite (.result k1) (by (split; exacts [(.fwStage k1), (.noBuffer
    k1)]))))))

theorem Kept.refuse {s₀ s : State} {c : Nat} (hk : Kept s₀ s) : Kept s₀ (State.refuse s c) := by
  unfold State.refuse; exact (.result (.mk_ hk))

theorem Kept.keyInstall {s₀ s : State} {c : Nat} {key : List Byte} (hk : Kept s₀ s) : Kept s₀ (State.keyInstall s c key) := by
  unfold State.keyInstall; exact (.ite (.result hk) (.ite (.refuse hk) (.result (.mk_ (.foldl hk (fun _ _ k1 => (.wr k1)) _)))))

theorem execReqInstallOwnerKey_kept (c : Fin 4) (buf : Option (List Byte)) (s : State) : KeptOut s (execReqInstallOwnerKey c buf s) := by
  have hk := Kept.refl s
  unfold execReqInstallOwnerKey; exact (KeptOut.next (.mgServe hk (fun _ k1 => (by (split; exacts [(.ite (.noBuffer k1) (.keyInstall k1)),
    (.noBuffer k1)])))))

theorem Kept.ebStage {s₀ s : State} {c : Nat} {x : EbImage} {sig nor : Bool} (hk : Kept s₀ s) : Kept s₀ (State.ebStage s c x sig nor) := by
  unfold State.ebStage; exact (.ite (.noBuffer hk) (.ite (.result hk) (.ite (.result (.raise0 hk)) (.result (.logEvent (.mgEvent (.ite (.wr
    (.ite (.wr (.mk_ hk)) (.wr (.mk_ hk)))) (.ite (.wr (.mk_ hk)) (.wr (.mk_ hk))))))))))

theorem execReqStageEbain_kept (c : Fin 4) (buf : Option (List Byte)) (sig nor : Bool) (s : State) : KeptOut s (execReqStageEbain c buf sig
    nor s) := by
  have hk := Kept.refl s
  unfold execReqStageEbain; exact (KeptOut.next (.mgServe hk (fun _ k1 => (.ite (.result k1) (by (split; exacts [(.ebStage k1), (.noBuffer
    k1)]))))))

theorem Kept.logExtract {s₀ s : State} {c : Nat} {b : List Byte} (hk : Kept s₀ s) : Kept s₀ (State.logExtract s c b) := by
  unfold State.logExtract; exact (.reply (.ite (.bufWrite (.mk_ hk)) (.bufWrite (.bufWrite (.mk_ hk)))))

theorem execReqLogExtract_kept (c : Fin 4) (buf : Option (List Byte)) (s : State) : KeptOut s (execReqLogExtract c buf s) := by
  have hk := Kept.refl s
  unfold execReqLogExtract; exact (KeptOut.next (.mgServe hk (fun _ k1 => (by (split; exacts [(.ite (.noBuffer k1) (.logExtract k1)),
    (.noBuffer k1)])))))

theorem execReqHealthReport_kept (c : Fin 4) (ok : Bool) (s : State) : KeptOut s (execReqHealthReport c ok s) := by
  have hk := Kept.refl s
  unfold execReqHealthReport; exact (KeptOut.next (.mgServe hk (fun _ k1 => (.ite (.reply (.bufWrite k1)) (.noBuffer k1)))))

theorem Kept.fwActivate {s₀ s : State} {c : Nat} (hk : Kept s₀ s) : Kept s₀ (State.fwActivate s c) := by
  unfold State.fwActivate; exact (.blockReset (.mk_ (.logFlush (.logEvent (.result hk)))))

theorem execReqActivateFirmware_kept (c : Fin 4) (s : State) : KeptOut s (execReqActivateFirmware c s) := by
  have hk := Kept.refl s
  unfold execReqActivateFirmware; exact (KeptOut.next (.mgServe hk (fun _ k1 => (.ite (.fwActivate k1) (.result k1)))))

theorem Kept.fwConfirm {s₀ s : State} {c : Nat} (hk : Kept s₀ s) : Kept s₀ (State.fwConfirm s c) := by
  unfold State.fwConfirm; exact (.result (.logEvent (.mgEvent (.wr (.wr hk)))))

theorem execReqConfirmFirmware_kept (c : Fin 4) (s : State) : KeptOut s (execReqConfirmFirmware c s) := by
  have hk := Kept.refl s
  unfold execReqConfirmFirmware; exact (KeptOut.next (.mgServe hk (fun _ k1 => (.ite (.fwConfirm k1) (.result k1)))))

theorem execReqReadOwnerData_kept (c : Fin 4) (ok : Bool) (s : State) : KeptOut s (execReqReadOwnerData c ok s) := by
  have hk := Kept.refl s
  unfold execReqReadOwnerData; exact (KeptOut.next (.mgServe hk (fun _ k1 => (by (split; exacts [(.ite (.result (.bufWrite k1)) (.noBuffer
    k1)), (.result (.mk_ k1))])))))

theorem execReqUnknown_kept (c : Fin 4) (s : State) : KeptOut s (execReqUnknown c s) := by
  have hk := Kept.refl s
  unfold execReqUnknown; exact (KeptOut.next (.ite hk (.ite (.reqEmpty hk) (.result (.raise0 hk)))))

theorem execFwTrialExpiry_kept  (s : State) : KeptOut s (execFwTrialExpiry s) := by
  have hk := Kept.refl s
  unfold execFwTrialExpiry; exact (KeptOut.next (.ite (.blockReset (.mgRevert hk)) hk))

theorem execMgWdt_kept  (s : State) : KeptOut s (execMgWdt s) := by
  have hk := Kept.refl s
  unfold execMgWdt; exact (KeptOut.next (.ite (.raise0 hk) hk))

theorem execMgmtRestart_kept  (s : State) : KeptOut s (execMgmtRestart s) := by
  have hk := Kept.refl s
  unfold execMgmtRestart; exact (KeptOut.next (.ite (.blockEnd hk) hk))

theorem Kept.sensorCond {s₀ s : State} {src inst : Nat} {b : Bool} (hk : Kept s₀ s) : Kept s₀ (State.sensorCond s src inst b) := by
  unfold State.sensorCond; exact (.ite (.mgEvent (.condSet hk)) (.condSet hk))

theorem Kept.tempCond {s₀ s : State} {src : Nat} {thr : Int} {ts : List Int} (hk : Kept s₀ s) : Kept s₀ (State.tempCond s src thr ts) := by
  unfold State.tempCond; exact (.sensorCond hk)

theorem Kept.tempSample {s₀ s : State} {raw : List Nat} (hk : Kept s₀ s) : Kept s₀ (State.tempSample s raw) := by
  unfold State.tempSample; exact (.tempCond (.tempCond (by (split; exacts [(.foldl (.foldl hk (fun _ _ k1 => (.wr k1)) _) (fun _ _ k1 =>
    (.sensorCond k1)) _), (.mk_ (.wr (.wr (.foldl (.foldl hk (fun _ _ k1 => (.wr k1)) _) (fun _ _ k1 => (.sensorCond k1)) _))))]))))

theorem Kept.supSample {s₀ s : State} {raw : List Nat} (hk : Kept s₀ s) : Kept s₀ (State.supSample s raw) := by
  unfold State.supSample; exact (.foldl hk (fun _ _ k1 => (.sensorCond (.wr k1))) _)

theorem Kept.curSample {s₀ s : State} {raw : List Nat} {tot : Nat} (hk : Kept s₀ s) : Kept s₀ (State.curSample s raw tot) := by
  unfold State.curSample; exact (.sensorCond (.wr (.foldl hk (fun _ _ k1 => (.wr k1)) _)))

theorem execSensorSample_kept (temps sups curs : List Nat) (tot : Nat) (s : State) : KeptOut s (execSensorSample temps sups curs tot s) :=
    by
  have hk := Kept.refl s
  unfold execSensorSample; exact (KeptOut.next (.ite (.spConds (.ite (.curSample (.supSample (.tempSample hk))) (.supSample (.tempSample
    hk)))) hk))

theorem Kept.ageSample {s₀ s : State} {degr weeks : List Nat} (hk : Kept s₀ s) : Kept s₀ (State.ageSample s degr weeks) := by
  unfold State.ageSample; exact (.spConds (.foldl (.foldl (.foldl (.inc (.condSet (.condSet (.foldl hk (fun _ _ k1 => (.wr (.wr k1))) _))))
    (fun _ _ k1 => (.trigger k1)) _) (fun _ _ k1 => (.ite (.trigger k1) k1)) _) (fun _ _ k1 => (.ite (.trigger k1) k1)) _))

theorem execAgeingSample_kept (degr weeks : List Nat) (s : State) : KeptOut s (execAgeingSample degr weeks s) := by
  have hk := Kept.refl s
  unfold execAgeingSample; exact (KeptOut.next (.ite (.ageSample hk) hk))

theorem execSmbusReadWord_kept (addr code : Nat) (s : State) : KeptOut s (execSmbusReadWord addr code s) := by
  have hk := Kept.refl s
  unfold execSmbusReadWord; exact (KeptOut.next (.ite (.emit hk) hk))

theorem execSmbusError_kept  (s : State) : KeptOut s (execSmbusError s) := by
  have hk := Kept.refl s
  unfold execSmbusError; exact (KeptOut.next (.ite (.raise0 hk) hk))

theorem execLogRecordWrite_kept (fail : Bool) (s : State) : KeptOut s (execLogRecordWrite fail s) := by
  have hk := Kept.refl s
  unfold execLogRecordWrite; exact (KeptOut.next (by (split; exacts [hk, (.ite hk (.ite (.subQueue (.raise0 (.mk_ hk))) (.norWrite (.mk_ (.mk_
    hk)))))])))

end Sys2Proof.Machine
end

