-- ==== Sys2Proof/Laws/KeptReads.lean ====
section
/-!
SUPPORT. What the operations of Machine/Reads.lean keep (Laws/Kept.lean).
-/

namespace Sys2Proof.Machine

theorem Kept.winLatch {s₀ s : State} {m lo : Nat} {adr : Fld} (hk : Kept s₀ s) : Kept s₀ (State.winLatch s m lo adr) := by
  unfold State.winLatch; exact (by (split; exacts [(.ite (.mk_ hk) hk), hk]))

theorem Kept.rcClear {s₀ s : State} {m g : Nat} (hk : Kept s₀ s) : Kept s₀ (State.rcClear s m g) := by
  unfold State.rcClear; exact (.foldl (.ite (.bpCleared hk) (.ite (.bpCleared hk) hk)) (fun _ _ k1 => (.wr k1)) _)

theorem Kept.unlatch {s₀ s : State} {m g : Nat} (hk : Kept s₀ s) : Kept s₀ (State.unlatch s m g) := by
  unfold State.unlatch; exact (.mk_ hk)

theorem Kept.winRead {s₀ s : State} {m g lo : Nat} {adr : Fld} (hk : Kept s₀ s) : Kept s₀ (State.winRead s m g lo adr) := by
  unfold State.winRead; exact (.ite (.mk_ (.latch (.winLatch (.ite (.wr hk) hk)))) (.mk_ (.advance (.unlatch hk))))

theorem Kept.regRead {s₀ s : State} {m g : Nat} (hk : Kept s₀ s) : Kept s₀ (State.regRead s m g) := by
  unfold State.regRead; exact (by (split; exacts [(.winRead hk), (.ite (.tinPop hk) (.ite (.tinPop hk) (.ite (.mbTake hk) (.ite (.mk_
    (.mbReject hk)) (by (split; exacts [(.mk_ (.unlatch hk)), (.mk_ (.ite (.rcClear (.rcClear (.ite (.latch (.ite (.latch hk) hk)) (.ite
    (.latch hk) hk)))) (.rcClear (.ite (.latch (.ite (.latch hk) hk)) (.ite (.latch hk) hk)))))]))))))]))

theorem Kept.readWord {s₀ s : State} {m off : Nat} (hk : Kept s₀ s) : Kept s₀ (State.readWord s m off) := by
  unfold State.readWord; exact (by (split; exacts [(.mk_ (.ite hk (.deny hk))), (.mk_ hk), (.ite (.regRead hk) (.mk_ (.deny hk)))]))

theorem Kept.busRead {s₀ s : State} {m off bytes : Nat} (hk : Kept s₀ s) : Kept s₀ (State.busRead s m off bytes) := by
  unfold State.busRead; exact (.ite (.mk_ hk) (by ((try dsimp only); split; exacts [(.mk_ (.foldl (.mk_ hk) (fun _ _ k1 => (.mk_ (.readWord
    k1))) _)), (.foldl (.mk_ hk) (fun _ _ k1 => (.mk_ (.readWord k1))) _)])))

end Sys2Proof.Machine
end

