-- ==== Sys2Proof/Laws/KeptBus.lean ====
section
/-!
SUPPORT. What the operations of Machine/Bus.lean keep (Laws/Kept.lean).
-/

namespace Sys2Proof.Machine

theorem Kept.fldWrite {s₀ s : State} {en : Bool} {v : Nat} {f : Fld} (hk : Kept s₀ s) : Kept s₀ (State.fldWrite s en v f) := by
  unfold State.fldWrite; exact (by (split; exacts [(by (split; exacts [(.wr hk), (.ite hk (.wr hk)), hk])), (.wr hk), (.wr hk), hk]))

theorem Kept.plainWrite {s₀ s : State} {m g v : Nat} {skip : List Fld} (hk : Kept s₀ s) : Kept s₀ (State.plainWrite s m g v skip) := by
  unfold State.plainWrite; exact (.foldl (.ite (.cfgWhileRunning hk) hk) (fun _ _ k1 => (.fldWrite k1)) _)

theorem Kept.holdLow {s₀ s : State} {m g v : Nat} (hk : Kept s₀ s) : Kept s₀ (State.holdLow s m g v) := by
  unfold State.holdLow; exact (.mk_ hk)

theorem Kept.wordWrite {s₀ s : State} {m g v : Nat} {skip : List Fld} (hk : Kept s₀ s) : Kept s₀ (State.wordWrite s m g v skip) := by
  unfold State.wordWrite; exact (.ite (.holdLow hk) (.ite (by (split; exacts [(.plainWrite (.plainWrite (.dropLow hk))), (.plainWrite hk)]))
    (.plainWrite hk)))

theorem Kept.admOr {s₀ s : State} {m g : Nat} {f : State → State} (hk : Kept s₀ s) (h_f : ∀ t : State, Kept s₀ t → Kept s₀ (f t)) : Kept s₀
    (State.admOr s m g f) := by
  unfold State.admOr; exact (.ite (h_f _ hk) (.deny hk))

theorem Kept.cntClear {r s : State} (h : Kept r s) : Kept r s.cntClear := .regsFilter (.bpCleared (.bpCleared h))

theorem Kept.gcWrite {s₀ s : State} {m g v : Nat} (hk : Kept s₀ s) : Kept s₀ (State.gcWrite s m g v) := by
  unfold State.gcWrite; exact (.ite (.ite (.admOr hk (fun _ k1 => (.cntClear k1))) hk) (.ite (.ite (.errClear hk) hk) (.wordWrite hk)))

theorem Kept.crpWrite {s₀ s : State} {m g v : Nat} (hk : Kept s₀ s) : Kept s₀ (State.crpWrite s m g v) := by
  unfold State.crpWrite; exact (.ite (.blkWrite hk) (.ite (.chipRst hk) (.ite (.pwWrite hk) (.wordWrite hk))))

theorem Kept.tbCtrl {s₀ s : State} {m v : Nat} (hk : Kept s₀ s) : Kept s₀ (State.tbCtrl s m v) := by
  unfold State.tbCtrl; exact (.ite (.ppsSetCommit (.ite (.ite (.acq (.ite (.stepGo (.plainWrite hk)) (.plainWrite hk))) (.ite (.stepGo
    (.plainWrite hk)) (.plainWrite hk))) (.ite (.ite (.lockReq (.ite (.stepGo (.plainWrite hk)) (.plainWrite hk))) (.ite (.stepGo
    (.plainWrite hk)) (.plainWrite hk))) (.ite (.ite (.holdReq (.ite (.stepGo (.plainWrite hk)) (.plainWrite hk))) (.ite (.stepGo
    (.plainWrite hk)) (.plainWrite hk))) (.ite (.holdExit (.ite (.stepGo (.plainWrite hk)) (.plainWrite hk))) (.ite (.stepGo (.plainWrite
    hk)) (.plainWrite hk))))))) (.ite (.ite (.acq (.ite (.stepGo (.plainWrite hk)) (.plainWrite hk))) (.ite (.stepGo (.plainWrite hk))
    (.plainWrite hk))) (.ite (.ite (.lockReq (.ite (.stepGo (.plainWrite hk)) (.plainWrite hk))) (.ite (.stepGo (.plainWrite hk))
    (.plainWrite hk))) (.ite (.ite (.holdReq (.ite (.stepGo (.plainWrite hk)) (.plainWrite hk))) (.ite (.stepGo (.plainWrite hk))
    (.plainWrite hk))) (.ite (.holdExit (.ite (.stepGo (.plainWrite hk)) (.plainWrite hk))) (.ite (.stepGo (.plainWrite hk)) (.plainWrite
    hk)))))))

theorem Kept.toutWrite {s₀ s : State} {m g v : Nat} (hk : Kept s₀ s) : Kept s₀ (State.toutWrite s m g v) := by
  unfold State.toutWrite; exact (.ite (.toutDrive (.plainWrite hk)) (.toutOff (.plainWrite hk)))

theorem Kept.ppsInWrite {s₀ s : State} {m v : Nat} (hk : Kept s₀ s) : Kept s₀ (State.ppsInWrite s m v) := by
  unfold State.ppsInWrite; exact (.ite (.mkTb (.plainWrite hk)) (.plainWrite hk))

theorem Kept.reepWrite {s₀ s : State} {m g v : Nat} (hk : Kept s₀ s) : Kept s₀ (State.reepWrite s m g v) := by
  unfold State.reepWrite; exact (.ite (.wr hk) (.wordWrite hk))

theorem Kept.tbWrite {s₀ s : State} {m g v : Nat} (hk : Kept s₀ s) : Kept s₀ (State.tbWrite s m g v) := by
  unfold State.tbWrite; exact (by (split; exacts [(.reepWrite hk), (.reepWrite hk), (.tbCtrl hk), (.dropLow (.incWrite hk)), (.reepCtrl hk),
    (.dropLow (.measOffset hk)), (.measSeq hk), (.servoReq hk), (.ite (.snap hk) hk), (.mkTb hk), (.mkTb hk), (.mkTb hk), (.ppsInWrite hk),
    (.ite (.toutWrite hk) (.wordWrite hk))]))

theorem Kept.bpWrite {s₀ s : State} {m g v : Nat} (hk : Kept s₀ s) : Kept s₀ (State.bpWrite s m g v) := by
  unfold State.bpWrite; exact (.ite (.ite (.bpRestart (.ite (.ite (.bpEnWrite (.plainWrite hk)) (.plainWrite hk)) (.slopeCheck (.ite
    (.bpEnWrite (.plainWrite hk)) (.plainWrite hk))))) (.ite (.ite (.bpEnWrite (.plainWrite hk)) (.plainWrite hk)) (.slopeCheck (.ite
    (.bpEnWrite (.plainWrite hk)) (.plainWrite hk))))) (.ite (.ite (.mdioGo hk) hk) (.wordWrite hk)))

theorem Kept.fdWrite {s₀ s : State} {m g v : Nat} (hk : Kept s₀ s) : Kept s₀ (State.fdWrite s m g v) := by
  unfold State.fdWrite; exact (.ite (.ite (.fieldResetIf (.plainWrite hk)) (.plainWrite hk)) (.ite (.ite (.fieldRestart (.ite (.fpEnWrite
    (.ite (.fpPwrWrite (.plainWrite hk)) (.plainWrite hk))) (.ite (.fpPwrWrite (.plainWrite hk)) (.plainWrite hk)))) (.ite (.fpEnWrite (.ite
    (.fpPwrWrite (.plainWrite hk)) (.plainWrite hk))) (.ite (.fpPwrWrite (.plainWrite hk)) (.plainWrite hk)))) (.wordWrite hk)))

theorem Kept.sgCmd {s₀ s : State} {op g : Nat} (hk : Kept s₀ s) : Kept s₀ (State.sgCmd s op g) := by
  unfold State.sgCmd; exact (by (split; exacts [(.sgEnable hk), (.sgDisable hk), (.sgChange hk), (.sgAbort hk), hk]))

theorem Kept.knPage {s₀ s : State} {m g v : Nat} (hk : Kept s₀ s) : Kept s₀ (State.knPage s m g v) := by
  unfold State.knPage; exact (.ite (.ite (.gateWrite (.ite (.cfgChange (.ite (.cfgAbort (.plainWrite hk)) (.plainWrite hk))) (.ite (.cfgAbort
    (.plainWrite hk)) (.plainWrite hk)))) (.ite (.cfgChange (.ite (.cfgAbort (.plainWrite hk)) (.plainWrite hk))) (.ite (.cfgAbort
    (.plainWrite hk)) (.plainWrite hk)))) (.ite (.adminRej hk) (.ite (.setKnPort (.wordWrite hk)) (.wordWrite hk))))

theorem Kept.knCtrl {s₀ s : State} {m v : Nat} (hk : Kept s₀ s) : Kept s₀ (State.knCtrl s m v) := by
  unfold State.knCtrl; exact (.ite (.mk_ (.sgRun (.plainWrite hk))) (.sgRun (.plainWrite hk)))

theorem Kept.knWrite {s₀ s : State} {m g v : Nat} (hk : Kept s₀ s) : Kept s₀ (State.knWrite s m g v) := by
  unfold State.knWrite; exact (.ite (.knMdata hk) (.ite (.knCtrl hk) (.ite (.ite (.taCancelReg (.ite (.taSubmitReg hk) hk)) (.ite
    (.taSubmitReg hk) hk)) (.ite (.sgCmd hk) (.ite (.knPage hk) (.wordWrite hk))))))

theorem Kept.lnWrite {s₀ s : State} {m g v : Nat} (hk : Kept s₀ s) : Kept s₀ (State.lnWrite s m g v) := by
  unfold State.lnWrite; exact (.ite (.ite (.verifyRestart (.mmUpdate (.plainWrite hk))) (.mmUpdate (.plainWrite hk))) (.wordWrite hk))

theorem Kept.fnOp {s₀ s : State} {op i : Nat} (hk : Kept s₀ s) : Kept s₀ (State.fnOp s op i) := by
  unfold State.fnOp; exact (by (split; exacts [(.fnCmd hk (fun _ k1 => k1)), (.fnCmd hk (fun _ k1 => k1)), (.fnCmd hk (fun _ k1 => k1)),
    (.recResetCmd hk), (.recClear hk), (.strmClear hk), hk]))

theorem Kept.fnWrite {s₀ s : State} {m g v : Nat} (hk : Kept s₀ s) : Kept s₀ (State.fnWrite s m g v) := by
  unfold State.fnWrite; exact (.ite (.fnOp hk) (.ite (.fnMdata hk) (.wordWrite hk)))

theorem Kept.psOp {s₀ s : State} {op i : Nat} (hk : Kept s₀ s) : Kept s₀ (State.psOp s op i) := by
  unfold State.psOp; exact (by (split; exacts [(.psUnblock hk), (.psClear hk), (.psMeterReset hk), (.psReopen hk), hk]))

theorem Kept.psWrite {s₀ s : State} {m g v : Nat} (hk : Kept s₀ s) : Kept s₀ (State.psWrite s m g v) := by
  unfold State.psWrite; exact (.ite (.psOp hk) (.ite (.psMdata hk) (.wordWrite hk)))

theorem Kept.ltPage {s₀ s : State} {m g v : Nat} (hk : Kept s₀ s) : Kept s₀ (State.ltPage s m g v) := by
  unfold State.ltPage; exact (.ite (.slopeCheck (.plainWrite hk)) (.ite (.slopeCheck (.ite (.slopesApply (.plainWrite hk)) (.plainWrite hk)))
    (.plainWrite hk)))

theorem Kept.ltWrite {s₀ s : State} {m g v : Nat} (hk : Kept s₀ s) : Kept s₀ (State.ltWrite s m g v) := by
  unfold State.ltWrite; exact (.ite (.ltMdata hk) (.ite (.ite (.queuePause hk) hk) (.ite (.ltPage hk) (.wordWrite hk))))

theorem Kept.grWrite {s₀ s : State} {m g v : Nat} (hk : Kept s₀ s) : Kept s₀ (State.grWrite s m g v) := by
  unfold State.grWrite; exact (.ite (.admOr hk (fun _ k1 => (.pool1Size k1))) (.ite (.wr hk) (.ite (.admOr hk (fun _ k1 => (.quotaWrite k1)))
    (.wordWrite hk))))

theorem Kept.ptWrite {s₀ s : State} {m g v : Nat} (hk : Kept s₀ s) : Kept s₀ (State.ptWrite s m g v) := by
  unfold State.ptWrite; exact (.ite (.ite (.traceClear (.plainWrite hk)) (.plainWrite hk)) (.ite (.ptMdata hk) (.wordWrite hk)))

theorem Kept.msOp {s₀ s : State} {op a b : Nat} (hk : Kept s₀ s) : Kept s₀ (State.msOp s op a b) := by
  unfold State.msOp; exact (by (split; exacts [(.tplEnable hk), (.tplDisable hk), (.tplSwap hk), hk]))

theorem Kept.gyWrite {s₀ s : State} {m g v : Nat} (hk : Kept s₀ s) : Kept s₀ (State.gyWrite s m g v) := by
  unfold State.gyWrite; exact (.ite (.pcfgCmd hk) (.ite (.ite (.mapCmd hk) hk) (.ite (.gyMdata hk) (.ite (.msOp hk) (.ite (.msMdata hk) (.ite
    (.ite (.hzWipe (.wordWrite hk)) (.wordWrite hk)) (.wordWrite hk)))))))

theorem Kept.sqSetWrite {s₀ s : State} {m g v : Nat} (hk : Kept s₀ s) : Kept s₀ (State.sqSetWrite s m g v) := by
  unfold State.sqSetWrite; exact (.ite (.inc hk) (.ite (.ite (.sqEnable (.plainWrite hk)) (.sqDisable (.plainWrite hk))) (.ite hk (.wordWrite
    hk))))

theorem Kept.cqSetWrite {s₀ s : State} {m g v : Nat} (hk : Kept s₀ s) : Kept s₀ (State.cqSetWrite s m g v) := by
  unfold State.cqSetWrite; exact (.ite (.inc hk) (.ite (.ite (.cqModerate (.cqEnable (.plainWrite hk))) (.cqDisable (.plainWrite hk)))
    (.wordWrite hk)))

theorem Kept.msixSet {s₀ s : State} {fn i v : Nat} (hk : Kept s₀ s) : Kept s₀ (State.msixSet s fn i v) := by
  unfold State.msixSet; exact (.ite (.toHost (.mk_ (.mk_ hk))) (.mk_ hk))

theorem Kept.qeWrite {s₀ s : State} {m g v : Nat} (hk : Kept s₀ s) : Kept s₀ (State.qeWrite s m g v) := by
  unfold State.qeWrite; exact (.ite (.ite (.qeAssign hk) hk) (.ite (.sqSetWrite hk) (.ite (.cqSetWrite hk) (by (split; exacts [(.msixSet hk),
    (.wordWrite hk)])))))

theorem Kept.chSetWrite {s₀ s : State} {m g v : Nat} (hk : Kept s₀ s) : Kept s₀ (State.chSetWrite s m g v) := by
  unfold State.chSetWrite; exact (.ite (.admOr hk (fun _ k1 => (.chOwnerSet k1))) (.ite (.chOwned hk (fun _ k1 => (.chDb k1))) (.chOwned hk
    (fun _ k1 => (.ite (.chIssue (.ite (.chResume (.ite (.chChain (.ite (.chStart (.ite k1 (.ite (.wr k1) (.chOff k1)))) (.ite k1 (.ite (.wr
    k1) (.chOff k1))))) (.ite (.chStart (.ite k1 (.ite (.wr k1) (.chOff k1)))) (.ite k1 (.ite (.wr k1) (.chOff k1)))))) (.ite (.chChain
    (.ite (.chStart (.ite k1 (.ite (.wr k1) (.chOff k1)))) (.ite k1 (.ite (.wr k1) (.chOff k1))))) (.ite (.chStart (.ite k1 (.ite (.wr k1)
    (.chOff k1)))) (.ite k1 (.ite (.wr k1) (.chOff k1))))))) (.wordWrite k1))))))

theorem Kept.dmaWrite {s₀ s : State} {m g v : Nat} (hk : Kept s₀ s) : Kept s₀ (State.dmaWrite s m g v) := by
  unfold State.dmaWrite; exact (.ite (.chSetWrite hk) (.ite (.ite (.wr (.plainWrite hk)) (.ite (.dmaOff (.plainWrite hk)) (.plainWrite hk)))
    (.wordWrite hk)))

theorem Kept.mbChWrite {s₀ s : State} {m g v : Nat} (hk : Kept s₀ s) : Kept s₀ (State.mbChWrite s m g v) := by
  unfold State.mbChWrite; exact (.ite (.ite (.holdLow hk) (.mbReject hk)) (.ite (.mbStage (.dropLow hk)) (.ite (.mbPost hk) (.ite (.ite
    (.plainWrite hk) (.mbReject hk)) (.ite (.ite (.mbCmdEmpty hk) (.ite hk (.mbReject hk))) (.ite (.mbFree hk) hk))))))

theorem Kept.mbWrite {s₀ s : State} {m g v : Nat} (hk : Kept s₀ s) : Kept s₀ (State.mbWrite s m g v) := by
  unfold State.mbWrite; exact (.ite (.mbChWrite hk) (.ite (.mbBind hk) (by (split; exacts [(.ite (.mbBindLock (.plainWrite hk)) (.plainWrite
    hk)), (.mbIeWrite hk), (.mbIeWrite hk), (.mbIeWrite hk), (.mbIeWrite hk), (.wordWrite hk)]))))

theorem Kept.clWrite {s₀ s : State} {m g v : Nat} (hk : Kept s₀ s) : Kept s₀ (State.clWrite s m g v) := by
  unfold State.clWrite; exact (.ite (.ite (.bookClear (.ite (.bookPop (.ite (.errRelease (.alertSet (.plainWrite (.faultMinKeep hk))))
    (.alertSet (.plainWrite (.faultMinKeep hk))))) (.ite (.errRelease (.alertSet (.plainWrite (.faultMinKeep hk)))) (.alertSet (.plainWrite
    (.faultMinKeep hk)))))) (.ite (.bookPop (.ite (.errRelease (.alertSet (.plainWrite (.faultMinKeep hk)))) (.alertSet (.plainWrite
    (.faultMinKeep hk))))) (.ite (.errRelease (.alertSet (.plainWrite (.faultMinKeep hk)))) (.alertSet (.plainWrite (.faultMinKeep hk))))))
    (.ite (.heldWrite hk) (.ite (.ite (.admOr hk (fun _ k1 => (.faultInject k1))) hk) (.ite (.srcCfgWrite hk) (.ite (.pendWrite hk)
    (.wordWrite hk))))))

theorem Kept.twWrite {s₀ s : State} {m g v : Nat} (hk : Kept s₀ s) : Kept s₀ (State.twWrite s m g v) := by
  unfold State.twWrite; exact (.ite (.twEnWrite (.plainWrite hk)) (.ite (by (split; exacts [(.twRelease hk), (.forceClaim hk), (.rejoin hk),
    hk])) (.wordWrite hk)))

theorem Kept.acWrite {s₀ s : State} {m g v : Nat} (hk : Kept s₀ s) : Kept s₀ (State.acWrite s m g v) := by
  unfold State.acWrite; exact (.ite (.ite (.dbgEndWrite (.ite (.tblLock hk) hk)) (.ite (.tblLock hk) hk)) (.ite (.tblWrite hk) (.wordWrite
    hk)))

theorem Kept.vfWrite {s₀ s : State} {m g v : Nat} (hk : Kept s₀ s) : Kept s₀ (State.vfWrite s m g v) := by
  unfold State.vfWrite; exact (.ite (.ite (by (split; exacts [(.queuePause hk), (.inc hk)])) hk) (by (split; exacts [(.msixSet hk),
    (.wordWrite hk)])))

theorem Kept.regWrite {s₀ s : State} {m g v : Nat} (hk : Kept s₀ s) : Kept s₀ (State.regWrite s m g v) := by
  unfold State.regWrite; exact (.ite (.vfWrite hk) (by (split; exacts [(.gcWrite hk), (.crpWrite hk), (.tbWrite hk), (.bpWrite hk), (.bpWrite
    hk), (.fdWrite hk), (.knWrite hk), (.lnWrite hk), (.fnWrite hk), (.psWrite hk), (.ltWrite hk), (.grWrite hk), (.ptWrite hk), (.gyWrite
    hk), (.qeWrite hk), (.dmaWrite hk), (.mbWrite hk), (.clWrite hk), (.twWrite hk), (.acWrite hk), (.wordWrite hk)])))

theorem Kept.writeWord {s₀ s : State} {m off v : Nat} (hk : Kept s₀ s) : Kept s₀ (State.writeWord s m off v) := by
  unfold State.writeWord; exact (by (split; exacts [(.ite (.inc hk) (.deny hk)), hk, (.ite (.pwWrite hk) (.ite (.ite hk (.regWrite hk)) (.ite
    (.inc (.deny hk)) (.deny hk))))]))

theorem Kept.busWrite {s₀ s : State} {m off bytes v : Nat} (hk : Kept s₀ s) : Kept s₀ (State.busWrite s m off bytes v) := by
  unfold State.busWrite; exact (.ite hk (by (split; exacts [(.mk_ (.badAccess hk)), (.ite (.writeWord (.writeWord hk)) (.writeWord hk))])))

end Sys2Proof.Machine
end

