-- ==== Sys2Proof/Laws/KeptActions.lean ====
section
/-!
SUPPORT. What the operations of Machine/Actions.lean keep (Laws/Kept.lean).
-/

namespace Sys2Proof.Machine

theorem Kept.taRegWrite {s₀ s : State} {t : Ta} (hk : Kept s₀ s) : Kept s₀ (State.taRegWrite s t) := by
  unfold State.taRegWrite; exact (.ite hk (.ite (.ppsBoundary (.regWrite hk)) (.regWrite hk)))

theorem Kept.taPointWrite {s₀ s : State} {t : Ta} (hk : Kept s₀ s) : Kept s₀ (State.taPointWrite s t) := by
  unfold State.taPointWrite; exact (.mk_ hk)

theorem Kept.taPerform {s₀ s : State} {t : Ta} (hk : Kept s₀ s) : Kept s₀ (State.taPerform s t) := by
  unfold State.taPerform; exact (.ite (.taRegWrite hk) (.ite (.taPointWrite hk) (.mk_ hk)))

theorem Kept.taReschedule {s₀ s : State} {i : Nat} {t : Ta} {discarded : Bool} (hk : Kept s₀ s) : Kept s₀ (State.taReschedule s i t
    discarded) := by
  unfold State.taReschedule; exact (.ite (.taFreeEntry hk) (.ite (.add (.setTa hk)) (.ite (.taFreeEntry (.add hk)) (.add (.setTa hk)))))

theorem Kept.taCycle {s₀ s : State} {t : Ta} (hk : Kept s₀ s) : Kept s₀ (State.taCycle s t) := by
  unfold State.taCycle; exact (.ite hk (.mk_ hk))

theorem Kept.taOccur {s₀ s : State} {i : Nat} {t : Ta} (hk : Kept s₀ s) : Kept s₀ (State.taOccur s i t) := by
  unfold State.taOccur; exact (.ite (.taReschedule (.inc (.taCycle hk))) (.ite (.taFreeEntry (.setTa (.raise0 (.inc (.deny (.taCycle hk))))))
    (by ((try dsimp only); split; exacts [(.ite (.taReschedule (.ite (.raise0 (.inc (.inc (.taPerform (.setTa (.taCycle hk)))))) (.inc
    (.taPerform (.setTa (.taCycle hk)))))) (.ite (.raise0 (.inc (.inc (.taPerform (.setTa (.taCycle hk)))))) (.inc (.taPerform (.setTa
    (.taCycle hk)))))), (.ite (.raise0 (.inc (.inc (.taPerform (.setTa (.taCycle hk)))))) (.inc (.taPerform (.setTa (.taCycle hk)))))]))))

theorem execTaOccurrence_kept  (s : State) : KeptOut s (execTaOccurrence s) := by
  have hk := Kept.refl s
  unfold execTaOccurrence; exact (KeptOut.next (.ite (by (split; exacts [(.taOccur hk), hk])) hk))

theorem execToutEdge_kept  (s : State) : KeptOut s (execToutEdge s) := by
  have hk := Kept.refl s
  unfold execToutEdge; exact (KeptOut.next (by (split; exacts [(.toutDrive (.mkTb (.mk_ hk))), hk])))

theorem execRegisterWrite_kept (m off bytes : Nat) (v : DWord) (s : State) : KeptOut s (execRegisterWrite m off bytes v s) := by
  have hk := Kept.refl s
  unfold execRegisterWrite; exact (KeptOut.next (.busWrite hk))

theorem execLowWordRead_kept (m off bytes : Nat) (s : State) : KeptOut s (execLowWordRead m off bytes s) := by
  have hk := Kept.refl s
  unfold execLowWordRead; exact (KeptOut.next (.busRead hk))

theorem execLowWordWrite_kept (m off : Nat) (v : Word) (s : State) : KeptOut s (execLowWordWrite m off v s) := by
  have hk := Kept.refl s
  unfold execLowWordWrite; exact (KeptOut.next (.busWrite hk))

theorem execCounterReadClear_kept (m off bytes : Nat) (s : State) : KeptOut s (execCounterReadClear m off bytes s) := by
  have hk := Kept.refl s
  unfold execCounterReadClear; exact (KeptOut.next (.busRead hk))

theorem execCommit_kept (m : Nat) (s : State) : KeptOut s (execCommit m s) := by
  have hk := Kept.refl s
  unfold execCommit; exact (KeptOut.next (.busW hk (fun _ k1 => (.ppsSetCommit k1))))

theorem execStagedApply_kept  (s : State) : KeptOut s (execStagedApply s) := by
  have hk := Kept.refl s
  unfold execStagedApply; exact (KeptOut.next (.ite (.ppsBoundary hk) hk))

theorem execWindowDataRead_kept (m off bytes : Nat) (s : State) : KeptOut s (execWindowDataRead m off bytes s) := by
  have hk := Kept.refl s
  unfold execWindowDataRead; exact (KeptOut.next (.ite (.busRead hk) hk))

theorem execCntClear_kept (m : Nat) (s : State) : KeptOut s (execCntClear m s) := by
  have hk := Kept.refl s
  unfold execCntClear; exact (KeptOut.next (.busAdm hk (fun _ k1 => (.cntClear k1))))

theorem execFieldProxyWrite_kept (m off : Nat) (v : Word) (s : State) : KeptOut s (execFieldProxyWrite m off v s) := by
  have hk := Kept.refl s
  unfold execFieldProxyWrite; exact (KeptOut.next (.busWrite hk))

theorem execDbgRead_kept (off : Nat) (s : State) : KeptOut s (execDbgRead off s) := by
  have hk := Kept.refl s
  unfold execDbgRead; exact (KeptOut.next (.ite (.mk_ hk) (.busRead hk)))

theorem execDbgWrite_kept (off : Nat) (v : Word) (s : State) : KeptOut s (execDbgWrite off v s) := by
  have hk := Kept.refl s
  unfold execDbgWrite; exact (KeptOut.next (.ite hk (.busWrite hk)))

end Sys2Proof.Machine
end

