-- ==== Sys2Proof/Laws/KeptBoot.lean ====
section
/-!
SUPPORT. What the operations of Machine/Boot.lean keep (Laws/Kept.lean).
-/

namespace Sys2Proof.Machine

theorem Kept.wrAll {s₀ s : State} {l : List (Fld × Nat)} (hk : Kept s₀ s) : Kept s₀ (State.wrAll s l) := by
  unfold State.wrAll; exact (.foldl hk (fun _ _ k1 => (.wr k1)) _)

theorem Kept.retireHold {s₀ s : State}  (hk : Kept s₀ s) : Kept s₀ (State.retireHold s) := by
  unfold State.retireHold; exact (.ite (.foldl hk (fun _ _ k1 => (.blockReset k1)) _) hk)

theorem Kept.linkCheck {s₀ s : State}  (hk : Kept s₀ s) : Kept s₀ (State.linkCheck s) := by
  unfold State.linkCheck; exact (.ite (.onset hk) hk)

theorem Kept.release {s₀ s : State} {twinId bootSel refSel perst : Bool} (hk : Kept s₀ s) : Kept s₀ (State.release s twinId bootSel refSel
    perst) := by
  unfold State.release; exact (.linkCheck (.retireHold (.dbgStart (.mk_ (.wrAll hk)))))

theorem execInternalResetRelease_kept (twinId bootSel refSel perst : Bool) (s : State) : KeptOut s (execInternalResetRelease twinId bootSel
    refSel perst s) := by
  have hk := Kept.refl s
  unfold execInternalResetRelease; exact (KeptOut.next (.ite (.release hk) hk))

theorem Kept.rowRepair {s₀ s : State}  (hk : Kept s₀ s) : Kept s₀ (State.rowRepair s) := by
  unfold State.rowRepair; exact (.foldl (.wrAll hk) (fun _ _ k1 => (.raise0 k1)) _)

theorem execSramWipeDone_kept  (s : State) : KeptOut s (execSramWipeDone s) := by
  have hk := Kept.refl s
  unfold execSramWipeDone; exact (KeptOut.next (.ite (.wrAll (.rowRepair hk)) hk))

theorem Kept.makeKey {s₀ s : State}  (hk : Kept s₀ s) : Kept s₀ (State.makeKey s) := by
  unfold State.makeKey; exact (.ite (.mk_ hk) hk)

theorem Kept.fwEnables {s₀ s : State}  (hk : Kept s₀ s) : Kept s₀ (State.fwEnables s) := by
  unfold State.fwEnables; exact (.ite hk (.ite (.writeMacs (.wrAll hk)) (.onset (.writeMacs (.wrAll hk)))))

theorem Kept.fwStart {s₀ s : State}  (hk : Kept s₀ s) : Kept s₀ (State.fwStart s) := by
  unfold State.fwStart; exact (.logMissed (.ite (.logPut (.fwEnables (.wrAll (.makeKey (.ite (.wr (.fwBoot hk)) (.fwBoot hk)))))) (.fwEnables
    (.wrAll (.makeKey (.ite (.wr (.fwBoot hk)) (.fwBoot hk)))))))

theorem execFirmwareStart_kept  (s : State) : KeptOut s (execFirmwareStart s) := by
  have hk := Kept.refl s
  unfold execFirmwareStart; exact (KeptOut.next (.ite (.fwStart hk) hk))

theorem Kept.ebTry {r : State} : ∀ {l : List (Bool × EbSlot)} {s : State}, Kept r s → Kept r (s.ebTry l).1
  | [], _, h => h
  | (b, e) :: t, s, h => by
    simp only [State.ebTry]
    exact .itePair (.wr (.wr h)) (.itePair (.ebTry (.raise0 (.wr h))) (.ebTry (.ite (.wr h) (.raise0 (.wr h)))))

theorem Kept.regPreset {s₀ s : State} {off v mask : Nat} (hk : Kept s₀ s) : Kept s₀ (State.regPreset s off v mask) := by
  unfold State.regPreset; exact (.busWrite hk)

theorem Kept.winPresetWord {s₀ s : State} {d : Nat} {b : List Byte} (hk : Kept s₀ s) : Kept s₀ (State.winPresetWord s d b) := by
  unfold State.winPresetWord; exact (.busWrite (.busWrite hk))

theorem Kept.winPreset {s₀ s : State} {t msel maddr : Nat} {data : List Byte} (hk : Kept s₀ s) : Kept s₀ (State.winPreset s t msel maddr
    data) := by
  unfold State.winPreset; exact (by (split; exacts [(.foldl (.busWrite (.busWrite hk)) (fun _ _ k1 => (.winPresetWord k1)) _), hk]))

theorem Kept.presetCount {s₀ s : State} {idx : Nat} {before : Option Nat} (hk : Kept s₀ s) : Kept s₀ (State.presetCount s idx before) := by
  unfold State.presetCount; exact (.ite (.inc (.ite (.wr hk) hk)) hk)

theorem Kept.winPresets {r : State} {idx : Nat} : ∀ {n : Nat} {b : List Byte} {s : State}, Kept r s → Kept r (State.winPresets idx n b s)
  | 0, _, _, h => h
  | n + 1, b, s, h => by
    simp only [State.winPresets]
    exact .ite h (.winPresets (.presetCount (.winPreset h)))

theorem Kept.sectWrite {s₀ s : State} {b : List Byte} {offs : List Nat} (hk : Kept s₀ s) : Kept s₀ (State.sectWrite s b offs) := by
  unfold State.sectWrite; exact (.foldl hk (fun _ _ k1 => (.busWrite k1)) _)

theorem Kept.sectApply {s₀ s : State} {x : EbImage} {e : EbSect} (hk : Kept s₀ s) : Kept s₀ (State.sectApply s x e) := by
  unfold State.sectApply; exact (by ((try dsimp only); split; exacts [(.wr (.sectWrite hk)), (.sectWrite hk), (.sectWrite hk), (.foldl hk (fun
    _ _ k1 => (.presetCount (.regPreset k1))) _), (.winPresets hk), (.sectWrite hk), (.sectWrite hk), hk]))

theorem Kept.sectType {s₀ s : State} {x : EbImage} {t : Nat} (hk : Kept s₀ s) : Kept s₀ (State.sectType s x t) := by
  unfold State.sectType; exact (.foldl hk (fun _ _ k1 => (.sectApply k1)) _)

theorem Kept.ebLoad {s₀ s : State}  (hk : Kept s₀ s) : Kept s₀ (State.ebLoad s) := by
  unfold State.ebLoad; exact (.ite (by (split; exacts [(by (rename_i hq; have e := congrArg Prod.fst hq; dsimp only at e; subst e; exact
    (.logEvent (.sectType (.mbBindLock (.foldl (.ebTry (.wrAll hk)) (fun _ _ k2 => (.sectType k2)) _)))))),
    (by (rename_i hq; have e := congrArg Prod.fst hq; dsimp only at e; subst e; exact (.mbBindLock (.ebTry (.wrAll hk)))))])) (.mbBindLock
    (.wrAll hk)))

theorem Kept.retireTables {s₀ s : State}  (hk : Kept s₀ s) : Kept s₀ (State.retireTables s) := by
  unfold State.retireTables; exact (.foldl hk (fun _ _ k1 => (.foldl k1 (fun _ _ k2 => (.wr k2)) _)) _)

theorem Kept.dramWiped {s₀ s : State} {unlocked : Bool} (hk : Kept s₀ s) : Kept s₀ (State.dramWiped s unlocked) := by
  unfold State.dramWiped; exact (.ite (.wr (.ite (.retireTables (.ebLoad (.wrAll hk))) (.ebLoad (.wrAll hk)))) (.lockTables (.ite
    (.retireTables (.ebLoad (.wrAll hk))) (.ebLoad (.wrAll hk)))))

theorem execDramWipeDone_kept (unlocked : Bool) (s : State) : KeptOut s (execDramWipeDone unlocked s) := by
  have hk := Kept.refl s
  unfold execDramWipeDone; exact (KeptOut.next (.ite (.dramWiped hk) hk))

theorem Kept.readyNow {s₀ s : State}  (hk : Kept s₀ s) : Kept s₀ (State.readyNow s) := by
  unfold State.readyNow; exact (.ite (.linkCheck (.mk_ (.wrAll hk))) (.inc (.ite (.wr (.linkCheck (.mk_ (.wrAll hk)))) (.linkCheck (.mk_
    (.wrAll hk))))))

theorem execModuleReady_kept  (s : State) : KeptOut s (execModuleReady s) := by
  have hk := Kept.refl s
  unfold execModuleReady; exact (KeptOut.next (.ite (.readyNow hk) hk))

end Sys2Proof.Machine
end

