-- ==== Sys2Proof/Laws/KeptTick.lean ====
section
/-!
SUPPORT. What the operations of Machine/Tick.lean keep (Laws/Kept.lean).
-/

namespace Sys2Proof.Machine

theorem Kept.timeTick {s₀ s : State}  (hk : Kept s₀ s) : Kept s₀ (State.timeTick s) := by
  unfold State.timeTick; exact (.mkTb hk)

theorem Kept.holdTick {s₀ s : State}  (hk : Kept s₀ s) : Kept s₀ (State.holdTick s) := by
  unfold State.holdTick; exact (.ite (.wr64 hk) hk)

theorem Kept.ppsTick {s₀ s : State}  (hk : Kept s₀ s) : Kept s₀ (State.ppsTick s) := by
  unfold State.ppsTick; exact (by (split; exacts [(.ite (.ppsPin (.mkTb hk)) hk), hk]))

theorem Kept.creditTick {s₀ s : State}  (hk : Kept s₀ s) : Kept s₀ (State.creditTick s) := by
  unfold State.creditTick; exact (.ite (.foldl hk (fun _ _ k1 => (.foldl k1 (fun _ _ k2 => (.ite (.setCredit k2) k2)) _)) _) hk)

theorem Kept.cycleEnd {s₀ s : State}  (hk : Kept s₀ s) : Kept s₀ (State.cycleEnd s) := by
  unfold State.cycleEnd; exact (.pwFlush (.mk_ (.fnTick (.cqFlush (.postFlush (.holdFlush hk))))))

/-- A tick is what an operation that keeps these does, and the time that passes on the clock of the relative timers. -/
theorem State.tick_kept (s : State) :
    ∃ u, Kept s u ∧ s.tick = { u with tb := { u.tb with
      mono := u.tb.mono + if s.timeRuns then (u.tb.dt - s.tb.dt).toNat else 2 } } :=
  ⟨_, .ite (.ppsTick (.holdTick (.timeTick (.creditTick (.cycleEnd (Kept.refl s)))))) (.cycleEnd (Kept.refl s)), rfl⟩

end Sys2Proof.Machine
end

