-- ==== Sys2Proof/Laws/State.lean ====
section
/-!
SUPPORT. The named updates of State, field by field: a register write, a count, a 64-bit write, a raise, the onset of a condition. Each lemma
says which field an update leaves alone, and the read laws say what a register reads after a write.
-/

namespace Sys2Proof.Machine

/-- A register reads what was written to it, cut to its width. -/
@[simp] theorem State.rd_wr_same (s : State) (f : Fld) (v : Nat) (h : f.w ≤ 32) : (s.wr f v).rd f = v % 2 ^ f.w := by
  have hlt : v % 2 ^ f.w < 2 ^ 32 := Nat.lt_of_lt_of_le (Nat.mod_lt _ (by positivity)) (Nat.pow_le_pow_right (by decide) h)
  simp only [State.rd, State.wr, Sparse.get_put_same, BitVec.xor_assoc, BitVec.xor_self, BitVec.xor_zero, BitVec.toNat_ofNat]
  exact Nat.mod_eq_of_lt hlt

/-- A register write leaves every other register alone. -/
theorem State.rd_wr_ne (s : State) (f g : Fld) (v : Nat) (h : g.key ≠ f.key) : (s.wr f v).rd g = s.rd g := by
  simp only [State.rd, State.wr, Sparse.get_put_ne 0 s.regs _ h]

/-- Counters saturate at all ones (R15). -/
theorem State.rd_add_same (s : State) (f : Fld) (n : Nat) (h : f.w ≤ 32) : (s.add f n).rd f = min (s.rd f + n) (2 ^ f.w - 1) := by
  have hp : 0 < 2 ^ f.w := by positivity
  rw [State.add, State.rd_wr_same _ _ _ h]
  exact Nat.mod_eq_of_lt (by omega)

/-- A count leaves every other register alone. -/
theorem State.rd_add_ne (s : State) (f g : Fld) (n : Nat) (h : g.key ≠ f.key) : (s.add f n).rd g = s.rd g :=
  State.rd_wr_ne s f g _ h

/-- A 64-bit quantity reads what was written to it (R12). -/
theorem State.rd64_wr64_same (s : State) (lo hi : Fld) (v : Nat) (hl : lo.w = 32) (hh : hi.w = 32) (h : lo.key ≠ hi.key) (hv : v < 2 ^ 64) :
    (s.wr64 lo hi v).rd64 lo hi = v := by
  simp only [State.rd64, State.wr64, State.rd_wr_ne _ _ _ _ h, State.rd_wr_same _ lo _ (by omega), State.rd_wr_same _ hi _ (by omega), hl, hh]
  omega

/-- A register reads the same in every state with the same register file. -/
@[simp] theorem State.rd_mk (x : State) (tb : Tb) (pcie : Pcie) (qe : Qe) (dma : List (Nat × Ch)) (mb : Mb) (gr : Gr) (pt : Pt)
    (kn : Kn) (gy : Gy) (hz : Hz) (ms : Ms) (tw : Tw) (fn : Fn) (ps : Ps) (lt : Lt) (ln : Ln) (rx : List (Nat × Option RxFrame)) (cl : Cl)
    (bp : Bp) (fd : Fd) (crp : Crp) (mg : Mg) (sp : Sp) (yieldAt : List (Nat × Option Nat)) (wire : List WireOut)
    (latched loHeld : List (Nat × Option Word)) (recLatch : List (Nat × Option (Nat × List DWord))) (readData : List Word) (freeIdx : Nat)
    (pending : List Instr) (g : Fld) :
    (State.mk x.regs tb pcie qe dma mb gr pt kn gy hz ms tw fn ps lt ln rx cl bp fd crp mg sp yieldAt wire latched loHeld recLatch readData
      freeIdx pending).rd g = x.rd g := rfl

/-- The registers do not change with what is raised. -/
@[simp] theorem State.rd_raise (s : State) (a b : Nat) (c : Option Nat) (d : Nat) (g : Fld) : (s.raise a b c d).rd g = s.rd g := rfl
@[simp] theorem State.rd_raise0 (s : State) (a b : Nat) (g : Fld) : (s.raise0 a b).rd g = s.rd g := rfl
@[simp] theorem State.rd_onset (s : State) (a b c : Nat) (g : Fld) : (s.onset a b c).rd g = s.rd g := by
  unfold State.onset; split <;> rfl
/-- What a loopback keeps changes no register. -/
@[simp] theorem State.rd_loopPut (s : State) (w : WireOut) (g : Fld) : (s.loopPut w).rd g = s.rd g := by
  unfold State.loopPut; (repeat' split) <;> rfl
@[simp] theorem State.rd_emit (s : State) (w : WireOut) (g : Fld) : (s.emit w).rd g = s.rd g := by
  unfold State.emit; split
  · rfl
  · exact State.rd_loopPut s w g

/-! wr changes `regs` only. -/

@[simp] theorem State.wr_tb (s : State) (f : Fld) (v : Nat) : (s.wr f v).tb = s.tb := rfl
@[simp] theorem State.wr_pcie (s : State) (f : Fld) (v : Nat) : (s.wr f v).pcie = s.pcie := rfl
@[simp] theorem State.wr_qe (s : State) (f : Fld) (v : Nat) : (s.wr f v).qe = s.qe := rfl
@[simp] theorem State.wr_dma (s : State) (f : Fld) (v : Nat) : (s.wr f v).dma = s.dma := rfl
@[simp] theorem State.wr_mb (s : State) (f : Fld) (v : Nat) : (s.wr f v).mb = s.mb := rfl
@[simp] theorem State.wr_gr (s : State) (f : Fld) (v : Nat) : (s.wr f v).gr = s.gr := rfl
@[simp] theorem State.wr_pt (s : State) (f : Fld) (v : Nat) : (s.wr f v).pt = s.pt := rfl
@[simp] theorem State.wr_kn (s : State) (f : Fld) (v : Nat) : (s.wr f v).kn = s.kn := rfl
@[simp] theorem State.wr_gy (s : State) (f : Fld) (v : Nat) : (s.wr f v).gy = s.gy := rfl
@[simp] theorem State.wr_hz (s : State) (f : Fld) (v : Nat) : (s.wr f v).hz = s.hz := rfl
@[simp] theorem State.wr_ms (s : State) (f : Fld) (v : Nat) : (s.wr f v).ms = s.ms := rfl
@[simp] theorem State.wr_tw (s : State) (f : Fld) (v : Nat) : (s.wr f v).tw = s.tw := rfl
@[simp] theorem State.wr_fn (s : State) (f : Fld) (v : Nat) : (s.wr f v).fn = s.fn := rfl
@[simp] theorem State.wr_ps (s : State) (f : Fld) (v : Nat) : (s.wr f v).ps = s.ps := rfl
@[simp] theorem State.wr_lt (s : State) (f : Fld) (v : Nat) : (s.wr f v).lt = s.lt := rfl
@[simp] theorem State.wr_ln (s : State) (f : Fld) (v : Nat) : (s.wr f v).ln = s.ln := rfl
@[simp] theorem State.wr_rx (s : State) (f : Fld) (v : Nat) : (s.wr f v).rx = s.rx := rfl
@[simp] theorem State.wr_cl (s : State) (f : Fld) (v : Nat) : (s.wr f v).cl = s.cl := rfl
@[simp] theorem State.wr_bp (s : State) (f : Fld) (v : Nat) : (s.wr f v).bp = s.bp := rfl
@[simp] theorem State.wr_fd (s : State) (f : Fld) (v : Nat) : (s.wr f v).fd = s.fd := rfl
@[simp] theorem State.wr_crp (s : State) (f : Fld) (v : Nat) : (s.wr f v).crp = s.crp := rfl
@[simp] theorem State.wr_mg (s : State) (f : Fld) (v : Nat) : (s.wr f v).mg = s.mg := rfl
@[simp] theorem State.wr_sp (s : State) (f : Fld) (v : Nat) : (s.wr f v).sp = s.sp := rfl
@[simp] theorem State.wr_yieldAt (s : State) (f : Fld) (v : Nat) : (s.wr f v).yieldAt = s.yieldAt := rfl
@[simp] theorem State.wr_wire (s : State) (f : Fld) (v : Nat) : (s.wr f v).wire = s.wire := rfl
@[simp] theorem State.wr_latched (s : State) (f : Fld) (v : Nat) : (s.wr f v).latched = s.latched := rfl
@[simp] theorem State.wr_loHeld (s : State) (f : Fld) (v : Nat) : (s.wr f v).loHeld = s.loHeld := rfl
@[simp] theorem State.wr_recLatch (s : State) (f : Fld) (v : Nat) : (s.wr f v).recLatch = s.recLatch := rfl
@[simp] theorem State.wr_readData (s : State) (f : Fld) (v : Nat) : (s.wr f v).readData = s.readData := rfl
@[simp] theorem State.wr_freeIdx (s : State) (f : Fld) (v : Nat) : (s.wr f v).freeIdx = s.freeIdx := rfl
@[simp] theorem State.wr_pending (s : State) (f : Fld) (v : Nat) : (s.wr f v).pending = s.pending := rfl

/-! add changes `regs` only. -/

@[simp] theorem State.add_tb (s : State) (f : Fld) (v : Nat) : (s.add f v).tb = s.tb := rfl
@[simp] theorem State.add_pcie (s : State) (f : Fld) (v : Nat) : (s.add f v).pcie = s.pcie := rfl
@[simp] theorem State.add_qe (s : State) (f : Fld) (v : Nat) : (s.add f v).qe = s.qe := rfl
@[simp] theorem State.add_dma (s : State) (f : Fld) (v : Nat) : (s.add f v).dma = s.dma := rfl
@[simp] theorem State.add_mb (s : State) (f : Fld) (v : Nat) : (s.add f v).mb = s.mb := rfl
@[simp] theorem State.add_gr (s : State) (f : Fld) (v : Nat) : (s.add f v).gr = s.gr := rfl
@[simp] theorem State.add_pt (s : State) (f : Fld) (v : Nat) : (s.add f v).pt = s.pt := rfl
@[simp] theorem State.add_kn (s : State) (f : Fld) (v : Nat) : (s.add f v).kn = s.kn := rfl
@[simp] theorem State.add_gy (s : State) (f : Fld) (v : Nat) : (s.add f v).gy = s.gy := rfl
@[simp] theorem State.add_hz (s : State) (f : Fld) (v : Nat) : (s.add f v).hz = s.hz := rfl
@[simp] theorem State.add_ms (s : State) (f : Fld) (v : Nat) : (s.add f v).ms = s.ms := rfl
@[simp] theorem State.add_tw (s : State) (f : Fld) (v : Nat) : (s.add f v).tw = s.tw := rfl
@[simp] theorem State.add_fn (s : State) (f : Fld) (v : Nat) : (s.add f v).fn = s.fn := rfl
@[simp] theorem State.add_ps (s : State) (f : Fld) (v : Nat) : (s.add f v).ps = s.ps := rfl
@[simp] theorem State.add_lt (s : State) (f : Fld) (v : Nat) : (s.add f v).lt = s.lt := rfl
@[simp] theorem State.add_ln (s : State) (f : Fld) (v : Nat) : (s.add f v).ln = s.ln := rfl
@[simp] theorem State.add_rx (s : State) (f : Fld) (v : Nat) : (s.add f v).rx = s.rx := rfl
@[simp] theorem State.add_cl (s : State) (f : Fld) (v : Nat) : (s.add f v).cl = s.cl := rfl
@[simp] theorem State.add_bp (s : State) (f : Fld) (v : Nat) : (s.add f v).bp = s.bp := rfl
@[simp] theorem State.add_fd (s : State) (f : Fld) (v : Nat) : (s.add f v).fd = s.fd := rfl
@[simp] theorem State.add_crp (s : State) (f : Fld) (v : Nat) : (s.add f v).crp = s.crp := rfl
@[simp] theorem State.add_mg (s : State) (f : Fld) (v : Nat) : (s.add f v).mg = s.mg := rfl
@[simp] theorem State.add_sp (s : State) (f : Fld) (v : Nat) : (s.add f v).sp = s.sp := rfl
@[simp] theorem State.add_yieldAt (s : State) (f : Fld) (v : Nat) : (s.add f v).yieldAt = s.yieldAt := rfl
@[simp] theorem State.add_wire (s : State) (f : Fld) (v : Nat) : (s.add f v).wire = s.wire := rfl
@[simp] theorem State.add_latched (s : State) (f : Fld) (v : Nat) : (s.add f v).latched = s.latched := rfl
@[simp] theorem State.add_loHeld (s : State) (f : Fld) (v : Nat) : (s.add f v).loHeld = s.loHeld := rfl
@[simp] theorem State.add_recLatch (s : State) (f : Fld) (v : Nat) : (s.add f v).recLatch = s.recLatch := rfl
@[simp] theorem State.add_readData (s : State) (f : Fld) (v : Nat) : (s.add f v).readData = s.readData := rfl
@[simp] theorem State.add_freeIdx (s : State) (f : Fld) (v : Nat) : (s.add f v).freeIdx = s.freeIdx := rfl
@[simp] theorem State.add_pending (s : State) (f : Fld) (v : Nat) : (s.add f v).pending = s.pending := rfl

/-! inc changes `regs` only. -/

@[simp] theorem State.inc_tb (s : State) (f : Fld) : (s.inc f).tb = s.tb := rfl
@[simp] theorem State.inc_pcie (s : State) (f : Fld) : (s.inc f).pcie = s.pcie := rfl
@[simp] theorem State.inc_qe (s : State) (f : Fld) : (s.inc f).qe = s.qe := rfl
@[simp] theorem State.inc_dma (s : State) (f : Fld) : (s.inc f).dma = s.dma := rfl
@[simp] theorem State.inc_mb (s : State) (f : Fld) : (s.inc f).mb = s.mb := rfl
@[simp] theorem State.inc_gr (s : State) (f : Fld) : (s.inc f).gr = s.gr := rfl
@[simp] theorem State.inc_pt (s : State) (f : Fld) : (s.inc f).pt = s.pt := rfl
@[simp] theorem State.inc_kn (s : State) (f : Fld) : (s.inc f).kn = s.kn := rfl
@[simp] theorem State.inc_gy (s : State) (f : Fld) : (s.inc f).gy = s.gy := rfl
@[simp] theorem State.inc_hz (s : State) (f : Fld) : (s.inc f).hz = s.hz := rfl
@[simp] theorem State.inc_ms (s : State) (f : Fld) : (s.inc f).ms = s.ms := rfl
@[simp] theorem State.inc_tw (s : State) (f : Fld) : (s.inc f).tw = s.tw := rfl
@[simp] theorem State.inc_fn (s : State) (f : Fld) : (s.inc f).fn = s.fn := rfl
@[simp] theorem State.inc_ps (s : State) (f : Fld) : (s.inc f).ps = s.ps := rfl
@[simp] theorem State.inc_lt (s : State) (f : Fld) : (s.inc f).lt = s.lt := rfl
@[simp] theorem State.inc_ln (s : State) (f : Fld) : (s.inc f).ln = s.ln := rfl
@[simp] theorem State.inc_rx (s : State) (f : Fld) : (s.inc f).rx = s.rx := rfl
@[simp] theorem State.inc_cl (s : State) (f : Fld) : (s.inc f).cl = s.cl := rfl
@[simp] theorem State.inc_bp (s : State) (f : Fld) : (s.inc f).bp = s.bp := rfl
@[simp] theorem State.inc_fd (s : State) (f : Fld) : (s.inc f).fd = s.fd := rfl
@[simp] theorem State.inc_crp (s : State) (f : Fld) : (s.inc f).crp = s.crp := rfl
@[simp] theorem State.inc_mg (s : State) (f : Fld) : (s.inc f).mg = s.mg := rfl
@[simp] theorem State.inc_sp (s : State) (f : Fld) : (s.inc f).sp = s.sp := rfl
@[simp] theorem State.inc_yieldAt (s : State) (f : Fld) : (s.inc f).yieldAt = s.yieldAt := rfl
@[simp] theorem State.inc_wire (s : State) (f : Fld) : (s.inc f).wire = s.wire := rfl
@[simp] theorem State.inc_latched (s : State) (f : Fld) : (s.inc f).latched = s.latched := rfl
@[simp] theorem State.inc_loHeld (s : State) (f : Fld) : (s.inc f).loHeld = s.loHeld := rfl
@[simp] theorem State.inc_recLatch (s : State) (f : Fld) : (s.inc f).recLatch = s.recLatch := rfl
@[simp] theorem State.inc_readData (s : State) (f : Fld) : (s.inc f).readData = s.readData := rfl
@[simp] theorem State.inc_freeIdx (s : State) (f : Fld) : (s.inc f).freeIdx = s.freeIdx := rfl
@[simp] theorem State.inc_pending (s : State) (f : Fld) : (s.inc f).pending = s.pending := rfl

/-! wr64 changes `regs` only. -/

@[simp] theorem State.wr64_tb (s : State) (f g : Fld) (v : Nat) : (s.wr64 f g v).tb = s.tb := rfl
@[simp] theorem State.wr64_pcie (s : State) (f g : Fld) (v : Nat) : (s.wr64 f g v).pcie = s.pcie := rfl
@[simp] theorem State.wr64_qe (s : State) (f g : Fld) (v : Nat) : (s.wr64 f g v).qe = s.qe := rfl
@[simp] theorem State.wr64_dma (s : State) (f g : Fld) (v : Nat) : (s.wr64 f g v).dma = s.dma := rfl
@[simp] theorem State.wr64_mb (s : State) (f g : Fld) (v : Nat) : (s.wr64 f g v).mb = s.mb := rfl
@[simp] theorem State.wr64_gr (s : State) (f g : Fld) (v : Nat) : (s.wr64 f g v).gr = s.gr := rfl
@[simp] theorem State.wr64_pt (s : State) (f g : Fld) (v : Nat) : (s.wr64 f g v).pt = s.pt := rfl
@[simp] theorem State.wr64_kn (s : State) (f g : Fld) (v : Nat) : (s.wr64 f g v).kn = s.kn := rfl
@[simp] theorem State.wr64_gy (s : State) (f g : Fld) (v : Nat) : (s.wr64 f g v).gy = s.gy := rfl
@[simp] theorem State.wr64_hz (s : State) (f g : Fld) (v : Nat) : (s.wr64 f g v).hz = s.hz := rfl
@[simp] theorem State.wr64_ms (s : State) (f g : Fld) (v : Nat) : (s.wr64 f g v).ms = s.ms := rfl
@[simp] theorem State.wr64_tw (s : State) (f g : Fld) (v : Nat) : (s.wr64 f g v).tw = s.tw := rfl
@[simp] theorem State.wr64_fn (s : State) (f g : Fld) (v : Nat) : (s.wr64 f g v).fn = s.fn := rfl
@[simp] theorem State.wr64_ps (s : State) (f g : Fld) (v : Nat) : (s.wr64 f g v).ps = s.ps := rfl
@[simp] theorem State.wr64_lt (s : State) (f g : Fld) (v : Nat) : (s.wr64 f g v).lt = s.lt := rfl
@[simp] theorem State.wr64_ln (s : State) (f g : Fld) (v : Nat) : (s.wr64 f g v).ln = s.ln := rfl
@[simp] theorem State.wr64_rx (s : State) (f g : Fld) (v : Nat) : (s.wr64 f g v).rx = s.rx := rfl
@[simp] theorem State.wr64_cl (s : State) (f g : Fld) (v : Nat) : (s.wr64 f g v).cl = s.cl := rfl
@[simp] theorem State.wr64_bp (s : State) (f g : Fld) (v : Nat) : (s.wr64 f g v).bp = s.bp := rfl
@[simp] theorem State.wr64_fd (s : State) (f g : Fld) (v : Nat) : (s.wr64 f g v).fd = s.fd := rfl
@[simp] theorem State.wr64_crp (s : State) (f g : Fld) (v : Nat) : (s.wr64 f g v).crp = s.crp := rfl
@[simp] theorem State.wr64_mg (s : State) (f g : Fld) (v : Nat) : (s.wr64 f g v).mg = s.mg := rfl
@[simp] theorem State.wr64_sp (s : State) (f g : Fld) (v : Nat) : (s.wr64 f g v).sp = s.sp := rfl
@[simp] theorem State.wr64_yieldAt (s : State) (f g : Fld) (v : Nat) : (s.wr64 f g v).yieldAt = s.yieldAt := rfl
@[simp] theorem State.wr64_wire (s : State) (f g : Fld) (v : Nat) : (s.wr64 f g v).wire = s.wire := rfl
@[simp] theorem State.wr64_latched (s : State) (f g : Fld) (v : Nat) : (s.wr64 f g v).latched = s.latched := rfl
@[simp] theorem State.wr64_loHeld (s : State) (f g : Fld) (v : Nat) : (s.wr64 f g v).loHeld = s.loHeld := rfl
@[simp] theorem State.wr64_recLatch (s : State) (f g : Fld) (v : Nat) : (s.wr64 f g v).recLatch = s.recLatch := rfl
@[simp] theorem State.wr64_readData (s : State) (f g : Fld) (v : Nat) : (s.wr64 f g v).readData = s.readData := rfl
@[simp] theorem State.wr64_freeIdx (s : State) (f g : Fld) (v : Nat) : (s.wr64 f g v).freeIdx = s.freeIdx := rfl
@[simp] theorem State.wr64_pending (s : State) (f g : Fld) (v : Nat) : (s.wr64 f g v).pending = s.pending := rfl

/-! wrBit changes `regs` only. -/

@[simp] theorem State.wrBit_tb (s : State) (f : Fld) (k : Nat) (b : Bool) : (s.wrBit f k b).tb = s.tb := rfl
@[simp] theorem State.wrBit_pcie (s : State) (f : Fld) (k : Nat) (b : Bool) : (s.wrBit f k b).pcie = s.pcie := rfl
@[simp] theorem State.wrBit_qe (s : State) (f : Fld) (k : Nat) (b : Bool) : (s.wrBit f k b).qe = s.qe := rfl
@[simp] theorem State.wrBit_dma (s : State) (f : Fld) (k : Nat) (b : Bool) : (s.wrBit f k b).dma = s.dma := rfl
@[simp] theorem State.wrBit_mb (s : State) (f : Fld) (k : Nat) (b : Bool) : (s.wrBit f k b).mb = s.mb := rfl
@[simp] theorem State.wrBit_gr (s : State) (f : Fld) (k : Nat) (b : Bool) : (s.wrBit f k b).gr = s.gr := rfl
@[simp] theorem State.wrBit_pt (s : State) (f : Fld) (k : Nat) (b : Bool) : (s.wrBit f k b).pt = s.pt := rfl
@[simp] theorem State.wrBit_kn (s : State) (f : Fld) (k : Nat) (b : Bool) : (s.wrBit f k b).kn = s.kn := rfl
@[simp] theorem State.wrBit_gy (s : State) (f : Fld) (k : Nat) (b : Bool) : (s.wrBit f k b).gy = s.gy := rfl
@[simp] theorem State.wrBit_hz (s : State) (f : Fld) (k : Nat) (b : Bool) : (s.wrBit f k b).hz = s.hz := rfl
@[simp] theorem State.wrBit_ms (s : State) (f : Fld) (k : Nat) (b : Bool) : (s.wrBit f k b).ms = s.ms := rfl
@[simp] theorem State.wrBit_tw (s : State) (f : Fld) (k : Nat) (b : Bool) : (s.wrBit f k b).tw = s.tw := rfl
@[simp] theorem State.wrBit_fn (s : State) (f : Fld) (k : Nat) (b : Bool) : (s.wrBit f k b).fn = s.fn := rfl
@[simp] theorem State.wrBit_ps (s : State) (f : Fld) (k : Nat) (b : Bool) : (s.wrBit f k b).ps = s.ps := rfl
@[simp] theorem State.wrBit_lt (s : State) (f : Fld) (k : Nat) (b : Bool) : (s.wrBit f k b).lt = s.lt := rfl
@[simp] theorem State.wrBit_ln (s : State) (f : Fld) (k : Nat) (b : Bool) : (s.wrBit f k b).ln = s.ln := rfl
@[simp] theorem State.wrBit_rx (s : State) (f : Fld) (k : Nat) (b : Bool) : (s.wrBit f k b).rx = s.rx := rfl
@[simp] theorem State.wrBit_cl (s : State) (f : Fld) (k : Nat) (b : Bool) : (s.wrBit f k b).cl = s.cl := rfl
@[simp] theorem State.wrBit_bp (s : State) (f : Fld) (k : Nat) (b : Bool) : (s.wrBit f k b).bp = s.bp := rfl
@[simp] theorem State.wrBit_fd (s : State) (f : Fld) (k : Nat) (b : Bool) : (s.wrBit f k b).fd = s.fd := rfl
@[simp] theorem State.wrBit_crp (s : State) (f : Fld) (k : Nat) (b : Bool) : (s.wrBit f k b).crp = s.crp := rfl
@[simp] theorem State.wrBit_mg (s : State) (f : Fld) (k : Nat) (b : Bool) : (s.wrBit f k b).mg = s.mg := rfl
@[simp] theorem State.wrBit_sp (s : State) (f : Fld) (k : Nat) (b : Bool) : (s.wrBit f k b).sp = s.sp := rfl
@[simp] theorem State.wrBit_yieldAt (s : State) (f : Fld) (k : Nat) (b : Bool) : (s.wrBit f k b).yieldAt = s.yieldAt := rfl
@[simp] theorem State.wrBit_wire (s : State) (f : Fld) (k : Nat) (b : Bool) : (s.wrBit f k b).wire = s.wire := rfl
@[simp] theorem State.wrBit_latched (s : State) (f : Fld) (k : Nat) (b : Bool) : (s.wrBit f k b).latched = s.latched := rfl
@[simp] theorem State.wrBit_loHeld (s : State) (f : Fld) (k : Nat) (b : Bool) : (s.wrBit f k b).loHeld = s.loHeld := rfl
@[simp] theorem State.wrBit_recLatch (s : State) (f : Fld) (k : Nat) (b : Bool) : (s.wrBit f k b).recLatch = s.recLatch := rfl
@[simp] theorem State.wrBit_readData (s : State) (f : Fld) (k : Nat) (b : Bool) : (s.wrBit f k b).readData = s.readData := rfl
@[simp] theorem State.wrBit_freeIdx (s : State) (f : Fld) (k : Nat) (b : Bool) : (s.wrBit f k b).freeIdx = s.freeIdx := rfl
@[simp] theorem State.wrBit_pending (s : State) (f : Fld) (k : Nat) (b : Bool) : (s.wrBit f k b).pending = s.pending := rfl

/-! raise changes `cl` only. -/

@[simp] theorem State.raise_regs (s : State) (a b : Nat) (c : Option Nat) (d : Nat) : (s.raise a b c d).regs = s.regs := rfl
@[simp] theorem State.raise_tb (s : State) (a b : Nat) (c : Option Nat) (d : Nat) : (s.raise a b c d).tb = s.tb := rfl
@[simp] theorem State.raise_pcie (s : State) (a b : Nat) (c : Option Nat) (d : Nat) : (s.raise a b c d).pcie = s.pcie := rfl
@[simp] theorem State.raise_qe (s : State) (a b : Nat) (c : Option Nat) (d : Nat) : (s.raise a b c d).qe = s.qe := rfl
@[simp] theorem State.raise_dma (s : State) (a b : Nat) (c : Option Nat) (d : Nat) : (s.raise a b c d).dma = s.dma := rfl
@[simp] theorem State.raise_mb (s : State) (a b : Nat) (c : Option Nat) (d : Nat) : (s.raise a b c d).mb = s.mb := rfl
@[simp] theorem State.raise_gr (s : State) (a b : Nat) (c : Option Nat) (d : Nat) : (s.raise a b c d).gr = s.gr := rfl
@[simp] theorem State.raise_pt (s : State) (a b : Nat) (c : Option Nat) (d : Nat) : (s.raise a b c d).pt = s.pt := rfl
@[simp] theorem State.raise_kn (s : State) (a b : Nat) (c : Option Nat) (d : Nat) : (s.raise a b c d).kn = s.kn := rfl
@[simp] theorem State.raise_gy (s : State) (a b : Nat) (c : Option Nat) (d : Nat) : (s.raise a b c d).gy = s.gy := rfl
@[simp] theorem State.raise_hz (s : State) (a b : Nat) (c : Option Nat) (d : Nat) : (s.raise a b c d).hz = s.hz := rfl
@[simp] theorem State.raise_ms (s : State) (a b : Nat) (c : Option Nat) (d : Nat) : (s.raise a b c d).ms = s.ms := rfl
@[simp] theorem State.raise_tw (s : State) (a b : Nat) (c : Option Nat) (d : Nat) : (s.raise a b c d).tw = s.tw := rfl
@[simp] theorem State.raise_fn (s : State) (a b : Nat) (c : Option Nat) (d : Nat) : (s.raise a b c d).fn = s.fn := rfl
@[simp] theorem State.raise_ps (s : State) (a b : Nat) (c : Option Nat) (d : Nat) : (s.raise a b c d).ps = s.ps := rfl
@[simp] theorem State.raise_lt (s : State) (a b : Nat) (c : Option Nat) (d : Nat) : (s.raise a b c d).lt = s.lt := rfl
@[simp] theorem State.raise_ln (s : State) (a b : Nat) (c : Option Nat) (d : Nat) : (s.raise a b c d).ln = s.ln := rfl
@[simp] theorem State.raise_rx (s : State) (a b : Nat) (c : Option Nat) (d : Nat) : (s.raise a b c d).rx = s.rx := rfl
@[simp] theorem State.raise_bp (s : State) (a b : Nat) (c : Option Nat) (d : Nat) : (s.raise a b c d).bp = s.bp := rfl
@[simp] theorem State.raise_fd (s : State) (a b : Nat) (c : Option Nat) (d : Nat) : (s.raise a b c d).fd = s.fd := rfl
@[simp] theorem State.raise_crp (s : State) (a b : Nat) (c : Option Nat) (d : Nat) : (s.raise a b c d).crp = s.crp := rfl
@[simp] theorem State.raise_mg (s : State) (a b : Nat) (c : Option Nat) (d : Nat) : (s.raise a b c d).mg = s.mg := rfl
@[simp] theorem State.raise_sp (s : State) (a b : Nat) (c : Option Nat) (d : Nat) : (s.raise a b c d).sp = s.sp := rfl
@[simp] theorem State.raise_yieldAt (s : State) (a b : Nat) (c : Option Nat) (d : Nat) : (s.raise a b c d).yieldAt = s.yieldAt := rfl
@[simp] theorem State.raise_wire (s : State) (a b : Nat) (c : Option Nat) (d : Nat) : (s.raise a b c d).wire = s.wire := rfl
@[simp] theorem State.raise_latched (s : State) (a b : Nat) (c : Option Nat) (d : Nat) : (s.raise a b c d).latched = s.latched := rfl
@[simp] theorem State.raise_loHeld (s : State) (a b : Nat) (c : Option Nat) (d : Nat) : (s.raise a b c d).loHeld = s.loHeld := rfl
@[simp] theorem State.raise_recLatch (s : State) (a b : Nat) (c : Option Nat) (d : Nat) : (s.raise a b c d).recLatch = s.recLatch := rfl
@[simp] theorem State.raise_readData (s : State) (a b : Nat) (c : Option Nat) (d : Nat) : (s.raise a b c d).readData = s.readData := rfl
@[simp] theorem State.raise_freeIdx (s : State) (a b : Nat) (c : Option Nat) (d : Nat) : (s.raise a b c d).freeIdx = s.freeIdx := rfl
@[simp] theorem State.raise_pending (s : State) (a b : Nat) (c : Option Nat) (d : Nat) : (s.raise a b c d).pending = s.pending := rfl

/-! raise0 changes `cl` only. -/

@[simp] theorem State.raise0_regs (s : State) (a b : Nat) : (s.raise0 a b).regs = s.regs := rfl
@[simp] theorem State.raise0_tb (s : State) (a b : Nat) : (s.raise0 a b).tb = s.tb := rfl
@[simp] theorem State.raise0_pcie (s : State) (a b : Nat) : (s.raise0 a b).pcie = s.pcie := rfl
@[simp] theorem State.raise0_qe (s : State) (a b : Nat) : (s.raise0 a b).qe = s.qe := rfl
@[simp] theorem State.raise0_dma (s : State) (a b : Nat) : (s.raise0 a b).dma = s.dma := rfl
@[simp] theorem State.raise0_mb (s : State) (a b : Nat) : (s.raise0 a b).mb = s.mb := rfl
@[simp] theorem State.raise0_gr (s : State) (a b : Nat) : (s.raise0 a b).gr = s.gr := rfl
@[simp] theorem State.raise0_pt (s : State) (a b : Nat) : (s.raise0 a b).pt = s.pt := rfl
@[simp] theorem State.raise0_kn (s : State) (a b : Nat) : (s.raise0 a b).kn = s.kn := rfl
@[simp] theorem State.raise0_gy (s : State) (a b : Nat) : (s.raise0 a b).gy = s.gy := rfl
@[simp] theorem State.raise0_hz (s : State) (a b : Nat) : (s.raise0 a b).hz = s.hz := rfl
@[simp] theorem State.raise0_ms (s : State) (a b : Nat) : (s.raise0 a b).ms = s.ms := rfl
@[simp] theorem State.raise0_tw (s : State) (a b : Nat) : (s.raise0 a b).tw = s.tw := rfl
@[simp] theorem State.raise0_fn (s : State) (a b : Nat) : (s.raise0 a b).fn = s.fn := rfl
@[simp] theorem State.raise0_ps (s : State) (a b : Nat) : (s.raise0 a b).ps = s.ps := rfl
@[simp] theorem State.raise0_lt (s : State) (a b : Nat) : (s.raise0 a b).lt = s.lt := rfl
@[simp] theorem State.raise0_ln (s : State) (a b : Nat) : (s.raise0 a b).ln = s.ln := rfl
@[simp] theorem State.raise0_rx (s : State) (a b : Nat) : (s.raise0 a b).rx = s.rx := rfl
@[simp] theorem State.raise0_bp (s : State) (a b : Nat) : (s.raise0 a b).bp = s.bp := rfl
@[simp] theorem State.raise0_fd (s : State) (a b : Nat) : (s.raise0 a b).fd = s.fd := rfl
@[simp] theorem State.raise0_crp (s : State) (a b : Nat) : (s.raise0 a b).crp = s.crp := rfl
@[simp] theorem State.raise0_mg (s : State) (a b : Nat) : (s.raise0 a b).mg = s.mg := rfl
@[simp] theorem State.raise0_sp (s : State) (a b : Nat) : (s.raise0 a b).sp = s.sp := rfl
@[simp] theorem State.raise0_yieldAt (s : State) (a b : Nat) : (s.raise0 a b).yieldAt = s.yieldAt := rfl
@[simp] theorem State.raise0_wire (s : State) (a b : Nat) : (s.raise0 a b).wire = s.wire := rfl
@[simp] theorem State.raise0_latched (s : State) (a b : Nat) : (s.raise0 a b).latched = s.latched := rfl
@[simp] theorem State.raise0_loHeld (s : State) (a b : Nat) : (s.raise0 a b).loHeld = s.loHeld := rfl
@[simp] theorem State.raise0_recLatch (s : State) (a b : Nat) : (s.raise0 a b).recLatch = s.recLatch := rfl
@[simp] theorem State.raise0_readData (s : State) (a b : Nat) : (s.raise0 a b).readData = s.readData := rfl
@[simp] theorem State.raise0_freeIdx (s : State) (a b : Nat) : (s.raise0 a b).freeIdx = s.freeIdx := rfl
@[simp] theorem State.raise0_pending (s : State) (a b : Nat) : (s.raise0 a b).pending = s.pending := rfl

/-! onset changes `cl` only. -/

@[simp] theorem State.onset_regs (s : State) (a b c : Nat) : (s.onset a b c).regs = s.regs := by unfold State.onset; split <;> rfl
@[simp] theorem State.onset_tb (s : State) (a b c : Nat) : (s.onset a b c).tb = s.tb := by unfold State.onset; split <;> rfl
@[simp] theorem State.onset_pcie (s : State) (a b c : Nat) : (s.onset a b c).pcie = s.pcie := by unfold State.onset; split <;> rfl
@[simp] theorem State.onset_qe (s : State) (a b c : Nat) : (s.onset a b c).qe = s.qe := by unfold State.onset; split <;> rfl
@[simp] theorem State.onset_dma (s : State) (a b c : Nat) : (s.onset a b c).dma = s.dma := by unfold State.onset; split <;> rfl
@[simp] theorem State.onset_mb (s : State) (a b c : Nat) : (s.onset a b c).mb = s.mb := by unfold State.onset; split <;> rfl
@[simp] theorem State.onset_gr (s : State) (a b c : Nat) : (s.onset a b c).gr = s.gr := by unfold State.onset; split <;> rfl
@[simp] theorem State.onset_pt (s : State) (a b c : Nat) : (s.onset a b c).pt = s.pt := by unfold State.onset; split <;> rfl
@[simp] theorem State.onset_kn (s : State) (a b c : Nat) : (s.onset a b c).kn = s.kn := by unfold State.onset; split <;> rfl
@[simp] theorem State.onset_gy (s : State) (a b c : Nat) : (s.onset a b c).gy = s.gy := by unfold State.onset; split <;> rfl
@[simp] theorem State.onset_hz (s : State) (a b c : Nat) : (s.onset a b c).hz = s.hz := by unfold State.onset; split <;> rfl
@[simp] theorem State.onset_ms (s : State) (a b c : Nat) : (s.onset a b c).ms = s.ms := by unfold State.onset; split <;> rfl
@[simp] theorem State.onset_tw (s : State) (a b c : Nat) : (s.onset a b c).tw = s.tw := by unfold State.onset; split <;> rfl
@[simp] theorem State.onset_fn (s : State) (a b c : Nat) : (s.onset a b c).fn = s.fn := by unfold State.onset; split <;> rfl
@[simp] theorem State.onset_ps (s : State) (a b c : Nat) : (s.onset a b c).ps = s.ps := by unfold State.onset; split <;> rfl
@[simp] theorem State.onset_lt (s : State) (a b c : Nat) : (s.onset a b c).lt = s.lt := by unfold State.onset; split <;> rfl
@[simp] theorem State.onset_ln (s : State) (a b c : Nat) : (s.onset a b c).ln = s.ln := by unfold State.onset; split <;> rfl
@[simp] theorem State.onset_rx (s : State) (a b c : Nat) : (s.onset a b c).rx = s.rx := by unfold State.onset; split <;> rfl
@[simp] theorem State.onset_bp (s : State) (a b c : Nat) : (s.onset a b c).bp = s.bp := by unfold State.onset; split <;> rfl
@[simp] theorem State.onset_fd (s : State) (a b c : Nat) : (s.onset a b c).fd = s.fd := by unfold State.onset; split <;> rfl
@[simp] theorem State.onset_crp (s : State) (a b c : Nat) : (s.onset a b c).crp = s.crp := by unfold State.onset; split <;> rfl
@[simp] theorem State.onset_mg (s : State) (a b c : Nat) : (s.onset a b c).mg = s.mg := by unfold State.onset; split <;> rfl
@[simp] theorem State.onset_sp (s : State) (a b c : Nat) : (s.onset a b c).sp = s.sp := by unfold State.onset; split <;> rfl
@[simp] theorem State.onset_yieldAt (s : State) (a b c : Nat) : (s.onset a b c).yieldAt = s.yieldAt := by unfold State.onset; split <;> rfl
@[simp] theorem State.onset_wire (s : State) (a b c : Nat) : (s.onset a b c).wire = s.wire := by unfold State.onset; split <;> rfl
@[simp] theorem State.onset_latched (s : State) (a b c : Nat) : (s.onset a b c).latched = s.latched := by unfold State.onset; split <;> rfl
@[simp] theorem State.onset_loHeld (s : State) (a b c : Nat) : (s.onset a b c).loHeld = s.loHeld := by unfold State.onset; split <;> rfl
@[simp] theorem State.onset_recLatch (s : State) (a b c : Nat) : (s.onset a b c).recLatch = s.recLatch := by unfold State.onset; split <;> rfl
@[simp] theorem State.onset_readData (s : State) (a b c : Nat) : (s.onset a b c).readData = s.readData := by unfold State.onset; split <;> rfl
@[simp] theorem State.onset_freeIdx (s : State) (a b c : Nat) : (s.onset a b c).freeIdx = s.freeIdx := by unfold State.onset; split <;> rfl
@[simp] theorem State.onset_pending (s : State) (a b c : Nat) : (s.onset a b c).pending = s.pending := by unfold State.onset; split <;> rfl

/-! loopPut changes `bp` only. -/

@[simp] theorem State.loopPut_regs (s : State) (w : WireOut) : (s.loopPut w).regs = s.regs := by unfold State.loopPut; (repeat' split) <;> rfl
@[simp] theorem State.loopPut_tb (s : State) (w : WireOut) : (s.loopPut w).tb = s.tb := by unfold State.loopPut; (repeat' split) <;> rfl
@[simp] theorem State.loopPut_pcie (s : State) (w : WireOut) : (s.loopPut w).pcie = s.pcie := by unfold State.loopPut; (repeat' split) <;> rfl
@[simp] theorem State.loopPut_qe (s : State) (w : WireOut) : (s.loopPut w).qe = s.qe := by unfold State.loopPut; (repeat' split) <;> rfl
@[simp] theorem State.loopPut_dma (s : State) (w : WireOut) : (s.loopPut w).dma = s.dma := by unfold State.loopPut; (repeat' split) <;> rfl
@[simp] theorem State.loopPut_mb (s : State) (w : WireOut) : (s.loopPut w).mb = s.mb := by unfold State.loopPut; (repeat' split) <;> rfl
@[simp] theorem State.loopPut_gr (s : State) (w : WireOut) : (s.loopPut w).gr = s.gr := by unfold State.loopPut; (repeat' split) <;> rfl
@[simp] theorem State.loopPut_pt (s : State) (w : WireOut) : (s.loopPut w).pt = s.pt := by unfold State.loopPut; (repeat' split) <;> rfl
@[simp] theorem State.loopPut_kn (s : State) (w : WireOut) : (s.loopPut w).kn = s.kn := by unfold State.loopPut; (repeat' split) <;> rfl
@[simp] theorem State.loopPut_gy (s : State) (w : WireOut) : (s.loopPut w).gy = s.gy := by unfold State.loopPut; (repeat' split) <;> rfl
@[simp] theorem State.loopPut_hz (s : State) (w : WireOut) : (s.loopPut w).hz = s.hz := by unfold State.loopPut; (repeat' split) <;> rfl
@[simp] theorem State.loopPut_ms (s : State) (w : WireOut) : (s.loopPut w).ms = s.ms := by unfold State.loopPut; (repeat' split) <;> rfl
@[simp] theorem State.loopPut_tw (s : State) (w : WireOut) : (s.loopPut w).tw = s.tw := by unfold State.loopPut; (repeat' split) <;> rfl
@[simp] theorem State.loopPut_fn (s : State) (w : WireOut) : (s.loopPut w).fn = s.fn := by unfold State.loopPut; (repeat' split) <;> rfl
@[simp] theorem State.loopPut_ps (s : State) (w : WireOut) : (s.loopPut w).ps = s.ps := by unfold State.loopPut; (repeat' split) <;> rfl
@[simp] theorem State.loopPut_lt (s : State) (w : WireOut) : (s.loopPut w).lt = s.lt := by unfold State.loopPut; (repeat' split) <;> rfl
@[simp] theorem State.loopPut_ln (s : State) (w : WireOut) : (s.loopPut w).ln = s.ln := by unfold State.loopPut; (repeat' split) <;> rfl
@[simp] theorem State.loopPut_rx (s : State) (w : WireOut) : (s.loopPut w).rx = s.rx := by unfold State.loopPut; (repeat' split) <;> rfl
@[simp] theorem State.loopPut_cl (s : State) (w : WireOut) : (s.loopPut w).cl = s.cl := by unfold State.loopPut; (repeat' split) <;> rfl
@[simp] theorem State.loopPut_fd (s : State) (w : WireOut) : (s.loopPut w).fd = s.fd := by unfold State.loopPut; (repeat' split) <;> rfl
@[simp] theorem State.loopPut_crp (s : State) (w : WireOut) : (s.loopPut w).crp = s.crp := by unfold State.loopPut; (repeat' split) <;> rfl
@[simp] theorem State.loopPut_mg (s : State) (w : WireOut) : (s.loopPut w).mg = s.mg := by unfold State.loopPut; (repeat' split) <;> rfl
@[simp] theorem State.loopPut_sp (s : State) (w : WireOut) : (s.loopPut w).sp = s.sp := by unfold State.loopPut; (repeat' split) <;> rfl
@[simp] theorem State.loopPut_yieldAt (s : State) (w : WireOut) : (s.loopPut w).yieldAt = s.yieldAt := by unfold State.loopPut; (repeat' split) <;> rfl
@[simp] theorem State.loopPut_latched (s : State) (w : WireOut) : (s.loopPut w).latched = s.latched := by unfold State.loopPut; (repeat' split) <;> rfl
@[simp] theorem State.loopPut_loHeld (s : State) (w : WireOut) : (s.loopPut w).loHeld = s.loHeld := by unfold State.loopPut; (repeat' split) <;> rfl
@[simp] theorem State.loopPut_recLatch (s : State) (w : WireOut) : (s.loopPut w).recLatch = s.recLatch := by unfold State.loopPut; (repeat' split) <;> rfl
@[simp] theorem State.loopPut_readData (s : State) (w : WireOut) : (s.loopPut w).readData = s.readData := by unfold State.loopPut; (repeat' split) <;> rfl
@[simp] theorem State.loopPut_freeIdx (s : State) (w : WireOut) : (s.loopPut w).freeIdx = s.freeIdx := by unfold State.loopPut; (repeat' split) <;> rfl
@[simp] theorem State.loopPut_pending (s : State) (w : WireOut) : (s.loopPut w).pending = s.pending := by unfold State.loopPut; (repeat' split) <;> rfl

/-! emit changes `wire`, and `bp` where a port loops back. -/

@[simp] theorem State.emit_regs (s : State) (w : WireOut) : (s.emit w).regs = s.regs := by unfold State.emit; split; exacts [rfl, s.loopPut_regs w]
@[simp] theorem State.emit_tb (s : State) (w : WireOut) : (s.emit w).tb = s.tb := by unfold State.emit; split; exacts [rfl, s.loopPut_tb w]
@[simp] theorem State.emit_pcie (s : State) (w : WireOut) : (s.emit w).pcie = s.pcie := by unfold State.emit; split; exacts [rfl, s.loopPut_pcie w]
@[simp] theorem State.emit_qe (s : State) (w : WireOut) : (s.emit w).qe = s.qe := by unfold State.emit; split; exacts [rfl, s.loopPut_qe w]
@[simp] theorem State.emit_dma (s : State) (w : WireOut) : (s.emit w).dma = s.dma := by unfold State.emit; split; exacts [rfl, s.loopPut_dma w]
@[simp] theorem State.emit_mb (s : State) (w : WireOut) : (s.emit w).mb = s.mb := by unfold State.emit; split; exacts [rfl, s.loopPut_mb w]
@[simp] theorem State.emit_gr (s : State) (w : WireOut) : (s.emit w).gr = s.gr := by unfold State.emit; split; exacts [rfl, s.loopPut_gr w]
@[simp] theorem State.emit_pt (s : State) (w : WireOut) : (s.emit w).pt = s.pt := by unfold State.emit; split; exacts [rfl, s.loopPut_pt w]
@[simp] theorem State.emit_kn (s : State) (w : WireOut) : (s.emit w).kn = s.kn := by unfold State.emit; split; exacts [rfl, s.loopPut_kn w]
@[simp] theorem State.emit_gy (s : State) (w : WireOut) : (s.emit w).gy = s.gy := by unfold State.emit; split; exacts [rfl, s.loopPut_gy w]
@[simp] theorem State.emit_hz (s : State) (w : WireOut) : (s.emit w).hz = s.hz := by unfold State.emit; split; exacts [rfl, s.loopPut_hz w]
@[simp] theorem State.emit_ms (s : State) (w : WireOut) : (s.emit w).ms = s.ms := by unfold State.emit; split; exacts [rfl, s.loopPut_ms w]
@[simp] theorem State.emit_tw (s : State) (w : WireOut) : (s.emit w).tw = s.tw := by unfold State.emit; split; exacts [rfl, s.loopPut_tw w]
@[simp] theorem State.emit_fn (s : State) (w : WireOut) : (s.emit w).fn = s.fn := by unfold State.emit; split; exacts [rfl, s.loopPut_fn w]
@[simp] theorem State.emit_ps (s : State) (w : WireOut) : (s.emit w).ps = s.ps := by unfold State.emit; split; exacts [rfl, s.loopPut_ps w]
@[simp] theorem State.emit_lt (s : State) (w : WireOut) : (s.emit w).lt = s.lt := by unfold State.emit; split; exacts [rfl, s.loopPut_lt w]
@[simp] theorem State.emit_ln (s : State) (w : WireOut) : (s.emit w).ln = s.ln := by unfold State.emit; split; exacts [rfl, s.loopPut_ln w]
@[simp] theorem State.emit_rx (s : State) (w : WireOut) : (s.emit w).rx = s.rx := by unfold State.emit; split; exacts [rfl, s.loopPut_rx w]
@[simp] theorem State.emit_cl (s : State) (w : WireOut) : (s.emit w).cl = s.cl := by unfold State.emit; split; exacts [rfl, s.loopPut_cl w]
@[simp] theorem State.emit_bp (s : State) (w : WireOut) (h : w.mac = none) : (s.emit w).bp = s.bp := by
  unfold State.emit State.loopPut; simp only [h]; split <;> rfl
@[simp] theorem State.emit_fd (s : State) (w : WireOut) : (s.emit w).fd = s.fd := by unfold State.emit; split; exacts [rfl, s.loopPut_fd w]
@[simp] theorem State.emit_crp (s : State) (w : WireOut) : (s.emit w).crp = s.crp := by unfold State.emit; split; exacts [rfl, s.loopPut_crp w]
@[simp] theorem State.emit_mg (s : State) (w : WireOut) : (s.emit w).mg = s.mg := by unfold State.emit; split; exacts [rfl, s.loopPut_mg w]
@[simp] theorem State.emit_sp (s : State) (w : WireOut) : (s.emit w).sp = s.sp := by unfold State.emit; split; exacts [rfl, s.loopPut_sp w]
@[simp] theorem State.emit_yieldAt (s : State) (w : WireOut) : (s.emit w).yieldAt = s.yieldAt := by unfold State.emit; split; exacts [rfl, s.loopPut_yieldAt w]
@[simp] theorem State.emit_latched (s : State) (w : WireOut) : (s.emit w).latched = s.latched := by unfold State.emit; split; exacts [rfl, s.loopPut_latched w]
@[simp] theorem State.emit_loHeld (s : State) (w : WireOut) : (s.emit w).loHeld = s.loHeld := by unfold State.emit; split; exacts [rfl, s.loopPut_loHeld w]
@[simp] theorem State.emit_recLatch (s : State) (w : WireOut) : (s.emit w).recLatch = s.recLatch := by unfold State.emit; split; exacts [rfl, s.loopPut_recLatch w]
@[simp] theorem State.emit_readData (s : State) (w : WireOut) : (s.emit w).readData = s.readData := by unfold State.emit; split; exacts [rfl, s.loopPut_readData w]
@[simp] theorem State.emit_freeIdx (s : State) (w : WireOut) : (s.emit w).freeIdx = s.freeIdx := by unfold State.emit; split; exacts [rfl, s.loopPut_freeIdx w]
@[simp] theorem State.emit_pending (s : State) (w : WireOut) : (s.emit w).pending = s.pending := by unfold State.emit; split; exacts [rfl, s.loopPut_pending w]

end Sys2Proof.Machine
end

