-- ==== Sys2Proof/Tests/Slice0.lean ====
section
/-!
SUPPORT. Tests: ill-formed commands that the check refuses, worked examples of the manual, and for every obligation with hypotheses
concrete states and operands that meet the hypotheses of each of its clauses. Expected values are the manual's.
-/

open Sys2Proof Sys2Proof.Machine

set_option maxRecDepth 20000
set_option linter.unusedVariables false

namespace Sys2Proof.Machine

/-- The state with some register fields set. -/
def State.set (s : State) (l : List (Fld × Nat)) : State := l.foldl (fun s x => s.wr x.1 x.2) s

end Sys2Proof.Machine

namespace Sys2Proof.Tests

/-! Helpers: small states. -/

/-- The next state of an outcome. -/
def outGet (o : Out) : State := match o with | .next s => s | _ => State.reset

/-- The state after reset with some register fields set. -/
def St (l : List (Fld × Nat)) : State := State.reset.set l

/-- The same, with every function of the host enabled. -/
def StP (l : List (Fld × Nat)) : State :=
  let s := St l
  { s with pcie := { s.pcie with mse := 0xFFFF, bme := 0xFFFF, vfe := true } }

def kset (s : State) (p : Nat) (f : KnPort → KnPort) : State := s.setKnPort p (f (s.knPort p))
def adm (s : State) (l : List (Nat × DWord)) : State := { s with kn := { s.kn with admin := l } }
def opr (s : State) (l : List (Nat × DWord)) : State := { s with kn := { s.kn with oper := l } }
def atDt (s : State) (d : DWord) : State := { s with tb := { s.tb with dt := d } }
def goodAdm (p : Nat) : State := adm (St [(F.KN_Pn_ADMIN_LEN p, 2), (F.KN_Pn_ADMIN_CYCLE p, 1000), (F.KN_Pn_ADMIN_EXT p, 999), (F.KN_Pn_ADMIN_BASE_LO p, 500)]) [(p*4096, 0x0F00000190), (p*4096+1, 0xF000000258)]
def pend (s : State) (p : Nat) (c : Nat) : State := s.set [(F.KN_Pn_STATUS_CFG_PENDING p, 1), (F.KN_Pn_CTRL_CFG_CHANGE p, 1), (F.KN_Pn_CHG_TIME_LO p, c)]
def runs (p : Nat) : State := kset (opr (St [(F.KN_Pn_OPER_LEN p, 2), (F.KN_Pn_OPER_CYCLE p, 1000), (F.KN_Pn_OPER_BASE_LO p, 500), (F.KN_Pn_CTRL_GATE_EN p, 1), (F.KN_Pn_CTRL_HR_EN p, 1), (F.KN_Pn_HOLD_ADV p, 100)]) [(p*4096, 0x010F00000190), (p*4096+1, 0x02F000000258)]) p (fun r => { r with eff := true, running := true, last := 500 })
def sgS (f : Sg → Sg) : State := let s := St [(F.KN_CTRL_SG_EN, 1), (F.KN_MSEL, 2)]; { s with kn := { s.kn with sgAdmin := [(4*1023, 100), (4*1023+1, 1000), (4*1023+2, 0x10000)], sgOper := [(4*1023, 100), (4*1023+1, 1000), (4*1023+2, 0x10000)], pool := [(0, 1000)], sgs := Sparse.put Sg.empty [] 1023 (f Sg.empty) } }
def taU : Ta := ⟨0, 0, 0, 0, 0, 0, false, 2, 3, true, 0x20, false, false, 0, none, 0, false, false⟩
def taS (s : State) (u : Ta) : State := { s.set [(F.KN_CTRL_TA_EN, 1), (F.KN_STATUS_TA_FREE, 4095)] with kn := { s.kn with tas := [(0, some u)], edges := [(3, true, 0)] } }
def it0 : Item := ⟨3, 1, 2, none, none, false, false, none, 0, none, 0, [1,2,3], none, false, false, false, none, [], none, 0, .ready, false, false, 0, [], none, false, [], ⟨0,0⟩, []⟩
def lnS (s : State) (its : List (Nat × Option Item)) : State := { s with ln := { s.ln with items := its } }
def upS : List (Fld × Nat) := [(F.LN_CTRL_EN, 1), (F.BP_STATUS_LINK 1, 1), (F.LN_Pn_CTRL_TX_EN 1, 1), (F.FP_STATUS_LINK 7, 1), (F.FD_STATUS_ISO_UP, 1), (F.LN_Pn_CTRL_TX_EN 9, 1), (F.LN_Pn_CTRL_GUARD_EN 1, 0), (F.LN_Pn_CTRL_GUARD_EN 9, 0), (F.BP_CFG_MAX_FRAME 1, 0)]
def atMono (s : State) (d : Nat) : State := { s with tb := { s.tb with mono := d } }
def lnp (s : State) (p : Nat) (f : LnPort → LnPort) : State := s.setLnPort p (f (s.lnPort p))
def shpS (l : List (Nat × Shp)) : State := atMono { State.reset with lt := { Lt.reset with shps := l } } 9000
def pw0 : PWrite := ⟨5, 7, 0x1234, none, 0x80, 5, 0, false, true, none, none, false, 0, none⟩
def pt0 : Point := ⟨1, 100, 3, 0xC0, false, 0, false, false, false, 0, 0, none⟩
def gyS (s : State) (f : Gy → Gy) : State := { s with gy := f s.gy }
def g0 : Gy := { Gy.reset with points := [(7, some pt0)] }
def sub0 : Sub := ⟨0, 0, none, 3, 0x20, 0x20, false, false, 7, 0⟩
def mv0 : Move := ⟨7, true, false, []⟩
def note0 : Note := ⟨2, 5, 6, 7, 0xC0, 1, 5, 0⟩
def mapW : List DWord := [0x101, 0, 0, 0, 0x00C0000004000002, 9]
def tls (p : Nat) : TplLaunch := ⟨0, 0, 0, 0, 0, 0, [], [], [], true, [p], [], [], false⟩
def cqOn : List (Fld × Nat) := [(F.QE_CTRL_EN, 1), (F.QE_CQ_CFG_EN 3, 1), (F.QE_CQ_CFG_SIZE 3, 4), (F.QE_CQ_CFG_IRQ_EN 3, 1), (F.QE_CQ_INFO_q_OWNER 3, 0x20), (F.QE_CQ_INFO_q_GAP 3, 65535)]
def msS (s : State) (f : Ms → Ms) : State := { s with ms := f s.ms }
def msW (ctl : List (Nat × DWord)) : Ms := { Ms.reset with ctl := ctl }
def tpW (w0 w1 : DWord) : List (Nat × DWord) := [(40, w0), (41, w1)]
def tlS (p : Nat) (l : List (Fld × Nat)) (w0 w1 : DWord) (st : DWord) : State :=
  { kset (msS (St ([(F.KN_Pn_OPER_LEN p, 2), (F.KN_Pn_OPER_CYCLE p, 10000), (F.KN_Pn_CTRL_GATE_EN p, 1), (F.MS_CTRL_EN, 1), (F.MS_CTRL_SCHED_EN, 1)] ++ l)) fun _ => msW (tpW w0 w1)) p (fun r => { r with eff := true, running := true })
    with fn := { Fn.reset with streams := [(12, st)] } }
def l7 (f : TplLaunch → TplLaunch) : TplLaunch := f { tls 7 with ctl := [0x0003000301030040, 0x0000000100000100, 0,0,0,0,0,0], slots := [7, 0x0010000000000008], dtl := 80000, hotWait := [], port := 3, classed := true }
def lS (l : TplLaunch) (d : Nat) : State := { atDt (gyS (St [(F.MS_CTRL_EN, 1)]) fun _ => { g0 with points := [(7, some {pt0 with hot := true}), (8, some pt0)] }) (BitVec.ofNat 64 d) with ms := { Ms.reset with launches := [l] } }
def fnS (s : State) (f : Fn → Fn) : State := { s with fn := f s.fn }
def psS (s : State) (f : Ps → Ps) : State := { s with ps := f s.ps }
def z7 : List DWord := [0,0,0,0,0,0,0]
def rcS (c0 c1 : DWord) (r : Rec) (d : Nat) : State := { fnS (St [(F.FN_CTRL_EN, 1), (F.FN_CTRL_REC_EN, 1)]) fun _ => { Fn.reset with recCfg := [(10, c0), (11, c1)], recs := [(5, r)] } with tb := { Tb.reset with mono := d } }
def hd : List Byte := [1,2,3,4,5,6,7,8,9,10,11,12,0x81,0,0,5,0xF1,0xC1,0,0,0,7,9,0]
def idE : List DWord := [0x0005000100050004, 0x060504030201, 0, 0, 0, 0, 0]
def rxS (l : List (Fld × Nat)) (f : Fn → Fn) : State := fnS (St ([(F.FN_CTRL_EN, 1), (F.FN_CTRL_ID_EN, 1), (F.FN_CTRL_REC_EN, 1), (F.BP_STATUS_LINK 0, 1), (F.FP_STATUS_LINK 7, 1), (F.FD_STATUS_ISO_UP, 1)] ++ l)) fun _ => f { Fn.reset with streams := [(20, 0x21), (21, 5)], ids := [(0, some idE)], recCfg := [(10, 0x401)] }
def rxF (p : Nat) (d : List Byte) : RxFrame := ⟨p, d, ⟨5, 0⟩, 0, some (some 5), 0x21, 5, none, none, none, .open, 0x401, false, [], false, false, none⟩
def withRx (s : State) (f : RxFrame) : State := { s with rx := [(f.port, some f)] }
def rcd (f : Rec → Rec) (c : DWord) : State := withRx (rxS [] (fun n => { n with recs := [(5, f { Rec.empty with takeAny := false, seq := 7 })], recCfg := [(10, c)] })) (rxF 0 hd)
def mac64 : List Byte := let b : List Byte := [1, 0x80, 0xC2, 0, 0, 1, 7, 8, 9, 10, 11, 12, 0x88, 8] ++ List.replicate 46 0; b ++ fcs b
def f64 : List Byte := let b : List Byte := hd ++ List.replicate 36 0; b ++ fcs b
def twS (s : State) (f : Tw → Tw) : State := { s with tw := f s.tw }
def tws (r : Nat) (l : List (Fld × Nat)) (f : Tw → Tw) (d : Nat) : State := { twS (St ([(F.TW_CTRL_EN, 1), (F.TW_STATUS_ROLE, r), (F.TW_STATUS_READY, if 3 ≤ r then 1 else 0), (F.TW_EPOCH, 5), (F.TW_PEER_EPOCH, 6), (F.TW_PAIR_ID, 77)] ++ l)) f with tb := { Tb.reset with mono := d, dt := BitVec.ofNat 64 (d + 5) } }
def pb : List Byte := let b : List Byte := [2, 9, 3, 0, 77, 0, 0, 0, 9, 0, 0, 0, 0x5A, 0]; b ++ pulseCrc b
def pb0 : List Byte := let b : List Byte := [2, 8, 3, 0, 77, 0, 0, 0, 9, 0, 0, 0, 0x5A, 0]; b ++ pulseCrc b
def bbP : List Byte := [77, 0, 0, 0, 9, 0, 0, 0, 1, 0]
def bbIt (s : State) : Item := (((outGet (execBackboneClaimTx s)).item s.ln.next).getD it0)
def mr0 : MirRec := ⟨7, 0, ⟨5, 1, 6⟩, 1, 2, 3, 4, 5, 0, 0⟩
def dfr : List Byte := let b : List Byte := [0x22, 1, 0, 0, 9, 0, 0, 0, 0, 0, 0, 0, 0x34, 2, 1, 0]; b ++ fcs b
def sqL (q : Nat) (l : List (Fld × Nat)) : List (Fld × Nat) := [(F.QE_SQ_OWNER_OWNER q, 0x20), (F.QE_SQ_OWNER_LOCAL q, q % 256), (F.QE_CQ_INFO_q_OWNER 3, 0x20), (F.QE_CQ_CFG_EN 3, 1), (F.QE_SQ_CFG_CQ q, 3), (F.QE_SQ_HEAD q, 0xFFF3), (F.QE_CTRL_EN, 1), (F.AC_TBL_t_w 14 4, 0xFF)] ++ l
def qeS (s : State) (f : Qe → Qe) : State := { s with qe := f s.qe }
def sqr (q : Nat) (l : List (Fld × Nat)) (r : Sq) : State := qeS (StP (sqL q l)) fun x => { x with sqs := [(q, r)] }
def jb (d : Option JobEnd) : Job := ⟨4, 4, 1, 1, 9, true, 7, true, d, false⟩
def ent (units : Nat) (op : Nat) (compl : Bool) (b : List Byte) : List Byte := (leBytes 1 op ++ leBytes 1 (units - 1 + compl.toNat * 16) ++ [5, 0] ++ b ++ List.replicate (16 * units) 0).take (16 * units)
def jq (tp : Nat) (l : List (Fld × Nat)) (r : Sq) : State := sqr 3 ([(F.QE_SQ_STAT_STATE 3, 1), (F.QE_SQ_TAIL 3, 3), (F.QE_SQ_CFG_TYPE 3, tp), (F.GR_CTRL_EN, 1), (F.GR_QMAX_q_m 0 0x20, 50), (F.GR_QMAX_q_m 1 0x20, 50), (F.AC_TBL_t_w 13 4, 0xF), (F.QE_CQ_INFO_q_GAP 3, 0)] ++ l) { r with cq := 3, fetch := 15 }
def eTx : List Byte := ent 2 1 true [0, 0, 1, 2]
def eTxT : List Byte := ent 3 2 false ([0, 0, 9, 2] ++ List.replicate 8 0 ++ [5,0,0,0,0,0,0,0])
def eTxF : List Byte := ent 3 2 false ([0, 0, 9, 2] ++ List.replicate 8 0 ++ [5,0,0,0,0,0,0,1])
def h54 : List Byte := List.replicate 14 7 ++ [0x45] ++ List.replicate 39 0
def eLso : List Byte := ent 3 3 true ([0, 0, 1, 2, 54, 0, 100, 0, 14, 34, 0, 0] ++ List.replicate 8 0 ++ [200, 0, 0, 0, 0,0,0,0] ++ List.replicate 8 0 ++ [200, 0, 0, 0])
def full (s : State) : State := { s with ln := { s.ln with items := List.replicate 8193 (0, some it0) } }
def it2 (t : Out) : Item := ((outGet t).item 0).getD it0
def eRx : List Byte := ent 3 4 true (List.replicate 12 0 ++ [0,0,1,0,0,0,0,0,7,0] ++ List.replicate 6 0 ++ [0,0,2,0,0,0,0,0,8,0])
def ePw : List Byte := ent 2 5 true ([0,0,0,0,0,0,0,0,0,0,0,0] ++ [1,2,3,4,5,6,7,8,7,0,0,0,0xC0])
def ePr : List Byte := ent 2 6 false ([7,0,0,0] ++ List.replicate 8 0 ++ [0,0x10])
def eSub : List Byte := ent 2 7 true ([7,0,0,0,3,0,0x41,0,0,0,0,0,9])
def eUns : List Byte := ent 2 7 true ([7,0,0,0x80,3,0,0x41,0,2,0,0,0,9])
def eTa (k p : Byte) : List Byte := ent 2 8 true ([5,0,0,0,0,0,0,0, 4,0,0,0, 1,0,0,0,0xFF,0,0,0,p,p,0,0,1,0,k,0])
def dmS (l : List (Fld × Nat)) (c : Nat) (f : Ch → Ch) : State := { StP ([(F.AC_TBL_t_w 15 4, 0xF), (F.DMA_CTRL_EN, 1)] ++ l) with dma := [(c, f Ch.empty)] }
def xf : Xfer := ⟨0x1FFFFFFF0, 0x2FFFFFFF0, 20, 0, false, false⟩
def own13 : List (Fld × Nat) := [(F.CH_OWNER 13, 0x20), (F.CH_CTRL_EN 13, 1)]
def cj : CopyJob := ⟨3, 15, 2, 20, 0, false, false, 0x1000, 0x2000, false⟩
def eCp : List Byte := ent 2 9 true ([20,0,0,0, 1, 2,0,0,0,0,0,0, 0,0x10,0,0,0,0,0,0, 0,0x20])
def dsc (ow : Byte) (nx : Byte) : List Byte := [1,2,0,0,0,0,0,0, 3,4,0,0,0,0,0,0, nx,0,0,0,0,0,0,0, 20,0,0,0x20,0,0,0,ow]
def d20 : List Byte := List.replicate 20 9
def ch0 : Chain := ⟨2 ^ 0x20, [9], [1,2,3], false, false, 0x20, 5⟩
def grS (l : List (Fld × Nat)) (c : Nat) (x : Chain) : State := { StP ([(F.AC_TBL_t_w 11 4, 0xF), (F.GR_CTRL_EN, 1), (F.GR_QUSED_q_m 0 0x20, 1), (F.GR_QUSED_q_m 1 0x20, 1), (F.GR_QMAX_q_m 0 0x20, 5), (F.GR_QMAX_q_m 1 0x20, 5)] ++ l) with gr := { Gr.reset with chains := [(c, some x)] } }
def ptS (l : List (Fld × Nat)) (f : Pt → Pt) : State := { St l with pt := f Pt.reset }
def ptpOn (l : List (Fld × Nat)) : State := St ([(F.TB_CTRL_PTP_EN, 1), (F.TB_PTP_CFG_ROLE_OC, 1), (F.TB_PTP_CFG_OC_PORT, 1)] ++ l)
def mbS (l : List (Fld × Nat)) : State := StP ([(F.AC_TBL_t_w 16 4, 0xF), (F.AC_TBL_t_w 16 0, 0xF), (F.MB_CTRL_EN, 1)] ++ l)
def crS (s : State) (f : Crp → Crp) : State := { s with crp := f s.crp }
def pwS (st : Nat) (l : List (Fld × Nat)) : State := StP ([(F.AC_TBL_t_w 1 4, 0xF), (F.CRP_PWR_STATUS_STATE, st), (F.CRP_WIPE_STATUS_DRAM, 0)] ++ l)
def rqS (tag : Nat) (l : List (Fld × Nat)) (f : Mg → Mg) : State :=
  let s := St ([(F.CRP_BOOT_PHASE, 6), (F.MB_CTRL_EN, 1), (F.MB_CH_STAT_FULL 2, 1), (F.MB_CH_TAG 2, tag), (F.MG_STATUS_STATE, 1), (F.MB_BIND_n_VALID 2, 1), (F.MB_BIND_n_SENDER 2, 0x20), (F.MB_BIND_n_RECEIVER 2, 0), (F.MB_BIND_n_VALID 6, 1), (F.MB_BIND_n_SENDER 6, 0), (F.MB_BIND_n_RECEIVER 6, 0x20)] ++ l)
  { s with pcie := { s.pcie with bme := 1 }, mg := f { s.mg with reqs := [2] } }
def fwI (svn : Byte) (len : Nat) : List Byte := ([1,2,3,4, 9,0,0,0, svn,0,0,0] ++ leBytes 4 len ++ List.replicate 32 0)
def ebI (v : Byte) : List Byte :=
  let b : List Byte := [5,6,7]
  [0x45, 0x42, 0x4E, 0x31, 1,0, 1,0, 211,0,0,0, v,0,0,0] ++ List.replicate 12 0 ++ [1,0,0,0] ++ List.replicate 96 0 ++ [8,0,0,0, 144,0,0,0, 3,0,0,0] ++ fcs b ++ b ++ List.replicate 64 0
def slB : FwSlot := ⟨1, 0, false⟩
def cnd (s : State) (l : List (Nat × Nat)) : State := { s with cl := { s.cl with conds := l } }
def bootS (ph lc : Nat) (l : List (Fld × Nat)) : State := St ([(F.CRP_BOOT_PHASE, ph), (F.AC_STATUS_LC, lc)] ++ l)
def pcS (s : State) (f : Pcie → Pcie) : State := { s with pcie := f s.pcie }
def brS (b : Nat) (l : List (Fld × Nat)) : State := crS (StP ([(F.AC_TBL_t_w 1 4, 0xF), (F.AC_TBL_t_w (if b = 22 then 13 else b) 4, 0xF)] ++ l)) (fun c => { c with blk := [(b, 0)] })
def clS (n : Nat) (cfg : Nat) (l : List (Fld × Nat)) : State :=
  let s := St ([(F.CL_SRC_CFG_n_EN n, bits cfg 31 1), (F.CL_SRC_CFG_n_SEV n, bits cfg 0 2), (F.CL_SRC_CFG_n_IRQ n, bits cfg 8 1), (F.CL_SRC_CFG_n_NMI n, bits cfg 9 1), (F.CL_SRC_CFG_n_BLKRST n, bits cfg 10 1), (F.CL_SRC_CFG_n_CHIPRST n, bits cfg 11 1), (F.CL_SRC_CFG_n_ERRPAD n, bits cfg 12 1), (F.CL_SRC_CFG_n_BLK n, bits cfg 16 8)] ++ l)
  { s with cl := { s.cl with inbox := [⟨n, 3, some 0x20, 77, false⟩] } }
def bke : BookEntry := { dt := 5, src := 84, sev := 1, conseq := false, inject := false, coal := false, react := 0, master := none, inst := 3, blk := 0xFF, repeats := 65535, info := 0, seq := 1, last := 5 }
def clB (s : State) (f : Cl → Cl) : State := { s with cl := f s.cl }
def spE (c u : Nat) (act : Bool) : Subst := ⟨c, u, 0, none, act, 0, false, false⟩
def spS (l : List (Fld × Nat)) (q : List Subst) (o : Bool) : State :=
  { St ([(F.CRP_BOOT_PHASE, 6), (F.SP_CLASS_n_REMAIN 0, 9), (F.SP_CLASS_n_REMAIN 4, 1), (F.SP_CLASS_n_REMAIN 5, 1), (F.SP_CLASS_n_REMAIN 7, 3), (F.SP_CLASS_n_USED 0, 65535)] ++ l) with sp := { Sp.reset with queue := q, open_ := o } }
def shut (l : List (Fld × Nat)) : List (Fld × Nat) := [(F.KN_Pn_CTRL_GATE_EN 0, 1), (F.KN_Pn_SCHED_MASK 0, 1), (F.BP_STATUS_LINK 0, 1)] ++ l
def bpS (st : Nat) (p : Nat) (l : List (Fld × Nat)) : State := StP ([(F.AC_TBL_t_w 3 4, 0xF), (F.BP_STATUS_STATE p, st), (F.BP_STATUS_LINK p, if st = 4 then 1 else 0)] ++ l)
def bpr (s : State) (p : Nat) (f : BpPort → BpPort) : State := s.setBp p (f (s.bpPort p))
def fdS (l : List (Fld × Nat)) (f : Fd → Fd) : State := let s := StP ([(F.AC_TBL_t_w 5 4, 0xF)] ++ l); { s with fd := f { s.fd with released := true } }
def fpp (s : State) (n : Nat) (f : FdPort → FdPort) : State := s.setFd n (f (s.fdPort n))
def dueU (rank : Nat) : Due := ⟨rank, 3, 3, 7, ⟨1, 5, 6, 7, 3, 4, 5, 0, 1, 1, 0⟩⟩
def eTxL : List Byte := ent 3 2 false ([0, 0, 9, 2] ++ List.replicate 8 0 ++ [0xFF,0xFF,0xFF,0,0,0,0,0])
def bmeOn (s : State) : State := { s with pcie := { s.pcie with bme := 0xFFFF } }
def bmeOff (s : State) : State := { s with pcie := { s.pcie with bme := 0 } }

/-- A table of timed actions with every entry in use. -/
def taFull : List (Nat × Option Ta) := (List.range 4096).map (fun i => (i, some taU))
theorem lowestFree_range (n : Nat) : lowestFree 0 (List.range n) = n := by
  have h : (List.range n).find? (fun i => !(List.range n).contains (0 + i)) = none := by
    simp [List.find?_eq_none]
  simp only [lowestFree, List.length_range, List.range_succ, List.find?_append, h]
  simp
theorem taFull_free (s : State) (h : s.kn.tas = taFull) : s.taFree = none := by
  have : s.kn.tas.map (·.1) = List.range 4096 := by rw [h]; simp [taFull, Function.comp_def]
  simp only [State.taFree, this, lowestFree_range]; rfl
/-- GYLE holds as many host point jobs as it takes. -/
def gyFull (s : State) : State := gyS s fun _ => { g0 with qHost := List.replicate (Config.pointQueue + 1) (.unsub 3 4 5 6) }
theorem gyFull_takes (s : State) : (gyFull s).gyTakes = false := by simp [State.gyTakes, gyFull, gyS, List.replicate_succ]
theorem full_room (s : State) (n : Nat) (h : 8192 ≤ s.wtRsv) (hn : 1 ≤ n) : (full s).wtRoom n = false := by
  have h2 : (full s).wtRsv = s.wtRsv := rfl
  have h4 : (full s).ln.items.length = 8193 := List.length_replicate
  unfold State.wtRoom
  rw [List.countP_eq_zero.mpr, decide_eq_false_iff_not, h2, h4]
  · omega
  · intro x hx
    obtain rfl := List.eq_of_mem_replicate (show x ∈ List.replicate 8193 (0, some it0) from hx)
    decide

/-! Commands that nobody can send. -/

theorem test_wellFormed_refuses :
    Instr.wf (.registerWrite 2 0 4 0) = false ∧ Instr.wf (.registerWrite 0 0x300000 4 0) = false ∧ Instr.wf (.registerWrite 0 0 0 0) = false
    ∧ Instr.wf (.registerWrite 0 0 9 0) = false ∧ Instr.wf (.lowWordRead 0x30 0 4) = false ∧ Instr.wf (.lowWordRead 0 0 0) = false
    ∧ Instr.wf (.counterReadClear 0 0 4097) = false ∧ Instr.wf (.windowDataRead 0x1F 0 4) = false ∧ Instr.wf (.lowWordWrite 0 2 0) = false
    ∧ Instr.wf (.commit 7) = false ∧ Instr.wf (.reepochArm 0 16) = false ∧ Instr.wf (.pointWindowWrite 0 []) = false
    ∧ Instr.wf (.pfcRx 0 0 [1]) = false ∧ Instr.wf (.backboneClaimRx 0 (List.replicate 1501 0)) = false
    ∧ Instr.wf (.sqDoorbell 0x20 16 0 4 0 0) = false ∧ Instr.wf (.cqDoorbell 0x20 16 0 4 0 0) = false
    ∧ Instr.wf (.busError 0 0 0 1 [] false) = false ∧ Instr.wf (.cellAlloc []) = false ∧ Instr.wf (.chainAppend (2 ^ 19) 0 []) = false
    ∧ Instr.wf (.chainComplete 32768 0) = false ∧ Instr.wf (.chainAbort 0 64) = false ∧ Instr.wf (.share 0 64 0) = false
    ∧ Instr.wf (.release 32768 0) = false ∧ Instr.wf (.quotaWrite 0 false 0 16 0) = false ∧ Instr.wf (.pool1SizeWrite 0 (2 ^ 32)) = false
    ∧ Instr.wf (.mailboxLockTake 0 []) = false ∧ Instr.wf (.mailboxLockTake 0 [2]) = false
    ∧ Instr.wf (.faultRaise 0 [⟨160, 0, none, 0, false⟩]) = false ∧ Instr.wf (.conditionEnd 160 0) = false ∧ Instr.wf (.faultInject 0 256) = false
    ∧ Instr.wf (.sensorSample [] [] [] 0) = false ∧ Instr.wf (.ageingSample [] []) = false ∧ Instr.wf (.smbusReadWord 128 0) = false
    ∧ Instr.wf (.spareSelftest [8]) = false ∧ Instr.wf (.fieldProxyWrite 0 0x10000 0) = false ∧ Instr.wf (.fieldStatusRefresh []) = false
    ∧ Instr.wf (.powerEvaluation []) = false ∧ Instr.wf (.pllUnlock 32) = false ∧ Instr.wf (.pcieLinkUp 64 0) = false := by decide

theorem test_wellFormed_accepts :
    Instr.wf (.registerWrite 0x2F 0x2F0000 8 0) = true ∧ Instr.wf (.reepochArm 0x20 15) = true ∧ Instr.wf (.chainComplete 32767 63) = true
    ∧ Instr.wf (.pllUnlock 31) = true ∧ Instr.wf .idcode = true := by decide

/-! Worked examples of the manual. -/

/-- 02, after R34: to run 3.7 ppm fast the servo writes TB_INC_LO = 0x0000_7C27, then TB_INC_HI = 0x2. -/
theorem test_increment_3_7_ppm_fast : (outGet (exec (.tbIncWrite 0 0x200007C27) (St []))).tbInc = 0x200007C27 := by decide

/-- R34: a value above 2.002 ns is clamped and sets INC_CLAMP. -/
theorem test_increment_is_clamped :
    (outGet (exec (.tbIncWrite 0 0x300000000) (St []))).tbInc = 0x20083126F
    ∧ (outGet (exec (.tbIncWrite 0 0x300000000) (St []))).rd F.TB_STATUS_INC_CLAMP = 1 := by decide

/-- R33: a tick at the nominal increment adds 2 ns. -/
theorem test_tick_adds_two_ns : (outGet (step (atMono (St []) 10000))).tb.dt = 2 := by decide

/-- 19, after R505: PF0 writes 16 bits to QE_SQ_CFG of SQ 8 at 0x0E_4108; GC_ACC_ERR reads 0xCC0E_4108. -/
theorem test_bad_access_record : (outGet (exec (.registerWrite 0x20 0xE4108 2 0) (StP []))).regVal 0 0x48 = 0xCC0E4108 := by decide

/-- 05, worked example: map 212 on the chiller's status frame; bytes 0x02 0xDD at offset 34 give 733, and 0xFF 0x6A give −150; status bytes
0x00 0x0C, shifted right by 3 and kept to 1 bit, give 1. -/
def chiller (a b : Byte) : State :=
  let f : List Byte := List.replicate 34 0 ++ [a, b, 0x00, 0x0C, 0x00] ++ List.replicate 57 0
  let s := (St []).mapField 4117 f 0 (34 + 0x44 * 2 ^ 16 + 2 * 2 ^ 24 + 38 * 2 ^ 48) 0x10200
  s.mapField 4117 f 0 (36 + 0x04 * 2 ^ 16 + 2 * 2 ^ 24 + 3 * 2 ^ 32 + 1 * 2 ^ 40 + 38 * 2 ^ 48) 0x10201

theorem test_chiller_maps :
    (chiller 0x02 0xDD).gy.qExt.map (fun w => (w.point, w.value.toNat)) = [(0x10200, 733), (0x10201, 1)]
    ∧ (chiller 0xFF 0x6A).gy.qExt.map (fun w => w.value.toNat) = [0xFFFFFFFFFFFFFF6A, 1] := by decide

/-- R393: the factory tables. -/
theorem test_factory_tables :
    State.reset.may 0x13 0x20 permW = false ∧ State.reset.may 0x0E 0x2F permDB = true ∧ State.reset.may 0x0E 0x2F permADM = false := by decide

/-! For each obligation, states and operands that meet the hypotheses of each clause. -/

theorem test_StepTakesTheFrontCommand :
    ((fun (c : Instr) (rest : List Instr) (s : State) => (s.pending = c :: rest)) (.idcode) ([.dbgHalt]) ({ St [] with pending := [.idcode, .dbgHalt] })) :=
  by decide

theorem test_EveryStepKeepsTheForm :
    ((fun (s : State) (t : State) => (s.Canon) ∧ (step s = Host.Outcome.next t)) (St [(F.LN_CTRL_EN, 1)]) (outGet (step (St [(F.LN_CTRL_EN, 1)])))) :=
  ⟨by decide, rfl⟩

theorem test_ResetState :
    ((fun (f : Fld) => (f.rst < 2 ^ 32)) (F.TB_INC_HI)) :=
  by decide

theorem test_TickOfDeviceTime :
    ((fun (s : State) => (s.pending = []) ∧ (s.gr.ops = []) ∧ (s.mb.posts = []) ∧ (s.qe.due = []) ∧ (s.fn.cmd = none) ∧ (s.crp.pwReqs = []) ∧ (s.crp.off = false) ∧ (s.crp.rstLow = false) ∧ (s.crp.tr ≤ s.tb.mono) ∧ (s.tb.slewing = false)) (St [])) ∧
    ((fun (s : State) => (s.pending = []) ∧ (s.gr.ops = []) ∧ (s.mb.posts = []) ∧ (s.qe.due = []) ∧ (s.fn.cmd = none) ∧ (s.crp.pwReqs = []) ∧ (s.crp.off = true ∨ s.crp.rstLow = true ∨ s.tb.mono < s.crp.tr)) (crS (St [(F.TB_STATUS_STATE, 3)]) (fun c => { c with off := true }))) ∧
    ((fun (v33 : Bool) (s : State) => (s.crp.off = true)) (true) (crS (St [(F.TB_STATUS_STATE, 3)]) (fun c => { c with off := true }))) ∧
    ((fun (v33 : Bool) (s : State) => (s.crp.chipReq = true)) (true) (crS (St [(F.TB_STATUS_STATE, 3)]) (fun c => { c with chipReq := true }))) :=
  by decide

theorem test_IdleStepsPassTime :
    ((fun (n : ℕ) (s : State) => (s.pending = []) ∧ (s.Canon)) (1) (St [])) :=
  by decide

theorem test_EntriesOfDbg :
    ((fun (t : Fin 22) (bit : Fin 4) (m : ℕ) (w : Fin 8) (v : Word) (s : State) => (s.rd F.AC_STATUS_DBG = 0)) (21) (0) (0) (0) (0xFF) (St [])) ∧
    ((fun (t : Fin 22) (bit : Fin 4) (m : ℕ) (w : Fin 8) (v : Word) (s : State) => (bits (s.rd (F.AC_TBL_t_w (↑t) 0)) 4 4 = 0) ∧ (s.gives 0 (1249280 + 32 * ↑t)) ∧ (s.rd F.AC_STATUS_DBG ≤ 2) ∧ (Sparse.get none s.latched (1249280 + 32 * ↑t) = none)) (21) (0) (0) (0) (0xFF) (St [])) ∧
    ((fun (t : Fin 22) (bit : Fin 4) (m : ℕ) (w : Fin 8) (v : Word) (s : State) => (s.rd F.AC_STATUS_DBG = 1)) (21) (3) (0x20) (0) (0xFF) (St [(F.AC_STATUS_DBG, 1)])) ∧
    ((fun (t : Fin 22) (bit : Fin 4) (m : ℕ) (w : Fin 8) (v : Word) (s : State) => (s.rd F.AC_STATUS_DBG = 2)) (19) (3) (0x20) (0) (0xFF) (St [(F.AC_STATUS_DBG, 2)])) :=
  by decide

theorem test_ReservedBlocks :
    ((fun (m : ℕ) (off : ℕ) (v : DWord) (s : State) (bytes : ℕ) => (s.decodes m = true) ∧ (isVf m = false) ∧ (1441792 ≤ off) ∧ (off < 2097152) ∧ (off % 4 = 0) ∧ (bytes = 1 ∨ bytes = 2 ∨ bytes = 4) ∧ (Sparse.get none s.latched (m * 2 ^ 24 + off) = none)) (0) (0x160000) (0xFFFFFFFF) (St []) (1)) :=
  by decide

theorem test_TimeBaseStateTransitions_1 :
    ((fun (m : ℕ) (s : State) => (s.accepts m 131072 permW)) (0) (St [])) ∧
    ((fun (m : ℕ) (offs : DWord) (s : State) => (s.accepts m 131188 permW) ∧ (¬(s.rd F.TB_STATUS_STATE = 2 ∧ s.rd F.TB_STEP_THR ≠ 0 ∧ s.rd F.TB_STEP_THR < (toSigned 64 (BitVec.toNat offs)).natAbs))) (0) (0) (St [])) ∧
    ((fun (s : State) => (¬(s.on F.TB_CTRL_PTP_EN = true ∧ s.on F.TB_PTP_CFG_ROLE_OC = true ∧ s.on F.TB_SERVO_OWNER = false))) (St [])) ∧
    ((fun (m : ℕ) (offs : DWord) (s : State) => (s.accepts m 131188 permW) ∧ (s.rd F.TB_STATUS_STATE = 2 ∧ s.rd F.TB_STEP_THR ≠ 0 ∧ s.rd F.TB_STEP_THR < (toSigned 64 (BitVec.toNat offs)).natAbs) ∧ (s.rd F.TB_CTRL_JUMP_MODE = 0)) (0) (2000000) (St [(F.TB_STATUS_STATE, 2)])) ∧
    ((fun (m : ℕ) (offs : DWord) (s : State) => (s.accepts m 131188 permW) ∧ (s.rd F.TB_STATUS_STATE = 2 ∧ s.rd F.TB_STEP_THR ≠ 0 ∧ s.rd F.TB_STEP_THR < (toSigned 64 (BitVec.toNat offs)).natAbs) ∧ (s.rd F.TB_CTRL_JUMP_MODE ≠ 0)) (0) (2000000) (St [(F.TB_STATUS_STATE, 2), (F.TB_CTRL_JUMP_MODE, 1), (F.TB_CTRL_PTP_EN, 1), (F.TB_PTP_CFG_ROLE_OC, 1)])) ∧
    ((fun (s : State) => (s.on F.TB_CTRL_PTP_EN = true ∧ s.on F.TB_PTP_CFG_ROLE_OC = true ∧ s.on F.TB_SERVO_OWNER = false)) (St [(F.TB_STATUS_STATE, 2), (F.TB_CTRL_JUMP_MODE, 1), (F.TB_CTRL_PTP_EN, 1), (F.TB_PTP_CFG_ROLE_OC, 1)])) :=
  by decide

theorem test_TimeBaseStateTransitions_2 :
    ((fun (s : State) => (s.rd F.TB_STATUS_STATE = 4) ∧ (s.tb.slewing = true) ∧ (s.tb.slew = 0)) (let s := St [(F.TB_STATUS_STATE, 4), (F.CRP_PWR_STATUS_STATE, 2)]; { s with tb := { s.tb with slewing := true } })) :=
  by decide

theorem test_ServoAndIncrement :
    ((fun (m : ℕ) (inc : ℕ) (s : State) => (s.accepts m 131104 permW) ∧ (m = if s.on F.TB_SERVO_OWNER = true then 32 else 0) ∧ (s.rd F.TB_STATUS_STATE ≠ 3)) (0) (0x200000000) (St [])) ∧
    ((fun (m : ℕ) (inc : ℕ) (s : State) => (s.accepts m 131104 permW) ∧ ((m ≠ if s.on F.TB_SERVO_OWNER = true then 32 else 0) ∨ s.rd F.TB_STATUS_STATE = 3)) (0) (0x2FFFFFFFFF) (St [(F.TB_STATUS_STATE, 3), (F.TB_SERVO_REQ, 1)])) ∧
    ((fun (s : State) => (s.on F.TB_SERVO_REQ = true) ∧ (s.on F.TB_SERVO_OWNER = false)) (St [(F.TB_STATUS_STATE, 3), (F.TB_SERVO_REQ, 1)])) ∧
    ((fun (s : State) => (s.accepts 32 131200 permW)) (StP [(F.TB_SERVO_OWNER, 1), (F.TB_SERVO_WDOG, 0), (F.TB_SERVO_REQ, 1), (F.AC_TBL_t_w 2 4, 0xF)])) ∧
    ((fun (s : State) => (s.on F.TB_SERVO_OWNER = true) ∧ (s.rd F.TB_SERVO_WDOG ≠ 0) ∧ (s.tb.incAt + s.rd F.TB_SERVO_WDOG * 1000000 ≤ s.tb.mono)) (let s := StP [(F.TB_SERVO_OWNER, 1), (F.TB_SERVO_WDOG, 1), (F.AC_TBL_t_w 2 4, 0xF)]; { s with tb := { s.tb with mono := 1000000 } })) :=
  by decide

theorem test_StepsOfDeviceTime_1 :
    ((fun (m : ℕ) (s : State) => (s.accepts m 131072 permW) ∧ (s.rd F.TB_STATUS_STATE ≤ 1) ∧ (0 ≤ ↑s.dt + toSigned 64 (s.rd64 F.TB_STEP_LO F.TB_STEP_HI))) (0) (St [(F.TB_STEP_LO, 0xFFFFFFFF), (F.TB_STEP_HI, 5), (F.TB_EPOCH, 0xFFFFFFFF)])) ∧
    ((fun (m : ℕ) (s : State) => (s.accepts m 131072 permW) ∧ (¬(s.rd F.TB_STATUS_STATE ≤ 1 ∧ 0 ≤ ↑s.dt + toSigned 64 (s.rd64 F.TB_STEP_LO F.TB_STEP_HI)))) (0) (St [(F.TB_STEP_LO, 0xFFFFFFFF), (F.TB_STEP_HI, 0xFFFFFFFF), (F.TB_STATUS_STATE, 4), (F.TB_REEP_LO, 3)])) ∧
    ((fun (m : ℕ) (anchor : ℕ) (s : State) => (s.accepts m 131128 permW) ∧ (s.on F.TW_CTRL_EN = false) ∧ (s.tb.reep = none) ∧ (anchor < 16) ∧ (2 ≤ s.rd F.TB_STATUS_STATE) ∧ (10 ≤ anchor ∨ (s.knPort anchor).running = false)) (0) (9) (St [(F.TB_STEP_LO, 0xFFFFFFFF), (F.TB_STEP_HI, 0xFFFFFFFF), (F.TB_STATUS_STATE, 4), (F.TB_REEP_LO, 3)])) ∧
    ((fun (m : ℕ) (anchor : ℕ) (s : State) => (s.accepts m 131128 permW) ∧ (s.on F.TW_CTRL_EN = false) ∧ (s.tb.reep = none) ∧ (anchor < 16) ∧ (2 ≤ s.rd F.TB_STATUS_STATE) ∧ (let b : ℤ := s.reepBoundary anchor ↑(s.dt + 10000); (0 ≤ b + toSigned 64 (s.rd64 F.TB_REEP_LO F.TB_REEP_HI)))) (0) (9) (St [(F.TB_STEP_LO, 0xFFFFFFFF), (F.TB_STEP_HI, 0xFFFFFFFF), (F.TB_STATUS_STATE, 4), (F.TB_REEP_LO, 3)])) ∧
    ((fun (r : Reep) (s : State) => (s.tb.reep = some r) ∧ (r.bnd ≤ ↑s.dt) ∧ (0 ≤ r.bnd + r.delta) ∧ (s.rd F.TB_STATUS_STATE ≠ 4)) (⟨-200, 777, 3, 0⟩) (let s := St [(F.TB_STEP_LO, 0xFFFFFFFF), (F.TB_STEP_HI, 0xFFFFFFFF), (F.TB_STATUS_STATE, 0), (F.TB_REEP_LO, 3)]; { s with tb := { s.tb with dt := 777, frac := 0xF0000001, reep := some ⟨-200, 777, 3, 0⟩ } })) ∧
    ((fun (r : Reep) (s : State) => (s.tb.reep = some r) ∧ (r.bnd ≤ ↑s.dt) ∧ (0 ≤ r.bnd + r.delta) ∧ (s.rd F.TB_STATUS_STATE = 4)) (⟨-200, 777, 3, 0⟩) (let s := St [(F.TB_STATUS_STATE, 4), (F.CRP_PWR_STATUS_STATE, 2)]; { s with tb := { s.tb with dt := 779, frac := 0xF0000001, reep := some ⟨-200, 777, 3, 0⟩ } })) :=
  by decide

theorem test_StepsOfDeviceTime_2 :
    ((fun (s : State) => (s.accepts 32 131232 permW)) (let s := StP [(F.TB_STATUS_STATE, 2), (F.TB_REEP_LO, 3), (F.TB_REEP_HI, 0x80000000), (F.AC_TBL_t_w 2 4, 0xF)]; { s with tb := { s.tb with dt := 777, frac := 0xF0000001 } })) ∧
    ((fun (m : ℕ) (anchor : ℕ) (s : State) => (s.accepts m 131128 permW) ∧ (s.on F.TW_CTRL_EN = false) ∧ (s.tb.reep = none) ∧ (anchor < 16) ∧ (2 ≤ s.rd F.TB_STATUS_STATE) ∧ (let b : ℤ := s.reepBoundary anchor ↑(s.dt + 10000); (b + toSigned 64 (s.rd64 F.TB_REEP_LO F.TB_REEP_HI) < 0))) (0) (9) (let s := StP [(F.TB_STATUS_STATE, 2), (F.TB_REEP_LO, 3), (F.TB_REEP_HI, 0x80000000), (F.AC_TBL_t_w 2 4, 0xF)]; { s with tb := { s.tb with dt := 777, frac := 0xF0000001 } })) :=
  by decide

theorem test_PulseOutputAndItsCommit :
    ((fun (m : ℕ) (s : State) => (s.accepts m 131072 permW) ∧ (s.on F.TB_CTRL_COMMIT = false) ∧ (s.ppsDriven = false)) (0) (let s := St []; { s with tb := { s.tb with ppsPeriod := 3 } })) ∧
    ((fun (m : ℕ) (s : State) => (s.accepts m 131072 permW) ∧ (s.on F.TB_CTRL_COMMIT = false) ∧ (s.ppsDriven = true)) (0) (let s := St [(F.TB_PPSO_CFG_EN, 1), (F.TB_STATUS_STATE, 2), (F.TB_PPSO_PERIOD, 1000)]; { s with tb := { s.tb with ppsCommit := some (100, 3, 10000) } })) ∧
    ((fun (period : Word) (phase : Word) (width : Word) (s : State) => (s.tb.ppsCommit = some (period, phase, width)) ∧ (s.ppsDriven = false ∨ s.rd F.TB_PPSO_PERIOD ≠ 0 ∧ ((↑s.dt - ↑(s.rd F.TB_PPSO_PHASE)) % ↑(s.rd F.TB_PPSO_PERIOD) ≤ 2 ∨ ↑(s.rd F.TB_PPSO_PERIOD) - 2 ≤ (↑s.dt - ↑(s.rd F.TB_PPSO_PHASE)) % ↑(s.rd F.TB_PPSO_PERIOD)))) (100) (3) (10000) (let s := St [(F.TB_PPSO_CFG_EN, 1), (F.TB_STATUS_STATE, 2), (F.TB_PPSO_PERIOD, 1000)]; { s with tb := { s.tb with ppsCommit := some (100, 3, 10000) } })) ∧
    ((fun (s : State) => (s.ppsDriven = true) ∧ (s.rd F.TB_PPSO_PERIOD ≠ 0) ∧ (s.tb.ppsOutEnd = none) ∧ ((↑s.dt - ↑(s.rd F.TB_PPSO_PHASE)) % ↑(s.rd F.TB_PPSO_PERIOD) ≤ 2 ∨ ↑(s.rd F.TB_PPSO_PERIOD) - 2 ≤ (↑s.dt - ↑(s.rd F.TB_PPSO_PHASE)) % ↑(s.rd F.TB_PPSO_PERIOD)) ∧ (s.tb.ppsCommit ≠ none)) (let s := St [(F.TB_PPSO_CFG_EN, 1), (F.TB_STATUS_STATE, 2), (F.TB_PPSO_PERIOD, 1000)]; { s with tb := { s.tb with ppsCommit := some (100, 3, 10000) } })) ∧
    ((fun (s : State) => (s.ppsDriven = true) ∧ (s.rd F.TB_PPSO_PERIOD ≠ 0) ∧ (s.tb.ppsOutEnd = none) ∧ ((↑s.dt - ↑(s.rd F.TB_PPSO_PHASE)) % ↑(s.rd F.TB_PPSO_PERIOD) ≤ 2 ∨ ↑(s.rd F.TB_PPSO_PERIOD) - 2 ≤ (↑s.dt - ↑(s.rd F.TB_PPSO_PHASE)) % ↑(s.rd F.TB_PPSO_PERIOD)) ∧ (s.tb.ppsCommit = none)) (let s := St [(F.TB_PPSO_CFG_EN, 1), (F.TB_PPSO_CFG_POL, 1), (F.TB_STATUS_STATE, 4)]; s)) :=
  by decide

theorem test_CapturesAndFollower_1 :
    ((fun (m : ℕ) (seq : Word) (s : State) => (s.accepts m 131196 permW)) (0) (5) (St [])) ∧
    ((fun (pin : Fin 2) (rising : Bool) (q : Fin 8) (s : State) => (let sel : ℕ := s.rd (if ↑pin = 0 then F.TB_TIN0_CFG_EDGE else F.TB_TIN1_CFG_EDGE); (let ok : Prop := s.on (if ↑pin = 0 then F.TB_TIN0_CFG_EN else F.TB_TIN1_CFG_EN) = true ∧ (2 ≤ sel ∨ (sel = 0 ↔ rising = true)); (¬ok)))) (0) (true) (3) (St [])) ∧
    ((fun (m : ℕ) (pin : Fin 2) (s : State) => (s.gives m (131400 + 32 * ↑pin))) (0) (0) (St [])) ∧
    ((fun (err : ℤ) (s : State) => (s.flwHears = false)) (-101) (St [])) ∧
    ((fun (rising : Bool) (q : Fin 8) (s : State) => (s.on F.TB_PPSI_CFG_EN = true) ∧ (rising = !s.on F.TB_PPSI_CFG_EDGE) ∧ (s.tb.ppsInHave = true ∧ s.rd F.TB_PPSI_CFG_WIN_US * 4000 < (↑(s.quarters ↑q) - (s.tb.ppsInAt + 4000000000)).natAbs)) (true) (3) (let s := St [(F.TB_PPSI_CFG_EN, 1), (F.TB_TIN0_CFG_EN, 1), (F.TB_FLW_STAT_LOCK, 1), (F.TB_CTRL_PTP_EN, 1), (F.TB_FPTP_CFG_PORT_EN, 0x80)]; { s with tb := { s.tb with flwOver := 2, mono := 8000000000, tin0 := [⟨0x100000007, 9⟩], fuB := [⟨0, 0, 0⟩], ppsInHave := true } })) ∧
    ((fun (pin : Fin 2) (rising : Bool) (q : Fin 8) (s : State) => (let sel : ℕ := s.rd (if ↑pin = 0 then F.TB_TIN0_CFG_EDGE else F.TB_TIN1_CFG_EDGE); (let ok : Prop := s.on (if ↑pin = 0 then F.TB_TIN0_CFG_EN else F.TB_TIN1_CFG_EN) = true ∧ (2 ≤ sel ∨ (sel = 0 ↔ rising = true)); (let fifo : List Stamp := if ↑pin = 0 then s.tb.tin0 else s.tb.tin1; (let far : Bool := Option.all (fun l => decide (l + 32 ≤ s.tb.mono * 4 + ↑q)) (if ↑pin = 0 then s.tb.tinLast0 else s.tb.tinLast1); (ok) ∧ (far = true) ∧ (fifo.length < 16)))))) (0) (true) (3) (let s := St [(F.TB_PPSI_CFG_EN, 1), (F.TB_TIN0_CFG_EN, 1), (F.TB_FLW_STAT_LOCK, 1), (F.TB_CTRL_PTP_EN, 1), (F.TB_FPTP_CFG_PORT_EN, 0x80)]; { s with tb := { s.tb with flwOver := 2, mono := 8000000000, tin0 := [⟨0x100000007, 9⟩], fuB := [⟨0, 0, 0⟩], ppsInHave := true } })) :=
  by decide

theorem test_CapturesAndFollower_2 :
    ((fun (s : State) => (s.on F.TB_FLW_STAT_LOCK = true) ∧ (s.tb.flwAt + 10000 ≤ s.tb.mono)) (let s := St [(F.TB_PPSI_CFG_EN, 1), (F.TB_TIN0_CFG_EN, 1), (F.TB_FLW_STAT_LOCK, 1), (F.TB_CTRL_PTP_EN, 1), (F.TB_FPTP_CFG_PORT_EN, 0x80)]; { s with tb := { s.tb with flwOver := 2, mono := 8000000000, tin0 := [⟨0x100000007, 9⟩], fuB := [⟨0, 0, 0⟩], ppsInHave := true } })) ∧
    ((fun (dirB : Bool) (e : FuEntry) (rest : List FuEntry) (s : State) => ((if dirB = true then s.tb.fuB else s.tb.fuA) = e :: rest) ∧ (e.since + s.rd F.TB_TC_FU_TMO * 1000000 ≤ s.tb.mono)) (true) (⟨0, 0, 0⟩) ([]) (let s := St [(F.TB_PPSI_CFG_EN, 1), (F.TB_TIN0_CFG_EN, 1), (F.TB_FLW_STAT_LOCK, 1), (F.TB_CTRL_PTP_EN, 1), (F.TB_FPTP_CFG_PORT_EN, 0x80)]; { s with tb := { s.tb with flwOver := 2, mono := 8000000000, tin0 := [⟨0x100000007, 9⟩], fuB := [⟨0, 0, 0⟩], ppsInHave := true } })) ∧
    ((fun (n : Fin 8) (s : State) => (s.on F.TB_CTRL_PTP_EN = true) ∧ (bits (s.rd F.TB_FPTP_CFG_PORT_EN) (↑n) 1 = 1) ∧ (Sparse.get 0 s.tb.nextSync ↑n ≤ s.dt)) (7) (let s := St [(F.TB_PPSI_CFG_EN, 1), (F.TB_TIN0_CFG_EN, 1), (F.TB_FLW_STAT_LOCK, 1), (F.TB_CTRL_PTP_EN, 1), (F.TB_FPTP_CFG_PORT_EN, 0x80)]; { s with tb := { s.tb with flwOver := 2, mono := 8000000000, tin0 := [⟨0x100000007, 9⟩], fuB := [⟨0, 0, 0⟩], ppsInHave := true } })) ∧
    ((fun (pin : Fin 2) (rising : Bool) (q : Fin 8) (s : State) => (let sel : ℕ := s.rd (if ↑pin = 0 then F.TB_TIN0_CFG_EDGE else F.TB_TIN1_CFG_EDGE); (let ok : Prop := s.on (if ↑pin = 0 then F.TB_TIN0_CFG_EN else F.TB_TIN1_CFG_EN) = true ∧ (2 ≤ sel ∨ (sel = 0 ↔ rising = true)); (let fifo : List Stamp := if ↑pin = 0 then s.tb.tin0 else s.tb.tin1; (let far : Bool := Option.all (fun l => decide (l + 32 ≤ s.tb.mono * 4 + ↑q)) (if ↑pin = 0 then s.tb.tinLast0 else s.tb.tinLast1); (ok) ∧ (far = false ∨ 16 ≤ fifo.length)))))) (0) (true) (3) (let s := St [(F.TB_PPSI_CFG_EN, 1), (F.TB_TIN0_CFG_EN, 1)]; { s with tb := { s.tb with flwOver := 2, mono := 8000000000, tin0 := List.replicate 16 ⟨0x100000007, 9⟩, fuB := [⟨0, 0, 0⟩], ppsInHave := true } })) ∧
    ((fun (rising : Bool) (q : Fin 8) (s : State) => (s.on F.TB_PPSI_CFG_EN = true) ∧ (rising = !s.on F.TB_PPSI_CFG_EDGE) ∧ (¬(s.tb.ppsInHave = true ∧ s.rd F.TB_PPSI_CFG_WIN_US * 4000 < (↑(s.quarters ↑q) - (s.tb.ppsInAt + 4000000000)).natAbs))) (false) (7) (let s := St [(F.TB_PPSI_CFG_EN, 1), (F.TB_PPSI_CFG_EDGE, 1), (F.TB_TIN1_CFG_EN, 1), (F.TB_TIN1_CFG_EDGE, 1), (F.QE_EVT_MAP_n_EN 0, 1), (F.FD_STATUS_ISO_UP, 1)]; { s with tb := { s.tb with mono := 8000000000, tin1 := [⟨3, 9⟩], fuA := [⟨0, 0, 0⟩], ppsInHave := false, tinLast1 := some 31999999990 } })) ∧
    ((fun (err : ℤ) (s : State) => (s.flwHears = true) ∧ (s.on F.TB_FLW_STAT_LOCK = false)) (5) (let s := St [(F.TB_PPSI_CFG_EN, 1), (F.TB_PPSI_CFG_EDGE, 1), (F.TB_TIN1_CFG_EN, 1), (F.TB_TIN1_CFG_EDGE, 1), (F.QE_EVT_MAP_n_EN 0, 1), (F.FD_STATUS_ISO_UP, 1)]; { s with tb := { s.tb with mono := 8000000000, tin1 := [⟨3, 9⟩], fuA := [⟨0, 0, 0⟩], ppsInHave := false, tinLast1 := some 31999999990 } })) :=
  by decide

theorem test_CapturesAndFollower_3 :
    ((fun (err : ℤ) (s : State) => (s.flwHears = true) ∧ (s.on F.TB_FLW_STAT_LOCK = true) ∧ (err.natAbs ≤ s.rd F.TB_FLW_CFG_UNLOCK_NS)) (5) (let s := St [(F.TB_TIN1_CFG_EN, 1), (F.TB_TIN1_CFG_EDGE, 2), (F.TB_FLW_STAT_LOCK, 1), (F.FD_STATUS_ISO_UP, 1)]; { s with tb := { s.tb with dt := 8000000000, mono := 8000000000, tinLast1 := some 31999999968 } })) ∧
    ((fun (s : State) => (s.on F.TB_PPSI_CFG_EN = true) ∧ (s.tb.ppsInAt + 6000000000 ≤ ↑(s.quarters 0))) (let s := St [(F.TB_PPSI_CFG_EN, 1), (F.TB_FLW_STAT_LOCK, 1), (F.FD_STATUS_ISO_UP, 1)]; { s with tb := { s.tb with ppsInHave := true, dt := 8000000000, mono := 8000000000, flwOver := 2 } })) ∧
    ((fun (err : ℤ) (s : State) => (s.flwHears = true) ∧ (s.on F.TB_FLW_STAT_LOCK = true) ∧ (s.rd F.TB_FLW_CFG_UNLOCK_NS < err.natAbs) ∧ (s.tb.flwOver = 2)) (-101) (let s := St [(F.TB_PPSI_CFG_EN, 1), (F.TB_FLW_STAT_LOCK, 1), (F.FD_STATUS_ISO_UP, 1)]; { s with tb := { s.tb with ppsInHave := true, dt := 8000000000, mono := 8000000000, flwOver := 2 } })) ∧
    ((fun (err : ℤ) (s : State) => (s.flwHears = true) ∧ (s.on F.TB_FLW_STAT_LOCK = true) ∧ (s.rd F.TB_FLW_CFG_UNLOCK_NS < err.natAbs) ∧ (s.tb.flwOver ≠ 2)) (-101) (let s := St [(F.TB_FLW_STAT_LOCK, 1), (F.FD_STATUS_ISO_UP, 1)]; { s with tb := { s.tb with dt := 8000000000, mono := 8000000000, flwOver := 1 } })) :=
  by decide

theorem test_ConfigurationChangeTime :
    ((fun (m : ℕ) (p : Fin 10) (s : State) => (s.accepts m (394240 + 128 * ↑p) permW) ∧ (s.cfgPending ↑p = false) ∧ (s.on (F.KN_Pn_STATUS_ADMIN_BUSY ↑p) = false) ∧ (s.cfgCode ↑p = 0)) (0) (9) (goodAdm 9)) ∧
    ((fun (m : ℕ) (p : Fin 10) (s : State) => (s.accepts m (394240 + 128 * ↑p) permW) ∧ (¬(s.cfgPending ↑p = true ∧ ↑s.dt < s.chgTime ↑p - 1000))) (0) (9) (goodAdm 9)) ∧
    ((fun (m : ℕ) (p : Fin 10) (s : State) => (s.accepts m (394240 + 128 * ↑p) permW) ∧ (s.cfgPending ↑p = true ∨ s.on (F.KN_Pn_STATUS_ADMIN_BUSY ↑p) = true)) (0) (1) (pend (goodAdm 1) 1 5000)) ∧
    ((fun (m : ℕ) (p : Fin 10) (s : State) => (s.accepts m (394240 + 128 * ↑p) permW) ∧ (s.cfgPending ↑p = false) ∧ (s.on (F.KN_Pn_STATUS_ADMIN_BUSY ↑p) = false) ∧ (s.cfgCode ↑p ≠ 0)) (0) (1) (St [])) ∧
    ((fun (m : ℕ) (p : Fin 10) (s : State) => (s.accepts m (394240 + 128 * ↑p) permW) ∧ (s.cfgPending ↑p = true) ∧ (↑s.dt < s.chgTime ↑p - 1000) ∧ ((s.knPort ↑p).running = true)) (0) (0) (kset (pend (goodAdm 0) 0 3000) 0 (fun r => { r with running := true, eff := true }))) :=
  by decide

theorem test_ListExchangeAndGateEnable_1 :
    ((fun (p : Fin 10) (s : State) => (s.cfgPending ↑p = true) ∧ (s.chgTime ↑p ≤ s.gateDt ↑p) ∧ (Sparse.wf 0 s.kn.admin = true) ∧ (Sparse.wf 0 s.kn.oper = true) ∧ ((s.knPort ↑p).eff = true) ∧ (s.on (F.KN_Pn_CTRL_GATE_EN ↑p) = true)) (9) (kset (pend ((goodAdm 9).set [(F.KN_Pn_CTRL_GATE_EN 9, 1)]) 9 0) 9 (fun r => { r with eff := true }))) ∧
    ((fun (m : ℕ) (p : Fin 10) (b : Bool) (s : State) => (s.accepts m (394240 + 128 * ↑p) permW) ∧ ((s.knPort ↑p).running = true ∨ (s.knPort ↑p).eff = b)) (0) (9) (true) (kset (pend ((goodAdm 9).set [(F.KN_Pn_CTRL_GATE_EN 9, 1)]) 9 0) 9 (fun r => { r with eff := true }))) ∧
    ((fun (p : Fin 10) (s : State) => (s.cfgPending ↑p = true) ∧ (s.chgTime ↑p ≤ s.gateDt ↑p) ∧ (Sparse.wf 0 s.kn.admin = true) ∧ (Sparse.wf 0 s.kn.oper = true) ∧ ((s.knPort ↑p).eff = true) ∧ (s.on (F.KN_Pn_CTRL_GATE_EN ↑p) = false)) (1) (kset (pend (goodAdm 1) 1 0) 1 (fun r => { r with eff := true }))) ∧
    ((fun (m : ℕ) (p : Fin 10) (b : Bool) (s : State) => (s.accepts m (394240 + 128 * ↑p) permW) ∧ ((s.knPort ↑p).running = false) ∧ ((s.knPort ↑p).eff = true) ∧ (b = false)) (0) (1) (false) (kset (pend (goodAdm 1) 1 0) 1 (fun r => { r with eff := true }))) ∧
    ((fun (p : Fin 10) (s : State) => (s.cfgPending ↑p = true) ∧ (s.chgTime ↑p ≤ s.gateDt ↑p) ∧ (Sparse.wf 0 s.kn.admin = true) ∧ (Sparse.wf 0 s.kn.oper = true) ∧ ((s.knPort ↑p).eff = false)) (9) (pend (goodAdm 9) 9 0)) ∧
    ((fun (m : ℕ) (p : Fin 10) (b : Bool) (s : State) => (s.accepts m (394240 + 128 * ↑p) permW) ∧ ((s.knPort ↑p).running = false) ∧ ((s.knPort ↑p).eff = false) ∧ (b = true)) (0) (9) (true) (pend (goodAdm 9) 9 0)) :=
  by decide

theorem test_ListExchangeAndGateEnable_2 :
    ((fun (p : Fin 10) (s : State) => (s.on (F.KN_Pn_STATUS_ADMIN_BUSY ↑p) = true) ∧ (Sparse.wf 0 s.kn.admin = true) ∧ (Sparse.wf 0 s.kn.oper = true)) (1) (opr ((goodAdm 1).set [(F.KN_Pn_OPER_LEN 1, 1), (F.KN_Pn_STATUS_ADMIN_BUSY 1, 1)]) [(0, 9), (5, 7), (4096, 8)])) :=
  by decide

theorem test_GateEntriesAndFieldEvents_1 :
    ((fun (p : Fin 10) (k : ℤ) (i : ℕ) (at_ : ℤ) (s : State) (b : ℤ) => ((s.knPort ↑p).running = true) ∧ ((s.sched ↑p).next (s.knPort ↑p).last = some (k, i, at_)) ∧ (s.gateEnds ↑p = some b) ∧ (b ≤ at_)) (9) (1) (0) (1500) (kset (atDt ((runs 9).set [(F.KN_Pn_CTRL_GATE_EN 9, 0)]) 1500) 9 (fun r => { r with last := 900 })) (1500)) ∧
    ((fun (p : Fin 10) (k : ℤ) (i : ℕ) (at_ : ℤ) (s : State) => ((s.knPort ↑p).running = true) ∧ ((s.sched ↑p).next (s.knPort ↑p).last = some (k, i, at_)) ∧ (at_ ≤ s.gateDt ↑p) ∧ (s.on (F.KN_Pn_CTRL_GATE_EN ↑p) = true)) (9) (0) (1) (900) (kset (atDt ((runs 9).set [(F.TB_FLW_STAT_LOCK, 1)]) 900) 9 (fun r => { r with lastRel := 500 }))) ∧
    ((fun (p : Fin 10) (at_ : ℤ) (s : State) => (s.fieldLocked ↑p = true) ∧ (s.nextHr (↑p) 2 (s.hrFrom (↑p) (s.knPort ↑p).lastRel) = some at_) ∧ (at_ ≤ s.gateDt ↑p + ↑(s.rd (F.KN_Pn_REL_ADV ↑p)))) (9) (900) (kset (atDt ((runs 9).set [(F.TB_FLW_STAT_LOCK, 1)]) 900) 9 (fun r => { r with lastRel := 500 }))) ∧
    ((fun (n : Fin 8) (at_ : ℤ) (e : DWord) (s : State) => ((s.knPort (↑n + 2)).eff = true) ∧ ((s.planNext (↑n + 2) (max (s.knPort (↑n + 2)).lastSent (s.knPort (↑n + 2)).last) fun x => true) = some (at_, e)) ∧ (at_ ≤ ↑s.dt + 25000)) (7) (900) (0x02F000000258) (atDt (runs 9) 900)) ∧
    ((fun (p : Fin 10) (b : ℤ) (s : State) => ((s.knPort ↑p).startAt = some b) ∧ (b ≤ s.gateDt ↑p)) (9) (3) (kset (atDt ((runs 9).set [(F.TB_FLW_STAT_LOCK, 1)]) 1500) 9 (fun r => { r with running := false, startAt := some 3, fdQ := [(1500, 0xF0)] }))) ∧
    ((fun (p : Fin 10) (at_ : ℤ) (s : State) => (s.fieldLocked ↑p = true) ∧ (s.nextHr (↑p) 1 (s.hrFrom (↑p) (s.knPort ↑p).lastHold) = some at_) ∧ (at_ ≤ s.gateDt ↑p + ↑(s.rd (F.KN_Pn_HOLD_ADV ↑p))) ∧ ((s.lnPort ↑p).wire = none)) (9) (1500) (kset (atDt ((runs 9).set [(F.TB_FLW_STAT_LOCK, 1)]) 1500) 9 (fun r => { r with running := false, startAt := some 3, fdQ := [(1500, 0xF0)] }))) :=
  by decide

theorem test_GateEntriesAndFieldEvents_2 :
    ((fun (n : Fin 8) (at_ : ℤ) (g : ℕ) (rest : List (ℤ × ℕ)) (s : State) => ((s.knPort (↑n + 2)).fdQ = (at_, g) :: rest) ∧ (s.on F.TB_FLW_STAT_LOCK = true) ∧ (at_ ≤ ↑s.dt)) (7) (1500) (0xF0) ([]) (kset (atDt ((runs 9).set [(F.TB_FLW_STAT_LOCK, 1)]) 1500) 9 (fun r => { r with running := false, startAt := some 3, fdQ := [(1500, 0xF0)] }))) :=
  by decide

theorem test_StreamGatesAndWindow_1 :
    ((fun (m : ℕ) (g : BitVec 10) (s : State) => (s.accepts m 393472 permW) ∧ ((s.sg g.toNat).enabled = true)) (0) (1023) (sgS (fun r => { r with enabled := true, startAt := some 0 }))) ∧
    ((fun (m : ℕ) (g : BitVec 10) (s : State) => (s.accepts m 393472 permW) ∧ ((s.sg g.toNat).pending = false) ∧ (s.sgCode g.toNat = 0)) (0) (1023) (sgS (fun r => { r with enabled := true, startAt := some 0 }))) ∧
    ((fun (m : ℕ) (g : BitVec 10) (s : State) => (s.accepts m 393472 permW) ∧ (¬((s.sg g.toNat).pending = true ∧ ↑s.dt < (s.sg g.toNat).cct - 1000))) (0) (1023) (sgS (fun r => { r with enabled := true, startAt := some 0 }))) ∧
    ((fun (g : BitVec 10) (b : ℤ) (s : State) => (s.on F.KN_CTRL_SG_EN = true) ∧ ((s.sg g.toNat).enabled = true) ∧ ((s.sg g.toNat).startAt = some b) ∧ (s.kn.sgAt = none) ∧ (b ≤ ↑s.dt) ∧ (↑s.dt ≤ b + 2)) (1023) (0) (sgS (fun r => { r with enabled := true, startAt := some 0 }))) ∧
    ((fun (m : ℕ) (g : BitVec 10) (s : State) => (s.accepts m 393472 permW) ∧ ((s.sg g.toNat).enabled = false)) (0) (5) (sgS (fun r => { r with enabled := true, startAt := some 0 }))) ∧
    ((fun (m : ℕ) (g : BitVec 10) (s : State) => (s.accepts m 393472 permW) ∧ ((s.sg g.toNat).pending = false) ∧ (s.sgCode g.toNat ≠ 0)) (0) (5) (sgS (fun r => { r with enabled := true, startAt := some 0 }))) :=
  by decide

theorem test_StreamGatesAndWindow_2 :
    ((fun (m : ℕ) (g : BitVec 10) (s : State) => (s.accepts m 393472 permW) ∧ ((s.sg g.toNat).pending = true)) (0) (1023) ((sgS (fun r => { r with pending := true, running := true, enabled := true, cct := 1001, startAt := some 3 })).set [(F.KN_MADDR, 65535)])) ∧
    ((fun (m : ℕ) (g : BitVec 10) (s : State) => (s.accepts m 393472 permW) ∧ ((s.sg g.toNat).pending = true) ∧ (↑s.dt < (s.sg g.toNat).cct - 1000)) (0) (1023) ((sgS (fun r => { r with pending := true, running := true, enabled := true, cct := 1001, startAt := some 3 })).set [(F.KN_MADDR, 65535)])) ∧
    ((fun (m : ℕ) (hi : Word) (s : State) => (s.accepts m 393244 permW) ∧ (s.rd F.KN_MSEL = 2) ∧ (s.poolUsed (s.rd F.KN_MADDR) = false)) (0) (0xFFFFFFFF) ((sgS (fun r => { r with pending := true, running := true, enabled := true, cct := 1001, startAt := some 3 })).set [(F.KN_MADDR, 65535)])) ∧
    ((fun (g : BitVec 10) (s : State) => ((s.sg g.toNat).pending = true) ∧ ((s.sg g.toNat).cct ≤ ↑s.dt)) (1023) ((sgS (fun r => { r with pending := true, enabled := true, cct := 0, startAt := some 0 })))) ∧
    ((fun (g : BitVec 10) (b : ℤ) (s : State) => (s.on F.KN_CTRL_SG_EN = true) ∧ ((s.sg g.toNat).enabled = true) ∧ ((s.sg g.toNat).startAt = some b) ∧ (s.kn.sgAt = none) ∧ (b ≤ ↑s.dt) ∧ (b + 2 < ↑s.dt)) (1023) (0) (atDt (sgS (fun r => { r with pending := true, enabled := true, cct := 0, startAt := some 0 })) 3)) :=
  by decide

theorem test_TimedActions_1 :
    ((fun (m : ℕ) (s : State) => (s.accepts m 393312 permW) ∧ (let u : Ta := s.taStaged m; (u.kind = 0 ∨ u.kind = 1 ∧ u.addr % 4 ≠ 0 ∨ 0 < u.period ∧ u.period < 1000))) (0) (St [])) ∧
    ((fun (m : ℕ) (s : State) (i : BitVec 12) => (s.accepts m 393312 permW) ∧ (s.ta i.toNat = none)) (0) (St []) (0)) ∧
    ((fun (m : ℕ) (s : State) (i : BitVec 12) (u : Ta) => (s.accepts m 393312 permW) ∧ (s.ta i.toNat = some u) ∧ (u.owner = m ∨ m = 0) ∧ (u.queue = none)) (0) (taS (St [(F.AC_TBL_t_w 2 4, 0xF), (F.KN_TA_CTRL_KIND 0, 2)]) taU) (0) (taU)) ∧
    ((fun (i : ℕ) (u : Ta) (s : State) => (s.on F.KN_CTRL_TA_EN = true) ∧ (s.inReset 6 = false) ∧ (s.taNext = some (i, u)) ∧ (u.kind = 2) ∧ (u.queue = none) ∧ (s.ta i = some u) ∧ (u.period = 0) ∧ (s.taLate u = false) ∧ (s.may 2 u.owner permW = true)) (0) (taU) (taS (St [(F.AC_TBL_t_w 2 4, 0xF), (F.KN_TA_CTRL_KIND 0, 2)]) taU)) ∧
    ((fun (n : ℕ) (at_ : ℕ) (level : Bool) (rest : List (ℕ × Bool × ℕ)) (s : State) => (s.kn.edges = (n, level, at_) :: rest) ∧ (at_ ≤ s.dt + 2) ∧ (n < 4)) (3) (0) (true) ([]) (taS (St [(F.AC_TBL_t_w 2 4, 0xF), (F.KN_TA_CTRL_KIND 0, 2)]) taU)) ∧
    ((fun (m : ℕ) (s : State) (i : ℕ) => (s.accepts m 393312 permW) ∧ (let u : Ta := s.taStaged m; (¬(u.kind = 0 ∨ u.kind = 1 ∧ u.addr % 4 ≠ 0 ∨ 0 < u.period ∧ u.period < 1000)) ∧ (s.taFree = some i))) (0) (taS (St [(F.AC_TBL_t_w 2 4, 0), (F.KN_TA_CTRL_KIND 0, 2)]) taU) (1)) :=
  by decide

theorem test_TimedActions_2 :
    ((fun (m : ℕ) (s : State) (i : BitVec 12) (u : Ta) => (s.accepts m 393312 permW) ∧ (s.ta i.toNat = some u) ∧ (u.owner ≠ m) ∧ (m ≠ 0)) (0x20) (taS (StP [(F.AC_TBL_t_w 2 4, 0), (F.KN_TA_CTRL_KIND 0x20, 2), (F.AC_TBL_t_w 6 4, 0xF)]) { taU with owner := 1 }) (0) ({ taU with owner := 1 })) ∧
    ((fun (i : ℕ) (u : Ta) (s : State) => (s.on F.KN_CTRL_TA_EN = true) ∧ (s.inReset 6 = false) ∧ (s.taNext = some (i, u)) ∧ (u.kind = 2) ∧ (u.queue = none) ∧ (s.ta i = some u) ∧ (u.period = 0) ∧ (s.taLate u = false) ∧ (s.may 2 u.owner permW = false)) (0) ({ taU with owner := 1 }) (taS (StP [(F.AC_TBL_t_w 2 4, 0), (F.KN_TA_CTRL_KIND 0x20, 2), (F.AC_TBL_t_w 6 4, 0xF)]) { taU with owner := 1 })) :=
  by decide

theorem test_TimedActions_3 :
    ((fun (m : ℕ) (s : State) => (s.accepts m 393312 permW) ∧ (let u : Ta := s.taStaged m; (¬(u.kind = 0 ∨ u.kind = 1 ∧ u.addr % 4 ≠ 0 ∨ 0 < u.period ∧ u.period < 1000)) ∧ (s.taFree = none))) (0) (let s := St [(F.KN_TA_CTRL_KIND 0, 2)]; { s with kn := { s.kn with tas := taFull } })) :=
  ⟨by decide, by decide, taFull_free _ rfl⟩

theorem test_LifeOfAWorkItem :
    ((fun (i : ℕ) (it : Item) (s : State) (d : ℕ) => (s.item i = some it) ∧ (it.st = ItemSt.wait) ∧ (s.on F.LN_CTRL_EN = true) ∧ (it.src ≠ 1027) ∧ (it.dtl = some d) ∧ (it.chain = none) ∧ (d ≤ s.wireDt it.port + if 2 ≤ it.port then 50000 else 200)) (0) ({ it0 with st := .wait, dtl := some 200 }) (lnS (St upS) [(0, some { it0 with st := .wait, dtl := some 200 })]) (200)) ∧
    ((fun (i : ℕ) (it : Item) (s : State) (d : ℕ) => (s.item i = some it) ∧ (it.st = ItemSt.wait) ∧ (s.on F.LN_CTRL_EN = true) ∧ (it.src ≠ 1027) ∧ (it.dtl = some d) ∧ (it.chain = none) ∧ (it.due = false) ∧ ((s.wireDt it.port + if 2 ≤ it.port then 50000 else 200) < d)) (0) ({ it0 with st := .wait, dtl := some 201 }) (lnS (St upS) [(0, some { it0 with st := .wait, dtl := some 201 })]) (201)) ∧
    ((fun (i : ℕ) (it : Item) (s : State) => (s.item i = some it) ∧ (it.st = ItemSt.fetch) ∧ (it.chain = none) ∧ (it.src ≠ 1027) ∧ (it.lso = none) ∧ (it.arriving = false) ∧ (s.frameLen it ≤ s.maxFrame it.port)) (0) ({ it0 with st := .fetch }) (lnS (St upS) [(0, some { it0 with st := .fetch })])) ∧
    ((fun (i : ℕ) (it : Item) (s : State) => (s.item i = some it) ∧ (it.st = ItemSt.fetch) ∧ (it.chain = none) ∧ (it.src ≠ 1027) ∧ (it.lso = none) ∧ (it.arriving = false) ∧ (s.maxFrame it.port < s.frameLen it) ∧ (it.job = none)) (0) ({ it0 with st := .fetch, data := List.replicate 1515 0 }) (lnS (St upS) [(0, some { it0 with st := .fetch, data := List.replicate 1515 0 })])) ∧
    ((fun (i : ℕ) (it : Item) (s : State) (d : ℕ) => (s.item i = some it) ∧ (it.dtl = some d) ∧ (it.seg = 0) ∧ (it.st = ItemSt.ready) ∧ (it.late = false) ∧ (it.due = false) ∧ (it.port < 2) ∧ (d + 2 < s.wireDt it.port) ∧ (it.lateDisc = false)) (0) ({ it0 with st := .ready, dtl := some 0 }) ({ (lnS (St upS) [(0, some { it0 with st := .ready, dtl := some 0 })]) with tb := { Tb.reset with dt := 3 } }) (0)) ∧
    ((fun (i : ℕ) (it : Item) (s : State) (d : ℕ) => (s.item i = some it) ∧ (it.dtl = some d) ∧ (it.seg = 0) ∧ (it.st = ItemSt.ready) ∧ (it.late = false) ∧ (it.due = false) ∧ (it.port < 2) ∧ (d + 2 < s.wireDt it.port) ∧ (it.lateDisc = true) ∧ (it.chain = none) ∧ (it.job = none)) (0) ({ it0 with st := .ready, dtl := some 0, lateDisc := true }) ({ (lnS (St upS) [(0, some { it0 with st := .ready, dtl := some 0, lateDisc := true })]) with tb := { Tb.reset with dt := 3 } }) (0)) :=
  by decide

theorem test_FramesOnTheWire :
    ((fun (p : Fin 10) (i : ℕ) (it : Item) (s : State) => (s.on F.LN_CTRL_EN = true) ∧ (s.txUp ↑p = true) ∧ ((s.lnPort ↑p).wire = none) ∧ ((s.lnPort ↑p).free ≤ s.now10) ∧ (s.ln.items = [(i, some it)]) ∧ (it.st = ItemSt.ready) ∧ (it.port = ↑p) ∧ (it.dtl = none) ∧ (it.lso = none) ∧ (it.handle = none) ∧ (it.pass = none) ∧ (it.arriving = false) ∧ (it.tagged = false) ∧ (it.job = none) ∧ (it.src ≠ 1024) ∧ (it.cls < 8) ∧ ((s.knPort ↑p).eff = false) ∧ (s.on (F.LN_Pn_CTRL_GUARD_EN ↑p) = false) ∧ (s.on (F.LN_Pn_MM_STATUS_HOLD_ACTIVE ↑p) = false) ∧ (s.ltOn = false)) (1) (0) (it0) (lnS (St upS) [(0, some it0)])) ∧
    ((fun (p : Fin 10) (i : ℕ) (stop : ℕ) (start : ℕ) (it : Item) (s : State) => ((s.lnPort ↑p).wire = some { item := some i, respond := false, start := start, stop := some stop, cut := none }) ∧ (stop ≤ s.now10) ∧ (s.item i = some it) ∧ (it.port = ↑p) ∧ (it.cutOnce = false) ∧ (it.bad = false) ∧ (it.lso = none) ∧ (it.job = none) ∧ (it.chain = none) ∧ (it.handle = none) ∧ (s.loops ↑p = false)) (1) (0) (5) (0) ({ it0 with st := .wire, out := [1, 2] }) (lnp (atMono (lnS (St upS) [(0, some { it0 with st := .wire, out := [1, 2] })]) 1) 1 (fun r => { r with wire := some ⟨some 0, false, 0, some 5, none⟩ }))) ∧
    ((fun (p : Fin 10) (i : ℕ) (d : ℕ) (it : Item) (s : State) => (s.on F.LN_CTRL_EN = true) ∧ (s.txUp ↑p = false) ∧ (s.ln.items = [(i, some it)]) ∧ (it.port = ↑p) ∧ (it.st = ItemSt.ready) ∧ (it.dtl = some d) ∧ (d ≤ s.wireDt ↑p) ∧ (it.job = none) ∧ (it.chain = none)) (9) (0) (0) ({ it0 with port := 9, dtl := some 0 }) (lnS (St [(F.LN_CTRL_EN, 1), (F.LN_Pn_ABORT 9, 0xFFFFFFFF)]) [(0, some { it0 with port := 9, dtl := some 0 })])) :=
  by decide

theorem test_PreemptionAndFragments_1 :
    ((fun (p : Fin 10) (s : State) => (s.rd (F.LN_Pn_MM_STATUS_VERIFY_STATE ↑p) = 2) ∧ (0 < (s.lnPort ↑p).sentV) ∧ ((s.lnPort ↑p).pendV = false) ∧ ((s.lnPort ↑p).atV + max 1 (min 128 (s.rd (F.LN_Pn_VERIFY_VERIFY_TIME ↑p))) * 1000000 ≤ s.tb.mono)) (1) (lnp (atMono (St upS) 10000000) 1 (fun r => { r with sentV := 2 }) |>.set [(F.LN_Pn_MM_STATUS_VERIFY_STATE 1, 2), (F.LN_Pn_CTRL_PREEMPT_EN 1, 1)])) ∧
    ((fun (p : Fin 10) (s : State) => (s.linkUp ↑p = true) ∧ (s.loops ↑p = false) ∧ (s.rd (F.LN_Pn_MM_STATUS_VERIFY_STATE ↑p) = 2) ∧ (s.on (F.LN_Pn_CTRL_TX_EN ↑p) = true) ∧ (s.on (F.LN_Pn_CTRL_PREEMPT_EN ↑p) = true)) (1) (lnp (atMono (St upS) 10000000) 1 (fun r => { r with sentV := 2 }) |>.set [(F.LN_Pn_MM_STATUS_VERIFY_STATE 1, 2), (F.LN_Pn_CTRL_PREEMPT_EN 1, 1)])) ∧
    ((fun (p : Fin 10) (s : State) => (s.linkUp ↑p = true) ∧ (s.loops ↑p = false) ∧ (s.rd (F.LN_Pn_MM_STATUS_VERIFY_STATE ↑p) ≠ 0)) (1) (lnp (atMono (St upS) 10000000) 1 (fun r => { r with sentV := 2 }) |>.set [(F.LN_Pn_MM_STATUS_VERIFY_STATE 1, 2), (F.LN_Pn_CTRL_PREEMPT_EN 1, 1)])) ∧
    ((fun (p : Fin 10) (s : State) (data : List Byte) (ago : ℕ) => (s.linkUp ↑p = true) ∧ (s.loops ↑p = false) ∧ ((s.lnPort ↑p).asm = none) ∧ (64 ≤ data.length) ∧ (List.drop (data.length - 4) data = mcrc (List.take (data.length - 4) data))) (1) (lnp (atMono (St upS) 10000000) 1 (fun r => { r with sentV := 2 }) |>.set [(F.LN_Pn_MM_STATUS_VERIFY_STATE 1, 2), (F.LN_Pn_CTRL_PREEMPT_EN 1, 1)]) (List.replicate 60 (0 : Byte) ++ mcrc (List.replicate 60 0)) (0)) ∧
    ((fun (p : Fin 10) (s : State) (n : ℕ) (data : List Byte) (sofar : List Byte) (next : ℕ) (ago : ℕ) => (s.linkUp ↑p = true) ∧ (s.loops ↑p = false) ∧ ((s.lnPort ↑p).asm = some (sofar, next)) ∧ (n ≠ next) ∧ (s.rxOf (rxSlot (↑p) true) = none)) (1) (lnp (atMono (St upS) 10000000) 1 (fun r => { r with sentV := 3, pendR := true, asm := some ([1], 0) }) |>.set [(F.LN_Pn_MM_STATUS_VERIFY_STATE 1, 2)]) (3) ([1]) ([1]) (0) (0)) ∧
    ((fun (p : Fin 10) (s : State) => (s.mpacketFits ↑p = true) ∧ ((s.lnPort ↑p).pendR = true)) (1) (lnp (atMono (St upS) 10000000) 1 (fun r => { r with sentV := 3, pendR := true, asm := some ([1], 0) }) |>.set [(F.LN_Pn_MM_STATUS_VERIFY_STATE 1, 2)])) :=
  by decide

theorem test_PreemptionAndFragments_2 :
    ((fun (p : Fin 10) (s : State) => (s.mpacketFits ↑p = true) ∧ ((s.lnPort ↑p).pendR = false) ∧ ((s.lnPort ↑p).pendV = true)) (1) (lnp (atMono (St upS) 10000000) 1 (fun r => { r with sentV := 3, pendV := true, asm := some ([1], 0) }) |>.set [(F.LN_Pn_MM_STATUS_VERIFY_STATE 1, 4)])) ∧
    ((fun (m : ℕ) (p : Fin 10) (s : State) => (s.accepts m (459776 + 128 * ↑p) permW) ∧ (s.rd (F.LN_Pn_MM_STATUS_VERIFY_STATE ↑p) = 4)) (0) (1) (lnp (atMono (St upS) 10000000) 1 (fun r => { r with sentV := 3, pendV := true, asm := some ([1], 0) }) |>.set [(F.LN_Pn_MM_STATUS_VERIFY_STATE 1, 4)])) :=
  by decide

theorem test_ShapersAndTheWheel :
    ((fun (s : State) => (s.lt.slot ≠ s.dt / 32 + 1)) (shpS [(5, ⟨0, 0, some 16383, 2⟩), (6, ⟨0, 0, some 5, 1⟩)])) ∧
    ((fun (p : Fin 10) (c : Fin 8) (s : State) => (0 ≤ s.credit ↑p ↑c)) (9) (7) (shpS [(5, ⟨0, 0, some 16383, 2⟩), (6, ⟨0, 0, some 5, 1⟩)])) ∧
    ((fun (m : ℕ) (hi : Word) (s : State) => (s.accepts m 655388 permW) ∧ (s.on F.LT_STATUS_WIPING = false) ∧ (s.rd F.LT_MSEL = 0) ∧ (s.rd F.LT_MADDR % 4 < 3)) (0) (0xFFFFFFFF) (shpS [(5, ⟨0, 0, some 16383, 2⟩), (6, ⟨0, 0, some 5, 1⟩)])) ∧
    ((fun (m : ℕ) (hi : Word) (s : State) => (s.accepts m 655388 permW) ∧ (s.on F.LT_STATUS_WIPING = false) ∧ (s.rd F.LT_MSEL = 1) ∧ (s.rd F.LT_MADDR < 1024)) (0) (0xFFFFFFFF) ((shpS ((List.range 40).map fun i => (i, ⟨0, 0, some i, 1⟩))).set [(F.LT_MSEL, 1), (F.LT_MADDR, 1023)])) ∧
    ((fun (m : ℕ) (hi : Word) (s : State) => (s.accepts m 655388 permW) ∧ (s.on F.LT_STATUS_WIPING = false) ∧ (s.rd F.LT_MSEL = 2) ∧ (16 ≤ s.rd F.LT_MADDR)) (0) (0xFFFFFFFF) ((shpS []).set [(F.LT_MSEL, 2), (F.LT_MADDR, 16)])) :=
  by decide

theorem test_PausesOfClassesAndQueues_1 :
    ((fun (p : Fin 10) (quanta : BitVec 16) (s : State) => (2 ≤ ↑p ∨ s.on F.LT_CTRL_PAUSE_EN = false ∨ s.on (F.LT_Pn_CTRL_PAUSE_RX_EN ↑p) = false)) (1) (0xFFFF) (St [(F.LT_STATUS_WIPING, 1)])) ∧
    ((fun (p : Fin 10) (quanta : BitVec 16) (s : State) (prio : Fin 8) (times : List (BitVec 16)) (enable : BitVec 8) => (2 ≤ ↑p ∨ s.on F.LT_CTRL_PAUSE_EN = false ∨ s.on (F.LT_Pn_CTRL_PFC_EN ↑p) = false)) (1) (0xFFFF) (St [(F.LT_STATUS_WIPING, 1)]) (7) ([1, 2, 3, 4, 5, 6, 7, 8]) (0x80)) ∧
    ((fun (m : ℕ) (q : BitVec 16) (us : BitVec 16) (s : State) => (s.accepts m 655392 permW) ∧ (s.on F.LT_STATUS_WIPING = true)) (0) (1023) (0) (St [(F.LT_STATUS_WIPING, 1)])) ∧
    ((fun (m : ℕ) (q : BitVec 16) (us : BitVec 16) (s : State) => (s.accepts m 920832 permW) ∧ (s.localSq m (q.toNat % 64) = none)) (0) (1023) (0) (St [(F.LT_STATUS_WIPING, 1)])) ∧
    ((fun (m : ℕ) (q : BitVec 16) (us : BitVec 16) (s : State) => (s.decodes m = true) ∧ (s.may 10 m permW = false)) (0x21) (63) (0xFFFE) (StP [(F.LT_STATUS_WIPING, 1), (F.AC_TBL_t_w 0xE 4, 0xF0), (F.AC_TBL_t_w 0xA 4, 0x00), (F.QE_SQ_OWNER_LOCAL 3, 63), (F.QE_SQ_OWNER_OWNER 3, 0x21)])) ∧
    ((fun (m : ℕ) (q : BitVec 16) (us : BitVec 16) (s : State) (g : ℕ) => (s.accepts m 920832 permW) ∧ (s.localSq m (q.toNat % 64) = some g) ∧ (s.on F.LT_STATUS_WIPING = true)) (0x21) (63) (0xFFFE) (StP [(F.LT_STATUS_WIPING, 1), (F.AC_TBL_t_w 0xE 4, 0xF0), (F.AC_TBL_t_w 0xA 4, 0x00), (F.QE_SQ_OWNER_LOCAL 3, 63), (F.QE_SQ_OWNER_OWNER 3, 0x21)]) (3)) :=
  by decide

theorem test_PausesOfClassesAndQueues_2 :
    ((fun (m : ℕ) (q : BitVec 16) (us : BitVec 16) (s : State) => (s.accepts m 655392 permW) ∧ (s.on F.LT_STATUS_WIPING = false)) (0) (1023) (0) (St [])) ∧
    ((fun (p : Fin 10) (quanta : BitVec 16) (s : State) (c : ℕ) => (↑p < 2) ∧ (s.on F.LT_CTRL_PAUSE_EN = true) ∧ (s.on (F.LT_Pn_CTRL_PAUSE_RX_EN ↑p) = true) ∧ (c < 8)) (1) (0xFFFF) ({ St [(F.LT_CTRL_PAUSE_EN, 1), (F.LT_Pn_CTRL_PAUSE_RX_EN 1, 1), (F.LT_Pn_CTRL_PFC_EN 1, 1), (F.LT_Pn_CTRL_PAUSABLE 1, 0x85), (F.LT_Pn_STATUS_PAUSED 1, 0x41)] with lt := { Lt.reset with pause := [(15, some 0)], qpause := [(1023, some (some 5))] } }) (7)) ∧
    ((fun (p : Fin 10) (quanta : BitVec 16) (s : State) (prio : Fin 8) (times : List (BitVec 16)) => (↑p < 2) ∧ (s.on F.LT_CTRL_PAUSE_EN = true) ∧ (s.on (F.LT_Pn_CTRL_PFC_EN ↑p) = true) ∧ (s.rd (F.LT_Pn_PAUSE_MAX ↑p) % 65536 = 0) ∧ (bits (s.rd (F.LT_Pn_CTRL_PAUSABLE ↑p)) (bits (s.rd (F.LT_Pn_PFC_MAP_MAP ↑p)) (3 * ↑prio) 3) 1 = 1)) (1) (0xFFFF) ({ St [(F.LT_CTRL_PAUSE_EN, 1), (F.LT_Pn_CTRL_PAUSE_RX_EN 1, 1), (F.LT_Pn_CTRL_PFC_EN 1, 1), (F.LT_Pn_CTRL_PAUSABLE 1, 0x85), (F.LT_Pn_STATUS_PAUSED 1, 0x41)] with lt := { Lt.reset with pause := [(15, some 0)], qpause := [(1023, some (some 5))] } }) (7) ([1, 2, 3, 4, 5, 6, 7, 8])) ∧
    ((fun (p : Fin 10) (c : Fin 8) (e : ℕ) (s : State) => (Sparse.get none s.lt.pause (↑p * 8 + ↑c) = some e) ∧ (e ≤ s.now10)) (1) (7) (0) ({ St [(F.LT_CTRL_PAUSE_EN, 1), (F.LT_Pn_CTRL_PAUSE_RX_EN 1, 1), (F.LT_Pn_CTRL_PFC_EN 1, 1), (F.LT_Pn_CTRL_PAUSABLE 1, 0x85), (F.LT_Pn_STATUS_PAUSED 1, 0x41), (F.LT_Pn_PAUSE_MAX 1, 1)] with lt := { Lt.reset with pause := [(15, some 0)], qpause := [(1023, some (some 0))] } })) ∧
    ((fun (q : BitVec 10) (e : ℕ) (s : State) => (Sparse.get none s.lt.qpause q.toNat = some (some e)) ∧ (e ≤ s.tb.mono)) (1023) (0) ({ St [(F.LT_CTRL_PAUSE_EN, 1), (F.LT_Pn_CTRL_PAUSE_RX_EN 1, 1), (F.LT_Pn_CTRL_PFC_EN 1, 1), (F.LT_Pn_CTRL_PAUSABLE 1, 0x85), (F.LT_Pn_STATUS_PAUSED 1, 0x41), (F.LT_Pn_PAUSE_MAX 1, 1)] with lt := { Lt.reset with pause := [(15, some 0)], qpause := [(1023, some (some 0))] } })) ∧
    ((fun (m : ℕ) (q : BitVec 16) (us : BitVec 16) (s : State) (g : ℕ) => (s.accepts m 920832 permW) ∧ (s.localSq m (q.toNat % 64) = some g) ∧ (s.on F.LT_STATUS_WIPING = false)) (0x21) (63) (0xFFFE) (StP [(F.AC_TBL_t_w 0xE 4, 0xF0), (F.AC_TBL_t_w 0xA 4, 0x00), (F.QE_SQ_OWNER_LOCAL 3, 63), (F.QE_SQ_OWNER_OWNER 3, 0x21)]) (3)) :=
  by decide

theorem test_WritesOfRegisters_1 :
    ((fun (m : ℕ) (v : DWord) (s : State) => (isVf m = false) ∧ (s.accepts m 1310912 permW)) (0) (0x80000000FFFFFFFF) ({ St [] with loHeld := [(0x20028, some 5)] })) ∧
    ((fun (m : ℕ) (v : DWord) (s : State) => (isVf m = false) ∧ (s.accepts m 131332 permW)) (0) (0x80000000FFFFFFFF) ({ St [] with loHeld := [(0x20028, some 5)] })) ∧
    ((fun (m : ℕ) (v : DWord) (s : State) => (isVf m = false) ∧ (s.accepts m 1179664 permW) ∧ (s.on F.TW_CTRL_EN = false)) (0) (0x80000000FFFFFFFF) ({ St [] with loHeld := [(0x20028, some 5)] })) ∧
    ((fun (m : ℕ) (v : DWord) (s : State) => (isVf m = false) ∧ (s.accepts m 1245192 permW) ∧ (bits (BitVec.toNat v) 31 1 = 1)) (0) (0x80000000FFFFFFFF) ({ St [] with loHeld := [(0x20028, some 5)] })) ∧
    ((fun (m : ℕ) (off : ℕ) (bytes : ℕ) (v : DWord) (s : State) => (isVf m = false) ∧ (s.takes m = true) ∧ (bytes = 1 ∨ bytes = 2 ∨ bytes = 3 ∨ bytes = 4 ∧ off % 4 ≠ 0) ∧ (s.on F.GC_ACC_ERR_VALID = false)) (0) (6) (4) (0x80000000FFFFFFFF) ({ St [] with loHeld := [(0x20028, some 5)] })) ∧
    ((fun (m : ℕ) (lo : Word) (hi : Word) (s : State) => (isVf m = false) ∧ (s.accepts m 131112 permW)) (0) (5) (7) ({ St [] with loHeld := [(0x20028, some 5)] })) :=
  by decide

theorem test_WritesOfRegisters_2 :
    ((fun (m : ℕ) (lo : Word) (hi : Word) (s : State) => (isVf m = false) ∧ (s.accepts m 131116 permW) ∧ (Sparse.get none s.loHeld (m * 2 ^ 24 + 131112) = some lo)) (0) (5) (7) ({ St [] with loHeld := [(0x20028, some 5)] })) ∧
    ((fun (m : ℕ) (n : Fin 8) (v : Word) (s : State) => (isVf m = false) ∧ (s.accepts m (328732 + 128 * ↑n) permW)) (0) (7) (0x80000000FFFFFFFF) ({ St [] with loHeld := [(0x20028, some 5)] })) ∧
    ((fun (v : Word) (off : ℕ) (s : State) => (s.crp.off = false) ∧ (s.rd F.AC_STATUS_DBG < 2)) (0x80000000FFFFFFFF) (6) ({ St [] with loHeld := [(0x20028, some 5)] })) ∧
    ((fun (m : ℕ) (v : DWord) (s : State) => (isVf m = false) ∧ (s.accepts m 1179664 permW) ∧ (s.on F.TW_CTRL_EN = true) ∧ (BitVec.toNat v % 2 ^ 32 = s.rd F.TW_PAIR_ID)) (0) (0x00000000) (St [(F.TW_CTRL_EN, 1), (F.GC_ACC_ERR_VALID, 1), (F.AC_STATUS_DBG, 2)])) ∧
    ((fun (m : ℕ) (off : ℕ) (bytes : ℕ) (v : DWord) (s : State) => (isVf m = false) ∧ (s.takes m = true) ∧ (bytes = 1 ∨ bytes = 2 ∨ bytes = 3 ∨ bytes = 4 ∧ off % 4 ≠ 0) ∧ (s.on F.GC_ACC_ERR_VALID = true) ∧ (List.find? (fun y => y.acc) s.crp.errNow = none)) (0) (6) (1) (0x00000000) (St [(F.TW_CTRL_EN, 1), (F.GC_ACC_ERR_VALID, 1), (F.AC_STATUS_DBG, 2)])) ∧
    ((fun (v : Word) (off : ℕ) (s : State) => (s.crp.off = false) ∧ (s.rd F.AC_STATUS_DBG = 2) ∧ (s.accepts 1 1310912 permW)) (0x00000000) (6) (St [(F.TW_CTRL_EN, 1), (F.GC_ACC_ERR_VALID, 1), (F.AC_STATUS_DBG, 2)])) :=
  by decide

theorem test_WritesOfRegisters_3 :
    ((fun (m : ℕ) (off : ℕ) (bytes : ℕ) (v : DWord) (s : State) (y : ErrRec) => (isVf m = false) ∧ (s.takes m = true) ∧ (bytes = 1 ∨ bytes = 2 ∨ bytes = 3 ∨ bytes = 4 ∧ off % 4 ≠ 0) ∧ (s.on F.GC_ACC_ERR_VALID = true) ∧ (List.find? (fun y => y.acc) s.crp.errNow = some y)) (0) (0x20028) (1) (0x00000001) ({ St [(F.GC_ACC_ERR_VALID, 1)] with crp := { Crp.reset with errNow := [⟨true, false, 0, 0x20, 7⟩] } }) (⟨true, false, 0, 0x20, 7⟩)) ∧
    ((fun (m : ℕ) (v : DWord) (s : State) => (isVf m = false) ∧ (s.accepts m 1179664 permW) ∧ (s.on F.TW_CTRL_EN = true) ∧ (BitVec.toNat v % 2 ^ 32 ≠ s.rd F.TW_PAIR_ID) ∧ (s.on F.GC_CFG_ERR_VALID = true) ∧ (List.find? (fun y => !y.acc) s.crp.errNow = none)) (0x20) (0x00000001) ({ StP [(F.GC_ACC_ERR_VALID, 1), (F.GC_CFG_ERR_VALID, 1), (F.TW_CTRL_EN, 1)] with crp := { Crp.reset with errNow := [⟨true, false, 0, 0, 7⟩] } })) ∧
    ((fun (m : ℕ) (v : DWord) (s : State) => (isVf m = false) ∧ (s.accepts m 1179664 permW) ∧ (s.on F.TW_CTRL_EN = true) ∧ (BitVec.toNat v % 2 ^ 32 ≠ s.rd F.TW_PAIR_ID) ∧ (s.on F.GC_CFG_ERR_VALID = false)) (0) (0x00000001) (St [(F.TW_CTRL_EN, 1), (F.GC_ACC_ERR_VALID, 1), (F.AC_STATUS_DBG, 1)])) :=
  by decide

theorem test_WritesOfRegisters_4 :
    ((fun (m : ℕ) (off : ℕ) (v : DWord) (s : State) (t : State) => (s.takes m = true) ∧ (off % 8 = 0) ∧ (exec (Instr.registerWrite m off 4 v) s = Host.Outcome.next t) ∧ (t.takes m = true)) (0) (0x20028) (0x00000001) (St [(F.TW_CTRL_EN, 1), (F.GC_ACC_ERR_VALID, 1), (F.AC_STATUS_DBG, 1)]) ({ St [(F.TW_CTRL_EN, 1), (F.GC_ACC_ERR_VALID, 1), (F.AC_STATUS_DBG, 1)] with loHeld := [(0x20028, some 1)] })) :=
  ⟨by decide, by decide, rfl, by decide⟩

theorem test_ReadsOfRegisters_1 :
    ((fun (m : ℕ) (s : State) => (isVf m = false) ∧ (s.gives m 131216) ∧ (Sparse.get none s.latched (m * 2 ^ 24 + 131216) = none)) (0) ({ St [(F.KN_MSEL, 2), (F.KN_MADDR, 65535), (F.TB_HOLD_NS_HI, 7)] with latched := [(0x20094, some 9), (0x6001C, some 9)], kn := { Kn.reset with pool := [(65535, 0x1234567890)] } })) ∧
    ((fun (m : ℕ) (s : State) (w : Word) => (isVf m = false) ∧ (s.gives m 131220) ∧ (Sparse.get none s.latched (m * 2 ^ 24 + 131220) = some w)) (0) ({ St [(F.KN_MSEL, 2), (F.KN_MADDR, 65535), (F.TB_HOLD_NS_HI, 7)] with latched := [(0x20094, some 9), (0x6001C, some 9)], kn := { Kn.reset with pool := [(65535, 0x1234567890)] } }) (9)) ∧
    ((fun (m : ℕ) (s : State) => (isVf m = false) ∧ (s.gives m 1048704) ∧ (Sparse.get none s.latched (m * 2 ^ 24 + 1048704) = none)) (0) ({ St [(F.KN_MSEL, 2), (F.KN_MADDR, 65535), (F.TB_HOLD_NS_HI, 7)] with latched := [(0x20094, some 9), (0x6001C, some 9)], kn := { Kn.reset with pool := [(65535, 0x1234567890)] } })) ∧
    ((fun (m : ℕ) (s : State) => (isVf m = false) ∧ (s.gives m 393240) ∧ (s.rd F.KN_MSEL = 2)) (0) ({ St [(F.KN_MSEL, 2), (F.KN_MADDR, 65535), (F.TB_HOLD_NS_HI, 7)] with latched := [(0x20094, some 9), (0x6001C, some 9)], kn := { Kn.reset with pool := [(65535, 0x1234567890)] } })) ∧
    ((fun (m : ℕ) (s : State) (w : Word) => (isVf m = false) ∧ (s.gives m 393244) ∧ (Sparse.get none s.latched (m * 2 ^ 24 + 393244) = some w)) (0) ({ St [(F.KN_MSEL, 2), (F.KN_MADDR, 65535), (F.TB_HOLD_NS_HI, 7)] with latched := [(0x20094, some 9), (0x6001C, some 9)], kn := { Kn.reset with pool := [(65535, 0x1234567890)] } }) (9)) ∧
    ((fun (off : ℕ) (s : State) => (s.crp.off = false) ∧ (s.rd F.AC_STATUS_DBG = 0)) (0) ({ St [(F.KN_MSEL, 2), (F.KN_MADDR, 65535), (F.TB_HOLD_NS_HI, 7)] with latched := [(0x20094, some 9), (0x6001C, some 9)], kn := { Kn.reset with pool := [(65535, 0x1234567890)] } })) :=
  by decide

theorem test_ReadsOfRegisters_2 :
    ((fun (m : ℕ) (s : State) => (s.accepts m 64 permW) ∧ (s.may 0 m permADM = true)) (0) ({ St [(F.KN_MSEL, 2), (F.KN_MADDR, 65535), (F.TB_HOLD_NS_HI, 7)] with latched := [(0x20094, some 9), (0x6001C, some 9)], kn := { Kn.reset with pool := [(65535, 0x1234567890)] } })) ∧
    ((fun (off : ℕ) (s : State) => (s.crp.off = false) ∧ (1 ≤ s.rd F.AC_STATUS_DBG) ∧ (s.gives 1 1310912) ∧ (Sparse.get none s.latched (2 ^ 24 + 1310912) = none)) (0) (St [(F.AC_STATUS_DBG, 1)])) ∧
    ((fun (m : ℕ) (s : State) => (isVf m = false) ∧ (s.decodes m = true) ∧ (s.may 20 m permR = false)) (1) (St [(F.AC_STATUS_DBG, 0), (F.MB_POSTS, 7)])) ∧
    ((fun (m : ℕ) (s : State) => (s.accepts m 64 permW) ∧ (s.may 0 m permADM = false)) (0x20) (StP [(F.AC_TBL_t_w 0 4, 2)])) :=
  by decide

theorem test_PointWritesAndTheWindow_1 :
    ((fun (slot : ℕ) (enables : ℕ) (v : DWord) (s : State) => (s.decodes 32 = true) ∧ (slot < 131072) ∧ (512 ≤ s.gy.qWin.length)) (3) (255) (77) (gyS (StP []) fun _ => { g0 with qWin := List.replicate 512 pw0 })) ∧
    ((fun (g : Gy) (w : PWrite) (l : List PWrite) (op : HostOp) (h : List HostOp) => (g.qTa = w :: l)) ({ g0 with qTa := [pw0] }) (pw0) ([]) (.write pw0) ([])) ∧
    ((fun (g : Gy) (w : PWrite) (l : List PWrite) (op : HostOp) (h : List HostOp) => (g.qTa = []) ∧ (g.qExt = w :: l)) ({ g0 with qExt := [pw0, pw0] }) (pw0) ([pw0]) (.write pw0) ([])) ∧
    ((fun (g : Gy) (w : PWrite) (l : List PWrite) (op : HostOp) (h : List HostOp) => (g.qTa = []) ∧ (g.qExt = []) ∧ (g.qMir = w :: l)) ({ g0 with qMir := [pw0] }) (pw0) ([]) (.write pw0) ([])) ∧
    ((fun (slot : ℕ) (enables : ℕ) (v : DWord) (s : State) => (s.decodes 32 = true) ∧ (slot < 131072) ∧ (s.gy.qWin.length < 512) ∧ (s.may 13 32 permW = true) ∧ (s.on F.GY_CTRL_WIN_EN = false ∨ s.on F.GY_STATUS_WIPING = true ∨ enables % 256 ≠ 255 ∨ bits (BitVec.toNat (Sparse.get 0 s.gy.wmap slot)) 31 1 = 0)) (131071) (255) (77) (StP [(F.AC_TBL_t_w 13 4, 0xF)])) ∧
    ((fun (g : Gy) (w : PWrite) (l : List PWrite) (op : HostOp) (h : List HostOp) => (g.qTa = []) ∧ (g.qExt = []) ∧ (g.qMir = []) ∧ (g.qWin = w :: l)) ({ g0 with qWin := [pw0] }) (pw0) ([]) (.write pw0) ([])) :=
  by decide

theorem test_PointWritesAndTheWindow_2 :
    ((fun (slot : ℕ) (enables : ℕ) (v : DWord) (s : State) => (s.decodes 32 = true) ∧ (slot < 131072) ∧ (s.gy.qWin.length < 512) ∧ (s.may 13 32 permW = true) ∧ (s.on F.GY_CTRL_WIN_EN = true) ∧ (s.on F.GY_STATUS_WIPING = false) ∧ (enables % 256 = 255) ∧ (bits (BitVec.toNat (Sparse.get 0 s.gy.wmap slot)) 31 1 = 1)) (131071) (255) (77) (gyS (StP [(F.AC_TBL_t_w 13 4, 0xF), (F.GY_CTRL_EN, 1), (F.GY_CTRL_WIN_EN, 1)]) fun _ => { g0 with wmap := [(131071, 0x80000007)] })) ∧
    ((fun (slot : ℕ) (enables : ℕ) (v : DWord) (s : State) (r : Point) => (s.decodes 32 = true) ∧ (slot < 131072) ∧ (s.may 13 32 permR = true) ∧ (s.on F.GY_CTRL_EN = true) ∧ (s.on F.GY_STATUS_WIPING = false) ∧ (bits (BitVec.toNat (Sparse.get 0 s.gy.wmap slot)) 31 1 = 1) ∧ (s.point (bits (BitVec.toNat (Sparse.get 0 s.gy.wmap slot)) 0 23) = some r)) (131071) (255) (77) (gyS (StP [(F.AC_TBL_t_w 13 4, 0xF), (F.GY_CTRL_EN, 1), (F.GY_CTRL_WIN_EN, 1)]) fun _ => { g0 with wmap := [(131071, 0x80000007)] }) (pt0)) ∧
    ((fun (g : Gy) (w : PWrite) (l : List PWrite) (op : HostOp) (h : List HostOp) => (g.qTa = []) ∧ (g.qExt = []) ∧ (g.qMir = []) ∧ (g.qWin = []) ∧ (g.qHost = op :: h)) ({ g0 with qHost := [.write pw0] }) (pw0) ([]) (.write pw0) ([])) ∧
    ((fun (w : PWrite) (g : Gy) (p : ℕ) (s : State) (r : Point) => (s.slotsDue.gy.next = some (HostOp.write w, g)) ∧ ((g.moves.any fun x => x.point == w.point) = false) ∧ (w.job = none) ∧ (let u : State := s.slotsDue; (u.on F.GY_CTRL_EN = true) ∧ (w.mode ≤ 4) ∧ (Sparse.get none g.points w.point = some r) ∧ (r.force = false ∨ w.mode = 2) ∧ (w.mode ≠ 3) ∧ (w.mono = false ∧ w.mode ≠ 1 ∨ BitVec.toNat r.upd ≤ BitVec.toNat (w.upd.getD u.tb.dt)) ∧ (r.mirror = false) ∧ (u.on F.GY_CTRL_NOTIFY_EN = false) ∧ (p ≠ w.point))) (pw0) (g0) (8) (gyS (StP [(F.GY_CTRL_EN, 1)]) fun _ => { g0 with qHost := [.write pw0] }) (pt0)) ∧
    ((fun (w : PWrite) (g : Gy) (p : ℕ) (s : State) => (s.slotsDue.gy.next = some (HostOp.write w, g)) ∧ ((g.moves.any fun x => x.point == w.point) = false) ∧ (w.job = none) ∧ (let u : State := s.slotsDue; (u.on F.GY_CTRL_EN = false) ∧ (w.mode ≤ 5))) (pw0) (g0) (8) (gyS (StP [(F.GY_CTRL_EN, 0)]) fun _ => { g0 with qHost := [.write pw0] })) ∧
    ((fun (w : PWrite) (g : Gy) (p : ℕ) (s : State) => (s.slotsDue.gy.next = some (HostOp.write w, g)) ∧ ((g.moves.any fun x => x.point == w.point) = false) ∧ (w.job = none) ∧ (5 < w.mode)) ({ pw0 with mode := 6 }) (g0) (8) (gyS (StP [(F.GY_CTRL_EN, 0)]) fun _ => { g0 with qHost := [.write { pw0 with mode := 6 }] })) :=
  by decide

theorem test_PointWritesAndTheWindow_3 :
    ((fun (w : PWrite) (g : Gy) (p : ℕ) (s : State) => (s.slotsDue.gy.next = some (HostOp.write w, g)) ∧ ((g.moves.any fun x => x.point == w.point) = false) ∧ (w.job = none) ∧ (let u : State := s.slotsDue; (u.on F.GY_CTRL_EN = true) ∧ (w.mode ≤ 4) ∧ (Sparse.get none g.points w.point = none))) ({ pw0 with point := 8 }) (g0) (8) (gyS (StP [(F.GY_CTRL_EN, 1)]) fun _ => { g0 with qHost := [.write { pw0 with point := 8 }] })) ∧
    ((fun (w : PWrite) (g : Gy) (p : ℕ) (s : State) (r : Point) => (s.slotsDue.gy.next = some (HostOp.write w, g)) ∧ ((g.moves.any fun x => x.point == w.point) = false) ∧ (w.job = none) ∧ (let u : State := s.slotsDue; (u.on F.GY_CTRL_EN = true) ∧ (w.mode ≤ 4) ∧ (Sparse.get none g.points w.point = some r) ∧ (r.force = false ∨ w.mode = 2 ∨ w.mode = 3) ∧ (w.mono = true ∨ w.mode = 1) ∧ (BitVec.toNat (w.upd.getD u.tb.dt) < BitVec.toNat r.upd))) ({ pw0 with mode := 1 }) (g0) (8) (gyS (StP [(F.GY_CTRL_EN, 1)]) fun _ => { g0 with qHost := [.write { pw0 with mode := 1 }] }) (pt0)) ∧
    ((fun (w : PWrite) (g : Gy) (p : ℕ) (s : State) (r : Point) => (s.slotsDue.gy.next = some (HostOp.write w, g)) ∧ ((g.moves.any fun x => x.point == w.point) = false) ∧ (w.job = none) ∧ (let u : State := s.slotsDue; (u.on F.GY_CTRL_EN = true) ∧ (w.mode ≤ 4) ∧ (Sparse.get none g.points w.point = some r) ∧ (r.force = true) ∧ (w.mode ≠ 2) ∧ (w.mode ≠ 3))) (pw0) ({ g0 with points := [(7, some { pt0 with upd := 0, force := true })] }) (8) (gyS (StP [(F.GY_CTRL_EN, 1), (F.TB_EPOCH, 3)]) fun _ => { g0 with points := [(7, some { pt0 with upd := 0, force := true })], qHost := [.write pw0] }) ({ pt0 with upd := 0, force := true })) :=
  by decide

theorem test_PointConfiguration_1 :
    ((fun (m : ℕ) (s : State) => (s.accepts m 852008 permW) ∧ (s.on F.GY_STATUS_WIPING = true)) (0) (St [(F.GY_STATUS_WIPING, 1)])) ∧
    ((fun (m : ℕ) (s : State) => (s.accepts m 852008 permW) ∧ (let p : ℕ := s.rd (F.GY_PCFG_ID_POINT m); (let pin : ℕ := s.rd (F.GY_PCFG_VAL_PIN m); (s.on F.GY_STATUS_WIPING = false) ∧ (s.point p = none) ∧ (pin = 1) ∧ (131072 ≤ s.rd F.GY_PINNED_PINNED)))) (0) (St [(F.GY_PCFG_VAL_PIN 0, 1), (F.GY_PINNED_PINNED, 131072)])) ∧
    ((fun (m : ℕ) (s : State) => (s.accepts m 852008 permW) ∧ (let p : ℕ := s.rd (F.GY_PCFG_ID_POINT m); (let pin : ℕ := s.rd (F.GY_PCFG_VAL_PIN m); (s.on F.GY_STATUS_WIPING = false) ∧ (s.point p = none) ∧ (pin ≠ 1 ∨ s.rd F.GY_PINNED_PINNED < 131072) ∧ (pin = 1) ∧ (s.gy.moves = []) ∧ (s.gy.moveReq = []) ∧ (s.rd F.GY_STATUS_HOT_USED < 131072)))) (0) (St [(F.GY_PCFG_VAL_PIN 0, 1), (F.GY_PCFG_ID_POINT 0, 7), (F.GY_PINNED_PINNED, 131071), (F.GY_PCFG_VAL_MAXAGE 0, 0xFFFF)])) ∧
    ((fun (m : ℕ) (s : State) (r : Point) => (s.accepts m 852008 permW) ∧ (let p : ℕ := s.rd (F.GY_PCFG_ID_POINT m); (s.on F.GY_STATUS_WIPING = false) ∧ (s.point p = some r) ∧ (r.sub = none))) (0) (gyS (St [(F.GY_PCFG_VAL_PIN 0, 1), (F.GY_PCFG_ID_POINT 0, 7), (F.GY_PINNED_PINNED, 131071), (F.GY_DEFINED_DEFINED, 1), (F.GY_PCFG_VAL_MAXAGE 0, 0xFFFF)]) fun _ => g0) (pt0)) ∧
    ((fun (m : ℕ) (s : State) (r : Point) => (s.accepts m 852008 permW) ∧ (let p : ℕ := s.rd (F.GY_PCFG_ID_POINT m); (let pin : ℕ := s.rd (F.GY_PCFG_VAL_PIN m); (s.on F.GY_STATUS_WIPING = false) ∧ (s.point p = some r) ∧ (pin ≠ 1 ∨ r.pin = 1 ∨ s.rd F.GY_PINNED_PINNED < 131072)))) (0) (gyS (St [(F.GY_PCFG_VAL_PIN 0, 1), (F.GY_PCFG_ID_POINT 0, 7), (F.GY_PINNED_PINNED, 131071), (F.GY_DEFINED_DEFINED, 1), (F.GY_PCFG_VAL_MAXAGE 0, 0xFFFF)]) fun _ => g0) (pt0)) ∧
    ((fun (m : ℕ) (s : State) (r : Point) => (s.accepts m 852008 permW) ∧ (let p : ℕ := s.rd (F.GY_PCFG_ID_POINT m); (s.on F.GY_STATUS_WIPING = false) ∧ (s.point p = some r) ∧ (r.sub.isSome = true))) (0) (gyS (St [(F.GY_PCFG_VAL_PIN 0, 1), (F.GY_PCFG_ID_POINT 0, 7), (F.GY_PINNED_PINNED, 131072), (F.GY_DEFINED_DEFINED, 1), (F.GY_PCFG_VAL_MAXAGE 0, 0xFFFF)]) fun _ => { g0 with points := [(7, some { pt0 with sub := some 3 })] }) ({ pt0 with sub := some 3 })) :=
  by decide

theorem test_PointConfiguration_2 :
    ((fun (m : ℕ) (s : State) (r : Point) => (s.accepts m 852008 permW) ∧ (let p : ℕ := s.rd (F.GY_PCFG_ID_POINT m); (let pin : ℕ := s.rd (F.GY_PCFG_VAL_PIN m); (s.on F.GY_STATUS_WIPING = false) ∧ (s.point p = some r) ∧ (pin = 1) ∧ (r.pin ≠ 1) ∧ (131072 ≤ s.rd F.GY_PINNED_PINNED)))) (0) (gyS (St [(F.GY_PCFG_VAL_PIN 0, 1), (F.GY_PCFG_ID_POINT 0, 7), (F.GY_PINNED_PINNED, 131072), (F.GY_DEFINED_DEFINED, 1), (F.GY_PCFG_VAL_MAXAGE 0, 0xFFFF)]) fun _ => { g0 with points := [(7, some { pt0 with sub := some 3 })] }) ({ pt0 with sub := some 3 })) :=
  by decide

theorem test_NotificationsMovesAndMaps_1 :
    ((fun (m : Move) (s : State) => (s.gy.moveReq = [m]) ∧ (s.gy.moves = []) ∧ (s.pinBars m = true)) (mv0) (gyS (St [(F.GY_STATUS_HOT_USED, 131071)]) fun _ => { g0 with moveReq := [mv0], points := [(7, some { pt0 with pin := 2 })] })) ∧
    ((fun (n : Note) (rest : List Note) (b : Machine.Sub) (s : State) => (s.gy.notes = n :: rest) ∧ (s.sub n.sub = some b) ∧ (b.ring < 1024) ∧ (s.cqRoom b.ring = true)) (note0) ([]) (sub0) (gyS (St cqOn) fun _ => { g0 with notes := [note0], subs := [(2, some sub0)] })) ∧
    ((fun (n : Note) (rest : List Note) (b : Machine.Sub) (s : State) => (s.gy.notes = n :: rest) ∧ (s.sub n.sub = some b) ∧ (b.ring < 1024) ∧ (s.cqRoom b.ring = false)) (note0) ([]) (sub0) (gyS (St []) fun _ => { g0 with notes := [note0], subs := [(2, some sub0)] })) ∧
    ((fun (m : Move) (s : State) => (s.gy.moveReq = [m]) ∧ (s.gy.moves = []) ∧ (s.pinBars m = false) ∧ (m.toHot = true ∧ s.rd F.GY_STATUS_HOT_USED < 131072 ∨ m.toHot = false ∧ s.classedHot m.point = false)) (mv0) (gyS (St [(F.GY_STATUS_HOT_USED, 131071)]) fun _ => { g0 with moveReq := [mv0] })) ∧
    ((fun (m : Move) (s : State) => (s.gy.moveReq = [m]) ∧ (s.gy.moves = []) ∧ (s.pinBars m = false) ∧ (m.toHot = true) ∧ (131072 ≤ s.rd F.GY_STATUS_HOT_USED)) (mv0) (gyS (St [(F.GY_STATUS_HOT_USED, 131072)]) fun _ => { g0 with moveReq := [mv0] })) ∧
    ((fun (m : Move) (s : State) => (s.gy.moveReq = [m]) ∧ (s.gy.moves = []) ∧ (s.pinBars m = false) ∧ (m.toHot = false) ∧ (s.classedHot m.point = true) ∧ (m.counted = false)) ({ mv0 with toHot := false }) (let s := gyS (St [(F.GY_STATUS_HOT_USED, 131072)]) fun _ => { g0 with moveReq := [{ mv0 with toHot := false }] }; { s with ms := { s.ms with launches := [tls 7] } })) :=
  by decide

theorem test_NotificationsMovesAndMaps_2 :
    ((fun (m : Move) (rest : List Move) (r : Point) (s : State) => (s.slotsDue.gy.moves = m :: rest) ∧ (s.slotsDue.point m.point = some r) ∧ (m.held = []) ∧ (m.toHot = true)) (mv0) ([]) (pt0) (gyS (St []) fun _ => { g0 with moves := [mv0] })) ∧
    ((fun (m : Move) (rest : List Move) (r : Point) (s : State) => (s.slotsDue.gy.moves = m :: rest) ∧ (s.slotsDue.point m.point = some r) ∧ (m.held = []) ∧ (m.toHot = false)) ({ mv0 with toHot := false }) ([]) (pt0) (let s := gyS (St []) fun _ => { g0 with moves := [{ mv0 with toHot := false }] }; { s with pt := { s.pt with heatHot := [(7, 9)] } })) ∧
    ((fun (w : List DWord) (handle : ℕ) (n : ℕ) (cell : ℕ) (data : List Byte) (stamp : DWord) (rest : List ExtWait) (s : State) => (s.gy.extWait = { chain := { maps := [w], loop := false, missing := some n }, handle := handle, data := data, stamp := stamp, cell := cell } :: rest) ∧ (s.fetches.min? = some n) ∧ ((rest.all fun y => y.chain.missing != some n) = true) ∧ (s.on F.GY_CTRL_EXT_EN = false)) (mapW) (40000) (3) (9) ([1, 2, 3, 4, 5, 6]) (77) ([]) (gyS (St []) fun _ => { g0 with extWait := [⟨⟨[mapW], false, some 3⟩, 40000, [1, 2, 3, 4, 5, 6], 77, 9⟩] })) ∧
    ((fun (w : List DWord) (handle : ℕ) (n : ℕ) (cell : ℕ) (data : List Byte) (stamp : DWord) (rest : List ExtWait) (s : State) => (s.gy.extWait = { chain := { maps := [w], loop := false, missing := some n }, handle := handle, data := data, stamp := stamp, cell := cell } :: rest) ∧ (s.fetches.min? = some n) ∧ ((rest.all fun y => y.chain.missing != some n) = true) ∧ (s.on F.GY_CTRL_EXT_EN = true) ∧ (s.on F.GY_STATUS_WIPING = false) ∧ (s.gy.qExt = []) ∧ (bits (BitVec.toNat (w.getD 0 0)) 8 2 = 1) ∧ (bits (BitVec.toNat (w.getD 0 0)) 0 5 = 1) ∧ (bits (BitVec.toNat (w.getD 4 0)) 16 12 = 1024) ∧ (bits (BitVec.toNat (w.getD 4 0)) 32 16 = 0) ∧ (bits (BitVec.toNat (w.getD 4 0)) 0 16 + 4 ≤ data.length)) (mapW) (40000) (3) (9) ([1, 2, 3, 4, 5, 6]) (77) ([]) (gyS (St [(F.GY_CTRL_EXT_EN, 1)]) fun _ => { g0 with extWait := [⟨⟨[mapW], false, some 3⟩, 40000, [1, 2, 3, 4, 5, 6], 77, 9⟩] })) ∧
    ((fun (m : ℕ) (a : BitVec 14) (b : BitVec 14) (s : State) => (s.accepts m 852032 permW) ∧ (s.on F.GY_STATUS_WIPING = false) ∧ (a = b)) (0) (3) (3) (St [])) ∧
    ((fun (m : ℕ) (a : BitVec 14) (b : BitVec 14) (s : State) => (s.accepts m 852032 permW) ∧ (s.on F.GY_STATUS_WIPING = false) ∧ (a ≠ b)) (0) (3) (16383) (gyS (St []) fun _ => { g0 with maps := [(3 * 64, 0x100), (16383 * 64 + 63, 7)] })) :=
  by decide

theorem test_NotificationsMovesAndMaps_3 :
    ((fun (m : ℕ) (hi : Word) (s : State) => (s.accepts m 852060 permW) ∧ (s.on F.GY_STATUS_WIPING = false) ∧ (s.rd F.GY_MSEL = 3) ∧ (s.rd F.GY_MADDR < 131072)) (0) (0xFFFFFFFF) (St [(F.GY_MSEL, 3), (F.GY_MADDR, 131071)])) ∧
    ((fun (m : ℕ) (hi : Word) (s : State) => (s.accepts m 852060 permW) ∧ (s.on F.GY_STATUS_WIPING = false) ∧ (s.rd F.GY_MSEL = 1) ∧ (s.rd F.GY_MADDR < 1048576) ∧ (bits (BitVec.toNat (s.mapWord (s.rd F.GY_MADDR / 64) 0)) 8 1 = 1) ∧ (s.rd F.GY_MADDR % 64 ≠ 0)) (0) (0xFFFFFFFF) (gyS (St [(F.GY_MSEL, 1), (F.GY_MADDR, 193)]) fun _ => { g0 with maps := [(3 * 64, 0x100), (16383 * 64 + 63, 7)] })) ∧
    ((fun (i : ℕ) (pass : ℕ) (b : Machine.Sub) (r : Point) (s : State) => (s.on F.GY_CTRL_SWEEP_EN = true) ∧ (s.gy.sweepLast + 125 ≤ s.tb.mono) ∧ (s.nextWatched = some (i, b, pass)) ∧ (s.point b.point = some r) ∧ (r.stale s.dt = true) ∧ (b.staleSent = false)) (2) (0) ({ sub0 with mode := 0x20 }) (pt0) (let s := gyS (St [(F.GY_CTRL_SWEEP_EN, 1)]) fun _ => { g0 with subs := [(2, some { sub0 with mode := 0x20 })] }; { s with tb := { s.tb with mono := 125 } })) ∧
    ((fun (i : ℕ) (pass : ℕ) (b : Machine.Sub) (r : Point) (s : State) => (s.on F.GY_CTRL_SWEEP_EN = true) ∧ (s.gy.sweepLast + 125 ≤ s.tb.mono) ∧ (s.nextWatched = some (i, b, pass)) ∧ (s.point b.point = some r) ∧ (r.stale s.dt = false ∨ b.staleSent = true)) (2) (0) ({ sub0 with mode := 0x20, staleSent := true }) (pt0) (let s := gyS (St [(F.GY_CTRL_SWEEP_EN, 1)]) fun _ => { g0 with subs := [(2, some { sub0 with mode := 0x20, staleSent := true })] }; { s with tb := { s.tb with mono := 125 } })) :=
  by decide

theorem test_TemplateCommands_1 :
    ((fun (m : ℕ) (a : BitVec 14) (b : BitVec 14) (s : State) => (s.accepts m 884752 permW) ∧ (¬(fun t => bits (BitVec.toNat (Sparse.get 0 s.ms.ctl (t.toNat * 8))) 16 1 = 1) a) ∧ (s.ms.disabling = none) ∧ (s.tplCode a.toNat = 0)) (0) (5) (3) (msS (St []) fun _ => msW [(40, 64)])) ∧
    ((fun (m : ℕ) (a : BitVec 14) (b : BitVec 14) (s : State) => (s.accepts m 884752 permW) ∧ (¬(fun t => bits (BitVec.toNat (Sparse.get 0 s.ms.ctl (t.toNat * 8))) 16 1 = 1) a ∨ s.ms.disabling.isSome = true)) (0) (5) (3) (msS (St []) fun _ => msW [(40, 64)])) ∧
    ((fun (m : ℕ) (a : BitVec 14) (b : BitVec 14) (s : State) => (s.accepts m 884752 permW) ∧ (¬(fun t => bits (BitVec.toNat (Sparse.get 0 s.ms.ctl (t.toNat * 8))) 16 1 = 1) a ∨ (fun t => bits (BitVec.toNat (Sparse.get 0 s.ms.ctl (t.toNat * 8))) 16 1 = 1) b ∨ s.ms.disabling.isSome = true)) (0) (5) (3) (msS (St []) fun _ => msW [(40, 64)])) ∧
    ((fun (m : ℕ) (a : BitVec 14) (b : BitVec 14) (s : State) => (s.accepts m 884752 permW) ∧ (¬(fun t => bits (BitVec.toNat (Sparse.get 0 s.ms.ctl (t.toNat * 8))) 16 1 = 1) a) ∧ (s.ms.disabling = none) ∧ (s.tplCode a.toNat ≠ 0)) (0) (5) (3) (msS (St []) fun _ => msW [(40, 5)])) ∧
    ((fun (m : ℕ) (a : BitVec 14) (b : BitVec 14) (s : State) => (s.accepts m 884752 permW) ∧ ((fun t => bits (BitVec.toNat (Sparse.get 0 s.ms.ctl (t.toNat * 8))) 16 1 = 1) a ∨ s.ms.disabling.isSome = true)) (0) (5) (3) (msS (St []) fun _ => { msW [(40, 0x10040), (41, 9)] with disabling := some 9 })) ∧
    ((fun (m : ℕ) (a : BitVec 14) (b : BitVec 14) (s : State) => (s.accepts m 884752 permW) ∧ ((fun t => bits (BitVec.toNat (Sparse.get 0 s.ms.ctl (t.toNat * 8))) 16 1 = 1) a) ∧ (s.ms.disabling = none) ∧ (0 < s.rd F.MS_ENABLED_COUNT)) (0) (5) (3) (msS (St [(F.MS_ENABLED_COUNT, 1)]) fun _ => { msW [(24, 64), (25, 7), (40, 0x10040), (41, 9)] with slots := [(3 * 128, 5), (5 * 128 + 127, 9)], images := [(3 * 64, 5), (5 * 64 + 63, 9)] })) :=
  by decide

theorem test_TemplateCommands_2 :
    ((fun (m : ℕ) (a : BitVec 14) (b : BitVec 14) (s : State) (n : ℕ) => (s.accepts m 884752 permW) ∧ ((fun t => bits (BitVec.toNat (Sparse.get 0 s.ms.ctl (t.toNat * 8))) 16 1 = 1) a) ∧ (¬(fun t => bits (BitVec.toNat (Sparse.get 0 s.ms.ctl (t.toNat * 8))) 16 1 = 1) b) ∧ (s.ms.disabling = none) ∧ (s.tplCode b.toNat = 0) ∧ (0 < n) ∧ (n < 8)) (0) (5) (3) (msS (St [(F.MS_ENABLED_COUNT, 1)]) fun _ => { msW [(24, 64), (25, 7), (40, 0x10040), (41, 9)] with slots := [(3 * 128, 5), (5 * 128 + 127, 9)], images := [(3 * 64, 5), (5 * 64 + 63, 9)] }) (1)) ∧
    ((fun (m : ℕ) (a : BitVec 14) (b : BitVec 14) (s : State) => (s.accepts m 884752 permW) ∧ ((fun t => bits (BitVec.toNat (Sparse.get 0 s.ms.ctl (t.toNat * 8))) 16 1 = 1) a) ∧ (¬(fun t => bits (BitVec.toNat (Sparse.get 0 s.ms.ctl (t.toNat * 8))) 16 1 = 1) b) ∧ (s.ms.disabling = none) ∧ (s.tplCode b.toNat ≠ 0)) (0) (5) (3) (msS (St [(F.MS_ENABLED_COUNT, 1)]) fun _ => { msW [(40, 0x10040), (41, 9)] with launches := [{ tls 7 with tpl := 5 }] })) ∧
    ((fun (a : ℕ) (s : State) => (s.ms.disabling = some a) ∧ ((s.ms.launches.any fun l => l.tpl == a) = false)) (5) (msS (St [(F.MS_TPL_STAT_BUSY, 1)]) fun _ => { msW [] with disabling := some 5 })) ∧
    ((fun (a : ℕ) (s : State) => (s.ms.disabling = some a) ∧ ((s.ms.launches.any fun l => l.tpl == a) = true)) (5) (msS (St [(F.MS_TPL_STAT_BUSY, 1)]) fun _ => { msW [] with disabling := some 5, launches := [{ tls 7 with tpl := 5 }] })) ∧
    ((fun (m : ℕ) (hi : Word) (s : State) => (s.accepts m 884780 permW) ∧ (s.on F.MS_STATUS_WIPING = false) ∧ (let a : ℕ := s.rd F.MS_MADDR; (s.rd F.MS_MSEL = 2) ∧ (a < 1048576) ∧ (s.tplEn (a / 64) = false))) (0) (0xFFFFFFFF) (St [(F.MS_MSEL, 2), (F.MS_MADDR, 1048575)])) ∧
    ((fun (m : ℕ) (hi : Word) (s : State) => (s.accepts m 884780 permW) ∧ (s.on F.MS_STATUS_WIPING = false) ∧ (let a : ℕ := s.rd F.MS_MADDR; (s.rd F.MS_MSEL = 1) ∧ (a < 2097152) ∧ (s.tplEn (a / 128) = false))) (0) (0xFFFFFFFF) (St [(F.MS_MSEL, 1), (F.MS_MADDR, 2097151)])) :=
  by decide

theorem test_TemplateCommands_3 :
    ((fun (m : ℕ) (hi : Word) (s : State) => (s.accepts m 884780 permW) ∧ (s.on F.MS_STATUS_WIPING = false) ∧ (let a : ℕ := s.rd F.MS_MADDR; (s.rd F.MS_MSEL = 0) ∧ (a < 131072) ∧ (a % 8 < 6) ∧ (s.tplEn (a / 8) = false) ∧ (a % 8 = 1))) (0) (0xFFFFFFFF) (St [(F.MS_MSEL, 0), (F.MS_MADDR, 131065)])) ∧
    ((fun (m : ℕ) (hi : Word) (s : State) => (s.accepts m 884780 permW) ∧ (s.on F.MS_STATUS_WIPING = false) ∧ (let a : ℕ := s.rd F.MS_MADDR; (s.rd F.MS_MSEL = 0 ∧ (131072 ≤ a ∨ 6 ≤ a % 8 ∨ s.tplEn (a / 8) = true) ∨ s.rd F.MS_MSEL = 1 ∧ (2097152 ≤ a ∨ s.tplEn (a / 128) = true) ∨ s.rd F.MS_MSEL = 2 ∧ (1048576 ≤ a ∨ s.tplEn (a / 64) = true) ∨ 3 ≤ s.rd F.MS_MSEL))) (0) (0xFFFFFFFF) (St [(F.MS_MSEL, 0), (F.MS_MADDR, 131071)])) ∧
    ((fun (w : HzWrite) (rest : List HzWrite) (s : State) => (s.hz.queue = w :: rest) ∧ (w.key.t + max 2000 (min 20000 (s.rd F.MS_HZN_H_NS)) ≤ s.dt) ∧ (Sparse.get none s.hz.view w.point = none)) (⟨7, ⟨100, 2, 3⟩, pt0⟩) ([]) ({ atDt (St [(F.MS_STATUS_HZN_LEVEL, 1)]) 3100 with hz := { Hz.reset with queue := [⟨7, ⟨100, 2, 3⟩, pt0⟩] } })) ∧
    ((fun (w : HzWrite) (rest : List HzWrite) (s : State) => (s.hz.queue = w :: rest) ∧ (s.dt < w.key.t + max 2000 (min 20000 (s.rd F.MS_HZN_H_NS)))) (⟨7, ⟨100, 2, 3⟩, pt0⟩) ([]) ({ atDt (St [(F.MS_STATUS_HZN_LEVEL, 1)]) 3099 with hz := { Hz.reset with queue := [⟨7, ⟨100, 2, 3⟩, pt0⟩] } })) :=
  by decide

theorem test_LaunchOfATemplate_1 :
    ((fun (t : BitVec 14) (s : State) => (let c : List DWord := s.msCtl t.toNat; (let p : ℕ := tpPort c; (let k : ℤ := s.tplCycle c; (let d : ℤ := (s.sched p).boundary k + ↑(tpOffset c); (s.msOn = true) ∧ (s.on F.MS_CTRL_SCHED_EN = true) ∧ (tpCtrl c 0 = true) ∧ (tpCtrl c 1 = true) ∧ (tpCtrl c 2 = false) ∧ (p < 10) ∧ ((s.knPort p).running = true) ∧ (Option.all (fun x => decide (x.1 ≠ p ∨ x.2 < k)) (Sparse.get none s.ms.lastK t.toNat) = true) ∧ (↑(s.tplDt c) < d) ∧ (0 ≤ d) ∧ ((s.sched p).cycle ≤ tpOffset c ∨ s.stValid (tpStream c) = false)))))) (5) (tlS 3 [] 0x0003000300030040 0x0000000100000100 0)) ∧
    ((fun (t : BitVec 14) (s : State) => (let c : List DWord := s.msCtl t.toNat; (let p : ℕ := tpPort c; (let k : ℤ := s.tplCycle c; (let d : ℤ := (s.sched p).boundary k + ↑(tpOffset c); (s.msOn = true) ∧ (s.on F.MS_CTRL_SCHED_EN = true) ∧ (tpCtrl c 0 = true) ∧ (tpCtrl c 1 = true) ∧ (tpCtrl c 2 = false) ∧ (p < 10) ∧ ((s.knPort p).running = true) ∧ (Option.all (fun x => decide (x.1 ≠ p ∨ x.2 < k)) (Sparse.get none s.ms.lastK t.toNat) = true) ∧ (↑(s.tplDt c) < d) ∧ (0 ≤ d) ∧ (↑(tpOffset c) < ↑(s.sched p).cycle) ∧ (s.stValid (tpStream c) = true) ∧ (s.ln.items.length + max 1 (s.stPorts (tpStream c)).length ≤ 16384)))))) (5) (msS (tlS 3 [] 0x0003000300030040 0x0000000100000100 0xF03) fun m => { m with lastK := [(5, some (3, -1))] })) ∧
    ((fun (i : ℕ) (l : TplLaunch) (s : State) => (s.launch i = some l) ∧ (l.classed = false) ∧ (s.launchDt l + (s.launchLeads l).2.1 + 40 < l.dtl)) (0) (l7 ({ · with classed := false })) (lS (l7 ({ · with classed := false })) 0)) ∧
    ((fun (i : ℕ) (l : TplLaunch) (s : State) => (s.launch i = some l) ∧ (l.classed = false) ∧ (l.dtl ≤ s.launchDt l + (s.launchLeads l).2.1 + 40)) (0) (l7 ({ · with classed := false })) (lS (l7 ({ · with classed := false })) 28460)) ∧
    ((fun (i : ℕ) (p : ℕ) (l : TplLaunch) (s : State) => (s.launch i = some l) ∧ (l.classed = true) ∧ (tpCtrl l.ctl 2 = true) ∧ (s.on F.MS_CTRL_HZN_EN = false) ∧ (l.dramWait = [p]) ∧ (l.dtl ≤ s.launchDt l + (s.launchLeads l).2.1)) (0) (8) (l7 ({ · with hotWait := [7], dramWait := [8], ctl := [0x0003000301070040] })) (lS (l7 ({ · with hotWait := [7], dramWait := [8], ctl := [0x0003000301070040] })) 80000)) ∧
    ((fun (i : ℕ) (p : ℕ) (l : TplLaunch) (s : State) => (s.launch i = some l) ∧ (l.classed = true) ∧ (tpCtrl l.ctl 2 = true) ∧ (s.on F.MS_CTRL_HZN_EN = false) ∧ (l.hotWait = [p]) ∧ (s.ms.launches = [l]) ∧ (s.gy.moveReq = []) ∧ (l.dtl ≤ s.launchDt l + (s.launchLeads l).1)) (0) (7) (l7 ({ · with hotWait := [7], dramWait := [8], ctl := [0x0003000301070040] })) (lS (l7 ({ · with hotWait := [7], dramWait := [8], ctl := [0x0003000301070040] })) 80000)) :=
  by decide

theorem test_LaunchOfATemplate_2 :
    ((fun (i : ℕ) (p : ℕ) (l : TplLaunch) (s : State) => (s.launch i = some l) ∧ (l.classed = true) ∧ (tpCtrl l.ctl 2 = true) ∧ (s.on F.MS_CTRL_HZN_EN = false) ∧ (l.dramWait = [] ∨ s.launchDt l + (s.launchLeads l).2.1 < l.dtl)) (0) (7) (l7 ({ · with hotWait := [], dramWait := [], ctl := [0x0003000301070040] })) (lS (l7 ({ · with hotWait := [], dramWait := [], ctl := [0x0003000301070040] })) 80000)) ∧
    ((fun (i : ℕ) (p : ℕ) (l : TplLaunch) (s : State) => (s.launch i = some l) ∧ (l.classed = true) ∧ (tpCtrl l.ctl 2 = true) ∧ (s.on F.MS_CTRL_HZN_EN = false) ∧ (l.hotWait = [] ∨ s.launchDt l + (s.launchLeads l).1 < l.dtl)) (0) (7) (l7 ({ · with hotWait := [], dramWait := [], ctl := [0x0003000301070040] })) (lS (l7 ({ · with hotWait := [], dramWait := [], ctl := [0x0003000301070040] })) 80000)) ∧
    ((fun (i : ℕ) (l : TplLaunch) (s : State) => (s.launch i = some l) ∧ (l.classed = true) ∧ (l.hotWait = []) ∧ (l.dramWait = []) ∧ (l.tpl < 16384) ∧ (l.eng ≠ 7) ∧ (s.ms.disabling = none) ∧ (s.launchDt l + (s.launchLeads l).1 < l.dtl)) (0) (l7 id) (lS (l7 id) 29839)) ∧
    ((fun (i : ℕ) (l : TplLaunch) (s : State) => (s.launch i = some l) ∧ (l.classed = true) ∧ (l.hotWait = []) ∧ (l.dramWait = []) ∧ (l.tpl < 16384) ∧ (l.eng ≠ 7) ∧ (s.ms.disabling = none) ∧ (l.dtl ≤ s.launchDt l + (s.launchLeads l).1) ∧ (s.genOf (some (tpStream l.ctl)) = none) ∧ (tpCtrl l.ctl 2 = false) ∧ (s.copies l.item = []) ∧ (l.marked = false ∨ tpPol l.ctl = 0)) (0) (l7 id) (lS (l7 id) 29840)) ∧
    ((fun (i : ℕ) (l : TplLaunch) (s : State) => (s.launch i = some l) ∧ (l.classed = true) ∧ (l.hotWait = []) ∧ (l.dramWait = []) ∧ (l.tpl < 16384) ∧ (l.eng ≠ 7) ∧ (s.ms.disabling = none) ∧ (l.dtl ≤ s.launchDt l + (s.launchLeads l).1) ∧ (s.genOf (some (tpStream l.ctl)) = none) ∧ (tpCtrl l.ctl 2 = false) ∧ (s.copies l.item = []) ∧ (2 ≤ tpPol l.ctl) ∧ (l.marked = true)) (0) (l7 ({ · with ctl := [0x0003000301230040], slots := [0x800007], reads := [(7, some { pt0 with maxage := 1 })] })) (lS (l7 ({ · with ctl := [0x0003000301230040], slots := [0x800007], reads := [(7, some { pt0 with maxage := 1 })] })) 80000)) :=
  by decide

theorem test_IdentificationAndRecoveryCommands_1 :
    ((fun (m : ℕ) (f : BitVec 15) (s : State) => (s.accepts m 524336 permW) ∧ (s.fn.cmd = none) ∧ (s.on F.FN_STATUS_WIPING = true)) (0) (5) (St [(F.FN_STATUS_WIPING, 1)])) ∧
    ((fun (m : ℕ) (f : BitVec 15) (s : State) (c : ℕ × List DWord) => (s.accepts m 524336 permW) ∧ (s.fn.cmd = some c)) (0) (5) (fnS (St [(F.FN_STATUS_WIPING, 1)]) fun n => { n with cmd := some (1, z7) }) ((1, z7))) ∧
    ((fun (m : ℕ) (f : BitVec 15) (s : State) (k : ℕ) => (s.accepts m 524336 permW) ∧ (s.fn.cmd = none) ∧ (s.on F.FN_STATUS_WIPING = false) ∧ (k < 131072)) (0) (5) (fnS (St []) fun _ => { Fn.reset with staging := [(0, 12)], scnt := [(20, 4), (24, 9)] }) (20)) ∧
    ((fun (op : ℕ) (e : List DWord) (s : State) => (s.fn.cmd = some (op, e)) ∧ (op = 0 ∨ 4 ≤ op)) (0) (z7) (fnS (St []) fun n => { n with cmd := some (0, z7) })) ∧
    ((fun (op : ℕ) (e : List DWord) (s : State) => (s.fn.cmd = some (op, e)) ∧ (op = 1) ∧ (idMethod (idBytes e) = 3 ∨ idTagged (idBytes e) = 3)) (1) (12 :: z7) (fnS (St []) fun n => { n with cmd := some (1, 12 :: z7) })) ∧
    ((fun (op : ℕ) (e : List DWord) (s : State) (n : ℕ) => (s.fn.cmd = some (op, e)) ∧ (op = 1) ∧ (idMethod (idBytes e) ≠ 3) ∧ (idTagged (idBytes e) ≠ 3) ∧ (s.idFind e = some n)) (1) (z7) (fnS (St []) fun n => { n with cmd := some (1, z7), ids := [(0, some z7)] }) (0)) :=
  by decide

theorem test_IdentificationAndRecoveryCommands_2 :
    ((fun (op : ℕ) (e : List DWord) (s : State) => (s.fn.cmd = some (op, e)) ∧ (op = 1) ∧ (idMethod (idBytes e) ≠ 3) ∧ (idTagged (idBytes e) ≠ 3) ∧ (s.idFind e = none) ∧ (s.rd F.FN_STATUS_ID_USED < 24576)) (1) (z7) (fnS (St [(F.FN_STATUS_ID_USED, 24575)]) fun n => { n with cmd := some (1, z7), ids := [(0, some [9, 9, 9, 9, 9, 9, 9]), (2, some [8, 9, 9, 9, 9, 9, 9])] })) ∧
    ((fun (op : ℕ) (e : List DWord) (s : State) => (s.fn.cmd = some (op, e)) ∧ (op = 1) ∧ (idMethod (idBytes e) ≠ 3) ∧ (idTagged (idBytes e) ≠ 3) ∧ (s.idFind e = none) ∧ (24576 ≤ s.rd F.FN_STATUS_ID_USED) ∧ (s.rd F.FN_STATUS_ID_USED < 32768)) (1) (z7) (fnS (St [(F.FN_STATUS_ID_USED, 24576)]) fun n => { n with cmd := some (1, z7), ids := [(0, some [9, 9, 9, 9, 9, 9, 9])] })) ∧
    ((fun (op : ℕ) (e : List DWord) (s : State) => (s.fn.cmd = some (op, e)) ∧ (op = 1) ∧ (idMethod (idBytes e) ≠ 3) ∧ (idTagged (idBytes e) ≠ 3) ∧ (s.idFind e = none) ∧ (32768 ≤ s.rd F.FN_STATUS_ID_USED)) (1) (z7) (fnS (St [(F.FN_STATUS_ID_USED, 32768)]) fun n => { n with cmd := some (1, z7), ids := [(0, some [9, 9, 9, 9, 9, 9, 9])] })) ∧
    ((fun (op : ℕ) (e : List DWord) (s : State) (n : ℕ) => (s.fn.cmd = some (op, e)) ∧ (s.idFind e = some n) ∧ (op = 2)) (2) (z7) (fnS (St [(F.FN_STATUS_ID_USED, 1)]) fun n => { n with cmd := some (2, z7), ids := [(2, some z7)] }) (2)) ∧
    ((fun (op : ℕ) (e : List DWord) (s : State) (n : ℕ) => (s.fn.cmd = some (op, e)) ∧ (s.idFind e = some n) ∧ (op = 3)) (3) (z7) (fnS (St [(F.FN_STATUS_ID_USED, 1)]) fun n => { n with cmd := some (3, z7), ids := [(2, some z7)], staging := [(1, 7)] }) (2)) ∧
    ((fun (op : ℕ) (e : List DWord) (s : State) => (s.fn.cmd = some (op, e)) ∧ (op = 2 ∨ op = 3) ∧ (s.idFind e = none)) (2) ([3]) (fnS (St [(F.FN_STATUS_ID_USED, 1)]) fun n => { n with cmd := some (2, [3]), ids := [(2, some z7)] })) :=
  by decide

theorem test_RecoveryTimersAndTheWindow_1 :
    ((fun (f : BitVec 15) (s : State) => (let i : ℕ := f.toNat; (let r : Rec := s.recOf i; (s.recResetMs i = 0 ∨ r.timer = 0 ∨ s.tb.mono < r.timer)))) (5) (rcS 0x0002000000050009 0x00010001 { Rec.empty with timer := 6000000, takeAny := false, hist := 9 } 999999)) ∧
    ((fun (f : BitVec 15) (s : State) => (let i : ℕ := f.toNat; (let r : Rec := s.recOf i; (s.tb.mono < r.latAt + max 1 (bits (s.recCfg i 1) 0 16) * 1000000)))) (5) (rcS 0x0002000000050009 0x00010001 { Rec.empty with timer := 6000000, takeAny := false, hist := 9 } 999999)) ∧
    ((fun (f : BitVec 15) (s : State) => (let i : ℕ := f.toNat; (let r : Rec := s.recOf i; (s.tb.mono < r.latRstAt + max 1 (bits (s.recCfg i 1) 16 16) * 1000000000)))) (5) (rcS 0x0002000000050009 0x00010001 { Rec.empty with timer := 6000000, takeAny := false, hist := 9 } 999999)) ∧
    ((fun (f : BitVec 15) (s : State) => (let i : ℕ := f.toNat; (let r : Rec := s.recOf i; (s.recResetMs i ≠ 0) ∧ (r.timer ≠ 0) ∧ (r.timer ≤ s.tb.mono)))) (5) (rcS 0x000200000005000B 0x00010001 { Rec.empty with timer := 6000000, takeAny := false, hist := 9 } 6000000)) ∧
    ((fun (f : BitVec 15) (s : State) => (let i : ℕ := f.toNat; (let r : Rec := s.recOf i; (r.latAt + max 1 (bits (s.recCfg i 1) 0 16) * 1000000 ≤ s.tb.mono) ∧ (s.latRuns i = false ∨ |↑r.passed * (↑(s.recPaths i) - 1) - ↑r.disc - r.latBase| ≤ ↑(bits (s.recCfg i 0) 32 16))))) (5) (rcS 0x000200000005000B 0x00010001 { Rec.empty with timer := 6000000, takeAny := false, hist := 9 } 6000000)) ∧
    ((fun (f : BitVec 15) (s : State) => (let i : ℕ := f.toNat; (let r : Rec := s.recOf i; (r.latAt + max 1 (bits (s.recCfg i 1) 0 16) * 1000000 ≤ s.tb.mono) ∧ (s.latRuns i = true) ∧ (↑(bits (s.recCfg i 0) 32 16) < |↑r.passed * (↑(s.recPaths i) - 1) - ↑r.disc - r.latBase|)))) (5) (rcS 0x0002000300050009 0x00010001 { Rec.empty with timer := 6000000, takeAny := false, hist := 9, passed := 9, disc := 5, latBase := 0 } 1000000000)) :=
  by decide

theorem test_RecoveryTimersAndTheWindow_2 :
    ((fun (f : BitVec 15) (s : State) => (let i : ℕ := f.toNat; (let r : Rec := s.recOf i; (r.latRstAt + max 1 (bits (s.recCfg i 1) 16 16) * 1000000000 ≤ s.tb.mono) ∧ (s.latRuns i = true)))) (5) (rcS 0x0002000300050009 0x00010001 { Rec.empty with timer := 6000000, takeAny := false, hist := 9, passed := 9, disc := 5, latBase := 0 } 1000000000)) ∧
    ((fun (m : ℕ) (hi : Word) (s : State) => (s.accepts m 524364 permW) ∧ (let sp : ℕ := s.rd F.FN_MSEL; (let a : ℕ := s.rd F.FN_MADDR; (s.on F.FN_STATUS_WIPING = true ∨ sp ≠ 0 ∧ sp ≠ 2 ∧ sp ≠ 4 ∧ sp ≠ 5 ∨ (fnSpace sp).1 ≤ a)))) (0) (0xF0F0F0F0) (St [(F.FN_STATUS_WIPING, 1)])) ∧
    ((fun (m : ℕ) (hi : Word) (s : State) => (s.accepts m 524364 permW) ∧ (let sp : ℕ := s.rd F.FN_MSEL; (let a : ℕ := s.rd F.FN_MADDR; (s.on F.FN_STATUS_WIPING = false) ∧ (sp = 0 ∧ a < 131072 ∧ a % 4 ≠ 3 ∨ sp = 2 ∧ a < 6 ∨ sp = 4 ∧ a < 32768 ∧ a % 2 = 0 ∨ sp = 5 ∧ a < 65536 ∧ a % 2 = 0)))) (0) (0xF0F0F0F0) (St [(F.FN_MSEL, 5), (F.FN_MADDR, 65534)])) ∧
    ((fun (m : ℕ) (hi : Word) (s : State) (w0 : DWord) (k : ℕ) => (s.accepts m 524364 permW) ∧ (let sp : ℕ := s.rd F.FN_MSEL; (let a : ℕ := s.rd F.FN_MADDR; (s.on F.FN_STATUS_WIPING = false) ∧ (sp = 4) ∧ (a < 32768) ∧ (a % 2 = 1) ∧ (Sparse.get none s.fn.part (sp * 2 ^ 18 + (a - 1)) = some w0) ∧ (k ≠ a) ∧ (k + 1 ≠ a)))) (0) (0xF0F0F0F0) (fnS (St [(F.FN_MSEL, 4), (F.FN_MADDR, 32767)]) fun _ => { Fn.reset with part := [(4 * 2 ^ 18 + 32766, some 0xFFFFFFFFFFFFFFFF)], gens := [(32767, 0xF000000000000000)] }) (0xFFFFFFFFFFFFFFFF) (7)) :=
  by decide

theorem test_FilterCommandsAndWindow_1 :
    ((fun (m : ℕ) (f : BitVec 12) (s : State) => (s.accepts m 589832 permW) ∧ (s.on F.PS_STATUS_WIPING = true)) (0) (5) (St [(F.PS_STATUS_WIPING, 1)])) ∧
    ((fun (m : ℕ) (hi : Word) (s : State) => (s.accepts m 589852 permW) ∧ (let sp : ℕ := s.rd F.PS_MSEL; (let a : ℕ := s.rd F.PS_MADDR; (s.on F.PS_STATUS_WIPING = true ∨ sp = 1 ∨ sp = 0 ∧ 8192 ≤ a ∨ sp = 3 ∧ 1024 ≤ a)))) (0) (6) (St [(F.PS_STATUS_WIPING, 1)])) ∧
    ((fun (m : ℕ) (f : BitVec 12) (s : State) => (s.accepts m 589832 permW) ∧ (let i : ℕ := f.toNat; (let fw : ℕ := BitVec.toNat (Sparse.get 0 s.ps.filters (i * 2)); (s.on F.PS_STATUS_WIPING = false) ∧ (bits fw 0 1 = 0)))) (0) (5) (St [])) ∧
    ((fun (m : ℕ) (f : BitVec 12) (s : State) => (s.accepts m 589832 permW) ∧ (let i : ℕ := f.toNat; (s.on F.PS_STATUS_WIPING = false) ∧ (bits ((fun n => BitVec.toNat (Sparse.get 0 s.ps.meters (i * 4 + n))) 2) 0 1 = 0))) (0) (5) (St [])) ∧
    ((fun (m : ℕ) (f : BitVec 12) (s : State) => (s.accepts m 589832 permW) ∧ (let i : ℕ := f.toNat; (s.on F.PS_STATUS_WIPING = false) ∧ (i < 1024) ∧ (s.police i < 16))) (0) (5) (St [])) ∧
    ((fun (m : ℕ) (hi : Word) (s : State) => (s.accepts m 589852 permW) ∧ (let sp : ℕ := s.rd F.PS_MSEL; (let a : ℕ := s.rd F.PS_MADDR; (s.on F.PS_STATUS_WIPING = false) ∧ (sp = 0) ∧ (a < 8192) ∧ (a % 2 = 0)))) (0) (6) (St [])) :=
  by decide

theorem test_FilterCommandsAndWindow_2 :
    ((fun (m : ℕ) (f : BitVec 12) (s : State) => (s.accepts m 589832 permW) ∧ (let i : ℕ := f.toNat; (let fw : ℕ := BitVec.toNat (Sparse.get 0 s.ps.filters (i * 2)); (s.on F.PS_STATUS_WIPING = false) ∧ (bits fw 0 1 = 1) ∧ (bits fw 5 1 = 1)))) (0) (5) (psS (St [(F.PS_STATUS_BLOCKED, 1), (F.PS_MSEL, 1)]) fun _ => { Ps.reset with filters := [(10, 0x21)], fcnt := [(40, 5), (47, 6), (48, 7)], police := [(5, 15)], meters := [(20, 0x500000007), (21, 0x600000009), (22, 0x21)] })) ∧
    ((fun (m : ℕ) (f : BitVec 12) (s : State) (k : ℕ) => (s.accepts m 589832 permW) ∧ (let i : ℕ := f.toNat; (let fw : ℕ := BitVec.toNat (Sparse.get 0 s.ps.filters (i * 2)); (s.on F.PS_STATUS_WIPING = false) ∧ (bits fw 0 1 = 1) ∧ (k < 32768)))) (0) (5) (psS (St [(F.PS_STATUS_BLOCKED, 1), (F.PS_MSEL, 1)]) fun _ => { Ps.reset with filters := [(10, 0x21)], fcnt := [(40, 5), (47, 6), (48, 7)], police := [(5, 15)], meters := [(20, 0x500000007), (21, 0x600000009), (22, 0x21)] }) (40)) ∧
    ((fun (m : ℕ) (f : BitVec 12) (s : State) => (s.accepts m 589832 permW) ∧ (let i : ℕ := f.toNat; (s.on F.PS_STATUS_WIPING = false) ∧ (bits ((fun n => BitVec.toNat (Sparse.get 0 s.ps.meters (i * 4 + n))) 2) 0 1 = 1))) (0) (5) (psS (St [(F.PS_STATUS_BLOCKED, 1), (F.PS_MSEL, 1)]) fun _ => { Ps.reset with filters := [(10, 0x21)], fcnt := [(40, 5), (47, 6), (48, 7)], police := [(5, 15)], meters := [(20, 0x500000007), (21, 0x600000009), (22, 0x21)] })) ∧
    ((fun (m : ℕ) (hi : Word) (s : State) => (s.accepts m 589852 permW) ∧ (let sp : ℕ := s.rd F.PS_MSEL; (let a : ℕ := s.rd F.PS_MADDR; (s.on F.PS_STATUS_WIPING = false) ∧ (sp = 3) ∧ (a < 1024)))) (0) (6) (psS (St [(F.PS_STATUS_BLOCKED, 1), (F.PS_MSEL, 3), (F.PS_MADDR, 1023)]) fun _ => { Ps.reset with filters := [(10, 0x21)], fcnt := [(40, 5), (47, 6), (48, 7)], police := [(1023, 12)] })) ∧
    ((fun (m : ℕ) (f : BitVec 12) (s : State) => (s.accepts m 589832 permW) ∧ (let i : ℕ := f.toNat; (s.on F.PS_STATUS_WIPING = false) ∧ (1024 ≤ i))) (0) (1024) (St [(F.PS_MSEL, 3), (F.PS_MADDR, 1024)])) ∧
    ((fun (m : ℕ) (hi : Word) (s : State) (k : ℕ) => (s.accepts m 589852 permW) ∧ (let sp : ℕ := s.rd F.PS_MSEL; (let a : ℕ := s.rd F.PS_MADDR; (s.on F.PS_STATUS_WIPING = false) ∧ (sp = 0) ∧ (a < 8192) ∧ (a % 2 = 1) ∧ (Sparse.get none s.ps.part (a - 1) = none) ∧ (k ≠ a)))) (0) (6) (St [(F.PS_MSEL, 0), (F.PS_MADDR, 8191)]) (48)) :=
  by decide

theorem test_ReceivedFrames_1 :
    ((fun (p : Fin 10) (pre : Bool) (head : List Byte) (ago : ℕ) (s : State) => (s.linkUp ↑p = true) ∧ (s.loops ↑p = false) ∧ (s.rxOf (rxSlot (↑p) pre) = none) ∧ (2 ≤ ↑p ∨ fieldsIn head = false)) (9) (false) (hd) (100) (rxS [] id)) ∧
    ((fun (p : Fin 10) (pre : Bool) (head : List Byte) (ago : ℕ) (s : State) => (s.linkUp ↑p = true) ∧ (s.loops ↑p = false) ∧ (s.rxOf (rxSlot (↑p) pre) = none) ∧ (↑p < 2) ∧ (fieldsIn head = true) ∧ (s.kept (↑p) head = false) ∧ (s.identify (↑p) head = none) ∧ (bits (s.rd F.FN_UNID_ACT) (2 * ↑p) 1 = 0)) (0) (false) (hd) (100) (rxS [(F.GR_CTRL_EN, 1), (F.GR_QMAX_q_m 0 8, 50), (F.FN_CTRL_ID_EN, 0), (F.FN_UNID_ACT, 0)] id)) ∧
    ((fun (p : Fin 10) (data : List Byte) (coding : Bool) (ago : ℕ) (s : State) => (s.rxOf ↑p = none) ∧ (s.rxLink ↑p = true) ∧ (s.loops ↑p = false) ∧ (2 ≤ ↑p) ∧ (s.rxCheck (↑p) data coding = none)) (9) (f64) (false) (7) (rxS [(F.FP_RX_FRAMES 7, 3)] id)) :=
  by decide

theorem test_ReceivedFrames_2 :
    ((fun (p : Fin 10) (pre : Bool) (head : List Byte) (ago : ℕ) (s : State) (h : ℕ) (ipv : Option ℕ) => (s.linkUp ↑p = true) ∧ (s.loops ↑p = false) ∧ (s.rxOf (rxSlot (↑p) pre) = none) ∧ (let fr : RxFrame := s.newRx (↑p) pre head ago; (↑p < 2) ∧ (fieldsIn head = true) ∧ (s.kept (↑p) head = false) ∧ (s.identify (↑p) head = some h) ∧ (let e0 : DWord := Sparse.get 0 s.fn.streams (h * 4); (let e1 : DWord := Sparse.get 0 s.fn.streams (h * 4 + 1); (let fr1 : RxFrame := { port := fr.port, data := fr.data, stamp := fr.stamp, at_ := fr.at_, look := some (some h), e0 := e0, e1 := e1, maps := fr.maps, filt := s.psPick (bits (BitVec.toNat e0) 6 1 == 1) (framePrio head (s.defPrio ↑p)) (bits (BitVec.toNat e1) 16 12), ipv := fr.ipv, verdict := fr.verdict, rcfg := Sparse.get 0 s.fn.recCfg (bits (BitVec.toNat e1) 0 15 * 2), yellow := fr.yellow, items := fr.items, whole := fr.whole, frags := fr.frags, chain := fr.chain }; (let m : State × MapChain := s.mapBegin (bits (BitVec.toNat e1) 32 14); (let a : State × RxFrame := if bits (BitVec.toNat e0) 3 1 = 1 then (m.1, { port := fr1.port, data := fr1.data, stamp := fr1.stamp, at_ := fr1.at_, look := fr1.look, e0 := fr1.e0, e1 := fr1.e1, maps := some m.2, filt := fr1.filt, ipv := fr1.ipv, verdict := fr1.verdict, rcfg := fr1.rcfg, yellow := fr1.yellow, items := fr1.items, whole := fr1.whole, frags := fr1.frags, chain := fr1.chain }) else (s, fr1); (a.1.psHead a.2 = some ipv) ∧ (bits (BitVec.toNat e0) 1 1 = 0 ∨ a.1.recRuns a.2 = true ∧ hasRtag head = true)))))))) (0) (false) (hd) (100) (rxS [] id) (5) (none)) :=
  by decide

theorem test_ReceivedFrames_3 :
    ((fun (p : Fin 10) (pre : Bool) (head : List Byte) (ago : ℕ) (s : State) (h : ℕ) => (s.linkUp ↑p = true) ∧ (s.loops ↑p = false) ∧ (s.rxOf (rxSlot (↑p) pre) = none) ∧ (let fr : RxFrame := s.newRx (↑p) pre head ago; (↑p < 2) ∧ (fieldsIn head = true) ∧ (s.kept (↑p) head = false) ∧ (s.identify (↑p) head = some h) ∧ (let e0 : DWord := Sparse.get 0 s.fn.streams (h * 4); (let e1 : DWord := Sparse.get 0 s.fn.streams (h * 4 + 1); (let fr1 : RxFrame := { port := fr.port, data := fr.data, stamp := fr.stamp, at_ := fr.at_, look := some (some h), e0 := e0, e1 := e1, maps := fr.maps, filt := s.psPick (bits (BitVec.toNat e0) 6 1 == 1) (framePrio head (s.defPrio ↑p)) (bits (BitVec.toNat e1) 16 12), ipv := fr.ipv, verdict := fr.verdict, rcfg := Sparse.get 0 s.fn.recCfg (bits (BitVec.toNat e1) 0 15 * 2), yellow := fr.yellow, items := fr.items, whole := fr.whole, frags := fr.frags, chain := fr.chain }; (let m : State × MapChain := s.mapBegin (bits (BitVec.toNat e1) 32 14); (let a : State × RxFrame := if bits (BitVec.toNat e0) 3 1 = 1 then (m.1, { port := fr1.port, data := fr1.data, stamp := fr1.stamp, at_ := fr1.at_, look := fr1.look, e0 := fr1.e0, e1 := fr1.e1, maps := some m.2, filt := fr1.filt, ipv := fr1.ipv, verdict := fr1.verdict, rcfg := fr1.rcfg, yellow := fr1.yellow, items := fr1.items, whole := fr1.whole, frags := fr1.frags, chain := fr1.chain }) else (s, fr1); (a.1.psHead a.2 = none)))))))) (0) (false) (hd) (100) (rxS [(F.PS_CTRL_EN, 1)] fun n => { n with streams := [(20, 0x61), (21, 5)] }) (5)) :=
  by decide

theorem test_ReceivedFrames_4 :
    ((fun (p : Fin 10) (pre : Bool) (fr : RxFrame) (h : ℕ) (s : State) => (s.rxOf (rxSlot (↑p) pre) = some fr) ∧ (fr.port = ↑p) ∧ (∀ q < ↑p, s.rxOf (rxSlot q false) = none ∧ s.rxOf (rxSlot q true) = none) ∧ (fr.look = some (some h)) ∧ (let f : ℕ := bits (BitVec.toNat fr.e1) 0 15; (let fr0 : RxFrame := { port := fr.port, data := fr.data, stamp := fr.stamp, at_ := fr.at_, look := fr.look, e0 := fr.e0, e1 := fr.e1, maps := fr.maps, filt := fr.filt, ipv := fr.ipv, verdict := fr.verdict, rcfg := Sparse.get 0 s.fn.recCfg (f * 2), yellow := fr.yellow, items := fr.items, whole := fr.whole, frags := fr.frags, chain := fr.chain }; (s.recRuns fr0 = true) ∧ (hasRtag fr.data = true) ∧ (fr.verdict = RecV.open) ∧ ((s.psHead fr).isSome = true) ∧ (let n : ℕ := rtagSeq fr.data; (let r : Rec := s.recOf f; (let d : ℤ := toSigned 16 (ofSigned 16 (↑n - ↑r.seq)); (r.pend = []) ∧ (r.takeAny = true ∨ s.recMatch f = true ∧ n ≠ r.seq ∨ s.recMatch f = false ∧ 0 < d ∧ d < ↑(s.recHist f) ∨ s.recMatch f = false ∧ d ≤ 0 ∧ -↑(s.recHist f) < d ∧ bits r.hist d.natAbs 1 = 0) ∧ (fr.fwd = false))))))) (0) (false) (rxF 0 hd) (5) (rcd ({ · with takeAny := true }) 0x401)) :=
  by decide

theorem test_ReceivedFrames_5 :
    ((fun (p : Fin 10) (pre : Bool) (fr : RxFrame) (h : ℕ) (s : State) => (s.rxOf (rxSlot (↑p) pre) = some fr) ∧ (fr.port = ↑p) ∧ (∀ q < ↑p, s.rxOf (rxSlot q false) = none ∧ s.rxOf (rxSlot q true) = none) ∧ (fr.look = some (some h)) ∧ (let f : ℕ := bits (BitVec.toNat fr.e1) 0 15; (let fr0 : RxFrame := { port := fr.port, data := fr.data, stamp := fr.stamp, at_ := fr.at_, look := fr.look, e0 := fr.e0, e1 := fr.e1, maps := fr.maps, filt := fr.filt, ipv := fr.ipv, verdict := fr.verdict, rcfg := Sparse.get 0 s.fn.recCfg (f * 2), yellow := fr.yellow, items := fr.items, whole := fr.whole, frags := fr.frags, chain := fr.chain }; (s.recRuns fr0 = true) ∧ (hasRtag fr.data = true) ∧ (fr.verdict = RecV.open) ∧ ((s.psHead fr).isSome = true) ∧ (let n : ℕ := rtagSeq fr.data; (let r : Rec := s.recOf f; (let d : ℤ := toSigned 16 (ofSigned 16 (↑n - ↑r.seq)); (r.pend = []) ∧ (r.takeAny = false) ∧ (s.recMatch f = true ∧ n = r.seq ∨ s.recMatch f = false ∧ d ≤ 0 ∧ -↑(s.recHist f) < d ∧ bits r.hist d.natAbs 1 = 1))))))) (0) (false) (rxF 0 hd) (5) (rcd ({ · with seq := 7, hist := 1 }) 0x401)) :=
  by decide

theorem test_ReceivedFrames_6 :
    ((fun (p : Fin 10) (pre : Bool) (fr : RxFrame) (h : ℕ) (s : State) => (s.rxOf (rxSlot (↑p) pre) = some fr) ∧ (fr.port = ↑p) ∧ (∀ q < ↑p, s.rxOf (rxSlot q false) = none ∧ s.rxOf (rxSlot q true) = none) ∧ (fr.look = some (some h)) ∧ (let f : ℕ := bits (BitVec.toNat fr.e1) 0 15; (let fr0 : RxFrame := { port := fr.port, data := fr.data, stamp := fr.stamp, at_ := fr.at_, look := fr.look, e0 := fr.e0, e1 := fr.e1, maps := fr.maps, filt := fr.filt, ipv := fr.ipv, verdict := fr.verdict, rcfg := Sparse.get 0 s.fn.recCfg (f * 2), yellow := fr.yellow, items := fr.items, whole := fr.whole, frags := fr.frags, chain := fr.chain }; (s.recRuns fr0 = true) ∧ (hasRtag fr.data = true) ∧ (fr.verdict = RecV.open) ∧ ((s.psHead fr).isSome = true) ∧ (let n : ℕ := rtagSeq fr.data; (let r : Rec := s.recOf f; (let d : ℤ := toSigned 16 (ofSigned 16 (↑n - ↑r.seq)); (r.pend = []) ∧ (r.takeAny = false) ∧ (s.recMatch f = false) ∧ (↑(s.recHist f) ≤ d ∨ d ≤ -↑(s.recHist f)))))))) (0) (false) (rxF 0 hd) (5) (rcd ({ · with seq := 3 }) 0x401)) :=
  by decide

theorem test_ReceivedFrames_7 :
    ((fun (p : Fin 10) (pre : Bool) (fr : RxFrame) (h : ℕ) (s : State) => (s.rxOf (rxSlot (↑p) pre) = some fr) ∧ (fr.port = ↑p) ∧ (∀ q < ↑p, s.rxOf (rxSlot q false) = none ∧ s.rxOf (rxSlot q true) = none) ∧ (fr.look = some (some h)) ∧ (let f : ℕ := bits (BitVec.toNat fr.e1) 0 15; (let fr0 : RxFrame := { port := fr.port, data := fr.data, stamp := fr.stamp, at_ := fr.at_, look := fr.look, e0 := fr.e0, e1 := fr.e1, maps := fr.maps, filt := fr.filt, ipv := fr.ipv, verdict := fr.verdict, rcfg := Sparse.get 0 s.fn.recCfg (f * 2), yellow := fr.yellow, items := fr.items, whole := fr.whole, frags := fr.frags, chain := fr.chain }; (s.recRuns fr0 = true) ∧ (hasRtag fr.data = true) ∧ (fr.verdict = RecV.open) ∧ ((s.psHead fr).isSome = true) ∧ (let n : ℕ := rtagSeq fr.data; (let r : Rec := s.recOf f; ((r.pend.any fun x => x.2 == n && x.1 != ↑p) = true)))))) (0) (false) (rxF 0 hd) (5) (rcd ({ · with seq := 8, pend := [(1, 7)] }) 0x403)) :=
  by decide

theorem test_ReceivedFrames_8 :
    ((fun (p : Fin 10) (data : List Byte) (coding : Bool) (ago : ℕ) (s : State) => (s.rxOf ↑p = none) ∧ (s.rxLink ↑p = true) ∧ (s.loops ↑p = false) ∧ (let cut : List Byte := List.take (s.maxFrame ↑p + 1) data; (↑p < 2) ∧ (s.kept (↑p) cut = false) ∧ (s.identify (↑p) cut = none))) (0) (f64) (false) (7) (rxS [(F.GR_CTRL_EN, 1), (F.GR_QMAX_q_m 0 8, 50), (F.FN_CTRL_ID_EN, 0), (F.FN_UNID_ACT, 0), (F.BP_RX_BYTES_LO 0, 2 ^ 32 - 64)] id)) :=
  by decide

theorem test_ReceivedFrames_9 :
    ((fun (p : Fin 10) (data : List Byte) (coding : Bool) (ago : ℕ) (s : State) => (s.rxOf ↑p = none) ∧ (s.rxLink ↑p = true) ∧ (s.loops ↑p = false) ∧ (let s0 : State := { regs := s.regs, tb := s.tb, pcie := s.pcie, qe := s.qe, dma := s.dma, mb := s.mb, gr := s.gr, pt := s.pt, kn := s.kn, gy := s.gy, hz := s.hz, ms := s.ms, tw := s.tw, fn := s.fn, ps := s.ps, lt := s.lt, ln := s.ln, rx := Sparse.put none s.rx (↑p) none, cl := s.cl, bp := s.bp, fd := s.fd, crp := s.crp, mg := s.mg, sp := s.sp, yieldAt := s.yieldAt, wire := s.wire, latched := s.latched, loHeld := s.loHeld, recLatch := s.recLatch, readData := s.readData, freeIdx := s.freeIdx, pending := s.pending }; (let cut : List Byte := List.take (s.maxFrame ↑p + 1) data; (↑p < 2) ∧ ((s0.storeChain { m := 8 + ↑p, queue := none, lso := false, dtl := none } cut).2.isSome = true) ∧ (coding = false) ∧ (64 ≤ data.length) ∧ (data.length ≤ s.maxFrame ↑p) ∧ (fcsGood data = true) ∧ (s.kept (↑p) data = false) ∧ (s.identify (↑p) data = none) ∧ (s.rd F.FN_UNID_ACT = 0)))) (0) (f64) (false) (7) (rxS [(F.GR_CTRL_EN, 1), (F.GR_QMAX_q_m 0 8, 50), (F.FN_CTRL_ID_EN, 0), (F.FN_UNID_ACT, 0), (F.BP_RX_BYTES_LO 0, 2 ^ 32 - 64)] id)) :=
  by decide

theorem test_ReceivedFrames_10 :
    ((fun (p : Fin 10) (data : List Byte) (coding : Bool) (ago : ℕ) (s : State) => (s.rxOf ↑p = none) ∧ (s.rxLink ↑p = true) ∧ (s.loops ↑p = false) ∧ (let cut : List Byte := List.take (s.maxFrame ↑p + 1) data; (↑p < 2) ∧ (s.kept (↑p) cut = true))) (0) (mac64) (true) (7) (rxS [(F.GR_CTRL_EN, 1), (F.GR_QMAX_q_m 0 8, 50)] id)) :=
  by decide

theorem test_ReceivedFrames_11 :
    ((fun (p : Fin 10) (data : List Byte) (coding : Bool) (ago : ℕ) (s : State) => (s.rxOf ↑p = none) ∧ (s.rxLink ↑p = true) ∧ (s.loops ↑p = false) ∧ (let s0 : State := { regs := s.regs, tb := s.tb, pcie := s.pcie, qe := s.qe, dma := s.dma, mb := s.mb, gr := s.gr, pt := s.pt, kn := s.kn, gy := s.gy, hz := s.hz, ms := s.ms, tw := s.tw, fn := s.fn, ps := s.ps, lt := s.lt, ln := s.ln, rx := Sparse.put none s.rx (↑p) none, cl := s.cl, bp := s.bp, fd := s.fd, crp := s.crp, mg := s.mg, sp := s.sp, yieldAt := s.yieldAt, wire := s.wire, latched := s.latched, loHeld := s.loHeld, recLatch := s.recLatch, readData := s.readData, freeIdx := s.freeIdx, pending := s.pending }; (let cut : List Byte := List.take (s.maxFrame ↑p + 1) data; (↑p < 2) ∧ ((s0.storeChain { m := 8 + ↑p, queue := none, lso := false, dtl := none } cut).2.isSome = true) ∧ (coding = true ∨ 64 ≤ data.length ∧ data.length ≤ s.maxFrame ↑p ∧ fcsGood data = false) ∧ (s.kept (↑p) cut = true)))) (0) (mac64) (true) (7) (rxS [(F.GR_CTRL_EN, 1), (F.GR_QMAX_q_m 0 8, 50)] id)) :=
  by decide

theorem test_ReceivedFrames_12 :
    ((fun (p : Fin 10) (data : List Byte) (coding : Bool) (ago : ℕ) (s : State) => (s.rxOf ↑p = none) ∧ (s.rxLink ↑p = true) ∧ (s.loops ↑p = false) ∧ (let s0 : State := { regs := s.regs, tb := s.tb, pcie := s.pcie, qe := s.qe, dma := s.dma, mb := s.mb, gr := s.gr, pt := s.pt, kn := s.kn, gy := s.gy, hz := s.hz, ms := s.ms, tw := s.tw, fn := s.fn, ps := s.ps, lt := s.lt, ln := s.ln, rx := Sparse.put none s.rx (↑p) none, cl := s.cl, bp := s.bp, fd := s.fd, crp := s.crp, mg := s.mg, sp := s.sp, yieldAt := s.yieldAt, wire := s.wire, latched := s.latched, loHeld := s.loHeld, recLatch := s.recLatch, readData := s.readData, freeIdx := s.freeIdx, pending := s.pending }; (let cut : List Byte := List.take (s.maxFrame ↑p + 1) data; (↑p < 2) ∧ ((s0.storeChain { m := 8 + ↑p, queue := none, lso := false, dtl := none } cut).2.isSome = true) ∧ (coding = false) ∧ (data.length < 64) ∧ (s.kept (↑p) cut = true)))) (0) (mac64.take 63) (false) (7) (rxS [(F.GR_CTRL_EN, 1), (F.GR_QMAX_q_m 0 8, 50)] id)) :=
  by decide

theorem test_ReceivedFrames_13 :
    ((fun (p : Fin 10) (data : List Byte) (coding : Bool) (ago : ℕ) (s : State) => (s.rxOf ↑p = none) ∧ (s.rxLink ↑p = true) ∧ (s.loops ↑p = false) ∧ (let s0 : State := { regs := s.regs, tb := s.tb, pcie := s.pcie, qe := s.qe, dma := s.dma, mb := s.mb, gr := s.gr, pt := s.pt, kn := s.kn, gy := s.gy, hz := s.hz, ms := s.ms, tw := s.tw, fn := s.fn, ps := s.ps, lt := s.lt, ln := s.ln, rx := Sparse.put none s.rx (↑p) none, cl := s.cl, bp := s.bp, fd := s.fd, crp := s.crp, mg := s.mg, sp := s.sp, yieldAt := s.yieldAt, wire := s.wire, latched := s.latched, loHeld := s.loHeld, recLatch := s.recLatch, readData := s.readData, freeIdx := s.freeIdx, pending := s.pending }; (let cut : List Byte := List.take (s.maxFrame ↑p + 1) data; (↑p < 2) ∧ ((s0.storeChain { m := 8 + ↑p, queue := none, lso := false, dtl := none } cut).2.isSome = true) ∧ (coding = false) ∧ (64 ≤ data.length) ∧ (s.maxFrame ↑p < data.length) ∧ (s.kept (↑p) cut = true)))) (0) (mac64 ++ List.replicate 1500 0) (false) (7) (rxS [(F.GR_CTRL_EN, 1), (F.GR_QMAX_q_m 0 8, 50), (F.BP_CFG_MAX_FRAME 0, 0)] id)) :=
  by decide

theorem test_ReceivedFrames_14 :
    ((fun (p : Fin 10) (data : List Byte) (coding : Bool) (ago : ℕ) (s : State) => (s.rxOf ↑p = none) ∧ (s.rxLink ↑p = true) ∧ (s.loops ↑p = false) ∧ (let s0 : State := { regs := s.regs, tb := s.tb, pcie := s.pcie, qe := s.qe, dma := s.dma, mb := s.mb, gr := s.gr, pt := s.pt, kn := s.kn, gy := s.gy, hz := s.hz, ms := s.ms, tw := s.tw, fn := s.fn, ps := s.ps, lt := s.lt, ln := s.ln, rx := Sparse.put none s.rx (↑p) none, cl := s.cl, bp := s.bp, fd := s.fd, crp := s.crp, mg := s.mg, sp := s.sp, yieldAt := s.yieldAt, wire := s.wire, latched := s.latched, loHeld := s.loHeld, recLatch := s.recLatch, readData := s.readData, freeIdx := s.freeIdx, pending := s.pending }; (let cut : List Byte := List.take (s.maxFrame ↑p + 1) data; (↑p < 2) ∧ ((s0.storeChain { m := 8 + ↑p, queue := none, lso := false, dtl := none } cut).2 = none) ∧ (s.kept (↑p) cut = true)))) (0) (mac64) (false) (7) (rxS [(F.GR_CTRL_EN, 0), (F.GR_QMAX_q_m 0 8, 0), (F.GR_STATUS_WIPING, 1)] id)) :=
  by decide

theorem test_ReceivedFrames_15 :
    ((fun (p : Fin 10) (data : List Byte) (coding : Bool) (ago : ℕ) (s : State) => (s.rxOf ↑p = none) ∧ (s.rxLink ↑p = true) ∧ (s.loops ↑p = false) ∧ (let s0 : State := { regs := s.regs, tb := s.tb, pcie := s.pcie, qe := s.qe, dma := s.dma, mb := s.mb, gr := s.gr, pt := s.pt, kn := s.kn, gy := s.gy, hz := s.hz, ms := s.ms, tw := s.tw, fn := s.fn, ps := s.ps, lt := s.lt, ln := s.ln, rx := Sparse.put none s.rx (↑p) none, cl := s.cl, bp := s.bp, fd := s.fd, crp := s.crp, mg := s.mg, sp := s.sp, yieldAt := s.yieldAt, wire := s.wire, latched := s.latched, loHeld := s.loHeld, recLatch := s.recLatch, readData := s.readData, freeIdx := s.freeIdx, pending := s.pending }; (let cut : List Byte := List.take (s.maxFrame ↑p + 1) data; (↑p < 2) ∧ ((s0.storeChain { m := 8 + ↑p, queue := none, lso := false, dtl := none } cut).2 = none) ∧ (s.kept (↑p) cut = false) ∧ (s.identify (↑p) cut = none)))) (0) (f64) (false) (7) (rxS [(F.GR_CTRL_EN, 0), (F.GR_QMAX_q_m 0 8, 0), (F.GR_STATUS_WIPING, 1), (F.FN_CTRL_ID_EN, 0)] id)) :=
  by decide

theorem test_ReceivedFrames_16 :
    ((fun (p : Fin 10) (data : List Byte) (coding : Bool) (ago : ℕ) (s : State) => (s.rxOf ↑p = none) ∧ (s.rxLink ↑p = true) ∧ (s.loops ↑p = false) ∧ (let s0 : State := { regs := s.regs, tb := s.tb, pcie := s.pcie, qe := s.qe, dma := s.dma, mb := s.mb, gr := s.gr, pt := s.pt, kn := s.kn, gy := s.gy, hz := s.hz, ms := s.ms, tw := s.tw, fn := s.fn, ps := s.ps, lt := s.lt, ln := s.ln, rx := Sparse.put none s.rx (↑p) none, cl := s.cl, bp := s.bp, fd := s.fd, crp := s.crp, mg := s.mg, sp := s.sp, yieldAt := s.yieldAt, wire := s.wire, latched := s.latched, loHeld := s.loHeld, recLatch := s.recLatch, readData := s.readData, freeIdx := s.freeIdx, pending := s.pending }; (let cut : List Byte := List.take (s.maxFrame ↑p + 1) data; (↑p < 2) ∧ ((s0.storeChain { m := 8 + ↑p, queue := none, lso := false, dtl := none } cut).2.isSome = true) ∧ (coding = true ∨ 64 ≤ data.length ∧ data.length ≤ s.maxFrame ↑p ∧ fcsGood data = false) ∧ (s.kept (↑p) cut = false) ∧ (s.identify (↑p) cut = none)))) (0) (f64) (true) (7) (rxS [(F.GR_CTRL_EN, 1), (F.GR_QMAX_q_m 0 8, 50), (F.FN_CTRL_ID_EN, 0)] id)) :=
  by decide

theorem test_ReceivedFrames_17 :
    ((fun (p : Fin 10) (data : List Byte) (coding : Bool) (ago : ℕ) (s : State) => (s.rxOf ↑p = none) ∧ (s.rxLink ↑p = true) ∧ (s.loops ↑p = false) ∧ (let s0 : State := { regs := s.regs, tb := s.tb, pcie := s.pcie, qe := s.qe, dma := s.dma, mb := s.mb, gr := s.gr, pt := s.pt, kn := s.kn, gy := s.gy, hz := s.hz, ms := s.ms, tw := s.tw, fn := s.fn, ps := s.ps, lt := s.lt, ln := s.ln, rx := Sparse.put none s.rx (↑p) none, cl := s.cl, bp := s.bp, fd := s.fd, crp := s.crp, mg := s.mg, sp := s.sp, yieldAt := s.yieldAt, wire := s.wire, latched := s.latched, loHeld := s.loHeld, recLatch := s.recLatch, readData := s.readData, freeIdx := s.freeIdx, pending := s.pending }; (let cut : List Byte := List.take (s.maxFrame ↑p + 1) data; (↑p < 2) ∧ ((s0.storeChain { m := 8 + ↑p, queue := none, lso := false, dtl := none } cut).2.isSome = true) ∧ (coding = false) ∧ (data.length < 64) ∧ (s.kept (↑p) cut = false) ∧ (s.identify (↑p) cut = none)))) (0) (f64.take 63) (false) (7) (rxS [(F.GR_CTRL_EN, 1), (F.GR_QMAX_q_m 0 8, 50), (F.FN_CTRL_ID_EN, 0)] id)) :=
  by decide

theorem test_ReceivedFrames_18 :
    ((fun (p : Fin 10) (data : List Byte) (coding : Bool) (ago : ℕ) (s : State) => (s.rxOf ↑p = none) ∧ (s.rxLink ↑p = true) ∧ (s.loops ↑p = false) ∧ (let s0 : State := { regs := s.regs, tb := s.tb, pcie := s.pcie, qe := s.qe, dma := s.dma, mb := s.mb, gr := s.gr, pt := s.pt, kn := s.kn, gy := s.gy, hz := s.hz, ms := s.ms, tw := s.tw, fn := s.fn, ps := s.ps, lt := s.lt, ln := s.ln, rx := Sparse.put none s.rx (↑p) none, cl := s.cl, bp := s.bp, fd := s.fd, crp := s.crp, mg := s.mg, sp := s.sp, yieldAt := s.yieldAt, wire := s.wire, latched := s.latched, loHeld := s.loHeld, recLatch := s.recLatch, readData := s.readData, freeIdx := s.freeIdx, pending := s.pending }; (let cut : List Byte := List.take (s.maxFrame ↑p + 1) data; (↑p < 2) ∧ ((s0.storeChain { m := 8 + ↑p, queue := none, lso := false, dtl := none } cut).2.isSome = true) ∧ (coding = false) ∧ (64 ≤ data.length) ∧ (s.maxFrame ↑p < data.length) ∧ (s.kept (↑p) cut = false) ∧ (s.identify (↑p) cut = none)))) (0) (List.replicate 1519 0) (false) (7) (rxS [(F.GR_CTRL_EN, 1), (F.GR_QMAX_q_m 0 8, 50), (F.BP_CFG_MAX_FRAME 0, 0)] id)) :=
  by decide

theorem test_RolesOfTheTwin_1 :
    ((fun (m : ℕ) (pulse : Bool) (pair : Word) (epoch : Word) (id : Fin 2) (s : State) => (s.accepts m 1179648 permW) ∧ (s.on F.TW_CTRL_EN = false)) (0) (true) (77) (7) (1) (St [(F.TW_PAIR_ID, 77)])) ∧
    ((fun (m : ℕ) (pulse : Bool) (pair : Word) (epoch : Word) (id : Fin 2) (s : State) => (s.accepts m 1179648 permW) ∧ (s.on F.TW_CTRL_EN = false)) (0) (true) (77) (7) (1) (St [(F.TW_PAIR_ID, 77)])) ∧
    ((fun (m : ℕ) (pulse : Bool) (pair : Word) (epoch : Word) (id : Fin 2) (s : State) => (let role : ℕ := s.rd F.TW_STATUS_ROLE; (role ≠ 1 ∨ s.on F.TW_STATUS_PEER_OK = true ∨ s.tb.mono < s.tw.since + s.rd F.TW_FORM_WAIT * 1000000))) (0) (true) (77) (7) (1) (St [(F.TW_PAIR_ID, 77)])) ∧
    ((fun (m : ℕ) (pulse : Bool) (pair : Word) (epoch : Word) (id : Fin 2) (s : State) => (s.on F.TW_CTRL_EN = false ∨ s.tb.mono < max s.tw.since (max (s.tw.hbD.getD 0) (s.tw.hbP.getD 0)) + s.silenceNs)) (0) (true) (77) (7) (1) (St [(F.TW_PAIR_ID, 77)])) ∧
    ((fun (m : ℕ) (pulse : Bool) (pair : Word) (epoch : Word) (id : Fin 2) (s : State) => (let listens : Prop := s.on F.TW_CTRL_EN = true ∧ s.on (if pulse = true then F.TW_CTRL_PULSE_EN else F.TW_CTRL_DOLNOS_EN) = true ∧ BitVec.toNat pair = s.rd F.TW_PAIR_ID ∧ ↑id ≠ s.rd F.TW_STATUS_TWIN_ID; (¬listens))) (0) (true) (77) (7) (1) (St [(F.TW_PAIR_ID, 77)])) ∧
    ((fun (m : ℕ) (pulse : Bool) (pair : Word) (epoch : Word) (id : Fin 2) (s : State) => (s.accepts m 1179656 permW) ∧ (s.on F.TW_CTRL_EN = false)) (0) (true) (77) (7) (1) (St [(F.TW_PAIR_ID, 77)])) :=
  by decide

theorem test_RolesOfTheTwin_2 :
    ((fun (m : ℕ) (pulse : Bool) (pair : Word) (epoch : Word) (id : Fin 2) (s : State) => (s.accepts m 1179648 permW) ∧ (s.on F.TW_CTRL_EN = true)) (0) (false) (77) (7) (1) (tws 1 [] (fun r => r) 499999999)) ∧
    ((fun (m : ℕ) (pulse : Bool) (pair : Word) (epoch : Word) (id : Fin 2) (s : State) => (s.accepts m 1179648 permW) ∧ (s.on F.TW_CTRL_EN = true)) (0) (false) (77) (7) (1) (tws 1 [] (fun r => r) 499999999)) ∧
    ((fun (m : ℕ) (pulse : Bool) (pair : Word) (epoch : Word) (id : Fin 2) (s : State) => (let role : ℕ := s.rd F.TW_STATUS_ROLE; (let listens : Prop := s.on F.TW_CTRL_EN = true ∧ s.on (if pulse = true then F.TW_CTRL_PULSE_EN else F.TW_CTRL_DOLNOS_EN) = true ∧ BitVec.toNat pair = s.rd F.TW_PAIR_ID ∧ ↑id ≠ s.rd F.TW_STATUS_TWIN_ID; (listens) ∧ (role ≠ 4 ∨ BitVec.toNat epoch < s.rd F.TW_EPOCH)))) (0) (false) (77) (7) (1) (tws 1 [] (fun r => r) 499999999)) ∧
    ((fun (m : ℕ) (pulse : Bool) (pair : Word) (epoch : Word) (id : Fin 2) (s : State) => (let role : ℕ := s.rd F.TW_STATUS_ROLE; (let listens : Prop := s.on F.TW_CTRL_EN = true ∧ s.on (if pulse = true then F.TW_CTRL_PULSE_EN else F.TW_CTRL_DOLNOS_EN) = true ∧ BitVec.toNat pair = s.rd F.TW_PAIR_ID ∧ ↑id ≠ s.rd F.TW_STATUS_TWIN_ID; (listens) ∧ (role ≠ 3 ∨ BitVec.toNat epoch < s.rd F.TW_PEER_EPOCH)))) (0) (false) (77) (7) (1) (tws 1 [] (fun r => r) 499999999)) ∧
    ((fun (m : ℕ) (pulse : Bool) (pair : Word) (epoch : Word) (id : Fin 2) (s : State) => (let role : ℕ := s.rd F.TW_STATUS_ROLE; (s.accepts m 1179656 permW) ∧ (s.on F.TW_CTRL_EN = true) ∧ (role ≠ 4) ∧ (s.fwRuns = false))) (0) (false) (77) (7) (1) (tws 1 [] (fun r => r) 499999999)) ∧
    ((fun (m : ℕ) (pulse : Bool) (pair : Word) (epoch : Word) (id : Fin 2) (s : State) => (let role : ℕ := s.rd F.TW_STATUS_ROLE; (role = 1) ∧ (s.on F.TW_STATUS_PEER_OK = false) ∧ (s.tw.peerLostSent = false) ∧ (s.tw.since + s.rd F.TW_FORM_WAIT * 1000000 ≤ s.tb.mono) ∧ (s.on F.TW_CTRL_CLAIM_ALONE = true) ∧ (s.fwRuns = false))) (0) (false) (77) (7) (1) (tws 1 [] (fun r => r) 500000000)) :=
  by decide

theorem test_RolesOfTheTwin_3 :
    ((fun (m : ℕ) (pulse : Bool) (pair : Word) (epoch : Word) (id : Fin 2) (s : State) => (let role : ℕ := s.rd F.TW_STATUS_ROLE; (role = 1) ∧ (s.on F.TW_STATUS_PEER_OK = false) ∧ (s.tw.peerLostSent = false) ∧ (s.tw.since + s.rd F.TW_FORM_WAIT * 1000000 ≤ s.tb.mono) ∧ (s.on F.TW_CTRL_CLAIM_ALONE = false))) (0) (false) (77) (4) (1) (tws 1 [(F.TW_CTRL_CLAIM_ALONE, 0)] (fun r => r) 500000000)) ∧
    ((fun (m : ℕ) (pulse : Bool) (pair : Word) (epoch : Word) (id : Fin 2) (s : State) => (let role : ℕ := s.rd F.TW_STATUS_ROLE; (s.on F.TW_CTRL_EN = true) ∧ (max s.tw.since (max (s.tw.hbD.getD 0) (s.tw.hbP.getD 0)) + s.silenceNs ≤ s.tb.mono) ∧ (role = 3) ∧ (s.on F.TW_STATUS_SELFTEST_FAIL = false ∨ s.on F.TW_CTRL_CLAIM_IF_FAILED = true) ∧ (s.fwRuns = false))) (0) (false) (77) (6) (1) (tws 3 [(F.TW_STATUS_PEER_OK, 1), (F.TW_PEER_EPOCH, 0xFFFFFFFF)] (fun r => r) 1200000)) ∧
    ((fun (m : ℕ) (pulse : Bool) (pair : Word) (epoch : Word) (id : Fin 2) (s : State) => (let role : ℕ := s.rd F.TW_STATUS_ROLE; (s.accepts m 1179656 permW) ∧ (s.on F.TW_CTRL_EN = true) ∧ (role = 3 ∨ role = 4 ∧ s.on F.TW_STATUS_PEER_OK = false))) (0) (false) (77) (6) (1) (tws 3 [(F.TW_STATUS_PEER_OK, 1), (F.TW_PEER_EPOCH, 0xFFFFFFFF)] (fun r => r) 1200000)) ∧
    ((fun (m : ℕ) (pulse : Bool) (pair : Word) (epoch : Word) (id : Fin 2) (s : State) => (let role : ℕ := s.rd F.TW_STATUS_ROLE; (let listens : Prop := s.on F.TW_CTRL_EN = true ∧ s.on (if pulse = true then F.TW_CTRL_PULSE_EN else F.TW_CTRL_DOLNOS_EN) = true ∧ BitVec.toNat pair = s.rd F.TW_PAIR_ID ∧ ↑id ≠ s.rd F.TW_STATUS_TWIN_ID; (listens) ∧ (role = 3) ∧ (s.rd F.TW_PEER_EPOCH ≤ BitVec.toNat epoch) ∧ ((s.wr F.TW_PEER_EPOCH (BitVec.toNat epoch)).fwRuns = false)))) (0) (false) (77) (6) (1) (tws 3 [(F.TW_STATUS_PEER_OK, 1)] (fun r => r) 1199999)) ∧
    ((fun (m : ℕ) (pulse : Bool) (pair : Word) (epoch : Word) (id : Fin 2) (s : State) => (let role : ℕ := s.rd F.TW_STATUS_ROLE; (s.on F.TW_CTRL_EN = true) ∧ (max s.tw.since (max (s.tw.hbD.getD 0) (s.tw.hbP.getD 0)) + s.silenceNs ≤ s.tb.mono) ∧ (role = 3) ∧ (s.on F.TW_STATUS_SELFTEST_FAIL = true) ∧ (s.on F.TW_CTRL_CLAIM_IF_FAILED = false))) (0) (true) (77) (6) (1) (tws 3 [(F.TW_STATUS_PEER_OK, 1), (F.TW_STATUS_SELFTEST_FAIL, 1)] (fun r => r) 1200000)) ∧
    ((fun (m : ℕ) (pulse : Bool) (pair : Word) (epoch : Word) (id : Fin 2) (s : State) => (let role : ℕ := s.rd F.TW_STATUS_ROLE; (let listens : Prop := s.on F.TW_CTRL_EN = true ∧ s.on (if pulse = true then F.TW_CTRL_PULSE_EN else F.TW_CTRL_DOLNOS_EN) = true ∧ BitVec.toNat pair = s.rd F.TW_PAIR_ID ∧ ↑id ≠ s.rd F.TW_STATUS_TWIN_ID; (listens) ∧ (role = 4) ∧ (s.rd F.TW_EPOCH < BitVec.toNat epoch)))) (0) (true) (77) (6) (1) (tws 4 [(F.TW_STATUS_PEER_OK, 0)] (fun r => { r with hbP := some 5 }) 1200000)) :=
  by decide

theorem test_RolesOfTheTwin_4 :
    ((fun (m : ℕ) (pulse : Bool) (pair : Word) (epoch : Word) (id : Fin 2) (s : State) => (let role : ℕ := s.rd F.TW_STATUS_ROLE; (s.accepts m 1179656 permW) ∧ (s.on F.TW_CTRL_EN = true) ∧ (role = 4))) (0) (true) (77) (6) (1) (tws 4 [(F.TW_STATUS_PEER_OK, 0)] (fun r => { r with hbP := some 5 }) 1200000)) ∧
    ((fun (m : ℕ) (pulse : Bool) (pair : Word) (epoch : Word) (id : Fin 2) (s : State) => (let role : ℕ := s.rd F.TW_STATUS_ROLE; (s.accepts m 1179656 permW) ∧ (s.on F.TW_CTRL_EN = true) ∧ (role = 4) ∧ (s.on F.TW_STATUS_PEER_OK = false))) (0) (true) (77) (6) (1) (tws 4 [(F.TW_STATUS_PEER_OK, 0)] (fun r => { r with hbP := some 5 }) 1200000)) ∧
    ((fun (m : ℕ) (pulse : Bool) (pair : Word) (epoch : Word) (id : Fin 2) (s : State) => (let role : ℕ := s.rd F.TW_STATUS_ROLE; (s.accepts m 1179656 permW) ∧ (s.on F.TW_CTRL_EN = true) ∧ (role = 4) ∧ (s.on F.TW_STATUS_PEER_OK = true) ∧ (s.tw.peerRole ≠ 3 ∨ s.tw.peerReady = false))) (0) (true) (77) (5) (1) (tws 4 [(F.TW_STATUS_PEER_OK, 1)] (fun r => { r with hbP := some 5 }) 1200000)) ∧
    ((fun (m : ℕ) (pulse : Bool) (pair : Word) (epoch : Word) (id : Fin 2) (s : State) => (let role : ℕ := s.rd F.TW_STATUS_ROLE; (s.accepts m 1179656 permW) ∧ (s.on F.TW_CTRL_EN = true) ∧ (role = 4) ∧ (s.on F.TW_STATUS_PEER_OK = true))) (0) (true) (77) (5) (1) (tws 4 [(F.TW_STATUS_PEER_OK, 1)] (fun r => { r with hbP := some 5 }) 1200000)) ∧
    ((fun (m : ℕ) (pulse : Bool) (pair : Word) (epoch : Word) (id : Fin 2) (s : State) => (let role : ℕ := s.rd F.TW_STATUS_ROLE; (s.accepts m 1179656 permW) ∧ (s.on F.TW_CTRL_EN = true) ∧ (role = 4) ∧ (s.on F.TW_STATUS_PEER_OK = true) ∧ (s.tw.peerRole = 3) ∧ (s.tw.peerReady = true))) (0) (true) (77) (4) (1) (tws 4 [(F.TW_STATUS_PEER_OK, 1)] (fun r => { r with hbP := some 5, peerRole := 3, peerReady := true }) 1200000)) :=
  by decide

theorem test_HeartbeatsAndAgreement_1 :
    ((fun (s : State) => (s.on F.TW_CTRL_EN = false ∨ s.tb.mono < s.tw.hbNext)) (St [(F.TW_PAIR_ID, 77)])) ∧
    ((fun (pulse : Bool) (pair : Word) (data : List Byte) (ago : ℕ) (s : State) => (s.on F.TW_CTRL_EN = false ∨ s.on (if pulse = true then F.TW_CTRL_PULSE_EN else F.TW_CTRL_DOLNOS_EN) = false)) (true) (77) (pb) (0) (St [(F.TW_PAIR_ID, 77)])) ∧
    ((fun (p : Fin 2) (payload : List Byte) (s : State) => (leNat (slice payload 0 4) = s.rd F.TW_PAIR_ID) ∧ (s.on F.TW_CTRL_EN = false ∨ leNat (slice payload 8 1) % 2 = s.rd F.TW_STATUS_TWIN_ID)) (1) (bbP) (St [(F.TW_PAIR_ID, 77)])) ∧
    ((fun (s : State) => (s.tw.bbLeft = 0 ∨ s.tb.mono < s.tw.bbNext)) (St [(F.TW_PAIR_ID, 77)])) ∧
    ((fun (good : Bool) (s : State) => (s.on F.TW_CTRL_EN = false ∨ s.tb.mono < s.tw.stNext)) (true) (St [(F.TW_PAIR_ID, 77)])) ∧
    ((fun (pulse : Bool) (pair : Word) (data : List Byte) (ago : ℕ) (s : State) => (s.on F.TW_CTRL_EN = true) ∧ (pulse = true) ∧ (s.on F.TW_CTRL_PULSE_EN = true) ∧ (data.length = 16) ∧ (List.drop 14 data = pulseCrc (List.take 14 data)) ∧ (BitVec.toNat pair = s.rd F.TW_PAIR_ID) ∧ (leNat (slice data 1 1) % 2 ≠ s.rd F.TW_STATUS_TWIN_ID) ∧ (s.rd F.TW_STATUS_ROLE ≠ 1) ∧ (s.rd F.TW_STATUS_ROLE ≠ 4)) (true) (77) (pb) (0) (tws 3 [] (fun r => { r with hbNext := 100, stNext := 6 }) 5)) :=
  by decide

theorem test_HeartbeatsAndAgreement_2 :
    ((fun (pulse : Bool) (s : State) => (s.on F.TW_CTRL_EN = true) ∧ (let last : ℕ := (if pulse = true then s.tw.hbP else s.tw.hbD).getD 0; (let quiet : ℕ := max 1 (s.rd F.TW_HB_CFG_LOSS_N) * (max 20 (min 10000 (s.rd F.TW_HB_CFG_PERIOD_US)) * 1000); (s.tb.mono < last + quiet)))) (true) (tws 3 [] (fun r => { r with hbNext := 100, stNext := 6 }) 5)) ∧
    ((fun (p : Fin 2) (payload : List Byte) (s : State) => (leNat (slice payload 0 4) = s.rd F.TW_PAIR_ID) ∧ (s.on F.TW_CTRL_EN = true) ∧ (leNat (slice payload 8 1) % 2 ≠ s.rd F.TW_STATUS_TWIN_ID) ∧ (s.rd F.TW_STATUS_ROLE ≠ 4)) (1) (bbP) (tws 3 [] (fun r => { r with hbNext := 100, stNext := 6 }) 5)) ∧
    ((fun (s : State) => (s.on F.TW_CTRL_EN = true) ∧ (s.tw.hbNext ≤ s.tb.mono) ∧ (s.rd F.CRP_PWR_STATUS_STATE ≠ pwHold)) (tws 3 [(F.TW_HB_TX, 0xFFFFFFFE)] (fun r => { r with hbNext := 5, stNext := 5, rowP := 1 }) 5)) ∧
    ((fun (good : Bool) (s : State) => (s.on F.TW_CTRL_EN = true) ∧ (s.tw.stNext ≤ s.tb.mono) ∧ (s.tw.tests = 0)) (true) (tws 3 [(F.TW_HB_TX, 0xFFFFFFFE)] (fun r => { r with hbNext := 5, stNext := 5, rowP := 1 }) 5)) ∧
    ((fun (pulse : Bool) (pair : Word) (data : List Byte) (ago : ℕ) (s : State) => (s.on F.TW_CTRL_EN = true) ∧ (pulse = true) ∧ (s.on F.TW_CTRL_PULSE_EN = true) ∧ (data.length ≠ 16 ∨ List.drop 14 data ≠ pulseCrc (List.take 14 data) ∨ BitVec.toNat pair ≠ s.rd F.TW_PAIR_ID)) (true) (78) (pb) (0) (tws 3 [(F.TW_HB_TX, 0xFFFFFFFE)] (fun r => { r with hbNext := 5, stNext := 5 }) 5)) ∧
    ((fun (p : Fin 2) (payload : List Byte) (s : State) => (leNat (slice payload 0 4) ≠ s.rd F.TW_PAIR_ID)) (1) (bbP.drop 1) (tws 3 [(F.TW_HB_TX, 0xFFFFFFFE)] (fun r => { r with hbNext := 5, stNext := 5 }) 5)) :=
  by decide

theorem test_HeartbeatsAndAgreement_3 :
    ((fun (pulse : Bool) (s : State) => (s.on F.TW_CTRL_EN = true) ∧ (let last : ℕ := (if pulse = true then s.tw.hbP else s.tw.hbD).getD 0; (let quiet : ℕ := max 1 (s.rd F.TW_HB_CFG_LOSS_N) * (max 20 (min 10000 (s.rd F.TW_HB_CFG_PERIOD_US)) * 1000); (last + quiet ≤ s.tb.mono) ∧ (pulse = true) ∧ (s.on F.TW_STATUS_PULSE_UP = true)))) (true) (tws 3 [(F.TW_STATUS_PULSE_UP, 1), (F.TW_CTRL_PULSE_EN, 0)] (fun r => { r with hbP := some 5, rowP := 4 }) 300005)) ∧
    ((fun (pulse : Bool) (s : State) => (s.on F.TW_CTRL_EN = true) ∧ (let last : ℕ := (if pulse = true then s.tw.hbP else s.tw.hbD).getD 0; (let quiet : ℕ := max 1 (s.rd F.TW_HB_CFG_LOSS_N) * (max 20 (min 10000 (s.rd F.TW_HB_CFG_PERIOD_US)) * 1000); (last + quiet ≤ s.tb.mono) ∧ (pulse = false) ∧ (s.on F.TW_STATUS_DOLNOS_UP = true) ∧ (s.tw.mirBuf = [])))) (false) (tws 3 [(F.TW_STATUS_DOLNOS_UP, 1), (F.TW_CTRL_DOLNOS_EN, 0)] (fun r => { r with hbD := some 5, rowD := 4, seqBuf := [(1, 2, 3)] }) 300005)) ∧
    ((fun (pulse : Bool) (pair : Word) (data : List Byte) (ago : ℕ) (s : State) => (s.on F.TW_CTRL_EN = true) ∧ (pulse = true) ∧ (s.on F.TW_CTRL_PULSE_EN = true) ∧ (data.length = 16) ∧ (List.drop 14 data = pulseCrc (List.take 14 data)) ∧ (BitVec.toNat pair = s.rd F.TW_PAIR_ID) ∧ (leNat (slice data 1 1) % 2 = s.rd F.TW_STATUS_TWIN_ID)) (true) (77) (pb0) (0) (tws 3 [(F.TW_STATUS_DOLNOS_UP, 1)] (fun r => { r with hbD := some 5, rowD := 4, seqBuf := [(1, 2, 3)] }) 300005)) ∧
    ((fun (s : State) => (0 < s.tw.bbLeft) ∧ (s.tw.bbNext ≤ s.tb.mono) ∧ (s.on (F.LN_Pn_CTRL_TX_EN 0) = true) ∧ (s.on (F.LN_Pn_CTRL_TX_EN 1) = false) ∧ (s.ln.items.length < 16384) ∧ (let cells : Option ℕ := (s.storeChain { m := 6, queue := none, lso := false, dtl := none } (s.bbClaim 0 false)).2; (cells = none))) (tws 4 [(F.LN_Pn_CTRL_TX_EN 0, 1)] (fun r => { r with bbLeft := 2 }) 5)) ∧
    ((fun (s : State) => (0 < s.tw.bbLeft) ∧ (s.tw.bbNext ≤ s.tb.mono) ∧ (s.on (F.LN_Pn_CTRL_TX_EN 0) = true) ∧ (s.on (F.LN_Pn_CTRL_TX_EN 1) = false) ∧ (s.ln.items.length < 16384) ∧ (let cells : Option ℕ := (s.storeChain { m := 6, queue := none, lso := false, dtl := none } (s.bbClaim 0 false)).2; (cells.isSome = true))) (tws 4 [(F.LN_Pn_CTRL_TX_EN 0, 1), (F.GR_CTRL_EN, 1), (F.GR_QMAX_q_m 0 6, 50)] (fun r => { r with bbLeft := 2 }) 5)) ∧
    ((fun (s : State) (w : ℕ) (d : ℕ) => (let p : ℕ := s.rd F.TW_CHK_PERIOD * 1000; (0 < p) ∧ (s.on F.TW_CTRL_EN = true) ∧ (s.on F.TW_CTRL_CHK_EN = true) ∧ (s.on F.TW_STATUS_READY = true) ∧ (w = s.dt / p - 3) ∧ (3 * p ≤ s.dt) ∧ (s.tw.chkOwn = none) ∧ (s.tw.chk = []) ∧ (s.tw.chkPeer = none ∨ s.tw.chkPeer = some (w, 0, 0)))) (tws 4 [] (fun r => { r with chkPeer := some (2, 0, 0) }) 5900000) (2) (9)) :=
  by decide

theorem test_HeartbeatsAndAgreement_4 :
    ((fun (s : State) (w : ℕ) (d : ℕ) => (let p : ℕ := s.rd F.TW_CHK_PERIOD * 1000; (0 < p) ∧ (s.on F.TW_CTRL_EN = true) ∧ (s.on F.TW_CTRL_CHK_EN = true) ∧ (s.on F.TW_STATUS_READY = true) ∧ (w = s.dt / p - 3) ∧ (3 * p ≤ s.dt) ∧ (s.tw.chkOwn = none) ∧ (s.tw.chk = []) ∧ (s.tw.chkPeer = some (w, d, 1)) ∧ (s.tw.chkSeen = none))) (tws 4 [] (fun r => { r with chkPeer := some (2, 9, 1) }) 5900000) (2) (9)) :=
  by decide

theorem test_MirroringAndResynchronisation_1 :
    ((fun (s : State) => (s.tw.seqBuf = []) ∧ (s.tw.mirBuf = [])) (tws 3 [] (fun r => r) 5)) ∧
    ((fun (s : State) => (s.tw.seqBuf = []) ∧ (s.tw.mirBuf.length < 6) ∧ (s.tb.mono < s.tw.batchAt + s.rd F.TW_MIR_BATCH)) (tws 3 [] (fun r => r) 5)) ∧
    ((fun (s : State) => (s.rd F.TW_STATUS_ROLE ≠ 2 ∨ s.tw.rsWait = false ∨ s.on F.TW_STATUS_DOLNOS_UP = false)) (tws 3 [] (fun r => r) 5)) ∧
    ((fun (s : State) => (s.tw.rsDoneAt = none)) (tws 3 [] (fun r => r) 5)) ∧
    ((fun (s : State) => (s.tw.seqBuf = []) ∧ (s.tw.mirBuf ≠ []) ∧ (s.tw.mirBuf.length ≤ 6) ∧ (s.tw.batchAt + s.rd F.TW_MIR_BATCH ≤ s.tb.mono) ∧ (s.tw.mirBuf.length ≤ s.tw.credit) ∧ (s.on F.TW_STATUS_DOLNOS_UP = true) ∧ (s.tw.unacked.length < 64)) (tws 3 [(F.TW_STATUS_DOLNOS_UP, 1)] (fun r => { r with mirBuf := [mr0, mr0], batchAt := 5, credit := 2, txSeq := 0xFFFFFFFF }) 69)) ∧
    ((fun (p : ℕ) (rest : List ℕ) (r : Point) (key : Key) (mode : ℕ) (s : State) => (s.tw.dirty = p :: rest) ∧ (s.point p = some r) ∧ (Sparse.get none s.tw.newest p = some (key, mode)) ∧ (s.on F.TW_STATUS_DOLNOS_UP = true) ∧ (s.on F.TW_CTRL_MIR_EN = true) ∧ (s.on F.TW_CTRL_EN = true) ∧ (0 < s.tw.credit) ∧ (s.tw.mirBuf.length < 4096)) (7) ([]) (pt0) (⟨5, 1, 6⟩) (5) (gyS (tws 3 [(F.TW_STATUS_DOLNOS_UP, 1), (F.TW_CTRL_MIR_EN, 1), (F.TW_STATUS_MIR_DEGRADED, 1)] (fun r => { r with dirty := [7], newest := [(7, some (⟨5, 1, 6⟩, 5))], credit := 1 }) 69) fun _ => g0)) :=
  by decide

theorem test_MirroringAndResynchronisation_2 :
    ((fun (p : ℕ) (rest : List ℕ) (r : Point) (key : Key) (mode : ℕ) (s : State) => (s.tw.dirty = p :: rest) ∧ (s.point p = some r) ∧ (Sparse.get none s.tw.newest p = some (key, mode)) ∧ (s.on F.TW_STATUS_DOLNOS_UP = false ∨ s.tw.credit = 0)) (7) ([]) (pt0) (⟨5, 1, 6⟩) (5) (gyS (tws 3 [(F.TW_STATUS_DOLNOS_UP, 1), (F.TW_CTRL_MIR_EN, 1), (F.TW_STATUS_MIR_DEGRADED, 1)] (fun r => { r with dirty := [7], newest := [(7, some (⟨5, 1, 6⟩, 5))], credit := 0 }) 69) fun _ => g0)) ∧
    ((fun (f : DFrame) (s : State) => (s.tw.unacked = [f]) ∧ (s.on F.TW_STATUS_DOLNOS_UP = true) ∧ (s.tw.progressAt + 5000 ≤ s.tb.mono)) (⟨0x10, 5, [1, 2, 3]⟩) (tws 3 [(F.TW_STATUS_DOLNOS_UP, 1)] (fun r => { r with unacked := [⟨0x10, 5, [1, 2, 3]⟩] }) 5000)) ∧
    ((fun (f : DFrame) (s : State) => (s.tw.unacked = [f]) ∧ (s.on F.TW_STATUS_DOLNOS_UP = false ∨ s.tb.mono < s.tw.progressAt + 5000)) (⟨0x10, 5, [1, 2, 3]⟩) (tws 3 [(F.TW_STATUS_DOLNOS_UP, 1)] (fun r => { r with unacked := [⟨0x10, 5, [1, 2, 3]⟩] }) 4999)) ∧
    ((fun (m : ℕ) (anchor : ℕ) (delta : ℤ) (bnd : ℤ) (s : State) => (s.reepBarred = true) ∧ (↑(BitVec.toNat s.tb.dt) + 2000 ≤ bnd) ∧ (1 < s.rd F.TB_STATUS_STATE) ∧ (s.tb.reep = none) ∧ (0 ≤ bnd + delta)) (0) (10) (-5) (3000) (tws 3 [(F.TB_STATUS_STATE, 2)] (fun r => r) 995)) ∧
    ((fun (m : ℕ) (anchor : ℕ) (delta : ℤ) (bnd : ℤ) (s : State) => (s.accepts m 131128 permW) ∧ (s.tb.reep = none) ∧ (s.reepBarred = true)) (0) (10) (-5) (3000) (tws 3 [(F.TB_STATUS_STATE, 2)] (fun r => r) 995)) ∧
    ((fun (m : ℕ) (anchor : ℕ) (delta : ℤ) (bnd : ℤ) (s : State) => (s.reepBarred = true) ∧ (bnd < ↑(BitVec.toNat s.tb.dt) + 2000)) (0) (10) (-5) (2999) (tws 3 [(F.TB_STATUS_STATE, 2)] (fun r => r) 995)) :=
  by decide

theorem test_MirroringAndResynchronisation_3 :
    ((fun (m : ℕ) (anchor : ℕ) (delta : ℤ) (bnd : ℤ) (s : State) => (s.reepBarred = false)) (0) (10) (-5) (2999) (tws 4 [(F.TB_STATUS_STATE, 1)] (fun r => r) 995)) ∧
    ((fun (m : ℕ) (anchor : ℕ) (delta : ℤ) (bnd : ℤ) (s : State) => (s.accepts m 131128 permW) ∧ (s.tb.reep = none) ∧ (s.reepBarred = false) ∧ (s.rd F.TB_STATUS_STATE ≤ 1)) (0) (10) (-5) (2999) (tws 4 [(F.TB_STATUS_STATE, 1)] (fun r => r) 995)) ∧
    ((fun (m : ℕ) (anchor : ℕ) (delta : ℤ) (bnd : ℤ) (s : State) => (s.accepts m 131128 permW) ∧ (s.tb.reep = none) ∧ (s.on F.TW_CTRL_EN = false) ∧ (1 < s.rd F.TB_STATUS_STATE) ∧ (10 ≤ anchor % 16) ∧ (0 ≤ toSigned 64 (s.rd64 F.TB_REEP_LO F.TB_REEP_HI))) (0) (31) (-5) (2999) (tws 0 [(F.TW_CTRL_EN, 0), (F.TB_STATUS_STATE, 2), (F.TB_REEP_LO, 5)] (fun r => r) 995)) ∧
    ((fun (data : List Byte) (s : State) => (s.on F.TW_CTRL_EN = true) ∧ (s.on F.TW_CTRL_DOLNOS_EN = true) ∧ (20 ≤ data.length) ∧ (List.drop (data.length - 4) data = fcs (List.take (data.length - 4) data)) ∧ (leNat (slice data 0 1) = 34) ∧ (leNat (slice data 1 1) = 1) ∧ (leNat (slice data 4 4) = s.tw.rxNext)) (dfr) (tws 2 [] (fun r => { r with rxNext := 9 }) 995)) ∧
    ((fun (data : List Byte) (s : State) => (s.on F.TW_CTRL_EN = true) ∧ (s.on F.TW_CTRL_DOLNOS_EN = true) ∧ (data.length < 20 ∨ List.drop (data.length - 4) data ≠ fcs (List.take (data.length - 4) data))) (dfr.drop 1) (tws 2 [] (fun r => { r with rxNext := 9 }) 995)) ∧
    ((fun (s : State) => (s.rd F.TW_STATUS_ROLE = 2) ∧ (s.tw.rsWait = true) ∧ (s.on F.TW_STATUS_DOLNOS_UP = true)) (tws 2 [(F.TW_STATUS_DOLNOS_UP, 1)] (fun r => { r with rxNext := 9, rsWait := true, rsDoneAt := some 5 }) 70000)) :=
  by decide

theorem test_MirroringAndResynchronisation_4 :
    ((fun (s : State) (d : ℕ) => (s.tw.rsDoneAt = some d) ∧ (s.rd F.TW_STATUS_ROLE = 2) ∧ (d + s.hznMax < s.dt)) (tws 2 [(F.TW_STATUS_DOLNOS_UP, 1)] (fun r => { r with rxNext := 9, rsWait := true, rsDoneAt := some 5 }) 70000) (5)) ∧
    ((fun (s : State) => (s.rd F.TW_STATUS_ROLE = 4) ∧ (s.tw.peerRole = 2) ∧ (s.on F.TW_STATUS_DOLNOS_UP = true) ∧ (s.tw.unacked.length < 64) ∧ (s.tw.mirBuf = []) ∧ (s.tw.seqBuf = []) ∧ (s.tw.rsNext = 2 ^ 23 + 16384) ∧ (s.fn.gens = [])) (tws 4 [(F.TW_STATUS_DOLNOS_UP, 1)] (fun r => { r with peerRole := 2, rsNext := 2 ^ 23 + 16384 }) 70000)) ∧
    ((fun (s : State) (p : ℕ) (r : Point) => (s.rd F.TW_STATUS_ROLE = 4) ∧ (s.tw.peerRole = 2) ∧ (s.on F.TW_STATUS_DOLNOS_UP = true) ∧ (s.tw.unacked.length < 64) ∧ (s.tw.mirBuf = []) ∧ (s.tw.seqBuf = []) ∧ (s.tw.rsNext ≤ p) ∧ (p < 2 ^ 23) ∧ (s.gy.points = [(p, some r)]) ∧ (r.mirror = true) ∧ (0 < s.tw.credit)) (gyS (tws 4 [(F.TW_STATUS_DOLNOS_UP, 1)] (fun r => { r with peerRole := 2, rsNext := 7, credit := 1 }) 70000) fun g => { g with points := [(7, some { pt0 with mirror := true })] }) (7) ({ pt0 with mirror := true })) :=
  by decide

theorem test_QueuesAndDoorbells_1 :
    ((fun (m : ℕ) (l : BitVec 10) (q : ℕ) (s : State) => (s.decodes m = true) ∧ (s.may 14 m permW = true) ∧ (s.heldBlk 14 = false) ∧ (q < 1024) ∧ ((if isVf m = true then s.localSq m l.toNat else some l.toNat) = some q) ∧ (ownsSet m (s.sqOwner q) = true) ∧ (s.rd (F.QE_SQ_STAT_STATE q) = 0) ∧ (s.sqCode q ≠ 0)) (0x20) (1023) (1023) (sqr 1023 [] Sq.empty)) ∧
    ((fun (m : ℕ) (l : BitVec 10) (q : ℕ) (s : State) => (s.decodes m = true) ∧ (s.may 14 m permW = true) ∧ (s.heldBlk 14 = false) ∧ (q < 1024) ∧ ((if isVf m = true then s.localSq m l.toNat else some l.toNat) = some q) ∧ (ownsSet m (s.sqOwner q) = true) ∧ (s.rd (F.QE_SQ_STAT_STATE q) ≠ 1) ∧ (s.rd (F.QE_SQ_STAT_STATE q) ≠ 3)) (0x20) (1023) (1023) (sqr 1023 [] Sq.empty)) ∧
    ((fun (m : ℕ) (l : BitVec 10) (q : ℕ) (s : State) => (s.decodes m = true) ∧ (s.may 14 m permW = true) ∧ (s.heldBlk 14 = false) ∧ (q < 1024) ∧ ((if isVf m = true then s.localCq m l.toNat else some l.toNat) = some q) ∧ (ownsSet m (s.cqOwner q) = true) ∧ (s.on (F.QE_CQ_CFG_EN q) = false) ∧ (s.cqCode q ≠ 0) ∧ (isVf (s.cqOwner q) = false)) (0x20) (1023) (1023) (sqr 1023 [] Sq.empty)) ∧
    ((fun (m : ℕ) (l : BitVec 10) (q : ℕ) (s : State) => (s.decodes m = true) ∧ (s.may 14 m permW = true) ∧ (s.heldBlk 14 = false) ∧ (q < 1024) ∧ ((if isVf m = true then s.localSq m l.toNat else some l.toNat) = some q) ∧ (ownsSet m (s.sqOwner q) = false)) (0x20) (3) (3) (sqr 3 [(F.QE_SQ_OWNER_OWNER 3, 0), (F.QE_CQ_INFO_q_OWNER 3, 0)] Sq.empty)) ∧
    ((fun (m : ℕ) (l : BitVec 10) (q : ℕ) (s : State) => (s.decodes m = true) ∧ (s.may 14 m permW = true) ∧ (s.heldBlk 14 = false) ∧ (q < 1024) ∧ ((if isVf m = true then s.localCq m l.toNat else some l.toNat) = some q) ∧ (ownsSet m (s.cqOwner q) = false)) (0x20) (3) (3) (sqr 3 [(F.QE_SQ_OWNER_OWNER 3, 0), (F.QE_CQ_INFO_q_OWNER 3, 0)] Sq.empty)) ∧
    ((fun (m : ℕ) (l : BitVec 10) (q : ℕ) (s : State) => (s.decodes m = true) ∧ (s.may 14 m permW = true) ∧ (s.heldBlk 14 = false) ∧ (q < 1024) ∧ ((if isVf m = true then s.localSq m l.toNat else some l.toNat) = some q) ∧ (ownsSet m (s.sqOwner q) = true) ∧ (s.rd (F.QE_SQ_STAT_STATE q) ≠ 0)) (0x20) (3) (3) (sqr 3 [(F.QE_SQ_STAT_STATE 3, 1), (F.QE_STATUS_SQ_ON, 1), (F.QE_SQ_CFG_EN 3, 1)] { Sq.empty with fetch := 5, fence := some (1, 2) })) :=
  by decide

theorem test_QueuesAndDoorbells_2 :
    ((fun (m : ℕ) (l : BitVec 10) (q : ℕ) (s : State) => (s.decodes m = true) ∧ (s.may 14 m permW = true) ∧ (s.heldBlk 14 = false) ∧ (q < 1024) ∧ ((if isVf m = true then s.localSq m l.toNat else some l.toNat) = some q) ∧ (ownsSet m (s.sqOwner q) = true) ∧ (s.rd (F.QE_SQ_STAT_STATE q) = 1) ∧ ((s.sq q).jobs = []) ∧ ((s.sq q).posted = []) ∧ (s.ln.items = [])) (0x20) (3) (3) (sqr 3 [(F.QE_SQ_STAT_STATE 3, 1), (F.QE_STATUS_SQ_ON, 1), (F.QE_SQ_CFG_EN 3, 1)] { Sq.empty with fetch := 5, fence := some (1, 2) })) ∧
    ((fun (m : ℕ) (l : BitVec 10) (q : ℕ) (s : State) => (s.decodes m = true) ∧ (s.may 14 m permW = true) ∧ (s.heldBlk 14 = false) ∧ (q < 1024) ∧ ((if isVf m = true then s.localCq m l.toNat else some l.toNat) = some q) ∧ (ownsSet m (s.cqOwner q) = true) ∧ (s.on (F.QE_CQ_CFG_EN q) = true)) (0x20) (3) (3) (sqr 3 [(F.QE_SQ_STAT_STATE 3, 1), (F.QE_STATUS_SQ_ON, 1), (F.QE_SQ_CFG_EN 3, 1)] { Sq.empty with fetch := 5, fence := some (1, 2) })) ∧
    ((fun (m : ℕ) (l : BitVec 10) (q : ℕ) (s : State) => (s.decodes m = true) ∧ (s.may 14 m permW = true) ∧ (s.heldBlk 14 = false) ∧ (q < 1024) ∧ ((if isVf m = true then s.localCq m l.toNat else some l.toNat) = some q) ∧ (ownsSet m (s.cqOwner q) = true) ∧ (s.on (F.QE_CQ_CFG_EN q) = false) ∧ (s.cqCode q = 0)) (0x20) (3) (3) (sqr 3 [(F.QE_CQ_CFG_EN 3, 0), (F.QE_CQ_PTR_HEAD 3, 0xFFFF)] Sq.empty)) ∧
    ((fun (m : ℕ) (l : BitVec 10) (q : ℕ) (s : State) => (s.decodes m = true) ∧ (s.may 14 m permW = true) ∧ (s.heldBlk 14 = false) ∧ (q < 1024) ∧ ((if isVf m = true then s.localSq m l.toNat else some l.toNat) = some q) ∧ (ownsSet m (s.sqOwner q) = true) ∧ (s.rd (F.QE_SQ_STAT_STATE q) = 0) ∧ (s.sqCode q = 0)) (0x20) (3) (3) (sqr 3 [] Sq.empty)) ∧
    ((fun (m : ℕ) (cq : Bool) (q : BitVec 10) (owner : BitVec 6) (loc : BitVec 8) (s : State) => (s.accepts m 917520 permW) ∧ (s.may 14 m permADM = true) ∧ (m = 0 ∨ m = 32) ∧ (s.qOff cq q.toNat = true) ∧ (s.assignCode cq q.toNat owner.toNat loc.toNat = 0) ∧ (owner.toNat ≠ 63)) (0x20) (true) (1023) (0x2F) (63) (sqr 3 [] Sq.empty)) ∧
    ((fun (m : ℕ) (cq : Bool) (q : BitVec 10) (owner : BitVec 6) (loc : BitVec 8) (s : State) => (s.accepts m 917520 permW) ∧ (s.may 14 m permADM = true) ∧ (m = 0 ∨ m = 32) ∧ (s.qOff cq q.toNat = true) ∧ (s.assignCode cq q.toNat owner.toNat loc.toNat ≠ 0)) (0x20) (false) (3) (0x2F) (64) (sqr 3 [] Sq.empty)) :=
  by decide

theorem test_QueuesAndDoorbells_3 :
    ((fun (m : ℕ) (cq : Bool) (q : BitVec 10) (owner : BitVec 6) (loc : BitVec 8) (s : State) => (s.accepts m 917520 permW) ∧ (s.may 14 m permADM = true) ∧ (m = 0 ∨ m = 32) ∧ (s.qOff cq q.toNat = false)) (0x20) (true) (3) (0x2F) (64) (sqr 3 [] Sq.empty)) ∧
    ((fun (m : ℕ) (cq : Bool) (q : BitVec 10) (owner : BitVec 6) (loc : BitVec 8) (s : State) => (s.accepts m 917520 permW) ∧ (s.may 14 m permADM = false)) (0x20) (true) (3) (0x2F) (64) (sqr 3 [(F.AC_TBL_t_w 14 4, 0x3)] Sq.empty)) ∧
    ((fun (m : ℕ) (cq : Bool) (q : BitVec 10) (owner : BitVec 6) (loc : BitVec 8) (s : State) => (s.accepts m 917520 permW) ∧ (s.may 14 m permADM = true) ∧ (m ≠ 0) ∧ (m ≠ 32)) (0x21) (true) (3) (0x2F) (64) (sqr 3 [(F.AC_TBL_t_w 14 4, 0xFF)] Sq.empty)) :=
  by decide

theorem test_QueuesAndDoorbells_4 :
    ((fun (m : ℕ) (page : ℕ) (l : BitVec 8) (bytes : ℕ) (hi : Bool) (pos : BitVec 16) (q : ℕ) (s : State) => (s.decodes m = true) ∧ (q < 1024) ∧ (let wide : Prop := bytes = 8 ∨ bytes = 4 ∧ hi = false; (¬wide))) (0x20) (0x20) (3) (4) (true) (7) (3) (sqr 3 [] Sq.empty)) :=
  by decide

theorem test_QueuesAndDoorbells_5 :
    ((fun (m : ℕ) (page : ℕ) (l : BitVec 8) (bytes : ℕ) (hi : Bool) (pos : BitVec 16) (q : ℕ) (s : State) => (s.decodes m = true) ∧ (q < 1024) ∧ (let wide : Prop := bytes = 8 ∨ bytes = 4 ∧ hi = false; (wide) ∧ (s.may 14 m permDB = true) ∧ (s.heldBlk 14 = false) ∧ (page ≠ m))) (0x20) (0x21) (3) (4) (false) (7) (3) (sqr 3 [] Sq.empty)) :=
  by decide

theorem test_QueuesAndDoorbells_6 :
    ((fun (m : ℕ) (page : ℕ) (l : BitVec 8) (bytes : ℕ) (hi : Bool) (pos : BitVec 16) (q : ℕ) (s : State) => (s.decodes m = true) ∧ (q < 1024) ∧ (let wide : Prop := bytes = 8 ∨ bytes = 4 ∧ hi = false; (wide) ∧ (s.may 14 m permDB = true) ∧ (s.heldBlk 14 = false) ∧ (page = m) ∧ (s.localSq page l.toNat = some q) ∧ (s.rd (F.QE_SQ_STAT_STATE q) ≠ 1))) (0x20) (0x20) (3) (4) (false) (7) (3) (sqr 3 [] Sq.empty)) :=
  by decide

theorem test_QueuesAndDoorbells_7 :
    ((fun (m : ℕ) (page : ℕ) (l : BitVec 8) (bytes : ℕ) (hi : Bool) (pos : BitVec 16) (q : ℕ) (s : State) => (s.decodes m = true) ∧ (q < 1024) ∧ (let wide : Prop := bytes = 8 ∨ bytes = 4 ∧ hi = false; (wide) ∧ (s.may 14 m permDB = true) ∧ (s.heldBlk 14 = false) ∧ (page = m) ∧ (s.localCq page l.toNat = some q) ∧ (let n : ℕ := s.cqSize q; (let h : ℕ := s.rd (F.QE_CQ_PTR_HEAD q); (s.on (F.QE_CQ_CFG_EN q) = true) ∧ (n ≤ pos.toNat ∨ (s.rd (F.QE_CQ_PTR_TAIL q) + n - h) % n < (pos.toNat + n - h) % n))))) (0x20) (0x20) (3) (4) (false) (7) (3) (sqr 3 [] Sq.empty)) :=
  by decide

theorem test_QueuesAndDoorbells_8 :
    ((fun (m : ℕ) (page : ℕ) (l : BitVec 8) (bytes : ℕ) (hi : Bool) (pos : BitVec 16) (q : ℕ) (s : State) => (s.decodes m = true) ∧ (q < 1024) ∧ (let wide : Prop := bytes = 8 ∨ bytes = 4 ∧ hi = false; (wide) ∧ (s.may 14 m permDB = true) ∧ (s.heldBlk 14 = false) ∧ (page = m) ∧ (s.localSq page l.toNat = some q) ∧ (let n : ℕ := s.sqSize q; (let h : ℕ := s.sqHead q; (s.rd (F.QE_SQ_STAT_STATE q) = 1) ∧ (pos.toNat < n) ∧ (((s.sq q).fetch + n - h) % n ≤ (pos.toNat + n - h) % n))))) (0x20) (0x20) (3) (4) (false) (7) (3) (sqr 3 [(F.QE_SQ_STAT_STATE 3, 1), (F.QE_CQ_PTR_TAIL 3, 8), (F.QE_CQ_PTR_HEAD 3, 5)] { Sq.empty with fetch := 5 })) :=
  by decide

theorem test_QueuesAndDoorbells_9 :
    ((fun (m : ℕ) (page : ℕ) (l : BitVec 8) (bytes : ℕ) (hi : Bool) (pos : BitVec 16) (q : ℕ) (s : State) => (s.decodes m = true) ∧ (q < 1024) ∧ (let wide : Prop := bytes = 8 ∨ bytes = 4 ∧ hi = false; (wide) ∧ (s.may 14 m permDB = true) ∧ (s.heldBlk 14 = false) ∧ (page = m) ∧ (s.localCq page l.toNat = some q) ∧ (let n : ℕ := s.cqSize q; (let h : ℕ := s.rd (F.QE_CQ_PTR_HEAD q); (s.on (F.QE_CQ_CFG_EN q) = true) ∧ (pos.toNat < n) ∧ ((pos.toNat + n - h) % n ≤ (s.rd (F.QE_CQ_PTR_TAIL q) + n - h) % n))))) (0x20) (0x20) (3) (4) (false) (7) (3) (sqr 3 [(F.QE_SQ_STAT_STATE 3, 1), (F.QE_CQ_PTR_TAIL 3, 8), (F.QE_CQ_PTR_HEAD 3, 5)] { Sq.empty with fetch := 5 })) :=
  by decide

theorem test_QueuesAndDoorbells_10 :
    ((fun (m : ℕ) (page : ℕ) (l : BitVec 8) (bytes : ℕ) (hi : Bool) (pos : BitVec 16) (q : ℕ) (s : State) => (s.decodes m = true) ∧ (q < 1024) ∧ (let wide : Prop := bytes = 8 ∨ bytes = 4 ∧ hi = false; (wide) ∧ (s.may 14 m permDB = true) ∧ (s.heldBlk 14 = false) ∧ (page = m) ∧ (s.localSq page l.toNat = some q) ∧ (let n : ℕ := s.sqSize q; (let h : ℕ := s.sqHead q; (s.rd (F.QE_SQ_STAT_STATE q) = 1) ∧ (n ≤ pos.toNat ∨ (pos.toNat + n - h) % n < ((s.sq q).fetch + n - h) % n))))) (0x20) (0x20) (3) (8) (false) (16) (3) (sqr 3 [(F.QE_SQ_STAT_STATE 3, 1)] { Sq.empty with fetch := 5 })) :=
  by decide

theorem test_QueuesAndDoorbells_11 :
    ((fun (m : ℕ) (page : ℕ) (l : BitVec 8) (bytes : ℕ) (hi : Bool) (pos : BitVec 16) (q : ℕ) (s : State) => (s.decodes m = true) ∧ (q < 1024) ∧ (let wide : Prop := bytes = 8 ∨ bytes = 4 ∧ hi = false; (wide) ∧ (s.may 14 m permDB = true) ∧ (s.heldBlk 14 = false) ∧ (page = m) ∧ (s.localCq page l.toNat = some q) ∧ (s.on (F.QE_CQ_CFG_EN q) = false))) (0x20) (0x20) (3) (8) (false) (5) (3) (sqr 3 [(F.QE_SQ_STAT_STATE 3, 1), (F.QE_CQ_CFG_EN 3, 0)] { Sq.empty with fetch := 5, jobs := [⟨4, 4, 1, 1, 0, true, 7, false, none, false⟩] })) :=
  by decide

theorem test_QueuesAndDoorbells_12 :
    ((fun (m : ℕ) (page : ℕ) (l : BitVec 8) (bytes : ℕ) (hi : Bool) (pos : BitVec 16) (q : ℕ) (s : State) => (s.decodes m = true) ∧ (q < 1024) ∧ (let wide : Prop := bytes = 8 ∨ bytes = 4 ∧ hi = false; (wide) ∧ (s.may 14 m permDB = true) ∧ (s.heldBlk 14 = false) ∧ (page = m) ∧ (s.localSq page l.toNat = none))) (0x20) (0x20) (255) (8) (false) (5) (3) (sqr 3 [(F.QE_SQ_OWNER_OWNER 255, 0x21), (F.QE_CQ_INFO_q_OWNER 255, 0x21)] Sq.empty)) :=
  by decide

theorem test_QueuesAndDoorbells_13 :
    ((fun (m : ℕ) (page : ℕ) (l : BitVec 8) (bytes : ℕ) (hi : Bool) (pos : BitVec 16) (q : ℕ) (s : State) => (s.decodes m = true) ∧ (q < 1024) ∧ (let wide : Prop := bytes = 8 ∨ bytes = 4 ∧ hi = false; (wide) ∧ (s.may 14 m permDB = true) ∧ (s.heldBlk 14 = false) ∧ (page = m) ∧ (s.localCq page l.toNat = none))) (0x20) (0x20) (255) (8) (false) (5) (3) (sqr 3 [(F.QE_SQ_OWNER_OWNER 255, 0x21), (F.QE_CQ_INFO_q_OWNER 255, 0x21)] Sq.empty)) :=
  by decide

theorem test_DrainsFetchErrorsAndModeration_1 :
    ((fun (q : BitVec 10) (s : State) => (let q0 : ℕ := q.toNat; (let r : Sq := s.sq q0; (s.rd (F.QE_SQ_STAT_STATE q0) ≠ 2 ∨ (r.jobs.all fun j => j.done.isSome) = false ∨ (s.qe.due.any fun d => d.q == q0) = true)))) (3) (sqr 3 [] { Sq.empty with fetch := 5, cq := 3 })) ∧
    ((fun (q : BitVec 10) (s : State) => (let q0 : ℕ := q.toNat; (s.on F.QE_CTRL_EN = false ∨ s.rd (F.QE_SQ_STAT_STATE q0) ≠ 1 ∨ s.sqWaiting q0 = 0))) (3) (sqr 3 [] { Sq.empty with fetch := 5, cq := 3 })) ∧
    ((fun (q : BitVec 10) (s : State) => (let q0 : ℕ := q.toNat; (s.on (F.QE_CQ_CFG_EN q0) = false ∨ s.on (F.QE_CQ_CFG_IRQ_EN q0) = false ∨ s.rd (F.QE_CQ_CFG_MOD_US q0) = 0 ∨ (s.cq q0).events = 0))) (3) (sqr 3 [] { Sq.empty with fetch := 5, cq := 3 })) ∧
    ((fun (q : BitVec 10) (s : State) => (let q0 : ℕ := q.toNat; (let r : Sq := s.sq q0; (s.rd (F.QE_SQ_STAT_STATE q0) = 2) ∧ ((r.jobs.all fun j => j.done.isSome) = true) ∧ ((s.qe.due.any fun d => d.q == q0) = false) ∧ (r.mute = false)))) (3) (sqr 3 [(F.QE_SQ_STAT_STATE 3, 2), (F.QE_STATUS_SQ_ON, 1)] { Sq.empty with fetch := 5, cq := 3 })) ∧
    ((fun (q : BitVec 10) (s : State) => (let q0 : ℕ := q.toNat; (let r : Sq := s.sq q0; (s.on F.QE_CTRL_EN = true) ∧ (s.rd (F.QE_SQ_STAT_STATE q0) = 1) ∧ (s.sqWaiting q0 ≠ 0) ∧ (r.mute = false)))) (3) (sqr 3 [(F.QE_SQ_STAT_STATE 3, 1), (F.QE_SQ_TAIL 3, 6)] { Sq.empty with fetch := 5, cq := 3, jobs := [jb none] })) ∧
    ((fun (q : BitVec 10) (s : State) => (let q0 : ℕ := q.toNat; (s.on (F.QE_CQ_CFG_EN q0) = true) ∧ (s.on (F.QE_CQ_CFG_IRQ_EN q0) = true) ∧ (s.rd (F.QE_CQ_CFG_MOD_US q0) ≠ 0) ∧ ((s.cq q0).events ≠ 0) ∧ ((s.cq q0).firstAt + s.rd (F.QE_CQ_CFG_MOD_US q0) * 1000 ≤ s.tb.mono))) (3) (atMono (qeS (sqr 3 [(F.QE_CQ_CFG_IRQ_EN 3, 1), (F.QE_CQ_CFG_MOD_US 3, 2)] { Sq.empty with fetch := 5, cq := 3 }) (fun x => { x with cqs := [(3, ⟨false, 4, 5⟩)] })) 2005)) :=
  by decide

theorem test_DrainsFetchErrorsAndModeration_2 :
    ((fun (q : BitVec 10) (s : State) => (let q0 : ℕ := q.toNat; (s.on (F.QE_CQ_CFG_EN q0) = true) ∧ (s.on (F.QE_CQ_CFG_IRQ_EN q0) = true) ∧ (s.rd (F.QE_CQ_CFG_MOD_US q0) ≠ 0) ∧ ((s.cq q0).events ≠ 0) ∧ (s.tb.mono < (s.cq q0).firstAt + s.rd (F.QE_CQ_CFG_MOD_US q0) * 1000))) (3) (atMono (qeS (sqr 3 [(F.QE_CQ_CFG_IRQ_EN 3, 1), (F.QE_CQ_CFG_MOD_US 3, 2)] { Sq.empty with fetch := 5, cq := 3 }) (fun x => { x with cqs := [(3, ⟨false, 4, 5⟩)] })) 2004)) ∧
    ((fun (d : Due) (s : State) => (s.qe.due = [d]) ∧ (s.cqFree d.c 1 = true) ∧ (s.on (F.QE_CQ_CFG_NOTIFY d.c) = false) ∧ (s.on (F.QE_CQ_CFG_IRQ_EN d.c) = false)) (dueU 1) (qeS (sqr 3 [(F.QE_CQ_PTR_TAIL 3, 15), (F.QE_CQ_PTR_HEAD 3, 3), (F.QE_CQ_INFO_q_GAP 3, 9)] Sq.empty) fun x => { x with due := [dueU 1] })) ∧
    ((fun (d : Due) (s : State) => (s.qe.due = [d]) ∧ (s.cqFree d.c 1 = false ∨ s.on (F.QE_CQ_CFG_NOTIFY d.c) = true) ∧ (d.rung = 7)) (dueU 1) (qeS (sqr 3 [(F.QE_CQ_PTR_TAIL 3, 2), (F.QE_CQ_PTR_HEAD 3, 3), (F.QE_CQ_INFO_q_GAP 3, 65535)] Sq.empty) fun x => { x with due := [dueU 1] })) ∧
    ((fun (d : Due) (e : Due) (s : State) => (s.qe.due = [d, e]) ∧ (d.rank ≠ 2) ∧ (e.rank ≠ 2)) (dueU 1) ({ dueU 0 with q := 2 }) (qeS (sqr 3 [(F.QE_CQ_PTR_TAIL 3, 1), (F.QE_CQ_PTR_HEAD 3, 3)] Sq.empty) fun x => { x with due := [dueU 1, { dueU 0 with q := 2 }] })) :=
  by decide

theorem test_TransmitEntries_1 :
    ((fun (q : BitVec 10) (e : List Byte) (payload : Option (List Byte)) (hdr : Option (List Byte)) (s : State) => (let q0 : ℕ := q.toNat; (s.canFetch q0 (Entry.units e) = false))) (3) (eTx) (none) (none) (jq 0 [(F.QE_SQ_STAT_STATE 3, 3)] Sq.empty)) ∧
    ((fun (q : BitVec 10) (e : List Byte) (payload : Option (List Byte)) (hdr : Option (List Byte)) (s : State) => (let q0 : ℕ := q.toNat; (let r : Sq := s.sq q0; (let rx : Bool := s.on (F.QE_SQ_CFG_TYPE q0); (s.canFetch q0 (Entry.units e) = true) ∧ (r.jobs = []) ∧ (r.mute = false) ∧ (Entry.malformed e opTxTimed rx = true))))) (3) (eTx) (none) (none) (jq 0 [] Sq.empty)) ∧
    ((fun (q : BitVec 10) (e : List Byte) (payload : Option (List Byte)) (hdr : Option (List Byte)) (s : State) => (let q0 : ℕ := q.toNat; (let r : Sq := s.sq q0; (let rx : Bool := s.on (F.QE_SQ_CFG_TYPE q0); (s.canFetch q0 (Entry.units e) = true) ∧ (r.jobs = []) ∧ (r.mute = false) ∧ (Entry.malformed e opLso rx = true))))) (3) (eTx) (none) (none) (jq 0 [] Sq.empty)) :=
  by decide

theorem test_TransmitEntries_2 :
    ((fun (q : BitVec 10) (e : List Byte) (payload : Option (List Byte)) (hdr : Option (List Byte)) (s : State) => (let q0 : ℕ := q.toNat; (let r : Sq := s.sq q0; (let rx : Bool := s.on (F.QE_SQ_CFG_TYPE q0); (let ports : List (ℕ × ℕ) := (s.txPorts e).2; (s.wtRoom (max 1 ports.length) = true) ∧ ((fun op => s.canFetch q0 (Entry.units e) = true ∧ Entry.malformed e op rx = false ∧ r.jobs = [] ∧ r.mute = false) opTx) ∧ (payload = none)))))) (3) (eTx) (none) (none) (jq 0 [] Sq.empty)) ∧
    ((fun (q : BitVec 10) (e : List Byte) (payload : Option (List Byte)) (hdr : Option (List Byte)) (s : State) => (let q0 : ℕ := q.toNat; (let r : Sq := s.sq q0; (let rx : Bool := s.on (F.QE_SQ_CFG_TYPE q0); (s.canFetch q0 (Entry.units e) = true) ∧ (r.jobs = []) ∧ (r.mute = false) ∧ (Entry.malformed e opTx rx = true))))) (3) (eTxF) (none) (none) (jq 0 [(F.QE_CQ_CFG_EN 3, 0)] Sq.empty)) ∧
    ((fun (q : BitVec 10) (e : List Byte) (payload : Option (List Byte)) (hdr : Option (List Byte)) (s : State) => (let q0 : ℕ := q.toNat; (let r : Sq := s.sq q0; (let rx : Bool := s.on (F.QE_SQ_CFG_TYPE q0); (let ports : List (ℕ × ℕ) := (s.txPorts e).2; (s.wtRoom (max 1 ports.length) = true) ∧ ((fun op => s.canFetch q0 (Entry.units e) = true ∧ Entry.malformed e op rx = false ∧ r.jobs = [] ∧ r.mute = false) opTxTimed) ∧ (s.dt + 2 ^ 36 < Entry.le e 16 8)))))) (3) (eTxF) (none) (none) (jq 0 [(F.QE_CQ_CFG_EN 3, 0)] Sq.empty)) :=
  by decide

theorem test_TransmitEntries_3 :
    ((fun (q : BitVec 10) (e : List Byte) (payload : Option (List Byte)) (hdr : Option (List Byte)) (s : State) => (let q0 : ℕ := q.toNat; (let r : Sq := s.sq q0; (let rx : Bool := s.on (F.QE_SQ_CFG_TYPE q0); (let ports : List (ℕ × ℕ) := (s.txPorts e).2; (s.wtRoom (max 1 ports.length) = true) ∧ ((fun op => s.canFetch q0 (Entry.units e) = true ∧ Entry.malformed e op rx = false ∧ r.jobs = [] ∧ r.mute = false) opLso) ∧ (hdr = none)))))) (3) (eLso) (none) (none) (jq 0 [] Sq.empty)) ∧
    ((fun (q : BitVec 10) (e : List Byte) (payload : Option (List Byte)) (hdr : Option (List Byte)) (s : State) (data : List Byte) (i : ℕ) => (let q0 : ℕ := q.toNat; (let r : Sq := s.sq q0; (let rx : Bool := s.on (F.QE_SQ_CFG_TYPE q0); (let ports : List (ℕ × ℕ) := (s.txPorts e).2; (s.wtRoom (max 1 ports.length) = true) ∧ (payload = some data) ∧ (ports ≠ []) ∧ ((fun op => s.canFetch q0 (Entry.units e) = true ∧ Entry.malformed e op rx = false ∧ r.jobs = [] ∧ r.mute = false) opTx) ∧ ((s.storeChain { m := s.sqOwner q0, queue := some q0, lso := false, dtl := none } (Entry.offload e data)).2.isSome = true) ∧ (i < ports.length)))))) (3) (eTx) (some h54) (none) (jq 0 [] Sq.empty) (h54) (0)) ∧
    ((fun (q : BitVec 10) (e : List Byte) (payload : Option (List Byte)) (hdr : Option (List Byte)) (s : State) (data : List Byte) (h : List Byte) (i : ℕ) => (let q0 : ℕ := q.toNat; (let r : Sq := s.sq q0; (let rx : Bool := s.on (F.QE_SQ_CFG_TYPE q0); (let ports : List (ℕ × ℕ) := (s.txPorts e).2; (s.wtRoom (max 1 ports.length) = true) ∧ (payload = some data) ∧ (ports ≠ []) ∧ ((fun op => s.canFetch q0 (Entry.units e) = true ∧ Entry.malformed e op rx = false ∧ r.jobs = [] ∧ r.mute = false) opLso) ∧ (hdr = some h) ∧ (let l : Lso := Entry.lso e h; (let p : ℕ := bits (Entry.le e 24 4) 0 19; (let wrong : Prop := Entry.le e 8 2 ≠ l.hdr.length ∨ lsoBad l p (Entry.gather e (if Entry.lsoTimed e = true then 3 else 2)) (List.foldl (fun a x => min a (s.maxFrame x.1)) 9220 ports) = true; (¬wrong) ∧ (Entry.lsoTimed e = false) ∧ ((s.storeChain { m := s.sqOwner q0, queue := some q0, lso := true, dtl := none } (l.hdr ++ List.take p data)).2.isSome = true) ∧ (i < ports.length))))))))) (3) (eLso) (some (List.replicate 200 9)) (some h54) (jq 0 [] Sq.empty) (List.replicate 200 9) (h54) (0)) :=
  by decide

theorem test_TransmitEntries_4 :
    ((fun (q : BitVec 10) (e : List Byte) (payload : Option (List Byte)) (hdr : Option (List Byte)) (s : State) (data : List Byte) (h : List Byte) => (let q0 : ℕ := q.toNat; (let r : Sq := s.sq q0; (let rx : Bool := s.on (F.QE_SQ_CFG_TYPE q0); (let ports : List (ℕ × ℕ) := (s.txPorts e).2; (s.wtRoom (max 1 ports.length) = true) ∧ (payload = some data) ∧ (ports ≠ []) ∧ ((fun op => s.canFetch q0 (Entry.units e) = true ∧ Entry.malformed e op rx = false ∧ r.jobs = [] ∧ r.mute = false) opLso) ∧ (hdr = some h) ∧ (let l : Lso := Entry.lso e h; (let p : ℕ := bits (Entry.le e 24 4) 0 19; (let wrong : Prop := Entry.le e 8 2 ≠ l.hdr.length ∨ lsoBad l p (Entry.gather e (if Entry.lsoTimed e = true then 3 else 2)) (List.foldl (fun a x => min a (s.maxFrame x.1)) 9220 ports) = true; (wrong))))))))) (3) (eLso) (some (List.replicate 200 9)) (some []) (jq 0 [] Sq.empty) (List.replicate 200 9) ([])) ∧
    ((fun (q : BitVec 10) (e : List Byte) (payload : Option (List Byte)) (hdr : Option (List Byte)) (s : State) (data : List Byte) (i : ℕ) => (let q0 : ℕ := q.toNat; (let r : Sq := s.sq q0; (let rx : Bool := s.on (F.QE_SQ_CFG_TYPE q0); (let ports : List (ℕ × ℕ) := (s.txPorts e).2; (s.wtRoom (max 1 ports.length) = true) ∧ (payload = some data) ∧ (ports ≠ []) ∧ ((fun op => s.canFetch q0 (Entry.units e) = true ∧ Entry.malformed e op rx = false ∧ r.jobs = [] ∧ r.mute = false) opTxTimed) ∧ (Entry.le e 16 8 ≤ s.dt + 2 ^ 36) ∧ (∀ i < ports.length, (s.wireDt (ports.getD i (0, 0)).1 + if (ports.getD i (0, 0)).1 < 2 then 1500 else 50000) ≤ Entry.le e 16 8) ∧ ((s.storeChain { m := s.sqOwner q0, queue := some q0, lso := false, dtl := some (Entry.le e 16 8) } (Entry.offload e data)).2.isSome = true) ∧ (i < ports.length)))))) (3) (eTxL) (some h54) (none) (jq 0 [] Sq.empty) (h54) (0)) :=
  by decide

theorem test_TransmitEntries_5 :
    ((fun (q : BitVec 10) (e : List Byte) (payload : Option (List Byte)) (hdr : Option (List Byte)) (s : State) => (let q0 : ℕ := q.toNat; (let r : Sq := s.sq q0; (let rx : Bool := s.on (F.QE_SQ_CFG_TYPE q0); (let ports : List (ℕ × ℕ) := (s.txPorts e).2; (s.wtRoom (max 1 ports.length) = false) ∧ ((fun op => s.canFetch q0 (Entry.units e) = true ∧ Entry.malformed e op rx = false ∧ r.jobs = [] ∧ r.mute = false) opTx)))))) (3) (eTx) (none) (none) (full (jq 0 [(F.LN_WT_RSV_RSV, 0x3FFC)] Sq.empty))) :=
  ⟨full_room _ _ (by decide) (by decide), by decide⟩

theorem test_TransmitEntries_6 :
    ((fun (q : BitVec 10) (e : List Byte) (payload : Option (List Byte)) (hdr : Option (List Byte)) (s : State) => (let q0 : ℕ := q.toNat; (let r : Sq := s.sq q0; (let rx : Bool := s.on (F.QE_SQ_CFG_TYPE q0); (let ports : List (ℕ × ℕ) := (s.txPorts e).2; (s.wtRoom (max 1 ports.length) = false) ∧ ((fun op => s.canFetch q0 (Entry.units e) = true ∧ Entry.malformed e op rx = false ∧ r.jobs = [] ∧ r.mute = false) opTxTimed)))))) (3) (eTxT) (none) (none) (full (jq 0 [(F.LN_WT_RSV_RSV, 0x3FFC)] Sq.empty))) :=
  ⟨full_room _ _ (by decide) (by decide), by decide⟩

theorem test_TransmitEntries_7 :
    ((fun (q : BitVec 10) (e : List Byte) (payload : Option (List Byte)) (hdr : Option (List Byte)) (s : State) => (let q0 : ℕ := q.toNat; (let r : Sq := s.sq q0; (let rx : Bool := s.on (F.QE_SQ_CFG_TYPE q0); (let ports : List (ℕ × ℕ) := (s.txPorts e).2; (s.wtRoom (max 1 ports.length) = false) ∧ ((fun op => s.canFetch q0 (Entry.units e) = true ∧ Entry.malformed e op rx = false ∧ r.jobs = [] ∧ r.mute = false) opLso)))))) (3) (eLso) (none) (none) (full (jq 0 [(F.LN_WT_RSV_RSV, 0x3FFC)] Sq.empty))) :=
  ⟨full_room _ _ (by decide) (by decide), by decide⟩

theorem test_OtherQueueEntries_1 :
    ((fun (q : BitVec 10) (e : List Byte) (s : State) => (let q0 : ℕ := q.toNat; (let r : Sq := s.sq q0; (let rx : Bool := s.on (F.QE_SQ_CFG_TYPE q0); (s.canFetch q0 (Entry.units e) = true) ∧ (r.jobs = []) ∧ (r.mute = false) ∧ (Entry.malformed e opNop rx = true))))) (3) (ePw) (gyS (jq 0 [] Sq.empty) fun _ => { g0 with qHost := [.unsub 3 4 5 6] })) ∧
    ((fun (q : BitVec 10) (e : List Byte) (s : State) => (let q0 : ℕ := q.toNat; (let r : Sq := s.sq q0; (r.fence = none)))) (3) (ePw) (gyS (jq 0 [] Sq.empty) fun _ => { g0 with qHost := [.unsub 3 4 5 6] })) ∧
    ((fun (q : BitVec 10) (e : List Byte) (s : State) => (let q0 : ℕ := q.toNat; (let r : Sq := s.sq q0; (let m : ℕ := s.sqOwner q0; (let rx : Bool := s.on (F.QE_SQ_CFG_TYPE q0); (s.canFetch q0 (Entry.units e) = true) ∧ (r.jobs = []) ∧ (r.mute = false) ∧ (Entry.malformed e opPointWrite rx = false) ∧ (s.gyTakes = true) ∧ (s.may 13 m permW = false)))))) (3) (ePw) (jq 0 [(F.AC_TBL_t_w 13 4, 0)] Sq.empty)) :=
  by decide

theorem test_OtherQueueEntries_2 :
    ((fun (q : BitVec 10) (e : List Byte) (s : State) => (let q0 : ℕ := q.toNat; (let r : Sq := s.sq q0; (let m : ℕ := s.sqOwner q0; (let rx : Bool := s.on (F.QE_SQ_CFG_TYPE q0); (s.canFetch q0 (Entry.units e) = true) ∧ (r.jobs = []) ∧ (r.mute = false) ∧ (Entry.malformed e opPointRead rx = false) ∧ (s.gyTakes = true) ∧ (s.may 13 m permR = true) ∧ (s.on F.GY_STATUS_WIPING = false) ∧ (s.gy.idle = false)))))) (3) (ePr) (gyS (jq 0 [] Sq.empty) fun _ => { g0 with qExt := [pw0] })) ∧
    ((fun (q : BitVec 10) (e : List Byte) (s : State) => (let q0 : ℕ := q.toNat; (let r : Sq := s.sq q0; (let m : ℕ := s.sqOwner q0; (let rx : Bool := s.on (F.QE_SQ_CFG_TYPE q0); (s.canFetch q0 (Entry.units e) = true) ∧ (r.jobs = []) ∧ (r.mute = false) ∧ (Entry.malformed e opSubscribe rx = false) ∧ (s.gyTakes = true) ∧ (s.may 13 m permW = true) ∧ (s.gy.idle = false) ∧ (bits (Entry.le e 4 4) 31 1 = 0)))))) (3) (eSub) (gyS (jq 0 [] Sq.empty) fun _ => { g0 with qExt := [pw0] })) ∧
    ((fun (q : BitVec 10) (e : List Byte) (s : State) => (let q0 : ℕ := q.toNat; (s.canFetch q0 (Entry.units e) = false))) (3) (ePw) (jq 0 [(F.QE_SQ_STAT_STATE 3, 3)] Sq.empty)) :=
  by decide

theorem test_OtherQueueEntries_3 :
    ((fun (q : BitVec 10) (e : List Byte) (s : State) => (let q0 : ℕ := q.toNat; (let r : Sq := s.sq q0; (let rx : Bool := s.on (F.QE_SQ_CFG_TYPE q0); (s.canFetch q0 (Entry.units e) = true) ∧ (r.jobs = []) ∧ (r.mute = false) ∧ (Entry.malformed e opNop rx = false))))) (3) (ent 1 0xB true []) (jq 0 [] Sq.empty)) ∧
    ((fun (q : BitVec 10) (e : List Byte) (s : State) => (let q0 : ℕ := q.toNat; (let r : Sq := s.sq q0; (let rx : Bool := s.on (F.QE_SQ_CFG_TYPE q0); (s.canFetch q0 (Entry.units e) = true) ∧ (r.jobs = []) ∧ (r.mute = false) ∧ (Entry.malformed e opFence rx = false))))) (3) (ent 1 0xA true [7]) (jq 0 [] Sq.empty)) ∧
    ((fun (q : BitVec 10) (e : List Byte) (s : State) => (let q0 : ℕ := q.toNat; (let r : Sq := s.sq q0; (let rx : Bool := s.on (F.QE_SQ_CFG_TYPE q0); (s.canFetch q0 (Entry.units e) = true) ∧ (r.jobs = []) ∧ (r.mute = false) ∧ (Entry.malformed e opPostRx rx = false) ∧ (let n : ℕ := r.posted.length + (Entry.units e - 1); (n ≤ 4096)))))) (3) (eRx) (jq 1 [] Sq.empty)) :=
  by decide

theorem test_OtherQueueEntries_4 :
    ((fun (q : BitVec 10) (e : List Byte) (s : State) => (let q0 : ℕ := q.toNat; (let r : Sq := s.sq q0; (let rx : Bool := s.on (F.QE_SQ_CFG_TYPE q0); (s.canFetch q0 (Entry.units e) = true) ∧ (r.jobs = []) ∧ (r.mute = false) ∧ (Entry.malformed e opPostRx rx = false) ∧ (let n : ℕ := r.posted.length + (Entry.units e - 1); (4096 < n)))))) (3) (eRx) (jq 1 [] { Sq.empty with posted := List.replicate 4095 ⟨5, 6⟩ })) ∧
    ((fun (q : BitVec 10) (e : List Byte) (s : State) => (let q0 : ℕ := q.toNat; (let r : Sq := s.sq q0; (let m : ℕ := s.sqOwner q0; (let rx : Bool := s.on (F.QE_SQ_CFG_TYPE q0); (s.canFetch q0 (Entry.units e) = true) ∧ (r.jobs = []) ∧ (r.mute = false) ∧ (Entry.malformed e opPointWrite rx = false) ∧ (s.gyTakes = true) ∧ (s.may 13 m permW = true) ∧ (s.on F.GY_STATUS_WIPING = false)))))) (3) (ePw) (jq 0 [] Sq.empty)) ∧
    ((fun (q : BitVec 10) (e : List Byte) (s : State) => (let q0 : ℕ := q.toNat; (let r : Sq := s.sq q0; (let m : ℕ := s.sqOwner q0; (let rx : Bool := s.on (F.QE_SQ_CFG_TYPE q0); (s.canFetch q0 (Entry.units e) = true) ∧ (r.jobs = []) ∧ (r.mute = false) ∧ (Entry.malformed e opPointWrite rx = false) ∧ (s.gyTakes = true) ∧ (s.may 13 m permW = true) ∧ (s.on F.GY_STATUS_WIPING = true)))))) (3) (ePw) (jq 0 [(F.GY_STATUS_WIPING, 1)] Sq.empty)) :=
  by decide

theorem test_OtherQueueEntries_5 :
    ((fun (q : BitVec 10) (e : List Byte) (s : State) => (let q0 : ℕ := q.toNat; (let r : Sq := s.sq q0; (let m : ℕ := s.sqOwner q0; (let rx : Bool := s.on (F.QE_SQ_CFG_TYPE q0); (s.canFetch q0 (Entry.units e) = true) ∧ (r.jobs = []) ∧ (r.mute = false) ∧ (Entry.malformed e opPointRead rx = false) ∧ (s.gyTakes = true) ∧ (s.may 13 m permR = true) ∧ (s.on F.GY_STATUS_WIPING = true)))))) (3) (ePr) (jq 0 [(F.GY_STATUS_WIPING, 1)] Sq.empty)) ∧
    ((fun (q : BitVec 10) (e : List Byte) (s : State) => (let q0 : ℕ := q.toNat; (let r : Sq := s.sq q0; (let m : ℕ := s.sqOwner q0; (let rx : Bool := s.on (F.QE_SQ_CFG_TYPE q0); (s.canFetch q0 (Entry.units e) = true) ∧ (r.jobs = []) ∧ (r.mute = false) ∧ (Entry.malformed e opPointRead rx = false) ∧ (s.gyTakes = true) ∧ (s.may 13 m permR = false)))))) (3) (ePr) (jq 0 [(F.AC_TBL_t_w 13 4, 0)] Sq.empty)) ∧
    ((fun (q : BitVec 10) (e : List Byte) (s : State) (p : ℕ) (x : Point) => (let q0 : ℕ := q.toNat; (let r : Sq := s.sq q0; (let m : ℕ := s.sqOwner q0; (let rx : Bool := s.on (F.QE_SQ_CFG_TYPE q0); (s.canFetch q0 (Entry.units e) = true) ∧ (r.jobs = []) ∧ (r.mute = false) ∧ (Entry.malformed e opPointRead rx = false) ∧ (s.gyTakes = true) ∧ (s.may 13 m permR = true) ∧ (s.on F.GY_STATUS_WIPING = false) ∧ (s.gy.idle = true) ∧ (s.on F.GY_CTRL_EN = true) ∧ (Entry.readPoints e = [p]) ∧ (s.point p = some x)))))) (3) (ePr) (gyS (jq 0 [(F.GY_CTRL_EN, 1)] Sq.empty) fun _ => g0) (7) (pt0)) :=
  by decide

theorem test_OtherQueueEntries_6 :
    ((fun (q : BitVec 10) (e : List Byte) (s : State) => (let q0 : ℕ := q.toNat; (let r : Sq := s.sq q0; (let m : ℕ := s.sqOwner q0; (let rx : Bool := s.on (F.QE_SQ_CFG_TYPE q0); (s.canFetch q0 (Entry.units e) = true) ∧ (r.jobs = []) ∧ (r.mute = false) ∧ (Entry.malformed e opSubscribe rx = false) ∧ (s.gyTakes = true) ∧ (s.may 13 m permW = false)))))) (3) (eSub) (gyS (jq 0 [(F.AC_TBL_t_w 13 4, 0)] Sq.empty) fun _ => g0)) ∧
    ((fun (q : BitVec 10) (e : List Byte) (s : State) => (let q0 : ℕ := q.toNat; (let r : Sq := s.sq q0; (let m : ℕ := s.sqOwner q0; (let rx : Bool := s.on (F.QE_SQ_CFG_TYPE q0); (s.canFetch q0 (Entry.units e) = true) ∧ (r.jobs = []) ∧ (r.mute = false) ∧ (Entry.malformed e opSubscribe rx = false) ∧ (s.gyTakes = true) ∧ (s.may 13 m permW = true) ∧ (s.gy.idle = true) ∧ (s.gy.notes = []) ∧ (bits (Entry.le e 4 4) 31 1 = 0)))))) (3) (eSub) (gyS (jq 0 [(F.GY_CTRL_EN, 1), (F.QE_CQ_CFG_NOTIFY 3, 1)] Sq.empty) fun _ => g0)) ∧
    ((fun (q : BitVec 10) (e : List Byte) (s : State) => (let q0 : ℕ := q.toNat; (let r : Sq := s.sq q0; (let m : ℕ := s.sqOwner q0; (let rx : Bool := s.on (F.QE_SQ_CFG_TYPE q0); (s.canFetch q0 (Entry.units e) = true) ∧ (r.jobs = []) ∧ (r.mute = false) ∧ (Entry.malformed e opSubscribe rx = false) ∧ (s.gyTakes = true) ∧ (s.may 13 m permW = true) ∧ (bits (Entry.le e 4 4) 31 1 = 1)))))) (3) (eUns) (gyS (jq 0 [(F.GY_CTRL_EN, 1), (F.QE_CQ_CFG_NOTIFY 3, 1)] Sq.empty) fun _ => { g0 with subs := [(2, some sub0)] })) :=
  by decide

theorem test_OtherQueueEntries_7 :
    ((fun (q : BitVec 10) (e : List Byte) (s : State) => (let q0 : ℕ := q.toNat; (let r : Sq := s.sq q0; (let rx : Bool := s.on (F.QE_SQ_CFG_TYPE q0); (s.canFetch q0 (Entry.units e) = true) ∧ (r.jobs = []) ∧ (r.mute = false) ∧ (Entry.malformed e opTimedAction rx = false) ∧ (let a : Ta := have __src := s.taOfEntry q0 s.qe.nextJob e; { dt := __src.dt, addr := __src.addr, value := __src.value, mask := __src.mask, period := __src.period, rep := __src.rep, lateDiscard := __src.lateDiscard, kind := __src.kind, pad := __src.pad, level := __src.level, owner := __src.owner, late := __src.late, refused := __src.refused, tag := __src.tag, queue := some (q0, r.fetch), seq := __src.seq, due := __src.due, passed := __src.passed }; (a.kind = 0 ∨ a.kind = 1 ∧ a.addr % 4 ≠ 0 ∨ 0 < a.period ∧ a.period < 1000)))))) (3) (eTa 0 4) (jq 0 [] Sq.empty)) ∧
    ((fun (q : BitVec 10) (e : List Byte) (s : State) (i : ℕ) => (let q0 : ℕ := q.toNat; (let r : Sq := s.sq q0; (let rx : Bool := s.on (F.QE_SQ_CFG_TYPE q0); (s.canFetch q0 (Entry.units e) = true) ∧ (r.jobs = []) ∧ (r.mute = false) ∧ (Entry.malformed e opTimedAction rx = false) ∧ (let a : Ta := have __src := s.taOfEntry q0 s.qe.nextJob e; { dt := __src.dt, addr := __src.addr, value := __src.value, mask := __src.mask, period := __src.period, rep := __src.rep, lateDiscard := __src.lateDiscard, kind := __src.kind, pad := __src.pad, level := __src.level, owner := __src.owner, late := __src.late, refused := __src.refused, tag := __src.tag, queue := some (q0, r.fetch), seq := __src.seq, due := __src.due, passed := __src.passed }; (a.kind ≠ 0) ∧ (a.kind = 1 → a.addr % 4 = 0) ∧ (a.period = 0 ∨ 1000 ≤ a.period) ∧ (s.taFree = some i)))))) (3) (eTa 1 4) (jq 0 [] Sq.empty) (0)) ∧
    ((fun (q : BitVec 10) (e : List Byte) (s : State) (id : ℕ) (nb : ℕ) (pos : ℕ) => (let q0 : ℕ := q.toNat; (let r : Sq := s.sq q0; (r.fence = some (id, nb)) ∧ (r.mute = false) ∧ (nb ≤ s.dt) ∧ (r.jobs = [{ id := id, pos := pos, op := 10, units := 1, tag := 5, compl := false, rung := 7, started := false, done := none, solo := false }])))) (3) (eTa 1 3) (jq 0 [] { Sq.empty with fence := some (99, 0), jobs := [⟨99, 14, 10, 1, 5, false, 7, false, none, false⟩] }) (99) (0) (14)) :=
  by decide

theorem test_OtherQueueEntries_8 :
    ((fun (q : BitVec 10) (e : List Byte) (s : State) (id : ℕ) (nb : ℕ) (pos : ℕ) => (let q0 : ℕ := q.toNat; (let r : Sq := s.sq q0; (r.fence = some (id, nb)) ∧ (r.mute = false) ∧ (s.dt < nb)))) (3) (eTa 1 3) (jq 0 [] { Sq.empty with fence := some (99, 1), jobs := [⟨99, 14, 10, 1, 5, false, 7, false, none, false⟩] }) (99) (1) (14)) :=
  by decide

theorem test_OtherQueueEntries_9 :
    ((fun (q : BitVec 10) (e : List Byte) (s : State) => (let q0 : ℕ := q.toNat; (let r : Sq := s.sq q0; (let rx : Bool := s.on (F.QE_SQ_CFG_TYPE q0); (s.canFetch q0 (Entry.units e) = true) ∧ (r.jobs = []) ∧ (s.gyTakes = false) ∧ (Entry.malformed e opPointWrite rx = false))))) (3) (ePw) (gyFull (jq 0 [] Sq.empty))) :=
  ⟨by decide, by decide, gyFull_takes _, by decide⟩

theorem test_OtherQueueEntries_10 :
    ((fun (q : BitVec 10) (e : List Byte) (s : State) => (let q0 : ℕ := q.toNat; (let r : Sq := s.sq q0; (let rx : Bool := s.on (F.QE_SQ_CFG_TYPE q0); (s.canFetch q0 (Entry.units e) = true) ∧ (r.jobs = []) ∧ (s.gyTakes = false) ∧ (Entry.malformed e opPointRead rx = false))))) (3) (ePr) (gyFull (jq 0 [] Sq.empty))) :=
  ⟨by decide, by decide, gyFull_takes _, by decide⟩

theorem test_OtherQueueEntries_11 :
    ((fun (q : BitVec 10) (e : List Byte) (s : State) => (let q0 : ℕ := q.toNat; (let r : Sq := s.sq q0; (let rx : Bool := s.on (F.QE_SQ_CFG_TYPE q0); (s.canFetch q0 (Entry.units e) = true) ∧ (r.jobs = []) ∧ (s.gyTakes = false) ∧ (Entry.malformed e opSubscribe rx = false))))) (3) (eSub) (gyFull (jq 0 [] Sq.empty))) :=
  ⟨by decide, by decide, gyFull_takes _, by decide⟩

theorem test_OtherQueueEntries_12 :
    ((fun (q : BitVec 10) (e : List Byte) (s : State) => (let q0 : ℕ := q.toNat; (let r : Sq := s.sq q0; (let rx : Bool := s.on (F.QE_SQ_CFG_TYPE q0); (s.canFetch q0 (Entry.units e) = true) ∧ (r.jobs = []) ∧ (r.mute = false) ∧ (Entry.malformed e opTimedAction rx = false) ∧ (let a : Ta := { s.taOfEntry q0 s.qe.nextJob e with queue := some (q0, r.fetch) }; (a.kind ≠ 0) ∧ (a.kind = 1 → a.addr % 4 = 0) ∧ (a.period = 0 ∨ 1000 ≤ a.period) ∧ (s.taFree = none)))))) (3) (eTa 1 4) (let s := jq 0 [] Sq.empty; { s with kn := { s.kn with tas := taFull } })) :=
  ⟨by decide, by decide, by decide, by decide, by decide, by decide, by decide, taFull_free _ rfl⟩

theorem test_DmaChannels_1 :
    ((fun (m : ℕ) (c : Fin 16) (v : BitVec 6) (s : State) => (let i : ℕ := ↑c; (let mine : Prop := m = s.chOwner i ∨ m = 0; (s.accepts m (983296 + 64 * i + 24) permW) ∧ (¬mine)))) (0x20) (13) (0) (bmeOn (dmS [(F.CH_OWNER 13, 3), (F.CH_STAT_STATE 13, 4)] 13 (fun r => r)))) ∧
    ((fun (m : ℕ) (c : Fin 16) (v : BitVec 6) (s : State) => (let i : ℕ := ↑c; (let mine : Prop := m = s.chOwner i ∨ m = 0; (s.accepts m (983352 + 64 * i) permDB) ∧ (¬mine)))) (0x20) (13) (0) (bmeOn (dmS [(F.CH_OWNER 13, 3), (F.CH_STAT_STATE 13, 4)] 13 (fun r => r)))) ∧
    ((fun (m : ℕ) (c : Fin 16) (v : BitVec 6) (s : State) => (let i : ℕ := ↑c; (let st : ℕ := s.rd (F.CH_STAT_STATE i); (s.accepts m (983344 + 64 * i) permW) ∧ (s.may 15 m permADM = true) ∧ (i < 14) ∧ (m = 0 ∨ m = 32) ∧ (st = 4 ∨ st = 0 ∧ v ≠ 0 ∧ v ≠ 3 ∧ v ≠ 32)))) (0x20) (13) (0) (bmeOn (dmS [(F.CH_OWNER 13, 3), (F.CH_STAT_STATE 13, 4)] 13 (fun r => r)))) ∧
    ((fun (m : ℕ) (c : Fin 16) (v : BitVec 6) (s : State) => (s.accepts m 983044 permW)) (0x20) (13) (0) (bmeOn (dmS [(F.CH_OWNER 13, 3), (F.CH_STAT_STATE 13, 4)] 13 (fun r => r)))) ∧
    ((fun (m : ℕ) (c : Fin 16) (v : BitVec 6) (s : State) => (let i : ℕ := ↑c; (let mine : Prop := m = s.chOwner i ∨ m = 0; (let st : ℕ := s.rd (F.CH_STAT_STATE i); (let ready : Prop := s.on (F.CH_CTRL_EN i) = true ∧ s.on F.DMA_CTRL_EN = true ∧ s.on F.DMA_STATUS_HALT = false ∧ (st = 0 ∨ st = 4); (s.accepts m (983296 + 64 * i + 24) permW) ∧ (mine) ∧ (ready) ∧ (s.rd (F.CH_COUNT i) = 0) ∧ (s.on (F.CH_CFG_IRQ i) = false)))))) (0x20) (13) (3) (bmeOn (dmS [(F.CH_OWNER 13, 0x20)] 13 (fun r => r)))) ∧
    ((fun (m : ℕ) (c : Fin 16) (v : BitVec 6) (s : State) => (let i : ℕ := ↑c; (let mine : Prop := m = s.chOwner i ∨ m = 0; (let st : ℕ := s.rd (F.CH_STAT_STATE i); (let ready : Prop := s.on (F.CH_CTRL_EN i) = true ∧ s.on F.DMA_CTRL_EN = true ∧ s.on F.DMA_STATUS_HALT = false ∧ (st = 0 ∨ st = 4); (s.accepts m (983296 + 64 * i + 24) permW) ∧ (mine) ∧ (ready) ∧ (s.chBme i false = true)))))) (0x20) (13) (3) (bmeOn (dmS [(F.CH_OWNER 13, 0x20)] 13 (fun r => r)))) :=
  by decide

theorem test_DmaChannels_2 :
    ((fun (m : ℕ) (c : Fin 16) (v : BitVec 6) (s : State) => (let i : ℕ := ↑c; (let mine : Prop := m = s.chOwner i ∨ m = 0; (let st : ℕ := s.rd (F.CH_STAT_STATE i); (s.accepts m (983296 + 64 * i + 24) permW) ∧ (mine) ∧ (st ≠ 3 ∨ s.on F.DMA_STATUS_HALT = true))))) (0x20) (13) (3) (bmeOn (dmS [(F.CH_OWNER 13, 0x20)] 13 (fun r => r)))) ∧
    ((fun (m : ℕ) (c : Fin 16) (v : BitVec 6) (s : State) => (let i : ℕ := ↑c; (let mine : Prop := m = s.chOwner i ∨ m = 0; (s.accepts m (983296 + 64 * i + 24) permW) ∧ (mine) ∧ ((match (s.ch i).act with | ChDo.pool x q id prio => false | x => true) = true)))) (0x20) (13) (3) (bmeOn (dmS [(F.CH_OWNER 13, 0x20)] 13 (fun r => r)))) ∧
    ((fun (m : ℕ) (c : Fin 16) (v : BitVec 6) (s : State) => (let i : ℕ := ↑c; (let mine : Prop := m = s.chOwner i ∨ m = 0; (let st : ℕ := s.rd (F.CH_STAT_STATE i); (s.accepts m (983352 + 64 * i) permDB) ∧ (mine) ∧ (st ≠ 1) ∧ (st ≠ 2))))) (0x20) (13) (3) (bmeOn (dmS [(F.CH_OWNER 13, 0x20)] 13 (fun r => r)))) ∧
    ((fun (m : ℕ) (c : Fin 16) (v : BitVec 6) (s : State) => (let i : ℕ := ↑c; (let st : ℕ := s.rd (F.CH_STAT_STATE i); (s.accepts m (983344 + 64 * i) permW) ∧ (s.may 15 m permADM = true) ∧ (i < 14) ∧ (m = 0 ∨ m = 32) ∧ (st = 0) ∧ (v = 0 ∨ v = 3 ∨ v = 32)))) (0x20) (13) (3) (bmeOn (dmS [(F.CH_OWNER 13, 0x20)] 13 (fun r => r)))) ∧
    ((fun (m : ℕ) (c : Fin 16) (v : BitVec 6) (s : State) => (s.accepts m 983040 permW) ∧ (∀ k < 16, s.chState k = 0 ∧ s.ch k = Ch.empty)) (0x20) (13) (3) (bmeOn (dmS [(F.CH_OWNER 13, 0x20)] 13 (fun r => r)))) ∧
    ((fun (m : ℕ) (c : Fin 16) (v : BitVec 6) (s : State) => (let i : ℕ := ↑c; (let mine : Prop := m = s.chOwner i ∨ m = 0; (let st : ℕ := s.rd (F.CH_STAT_STATE i); (let ready : Prop := s.on (F.CH_CTRL_EN i) = true ∧ s.on F.DMA_CTRL_EN = true ∧ s.on F.DMA_STATUS_HALT = false ∧ (st = 0 ∨ st = 4); (s.accepts m (983296 + 64 * i + 24) permW) ∧ (mine) ∧ (ready) ∧ (0 < s.rd (F.CH_COUNT i)) ∧ (s.chBme i false = true)))))) (0x20) (15) (3) (bmeOn (dmS [(F.CH_OWNER 15, 0x20), (F.CH_CTRL_EN 15, 1), (F.CH_COUNT 15, 0xFFFFFF), (F.DMA_STATUS_BUSY, 2)] 15 (fun r => r)))) :=
  by decide

theorem test_DmaChannels_3 :
    ((fun (m : ℕ) (c : Fin 16) (v : BitVec 6) (s : State) => (let i : ℕ := ↑c; (s.accepts m (983344 + 64 * i) permW) ∧ (s.may 15 m permADM = true) ∧ (14 ≤ i ∨ m ≠ 0 ∧ m ≠ 32))) (0x20) (15) (3) (bmeOn (dmS [(F.CH_OWNER 15, 0x20), (F.CH_CTRL_EN 15, 1), (F.CH_COUNT 15, 0xFFFFFF), (F.DMA_STATUS_BUSY, 2)] 15 (fun r => r)))) ∧
    ((fun (m : ℕ) (c : Fin 16) (v : BitVec 6) (s : State) => (let i : ℕ := ↑c; (let mine : Prop := m = s.chOwner i ∨ m = 0; (let st : ℕ := s.rd (F.CH_STAT_STATE i); (let ready : Prop := s.on (F.CH_CTRL_EN i) = true ∧ s.on F.DMA_CTRL_EN = true ∧ s.on F.DMA_STATUS_HALT = false ∧ (st = 0 ∨ st = 4); (s.accepts m (983296 + 64 * i + 24) permW) ∧ (mine) ∧ (ready) ∧ (s.chBme i false = false) ∧ (s.on F.DMA_CTRL_ATTRIB = true) ∧ (s.on (F.CH_CFG_IRQ i) = false) ∧ (0 < s.rd (F.CH_COUNT i))))))) (0x20) (15) (3) (bmeOff (dmS [(F.DMA_CTRL_ATTRIB, 1), (F.CH_OWNER 15, 0x20), (F.CH_CTRL_EN 15, 1), (F.CH_COUNT 15, 0xFFFFFF), (F.DMA_STATUS_BUSY, 2)] 15 (fun r => r)))) ∧
    ((fun (m : ℕ) (c : Fin 16) (v : BitVec 6) (s : State) => (let i : ℕ := ↑c; (let mine : Prop := m = s.chOwner i ∨ m = 0; (let st : ℕ := s.rd (F.CH_STAT_STATE i); (let ready : Prop := s.on (F.CH_CTRL_EN i) = true ∧ s.on F.DMA_CTRL_EN = true ∧ s.on F.DMA_STATUS_HALT = false ∧ (st = 0 ∨ st = 4); (s.accepts m (983296 + 64 * i + 24) permW) ∧ (mine) ∧ (¬ready)))))) (0x20) (13) (0x20) (bmeOn (dmS (own13 ++ [(F.CH_STAT_STATE 13, 3)]) 13 (fun r => { r with was := 1, act := .regs xf })))) ∧
    ((fun (m : ℕ) (c : Fin 16) (v : BitVec 6) (s : State) (x : Xfer) => (let i : ℕ := ↑c; (let mine : Prop := m = s.chOwner i ∨ m = 0; (let st : ℕ := s.rd (F.CH_STAT_STATE i); (s.accepts m (983296 + 64 * i + 24) permW) ∧ (mine) ∧ (st = 3) ∧ (s.on F.DMA_STATUS_HALT = false) ∧ (s.chBme i false = true) ∧ ((s.ch i).was = 1) ∧ ((s.ch i).act = ChDo.regs x) ∧ (x.srcFixed = false) ∧ (x.dstFixed = false) ∧ (x.count < 2 ^ 24))))) (0x20) (13) (0x20) (bmeOn (dmS (own13 ++ [(F.CH_STAT_STATE 13, 3)]) 13 (fun r => { r with was := 1, act := .regs xf }))) (xf)) ∧
    ((fun (m : ℕ) (c : Fin 16) (v : BitVec 6) (s : State) => (let i : ℕ := ↑c; (let st : ℕ := s.rd (F.CH_STAT_STATE i); (s.accepts m (983344 + 64 * i) permW) ∧ (s.may 15 m permADM = true) ∧ (i < 14) ∧ (m = 0 ∨ m = 32) ∧ (1 ≤ st) ∧ (st ≤ 3) ∧ (v.toNat = s.chOwner i)))) (0x20) (13) (0x20) (bmeOn (dmS (own13 ++ [(F.CH_STAT_STATE 13, 3)]) 13 (fun r => { r with was := 1, act := .regs xf })))) ∧
    ((fun (m : ℕ) (c : Fin 16) (v : BitVec 6) (s : State) => (let i : ℕ := ↑c; (let mine : Prop := m = s.chOwner i ∨ m = 0; (let st : ℕ := s.rd (F.CH_STAT_STATE i); (s.accepts m (983296 + 64 * i + 24) permW) ∧ (mine) ∧ (st = 3) ∧ (s.on F.DMA_STATUS_HALT = false) ∧ (s.chBme i false = true) ∧ ((s.ch i).was = 2))))) (0x20) (13) (0x20) (bmeOn (dmS (own13 ++ [(F.CH_STAT_STATE 13, 3)]) 13 (fun r => { r with was := 2, act := .wait true })))) :=
  by decide

theorem test_DmaChannels_4 :
    ((fun (m : ℕ) (c : Fin 16) (v : BitVec 6) (s : State) => (let i : ℕ := ↑c; (let mine : Prop := m = s.chOwner i ∨ m = 0; (let st : ℕ := s.rd (F.CH_STAT_STATE i); (s.accepts m (983352 + 64 * i) permDB) ∧ (mine) ∧ (st = 1))))) (0x20) (13) (0x20) (bmeOn (dmS (own13 ++ [(F.CH_STAT_STATE 13, 1)]) 13 (fun r => { r with was := 2, act := .wait true })))) ∧
    ((fun (m : ℕ) (c : Fin 16) (v : BitVec 6) (s : State) => (let i : ℕ := ↑c; (let mine : Prop := m = s.chOwner i ∨ m = 0; (let st : ℕ := s.rd (F.CH_STAT_STATE i); (s.accepts m (983352 + 64 * i) permDB) ∧ (mine) ∧ (st = 2) ∧ (s.chBme i false = true))))) (0x20) (13) (0x20) (bmeOn (dmS (own13 ++ [(F.CH_STAT_STATE 13, 2)]) 13 (fun r => { r with was := 2, act := .wait true, reading := true })))) ∧
    ((fun (q : BitVec 10) (e : List Byte) (s : State) => (let q0 : ℕ := q.toNat; (let r : Sq := s.sq q0; (s.canFetch q0 (Entry.units e) = true) ∧ (Entry.malformed e opDmaCopy (s.on (F.QE_SQ_CFG_TYPE q0)) = false) ∧ (r.jobs = []) ∧ (s.pt.copies.length < 256)))) (3) (eCp) (jq 0 [] Sq.empty)) ∧
    ((fun (q : BitVec 10) (e : List Byte) (s : State) => (let q0 : ℕ := q.toNat; (s.canFetch q0 (Entry.units e) = false) ∧ (s.pt.copies.length < 256))) (3) (eCp) (jq 1 [(F.QE_CTRL_EN, 0), (F.CH_OWNER 13, 3), (F.CH_CTRL_EN 13, 1), (F.DMA_CTRL_EN, 1)] Sq.empty)) ∧
    ((fun (j : CopyJob) (c : ℕ) (s : State) => (s.pt.copies = [j]) ∧ (s.poolChannel = some c) ∧ (0 < j.len) ∧ (bits s.pcie.bme (fnOf (s.sqOwner j.q)) 1 = 1) ∧ (s.on F.PT_TRACE_CTRL_EN = false) ∧ ((s.sq j.q).jobs = [])) (cj) (0) (bmeOn ({ jq 0 [(F.CH_OWNER 13, 3), (F.CH_CTRL_EN 13, 1), (F.DMA_CTRL_EN, 1)] Sq.empty with pt := { Pt.reset with copies := [cj] } }))) ∧
    ((fun (j : CopyJob) (c : ℕ) (s : State) => (s.pt.copies = [j]) ∧ (s.poolChannel = none)) (cj) (0) ({ jq 0 [] Sq.empty with pt := { Pt.reset with copies := [cj] } })) :=
  by decide

theorem test_DmaChannels_5 :
    ((fun (q : BitVec 10) (e : List Byte) (s : State) => (256 ≤ s.pt.copies.length) ∧ (Entry.opcode e = opDmaCopy)) (3) (eCp) ({ jq 0 [] Sq.empty with pt := { Pt.reset with copies := List.replicate 256 cj } })) :=
  by decide

theorem test_DmaDataAndErrors_1 :
    ((fun (c : Fin 16) (b : List Byte) (data : List Byte) (cause : Fin 4) (addr : DWord) (issued : ℕ) (s : State) => (let i : ℕ := ↑c; (let st : ℕ := s.rd (F.CH_STAT_STATE i); (st ≠ 1 ∧ st ≠ 2 ∨ (s.ch i).reading = false)))) (13) (dsc 0x80 0) (d20) (3) (0xFFFFFFFFFFFFFFFF) (0) (bmeOn (dmS own13 13 (fun r => r)))) ∧
    ((fun (c : Fin 16) (b : List Byte) (data : List Byte) (cause : Fin 4) (addr : DWord) (issued : ℕ) (s : State) => (let i : ℕ := ↑c; (let st : ℕ := s.rd (F.CH_STAT_STATE i); (st ≠ 1 ∧ st ≠ 2 ∨ s.on F.DMA_CTRL_EN = false)))) (13) (dsc 0x80 0) (d20) (3) (0xFFFFFFFFFFFFFFFF) (0) (bmeOn (dmS own13 13 (fun r => r)))) ∧
    ((fun (c : Fin 16) (b : List Byte) (data : List Byte) (cause : Fin 4) (addr : DWord) (issued : ℕ) (s : State) => (let i : ℕ := ↑c; (let st : ℕ := s.rd (F.CH_STAT_STATE i); (let own : ℕ := bits (leNat (slice b 31 1)) 7 1; (s.on F.DMA_CTRL_EN = true) ∧ ((s.ch i).reading = true) ∧ (b.length = 32) ∧ (∀ (d : Bool), s.chBme i d = true) ∧ (st = 1) ∧ ((s.ch i).act = ChDo.fetch) ∧ (own = 1))))) (13) (dsc 0x80 0) (d20) (3) (0xFFFFFFFFFFFFFFFF) (0) (bmeOn (dmS (own13 ++ [(F.CH_STAT_STATE 13, 1)]) 13 (fun r => { r with act := .fetch, reading := true })))) ∧
    ((fun (c : Fin 16) (b : List Byte) (data : List Byte) (cause : Fin 4) (addr : DWord) (issued : ℕ) (s : State) => (let i : ℕ := ↑c; (let st : ℕ := s.rd (F.CH_STAT_STATE i); (st = 1) ∧ (s.on F.DMA_CTRL_EN = true) ∧ ((s.ch i).act = ChDo.fetch) ∧ ((s.ch i).reading = true) ∧ (s.on F.DMA_CTRL_ATTRIB = false)))) (13) (dsc 0x80 0) (d20) (3) (0xFFFFFFFFFFFFFFFF) (0) (bmeOn (dmS (own13 ++ [(F.CH_STAT_STATE 13, 1)]) 13 (fun r => { r with act := .fetch, reading := true })))) ∧
    ((fun (c : Fin 16) (b : List Byte) (data : List Byte) (cause : Fin 4) (addr : DWord) (issued : ℕ) (s : State) => (let i : ℕ := ↑c; (let st : ℕ := s.rd (F.CH_STAT_STATE i); (let own : ℕ := bits (leNat (slice b 31 1)) 7 1; (s.on F.DMA_CTRL_EN = true) ∧ ((s.ch i).reading = true) ∧ (b.length = 32) ∧ (∀ (d : Bool), s.chBme i d = true) ∧ (st = 1) ∧ ((s.ch i).act = ChDo.fetch) ∧ (own = 0))))) (13) (dsc 0x00 0) (d20) (3) (0xFFFFFFFFFFFFFFFF) (0) (bmeOn (dmS (own13 ++ [(F.DMA_CTRL_ATTRIB, 1), (F.CH_STAT_STATE 13, 1), (F.CH_STAT_DB_PEND 13, 1)]) 13 (fun r => { r with act := .fetch, reading := true })))) ∧
    ((fun (c : Fin 16) (b : List Byte) (data : List Byte) (cause : Fin 4) (addr : DWord) (issued : ℕ) (s : State) => (let i : ℕ := ↑c; (let st : ℕ := s.rd (F.CH_STAT_STATE i); (st = 1) ∧ (s.on F.DMA_CTRL_EN = true) ∧ ((s.ch i).act = ChDo.fetch) ∧ ((s.ch i).reading = true) ∧ (s.on F.DMA_CTRL_ATTRIB = true)))) (13) (dsc 0x00 0) (d20) (3) (0xFFFFFFFFFFFFFFFF) (0) (bmeOn (dmS (own13 ++ [(F.DMA_CTRL_ATTRIB, 1), (F.CH_STAT_STATE 13, 1), (F.CH_STAT_DB_PEND 13, 1)]) 13 (fun r => { r with act := .fetch, reading := true })))) :=
  by decide

theorem test_DmaDataAndErrors_2 :
    ((fun (c : Fin 16) (b : List Byte) (data : List Byte) (cause : Fin 4) (addr : DWord) (issued : ℕ) (s : State) => (let i : ℕ := ↑c; (let st : ℕ := s.rd (F.CH_STAT_STATE i); (let next : ℕ := leNat (slice b 16 8); (s.on F.DMA_CTRL_EN = true) ∧ ((s.ch i).reading = true) ∧ (b.length = 32) ∧ (∀ (d : Bool), s.chBme i d = true) ∧ (st = 2) ∧ ((s.ch i).act = ChDo.wait false) ∧ (next % 2 = 0))))) (13) (dsc 0x00 0x40) (d20) (3) (0xFFFFFFFFFFFFFFFF) (0) (bmeOn (dmS (own13 ++ [(F.CH_STAT_STATE 13, 2), (F.CH_STAT_HOPS 13, 1)]) 13 (fun r => { r with act := .wait false, reading := true, again := true })))) ∧
    ((fun (c : Fin 16) (b : List Byte) (data : List Byte) (cause : Fin 4) (addr : DWord) (issued : ℕ) (s : State) => (let i : ℕ := ↑c; (let st : ℕ := s.rd (F.CH_STAT_STATE i); (let next : ℕ := leNat (slice b 16 8); (s.on F.DMA_CTRL_EN = true) ∧ ((s.ch i).reading = true) ∧ (b.length = 32) ∧ (∀ (d : Bool), s.chBme i d = true) ∧ (st = 2) ∧ ((s.ch i).act = ChDo.wait false) ∧ (next % 2 = 1))))) (13) (dsc 0x00 1) (d20) (3) (0xFFFFFFFFFFFFFFFF) (0) (bmeOn (dmS (own13 ++ [(F.CH_STAT_STATE 13, 2), (F.CH_STAT_HOPS 13, 1)]) 13 (fun r => { r with act := .wait false, reading := true, again := true })))) ∧
    ((fun (c : Fin 16) (b : List Byte) (data : List Byte) (cause : Fin 4) (addr : DWord) (issued : ℕ) (s : State) (x : Xfer) => (let i : ℕ := ↑c; (let st : ℕ := s.rd (F.CH_STAT_STATE i); ((s.ch i).act = ChDo.regs x) ∧ (st = 1) ∧ (data.length = x.count) ∧ (s.on F.DMA_CTRL_EN = true) ∧ (∀ (d : Bool), s.chBme i d = true) ∧ (x.srcFixed = false) ∧ (x.dstFixed = false) ∧ (s.on (F.CH_CFG_IRQ i) = false) ∧ (BitVec.toNat x.src + x.count < 2 ^ 64) ∧ (BitVec.toNat x.dst + x.count < 2 ^ 64)))) (13) (dsc 0x00 1) (d20) (3) (5) (0) (bmeOn (dmS (own13 ++ [(F.CH_STAT_STATE 13, 1)]) 13 (fun r => { r with act := .regs xf }))) (xf)) ∧
    ((fun (c : Fin 16) (b : List Byte) (data : List Byte) (cause : Fin 4) (addr : DWord) (issued : ℕ) (s : State) (x : Xfer) => (let i : ℕ := ↑c; (let st : ℕ := s.rd (F.CH_STAT_STATE i); (st = 1) ∧ (s.on F.DMA_CTRL_EN = true) ∧ ((s.ch i).act = ChDo.regs x) ∧ (s.on (F.CH_CFG_IRQ i) = false)))) (13) (dsc 0x00 1) (d20) (3) (5) (0) (bmeOn (dmS (own13 ++ [(F.CH_STAT_STATE 13, 1)]) 13 (fun r => { r with act := .regs xf }))) (xf)) ∧
    ((fun (c : Fin 16) (b : List Byte) (data : List Byte) (cause : Fin 4) (addr : DWord) (issued : ℕ) (s : State) (x : Xfer) => (let i : ℕ := ↑c; (let st : ℕ := s.rd (F.CH_STAT_STATE i); ((s.ch i).act = ChDo.regs x) ∧ (st ≠ 1 ∨ data.length ≠ x.count)))) (13) (dsc 0x00 1) (d20) (3) (5) (0) (bmeOn (dmS (own13 ++ [(F.CH_STAT_STATE 13, 3)]) 13 (fun r => { r with act := .regs xf }))) (xf)) ∧
    ((fun (c : Fin 16) (b : List Byte) (data : List Byte) (cause : Fin 4) (addr : DWord) (issued : ℕ) (s : State) (x : Xfer) (irq : Bool) => (let i : ℕ := ↑c; (let st : ℕ := s.rd (F.CH_STAT_STATE i); (let next : ℕ := leNat (slice b 16 8); ((s.ch i).act = ChDo.desc x next irq) ∧ (st = 1) ∧ (data.length = x.count) ∧ (s.on F.DMA_CTRL_EN = true) ∧ (∀ (d : Bool), s.chBme i d = true) ∧ (next % 2 = 1))))) (13) (dsc 0x00 1) (d20) (3) (5) (0) (bmeOn (dmS (own13 ++ [(F.CH_STAT_STATE 13, 1)]) 13 (fun r => { r with act := .desc xf 1 true }))) (xf) (true)) :=
  by decide

theorem test_CellsChainsAndHolders_1 :
    ((fun (c : ℕ) (ch : Chain) (s : State) => (s.chain c = some ch) ∧ (ch.charge < 64) ∧ (c < 2 ^ 19) ∧ (let q : ℕ := poolOfChain c; (let used : Fld := F.GR_QUSED_q_m q ch.charge; (s.cellDecide ch.charge q ch.cells.length = none) ∧ (s.rd used + 1 < 2 ^ 23)))) (5) (ch0) (grS [] 5 ch0)) ∧
    ((fun (c : ℕ) (ch : Chain) (s : State) (m : ℕ) (data : List Byte) => (s.chain c = some ch) ∧ (ch.charge < 64) ∧ (c < 2 ^ 19) ∧ (m = ch.charge)) (5) (ch0) (grS [] 5 ch0) (0x20) ([7])) ∧
    ((fun (c : ℕ) (ch : Chain) (s : State) (m : ℕ) (data : List Byte) => (s.chain c = some ch) ∧ (ch.charge < 64) ∧ (c < 2 ^ 19) ∧ (let q : ℕ := poolOfChain c; (m = ch.charge) ∧ (ch.complete = false) ∧ (s.cellDecide ch.charge q ch.cells.length = none))) (5) (ch0) (grS [] 5 ch0) (0x20) ([7])) ∧
    ((fun (c : ℕ) (ch : Chain) (s : State) (m : ℕ) (n : ℕ) => (s.chain c = some ch) ∧ (ch.charge < 64) ∧ (c < 2 ^ 19) ∧ (m < 64) ∧ (s.gr.ops = []) ∧ (ch.held m = true) ∧ (reservedId n = false) ∧ (ch.held n = false)) (5) (ch0) (grS [] 5 ch0) (0x20) (0x21)) ∧
    ((fun (c : ℕ) (ch : Chain) (s : State) (m : ℕ) (n : ℕ) => (s.chain c = some ch) ∧ (ch.charge < 64) ∧ (c < 2 ^ 19) ∧ (let q : ℕ := poolOfChain c; (m < 64) ∧ (s.gr.ops = []) ∧ (ch.held m = true) ∧ (ch.holders = 2 ^ m) ∧ (q = 0) ∧ (s.on F.GR_CTRL_WIPE0 = false))) (5) (ch0) (grS [] 5 ch0) (0x20) (0x21)) ∧
    ((fun (c : ℕ) (ch : Chain) (s : State) (m : ℕ) (data : List Byte) => (s.chain c = some ch) ∧ (ch.charge < 64) ∧ (c < 2 ^ 19) ∧ (m ≠ ch.charge ∨ ch.complete = true)) (5) ({ ch0 with charge := 0x21 }) (grS [] 5 { ch0 with charge := 0x21 }) (0x20) ([7])) :=
  by decide

theorem test_CellsChainsAndHolders_2 :
    ((fun (c : ℕ) (ch : Chain) (s : State) (m : ℕ) (data : List Byte) => (s.chain c = some ch) ∧ (ch.charge < 64) ∧ (c < 2 ^ 19) ∧ (m ≠ ch.charge)) (5) ({ ch0 with charge := 0x21 }) (grS [] 5 { ch0 with charge := 0x21 }) (0x20) ([7])) ∧
    ((fun (c : ℕ) (ch : Chain) (s : State) => (s.chain c = some ch) ∧ (ch.charge < 64) ∧ (c < 2 ^ 19) ∧ (let q : ℕ := poolOfChain c; (s.cellDecide ch.charge q ch.cells.length = some CellFail.empty))) (5) (ch0) (grS [(F.GR_CTRL_EN, 0), (F.GR_CTRL_WIPE0, 1)] 5 ch0)) ∧
    ((fun (c : ℕ) (ch : Chain) (s : State) (m : ℕ) (n : ℕ) => (s.chain c = some ch) ∧ (ch.charge < 64) ∧ (c < 2 ^ 19) ∧ (m < 64) ∧ (s.gr.ops = []) ∧ (ch.held m = true) ∧ (reservedId n = false) ∧ (ch.held n = true)) (5) (ch0) (grS [(F.GR_CTRL_EN, 0), (F.GR_CTRL_WIPE0, 1)] 5 ch0) (0x20) (0x20)) ∧
    ((fun (c : ℕ) (ch : Chain) (s : State) (m : ℕ) (n : ℕ) => (s.chain c = some ch) ∧ (ch.charge < 64) ∧ (c < 2 ^ 19) ∧ (let q : ℕ := poolOfChain c; (m < 64) ∧ (s.gr.ops = []) ∧ (ch.held m = true) ∧ (ch.holders = 2 ^ m) ∧ (q = 0) ∧ (s.on F.GR_CTRL_WIPE0 = true))) (5) (ch0) (grS [(F.GR_CTRL_EN, 0), (F.GR_CTRL_WIPE0, 1)] 5 ch0) (0x20) (0x20)) ∧
    ((fun (c : ℕ) (ch : Chain) (s : State) => (s.chain c = some ch) ∧ (ch.charge < 64) ∧ (c < 2 ^ 19) ∧ (let q : ℕ := poolOfChain c; (s.cellDecide ch.charge q ch.cells.length = some CellFail.quota))) (2 ^ 18 + 5) ({ ch0 with complete := true, holders := 2 ^ 0x20 + 1 }) (grS [(F.GR_QMAX_q_m 1 0x20, 1), (F.GR_QRSV_q_m 1 0x20, 0)] (2 ^ 18 + 5) { ch0 with complete := true, holders := 2 ^ 0x20 + 1 })) ∧
    ((fun (c : ℕ) (ch : Chain) (s : State) (m : ℕ) (n : ℕ) => (s.chain c = some ch) ∧ (ch.charge < 64) ∧ (c < 2 ^ 19) ∧ (m < 64) ∧ (s.gr.ops = []) ∧ (ch.held m = true) ∧ (reservedId n = true)) (2 ^ 18 + 5) ({ ch0 with complete := true, holders := 2 ^ 0x20 + 1 }) (grS [(F.GR_QMAX_q_m 1 0x20, 1), (F.GR_QRSV_q_m 1 0x20, 0)] (2 ^ 18 + 5) { ch0 with complete := true, holders := 2 ^ 0x20 + 1 }) (0x20) (0x12)) :=
  by decide

theorem test_CellsChainsAndHolders_3 :
    ((fun (c : ℕ) (ch : Chain) (s : State) (m : ℕ) (n : ℕ) => (s.chain c = some ch) ∧ (ch.charge < 64) ∧ (c < 2 ^ 19) ∧ (m < 64) ∧ (s.gr.ops = []) ∧ (ch.held m = true) ∧ (ch.holders ≠ 2 ^ m)) (2 ^ 18 + 5) ({ ch0 with complete := true, holders := 2 ^ 0x20 + 1 }) (grS [(F.GR_QMAX_q_m 1 0x20, 1), (F.GR_QRSV_q_m 1 0x20, 0)] (2 ^ 18 + 5) { ch0 with complete := true, holders := 2 ^ 0x20 + 1 }) (0x20) (0x12)) ∧
    ((fun (c : ℕ) (ch : Chain) (s : State) => (s.chain c = some ch) ∧ (ch.charge < 64) ∧ (c < 2 ^ 19) ∧ (let q : ℕ := poolOfChain c; (s.cellDecide ch.charge q ch.cells.length = some CellFail.limit))) (5) ({ ch0 with cells := List.replicate 4096 9 }) (grS [(F.GR_CTRL_WIPE0, 0)] 5 { ch0 with cells := List.replicate 4096 9 })) ∧
    ((fun (c : ℕ) (ch : Chain) (s : State) (m : ℕ) (n : ℕ) => (s.chain c = some ch) ∧ (ch.charge < 64) ∧ (c < 2 ^ 19) ∧ (m < 64) ∧ (s.gr.ops = []) ∧ (ch.held m = false) ∧ (n < 64)) (5) ({ ch0 with cells := List.replicate 4096 9 }) (grS [(F.GR_CTRL_WIPE0, 0)] 5 { ch0 with cells := List.replicate 4096 9 }) (0x2F) (0x12)) ∧
    ((fun (r1 : CellReq) (r2 : CellReq) (s : State) => (s.arbKey (s.reqMaster r1) < s.arbKey (s.reqMaster r2)) ∧ (s.reqDecide r1 = none) ∧ ((s.reqServe r1).reqDecide r2 = none)) (.next 5) (.first ⟨0x2F, none, false, none⟩) (grS [(F.GR_QMAX_q_m 0 0x2F, 5), (F.GR_RR_CLASS3, 0x1F)] 5 ch0)) ∧
    ((fun (a : ℕ) (l : List ℕ) (s : State) => (s.gr.wipe0 = a :: l)) (5) ([6]) ({ St [(F.GR_FREE0, 131071)] with gr := { Gr.reset with wipe0 := [5, 6], wipe1 := [5, 6] } })) ∧
    ((fun (a : ℕ) (l : List ℕ) (s : State) => (s.gr.wipe1 = a :: l)) (5) ([6]) ({ St [(F.GR_FREE0, 131071)] with gr := { Gr.reset with wipe0 := [5, 6], wipe1 := [5, 6] } })) :=
  by decide

theorem test_CellsChainsAndHolders_4 :
    ((fun (a : ℕ) (l : List ℕ) (s : State) => (s.gr.wipe0 = [])) (5) ([6]) (St [])) ∧
    ((fun (a : ℕ) (l : List ℕ) (s : State) => (s.gr.wipe1 = [])) (5) ([6]) (St [])) ∧
    ((fun (m : ℕ) (isMax : Bool) (pool : Fin 2) (who : ℕ) (value : ℕ) (units : ℕ) (s : State) => (s.accepts m (724992 + 512 * ↑pool + 8 * who + if isMax = true then 4 else 0) permW) ∧ (s.may 11 m permADM = true) ∧ (who < 64) ∧ (allocClass who = 4)) (0) (true) (1) (0x12) (7) (128) (St [])) ∧
    ((fun (m : ℕ) (isMax : Bool) (pool : Fin 2) (who : ℕ) (value : ℕ) (units : ℕ) (s : State) => (s.accepts m 720904 permW) ∧ (s.may 11 m permADM = true) ∧ (s.on F.GR_CTRL_EN = false) ∧ (s.rsvSum 1 ≤ min 128 (units % 256) * 32768)) (0) (true) (1) (0x12) (7) (128) (St [])) ∧
    ((fun (m : ℕ) (isMax : Bool) (pool : Fin 2) (who : ℕ) (value : ℕ) (units : ℕ) (s : State) => (s.accepts m 786464 permW)) (0) (true) (1) (0x12) (7) (128) (St [])) ∧
    ((fun (m : ℕ) (isMax : Bool) (pool : Fin 2) (who : ℕ) (value : ℕ) (units : ℕ) (s : State) => (s.accepts m (724992 + 512 * ↑pool + 8 * who + if isMax = true then 4 else 0) permW) ∧ (s.may 11 m permADM = true) ∧ (who < 64) ∧ (allocClass who < 4) ∧ (isMax = true)) (0) (true) (1) (0x2F) (7) (0) (St [(F.GR_QRSV_q_m 1 8, 1)])) :=
  by decide

theorem test_CellsChainsAndHolders_5 :
    ((fun (m : ℕ) (isMax : Bool) (pool : Fin 2) (who : ℕ) (value : ℕ) (units : ℕ) (s : State) => (s.accepts m 720904 permW) ∧ (s.may 11 m permADM = true) ∧ (s.on F.GR_CTRL_EN = false) ∧ (min 128 (units % 256) * 32768 < s.rsvSum 1)) (0) (true) (1) (0x2F) (7) (0) (St [(F.GR_QRSV_q_m 1 8, 1)])) ∧
    ((fun (m : ℕ) (isMax : Bool) (pool : Fin 2) (who : ℕ) (value : ℕ) (units : ℕ) (s : State) => (s.accepts m (724992 + 512 * ↑pool + 8 * who + if isMax = true then 4 else 0) permW) ∧ (s.may 11 m permADM = true) ∧ (who < 64) ∧ (allocClass who < 4) ∧ (isMax = false) ∧ (s.poolSize ↑pool < s.rsvSum ↑pool - s.rd (F.GR_QRSV_q_m (↑pool) who) + value % 2 ^ 23)) (0) (false) (1) (0x2F) (2 ^ 22 + 1) (255) (St [])) ∧
    ((fun (m : ℕ) (isMax : Bool) (pool : Fin 2) (who : ℕ) (value : ℕ) (units : ℕ) (s : State) => (s.accepts m (724992 + 512 * ↑pool + 8 * who + if isMax = true then 4 else 0) permW) ∧ (s.may 11 m permADM = true) ∧ (who < 64) ∧ (allocClass who < 4) ∧ (isMax = false) ∧ (s.rsvSum ↑pool - s.rd (F.GR_QRSV_q_m (↑pool) who) + value % 2 ^ 23 ≤ s.poolSize ↑pool)) (0) (false) (0) (0x11) (1) (255) ({ St [(F.PT_TRACE_STAT_FULL, 1)] with pt := { Pt.reset with trace := [(0, 6)] } })) :=
  by decide

theorem test_HeatBindingAndPtpMessages_1 :
    ((fun (s : State) => (let win : ℕ := max 1 (s.rd F.PT_HEAT_CFG_WIN_MS) * 1000000; (s.tb.mono < s.pt.heatAt + win))) (St [])) ∧
    ((fun (s : State) => (let win : ℕ := max 1 (s.rd F.PT_HEAT_CFG_WIN_MS) * 1000000; (s.pt.heatAt + win ≤ s.tb.mono) ∧ (s.on F.PT_CTRL_HEAT_EN = false))) (atMono (ptS [(F.PT_CTRL_HEAT_EN, 0)] (fun r => r)) 100000000)) ∧
    ((fun (s : State) => (let win : ℕ := max 1 (s.rd F.PT_HEAT_CFG_WIN_MS) * 1000000; (s.pt.heatAt + win ≤ s.tb.mono) ∧ (s.on F.PT_CTRL_HEAT_EN = true) ∧ (s.on F.PT_STATUS_WIPING = false) ∧ (s.pt.heatCand = []))) (atMono (ptS [(F.PT_CTRL_HEAT_EN, 1)] (fun r => { r with heatHot := [(5, 9), (6, 1)] })) 100000000)) ∧
    ((fun (s : State) (p : ℕ) (r : Point) (h : ℕ) => (let win : ℕ := max 1 (s.rd F.PT_HEAT_CFG_WIN_MS) * 1000000; (s.pt.heatAt + win ≤ s.tb.mono) ∧ (s.on F.PT_CTRL_HEAT_EN = true) ∧ (s.on F.PT_STATUS_WIPING = false) ∧ (s.pt.heatCand = [(p, h)]) ∧ (s.point p = some r) ∧ (r.hot = false) ∧ (r.pin = 0) ∧ (s.gy.moves = []) ∧ (s.gy.moveReq = []) ∧ (s.rd F.GY_STATUS_HOT_USED < 131072) ∧ (s.rd F.PT_HEAT_CFG_PROMOTE_MIN ≤ h) ∧ (0 < s.rd F.PT_MOVE_MAX))) (atMono (gyS (ptS [(F.PT_CTRL_HEAT_EN, 1)] (fun r => { r with heatHot := [(5, 9), (6, 1)], heatCand := [(7, 64)] })) fun _ => g0) 100000000) (7) (pt0) (64)) ∧
    ((fun (p : Fin 10) (s : State) => (let w : ℕ × ℕ := s.wantEngine ↑p; (w.1 = s.rd (engFld ↑p)))) (7) (atMono (gyS (ptS [(F.PT_CTRL_HEAT_EN, 1)] (fun r => { r with heatHot := [(5, 9), (6, 1)], heatCand := [(7, 64)] })) fun _ => g0) 100000000)) ∧
    ((fun (m : ℕ) (hi : Word) (s : State) => (s.accepts m 786508 permW) ∧ (s.on F.PT_STATUS_WIPING = false) ∧ (let a : ℕ := s.rd F.PT_MADDR; (s.rd F.PT_MSEL = 0) ∧ (a < 1024))) (0) (0xFFFFFFFF) (St [(F.PT_MSEL, 0), (F.PT_MADDR, 1023)])) :=
  by decide

theorem test_HeatBindingAndPtpMessages_2 :
    ((fun (m : ℕ) (hi : Word) (s : State) => (s.accepts m 786508 permW) ∧ (s.on F.PT_STATUS_WIPING = false) ∧ (let a : ℕ := s.rd F.PT_MADDR; (s.rd F.PT_MSEL = 1) ∧ (a < 2048))) (0) (0xFFFFFFFF) (St [(F.PT_MSEL, 1), (F.PT_MADDR, 2047)])) ∧
    ((fun (m : ℕ) (hi : Word) (s : State) => (s.accepts m 786508 permW) ∧ (s.on F.PT_STATUS_WIPING = false) ∧ (let a : ℕ := s.rd F.PT_MADDR; (2 ≤ s.rd F.PT_MSEL ∨ s.rd F.PT_MSEL = 0 ∧ 1024 ≤ a ∨ s.rd F.PT_MSEL = 1 ∧ 2048 ≤ a))) (0) (0xFFFFFFFF) (St [(F.PT_MSEL, 2), (F.PT_MADDR, 65535)])) ∧
    ((fun (p : Fin 10) (s : State) => (let w : ℕ × ℕ := s.wantEngine ↑p; (w.1 ≠ s.rd (engFld ↑p)) ∧ ((s.knPort ↑p).quiet = none) ∧ (↑p ∉ s.ln.waits))) (9) (St [(F.LN_ENG_MAP_ENG_P9, 3), (F.PT_LN_BIND, 0)])) ∧
    ((fun (p : Fin 10) (s : State) => (let w : ℕ × ℕ := s.wantEngine ↑p; (w.1 ≠ s.rd (engFld ↑p)) ∧ ((s.knPort ↑p).quiet = none) ∧ (↑p ∈ s.ln.waits))) (9) ({ St [(F.LN_ENG_MAP_ENG_P9, 3), (F.PT_LN_BIND, 0)] with ln := { Ln.reset with waits := [9] } })) ∧
    ((fun (p : Fin 10) (s : State) => (let w : ℕ × ℕ := s.wantEngine ↑p; (w.1 ≠ s.rd (engFld ↑p)) ∧ ((s.knPort ↑p).quiet.isSome = true) ∧ (s.on F.PT_TRACE_CTRL_EN = false))) (9) (kset (St [(F.LN_ENG_MAP_ENG_P9, 3), (F.PT_LN_BIND, 0)]) 9 (fun r => { r with quiet := some (0, 9) }))) ∧
    ((fun (p : Fin 2) (req : List Byte) (ago : ℕ) (d : ℕ) (s : State) => (s.on F.TB_CTRL_PTP_EN = false)) (1) ([]) (0) (77) (St [])) :=
  by decide

theorem test_HeatBindingAndPtpMessages_3 :
    ((fun (p : Fin 2) (req : List Byte) (ago : ℕ) (d : ℕ) (s : State) => (s.on F.TB_CTRL_PTP_EN = true) ∧ (s.on F.TB_PTP_CFG_ROLE_OC = true) ∧ (s.rd F.TB_PTP_CFG_OC_PORT = ↑p) ∧ (s.ln.items.length < 16384) ∧ (s.on F.TB_PTP_CFG_OC_DELAY = false) ∧ (s.rd F.TB_PTP_CFG_PROFILE ≠ 1) ∧ ((fun type => (((fun type => s.ptpMessage (↑p) type (s.rd F.TB_PTP_CFG_DOMAIN) (List.replicate (if type = 2 then 20 else 10) 0)) type).1.storeChain { m := 6, queue := none, lso := false, dtl := none } ((fun type => s.ptpMessage (↑p) type (s.rd F.TB_PTP_CFG_DOMAIN) (List.replicate (if type = 2 then 20 else 10) 0)) type).2).2.isSome) 1 = true)) (1) ([]) (0) (77) (ptpOn [(F.GR_CTRL_EN, 1), (F.GR_QMAX_q_m 0 6, 50)])) ∧
    ((fun (p : Fin 2) (req : List Byte) (ago : ℕ) (d : ℕ) (s : State) => (s.on F.TB_CTRL_PTP_EN = true) ∧ (s.on F.TB_PTP_CFG_ROLE_OC = true) ∧ (s.rd F.TB_PTP_CFG_OC_PORT = ↑p) ∧ (s.ln.items.length < 16384) ∧ (s.on F.TB_PTP_CFG_OC_DELAY = true) ∧ ((fun type => (((fun type => s.ptpMessage (↑p) type (s.rd F.TB_PTP_CFG_DOMAIN) (List.replicate (if type = 2 then 20 else 10) 0)) type).1.storeChain { m := 6, queue := none, lso := false, dtl := none } ((fun type => s.ptpMessage (↑p) type (s.rd F.TB_PTP_CFG_DOMAIN) (List.replicate (if type = 2 then 20 else 10) 0)) type).2).2.isSome) 2 = true)) (1) ([]) (0) (77) (ptpOn [(F.TB_PTP_CFG_OC_DELAY, 1), (F.GR_CTRL_EN, 1), (F.GR_QMAX_q_m 0 6, 50)])) :=
  by decide

theorem test_Mailboxes_1 :
    ((fun (m : ℕ) (n : Fin 64) (tag : Word) (v : Word) (s : State) => (s.decodes m = true) ∧ (s.takes m = true) ∧ (s.may 16 m permW = true) ∧ (s.heldBlk 16 = false) ∧ (m < 64) ∧ (s.on F.MB_CTRL_EN = false)) (0x20) (3) (7) (0x80000021) (mbS [(F.MB_CTRL_EN, 0)])) ∧
    ((fun (m : ℕ) (n : Fin 64) (tag : Word) (v : Word) (s : State) => (s.decodes m = true) ∧ (s.takes m = true) ∧ (s.may 16 m permW = true) ∧ (s.heldBlk 16 = false) ∧ (m < 64) ∧ (let i : ℕ := ↑n; (s.mbBound i m = true) ∧ (s.on (F.MB_CH_STAT_LOCKED i) = false ∨ s.rd (F.MB_CH_STAT_LOCK_OWNER i) ≠ m))) (0x20) (3) (7) (0x80000021) (mbS [(F.MB_CTRL_EN, 0)])) ∧
    ((fun (m : ℕ) (n : Fin 64) (tag : Word) (v : Word) (s : State) => (s.decodes m = true) ∧ (s.takes m = true) ∧ (s.may 16 m permW = true) ∧ (s.heldBlk 16 = false) ∧ (m < 64) ∧ (let i : ℕ := ↑n; (s.accepts m (1051136 + 4 * i) permW) ∧ (i < 8))) (0x20) (3) (7) (0x80000021) (mbS [(F.MB_CTRL_EN, 0)])) ∧
    ((fun (m : ℕ) (n : Fin 64) (tag : Word) (v : Word) (s : State) => (s.decodes m = true) ∧ (s.takes m = true) ∧ (s.may 16 m permW = true) ∧ (s.heldBlk 16 = false) ∧ (m < 64) ∧ (s.accepts m 1048576 permW)) (0x20) (3) (7) (0x80000021) (mbS [(F.MB_CTRL_EN, 0)])) ∧
    ((fun (m : ℕ) (n : Fin 64) (tag : Word) (v : Word) (s : State) => (s.decodes m = true) ∧ (s.takes m = true) ∧ (s.may 16 m permW = true) ∧ (s.heldBlk 16 = false) ∧ (m < 64) ∧ (let i : ℕ := ↑n; (let o : ℕ := s.mbSender i; (let valid : Prop := s.on (F.MB_BIND_n_VALID i) = true; (s.on F.MB_CTRL_EN = true) ∧ (valid) ∧ (o = m) ∧ (s.on (F.MB_CH_STAT_FULL i) = false) ∧ (s.mg.reqsNew = []))))) (0x20) (3) (7) (0x80000021) (mbS [(F.MB_NOTIFY_IE_LO 0, 0xFF)])) ∧
    ((fun (m : ℕ) (n : Fin 64) (tag : Word) (v : Word) (s : State) => (s.decodes m = true) ∧ (s.takes m = true) ∧ (s.may 16 m permW = true) ∧ (s.heldBlk 16 = false) ∧ (m < 64) ∧ (let i : ℕ := ↑n; (let r : ℕ := s.mbReceiver i; (let valid : Prop := s.on (F.MB_BIND_n_VALID i) = true; (s.on F.MB_CTRL_EN = true) ∧ (¬(valid ∧ r = m)) ∧ (s.mg.replies = []))))) (0x20) (3) (7) (0x80000021) (mbS [(F.MB_NOTIFY_IE_LO 0, 0xFF)])) :=
  by decide

theorem test_Mailboxes_2 :
    ((fun (m : ℕ) (n : Fin 64) (tag : Word) (v : Word) (s : State) => (s.decodes m = true) ∧ (s.takes m = true) ∧ (s.may 16 m permW = true) ∧ (s.heldBlk 16 = false) ∧ (m < 64) ∧ (let i : ℕ := ↑n; (s.on F.MB_CTRL_EN = true) ∧ (s.mbBound i m = true) ∧ (s.on (F.MB_CH_STAT_LOCKED i) = false))) (0x20) (3) (7) (0x80000021) (mbS [(F.MB_NOTIFY_IE_LO 0, 0xFF)])) ∧
    ((fun (m : ℕ) (n : Fin 64) (tag : Word) (v : Word) (s : State) => (s.decodes m = true) ∧ (s.takes m = true) ∧ (s.may 16 m permW = true) ∧ (s.heldBlk 16 = false) ∧ (m < 64) ∧ (let i : ℕ := ↑n; (let o : ℕ := s.mbSender i; (let valid : Prop := s.on (F.MB_BIND_n_VALID i) = true; (s.on F.MB_CTRL_EN = true) ∧ (¬(valid ∧ o = m)))))) (0) (3) (7) (0x80000021) (mbS [(F.MB_CH_STAT_FULL 3, 1), (F.MB_NOTIFY_PEND_LO 0, 8)])) ∧
    ((fun (m : ℕ) (n : Fin 64) (tag : Word) (v : Word) (s : State) => (s.decodes m = true) ∧ (s.takes m = true) ∧ (s.may 16 m permW = true) ∧ (s.heldBlk 16 = false) ∧ (m < 64) ∧ (let i : ℕ := ↑n; (let r : ℕ := s.mbReceiver i; (let valid : Prop := s.on (F.MB_BIND_n_VALID i) = true; (s.on F.MB_CTRL_EN = true) ∧ (valid) ∧ (r = m) ∧ (s.mg.replies = []) ∧ (s.on (F.MB_CH_STAT_FULL i) = true) ∧ (s.mb.posts = []))))) (0) (3) (7) (0x80000021) (mbS [(F.MB_CH_STAT_FULL 3, 1), (F.MB_NOTIFY_PEND_LO 0, 8)])) ∧
    ((fun (m : ℕ) (n : Fin 64) (tag : Word) (v : Word) (s : State) => (s.decodes m = true) ∧ (s.takes m = true) ∧ (s.may 16 m permW = true) ∧ (s.heldBlk 16 = false) ∧ (m < 64) ∧ (let i : ℕ := ↑n; (let r : ℕ := s.mbReceiver i; (let valid : Prop := s.on (F.MB_BIND_n_VALID i) = true; (s.on F.MB_CTRL_EN = true) ∧ (valid) ∧ (r = m) ∧ (s.mg.replies = []) ∧ (s.on (F.MB_CH_STAT_FULL i) = false))))) (0) (3) (7) (0x80000021) (mbS [(F.MB_CH_STAT_LOCKED 3, 1), (F.MB_CH_STAT_LOCK_OWNER 3, 0x20)])) ∧
    ((fun (m : ℕ) (n : Fin 64) (tag : Word) (v : Word) (s : State) => (s.decodes m = true) ∧ (s.takes m = true) ∧ (s.may 16 m permW = true) ∧ (s.heldBlk 16 = false) ∧ (m < 64) ∧ (let i : ℕ := ↑n; (s.on F.MB_CTRL_EN = true) ∧ (s.mbBound i m = true) ∧ (s.on (F.MB_CH_STAT_LOCKED i) = true) ∧ (s.rd (F.MB_CH_STAT_LOCK_OWNER i) ≠ m))) (0) (3) (7) (0x80000021) (mbS [(F.MB_CH_STAT_LOCKED 3, 1), (F.MB_CH_STAT_LOCK_OWNER 3, 0x20)])) ∧
    ((fun (m : ℕ) (n : Fin 64) (tag : Word) (v : Word) (s : State) => (s.decodes m = true) ∧ (s.takes m = true) ∧ (s.may 16 m permW = true) ∧ (s.heldBlk 16 = false) ∧ (m < 64) ∧ (let i : ℕ := ↑n; (let o : ℕ := s.mbSender i; (let valid : Prop := s.on (F.MB_BIND_n_VALID i) = true; (s.on F.MB_CTRL_EN = true) ∧ (valid) ∧ (o = m) ∧ (s.on (F.MB_CH_STAT_FULL i) = true) ∧ (s.mb.posts = []))))) (0x20) (3) (7) (0x80000021) (mbS [(F.MB_CH_STAT_FULL 3, 1), (F.MB_CH_STAT_LOCKED 3, 1), (F.MB_CH_STAT_LOCK_OWNER 3, 0x20)])) :=
  by decide

theorem test_Mailboxes_3 :
    ((fun (m : ℕ) (n : Fin 64) (tag : Word) (v : Word) (s : State) => (s.decodes m = true) ∧ (s.takes m = true) ∧ (s.may 16 m permW = true) ∧ (s.heldBlk 16 = false) ∧ (m < 64) ∧ (let i : ℕ := ↑n; (s.on F.MB_CTRL_EN = true) ∧ (s.mbBound i m = true) ∧ (s.on (F.MB_CH_STAT_LOCKED i) = true) ∧ (s.rd (F.MB_CH_STAT_LOCK_OWNER i) = m))) (0x20) (3) (7) (0x80000021) (mbS [(F.MB_CH_STAT_FULL 3, 1), (F.MB_CH_STAT_LOCKED 3, 1), (F.MB_CH_STAT_LOCK_OWNER 3, 0x20)])) ∧
    ((fun (m : ℕ) (n : Fin 64) (tag : Word) (v : Word) (s : State) => (s.decodes m = true) ∧ (s.takes m = true) ∧ (s.may 16 m permW = true) ∧ (s.heldBlk 16 = false) ∧ (m < 64) ∧ (let i : ℕ := ↑n; (s.mbBound i m = true) ∧ (s.on (F.MB_CH_STAT_LOCKED i) = true ∧ s.rd (F.MB_CH_STAT_LOCK_OWNER i) = m))) (0x20) (3) (7) (0x80000021) (mbS [(F.MB_CH_STAT_FULL 3, 1), (F.MB_CH_STAT_LOCKED 3, 1), (F.MB_CH_STAT_LOCK_OWNER 3, 0x20)])) ∧
    ((fun (m : ℕ) (n : Fin 64) (tag : Word) (v : Word) (s : State) => (s.decodes m = true) ∧ (s.takes m = true) ∧ (s.may 16 m permW = true) ∧ (s.heldBlk 16 = false) ∧ (m < 64) ∧ (let i : ℕ := ↑n; (s.mbBound i m = false))) (0) (63) (7) (0x80002021) (mbS [])) ∧
    ((fun (m : ℕ) (n : Fin 64) (tag : Word) (v : Word) (s : State) => (s.decodes m = true) ∧ (s.takes m = true) ∧ (s.may 16 m permW = true) ∧ (s.heldBlk 16 = false) ∧ (m < 64) ∧ (let i : ℕ := ↑n; (s.accepts m (1051136 + 4 * i) permW) ∧ (8 ≤ i) ∧ (s.bindCode m i (BitVec.toNat v) = 0))) (0) (63) (7) (0x80002021) (mbS [])) ∧
    ((fun (m : ℕ) (n : Fin 64) (tag : Word) (v : Word) (s : State) => (s.decodes m = true) ∧ (s.takes m = true) ∧ (s.may 16 m permW = true) ∧ (s.heldBlk 16 = false) ∧ (m < 64) ∧ (let i : ℕ := ↑n; (s.accepts m (1051136 + 4 * i) permW) ∧ (8 ≤ i) ∧ (s.bindCode m i (BitVec.toNat v) ≠ 0))) (0) (63) (7) (0x80002000) (mbS [(F.MB_CTRL_BIND_LOCK, 1)])) ∧
    ((fun (m : ℕ) (n : Fin 64) (tag : Word) (v : Word) (s : State) (x : HeldPost) => (s.decodes m = true) ∧ (s.takes m = true) ∧ (s.may 16 m permW = true) ∧ (s.heldBlk 16 = false) ∧ (m < 64) ∧ (let i : ℕ := ↑n; (let r : ℕ := s.mbReceiver i; (let valid : Prop := s.on (F.MB_BIND_n_VALID i) = true; (s.on F.MB_CTRL_EN = true) ∧ (valid) ∧ (r = m) ∧ (s.mg.replies = []) ∧ (s.on (F.MB_CH_STAT_FULL i) = true) ∧ (s.mb.posts = [x]) ∧ (x.n = i))))) (0) (3) (7) (0x80000021) (let s := mbS [(F.MB_CH_STAT_FULL 3, 1), (F.MB_NOTIFY_PEND_LO 0, 8)]; { s with mb := { s.mb with posts := [⟨0x20, 3, 9, 77⟩] } }) (⟨0x20, 3, 9, 77⟩)) :=
  by decide

theorem test_AccessTablesAndDebugPort_1 :
    ((fun (m : ℕ) (t : Fin 22) (w : Fin 8) (v : Word) (s : State) => (s.accepts m (1249280 + 32 * ↑t + 4 * ↑w) permW) ∧ (m = 0) ∧ (s.on F.AC_STATUS_LOCKED = false)) (0) (21) (5) (0xFFFFFFFF) (St [])) ∧
    ((fun (m : ℕ) (s : State) => (s.accepts m 1245184 permW) ∧ (m = 0)) (0) (St [])) ∧
    ((fun (m : ℕ) (s : State) => (s.accepts m 1245184 permW) ∧ (m = 0 ∨ m = 1 ∨ m = 32)) (0) (St [])) ∧
    ((fun (m : ℕ) (t : Fin 22) (w : Fin 8) (v : Word) (s : State) => (s.accepts m (1249280 + 32 * ↑t + 4 * ↑w) permW) ∧ (m ≠ 0 ∨ s.on F.AC_STATUS_LOCKED = true)) (0) (21) (1) (0xFFFFFFFF) (St [(F.AC_STATUS_LOCKED, 1), (F.AC_STATUS_LC, 1), (F.CRP_BOOT_PHASE, 4), (F.MB_CTRL_BIND_LOCK, 1)])) ∧
    ((fun (m : ℕ) (s : State) => (s.accepts m 1245184 permW) ∧ (m ≠ 0)) (0x20) (StP [(F.AC_TBL_t_w 19 4, 0xFF)])) ∧
    ((fun (m : ℕ) (s : State) => (s.accepts m 1245184 permW) ∧ (m ≠ 0) ∧ (m ≠ 1) ∧ (m ≠ 32)) (0x21) (StP [(F.AC_TBL_t_w 19 4, 0xFF)])) :=
  by decide

theorem test_AccessTablesAndDebugPort_2 :
    ((fun (d : ℕ) (dest : ℕ) (s : State) => (s.crp.dbgEnd = none)) (5) (2) (St [(F.AC_STATUS_LC, 3), (F.AC_STATUS_REOWN, 14)])) ∧
    ((fun (d : ℕ) (dest : ℕ) (s : State) => (s.crp.lcNext = none)) (5) (2) (St [(F.AC_STATUS_LC, 3), (F.AC_STATUS_REOWN, 14)])) ∧
    ((fun (d : ℕ) (dest : ℕ) (s : State) => (s.crp.dbgEnd = some d) ∧ (s.tb.mono < d)) (5) (2) (crS (St [(F.AC_STATUS_LC, 3), (F.AC_STATUS_REOWN, 14)]) (fun c => { c with dbgEnd := some 5, lcNext := some 2 }))) ∧
    ((fun (d : ℕ) (dest : ℕ) (s : State) => (s.crp.lcNext = some dest) ∧ (dest < 8) ∧ (s.rd F.AC_STATUS_LC = 3) ∧ (dest = 2)) (5) (2) (crS (St [(F.AC_STATUS_LC, 3), (F.AC_STATUS_REOWN, 14)]) (fun c => { c with dbgEnd := some 5, lcNext := some 2 }))) ∧
    ((fun (d : ℕ) (dest : ℕ) (s : State) => (s.crp.dbgEnd = some d) ∧ (d ≤ s.tb.mono)) (0) (5) (crS (St [(F.AC_STATUS_LC, 2), (F.AC_STATUS_LOCKED, 1)]) (fun c => { c with dbgEnd := some 0, lcNext := some 5 }))) ∧
    ((fun (d : ℕ) (dest : ℕ) (s : State) => (s.crp.lcNext = some dest) ∧ (dest < 8) ∧ (dest = 4 ∨ dest = 5)) (0) (5) (crS (St [(F.AC_STATUS_LC, 2), (F.AC_STATUS_LOCKED, 1)]) (fun c => { c with dbgEnd := some 0, lcNext := some 5 }))) :=
  by decide

theorem test_AccessTablesAndDebugPort_3 :
    ((fun (d : ℕ) (dest : ℕ) (s : State) => (s.crp.lcNext = some dest) ∧ (dest < 8) ∧ (dest = 5)) (0) (5) (crS (St [(F.AC_STATUS_LC, 2), (F.AC_STATUS_LOCKED, 1)]) (fun c => { c with dbgEnd := some 0, lcNext := some 5 }))) ∧
    ((fun (token : List Byte) (pads : List Bool) (s : State) => (s.crp.off = false) ∧ (s.rd F.AC_STATUS_DBG = 0)) ([1, 2]) ([true]) (St [])) ∧
    ((fun (token : List Byte) (pads : List Bool) (s : State) => (s.crp.off = false) ∧ (s.rd F.AC_STATUS_DBG < 2)) ([1, 2]) ([true]) (St [])) ∧
    ((fun (token : List Byte) (pads : List Bool) (s : State) => (s.crp.off = false) ∧ (1 ≤ s.rd F.AC_STATUS_DBG)) ([1, 2]) ([true]) (St [(F.AC_STATUS_DBG, 1)])) ∧
    ((fun (token : List Byte) (pads : List Bool) (s : State) => (s.crp.off = false) ∧ (2 ≤ s.rd F.AC_STATUS_DBG) ∧ (s.crp.halted = false)) ([1, 2]) ([true]) (St [(F.AC_STATUS_DBG, 2)])) ∧
    ((fun (token : List Byte) (pads : List Bool) (s : State) => (s.crp.off = false) ∧ (2 ≤ s.rd F.AC_STATUS_DBG) ∧ (s.crp.halted = true)) ([1, 2]) ([true]) (crS (St [(F.AC_STATUS_DBG, 2)]) (fun c => { c with halted := true }))) :=
  by decide

theorem test_AccessTablesAndDebugPort_4 :
    ((fun (token : List Byte) (pads : List Bool) (s : State) => (s.crp.off = true)) ([1, 2]) ([true]) (crS (St []) (fun c => { c with off := true }))) :=
  by decide

theorem test_PowerStates_1 :
    ((fun (m : ℕ) (confirm : ℕ) (s : State) => (s.takes m = true) ∧ (s.may 1 m permW = false)) (0x20) (0xA5) (pwS pwRun [(F.AC_TBL_t_w 1 4, 0)])) ∧
    ((fun (s : State) => (s.crp.toHold = false ∨ ((List.range 10).all fun p => (s.lnPort p).wire.isNone) = false)) (pwS pwRun [(F.AC_TBL_t_w 1 4, 0)])) ∧
    ((fun (m : ℕ) (confirm : ℕ) (s : State) => (s.takes m = true) ∧ (s.may 1 m permW = true) ∧ (s.may 1 m permADM = false)) (0x20) (0xA5) (pwS pwRun [(F.AC_TBL_t_w 1 4, 3)])) ∧
    ((fun (m : ℕ) (confirm : ℕ) (s : State) => (s.takes m = true) ∧ (s.may 1 m permW = true) ∧ (s.may 1 m permADM = true) ∧ (confirm ≠ 165)) (0x20) (0xA4) (pwS pwRun [])) ∧
    ((fun (m : ℕ) (confirm : ℕ) (s : State) => (s.takes m = true) ∧ (s.may 1 m permW = true) ∧ (s.on F.CRP_WIPE_STATUS_DRAM = false) ∧ (s.on F.CRP_PWR_STATUS_BUSY = false) ∧ (s.may 1 m permADM = true)) (0x20) (0xA4) (pwS pwRun [])) ∧
    ((fun (m : ℕ) (confirm : ℕ) (s : State) => (s.takes m = true) ∧ (s.may 1 m permW = true) ∧ (s.on F.CRP_WIPE_STATUS_DRAM = false) ∧ (s.on F.CRP_PWR_STATUS_BUSY = true)) (0x20) (0xA5) (pwS pwTrim [(F.CRP_PWR_STATUS_BUSY, 1)])) :=
  by decide

theorem test_PowerStates_2 :
    ((fun (m : ℕ) (confirm : ℕ) (s : State) => (s.takes m = true) ∧ (s.may 1 m permW = true) ∧ (s.on F.CRP_WIPE_STATUS_DRAM = true) ∧ (s.may 1 m permADM = true)) (0x20) (0xA5) (pwS pwHold [(F.CRP_WIPE_STATUS_DRAM, 1)])) ∧
    ((fun (s : State) => (s.crp.toHold = true) ∧ (((List.range 10).all fun p => (s.lnPort p).wire.isNone) = true)) (crS (pwS pwRun [(F.CRP_PWR_STATUS_BUSY, 1), (F.BP_STATUS_STATE 0, portUp), (F.FP_STATUS_LINK 7, 1)]) (fun c => { c with toHold := true }))) ∧
    ((fun (m : ℕ) (st : ℕ) (s : State) => (s.crp.pwReqs = [(m, st)]) ∧ (let now : ℕ := s.rd F.CRP_PWR_STATUS_STATE; (st = pwRun) ∧ (now = pwTrim) ∧ (s.fwRuns = false))) (0x20) (pwRun) (crS (pwS pwTrim []) fun c => { c with pwReqs := [(0x20, pwRun)] })) ∧
    ((fun (m : ℕ) (st : ℕ) (s : State) => (s.crp.pwReqs = [(m, st)]) ∧ (let now : ℕ := s.rd F.CRP_PWR_STATUS_STATE; (st = pwTrim) ∧ (now = pwRun) ∧ (s.fwRuns = false))) (0x20) (pwTrim) (crS (pwS pwRun []) fun c => { c with pwReqs := [(0x20, pwTrim)] })) ∧
    ((fun (m : ℕ) (st : ℕ) (s : State) => (s.crp.pwReqs = [(m, st)]) ∧ (let now : ℕ := s.rd F.CRP_PWR_STATUS_STATE; (st = pwHold) ∧ (now = pwRun ∨ now = pwTrim))) (0x20) (pwHold) (crS (pwS pwRun []) fun c => { c with pwReqs := [(0x20, pwHold)] })) ∧
    ((fun (m : ℕ) (st : ℕ) (s : State) => (s.crp.pwReqs = [(m, st)]) ∧ (let now : ℕ := s.rd F.CRP_PWR_STATUS_STATE; (st = pwOff) ∧ (now ≠ pwOff))) (0x20) (pwOff) (crS (pwS pwRun []) fun c => { c with pwReqs := [(0x20, pwOff)] })) :=
  by decide

theorem test_PowerStates_3 :
    ((fun (m : ℕ) (st : ℕ) (s : State) => (s.crp.pwReqs = [(m, st)]) ∧ (let now : ℕ := s.rd F.CRP_PWR_STATUS_STATE; (now = st))) (0x20) (pwTrim) (crS (pwS pwTrim []) fun c => { c with pwReqs := [(0x20, pwTrim)] })) ∧
    ((fun (m : ℕ) (n : ℕ) (x : ℕ) (y : ℕ) (s : State) => (s.crp.pwReqs = [(m, x), (n, y)])) (32) (0) (1) (2) (crS (pwS pwRun []) fun c => { c with pwReqs := [(32, 1), (0, 2)] })) :=
  by decide

theorem test_RequestsOfTheHost_1 :
    ((fun (c : Fin 4) (buf : Option (List Byte)) (a : Bool) (b : Bool) (d : Bool) (s : State) => (s.reqNow ↑c = false)) (2) (none) (true) (true) (false) (St [])) ∧
    ((fun (c : Fin 4) (buf : Option (List Byte)) (sig : Bool) (fmt : Bool) (nor : Bool) (ok : Bool) (s : State) => (s.reqNow ↑c = true) ∧ (let tag : ℕ := s.rd (F.MB_CH_TAG ↑c); (s.rd F.MG_STATUS_STATE = 4) ∧ (tag = 257))) (2) (some (fwI 3 40)) (true) (true) (false) (false) (rqS 0x101 [(F.MG_STATUS_STATE, 4)] (fun r => r))) ∧
    ((fun (c : Fin 4) (buf : Option (List Byte)) (sig : Bool) (fmt : Bool) (nor : Bool) (ok : Bool) (s : State) => (s.reqNow ↑c = true) ∧ (let tag : ℕ := s.rd (F.MB_CH_TAG ↑c); (s.rd F.MG_STATUS_STATE = 4) ∧ (tag = 259))) (2) (some (fwI 3 40)) (true) (true) (false) (false) (rqS 0x103 [(F.MG_STATUS_STATE, 4)] (fun r => r))) ∧
    ((fun (c : Fin 4) (buf : Option (List Byte)) (sig : Bool) (fmt : Bool) (nor : Bool) (ok : Bool) (s : State) => (s.reqNow ↑c = true) ∧ (let tag : ℕ := s.rd (F.MB_CH_TAG ↑c); (s.rd F.MG_STATUS_STATE = 4) ∧ (tag = 260))) (2) (some (fwI 3 40)) (true) (true) (false) (false) (rqS 0x104 [(F.MG_STATUS_STATE, 4)] (fun r => r))) ∧
    ((fun (c : Fin 4) (buf : Option (List Byte)) (sig : Bool) (fmt : Bool) (nor : Bool) (ok : Bool) (s : State) => (s.reqNow ↑c = true) ∧ (let tag : ℕ := s.rd (F.MB_CH_TAG ↑c); (s.rd F.MG_STATUS_STATE = 4) ∧ (tag = 261))) (2) (some (fwI 3 40)) (true) (true) (false) (false) (rqS 0x105 [(F.MG_STATUS_STATE, 4)] (fun r => r))) ∧
    ((fun (c : Fin 4) (buf : Option (List Byte)) (sig : Bool) (fmt : Bool) (nor : Bool) (ok : Bool) (s : State) => (s.reqNow ↑c = true) ∧ (let tag : ℕ := s.rd (F.MB_CH_TAG ↑c); (s.rd F.MG_STATUS_STATE = 4) ∧ (tag = 262))) (2) (some (fwI 3 40)) (true) (true) (false) (false) (rqS 0x106 [(F.MG_STATUS_STATE, 4)] (fun r => r))) :=
  by decide

theorem test_RequestsOfTheHost_2 :
    ((fun (c : Fin 4) (buf : Option (List Byte)) (sig : Bool) (fmt : Bool) (nor : Bool) (ok : Bool) (s : State) => (s.reqNow ↑c = true) ∧ (let tag : ℕ := s.rd (F.MB_CH_TAG ↑c); (s.rd F.MG_STATUS_STATE = 4) ∧ (tag = 263))) (2) (some (fwI 3 40)) (true) (true) (false) (false) (rqS 0x107 [(F.MG_STATUS_STATE, 4)] (fun r => r))) ∧
    ((fun (c : Fin 4) (buf : Option (List Byte)) (sig : Bool) (fmt : Bool) (nor : Bool) (ok : Bool) (s : State) => (s.reqNow ↑c = true) ∧ (let tag : ℕ := s.rd (F.MB_CH_TAG ↑c); (s.rd F.MG_STATUS_STATE = 4) ∧ (tag = 264))) (2) (some (fwI 3 40)) (true) (true) (false) (false) (rqS 0x108 [(F.MG_STATUS_STATE, 4)] (fun r => r))) ∧
    ((fun (c : Fin 4) (buf : Option (List Byte)) (sig : Bool) (fmt : Bool) (nor : Bool) (ok : Bool) (s : State) => (s.reqNow ↑c = true) ∧ (let tag : ℕ := s.rd (F.MB_CH_TAG ↑c); (s.rd F.MG_STATUS_STATE = 4) ∧ (tag = 265))) (2) (some (fwI 3 40)) (true) (true) (false) (false) (rqS 0x109 [(F.MG_STATUS_STATE, 4)] (fun r => r))) ∧
    ((fun (c : Fin 4) (buf : Option (List Byte)) (sig : Bool) (fmt : Bool) (nor : Bool) (ok : Bool) (s : State) => (s.reqNow ↑c = true) ∧ (let tag : ℕ := s.rd (F.MB_CH_TAG ↑c); (s.rd F.MG_STATUS_STATE = 4) ∧ (tag < 257 ∨ 265 < tag))) (2) (some (fwI 3 40)) (true) (true) (false) (false) (rqS 0x10A [(F.MG_STATUS_STATE, 4)] (fun r => r))) ∧
    ((fun (c : Fin 4) (buf : Option (List Byte)) (sig : Bool) (fmt : Bool) (nor : Bool) (ok : Bool) (s : State) => (s.reqNow ↑c = true) ∧ (let tag : ℕ := s.rd (F.MB_CH_TAG ↑c); (let got : Option (List Byte) := if bits s.pcie.bme 0 1 = 1 then buf else none; (s.rd F.MG_STATUS_STATE ≠ 4) ∧ (tag = 257) ∧ (got = none)))) (2) (none) (true) (true) (false) (false) (rqS 0x101 [] (fun r => r))) ∧
    ((fun (c : Fin 4) (buf : Option (List Byte)) (sig : Bool) (fmt : Bool) (nor : Bool) (ok : Bool) (s : State) => (s.reqNow ↑c = true) ∧ (let tag : ℕ := s.rd (F.MB_CH_TAG ↑c); (let got : Option (List Byte) := if bits s.pcie.bme 0 1 = 1 then buf else none; (s.rd F.MG_STATUS_STATE ≠ 4) ∧ (tag = 257) ∧ (Option.all (fun b => decide (b.length = 112)) got = true) ∧ (got.isSome = true)))) (2) (some (List.replicate 112 0)) (true) (true) (false) (false) (rqS 0x101 [] (fun r => r))) :=
  by decide

theorem test_RequestsOfTheHost_3 :
    ((fun (c : Fin 4) (buf : Option (List Byte)) (sig : Bool) (fmt : Bool) (nor : Bool) (ok : Bool) (s : State) => (s.reqNow ↑c = true) ∧ (let tag : ℕ := s.rd (F.MB_CH_TAG ↑c); (s.rd F.MG_STATUS_STATE ≠ 4) ∧ (tag = 258) ∧ (s.rd F.MG_STATUS_STATE = 2))) (2) (none) (true) (true) (false) (false) (rqS 0x102 [(F.MG_STATUS_STATE, 2)] (fun r => r))) ∧
    ((fun (c : Fin 4) (buf : Option (List Byte)) (sig : Bool) (fmt : Bool) (nor : Bool) (ok : Bool) (s : State) => (s.reqNow ↑c = true) ∧ (let tag : ℕ := s.rd (F.MB_CH_TAG ↑c); (let got : Option (List Byte) := if bits s.pcie.bme 0 1 = 1 then buf else none; (s.rd F.MG_STATUS_STATE ≠ 4) ∧ (tag = 258) ∧ (s.rd F.MG_STATUS_STATE ≠ 2) ∧ (got = none)))) (2) (none) (true) (true) (false) (false) (rqS 0x102 [] (fun r => r))) ∧
    ((fun (c : Fin 4) (buf : Option (List Byte)) (sig : Bool) (fmt : Bool) (nor : Bool) (ok : Bool) (s : State) => (s.reqNow ↑c = true) ∧ (let tag : ℕ := s.rd (F.MB_CH_TAG ↑c); (let got : Option (List Byte) := if bits s.pcie.bme 0 1 = 1 then buf else none; (s.rd F.MG_STATUS_STATE ≠ 4) ∧ (tag = 258) ∧ (s.rd F.MG_STATUS_STATE ≠ 2) ∧ (Option.all (fun b => decide (16 ≤ b.length ∧ (fwLength b ≤ b.length ∨ 8388608 < fwLength b))) got = true) ∧ (got.isSome = true) ∧ (fmt = false)))) (2) (some (fwI 3 40)) (true) (false) (false) (false) (rqS 0x102 [] (fun r => r))) ∧
    ((fun (c : Fin 4) (buf : Option (List Byte)) (sig : Bool) (fmt : Bool) (nor : Bool) (ok : Bool) (s : State) => (s.reqNow ↑c = true) ∧ (let tag : ℕ := s.rd (F.MB_CH_TAG ↑c); (let got : Option (List Byte) := if bits s.pcie.bme 0 1 = 1 then buf else none; (s.rd F.MG_STATUS_STATE ≠ 4) ∧ (tag = 258) ∧ (s.rd F.MG_STATUS_STATE ≠ 2) ∧ (Option.all (fun b => decide (16 ≤ b.length ∧ (fwLength b ≤ b.length ∨ 8388608 < fwLength b))) got = true) ∧ (got.isSome = true) ∧ (let b : List Byte := got.getD []; (fmt = true) ∧ (fwSvn b < 64) ∧ (fwLength b ≤ 8388608) ∧ (sig = true) ∧ (s.rd F.MG_FW_CNT ≤ fwSvn b) ∧ (nor = false))))) (2) (some (fwI 3 40)) (true) (true) (false) (false) (rqS 0x102 [] (fun r => r))) ∧
    ((fun (c : Fin 4) (buf : Option (List Byte)) (sig : Bool) (fmt : Bool) (nor : Bool) (ok : Bool) (s : State) => (s.reqNow ↑c = true) ∧ (let tag : ℕ := s.rd (F.MB_CH_TAG ↑c); (let got : Option (List Byte) := if bits s.pcie.bme 0 1 = 1 then buf else none; (s.rd F.MG_STATUS_STATE ≠ 4) ∧ (tag = 258) ∧ (s.rd F.MG_STATUS_STATE ≠ 2) ∧ (Option.all (fun b => decide (16 ≤ b.length ∧ (fwLength b ≤ b.length ∨ 8388608 < fwLength b))) got = true) ∧ (got.isSome = true) ∧ (let b : List Byte := got.getD []; (fmt = true) ∧ (fwSvn b < 64) ∧ (fwLength b ≤ 8388608) ∧ (sig = false))))) (2) (some (fwI 3 40)) (false) (true) (true) (false) (rqS 0x102 [] (fun r => { r with active := true }))) ∧
    ((fun (c : Fin 4) (buf : Option (List Byte)) (sig : Bool) (fmt : Bool) (nor : Bool) (ok : Bool) (s : State) => (s.reqNow ↑c = true) ∧ (let tag : ℕ := s.rd (F.MB_CH_TAG ↑c); (let got : Option (List Byte) := if bits s.pcie.bme 0 1 = 1 then buf else none; (s.rd F.MG_STATUS_STATE ≠ 4) ∧ (tag = 258) ∧ (s.rd F.MG_STATUS_STATE ≠ 2) ∧ (Option.all (fun b => decide (16 ≤ b.length ∧ (fwLength b ≤ b.length ∨ 8388608 < fwLength b))) got = true) ∧ (got.isSome = true) ∧ (let b : List Byte := got.getD []; (fmt = true) ∧ (fwSvn b < 64) ∧ (fwLength b ≤ 8388608) ∧ (sig = true) ∧ (fwSvn b < s.rd F.MG_FW_CNT))))) (2) (some (fwI 62 40)) (true) (true) (false) (false) (rqS 0x102 [(F.MG_FW_CNT, 63)] (fun r => r))) :=
  by decide

theorem test_RequestsOfTheHost_4 :
    ((fun (c : Fin 4) (buf : Option (List Byte)) (sig : Bool) (fmt : Bool) (nor : Bool) (ok : Bool) (s : State) => (s.reqNow ↑c = true) ∧ (let tag : ℕ := s.rd (F.MB_CH_TAG ↑c); (let got : Option (List Byte) := if bits s.pcie.bme 0 1 = 1 then buf else none; (s.rd F.MG_STATUS_STATE ≠ 4) ∧ (tag = 259) ∧ (got = none)))) (2) (none) (true) (true) (false) (false) (rqS 0x103 [] (fun r => r))) ∧
    ((fun (c : Fin 4) (buf : Option (List Byte)) (sig : Bool) (fmt : Bool) (nor : Bool) (ok : Bool) (s : State) => (s.reqNow ↑c = true) ∧ (let tag : ℕ := s.rd (F.MB_CH_TAG ↑c); (let got : Option (List Byte) := if bits s.pcie.bme 0 1 = 1 then buf else none; (s.rd F.MG_STATUS_STATE ≠ 4) ∧ (tag = 259) ∧ (Option.all (fun b => decide (b.length = 64)) got = true) ∧ (got.isSome = true) ∧ (s.lc ≠ lcOwned)))) (2) (some (List.replicate 64 5)) (true) (true) (false) (false) (rqS 0x103 [(F.AC_STATUS_LC, 3)] (fun r => r))) ∧
    ((fun (c : Fin 4) (buf : Option (List Byte)) (sig : Bool) (fmt : Bool) (nor : Bool) (ok : Bool) (s : State) => (s.reqNow ↑c = true) ∧ (let tag : ℕ := s.rd (F.MB_CH_TAG ↑c); (let got : Option (List Byte) := if bits s.pcie.bme 0 1 = 1 then buf else none; (s.rd F.MG_STATUS_STATE ≠ 4) ∧ (tag = 259) ∧ (Option.all (fun b => decide (b.length = 64)) got = true) ∧ (got.isSome = true) ∧ (s.lc = lcOwned) ∧ (s.mg.ownerKey.isSome = true)))) (2) (some (List.replicate 64 5)) (true) (true) (false) (false) (rqS 0x103 [(F.AC_STATUS_LC, 2)] (fun r => { r with ownerKey := some [] }))) ∧
    ((fun (c : Fin 4) (buf : Option (List Byte)) (sig : Bool) (fmt : Bool) (nor : Bool) (ok : Bool) (s : State) => (s.reqNow ↑c = true) ∧ (let tag : ℕ := s.rd (F.MB_CH_TAG ↑c); (let got : Option (List Byte) := if bits s.pcie.bme 0 1 = 1 then buf else none; (s.rd F.MG_STATUS_STATE ≠ 4) ∧ (tag = 260) ∧ (s.lc ≠ lcFactory) ∧ (s.lc ≠ lcReturn) ∧ (got = none)))) (2) (none) (true) (true) (false) (false) (rqS 0x104 [] (fun r => r))) ∧
    ((fun (c : Fin 4) (buf : Option (List Byte)) (sig : Bool) (fmt : Bool) (nor : Bool) (ok : Bool) (s : State) => (s.reqNow ↑c = true) ∧ (let tag : ℕ := s.rd (F.MB_CH_TAG ↑c); (s.rd F.MG_STATUS_STATE ≠ 4) ∧ (tag = 260) ∧ (s.lc = lcFactory ∨ s.lc = lcReturn))) (2) (none) (true) (true) (false) (false) (rqS 0x104 [(F.AC_STATUS_LC, 4)] (fun r => r))) ∧
    ((fun (c : Fin 4) (buf : Option (List Byte)) (sig : Bool) (fmt : Bool) (nor : Bool) (ok : Bool) (s : State) => (s.reqNow ↑c = true) ∧ (let tag : ℕ := s.rd (F.MB_CH_TAG ↑c); (let got : Option (List Byte) := if bits s.pcie.bme 0 1 = 1 then buf else none; (s.rd F.MG_STATUS_STATE ≠ 4) ∧ (tag = 260) ∧ (s.lc ≠ lcFactory) ∧ (s.lc ≠ lcReturn) ∧ (Option.all (fun b => decide (128 ≤ List.length b ∧ EbImage.length_ b ≤ List.length b)) got = true) ∧ (got.isSome = true) ∧ (let b : List Byte := got.getD []; (s.ebCheck b sig = 0) ∧ (nor = false) ∧ (s.lc = lcField))))) (2) (some (ebI 4)) (true) (true) (false) (false) (rqS 0x104 [(F.AC_STATUS_LC, 3)] (fun r => r))) :=
  by decide

theorem test_RequestsOfTheHost_5 :
    ((fun (c : Fin 4) (buf : Option (List Byte)) (sig : Bool) (fmt : Bool) (nor : Bool) (ok : Bool) (s : State) => (s.reqNow ↑c = true) ∧ (let tag : ℕ := s.rd (F.MB_CH_TAG ↑c); (let got : Option (List Byte) := if bits s.pcie.bme 0 1 = 1 then buf else none; (s.rd F.MG_STATUS_STATE ≠ 4) ∧ (tag = 260) ∧ (s.lc ≠ lcFactory) ∧ (s.lc ≠ lcReturn) ∧ (Option.all (fun b => decide (128 ≤ List.length b ∧ EbImage.length_ b ≤ List.length b)) got = true) ∧ (got.isSome = true) ∧ (let b : List Byte := got.getD []; (s.ebCheck b sig = 0) ∧ (nor = true))))) (2) (some (ebI 4)) (true) (true) (true) (false) (rqS 0x104 [(F.AC_STATUS_LC, 3), (F.MG_STATUS_EBAIN, 1)] (fun r => r))) ∧
    ((fun (c : Fin 4) (buf : Option (List Byte)) (sig : Bool) (fmt : Bool) (nor : Bool) (ok : Bool) (s : State) => (s.reqNow ↑c = true) ∧ (let tag : ℕ := s.rd (F.MB_CH_TAG ↑c); (let got : Option (List Byte) := if bits s.pcie.bme 0 1 = 1 then buf else none; (s.rd F.MG_STATUS_STATE ≠ 4) ∧ (tag = 260) ∧ (s.lc ≠ lcFactory) ∧ (s.lc ≠ lcReturn) ∧ (Option.all (fun b => decide (128 ≤ List.length b ∧ EbImage.length_ b ≤ List.length b)) got = true) ∧ (got.isSome = true) ∧ (let b : List Byte := got.getD []; (s.ebCheck b sig ≠ 0))))) (2) (some (ebI 4)) (true) (true) (false) (false) (rqS 0x104 [(F.AC_STATUS_LC, 3), (F.MG_EBAIN_CNT, 5)] (fun r => r))) ∧
    ((fun (c : Fin 4) (buf : Option (List Byte)) (sig : Bool) (fmt : Bool) (nor : Bool) (ok : Bool) (s : State) => (s.reqNow ↑c = true) ∧ (let tag : ℕ := s.rd (F.MB_CH_TAG ↑c); (let got : Option (List Byte) := if bits s.pcie.bme 0 1 = 1 then buf else none; (s.rd F.MG_STATUS_STATE ≠ 4) ∧ (tag = 261) ∧ (got = none)))) (2) (none) (true) (true) (false) (false) (rqS 0x105 [] (fun r => r))) ∧
    ((fun (c : Fin 4) (buf : Option (List Byte)) (sig : Bool) (fmt : Bool) (nor : Bool) (ok : Bool) (s : State) => (s.reqNow ↑c = true) ∧ (let tag : ℕ := s.rd (F.MB_CH_TAG ↑c); (let got : Option (List Byte) := if bits s.pcie.bme 0 1 = 1 then buf else none; (s.rd F.MG_STATUS_STATE ≠ 4) ∧ (tag = 261) ∧ (Option.all (fun b => decide (12 ≤ b.length)) got = true) ∧ (got.isSome = true)))) (2) (some (List.replicate 12 0)) (true) (true) (false) (false) (rqS 0x105 [] (fun r => r))) ∧
    ((fun (c : Fin 4) (buf : Option (List Byte)) (sig : Bool) (fmt : Bool) (nor : Bool) (ok : Bool) (s : State) => (s.reqNow ↑c = true) ∧ (let tag : ℕ := s.rd (F.MB_CH_TAG ↑c); (s.rd F.MG_STATUS_STATE ≠ 4) ∧ (tag = 262) ∧ (ok = false))) (2) (none) (true) (true) (false) (false) (rqS 0x106 [] (fun r => r))) ∧
    ((fun (c : Fin 4) (buf : Option (List Byte)) (sig : Bool) (fmt : Bool) (nor : Bool) (ok : Bool) (s : State) => (s.reqNow ↑c = true) ∧ (let tag : ℕ := s.rd (F.MB_CH_TAG ↑c); (s.rd F.MG_STATUS_STATE ≠ 4) ∧ (tag = 262) ∧ (ok = true) ∧ (bits s.pcie.bme 0 1 = 1))) (2) (none) (true) (true) (false) (true) (rqS 0x106 [] (fun r => r))) :=
  by decide

theorem test_RequestsOfTheHost_6 :
    ((fun (c : Fin 4) (buf : Option (List Byte)) (sig : Bool) (fmt : Bool) (nor : Bool) (ok : Bool) (s : State) => (s.reqNow ↑c = true) ∧ (let tag : ℕ := s.rd (F.MB_CH_TAG ↑c); (s.rd F.MG_STATUS_STATE ≠ 4) ∧ (tag = 263) ∧ (s.mg.staged = false))) (2) (none) (true) (true) (false) (true) (rqS 0x107 [] (fun r => r))) ∧
    ((fun (c : Fin 4) (buf : Option (List Byte)) (sig : Bool) (fmt : Bool) (nor : Bool) (ok : Bool) (s : State) => (s.reqNow ↑c = true) ∧ (let tag : ℕ := s.rd (F.MB_CH_TAG ↑c); (s.rd F.MG_STATUS_STATE ≠ 4) ∧ (tag = 263) ∧ (s.mg.staged = true) ∧ (s.inReset 20 = false))) (2) (none) (true) (true) (false) (true) (rqS 0x107 [] (fun r => { r with staged := true }))) ∧
    ((fun (c : Fin 4) (buf : Option (List Byte)) (sig : Bool) (fmt : Bool) (nor : Bool) (ok : Bool) (s : State) => (s.reqNow ↑c = true) ∧ (let tag : ℕ := s.rd (F.MB_CH_TAG ↑c); (s.rd F.MG_STATUS_STATE ≠ 4) ∧ (tag = 264) ∧ (s.rd F.MG_STATUS_STATE ≠ 2))) (2) (none) (true) (true) (false) (true) (rqS 0x108 [] (fun r => r))) ∧
    ((fun (c : Fin 4) (buf : Option (List Byte)) (sig : Bool) (fmt : Bool) (nor : Bool) (ok : Bool) (s : State) => (s.reqNow ↑c = true) ∧ (let tag : ℕ := s.rd (F.MB_CH_TAG ↑c); (s.rd F.MG_STATUS_STATE ≠ 4) ∧ (tag = 264) ∧ (s.rd F.MG_STATUS_STATE = 2))) (2) (none) (true) (true) (false) (true) (rqS 0x108 [(F.MG_STATUS_STATE, 2)] (fun r => r))) ∧
    ((fun (c : Fin 4) (buf : Option (List Byte)) (sig : Bool) (fmt : Bool) (nor : Bool) (ok : Bool) (s : State) => (s.reqNow ↑c = true) ∧ (let tag : ℕ := s.rd (F.MB_CH_TAG ↑c); (s.rd F.MG_STATUS_STATE ≠ 4) ∧ (tag = 265) ∧ (s.ownerData = none))) (2) (none) (true) (true) (false) (true) (rqS 0x109 [] (fun r => r))) ∧
    ((fun (c : Fin 4) (buf : Option (List Byte)) (sig : Bool) (fmt : Bool) (nor : Bool) (ok : Bool) (s : State) => (s.reqNow ↑c = true) ∧ (let tag : ℕ := s.rd (F.MB_CH_TAG ↑c); (s.rd F.MG_STATUS_STATE ≠ 4) ∧ (tag = 265) ∧ (s.ownerData.isSome = true) ∧ (ok = true) ∧ (bits s.pcie.bme 0 1 = 1))) (2) (none) (true) (true) (false) (true) (rqS 0x109 [(F.MG_STATUS_EBAIN, 1)] (fun r => { r with ebA := some ⟨ebI 4, true⟩ }))) :=
  by decide

theorem test_RequestsOfTheHost_7 :
    ((fun (c : Fin 4) (buf : Option (List Byte)) (sig : Bool) (fmt : Bool) (nor : Bool) (ok : Bool) (s : State) => (s.reqNow ↑c = true) ∧ (let tag : ℕ := s.rd (F.MB_CH_TAG ↑c); (s.rd F.MG_STATUS_STATE ≠ 4) ∧ (tag = 265) ∧ (s.ownerData.isSome = true) ∧ (ok = false))) (2) (none) (true) (true) (false) (false) (rqS 0x109 [(F.MG_STATUS_EBAIN, 1)] (fun r => { r with ebA := some ⟨ebI 4, true⟩ }))) ∧
    ((fun (c : Fin 4) (buf : Option (List Byte)) (sig : Bool) (fmt : Bool) (nor : Bool) (ok : Bool) (s : State) => (s.reqNow ↑c = true) ∧ (let tag : ℕ := s.rd (F.MB_CH_TAG ↑c); (s.rd F.MG_STATUS_STATE ≠ 4) ∧ (tag < 257 ∨ 265 < tag))) (2) (none) (true) (true) (false) (false) (rqS 0x10A [] (fun r => r))) ∧
    ((fun (c : Fin 4) (kind : ℕ) (arg : ℕ) (s : State) => (s.rd F.MB_CTRL_EN = 1) ∧ (s.fwRuns = true) ∧ (s.rd (F.MB_CH_STAT_FULL ↑c) = 1) ∧ (s.mg.replies = []) ∧ (s.mbBound (↑c) 0 = true) ∧ (s.mbReceiver ↑c = 0) ∧ (s.mbBound (↑c + 4) 0 = true) ∧ (s.mbSender (↑c + 4) = 0) ∧ (kind < 65536) ∧ (arg < 65536) ∧ (s.rd (F.MB_CH_STAT_FULL (↑c + 4)) = 0)) (2) (65535) (65535) (rqS 0x10A [] (fun r => r))) ∧
    ((fun (c : Fin 4) (kind : ℕ) (arg : ℕ) (s : State) => (s.rd F.MB_CTRL_EN = 1) ∧ (s.fwRuns = true) ∧ (s.rd (F.MB_CH_STAT_FULL ↑c) = 1) ∧ (s.mg.replies = []) ∧ (s.mbBound (↑c) 0 = true) ∧ (s.mbReceiver ↑c = 0) ∧ (s.mbBound (↑c + 4) 0 = true) ∧ (s.mbSender (↑c + 4) = 0) ∧ (kind < 65536) ∧ (arg < 65536) ∧ (s.rd (F.MB_CH_STAT_FULL (↑c + 4)) = 1)) (2) (65535) (65535) (rqS 0x10A [(F.MB_CH_STAT_FULL 6, 1)] (fun r => r))) ∧
    ((fun (c : Fin 4) (buf : Option (List Byte)) (sig : Bool) (fmt : Bool) (nor : Bool) (ok : Bool) (s : State) => (s.reqNow ↑c = true) ∧ (let tag : ℕ := s.rd (F.MB_CH_TAG ↑c); (let got : Option (List Byte) := if bits s.pcie.bme 0 1 = 1 then buf else none; (s.rd F.MG_STATUS_STATE ≠ 4) ∧ (tag = 258) ∧ (s.rd F.MG_STATUS_STATE ≠ 2) ∧ (Option.all (fun b => decide (16 ≤ b.length ∧ (fwLength b ≤ b.length ∨ 8388608 < fwLength b))) got = true) ∧ (got.isSome = true) ∧ (let b : List Byte := got.getD []; (fmt = true) ∧ (fwSvn b < 64) ∧ (8388608 < fwLength b))))) (2) (some (fwI 3 8388609)) (true) (true) (false) (false) (rqS 0x102 [] (fun r => r))) ∧
    ((fun (c : Fin 4) (buf : Option (List Byte)) (sig : Bool) (fmt : Bool) (nor : Bool) (ok : Bool) (s : State) => (s.reqNow ↑c = true) ∧ (let tag : ℕ := s.rd (F.MB_CH_TAG ↑c); (let got : Option (List Byte) := if bits s.pcie.bme 0 1 = 1 then buf else none; (s.rd F.MG_STATUS_STATE ≠ 4) ∧ (tag = 259) ∧ (Option.all (fun b => decide (b.length = 64)) got = true) ∧ (got.isSome = true) ∧ (s.lc = lcOwned) ∧ (s.mg.ownerKey = none)))) (2) (some (List.replicate 64 5)) (true) (true) (false) (false) (rqS 0x103 [(F.AC_STATUS_LC, 2)] (fun r => r))) :=
  by decide

theorem test_FirmwareAndItsSensors_1 :
    ((fun (tk : List Byte) (sig : Bool) (s : State) => (s.crp.token = none)) ([]) (true) (St [])) ∧
    ((fun (tk : List Byte) (sig : Bool) (s : State) => (s.crp.token = some tk) ∧ (s.fwRuns = true) ∧ (s.rd F.MG_STATUS_STATE ≠ 4)) ([]) (true) (crS (rqS 0 [] (fun r => r)) (fun c => { c with token := some [] }))) ∧
    ((fun (addr : ℕ) (code : ℕ) (fail : Bool) (r : LogRec) (l : List LogRec) (s : State) => (let ends : ℕ := s.mg.trialAt + max 1 (s.rd F.MG_FW_TRIAL) * 1000000000; (s.rd F.MG_STATUS_STATE ≠ 2 ∨ s.tb.mono < ends))) (0x4C) (3) (false) (⟨0, 0, 0, 0, 0, 0, []⟩) ([]) (St [])) ∧
    ((fun (addr : ℕ) (code : ℕ) (fail : Bool) (r : LogRec) (l : List LogRec) (s : State) => (s.rd F.CRP_BOOT_PHASE < 3 ∨ s.inReset 20 = true ∨ s.crp.off = true)) (0x4C) (3) (false) (⟨0, 0, 0, 0, 0, 0, []⟩) ([]) (St [])) ∧
    ((fun (addr : ℕ) (code : ℕ) (fail : Bool) (r : LogRec) (l : List LogRec) (s : State) => (s.mayEnd 20 = false)) (0x4C) (3) (false) (⟨0, 0, 0, 0, 0, 0, []⟩) ([]) (St [])) ∧
    ((fun (addr : ℕ) (code : ℕ) (fail : Bool) (r : LogRec) (l : List LogRec) (s : State) => (s.crp.off = false) ∧ (s.rd F.MG_I2C_CFG_EN = 1) ∧ (addr = s.rd F.MG_I2C_CFG_ADDR) ∧ (code < 4)) (0x4C) (3) (false) (⟨0, 0, 0, 0, 0, 0, []⟩) ([]) (St [])) :=
  by decide

theorem test_FirmwareAndItsSensors_2 :
    ((fun (addr : ℕ) (code : ℕ) (fail : Bool) (r : LogRec) (l : List LogRec) (s : State) => (s.crp.off = false) ∧ (s.rd F.MG_I2C_CFG_EN = 1)) (0x4C) (3) (false) (⟨0, 0, 0, 0, 0, 0, []⟩) ([]) (St [])) ∧
    ((fun (addr : ℕ) (code : ℕ) (fail : Bool) (r : LogRec) (l : List LogRec) (s : State) => (s.mg.buf = [])) (0x4C) (3) (false) (⟨0, 0, 0, 0, 0, 0, []⟩) ([]) (St [])) ∧
    ((fun (addr : ℕ) (code : ℕ) (fail : Bool) (r : LogRec) (l : List LogRec) (s : State) => (s.fwRuns = false ∨ max 1 (s.rd F.MG_LOG_CFG) ≤ s.logSpent)) (0x4C) (3) (false) (⟨0, 0, 0, 0, 0, 0, []⟩) ([]) (St [])) ∧
    ((fun (addr : ℕ) (code : ℕ) (fail : Bool) (r : LogRec) (l : List LogRec) (s : State) => (s.crp.off = true ∨ s.rd F.MG_I2C_CFG_EN = 0 ∨ addr ≠ s.rd F.MG_I2C_CFG_ADDR)) (0x4D) (3) (false) (⟨0, 0, 0, 0, 0, 0, []⟩) ([]) (St [(F.MG_I2C_CFG_EN, 0)])) ∧
    ((fun (addr : ℕ) (code : ℕ) (fail : Bool) (r : LogRec) (l : List LogRec) (s : State) => (s.crp.off = true ∨ s.rd F.MG_I2C_CFG_EN = 0)) (0x4D) (3) (false) (⟨0, 0, 0, 0, 0, 0, []⟩) ([]) (St [(F.MG_I2C_CFG_EN, 0)])) ∧
    ((fun (addr : ℕ) (code : ℕ) (fail : Bool) (r : LogRec) (l : List LogRec) (s : State) => (3 ≤ s.rd F.CRP_BOOT_PHASE) ∧ (s.inReset 20 = false) ∧ (s.crp.off = false)) (0x4C) (0x17) (false) (⟨1, 0, 0, 0, 0, 0, []⟩) ([]) (rqS 0 [(F.MG_LOG_CFG, 0)] (fun r => { r with buf := [⟨1, 0, 0, 0, 0, 0, []⟩], logSeq := 1023 }))) :=
  by decide

theorem test_FirmwareAndItsSensors_3 :
    ((fun (addr : ℕ) (code : ℕ) (fail : Bool) (r : LogRec) (l : List LogRec) (s : State) => (s.crp.off = false) ∧ (s.rd F.MG_I2C_CFG_EN = 1) ∧ (addr = s.rd F.MG_I2C_CFG_ADDR) ∧ (16 ≤ code) ∧ (code < 24)) (0x4C) (0x17) (false) (⟨1, 0, 0, 0, 0, 0, []⟩) ([]) (rqS 0 [(F.MG_LOG_CFG, 0)] (fun r => { r with buf := [⟨1, 0, 0, 0, 0, 0, []⟩], logSeq := 1023 }))) ∧
    ((fun (addr : ℕ) (code : ℕ) (fail : Bool) (r : LogRec) (l : List LogRec) (s : State) => (s.mg.buf = r :: l) ∧ (s.fwRuns = true) ∧ (s.logSpent < max 1 (s.rd F.MG_LOG_CFG)) ∧ (s.mg.logSeq % 1024 ≠ 0) ∧ (fail = false)) (0x4C) (0x17) (false) (⟨1, 0, 0, 0, 0, 0, []⟩) ([]) (rqS 0 [(F.MG_LOG_CFG, 0)] (fun r => { r with buf := [⟨1, 0, 0, 0, 0, 0, []⟩], logSeq := 1023 }))) ∧
    ((fun (addr : ℕ) (code : ℕ) (fail : Bool) (r : LogRec) (l : List LogRec) (s : State) => (s.mg.buf = r :: l) ∧ (s.fwRuns = true) ∧ (s.logSpent < max 1 (s.rd F.MG_LOG_CFG)) ∧ (s.mg.logSeq % 1024 ≠ 0) ∧ (fail = true)) (0x4C) (0x17) (true) (⟨1, 0, 0, 0, 0, 0, []⟩) ([]) (rqS 0 [(F.MG_LOG_CFG, 0)] (fun r => { r with buf := [⟨1, 0, 0, 0, 0, 0, []⟩], logSeq := 1023 }))) ∧
    ((fun (addr : ℕ) (code : ℕ) (fail : Bool) (r : LogRec) (l : List LogRec) (s : State) => (s.crp.off = false) ∧ (s.rd F.MG_I2C_CFG_EN = 1) ∧ (addr = s.rd F.MG_I2C_CFG_ADDR) ∧ (32 ≤ code) ∧ (code < 40)) (0x4C) (0x27) (true) (⟨1, 0, 0, 0, 0, 0, []⟩) ([]) (rqS 0 [(F.MG_LOG_CFG, 0)] (fun r => { r with buf := [⟨1, 0, 0, 0, 0, 0, []⟩], logSeq := 1023, logN := 1 }))) ∧
    ((fun (addr : ℕ) (code : ℕ) (fail : Bool) (r : LogRec) (l : List LogRec) (s : State) => (let ends : ℕ := s.mg.trialAt + max 1 (s.rd F.MG_FW_TRIAL) * 1000000000; (s.fwRuns = true) ∧ (s.rd F.MG_STATUS_STATE = 2) ∧ (ends ≤ s.tb.mono) ∧ (s.inReset 20 = false))) (0x4C) (0x30) (true) (⟨1, 0, 0, 0, 0, 0, []⟩) ([]) (atMono (rqS 0 [(F.MG_STATUS_STATE, 2), (F.MG_FW_TRIAL, 0)] (fun r => r)) 1000000000)) ∧
    ((fun (addr : ℕ) (code : ℕ) (fail : Bool) (r : LogRec) (l : List LogRec) (s : State) => (s.crp.off = false) ∧ (s.rd F.MG_I2C_CFG_EN = 1) ∧ (addr = s.rd F.MG_I2C_CFG_ADDR) ∧ (code = 48)) (0x4C) (0x30) (true) (⟨1, 0, 0, 0, 0, 0, []⟩) ([]) (atMono (rqS 0 [(F.MG_STATUS_STATE, 2), (F.MG_FW_TRIAL, 0)] (fun r => r)) 1000000000)) :=
  by decide

theorem test_FirmwareAndItsSensors_4 :
    ((fun (addr : ℕ) (code : ℕ) (fail : Bool) (r : LogRec) (l : List LogRec) (s : State) => (s.crp.off = false) ∧ (s.rd F.MG_I2C_CFG_EN = 1) ∧ (addr = s.rd F.MG_I2C_CFG_ADDR) ∧ (50 ≤ code) ∧ (code < 256)) (0x4C) (0xFF) (true) (⟨1, 0, 0, 0, 0, 0, []⟩) ([]) (crS (rqS 0 [(F.MG_STATUS_STATE, 3)] (fun r => r)) (fun c => { c with blk := [(20, 0)] }))) ∧
    ((fun (addr : ℕ) (code : ℕ) (fail : Bool) (r : LogRec) (l : List LogRec) (s : State) => (s.mayEnd 20 = true) ∧ (s.fwPasses (s.fwSlot s.mg.active) = true) ∧ (s.mg.trialNext = true)) (0x4C) (0xFF) (true) (⟨1, 0, 0, 0, 0, 0, []⟩) ([]) (crS (rqS 0 [(F.MG_STATUS_STATE, 3)] (fun r => { r with trialNext := true })) (fun c => { c with blk := [(20, 0)] }))) ∧
    ((fun (addr : ℕ) (code : ℕ) (fail : Bool) (r : LogRec) (l : List LogRec) (s : State) => (s.mayEnd 20 = true) ∧ (s.fwPasses (s.fwSlot s.mg.active) = false) ∧ (s.fwPasses (s.fwSlot !s.mg.active) = false)) (0x4C) (0xFF) (true) (⟨1, 0, 0, 0, 0, 0, []⟩) ([]) (crS (rqS 0 [(F.MG_STATUS_STATE, 3)] (fun r => { r with fwA := slB, fwB := slB })) (fun c => { c with blk := [(20, 0)] }))) ∧
    ((fun (temps : List ℕ) (sups : List ℕ) (curs : List ℕ) (degr : List ℕ) (weeks : List ℕ) (tot : ℕ) (s : State) => (s.fwRuns = true) ∧ (s.rd F.FD_STATUS_ISO_UP = 1) ∧ (temps.length = 4) ∧ (sups.length = 8) ∧ (curs.length = 8)) ([100, 110, 65530, 4000]) ([12000, 1800, 1, 2, 3, 4, 5, 70000]) ([1, 2, 3, 4, 5, 6, 7, 8]) ([1, 2, 3, 4, 5, 6, 7, 8, 9, 10, 11, 12]) ([1, 2, 3, 4, 5, 6, 7, 8, 9, 10, 11, 12]) (100) (rqS 0 [(F.FD_STATUS_ISO_UP, 1)] (fun r => r))) ∧
    ((fun (temps : List ℕ) (sups : List ℕ) (curs : List ℕ) (degr : List ℕ) (weeks : List ℕ) (tot : ℕ) (s : State) => (s.fwRuns = true) ∧ (s.inReset 21 = false) ∧ (degr.length = 12) ∧ (weeks.length = 12)) ([100, 110, 65530, 4000]) ([12000, 1800, 1, 2, 3, 4, 5, 70000]) ([1, 2, 3, 4, 5, 6, 7, 8]) ([1, 2, 3, 4, 5, 6, 7, 8, 9, 10, 11, 12]) ([1, 2, 3, 4, 5, 6, 7, 8, 9, 10, 11, 12]) (100) (rqS 0 [(F.FD_STATUS_ISO_UP, 1)] (fun r => r))) ∧
    ((fun (temps : List ℕ) (sups : List ℕ) (curs : List ℕ) (degr : List ℕ) (weeks : List ℕ) (tot : ℕ) (s : State) => (s.fwRuns = false)) ([]) ([]) ([]) ([]) ([]) (100) (St [])) :=
  by decide

theorem test_ResetsOfTheModule_1 :
    ((fun (m : ℕ) (key : ℕ) (go : Bool) (v33 : Bool) (s : State) => (s.crp.off = false)) (0) (0x1C3) (true) (true) (crS (bootS 6 3 [(F.MG_FW_CNT, 5), (F.CL_STATUS_ERR_PAD, 1), (F.LN_CTRL_EN, 1)]) (fun c => { c with chipReq := true }))) ∧
    ((fun (m : ℕ) (key : ℕ) (go : Bool) (v33 : Bool) (s : State) => (let hi : Prop := s.cl.conds.contains (Src.VIO_FAULT, 1) = false; (hi) ∧ (s.crp.rstLow = false) ∧ (s.crp.off = false) ∧ (s.crp.tr ≤ s.tb.mono))) (0) (0x1C3) (true) (true) (crS (bootS 6 3 [(F.MG_FW_CNT, 5), (F.CL_STATUS_ERR_PAD, 1), (F.LN_CTRL_EN, 1)]) (fun c => { c with chipReq := true }))) ∧
    ((fun (m : ℕ) (key : ℕ) (go : Bool) (v33 : Bool) (s : State) => (let low : Prop := s.cl.conds.contains (Src.VIO_FAULT, 1) = true; (s.crp.rstLow = false ∨ low))) (0) (0x1C3) (true) (true) (crS (bootS 6 3 [(F.MG_FW_CNT, 5), (F.CL_STATUS_ERR_PAD, 1), (F.LN_CTRL_EN, 1)]) (fun c => { c with chipReq := true }))) ∧
    ((fun (m : ℕ) (key : ℕ) (go : Bool) (v33 : Bool) (s : State) => (s.crp.chipReq = true)) (0) (0x1C3) (true) (true) (crS (bootS 6 3 [(F.MG_FW_CNT, 5), (F.CL_STATUS_ERR_PAD, 1), (F.LN_CTRL_EN, 1)]) (fun c => { c with chipReq := true }))) ∧
    ((fun (m : ℕ) (key : ℕ) (go : Bool) (v33 : Bool) (s : State) => (s.accepts m 65556 permW) ∧ (go = true) ∧ (key % 256 = 195) ∧ (s.may 0 m permADM = true) ∧ (s.crp.chipReq = true)) (0) (0x1C3) (true) (true) (crS (bootS 6 3 [(F.MG_FW_CNT, 5), (F.CL_STATUS_ERR_PAD, 1), (F.LN_CTRL_EN, 1)]) (fun c => { c with chipReq := true }))) ∧
    ((fun (m : ℕ) (key : ℕ) (go : Bool) (v33 : Bool) (s : State) => (s.crp.off = false)) (0) (0x1C3) (true) (true) (crS (bootS 6 3 [(F.MG_FW_CNT, 5), (F.CL_STATUS_ERR_PAD, 1), (F.LN_CTRL_EN, 1)]) (fun c => { c with chipReq := true }))) :=
  by decide

theorem test_ResetsOfTheModule_2 :
    ((fun (m : ℕ) (key : ℕ) (go : Bool) (v33 : Bool) (s : State) => (s.crp.chipReq = false)) (0) (0xC3) (true) (true) (atDt (atMono (bootS 6 3 [(F.MG_FW_CNT, 5)]) 100) 50)) ∧
    ((fun (m : ℕ) (key : ℕ) (go : Bool) (v33 : Bool) (s : State) => (s.accepts m 65556 permW) ∧ (go = true) ∧ (key % 256 = 195) ∧ (s.may 0 m permADM = true) ∧ (s.crp.chipReq = false) ∧ (s.crp.tr ≤ s.tb.mono)) (0) (0xC3) (true) (true) (atDt (atMono (bootS 6 3 [(F.MG_FW_CNT, 5)]) 100) 50)) ∧
    ((fun (m : ℕ) (key : ℕ) (go : Bool) (v33 : Bool) (s : State) => (s.accepts m 65556 permW) ∧ (go = true) ∧ (key % 256 = 195) ∧ (s.may 0 m permADM = false)) (0x20) (0xC3) (true) (true) (StP [(F.AC_TBL_t_w 1 4, 2), (F.AC_TBL_t_w 0 4, 0)])) ∧
    ((fun (m : ℕ) (key : ℕ) (go : Bool) (v33 : Bool) (s : State) => (s.accepts m 65556 permW) ∧ (go = true) ∧ (key % 256 ≠ 195)) (0) (0xC4) (true) (true) (bootS 6 3 [(F.MG_FW_CNT, 5)])) ∧
    ((fun (m : ℕ) (key : ℕ) (go : Bool) (v33 : Bool) (s : State) => (let low : Prop := s.cl.conds.contains (Src.VIO_FAULT, 1) = true; (s.crp.rstLow = true ∨ low))) (0) (0xC3) (false) (true) (crS (bootS 6 3 [(F.MG_FW_CNT, 5)]) (fun c => { c with rstLow := true }))) ∧
    ((fun (m : ℕ) (key : ℕ) (go : Bool) (v33 : Bool) (s : State) => (let hi : Prop := s.cl.conds.contains (Src.VIO_FAULT, 1) = false; (hi) ∧ (s.crp.rstLow = true))) (0) (0xC3) (false) (true) (crS (bootS 6 3 [(F.MG_FW_CNT, 5)]) (fun c => { c with rstLow := true }))) :=
  by decide

theorem test_ResetsOfTheModule_3 :
    ((fun (m : ℕ) (key : ℕ) (go : Bool) (v33 : Bool) (s : State) => (s.crp.off = true)) (0) (0xC3) (false) (true) (crS (bootS 6 3 [(F.MG_FW_CNT, 5), (F.LN_CTRL_EN, 1)]) (fun c => { c with off := true }))) ∧
    ((fun (m : ℕ) (key : ℕ) (go : Bool) (v33 : Bool) (s : State) => (s.crp.off = true)) (0) (0xC3) (false) (true) (crS (bootS 6 3 [(F.MG_FW_CNT, 5), (F.LN_CTRL_EN, 1)]) (fun c => { c with off := true }))) ∧
    ((fun (m : ℕ) (key : ℕ) (go : Bool) (v33 : Bool) (s : State) => (s.accepts m 65556 permW) ∧ (go = false)) (0) (0xC3) (false) (true) (cnd (bootS 6 3 []) [(Src.VIO_FAULT, 1)])) ∧
    ((fun (fn : Fin 16) (s : State) => (s.rd F.CRP_BOOT_PHASE ≠ 6)) (0) (StP [(F.TB_SERVO_OWNER, 1), (F.TB_SERVO_GRANT, 1)])) ∧
    ((fun (fn : Fin 16) (s : State) => (s.rd F.CRP_BOOT_PHASE = 6) ∧ (↑fn = 0)) (0) (StP [(F.CRP_BOOT_PHASE, 6), (F.TB_SERVO_OWNER, 1), (F.TB_SERVO_GRANT, 1)])) ∧
    ((fun (fn : Fin 16) (s : State) => (s.rd F.CRP_BOOT_PHASE = 6) ∧ (↑fn ≠ 0)) (15) (pcS (StP [(F.CRP_BOOT_PHASE, 6), (F.TB_SERVO_OWNER, 1), (F.TB_SERVO_GRANT, 1)]) (fun p => { p with vfe := true, mse := 0xFFFF, bme := 0xFFFF, msixPend := [0xF02, 2] }))) :=
  by decide

theorem test_ResetsOfTheModule_4 :
    ((fun (m : ℕ) (b : ℕ) (s : State) => (s.accepts m 65552 permW) ∧ (b < 23) ∧ (s.may (if b = 22 then 13 else b) m permADM = false)) (0x20) (13) (StP [(F.AC_TBL_t_w 1 4, 2), (F.AC_TBL_t_w 13 4, 2)])) ∧
    ((fun (b : Fin 23) (s : State) => (s.mayEnd ↑b = false)) (13) (StP [(F.AC_TBL_t_w 1 4, 2), (F.AC_TBL_t_w 13 4, 2)])) ∧
    ((fun (b : Fin 23) (s : State) => (s.inReset ↑b = false)) (13) (StP [(F.AC_TBL_t_w 1 4, 2), (F.AC_TBL_t_w 13 4, 2)])) ∧
    ((fun (m : ℕ) (b : ℕ) (s : State) => (s.accepts m 65552 permW) ∧ (b < 23) ∧ (s.may (if b = 22 then 13 else b) m permADM = true) ∧ (b = 0 ∨ b = 1 ∨ b = 17 ∨ s.heldBlk b = true)) (0x20) (0) (StP [(F.AC_TBL_t_w 1 4, 2), (F.AC_TBL_t_w 0 4, 0xF)])) ∧
    ((fun (m : ℕ) (b : ℕ) (s : State) => (s.accepts m 65552 permW) ∧ (b < 23) ∧ (s.may (if b = 22 then 13 else b) m permADM = true) ∧ (b = 19) ∧ (s.heldBlk b = false)) (0x20) (0x13) (StP [(F.AC_TBL_t_w 1 4, 2), (F.AC_TBL_t_w 0x13 4, 0xF)])) ∧
    ((fun (m : ℕ) (b : ℕ) (s : State) (f : Fld) => (s.accepts m 65552 permW) ∧ (b < 23) ∧ (s.may (if b = 22 then 13 else b) m permADM = true) ∧ (b ≠ 0) ∧ (b ≠ 1) ∧ (b ≠ 17) ∧ (b ≠ 19) ∧ (s.inReset b = false) ∧ (b = 9 ∨ b = 10 ∨ b = 12) ∧ (blkOf (f.key / 32) = b) ∧ (f.key ∉ [F.PS_STATUS_WIPING.key, F.LT_STATUS_WIPING.key, F.PT_STATUS_WIPING.key])) (0x20) (12) (StP [(F.AC_TBL_t_w 1 4, 2), (F.AC_TBL_t_w 12 4, 0xF), (F.PT_MADDR, 1)]) (F.PT_MADDR)) :=
  by decide

theorem test_ResetsOfTheModule_5 :
    ((fun (m : ℕ) (b : ℕ) (s : State) => (s.accepts m 65552 permW) ∧ (b < 23) ∧ (s.may (if b = 22 then 13 else b) m permADM = true) ∧ (b ≠ 0) ∧ (b ≠ 1) ∧ (b ≠ 17) ∧ (b ≠ 19) ∧ (s.inReset b = true) ∧ (s.heldBlk b = false)) (0x20) (22) (brS 22 [])) ∧
    ((fun (b : Fin 23) (s : State) => (s.mayEnd ↑b = true) ∧ (↑b ≠ 20) ∧ (↑b = 22)) (22) (brS 22 [])) ∧
    ((fun (b : Fin 23) (s : State) => (s.mayEnd ↑b = true) ∧ (↑b ≠ 20) ∧ (↑b = 13)) (13) (brS 13 [(F.GY_STATUS_WIPING, 1), (F.CL_SETTLE, 20000)])) ∧
    ((fun (b : Fin 23) (s : State) => (s.mayEnd ↑b = true) ∧ (↑b ≠ 20) ∧ (↑b = 11)) (11) (brS 11 [(F.GR_STATUS_WIPING, 1), (F.CL_SETTLE, 20000)])) :=
  by decide

theorem test_HostLinkAndSupplies_1 :
    ((fun (width : ℕ) (speed : ℕ) (bit : ℕ) (fn : Fin 16) (word : Fin 1024) (b : Bool) (x : Supply) (s : State) => (s.crp.off = true ∨ s.rd F.CRP_PCIE_STAT_PERST = 1)) (4) (3) (30) (15) (0) (true) (.vmainLow) (crS (St []) (fun c => { c with off := true }))) ∧
    ((fun (width : ℕ) (speed : ℕ) (bit : ℕ) (fn : Fin 16) (word : Fin 1024) (b : Bool) (x : Supply) (s : State) => (s.crp.off = true ∨ s.rd F.CRP_PCIE_STAT_PERST = 0)) (4) (3) (30) (15) (0) (true) (.vmainLow) (crS (St []) (fun c => { c with off := true }))) ∧
    ((fun (width : ℕ) (speed : ℕ) (bit : ℕ) (fn : Fin 16) (word : Fin 1024) (b : Bool) (x : Supply) (s : State) => (s.rd F.CRP_PCIE_STAT_PERST = 1 ∨ s.crp.off = true ∨ s.crp.rstLow = true)) (4) (3) (30) (15) (0) (true) (.vmainLow) (crS (St []) (fun c => { c with off := true }))) ∧
    ((fun (width : ℕ) (speed : ℕ) (bit : ℕ) (fn : Fin 16) (word : Fin 1024) (b : Bool) (x : Supply) (s : State) => (s.rd F.CRP_BOOT_PHASE ≠ 6 ∨ s.rd F.CRP_PCIE_STAT_PERST = 1)) (4) (3) (30) (15) (0) (true) (.vmainLow) (crS (St []) (fun c => { c with off := true }))) ∧
    ((fun (width : ℕ) (speed : ℕ) (bit : ℕ) (fn : Fin 16) (word : Fin 1024) (b : Bool) (x : Supply) (s : State) => (s.rd F.CRP_PWR_STATUS_STATE = pwRun ∨ s.rd F.CRP_PCIE_STAT_LINK_UP = 0)) (4) (3) (30) (15) (0) (true) (.vmainLow) (crS (St []) (fun c => { c with off := true }))) ∧
    ((fun (width : ℕ) (speed : ℕ) (bit : ℕ) (fn : Fin 16) (word : Fin 1024) (b : Bool) (x : Supply) (s : State) => (s.pcie.l12 = false)) (4) (3) (30) (15) (0) (true) (.vmainLow) (crS (St []) (fun c => { c with off := true }))) :=
  by decide

theorem test_HostLinkAndSupplies_2 :
    ((fun (width : ℕ) (speed : ℕ) (bit : ℕ) (fn : Fin 16) (word : Fin 1024) (b : Bool) (x : Supply) (s : State) => (s.pcie.l12 = false ∨ s.pcie.wakeAsked = true ∨ s.pcie.held = [] ∨ s.tb.mono < s.pcie.heldAt + max 1 (s.rd F.CRP_PWR_CFG_WAKE_US) * 1000)) (4) (3) (30) (15) (0) (true) (.vmainLow) (crS (St []) (fun c => { c with off := true }))) ∧
    ((fun (width : ℕ) (speed : ℕ) (bit : ℕ) (fn : Fin 16) (word : Fin 1024) (b : Bool) (x : Supply) (s : State) => (let answers : Prop := s.rd F.CRP_BOOT_PHASE = 6 ∧ s.rd F.CRP_PCIE_STAT_PERST = 0 ∧ (s.pcie.flr.any fun y => y.1 == ↑fn) = false ∧ (↑fn = 0 ∨ s.pcie.vfe = true); (¬answers))) (4) (3) (30) (15) (0) (true) (.vmainLow) (crS (St []) (fun c => { c with off := true }))) ∧
    ((fun (width : ℕ) (speed : ℕ) (bit : ℕ) (fn : Fin 16) (word : Fin 1024) (b : Bool) (x : Supply) (s : State) => (x = Supply.vmainLow)) (4) (3) (30) (15) (0) (true) (.vmainLow) (crS (St []) (fun c => { c with off := true }))) ∧
    ((fun (width : ℕ) (speed : ℕ) (bit : ℕ) (fn : Fin 16) (word : Fin 1024) (b : Bool) (x : Supply) (s : State) => (bit = 30)) (4) (3) (30) (15) (0) (true) (.vmainLow) (crS (St []) (fun c => { c with off := true }))) ∧
    ((fun (width : ℕ) (speed : ℕ) (bit : ℕ) (fn : Fin 16) (word : Fin 1024) (b : Bool) (x : Supply) (s : State) => (s.rd F.CRP_PCIE_STAT_PERST = 0)) (4) (3) (30) (15) (0) (true) (.vmainLow) (crS (St []) (fun c => { c with off := true }))) ∧
    ((fun (width : ℕ) (speed : ℕ) (bit : ℕ) (fn : Fin 16) (word : Fin 1024) (b : Bool) (x : Supply) (s : State) => (let hi : Prop := s.cl.conds.contains (Src.VIO_FAULT, 1) = false; (hi) ∧ (s.crp.off = false) ∧ (s.rd F.CRP_PCIE_STAT_PERST = 0) ∧ (s.rd F.CRP_BOOT_PHASE ≠ 6))) (4) (3) (29) (15) (1) (false) (.vmainHigh) (St [(F.CRP_PCIE_STAT_LINK_UP, 1), (F.CRP_PCIE_STAT_PERST, 0)])) :=
  by decide

theorem test_HostLinkAndSupplies_3 :
    ((fun (width : ℕ) (speed : ℕ) (bit : ℕ) (fn : Fin 16) (word : Fin 1024) (b : Bool) (x : Supply) (s : State) => (s.rd F.CRP_PCIE_STAT_PERST = 0) ∧ (s.crp.off = false) ∧ (s.crp.rstLow = false) ∧ (s.pcie.rxHold = [])) (4) (3) (29) (15) (1) (false) (.vmainHigh) (St [(F.CRP_PCIE_STAT_LINK_UP, 1), (F.CRP_PCIE_STAT_PERST, 0)])) ∧
    ((fun (width : ℕ) (speed : ℕ) (bit : ℕ) (fn : Fin 16) (word : Fin 1024) (b : Bool) (x : Supply) (s : State) => (x = Supply.vmainHigh)) (4) (3) (29) (15) (1) (false) (.vmainHigh) (St [(F.CRP_PCIE_STAT_LINK_UP, 1), (F.CRP_PCIE_STAT_PERST, 0)])) ∧
    ((fun (width : ℕ) (speed : ℕ) (bit : ℕ) (fn : Fin 16) (word : Fin 1024) (b : Bool) (x : Supply) (s : State) => (bit = 29)) (4) (3) (29) (15) (1) (false) (.vmainHigh) (St [(F.CRP_PCIE_STAT_LINK_UP, 1), (F.CRP_PCIE_STAT_PERST, 0)])) ∧
    ((fun (width : ℕ) (speed : ℕ) (bit : ℕ) (fn : Fin 16) (word : Fin 1024) (b : Bool) (x : Supply) (s : State) => (let hi : Prop := s.cl.conds.contains (Src.VIO_FAULT, 1) = false; (hi) ∧ (s.crp.off = false) ∧ (s.rd F.CRP_PCIE_STAT_PERST = 0) ∧ (s.rd F.CRP_BOOT_PHASE = 6))) (4) (3) (28) (0) (2) (true) (.vio) (pcS (StP [(F.CRP_PCIE_STAT_LINK_UP, 1), (F.CRP_PCIE_STAT_PERST, 0), (F.CRP_BOOT_PHASE, 6)]) (fun p => { p with held := [.mem 0 5 []] }))) ∧
    ((fun (width : ℕ) (speed : ℕ) (bit : ℕ) (fn : Fin 16) (word : Fin 1024) (b : Bool) (x : Supply) (s : State) => (s.rd F.CRP_BOOT_PHASE = 6) ∧ (s.rd F.CRP_PCIE_STAT_PERST = 0)) (4) (3) (28) (0) (2) (true) (.vio) (pcS (StP [(F.CRP_PCIE_STAT_LINK_UP, 1), (F.CRP_PCIE_STAT_PERST, 0), (F.CRP_BOOT_PHASE, 6)]) (fun p => { p with held := [.mem 0 5 []] }))) ∧
    ((fun (width : ℕ) (speed : ℕ) (bit : ℕ) (fn : Fin 16) (word : Fin 1024) (b : Bool) (x : Supply) (s : State) => (let answers : Prop := s.rd F.CRP_BOOT_PHASE = 6 ∧ s.rd F.CRP_PCIE_STAT_PERST = 0 ∧ (s.pcie.flr.any fun y => y.1 == ↑fn) = false ∧ (↑fn = 0 ∨ s.pcie.vfe = true); (answers) ∧ (↑word = 2))) (4) (3) (28) (0) (2) (true) (.vio) (pcS (StP [(F.CRP_PCIE_STAT_LINK_UP, 1), (F.CRP_PCIE_STAT_PERST, 0), (F.CRP_BOOT_PHASE, 6)]) (fun p => { p with held := [.mem 0 5 []] }))) :=
  by decide

theorem test_HostLinkAndSupplies_4 :
    ((fun (width : ℕ) (speed : ℕ) (bit : ℕ) (fn : Fin 16) (word : Fin 1024) (b : Bool) (x : Supply) (s : State) => (let answers : Prop := s.rd F.CRP_BOOT_PHASE = 6 ∧ s.rd F.CRP_PCIE_STAT_PERST = 0 ∧ (s.pcie.flr.any fun y => y.1 == ↑fn) = false ∧ (↑fn = 0 ∨ s.pcie.vfe = true); (answers) ∧ (b = true))) (4) (3) (28) (0) (2) (true) (.vio) (pcS (StP [(F.CRP_PCIE_STAT_LINK_UP, 1), (F.CRP_PCIE_STAT_PERST, 0), (F.CRP_BOOT_PHASE, 6)]) (fun p => { p with held := [.mem 0 5 []] }))) ∧
    ((fun (width : ℕ) (speed : ℕ) (bit : ℕ) (fn : Fin 16) (word : Fin 1024) (b : Bool) (x : Supply) (s : State) => (x = Supply.vio)) (4) (3) (28) (0) (2) (true) (.vio) (pcS (StP [(F.CRP_PCIE_STAT_LINK_UP, 1), (F.CRP_PCIE_STAT_PERST, 0), (F.CRP_BOOT_PHASE, 6)]) (fun p => { p with held := [.mem 0 5 []] }))) ∧
    ((fun (width : ℕ) (speed : ℕ) (bit : ℕ) (fn : Fin 16) (word : Fin 1024) (b : Bool) (x : Supply) (s : State) => (bit = 28)) (4) (3) (28) (0) (2) (true) (.vio) (pcS (StP [(F.CRP_PCIE_STAT_LINK_UP, 1), (F.CRP_PCIE_STAT_PERST, 0), (F.CRP_BOOT_PHASE, 6)]) (fun p => { p with held := [.mem 0 5 []] }))) ∧
    ((fun (width : ℕ) (speed : ℕ) (bit : ℕ) (fn : Fin 16) (word : Fin 1024) (b : Bool) (x : Supply) (s : State) => (s.rd F.CRP_PWR_STATUS_STATE = pwTrim ∨ s.rd F.CRP_PWR_STATUS_STATE = pwHold) ∧ (s.rd F.CRP_PCIE_STAT_LINK_UP = 1)) (4) (3) (27) (15) (0) (true) (.rail 6) (pcS (StP [(F.CRP_PCIE_STAT_LINK_UP, 1), (F.CRP_PCIE_STAT_PERST, 0), (F.CRP_BOOT_PHASE, 6), (F.CRP_PWR_STATUS_STATE, 2), (F.CRP_PWR_CFG_WAKE_US, 0)]) (fun p => { p with held := [.mem 0 5 []], l12 := true, vfe := true }))) ∧
    ((fun (width : ℕ) (speed : ℕ) (bit : ℕ) (fn : Fin 16) (word : Fin 1024) (b : Bool) (x : Supply) (s : State) => (s.pcie.l12 = true) ∧ (s.pcie.rxHold = [])) (4) (3) (27) (15) (0) (true) (.rail 6) (pcS (StP [(F.CRP_PCIE_STAT_LINK_UP, 1), (F.CRP_PCIE_STAT_PERST, 0), (F.CRP_BOOT_PHASE, 6), (F.CRP_PWR_STATUS_STATE, 2), (F.CRP_PWR_CFG_WAKE_US, 0)]) (fun p => { p with held := [.mem 0 5 []], l12 := true, vfe := true }))) ∧
    ((fun (width : ℕ) (speed : ℕ) (bit : ℕ) (fn : Fin 16) (word : Fin 1024) (b : Bool) (x : Supply) (s : State) => (let answers : Prop := s.rd F.CRP_BOOT_PHASE = 6 ∧ s.rd F.CRP_PCIE_STAT_PERST = 0 ∧ (s.pcie.flr.any fun y => y.1 == ↑fn) = false ∧ (↑fn = 0 ∨ s.pcie.vfe = true); (answers) ∧ (↑word = 0))) (4) (3) (27) (15) (0) (true) (.rail 6) (pcS (StP [(F.CRP_PCIE_STAT_LINK_UP, 1), (F.CRP_PCIE_STAT_PERST, 0), (F.CRP_BOOT_PHASE, 6), (F.CRP_PWR_STATUS_STATE, 2), (F.CRP_PWR_CFG_WAKE_US, 0)]) (fun p => { p with held := [.mem 0 5 []], l12 := true, vfe := true }))) :=
  by decide

theorem test_HostLinkAndSupplies_5 :
    ((fun (width : ℕ) (speed : ℕ) (bit : ℕ) (fn : Fin 16) (word : Fin 1024) (b : Bool) (x : Supply) (s : State) => (x = Supply.rail 6)) (4) (3) (27) (15) (0) (true) (.rail 6) (pcS (StP [(F.CRP_PCIE_STAT_LINK_UP, 1), (F.CRP_PCIE_STAT_PERST, 0), (F.CRP_BOOT_PHASE, 6), (F.CRP_PWR_STATUS_STATE, 2), (F.CRP_PWR_CFG_WAKE_US, 0)]) (fun p => { p with held := [.mem 0 5 []], l12 := true, vfe := true }))) ∧
    ((fun (width : ℕ) (speed : ℕ) (bit : ℕ) (fn : Fin 16) (word : Fin 1024) (b : Bool) (x : Supply) (s : State) => (bit = 27)) (4) (3) (27) (15) (0) (true) (.rail 6) (pcS (StP [(F.CRP_PCIE_STAT_LINK_UP, 1), (F.CRP_PCIE_STAT_PERST, 0), (F.CRP_BOOT_PHASE, 6), (F.CRP_PWR_STATUS_STATE, 2), (F.CRP_PWR_CFG_WAKE_US, 0)]) (fun p => { p with held := [.mem 0 5 []], l12 := true, vfe := true }))) ∧
    ((fun (width : ℕ) (speed : ℕ) (bit : ℕ) (fn : Fin 16) (word : Fin 1024) (b : Bool) (x : Supply) (s : State) => (s.pcie.l12 = true) ∧ (s.pcie.wakeAsked = false) ∧ (s.pcie.held ≠ []) ∧ (s.pcie.heldAt + max 1 (s.rd F.CRP_PWR_CFG_WAKE_US) * 1000 ≤ s.tb.mono)) (4) (3) (27) (15) (0) (true) (.rail 6) (atMono (pcS (StP [(F.CRP_PCIE_STAT_LINK_UP, 1), (F.CRP_PCIE_STAT_PERST, 0), (F.CRP_BOOT_PHASE, 6), (F.CRP_PWR_STATUS_STATE, 2), (F.CRP_PWR_CFG_WAKE_US, 0)]) (fun p => { p with held := [.mem 0 5 []], l12 := true, vfe := true })) 1000)) ∧
    ((fun (width : ℕ) (speed : ℕ) (bit : ℕ) (fn : Fin 16) (word : Fin 1024) (b : Bool) (x : Supply) (s : State) => (let hi : Prop := s.cl.conds.contains (Src.VIO_FAULT, 1) = false; (hi) ∧ (s.crp.off = false) ∧ (s.rd F.CRP_PCIE_STAT_PERST = 1) ∧ (s.rd F.CRP_BOOT_PHASE = 6))) (4) (3) (26) (15) (1) (true) (.rail 7) (pcS (StP [(F.CRP_PCIE_STAT_PERST, 1), (F.CRP_BOOT_PHASE, 6), (F.CRP_PWR_STATUS_STATE, 2)]) (fun p => { p with held := [.mem 0 5 []], l12 := true, vfe := true }))) ∧
    ((fun (width : ℕ) (speed : ℕ) (bit : ℕ) (fn : Fin 16) (word : Fin 1024) (b : Bool) (x : Supply) (s : State) => (bit = 26)) (4) (3) (26) (15) (1) (true) (.rail 7) (pcS (StP [(F.CRP_PCIE_STAT_PERST, 1), (F.CRP_BOOT_PHASE, 6), (F.CRP_PWR_STATUS_STATE, 2)]) (fun p => { p with held := [.mem 0 5 []], l12 := true, vfe := true }))) ∧
    ((fun (width : ℕ) (speed : ℕ) (bit : ℕ) (fn : Fin 16) (word : Fin 1024) (b : Bool) (x : Supply) (s : State) => (s.rd F.CRP_PCIE_STAT_PERST = 1)) (4) (3) (26) (15) (1) (true) (.rail 7) (pcS (StP [(F.CRP_PCIE_STAT_PERST, 1), (F.CRP_BOOT_PHASE, 6), (F.CRP_PWR_STATUS_STATE, 2)]) (fun p => { p with held := [.mem 0 5 []], l12 := true, vfe := true }))) :=
  by decide

theorem test_StartUp_1 :
    ((fun (tw : Bool) (bs : Bool) (rs : Bool) (pe : Bool) (unlocked : Bool) (s : State) => (s.rd F.CRP_BOOT_PHASE = 0) ∧ (s.crp.off = false) ∧ (s.crp.rstLow = false) ∧ (s.crp.tr ≤ s.tb.mono) ∧ (s.rd F.AC_STATUS_LC ≠ 5)) (true) (false) (true) (false) (true) (bootS 0 1 [])) ∧
    ((fun (tw : Bool) (bs : Bool) (rs : Bool) (pe : Bool) (unlocked : Bool) (s : State) => (s.rd F.CRP_BOOT_PHASE ≠ 1)) (true) (false) (true) (false) (true) (bootS 0 1 [])) ∧
    ((fun (tw : Bool) (bs : Bool) (rs : Bool) (pe : Bool) (unlocked : Bool) (s : State) => (s.rd F.CRP_BOOT_PHASE ≠ 2)) (true) (false) (true) (false) (true) (bootS 0 1 [])) ∧
    ((fun (tw : Bool) (bs : Bool) (rs : Bool) (pe : Bool) (unlocked : Bool) (s : State) => (s.rd F.CRP_BOOT_PHASE ≠ 3)) (true) (false) (true) (false) (true) (bootS 0 1 [])) ∧
    ((fun (tw : Bool) (bs : Bool) (rs : Bool) (pe : Bool) (unlocked : Bool) (s : State) => (s.rd F.CRP_BOOT_PHASE ≠ 5)) (true) (false) (true) (false) (true) (bootS 0 1 [])) ∧
    ((fun (tw : Bool) (bs : Bool) (rs : Bool) (pe : Bool) (unlocked : Bool) (s : State) => (s.rd F.CRP_BOOT_PHASE ≠ 0 ∨ s.crp.off = true ∨ s.crp.rstLow = true ∨ s.tb.mono < s.crp.tr)) (true) (false) (true) (false) (true) (bootS 1 1 [])) :=
  by decide

theorem test_StartUp_2 :
    ((fun (tw : Bool) (bs : Bool) (rs : Bool) (pe : Bool) (unlocked : Bool) (s : State) => (s.rd F.CRP_BOOT_PHASE = 1)) (true) (false) (true) (false) (true) (bootS 1 1 [])) ∧
    ((fun (tw : Bool) (bs : Bool) (rs : Bool) (pe : Bool) (unlocked : Bool) (s : State) => (s.rd F.CRP_BOOT_PHASE = 2) ∧ (s.rd F.AC_STATUS_LC ≠ 5) ∧ (s.fwPasses (s.fwSlot s.mg.active) = true)) (true) (false) (true) (false) (true) (bootS 2 1 [])) ∧
    ((fun (tw : Bool) (bs : Bool) (rs : Bool) (pe : Bool) (unlocked : Bool) (s : State) => (s.rd F.CRP_BOOT_PHASE = 2) ∧ (s.fwPasses (s.fwSlot s.mg.active) = false) ∧ (s.fwPasses (s.fwSlot !s.mg.active) = true)) (true) (false) (true) (false) (true) ({ bootS 2 1 [] with mg := { Mg.reset with active := true } })) ∧
    ((fun (tw : Bool) (bs : Bool) (rs : Bool) (pe : Bool) (unlocked : Bool) (s : State) => (s.rd F.CRP_BOOT_PHASE = 2) ∧ (s.fwPasses (s.fwSlot s.mg.active) = false) ∧ (s.fwPasses (s.fwSlot !s.mg.active) = false)) (true) (false) (true) (false) (true) ({ bootS 2 1 [(F.MG_FW_CNT, 3)] with mg := { Mg.reset with active := true } })) ∧
    ((fun (tw : Bool) (bs : Bool) (rs : Bool) (pe : Bool) (unlocked : Bool) (s : State) => (s.rd F.CRP_BOOT_PHASE = 3) ∧ (s.fwRuns = true) ∧ (s.rd F.AC_STATUS_LC = 1) ∧ (unlocked = true)) (true) (false) (true) (false) (true) (bootS 3 1 [])) ∧
    ((fun (tw : Bool) (bs : Bool) (rs : Bool) (pe : Bool) (unlocked : Bool) (s : State) => (s.rd F.CRP_BOOT_PHASE = 3) ∧ (s.fwRuns = true) ∧ (s.rd F.CRP_BOOT_SAFE = 1) ∧ (s.rd F.AC_STATUS_LC = 3)) (true) (false) (true) (false) (true) (bootS 3 3 [(F.CRP_BOOT_SAFE, 1)])) :=
  by decide

theorem test_StartUp_3 :
    ((fun (tw : Bool) (bs : Bool) (rs : Bool) (pe : Bool) (unlocked : Bool) (s : State) => (s.rd F.CRP_BOOT_PHASE = 5) ∧ (s.fwRuns = true) ∧ (s.rd F.MG_STATUS_STATE = 0)) (true) (false) (true) (false) (true) (bootS 5 3 [(F.MG_BOOT_CNT, 5)])) ∧
    ((fun (tw : Bool) (bs : Bool) (rs : Bool) (pe : Bool) (unlocked : Bool) (s : State) => (s.rd F.CRP_BOOT_PHASE = 5) ∧ (s.fwRuns = true) ∧ (s.rd F.MG_STATUS_STATE = 4)) (true) (false) (true) (false) (true) (bootS 5 3 [(F.MG_STATUS_STATE, 4)])) :=
  by decide

theorem test_FaultsAndReactions_1 :
    ((fun (src : ℕ) (inst : ℕ) (b : Fin 23) (s : State) => (s.cl.conds.contains (src, inst) = false)) (5) (0xFF) (5) (St [])) ∧
    ((fun (src : ℕ) (inst : ℕ) (b : Fin 23) (s : State) => (s.cl.conds.contains (src, inst) = true) ∧ (src ≠ Src.REF_LOSS) ∧ (src ≠ Src.PLL_UNLOCK) ∧ (src ≠ Src.PCIE_REFCLK_LOSS) ∧ (src ≠ Src.RAIL_FAULT)) (84) (3) (5) (clB (St []) (fun c => { c with conds := [(84, 3)], settle := [(5, some 0), (5, none)] }))) ∧
    ((fun (src : ℕ) (inst : ℕ) (b : Fin 23) (s : State) => (s.cl.conds.contains (src, inst) = true) ∧ (src = Src.REF_LOSS)) (Src.REF_LOSS) (0xFF) (5) (clB (St [(F.CRP_CLK_STATUS_REF_OK, 0)]) (fun c => { c with conds := [(Src.REF_LOSS, 0xFF)], settle := [(5, some 1), (5, none)] }))) ∧
    ((fun (m : ℕ) (e : BookEntry) (l : List BookEntry) (s : State) => (s.accepts m 1114112 permW) ∧ (s.cl.padNow = true ∨ s.rd F.CL_STATUS_ERR_PAD = 0)) (0) (bke) ([]) (St [])) ∧
    ((fun (m : ℕ) (e : BookEntry) (l : List BookEntry) (s : State) => (s.accepts m 1114112 permW) ∧ (s.cl.book = [])) (0) (bke) ([]) (St [])) ∧
    ((fun (m : ℕ) (e : BookEntry) (l : List BookEntry) (s : State) => (s.accepts m 1114112 permW) ∧ (s.cl.padNow = false) ∧ (s.rd F.CL_STATUS_ERR_PAD = 1) ∧ (s.rd F.CL_STATUS_PULSE = 0)) (0) (bke) ([]) (clB (St [(F.CL_STATUS_ERR_PAD, 1)]) (fun c => { c with book := [bke], rdAt := 15 }))) :=
  by decide

theorem test_FaultsAndReactions_2 :
    ((fun (m : ℕ) (e : BookEntry) (l : List BookEntry) (s : State) => (s.accepts m 1114112 permW) ∧ (s.cl.book = e :: l)) (0) (bke) ([]) (clB (St [(F.CL_STATUS_ERR_PAD, 1)]) (fun c => { c with book := [bke], rdAt := 15 }))) ∧
    ((fun (m : ℕ) (e : BookEntry) (l : List BookEntry) (s : State) => (s.accepts m 1114112 permW) ∧ (s.cl.padNow = false) ∧ (s.rd F.CL_STATUS_ERR_PAD = 1) ∧ (s.rd F.CL_STATUS_PULSE = 1)) (0) (bke) ([]) (clB (St [(F.CL_STATUS_ERR_PAD, 1), (F.CL_STATUS_PULSE, 1)]) (fun c => { c with book := [bke], rdAt := 15 }))) ∧
    ((fun (m : ℕ) (src : ℕ) (t : Fin 22) (n : Fin 160) (v : Word) (s : State) => (s.accepts m 1114176 permW) ∧ (s.may 17 m permADM = true) ∧ (src < 160)) (0) (159) (21) (159) (0xFFFFFFFF) (St [])) ∧
    ((fun (m : ℕ) (src : ℕ) (t : Fin 22) (n : Fin 160) (v : Word) (s : State) => (s.accepts m 1114136 permW) ∧ (bits (s.rd F.CL_HELD) (↑t) 1 = 0)) (0) (159) (21) (159) (0xFFFFFFFF) (St [])) ∧
    ((fun (m : ℕ) (src : ℕ) (t : Fin 22) (n : Fin 160) (v : Word) (s : State) => (s.accepts m (1115136 + 4 * ↑n) permW)) (0) (159) (21) (159) (0xFFFFFFFF) (St [])) ∧
    ((fun (m : ℕ) (src : ℕ) (t : Fin 22) (n : Fin 160) (v : Word) (s : State) => (s.accepts m 1114176 permW) ∧ (s.may 17 m permADM = false)) (0x20) (159) (21) (0) (0x80150003) (StP [(F.AC_TBL_t_w 17 4, 3)])) :=
  by decide

theorem test_FaultsAndReactions_3 :
    ((fun (m : ℕ) (src : ℕ) (t : Fin 22) (n : Fin 160) (v : Word) (s : State) => (s.accepts m 1114136 permW) ∧ (bits (s.rd F.CL_HELD) (↑t) 1 = 1) ∧ (↑t ≠ 13) ∧ (↑t ≠ 20)) (0) (159) (12) (0) (0x80130003) (crS (St [(F.CL_HELD, 0x1000)]) (fun c => { c with blk := [(12, 0)] }))) :=
  by decide

theorem test_FaultsAndReactions_4 :
    ((fun (r : Raise) (s : State) => (s.cl.inbox = [r]) ∧ (r.src < 160) ∧ (r.src ≠ Src.CL_PARITY) ∧ (r.src ≠ Src.CL_BOOK_OVF) ∧ (s.cl.settle = []) ∧ (s.cl.parity = []) ∧ (s.rd F.MG_STATUS_STATE ≠ 2) ∧ (Sparse.get none s.cl.cfgOld r.src = none) ∧ (s.cl.minOld = none) ∧ (s.cl.rose = false) ∧ (let n : ℕ := r.src; (s.rd (F.CL_SRC_CFG_n_EN n) = 0))) (⟨84, 3, some 0x20, 77, false⟩) (clS 84 0x00000000 [])) :=
  by decide

theorem test_FaultsAndReactions_5 :
    ((fun (r : Raise) (s : State) => (s.cl.inbox = [r]) ∧ (r.src < 160) ∧ (r.src ≠ Src.CL_PARITY) ∧ (r.src ≠ Src.CL_BOOK_OVF) ∧ (s.cl.settle = []) ∧ (s.cl.parity = []) ∧ (s.rd F.MG_STATUS_STATE ≠ 2) ∧ (Sparse.get none s.cl.cfgOld r.src = none) ∧ (s.cl.minOld = none) ∧ (s.cl.rose = false) ∧ (let n : ℕ := r.src; (s.rd (F.CL_SRC_CFG_n_EN n) = 1) ∧ (s.cl.book = []))) (⟨84, 3, some 0x20, 77, false⟩) (clS 84 0x80001101 [(F.CL_CTRL_FAULT_MIN, 1)])) :=
  by decide

theorem test_FaultsAndReactions_6 :
    ((fun (r : Raise) (s : State) => (s.cl.inbox = [r]) ∧ (r.src < 160) ∧ (r.src ≠ Src.CL_PARITY) ∧ (r.src ≠ Src.CL_BOOK_OVF) ∧ (s.cl.settle = []) ∧ (s.cl.parity = []) ∧ (s.rd F.MG_STATUS_STATE ≠ 2) ∧ (Sparse.get none s.cl.cfgOld r.src = none) ∧ (s.cl.minOld = none) ∧ (s.cl.rose = false) ∧ (let n : ℕ := r.src; (s.rd (F.CL_SRC_CFG_n_EN n) = 1) ∧ (s.rd (F.CL_SRC_CFG_n_IRQ n) = 1))) (⟨84, 3, some 0x20, 77, false⟩) (clS 84 0x80001101 [(F.CL_CTRL_FAULT_MIN, 1)])) :=
  by decide

theorem test_FaultsAndReactions_7 :
    ((fun (r : Raise) (s : State) => (s.cl.inbox = [r]) ∧ (r.src < 160) ∧ (r.src ≠ Src.CL_PARITY) ∧ (r.src ≠ Src.CL_BOOK_OVF) ∧ (s.cl.settle = []) ∧ (s.cl.parity = []) ∧ (s.rd F.MG_STATUS_STATE ≠ 2) ∧ (Sparse.get none s.cl.cfgOld r.src = none) ∧ (s.cl.minOld = none) ∧ (s.cl.rose = false) ∧ (let n : ℕ := r.src; (s.rd (F.CL_SRC_CFG_n_EN n) = 1) ∧ (s.rd (F.CL_SRC_CFG_n_ERRPAD n) = 1))) (⟨84, 3, some 0x20, 77, false⟩) (clS 84 0x80001101 [(F.CL_CTRL_FAULT_MIN, 1)])) :=
  by decide

theorem test_FaultsAndReactions_8 :
    ((fun (r : Raise) (s : State) => (s.cl.inbox = [r]) ∧ (r.src < 160) ∧ (r.src ≠ Src.CL_PARITY) ∧ (r.src ≠ Src.CL_BOOK_OVF) ∧ (s.cl.settle = []) ∧ (s.cl.parity = []) ∧ (s.rd F.MG_STATUS_STATE ≠ 2) ∧ (Sparse.get none s.cl.cfgOld r.src = none) ∧ (s.cl.minOld = none) ∧ (s.cl.rose = false) ∧ (let n : ℕ := r.src; (let sev : ℕ := s.rd (F.CL_SRC_CFG_n_SEV n); (s.rd (F.CL_SRC_CFG_n_EN n) = 1) ∧ (s.rd F.CL_CTRL_FAULT_MIN ≤ sev)))) (⟨84, 3, some 0x20, 77, false⟩) (clS 84 0x80001101 [(F.CL_CTRL_FAULT_MIN, 1)])) :=
  by decide

theorem test_FaultsAndReactions_9 :
    ((fun (r : Raise) (s : State) => (s.cl.inbox = [r]) ∧ (r.src < 160) ∧ (r.src ≠ Src.CL_PARITY) ∧ (r.src ≠ Src.CL_BOOK_OVF) ∧ (s.cl.settle = []) ∧ (s.cl.parity = []) ∧ (s.rd F.MG_STATUS_STATE ≠ 2) ∧ (Sparse.get none s.cl.cfgOld r.src = none) ∧ (s.cl.minOld = none) ∧ (s.cl.rose = false) ∧ (let n : ℕ := r.src; (s.rd (F.CL_SRC_CFG_n_EN n) = 1) ∧ (s.rd (F.CL_SRC_CFG_n_CHIPRST n) = 0) ∧ (s.rd (F.CL_SRC_CFG_n_BLKRST n) = 0))) (⟨84, 3, some 0x20, 77, false⟩) (clS 84 0x80001101 [(F.CL_CTRL_FAULT_MIN, 1)])) :=
  by decide

theorem test_FaultsAndReactions_10 :
    ((fun (r : Raise) (s : State) => (s.cl.inbox = [r]) ∧ (r.src < 160) ∧ (r.src ≠ Src.CL_PARITY) ∧ (r.src ≠ Src.CL_BOOK_OVF) ∧ (s.cl.settle = []) ∧ (s.cl.parity = []) ∧ (s.rd F.MG_STATUS_STATE ≠ 2) ∧ (Sparse.get none s.cl.cfgOld r.src = none) ∧ (s.cl.minOld = none) ∧ (s.cl.rose = false) ∧ (let n : ℕ := r.src; (s.rd (F.CL_SRC_CFG_n_EN n) = 1) ∧ (Option.all (fun e => decide (e.src = n ∧ e.inst = r.inst ∧ e.conseq = false)) s.cl.book.getLast? = true) ∧ (s.cl.book ≠ []))) (⟨84, 3, some 0x20, 77, false⟩) (clB (clS 84 0x80000001 [(F.CL_CTRL_FAULT_MIN, 2)]) (fun c => { c with book := [bke] }))) :=
  by decide

theorem test_FaultsAndReactions_11 :
    ((fun (r : Raise) (s : State) => (s.cl.inbox = [r]) ∧ (r.src < 160) ∧ (r.src ≠ Src.CL_PARITY) ∧ (r.src ≠ Src.CL_BOOK_OVF) ∧ (s.cl.settle = []) ∧ (s.cl.parity = []) ∧ (s.rd F.MG_STATUS_STATE ≠ 2) ∧ (Sparse.get none s.cl.cfgOld r.src = none) ∧ (s.cl.minOld = none) ∧ (s.cl.rose = false) ∧ (let n : ℕ := r.src; (s.rd (F.CL_SRC_CFG_n_EN n) = 1) ∧ (s.rd (F.CL_SRC_CFG_n_IRQ n) = 0))) (⟨84, 3, some 0x20, 77, false⟩) (clB (clS 84 0x80000001 [(F.CL_CTRL_FAULT_MIN, 2)]) (fun c => { c with book := [bke] }))) :=
  by decide

theorem test_FaultsAndReactions_12 :
    ((fun (r : Raise) (s : State) => (s.cl.inbox = [r]) ∧ (r.src < 160) ∧ (r.src ≠ Src.CL_PARITY) ∧ (r.src ≠ Src.CL_BOOK_OVF) ∧ (s.cl.settle = []) ∧ (s.cl.parity = []) ∧ (s.rd F.MG_STATUS_STATE ≠ 2) ∧ (Sparse.get none s.cl.cfgOld r.src = none) ∧ (s.cl.minOld = none) ∧ (s.cl.rose = false) ∧ (let n : ℕ := r.src; (s.rd (F.CL_SRC_CFG_n_EN n) = 1) ∧ (s.rd (F.CL_SRC_CFG_n_ERRPAD n) = 0))) (⟨84, 3, some 0x20, 77, false⟩) (clB (clS 84 0x80000001 [(F.CL_CTRL_FAULT_MIN, 2)]) (fun c => { c with book := [bke] }))) :=
  by decide

theorem test_FaultsAndReactions_13 :
    ((fun (r : Raise) (s : State) => (s.cl.inbox = [r]) ∧ (r.src < 160) ∧ (r.src ≠ Src.CL_PARITY) ∧ (r.src ≠ Src.CL_BOOK_OVF) ∧ (s.cl.settle = []) ∧ (s.cl.parity = []) ∧ (s.rd F.MG_STATUS_STATE ≠ 2) ∧ (Sparse.get none s.cl.cfgOld r.src = none) ∧ (s.cl.minOld = none) ∧ (s.cl.rose = false) ∧ (let n : ℕ := r.src; (let sev : ℕ := s.rd (F.CL_SRC_CFG_n_SEV n); (s.rd (F.CL_SRC_CFG_n_EN n) = 1) ∧ (sev < s.rd F.CL_CTRL_FAULT_MIN)))) (⟨84, 3, some 0x20, 77, false⟩) (clB (clS 84 0x80000001 [(F.CL_CTRL_FAULT_MIN, 2)]) (fun c => { c with book := [bke] }))) :=
  by decide

theorem test_FaultsAndReactions_14 :
    ((fun (r : Raise) (s : State) => (s.cl.inbox = [r]) ∧ (r.src < 160) ∧ (r.src ≠ Src.CL_PARITY) ∧ (r.src ≠ Src.CL_BOOK_OVF) ∧ (s.cl.settle = []) ∧ (s.cl.parity = []) ∧ (s.rd F.MG_STATUS_STATE ≠ 2) ∧ (Sparse.get none s.cl.cfgOld r.src = none) ∧ (s.cl.minOld = none) ∧ (s.cl.rose = false) ∧ (let n : ℕ := r.src; (s.rd (F.CL_SRC_CFG_n_EN n) = 1) ∧ (s.rd (F.CL_SRC_CFG_n_CHIPRST n) = 1) ∧ (s.crp.off = false) ∧ (s.crp.rstLow = false) ∧ (s.crp.tr ≤ s.tb.mono) ∧ (s.crp.chipReq = false))) (⟨84, 3, some 0x20, 77, false⟩) (atMono (clS 84 0x80000801 [(F.CL_CTRL_FAULT_MIN, 2)]) 10000)) :=
  by decide

theorem test_FaultsAndReactions_15 :
    ((fun (r : Raise) (s : State) => (s.cl.inbox = [r]) ∧ (r.src < 160) ∧ (r.src ≠ Src.CL_PARITY) ∧ (r.src ≠ Src.CL_BOOK_OVF) ∧ (s.cl.settle = []) ∧ (s.cl.parity = []) ∧ (s.rd F.MG_STATUS_STATE ≠ 2) ∧ (Sparse.get none s.cl.cfgOld r.src = none) ∧ (s.cl.minOld = none) ∧ (s.cl.rose = false) ∧ (let n : ℕ := r.src; (s.rd (F.CL_SRC_CFG_n_EN n) = 1) ∧ (s.rd (F.CL_SRC_CFG_n_CHIPRST n) = 0) ∧ (s.rd (F.CL_SRC_CFG_n_BLKRST n) = 1) ∧ (2 ≤ s.rd (F.CL_SRC_CFG_n_BLK n)) ∧ (s.rd (F.CL_SRC_CFG_n_BLK n) < 13))) (⟨84, 3, some 0x20, 77, false⟩) (clS 84 0x800C0401 [(F.CL_CTRL_FAULT_MIN, 2)])) :=
  by decide

theorem test_FaultsAndReactions_16 :
    ((fun (src : ℕ) (inst : ℕ) (b : Fin 23) (s : State) => (let since : ℕ := s.cl.faultAt + max 1 (s.rd F.CL_QUIET) * 1000000; (s.rd F.CL_STATUS_FAULT = 0 ∨ s.tb.mono < since))) (5) (0xFF) (5) (St [])) :=
  by decide

theorem test_FaultsAndReactions_17 :
    ((fun (src : ℕ) (inst : ℕ) (b : Fin 23) (s : State) => (let width : ℕ := s.cl.padAt + max 1 (min 10000 (s.rd F.CL_ERR_WIDTH)) * 1000; (s.rd F.CL_STATUS_PULSE = 0 ∨ s.tb.mono < width))) (5) (0xFF) (5) (St [])) :=
  by decide

theorem test_FaultsAndReactions_18 :
    ((fun (src : ℕ) (inst : ℕ) (b : Fin 23) (s : State) => (let since : ℕ := s.cl.faultAt + max 1 (s.rd F.CL_QUIET) * 1000000; (s.rd F.CL_STATUS_FAULT = 1) ∧ (since ≤ s.tb.mono) ∧ (s.cl.conds = []))) (5) (0xFF) (5) (atMono (St [(F.CL_STATUS_FAULT, 1), (F.CL_QUIET, 0), (F.CL_STATUS_PULSE, 1), (F.CL_ERR_WIDTH, 0)]) 1000000)) :=
  by decide

theorem test_FaultsAndReactions_19 :
    ((fun (src : ℕ) (inst : ℕ) (b : Fin 23) (s : State) => (let width : ℕ := s.cl.padAt + max 1 (min 10000 (s.rd F.CL_ERR_WIDTH)) * 1000; (s.rd F.CL_STATUS_PULSE = 1) ∧ (width ≤ s.tb.mono) ∧ (s.rd F.CL_STATUS_REL_PEND = 0))) (5) (0xFF) (5) (atMono (St [(F.CL_STATUS_FAULT, 1), (F.CL_QUIET, 0), (F.CL_STATUS_PULSE, 1), (F.CL_ERR_WIDTH, 0)]) 1000000)) :=
  by decide

theorem test_FaultsAndReactions_20 :
    ((fun (src : ℕ) (inst : ℕ) (b : Fin 23) (s : State) => (let width : ℕ := s.cl.padAt + max 1 (min 10000 (s.rd F.CL_ERR_WIDTH)) * 1000; (s.rd F.CL_STATUS_PULSE = 1) ∧ (width ≤ s.tb.mono) ∧ (s.rd F.CL_STATUS_REL_PEND = 1))) (5) (0xFF) (5) (atMono (St [(F.CL_STATUS_PULSE, 1), (F.CL_ERR_WIDTH, 0), (F.CL_STATUS_REL_PEND, 1), (F.CL_STATUS_ERR_PAD, 1)]) 1000)) :=
  by decide

theorem test_SubstitutionsOfUnits_1 :
    ((fun (cause : SubCause) (bad : Bool) (failed : List ℕ) (s : State) => (s.spRuns = false)) (.norSector 5 true) (false) ([1, 9]) (St [])) ∧
    ((fun (cause : SubCause) (bad : Bool) (failed : List ℕ) (s : State) => (s.sp.queue = [])) (.norSector 5 true) (false) ([1, 9]) (St [])) ∧
    ((fun (cause : SubCause) (bad : Bool) (failed : List ℕ) (s : State) => (s.spRuns = true)) (.norSector 5 true) (false) ([1, 9]) (spS [] [] false)) ∧
    ((fun (sector : ℕ) (page : Bool) (s : State) => (s.spRuns = true) ∧ (s.sp.queue = []) ∧ (page = false) ∧ (Sparse.get 0 s.mg.erases sector < 90000)) (5) (false) (spS [] [] false)) ∧
    ((fun (sector : ℕ) (page : Bool) (s : State) => (s.spRuns = true) ∧ (s.sp.queue = []) ∧ (page = true ∨ 90000 ≤ Sparse.get 0 s.mg.erases sector)) (5) (true) (spS [] [] false)) ∧
    ((fun (e : Subst) (s : State) => (s.spRuns = true) ∧ (s.sp.queue = [e]) ∧ (e.cls < 8) ∧ (e.act = false) ∧ (s.spMay e.cls = true) ∧ (e.cls < 3) ∧ (s.subWindow e = false)) (spE 0 5 false) (spS (shut []) [spE 0 5 false] false)) :=
  by decide

theorem test_SubstitutionsOfUnits_2 :
    ((fun (e : Subst) (s : State) => (s.spRuns = true) ∧ (s.sp.queue = [e]) ∧ (e.cls < 8) ∧ (e.act = false) ∧ (s.spMay e.cls = false)) (spE 0 5 false) (spS [(F.SP_CTRL_EN, 0)] [spE 0 5 false] false)) ∧
    ((fun (e : Subst) (s : State) => (s.spRuns = true) ∧ (s.sp.queue = [e]) ∧ (e.cls < 8) ∧ (e.act = false) ∧ (s.spMay e.cls = true) ∧ (e.cls ≠ 5) ∧ (3 ≤ e.cls ∨ s.subWindow e = true)) (spE 0 5 false) (spS [] [spE 0 5 false] false)) ∧
    ((fun (e : Subst) (s : State) => (s.spRuns = true) ∧ (s.sp.queue = [e]) ∧ (e.cls < 8) ∧ (e.act = true) ∧ (s.sp.open_ = false ∨ 3 ≤ e.cls ∨ s.subWindow e = true)) (spE 0 5 true) (spS [] [spE 0 5 true] false)) ∧
    ((fun (e : Subst) (s : State) => (s.spRuns = true) ∧ (s.sp.queue = [e]) ∧ (e.cls < 8) ∧ (e.act = true) ∧ (s.sp.open_ = false)) (spE 0 5 true) (spS [] [spE 0 5 true] false)) ∧
    ((fun (e : Subst) (s : State) => (s.spRuns = true) ∧ (s.sp.queue = [e]) ∧ (e.cls < 8) ∧ (e.act = true) ∧ (e.stalled = true ∨ s.subWindow e = true ∨ s.tb.mono < e.waitAt + max 1 (s.rd F.SP_CFG_STALL_S) * 1000000000)) (spE 0 5 true) (spS [] [spE 0 5 true] false)) ∧
    ((fun (e : Subst) (s : State) => (s.spRuns = true) ∧ (s.sp.queue = [e]) ∧ (e.cls < 8) ∧ (e.act = true) ∧ (s.sp.open_ = true) ∧ (s.subWindow e = true) ∧ (e.cls < 3)) (spE 0 5 true) (spS [] [spE 0 5 true] true)) :=
  by decide

theorem test_SubstitutionsOfUnits_3 :
    ((fun (e : Subst) (s : State) => (s.spRuns = true) ∧ (s.sp.queue = [e]) ∧ (e.cls < 8) ∧ (e.act = true) ∧ (s.sp.open_ = true) ∧ (e.cls < 3) ∧ (s.subWindow e = false)) (spE 0 5 true) (spS (shut []) [spE 0 5 true] true)) ∧
    ((fun (e : Subst) (s : State) => (s.spRuns = true) ∧ (s.sp.queue = [e]) ∧ (e.cls < 8) ∧ (e.act = true) ∧ (s.sp.open_ = true) ∧ (s.subWindow e = true) ∧ (e.cls ≠ 4) ∧ (e.cls = 5)) (spE 5 2 true) (spS [] [spE 5 2 true] true)) ∧
    ((fun (e : Subst) (s : State) => (s.spRuns = true) ∧ (s.sp.queue = [e]) ∧ (e.cls < 8) ∧ (e.act = true) ∧ (e.cls = 4) ∧ (s.sp.open_ = true) ∧ (((List.range 10).all fun p => decide (s.rd (engFld p) ≠ e.unit)) = true)) (spE 4 2 true) (spS ([(F.LN_ENG_MAP_ENG_P0, 0), (F.LN_ENG_MAP_ENG_P1, 0)] ++ (List.range 10).map (fun p => (engFld p, 0))) [spE 4 2 true] true)) ∧
    ((fun (e : Subst) (s : State) => (s.spRuns = true) ∧ (s.sp.queue = [e]) ∧ (e.cls < 8) ∧ (e.act = true) ∧ (e.stalled = false) ∧ (s.subWindow e = false) ∧ (e.waitAt + max 1 (s.rd F.SP_CFG_STALL_S) * 1000000000 ≤ s.tb.mono)) (spE 0 5 true) (atMono (spS (shut [(F.SP_CFG_STALL_S, 0)]) [spE 0 5 true] true) 1000000000)) :=
  by decide

theorem test_BackbonePorts_1 :
    ((fun (m : ℕ) (p : Fin 2) (s : State) => (s.accepts m (196608 + 65536 * ↑p) permW) ∧ (let st : ℕ := s.rd (F.BP_STATUS_STATE ↑p); (st = 0))) (0) (1) (bpS 0 1 [])) ∧
    ((fun (m : ℕ) (p : Fin 2) (s : State) => (s.accepts m (196608 + 65536 * ↑p) permW) ∧ (let st : ℕ := s.rd (F.BP_STATUS_STATE ↑p); (st < 2))) (0) (1) (bpS 0 1 [])) ∧
    ((fun (m : ℕ) (p : Fin 2) (s : State) => (s.accepts m (196608 + 65536 * ↑p) permW) ∧ (let st : ℕ := s.rd (F.BP_STATUS_STATE ↑p); (st ≠ 0))) (0) (1) (bpS 4 1 [])) ∧
    ((fun (m : ℕ) (p : Fin 2) (s : State) => (s.accepts m (196608 + 65536 * ↑p) permW) ∧ (let st : ℕ := s.rd (F.BP_STATUS_STATE ↑p); (st = 4))) (0) (1) (bpS 4 1 [])) ∧
    ((fun (m : ℕ) (p : Fin 2) (s : State) => (s.accepts m (196608 + 65536 * ↑p) permW) ∧ (let st : ℕ := s.rd (F.BP_STATUS_STATE ↑p); (st = 3) ∧ (s.negotiates ↑p = true))) (0x20) (0) (bpS 3 0 [(F.BP_CTRL_MODE 0, 2), (F.BP_CTRL_AN_EN 0, 1)])) ∧
    ((fun (p : Fin 2) (page : BitVec 16) (c : LinkLoss) (r : Bool) (s : State) => (let st : ℕ := s.rd (F.BP_STATUS_STATE ↑p); (st = 0 ∨ st = 2 ∨ st = 4))) (0) (0x20) (.lock) (true) (bpS 0 0 [(F.BP_PHYINT 0, 1)])) :=
  by decide

theorem test_BackbonePorts_2 :
    ((fun (p : Fin 2) (page : BitVec 16) (c : LinkLoss) (r : Bool) (s : State) => (let st : ℕ := s.rd (F.BP_STATUS_STATE ↑p); (st ≠ 2))) (0) (0x20) (.lock) (true) (bpS 0 0 [(F.BP_PHYINT 0, 1)])) ∧
    ((fun (p : Fin 2) (page : BitVec 16) (c : LinkLoss) (r : Bool) (s : State) => (let st : ℕ := s.rd (F.BP_STATUS_STATE ↑p); (let clear : Prop := s.rd (F.BP_STATUS_LF ↑p) = 0 ∧ s.rd (F.BP_STATUS_RF ↑p) = 0 ∧ s.rd (F.BP_STATUS_HI_BER ↑p) = 0; (let until_ : ℕ := (s.bpPort ↑p).holdAt + s.rd (F.BP_LINK_HOLD ↑p) * 1000000; (st ≠ 3 ∨ s.tb.mono < until_ ∨ ¬clear ∨ pwTrim < s.power))))) (0) (0x20) (.lock) (true) (bpS 0 0 [(F.BP_PHYINT 0, 1)])) ∧
    ((fun (p : Fin 2) (page : BitVec 16) (c : LinkLoss) (r : Bool) (s : State) => (let st : ℕ := s.rd (F.BP_STATUS_STATE ↑p); (st = 0 ∨ s.rd (F.BP_CTRL_LOOP ↑p) = 1))) (0) (0x20) (.lock) (true) (bpS 0 0 [(F.BP_PHYINT 0, 1)])) ∧
    ((fun (p : Fin 2) (page : BitVec 16) (c : LinkLoss) (r : Bool) (s : State) => (s.rd (F.BP_PHYINT ↑p) = 1)) (0) (0x20) (.lock) (true) (bpS 0 0 [(F.BP_PHYINT 0, 1)])) ∧
    ((fun (p : Fin 2) (page : BitVec 16) (c : LinkLoss) (r : Bool) (s : State) => (let st : ℕ := s.rd (F.BP_STATUS_STATE ↑p); (st = 1))) (0) (0x20) (.lock) (true) (bpS 1 0 [(F.BP_CTRL_MODE 0, 1), (F.BP_CTRL_AN_EN 0, 1)])) ∧
    ((fun (p : Fin 2) (page : BitVec 16) (c : LinkLoss) (r : Bool) (s : State) => (s.rd (F.BP_PHYINT ↑p) = 0)) (0) (0x20) (.lock) (true) (bpS 1 0 [(F.BP_CTRL_MODE 0, 1), (F.BP_CTRL_AN_EN 0, 1)])) :=
  by decide

theorem test_BackbonePorts_3 :
    ((fun (p : Fin 2) (page : BitVec 16) (c : LinkLoss) (r : Bool) (s : State) => (let st : ℕ := s.rd (F.BP_STATUS_STATE ↑p); (st = 2) ∧ (s.rd (F.BP_CTRL_MODE ↑p) = 2) ∧ (bits page.toNat 5 1 = 1))) (0) (0x20) (.lock) (true) (bpS 2 0 [(F.BP_CTRL_MODE 0, 2)])) ∧
    ((fun (p : Fin 2) (page : BitVec 16) (c : LinkLoss) (r : Bool) (s : State) => (let st : ℕ := s.rd (F.BP_STATUS_STATE ↑p); (st = 2) ∧ (s.rd (F.BP_CTRL_MODE ↑p) = 2) ∧ (bits page.toNat 5 1 = 0))) (0) (0xFFDF) (.hiBer) (true) (bpS 2 0 [(F.BP_CTRL_MODE 0, 2)])) ∧
    ((fun (p : Fin 2) (page : BitVec 16) (c : LinkLoss) (r : Bool) (s : State) => (let st : ℕ := s.rd (F.BP_STATUS_STATE ↑p); (let clear : Prop := s.rd (F.BP_STATUS_LF ↑p) = 0 ∧ s.rd (F.BP_STATUS_RF ↑p) = 0 ∧ s.rd (F.BP_STATUS_HI_BER ↑p) = 0; (let until_ : ℕ := (s.bpPort ↑p).holdAt + s.rd (F.BP_LINK_HOLD ↑p) * 1000000; (st = 3) ∧ (until_ ≤ s.tb.mono) ∧ (clear) ∧ (s.power ≤ pwTrim))))) (1) (0xFFDF) (.hiBer) (true) (bpS 3 1 [(F.BP_LINK_HOLD 1, 0)])) ∧
    ((fun (p : Fin 2) (page : BitVec 16) (c : LinkLoss) (r : Bool) (s : State) => (let st : ℕ := s.rd (F.BP_STATUS_STATE ↑p); (st = 3) ∧ (s.rd (F.BP_CTRL_LOOP ↑p) = 0) ∧ (c = LinkLoss.hiBer))) (1) (0xFFDF) (.hiBer) (true) (bpS 3 1 [(F.BP_LINK_HOLD 1, 0)])) ∧
    ((fun (p : Fin 2) (page : BitVec 16) (c : LinkLoss) (r : Bool) (s : State) => (let st : ℕ := s.rd (F.BP_STATUS_STATE ↑p); (st = 3) ∧ (s.rd (F.BP_CTRL_LOOP ↑p) = 0) ∧ (c = LinkLoss.lock))) (1) (0xFFDF) (.lock) (true) (bpS 3 1 [(F.BP_LINK_HOLD 1, 5)])) ∧
    ((fun (p : Fin 2) (page : BitVec 16) (c : LinkLoss) (r : Bool) (s : State) => (let st : ℕ := s.rd (F.BP_STATUS_STATE ↑p); (st = 3) ∧ (s.rd (F.BP_CTRL_LOOP ↑p) = 0) ∧ (c = LinkLoss.localFault))) (1) (0xFFDF) (.localFault) (true) (bpS 3 1 [(F.BP_LINK_HOLD 1, 5)])) :=
  by decide

theorem test_BackbonePorts_4 :
    ((fun (p : Fin 2) (page : BitVec 16) (c : LinkLoss) (r : Bool) (s : State) => (let st : ℕ := s.rd (F.BP_STATUS_STATE ↑p); (st = 3) ∧ (s.rd (F.BP_CTRL_LOOP ↑p) = 0) ∧ (c = LinkLoss.remoteFault))) (1) (0xFFDF) (.remoteFault) (true) (bpS 3 1 [(F.BP_LINK_HOLD 1, 5)])) ∧
    ((fun (p : Fin 2) (page : BitVec 16) (c : LinkLoss) (r : Bool) (s : State) => (let st : ℕ := s.rd (F.BP_STATUS_STATE ↑p); (st = 4) ∧ (s.rd (F.BP_CTRL_LOOP ↑p) = 0))) (1) (0xFFDF) (.remoteFault) (true) (bpS 4 1 [])) ∧
    ((fun (p : Fin 2) (pcs : ℕ) (s : State) => (let rec_ : BpPort := s.bpPort ↑p; (s.tb.mono < rec_.checkAt + 1000000000))) (1) (5) (St [])) ∧
    ((fun (p : Fin 2) (pcs : ℕ) (s : State) => (let rec_ : BpPort := s.bpPort ↑p; (rec_.checkAt + 1000000000 ≤ s.tb.mono))) (1) (5) (atMono (bpr (St [(F.BP_FCS_THR 1, 1), (F.BP_RX_FCS_ERR 1, 3)]) 1 (fun r => { r with fcsBase := 1 })) 1000000000)) ∧
    ((fun (m : ℕ) (phy : Fin 32) (reg : Fin 32) (data : BitVec 16) (s : State) => (s.accepts m 196676 permW) ∧ (s.rd F.BP_MDIO_STAT_BUSY = 0)) (0) (31) (30) (0xABCD) (St [])) ∧
    ((fun (m : ℕ) (phy : Fin 32) (reg : Fin 32) (data : BitVec 16) (s : State) => (s.accepts m 196676 permW) ∧ (s.rd F.BP_MDIO_STAT_BUSY = 1)) (0) (31) (30) (0xABCD) (St [(F.BP_MDIO_STAT_BUSY, 1)])) :=
  by decide

theorem test_BackbonePorts_5 :
    ((fun (rdata : BitVec 16) (answered : Bool) (st : ℕ) (op : ℕ) (s : State) => (s.bp.mdio = none)) (5) (true) (0) (1) (St [])) ∧
    ((fun (rdata : BitVec 16) (answered : Bool) (st : ℕ) (op : ℕ) (s : State) => (s.bp.mdio = some (st, op)) ∧ (op < 2)) (5) (true) (0) (1) ({ St [(F.BP_MDIO_STAT_BUSY, 1)] with bp := { Bp.reset with mdio := some (0, 1) } })) ∧
    ((fun (rdata : BitVec 16) (answered : Bool) (st : ℕ) (op : ℕ) (s : State) => (s.bp.mdio = some (st, op)) ∧ (op = 2) ∧ (answered = true)) (5) (true) (0) (2) ({ St [(F.BP_MDIO_STAT_BUSY, 1)] with bp := { Bp.reset with mdio := some (0, 2) } })) ∧
    ((fun (rdata : BitVec 16) (answered : Bool) (st : ℕ) (op : ℕ) (s : State) => (s.bp.mdio = some (st, op)) ∧ (op = 2) ∧ (answered = false)) (5) (false) (1) (2) ({ St [(F.BP_MDIO_STAT_BUSY, 1)] with bp := { Bp.reset with mdio := some (1, 2) } })) :=
  by decide

theorem test_FieldDieAndItsLinks_1 :
    ((fun (k : IsoMsg) (ok : Bool) (snr : List ℕ) (mv : ℕ) (s : State) => (s.rd F.FD_STATUS_ISO_UP = 0)) (.marker) (false) ([1, 2, 3, 4, 5, 6, 7, 65536]) (15999) (St [])) ∧
    ((fun (k : IsoMsg) (ok : Bool) (snr : List ℕ) (mv : ℕ) (s : State) => (s.rd F.FD_STATUS_ISO_UP = 1 ∨ s.fd.released = false ∨ s.fd.safe = true ∨ s.tb.mono < s.fd.lostAt + 1000000)) (.marker) (false) ([1, 2, 3, 4, 5, 6, 7, 65536]) (15999) (St [])) ∧
    ((fun (k : IsoMsg) (ok : Bool) (snr : List ℕ) (mv : ℕ) (s : State) => (s.rd F.FD_STATUS_ISO_UP = 1 ∨ s.fd.released = false ∨ s.fd.dead = true)) (.marker) (false) ([1, 2, 3, 4, 5, 6, 7, 65536]) (15999) (St [])) ∧
    ((fun (k : IsoMsg) (ok : Bool) (snr : List ℕ) (mv : ℕ) (s : State) => (s.fd.released = false ∨ s.fd.dead = true)) (.marker) (false) ([1, 2, 3, 4, 5, 6, 7, 65536]) (15999) (St [])) ∧
    ((fun (k : IsoMsg) (ok : Bool) (snr : List ℕ) (mv : ℕ) (s : State) => (s.fd.inReset = false ∨ s.rd F.FD_STATUS_ISO_UP = 0)) (.marker) (false) ([1, 2, 3, 4, 5, 6, 7, 65536]) (15999) (St [])) ∧
    ((fun (k : IsoMsg) (ok : Bool) (snr : List ℕ) (mv : ℕ) (s : State) => (s.fd.released = true ∨ s.rd F.CRP_BOOT_PHASE < 3 ∨ mv < 16000)) (.marker) (false) ([1, 2, 3, 4, 5, 6, 7, 65536]) (15999) (St [])) :=
  by decide

theorem test_FieldDieAndItsLinks_2 :
    ((fun (k : IsoMsg) (ok : Bool) (snr : List ℕ) (mv : ℕ) (s : State) => (mv ≤ 31000)) (.marker) (false) ([1, 2, 3, 4, 5, 6, 7, 65536]) (15999) (St [])) ∧
    ((fun (k : IsoMsg) (ok : Bool) (snr : List ℕ) (mv : ℕ) (s : State) => (s.rd F.FD_STATUS_ISO_UP = 0) ∧ (s.fd.released = true) ∧ (s.fd.safe = false) ∧ (s.fd.lostAt + 1000000 ≤ s.tb.mono) ∧ (s.rd F.FD_CTRL_SAFE_PWR = 0)) (.marker) (false) ([1, 2, 3, 4, 5, 6, 7, 65536]) (15999) (atMono (fdS [(F.FD_CTRL_SAFE_PWR, 0)] (fun f => f)) 1000000)) ∧
    ((fun (k : IsoMsg) (ok : Bool) (snr : List ℕ) (mv : ℕ) (s : State) => (s.rd F.FD_STATUS_ISO_UP = 0) ∧ (s.fd.released = true) ∧ (s.fd.dead = false)) (.marker) (false) ([1, 2, 3, 4, 5, 6, 7, 65536]) (15999) (atMono (fdS [(F.FD_CTRL_SAFE_PWR, 0)] (fun f => f)) 1000000)) ∧
    ((fun (k : IsoMsg) (ok : Bool) (snr : List ℕ) (mv : ℕ) (s : State) => (s.fd.released = true) ∧ (s.fd.dead = false)) (.marker) (false) ([1, 2, 3, 4, 5, 6, 7, 65536]) (15999) (atMono (fdS [(F.FD_CTRL_SAFE_PWR, 0)] (fun f => f)) 1000000)) ∧
    ((fun (k : IsoMsg) (ok : Bool) (snr : List ℕ) (mv : ℕ) (s : State) => (s.rd F.FD_STATUS_ISO_UP = 0) ∧ (s.fd.released = true) ∧ (s.fd.safe = false) ∧ (s.fd.lostAt + 1000000 ≤ s.tb.mono) ∧ (s.rd F.FD_CTRL_SAFE_PWR = 1)) (.marker) (false) ([1, 2, 3, 4, 5, 6, 7, 65536]) (31001) (atMono (fpp (fdS [(F.FD_CTRL_SAFE_PWR, 1)] (fun f => f)) 3 (fun r => { r with pst := 4 })) 1000000)) ∧
    ((fun (k : IsoMsg) (ok : Bool) (snr : List ℕ) (mv : ℕ) (s : State) => (19000 ≤ mv)) (.marker) (false) ([1, 2, 3, 4, 5, 6, 7, 65536]) (31001) (atMono (fpp (fdS [(F.FD_CTRL_SAFE_PWR, 1)] (fun f => f)) 3 (fun r => { r with pst := 4 })) 1000000)) :=
  by decide

theorem test_FieldDieAndItsLinks_3 :
    ((fun (k : IsoMsg) (ok : Bool) (snr : List ℕ) (mv : ℕ) (s : State) => (s.rd F.FD_STATUS_ISO_UP = 1) ∧ (k = IsoMsg.marker)) (.marker) (false) ([1, 2, 3, 4, 5, 6, 7, 65536]) (15999) (fdS [(F.FD_STATUS_ISO_UP, 1), (F.TB_FLW_STAT_LOCK, 1)] (fun f => f))) ∧
    ((fun (k : IsoMsg) (ok : Bool) (snr : List ℕ) (mv : ℕ) (s : State) => (s.rd F.FD_STATUS_ISO_UP = 1) ∧ (s.fd.cnt = []) ∧ (s.fd.ports = []) ∧ (((List.range 8).all fun n => decide (s.rd (F.FP_STATUS_LINK n) = 0)) = true) ∧ (snr.length = 8)) (.marker) (false) ([1, 2, 3, 4, 5, 6, 7, 65536]) (15999) (fdS [(F.FD_STATUS_ISO_UP, 1), (F.TB_FLW_STAT_LOCK, 1)] (fun f => f))) ∧
    ((fun (k : IsoMsg) (ok : Bool) (snr : List ℕ) (mv : ℕ) (s : State) => (mv < 19000) ∧ (s.rd F.FD_STATUS_ISO_UP = 1)) (.marker) (false) ([1, 2, 3, 4, 5, 6, 7, 65536]) (15999) (fdS [(F.FD_STATUS_ISO_UP, 1), (F.TB_FLW_STAT_LOCK, 1)] (fun f => f))) ∧
    ((fun (k : IsoMsg) (ok : Bool) (snr : List ℕ) (mv : ℕ) (s : State) => (s.rd F.FD_STATUS_ISO_UP = 1) ∧ (k = IsoMsg.register)) (.register) (false) ([1, 2, 3, 4, 5, 6, 7, 65536]) (31001) (fdS [(F.FD_STATUS_ISO_UP, 1), (F.TB_FLW_STAT_LOCK, 1)] (fun f => f))) ∧
    ((fun (k : IsoMsg) (ok : Bool) (snr : List ℕ) (mv : ℕ) (s : State) => (31000 < mv) ∧ (s.rd F.FD_STATUS_ISO_UP = 1)) (.register) (false) ([1, 2, 3, 4, 5, 6, 7, 65536]) (31001) (fdS [(F.FD_STATUS_ISO_UP, 1), (F.TB_FLW_STAT_LOCK, 1)] (fun f => f))) ∧
    ((fun (k : IsoMsg) (ok : Bool) (snr : List ℕ) (mv : ℕ) (s : State) => (s.rd F.FD_STATUS_ISO_UP = 1) ∧ (k = IsoMsg.power)) (.power) (false) ([1, 2, 3, 4, 5, 6, 7, 65536]) (30499) (fdS [(F.FD_STATUS_ISO_UP, 1), (F.TB_FLW_STAT_LOCK, 1)] (fun f => { f with inReset := true, uv := true }))) :=
  by decide

theorem test_FieldDieAndItsLinks_4 :
    ((fun (k : IsoMsg) (ok : Bool) (snr : List ℕ) (mv : ℕ) (s : State) => (s.fd.inReset = true) ∧ (s.rd F.FD_STATUS_ISO_UP = 1)) (.power) (false) ([1, 2, 3, 4, 5, 6, 7, 65536]) (30499) (fdS [(F.FD_STATUS_ISO_UP, 1), (F.TB_FLW_STAT_LOCK, 1)] (fun f => { f with inReset := true, uv := true }))) ∧
    ((fun (k : IsoMsg) (ok : Bool) (snr : List ℕ) (mv : ℕ) (s : State) => (19500 < mv) ∧ (mv < 30500) ∧ (s.fd.dead = false) ∧ (s.rd F.FD_STATUS_ISO_UP = 1)) (.power) (false) ([1, 2, 3, 4, 5, 6, 7, 65536]) (30499) (fdS [(F.FD_STATUS_ISO_UP, 1), (F.TB_FLW_STAT_LOCK, 1)] (fun f => { f with inReset := true, uv := true }))) ∧
    ((fun (k : IsoMsg) (ok : Bool) (snr : List ℕ) (mv : ℕ) (s : State) => (s.rd F.FD_STATUS_ISO_UP = 1) ∧ (k = IsoMsg.rxFrame) ∧ (s.fd.cross ≠ []) ∧ (ok = false)) (.rxFrame) (false) ([1, 2, 3, 4, 5, 6, 7, 65536]) (16000) (fdS [(F.FD_STATUS_ISO_UP, 1), (F.FP_CTRL_EN 3, 1)] (fun f => { f with dead := true, inReset := true, cross := [rxF 9 []] }))) ∧
    ((fun (k : IsoMsg) (ok : Bool) (snr : List ℕ) (mv : ℕ) (s : State) => (16000 ≤ mv) ∧ (s.fd.dead = true) ∧ (s.fd.released = true)) (.rxFrame) (false) ([1, 2, 3, 4, 5, 6, 7, 65536]) (16000) (fdS [(F.FD_STATUS_ISO_UP, 1), (F.FP_CTRL_EN 3, 1)] (fun f => { f with dead := true, inReset := true, cross := [rxF 9 []] }))) ∧
    ((fun (k : IsoMsg) (ok : Bool) (snr : List ℕ) (mv : ℕ) (s : State) => (s.rd F.FD_STATUS_ISO_UP = 1) ∧ (k = IsoMsg.rxFrame) ∧ (s.fd.cross = [])) (.rxFrame) (false) ([1, 2, 3, 4, 5, 6, 7, 65536]) (16000) (fdS [(F.CRP_BOOT_PHASE, 3), (F.FD_STATUS_ISO_UP, 1), (F.FP_CTRL_EN 3, 1)] (fun f => { f with released := false }))) ∧
    ((fun (k : IsoMsg) (ok : Bool) (snr : List ℕ) (mv : ℕ) (s : State) => (s.fd.released = false) ∧ (3 ≤ s.rd F.CRP_BOOT_PHASE) ∧ (16000 ≤ mv)) (.rxFrame) (false) ([1, 2, 3, 4, 5, 6, 7, 65536]) (16000) (fdS [(F.CRP_BOOT_PHASE, 3), (F.FD_STATUS_ISO_UP, 1), (F.FP_CTRL_EN 3, 1)] (fun f => { f with released := false }))) :=
  by decide

theorem test_FieldDieAndItsLinks_5 :
    ((fun (m : ℕ) (s : State) => (s.accepts m 327680 permW) ∧ (s.rd F.FD_STATUS_ISO_UP = 0 ∨ s.fd.released = false ∨ s.fd.dead = true)) (0) (fdS [] (fun f => f))) ∧
    ((fun (m : ℕ) (s : State) => (s.accepts m 327680 permW) ∧ (s.rd F.FD_STATUS_ISO_UP = 1) ∧ (s.fd.released = true) ∧ (s.fd.dead = false)) (0) (fdS [(F.FD_STATUS_ISO_UP, 1)] (fun f => f))) ∧
    ((fun (m : ℕ) (n : Fin 8) (low : Bool) (slave : Bool) (reversed : Bool) (s : State) => (let can : Prop := s.rd (F.FP_CTRL_EN ↑n) ≠ 0 ∧ s.rd (F.FP_STATUS_LINK ↑n) = 0 ∧ s.rd F.FD_STATUS_READY ≠ 0 ∧ s.rd F.FD_STATUS_ISO_UP ≠ 0 ∧ s.power ≤ pwTrim; (¬can))) (0) (7) (true) (true) (true) (fdS [(F.FP_CTRL_EN 7, 0)] (fun f => f))) ∧
    ((fun (m : ℕ) (n : Fin 8) (low : Bool) (slave : Bool) (reversed : Bool) (s : State) => (let late : Prop := s.rd F.FD_STATUS_ISO_UP ≠ 0 ∧ s.rd (F.FP_CTRL_EN ↑n) ≠ 0 ∧ s.rd (F.FP_STATUS_LINK ↑n) = 0 ∧ s.rd (F.FP_STATUS_LINK_STATE ↑n) ≠ 0 ∧ (s.fdPort ↑n).trainAt + 5000000000 ≤ s.tb.mono; (¬late))) (0) (7) (true) (true) (true) (fdS [(F.FP_CTRL_EN 7, 0)] (fun f => f))) ∧
    ((fun (m : ℕ) (n : Fin 8) (low : Bool) (slave : Bool) (reversed : Bool) (s : State) => (s.rd (F.FP_STATUS_LINK ↑n) = 0)) (0) (7) (true) (true) (true) (fdS [(F.FP_CTRL_EN 7, 0)] (fun f => f))) ∧
    ((fun (m : ℕ) (n : Fin 8) (low : Bool) (slave : Bool) (reversed : Bool) (s : State) => (s.accepts m (328704 + 128 * ↑n) permW) ∧ (s.rd F.FD_STATUS_ISO_UP = 0 ∨ s.rd (F.FP_CTRL_EN ↑n) = 0 ∨ s.rd F.FD_STATUS_READY = 0)) (0) (7) (true) (true) (true) (fdS [(F.FP_CTRL_EN 7, 0)] (fun f => f))) :=
  by decide

theorem test_FieldDieAndItsLinks_6 :
    ((fun (m : ℕ) (n : Fin 8) (low : Bool) (slave : Bool) (reversed : Bool) (s : State) => (let can : Prop := s.rd (F.FP_CTRL_EN ↑n) ≠ 0 ∧ s.rd (F.FP_STATUS_LINK ↑n) = 0 ∧ s.rd F.FD_STATUS_READY ≠ 0 ∧ s.rd F.FD_STATUS_ISO_UP ≠ 0 ∧ s.power ≤ pwTrim; (can))) (0x20) (7) (true) (true) (true) (atMono (fdS [(F.FP_CTRL_EN 7, 1), (F.FP_STATUS_LINK_STATE 7, 1), (F.FD_STATUS_READY, 1), (F.FD_STATUS_ISO_UP, 1), (F.FP_CTRL_AN_EN 7, 1)] (fun f => f)) 5000000000)) ∧
    ((fun (m : ℕ) (n : Fin 8) (low : Bool) (slave : Bool) (reversed : Bool) (s : State) => (let late : Prop := s.rd F.FD_STATUS_ISO_UP ≠ 0 ∧ s.rd (F.FP_CTRL_EN ↑n) ≠ 0 ∧ s.rd (F.FP_STATUS_LINK ↑n) = 0 ∧ s.rd (F.FP_STATUS_LINK_STATE ↑n) ≠ 0 ∧ (s.fdPort ↑n).trainAt + 5000000000 ≤ s.tb.mono; (late))) (0x20) (7) (true) (true) (true) (atMono (fdS [(F.FP_CTRL_EN 7, 1), (F.FP_STATUS_LINK_STATE 7, 1), (F.FD_STATUS_READY, 1), (F.FD_STATUS_ISO_UP, 1), (F.FP_CTRL_AN_EN 7, 1)] (fun f => f)) 5000000000)) ∧
    ((fun (m : ℕ) (n : Fin 8) (low : Bool) (slave : Bool) (reversed : Bool) (s : State) => (s.accepts m (328704 + 128 * ↑n) permW) ∧ (s.rd F.FD_STATUS_ISO_UP = 1) ∧ (s.rd (F.FP_CTRL_EN ↑n) = 1) ∧ (s.rd F.FD_STATUS_READY = 1)) (0x20) (7) (true) (true) (true) (atMono (fdS [(F.FP_CTRL_EN 7, 1), (F.FP_STATUS_LINK_STATE 7, 1), (F.FD_STATUS_READY, 1), (F.FD_STATUS_ISO_UP, 1), (F.FP_CTRL_AN_EN 7, 1)] (fun f => f)) 5000000000)) ∧
    ((fun (m : ℕ) (n : Fin 8) (low : Bool) (slave : Bool) (reversed : Bool) (s : State) => (s.rd (F.FP_STATUS_LINK ↑n) = 1) ∧ (s.rd (F.FP_CTRL_EN ↑n) = 1)) (0) (7) (true) (true) (true) (atMono (fdS [(F.FP_CTRL_EN 7, 1), (F.FP_STATUS_LINK 7, 1), (F.FD_STATUS_READY, 1), (F.FD_STATUS_ISO_UP, 1), (F.FP_CTRL_AN_EN 7, 0)] (fun f => f)) 5000000000)) :=
  by decide

theorem test_PowerOfFieldPorts_1 :
    ((fun (n : Fin 8) (k : Probe) (cls : Option (Fin 16)) (inRange : Bool) (held : Option ℕ) (s : State) => (let r : FdPort := s.fdPort ↑n; (r.pst ≠ pdDetect))) (7) (.valid) (none) (true) (none) (St [])) ∧
    ((fun (n : Fin 8) (k : Probe) (cls : Option (Fin 16)) (inRange : Bool) (held : Option ℕ) (s : State) => (let r : FdPort := s.fdPort ↑n; (r.pst ≠ pdClassify))) (7) (.valid) (none) (true) (none) (St [])) ∧
    ((fun (n : Fin 8) (k : Probe) (cls : Option (Fin 16)) (inRange : Bool) (held : Option ℕ) (s : State) => (let r : FdPort := s.fdPort ↑n; (r.pst ≠ pdPowerUp))) (7) (.valid) (none) (true) (none) (St [])) ∧
    ((fun (n : Fin 8) (k : Probe) (cls : Option (Fin 16)) (inRange : Bool) (held : Option ℕ) (s : State) => (let r : FdPort := s.fdPort ↑n; (r.pst ≠ pdOn))) (7) (.valid) (none) (true) (none) (St [])) ∧
    ((fun (n : Fin 8) (k : Probe) (cls : Option (Fin 16)) (inRange : Bool) (held : Option ℕ) (s : State) => (let r : FdPort := s.fdPort ↑n; (let again : ℕ := r.since + s.dieRd (F.FP_OC_RETRY_MS ↑n) * 1000000; (r.pst ≠ pdFault ∨ s.tb.mono < again)))) (7) (.valid) (none) (true) (none) (St [])) ∧
    ((fun (n : ℕ) (s : State) => (s.recoverPort = none)) (7) (St [])) :=
  by decide

theorem test_PowerOfFieldPorts_2 :
    ((fun (n : ℕ) (s : State) => (((List.range 8).all fun k => decide ((s.fdPort k).pst ≠ pdShed)) = true)) (7) (St [])) ∧
    ((fun (n : Fin 8) (k : Probe) (cls : Option (Fin 16)) (inRange : Bool) (held : Option ℕ) (s : State) => (let r : FdPort := s.fdPort ↑n; (r.pst = pdDetect) ∧ (s.tb.mono < r.probeAt))) (7) (.valid) (none) (true) (none) (fpp (fdS [] (fun f => f)) 7 (fun r => { r with pst := 1, probeAt := 1 }))) ∧
    ((fun (n : Fin 8) (k : Probe) (cls : Option (Fin 16)) (inRange : Bool) (held : Option ℕ) (s : State) => (let r : FdPort := s.fdPort ↑n; (let up : Prop := s.rd F.FD_STATUS_ISO_UP = 1; (r.pst = pdDetect) ∧ (r.probeAt ≤ s.tb.mono) ∧ (k = Probe.valid) ∧ (s.fdSum + 25 ≤ s.aggLim) ∧ (up)))) (7) (.valid) (none) (true) (none) (fpp (fdS [(F.FD_STATUS_ISO_UP, 1)] (fun f => f)) 7 (fun r => { r with pst := 1, sccp := true }))) ∧
    ((fun (n : Fin 8) (k : Probe) (cls : Option (Fin 16)) (inRange : Bool) (held : Option ℕ) (s : State) => (let r : FdPort := s.fdPort ↑n; (r.pst = pdDetect) ∧ (r.probeAt ≤ s.tb.mono) ∧ (k = Probe.valid) ∧ (s.aggLim < s.fdSum + 25))) (7) (.valid) (none) (true) (none) (fpp (fdS [] (fun f => { f with cur := [1576] })) 7 (fun r => { r with pst := 1, sccp := true }))) ∧
    ((fun (n : Fin 8) (k : Probe) (cls : Option (Fin 16)) (inRange : Bool) (held : Option ℕ) (s : State) => (let r : FdPort := s.fdPort ↑n; (let up : Prop := s.rd F.FD_STATUS_ISO_UP = 1; (r.pst = pdDetect) ∧ (r.probeAt ≤ s.tb.mono) ∧ (k = Probe.foreign true) ∧ (up)))) (7) (.foreign true) (none) (true) (none) (fpp (fdS [(F.FD_STATUS_ISO_UP, 1)] (fun f => f)) 7 (fun r => { r with pst := 1 }))) ∧
    ((fun (n : Fin 8) (k : Probe) (cls : Option (Fin 16)) (inRange : Bool) (held : Option ℕ) (s : State) => (let r : FdPort := s.fdPort ↑n; (let up : Prop := s.rd F.FD_STATUS_ISO_UP = 1; (r.pst = pdDetect) ∧ (r.probeAt ≤ s.tb.mono) ∧ (k = Probe.nothing) ∧ (up)))) (7) (.nothing) (none) (true) (none) (fpp (fdS [(F.FD_STATUS_ISO_UP, 1)] (fun f => f)) 7 (fun r => { r with pst := 1 }))) :=
  by decide

theorem test_PowerOfFieldPorts_3 :
    ((fun (n : Fin 8) (k : Probe) (cls : Option (Fin 16)) (inRange : Bool) (held : Option ℕ) (s : State) (c : Fin 16) => (let r : FdPort := s.fdPort ↑n; (r.pst = pdClassify) ∧ (r.failed = none) ∧ (cls = some c) ∧ (↑c ≤ r.cls))) (7) (.nothing) (some 10) (true) (none) (fpp (fdS [] (fun f => f)) 7 (fun r => { r with pst := 2 })) (10)) ∧
    ((fun (n : Fin 8) (k : Probe) (cls : Option (Fin 16)) (inRange : Bool) (held : Option ℕ) (s : State) (c : Fin 16) => (let r : FdPort := s.fdPort ↑n; (let up : Prop := s.rd F.FD_STATUS_ISO_UP = 1; (r.pst = pdClassify) ∧ (r.failed = none) ∧ (cls = some c) ∧ (up)))) (7) (.nothing) (some 10) (true) (none) (fpp (fdS [(F.FD_STATUS_ISO_UP, 1)] (fun f => f)) 7 (fun r => { r with pst := 2 })) (10)) ∧
    ((fun (n : Fin 8) (k : Probe) (cls : Option (Fin 16)) (inRange : Bool) (held : Option ℕ) (s : State) (c : Fin 16) => (let r : FdPort := s.fdPort ↑n; (r.pst = pdClassify) ∧ (r.failed = none) ∧ (cls = some c) ∧ (r.cls < ↑c))) (7) (.nothing) (some 11) (true) (none) (fpp (fdS [] (fun f => f)) 7 (fun r => { r with pst := 2 })) (11)) ∧
    ((fun (n : Fin 8) (k : Probe) (cls : Option (Fin 16)) (inRange : Bool) (held : Option ℕ) (s : State) => (let r : FdPort := s.fdPort ↑n; (r.pst = pdClassify) ∧ (r.failed = none) ∧ (cls = none) ∧ (s.tb.mono < r.since + 100000000))) (7) (.nothing) (none) (true) (none) (fpp (fdS [] (fun f => f)) 7 (fun r => { r with pst := 2 }))) ∧
    ((fun (n : Fin 8) (k : Probe) (cls : Option (Fin 16)) (inRange : Bool) (held : Option ℕ) (s : State) => (let r : FdPort := s.fdPort ↑n; (r.pst = pdClassify) ∧ (r.failed = none) ∧ (cls = none) ∧ (r.since + 100000000 ≤ s.tb.mono))) (7) (.nothing) (none) (true) (none) (atMono (fpp (fdS [] (fun f => f)) 7 (fun r => { r with pst := 2 })) 100000000)) ∧
    ((fun (n : Fin 8) (k : Probe) (cls : Option (Fin 16)) (inRange : Bool) (held : Option ℕ) (s : State) => (let r : FdPort := s.fdPort ↑n; (r.pst = pdPowerUp) ∧ (inRange = true) ∧ (s.tb.mono ≤ r.since + 50000000))) (7) (.nothing) (none) (true) (none) (atMono (fpp (fdS [] (fun f => f)) 7 (fun r => { r with pst := 3 })) 50000000)) :=
  by decide

theorem test_PowerOfFieldPorts_4 :
    ((fun (n : Fin 8) (k : Probe) (cls : Option (Fin 16)) (inRange : Bool) (held : Option ℕ) (s : State) => (let r : FdPort := s.fdPort ↑n; (let up : Prop := s.rd F.FD_STATUS_ISO_UP = 1; (r.pst = pdPowerUp) ∧ (r.since + 50000000 < s.tb.mono) ∧ (up)))) (7) (.nothing) (none) (true) (none) (atMono (fpp (fdS [(F.FD_STATUS_ISO_UP, 1)] (fun f => f)) 7 (fun r => { r with pst := 3 })) 50000001)) ∧
    ((fun (n : Fin 8) (k : Probe) (cls : Option (Fin 16)) (inRange : Bool) (held : Option ℕ) (s : State) => (let r : FdPort := s.fdPort ↑n; (r.pst = pdOn) ∧ (r.since + 300000000 ≤ s.tb.mono))) (7) (.nothing) (none) (true) (none) (atMono (fpp (fdS [] (fun f => f)) 7 (fun r => { r with pst := 4 })) 60000000000)) ∧
    ((fun (n : Fin 8) (k : Probe) (cls : Option (Fin 16)) (inRange : Bool) (held : Option ℕ) (s : State) => (let r : FdPort := s.fdPort ↑n; (r.pst = pdOn) ∧ (r.since + 60000000000 ≤ s.tb.mono))) (7) (.nothing) (none) (true) (none) (atMono (fpp (fdS [] (fun f => f)) 7 (fun r => { r with pst := 4 })) 60000000000)) ∧
    ((fun (n : Fin 8) (k : Probe) (cls : Option (Fin 16)) (inRange : Bool) (held : Option ℕ) (s : State) => (let r : FdPort := s.fdPort ↑n; (let up : Prop := s.rd F.FD_STATUS_ISO_UP = 1; (r.pst = pdOn) ∧ (held = none) ∧ (up)))) (7) (.nothing) (none) (true) (none) (atMono (fpp (fdS [(F.FD_STATUS_ISO_UP, 1)] (fun f => f)) 7 (fun r => { r with pst := 4 })) 60000000000)) ∧
    ((fun (n : Fin 8) (k : Probe) (cls : Option (Fin 16)) (inRange : Bool) (held : Option ℕ) (s : State) => (let r : FdPort := s.fdPort ↑n; (r.pst = pdOn) ∧ (Option.all (fun ms => decide (ms < max 1 (s.dieRd (F.FP_OC_OC_MS ↑n)))) held = true) ∧ (held.isSome = true))) (7) (.nothing) (none) (true) (some 0) (atMono (fpp (fdS [(F.FP_OC_OC_MS 7, 0)] (fun f => f)) 7 (fun r => { r with pst := 4 })) 300000000)) ∧
    ((fun (n : Fin 8) (k : Probe) (cls : Option (Fin 16)) (inRange : Bool) (held : Option ℕ) (s : State) => (let r : FdPort := s.fdPort ↑n; (let lim : ℕ := s.dieRd (F.FP_OC_RETRY_N ↑n); (let again : ℕ := r.since + s.dieRd (F.FP_OC_RETRY_MS ↑n) * 1000000; (r.pst = pdFault) ∧ (again ≤ s.tb.mono) ∧ (lim = 15 ∨ r.used < lim))))) (7) (.nothing) (none) (true) (some 0) (fpp (fdS [(F.FP_OC_RETRY_MS 7, 0), (F.FP_OC_RETRY_N 7, 15)] (fun f => f)) 7 (fun r => { r with pst := 5, used := 15 }))) :=
  by decide

theorem test_PowerOfFieldPorts_5 :
    ((fun (n : Fin 8) (k : Probe) (cls : Option (Fin 16)) (inRange : Bool) (held : Option ℕ) (s : State) => (let r : FdPort := s.fdPort ↑n; (let lim : ℕ := s.dieRd (F.FP_OC_RETRY_N ↑n); (let again : ℕ := r.since + s.dieRd (F.FP_OC_RETRY_MS ↑n) * 1000000; (r.pst = pdFault) ∧ (again ≤ s.tb.mono) ∧ (lim ≠ 15) ∧ (lim ≤ r.used))))) (7) (.nothing) (none) (true) (some 0) (fpp (fdS [(F.FP_OC_RETRY_MS 7, 0), (F.FP_OC_RETRY_N 7, 3)] (fun f => f)) 7 (fun r => { r with pst := 5, used := 3 }))) ∧
    ((fun (n : Fin 8) (cur : List ℕ) (s : State) => (s.fd.released = false ∨ s.fd.inReset = true ∨ s.tb.mono < s.fd.evalAt + 1000000)) (7) ([300, 500, 0, 0, 0, 0, 0, 500]) (St [])) ∧
    ((fun (n : Fin 8) (cur : List ℕ) (s : State) => (let r : FdPort := s.fdPort ↑n; (s.fd.released = true) ∧ (s.fd.inReset = false) ∧ (s.fd.evalAt + 1000000 ≤ s.tb.mono) ∧ (s.rd F.FD_STATUS_ISO_UP = 1) ∧ (r.pst = pdOff) ∧ (r.off = false) ∧ (s.fdEnabled ↑n = true))) (7) ([300, 500, 0, 0, 0, 0, 0, 500]) (atMono (fpp (fdS [(F.FD_STATUS_ISO_UP, 1), (F.FD_CTRL_PWR_EN, 1), (F.FP_CTRL_PWR_EN 7, 1)] (fun f => { f with uv := false, ov := false, inReset := false })) 7 (fun r => { r with pst := 0 })) 1000000)) ∧
    ((fun (n : Fin 8) (cur : List ℕ) (s : State) => (let r : FdPort := s.fdPort ↑n; (let sum : ℕ := List.foldl (fun a k => a + min (cur.getD k 0) (max 10 (min 300 (s.dieRd (F.FP_ILIM k))))) 0 (List.range 8); (let lowest : Prop := ((List.range 8).all fun k => decide (k = ↑n ∨ (s.fdPort k).pst ≠ pdOn ∨ s.dieRd (F.FP_CTRL_PRIO ↑n) < s.dieRd (F.FP_CTRL_PRIO k) ∨ s.dieRd (F.FP_CTRL_PRIO ↑n) = s.dieRd (F.FP_CTRL_PRIO k) ∧ k < ↑n)) = true; (s.fd.released = true) ∧ (s.fd.inReset = false) ∧ (s.fd.evalAt + 1000000 ≤ s.tb.mono) ∧ (s.rd F.FD_STATUS_ISO_UP = 1) ∧ (r.pst = pdOn) ∧ (r.off = false) ∧ (r.failed = none) ∧ (s.fdEnabled ↑n = true) ∧ (max 100 (min 1600 (s.dieRd F.FD_AGG_LIM)) < sum) ∧ (lowest))))) (7) ([300, 500, 0, 0, 0, 0, 0, 500]) (atMono (fpp (fdS [(F.FD_STATUS_ISO_UP, 1), (F.FD_CTRL_PWR_EN, 1), (F.FP_CTRL_PWR_EN 7, 1), (F.FD_AGG_LIM, 0)] (fun f => { f with uv := false, ov := false, inReset := false })) 7 (fun r => { r with pst := 4 })) 1000000)) ∧
    ((fun (n : Fin 8) (cur : List ℕ) (s : State) => (let r : FdPort := s.fdPort ↑n; (let sum : ℕ := List.foldl (fun a k => a + min (cur.getD k 0) (max 10 (min 300 (s.dieRd (F.FP_ILIM k))))) 0 (List.range 8); (s.fd.released = true) ∧ (s.fd.inReset = false) ∧ (s.fd.evalAt + 1000000 ≤ s.tb.mono) ∧ (s.rd F.FD_STATUS_ISO_UP = 1) ∧ (r.pst = pdOn) ∧ (r.off = false) ∧ (r.failed = none) ∧ (s.fdEnabled ↑n = true) ∧ (sum ≤ max 100 (min 1600 (s.dieRd F.FD_AGG_LIM)))))) (7) ([300, 500, 0, 0, 0, 0, 0, 500]) (atMono (fpp (fpp (fdS [(F.FD_STATUS_ISO_UP, 1), (F.FD_CTRL_PWR_EN, 1), (F.FP_CTRL_PWR_EN 7, 1), (F.FP_CTRL_PWR_EN 3, 1), (F.FD_AGG_LIM, 2000)] (fun f => { f with uv := false, ov := false, inReset := false })) 7 (fun r => { r with pst := 4 })) 3 (fun r => { r with pst := 4 })) 1000000)) ∧
    ((fun (n : Fin 8) (cur : List ℕ) (s : State) => (let r : FdPort := s.fdPort ↑n; (s.fd.released = true) ∧ (s.fd.inReset = false) ∧ (s.fd.evalAt + 1000000 ≤ s.tb.mono) ∧ (s.rd F.FD_STATUS_ISO_UP = 1) ∧ (s.rd (F.FP_CTRL_PWR_EN ↑n) = 0 ∨ s.rd F.FD_CTRL_PWR_EN = 0) ∧ (r.pst ≠ pdFault))) (7) ([300, 500, 0, 0, 0, 0, 0, 500]) (atMono (fpp (fdS [(F.FD_STATUS_ISO_UP, 1), (F.FD_CTRL_PWR_EN, 1), (F.FP_CTRL_PWR_EN 7, 0)] (fun f => { f with uv := false, ov := false, inReset := false })) 7 (fun r => { r with pst := 4 })) 1000000)) :=
  by decide

theorem test_PowerOfFieldPorts_6 :
    ((fun (n : ℕ) (s : State) => (s.recoverPort = some n)) (7) (atMono (fpp (fpp (fdS [(F.FP_CTRL_PRIO 7, 3)] (fun f => f)) 3 (fun r => { r with pst := 6, lowAt := some 0 })) 7 (fun r => { r with pst := 6, lowAt := some 0 })) 10000000000)) :=
  by decide

theorem test_CommandsThatAreNotTaken :
    (St []).decodes 0x20 = false
    ∧ ((StP []).decodes 0x21 = true ∧ (StP []).may 0x02 0x21 permW = false)
    ∧ (∀ off ∈ [0x10010, 0x20000, 0x40000, 0x50780, 0x60880, 0x80030, 0x90008, 0xD0028, 0xD8010, 0x120000, 0x110000, 0x30044],
        let s := crS (St [(F.CL_HELD, 0x3FFFFF)]) (fun c => { c with blk := (List.range 23).map (fun b => (b, 0)) })
        s.decodes 0 = true ∧ s.may (off / 0x10000) 0 permW = true ∧ s.heldBlk (blkOf off) = true) := by decide

end Sys2Proof.Tests
end

/-! What a step is, what every command leaves to the machine, and the canonical form through every step
(`Obligations.StepTakesTheFrontCommand`, `Obligations.EveryCommandCompletes`, `Obligations.EveryStepKeepsTheForm`). -/

namespace Sys2Proof.Machine

/-- An outcome that is a next state. -/
def Answers (o : Out) : Prop := ∃ t, o = .next t

theorem Answers.next {t : State} : Answers (.next t) := ⟨t, rfl⟩

theorem Answers.ite {a b : Out} {c : Prop} [Decidable c] (h : Answers a) (g : Answers b) : Answers (if c then a else b) := by
  split <;> assumption

/-- An outcome that is a next state, with all that `Kept` says of it. -/
def Completes (s : State) (o : Out) : Prop := ∃ t, o = .next t ∧ Kept s t

theorem KeptOut.completes {s : State} {o : Out} (h : KeptOut s o) (a : Answers o) : Completes s o := by
  obtain ⟨t, rfl⟩ := a
  exact ⟨t, rfl, h⟩

/-! The meanings that are no single next state but a choice among several. -/

theorem execShadowMismatch_answers (dt : DWord) (frac : Word) (a b : Bool) (s : State) : Answers (execShadowMismatch dt frac a b s) :=
  .ite .next (.ite .next .next)

theorem execTinEdge_answers (pin : Fin 2) (rising : Bool) (quarter : Fin 8) (s : State) : Answers (execTinEdge pin rising quarter s) :=
  .ite .next .next

theorem execFollowerMarker_answers (err : Int) (s : State) : Answers (execFollowerMarker err s) :=
  .ite .next (.ite (.ite (.ite .next .next) .next) .next)

theorem execFuTimeout_answers (dirB : Bool) (s : State) : Answers (execFuTimeout dirB s) := by
  unfold execFuTimeout; split <;> exact .next

theorem execNotificationWrite_answers (s : State) : Answers (execNotificationWrite s) := by
  unfold execNotificationWrite; split <;> exact .next

theorem execTierMoveDone_answers (s : State) : Answers (execTierMoveDone s) := by
  unfold execTierMoveDone
  dsimp only
  split
  · exact .next
  · split <;> exact .next

theorem execPointWindowRead_answers (slot : Nat) (half : Option Bool) (s : State) : Answers (execPointWindowRead slot half s) :=
  .ite .next (.ite .next .next)

theorem execSweepVisit_answers (s : State) : Answers (execSweepVisit s) := by
  unfold execSweepVisit
  refine .ite .next ?_
  split
  · exact .next
  · dsimp only
    split <;> exact .next

theorem execDmaCopy_answers (q : BitVec 10) (e : List Byte) (s : State) : Answers (execDmaCopy q e s) := .ite .next .next

theorem execChainAppend_answers (c m : Nat) (data : List Byte) (s : State) : Answers (execChainAppend c m data s) := by
  unfold execChainAppend; split <;> exact .next

theorem execChainComplete_answers (c m : Nat) (s : State) : Answers (execChainComplete c m s) := by
  unfold execChainComplete; split <;> exact .next

theorem execChainAbort_answers (c m : Nat) (s : State) : Answers (execChainAbort c m s) := by
  unfold execChainAbort; split <;> exact .next

theorem execCellWipeDone_answers (pool : Fin 2) (s : State) : Answers (execCellWipeDone pool s) := by
  unfold execCellWipeDone
  refine .ite ?_ ?_ <;> split <;> exact .next

/-- Every command completes and keeps what `Kept` says, arm by arm of `exec`. -/
theorem exec_completes (s : State) : ∀ c : Instr, Completes s (exec c s)
  | .registerWrite .. => (execRegisterWrite_kept ..).completes .next
  | .lowWordRead .. => (execLowWordRead_kept ..).completes .next
  | .lowWordWrite .. => (execLowWordWrite_kept ..).completes .next
  | .counterReadClear .. => (execCounterReadClear_kept ..).completes .next
  | .commit .. => (execCommit_kept ..).completes .next
  | .stagedApply => (execStagedApply_kept ..).completes .next
  | .windowDataRead .. => (execWindowDataRead_kept ..).completes .next
  | .shadowMismatch .. => (execShadowMismatch_kept ..).completes (execShadowMismatch_answers ..)
  | .tbIncWrite .. => (execTbIncWrite_kept ..).completes .next
  | .acq .. => (execAcq_kept ..).completes .next
  | .lockReq .. => (execLockReq_kept ..).completes .next
  | .stepGo .. => (execStepGo_kept ..).completes .next
  | .holdReq .. => (execHoldReq_kept ..).completes .next
  | .holdExit .. => (execHoldExit_kept ..).completes .next
  | .ppsCommit .. => (execPpsCommit_kept ..).completes .next
  | .measOffsetWrite .. => (execMeasOffsetWrite_kept ..).completes .next
  | .measSeqWrite .. => (execMeasSeqWrite_kept ..).completes .next
  | .slewComplete => (execSlewComplete_kept ..).completes .next
  | .reepochArm .. => (execReepochArm_kept ..).completes .next
  | .reepochApply => (execReepochApply_kept ..).completes .next
  | .snap .. => (execSnap_kept ..).completes .next
  | .servoRequest .. => (execServoRequest_kept ..).completes .next
  | .servoGrant => (execServoGrant_kept ..).completes .next
  | .servoReturn .. => (execServoReturn_kept ..).completes .next
  | .servoWatchdogExpiry => (execServoWatchdogExpiry_kept ..).completes .next
  | .announceTimeout => (execAnnounceTimeout_kept ..).completes .next
  | .ppsOutEdge => (execPpsOutEdge_kept ..).completes .next
  | .ppsInEdge .. => (execPpsInEdge_kept ..).completes .next
  | .ppsInLoss => (execPpsInLoss_kept ..).completes .next
  | .tinEdge .. => (execTinEdge_kept ..).completes (execTinEdge_answers ..)
  | .tinFifoPop .. => (execTinFifoPop_kept ..).completes .next
  | .followerMarker .. => (execFollowerMarker_kept ..).completes (execFollowerMarker_answers ..)
  | .followerMarkerTimeout => (execFollowerMarkerTimeout_kept ..).completes .next
  | .fuTimeout .. => (execFuTimeout_kept ..).completes (execFuTimeout_answers ..)
  | .fieldSyncTx .. => (execFieldSyncTx_kept ..).completes .next
  | .gateEntryStart .. => (execGateEntryStart_kept ..).completes .next
  | .gateEnWrite .. => (execGateEnWrite_kept ..).completes .next
  | .listStart .. => (execListStart_kept ..).completes .next
  | .cfgChange .. => (execCfgChange_kept ..).completes .next
  | .configChangeTime .. => (execConfigChangeTime_kept ..).completes .next
  | .adminCopyDone .. => (execAdminCopyDone_kept ..).completes .next
  | .cfgAbort .. => (execCfgAbort_kept ..).completes .next
  | .holdRequest .. => (execHoldRequest_kept ..).completes .next
  | .releaseRequest .. => (execReleaseRequest_kept ..).completes .next
  | .fieldGateEventSend .. => (execFieldGateEventSend_kept ..).completes .next
  | .fieldGateEventApply .. => (execFieldGateEventApply_kept ..).completes .next
  | .streamGateEvent .. => (execStreamGateEvent_kept ..).completes .next
  | .sgEnable .. => (execSgEnable_kept ..).completes .next
  | .sgDisable .. => (execSgDisable_kept ..).completes .next
  | .sgCfgChange .. => (execSgCfgChange_kept ..).completes .next
  | .sgAbort .. => (execSgAbort_kept ..).completes .next
  | .sgCct .. => (execSgCct_kept ..).completes .next
  | .knMdataWrite .. => (execKnMdataWrite_kept ..).completes .next
  | .taSubmit .. => (execTaSubmit_kept ..).completes .next
  | .taCancel .. => (execTaCancel_kept ..).completes .next
  | .taOccurrence => (execTaOccurrence_kept ..).completes .next
  | .toutEdge => (execToutEdge_kept ..).completes .next
  | .fetchStart .. => (execFetchStart_kept ..).completes .next
  | .fetchDone .. => (execFetchDone_kept ..).completes .next
  | .frameStart .. => (execFrameStart_kept ..).completes .next
  | .frameEnd .. => (execFrameEnd_kept ..).completes .next
  | .jobLate .. => (execJobLate_kept ..).completes .next
  | .verifyTimeout .. => (execVerifyTimeout_kept ..).completes .next
  | .respondReceived .. => (execRespondReceived_kept ..).completes .next
  | .verifyReceived .. => (execVerifyReceived_kept ..).completes .next
  | .mpacketSend .. => (execMpacketSend_kept ..).completes .next
  | .verifyRestart .. => (execVerifyRestart_kept ..).completes .next
  | .fragmentReceived .. => (execFragmentReceived_kept ..).completes .next
  | .pointWriteLand => (execPointWriteLand_kept ..).completes .next
  | .notificationWrite => (execNotificationWrite_kept ..).completes (execNotificationWrite_answers ..)
  | .tierMove => (execTierMove_kept ..).completes .next
  | .tierMoveDone => (execTierMoveDone_kept ..).completes (execTierMoveDone_answers ..)
  | .mapFetchDone => (execMapFetchDone_kept ..).completes .next
  | .pointWindowWrite .. => (execPointWindowWrite_kept ..).completes .next
  | .pointWindowRead .. => (execPointWindowRead_kept ..).completes (execPointWindowRead_answers ..)
  | .pcfgDefine .. => (execPcfgDefine_kept ..).completes .next
  | .pcfgUndefine .. => (execPcfgUndefine_kept ..).completes .next
  | .pcfgSet .. => (execPcfgSet_kept ..).completes .next
  | .mapSwap .. => (execMapSwap_kept ..).completes .next
  | .gyMdataWrite .. => (execGyMdataWrite_kept ..).completes .next
  | .sweepVisit => (execSweepVisit_kept ..).completes (execSweepVisit_answers ..)
  | .templateLaunchCreate .. => (execTemplateLaunchCreate_kept ..).completes .next
  | .slotClassify .. => (execSlotClassify_kept ..).completes .next
  | .dramSlotRead .. => (execDramSlotRead_kept ..).completes .next
  | .hotSlotRead .. => (execHotSlotRead_kept ..).completes .next
  | .assemblyHandoff .. => (execAssemblyHandoff_kept ..).completes .next
  | .templateEnable .. => (execTemplateEnable_kept ..).completes .next
  | .templateDisable .. => (execTemplateDisable_kept ..).completes .next
  | .templateSwap .. => (execTemplateSwap_kept ..).completes .next
  | .templateDisableDone => (execTemplateDisableDone_kept ..).completes .next
  | .msMdataWrite .. => (execMsMdataWrite_kept ..).completes .next
  | .horizonMature => (execHorizonMature_kept ..).completes .next
  | .streamLookup .. => (execStreamLookup_kept ..).completes .next
  | .idInsert .. => (execIdInsert_kept ..).completes .next
  | .idDelete .. => (execIdDelete_kept ..).completes .next
  | .idFind .. => (execIdFind_kept ..).completes .next
  | .recReset .. => (execRecReset_kept ..).completes .next
  | .clrRecCnt .. => (execClrRecCnt_kept ..).completes .next
  | .clrStreamCnt .. => (execClrStreamCnt_kept ..).completes .next
  | .fnMdataWrite .. => (execFnMdataWrite_kept ..).completes .next
  | .recoveryEvaluate .. => (execRecoveryEvaluate_kept ..).completes .next
  | .recoveryTimeout .. => (execRecoveryTimeout_kept ..).completes .next
  | .latentTest .. => (execLatentTest_kept ..).completes .next
  | .latentReset .. => (execLatentReset_kept ..).completes .next
  | .psUnblock .. => (execPsUnblock_kept ..).completes .next
  | .psClrFilterCnt .. => (execPsClrFilterCnt_kept ..).completes .next
  | .meterReset .. => (execMeterReset_kept ..).completes .next
  | .gateReopen .. => (execGateReopen_kept ..).completes .next
  | .psMdataWrite .. => (execPsMdataWrite_kept ..).completes .next
  | .shaperGrant => (execShaperGrant_kept ..).completes .next
  | .wheelMigrate => (execWheelMigrate_kept ..).completes .next
  | .ltMdataWrite .. => (execLtMdataWrite_kept ..).completes .next
  | .cbsCreditRestored .. => (execCbsCreditRestored_kept ..).completes .next
  | .pauseRx .. => (execPauseRx_kept ..).completes .next
  | .pfcRx .. => (execPfcRx_kept ..).completes .next
  | .pauseExpiry .. => (execPauseExpiry_kept ..).completes .next
  | .queuePause .. => (execQueuePause_kept ..).completes .next
  | .queuePauseExpiry .. => (execQueuePauseExpiry_kept ..).completes .next
  | .twinEnable .. => (execTwinEnable_kept ..).completes .next
  | .twinDisable .. => (execTwinDisable_kept ..).completes .next
  | .heartbeatTx => (execHeartbeatTx_kept ..).completes .next
  | .heartbeatRx .. => (execHeartbeatRx_kept ..).completes .next
  | .pathLoss .. => (execPathLoss_kept ..).completes .next
  | .formWaitExpiry => (execFormWaitExpiry_kept ..).completes .next
  | .leaseExpiry => (execLeaseExpiry_kept ..).completes .next
  | .claimRx .. => (execClaimRx_kept ..).completes .next
  | .releaseRx .. => (execReleaseRx_kept ..).completes .next
  | .backboneClaimRx .. => (execBackboneClaimRx_kept ..).completes .next
  | .backboneClaimTx => (execBackboneClaimTx_kept ..).completes .next
  | .twRelease .. => (execTwRelease_kept ..).completes .next
  | .forceClaim .. => (execForceClaim_kept ..).completes .next
  | .rejoin .. => (execRejoin_kept ..).completes .next
  | .resyncRequest => (execResyncRequest_kept ..).completes .next
  | .resyncWalk => (execResyncWalk_kept ..).completes .next
  | .resyncComplete => (execResyncComplete_kept ..).completes .next
  | .dolnosFrameRx .. => (execDolnosFrameRx_kept ..).completes .next
  | .reepRx .. => (execReepRx_kept ..).completes .next
  | .dolnosRetransmit => (execDolnosRetransmit_kept ..).completes .next
  | .mirrorBatchClose => (execMirrorBatchClose_kept ..).completes .next
  | .dirtyMapFlush => (execDirtyMapFlush_kept ..).completes .next
  | .selftestAssembly .. => (execSelftestAssembly_kept ..).completes .next
  | .checkWindowComplete => (execCheckWindowComplete_kept ..).completes .next
  | .sqDoorbell .. => (execSqDoorbell_kept ..).completes .next
  | .cqDoorbell .. => (execCqDoorbell_kept ..).completes .next
  | .tx .. => (execTx_kept ..).completes .next
  | .txTimed .. => (execTxTimed_kept ..).completes .next
  | .lso .. => (execLso_kept ..).completes .next
  | .postRx .. => (execPostRx_kept ..).completes .next
  | .pointWrite .. => (execPointWrite_kept ..).completes .next
  | .pointRead .. => (execPointRead_kept ..).completes .next
  | .subscribe .. => (execSubscribe_kept ..).completes .next
  | .unsubscribe .. => (execUnsubscribe_kept ..).completes .next
  | .timedAction .. => (execTimedAction_kept ..).completes .next
  | .dmaCopy .. => (execDmaCopy_kept ..).completes (execDmaCopy_answers ..)
  | .fence .. => (execFence_kept ..).completes .next
  | .fencePass .. => (execFencePass_kept ..).completes .next
  | .nop .. => (execNop_kept ..).completes .next
  | .msixModTimer .. => (execMsixModTimer_kept ..).completes .next
  | .sqEnable .. => (execSqEnable_kept ..).completes .next
  | .sqDisable .. => (execSqDisable_kept ..).completes .next
  | .queueDrained .. => (execQueueDrained_kept ..).completes .next
  | .cqEnable .. => (execCqEnable_kept ..).completes .next
  | .cqDisable .. => (execCqDisable_kept ..).completes .next
  | .entryFetchError .. => (execEntryFetchError_kept ..).completes .next
  | .queueAssign .. => (execQueueAssign_kept ..).completes .next
  | .queueRelease .. => (execQueueRelease_kept ..).completes .next
  | .dmaStart .. => (execDmaStart_kept ..).completes .next
  | .dmaChain .. => (execDmaChain_kept ..).completes .next
  | .dmaResume .. => (execDmaResume_kept ..).completes .next
  | .channelDrop .. => (execChannelDrop_kept ..).completes .next
  | .dmaEngineDisable .. => (execDmaEngineDisable_kept ..).completes .next
  | .chDb .. => (execChDb_kept ..).completes .next
  | .chOwnerWrite .. => (execChOwnerWrite_kept ..).completes .next
  | .haltClear .. => (execHaltClear_kept ..).completes .next
  | .descriptorFetched .. => (execDescriptorFetched_kept ..).completes .next
  | .transferComplete .. => (execTransferComplete_kept ..).completes .next
  | .busError .. => (execBusError_kept ..).completes .next
  | .cellAlloc .. => (execCellAlloc_kept ..).completes .next
  | .chainAppend .. => (execChainAppend_kept ..).completes (execChainAppend_answers ..)
  | .chainComplete .. => (execChainComplete_kept ..).completes (execChainComplete_answers ..)
  | .chainAbort .. => (execChainAbort_kept ..).completes (execChainAbort_answers ..)
  | .share .. => (execShare_kept ..).completes .next
  | .release .. => (execRelease_kept ..).completes .next
  | .cellWipeDone .. => (execCellWipeDone_kept ..).completes (execCellWipeDone_answers ..)
  | .quotaWrite .. => (execQuotaWrite_kept ..).completes .next
  | .pool1SizeWrite .. => (execPool1SizeWrite_kept ..).completes .next
  | .heatWindowEnd => (execHeatWindowEnd_kept ..).completes .next
  | .engineRebind .. => (execEngineRebind_kept ..).completes .next
  | .dmaCopyDispatch => (execDmaCopyDispatch_kept ..).completes .next
  | .traceClear .. => (execTraceClear_kept ..).completes .next
  | .ptMdataWrite .. => (execPtMdataWrite_kept ..).completes .next
  | .mailboxPost .. => (execMailboxPost_kept ..).completes .next
  | .mailboxEmpty .. => (execMailboxEmpty_kept ..).completes .next
  | .mailboxLockTake .. => (execMailboxLockTake_kept ..).completes .next
  | .mailboxLockFree .. => (execMailboxLockFree_kept ..).completes .next
  | .mailboxBindWrite .. => (execMailboxBindWrite_kept ..).completes .next
  | .bindLock .. => (execBindLock_kept ..).completes .next
  | .accessTableWrite .. => (execAccessTableWrite_kept ..).completes .next
  | .tableLock .. => (execTableLock_kept ..).completes .next
  | .dbgEnd .. => (execDbgEnd_kept ..).completes .next
  | .debugExpiry => (execDebugExpiry_kept ..).completes .next
  | .tokenEval .. => (execTokenEval_kept ..).completes .next
  | .lifecycleChange => (execLifecycleChange_kept ..).completes .next
  | .idcode => (execIdcode_kept ..).completes .next
  | .dbgToken .. => (execDbgToken_kept ..).completes .next
  | .dbgRead .. => (execDbgRead_kept ..).completes .next
  | .dbgTrace => (execDbgTrace_kept ..).completes .next
  | .dbgWrite .. => (execDbgWrite_kept ..).completes .next
  | .dbgHalt => (execDbgHalt_kept ..).completes .next
  | .dbgStep => (execDbgStep_kept ..).completes .next
  | .boundaryScan .. => (execBoundaryScan_kept ..).completes .next
  | .powerReqRun .. => (execPowerReqRun_kept ..).completes .next
  | .powerReqTrim .. => (execPowerReqTrim_kept ..).completes .next
  | .powerReqHold .. => (execPowerReqHold_kept ..).completes .next
  | .powerReqOff .. => (execPowerReqOff_kept ..).completes .next
  | .holdEntered => (execHoldEntered_kept ..).completes .next
  | .linkWakeRequest => (execLinkWakeRequest_kept ..).completes .next
  | .faultRaise .. => (execFaultRaise_kept ..).completes .next
  | .conditionEnd .. => (execConditionEnd_kept ..).completes .next
  | .settleWindowEnd .. => (execSettleWindowEnd_kept ..).completes .next
  | .faultQuietExpiry => (execFaultQuietExpiry_kept ..).completes .next
  | .errWidthExpiry => (execErrWidthExpiry_kept ..).completes .next
  | .errRelease .. => (execErrRelease_kept ..).completes .next
  | .bookPop .. => (execBookPop_kept ..).completes .next
  | .bookClear .. => (execBookClear_kept ..).completes .next
  | .faultInject .. => (execFaultInject_kept ..).completes .next
  | .blockHoldEnd .. => (execBlockHoldEnd_kept ..).completes .next
  | .sourceConfigWrite .. => (execSourceConfigWrite_kept ..).completes .next
  | .reqStageFirmware .. => (execReqStageFirmware_kept ..).completes .next
  | .reqInstallOwnerKey .. => (execReqInstallOwnerKey_kept ..).completes .next
  | .reqStageEbain .. => (execReqStageEbain_kept ..).completes .next
  | .reqLogExtract .. => (execReqLogExtract_kept ..).completes .next
  | .reqHealthReport .. => (execReqHealthReport_kept ..).completes .next
  | .reqActivateFirmware .. => (execReqActivateFirmware_kept ..).completes .next
  | .reqConfirmFirmware .. => (execReqConfirmFirmware_kept ..).completes .next
  | .reqReadOwnerData .. => (execReqReadOwnerData_kept ..).completes .next
  | .reqUnknown .. => (execReqUnknown_kept ..).completes .next
  | .fwTrialExpiry => (execFwTrialExpiry_kept ..).completes .next
  | .mgWdt => (execMgWdt_kept ..).completes .next
  | .mgmtRestart => (execMgmtRestart_kept ..).completes .next
  | .sensorSample .. => (execSensorSample_kept ..).completes .next
  | .ageingSample .. => (execAgeingSample_kept ..).completes .next
  | .smbusReadWord .. => (execSmbusReadWord_kept ..).completes .next
  | .smbusError => (execSmbusError_kept ..).completes .next
  | .logRecordWrite .. => (execLogRecordWrite_kept ..).completes .next
  | .substitutionTrigger .. => (execSubstitutionTrigger_kept ..).completes .next
  | .substitutionCopyStart => (execSubstitutionCopyStart_kept ..).completes .next
  | .guardedWindowClose => (execGuardedWindowClose_kept ..).completes .next
  | .substitutionSwitch .. => (execSubstitutionSwitch_kept ..).completes .next
  | .substitutionStall => (execSubstitutionStall_kept ..).completes .next
  | .spareSelftest .. => (execSpareSelftest_kept ..).completes .next
  | .portEnable .. => (execPortEnable_kept ..).completes .next
  | .portDisable .. => (execPortDisable_kept ..).completes .next
  | .restartAn .. => (execRestartAn_kept ..).completes .next
  | .pcsLock .. => (execPcsLock_kept ..).completes .next
  | .anComplete .. => (execAnComplete_kept ..).completes .next
  | .linkHoldExpiry .. => (execLinkHoldExpiry_kept ..).completes .next
  | .linkDown .. => (execLinkDown_kept ..).completes .next
  | .rxFrameEnd .. => (execRxFrameEnd_kept ..).completes .next
  | .mdioC22Write .. => (execMdioC22Write_kept ..).completes .next
  | .mdioC22Read .. => (execMdioC22Read_kept ..).completes .next
  | .mdioC45Address .. => (execMdioC45Address_kept ..).completes .next
  | .mdioC45Write .. => (execMdioC45Write_kept ..).completes .next
  | .mdioC45Read .. => (execMdioC45Read_kept ..).completes .next
  | .mdioC45ReadInc .. => (execMdioC45ReadInc_kept ..).completes .next
  | .mdioDone .. => (execMdioDone_kept ..).completes .next
  | .phyInterrupt .. => (execPhyInterrupt_kept ..).completes .next
  | .portErrorRateCheck .. => (execPortErrorRateCheck_kept ..).completes .next
  | .isoFrameArrive .. => (execIsoFrameArrive_kept ..).completes .next
  | .isoChannelLoss => (execIsoChannelLoss_kept ..).completes .next
  | .isoLossSafe => (execIsoLossSafe_kept ..).completes .next
  | .isoChannelReturn => (execIsoChannelReturn_kept ..).completes .next
  | .freset .. => (execFreset_kept ..).completes .next
  | .fieldResetDone => (execFieldResetDone_kept ..).completes .next
  | .fieldDieRelease .. => (execFieldDieRelease_kept ..).completes .next
  | .fieldProxyWrite .. => (execFieldProxyWrite_kept ..).completes .next
  | .fieldStatusRefresh .. => (execFieldStatusRefresh_kept ..).completes .next
  | .fieldLinkUp .. => (execFieldLinkUp_kept ..).completes .next
  | .fieldTrainTimeout .. => (execFieldTrainTimeout_kept ..).completes .next
  | .fieldLinkDown .. => (execFieldLinkDown_kept ..).completes .next
  | .fieldLinkRestart .. => (execFieldLinkRestart_kept ..).completes .next
  | .powerEvaluation .. => (execPowerEvaluation_kept ..).completes .next
  | .pdDetect .. => (execPdDetect_kept ..).completes .next
  | .pdClassify .. => (execPdClassify_kept ..).completes .next
  | .powerUpDone .. => (execPowerUpDone_kept ..).completes .next
  | .pdDisconnect .. => (execPdDisconnect_kept ..).completes .next
  | .overcurrentTrip .. => (execOvercurrentTrip_kept ..).completes .next
  | .faultRetry .. => (execFaultRetry_kept ..).completes .next
  | .retryCountReset .. => (execRetryCountReset_kept ..).completes .next
  | .shedRecover => (execShedRecover_kept ..).completes .next
  | .fvinUndervoltage .. => (execFvinUndervoltage_kept ..).completes .next
  | .fvinOvervoltage .. => (execFvinOvervoltage_kept ..).completes .next
  | .fvinRestore .. => (execFvinRestore_kept ..).completes .next
  | .powerOn .. => (execPowerOn_kept ..).completes .next
  | .internalResetRelease .. => (execInternalResetRelease_kept ..).completes .next
  | .sramWipeDone => (execSramWipeDone_kept ..).completes .next
  | .firmwareStart => (execFirmwareStart_kept ..).completes .next
  | .dramWipeDone .. => (execDramWipeDone_kept ..).completes .next
  | .moduleReady => (execModuleReady_kept ..).completes .next
  | .configRetry .. => (execConfigRetry_kept ..).completes .next
  | .resetNAssert => (execResetNAssert_kept ..).completes .next
  | .resetNRelease => (execResetNRelease_kept ..).completes .next
  | .chipResetRegister .. => (execChipResetRegister_kept ..).completes .next
  | .chipReset => (execChipReset_kept ..).completes .next
  | .vmainLoss => (execVmainLoss_kept ..).completes .next
  | .perstAssert => (execPerstAssert_kept ..).completes .next
  | .perstDeassert => (execPerstDeassert_kept ..).completes .next
  | .functionLevelReset .. => (execFunctionLevelReset_kept ..).completes .next
  | .flrDone .. => (execFlrDone_kept ..).completes .next
  | .blockReset .. => (execBlockReset_kept ..).completes .next
  | .blockResetEnd .. => (execBlockResetEnd_kept ..).completes .next
  | .supplyFault .. => (execSupplyFault_kept ..).completes .next
  | .refLoss => (execRefLoss_kept ..).completes .next
  | .pllUnlock .. => (execPllUnlock_kept ..).completes .next
  | .pcieRefclkLoss => (execPcieRefclkLoss_kept ..).completes .next
  | .pcieLinkDown => (execPcieLinkDown_kept ..).completes .next
  | .pcieError .. => (execPcieError_kept ..).completes .next
  | .cntClear .. => (execCntClear_kept ..).completes .next
  | .ptpMessageGeneration .. => (execPtpMessageGeneration_kept ..).completes .next
  | .fieldDieWatchdog => (execFieldDieWatchdog_kept ..).completes .next
  | .pcieLinkUp .. => (execPcieLinkUp_kept ..).completes .next
  | .linkEntersL12 => (execLinkEntersL12_kept ..).completes .next
  | .linkExitsL12 => (execLinkExitsL12_kept ..).completes .next
  | .configurationWrite .. => (execConfigurationWrite_kept ..).completes .next

theorem step_of_command {c : Instr} {rest : List Instr} {s : State} (h : s.pending = c :: rest) :
    step s = exec c { s with pending := rest } := by
  unfold step; rw [h]

theorem step_of_idle {s : State} (h : s.pending = []) : step s = .next s.tick := by
  unfold step; rw [h]

theorem Kept.canon {s t : State} (h : Kept s t) (hs : s.Canon) : t.Canon := h.regs hs

theorem tick_canon {s : State} (h : s.Canon) : s.tick.Canon := by
  obtain ⟨u, hu, e⟩ := s.tick_kept
  rw [e]
  exact hu.canon h

/-- Settles O1: `step` is `exec` of the front command, by its definition. -/
theorem stepTakesTheFrontCommand : Obligations.StepTakesTheFrontCommand :=
  fun _ _ _ h => step_of_command h

/-- Settles O2: `exec_completes`, with the queue and the clock of `Kept`. -/
theorem everyCommandCompletes : Obligations.EveryCommandCompletes := by
  intro c s
  obtain ⟨t, e, k⟩ := exec_completes s c
  exact ⟨t, e, k.pending, k.mono⟩

/-- Settles O3: a command keeps the form by `exec_completes`, a tick by `State.tick_kept`. -/
theorem everyStepKeepsTheForm : Obligations.EveryStepKeepsTheForm := by
  intro s t hs h
  cases hp : s.pending with
  | nil =>
    rw [step_of_idle hp] at h
    cases h
    exact tick_canon hs
  | cons c rest =>
    obtain ⟨u, e, k⟩ := exec_completes { s with pending := rest } c
    rw [step_of_command hp, e] at h
    cases h
    exact k.canon hs

end Sys2Proof.Machine


/-! PPS_OUT: what the staged values become when they are applied, and when they wait (R17, R65, R66;
`Obligations.PulseOutputAndItsCommit`). -/

namespace Sys2Proof.Machine

/-- The registers that applying the staged values of PPS_OUT writes. -/
def ppsFields : List Fld := [F.TB_PPSO_PERIOD, F.TB_PPSO_PHASE, F.TB_PPSO_WIDTH, F.TB_CTRL_COMMIT]

/-- The width that a staged width becomes beside a period (R66). -/
def ppsWidthFor (period width : Nat) : Nat := if period ≤ width then period - 8 else width

theorem ppsWidthFor_lt {period width : Nat} (hp : period < 2 ^ 32) (hw : width < 2 ^ 32) : ppsWidthFor period width < 2 ^ 32 := by
  unfold ppsWidthFor; split <;> omega

theorem max_1000_toNat_lt (w : Word) : max 1000 w.toNat < 2 ^ 32 := by have := w.isLt; omega

section
variable (s : State) (period phase width : Word)

theorem State.ppsApply_eq : s.ppsApply (period, phase, width) = { s with
    regs := (s.ppsApply (period, phase, width)).regs, tb := { s.tb with ppsCommit := none } } := rfl

theorem State.rd_ppsApply_commit : (s.ppsApply (period, phase, width)).rd F.TB_CTRL_COMMIT = 0 := by
  rw [State.ppsApply, State.rd_mk, State.rd_wr_same _ _ _ (by decide), Nat.zero_mod]

theorem State.rd_ppsApply_width : (s.ppsApply (period, phase, width)).rd F.TB_PPSO_WIDTH
    = ppsWidthFor (max 1000 period.toNat) width.toNat := by
  rw [State.ppsApply, State.rd_mk, State.rd_wr_ne _ _ _ _ (by decide), State.rd_wr_same _ _ _ (by decide)]
  exact Nat.mod_eq_of_lt (ppsWidthFor_lt (max_1000_toNat_lt period) width.isLt)

theorem State.rd_ppsApply_phase : (s.ppsApply (period, phase, width)).rd F.TB_PPSO_PHASE = phase.toNat := by
  rw [State.ppsApply, State.rd_mk, State.rd_wr_ne _ _ _ _ (by decide), State.rd_wr_ne _ _ _ _ (by decide),
    State.rd_wr_same _ _ _ (by decide)]
  exact Nat.mod_eq_of_lt phase.isLt

theorem State.rd_ppsApply_period : (s.ppsApply (period, phase, width)).rd F.TB_PPSO_PERIOD = max 1000 period.toNat := by
  rw [State.ppsApply, State.rd_mk, State.rd_wr_ne _ _ _ _ (by decide), State.rd_wr_ne _ _ _ _ (by decide),
    State.rd_wr_ne _ _ _ _ (by decide), State.rd_wr_same _ _ _ (by decide)]
  exact Nat.mod_eq_of_lt (max_1000_toNat_lt period)

theorem State.keepsRegs_ppsApply : s.keepsRegs (s.ppsApply (period, phase, width)) ppsFields := by
  intro f hf
  simp only [ppsFields, List.map_cons, List.map_nil, List.mem_cons, List.not_mem_nil, or_false, not_or] at hf
  obtain ⟨h1, h2, h3, h4⟩ := hf
  rw [State.ppsApply, State.rd_mk, State.rd_wr_ne _ _ _ _ h4, State.rd_wr_ne _ _ _ _ h3, State.rd_wr_ne _ _ _ _ h2,
    State.rd_wr_ne _ _ _ _ h1]

end

/-- A commit while none is pending: it waits while PPS_OUT is driven, and is applied at once while it is not (R17, R66). -/
theorem State.ppsSetCommit_driven {s : State} (hc : s.on F.TB_CTRL_COMMIT = false) (hd : s.ppsDriven = true) :
    s.ppsSetCommit = { s.wr F.TB_CTRL_COMMIT 1 with
      tb := { s.tb with ppsCommit := some (s.tb.ppsPeriod, s.tb.ppsPhase, s.tb.ppsWidth) } } := by
  simp [State.ppsSetCommit, hc, hd]

theorem State.ppsSetCommit_idle {s : State} (hc : s.on F.TB_CTRL_COMMIT = false) (hd : s.ppsDriven = false) :
    s.ppsSetCommit = s.ppsApply (s.tb.ppsPeriod, s.tb.ppsPhase, s.tb.ppsWidth) := by
  simp [State.ppsSetCommit, hc, hd]

theorem State.ppsBoundary_some {s : State} {v : Word × Word × Word} (h : s.tb.ppsCommit = some v) : s.ppsBoundary = s.ppsApply v := by
  rw [State.ppsBoundary, h]

theorem State.ppsBoundary_none {s : State} (h : s.tb.ppsCommit = none) : s.ppsBoundary = s := by
  rw [State.ppsBoundary, h]

/-- The rows COMMIT and PPS_COMMIT are one write of TB_CTRL.COMMIT. -/
theorem execCommit_accepts {m : Nat} {s : State} (h : s.accepts m 0x20000 permW) : exec (.commit m) s = .next s.ppsSetCommit :=
  congrArg Host.Outcome.next (State.busW_accepts h _)

theorem execPpsCommit_accepts {m : Nat} {s : State} (h : s.accepts m 0x20000 permW) : exec (.ppsCommit m) s = .next s.ppsSetCommit :=
  congrArg Host.Outcome.next (State.busW_accepts h _)

/-- DT matches the period and phase of PPS_OUT within 2 ns (R65). -/
def State.ppsDue (s : State) : Prop :=
  ((s.dt : Int) - s.rd F.TB_PPSO_PHASE) % s.rd F.TB_PPSO_PERIOD ≤ 2
    ∨ (s.rd F.TB_PPSO_PERIOD : Int) - 2 ≤ ((s.dt : Int) - s.rd F.TB_PPSO_PHASE) % s.rd F.TB_PPSO_PERIOD

theorem State.ppsAtEdge_iff (s : State) : s.ppsAtEdge = true ↔ s.ppsDriven = false ∨ (s.rd F.TB_PPSO_PERIOD ≠ 0 ∧ s.ppsDue) := by
  simp [State.ppsAtEdge, State.ppsDue]

theorem execStagedApply_atEdge {s : State} (h : s.ppsAtEdge = true) : exec .stagedApply s = .next s.ppsBoundary :=
  congrArg Host.Outcome.next (if_pos h)

/-- The state in which PPS_OUT asserts: a waiting commit is applied, the pulse has its end, and the pad its edge (R65, R66). -/
def State.ppsEdge (s : State) : State :=
  let s1 := s.ppsBoundary
  ({ s1 with tb := { s1.tb with ppsOutEnd := some (s.dt + s1.rd F.TB_PPSO_WIDTH) } } : State).ppsPin true

theorem execPpsOutEdge_due {s : State} (hd : s.ppsDriven = true) (hp : s.rd F.TB_PPSO_PERIOD ≠ 0) (hn : s.tb.ppsOutEnd = none)
    (h : s.ppsDue) : exec .ppsOutEdge s = .next s.ppsEdge :=
  congrArg Host.Outcome.next (if_pos ⟨hd, hp, h, hn⟩)

/-- An edge of PPS_OUT goes to the pad alone: no port loops it back, and without VIO nothing is driven (R65, R525). -/
theorem State.ppsPin_true (s : State) : s.ppsPin true = { s with
    wire := s.wire ++ if (Src.VIO_FAULT, 1) ∈ s.cl.conds then [] else [.pps (!s.on F.TB_PPSO_CFG_POL)] } := by
  by_cases h : (Src.VIO_FAULT, 1) ∈ s.cl.conds <;> simp [State.ppsPin, State.emit, State.loopPut, WireOut.logic, WireOut.mac, h]

theorem State.ppsBoundary_eq (s : State) : s.ppsBoundary = { s with
    regs := s.ppsBoundary.regs, tb := { s.tb with ppsCommit := none } } := by
  cases h : s.tb.ppsCommit with
  | none => rw [s.ppsBoundary_none h, ← h]
  | some v => rw [s.ppsBoundary_some h]; rfl

theorem State.on_ppsBoundary_pol (s : State) : s.ppsBoundary.on F.TB_PPSO_CFG_POL = s.on F.TB_PPSO_CFG_POL := by
  cases h : s.tb.ppsCommit with
  | none => rw [s.ppsBoundary_none h]
  | some v =>
    obtain ⟨period, phase, width⟩ := v
    rw [s.ppsBoundary_some h, State.on, s.keepsRegs_ppsApply period phase width _ (by decide), State.on]

theorem State.ppsEdge_eq (s : State) : s.ppsEdge = { s with
    regs := s.ppsBoundary.regs
    tb := { s.tb with ppsOutEnd := some (s.dt + s.ppsBoundary.rd F.TB_PPSO_WIDTH), ppsCommit := none }
    wire := s.wire ++ if (Src.VIO_FAULT, 1) ∈ s.cl.conds then [] else [.pps (!s.on F.TB_PPSO_CFG_POL)] } := by
  have hpol := s.on_ppsBoundary_pol
  rw [State.ppsEdge, State.ppsPin_true]
  simp only [State.on, State.rd_mk] at hpol ⊢
  rw [hpol, s.ppsBoundary_eq]

/-- Settles O13: a commit by `ppsSetCommit_driven` and `ppsSetCommit_idle`, its application by the laws of `ppsApply`, and the edge by
`ppsEdge_eq`. -/
theorem pulseOutputAndItsCommit : Obligations.PulseOutputAndItsCommit := by
  refine ⟨fun m s ha hc => ⟨fun hd => ?_, fun hd => ?_⟩, fun period phase width s hs h => ?_, fun s hd hp hn h => ?_⟩
  · rw [execCommit_accepts ha, execPpsCommit_accepts ha, s.ppsSetCommit_driven hc hd]
    exact ⟨rfl, rfl⟩
  · rw [execCommit_accepts ha, execPpsCommit_accepts ha, s.ppsSetCommit_idle hc hd]
    exact ⟨_, rfl, rfl, s.rd_ppsApply_period .., s.rd_ppsApply_phase .., s.rd_ppsApply_width .., s.rd_ppsApply_commit ..,
      s.ppsApply_eq .., s.keepsRegs_ppsApply _ _ _⟩
  · rw [execStagedApply_atEdge (s.ppsAtEdge_iff.mpr h), s.ppsBoundary_some hs]
    exact ⟨_, rfl, s.rd_ppsApply_period .., s.rd_ppsApply_phase .., s.rd_ppsApply_commit .., s.ppsApply_eq ..,
      s.keepsRegs_ppsApply _ _ _⟩
  · rw [execPpsOutEdge_due hd hp hn h, s.ppsEdge_eq]
    refine ⟨_, rfl, rfl, rfl, fun hs => ?_, fun hs => ⟨?_, rfl⟩, rfl⟩
    · show s.ppsBoundary.regs = s.regs
      rw [s.ppsBoundary_none hs]
    · obtain ⟨⟨period, phase, width⟩, hv⟩ := Option.ne_none_iff_exists'.mp hs
      rw [State.rd_mk, s.ppsBoundary_some hv, s.rd_ppsApply_commit]

end Sys2Proof.Machine

/-! Writes of registers (R11 to R18, R404, R470, R505; `Obligations.WritesOfRegisters`): from the command to the register, then
the register by its fields. -/

namespace Sys2Proof.Machine

/-! The way of a 32-bit write to its register. -/

/-- The blocks of PF0 BAR0 that are no VF's window end here (R499). -/
theorem State.reach_pf {s : State} {m off : Nat} (hm : isVf m = false) (ho : off < 0x160000) :
    s.reach m off = .reg off (some (off / 0x10000)) := by
  have h1 : off % 0x200000 = off := Nat.mod_eq_of_lt (by omega)
  have h2 : off / 0x10000 ≤ 0x15 := by omega
  simp [State.reach, hm, h1, h2]

/-- Neither a doorbell of a DMA channel nor CRP_PWR_REQ, which ask for other permissions (R339, R406). -/
abbrev plainOff (off : Nat) : Prop := off < 0x160000 ∧ off % 4 = 0 ∧ ¬ (0xF0100 ≤ off ∧ off < 0xF0500) ∧ off ≠ 0x10100

theorem State.writeWord_accepts {s : State} {m off v : Nat} (hm : isVf m = false) (ho : plainOff off) (ha : s.accepts m off permW) :
    s.writeWord m off v = s.regWrite m off v := by
  obtain ⟨hlt, -, hdb, hpw⟩ := ho
  obtain ⟨-, hmay, hheld⟩ := ha
  have hno : ¬ (0xF0100 ≤ off ∧ off < 0xF0500 ∧ (off - 0xF0100) % 0x40 = 0x38) := by omega
  simp [State.writeWord, State.reach_pf hm hlt, hno, hpw, hmay, hheld]

theorem State.accSize_word {s : State} {off : Nat} (h : off % 4 = 0) : s.accSize 4 off = none := by
  simp [State.accSize, h]

theorem State.busWrite_word {s : State} {m off v : Nat} (ht : s.takes m = true) (h : off % 4 = 0) :
    s.busWrite m off 4 v = s.writeWord m off (v % 2 ^ 32) := by
  simp [State.busWrite, ht, State.accSize_word h]

theorem State.busWrite_two_words {s : State} {m off v : Nat} (ht : s.takes m = true) (h : off % 8 = 0) :
    s.busWrite m off 8 v = (s.writeWord m off (v % 2 ^ 32)).writeWord m (off + 4) (v / 2 ^ 32 % 2 ^ 32) := by
  have hz : s.accSize 8 off = none := by simp [State.accSize, h]
  simp [State.busWrite, ht, hz]

theorem State.busWrite_accepts {s : State} {m off v : Nat} (hm : isVf m = false) (ho : plainOff off) (ha : s.accepts m off permW) :
    s.busWrite m off 4 v = s.regWrite m off (v % 2 ^ 32) := by
  rw [State.busWrite_word ha.1 ho.2.1, State.writeWord_accepts hm ho ha]

theorem execRegisterWrite_accepts {m off : Nat} {v : DWord} {s : State} (hm : isVf m = false) (ho : plainOff off)
    (ha : s.accepts m off permW) : exec (.registerWrite m off 4 v) s = .next (s.regWrite m off (v.toNat % 2 ^ 32)) :=
  congrArg Host.Outcome.next (State.busWrite_accepts hm ho ha)

/-! A register by its fields (R14, R16, R18). -/

/-- What is written to a field counts only in the field's width. -/
theorem State.wr_congr {s : State} {f : Fld} {v u : Nat} (h : v % 2 ^ f.w = u % 2 ^ f.w) : s.wr f v = s.wr f u := by
  unfold State.wr; rw [h]

theorem Fld.of_low_mod {f : Fld} (hlo : f.lo = 0) (hw : f.w ≤ 32) (v : Nat) : f.of (v % 2 ^ 32) = v % 2 ^ f.w := by
  simp only [Fld.of, bits, hlo, pow_zero, Nat.div_one]
  exact Nat.mod_mod_of_dvd v (Nat.pow_dvd_pow 2 hw)

/-- A field at the low end of its register takes the written word, cut to its width. -/
theorem State.wr_of_low {s : State} {f : Fld} (hlo : f.lo = 0) (hw : f.w ≤ 32) (v : Nat) : s.wr f (f.of (v % 2 ^ 32)) = s.wr f v :=
  State.wr_congr (by rw [f.of_low_mod hlo hw, Nat.mod_mod])

theorem word_ofNat_mod (x : Nat) : BitVec.ofNat 32 (x % 2 ^ 32) = BitVec.ofNat 32 x := by
  apply BitVec.eq_of_toNat_eq
  rw [BitVec.toNat_ofNat, BitVec.toNat_ofNat, Nat.mod_mod]

theorem State.wordWrite_single {s : State} {m g v : Nat} {skip : List Fld} (h : holdsLow m g = false) (h4 : holdsLow m (g - 4) = false) :
    s.wordWrite m g v skip = s.plainWrite m g v skip := by
  simp [State.wordWrite, h, h4]

section
variable {s : State} {m g v : Nat} {f : Fld} (hf : fieldsAt m g = [f]) (ha : f.acc = .rw)
include hf ha

theorem State.plainWrite_live (hc : f.cls = .live) : s.plainWrite m g v [] = s.wr f (f.of v) := by
  simp [State.plainWrite, hf, State.fldFrozen, State.fldWrite, ha, hc]

/-- A frozen field takes a write while its block is not enabled. -/
theorem State.plainWrite_thawed (hc : f.cls = .frozen) (he : s.frozenOn g = false) : s.plainWrite m g v [] = s.wr f (f.of v) := by
  simp [State.plainWrite, hf, State.fldWrite, ha, hc, he]

theorem State.plainWrite_frozen_same (hc : f.cls = .frozen) (he : s.frozenOn g = true) (hv : f.of v = s.rd f) :
    s.plainWrite m g v [] = s := by
  simp [State.plainWrite, hf, State.fldFrozen, State.fldWrite, ha, hc, he, hv]

theorem State.plainWrite_frozen_changes (hc : f.cls = .frozen) (he : s.frozenOn g = true) (hv : f.of v ≠ s.rd f) :
    s.plainWrite m g v [] = s.cfgWhileRunning m (g % 0x200000) := by
  simp [State.plainWrite, hf, State.fldFrozen, State.fldWrite, ha, hc, he, hv]

end

/-! The registers that the statement names. -/

theorem State.regWrite_logCfg (s : State) (m v : Nat) : s.regWrite m 0x1400C0 (v % 2 ^ 32) = s.wr F.MG_LOG_CFG v := calc
  s.regWrite m 0x1400C0 (v % 2 ^ 32) = s.wordWrite m 0x1400C0 (v % 2 ^ 32) [] := rfl
  _ = s.plainWrite m 0x1400C0 (v % 2 ^ 32) [] := State.wordWrite_single rfl rfl
  _ = s.wr F.MG_LOG_CFG (F.MG_LOG_CFG.of (v % 2 ^ 32)) := State.plainWrite_live rfl rfl rfl
  _ = s.wr F.MG_LOG_CFG v := State.wr_of_low rfl (by decide) v

theorem State.regWrite_ilim (s : State) (m v : Nat) (n : Fin 8) :
    s.regWrite m (0x5041C + 0x80 * n.val) (v % 2 ^ 32) = s.wr (F.FP_ILIM n.val) v := calc
  s.regWrite m (0x5041C + 0x80 * n.val) (v % 2 ^ 32) = s.wordWrite m (0x5041C + 0x80 * n.val) (v % 2 ^ 32) [] := by
    fin_cases n <;> rfl
  _ = s.plainWrite m (0x5041C + 0x80 * n.val) (v % 2 ^ 32) [] := by
    fin_cases n <;> exact State.wordWrite_single rfl rfl
  _ = s.wr (F.FP_ILIM n.val) ((F.FP_ILIM n.val).of (v % 2 ^ 32)) := by
    fin_cases n <;> exact State.plainWrite_live rfl rfl rfl
  _ = s.wr (F.FP_ILIM n.val) v := State.wr_of_low rfl (show 9 ≤ 32 by decide) v

theorem State.regWrite_pairId (s : State) (m v : Nat) : s.regWrite m 0x120010 v = s.plainWrite m 0x120010 v [] := calc
  s.regWrite m 0x120010 v = s.wordWrite m 0x120010 v [] := rfl
  _ = s.plainWrite m 0x120010 v [] := State.wordWrite_single rfl rfl

theorem State.regWrite_denyInfo {s : State} {m v : Nat} (h : bits v 31 1 = 1) :
    s.regWrite m 0x130008 v = s.wr F.AC_DENY_INFO_VALID 0 := calc
  s.regWrite m 0x130008 v = s.wordWrite m 0x130008 v [] := rfl
  _ = s.plainWrite m 0x130008 v [] := State.wordWrite_single rfl rfl
  _ = s.wr F.AC_DENY_INFO_VALID (s.rd F.AC_DENY_INFO_VALID &&& (2 ^ 1 - 1 - bits v 31 1)) := rfl
  _ = s.wr F.AC_DENY_INFO_VALID 0 := by rw [h]; exact congrArg _ (Nat.and_zero _)

theorem bits_mod_word {v i : Nat} (h : i < 32) : bits (v % 2 ^ 32) i 1 = bits v i 1 := by
  unfold bits
  rw [show 2 ^ 32 = 2 ^ i * 2 ^ (32 - i) by rw [← pow_add]; congr 1; omega, Nat.mod_mul_right_div_self]
  exact Nat.mod_mod_of_dvd _ (Nat.pow_dvd_pow 2 (by omega))

/-- The low word of TB_STEP waits for its high word (R12). -/
theorem State.regWrite_stepLo (s : State) (m v : Nat) : s.regWrite m 0x20028 v = s.holdLow m 0x20028 v := rfl

/-- The high word of TB_STEP brings the low word that waits (R12). -/
theorem State.regWrite_stepHi {s : State} {m v : Nat} {lo : Word} (h : Sparse.get none s.loHeld (m * 2 ^ 24 + 0x20028) = some lo) :
    s.regWrite m 0x2002C (v % 2 ^ 32) = ((s.dropLow m 0x20028).wr F.TB_STEP_LO lo.toNat).wr F.TB_STEP_HI v := calc
  s.regWrite m 0x2002C (v % 2 ^ 32) = ((s.dropLow m 0x20028).plainWrite m 0x20028 lo.toNat []).plainWrite m 0x2002C (v % 2 ^ 32) [] := by
    show s.wordWrite m 0x2002C (v % 2 ^ 32) [] = _
    have hno : ¬ holdsLow m 0x2002C = true := Bool.false_ne_true
    have hlow : 4 ≤ 0x2002C ∧ holdsLow m (0x2002C - 4) = true := ⟨by decide, rfl⟩
    rw [State.wordWrite, if_neg hno, if_pos hlow, h]
  _ = ((s.dropLow m 0x20028).wr F.TB_STEP_LO (F.TB_STEP_LO.of lo.toNat)).plainWrite m 0x2002C (v % 2 ^ 32) [] := by
    rw [State.plainWrite_live (g := 0x20028) (f := F.TB_STEP_LO) rfl rfl rfl]
  _ = ((s.dropLow m 0x20028).wr F.TB_STEP_LO (F.TB_STEP_LO.of lo.toNat)).wr F.TB_STEP_HI v := by
    rw [State.plainWrite_live (g := 0x2002C) (f := F.TB_STEP_HI) rfl rfl rfl, State.wr_of_low rfl (by decide)]
  _ = ((s.dropLow m 0x20028).wr F.TB_STEP_LO lo.toNat).wr F.TB_STEP_HI v := by
    rw [← State.wr_of_low (f := F.TB_STEP_LO) rfl (by decide) lo.toNat, Nat.mod_eq_of_lt lo.isLt]

/-! The records of GC_ACC_ERR and GC_CFG_ERR (R505). -/

section
variable {s : State} {wr : Bool} {size m off : Nat}

theorem State.errRecord_free {x : ErrRec} (h : s.on (errValid x.acc) = false) : s.errRecord x = s.errPut x := by
  simp [State.errRecord, h]

theorem State.errRecord_waits {x : ErrRec} (h : s.on (errValid x.acc) = true)
    (hn : s.crp.errNow.find? (fun y => y.acc == x.acc) = none) :
    s.errRecord x = { s with crp := { s.crp with errWait := s.crp.errWait ++ [x] } } := by
  simp [State.errRecord, h, hn]

theorem State.errRecord_rival {x y : ErrRec} (h : s.on (errValid x.acc) = true)
    (hy : s.crp.errNow.find? (fun y => y.acc == x.acc) = some y) :
    s.errRecord x = if x.m < y.m then s.errPut x else s := by
  simp [State.errRecord, h, hy]

theorem State.cfgWhileRunning_free (h : s.on F.GC_CFG_ERR_VALID = false) : s.cfgWhileRunning m off
    = (s.raise Src.CFG_WHILE_RUNNING 0xFF (some m) (accWord true 0 m off)).errPut ⟨false, true, 0, m, off⟩ :=
  State.errRecord_free h

theorem State.cfgWhileRunning_waits (h : s.on F.GC_CFG_ERR_VALID = true) (hn : s.crp.errNow.find? (fun y => !y.acc) = none) :
    s.cfgWhileRunning m off = { s.raise Src.CFG_WHILE_RUNNING 0xFF (some m) (accWord true 0 m off) with
      crp := { s.crp with errWait := s.crp.errWait ++ [⟨false, true, 0, m, off⟩] } } :=
  State.errRecord_waits h (by simpa using hn)

theorem State.badAccess_free (h : s.on F.GC_ACC_ERR_VALID = false) : s.badAccess wr size m off
    = (s.raise Src.BAD_ACCESS 0xFF (some m) (accWord wr size m off)).errPut ⟨true, wr, size, m, off⟩ :=
  State.errRecord_free h

theorem State.badAccess_waits (h : s.on F.GC_ACC_ERR_VALID = true) (hn : s.crp.errNow.find? (fun y => y.acc) = none) :
    s.badAccess wr size m off = { s.raise Src.BAD_ACCESS 0xFF (some m) (accWord wr size m off) with
      crp := { s.crp with errWait := s.crp.errWait ++ [⟨true, wr, size, m, off⟩] } } :=
  State.errRecord_waits h (by simpa using hn)

theorem State.badAccess_rival {y : ErrRec} (h : s.on F.GC_ACC_ERR_VALID = true)
    (hy : s.crp.errNow.find? (fun y => y.acc) = some y) : s.badAccess wr size m off = if m < y.m then
      (s.raise Src.BAD_ACCESS 0xFF (some m) (accWord wr size m off)).errPut ⟨true, wr, size, m, off⟩
      else s.raise Src.BAD_ACCESS 0xFF (some m) (accWord wr size m off) :=
  State.errRecord_rival h (by simpa using hy)

/-- The register fields of a record of GC_ACC_ERR. -/
theorem State.errPut_acc (x : ErrRec) (h : x.acc = true) : s.errPut x = (((({ s with
    crp := { s.crp with errNow := x :: s.crp.errNow.filter (fun y => !y.acc) } }.wr F.GC_ACC_ERR_VALID 1).wr F.GC_ACC_ERR_WR x.wr.toNat).wr
      F.GC_ACC_ERR_SIZE x.size).wr F.GC_ACC_ERR_MASTER x.m).wr F.GC_ACC_ERR_OFFSET x.off := by
  simp [State.errPut, h]

/-- The register fields of a record of GC_CFG_ERR. -/
theorem State.errPut_cfg (x : ErrRec) (h : x.acc = false) : s.errPut x = (((({ s with
    crp := { s.crp with errNow := x :: s.crp.errNow.filter (fun y => y.acc) } }.wr F.GC_CFG_ERR_VALID 1).wr F.GC_CFG_ERR_WR x.wr.toNat).wr
      F.GC_CFG_ERR_SIZE x.size).wr F.GC_CFG_ERR_MASTER x.m).wr F.GC_CFG_ERR_OFFSET x.off := by
  simp [State.errPut, h]

end

/-- The access of a width that no register takes is discarded and recorded (R11). -/
theorem execRegisterWrite_badWidth {m off bytes : Nat} {v : DWord} {s : State} (hm : isVf m = false) (ht : s.takes m = true)
    (hb : bytes = 1 ∨ bytes = 2 ∨ bytes = 3 ∨ (bytes = 4 ∧ off % 4 ≠ 0)) :
    exec (.registerWrite m off bytes v) s
      = .next { s.badAccess true (bytes - 1) m (off % 0x200000) with freeIdx := s.freeIdx + 1 } := by
  have hz : s.accSize bytes off = some (bytes - 1) := by
    obtain rfl | rfl | rfl | ⟨rfl, h4⟩ := hb
    · rfl
    · rfl
    · rfl
    · simp [State.accSize, h4]
  have hr : (s.reach m off).off off = off % 0x200000 := by simp [State.reach, hm, Reach.off]
  show Host.Outcome.next (s.busWrite m off bytes v.toNat) = _
  simp [State.busWrite, ht, hz, hr]

section
variable {m : Nat} {v : DWord} {s : State} (hm : isVf m = false) (ha : s.accepts m 0x120010 permW)
include hm ha

theorem execRegisterWrite_pairId :
    exec (.registerWrite m 0x120010 4 v) s = .next (s.plainWrite m 0x120010 (v.toNat % 2 ^ 32) []) := by
  rw [execRegisterWrite_accepts hm (by decide) ha, State.regWrite_pairId]

theorem execRegisterWrite_pairId_thawed (he : s.on F.TW_CTRL_EN = false) :
    exec (.registerWrite m 0x120010 4 v) s = .next (s.wr F.TW_PAIR_ID v.toNat) := by
  rw [execRegisterWrite_pairId hm ha, State.plainWrite_thawed (g := 0x120010) (f := F.TW_PAIR_ID) rfl rfl rfl he,
    State.wr_of_low rfl (by decide)]

theorem execRegisterWrite_pairId_same (he : s.on F.TW_CTRL_EN = true) (hv : v.toNat % 2 ^ 32 = s.rd F.TW_PAIR_ID) :
    exec (.registerWrite m 0x120010 4 v) s = .next s := by
  rw [execRegisterWrite_pairId hm ha, State.plainWrite_frozen_same (g := 0x120010) (f := F.TW_PAIR_ID) rfl rfl rfl he]
  rw [Fld.of_low_mod rfl (by decide)]
  exact hv

theorem execRegisterWrite_pairId_changes (he : s.on F.TW_CTRL_EN = true) (hv : v.toNat % 2 ^ 32 ≠ s.rd F.TW_PAIR_ID) :
    exec (.registerWrite m 0x120010 4 v) s = .next (s.cfgWhileRunning m 0x120010) := by
  rw [execRegisterWrite_pairId hm ha, State.plainWrite_frozen_changes (g := 0x120010) (f := F.TW_PAIR_ID) rfl rfl rfl he]
  rw [Fld.of_low_mod rfl (by decide)]
  exact hv

end

/-- A write of 8 bytes is the two writes of 4, one after the other (R12). -/
theorem execRegisterWrite_two_words {m off : Nat} {v : DWord} {s t : State} (ht : s.takes m = true) (h8 : off % 8 = 0)
    (h : exec (.registerWrite m off 4 v) s = .next t) (htt : t.takes m = true) :
    exec (.registerWrite m off 8 v) s = exec (.registerWrite m (off + 4) 4 (v >>> 32)) t := by
  have hlow : s.writeWord m off (v.toNat % 2 ^ 32) = t := by
    have hw : exec (.registerWrite m off 4 v) s = .next (s.busWrite m off 4 v.toNat) := rfl
    rw [hw, State.busWrite_word ht (by omega)] at h
    exact Host.Outcome.next.inj h
  have hshift : (v >>> 32).toNat = v.toNat / 2 ^ 32 := by rw [BitVec.toNat_ushiftRight, Nat.shiftRight_eq_div_pow]
  show Host.Outcome.next (s.busWrite m off 8 v.toNat) = .next (t.busWrite m (off + 4) 4 (v >>> 32).toNat)
  rw [State.busWrite_two_words ht h8, State.busWrite_word htt (by omega), hlow, hshift]

theorem execLowWordWrite_step {m : Nat} {lo : Word} {s : State} (hm : isVf m = false) (ha : s.accepts m 0x20028 permW) :
    exec (.lowWordWrite m 0x20028 lo) s
      = .next { s with loHeld := Sparse.put none s.loHeld (m * 2 ^ 24 + 0x20028) (some lo) } := by
  show Host.Outcome.next (s.busWrite m 0x20028 4 lo.toNat) = _
  rw [State.busWrite_accepts hm (by decide) ha, State.regWrite_stepLo, Nat.mod_eq_of_lt lo.isLt, State.holdLow, BitVec.ofNat_toNat,
    BitVec.setWidth_eq]

theorem execRegisterWrite_step {m : Nat} {lo hi : Word} {s : State} (hm : isVf m = false) (ha : s.accepts m 0x2002C permW)
    (hl : Sparse.get none s.loHeld (m * 2 ^ 24 + 0x20028) = some lo) :
    exec (.registerWrite m 0x2002C 4 (hi.setWidth 64)) s = .next { (s.wr F.TB_STEP_LO lo.toNat).wr F.TB_STEP_HI hi.toNat with
      loHeld := Sparse.put none s.loHeld (m * 2 ^ 24 + 0x20028) none } := by
  have hw : (hi.setWidth 64).toNat = hi.toNat := by
    rw [BitVec.toNat_setWidth]; exact Nat.mod_eq_of_lt (lt_trans hi.isLt (by decide))
  rw [execRegisterWrite_accepts hm (by decide) ha, hw, State.regWrite_stepHi hl]
  rfl

theorem execFieldProxyWrite_ilim {m : Nat} {n : Fin 8} {v : Word} {s : State} (hm : isVf m = false)
    (ha : s.accepts m (0x5041C + 0x80 * n.val) permW) :
    exec (.fieldProxyWrite m (0x41C + 0x80 * n.val) v) s = .next (s.wr (F.FP_ILIM n.val) v.toNat) := by
  have ho : 0x50000 + (0x41C + 0x80 * n.val) % 0x10000 = 0x5041C + 0x80 * n.val := by omega
  show Host.Outcome.next (s.busWrite m (0x50000 + (0x41C + 0x80 * n.val) % 0x10000) 4 v.toNat) = _
  rw [ho, State.busWrite_accepts hm ⟨by omega, by omega, by omega, by omega⟩ ha, State.regWrite_ilim]

/-- The debug port writes at level OPEN only (R404). -/
theorem execDbgWrite_open {v : Word} {s : State} (hoff : s.crp.off = false) (hd : s.rd F.AC_STATUS_DBG = 2)
    (ha : s.accepts 1 0x1400C0 permW) : exec (.dbgWrite 0x1400C0 v) s = .next (s.wr F.MG_LOG_CFG v.toNat) := by
  have hno : ¬ (s.crp.off = true ∨ s.dbg < dbgOpen) := by simp [hoff, State.dbg, hd, dbgOpen]
  show Host.Outcome.next (if s.crp.off = true ∨ s.dbg < dbgOpen then s else s.busWrite 1 0x1400C0 4 v.toNat) = _
  rw [if_neg hno, State.busWrite_accepts rfl (by decide) ha, State.regWrite_logCfg]

theorem execDbgWrite_closed {v : Word} {off : Nat} {s : State} (hd : s.rd F.AC_STATUS_DBG < 2) : exec (.dbgWrite off v) s = .next s :=
  congrArg Host.Outcome.next (if_pos (.inr hd))

/-- Settles O26: each register by its lemma above, the two error records by `errRecord_free`, `errRecord_waits` and `errRecord_rival`. -/
theorem writesOfRegisters : Obligations.WritesOfRegisters := by
  refine ⟨fun m v s hm => ⟨fun ha => ?_, fun ha => ?_, fun ha he => ?_, fun ha he hv => ?_, fun ha he hv =>
      ⟨fun hf => ?_, fun ho hn => ?_⟩, fun ha hb => ?_⟩,
    fun m off bytes v s hm ht hb => ⟨fun hf => ?_, fun ho hn => ?_, fun y ho hy => ?_⟩, fun m off v s t ht h8 h htt => ?_,
    fun m lo hi s hm => ⟨fun ha => ?_, fun ha hl => ?_⟩, fun m n v s hm ha => ?_, fun v off s hoff =>
      ⟨fun hd ha => ?_, fun hd => ?_⟩⟩
  · rw [execRegisterWrite_accepts hm (by decide) ha, State.regWrite_logCfg]
  · rw [execRegisterWrite_accepts hm (by decide) ha]
    show Host.Outcome.next { s with tb := { s.tb with ppsPeriod := BitVec.ofNat 32 (v.toNat % 2 ^ 32) } } = _
    rw [word_ofNat_mod]
  · exact execRegisterWrite_pairId_thawed hm ha he
  · exact execRegisterWrite_pairId_same hm ha he hv
  · rw [execRegisterWrite_pairId_changes hm ha he hv, State.cfgWhileRunning_free hf, State.errPut_cfg _ rfl]
    rfl
  · rw [execRegisterWrite_pairId_changes hm ha he hv, State.cfgWhileRunning_waits ho hn]
  · rw [execRegisterWrite_accepts hm (by decide) ha, State.regWrite_denyInfo (by rwa [bits_mod_word (by decide)])]
  · rw [execRegisterWrite_badWidth hm ht hb, State.badAccess_free hf, State.errPut_acc _ rfl]
    rfl
  · rw [execRegisterWrite_badWidth hm ht hb, State.badAccess_waits ho hn]
  · rw [execRegisterWrite_badWidth hm ht hb, State.badAccess_rival ho hy, State.errPut_acc _ rfl]
    split <;> rfl
  · exact execRegisterWrite_two_words ht h8 h htt
  · exact execLowWordWrite_step hm ha
  · exact execRegisterWrite_step hm ha hl
  · exact execFieldProxyWrite_ilim hm ha
  · exact execDbgWrite_open hoff hd ha
  · exact execDbgWrite_closed hd

end Sys2Proof.Machine

/-! Reads of registers (R11 to R14, R38, R104, R392, R404, R506; `Obligations.ReadsOfRegisters`): from the command to the register, then what
a read of each kind of register returns and does. -/

namespace Sys2Proof.Machine

/-! The way of a 32-bit read to its register. -/

theorem word_ofNat_toNat (w : Word) : BitVec.ofNat 32 w.toNat = w := by rw [BitVec.ofNat_toNat, BitVec.setWidth_eq]

/-- A 32-bit read returns the one word that its register gives. -/
theorem State.busRead_word {s u : State} {m off : Nat} {w : Word} (hd : s.decodes m = true) (h4 : off % 4 = 0)
    (h : ({ s with readData := [] } : State).readWord m off = u) (hu : u.readData = [w]) : s.busRead m off 4 = u := by
  have hoff : accWords 4 off = [off] := by simp [accWords, Nat.div_mul_cancel (Nat.dvd_of_mod_eq_zero h4)]
  have hw : BitVec.ofNat 32 (w.toNat / 2 ^ (8 * (off % 4)) % 2 ^ (8 * 4)) = w := by
    rw [h4, Nat.mul_zero, pow_zero, Nat.div_one, Nat.mod_eq_of_lt w.isLt, word_ofNat_toNat]
  simp only [State.busRead, hd, hoff, List.foldl_cons, List.foldl_nil, h, hu, List.nil_append, hw, Bool.not_true, if_neg Bool.false_ne_true]
  rw [← hu]

/-- Neither a lock word of a mailbox channel nor another of its registers (R379, R384). -/
abbrev readOff (off : Nat) : Prop := off < 0x160000 ∧ off % 4 = 0 ∧ ¬ (0x100100 ≤ off ∧ off < 0x100900)

section
variable {s : State} {m off : Nat} (hm : isVf m = false) (ho : readOff off)
include hm ho

theorem State.readWord_gives (h : s.may (off / 0x10000) m permR = true) : s.readWord m off = s.regRead m off := by
  simp [State.readWord, State.reach_pf hm ho.1, h]

theorem State.readWord_denied (h : s.may (off / 0x10000) m permR = false) :
    s.readWord m off = { s.deny 0 m (off / 0x10000) (off % 0x10000) with readData := [0] } := by
  obtain ⟨hlt, -, hmb⟩ := ho
  have hno : ¬ (off / 0x10000 = 0x10 ∧ 0x100100 ≤ off ∧ off < 0x100900 ∧ off % 0x20 = 0x14) := by omega
  simp [State.readWord, State.reach_pf hm hlt, h, hno]

theorem State.busRead_gives {u : State} {w : Word} (h : s.gives m off)
    (hr : ({ s with readData := [] } : State).regRead m off = u) (hu : u.readData = [w]) : s.busRead m off 4 = u := by
  have hmay : ({ s with readData := [] } : State).may (off / 0x10000) m permR = true := h.2
  exact State.busRead_word h.1 ho.2.1 ((State.readWord_gives hm ho hmay).trans hr) hu

/-- A denied read returns 0 (R392). -/
theorem State.busRead_denied (hd : s.decodes m = true) (h : s.may (off / 0x10000) m permR = false) :
    s.busRead m off 4 = { s.deny 0 m (off / 0x10000) (off % 0x10000) with readData := [0] } :=
  State.busRead_word hd ho.2.1 (State.readWord_denied hm ho h) rfl

end

/-! What a register reads. -/

theorem State.rd_lt (s : State) (f : Fld) : s.rd f < 2 ^ 32 := BitVec.isLt _

/-- A register of one field at its low end reads as the field. -/
theorem State.regVal_single {s : State} {m g : Nat} {f : Fld} (hw : winOf g = none) (hf : fieldsAt m g = [f]) (hlo : f.lo = 0)
    (ha : f.acc ≠ .wo) (hv : s.viewVal m g = 0) : s.regVal m g = s.rd f := by
  simp only [State.regVal, hw, State.fieldVal, hf, hv, List.map_cons, List.map_nil, List.sum_cons, List.sum_nil, ha, if_false, hlo,
    pow_zero, Nat.mul_one, Nat.add_zero]
  exact Nat.mod_eq_of_lt (s.rd_lt f)

/-- Not a counter of a backbone port that its error rates follow (R478). -/
abbrev rateFree (g : Nat) : Prop := g / 0x10000 ≠ 3 ∧ g / 0x10000 ≠ 4

theorem State.rcClear_eq {s : State} {m g : Nat} (h : rateFree g) : s.rcClear m g = (rcFields m g).foldl (fun s f => s.wr f 0) s := by
  simp [State.rcClear, h.1, h.2]

theorem notLock_of_readOff {g : Nat} (h : readOff g) : ¬ (0x100100 ≤ g ∧ g < 0x100900 ∧ g % 0x20 = 0x14) := by
  obtain ⟨-, -, hmb⟩ := h
  omega

theorem State.mbAlien_of_readOff {s : State} {m g : Nat} (h : readOff g) : s.mbAlien m g = false := by
  obtain ⟨-, -, hmb⟩ := h
  simp only [State.mbAlien, Bool.and_eq_false_iff, decide_eq_false_iff_not]
  omega

section
variable {s : State} {m g : Nat} (hw : winOf g = none) (h0 : g ≠ 0x20148) (h1 : g ≠ 0x20168) (ho : readOff g)
include hw h0 h1 ho

/-- A word latched for the master is returned once (R12). -/
theorem State.regRead_latched {w : Word} (h : s.latchedAt m g = some w) : s.regRead m g = { s.unlatch m g with readData := [w] } := by
  simp [State.regRead, hw, h0, h1, notLock_of_readOff ho, State.mbAlien_of_readOff ho, h]

/-- A read of a register of one word returns it and clears its counters (R14). -/
theorem State.regRead_single (h : s.latchedAt m g = none) (hp : pairWords g = 0) :
    s.regRead m g = { s.rcClear m g with readData := [BitVec.ofNat 32 (s.regVal m g)], freeIdx := s.freeIdx + 1 } := by
  simp [State.regRead, hw, h0, h1, notLock_of_readOff ho, State.mbAlien_of_readOff ho, h, hp]

/-- A read of the low word of a pair latches the high word for the master (R12). -/
theorem State.regRead_pair (h : s.latchedAt m g = none) (hp : pairWords g = 2) :
    s.regRead m g = { ((s.latch m (g + 4) (BitVec.ofNat 32 (s.regVal m (g + 4)))).rcClear m g).rcClear m (g + 4) with
      readData := [BitVec.ofNat 32 (s.regVal m g)], freeIdx := s.freeIdx + 1 } := by
  simp [State.regRead, hw, h0, h1, notLock_of_readOff ho, State.mbAlien_of_readOff ho, h, hp]

end

/-! The registers that the statement names. -/

theorem State.regVal_holdLo (s : State) (m : Nat) : s.regVal m 0x20090 = s.rd F.TB_HOLD_NS_LO :=
  State.regVal_single rfl rfl rfl (by decide) rfl

theorem State.regVal_holdHi (s : State) (m : Nat) : s.regVal m 0x20094 = s.rd F.TB_HOLD_NS_HI :=
  State.regVal_single rfl rfl rfl (by decide) rfl

theorem State.regVal_posts (s : State) (m : Nat) : s.regVal m 0x100080 = s.rd F.MB_POSTS :=
  State.regVal_single rfl rfl rfl (by decide) rfl

theorem State.regVal_logCfg (s : State) (m : Nat) : s.regVal m 0x1400C0 = s.rd F.MG_LOG_CFG :=
  State.regVal_single rfl rfl rfl (by decide) rfl

theorem State.regRead_holdLo {s : State} {m : Nat} (h : s.latchedAt m 0x20090 = none) : s.regRead m 0x20090 = { s with
    readData := [BitVec.ofNat 32 (s.rd F.TB_HOLD_NS_LO)]
    latched := Sparse.put none s.latched (m * 2 ^ 24 + 0x20094) (some (BitVec.ofNat 32 (s.rd F.TB_HOLD_NS_HI)))
    freeIdx := s.freeIdx + 1 } := by
  rw [State.regRead_pair rfl (by decide) (by decide) (by decide) h rfl, State.regVal_holdLo, State.regVal_holdHi,
    State.rcClear_eq (by decide), State.rcClear_eq (by decide)]
  rfl

theorem State.regRead_posts {s : State} {m : Nat} (h : s.latchedAt m 0x100080 = none) : s.regRead m 0x100080 = { s.wr F.MB_POSTS 0 with
    readData := [BitVec.ofNat 32 (s.rd F.MB_POSTS)], freeIdx := s.freeIdx + 1 } := by
  rw [State.regRead_single rfl (by decide) (by decide) (by decide) h rfl, State.regVal_posts, State.rcClear_eq (by decide)]
  rfl

theorem State.regRead_logCfg {s : State} {m : Nat} (h : s.latchedAt m 0x1400C0 = none) : s.regRead m 0x1400C0 = { s with
    readData := [BitVec.ofNat 32 (s.rd F.MG_LOG_CFG)], freeIdx := s.freeIdx + 1 } := by
  rw [State.regRead_single rfl (by decide) (by decide) (by decide) h rfl, State.regVal_logCfg, State.rcClear_eq (by decide)]
  rfl

/-! KILN's pool window (R104). -/

/-- Space 2 of KILN's window is the pool. -/
theorem State.knWord_pool {s : State} (h : s.rd F.KN_MSEL = 2) : s.knWord = (Sparse.get 0 s.kn.pool (s.rd F.KN_MADDR)).toNat := by
  simp [State.knWord, h]

theorem dword_low (x : DWord) : BitVec.ofNat 32 x.toNat = x.setWidth 32 := (BitVec.ofNat_toNat 32 x)

theorem dword_high (x : DWord) : BitVec.ofNat 32 (x.toNat / 2 ^ 32) = (x >>> 32).setWidth 32 := by
  rw [← dword_low, BitVec.toNat_ushiftRight, Nat.shiftRight_eq_div_pow]

theorem State.regRead_poolLow {s : State} {m : Nat} (h : s.rd F.KN_MSEL = 2) : s.regRead m 0x60018 = { s with
    readData := [(Sparse.get 0 s.kn.pool (s.rd F.KN_MADDR)).setWidth 32]
    latched := Sparse.put none s.latched (m * 2 ^ 24 + 0x6001C) (some ((Sparse.get 0 s.kn.pool (s.rd F.KN_MADDR) >>> 32).setWidth 32))
    freeIdx := s.freeIdx + 8 } := calc
  s.regRead m 0x60018 = { s.latch m 0x6001C (BitVec.ofNat 32 (s.knWord / 2 ^ 32)) with
      readData := [BitVec.ofNat 32 s.knWord], freeIdx := s.freeIdx + 8 } := rfl
  _ = _ := by rw [State.knWord_pool h, dword_low, dword_high]; rfl

theorem State.regRead_poolHigh {s : State} {m : Nat} {w : Word} (h : s.latchedAt m 0x6001C = some w) : s.regRead m 0x6001C = {
    s.wr F.KN_MADDR (s.rd F.KN_MADDR + 1) with
    readData := [w], latched := Sparse.put none s.latched (m * 2 ^ 24 + 0x6001C) none, freeIdx := s.freeIdx + 8 } := calc
  s.regRead m 0x6001C = { (s.unlatch m 0x6001C).advance F.KN_MADDR with
      readData := [match s.latchedAt m 0x6001C with | some w => w | none => BitVec.ofNat 32 (s.knWord / 2 ^ 32)],
      freeIdx := s.freeIdx + 8 } := rfl
  _ = _ := by rw [h]; rfl

/-! CNT_CLEAR (R506). -/

/-- Dropping keys: a key that stays keeps its value, another reads as the default. -/
theorem Sparse.get_filter_key {α : Type} (d : α) (p : Nat → Bool) (l : List (Nat × α)) (a : Nat) :
    Sparse.get d (l.filter (fun x => p x.1)) a = if p a then Sparse.get d l a else d := by
  induction l with
  | nil => simp
  | cons x t ih =>
    obtain ⟨k, v⟩ := x
    by_cases hk : k = a
    · subst hk; by_cases hp : p k <;> simp [Sparse.get, hp, ih]
    · by_cases hp : p k <;> simp [Sparse.get, hp, hk, ih]

theorem State.rd_cntClear (s : State) (f : Fld) : s.cntClear.rd f = if clearedKey f.key then f.rst % 2 ^ 32 else s.rd f := by
  have hget : Sparse.get 0 s.cntClear.regs f.key = if clearedKey f.key then 0 else Sparse.get 0 s.regs f.key := by
    rw [show s.cntClear.regs = s.regs.filter (fun x => !clearedKey x.1) from rfl,
      Sparse.get_filter_key 0 (fun k => !clearedKey k)]
    cases clearedKey f.key <;> rfl
  rw [State.rd, hget]
  split
  · exact (congrArg BitVec.toNat BitVec.zero_xor).trans (BitVec.toNat_ofNat ..)
  · rfl

/-- CL_SRC_CNT_n is no counter that CNT_CLEAR clears (R506). -/
theorem clearedKey_srcCnt {n : Nat} (h : n < 160) : clearedKey (F.CL_SRC_CNT_n n).key = false := by
  have hg : (F.CL_SRC_CNT_n n).key / 32 = 0x110800 + 0x4 * n := by simp only [Fld.key, F.CL_SRC_CNT_n]; omega
  have h1 : 0x110800 ≤ 0x110800 + 0x4 * n := by omega
  have h2 : 0x110800 + 0x4 * n < 0x110A80 := by omega
  simp [clearedKey, hg, h2]

theorem State.busAdm_denied {s : State} {m off : Nat} (h : s.accepts m off permW) (ha : s.may (off / 0x10000) m permADM = false)
    (f : State → State) : s.busAdm m off f = s.deny 3 m (off / 0x10000) (off % 0x10000) := by
  obtain ⟨h1, h2, -⟩ := h
  simp [State.busAdm, h1, h2, ha]

/-- Settles O27: each read by the lemma of its register above, CNT_CLEAR by `rd_cntClear`. -/
theorem readsOfRegisters : Obligations.ReadsOfRegisters := by
  refine ⟨fun m s hm => ⟨fun hg hl => ?_, fun w hg hl => ?_, fun hg hl => ?_, fun hg hs => ?_, fun w hg hl => ?_, fun hd hn => ?_⟩,
    fun off s hoff => ⟨fun hd hg hl => ?_, fun hd => ?_⟩, fun m s ha => ⟨fun hadm => ?_, fun hadm => ?_⟩⟩
  · exact congrArg Host.Outcome.next (State.busRead_gives hm (by decide) hg (State.regRead_holdLo hl) rfl)
  · exact congrArg Host.Outcome.next
      (State.busRead_gives hm (by decide) hg (State.regRead_latched rfl (by decide) (by decide) (by decide) hl) rfl)
  · exact congrArg Host.Outcome.next (State.busRead_gives hm (by decide) hg (State.regRead_posts hl) rfl)
  · exact congrArg Host.Outcome.next (State.busRead_gives hm (by decide) hg (State.regRead_poolLow hs) rfl)
  · exact congrArg Host.Outcome.next (State.busRead_gives hm (by decide) hg (State.regRead_poolHigh hl) rfl)
  · exact congrArg Host.Outcome.next (State.busRead_denied hm (by decide) hd hn)
  · have hno : ¬ (s.crp.off = true ∨ s.dbg < dbgDiag) := by
      simp only [hoff, State.dbg, dbgDiag, Bool.false_eq_true, false_or]; omega
    exact congrArg Host.Outcome.next
      ((if_neg hno).trans (State.busRead_gives rfl (by decide) hg (State.regRead_logCfg hl) rfl))
  · have hlow : s.dbg < dbgDiag := by rw [State.dbg, hd]; decide
    exact congrArg Host.Outcome.next (if_pos (.inr hlow))
  · refine ⟨s.cntClear, congrArg Host.Outcome.next (State.busAdm_accepts ha hadm _), rfl, fun f hf => ?_, fun f hf => ?_, ?_, fun n hn => ?_⟩
    · rw [s.rd_cntClear, if_pos hf]
    · rw [s.rd_cntClear, if_neg (by rw [hf]; exact Bool.false_ne_true)]
    · rw [s.rd_cntClear, if_pos (by decide)]; rfl
    · rw [s.rd_cntClear, clearedKey_srcCnt hn, if_neg Bool.false_ne_true]
  · exact congrArg Host.Outcome.next (State.busAdm_denied ha hadm _)

end Sys2Proof.Machine

/-! What the resets of functions leave of the host link: nothing that ends a function's queues, jobs, channels, holds and mailboxes touches
`State.pcie` or a register of GCTL or CRP (R162, R249, R320, R346, R360, R386, R490). One lemma per operation, after Laws/Kept.lean. -/

namespace Sys2Proof.Machine

/-- The key below which the registers of GCTL and CRP lie (R498). -/
def crpEnd : Nat := 0x20000 * 32

/-- From `r` to `s` the host link has not moved, nor has a register of GCTL or CRP. -/
structure HostKept (r s : State) : Prop where
  pcie : s.pcie = r.pcie
  rd : ∀ f : Fld, f.key < crpEnd → s.rd f = r.rd f

namespace HostKept

theorem refl (s : State) : HostKept s s := ⟨rfl, fun _ _ => rfl⟩

/-- A record that keeps the register file and the host link of a state. -/
theorem mk_ {r x : State} {tb : Tb} {qe : Qe} {dma : List (Nat × Ch)} {mb : Mb} {gr : Gr} {pt : Pt} {kn : Kn} {gy : Gy} {hz : Hz}
    {ms : Ms} {tw : Tw} {fn : Fn} {ps : Ps} {lt : Lt} {ln : Ln} {rx : List (Nat × Option RxFrame)} {cl : Cl} {bp : Bp} {fd : Fd}
    {crp : Crp} {mg : Mg} {sp : Sp} {yieldAt : List (Nat × Option Nat)} {wire : List WireOut} {latched loHeld : List (Nat × Option Word)}
    {recLatch : List (Nat × Option (Nat × List DWord))} {readData : List Word} {freeIdx : Nat} {pending : List Instr} (h : HostKept r x) :
    HostKept r (State.mk x.regs tb x.pcie qe dma mb gr pt kn gy hz ms tw fn ps lt ln rx cl bp fd crp mg sp yieldAt wire latched loHeld
      recLatch readData freeIdx pending) := ⟨h.pcie, h.rd⟩

theorem ite {r a b : State} {c : Prop} [Decidable c] (h : HostKept r a) (g : HostKept r b) : HostKept r (if c then a else b) := by
  split <;> assumption

theorem foldlMem {α : Type} {r s : State} {f : State → α → State} {l : List α} (h : HostKept r s)
    (hf : ∀ s, ∀ x ∈ l, HostKept r s → HostKept r (f s x)) : HostKept r (l.foldl f s) := by
  induction l generalizing s with
  | nil => exact h
  | cons x t ih => exact ih (hf s x List.mem_cons_self h) (fun s y hy => hf s y (List.mem_cons_of_mem x hy))

theorem foldl {α : Type} {r s : State} {f : State → α → State} {l : List α} (h : HostKept r s)
    (hf : ∀ s x, HostKept r s → HostKept r (f s x)) : HostKept r (l.foldl f s) := foldlMem h (fun s x _ => hf s x)

section
variable {r s : State} (h : HostKept r s)
include h

/-- A write of a register beyond CRP. -/
theorem wr {f : Fld} {v : Nat} (hf : 0x20000 ≤ f.off := by decide) : HostKept r (s.wr f v) :=
  ⟨h.pcie, fun g hg => (State.rd_wr_ne s f g v (by simp only [Fld.key, crpEnd] at hg ⊢; omega)).trans (h.rd g hg)⟩

/-- The same for a register of an array, whose offset is a sum. -/
theorem wrAt {f : Fld} {v : Nat} (hf : 0x20000 ≤ f.off := by exact Nat.le_add_right_of_le (by decide)) : HostKept r (s.wr f v) := h.wr hf

theorem wrEach {l : List Fld} {v : Fld → Nat} (hl : ∀ f ∈ l, 0x20000 ≤ f.off) : HostKept r (l.foldl (fun s f => s.wr f (v f)) s) :=
  foldlMem h (fun _ f hf k => k.wr (hl f hf))

theorem add {f : Fld} {n : Nat} (hf : 0x20000 ≤ f.off := by decide) : HostKept r (s.add f n) := h.wr hf

theorem inc {f : Fld} (hf : 0x20000 ≤ f.off := by decide) : HostKept r (s.inc f) := h.add hf

theorem wrBit {f : Fld} {i : Nat} {b : Bool} (hf : 0x20000 ≤ f.off := by decide) : HostKept r (s.wrBit f i b) := h.wr hf

theorem raise {a b : Nat} {c : Option Nat} {d : Nat} : HostKept r (s.raise a b c d) := h.mk_

/-! Cells and holds (R358 to R360). -/

theorem setChain {c : Nat} {v : Option Chain} : HostKept r (s.setChain c v) := h.mk_

theorem holdErr {cause op m c : Nat} : HostKept r (s.holdErr cause op m c) := by
  have hf : 0x20000 ≤ (if cause = 0 then F.GR_NONHOLDER else F.GR_ONFREE).off := by split <;> decide
  exact (((((h.inc hf).wr.wr).wr).wr).wr).raise

theorem freeChain {c : Nat} : HostKept r (s.freeChain c) := by
  unfold State.freeChain
  split
  · exact h
  · next ch _ =>
    have hq : 0x20000 ≤ (F.GR_QUSED_q_m (poolOfChain c) ch.charge).off := Nat.le_add_right_of_le (Nat.le_add_right_of_le (by decide))
    exact .ite (.ite (.mk_ (.add (.wr h.setChain hq))) (.wr (.add (.wr h.setChain hq))))
      (.ite (.mk_ (.add (.wr h.setChain hq))) (.wr (.add (.wr h.setChain hq))))

theorem releaseHold {c m : Nat} : HostKept r (s.releaseHold c m) := by
  unfold State.releaseHold
  split
  · exact h.holdErr
  · exact .ite (.ite h.freeChain h.setChain) h.holdErr

theorem shareHold {c m n : Nat} : HostKept r (s.shareHold c m n) := by
  unfold State.shareHold
  split
  · exact h.holdErr
  · exact .ite h.holdErr (.ite h (.ite h.inc h.setChain))

theorem holdApply {op : HoldOp} : HostKept r (s.holdApply op) := by
  cases op with
  | share c m n => exact h.shareHold
  | release c m => exact h.releaseHold

theorem holderGone {m : Nat} : HostKept r (s.holderGone m) :=
  .foldl (.foldl (.mk_ (.mk_ h)) (fun _ _ k => k.holdApply)) (fun _ _ k => k.releaseHold.inc)

/-! Jobs and completions (R308 to R319). -/

theorem setSq {q : Nat} {v : Sq} : HostKept r (s.setSq q v) := h.mk_

theorem postJob {q : Nat} {j : Job} {e : JobEnd} {flags info : Nat} : HostKept r (s.postJob q j e flags info) := .ite h h.mk_

theorem forget {q : Nat} {gone : List Job} : HostKept r (s.forget q gone) := h.setSq

theorem finishBatch {q : Nat} {b : List Job} : HostKept r (s.finishBatch q b) := by
  unfold State.finishBatch
  split
  · exact .ite h.postJob.forget h
  · exact h

theorem syncHead {q : Nat} : HostKept r (s.syncHead q) := h.wrAt

theorem finishJob {q p : Nat} {e : JobEnd} : HostKept r (s.finishJob q p e) := by
  have k : ∀ f : Job → Job, HostKept r ((s.updJob q p f).syncHead q) := fun _ => h.setSq.syncHead
  unfold State.finishJob
  dsimp only
  split
  · exact k _
  · exact .ite (k _).postJob.forget (.ite (.finishBatch (.ite (k _).postJob (k _))) (.ite (k _).postJob (k _)))

theorem jobEnds {q id : Nat} : HostKept r (s.jobEnds q id) := .finishJob h.mk_

/-! Items of the work table (R109, R319). -/

theorem setItem {i : Nat} {v : Option Item} : HostKept r (s.setItem i v) := .wr (.wr h.mk_)

theorem dropItem {i : Nat} : HostKept r (s.dropItem i) := by
  unfold State.dropItem
  split
  · exact h
  · dsimp only
    split
    · exact .ite h.setItem h.setItem.releaseHold
    · exact h.setItem

theorem dropJob {q id : Nat} : HostKept r (s.dropJob q id) := .mk_ (.foldl h (fun _ _ k => k.dropItem))

/-- An item leaves the work table, and its holder lets go of its chain with its last copy. -/
theorem unchained {i : Nat} {more : Bool} {chain : Option Nat} {m : Nat} :
    HostKept r (match chain with
      | some c => if more then s.setItem i none else (s.setItem i none).releaseHold c m
      | none => s.setItem i none) := by
  split
  · exact .ite h.setItem h.setItem.releaseHold
  · exact h.setItem

theorem endItem {i status flags : Nat} : HostKept r (s.endItem i status flags) := by
  unfold State.endItem
  split
  · exact h
  · dsimp only
    split
    · exact h.unchained
    · exact .ite h.unchained.mk_ h.unchained.mk_.jobEnds

theorem abortSends {q : Nat} : HostKept r (s.abortSends q) := by
  refine .foldl h (fun _ _ k => ?_)
  split
  · exact .ite k.endItem k
  · exact k

/-! Queues (R318 to R320). -/

theorem setSqState {q v : Nat} : HostKept r (s.setSqState q v) := .wr h.wrAt

theorem returnBufs {q : Nat} : HostKept r (s.returnBufs q) := .ite h.setSq.wrAt (.foldl h.setSq.wrAt (fun _ _ k => k.mk_))

theorem sqDrain {q : Nat} : HostKept r (s.sqDrain q) := by
  refine returnBufs (abortSends (forget (.foldl (wrAt (setSq (.foldl (setSqState h.wrAt) (fun _ _ k => k.dropJob)))) (fun _ _ k => ?_))))
  split
  · exact .ite k.postJob k
  · exact k

theorem sqDisable {q : Nat} : HostKept r (s.sqDisable q) := .ite h.sqDrain h

theorem yieldTo {a b : Nat} : HostKept r (s.yieldTo a b) :=
  .ite h (.ite (.mk_ (.raise (.wr (.wr (.wr (.wr h.wrAt)))))) h.wrAt)

theorem sqRegsReset {q : Nat} : HostKept r (s.sqRegsReset q) :=
  h.wrEach (by rintro f hf; fin_cases hf <;> exact Nat.le_add_right_of_le (by decide))

theorem cqRegsReset {c : Nat} : HostKept r (s.cqRegsReset c) :=
  h.wrEach (by rintro f hf; fin_cases hf <;> exact Nat.le_add_right_of_le (by decide))

theorem sqFlr {q : Nat} : HostKept r (s.sqFlr q) :=
  sqRegsReset (setSq (.foldl (sqDisable (.mk_ h.setSq)) (fun _ _ k => k.yieldTo)))

theorem cqDisable {c : Nat} : HostKept r (s.cqDisable c) := .ite (.wr (.wrAt h.mk_)) h

theorem queuesFlr {m : Nat} : HostKept r (s.queuesFlr m) :=
  .foldl (.foldl h (fun _ _ k => k.sqFlr)) (fun _ _ k => k.cqDisable.mk_.cqRegsReset)

/-! Subscriptions, DMA channels and mailboxes (R162, R346, R386). -/

theorem freeSubEntry {i : Nat} : HostKept r (s.freeSubEntry i) := by
  unfold State.freeSubEntry
  split
  · exact h
  · dsimp only
    split
    · exact h.mk_.wr
    · exact .ite h.mk_.wr.mk_ h.mk_.wr.mk_

theorem freeSubsOf {m : Nat} : HostKept r (s.freeSubsOf m) := .foldl h.mk_ (fun _ _ k => k.freeSubEntry)

theorem setChState {c st : Nat} : HostKept r (s.setChState c st) := .ite h.wrAt.wrBit.mk_ h.wrAt.wrBit

theorem chDrop {c : Nat} : HostKept r (s.chDrop c) := by
  have k : HostKept r ((([F.CH_SRC_LO c, F.CH_SRC_HI c, F.CH_DST_LO c, F.CH_DST_HI c, F.CH_COUNT c, F.CH_CUR_LO c,
      F.CH_CUR_HI c].foldl (fun (s : State) f => ({ s with freeIdx := s.freeIdx + 1 } : State).wr f (Config.freeWord s.freeIdx).toNat)
      s).setChState c chIdle).wr (F.CH_STAT_LAST_ST c) lastDropped |>.wr (F.CH_STAT_DB_PEND c) 0) := by
    refine wrAt (wrAt (setChState (foldlMem h (fun _ f hf k => ?_))))
    refine k.mk_.wr ?_
    fin_cases hf <;> exact Nat.le_add_right_of_le (by decide)
  unfold State.chDrop
  dsimp only
  split
  · exact k.finishJob
  · exact k

theorem dmaFlr {m : Nat} : HostKept r (s.dmaFlr m) := by
  refine .foldl h (fun _ _ k => .ite ?_ (.ite k.chDrop k))
  exact (setChState (.ite k.chDrop k)).wrEach (by rintro f hf; fin_cases hf <;> exact Nat.le_add_right_of_le (by decide))

theorem mbUnlock {n : Nat} : HostKept r (s.mbUnlock n) := h.wrAt.wrAt

theorem mbMasterReset {m : Nat} : HostKept r (s.mbMasterReset m) := by
  have k : HostKept r ([F.MB_NOTIFY_IE_LO m, F.MB_NOTIFY_IE_HI m, F.MB_EMPTY_IE_LO m, F.MB_EMPTY_IE_HI m, F.MB_EMPTY_PEND_LO m,
      F.MB_EMPTY_PEND_HI m].foldl (fun s f => s.wr f 0)
      ((List.range 64).foldl (fun s n => if s.mbHolds n m then s.mbUnlock n else s) s)) :=
    wrEach (.foldl h (fun _ _ k => .ite k.mbUnlock k))
      (by rintro f hf; fin_cases hf <;> exact Nat.le_add_right_of_le (by decide))
  exact .ite k.wrAt.wrAt.wrAt.wrAt k.wrAt.wrAt

theorem servoToFirmware : HostKept r s.servoToFirmware := h.wr.wr.wr

end

end HostKept

end Sys2Proof.Machine

/-! The host link and the supplies (R7, R321, R408, R409, R482, R486, R489, R490, R495 to R497; `Obligations.HostLinkAndSupplies`). -/

namespace Sys2Proof.Machine

theorem State.on_of_one {s : State} {f : Fld} (h : s.rd f = 1) : s.on f = true := by rw [State.on, h]; rfl

theorem State.on_of_zero {s : State} {f : Fld} (h : s.rd f = 0) : s.on f = false := by rw [State.on, h]; rfl

theorem State.on_iff {s : State} {f : Fld} : s.on f = true ↔ s.rd f ≠ 0 := by simp [State.on]

theorem State.ready_iff {s : State} : s.ready = true ↔ s.rd F.CRP_BOOT_PHASE = 6 := by simp [State.ready]

theorem State.vioOk_of_contains {s : State} (h : s.cl.conds.contains (Src.VIO_FAULT, 1) = false) : s.vioOk = true := by
  simpa [State.vioOk] using h

theorem State.condEnd_pcie (s : State) (a b : Nat) : (s.condEnd a b).pcie = s.pcie := by
  unfold State.condEnd; dsimp only; split <;> rfl

/-- The end of a condition changes no register but CL_ACTIVE (R417). -/
theorem State.rd_condEnd_ne {s : State} {src inst : Nat} {f : Fld} (h : f.key < (F.CL_ACTIVE_w 0).key) :
    (s.condEnd src inst).rd f = s.rd f := by
  have hne : f.key ≠ (F.CL_ACTIVE_w (src / 32)).key := by simp only [Fld.key, F.CL_ACTIVE_w] at h ⊢; omega
  unfold State.condEnd
  dsimp only
  split
  · rfl
  · exact State.rd_wr_ne _ _ _ _ hne

/-! Bits of a number. -/

/-- Clearing bit `n` of a number whose lower bits are 0. -/
theorem putBits_zero_mod {x n : Nat} (h : x % 2 ^ n = 0) : putBits x n 1 0 % 2 ^ (n + 1) = 0 := by
  obtain ⟨q, rfl⟩ := Nat.dvd_of_mod_eq_zero h
  have hq : 2 ^ n * q / 2 ^ n = q := Nat.mul_div_cancel_left q (by positivity)
  have he : q - q % 2 = 2 * (q / 2) := by omega
  have hx : putBits (2 ^ n * q) n 1 0 = 2 ^ (n + 1) * (q / 2) := calc
    putBits (2 ^ n * q) n 1 0 = 2 ^ n * q - q % 2 * 2 ^ n := by simp [putBits, bits, hq]
    _ = 2 ^ n * (q - q % 2) := by rw [Nat.mul_sub, Nat.mul_comm (q % 2)]
    _ = 2 ^ (n + 1) * (q / 2) := by rw [he, pow_succ, Nat.mul_assoc]
  rw [hx, Nat.mul_mod_right]

/-- A bit that has been set reads 1. -/
theorem bits_putBits_one (x n : Nat) : bits (putBits x n 1 1) n 1 = 1 := by
  have hp : 0 < 2 ^ n := by positivity
  have hd : (x - x / 2 ^ n % 2 * 2 ^ n + 2 ^ n) / 2 ^ n = x / 2 ^ n - x / 2 ^ n % 2 + 1 := by
    rw [Nat.add_div_right _ hp, Nat.mul_comm, Nat.sub_mul_div]
  have hx : putBits x n 1 1 = x - x / 2 ^ n % 2 * 2 ^ n + 2 ^ n := by simp [putBits, bits]
  rw [bits, hx, hd]
  omega

/-! The function-level resets that PERST# brings (R489, R490). -/

/-- A function-level reset clears the function's enables, PF0's the VF enable too, and leaves GCTL and CRP alone. -/
theorem State.flr_host (s : State) (fn : Nat) : (∀ f : Fld, f.key < crpEnd → (s.flr fn).rd f = s.rd f)
    ∧ (s.flr fn).pcie.bme = putBits s.pcie.bme fn 1 0 ∧ (s.flr fn).pcie.mse = putBits s.pcie.mse fn 1 0
    ∧ (s.flr fn).pcie.vfe = (s.pcie.vfe && fn != 0) := by
  have hblocks : ∃ t, HostKept s t ∧ s.flr fn = { t with pcie := { t.pcie with
      rxHold := t.pcie.rxHold.filter (fun x => x.2 != 0x20 + fn), bme := putBits t.pcie.bme fn 1 0, mse := putBits t.pcie.mse fn 1 0
      vfe := t.pcie.vfe && fn != 0, fmask := putBits t.pcie.fmask fn 1 0
      msixTab := t.pcie.msixTab.filter (fun x => x.1 / 1024 != fn), msixPend := t.pcie.msixPend.filter (fun x => x / 256 != fn)
      flr := (fn, t.tb.mono) :: t.pcie.flr.filter (fun x => x.1 != fn) } } := by
    have k := (HostKept.refl s).queuesFlr (m := 0x20 + fn) |>.freeSubsOf (m := 0x20 + fn)
    exact ⟨_, .ite k.mk_.dmaFlr.holderGone.mbMasterReset.servoToFirmware k.mk_.dmaFlr.holderGone.mbMasterReset.wrAt.wrAt.wrAt, rfl⟩
  obtain ⟨t, ht, he⟩ := hblocks
  rw [he, ← ht.pcie]
  exact ⟨fun f hf => ht.rd f hf, rfl, rfl, rfl⟩

/-- What the resets of functions 0 to `n - 1` make of the host link. -/
structure FlrsDone (n : Nat) (s t : State) : Prop where
  rd : ∀ f : Fld, f.key < crpEnd → t.rd f = s.rd f
  bme : t.pcie.bme % 2 ^ n = 0
  mse : t.pcie.mse % 2 ^ n = 0
  vfe : 0 < n → t.pcie.vfe = false

theorem FlrsDone.flr {n : Nat} {s t : State} (h : FlrsDone n s t) : FlrsDone (n + 1) s (t.flr n) := by
  obtain ⟨hrd, hbme, hmse, hvfe⟩ := t.flr_host n
  refine ⟨fun f hf => (hrd f hf).trans (h.rd f hf), ?_, ?_, fun _ => ?_⟩
  · rw [hbme, putBits_zero_mod h.bme]
  · rw [hmse, putBits_zero_mod h.mse]
  · rw [hvfe]
    cases n with
    | zero => exact Bool.and_false _
    | succ k => rw [h.vfe k.succ_pos, Bool.false_and]

theorem flrsDone_range (s : State) (n : Nat) : FlrsDone n s ((List.range n).foldl (fun s fn => s.flr fn) s) := by
  induction n with
  | zero => exact ⟨fun _ _ => rfl, Nat.mod_one _, Nat.mod_one _, fun h => absurd h (Nat.lt_irrefl 0)⟩
  | succ n ih =>
    rw [List.range_succ, List.foldl_append]
    exact ih.flr

/-! PERST# (R489, R495). -/

/-- The link's registers when PERST# is asserted. -/
def State.perstDown (s : State) : State :=
  ((s.linkGone.wr F.CRP_PCIE_STAT_PERST 1).onset Src.PCIE_LINK_DOWN 0xFF 0).inc F.CRP_PERST_CNT

/-- The writes that wait for the host are discarded, and their receive queues' owners let go of the frames (R489). -/
def State.discardHeld (s : State) : State :=
  s.pcie.rxHold.foldl (fun s x => s.releaseHold x.1 x.2)
    { s with pcie := { s.pcie with held := [], heldAt := 0, rxHold := [], wakeAsked := false } }

theorem State.discardHeld_host (s : State) :
    HostKept { s with pcie := { s.pcie with held := [], heldAt := 0, rxHold := [], wakeAsked := false } } s.discardHeld :=
  (HostKept.refl _).foldl (fun _ _ k => k.releaseHold)

theorem State.rd_linkGone_linkUp (s : State) : s.linkGone.rd F.CRP_PCIE_STAT_LINK_UP = 0 := by
  rw [State.linkGone, State.rd_mk, State.rd_wr_ne _ _ _ _ (by decide), State.rd_wr_ne _ _ _ _ (by decide),
    State.rd_wr_same _ _ _ (by decide), Nat.zero_mod]

theorem State.rd_linkGone_count (s : State) : s.linkGone.rd F.CRP_PERST_CNT = s.rd F.CRP_PERST_CNT := by
  rw [State.linkGone, State.rd_mk, State.rd_wr_ne _ _ _ _ (by decide), State.rd_wr_ne _ _ _ _ (by decide),
    State.rd_wr_ne _ _ _ _ (by decide)]

theorem State.rd_perstDown_perst (s : State) : s.perstDown.rd F.CRP_PCIE_STAT_PERST = 1 := by
  rw [State.perstDown, State.inc, State.rd_add_ne _ _ _ _ (by decide), State.rd_onset, State.rd_wr_same _ _ _ (by decide)]
  rfl

theorem State.rd_perstDown_linkUp (s : State) : s.perstDown.rd F.CRP_PCIE_STAT_LINK_UP = 0 := by
  rw [State.perstDown, State.inc, State.rd_add_ne _ _ _ _ (by decide), State.rd_onset, State.rd_wr_ne _ _ _ _ (by decide),
    s.rd_linkGone_linkUp]

theorem State.rd_perstDown_count (s : State) :
    s.perstDown.rd F.CRP_PERST_CNT = min (s.rd F.CRP_PERST_CNT + 1) (2 ^ F.CRP_PERST_CNT.w - 1) := by
  rw [State.perstDown, State.inc, State.rd_add_same _ _ _ (by decide), State.rd_onset, State.rd_wr_ne _ _ _ _ (by decide),
    s.rd_linkGone_count]

/-- What the resets that PERST# brings leave of a module that was ready. -/
theorem FlrsDone.discardHeld {s t : State} (h : FlrsDone 16 s.perstDown t) : t.discardHeld.rd F.CRP_PCIE_STAT_PERST = 1
    ∧ t.discardHeld.rd F.CRP_PCIE_STAT_LINK_UP = 0
    ∧ t.discardHeld.rd F.CRP_PERST_CNT = min (s.rd F.CRP_PERST_CNT + 1) (2 ^ F.CRP_PERST_CNT.w - 1)
    ∧ t.discardHeld.pcie.bme % 65536 = 0 ∧ t.discardHeld.pcie.mse % 65536 = 0 ∧ t.discardHeld.pcie.vfe = false
    ∧ t.discardHeld.pcie.held = [] := by
  have hrd : ∀ f : Fld, f.key < crpEnd → t.discardHeld.rd f = s.perstDown.rd f :=
    fun f hf => (t.discardHeld_host.rd f hf).trans (h.rd f hf)
  rw [hrd _ (by decide), hrd _ (by decide), hrd _ (by decide), t.discardHeld_host.pcie]
  exact ⟨s.rd_perstDown_perst, s.rd_perstDown_linkUp, s.rd_perstDown_count, h.bme, h.mse, h.vfe (by decide), rfl⟩

/-- The link's registers when PERST# is deasserted: the host drives its reference clock. -/
def State.perstUp (s : State) : State := (s.wr F.CRP_PCIE_STAT_PERST 0).wr F.CRP_CLK_STATUS_PCIE_REFCLK 1

theorem State.rd_perstUp_perst (s : State) : s.perstUp.rd F.CRP_PCIE_STAT_PERST = 0 := by
  rw [State.perstUp, State.rd_wr_ne _ _ _ _ (by decide), State.rd_wr_same _ _ _ (by decide), Nat.zero_mod]

theorem State.rd_perstUp_refclk (s : State) : s.perstUp.rd F.CRP_CLK_STATUS_PCIE_REFCLK = 1 := by
  rw [State.perstUp, State.rd_wr_same _ _ _ (by decide)]
  rfl

section
variable {s : State}

theorem execPerstAssert_ignored (h : s.crp.off = true ∨ s.rd F.CRP_PCIE_STAT_PERST = 1) : exec .perstAssert s = .next s :=
  congrArg Host.Outcome.next (if_pos (.inr (h.imp_right State.on_of_one)))

section
variable (hi : s.cl.conds.contains (Src.VIO_FAULT, 1) = false) (ho : s.crp.off = false)
include hi ho

theorem State.perst_taken (hp : s.rd F.CRP_PCIE_STAT_PERST = 0) :
    ¬ ((!s.vioOk) = true ∨ s.crp.off = true ∨ s.on F.CRP_PCIE_STAT_PERST = true) := by
  simp [State.vioOk_of_contains hi, ho, State.on_of_zero hp]

theorem execPerstAssert_starting (hp : s.rd F.CRP_PCIE_STAT_PERST = 0) (hb : s.rd F.CRP_BOOT_PHASE ≠ 6) :
    exec .perstAssert s = .next ((s.linkGone.wr F.CRP_PCIE_STAT_PERST 1).onset Src.PCIE_LINK_DOWN 0xFF 0) :=
  congrArg Host.Outcome.next ((if_neg (State.perst_taken hi ho hp)).trans (if_neg (fun h => hb (State.ready_iff.mp h))))

theorem execPerstAssert_ready (hp : s.rd F.CRP_PCIE_STAT_PERST = 0) (hb : s.rd F.CRP_BOOT_PHASE = 6) :
    exec .perstAssert s = .next ((List.range 16).foldl (fun s fn => s.flr fn) s.perstDown).discardHeld := by
  show execPerstAssert s = _
  rw [execPerstAssert, if_neg (State.perst_taken hi ho hp), if_pos (State.ready_iff.mpr hb), State.discardHeld, State.perstDown]

theorem execPerstDeassert_taken (hp : s.rd F.CRP_PCIE_STAT_PERST = 1) : ∃ t, exec .perstDeassert s = .next t
    ∧ t.rd F.CRP_PCIE_STAT_PERST = 0 ∧ t.rd F.CRP_CLK_STATUS_PCIE_REFCLK = 1 ∧ (s.rd F.CRP_BOOT_PHASE = 6 → t.cl = s.cl) := by
  have htake : s.vioOk = true ∧ ¬ s.crp.off = true ∧ s.on F.CRP_PCIE_STAT_PERST = true :=
    ⟨State.vioOk_of_contains hi, by rw [ho]; exact Bool.false_ne_true, State.on_of_one hp⟩
  by_cases hb : s.rd F.CRP_BOOT_PHASE = 6
  · exact ⟨s.perstUp, congrArg Host.Outcome.next ((if_pos htake).trans (if_pos (State.ready_iff.mpr hb))), s.rd_perstUp_perst,
      s.rd_perstUp_refclk, fun _ => rfl⟩
  · refine ⟨s.perstUp.condEnd Src.PCIE_LINK_DOWN 0xFF,
      congrArg Host.Outcome.next ((if_pos htake).trans (if_neg (fun h => hb (State.ready_iff.mp h)))), ?_, ?_, fun h => absurd h hb⟩
    · rw [State.rd_condEnd_ne (by decide), s.rd_perstUp_perst]
    · rw [State.rd_condEnd_ne (by decide), s.rd_perstUp_refclk]

end

theorem execPerstDeassert_ignored (h : s.crp.off = true ∨ s.rd F.CRP_PCIE_STAT_PERST = 0) : exec .perstDeassert s = .next s := by
  refine congrArg Host.Outcome.next (if_neg ?_)
  rintro ⟨-, hoff, hon⟩
  exact h.elim hoff (State.on_iff.mp hon)

/-! The link and L1.2 (R407, R409, R495). -/

/-- The writes that wait leave, where no receive queue's frame waits with them (R409). -/
theorem State.heldLeave_eq {s : State} (h : s.pcie.rxHold = []) : s.heldLeave = { s with pcie := { s.pcie with
    out := s.pcie.out ++ s.pcie.held, held := [], heldAt := 0, wakeAsked := false } } := by
  simp [State.heldLeave, h]

theorem execPcieLinkUp_ignored {width speed : Nat} (h : s.rd F.CRP_PCIE_STAT_PERST = 1 ∨ s.crp.off = true ∨ s.crp.rstLow = true) :
    exec (.pcieLinkUp width speed) s = .next s :=
  congrArg Host.Outcome.next (if_pos (h.imp_left State.on_of_one))

theorem execPcieLinkUp_taken {width speed : Nat} (hp : s.rd F.CRP_PCIE_STAT_PERST = 0) (ho : s.crp.off = false)
    (hr : s.crp.rstLow = false) : exec (.pcieLinkUp width speed) s = .next (((((s.wr F.CRP_PCIE_STAT_LINK_UP 1).wr
      F.CRP_PCIE_STAT_WIDTH width).wr F.CRP_PCIE_STAT_SPEED speed).wr F.CRP_CLK_STATUS_PCIE_REFCLK 1).condEnd
        Src.PCIE_LINK_DOWN 0xFF).heldLeave := by
  refine congrArg Host.Outcome.next (if_neg ?_)
  simp [State.on_of_zero hp, ho, hr]

theorem execPcieLinkDown_ready (hb : s.rd F.CRP_BOOT_PHASE = 6) (hp : s.rd F.CRP_PCIE_STAT_PERST = 0) :
    exec .pcieLinkDown s = .next (s.linkGone.onset Src.PCIE_LINK_DOWN 0xFF 0) :=
  congrArg Host.Outcome.next (if_pos ⟨State.ready_iff.mpr hb, fun h => State.on_iff.mp h hp⟩)

theorem execPcieLinkDown_quiet (h : s.rd F.CRP_BOOT_PHASE ≠ 6 ∨ s.rd F.CRP_PCIE_STAT_PERST = 1) :
    exec .pcieLinkDown s = .next s.linkGone := by
  refine congrArg Host.Outcome.next (if_neg ?_)
  rintro ⟨hready, hno⟩
  exact h.elim (fun hb => hb (State.ready_iff.mp hready)) (fun hp => hno (State.on_of_one hp))

theorem execLinkEntersL12_taken (h : s.rd F.CRP_PWR_STATUS_STATE = pwTrim ∨ s.rd F.CRP_PWR_STATUS_STATE = pwHold)
    (hl : s.rd F.CRP_PCIE_STAT_LINK_UP = 1) :
    exec .linkEntersL12 s = .next { s with pcie := { s.pcie with l12 := true, wakeAsked := false } } :=
  congrArg Host.Outcome.next (if_pos ⟨h, State.on_of_one hl⟩)

theorem execLinkEntersL12_ignored (h : s.rd F.CRP_PWR_STATUS_STATE = pwRun ∨ s.rd F.CRP_PCIE_STAT_LINK_UP = 0) :
    exec .linkEntersL12 s = .next s := by
  refine congrArg Host.Outcome.next (if_neg ?_)
  rintro ⟨hpow, hup⟩
  rcases h with hrun | hdown
  · have hne : pwRun ≠ pwTrim ∧ pwRun ≠ pwHold := by decide
    rw [State.power, hrun] at hpow
    exact hpow.elim hne.1 hne.2
  · exact State.on_iff.mp hup hdown

theorem execLinkExitsL12_taken (h : s.pcie.l12 = true) :
    exec .linkExitsL12 s = .next ({ s with pcie := { s.pcie with l12 := false } } : State).heldLeave :=
  congrArg Host.Outcome.next (if_pos h)

theorem execLinkExitsL12_ignored (h : s.pcie.l12 = false) : exec .linkExitsL12 s = .next s :=
  congrArg Host.Outcome.next (if_neg (by rw [h]; exact Bool.false_ne_true))

theorem execLinkWakeRequest_ignored (h : s.pcie.l12 = false ∨ s.pcie.wakeAsked = true ∨ s.pcie.held = []
    ∨ s.tb.mono < s.pcie.heldAt + max 1 (s.rd F.CRP_PWR_CFG_WAKE_US) * 1000) : exec .linkWakeRequest s = .next s := by
  refine congrArg Host.Outcome.next (if_neg ?_)
  rintro ⟨hl, hask, hheld, hdue⟩
  rcases h with h | h | h | h
  · rw [h] at hl; exact Bool.false_ne_true hl
  · exact hask h
  · exact hheld h
  · exact absurd hdue (Nat.not_le_of_lt h)

theorem execLinkWakeRequest_taken (hl : s.pcie.l12 = true) (hask : s.pcie.wakeAsked = false) (hheld : s.pcie.held ≠ [])
    (hdue : s.pcie.heldAt + max 1 (s.rd F.CRP_PWR_CFG_WAKE_US) * 1000 ≤ s.tb.mono) : exec .linkWakeRequest s
      = .next (({ s with pcie := { s.pcie with wakeAsked := true } } : State).inc F.CRP_TRIM_WAKE) :=
  congrArg Host.Outcome.next (if_pos ⟨hl, by rw [hask]; exact Bool.false_ne_true, hheld, hdue⟩)

/-! Configuration requests (R7, R321, R486, R497). -/

theorem State.cfgAnswers_iff {fn : Nat} : s.cfgAnswers fn = true ↔ s.rd F.CRP_BOOT_PHASE = 6 ∧ s.rd F.CRP_PCIE_STAT_PERST = 0
    ∧ s.pcie.flr.any (fun y => y.1 == fn) = false ∧ (fn = 0 ∨ s.pcie.vfe = true) := by
  simp [State.cfgAnswers, State.ready, State.on, and_assoc]

theorem execConfigurationWrite_ignored {fn : Fin 16} {w : CfgWrite} (h : ¬ s.cfgAnswers fn.val = true) :
    exec (.configurationWrite fn w) s = .next s := congrArg Host.Outcome.next (if_neg h)

theorem execConfigRetry_ignored {x : CfgRead} (h : ¬ s.cfgAnswers x.fn.val = true) :
    exec (.configRetry x) s = .next { s with readData := [] } := congrArg Host.Outcome.next (if_neg h)

theorem execConfigRetry_answered {x : CfgRead} (h : s.cfgAnswers x.fn.val = true) : exec (.configRetry x) s
    = .next { s with readData := [BitVec.ofNat 32 (s.cfgWord x.fn.val x.word.val)], freeIdx := s.freeIdx + 1 } :=
  congrArg Host.Outcome.next (if_pos h)

/-- Under its Function Mask a function sends no vector (R321). -/
theorem State.funMask_true (s : State) (fn : Nat) :
    s.funMask fn true = { s with pcie := { s.pcie with fmask := putBits s.pcie.fmask fn 1 1 } } := by
  have hmask : ∀ vec, ({ s with pcie := { s.pcie with fmask := putBits s.pcie.fmask fn 1 1 } } : State).msixMasked fn vec = true := by
    intro vec
    simp [State.msixMasked, bits_putBits_one]
  simp [State.funMask, hmask]

theorem execConfigurationWrite_answered {fn : Fin 16} {w : CfgWrite} (h : s.cfgAnswers fn.val = true) :
    exec (.configurationWrite fn w) s = .next (match w with
      | .busMaster b => { s with pcie := { s.pcie with bme := putBits s.pcie.bme fn.val 1 b.toNat } }
      | .memSpace b => { s with pcie := { s.pcie with mse := putBits s.pcie.mse fn.val 1 b.toNat } }
      | .vfEnable b => if fn.val = 0 then { s with pcie := { s.pcie with vfe := b } } else s
      | .msixMask b => s.funMask fn.val b) := by
  refine congrArg Host.Outcome.next ((if_pos h).trans ?_)
  cases w <;> rfl

/-! The reference clock of the host (R495). -/

theorem execPcieRefclkLoss_perst (hp : s.rd F.CRP_PCIE_STAT_PERST = 1) :
    exec .pcieRefclkLoss s = .next (s.wr F.CRP_CLK_STATUS_PCIE_REFCLK 0) :=
  congrArg Host.Outcome.next (if_pos (State.on_of_one hp))

theorem execPcieRefclkLoss_running (hp : s.rd F.CRP_PCIE_STAT_PERST = 0) :
    exec .pcieRefclkLoss s = .next ((s.wr F.CRP_CLK_STATUS_PCIE_REFCLK 0).onset Src.PCIE_REFCLK_LOSS 0xFF 0) :=
  congrArg Host.Outcome.next (if_neg (fun h => State.on_iff.mp h hp))

end

/-- Settles O54: PERST# by the resets of the functions, the rest by the lemma of each command above. -/
theorem hostLinkAndSupplies : Obligations.HostLinkAndSupplies := by
  unfold Obligations.HostLinkAndSupplies
  intro width speed bit fn word b x s hi down gone free
  refine ⟨execPerstAssert_ignored, fun hv ho hp => ⟨execPerstAssert_starting hv ho hp, fun hb => ?_⟩, execPerstDeassert_taken,
    execPerstDeassert_ignored, execPcieLinkUp_ignored, fun hp ho hr hx => ?_, execPcieLinkDown_ready, execPcieLinkDown_quiet, rfl,
    execLinkEntersL12_taken, execLinkEntersL12_ignored, fun hl hx => ?_, execLinkExitsL12_ignored, execLinkWakeRequest_ignored,
    execLinkWakeRequest_taken, ⟨fun hna => ?_, fun ha => ?_⟩, ?_⟩
  · exact ⟨_, execPerstAssert_ready hv ho hp hb, (flrsDone_range s.perstDown 16).discardHeld⟩
  · rw [execPcieLinkUp_taken hp ho hr, State.heldLeave_eq (by rw [State.condEnd_pcie]; exact hx)]
  · exact (execLinkExitsL12_taken hl).trans (congrArg Host.Outcome.next (State.heldLeave_eq hx))
  · have hno : ¬ s.cfgAnswers fn.val = true := fun h => hna (State.cfgAnswers_iff.mp h)
    exact ⟨execConfigRetry_ignored hno, execConfigurationWrite_ignored hno, execConfigurationWrite_ignored hno⟩
  · have hans : s.cfgAnswers fn.val = true := State.cfgAnswers_iff.mpr ha
    refine ⟨fun hw => ?_, fun hw => ?_, execConfigurationWrite_answered hans, execConfigurationWrite_answered hans,
      execConfigurationWrite_answered hans, fun hb => ?_⟩
    · rw [execConfigRetry_answered hans, hw]; rfl
    · rw [execConfigRetry_answered hans, hw]; rfl
    · rw [execConfigurationWrite_answered hans, hb]
      exact congrArg Host.Outcome.next (s.funMask_true fn.val)
  · refine ⟨?_, ?_, ?_, ?_, rfl, ?_, ?_, ?_, ?_, ?_, execPcieRefclkLoss_perst, execPcieRefclkLoss_running⟩ <;> rintro rfl <;> rfl

end Sys2Proof.Machine

/-! The state after power-on (R33, R43, R290, R393, R411, R459, R485; `Obligations.ResetState`). -/

namespace Sys2Proof.Machine

/-- With nothing listed in the register file every field reads its reset value. -/
theorem State.rd_of_regs_nil {s : State} (h : s.regs = []) (f : Fld) : s.rd f = f.rst % 2 ^ 32 := by
  rw [State.rd, h, Sparse.get_nil]
  exact (congrArg BitVec.toNat BitVec.zero_xor).trans (BitVec.toNat_ofNat ..)

/-- Settles O4: the registers by `State.rd_of_regs_nil`, the rest by the values of `State.reset`. -/
theorem resetState : Obligations.ResetState := by
  refine ⟨rfl, rfl, fun f hf => (State.rd_of_regs_nil rfl f).trans (Nat.mod_eq_of_lt hf), ?_⟩
  decide

end Sys2Proof.Machine

/-! Time: a tick of the time island and the steps of the idle block (R33, R36, R63; `Obligations.TickOfDeviceTime`,
`Obligations.IdleStepsPassTime`). -/

namespace Sys2Proof.Machine

/-! The end of a core cycle with nothing waiting. -/

section
variable {s : State} (hops : s.gr.ops = []) (hposts : s.mb.posts = []) (hdue : s.qe.due = []) (hcmd : s.fn.cmd = none)
  (hreqs : s.crp.pwReqs = [])
include hops hposts hdue hcmd hreqs

theorem State.cycleEnd_idle : s.cycleEnd.tb = s.tb ∧ s.cycleEnd.regs = s.regs := by
  simp [State.cycleEnd, State.holdFlush, State.postFlush, State.cqFlush, State.fnTick, State.pwFlush, State.enterAll, hops, hposts, hdue,
    hcmd, hreqs]

theorem State.rd_cycleEnd_idle (f : Fld) : s.cycleEnd.rd f = s.rd f := by
  rw [State.rd, (s.cycleEnd_idle hops hposts hdue hcmd hreqs).2, State.rd]

end

/-! The parts of a tick. -/

/-- From `r` to `s` TBASE has not moved, nor has a register below those of LAUTER's ports. -/
structure TimeKept (r s : State) : Prop where
  tb : s.tb = r.tb
  rd : ∀ f : Fld, f.key < (F.LT_Pn_STATUS_CREDIT_OK 0).key → s.rd f = r.rd f

theorem TimeKept.setCredit {r s : State} {p c : Nat} {v : Int} (h : TimeKept r s) : TimeKept r (s.setCredit p c v) := by
  unfold State.setCredit
  dsimp only
  split
  · refine ⟨h.tb, fun f hf => (State.rd_wr_ne _ _ _ _ ?_).trans (h.rd f hf)⟩
    simp only [Fld.key, F.LT_Pn_STATUS_CREDIT_OK] at hf ⊢
    omega
  · exact ⟨h.tb, h.rd⟩

theorem TimeKept.ite {r a b : State} {c : Prop} [Decidable c] (h : TimeKept r a) (g : TimeKept r b) : TimeKept r (if c then a else b) := by
  split <;> assumption

theorem TimeKept.foldl {α : Type} {r s : State} {f : State → α → State} (l : List α) (h : TimeKept r s)
    (hf : ∀ s x, TimeKept r s → TimeKept r (f s x)) : TimeKept r (l.foldl f s) :=
  List.foldlRecOn l f h (fun s hs x _ => hf s x hs)

theorem State.creditTick_timeKept (s : State) : TimeKept s s.creditTick :=
  .ite (.foldl _ ⟨rfl, fun _ _ => rfl⟩ (fun _ _ h => .foldl _ h (fun _ _ k => .ite k.setCredit k))) ⟨rfl, fun _ _ => rfl⟩

/-- What a slew adds in a tick (R530). -/
def State.slewShare (s : State) : Int := if s.tb.slewing then s.slewTick.1 else 0

theorem State.timeTick_slew (s : State) : s.timeTick.tb.slew = s.tb.slew - s.slewShare := by
  unfold State.timeTick State.slewShare
  split <;> rfl

/-- A counter with its fraction, as one number, after an addition. -/
theorem counterAdd_fine (dt : DWord) (frac : Word) (n : Nat) : (counterAdd dt frac n).1.toNat * 2 ^ 32 + (counterAdd dt frac n).2.toNat
    = (dt.toNat * 2 ^ 32 + frac.toNat + n) % 2 ^ 96 := by
  simp only [counterAdd, BitVec.toNat_add, BitVec.toNat_ofNat]
  omega

theorem State.dtFine_timeTick (s : State) : s.timeTick.dtFine = (s.dtFine + ((s.tbInc : Int) + s.slewShare).toNat) % 2 ^ 96 := by
  rw [State.dtFine, State.dtFine, ← counterAdd_fine]
  unfold State.timeTick State.slewShare
  split <;> rfl

theorem State.holdTick_tb (s : State) : s.holdTick.tb = s.tb := by unfold State.holdTick; split <;> rfl

theorem State.rd_holdTick_ne (s : State) {f : Fld} (hl : f.key ≠ F.TB_HOLD_NS_LO.key) (hh : f.key ≠ F.TB_HOLD_NS_HI.key) :
    s.holdTick.rd f = s.rd f := by
  unfold State.holdTick
  split
  · exact (State.rd_wr_ne _ _ _ _ hh).trans (State.rd_wr_ne _ _ _ _ hl)
  · rfl

theorem State.ppsTick_eq (s : State) : s.ppsTick.regs = s.regs ∧ ∃ e, s.ppsTick.tb = { s.tb with ppsOutEnd := e } := by
  unfold State.ppsTick
  split
  · split
    · exact ⟨State.emit_regs .., none, State.emit_tb ..⟩
    · exact ⟨rfl, _, rfl⟩
  · exact ⟨rfl, _, rfl⟩

/-- The part of a tick that moves device time (R33). -/
def State.islandTick (s : State) : State := s.creditTick.timeTick.holdTick.ppsTick

theorem State.tick_running {s : State} (h : s.timeRuns = true) : s.tick = { s.cycleEnd.islandTick with
    tb := { s.cycleEnd.islandTick.tb with
      mono := s.cycleEnd.islandTick.tb.mono + (s.cycleEnd.islandTick.tb.dt - s.tb.dt).toNat } } := by
  simp only [State.tick, h, if_true]; rfl

theorem State.tick_stopped {s : State} (h : s.timeRuns = false) :
    s.tick = { s.cycleEnd with tb := { s.cycleEnd.tb with mono := s.cycleEnd.tb.mono + 2 } } := by
  simp [State.tick, h]

/-- A tick of the island writes no register of TBASE below TB_HOLD_NS. -/
theorem State.rd_islandTick (s : State) {f : Fld} (hf : f.key < F.TB_HOLD_NS_LO.key) : s.islandTick.rd f = s.rd f := by
  have hne : f.key ≠ F.TB_HOLD_NS_LO.key ∧ f.key ≠ F.TB_HOLD_NS_HI.key := by
    simp only [Fld.key, F.TB_HOLD_NS_LO, F.TB_HOLD_NS_HI] at hf ⊢
    omega
  rw [State.islandTick, State.rd, (State.ppsTick_eq _).1, ← State.rd, State.rd_holdTick_ne _ hne.1 hne.2]
  exact s.creditTick_timeKept.rd f (hf.trans (by decide))

theorem State.islandTick_tb (s : State) : ∃ e, s.islandTick.tb = { s.creditTick.timeTick.tb with ppsOutEnd := e } := by
  obtain ⟨e, he⟩ := (State.ppsTick_eq s.creditTick.timeTick.holdTick).2
  exact ⟨e, he.trans (by rw [State.holdTick_tb])⟩

theorem State.tbInc_creditTick (s : State) : s.creditTick.tbInc = s.tbInc := by
  have h := s.creditTick_timeKept
  rw [State.tbInc, State.rd64, h.rd F.TB_INC_LO (by decide), h.rd F.TB_INC_HI (by decide), State.tbInc, State.rd64]

/-- The slew's share is a function of TBASE and its registers. -/
theorem State.slewShare_creditTick (s : State) : s.creditTick.slewShare = s.slewShare := by
  have h := s.creditTick_timeKept
  have hppm : s.creditTick.slewPpm = s.slewPpm := by rw [State.slewPpm, h.rd F.TB_SLEW_SLEW_PPM (by decide), State.slewPpm]
  rw [State.slewShare, State.slewTick, h.tb, hppm, s.tbInc_creditTick, State.slewShare, State.slewTick]

/-- What a tick of the island does to device time and to a slew (R33, R36, R530). -/
theorem State.islandTick_time (s : State) : s.islandTick.dtFine = (s.dtFine + ((s.tbInc : Int) + s.slewShare).toNat) % 2 ^ 96
    ∧ s.islandTick.tb.slew = s.tb.slew - s.slewShare := by
  obtain ⟨e, he⟩ := s.islandTick_tb
  have hc := s.creditTick_timeKept
  refine ⟨?_, ?_⟩
  · calc s.islandTick.dtFine = s.creditTick.timeTick.dtFine := by rw [State.dtFine, State.dtFine, he]
      _ = _ := by rw [State.dtFine_timeTick, s.tbInc_creditTick, s.slewShare_creditTick, State.dtFine, hc.tb, State.dtFine]
  · rw [he, ← s.slewShare_creditTick, ← hc.tb]
    exact State.timeTick_slew _

/-- The clock of the relative timers after a tick (R63). -/
theorem State.tick_mono (s : State) : s.tick.tb.mono = s.tb.mono + if s.timeRuns then (s.tick.tb.dt - s.tb.dt).toNat else 2 := by
  obtain ⟨u, hu, e⟩ := s.tick_kept
  rw [e]
  exact congrArg (· + _) hu.mono

theorem State.timeRuns_iff {s : State} : s.timeRuns = true ↔ s.crp.off = false ∧ s.crp.rstLow = false ∧ s.crp.tr ≤ s.tb.mono := by
  simp [State.timeRuns, and_assoc]

/-! Power-on and chip reset (R485, R488). -/

theorem State.rd_foldl_wr_notMem {l : List Fld} {v : Fld → Nat} {s : State} {f : Fld} (h : ∀ g ∈ l, f.key ≠ g.key) :
    (l.foldl (fun t g => t.wr g (v g)) s).rd f = s.rd f :=
  List.foldlRecOn (motive := fun t : State => t.rd f = s.rd f) l _ rfl (fun _ ht g hg => (State.rd_wr_ne _ _ _ _ (h g hg)).trans ht)

theorem State.foldl_wr_tb {l : List Fld} {v : Fld → Nat} {s : State} : (l.foldl (fun t g => t.wr g (v g)) s).tb = s.tb :=
  List.foldlRecOn (motive := fun t : State => t.tb = s.tb) l _ rfl (fun _ ht _ _ => ht)

theorem State.restart_tb (s : State) (keep : List Fld) : (s.restart keep).tb = { Tb.reset with mono := s.tb.mono } := State.foldl_wr_tb

/-- A field that a restart does not keep reads its reset value (R492). -/
theorem State.rd_restart {s : State} {keep : List Fld} {f : Fld} (h : ∀ g ∈ keep, f.key ≠ g.key) :
    (s.restart keep).rd f = f.rst % 2 ^ 32 :=
  (State.rd_foldl_wr_notMem h).trans (State.rd_of_regs_nil rfl f)

/-- Device time after a restart (R33). -/
def State.TimeAnew (s : State) : Prop := s.tb.dt = 0 ∧ s.tb.frac = 0 ∧ s.tbInc = 0x200000000 ∧ s.rd F.TB_STATUS_STATE = 0

theorem State.restart_timeAnew (s : State) {keep : List Fld}
    (hk : ∀ f ∈ [F.TB_INC_LO, F.TB_INC_HI, F.TB_STATUS_STATE], ∀ g ∈ keep, f.key ≠ g.key) : (s.restart keep).TimeAnew := by
  refine ⟨by rw [s.restart_tb]; rfl, by rw [s.restart_tb]; rfl, ?_, State.rd_restart (hk _ (by decide))⟩
  rw [State.tbInc, State.rd64, State.rd_restart (hk _ (by decide)), State.rd_restart (hk _ (by decide))]
  rfl

theorem State.TimeAnew.setCrp {s : State} (h : s.TimeAnew) (c : Crp) : ({ s with crp := c } : State).TimeAnew := h

theorem execPowerOn_off {v33 : Bool} {s : State} (h : s.crp.off = true) :
    exec (.powerOn v33) s = .next { s.powerOn with crp := { s.powerOn.crp with vio33 := v33 } } :=
  congrArg Host.Outcome.next (if_pos h)

theorem execChipReset_asked {s : State} (h : s.crp.chipReq = true) : exec .chipReset s = .next s.chipReset :=
  congrArg Host.Outcome.next (if_pos h)

theorem State.powerOn_timeAnew (s : State) : s.powerOn.TimeAnew := (s.restart_timeAnew (keep := norFields) (by decide)).setCrp _

theorem State.chipReset_timeAnew (s : State) : s.chipReset.TimeAnew :=
  (s.padsOff.restart_timeAnew (keep := norFields ++ chipFields) (by decide)).setCrp _

/-- Settles O5: the end of the core cycle by `cycleEnd_idle`, the island by `islandTick_time`, the two resets by `restart_timeAnew`. -/
theorem tickOfDeviceTime : Obligations.TickOfDeviceTime := by
  refine ⟨fun s hp hops hposts hdue hcmd hreqs => ?_, fun v33 s =>
    ⟨fun h => ⟨_, execPowerOn_off h, s.powerOn_timeAnew.setCrp _⟩, fun h => ⟨_, execChipReset_asked h, s.chipReset_timeAnew⟩⟩⟩
  obtain ⟨htb, hregs⟩ := s.cycleEnd_idle hops hposts hdue hcmd hreqs
  have hrd := s.rd_cycleEnd_idle hops hposts hdue hcmd hreqs
  refine ⟨fun hoff hlow htr => ⟨_, step_of_idle hp, ?_⟩, fun hstop => ⟨_, step_of_idle hp, ?_⟩⟩
  · have hrun : s.timeRuns = true := State.timeRuns_iff.mpr ⟨hoff, hlow, htr⟩
    obtain ⟨hdt, hslew⟩ := s.cycleEnd.islandTick_time
    have hrd' (f : Fld) (hf : f.key < F.TB_HOLD_NS_LO.key) : s.tick.rd f = s.rd f := by
      rw [State.tick_running hrun, State.rd_mk, State.rd_islandTick _ hf, hrd]
    have hinc : s.cycleEnd.tbInc = s.rd F.TB_INC_LO + 2 ^ 32 * s.rd F.TB_INC_HI := by rw [State.tbInc, State.rd64, hrd, hrd]
    have hfine : s.cycleEnd.dtFine = s.dtFine := by rw [State.dtFine, htb, State.dtFine]
    have htick : s.tick.tb.slew = s.cycleEnd.islandTick.tb.slew := by rw [State.tick_running hrun]
    rw [htb] at hslew
    refine ⟨?_, fun hs => ?_, ?_, hrd' _ (by decide), hrd' _ (by decide), hrd' _ (by decide)⟩
    · have hshare : s.tb.slew - s.tick.tb.slew = s.cycleEnd.slewShare := by rw [htick, hslew]; omega
      rw [hshare, ← hfine, ← Nat.cast_ofNat, ← Nat.cast_pow, ← Nat.cast_mul, ← Nat.cast_add, ← hinc, State.tick_running hrun]
      exact hdt
    · have hshare : s.cycleEnd.slewShare = 0 := by rw [State.slewShare, htb, hs]; rfl
      rw [htick, hslew, hshare, Int.sub_zero]
    · rw [s.tick_mono, if_pos hrun]
  · have hrun : s.timeRuns = false := by
      refine Bool.eq_false_iff.mpr (fun h => ?_)
      obtain ⟨hoff, hlow, htr⟩ := State.timeRuns_iff.mp h
      simp [hoff, hlow, Nat.not_lt.mpr htr] at hstop
    rw [State.tick_stopped hrun]
    refine ⟨?_, ?_, hregs⟩
    · rw [State.dtFine, State.dtFine, htb]
    · rw [htb]

theorem State.tick_pending (s : State) : s.tick.pending = s.pending := by
  obtain ⟨u, hu, e⟩ := s.tick_kept
  rw [e]
  exact hu.pending

theorem run_succ_of_next {M : Host.Core} (n : Nat) {s t : M.State} (h : M.step s = .next t) : M.run (n + 1) s = M.run n t := by
  rw [Host.Core.run, h]

/-- The steps of an idle block are ticks. -/
theorem run_of_idle (n : Nat) {s : State} (h : s.pending = []) : Host.Core.run Sys2Proof.core n s = .next (State.tick^[n] s) := by
  induction n generalizing s with
  | zero => rfl
  | succ n ih =>
    rw [Function.iterate_succ_apply, ← ih (s.tick_pending.trans h)]
    exact run_succ_of_next (M := Sys2Proof.core) n (step_of_idle h)

/-- From `s` to `t` no command has appeared, the clock of the relative timers has not gone back, and a canonical register file is
canonical still. -/
structure Waits (s t : State) : Prop where
  pending : t.pending = s.pending
  mono : s.tb.mono ≤ t.tb.mono
  canon : s.Canon → t.Canon

theorem State.tick_waits (s : State) : Waits s s.tick := ⟨s.tick_pending, by rw [s.tick_mono]; omega, tick_canon⟩

theorem State.ticks_wait (n : Nat) (s : State) : Waits s (State.tick^[n] s) := by
  induction n generalizing s with
  | zero => exact ⟨rfl, Nat.le_refl _, id⟩
  | succ n ih =>
    have h := s.tick_waits
    have g := ih s.tick
    exact ⟨g.pending.trans h.pending, h.mono.trans g.mono, g.canon ∘ h.canon⟩

/-- Settles O6: a step of the idle block is a tick, and `n` of them by induction. -/
theorem idleStepsPassTime : Obligations.IdleStepsPassTime := fun n s h =>
  have w := s.ticks_wait n
  ⟨⟨_, step_of_idle h, s.tick_mono⟩, _, run_of_idle n h, w.pending.trans h, w.mono, w.canon⟩

end Sys2Proof.Machine

/-! Which registers an update changes: the rules of `State.keepsRegs`, and what a count reads (R15). -/

namespace Sys2Proof.Machine

theorem State.rd_inc_same (s : State) (f : Fld) (h : f.w ≤ 32 := by decide) : (s.inc f).rd f = min (s.rd f + 1) (2 ^ f.w - 1) :=
  s.rd_add_same f 1 h

theorem State.rd_inc_ne (s : State) {f g : Fld} (h : g.key ≠ f.key) : (s.inc f).rd g = s.rd g := s.rd_add_ne f g 1 h

theorem State.rd_wr64_ne (s : State) {lo hi g : Fld} {v : Nat} (hl : g.key ≠ lo.key) (hh : g.key ≠ hi.key) : (s.wr64 lo hi v).rd g = s.rd g :=
  (State.rd_wr_ne _ _ _ _ hh).trans (State.rd_wr_ne _ _ _ _ hl)

theorem State.rd_of_regs {s t : State} (h : t.regs = s.regs) (f : Fld) : t.rd f = s.rd f := by rw [State.rd, h, State.rd]

theorem State.keepsRegs.refl (s : State) (l : List Fld) : s.keepsRegs s l := fun _ _ => rfl

section
variable {r s : State} {l : List Fld} (h : r.keepsRegs s l)
include h

theorem State.keepsRegs.of_regs {t : State} (e : t.regs = s.regs) : r.keepsRegs t l := fun f hf => (State.rd_of_regs e f).trans (h f hf)

theorem State.keepsRegs.wr {f : Fld} {v : Nat} (hf : f.key ∈ l.map Fld.key := by decide) : r.keepsRegs (s.wr f v) l :=
  fun g hg => (State.rd_wr_ne s f g v (fun e => hg (by rwa [e]))).trans (h g hg)

theorem State.keepsRegs.inc {f : Fld} (hf : f.key ∈ l.map Fld.key := by decide) : r.keepsRegs (s.inc f) l := h.wr hf

theorem State.keepsRegs.wr64 {lo hi : Fld} {v : Nat} (hl : lo.key ∈ l.map Fld.key := by decide)
    (hh : hi.key ∈ l.map Fld.key := by decide) : r.keepsRegs (s.wr64 lo hi v) l := (h.wr hl).wr hh

theorem State.keepsRegs.mono {l' : List Fld} (hl : l.map Fld.key ⊆ l'.map Fld.key := by decide) : r.keepsRegs s l' :=
  fun f hf => h f (fun g => hf (hl g))

theorem State.keepsRegs.trans {t : State} (g : s.keepsRegs t l) : r.keepsRegs t l := fun f hf => (g f hf).trans (h f hf)

theorem State.keepsRegs.onset {a b c : Nat} : r.keepsRegs (s.onset a b c) l := h.of_regs (State.onset_regs ..)

end

end Sys2Proof.Machine

/-! The states of the time base: the requests of TB_CTRL, the jump detector and the way out of JUMP (R40, R41, R58, R407, R453;
`Obligations.TimeBaseStateTransitions`). -/

namespace Sys2Proof.Machine

section
variable {m : Nat} {s : State}

theorem execAcq_accepts (h : s.accepts m 0x20000 permW) : exec (.acq m) s = .next s.acq :=
  congrArg Host.Outcome.next (State.busW_accepts h _)

theorem execLockReq_accepts (h : s.accepts m 0x20000 permW) : exec (.lockReq m) s = .next s.lockReq :=
  congrArg Host.Outcome.next (State.busW_accepts h _)

theorem execHoldReq_accepts (h : s.accepts m 0x20000 permW) : exec (.holdReq m) s = .next s.holdReq :=
  congrArg Host.Outcome.next (State.busW_accepts h _)

theorem execHoldExit_accepts (h : s.accepts m 0x20000 permW) : exec (.holdExit m) s = .next s.holdExit :=
  congrArg Host.Outcome.next (State.busW_accepts h _)

theorem execMeasOffsetWrite_accepts {offs : DWord} (h : s.accepts m 0x20074 permW) :
    exec (.measOffsetWrite m offs) s = .next (s.measOffset offs.toNat) :=
  congrArg Host.Outcome.next (State.busW_accepts h _)

end

/-! The jump detector (R58). -/

/-- The condition under which an offset is a jump. -/
def State.jumps (s : State) (offs : Int) : Prop := s.rd F.TB_STATUS_STATE = 2 ∧ s.rd F.TB_STEP_THR ≠ 0 ∧ s.rd F.TB_STEP_THR < offs.natAbs

/-- The state as a jump leaves it, before a slew begins. -/
def State.jumped (s : State) : State := (((s.raise0 Src.TIME_JUMP 0).wr F.TB_STATUS_JUMP_SEEN 1).inc F.TB_JUMP_CNT).wr F.TB_STATUS_STATE tbJump

/-- The slew that takes an offset away (R530). -/
def Tb.slewOff (tb : Tb) (offs : Int) : Tb := { tb with slewing := true, slew := -offs * 2 ^ 32, slewCarry := 0 }

section
variable {s : State} {offs : Int}

theorem State.presentOffset_quiet (h : ¬ s.jumps offs) : s.presentOffset offs = s := if_neg h

theorem State.presentOffset_slew (h : s.jumps offs) (hm : s.rd F.TB_CTRL_JUMP_MODE = 0) :
    s.presentOffset offs = { s.jumped with tb := s.tb.slewOff offs } := (if_pos h).trans (if_pos hm)

theorem State.presentOffset_step (h : s.jumps offs) (hm : s.rd F.TB_CTRL_JUMP_MODE ≠ 0) : s.presentOffset offs = s.jumped :=
  (if_pos h).trans (if_neg hm)

/-- A jump, whatever JUMP_MODE says of the slew. -/
theorem State.presentOffset_jump (h : s.jumps offs) :
    s.presentOffset offs = { s.jumped with tb := if s.rd F.TB_CTRL_JUMP_MODE = 0 then s.tb.slewOff offs else s.tb } := by
  by_cases hm : s.rd F.TB_CTRL_JUMP_MODE = 0
  · rw [if_pos hm, s.presentOffset_slew h hm]
  · rw [if_neg hm, s.presentOffset_step h hm]
    rfl

end

/-- The registers that a jump writes. -/
def jumpFields : List Fld := [F.TB_STATUS_STATE, F.TB_STATUS_JUMP_SEEN, F.TB_JUMP_CNT]

theorem State.jumped_keepsRegs (s : State) : s.keepsRegs s.jumped jumpFields :=
  (((State.keepsRegs.refl s _).of_regs rfl).wr.inc).wr

theorem State.rd_jumped_state (s : State) : s.jumped.rd F.TB_STATUS_STATE = 4 := State.rd_wr_same _ _ _ (by decide)

theorem State.rd_jumped_seen (s : State) : s.jumped.rd F.TB_STATUS_JUMP_SEEN = 1 := by
  rw [State.jumped, State.rd_wr_ne _ _ _ _ (by decide), State.rd_inc_ne _ (by decide)]
  exact State.rd_wr_same _ _ _ (by decide)

theorem State.rd_jumped_count (s : State) : s.jumped.rd F.TB_JUMP_CNT = min (s.rd F.TB_JUMP_CNT + 1) (2 ^ 32 - 1) := by
  rw [State.jumped, State.rd_wr_ne _ _ _ _ (by decide), State.rd_inc_same _ _, State.rd_wr_ne _ _ _ _ (by decide), State.rd_raise0]
  rfl

/-- The state with the measured offset in its registers (R527). -/
def State.measured (s : State) (offs : Nat) : State := s.wr64 F.TB_MEAS_OFFS_LO F.TB_MEAS_OFFS_HI offs

theorem State.measured_jumps {s : State} {offs : Nat} {d : Int} : (s.measured offs).jumps d ↔ s.jumps d := by
  rw [State.jumps, State.measured, State.rd_wr64_ne _ (by decide) (by decide), State.rd_wr64_ne _ (by decide) (by decide), State.jumps]

/-- Announces are missed while firmware has the servo (R40, R453). -/
theorem execAnnounceTimeout_servo {s : State}
    (h : s.on F.TB_CTRL_PTP_EN = true ∧ s.on F.TB_PTP_CFG_ROLE_OC = true ∧ s.on F.TB_SERVO_OWNER = false) :
    exec .announceTimeout s = .next ((if s.rd F.TB_STATUS_STATE = 2 then s.enterHoldover else s).onset Src.MG_SERVO 0xFF 0) :=
  congrArg Host.Outcome.next (if_pos ⟨h.1, h.2.1, by simp [h.2.2]⟩)

theorem execAnnounceTimeout_quiet {s : State}
    (h : ¬ (s.on F.TB_CTRL_PTP_EN = true ∧ s.on F.TB_PTP_CFG_ROLE_OC = true ∧ s.on F.TB_SERVO_OWNER = false)) :
    exec .announceTimeout s = .next s :=
  congrArg Host.Outcome.next (if_neg (fun g => h ⟨g.1, g.2.1, by simpa using g.2.2⟩))

/-- A slew whose remainder has reached 0 leaves JUMP (R40, R407). -/
theorem execSlewComplete_done {s : State} (hj : s.rd F.TB_STATUS_STATE = 4) (hs : s.tb.slewing = true) (h0 : s.tb.slew = 0) :
    exec .slewComplete s = .next s.leaveJump :=
  congrArg Host.Outcome.next (if_pos ⟨hj, hs, h0⟩)

theorem State.leaveJump_of_slew_zero {s : State} (h0 : s.tb.slew = 0) : s.leaveJump =
    if s.rd F.CRP_PWR_STATUS_STATE = 2 ∨ s.crp.toHold = true then
      ({ s with tb := { s.tb with slewing := false, slewCarry := 0 } } : State).enterHoldover
    else ({ s with tb := { s.tb with slewing := false, slewCarry := 0 } } : State).wr F.TB_STATUS_STATE 2 := by
  rw [State.leaveJump, ← h0]
  rfl

theorem State.presentOffset_keepsRegs (s : State) (offs : Int) : s.keepsRegs (s.presentOffset offs) jumpFields := by
  by_cases h : s.jumps offs
  · rw [s.presentOffset_jump h]
    exact s.jumped_keepsRegs.of_regs rfl
  · rw [s.presentOffset_quiet h]
    exact State.keepsRegs.refl s _

theorem State.measOffset_eq (s : State) (offs : Nat) : s.measOffset offs = (s.measured offs).presentOffset (toSigned 64 offs) := rfl

/-- A written offset stands in its registers, jump or none (R527). -/
theorem State.rd64_measOffset (s : State) (offs : DWord) : (s.measOffset offs.toNat).rd64 F.TB_MEAS_OFFS_LO F.TB_MEAS_OFFS_HI = offs.toNat := by
  have hk := (s.measured offs.toNat).presentOffset_keepsRegs (toSigned 64 offs.toNat)
  rw [State.rd64, State.measOffset_eq, hk _ (by decide), hk _ (by decide)]
  exact s.rd64_wr64_same _ _ _ rfl rfl (by decide) offs.isLt

/-- A written offset that is a jump. -/
theorem State.measOffset_jump {s : State} {offs : Nat} (h : s.jumps (toSigned 64 offs)) : s.measOffset offs = { (s.measured offs).jumped with
    tb := if s.rd F.TB_CTRL_JUMP_MODE = 0 then s.tb.slewOff (toSigned 64 offs) else s.tb } := by
  rw [State.measOffset_eq, State.presentOffset_jump (State.measured_jumps.mpr h), State.measured, State.rd_wr64_ne _ (by decide) (by decide)]
  rfl

/-- Settles O10: the requests by their rules, the detector by `measOffset_jump`, the way out of JUMP by `leaveJump_of_slew_zero`. -/
theorem timeBaseStateTransitions : Obligations.TimeBaseStateTransitions := by
  refine ⟨fun m s h => ⟨execAcq_accepts h, execLockReq_accepts h, execHoldReq_accepts h, execHoldExit_accepts h⟩,
    fun m offs s h => ⟨_, execMeasOffsetWrite_accepts h, s.rd64_measOffset offs, fun hj => ?_,
      fun hj => State.presentOffset_quiet (fun g => hj (State.measured_jumps.mp g))⟩,
    fun s hj hs h0 => (execSlewComplete_done hj hs h0).trans (congrArg _ (s.leaveJump_of_slew_zero h0)),
    fun s => ⟨execAnnounceTimeout_servo, execAnnounceTimeout_quiet⟩⟩
  rw [State.measOffset_jump hj]
  refine ⟨State.rd_jumped_state _, State.rd_jumped_seen _, ?_, rfl, fun hm => if_pos hm, fun hm => if_neg hm, ?_, rfl⟩
  · rw [State.rd_mk, State.rd_jumped_count, State.measured, State.rd_wr64_ne _ (by decide) (by decide)]
  · have hm : s.keepsRegs (s.measured offs.toNat) [F.TB_MEAS_OFFS_LO, F.TB_MEAS_OFFS_HI] := (State.keepsRegs.refl s _).wr64
    exact (hm.mono.trans (State.jumped_keepsRegs _).mono).of_regs rfl

end Sys2Proof.Machine

/-! The servo and the increment (R34, R54 to R57; `Obligations.ServoAndIncrement`). -/

namespace Sys2Proof.Machine

section
variable {m inc : Nat} {s : State}

theorem execTbIncWrite_accepts (h : s.accepts m 0x20020 permW) : exec (.tbIncWrite m inc) s = .next (s.incWrite m inc) :=
  congrArg Host.Outcome.next (State.busW_accepts h _)

theorem execServoRequest_accepts (h : s.accepts m 0x20080 permW) : exec (.servoRequest m) s = .next (s.servoReq m true) :=
  congrArg Host.Outcome.next (State.busW_accepts h _)

theorem execServoReturn_accepts (h : s.accepts m 0x20080 permW) : exec (.servoReturn m) s = .next (s.servoReq m false) :=
  congrArg Host.Outcome.next (State.busW_accepts h _)

theorem State.incWrite_rejected (h : m ≠ s.servoOwner ∨ s.rd F.TB_STATUS_STATE = 3) : s.incWrite m inc = s.inc F.TB_INC_REJ := if_pos h

/-- The state with an increment stored: clamped, and flagged where the clamp changed it (R34). -/
def State.incStored (s : State) (inc : Nat) : State :=
  if clampInc (inc % 2 ^ 36) = inc % 2 ^ 36 then s.wr64 F.TB_INC_LO F.TB_INC_HI (clampInc (inc % 2 ^ 36))
  else (s.wr64 F.TB_INC_LO F.TB_INC_HI (clampInc (inc % 2 ^ 36))).wr F.TB_STATUS_INC_CLAMP 1

theorem State.incStored_tb (s : State) (inc : Nat) : (s.incStored inc).tb = s.tb := by unfold State.incStored; split <;> rfl

theorem State.incWrite_owner (hm : m = s.servoOwner) (hs : s.rd F.TB_STATUS_STATE ≠ 3) :
    s.incWrite m inc = { s.incStored inc with tb := { s.tb with incAt := s.tb.mono } } := by
  rw [← s.incStored_tb inc]
  exact if_neg (not_or.mpr ⟨fun h => h hm, hs⟩)

end

/-- Settles O11: a TB_INC write by `incWrite_owner` and `incWrite_rejected`, the rest by the branch that each hypothesis chooses. -/
theorem servoAndIncrement : Obligations.ServoAndIncrement :=
  ⟨fun m inc s h => ⟨fun hm hs => (execTbIncWrite_accepts h).trans (congrArg _ (State.incWrite_owner hm hs)),
      fun hr => (execTbIncWrite_accepts h).trans (congrArg _ (State.incWrite_rejected hr))⟩,
    fun _ h => ⟨execServoRequest_accepts h, execServoReturn_accepts h⟩,
    fun _ hq ho => congrArg Host.Outcome.next (if_pos ⟨hq, by simp [ho]⟩),
    fun _ ho hw ht => congrArg Host.Outcome.next (if_pos ⟨ho, hw, ht⟩)⟩

end Sys2Proof.Machine

/-! The module's own frames (R105, R106, R353, R357, R364, R370): storing a frame's bytes in cells touches registers, GRIST, PITCH's trace
and what is raised, and nothing else. -/

namespace Sys2Proof.Machine

/-- From `r` to `s` nothing has moved but registers, GRIST, PITCH and CELLAR. -/
def CellsKept (r s : State) : Prop := s = { r with regs := s.regs, gr := s.gr, pt := s.pt, cl := s.cl }

namespace CellsKept

theorem refl (s : State) : CellsKept s s := rfl

theorem trans {r s t : State} (h : CellsKept r s) (g : CellsKept s t) : CellsKept r t := by
  unfold CellsKept at h
  have e := congrArg (fun x : State => ({ x with regs := t.regs, gr := t.gr, pt := t.pt, cl := t.cl } : State)) h
  exact Eq.trans g e

theorem ite {r a b : State} {c : Prop} [Decidable c] (h : CellsKept r a) (g : CellsKept r b) : CellsKept r (if c then a else b) := by
  split <;> assumption

section
variable {r s : State} (h : CellsKept r s)
include h

theorem wr {f : Fld} {v : Nat} : CellsKept r (s.wr f v) := h.trans rfl

theorem raise {a b : Nat} {c : Option Nat} {d : Nat} : CellsKept r (s.raise a b c d) := h.trans rfl

theorem setChain {c : Nat} {v : Option Chain} : CellsKept r (s.setChain c v) := h.trans rfl

theorem takeCell {m q : Nat} : CellsKept r (s.takeCell m q) := .ite h.wr.wr.wr.wr h.wr.wr.wr

theorem newChain {m q : Nat} : CellsKept r (s.newChain m q).1 := h.takeCell.wr.setChain

theorem cellFailed {m : Nat} {f : CellFail} : CellsKept r (s.cellFailed m f) := by
  cases f
  · exact h.wr.wr
  · exact h.wr.wr.raise
  · exact h.wr.wr.raise

theorem traceDecision {k a b c : Nat} : CellsKept r (s.traceDecision k a b c) :=
  have hp {t : List (Nat × DWord)} : CellsKept r ({ s with pt := { s.pt with trace := t } } : State) := h.trans rfl
  .ite (.ite h.wr.wr (.ite hp.wr.wr.wr hp.wr.wr)) h

theorem noChoice {k a : Nat} : CellsKept r (s.noChoice k a) := h.wr.raise.traceDecision

theorem firstCell {q : ChainReq} : CellsKept r (s.firstCell q).1 := by
  unfold State.firstCell
  dsimp only
  split
  · exact traceDecision (.ite h.newChain.wr h.newChain)
  · split
    · split
      · exact h.cellFailed.newChain.wr.traceDecision
      · exact h.cellFailed.cellFailed.traceDecision
    · exact .ite h.cellFailed.traceDecision.noChoice h.cellFailed.traceDecision

theorem nextCell {c : Nat} : CellsKept r (s.nextCell c).1 := by
  unfold State.nextCell
  split
  · exact h
  · split
    · exact h.takeCell.setChain
    · exact h.cellFailed

theorem freeChain {c : Nat} : CellsKept r (s.freeChain c) := by
  unfold State.freeChain
  split
  · exact h
  · exact .ite (.ite (h.setChain.wr.wr.trans rfl) h.setChain.wr.wr.wr) (.ite (h.setChain.wr.wr.trans rfl) h.setChain.wr.wr.wr)

theorem moreCells {c : Nat} : ∀ n, CellsKept r (s.moreCells c n).1 := by
  intro n
  induction n generalizing s with
  | zero => exact h
  | succ n ih =>
    rw [State.moreCells]
    split
    · exact ih h.nextCell
    · exact h.nextCell

theorem storeChain {q : ChainReq} {data : List Byte} : CellsKept r (s.storeChain q data).1 := by
  have hf := h.firstCell (q := q)
  unfold State.storeChain
  rcases hc : s.firstCell q with ⟨s1, _ | c⟩
  · rw [hc] at hf
    exact hf
  · rw [hc] at hf
    have hm := hf.moreCells (c := c) (cellsFor data.length - 1)
    dsimp only
    split
    · split
      · exact hm.setChain
      · exact hm
    · exact hm.freeChain

end

end CellsKept

/-- From `r` to `s` neither TBASE nor KILN has moved, and nothing has left. -/
structure OwnKept (r s : State) : Prop where
  tb : s.tb = r.tb
  kn : s.kn = r.kn
  wire : s.wire = r.wire

theorem CellsKept.ownKept {r s : State} (h : CellsKept r s) : OwnKept r s := by
  rw [h]
  exact ⟨rfl, rfl, rfl⟩

theorem State.ownItem_ownKept (s : State) (it : Item) : OwnKept s (s.ownItem it) := by
  have h : CellsKept s (s.storeChain ⟨6, none, false, none⟩ it.data).1 := (CellsKept.refl s).storeChain
  unfold State.ownItem
  split
  · rcases hc : s.storeChain ⟨6, none, false, none⟩ it.data with ⟨s1, _ | c⟩
    · rw [hc] at h
      exact h.wr.raise.ownKept
    · rw [hc] at h
      obtain ⟨htb, hkn, hw⟩ := h.ownKept
      exact ⟨htb, hkn, hw⟩
  · exact ((CellsKept.refl s).wr.raise).ownKept

end Sys2Proof.Machine

/-! Captures and the follower (R38, R47, R49, R52, R67, R68, R527, R528; `Obligations.CapturesAndFollower`). -/

namespace Sys2Proof.Machine

/-! Conditions (R417). -/

theorem State.mem_onset (s : State) (src inst info : Nat) : (src, inst) ∈ (s.onset src inst info).cl.conds := by
  unfold State.onset
  split
  · assumption
  · exact List.mem_cons_self

theorem State.notMem_condEnd (s : State) (src inst : Nat) : (src, inst) ∉ (s.condEnd src inst).cl.conds := by
  have h : (src, inst) ∉ s.cl.conds.filter (fun p => !(p == (src, inst))) := by simp
  unfold State.condEnd
  dsimp only
  split
  · exact h
  · exact h

theorem State.onset_eq (s : State) (src inst info : Nat) : s.onset src inst info = { s with cl := (s.onset src inst info).cl } := by
  unfold State.onset
  split <;> rfl

theorem State.condEnd_shape (s : State) (src inst : Nat) : ∃ regs cl, s.condEnd src inst = { s with regs := regs, cl := cl } := by
  unfold State.condEnd
  dsimp only
  split
  · exact ⟨_, _, rfl⟩
  · exact ⟨_, _, rfl⟩

/-! TB_MEAS_SEQ (R527). -/

theorem execMeasSeqWrite_accepts {m : Nat} {seq : Word} {s : State} (h : s.accepts m 0x2007C permW) :
    exec (.measSeqWrite m seq) s = .next (s.measSeq seq.toNat) :=
  congrArg Host.Outcome.next (State.busW_accepts h _)

theorem State.measSeq_eq (s : State) (seq : Nat) : s.measSeq seq = if s.on (F.QE_EVT_MAP_n_EN 0)
    then (s.wr F.TB_MEAS_SEQ seq).msix 0 (s.rd (F.QE_EVT_MAP_n_VEC 0)) else s.wr F.TB_MEAS_SEQ seq := by
  rw [State.measSeq, State.sendEvent, State.on, State.rd_wr_ne _ _ _ _ (by decide), State.rd_wr_ne _ _ _ _ (by decide), State.on]

/-! PPS_IN (R67). -/

/-- The distance of an edge from the expected one, in quarter ns (R67). -/
def State.ppsInOff (s : State) (q : Nat) : Int := (s.quarters q : Int) - (s.tb.ppsInAt + 4000000000)

/-- An edge of PPS_IN outside its window (R67). -/
def State.ppsInBad (s : State) (q : Nat) : Prop := s.tb.ppsInHave = true ∧ s.rd F.TB_PPSI_CFG_WIN_US * 4000 < (s.ppsInOff q).natAbs

/-- The registers with an edge of PPS_IN stamped. -/
def State.ppsInRegs (s : State) (q : Nat) : State :=
  (s.wr64 F.TB_PPSI_TS_LO F.TB_PPSI_TS_HI (s.stampQ q).ns.toNat).wr F.TB_PPSI_TS_FRAC (s.stampQ q).frac.toNat

/-- The state with an edge of PPS_IN stamped. -/
def State.ppsInStamped (s : State) (q : Nat) : State :=
  { s.ppsInRegs q with tb := { (s.ppsInRegs q).tb with ppsInAt := s.quarters q, ppsInHave := true } }

theorem execPpsInEdge_eq (e : PinEdge) (s : State) : exec (.ppsInEdge e) s = .next (
    if s.on F.TB_PPSI_CFG_EN ∧ (e.rising = !s.on F.TB_PPSI_CFG_EDGE) then
      if s.tb.ppsInHave ∧ s.rd F.TB_PPSI_CFG_WIN_US * 4000 < (s.ppsInOff e.quarter.val).natAbs then
        (s.ppsInStamped e.quarter.val).inc F.TB_PPSI_CNT_BAD
      else ((s.ppsInStamped e.quarter.val).wr F.TB_STATUS_PPS_IN_OK 1).condEnd Src.PPS_IN_LOSS 0xFF
    else s) := rfl

section
variable {s : State} {rising : Bool} {q : Fin 8} (hen : s.on F.TB_PPSI_CFG_EN = true) (hedge : rising = !s.on F.TB_PPSI_CFG_EDGE)
include hen hedge

theorem execPpsInEdge_bad (hb : s.ppsInBad q.val) :
    exec (.ppsInEdge ⟨rising, q⟩) s = .next ((s.ppsInStamped q.val).inc F.TB_PPSI_CNT_BAD) := by
  rw [State.ppsInBad] at hb
  rw [execPpsInEdge_eq, if_pos ⟨hen, hedge⟩, if_pos hb]

theorem execPpsInEdge_good (hb : ¬ s.ppsInBad q.val) : exec (.ppsInEdge ⟨rising, q⟩) s
    = .next (((s.ppsInStamped q.val).wr F.TB_STATUS_PPS_IN_OK 1).condEnd Src.PPS_IN_LOSS 0xFF) := by
  rw [State.ppsInBad] at hb
  rw [execPpsInEdge_eq, if_pos ⟨hen, hedge⟩, if_neg hb]

end

theorem State.rd_ppsInStamped (s : State) (q : Nat) (f : Fld) : (s.ppsInStamped q).rd f = (s.ppsInRegs q).rd f := State.rd_mk ..

theorem State.rd64_ppsInStamped (s : State) (q : Nat) :
    (s.ppsInStamped q).rd64 F.TB_PPSI_TS_LO F.TB_PPSI_TS_HI = s.quarters q / 4 % 2 ^ 64 := by
  have hne (f : Fld) (h : f.key ≠ F.TB_PPSI_TS_FRAC.key) :
      (s.ppsInStamped q).rd f = (s.wr64 F.TB_PPSI_TS_LO F.TB_PPSI_TS_HI (s.stampQ q).ns.toNat).rd f := by
    rw [State.rd_ppsInStamped, State.ppsInRegs, State.rd_wr_ne _ _ _ _ h]
  rw [State.rd64, hne _ (by decide), hne _ (by decide)]
  exact (s.rd64_wr64_same _ _ _ rfl rfl (by decide) (BitVec.isLt _)).trans (BitVec.toNat_ofNat ..)

theorem State.rd_ppsInStamped_frac (s : State) (q : Nat) :
    (s.ppsInStamped q).rd F.TB_PPSI_TS_FRAC = s.quarters q % 4 * 2 ^ 30 + s.rd F.TB_EPOCH % 256 := by
  have hlt : s.quarters q % 4 * 2 ^ 30 + s.rd F.TB_EPOCH % 256 < 2 ^ 32 := by omega
  rw [State.rd_ppsInStamped, State.ppsInRegs, State.rd_wr_same _ _ _ (by decide), State.stampQ]
  simp only [BitVec.toNat_ofNat, F.TB_PPSI_TS_FRAC, Nat.mod_eq_of_lt hlt]

/-- The registers of an edge's stamp (R67). -/
def ppsInTs : List Fld := [F.TB_PPSI_TS_LO, F.TB_PPSI_TS_HI, F.TB_PPSI_TS_FRAC]

/-- What every stamped edge leaves, whatever is written after it. -/
theorem State.ppsInStamped_read {s t : State} {q : Nat}
    (hrd : ∀ f ∈ ppsInTs, t.rd f = (s.ppsInStamped q).rd f) :
    t.rd64 F.TB_PPSI_TS_LO F.TB_PPSI_TS_HI = s.quarters q / 4 % 2 ^ 64
      ∧ t.rd F.TB_PPSI_TS_FRAC = s.quarters q % 4 * 2 ^ 30 + s.rd F.TB_EPOCH % 256 := by
  rw [State.rd64, hrd _ (by decide), hrd _ (by decide), hrd _ (by decide)]
  exact ⟨s.rd64_ppsInStamped q, s.rd_ppsInStamped_frac q⟩

theorem State.rd_condEnd_tbase (s : State) (src inst : Nat) {f : Fld} (h : f.off < 0x30000 ∧ f.lo < 32 := by decide) :
    (s.condEnd src inst).rd f = s.rd f :=
  State.rd_condEnd_ne (by simp only [Fld.key, F.CL_ACTIVE_w]; omega)

/-- A stamped edge inside its window, or the first one: PPS_IN is good, and its loss is over (R67). -/
def State.ppsInOk (s : State) (q : Nat) : State := ((s.ppsInStamped q).wr F.TB_STATUS_PPS_IN_OK 1).condEnd Src.PPS_IN_LOSS 0xFF

theorem State.rd_ppsInOk_ne (s : State) (q : Nat) {f : Fld} (hf : f.key ≠ F.TB_STATUS_PPS_IN_OK.key)
    (h : f.off < 0x30000 ∧ f.lo < 32 := by decide) : (s.ppsInOk q).rd f = (s.ppsInStamped q).rd f :=
  (State.rd_condEnd_tbase _ _ _ h).trans (State.rd_wr_ne _ _ _ _ hf)

theorem State.rd_ppsInOk (s : State) (q : Nat) : (s.ppsInOk q).rd F.TB_STATUS_PPS_IN_OK = 1 :=
  (State.rd_condEnd_tbase _ _ _).trans (State.rd_wr_same _ _ _ (by decide))

theorem State.wr_wr64_shape (s : State) (lo hi f : Fld) (v w : Nat) : ∃ regs, (s.wr64 lo hi v).wr f w = { s with regs := regs } :=
  ⟨_, rfl⟩

theorem State.ppsInStamped_shape (s : State) (q : Nat) : ∃ regs, s.ppsInStamped q = { s with
    regs := regs, tb := { s.tb with ppsInAt := s.quarters q, ppsInHave := true } } := by
  obtain ⟨regs, h⟩ := s.wr_wr64_shape F.TB_PPSI_TS_LO F.TB_PPSI_TS_HI F.TB_PPSI_TS_FRAC (s.stampQ q).ns.toNat (s.stampQ q).frac.toNat
  exact ⟨regs, by rw [State.ppsInStamped, State.ppsInRegs, h]⟩

theorem State.ppsInOk_shape (s : State) (q : Nat) : ∃ regs cl, s.ppsInOk q = { s with
    regs := regs, tb := { s.tb with ppsInAt := s.quarters q, ppsInHave := true }, cl := cl } := by
  obtain ⟨r, h⟩ := s.ppsInStamped_shape q
  obtain ⟨regs, cl, h'⟩ := ((s.ppsInStamped q).wr F.TB_STATUS_PPS_IN_OK 1).condEnd_shape Src.PPS_IN_LOSS 0xFF
  exact ⟨regs, cl, by rw [State.ppsInOk, h', h]; rfl⟩

/-- PPS_IN has been absent (R67). -/
def State.ppsInLost (s : State) : State := ((s.inc F.TB_PPSI_CNT_MISS).wr F.TB_STATUS_PPS_IN_OK 0).onset Src.PPS_IN_LOSS 0xFF 0

theorem execPpsInLoss_due {s : State} (hen : s.on F.TB_PPSI_CFG_EN = true) (h : s.tb.ppsInAt + 6000000000 ≤ s.quarters 0) :
    exec .ppsInLoss s = .next { s.ppsInLost with tb := { s.ppsInLost.tb with ppsInAt := s.quarters 0, ppsInHave := false } } := by
  show execPpsInLoss s = _
  rw [execPpsInLoss, if_pos ⟨hen, h⟩, State.ppsInLost]

theorem State.ppsInLost_keepsRegs (s : State) : s.keepsRegs s.ppsInLost [F.TB_PPSI_CNT_MISS, F.TB_STATUS_PPS_IN_OK] :=
  (State.keepsRegs.refl s _).inc.wr.onset

theorem State.rd_ppsInLost_miss (s : State) : s.ppsInLost.rd F.TB_PPSI_CNT_MISS = min (s.rd F.TB_PPSI_CNT_MISS + 1) 0xFFFF := by
  rw [State.ppsInLost, State.rd_onset, State.rd_wr_ne _ _ _ _ (by decide), State.rd_inc_same _ F.TB_PPSI_CNT_MISS]
  rfl

theorem State.rd_ppsInLost_ok (s : State) : s.ppsInLost.rd F.TB_STATUS_PPS_IN_OK = 0 := by
  rw [State.ppsInLost, State.rd_onset]
  exact State.rd_wr_same _ _ _ (by decide)

theorem State.ppsInLost_eq (s : State) : s.ppsInLost = { s with regs := s.ppsInLost.regs, cl := s.ppsInLost.cl } := by
  rw [State.ppsInLost, State.onset_eq]
  rfl

/-! TIN0 and TIN1 (R38, R68): what the model says of each pin, said of both. -/

def tinEn (pin : Fin 2) : Fld := if pin.val = 0 then F.TB_TIN0_CFG_EN else F.TB_TIN1_CFG_EN
def tinSel (pin : Fin 2) : Fld := if pin.val = 0 then F.TB_TIN0_CFG_EDGE else F.TB_TIN1_CFG_EDGE
def tinOvf (pin : Fin 2) : Fld := if pin.val = 0 then F.TB_TIN0_STAT_OVF else F.TB_TIN1_STAT_OVF

/-- The FIFO of a pin. -/
def Tb.tin (tb : Tb) (pin : Fin 2) : List Stamp := if pin.val = 0 then tb.tin0 else tb.tin1
/-- The last edge of a pin. -/
def Tb.tinLast (tb : Tb) (pin : Fin 2) : Option Nat := if pin.val = 0 then tb.tinLast0 else tb.tinLast1
/-- The time base with an edge of a pin seen, stored or not. -/
def Tb.tinSeen (tb : Tb) (pin : Fin 2) (now : Nat) : Tb :=
  if pin.val = 0 then { tb with tinLast0 := some now } else { tb with tinLast1 := some now }
/-- The time base with another FIFO. -/
def Tb.setTin (tb : Tb) (pin : Fin 2) (l : List Stamp) : Tb := if pin.val = 0 then { tb with tin0 := l } else { tb with tin1 := l }

/-- Is an edge closer than 8 ns to the last one (R68)? -/
def tinClose (last : Option Nat) (now : Nat) : Bool := match last with | some l => decide (now < l + 32) | none => false

theorem tinClose_eq (last : Option Nat) (now : Nat) : tinClose last now = !last.all (fun l => decide (l + 32 ≤ now)) := by
  cases last with
  | none => rfl
  | some l => simp only [tinClose, Option.all_some, ← decide_not, Nat.not_le]

/-- Does the pin take an edge (R68)? -/
def State.tinTaken (s : State) (pin : Fin 2) (rising : Bool) : Prop := s.on (tinEn pin) = true ∧ tinTakes (s.rd (tinSel pin)) rising = true

theorem State.tinTaken_iff {s : State} {pin : Fin 2} {rising : Bool} : s.tinTaken pin rising
    ↔ s.on (tinEn pin) = true ∧ (2 ≤ s.rd (tinSel pin) ∨ (s.rd (tinSel pin) = 0 ↔ rising = true)) := by
  cases rising <;> simp [State.tinTaken, tinTakes]

/-- Quarter ns of the clock without the steps, `q` quarters after the present tick. -/
def State.monoQ (s : State) (q : Nat) : Nat := s.tb.mono * 4 + q

section
variable {s : State} {pin : Fin 2} {rising : Bool} {q : Fin 8}

theorem execTinEdge_notTaken (h : ¬ s.tinTaken pin rising) : exec (.tinEdge pin rising q) s = .next s := by
  match pin with
  | 0 => exact congrArg Host.Outcome.next (if_neg h)
  | 1 => exact congrArg Host.Outcome.next (if_neg h)

theorem execTinEdge_discarded (h : s.tinTaken pin rising)
    (hd : (tinClose (s.tb.tinLast pin) (s.monoQ q.val) || decide (16 ≤ (s.tb.tin pin).length)) = true) :
    exec (.tinEdge pin rising q) s = .next { (s.inc (tinOvf pin)).raise Src.TIN_OVF pin.val none 0 with tb := s.tb.tinSeen pin (s.monoQ q.val) } := by
  match pin with
  | 0 => exact congrArg Host.Outcome.next ((if_pos h).trans (if_pos hd))
  | 1 => exact congrArg Host.Outcome.next ((if_pos h).trans (if_pos hd))

theorem execTinEdge_stored (h : s.tinTaken pin rising)
    (hd : ¬ (tinClose (s.tb.tinLast pin) (s.monoQ q.val) || decide (16 ≤ (s.tb.tin pin).length)) = true) :
    exec (.tinEdge pin rising q) s = .next { s with
      tb := (s.tb.tinSeen pin (s.monoQ q.val)).setTin pin (s.tb.tin pin ++ [s.stampQ q.val]) } := by
  match pin with
  | 0 => exact congrArg Host.Outcome.next ((if_pos h).trans (if_neg hd))
  | 1 => exact congrArg Host.Outcome.next ((if_pos h).trans (if_neg hd))

end

/-- The words that a pop latches for its master: the high word and the fraction (R12, R38). -/
def State.tinLatched (s : State) (m : Nat) (pin : Fin 2) : List (Nat × Option Word) :=
  let st := (s.tb.tin pin).headD ⟨0, 0⟩
  Sparse.put none (Sparse.put none s.latched (m * 2 ^ 24 + (0x20148 + 0x20 * pin.val + 4)) (some (BitVec.ofNat 32 (st.ns.toNat / 2 ^ 32))))
    (m * 2 ^ 24 + (0x20148 + 0x20 * pin.val + 8)) (some st.frac)

theorem State.tinPop_eq (s : State) (m : Nat) (pin : Fin 2) : s.tinPop m pin.val = { s with
    tb := s.tb.setTin pin (s.tb.tin pin).tail
    readData := [BitVec.ofNat 32 ((s.tb.tin pin).headD ⟨0, 0⟩).ns.toNat]
    latched := s.tinLatched m pin } := by
  match pin with
  | 0 => rfl
  | 1 => rfl

theorem State.get_tinLatched_high (s : State) (m : Nat) (pin : Fin 2) : Sparse.get none (s.tinLatched m pin) (m * 2 ^ 24 + 0x2014C + 0x20 * pin.val)
    = some (BitVec.ofNat 32 (((s.tb.tin pin).headD ⟨0, 0⟩).ns.toNat / 2 ^ 32)) := by
  rw [State.tinLatched, Sparse.get_put_ne _ _ _ (by omega),
    show m * 2 ^ 24 + 0x2014C + 0x20 * pin.val = m * 2 ^ 24 + (0x20148 + 0x20 * pin.val + 4) by omega, Sparse.get_put_same]

theorem State.get_tinLatched_frac (s : State) (m : Nat) (pin : Fin 2) : Sparse.get none (s.tinLatched m pin) (m * 2 ^ 24 + 0x20150 + 0x20 * pin.val)
    = some ((s.tb.tin pin).headD ⟨0, 0⟩).frac := by
  rw [State.tinLatched,
    show m * 2 ^ 24 + 0x20150 + 0x20 * pin.val = m * 2 ^ 24 + (0x20148 + 0x20 * pin.val + 8) by omega, Sparse.get_put_same]

theorem execTinFifoPop_gives {m : Nat} {pin : Fin 2} {s : State} (h : s.gives m (0x20148 + 0x20 * pin.val)) :
    exec (.tinFifoPop m pin) s = .next (s.tinPop m pin.val) :=
  congrArg Host.Outcome.next (State.busR_gives h _)

/-! The follower (R52, R528). -/

/-- From `r` to `s` nothing has moved but KILN and registers above those of TBASE. -/
structure GatesKept (r s : State) : Prop where
  shape : ∃ regs kn, s = { r with regs := regs, kn := kn }
  rd : ∀ f : Fld, f.key < 0x30000 * 32 → s.rd f = r.rd f

namespace GatesKept

theorem refl (s : State) : GatesKept s s := ⟨⟨s.regs, s.kn, rfl⟩, fun _ _ => rfl⟩

section
variable {r s : State} (h : GatesKept r s)
include h

theorem wr {f : Fld} {v : Nat} (hf : 0x30000 ≤ f.off) : GatesKept r (s.wr f v) := by
  obtain ⟨⟨regs, kn, e⟩, hrd⟩ := h
  refine ⟨⟨(s.wr f v).regs, kn, by rw [e]; rfl⟩, fun g hg => (State.rd_wr_ne s f g v ?_).trans (hrd g hg)⟩
  simp only [Fld.key] at hg ⊢
  omega

theorem setKnPort {p : Nat} {v : KnPort} : GatesKept r (s.setKnPort p v) := by
  obtain ⟨⟨regs, kn, e⟩, hrd⟩ := h
  exact ⟨⟨regs, (s.setKnPort p v).kn, by rw [e]; rfl⟩, hrd⟩

theorem setHold {p : Nat} {b : Bool} : GatesKept r (s.setHold p b) :=
  (h.wr (Nat.le_add_right_of_le (by decide))).wr (Nat.le_add_right_of_le (by decide))

theorem gatesNow {p : Nat} : GatesKept r (s.gatesNow p) := by
  have h1 {v : KnPort} {n : Nat} : GatesKept r ((s.setKnPort p v).add (F.KN_Pn_EVT_CNT p) n) :=
    h.setKnPort.wr (Nat.le_add_right_of_le (by decide))
  unfold State.gatesNow
  dsimp only
  split
  · split
    · exact h1.setHold
    · exact h1
  · exact h1

end

theorem flwGates (s : State) : GatesKept s s.flwGates :=
  List.foldlRecOn _ _ (refl s) (fun _ h _ _ => h.gatesNow)

end GatesKept

/-- The follower as it loses its lock (R52). -/
def State.flwLost (s : State) : State := ((s.wr F.TB_FLW_STAT_LOCK 0).inc F.TB_FLW_CNT).onset Src.TB_FOLLOWER_UNLOCK 0xFF 0

theorem State.flwUnlock_locked {s : State} (h : s.on F.TB_FLW_STAT_LOCK = true) :
    s.flwUnlock = { s.flwLost with tb := { s.tb with flwOver := 0 } } := by
  have htb : s.flwLost.tb = s.tb := State.onset_tb ..
  rw [State.flwUnlock, if_pos h, ← htb]
  rfl

theorem State.flwLost_keepsRegs (s : State) : s.keepsRegs s.flwLost [F.TB_FLW_STAT_LOCK, F.TB_FLW_CNT] :=
  (State.keepsRegs.refl s _).wr.inc.onset

theorem State.rd_flwLost_lock (s : State) : s.flwLost.rd F.TB_FLW_STAT_LOCK = 0 := by
  rw [State.flwLost, State.rd_onset, State.rd_inc_ne _ (by decide)]
  exact State.rd_wr_same _ _ _ (by decide)

theorem State.rd_flwLost_count (s : State) : s.flwLost.rd F.TB_FLW_CNT = min (s.rd F.TB_FLW_CNT + 1) (2 ^ 32 - 1) := by
  rw [State.flwLost, State.rd_onset, State.rd_inc_same _ F.TB_FLW_CNT, State.rd_wr_ne _ _ _ _ (by decide)]
  rfl

theorem State.flwLost_shape (s : State) : ∃ regs cl, s.flwLost = { s with regs := regs, cl := cl } :=
  ⟨_, _, State.onset_eq ..⟩

/-- A marker is heard: its instant is kept (R528). -/
def State.flwHeard (s : State) : State := { s with tb := { s.tb with flwAt := s.tb.mono } }

/-- The follower as a marker locks it (R52, R87). -/
def State.flwLocked (s : State) : State :=
  (((s.flwHeard.wr F.TB_FLW_STAT_ERR 0).wr F.TB_FLW_STAT_LOCK 1).condEnd Src.TB_FOLLOWER_UNLOCK 0xFF).flwGates

theorem State.rd_flwLocked {s : State} {f : Fld} (h : f.off < 0x30000 ∧ f.lo < 32) :
    s.flwLocked.rd f = ((s.flwHeard.wr F.TB_FLW_STAT_ERR 0).wr F.TB_FLW_STAT_LOCK 1).rd f :=
  ((GatesKept.flwGates _).rd f (by simp only [Fld.key]; omega)).trans (State.rd_condEnd_tbase _ _ _ h)

theorem State.rd_flwLocked_lock (s : State) : s.flwLocked.rd F.TB_FLW_STAT_LOCK = 1 :=
  (State.rd_flwLocked (by decide)).trans (State.rd_wr_same _ _ _ (by decide))

theorem State.rd_flwLocked_err (s : State) : s.flwLocked.rd F.TB_FLW_STAT_ERR = 0 := by
  rw [State.rd_flwLocked (by decide), State.rd_wr_ne _ _ _ _ (by decide)]
  exact State.rd_wr_same _ _ _ (by decide)

theorem State.flwLocked_shape (s : State) : ∃ regs kn cl, s.flwLocked = { s.flwHeard with regs := regs, kn := kn, cl := cl } := by
  obtain ⟨regs, kn, h⟩ := (GatesKept.flwGates
    (((s.flwHeard.wr F.TB_FLW_STAT_ERR 0).wr F.TB_FLW_STAT_LOCK 1).condEnd Src.TB_FOLLOWER_UNLOCK 0xFF)).shape
  obtain ⟨regs', cl, h'⟩ := ((s.flwHeard.wr F.TB_FLW_STAT_ERR 0).wr F.TB_FLW_STAT_LOCK 1).condEnd_shape Src.TB_FOLLOWER_UNLOCK 0xFF
  exact ⟨regs, kn, cl, by rw [State.flwLocked, h, h']; rfl⟩

section
variable {err : Int} {s : State}

theorem execFollowerMarker_unheard (h : s.flwHears = false) : exec (.followerMarker err) s = .next s :=
  if_pos (by rw [h]; decide)

theorem execFollowerMarker_unlocked (h : s.flwHears = true) (hl : s.on F.TB_FLW_STAT_LOCK = false) : exec (.followerMarker err) s
    = .next { s.flwLocked with tb := { s.flwLocked.tb with flwOver := 0, flwEver := true } } := by
  show execFollowerMarker err s = _
  rw [execFollowerMarker, if_neg (not_not_intro h)]
  dsimp only
  rw [if_neg (by rw [hl]; decide), State.flwLocked, State.flwHeard]

theorem execFollowerMarker_third (h : s.flwHears = true) (hl : s.on F.TB_FLW_STAT_LOCK = true)
    (he : s.rd F.TB_FLW_CFG_UNLOCK_NS < err.natAbs) (h3 : s.tb.flwOver = 2) :
    exec (.followerMarker err) s = .next (s.flwHeard.wr F.TB_FLW_STAT_ERR (ofSigned 16 err)).flwUnlock :=
  (if_neg (not_not_intro h)).trans ((if_pos hl).trans ((if_pos he).trans (if_pos (by rw [h3]))))

theorem execFollowerMarker_over (h : s.flwHears = true) (hl : s.on F.TB_FLW_STAT_LOCK = true)
    (he : s.rd F.TB_FLW_CFG_UNLOCK_NS < err.natAbs) (h3 : s.tb.flwOver ≠ 2) : exec (.followerMarker err) s = .next
      { s.wr F.TB_FLW_STAT_ERR (ofSigned 16 err) with tb := { s.tb with flwAt := s.tb.mono, flwOver := s.tb.flwOver + 1 } } :=
  (if_neg (not_not_intro h)).trans ((if_pos hl).trans ((if_pos he).trans (if_neg (fun e => h3 (Nat.succ.inj e)))))

theorem execFollowerMarker_within (h : s.flwHears = true) (hl : s.on F.TB_FLW_STAT_LOCK = true)
    (he : err.natAbs ≤ s.rd F.TB_FLW_CFG_UNLOCK_NS) : exec (.followerMarker err) s = .next
      { s.wr F.TB_FLW_STAT_ERR (ofSigned 16 err) with tb := { s.tb with flwAt := s.tb.mono, flwOver := 0 } } :=
  (if_neg (not_not_intro h)).trans ((if_pos hl).trans (if_neg (Nat.not_lt.mpr he)))

theorem execFollowerMarkerTimeout_due (hl : s.on F.TB_FLW_STAT_LOCK = true) (ht : s.tb.flwAt + 10000 ≤ s.tb.mono) :
    exec .followerMarkerTimeout s = .next { s.flwLost with tb := { s.tb with flwOver := 0 } } :=
  congrArg Host.Outcome.next ((if_pos ht).trans (State.flwUnlock_locked hl))

end

/-! Residence entries and field-port Syncs (R47, R49). -/

theorem execFuTimeout_due {dirB : Bool} {e : FuEntry} {rest : List FuEntry} {s : State} (h : (if dirB then s.tb.fuB else s.tb.fuA) = e :: rest)
    (ht : e.since + s.rd F.TB_TC_FU_TMO * 1000000 ≤ s.tb.mono) : exec (.fuTimeout dirB) s = .next { s.inc F.TB_TC_CNT_FU_MISS with
      tb := if dirB then { s.tb with fuB := rest } else { s.tb with fuA := rest } } := by
  show execFuTimeout dirB s = _
  rw [execFuTimeout, h]
  dsimp only
  rw [if_pos ht]
  cases dirB <;> rfl

/-- The instant of a port's next Sync is set (R49). -/
def State.syncSet (s : State) (n : Nat) : State :=
  { s with tb := { s.tb with nextSync := Sparse.put 0 s.tb.nextSync n (s.dt + s.syncInterval) } }

theorem State.ptpMessage_state (s : State) (p type domain : Nat) (body : List Byte) :
    (s.ptpMessage p type domain body).1 = { s with freeIdx := s.freeIdx + 10 } := rfl

theorem State.ptpSend_ownKept (s : State) (p type domain : Nat) (body : List Byte) :
    OwnKept s ((s.ptpMessage p type domain body).1.ownFrame p 7 (s.ptpMessage p type domain body).2) := by
  obtain ⟨htb, hkn, hw⟩ := State.ownItem_ownKept (s.ptpMessage p type domain body).1 { Item.plain srcOwn p 7
    (s.ptpMessage p type domain body).1.ln.next (s.ptpMessage p type domain body).2 with tagged := hasRtag (s.ptpMessage p type domain body).2 }
  rw [State.ptpMessage_state] at htb hkn hw
  exact ⟨htb, hkn, hw⟩

theorem execFieldSyncTx_due {n : Fin 8} {s : State} (hen : s.on F.TB_CTRL_PTP_EN = true)
    (hp : bits (s.rd F.TB_FPTP_CFG_PORT_EN) n.val 1 = 1) (ht : Sparse.get 0 s.tb.nextSync n.val ≤ s.dt) :
    ∃ t, exec (.fieldSyncTx n) s = .next t ∧ OwnKept (s.syncSet n.val) t := by
  refine ⟨_, congrArg Host.Outcome.next (if_pos ⟨hen, hp, ht⟩), ?_⟩
  dsimp only
  split
  · exact State.ptpSend_ownKept (s.syncSet n.val) ..
  · exact ⟨rfl, rfl, rfl⟩

/-- What the third error beyond its bound leaves of a locked follower (R52). -/
theorem State.flwErr_unlocks (s : State) (err : Int) (hl : s.on F.TB_FLW_STAT_LOCK = true) :
    let t := (s.flwHeard.wr F.TB_FLW_STAT_ERR (ofSigned 16 err)).flwUnlock
    t.rd F.TB_FLW_STAT_LOCK = 0 ∧ t.rd F.TB_FLW_CNT = min (s.rd F.TB_FLW_CNT + 1) (2 ^ 32 - 1)
      ∧ (Src.TB_FOLLOWER_UNLOCK, 0xFF) ∈ t.cl.conds ∧ s.keepsRegs t [F.TB_FLW_STAT_LOCK, F.TB_FLW_STAT_ERR, F.TB_FLW_CNT] := by
  have hk : s.keepsRegs (s.flwHeard.wr F.TB_FLW_STAT_ERR (ofSigned 16 err)) [F.TB_FLW_STAT_ERR] :=
    ((State.keepsRegs.refl s _).of_regs rfl).wr
  have hl' : (s.flwHeard.wr F.TB_FLW_STAT_ERR (ofSigned 16 err)).on F.TB_FLW_STAT_LOCK = true := by
    rwa [State.on, hk _ (by decide)]
  rw [State.flwUnlock_locked hl']
  refine ⟨State.rd_flwLost_lock _, (State.rd_flwLost_count _).trans ?_, State.mem_onset ..,
    (hk.mono.trans (State.flwLost_keepsRegs _).mono).of_regs rfl⟩
  rw [hk _ (by decide)]

/-- An edge of PPS_IN that is taken, inside its window or outside (R67). -/
theorem execPpsInEdge_taken {rising : Bool} {q : Fin 8} {s : State} (hen : s.on F.TB_PPSI_CFG_EN = true)
    (hedge : rising = !s.on F.TB_PPSI_CFG_EDGE) : ∃ t, exec (.ppsInEdge ⟨rising, q⟩) s = .next t
      ∧ t.rd64 F.TB_PPSI_TS_LO F.TB_PPSI_TS_HI = s.quarters q.val / 4 % 2 ^ 64
      ∧ t.rd F.TB_PPSI_TS_FRAC = s.quarters q.val % 4 * 2 ^ 30 + s.rd F.TB_EPOCH % 256
      ∧ t = { s with regs := t.regs, tb := { s.tb with ppsInAt := s.quarters q.val, ppsInHave := true }, cl := t.cl }
      ∧ (s.ppsInBad q.val → t.rd F.TB_PPSI_CNT_BAD = min (s.rd F.TB_PPSI_CNT_BAD + 1) 0xFFFF ∧ t.cl = s.cl)
      ∧ (¬ s.ppsInBad q.val → t.rd F.TB_STATUS_PPS_IN_OK = 1 ∧ (Src.PPS_IN_LOSS, 0xFF) ∉ t.cl.conds) := by
  by_cases hb : s.ppsInBad q.val
  · obtain ⟨regs, hs⟩ := s.ppsInStamped_shape q.val
    have hne : ∀ f ∈ ppsInTs, f.key ≠ F.TB_PPSI_CNT_BAD.key := by decide
    obtain ⟨hts, hfr⟩ := State.ppsInStamped_read (t := (s.ppsInStamped q.val).inc F.TB_PPSI_CNT_BAD) (fun f hf => State.rd_inc_ne _ (hne f hf))
    have hcnt : (s.ppsInStamped q.val).rd F.TB_PPSI_CNT_BAD = s.rd F.TB_PPSI_CNT_BAD := by
      rw [State.rd_ppsInStamped, State.ppsInRegs, State.rd_wr_ne _ _ _ _ (by decide), State.rd_wr64_ne _ (by decide) (by decide)]
    refine ⟨_, execPpsInEdge_bad hen hedge hb, hts, hfr, by rw [hs]; rfl, fun _ => ⟨?_, by rw [hs]; rfl⟩, fun h => absurd hb h⟩
    rw [State.rd_inc_same _ F.TB_PPSI_CNT_BAD, hcnt]
    rfl
  · obtain ⟨regs, cl, hs⟩ := s.ppsInOk_shape q.val
    have hne : ∀ f ∈ ppsInTs, f.key ≠ F.TB_STATUS_PPS_IN_OK.key ∧ f.off < 0x30000 ∧ f.lo < 32 := by decide
    obtain ⟨hts, hfr⟩ := State.ppsInStamped_read (t := s.ppsInOk q.val) (fun f hf => State.rd_ppsInOk_ne _ _ (hne f hf).1 (hne f hf).2)
    exact ⟨_, execPpsInEdge_good hen hedge hb, hts, hfr, by rw [← State.ppsInOk, hs], fun h => absurd h hb,
      fun _ => ⟨s.rd_ppsInOk q.val, State.notMem_condEnd _ _ _⟩⟩

/-- Settles O14: the nine clauses in their order, each by the rules of its command above. -/
theorem capturesAndFollower : Obligations.CapturesAndFollower := by
  refine ⟨?_, fun rising q s => execPpsInEdge_taken, ?_, ?_, ?_, ?_, ?_, fun dirB e rest s => execFuTimeout_due, ?_⟩
  · intro m seq s h
    rw [execMeasSeqWrite_accepts h, State.measSeq_eq]
  · intro s hen ht
    refine ⟨_, execPpsInLoss_due hen ht, s.rd_ppsInLost_miss, s.rd_ppsInLost_ok, State.mem_onset ..,
      s.ppsInLost_keepsRegs.of_regs rfl, ?_⟩
    rw [s.ppsInLost_eq]
  · intro pin rising q s
    refine ⟨fun h => execTinEdge_notTaken (fun g => h (State.tinTaken_iff.mp g)),
      fun h hf hl => execTinEdge_stored (State.tinTaken_iff.mpr h) ?_, fun h hf => execTinEdge_discarded (State.tinTaken_iff.mpr h) ?_⟩
    · rw [Bool.or_eq_true, not_or, tinClose_eq, decide_eq_true_eq, Bool.not_eq_true', Bool.not_eq_false]
      exact ⟨hf, Nat.not_le.mpr hl⟩
    · rw [Bool.or_eq_true, tinClose_eq, decide_eq_true_eq, Bool.not_eq_true']
      exact hf
  · intro m pin s h
    refine ⟨_, execTinFifoPop_gives h, ?_⟩
    rw [State.tinPop_eq]
    exact ⟨rfl, rfl, rfl, s.get_tinLatched_high m pin, s.get_tinLatched_frac m pin⟩
  · intro err s
    refine ⟨execFollowerMarker_unheard, fun h hl => ⟨_, execFollowerMarker_unlocked h hl, ?_⟩,
      fun h hl he h3 => ⟨_, execFollowerMarker_third h hl he h3, s.flwErr_unlocks err hl⟩, execFollowerMarker_over,
      execFollowerMarker_within⟩
    obtain ⟨regs, kn, cl, hs⟩ := s.flwLocked_shape
    refine ⟨?_, ?_, ?_, ?_⟩
    · rw [State.rd_mk, s.rd_flwLocked_lock]
    · rw [State.rd_mk, s.rd_flwLocked_err]
    · rw [hs]; rfl
    · rw [hs]; rfl
  · intro s hl ht
    obtain ⟨regs, cl, hs⟩ := s.flwLost_shape
    refine ⟨_, execFollowerMarkerTimeout_due hl ht, s.rd_flwLost_lock, s.rd_flwLost_count, State.mem_onset ..,
      s.flwLost_keepsRegs.of_regs rfl, ?_⟩
    rw [hs]
  · intro n s hen hp ht
    obtain ⟨t, ht', htb, hkn, hw⟩ := execFieldSyncTx_due hen hp ht
    refine ⟨t, ht', ?_, fun k _ hk => ?_, ?_, hkn, hw⟩
    · rw [htb]
      exact Sparse.get_put_same ..
    · rw [htb]
      exact Sparse.get_put_ne _ _ _ hk
    · rw [htb]
      rfl

end Sys2Proof.Machine

/-! The binding of a port to the spare engine (R127, R366; `Obligations.HeatBindingAndPtpMessages`). -/

namespace Sys2Proof.Machine

/-- After a chip reset of a module whose engine 0 was retired before (R492): the fixed binding gives port 0 the spare engine, port 0 is in a
quiet interval, and LN_STATUS.SPARE_USED reads its reset value. -/
def spareWanted : State :=
  let s := State.reset.wr F.PT_LN_BIND 4
  { s.setKnPort 0 { s.knPort 0 with quiet := some (0, 0) } with sp := { Sp.reset with retLn := [0] } }

/-- The spare engine is the one that PITCH wants. -/
theorem spareWanted_wants : (spareWanted.wantEngine 0).1 = 4 ∧ spareWanted.rd (engFld 0) = 0 := by decide

/-- The rebinding to the spare engine sets LN_STATUS.SPARE_USED (R127). -/
theorem spareWanted_rebinds : ∃ t, exec (.engineRebind 0) spareWanted = .next t ∧ t.rd F.LN_STATUS_SPARE_USED = 1 :=
  ⟨_, rfl, by decide⟩

/-- Refutes O47: a binding to the spare engine sets LN_STATUS.SPARE_USED too, which the clause of the binding in a quiet interval leaves
out; it reads 0 before in a module that has come out of a chip reset with a retired engine. -/
theorem not_heatBindingAndPtpMessages : ¬ Obligations.HeatBindingAndPtpMessages := by
  unfold Obligations.HeatBindingAndPtpMessages
  rintro ⟨-, -, hbind, -⟩
  obtain ⟨t, ht, hused⟩ := spareWanted_rebinds
  obtain ⟨hquiet, -, -⟩ := (hbind 0 spareWanted).2 (by decide)
  have h := Host.Outcome.next.inj (ht.symm.trans (hquiet (by decide) (by decide)))
  rw [h] at hused
  exact absurd hused (by decide)

end Sys2Proof.Machine

/-! Mirroring, the reliable transport, re-epochs between twins and resynchronisation (R60, R267, R276, R278, R281, R284, R285;
`Obligations.MirroringAndResynchronisation`). -/

namespace Sys2Proof.Machine

/-! Frames on the Dolnos link (R266, R267): only the wire and the sender's window move. -/

theorem State.emit_dolnos (s : State) (f : List Byte) : s.emit (.dolnos f) = { s with wire := s.wire ++ [.dolnos f] } := rfl

theorem State.dolnosAck_shape (s : State) (nak : Bool) : ∃ wire, s.dolnosAck nak = { s with wire := wire } :=
  ⟨_, s.emit_dolnos _⟩

/-- What a RELIABLE frame leaves: it waits for its acknowledgement under its number. -/
theorem State.dolnosReliable_shape (s : State) (type : Nat) (payload : List Byte) : ∃ wire at_, s.dolnosReliable type payload = { s with
    wire := wire, tw := { s.tw with
      txSeq := (s.tw.txSeq + 1) % 2 ^ 32, unacked := s.tw.unacked ++ [⟨type, s.tw.txSeq, payload⟩], progressAt := at_ } } := by
  unfold State.dolnosReliable
  dsimp only
  rw [State.emit_dolnos]
  exact ⟨_, _, rfl⟩

theorem State.dolnosRoom_of {s : State} (hup : s.on F.TW_STATUS_DOLNOS_UP = true) (hlen : s.tw.unacked.length < 64) : s.dolnosRoom = true := by
  rw [State.dolnosRoom, State.dolnosUp, hup, Bool.true_and, decide_eq_true hlen]

/-! Mirror batches (R276). -/

theorem State.sendSeqs_empty {s : State} (h : s.tw.seqBuf = []) : s.sendSeqs = s := by rw [State.sendSeqs, h]; rfl

/-- Is the open batch full or old enough to leave? -/
def State.batchDue (s : State) : Prop :=
  s.tw.mirBuf.length ≥ 6 ∨ (s.tw.mirBuf ≠ [] ∧ s.tw.batchAt + s.rd F.TW_MIR_BATCH ≤ s.tb.mono)

section
variable {s : State} (hseq : s.tw.seqBuf = [])
include hseq

theorem execMirrorBatchClose_waits (h : ¬ s.batchDue) : exec .mirrorBatchClose s = .next s := by
  show execMirrorBatchClose s = _
  rw [State.batchDue] at h
  rw [execMirrorBatchClose]
  dsimp only
  rw [s.sendSeqs_empty hseq, if_neg h]

theorem execMirrorBatchClose_due (h : s.batchDue) : exec .mirrorBatchClose s = .next s.sendMirror := by
  show execMirrorBatchClose s = _
  rw [State.batchDue] at h
  rw [execMirrorBatchClose]
  dsimp only
  rw [s.sendSeqs_empty hseq, if_pos h]

end

/-- The state with the batch taken out of the buffer. -/
def State.batchTaken (s : State) : State :=
  { s with tw := { s.tw with mirBuf := [], credit := s.tw.credit - s.tw.mirBuf.length, batchAt := s.tb.mono } }

/-- A batch that fits a frame and the credit leaves whole. -/
theorem State.sendMirror_whole {s : State} (hne : s.tw.mirBuf ≠ []) (h6 : s.tw.mirBuf.length ≤ 6) (hcr : s.tw.mirBuf.length ≤ s.tw.credit)
    (hroom : s.dolnosRoom = true) : s.sendMirror
      = (s.batchTaken.dolnosReliable 0x10 (s.tw.mirBuf.map MirRec.bytes).flatten).add F.TW_MIR_TX s.tw.mirBuf.length := by
  have hpos : s.tw.mirBuf.length ≠ 0 := fun h => hne (List.length_eq_zero_iff.mp h)
  have hn : min 6 (min s.tw.mirBuf.length s.tw.credit) = s.tw.mirBuf.length := by omega
  rw [State.sendMirror]
  dsimp only
  rw [hn, if_neg (not_or.mpr ⟨hpos, not_not_intro hroom⟩), List.take_length, List.drop_length, State.batchTaken]

/-- What a whole batch leaves (R276). -/
theorem State.sendMirror_sent {s : State} (hne : s.tw.mirBuf ≠ []) (h6 : s.tw.mirBuf.length ≤ 6) (hcr : s.tw.mirBuf.length ≤ s.tw.credit)
    (hroom : s.dolnosRoom = true) : s.sendMirror.tw.mirBuf = [] ∧ s.sendMirror.tw.credit = s.tw.credit - s.tw.mirBuf.length
      ∧ s.sendMirror.tw.txSeq = (s.tw.txSeq + 1) % 2 ^ 32
      ∧ s.sendMirror.tw.unacked = s.tw.unacked ++ [⟨0x10, s.tw.txSeq, (s.tw.mirBuf.map MirRec.bytes).flatten⟩]
      ∧ s.sendMirror.rd F.TW_MIR_TX = min (s.rd F.TW_MIR_TX + s.tw.mirBuf.length) (2 ^ 32 - 1)
      ∧ s.keepsRegs s.sendMirror [F.TW_MIR_TX]
      ∧ s.sendMirror = { s with regs := s.sendMirror.regs, tw := s.sendMirror.tw, wire := s.sendMirror.wire } := by
  rw [State.sendMirror_whole hne h6 hcr hroom]
  obtain ⟨wire, at_, h⟩ := s.batchTaken.dolnosReliable_shape 0x10 (s.tw.mirBuf.map MirRec.bytes).flatten
  rw [h]
  refine ⟨rfl, rfl, rfl, rfl, ?_, ((State.keepsRegs.refl s _).of_regs rfl).wr, rfl⟩
  exact State.rd_add_same _ F.TW_MIR_TX _ (by decide)

/-! The dirty map (R278). -/

theorem execDirtyMapFlush_held {p : Nat} {rest : List Nat} {s : State} (hd : s.tw.dirty = p :: rest)
    (h : s.on F.TW_STATUS_DOLNOS_UP = false ∨ s.tw.credit = 0) : exec .dirtyMapFlush s = .next s := by
  show execDirtyMapFlush s = _
  rw [execDirtyMapFlush, hd]
  dsimp only
  refine congrArg Host.Outcome.next (if_neg ?_)
  rintro ⟨hup, -, -, hcr, -⟩
  rcases h with h | h
  · exact absurd hup (by rw [State.dolnosUp, h]; decide)
  · omega

/-- The state with the lowest dirty point taken out of the map. -/
def State.dirtyTaken (s : State) (rest : List Nat) : State := ({ s with tw := { s.tw with dirty := rest } } : State).mirState

theorem State.rd_dirtyTaken (s : State) (rest : List Nat) : (s.dirtyTaken rest).rd F.TW_STATUS_MIR_DEGRADED = if rest = [] then 0 else 1 := by
  refine (State.rd_wr_same _ _ _ (by decide)).trans ?_
  cases rest <;> rfl

theorem State.dirtyTaken_keepsRegs (s : State) (rest : List Nat) : s.keepsRegs (s.dirtyTaken rest) [F.TW_STATUS_MIR_DEGRADED] :=
  ((State.keepsRegs.refl s _).of_regs rfl).wr

theorem State.dirtyTaken_shape (s : State) (rest : List Nat) : ∃ regs, s.dirtyTaken rest
    = { s with regs := regs, tw := { s.tw with dirty := rest } } :=
  ⟨_, rfl⟩

/-- A record towards a peer that hears enters the buffer (R276). -/
theorem State.mirSend_buffered {s : State} {r : MirRec} (hen : s.on F.TW_CTRL_EN = true) (hmir : s.on F.TW_CTRL_MIR_EN = true)
    (hup : s.on F.TW_STATUS_DOLNOS_UP = true) (hlen : s.tw.mirBuf.length < 4096) :
    ∃ at_, s.mirSend r = { s with tw := { s.tw with mirBuf := s.tw.mirBuf ++ [r], batchAt := at_ } } := by
  rw [State.mirSend, hen, hmir, hup, decide_eq_true hlen]
  exact ⟨_, rfl⟩

theorem execDirtyMapFlush_sends {p : Nat} {rest : List Nat} {r : Point} {key : Key} {mode : Nat} {s : State} (hd : s.tw.dirty = p :: rest)
    (hp : s.point p = some r) (hw : Sparse.get none s.tw.newest p = some (key, mode)) (hup : s.on F.TW_STATUS_DOLNOS_UP = true)
    (hmir : s.on F.TW_CTRL_MIR_EN = true) (hen : s.on F.TW_CTRL_EN = true) (hcr : 0 < s.tw.credit) (hlen : s.tw.mirBuf.length < 4096) :
    exec .dirtyMapFlush s = .next ((s.dirtyTaken rest).mirSend (mirRecOf p r key mode)) := by
  have hp' : (s.dirtyTaken rest).point p = some r := hp
  have hw' : Sparse.get none (s.dirtyTaken rest).tw.newest p = some (key, mode) := hw
  rw [State.dirtyTaken] at hp' hw'
  show execDirtyMapFlush s = _
  rw [execDirtyMapFlush, hd]
  dsimp only
  rw [if_pos ⟨hup, hmir, hen, hcr, hlen⟩, hp', hw', State.dirtyTaken]

/-- What the flush of the lowest dirty point leaves (R278). -/
theorem State.dirtyTaken_sent (s : State) {rest : List Nat} {rec : MirRec} (hen : s.on F.TW_CTRL_EN = true)
    (hmir : s.on F.TW_CTRL_MIR_EN = true) (hup : s.on F.TW_STATUS_DOLNOS_UP = true) (hlen : s.tw.mirBuf.length < 4096) :
    let t := (s.dirtyTaken rest).mirSend rec
    t.tw.dirty = rest ∧ t.tw.mirBuf = s.tw.mirBuf ++ [rec] ∧ t.rd F.TW_STATUS_MIR_DEGRADED = (if rest = [] then 0 else 1)
      ∧ s.keepsRegs t [F.TW_STATUS_MIR_DEGRADED] ∧ t = { s with regs := t.regs, tw := t.tw } := by
  have hk := s.dirtyTaken_keepsRegs rest
  have hon (f : Fld) (hf : f.key ∉ [F.TW_STATUS_MIR_DEGRADED].map Fld.key) : (s.dirtyTaken rest).on f = s.on f := by
    rw [State.on, hk f hf, State.on]
  obtain ⟨at_, hb⟩ := State.mirSend_buffered (s := s.dirtyTaken rest) (r := rec) ((hon _ (by decide)).trans hen) ((hon _ (by decide)).trans hmir)
    ((hon _ (by decide)).trans hup) hlen
  intro t
  obtain ⟨regs, hs⟩ := s.dirtyTaken_shape rest
  refine ⟨?_, ?_, ?_, ?_, ?_⟩
  · rw [show t = _ from hb, hs]
  · rw [show t = _ from hb, hs]
  · rw [show t = _ from hb, State.rd_mk]
    exact s.rd_dirtyTaken rest
  · rw [show t = _ from hb]
    exact hk.of_regs rfl
  · rw [show t = _ from hb, hs]

/-! Retransmission (R267). -/

theorem execDolnosRetransmit_due {s : State} (hne : s.tw.unacked ≠ []) (hup : s.on F.TW_STATUS_DOLNOS_UP = true)
    (ht : s.tw.progressAt + 5000 ≤ s.tb.mono) : exec .dolnosRetransmit s = .next s.resend :=
  congrArg Host.Outcome.next (if_pos ⟨hne, hup, ht⟩)

theorem execDolnosRetransmit_waits {s : State} (h : s.on F.TW_STATUS_DOLNOS_UP = false ∨ s.tb.mono < s.tw.progressAt + 5000) :
    exec .dolnosRetransmit s = .next s := by
  refine congrArg Host.Outcome.next (if_neg ?_)
  rintro ⟨-, hup, ht⟩
  rcases h with h | h
  · exact absurd hup (by rw [State.dolnosUp, h]; decide)
  · omega

/-- One frame that waits is sent again and counted. -/
theorem State.resend_single {s : State} {f : DFrame} (h : s.tw.unacked = [f]) : ∃ wire, s.resend
    = { s.inc F.TW_RETX with tw := { s.tw with progressAt := s.tb.mono }, wire := wire } := by
  rw [State.resend, h, List.foldl_cons, List.foldl_nil, State.emit_dolnos]
  exact ⟨_, rfl⟩

/-! Re-epochs between twins (R60, R281). -/

theorem execReepRx_eq (delta bnd : Int) (s : State) : exec (.reepRx delta bnd) s = .next (s.reepRx delta bnd) := rfl

theorem State.reepRx_free {s : State} {delta bnd : Int} (h : s.reepBarred = false) : s.reepRx delta bnd = s :=
  if_neg (by rw [h]; decide)

theorem State.reepRx_arms {s : State} {delta bnd : Int} (h : s.reepBarred = true) (hb : (s.tb.dt.toNat : Int) + 2000 ≤ bnd)
    (hs : 1 < s.rd F.TB_STATUS_STATE) (hr : s.tb.reep = none) (hp : 0 ≤ bnd + delta) :
    s.reepRx delta bnd = { s with tb := { s.tb with reep := some ⟨delta, bnd, 15, bnd⟩ } } :=
  (if_pos h).trans (if_pos ⟨hb, hs, by rw [hr]; rfl, hp⟩)

theorem State.reepRx_late {s : State} {delta bnd : Int} (h : s.reepBarred = true) (hb : bnd < (s.tb.dt.toNat : Int) + 2000) :
    s.reepRx delta bnd = (s.wr F.TW_STATUS_REEP_REJ 1).raise0 Src.TW_REEP_MISS 0 :=
  (if_pos h).trans (if_neg (fun g => absurd g.1 (Int.not_le.mpr hb)))

/-- The state with an anchor written. -/
def State.anchored (s : State) (anchor : Nat) : State := s.wr F.TB_REEP_CTRL_ANCHOR anchor

theorem execReepochArm_accepts {m anchor : Nat} {s : State} (h : s.accepts m 0x20038 permW) (hr : s.tb.reep = none) :
    exec (.reepochArm m anchor) s = .next ((s.anchored anchor).reepochArm (anchor % 16)) := by
  refine (congrArg Host.Outcome.next (State.busW_accepts h _)).trans ?_
  rw [State.reepCtrl, hr]
  rfl

theorem State.on_anchored (s : State) (anchor : Nat) {f : Fld} (h : f.key ≠ F.TB_REEP_CTRL_ANCHOR.key := by decide) :
    (s.anchored anchor).on f = s.on f := by rw [State.on, State.anchored, State.rd_wr_ne _ _ _ _ h, State.on]

theorem State.rd_anchored (s : State) (anchor : Nat) {f : Fld} (h : f.key ≠ F.TB_REEP_CTRL_ANCHOR.key := by decide) :
    (s.anchored anchor).rd f = s.rd f := State.rd_wr_ne _ _ _ _ h

theorem State.reepBarred_anchored (s : State) (anchor : Nat) : (s.anchored anchor).reepBarred = s.reepBarred := by
  rw [State.reepBarred, s.on_anchored anchor (f := F.TW_CTRL_EN), s.on_anchored anchor (f := F.TW_CTRL_REEP_SYNC),
    s.rd_anchored anchor (f := F.TW_STATUS_ROLE), State.reepBarred]

theorem State.reepochArm_rejected {s t : State} {anchor : Nat} (h : s.reepArm anchor = (t, false)) : s.reepochArm anchor = t := by
  rw [State.reepochArm, h]
  exact if_neg (fun g => Bool.noConfusion g.1)

theorem State.reepArm_barred {s : State} (h : s.reepBarred = true) (anchor : Nat) :
    s.reepArm anchor = ((s.wr F.TB_STATUS_REEP_REJ 1).wr F.TW_STATUS_REEP_REJ 1, false) := if_pos h

theorem State.reepArm_early {s : State} (h : s.reepBarred = false) (hs : s.rd F.TB_STATUS_STATE ≤ 1) (anchor : Nat) :
    s.reepArm anchor = (s.wr F.TB_STATUS_REEP_REJ 1, false) := (if_neg (by rw [h]; decide)).trans (if_pos (.inl hs))

/-- The amount of a re-epoch as its registers give it (R60). -/
def State.reepDelta (s : State) : Int := toSigned 64 (s.rd64 F.TB_REEP_LO F.TB_REEP_HI)

/-- The boundary of an anchor that is no port: a whole ms (R60). -/
theorem State.reepBoundary_ms {s : State} {anchor : Nat} (h : 10 ≤ anchor) (t : Int) :
    s.reepBoundary anchor t = (t + 999999) / 1000000 * 1000000 := if_neg (fun g => absurd g.1 (Nat.not_lt.mpr h))

theorem State.reepArm_alone {s : State} {anchor : Nat} (hen : s.on F.TW_CTRL_EN = false) (hs : 1 < s.rd F.TB_STATUS_STATE)
    (hr : s.tb.reep = none) (ha : 10 ≤ anchor) (hd : 0 ≤ s.reepDelta) : s.reepArm anchor = ({ s with tb := { s.tb with
      reep := some ⟨s.reepDelta, s.reepBoundary anchor (s.dt + 10000 : Nat), anchor, (s.dt + 10000 : Nat)⟩ } }, true) := by
  have hbar : ¬ s.reepBarred = true := by simp [State.reepBarred, hen]
  have hb : ¬ s.reepBoundary anchor (s.dt + 10000 : Nat) + s.reepDelta < 0 := by rw [State.reepBoundary_ms ha]; omega
  refine (if_neg hbar).trans (if_neg ?_)
  rintro (h | h | h)
  · exact absurd h (Nat.not_le.mpr hs)
  · rw [hr] at h
    exact Bool.noConfusion h
  · exact hb h

theorem State.reepochArm_alone {s t : State} {anchor : Nat} (hen : s.on F.TW_CTRL_EN = false) (h : s.reepArm anchor = (t, true)) :
    s.reepochArm anchor = t := by
  rw [State.reepochArm, h]
  exact if_neg (fun g => absurd g.2.1 (by rw [hen]; decide))

theorem State.reepDelta_anchored (s : State) (anchor : Nat) : (s.anchored anchor).reepDelta = s.reepDelta := by
  rw [State.reepDelta, State.rd64, s.rd_anchored anchor (f := F.TB_REEP_LO), s.rd_anchored anchor (f := F.TB_REEP_HI), State.reepDelta, State.rd64]

/-- An ARM of a module without a twin (R60). -/
theorem execReepochArm_alone {m anchor : Nat} {s : State} (h : s.accepts m 0x20038 permW) (hr : s.tb.reep = none)
    (hen : s.on F.TW_CTRL_EN = false) (hs : 1 < s.rd F.TB_STATUS_STATE) (ha : 10 ≤ anchor % 16) (hd : 0 ≤ s.reepDelta) :
    exec (.reepochArm m anchor) s = .next { s.anchored anchor with tb := { s.tb with
      reep := some ⟨s.reepDelta, s.reepBoundary (anchor % 16) (s.dt + 10000 : Nat), anchor % 16, (s.dt + 10000 : Nat)⟩ } } := by
  have hen' : (s.anchored anchor).on F.TW_CTRL_EN = false := (s.on_anchored anchor).trans hen
  have harm := State.reepArm_alone (s := s.anchored anchor) hen' (by rwa [s.rd_anchored anchor]) hr ha (by rwa [s.reepDelta_anchored])
  rw [execReepochArm_accepts h hr, State.reepochArm_alone hen' harm, s.reepDelta_anchored, State.reepBoundary_ms ha, State.reepBoundary_ms ha]
  rfl

/-! Received frames (R266, R267, R285). -/

/-- The header of a frame with RELIABLE alone brings its credit (R276). -/
theorem State.takeHeader_reliable {t : State} {data : List Byte} (hf : leNat (slice data 1 1) = 1) :
    t.takeHeader data = { t with tw := { t.tw with credit := leNat (slice data 12 2) } } := by
  have hack : t.takeAck 1 (leNat (slice data 8 4)) = t := if_pos (by decide)
  rw [State.takeHeader, hf, hack]

/-- RS_DONE ends the walk for a twin that synchronises (R285). -/
theorem State.dolnosApply_rsDone (t : State) (payload : List Byte) : t.dolnosApply 0x22 payload = { t with
    tw := { t.tw with rsDoneAt := if t.rd F.TW_STATUS_ROLE = 2 then some t.dt else t.tw.rsDoneAt } } := by
  show (if t.rd F.TW_STATUS_ROLE = 2 then _ else t) = _
  by_cases h : t.rd F.TW_STATUS_ROLE = 2
  · rw [if_pos h, if_pos h]
  · rw [if_neg h, if_neg h]

/-- The state with the header of an accepted frame taken in. -/
def State.headerTaken (s : State) (data : List Byte) : State :=
  { s with tw := { s.tw with credit := leNat (slice data 12 2), rxNext := (s.tw.rxNext + 1) % 2 ^ 32 } }

/-- What an accepted RS_DONE leaves (R285). -/
theorem State.rsDone_taken (s : State) (data payload : List Byte) : let t := ((s.headerTaken data).dolnosApply 0x22 payload).dolnosAck false
    t.tw.rxNext = (s.tw.rxNext + 1) % 2 ^ 32 ∧ t.tw.credit = leNat (slice data 12 2)
      ∧ t.tw.rsDoneAt = (if s.rd F.TW_STATUS_ROLE = 2 then some s.dt else s.tw.rsDoneAt) ∧ t = { s with tw := t.tw, wire := t.wire } := by
  intro t
  obtain ⟨wire, hw⟩ := ((s.headerTaken data).dolnosApply 0x22 payload).dolnosAck_shape false
  rw [show t = _ from hw, State.dolnosApply_rsDone]
  exact ⟨rfl, rfl, rfl, rfl⟩

section
variable {data : List Byte} {s : State} (hen : s.on F.TW_CTRL_EN = true) (hdol : s.on F.TW_CTRL_DOLNOS_EN = true)
include hen hdol

theorem execDolnosFrameRx_bad (h : ¬ (20 ≤ data.length ∧ data.drop (data.length - 4) = fcs (data.take (data.length - 4)))) :
    exec (.dolnosFrameRx data) s = .next (s.dolnosAck true) :=
  congrArg Host.Outcome.next ((if_neg (not_not_intro ⟨hen, hdol⟩)).trans (if_pos h))

theorem execDolnosFrameRx_rsDone (hlen : 20 ≤ data.length) (hcrc : data.drop (data.length - 4) = fcs (data.take (data.length - 4)))
    (ht : leNat (slice data 0 1) = 0x22) (hf : leNat (slice data 1 1) = 1) (hq : leNat (slice data 4 4) = s.tw.rxNext) :
    exec (.dolnosFrameRx data) s = .next (((s.headerTaken data).dolnosApply 0x22 (slice data 16 (data.length - 20))).dolnosAck false) := by
  show execDolnosFrameRx data s = _
  rw [execDolnosFrameRx, if_neg (not_not_intro ⟨hen, hdol⟩), if_neg (not_not_intro ⟨hlen, hcrc⟩)]
  dsimp only
  rw [ht, hf, hq, if_neg (by decide), State.takeHeader_reliable hf, if_neg (by decide)]
  exact congrArg Host.Outcome.next (if_neg (not_not_intro rfl))

end

/-! Resynchronisation (R284, R285). -/

theorem execResyncRequest_asks {s : State} (h : s.rd F.TW_STATUS_ROLE = 2) (hw : s.tw.rsWait = true) (hup : s.on F.TW_STATUS_DOLNOS_UP = true) :
    exec .resyncRequest s = .next
      ((({ s with tw := { s.tw with rsWait := false } }.wr F.TW_RS_STAT_ACTIVE 1).wr F.TW_RS_STAT_DONE 0).wr F.TW_RS_STAT_POINT 0) :=
  congrArg Host.Outcome.next (if_pos ⟨h, hw, hup⟩)

theorem execResyncRequest_waits {s : State} (h : s.rd F.TW_STATUS_ROLE ≠ 2 ∨ s.tw.rsWait = false ∨ s.on F.TW_STATUS_DOLNOS_UP = false) :
    exec .resyncRequest s = .next s := by
  refine congrArg Host.Outcome.next (if_neg ?_)
  rintro ⟨hr, hw, hup⟩
  rcases h with h | h | h
  · exact h hr
  · exact absurd hw (by rw [h]; decide)
  · exact absurd hup (by rw [State.dolnosUp, h]; decide)

/-- From `r` to `s` no register has changed, nor have the points and the horizon. -/
structure PadsKept (r s : State) : Prop where
  regs : s.regs = r.regs
  gy : s.gy = r.gy
  hz : s.hz = r.hz

theorem PadsKept.toutDrive {r s : State} (h : PadsKept r s) (n : Nat) : PadsKept r (s.toutDrive n) := by
  unfold State.toutDrive
  exact iteInduction (motive := PadsKept r)
    (fun _ => ⟨(State.emit_regs ..).trans h.regs, (State.emit_gy ..).trans h.gy, (State.emit_hz ..).trans h.hz⟩) (fun _ => h)

/-- A role with what stands before the pads follow it (R263). -/
def State.roleSet (s : State) (r : Nat) : State :=
  ((if 3 ≤ r ∧ s.role < 3 then { s with tw := { s.tw with readyAt := s.dt } } else s).wr F.TW_STATUS_ROLE r).wr
    F.TW_STATUS_READY (decide (3 ≤ r)).toNat

theorem State.setRole_padsKept (s : State) (r : Nat) : PadsKept (s.roleSet r) (s.setRole r) :=
  (((PadsKept.mk rfl rfl rfl : PadsKept (s.roleSet r) (s.roleSet r)).toutDrive 0).toutDrive 1 |>.toutDrive 2).toutDrive 3

/-- A role changes the registers of the role alone. -/
theorem State.setRole_standby (s : State) : (s.setRole 3).rd F.TW_STATUS_ROLE = 3 ∧ (s.setRole 3).rd F.TW_STATUS_READY = 1
    ∧ s.keepsRegs (s.setRole 3) [F.TW_STATUS_ROLE, F.TW_STATUS_READY] ∧ (s.setRole 3).gy = s.gy ∧ (s.setRole 3).hz = s.hz := by
  obtain ⟨hregs, hgy, hhz⟩ := s.setRole_padsKept 3
  have h0 : ∃ tw, s.roleSet 3 = (({ s with tw := tw } : State).wr F.TW_STATUS_ROLE 3).wr F.TW_STATUS_READY 1 := by
    unfold State.roleSet
    split
    · exact ⟨_, rfl⟩
    · exact ⟨s.tw, rfl⟩
  obtain ⟨tw, h0⟩ := h0
  rw [State.rd_of_regs hregs, State.rd_of_regs hregs, hgy, hhz, h0]
  refine ⟨?_, State.rd_wr_same _ _ _ (by decide), ?_, rfl, rfl⟩
  · rw [State.rd_wr_ne _ _ _ _ (by decide)]
    exact State.rd_wr_same _ _ _ (by decide)
  · refine State.keepsRegs.of_regs (s := (({ s with tw := tw } : State).wr F.TW_STATUS_ROLE 3).wr F.TW_STATUS_READY 1) ?_
      (hregs.trans (by rw [h0]))
    exact ((State.keepsRegs.refl s _).of_regs rfl).wr.wr

/-- The end of a resynchronisation (R284). -/
def State.resynced (s : State) : State :=
  ((((({ s with tw := { s.tw with rsDoneAt := none, rsWait := false } } : State).setRole roleStandby).inc F.TW_RS_CNT).wr F.TW_RS_STAT_ACTIVE 0).wr
    F.TW_RS_STAT_DONE 1)

theorem execResyncComplete_done {s : State} {d : Nat} (hd : s.tw.rsDoneAt = some d) (hr : s.rd F.TW_STATUS_ROLE = 2) (ht : d + s.hznMax < s.dt) :
    exec .resyncComplete s = .next s.resynced := by
  show execResyncComplete s = _
  rw [execResyncComplete, hd]
  exact congrArg Host.Outcome.next (if_pos ⟨hr, ht⟩)

theorem execResyncComplete_none {s : State} (hd : s.tw.rsDoneAt = none) : exec .resyncComplete s = .next s := by
  show execResyncComplete s = _
  rw [execResyncComplete, hd]

/-- The registers that the end of a resynchronisation writes. -/
def resyncFields : List Fld := [F.TW_STATUS_ROLE, F.TW_STATUS_READY, F.TW_RS_STAT_ACTIVE, F.TW_RS_STAT_DONE, F.TW_RS_CNT]

theorem State.resynced_spec (s : State) : s.resynced.rd F.TW_STATUS_ROLE = 3 ∧ s.resynced.rd F.TW_STATUS_READY = 1
    ∧ s.resynced.rd F.TW_RS_STAT_ACTIVE = 0 ∧ s.resynced.rd F.TW_RS_STAT_DONE = 1
    ∧ s.resynced.rd F.TW_RS_CNT = min (s.rd F.TW_RS_CNT + 1) (2 ^ 32 - 1) ∧ s.resynced.gy = s.gy ∧ s.resynced.hz = s.hz
    ∧ s.keepsRegs s.resynced resyncFields := by
  obtain ⟨hrole, hready, hk, hgy, hhz⟩ := ({ s with tw := { s.tw with rsDoneAt := none, rsWait := false } } : State).setRole_standby
  have hkeep : s.keepsRegs (({ s with tw := { s.tw with rsDoneAt := none, rsWait := false } } : State).setRole 3) resyncFields :=
    (((State.keepsRegs.refl s _).of_regs rfl).trans hk).mono
  have hcnt := hk F.TW_RS_CNT (by decide)
  generalize hx : ({ s with tw := { s.tw with rsDoneAt := none, rsWait := false } } : State).setRole 3 = x at hrole hready hgy hhz hkeep hcnt
  have e : s.resynced = ((x.inc F.TW_RS_CNT).wr F.TW_RS_STAT_ACTIVE 0).wr F.TW_RS_STAT_DONE 1 := by rw [← hx]; rfl
  rw [e]
  refine ⟨?_, ?_, ?_, State.rd_wr_same _ _ _ (by decide), ?_, hgy, hhz, hkeep.inc.wr.wr⟩
  · rw [State.rd_wr_ne _ _ _ _ (by decide), State.rd_wr_ne _ _ _ _ (by decide), State.rd_inc_ne _ (by decide), hrole]
  · rw [State.rd_wr_ne _ _ _ _ (by decide), State.rd_wr_ne _ _ _ _ (by decide), State.rd_inc_ne _ (by decide), hready]
  · rw [State.rd_wr_ne _ _ _ _ (by decide)]
    exact State.rd_wr_same _ _ _ (by decide)
  · rw [State.rd_wr_ne _ _ _ _ (by decide), State.rd_wr_ne _ _ _ _ (by decide), State.rd_inc_same _ F.TW_RS_CNT, hcnt]
    rfl

/-- The acting twin walks: it serves a syncing peer, has room and nothing to mirror first (R284). -/
def State.walks (s : State) : Prop :=
  s.role = roleActing ∧ s.tw.peerRole = roleSyncing ∧ s.dolnosRoom = true ∧ s.tw.mirBuf = [] ∧ s.tw.seqBuf = []

/-- The last step of the walk: every position has been passed, and there is no generation state (R285). -/
theorem execResyncWalk_ends {s : State} (h : s.walks) (hn : s.tw.rsNext = 2 ^ 23 + 16384) (hg : s.fn.gens = []) : exec .resyncWalk s
    = .next (({ s with tw := { s.tw with rsServe := true, rsNext := 2 ^ 23 + 16385 } } : State).dolnosReliable 0x22 []) := by
  have hgens : ({ s with tw := { s.tw with rsServe := true } } : State).twinGens = [] := by simp [State.twinGens, hg]
  rw [State.walks] at h
  show execResyncWalk s = _
  rw [execResyncWalk, if_neg (not_or.mpr ⟨not_not_intro h, by omega⟩)]
  dsimp only
  rw [hgens, hn, if_neg (by omega), if_neg (by omega)]
  rfl

/-- A single mirrored point that the walk has not passed (R284). -/
theorem State.mirroredFrom_single {s : State} {p n : Nat} {r : Point} {at_ : Nat} (hp : at_ ≤ p) (hpts : s.gy.points = [(p, some r)])
    (hm : r.mirror = true) (hn : 0 < n) : s.mirroredFrom at_ n = [(p, r)] := by
  obtain ⟨k, rfl⟩ := Nat.exists_eq_add_of_lt hn
  simp [State.mirroredFrom, hpts, hp, hm]

theorem execResyncWalk_point {s : State} {p : Nat} {r : Point} (h : s.walks) (hp : s.tw.rsNext ≤ p) (hlt : p < 2 ^ 23)
    (hpts : s.gy.points = [(p, some r)]) (hm : r.mirror = true) (hcr : 0 < s.tw.credit) : exec .resyncWalk s
    = .next (({ s with tw := { s.tw with rsServe := true, rsNext := p + 1, credit := s.tw.credit - 1 } } : State).dolnosReliable 0x20
        (s.rsRecord p r)) := by
  have hl := State.mirroredFrom_single (s := { s with tw := { s.tw with rsServe := true } }) (n := min 6 s.tw.credit) hp hpts hm (by omega)
  rw [State.walks] at h
  show execResyncWalk s = _
  rw [execResyncWalk, if_neg (not_or.mpr ⟨not_not_intro h, by omega⟩)]
  dsimp only
  rw [hl, if_pos ⟨by omega, List.cons_ne_nil _ _⟩]
  simp only [List.getLast?_singleton, List.length_singleton, List.map_cons, List.map_nil, List.flatten_cons, List.flatten_nil, List.append_nil]
  rfl

/-- Settles O39: the six clauses in their order, each by the rules of its commands above. -/
theorem mirroringAndResynchronisation : Obligations.MirroringAndResynchronisation := by
  refine ⟨fun s hseq => ⟨fun hm => ?_, fun hlen ht => ?_, fun hne h6 ht hcr hup hlen => ?_⟩, ?_, ?_, ?_, ?_, ?_⟩
  · refine execMirrorBatchClose_waits hseq ?_
    rintro (h | h)
    · rw [hm] at h
      exact absurd h (by decide)
    · exact h.1 hm
  · refine execMirrorBatchClose_waits hseq ?_
    rintro (h | h)
    · omega
    · omega
  · exact ⟨_, execMirrorBatchClose_due hseq (.inr ⟨hne, ht⟩), State.sendMirror_sent hne h6 hcr (State.dolnosRoom_of hup hlen)⟩
  · intro p rest r key mode s hd hp hw
    exact ⟨fun hup hmir hen hcr hlen =>
      ⟨_, execDirtyMapFlush_sends hd hp hw hup hmir hen hcr hlen, s.dirtyTaken_sent hen hmir hup hlen⟩, execDirtyMapFlush_held hd⟩
  · intro f s hf
    refine ⟨fun hup ht => ⟨_, execDolnosRetransmit_due (by rw [hf]; exact List.cons_ne_nil _ _) hup ht, ?_⟩, execDolnosRetransmit_waits⟩
    obtain ⟨wire, hs⟩ := State.resend_single hf
    rw [hs]
    exact ⟨State.rd_inc_same _ F.TW_RETX, rfl, (State.keepsRegs.inc (State.keepsRegs.refl s _)).of_regs rfl, rfl⟩
  · intro m anchor delta bnd s
    have hbar := s.reepBarred_anchored anchor
    refine ⟨fun h => ?_, fun h hb hs hr hp => ?_, fun h hb => ?_, fun ha hr => ⟨fun h => ?_, fun h hs => ?_, fun hen hs h10 hd => ?_⟩⟩
    · rw [execReepRx_eq, State.reepRx_free h]
    · rw [execReepRx_eq, State.reepRx_arms h hb hs hr hp]
    · rw [execReepRx_eq, State.reepRx_late h hb]
    · rw [execReepochArm_accepts ha hr, State.reepochArm_rejected (State.reepArm_barred (hbar.trans h) _)]
      rfl
    · rw [execReepochArm_accepts ha hr, State.reepochArm_rejected (State.reepArm_early (hbar.trans h) (by rwa [s.rd_anchored anchor]) _)]
      rfl
    · exact execReepochArm_alone ha hr hen hs h10 hd
  · intro data s hen hdol
    refine ⟨fun h => ⟨_, execDolnosFrameRx_bad hen hdol ?_, ?_⟩, fun hlen hcrc ht hf hq =>
      ⟨_, execDolnosFrameRx_rsDone hen hdol hlen hcrc ht hf hq, s.rsDone_taken data _⟩⟩
    · rintro ⟨hlen, hcrc⟩
      rcases h with h | h
      · omega
      · exact h hcrc
    · obtain ⟨wire, hs⟩ := s.dolnosAck_shape true
      rw [hs]
  · intro s
    refine ⟨execResyncRequest_asks, execResyncRequest_waits, fun d hd hr ht => ⟨_, execResyncComplete_done hd hr ht, s.resynced_spec⟩,
      execResyncComplete_none, fun hr hpeer hup hlen hm hseq => ?_⟩
    have hwalk : s.walks := ⟨hr, hpeer, State.dolnosRoom_of hup hlen, hm, hseq⟩
    refine ⟨fun hn hg => ⟨_, execResyncWalk_ends hwalk hn hg, ?_⟩, fun p r hp hlt hpts hmir hcr =>
      ⟨_, execResyncWalk_point hwalk hp hlt hpts hmir hcr, ?_⟩⟩
    · obtain ⟨wire, at_, hs⟩ := State.dolnosReliable_shape { s with tw := { s.tw with rsServe := true, rsNext := 2 ^ 23 + 16385 } } 0x22 []
      rw [hs]
      exact ⟨rfl, rfl, rfl⟩
    · obtain ⟨wire, at_, hs⟩ := State.dolnosReliable_shape
        { s with tw := { s.tw with rsServe := true, rsNext := p + 1, credit := s.tw.credit - 1 } } 0x20 (s.rsRecord p r)
      rw [hs]
      exact ⟨rfl, rfl, rfl, rfl⟩

end Sys2Proof.Machine

/-! The gates of a port, operation by operation (R74 to R88): what each leaves alone, the registers it may change, and what the port's
record and registers show after it. -/

namespace Sys2Proof.Machine

/-- Two registers of each port differ on every port when they differ on the first: a port's registers stand at one distance from the
next port's. -/
theorem portKey_ne {f g : Nat → Fld} {p : Nat} (h : (f 0).key ≠ (g 0).key := by decide)
    (hf : ∀ p, (f p).off = (f 0).off + 0x80 * p ∧ (f p).lo = (f 0).lo := by exact fun _ => ⟨rfl, rfl⟩)
    (hg : ∀ p, (g p).off = (g 0).off + 0x80 * p ∧ (g p).lo = (g 0).lo := by exact fun _ => ⟨rfl, rfl⟩) : (f p).key ≠ (g p).key := by
  have hfp := hf p
  have hgp := hg p
  simp only [Fld.key] at h ⊢
  omega

/-- The same of a list of each port's registers. -/
theorem portKey_notMem {f : Nat → Fld} {l : Nat → List Fld} {p : Nat} (h : (f 0).key ∉ (l 0).map Fld.key := by decide)
    (hf : ∀ p, (f p).off = (f 0).off + 0x80 * p ∧ (f p).lo = (f 0).lo := by exact fun _ => ⟨rfl, rfl⟩)
    (hl : ∀ p, (l p).map (fun g => (g.off, g.lo)) = (l 0).map (fun g => (g.off + 0x80 * p, g.lo)) := by exact fun _ => rfl) :
    (f p).key ∉ (l p).map Fld.key := by
  intro hm
  obtain ⟨g, hg, hk⟩ := List.mem_map.mp hm
  have hp : (g.off, g.lo) ∈ (l p).map (fun g => (g.off, g.lo)) := List.mem_map_of_mem hg
  rw [hl p] at hp
  obtain ⟨g0, hg0, he⟩ := List.mem_map.mp hp
  obtain ⟨hoff, hlo⟩ := Prod.mk.inj he
  have hfp := hf p
  refine h (List.mem_map.mpr ⟨g0, hg0, ?_⟩)
  simp only [Fld.key] at hk ⊢
  omega

/-- The two read laws, for the registers of a port. -/
theorem State.rd_wr_other {s : State} {f g : Fld} {v : Nat} (h : g.key ≠ f.key := by exact portKey_ne) : (s.wr f v).rd g = s.rd g :=
  State.rd_wr_ne s f g v h

theorem State.rd_wr_self {s : State} {f : Fld} {v : Nat} (h : f.w ≤ 32 := by exact Nat.le_of_ble_eq_true rfl) :
    (s.wr f v).rd f = v % 2 ^ f.w := State.rd_wr_same s f v h

theorem State.keepsRegs.wrIn {r s : State} {l : List Fld} (h : r.keepsRegs s l) {f : Fld} {v : Nat}
    (hf : f.key ∈ l.map Fld.key := by simp) : r.keepsRegs (s.wr f v) l := h.wr hf

theorem State.keepsRegs.widen {r s : State} {l l' : List Fld} (h : r.keepsRegs s l) (hl : l ⊆ l' := by simp) : r.keepsRegs s l' :=
  h.mono (List.map_subset _ hl)

theorem State.on_of_rd {s t : State} {f : Fld} (h : t.rd f = s.rd f) : t.on f = s.on f := by rw [State.on, h, State.on]

theorem State.rd_wr_toNat (s : State) (f : Fld) (b : Bool) (h : f.w = 1) : (s.wr f b.toNat).rd f = b.toNat := by
  rw [State.rd_wr_same _ _ _ (by omega), h]
  cases b <;> rfl

/-! A port's record. -/

@[simp] theorem State.knPort_setKnPort_same (s : State) (p : Nat) (v : KnPort) : (s.setKnPort p v).knPort p = v := Sparse.get_put_same ..

theorem State.knPort_setKnPort_ne (s : State) {p q : Nat} (v : KnPort) (h : q ≠ p) : (s.setKnPort p v).knPort q = s.knPort q :=
  Sparse.get_put_ne _ _ _ h

theorem State.knPort_of_kn {s t : State} (h : t.kn = s.kn) (q : Nat) : t.knPort q = s.knPort q := by rw [State.knPort, h, State.knPort]

@[simp] theorem State.rd_setKnPort (s : State) (p : Nat) (v : KnPort) (f : Fld) : (s.setKnPort p v).rd f = s.rd f := rfl

/-- From `r` to `s` nothing has moved but registers, the armed re-epoch and the record of port `p`. -/
structure PortKept (p : Nat) (r s : State) : Prop where
  shape : s = { r with regs := s.regs, tb := { r.tb with reep := s.tb.reep }, kn := { r.kn with ports := s.kn.ports } }
  others : ∀ q, q ≠ p → s.knPort q = r.knPort q

namespace PortKept

theorem refl (p : Nat) (s : State) : PortKept p s s := ⟨rfl, fun _ _ => rfl⟩

section
variable {p : Nat} {r s : State} (h : PortKept p r s)
include h

theorem trans {t : State} (g : PortKept p s t) : PortKept p r t := by
  refine ⟨?_, fun q hq => (g.others q hq).trans (h.others q hq)⟩
  have e := congrArg (fun x : State => ({ x with
    regs := t.regs, tb := { x.tb with reep := t.tb.reep }, kn := { x.kn with ports := t.kn.ports } } : State)) h.shape
  exact g.shape.trans e

theorem wr {f : Fld} {v : Nat} : PortKept p r (s.wr f v) := h.trans ⟨rfl, fun _ _ => rfl⟩

theorem inc {f : Fld} : PortKept p r (s.inc f) := h.wr

theorem setKnPort {v : KnPort} : PortKept p r (s.setKnPort p v) := h.trans ⟨rfl, fun _ hq => s.knPort_setKnPort_ne v hq⟩

theorem ite {t : State} {c : Prop} [Decidable c] (g : PortKept p r t) : PortKept p r (if c then s else t) := by split <;> assumption

theorem reepAnchor {q : Nat} {t : Int} : PortKept p r (s.reepAnchor q t) := by
  unfold State.reepAnchor
  split
  · exact h
  · dsimp only
    split
    · exact h.trans ⟨rfl, fun _ _ => rfl⟩
    · exact h

theorem requiet : PortKept p r (s.requiet p) := by
  unfold State.requiet
  dsimp only
  split
  · exact h.setKnPort
  · exact h

theorem setPending {b : Bool} : PortKept p r (s.setPending p b) := h.wr.wr

theorem setHold {b : Bool} : PortKept p r (s.setHold p b) := h.wr.wr

theorem setGates {g : Nat} : PortKept p r (s.setGates p g) := h.wr.setKnPort

theorem cycleEnds : PortKept p r (s.cycleEnds p) := (h.inc.ite h).ite h

theorem applyEntry {k t : Int} {i : Nat} : PortKept p r (s.applyEntry p k i t) :=
  ((h.cycleEnds.ite h).wr.wr.wr.inc.ite (h.cycleEnds.ite h).wr.wr.wr).setKnPort

theorem gateSet {b : Bool} : PortKept p r (s.gateSet p b) :=
  h.setKnPort.setGates.ite h.cycleEnds.setKnPort.setPending.setGates.setHold.reepAnchor

theorem kn : s.kn = { r.kn with ports := s.kn.ports } := by rw [h.shape]

theorem admin : s.kn.admin = r.kn.admin := by rw [h.shape]

theorem oper : s.kn.oper = r.kn.oper := by rw [h.shape]

theorem ms : s.ms = r.ms := by rw [h.shape]

/-- Where the armed re-epoch stands too, only registers and the port's record have moved. -/
theorem shape_of_tb (ht : s.tb = r.tb) : s = { r with regs := s.regs, kn := { r.kn with ports := s.kn.ports } } := by
  have e := h.shape
  rwa [ht] at e

end

end PortKept

/-! A re-epoch that waits for a boundary of the port (R70), a quiet interval in force (R88), a pending change (R80). -/

@[simp] theorem State.reepAnchor_kn (s : State) (p : Nat) (t : Int) : (s.reepAnchor p t).kn = s.kn := by
  unfold State.reepAnchor
  split
  · rfl
  · dsimp only; split <;> rfl

@[simp] theorem State.reepAnchor_regs (s : State) (p : Nat) (t : Int) : (s.reepAnchor p t).regs = s.regs := by
  unfold State.reepAnchor
  split
  · rfl
  · dsimp only; split <;> rfl

@[simp] theorem State.rd_reepAnchor (s : State) (p : Nat) (t : Int) (f : Fld) : (s.reepAnchor p t).rd f = s.rd f :=
  State.rd_of_regs (s.reepAnchor_regs p t) f

@[simp] theorem State.knPort_reepAnchor (s : State) (p : Nat) (t : Int) (q : Nat) : (s.reepAnchor p t).knPort q = s.knPort q :=
  State.knPort_of_kn (s.reepAnchor_kn p t) q

@[simp] theorem State.requiet_regs (s : State) (p : Nat) : (s.requiet p).regs = s.regs := by
  unfold State.requiet; dsimp only; split <;> rfl

@[simp] theorem State.rd_requiet (s : State) (p : Nat) (f : Fld) : (s.requiet p).rd f = s.rd f := State.rd_of_regs (s.requiet_regs p) f

theorem State.requiet_running (s : State) (p : Nat) : ((s.requiet p).knPort p).running = (s.knPort p).running := by
  unfold State.requiet
  dsimp only
  split
  · rw [State.knPort_setKnPort_same]
  · rfl

theorem State.cfgPending_of_rd {s t : State} {p : Nat} (h : t.rd (F.KN_Pn_STATUS_CFG_PENDING p) = s.rd (F.KN_Pn_STATUS_CFG_PENDING p)) :
    t.cfgPending p = s.cfgPending p := State.on_of_rd h

theorem State.cfgPending_setPending (s : State) (p : Nat) (b : Bool) : (s.setPending p b).cfgPending p = b := by
  rw [State.cfgPending, State.on, State.setPending, State.rd_wr_other, State.rd_wr_toNat _ _ _ rfl]
  cases b <;> rfl

/-- The registers that show a pending change. -/
def pendingFields (p : Nat) : List Fld := [F.KN_Pn_STATUS_CFG_PENDING p, F.KN_Pn_CTRL_CFG_CHANGE p]

theorem State.keepsRegs_setPending (s : State) (p : Nat) (b : Bool) : s.keepsRegs (s.setPending p b) (pendingFields p) :=
  ((State.keepsRegs.refl s _).wrIn (by simp [pendingFields])).wrIn (by simp [pendingFields])

end Sys2Proof.Machine

/-! A configuration change of a port list and its abort (R79, R80, R83, R84; `Obligations.ConfigurationChangeTime`,
`Obligations.AdministrativeCopyChecks`). -/

namespace Sys2Proof.Machine

/-- A check that fails answers its own code, so a chain of checks answers 0 only past it. -/
theorem code_ite_eq_zero {c : Prop} [Decidable c] {k n : Nat} (hk : k ≠ 0) : (if c then k else n) = 0 ↔ ¬ c ∧ n = 0 := by
  by_cases h : c <;> simp [h, hk]

/-- A check of the entries of a list passes when each entry passes it. -/
theorem any_map_range_eq_false {α : Type} (f : Nat → α) (q : α → Bool) (n : Nat) :
    ¬ ((List.range n).map f).any q = true ↔ ∀ i, i < n → q (f i) = false := by simp

/-- The checks of R79, each as its code gives it. -/
theorem State.cfgCode_eq_zero_iff (s : State) (p : Nat) : s.cfgCode p = 0 ↔
    (¬ (s.rd (F.KN_Pn_ADMIN_LEN p) = 0 ∨ listMax p < s.rd (F.KN_Pn_ADMIN_LEN p)) ∧ ¬ s.rd (F.KN_Pn_ADMIN_CYCLE p) < listMinI p
    ∧ (∀ i, i < s.rd (F.KN_Pn_ADMIN_LEN p) → decide (leInterval (s.adminEntry p i) < listMinI p) = false)
    ∧ (∀ i, i < s.rd (F.KN_Pn_ADMIN_LEN p) → (decide (leOp (s.adminEntry p i) = 3)
        || (decide (leOp (s.adminEntry p i) ≠ 0) && !s.on (F.KN_Pn_CTRL_HR_EN p))) = false)
    ∧ (∀ i, i < s.rd (F.KN_Pn_ADMIN_LEN p) → (leQuiet (s.adminEntry p i)
        && decide (leGates (s.adminEntry p i) &&& s.rd (F.KN_Pn_SCHED_MASK p) ≠ 0)) = false)
    ∧ ¬ s.rd (F.KN_Pn_ADMIN_CYCLE p) ≤ s.rd (F.KN_Pn_ADMIN_EXT p)) := by
  simp only [State.cfgCode, code_ite_eq_zero (by decide : (1 : Nat) ≠ 0), code_ite_eq_zero (by decide : (2 : Nat) ≠ 0),
    code_ite_eq_zero (by decide : (3 : Nat) ≠ 0), code_ite_eq_zero (by decide : (4 : Nat) ≠ 0), code_ite_eq_zero (by decide : (5 : Nat) ≠ 0),
    code_ite_eq_zero (by decide : (6 : Nat) ≠ 0), any_map_range_eq_false, and_true]

/-- Settles O16: the checks of the entries, code by code, are the checks entry by entry. -/
theorem administrativeCopyChecks : Obligations.AdministrativeCopyChecks := by
  intro p s
  rw [State.cfgCode_eq_zero_iff]
  simp only [decide_eq_false_iff_not, Bool.or_eq_false_iff, Bool.and_eq_false_iff, Bool.not_eq_false', not_or, not_lt, not_le, not_not]
  constructor
  · rintro ⟨⟨hpos, hmax⟩, hcyc, hiv, hop, hq, hext⟩
    refine ⟨Nat.pos_of_ne_zero hpos, hmax, hcyc, fun i hi => ⟨hiv i hi, (hop i hi).1, fun h0 => ?_, fun hquiet => ?_⟩, hext⟩
    · exact (hop i hi).2.resolve_left h0
    · exact (hq i hi).resolve_left (by simp [hquiet])
  · rintro ⟨hpos, hmax, hcyc, he, hext⟩
    refine ⟨⟨hpos.ne', hmax⟩, hcyc, fun i hi => (he i hi).1, fun i hi => ?_, fun i hi => ?_, hext⟩
    · obtain ⟨-, h3, hhr, -⟩ := he i hi
      exact ⟨h3, or_iff_not_imp_left.mpr hhr⟩
    · obtain ⟨-, -, -, hquiet⟩ := he i hi
      exact or_iff_not_imp_left.mpr (fun h => hquiet (by simpa using h))

/-- A copy that passes the checks has a cycle. -/
theorem State.adminCycle_pos {s : State} {p : Nat} (h : s.cfgCode p = 0) : 0 < s.rd (F.KN_Pn_ADMIN_CYCLE p) := by
  obtain ⟨-, hcyc, -⟩ := (s.cfgCode_eq_zero_iff p).mp h
  have hmin : 0 < listMinI p := by unfold listMinI; split <;> decide
  omega

/-! The change time (R78, R80). -/

/-- The first boundary at or after an instant. -/
theorem firstBoundary_spec (base : Int) {cycle : Nat} (t : Int) (hc : 0 < cycle) :
    t ≤ firstBoundary base cycle t ∧ firstBoundary base cycle t < t + cycle ∧ (firstBoundary base cycle t - base) % cycle = 0 := by
  have hc' : (0 : Int) < cycle := by exact_mod_cast hc
  have hsum := Int.mul_ediv_add_emod (t - base + (cycle - 1)) cycle
  have hlo := Int.emod_nonneg (t - base + (cycle - 1)) hc'.ne'
  have hhi := Int.emod_lt_of_pos (t - base + (cycle - 1)) hc'
  have hb : firstBoundary base cycle t = base + (cycle : Int) * ((t - base + (cycle - 1)) / cycle) := by
    rw [firstBoundary, if_neg hc.ne', mul_comm]
  refine ⟨by omega, by omega, ?_⟩
  rw [hb, add_sub_cancel_left, Int.mul_emod_right]

/-- The change time is the base, or the first later boundary, that leaves the lead (R80). -/
theorem cctFor_spec (base : Int) {cycle : Nat} (now : Int) (hc : 0 < cycle) :
    if now ≤ base then cctFor base cycle now = base
    else now ≤ cctFor base cycle now ∧ cctFor base cycle now < now + cycle ∧ (cctFor base cycle now - base) % cycle = 0 := by
  rw [cctFor]
  split
  · rfl
  · exact firstBoundary_spec base now hc

theorem ofSigned_lt (x : Int) : ofSigned 64 x < 2 ^ 64 := by unfold ofSigned; omega

/-! CFG_CHANGE and CFG_ABORT (R79, R83, R84). -/

section
variable {m : Nat} {p : Fin 10} {s : State}

theorem execCfgChange_accepts (h : s.accepts m (0x60400 + 0x80 * p.val) permW) : exec (.cfgChange m p) s = .next (s.cfgChange p.val) :=
  congrArg Host.Outcome.next (State.busW_accepts h _)

theorem execCfgAbort_accepts (h : s.accepts m (0x60400 + 0x80 * p.val) permW) : exec (.cfgAbort m p) s = .next (s.cfgAbort p.val) :=
  congrArg Host.Outcome.next (State.busW_accepts h _)

end

theorem State.adminLocked_iff {s : State} {p : Nat} : s.adminLocked p = true ↔
    s.cfgPending p = true ∨ s.on (F.KN_Pn_STATUS_ADMIN_BUSY p) = true := Bool.or_eq_true_iff

theorem State.cfgChange_locked {s : State} {p : Nat} (h : s.cfgPending p = true ∨ s.on (F.KN_Pn_STATUS_ADMIN_BUSY p) = true) :
    s.cfgChange p = ((s.wr (F.KN_Pn_STATUS_CFG_ERR p) 8).wr (F.KN_Pn_STATUS_CFG_ERR_SEEN p) 1).adminRej p :=
  if_pos (State.adminLocked_iff.mpr h)

/-- The state of a port that has taken a change, before the quiet interval and the re-epoch follow it. -/
def State.changeTaken (s : State) (p : Nat) (c : Int) : State :=
  let s1 := (s.setPending p true).wr64 (F.KN_Pn_CHG_TIME_LO p) (F.KN_Pn_CHG_TIME_HI p) (ofSigned 64 c)
  s1.setKnPort p { s1.knPort p with cctAt := s.dt, startAt := none }

section
variable {s : State} {p : Nat} (hp : s.cfgPending p = false) (hb : s.on (F.KN_Pn_STATUS_ADMIN_BUSY p) = false)
include hp hb

theorem State.not_adminLocked : ¬ s.adminLocked p = true := by simp [State.adminLocked, hp, hb]

theorem State.cfgChange_refused (hc : s.cfgCode p ≠ 0) : s.cfgChange p = ((s.wr (F.KN_Pn_STATUS_CFG_ERR p) (s.cfgCode p)).wr
    (F.KN_Pn_STATUS_CFG_ERR_SEEN p) 1).raise Src.KN_CFG_ERR p none (s.cfgCode p) :=
  (if_neg (State.not_adminLocked hp hb)).trans (if_pos hc)

theorem State.cfgChange_taken (hc : s.cfgCode p = 0) : s.cfgChange p = ((s.changeTaken p (cctFor (s.adminBase p)
    (s.rd (F.KN_Pn_ADMIN_CYCLE p)) ((s.dt : Int) + listLead p))).requiet p).reepAnchor p s.dt :=
  (if_neg (State.not_adminLocked hp hb)).trans (if_neg (not_not.mpr hc))

end

/-- The registers that a change taken writes. -/
def changeFields (p : Nat) : List Fld :=
  [F.KN_Pn_STATUS_CFG_PENDING p, F.KN_Pn_CTRL_CFG_CHANGE p, F.KN_Pn_CHG_TIME_LO p, F.KN_Pn_CHG_TIME_HI p]

theorem State.changeTaken_portKept (s : State) (p : Nat) (c : Int) : PortKept p s (s.changeTaken p c) :=
  (PortKept.refl p s).setPending.wr.wr.setKnPort

theorem State.changeTaken_keepsRegs (s : State) (p : Nat) (c : Int) : s.keepsRegs (s.changeTaken p c) (changeFields p) :=
  ((((s.keepsRegs_setPending p true).widen (by simp [pendingFields, changeFields])).wr64 (by simp [changeFields])
    (by simp [changeFields]))).of_regs rfl

theorem State.cfgPending_changeTaken (s : State) (p : Nat) (c : Int) : (s.changeTaken p c).cfgPending p = true := by
  rw [State.cfgPending, State.on, State.changeTaken, State.rd_setKnPort, State.rd_wr64_ne _ (by exact portKey_ne) (by exact portKey_ne)]
  exact s.cfgPending_setPending p true

theorem State.rd64_changeTaken (s : State) (p : Nat) (c : Int) :
    (s.changeTaken p c).rd64 (F.KN_Pn_CHG_TIME_LO p) (F.KN_Pn_CHG_TIME_HI p) = ofSigned 64 c := by
  rw [State.rd64, State.changeTaken, State.rd_setKnPort, State.rd_setKnPort]
  exact State.rd64_wr64_same _ _ _ _ rfl rfl portKey_ne (ofSigned_lt c)

/-- The record of a port whose pending change is aborted (R84). -/
def State.abortRecord (s : State) (p : Nat) : KnPort :=
  let r := s.knPort p
  let q := r.fdQ.filter (fun e => decide (e.1 < s.chgTime p))
  let before (t : Int) : Int := if t < s.chgTime p then t else s.dt
  { r with
    fdQ := q, lastHold := before r.lastHold, lastRel := before r.lastRel,
    lastSent := if r.lastSent < s.chgTime p then r.lastSent else (q.getLast?.map (·.1)).getD s.dt,
    startAt := if r.eff ∧ ¬ r.running ∧ 0 < s.operLen p then
      some (firstBoundary (s.operBase p) (s.rd (F.KN_Pn_OPER_CYCLE p)) ((s.dt : Int) + listLead p)) else r.startAt }

theorem State.cfgAbort_taken {s : State} {p : Nat} (h : s.cfgPending p = true ∧ (s.dt : Int) < s.chgTime p - 1000) :
    s.cfgAbort p = (((s.setPending p false).setKnPort p (s.abortRecord p)).requiet p).reepAnchor p s.dt := if_pos h

theorem State.cfgAbort_refused {s : State} {p : Nat} (h : ¬ (s.cfgPending p = true ∧ (s.dt : Int) < s.chgTime p - 1000)) :
    s.cfgAbort p = s.inc (F.KN_Pn_ADMIN_REJ p) := if_neg h

theorem State.cfgAbort_running {s : State} {p : Nat} (h : s.cfgPending p = true ∧ (s.dt : Int) < s.chgTime p - 1000) :
    ((s.cfgAbort p).knPort p).running = (s.knPort p).running := by
  rw [State.cfgAbort_taken h, State.knPort_reepAnchor, State.requiet_running, State.knPort_setKnPort_same, State.abortRecord]

/-- Settles O15: a change by `cfgChange_locked`, `cfgChange_refused` and `cfgChange_taken` with `cctFor_spec`, an abort by
`cfgAbort_taken` and `cfgAbort_refused`. -/
theorem configurationChangeTime : Obligations.ConfigurationChangeTime := by
  intro m p s ha
  rw [execCfgChange_accepts ha, execCfgAbort_accepts ha]
  refine ⟨fun h => by rw [State.cfgChange_locked h]; rfl, fun hp hb hc => by rw [State.cfgChange_refused hp hb hc],
    fun hp hb hc => ?_, fun hp ht => ?_, fun h => by rw [State.cfgAbort_refused h]⟩
  · rw [State.cfgChange_taken hp hb hc]
    refine ⟨_, _, rfl, ?_, ?_, cctFor_spec _ _ (State.adminCycle_pos hc), (s.changeTaken_portKept _ _).requiet.reepAnchor.shape, ?_⟩
    · exact (State.cfgPending_of_rd ((State.rd_reepAnchor ..).trans (State.rd_requiet ..))).trans (s.cfgPending_changeTaken p _)
    · simp only [State.rd64, State.rd_reepAnchor, State.rd_requiet]
      exact s.rd64_changeTaken p _
    · exact (s.changeTaken_keepsRegs p.val _).of_regs ((State.reepAnchor_regs ..).trans (State.requiet_regs ..))
  · rw [State.cfgAbort_taken ⟨hp, ht⟩]
    refine ⟨_, rfl, ?_, (PortKept.refl _ s).setPending.setKnPort.requiet.reepAnchor.shape, ?_, fun hr => ?_⟩
    · exact (State.cfgPending_of_rd ((State.rd_reepAnchor ..).trans (State.rd_requiet ..))).trans (s.cfgPending_setPending p false)
    · exact (s.keepsRegs_setPending p.val false).of_regs ((State.reepAnchor_regs ..).trans (State.requiet_regs ..))
    · rw [← State.cfgAbort_taken ⟨hp, ht⟩, State.cfgAbort_running ⟨hp, ht⟩, hr]

end Sys2Proof.Machine

/-! An entry that begins, gates that stop, gates that are enabled (R75 to R78, R88): what the port's registers and its record show. -/

namespace Sys2Proof.Machine

/-- The registers that an entry that begins may write. -/
def entryFields (p : Nat) : List Fld := [F.KN_Pn_SHORT_CNT p, F.KN_Pn_STATUS_CUR_ENTRY p, F.KN_Pn_STATUS_CUR_STATES p, F.KN_Pn_CYCLE_CNT p,
  F.KN_Pn_EVT_CNT p]

/-- The registers that gates that stop write, beside the count of the cycle that ends. -/
def stopFields (p : Nat) : List Fld := [F.KN_Pn_STATUS_CUR_STATES p, F.KN_Pn_STATUS_CFG_PENDING p, F.KN_Pn_CTRL_CFG_CHANGE p,
  F.KN_Pn_STATUS_HOLD p, F.LN_Pn_MM_STATUS_HOLD_ACTIVE p]

theorem leGates_lt (w : DWord) : leGates w < 2 ^ 8 := Nat.mod_lt _ (by decide)

/-! The end of a cycle (R77). -/

theorem State.keepsRegs.shortCount {r s : State} {l : List Fld} (h : r.keepsRegs s l) {p : Nat} {b : Bool}
    (hf : (F.KN_Pn_SHORT_CNT p).key ∈ l.map Fld.key := by simp) : r.keepsRegs (s.shortCount p b) l := by
  unfold State.shortCount
  split
  · exact h.inc hf
  · exact h

theorem State.keepsRegs.cycleEnds {r s : State} {l : List Fld} (h : r.keepsRegs s l) {p : Nat}
    (hf : (F.KN_Pn_SHORT_CNT p).key ∈ l.map Fld.key := by simp) : r.keepsRegs (s.cycleEnds p) l := by
  unfold State.cycleEnds
  split
  · exact h.shortCount hf
  · exact h

theorem State.shortCount_shape (s : State) (p : Nat) (b : Bool) : ∃ regs, s.shortCount p b = { s with regs := regs } := by
  unfold State.shortCount; split
  · exact ⟨_, rfl⟩
  · exact ⟨s.regs, rfl⟩

theorem State.cycleEnds_shape (s : State) (p : Nat) : ∃ regs, s.cycleEnds p = { s with regs := regs } := by
  unfold State.cycleEnds; split
  · exact State.shortCount_shape ..
  · exact ⟨s.regs, rfl⟩

theorem State.cycleEnds_idle {s : State} {p : Nat} (h : (s.knPort p).running = false) : s.cycleEnds p = s :=
  if_neg (by rw [h]; exact Bool.false_ne_true)

/-! An entry that begins (R75, R76, R88). -/

/-- The state with the entry in the port's registers, its event not yet counted. -/
def State.entryShown (s : State) (p : Nat) (k : Int) (i : Nat) : State :=
  (((if i = 0 then s.cycleEnds p else s).wr (F.KN_Pn_STATUS_CUR_ENTRY p) i).wr (F.KN_Pn_STATUS_CUR_STATES p) (leGates (s.operEntry p i))).wr
    (F.KN_Pn_CYCLE_CNT p) (k % (2 ^ 32 : Nat)).toNat

theorem State.applyEntry_eq (s : State) (p : Nat) (k : Int) (i : Nat) (t : Int) : s.applyEntry p k i t =
    (if p < 2 then (s.entryShown p k i).inc (F.KN_Pn_EVT_CNT p) else s.entryShown p k i).setKnPort p { s.knPort p with
      running := true, startAt := none, k := k, last := t
      quiet := if leQuiet (s.operEntry p i) then some (t, s.entryEnd p k i t) else none } := rfl

theorem State.knPort_applyEntry (s : State) (p : Nat) (k : Int) (i : Nat) (t : Int) : (s.applyEntry p k i t).knPort p = { s.knPort p with
    running := true, startAt := none, k := k, last := t
    quiet := if leQuiet (s.operEntry p i) then some (t, s.entryEnd p k i t) else none } := State.knPort_setKnPort_same ..

theorem State.entryShown_tb (s : State) (p : Nat) (k : Int) (i : Nat) : (s.entryShown p k i).tb = s.tb := by
  obtain ⟨regs, e⟩ := s.cycleEnds_shape p
  rw [State.entryShown, e]
  split <;> rfl

theorem State.applyEntry_tb (s : State) (p : Nat) (k : Int) (i : Nat) (t : Int) : (s.applyEntry p k i t).tb = s.tb := by
  rw [State.applyEntry_eq]; split <;> exact s.entryShown_tb p k i

theorem State.entryShown_keepsRegs (s : State) (p : Nat) (k : Int) (i : Nat) : s.keepsRegs (s.entryShown p k i) (entryFields p) := by
  have h0 : s.keepsRegs (if i = 0 then s.cycleEnds p else s) (entryFields p) := by
    split
    · exact (State.keepsRegs.refl s _).cycleEnds (by simp [entryFields])
    · exact State.keepsRegs.refl s _
  exact ((h0.wrIn (by simp [entryFields])).wrIn (by simp [entryFields])).wrIn (by simp [entryFields])

theorem State.applyEntry_keepsRegs (s : State) (p : Nat) (k : Int) (i : Nat) (t : Int) :
    s.keepsRegs (s.applyEntry p k i t) (entryFields p) := by
  rw [State.applyEntry_eq]
  split
  · exact ((s.entryShown_keepsRegs p k i).wrIn (by simp [entryFields])).of_regs rfl
  · exact (s.entryShown_keepsRegs p k i).of_regs rfl

theorem State.rd_applyEntry {p : Nat} {f : Fld} (h : f.key ≠ (F.KN_Pn_EVT_CNT p).key) (s : State) (k : Int) (i : Nat) (t : Int) :
    (s.applyEntry p k i t).rd f = (s.entryShown p k i).rd f := by
  rw [State.applyEntry_eq, State.rd_setKnPort]
  split
  · exact State.rd_inc_ne _ h
  · rfl

section
variable (s : State) (p : Nat) (k : Int) (i : Nat) (t : Int)

theorem State.rd_applyEntry_entry : (s.applyEntry p k i t).rd (F.KN_Pn_STATUS_CUR_ENTRY p) = i % 2 ^ 13 := by
  rw [State.rd_applyEntry portKey_ne, State.entryShown, State.rd_wr_other,
    State.rd_wr_other, State.rd_wr_self]
  rfl

theorem State.rd_applyEntry_states : (s.applyEntry p k i t).rd (F.KN_Pn_STATUS_CUR_STATES p) = leGates (s.operEntry p i) := by
  rw [State.rd_applyEntry portKey_ne, State.entryShown, State.rd_wr_other,
    State.rd_wr_self]
  exact Nat.mod_eq_of_lt (leGates_lt _)

theorem State.rd_applyEntry_cycle : (s.applyEntry p k i t).rd (F.KN_Pn_CYCLE_CNT p) = (k % (2 ^ 32 : Nat)).toNat := by
  rw [State.rd_applyEntry portKey_ne, State.entryShown, State.rd_wr_self]
  refine Nat.mod_eq_of_lt (show (k % (2 ^ 32 : Nat)).toNat < 2 ^ 32 from ?_)
  omega

end

/-! Gates that stop (R78). -/

theorem State.gateSet_false (s : State) (p : Nat) : s.gateSet p false = ((((((s.cycleEnds p).setKnPort p { s.knPort p with
    eff := false, running := false, startAt := none, quiet := none }).setPending p false).setGates p 0xFF).setHold p false).reepAnchor p
      s.dt) := rfl

theorem State.knPort_gateSet_false (s : State) (p : Nat) : (s.gateSet p false).knPort p = { s.knPort p with
    eff := false, running := false, startAt := none, quiet := none, fdStates := 255, fdQ := [] } := by
  rw [State.gateSet_false, State.knPort_reepAnchor]
  refine (State.knPort_setKnPort_same ..).trans ?_
  exact congrArg (fun r : KnPort => { r with fdStates := 255, fdQ := [] }) (State.knPort_setKnPort_same ..)

theorem State.wireGates_gateSet_false (s : State) (p : Nat) : (s.gateSet p false).wireGates p = 0xFF := by
  rw [State.wireGates, State.knPort_gateSet_false]; rfl

theorem State.gateSet_false_keepsRegs {s : State} {p : Nat} {l : List Fld} (h : s.keepsRegs (s.cycleEnds p) l) (hl : stopFields p ⊆ l) :
    s.keepsRegs (s.gateSet p false) l := by
  have hm : ∀ f ∈ stopFields p, f.key ∈ l.map Fld.key := fun f hf => List.mem_map_of_mem (hl hf)
  have hp := ((State.keepsRegs.of_regs h (t := (s.cycleEnds p).setKnPort p { s.knPort p with
    eff := false, running := false, startAt := none, quiet := none }) rfl).wr (hm (F.KN_Pn_STATUS_CFG_PENDING p) (by simp [stopFields])) (v := false.toNat)).wr
      (hm (F.KN_Pn_CTRL_CFG_CHANGE p) (by simp [stopFields])) (v := false.toNat)
  have hg := (hp.wr (hm (F.KN_Pn_STATUS_CUR_STATES p) (by simp [stopFields])) (v := 0xFF)).of_regs
    (t := (((s.cycleEnds p).setKnPort p { s.knPort p with eff := false, running := false, startAt := none, quiet := none }).setPending p
      false).setGates p 0xFF) rfl
  exact ((hg.wr (hm _ (by simp [stopFields]))).wr (hm _ (by simp [stopFields]))).of_regs (State.reepAnchor_regs ..)

section
variable (s : State) (p : Nat)

theorem State.rd_gateSet_false_hold : (s.gateSet p false).rd (F.KN_Pn_STATUS_HOLD p) = 0 := by
  rw [State.gateSet_false, State.rd_reepAnchor, State.setHold, State.rd_wr_other, State.rd_wr_self]
  rfl

theorem State.rd_gateSet_false_states : (s.gateSet p false).rd (F.KN_Pn_STATUS_CUR_STATES p) = 0xFF := by
  rw [State.gateSet_false, State.rd_reepAnchor, State.setHold, State.rd_wr_other,
    State.rd_wr_other, State.setGates, State.rd_setKnPort, State.rd_wr_self]
  rfl

theorem State.cfgPending_gateSet_false : (s.gateSet p false).cfgPending p = false := by
  refine Eq.trans (State.cfgPending_of_rd ?_) (State.cfgPending_setPending ((s.cycleEnds p).setKnPort p { s.knPort p with
    eff := false, running := false, startAt := none, quiet := none }) p false)
  rw [State.gateSet_false, State.rd_reepAnchor, State.setHold, State.rd_wr_other,
    State.rd_wr_other, State.setGates, State.rd_setKnPort, State.rd_wr_other]

end

end Sys2Proof.Machine

/-! The exchange of a port's lists, the copy back and GATE_EN (R77, R78, R81, R82; `Obligations.ListExchangeAndGateEnable`). -/

namespace Sys2Proof.Machine

/-! The two banks of a port's list (R82, R104). -/

theorem Sparse.get_of_above {α : Type} {d : α} {l : List (Nat × α)} {a : Nat} (h : Sparse.above a l = true) : Sparse.get d l a = d := by
  induction l with
  | nil => rfl
  | cons x t ih =>
    obtain ⟨k, v⟩ := x
    simp only [Sparse.above, Bool.and_eq_true, decide_eq_true_eq] at h
    rw [Sparse.get, if_neg h.1.ne', ih h.2]

/-- Writing every entry of a canonical table over another one: what the table lists is read, the rest stays. -/
theorem Sparse.get_foldl_put {α : Type} [DecidableEq α] {d : α} {l m : List (Nat × α)} {a : Nat} (h : Sparse.wf d l = true) :
    Sparse.get d (l.foldl (fun m e => Sparse.put d m e.1 e.2) m) a = if Sparse.get d l a = d then Sparse.get d m a else Sparse.get d l a := by
  induction l generalizing m with
  | nil => simp
  | cons x t ih =>
    obtain ⟨k, v⟩ := x
    simp only [Sparse.wf, Bool.and_eq_true, decide_eq_true_eq] at h
    obtain ⟨⟨habove, hv⟩, ht⟩ := h
    rw [List.foldl_cons, ih ht, Sparse.get]
    by_cases hk : k = a
    · subst hk
      rw [if_pos (Sparse.get_of_above habove), Sparse.get_put_same, if_pos rfl, if_neg hv]
    · rw [if_neg hk, Sparse.get_put_ne _ _ _ (Ne.symm hk)]

theorem get_bankCopy {p : Nat} {src : List (Nat × DWord)} (dst : List (Nat × DWord)) (h : Sparse.wf 0 src = true) (a : Nat) :
    Sparse.get 0 (bankCopy p src dst) a = if p * 4096 ≤ a ∧ a < (p + 1) * 4096 then Sparse.get 0 src a else Sparse.get 0 dst a := by
  have hsrc := Sparse.get_filter_key 0 (fun k => decide (p * 4096 ≤ k ∧ k < (p + 1) * 4096)) src a
  simp only [decide_eq_true_eq] at hsrc
  rw [bankCopy, Sparse.get_foldl_put (Sparse.wf_filter _ h), hsrc]
  by_cases hin : p * 4096 ≤ a ∧ a < (p + 1) * 4096
  · simp only [if_pos hin, Sparse.get_dropRange_in _ _ hin]
    split
    · next hz => exact hz.symm
    · rfl
  · simp only [if_neg hin, Sparse.get_dropRange_out _ _ hin, if_true]

theorem get_bankCopy_own {p i : Nat} {src : List (Nat × DWord)} (dst : List (Nat × DWord)) (h : Sparse.wf 0 src = true) (hi : i < 4096) :
    Sparse.get 0 (bankCopy p src dst) (p * 4096 + i) = Sparse.get 0 src (p * 4096 + i) := by
  rw [get_bankCopy dst h, if_pos ⟨by omega, by omega⟩]

theorem get_bankCopy_other {p q i : Nat} {src : List (Nat × DWord)} (dst : List (Nat × DWord)) (h : Sparse.wf 0 src = true) (hi : i < 4096)
    (hq : q ≠ p) : Sparse.get 0 (bankCopy p src dst) (q * 4096 + i) = Sparse.get 0 dst (q * 4096 + i) := by
  rw [get_bankCopy dst h, if_neg (by omega)]

/-! The exchange at the change time (R81, R82). -/

/-- The change counted, with the cycles that it cuts (R77, R82). -/
def State.changeDone (s : State) (p : Nat) : State :=
  let r := s.knPort p
  let c := s.sched p
  let s0 := (s.cycleEnds p).shortCount p (r.running && decide (0 < c.span (r.k + 1)) && (c.events (r.k + 1)).isEmpty && c.short (r.k + 1))
  ((s0.setPending p false).inc (F.KN_Pn_CHG_CNT p)).wr (F.KN_Pn_STATUS_ADMIN_BUSY p) 1

/-- The operational registers of a port take the administrative values of `v`. -/
def State.operSet (s v : State) (p : Nat) : State :=
  (((s.wr64 (F.KN_Pn_OPER_BASE_LO p) (F.KN_Pn_OPER_BASE_HI p) (ofSigned 64 (v.adminBase p))).wr (F.KN_Pn_OPER_CYCLE p)
    (v.rd (F.KN_Pn_ADMIN_CYCLE p))).wr (F.KN_Pn_OPER_EXT p) (v.rd (F.KN_Pn_ADMIN_EXT p))).wr (F.KN_Pn_OPER_LEN p) (v.rd (F.KN_Pn_ADMIN_LEN p))

/-- The change counted and the two banks exchanged. -/
def State.banksExchanged (s : State) (p : Nat) : State :=
  { s.changeDone p with
    kn := { (s.changeDone p).kn with oper := bankCopy p s.kn.admin s.kn.oper, admin := bankCopy p s.kn.oper s.kn.admin } }

/-- The state with the lists exchanged, before the new list begins or the gates stop. -/
def State.exchanged (s : State) (p : Nat) : State :=
  ((s.banksExchanged p).operSet s p).setKnPort p { s.knPort p with running := false, opNeg := (s.knPort p).admNeg }

/-- What follows the exchange. -/
def State.afterExchange (s : State) (p : Nat) : State :=
  let u := s.exchanged p
  if (s.knPort p).eff then
    if s.on (F.KN_Pn_CTRL_GATE_EN p) then
      (u.applyEntry p ((s.chgTime p - s.adminBase p) / (s.rd (F.KN_Pn_ADMIN_CYCLE p) : Nat)) 0 (s.chgTime p)).reepAnchor p (s.chgTime p)
    else u.gateSet p false
  else u

theorem State.cctExchange_eq (s : State) (p : Nat) : s.cctExchange p = (s.newCycles p).afterExchange p := rfl

theorem State.newCycles_shape (s : State) (p : Nat) : ∃ l, s.newCycles p = { s with ms := { s.ms with lastK := l } } := by
  unfold State.newCycles
  split
  · exact ⟨s.ms.lastK, rfl⟩
  · exact ⟨_, rfl⟩

/-- The registers of a port's operational list. -/
def operFields (p : Nat) : List Fld :=
  [F.KN_Pn_OPER_BASE_LO p, F.KN_Pn_OPER_BASE_HI p, F.KN_Pn_OPER_CYCLE p, F.KN_Pn_OPER_EXT p, F.KN_Pn_OPER_LEN p]

/-- The registers that the exchange and what follows it may write. -/
def exchangeFields (p : Nat) : List Fld := [F.KN_Pn_STATUS_CFG_PENDING p, F.KN_Pn_CTRL_CFG_CHANGE p, F.KN_Pn_CHG_CNT p,
  F.KN_Pn_STATUS_ADMIN_BUSY p, F.KN_Pn_SHORT_CNT p, F.KN_Pn_OPER_BASE_LO p, F.KN_Pn_OPER_BASE_HI p, F.KN_Pn_OPER_CYCLE p,
  F.KN_Pn_OPER_EXT p, F.KN_Pn_OPER_LEN p, F.KN_Pn_STATUS_CUR_ENTRY p, F.KN_Pn_STATUS_CUR_STATES p, F.KN_Pn_CYCLE_CNT p,
  F.KN_Pn_EVT_CNT p, F.KN_Pn_STATUS_HOLD p, F.LN_Pn_MM_STATUS_HOLD_ACTIVE p]

section
variable (s v : State) (p : Nat)

theorem State.operSet_keepsRegs : s.keepsRegs (s.operSet v p) (operFields p) :=
  ((((State.keepsRegs.refl s _).wr64 (by simp [operFields]) (by simp [operFields])).wrIn (by simp [operFields])).wrIn
    (by simp [operFields])).wrIn (by simp [operFields])

theorem State.rd_operSet_len : (s.operSet v p).rd (F.KN_Pn_OPER_LEN p) = v.rd (F.KN_Pn_ADMIN_LEN p) % 2 ^ 13 := State.rd_wr_self

theorem State.rd_operSet_cycle : (s.operSet v p).rd (F.KN_Pn_OPER_CYCLE p) = v.rd (F.KN_Pn_ADMIN_CYCLE p) := by
  rw [State.operSet, State.rd_wr_other, State.rd_wr_other, State.rd_wr_self]
  exact Nat.mod_eq_of_lt (State.rd_lt ..)

theorem State.rd64_operSet_base : (s.operSet v p).rd64 (F.KN_Pn_OPER_BASE_LO p) (F.KN_Pn_OPER_BASE_HI p) = ofSigned 64 (v.adminBase p) := by
  rw [State.rd64, State.operSet, State.rd_wr_other, State.rd_wr_other, State.rd_wr_other, State.rd_wr_other, State.rd_wr_other, State.rd_wr_other]
  exact State.rd64_wr64_same _ _ _ _ rfl rfl portKey_ne (ofSigned_lt _)

theorem State.rd64_lt (lo hi : Fld) : s.rd64 lo hi < 2 ^ 64 := by
  have h1 := s.rd_lt lo
  have h2 := s.rd_lt hi
  rw [State.rd64]; omega

/-- A base that a step has moved below 0 stands in its register modulo 2⁶⁴ (R63). -/
theorem baseOf_ofSigned (neg : Bool) {v : Nat} (h : v < 2 ^ 64) : baseOf neg (ofSigned 64 (baseOf neg v)) = baseOf neg v := by
  have hv : ofSigned 64 (baseOf neg v) = v := by
    unfold ofSigned baseOf
    cases neg
    · simp only [Bool.false_eq_true, if_false]; omega
    · simp only [if_true]; omega
  rw [hv]

theorem State.changeDone_shape : ∃ regs, s.changeDone p = { s with regs := regs } := by
  obtain ⟨r1, e1⟩ := s.cycleEnds_shape p
  obtain ⟨r2, e2⟩ := (s.cycleEnds p).shortCount_shape p ((s.knPort p).running && decide (0 < (s.sched p).span ((s.knPort p).k + 1))
    && ((s.sched p).events ((s.knPort p).k + 1)).isEmpty && (s.sched p).short ((s.knPort p).k + 1))
  refine ⟨(s.changeDone p).regs, ?_⟩
  rw [State.changeDone, e2, e1]
  rfl

theorem State.changeDone_kn : (s.changeDone p).kn = s.kn := by
  obtain ⟨regs, e⟩ := s.changeDone_shape p
  rw [e]

/-- The counts of the cycles that the change cuts, and then the change. -/
theorem State.changeDone_counted : ∃ r, s.keepsRegs r [F.KN_Pn_SHORT_CNT p]
    ∧ s.changeDone p = ((r.setPending p false).inc (F.KN_Pn_CHG_CNT p)).wr (F.KN_Pn_STATUS_ADMIN_BUSY p) 1 :=
  ⟨_, (State.keepsRegs.refl s _).cycleEnds.shortCount, rfl⟩

theorem State.changeDone_keepsRegs : s.keepsRegs (s.changeDone p) (exchangeFields p) := by
  obtain ⟨r, hr, e⟩ := s.changeDone_counted p
  have hp := (hr.widen (l' := exchangeFields p) (by simp [exchangeFields])).trans
    ((r.keepsRegs_setPending p false).widen (by simp [pendingFields, exchangeFields]))
  rw [e]
  exact (hp.wrIn (by simp [exchangeFields])).wrIn (by simp [exchangeFields])

theorem State.rd_changeDone_busy : (s.changeDone p).rd (F.KN_Pn_STATUS_ADMIN_BUSY p) = 1 := State.rd_wr_self

theorem State.rd_changeDone_count : (s.changeDone p).rd (F.KN_Pn_CHG_CNT p) = min (s.rd (F.KN_Pn_CHG_CNT p) + 1) (2 ^ 32 - 1) := by
  obtain ⟨r, hr, e⟩ := s.changeDone_counted p
  rw [e, State.rd_wr_other, State.rd_inc_same _ _ (Nat.le_of_ble_eq_true rfl),
    r.keepsRegs_setPending p false _ (by exact portKey_notMem), hr _ (by simp only [List.map_cons, List.map_nil, List.mem_singleton]; exact portKey_ne)]
  rfl

theorem State.cfgPending_changeDone : (s.changeDone p).cfgPending p = false := by
  obtain ⟨r, -, e⟩ := s.changeDone_counted p
  rw [e, State.cfgPending, State.on, State.rd_wr_other, State.rd_inc_ne _ (by exact portKey_ne)]
  exact r.cfgPending_setPending p false

/-! The state with the lists exchanged. -/

theorem State.rd_exchanged {f : Fld} (hf : f.key ∉ (operFields p).map Fld.key) : (s.exchanged p).rd f = (s.changeDone p).rd f :=
  (State.rd_setKnPort ..).trans (((s.banksExchanged p).operSet_keepsRegs s p f hf).trans (State.rd_mk ..))

theorem State.knPort_exchanged :
    (s.exchanged p).knPort p = { s.knPort p with running := false, opNeg := (s.knPort p).admNeg } := State.knPort_setKnPort_same ..

theorem State.exchanged_kn : (s.exchanged p).kn = { s.kn with
    oper := bankCopy p s.kn.admin s.kn.oper, admin := bankCopy p s.kn.oper s.kn.admin
    ports := Sparse.put KnPort.empty s.kn.ports p { s.knPort p with running := false, opNeg := (s.knPort p).admNeg } } := by
  have e := congrArg (fun kn : Kn => ({ kn with
    oper := bankCopy p s.kn.admin s.kn.oper, admin := bankCopy p s.kn.oper s.kn.admin
    ports := Sparse.put KnPort.empty kn.ports p { s.knPort p with running := false, opNeg := (s.knPort p).admNeg } } : Kn))
    (s.changeDone_kn p)
  exact e

theorem State.exchanged_shape : ∃ regs kn, s.exchanged p = { s with regs := regs, kn := kn } := by
  obtain ⟨regs, e⟩ := s.changeDone_shape p
  have e' := congrArg (fun x : State => ((({ x with kn := (s.banksExchanged p).kn } : State).operSet s p).setKnPort p { s.knPort p with
    running := false, opNeg := (s.knPort p).admNeg })) e
  exact ⟨_, _, e'⟩

end

/-- What the exchange of a port's lists leaves, whether the new list begins, the gates stop or neither. -/
structure Exchanged (p : Nat) (s t : State) : Prop where
  pending : t.cfgPending p = false
  count : t.rd (F.KN_Pn_CHG_CNT p) = min (s.rd (F.KN_Pn_CHG_CNT p) + 1) (2 ^ 32 - 1)
  busy : t.rd (F.KN_Pn_STATUS_ADMIN_BUSY p) = 1
  len : t.rd (F.KN_Pn_OPER_LEN p) = s.rd (F.KN_Pn_ADMIN_LEN p) % 2 ^ 13
  cycle : t.rd (F.KN_Pn_OPER_CYCLE p) = s.rd (F.KN_Pn_ADMIN_CYCLE p)
  base : t.operBase p = s.adminBase p
  own : ∀ i, i < 4096 → t.operEntry p i = s.adminEntry p i ∧ t.adminEntry p i = s.operEntry p i
  others : ∀ q, q ≠ p → t.knPort q = s.knPort q ∧ ∀ i, i < 4096 → t.operEntry q i = s.operEntry q i ∧ t.adminEntry q i = s.adminEntry q i
  kn : t.kn = { s.kn with admin := t.kn.admin, oper := t.kn.oper, ports := t.kn.ports }
  shape : t = { s with regs := t.regs, tb := { s.tb with reep := t.tb.reep }, kn := t.kn, ms := { s.ms with lastK := t.ms.lastK } }
  keeps : s.keepsRegs t (exchangeFields p)

theorem State.exchanged_exchanged (s : State) (p : Nat) (ha : Sparse.wf 0 s.kn.admin = true) (ho : Sparse.wf 0 s.kn.oper = true) :
    Exchanged p s (s.exchanged p) := by
  have hkn := s.exchanged_kn p
  have hports : ∀ q, q ≠ p → (s.exchanged p).knPort q = s.knPort q := fun q hq => by
    rw [State.knPort, hkn]; exact Sparse.get_put_ne _ _ _ hq
  have hoper : ∀ q i, (s.exchanged p).operEntry q i = Sparse.get 0 (bankCopy p s.kn.admin s.kn.oper) (q * 4096 + i) :=
    fun q i => by rw [State.operEntry, hkn]
  have hadmin : ∀ q i, (s.exchanged p).adminEntry q i = Sparse.get 0 (bankCopy p s.kn.oper s.kn.admin) (q * 4096 + i) :=
    fun q i => by rw [State.adminEntry, hkn]
  exact {
    pending := (State.cfgPending_of_rd (s.rd_exchanged p portKey_notMem)).trans (s.cfgPending_changeDone p)
    count := (s.rd_exchanged p portKey_notMem).trans (s.rd_changeDone_count p)
    busy := (s.rd_exchanged p portKey_notMem).trans (s.rd_changeDone_busy p)
    len := (State.rd_setKnPort ..).trans (State.rd_operSet_len ..)
    cycle := (State.rd_setKnPort ..).trans (State.rd_operSet_cycle ..)
    base := by
      rw [State.operBase, s.knPort_exchanged, State.adminBase, State.rd64, State.exchanged, State.rd_setKnPort, State.rd_setKnPort,
        ← State.rd64, State.rd64_operSet_base]
      exact baseOf_ofSigned _ (s.rd64_lt ..)
    own := fun i hi => ⟨(hoper p i).trans (get_bankCopy_own _ ha hi), (hadmin p i).trans (get_bankCopy_own _ ho hi)⟩
    others := fun q hq => ⟨hports q hq, fun i hi =>
      ⟨(hoper q i).trans (get_bankCopy_other _ ha hi hq), (hadmin q i).trans (get_bankCopy_other _ ho hi hq)⟩⟩
    kn := by rw [hkn]
    shape := by
      obtain ⟨regs, kn, e⟩ := s.exchanged_shape p
      rw [e]
    keeps := by
      have h1 := s.changeDone_keepsRegs p
      have h2 := ((s.banksExchanged p).operSet_keepsRegs s p).widen (l' := exchangeFields p) (by simp [operFields, exchangeFields])
      exact ((h1.of_regs (t := s.banksExchanged p) rfl).trans h2).of_regs rfl }

/-- The registers that a list that begins and gates that stop may write. -/
def gateFields (p : Nat) : List Fld := entryFields p ++ stopFields p

theorem gateFields_subset (p : Nat) : gateFields p ⊆ exchangeFields p := by
  simp only [gateFields, entryFields, stopFields, exchangeFields, List.cons_append, List.nil_append, List.cons_subset, List.nil_subset,
    List.mem_cons, true_or, or_true, and_true]

theorem State.applyEntry_gateFields (s : State) (p : Nat) (k : Int) (i : Nat) (t : Int) : s.keepsRegs (s.applyEntry p k i t) (gateFields p) :=
  (s.applyEntry_keepsRegs p k i t).widen (List.subset_append_left ..)

theorem State.gateSet_false_gateFields (s : State) (p : Nat) : s.keepsRegs (s.gateSet p false) (gateFields p) :=
  State.gateSet_false_keepsRegs ((State.keepsRegs.refl s _).cycleEnds (by simp [gateFields, entryFields])) (List.subset_append_right ..)

/-- The exchange stands when the new list begins or the gates stop. -/
theorem Exchanged.followed {p : Nat} {s u t : State} (h : Exchanged p s u) (hk : PortKept p u t) (hr : u.keepsRegs t (gateFields p))
    (hneg : (t.knPort p).opNeg = (u.knPort p).opNeg) (hp : t.cfgPending p = false) : Exchanged p s t := by
  have hoper : ∀ q i, t.operEntry q i = u.operEntry q i := fun q i => by rw [State.operEntry, hk.oper, State.operEntry]
  have hadmin : ∀ q i, t.adminEntry q i = u.adminEntry q i := fun q i => by rw [State.adminEntry, hk.admin, State.adminEntry]
  exact {
    pending := hp
    count := (hr _ portKey_notMem).trans h.count
    busy := (hr _ portKey_notMem).trans h.busy
    len := (hr _ portKey_notMem).trans h.len
    cycle := (hr _ portKey_notMem).trans h.cycle
    base := by
      have hb := h.base
      rw [State.operBase, State.rd64] at hb ⊢
      rw [hneg, hr _ (by exact portKey_notMem), hr _ (by exact portKey_notMem), hb]
    own := fun i hi => ⟨(hoper p i).trans (h.own i hi).1, (hadmin p i).trans (h.own i hi).2⟩
    others := fun q hq => ⟨(hk.others q hq).trans (h.others q hq).1,
      fun i hi => ⟨(hoper q i).trans ((h.others q hq).2 i hi).1, (hadmin q i).trans ((h.others q hq).2 i hi).2⟩⟩
    kn := by
      have e := congrArg (fun x : Kn => ({ x with ports := t.kn.ports } : Kn)) h.kn
      rw [hk.admin, hk.oper]
      exact hk.kn.trans e
    shape := by
      have ht : t = { u with regs := t.regs, tb := { u.tb with reep := t.tb.reep }, kn := t.kn } := by
        have e := hk.shape
        rwa [← hk.kn] at e
      have e := congrArg (fun x : State => ({ x with regs := t.regs, tb := { x.tb with reep := t.tb.reep }, kn := t.kn } : State)) h.shape
      rw [hk.ms]
      exact ht.trans e
    keeps := h.keeps.trans (hr.widen (gateFields_subset p)) }

/-- Which cycles' launches are to be created anew matters to nothing else (R82, R174). -/
theorem Exchanged.of_newCycles {p : Nat} {s t : State} (h : Exchanged p (s.newCycles p) t) : Exchanged p s t := by
  obtain ⟨l, e⟩ := s.newCycles_shape p
  rw [e] at h
  exact ⟨h.pending, h.count, h.busy, h.len, h.cycle, h.base, h.own, h.others, h.kn, h.shape, h.keeps⟩

section
variable {s : State} {p : Nat}

/-- The list begins at the change time. -/
theorem State.afterExchange_begins (he : (s.knPort p).eff = true) (hg : s.on (F.KN_Pn_CTRL_GATE_EN p) = true) : s.afterExchange p =
    ((s.exchanged p).applyEntry p ((s.chgTime p - s.adminBase p) / (s.rd (F.KN_Pn_ADMIN_CYCLE p) : Nat)) 0 (s.chgTime p)).reepAnchor p
      (s.chgTime p) := (if_pos he).trans (if_pos hg)

theorem State.afterExchange_stops (he : (s.knPort p).eff = true) (hg : s.on (F.KN_Pn_CTRL_GATE_EN p) = false) :
    s.afterExchange p = (s.exchanged p).gateSet p false := (if_pos he).trans (if_neg (by rw [hg]; exact Bool.false_ne_true))

theorem State.afterExchange_idle (he : (s.knPort p).eff = false) : s.afterExchange p = s.exchanged p :=
  if_neg (by rw [he]; exact Bool.false_ne_true)

theorem State.afterExchange_exchanged (ha : Sparse.wf 0 s.kn.admin = true) (ho : Sparse.wf 0 s.kn.oper = true) :
    Exchanged p s (s.afterExchange p) := by
  have hx := s.exchanged_exchanged p ha ho
  cases he : (s.knPort p).eff with
  | false => rwa [State.afterExchange_idle he]
  | true =>
    cases hg : s.on (F.KN_Pn_CTRL_GATE_EN p) with
    | true =>
      rw [State.afterExchange_begins he hg]
      refine hx.followed (PortKept.refl p _).applyEntry.reepAnchor ((State.applyEntry_gateFields _ _ _ _ _).of_regs (State.reepAnchor_regs ..)) ?_ ?_
      · rw [State.knPort_reepAnchor, State.knPort_applyEntry]
      · refine (State.cfgPending_of_rd ?_).trans hx.pending
        rw [State.rd_reepAnchor]
        exact State.applyEntry_keepsRegs _ _ _ _ _ _ portKey_notMem
    | false =>
      rw [State.afterExchange_stops he hg]
      refine hx.followed (PortKept.refl p _).gateSet (State.gateSet_false_gateFields _ _) ?_ (State.cfgPending_gateSet_false ..)
      rw [State.knPort_gateSet_false]

end

/-- The state of a port whose gates follow no list. -/
theorem State.exchanged_spec {s : State} {p : Nat} (he : (s.knPort p).eff = false) :
    ((s.afterExchange p).knPort p).running = false ∧ ((s.afterExchange p).knPort p).eff = false := by
  rw [State.afterExchange_idle he, s.knPort_exchanged p]
  exact ⟨rfl, he⟩

theorem State.afterExchange_begins_spec {s : State} {p : Nat} (ha : Sparse.wf 0 s.kn.admin = true) (he : (s.knPort p).eff = true)
    (hg : s.on (F.KN_Pn_CTRL_GATE_EN p) = true) : ((s.afterExchange p).knPort p).running = true
    ∧ ((s.afterExchange p).knPort p).last = s.chgTime p ∧ (s.afterExchange p).rd (F.KN_Pn_STATUS_CUR_ENTRY p) = 0
    ∧ (s.afterExchange p).rd (F.KN_Pn_STATUS_CUR_STATES p) = leGates (s.adminEntry p 0) := by
  have hentry : (s.exchanged p).operEntry p 0 = s.adminEntry p 0 := by
    rw [State.operEntry, s.exchanged_kn p]
    exact get_bankCopy_own _ ha (by decide)
  rw [State.afterExchange_begins he hg, State.knPort_reepAnchor, State.knPort_applyEntry, State.rd_reepAnchor, State.rd_reepAnchor,
    State.rd_applyEntry_entry, State.rd_applyEntry_states, hentry]
  exact ⟨rfl, rfl, rfl, rfl⟩

theorem State.afterExchange_stops_spec {s : State} {p : Nat} (he : (s.knPort p).eff = true)
    (hg : s.on (F.KN_Pn_CTRL_GATE_EN p) = false) : ((s.afterExchange p).knPort p).running = false
    ∧ ((s.afterExchange p).knPort p).eff = false ∧ (s.afterExchange p).rd (F.KN_Pn_STATUS_CUR_STATES p) = 0xFF := by
  rw [State.afterExchange_stops he hg, State.knPort_gateSet_false, State.rd_gateSet_false_states]
  exact ⟨rfl, rfl, rfl⟩

/-! GATE_EN (R78). -/

section
variable {m : Nat} {p : Fin 10} {b : Bool} {s : State}

theorem execGateEnWrite_accepts (h : s.accepts m (0x60400 + 0x80 * p.val) permW) :
    exec (.gateEnWrite m p b) s = .next (s.gateWrite p.val b) := congrArg Host.Outcome.next (State.busW_accepts h _)

end

section
variable {s : State} {p : Nat} {b : Bool}

theorem State.gateWrite_waits (h : (s.knPort p).running = true ∨ (s.knPort p).eff = b) :
    s.gateWrite p b = s.wr (F.KN_Pn_CTRL_GATE_EN p) b.toNat := if_pos h

theorem State.gateWrite_now (hr : (s.knPort p).running = false) (he : (s.knPort p).eff ≠ b) :
    s.gateWrite p b = (s.wr (F.KN_Pn_CTRL_GATE_EN p) b.toNat).gateSet p b :=
  if_neg (not_or.mpr ⟨by rw [hr]; exact Bool.false_ne_true, he⟩)

end

/-- Where the stored list starts when GATE_EN is written 1 (R78). -/
def State.enableStart (s : State) (p : Nat) : Option Int :=
  if ¬ s.cfgPending p = true ∧ 0 < s.operLen p then
    some (firstBoundary (s.operBase p) (s.rd (F.KN_Pn_OPER_CYCLE p)) ((s.dt : Int) + listLead p)) else none

theorem State.gateSet_true (s : State) (p : Nat) : s.gateSet p true = (s.setKnPort p { s.knPort p with
    eff := true, running := false, quiet := none, startAt := s.enableStart p }).setGates p (s.rd (F.KN_Pn_ADMIN_STATES p)) := rfl

theorem State.startAt_gateSet_true (s : State) (p : Nat) : ((s.gateSet p true).knPort p).startAt = s.enableStart p := by
  rw [State.gateSet_true]
  refine (congrArg KnPort.startAt (State.knPort_setKnPort_same ..)).trans ?_
  exact congrArg KnPort.startAt (State.knPort_setKnPort_same ..)

theorem State.rd_gateSet_true_states (s : State) (p : Nat) :
    (s.gateSet p true).rd (F.KN_Pn_STATUS_CUR_STATES p) = s.rd (F.KN_Pn_ADMIN_STATES p) % 256 := by
  rw [State.gateSet_true, State.setGates, State.rd_setKnPort, State.rd_wr_self]
  rfl

/-- A write of GATE_EN moves nothing that the start of the stored list depends on. -/
theorem State.enableStart_gateEn (s : State) (p v : Nat) : (s.wr (F.KN_Pn_CTRL_GATE_EN p) v).enableStart p = s.enableStart p := by
  have hp : (s.wr (F.KN_Pn_CTRL_GATE_EN p) v).cfgPending p = s.cfgPending p := State.cfgPending_of_rd State.rd_wr_other
  have hl : (s.wr (F.KN_Pn_CTRL_GATE_EN p) v).operLen p = s.operLen p := State.rd_wr_other
  have hc : (s.wr (F.KN_Pn_CTRL_GATE_EN p) v).rd (F.KN_Pn_OPER_CYCLE p) = s.rd (F.KN_Pn_OPER_CYCLE p) := State.rd_wr_other
  have hb : (s.wr (F.KN_Pn_CTRL_GATE_EN p) v).operBase p = s.operBase p := by
    rw [State.operBase, State.rd64, State.rd_wr_other, State.rd_wr_other]; rfl
  simp only [State.enableStart, hp, hl, hc, hb]
  rfl

/-- The registers that a write of GATE_EN may change where no list runs. -/
def gateEnFields (p : Nat) : List Fld := F.KN_Pn_CTRL_GATE_EN p :: stopFields p

/-- Settles O17: the exchange by `afterExchange_exchanged` and the three outcomes after it, the copy back by `get_bankCopy_own`, a write
of GATE_EN by `gateWrite_waits` and `gateWrite_now`. -/
theorem listExchangeAndGateEnable : Obligations.ListExchangeAndGateEnable := by
  refine ⟨fun p s hp ht ha ho => ?_, fun p s hb ha ho => ?_, fun m p b s h => ?_⟩
  · have hexec : exec (.configChangeTime p) s = .next ((s.newCycles p.val).afterExchange p.val) :=
      congrArg Host.Outcome.next (if_pos ⟨hp, ht⟩)
    have hx : Exchanged p.val s ((s.newCycles p.val).afterExchange p.val) := by
      refine Exchanged.of_newCycles (State.afterExchange_exchanged ?_ ?_) <;> obtain ⟨l, e⟩ := s.newCycles_shape p.val <;> rw [e]
      · exact ha
      · exact ho
    refine ⟨_, hexec, hx.pending, hx.count, hx.busy, hx.len, hx.cycle, hx.base, hx.own, fun q _ hq => hx.others q hq, ?_, ?_, ?_, hx.kn,
      hx.shape, hx.keeps⟩ <;> obtain ⟨l, e⟩ := s.newCycles_shape p.val <;> rw [e]
    · exact fun he => State.exchanged_spec (s := { s with ms := { s.ms with lastK := l } }) he
    · exact fun he hg => State.afterExchange_begins_spec (s := { s with ms := { s.ms with lastK := l } }) ha he hg
    · exact fun he hg => State.afterExchange_stops_spec (s := { s with ms := { s.ms with lastK := l } }) he hg
  · have hexec : exec (.adminCopyDone p) s = .next { s.wr (F.KN_Pn_STATUS_ADMIN_BUSY p.val) 0 with
        kn := { s.kn with admin := bankCopy p.val s.kn.oper s.kn.admin } } := congrArg Host.Outcome.next (if_pos hb)
    exact ⟨_, hexec, fun i hi => get_bankCopy_own _ ho hi, fun q _ hq i hi => get_bankCopy_other _ ho hi hq, rfl⟩
  · rw [execGateEnWrite_accepts h]
    refine ⟨fun hw => by rw [State.gateWrite_waits hw], fun hr he hb => ?_, fun hr he hb => ?_⟩ <;> subst hb
    · rw [State.gateWrite_now hr (by rw [he]; decide)]
      refine ⟨_, rfl, State.rd_gateSet_false_states .., State.cfgPending_gateSet_false .., State.rd_gateSet_false_hold ..,
        State.wireGates_gateSet_false .., (PortKept.refl p.val s).wr.gateSet.shape, ?_⟩
      have hidle : (s.wr (F.KN_Pn_CTRL_GATE_EN p.val) false.toNat).cycleEnds p.val = s.wr (F.KN_Pn_CTRL_GATE_EN p.val) false.toNat :=
        State.cycleEnds_idle hr
      have hw : s.keepsRegs (s.wr (F.KN_Pn_CTRL_GATE_EN p.val) false.toNat) (gateEnFields p.val) :=
        (State.keepsRegs.refl s _).wrIn (by simp [gateEnFields])
      exact hw.trans (State.gateSet_false_keepsRegs (by rw [hidle]; exact State.keepsRegs.refl _ _) (List.subset_cons_self ..))
    · rw [State.gateWrite_now hr (by rw [he]; decide)]
      refine ⟨_, rfl, ?_, ?_, rfl, ?_⟩
      · exact State.rd_gateSet_true_states .. |>.trans (congrArg (· % 256) State.rd_wr_other)
      · rw [State.startAt_gateSet_true, State.enableStart_gateEn, State.enableStart]
        simp only [Bool.not_eq_true]
      · exact ((State.keepsRegs.refl s _).wrIn.wrIn (f := F.KN_Pn_STATUS_CUR_STATES p.val)).of_regs rfl

end Sys2Proof.Machine

/-! Gate entries, hold and release, and the events of a field port's die (R76, R78, R86, R87; `Obligations.GateEntriesAndFieldEvents`). -/

namespace Sys2Proof.Machine

/-! The cut of a frame that a hold finds on the wire (R118, R254): it reaches the work table, the port's wire and the yields, not KILN. -/

/-- A register of the work table or of LAUTER: what a cut may count. -/
def CutFld (f : Fld) : Prop := 0x70000 * 32 ≤ f.key ∧ f.key < 0x70010 * 32 ∨ 0xA0000 * 32 ≤ f.key

/-- From `r` to `s` neither KILN nor a register beside those that a cut counts has moved. -/
structure CutKept (r s : State) : Prop where
  kn : s.kn = r.kn
  rd : ∀ f : Fld, ¬ CutFld f → s.rd f = r.rd f

namespace CutKept

theorem refl (s : State) : CutKept s s := ⟨rfl, fun _ _ => rfl⟩

theorem ite {r a b : State} {c : Prop} [Decidable c] (h : CutKept r a) (g : CutKept r b) : CutKept r (if c then a else b) := by
  split <;> assumption

section
variable {r s : State} (h : CutKept r s)
include h

theorem of_eq {t : State} (hk : t.kn = s.kn) (hr : t.regs = s.regs) : CutKept r t :=
  ⟨hk.trans h.kn, fun f hf => (State.rd_of_regs hr f).trans (h.rd f hf)⟩

theorem wr {f : Fld} {v : Nat} (hf : CutFld f := by unfold CutFld; decide) : CutKept r (s.wr f v) :=
  ⟨h.kn, fun g hg => (State.rd_wr_ne s f g v (fun e => hg (by unfold CutFld at hf ⊢; rwa [e]))).trans (h.rd g hg)⟩

theorem wtCount : CutKept r s.wtCount := h.wr.wr

theorem setItem {i : Nat} {v : Option Item} : CutKept r (s.setItem i v) := by
  unfold State.setItem
  exact wtCount (h.of_eq rfl rfl)

theorem markItem {i m : Nat} : CutKept r (s.markItem i m) := by
  unfold State.markItem
  split
  · exact h
  · exact h.setItem

theorem yieldTo {a b : Nat} : CutKept r (s.yieldTo a b) := by
  have hinc : CutKept r (s.inc (F.LT_YIELD_i (pairIdx a b))) := h.wr (.inr (by simp only [Fld.key, F.LT_YIELD_i]; omega))
  have hlast := (((hinc.wr (f := F.LT_YIELD_LAST_VALID) (v := 1)).wr (f := F.LT_YIELD_LAST_PAIR) (v := pairIdx a b)).wr
    (f := F.LT_YIELD_LAST_DT_LO) (v := s.dt)).wr (f := F.LT_YIELD_LAST_DT_HI) (v := s.dt / 2 ^ 32)
  unfold State.yieldTo
  exact .ite h (.ite (hlast.of_eq rfl rfl) hinc)

theorem cutYield {i a b : Nat} : CutKept r (s.cutYield i a b) := by
  unfold State.cutYield
  split
  · unfold State.itemYield
    split
    · exact h
    · split
      · exact h
      · exact h.markItem.yieldTo
  · exact h

theorem cutWire {p : Nat} : CutKept r (s.cutWire p).1 := by
  unfold State.cutWire
  split
  · exact h
  · split
    · exact h
    · dsimp only
      split
      · exact h.of_eq rfl rfl
      · exact h

theorem holdCut {p : Nat} : CutKept r (s.holdCut p) := by
  unfold State.holdCut
  split
  · exact h
  · dsimp only
    split
    · split
      · exact h.cutWire.cutYield
      · exact h.cutWire
    · exact h.cutWire

end

end CutKept

/-- With no frame on the wire a hold cuts nothing. -/
theorem State.holdCut_quiet {s : State} {p : Nat} (h : (s.lnPort p).wire = none) : s.holdCut p = s := by
  unfold State.holdCut
  rw [h]
  rfl

/-! Hold and release (R86). -/

/-- A hold counted, before it cuts the frame on the wire. -/
def State.holdMade (s : State) (p : Nat) : State := (s.setHold p true).inc (F.LN_Pn_HOLD_CNT p)

theorem State.holdNow_quiet {s : State} {p : Nat} (h : (s.lnPort p).wire = none) : s.holdNow p = s.holdMade p :=
  State.holdCut_quiet (s := s.holdMade p) h

theorem not_cutFld_hold (p : Fin 10) : ¬ CutFld (F.KN_Pn_STATUS_HOLD p.val) ∧ ¬ CutFld (F.LN_Pn_MM_STATUS_HOLD_ACTIVE p.val)
    ∧ ¬ CutFld (F.LN_Pn_HOLD_CNT p.val) := by
  simp only [CutFld, Fld.key, F.KN_Pn_STATUS_HOLD, F.LN_Pn_MM_STATUS_HOLD_ACTIVE, F.LN_Pn_HOLD_CNT]
  omega

/-- What a hold shows, whatever frame it cuts. -/
theorem State.holdNow_spec (s : State) (p : Fin 10) : (s.holdNow p.val).rd (F.KN_Pn_STATUS_HOLD p.val) = 1
    ∧ (s.holdNow p.val).rd (F.LN_Pn_MM_STATUS_HOLD_ACTIVE p.val) = 1
    ∧ (s.holdNow p.val).rd (F.LN_Pn_HOLD_CNT p.val) = min (s.rd (F.LN_Pn_HOLD_CNT p.val) + 1) (2 ^ 32 - 1) ∧ (s.holdNow p.val).kn = s.kn := by
  obtain ⟨hh, ha, hc⟩ := not_cutFld_hold p
  have hk : CutKept (s.holdMade p.val) (s.holdNow p.val) := (CutKept.refl _).holdCut
  rw [hk.rd _ hh, hk.rd _ ha, hk.rd _ hc, hk.kn, State.holdMade, State.setHold, State.rd_inc_ne _ (by exact portKey_ne),
    State.rd_inc_ne _ (by exact portKey_ne), State.rd_inc_same _ _ (Nat.le_of_ble_eq_true rfl), State.rd_wr_other, State.rd_wr_self,
    State.rd_wr_self, State.rd_wr_other, State.rd_wr_other]
  exact ⟨rfl, rfl, rfl, rfl⟩

section
variable {p : Fin 10} {at_ : Int} {s : State} (hl : s.fieldLocked p.val = true)
include hl

theorem execHoldRequest_due (h : s.nextHr p.val 1 (s.hrFrom p.val (s.knPort p.val).lastHold) = some at_)
    (ht : at_ ≤ s.gateDt p.val + s.rd (F.KN_Pn_HOLD_ADV p.val)) :
    exec (.holdRequest p) s = .next ((s.setKnPort p.val { s.knPort p.val with lastHold := at_ }).holdNow p.val) := by
  show execHoldRequest p s = _
  rw [execHoldRequest, h]
  exact congrArg Host.Outcome.next (if_pos ⟨hl, ht⟩)

theorem execReleaseRequest_due (h : s.nextHr p.val 2 (s.hrFrom p.val (s.knPort p.val).lastRel) = some at_)
    (ht : at_ ≤ s.gateDt p.val + s.rd (F.KN_Pn_REL_ADV p.val)) :
    exec (.releaseRequest p) s = .next ((s.setKnPort p.val { s.knPort p.val with lastRel := at_ }).setHold p.val false) := by
  show execReleaseRequest p s = _
  rw [execReleaseRequest, h]
  exact congrArg Host.Outcome.next (if_pos ⟨hl, ht⟩)

end

/-! The start of an entry, of a list, and the end of the gates (R76, R78). -/

section
variable {p : Fin 10} {k at_ b : Int} {i : Nat} {s : State}

theorem execGateEntryStart_begins (hr : (s.knPort p.val).running = true)
    (hn : (s.sched p.val).next (s.knPort p.val).last = some (k, i, at_)) (ht : at_ ≤ s.gateDt p.val)
    (hg : s.on (F.KN_Pn_CTRL_GATE_EN p.val) = true) : exec (.gateEntryStart p) s = .next (s.applyEntry p.val k i at_) := by
  have hends : s.gateEnds p.val = none := if_neg (fun h => h.1 hg)
  show execGateEntryStart p s = _
  simp only [execGateEntryStart, if_pos hr, hn, hends, if_pos ht]

theorem execGateEntryStart_stops (hr : (s.knPort p.val).running = true)
    (hn : (s.sched p.val).next (s.knPort p.val).last = some (k, i, at_)) (hb : s.gateEnds p.val = some b) (h : b ≤ at_) :
    exec (.gateEntryStart p) s = .next (s.gateSet p.val false) := by
  show execGateEntryStart p s = _
  simp only [execGateEntryStart, if_pos hr, hn, hb, if_neg (not_lt.mpr h)]

theorem execListStart_due (hs : (s.knPort p.val).startAt = some b) (hb : b ≤ s.gateDt p.val) :
    exec (.listStart p) s = .next ((s.applyEntry p.val ((s.sched p.val).cycleAt b) 0 b).reepAnchor p.val b) := by
  show execListStart p s = _
  simp only [execListStart, hs, if_pos hb]

end

/-! The events of a field port (R87). -/

section
variable {n : Fin 8} {at_ : Int} {s : State}

theorem execFieldGateEventSend_due {e : DWord} (he : (s.knPort (n.val + 2)).eff = true)
    (hn : s.planNext (n.val + 2) (max (s.knPort (n.val + 2)).lastSent (s.knPort (n.val + 2)).last) (fun _ => true) = some (at_, e))
    (ht : at_ ≤ (s.dt : Int) + 25000) : exec (.fieldGateEventSend n) s = .next (s.setKnPort (n.val + 2) { s.knPort (n.val + 2) with
      lastSent := at_, fdQ := (s.knPort (n.val + 2)).fdQ ++ [(at_, leGates e)] }) := by
  have hlead : listLead (n.val + 2) = 25000 := if_neg (by omega)
  show execFieldGateEventSend n s = _
  simp only [execFieldGateEventSend, if_pos he, hn, hlead]
  exact congrArg Host.Outcome.next (if_pos ht)

theorem execFieldGateEventApply_due {g : Nat} {rest : List (Int × Nat)} (hq : (s.knPort (n.val + 2)).fdQ = (at_, g) :: rest)
    (hl : s.on F.TB_FLW_STAT_LOCK = true) (ht : at_ ≤ (s.dt : Int)) : exec (.fieldGateEventApply n) s
      = .next ((s.setKnPort (n.val + 2) { s.knPort (n.val + 2) with fdQ := rest, fdStates := g }).inc (F.KN_Pn_EVT_CNT (n.val + 2))) := by
  show execFieldGateEventApply n s = _
  simp only [execFieldGateEventApply, hq]
  exact congrArg Host.Outcome.next (if_pos ⟨hl, ht⟩)

end

/-- Settles O18: an entry by the laws of `applyEntry`, gates that stop by those of `gateSet p false`, a hold by `holdNow_spec`, the
other commands by their lemmas above. -/
theorem gateEntriesAndFieldEvents : Obligations.GateEntriesAndFieldEvents := by
  refine ⟨fun p k i at_ s hr hn => ⟨fun ht hg => ?_, fun b hb h => ?_⟩, fun p b s hs hb => ?_, fun p at_ s hl => ⟨fun h ht => ?_, fun h ht => ?_⟩,
    fun n at_ e s he hn ht => execFieldGateEventSend_due he hn ht, fun n at_ g rest s hq hl ht => execFieldGateEventApply_due hq hl ht⟩
  · exact ⟨_, execGateEntryStart_begins hr hn ht hg, State.rd_applyEntry_entry .., State.rd_applyEntry_states .., State.rd_applyEntry_cycle ..,
      by rw [State.knPort_applyEntry], (PortKept.refl p.val s).applyEntry.shape_of_tb (s.applyEntry_tb _ _ _ _), s.applyEntry_keepsRegs _ _ _ _⟩
  · have hk : s.keepsRegs (s.gateSet p.val false) (F.KN_Pn_SHORT_CNT p.val :: stopFields p.val) :=
      State.gateSet_false_keepsRegs (State.keepsRegs.refl s _).cycleEnds (List.subset_cons_self ..)
    exact ⟨_, execGateEntryStart_stops hr hn hb h, by rw [State.knPort_gateSet_false], by rw [State.knPort_gateSet_false],
      State.rd_gateSet_false_states .., State.wireGates_gateSet_false .., State.cfgPending_gateSet_false ..,
      (PortKept.refl p.val s).gateSet.shape, hk⟩
  · refine ⟨_, execListStart_due hs hb, ?_, ?_, ?_, ?_, (PortKept.refl p.val s).applyEntry.reepAnchor.shape,
      (s.applyEntry_keepsRegs _ _ _ _).of_regs (State.reepAnchor_regs ..)⟩
    · rw [State.knPort_reepAnchor, State.knPort_applyEntry]
    · rw [State.rd_reepAnchor, State.rd_applyEntry_entry]; rfl
    · rw [State.rd_reepAnchor, State.rd_applyEntry_states]
    · rw [State.knPort_reepAnchor, State.knPort_applyEntry]
  · obtain ⟨hhold, hact, hcnt, hkn⟩ := (s.setKnPort p.val { s.knPort p.val with lastHold := at_ }).holdNow_spec p
    refine ⟨_, execHoldRequest_due hl h ht, hhold, hact, hcnt, ?_, fun hw => ?_⟩
    · rw [State.knPort_of_kn hkn, State.knPort_setKnPort_same]
    · rw [State.holdNow_quiet (s := s.setKnPort p.val { s.knPort p.val with lastHold := at_ }) hw]
      exact ⟨((State.keepsRegs.refl s _).of_regs rfl).wrIn.wrIn.wrIn, rfl⟩
  · exact execReleaseRequest_due hl h ht

end Sys2Proof.Machine

/-! Stream gates and KILN's memory window (R78 to R84, R90 to R92, R104; `Obligations.StreamGatesAndWindow`). -/

namespace Sys2Proof.Machine

/-! A gate's record and what an operation on it leaves alone. -/

@[simp] theorem State.sg_setSg_same (s : State) (g : Nat) (v : Sg) : (s.setSg g v).sg g = v := Sparse.get_put_same ..

theorem State.sg_setSg_ne (s : State) {g h : Nat} (v : Sg) (hg : h ≠ g) : (s.setSg g v).sg h = s.sg h := Sparse.get_put_ne _ _ _ hg

/-- From `r` to `s` nothing has moved but the record of gate `g`. -/
structure SgKept (g : Nat) (r s : State) : Prop where
  shape : s = { r with kn := { r.kn with sgs := s.kn.sgs } }
  others : ∀ h, h ≠ g → s.sg h = r.sg h

namespace SgKept

theorem refl (g : Nat) (s : State) : SgKept g s s := ⟨rfl, fun _ _ => rfl⟩

section
variable {g : Nat} {r s : State} (h : SgKept g r s)
include h

theorem setSg {v : Sg} : SgKept g r (s.setSg g v) := by
  refine ⟨?_, fun k hk => (s.sg_setSg_ne v hk).trans (h.others k hk)⟩
  have e := congrArg (fun x : State => ({ x with kn := { x.kn with sgs := (s.setSg g v).kn.sgs } } : State)) h.shape
  exact e

theorem sgPush {t : Int} {e : Option Nat} : SgKept g r (s.sgPush g t e) := h.setSg

theorem sgSettle {t : Int} : SgKept g r (s.sgSettle g t) := by
  unfold State.sgSettle
  split
  · split
    · exact h.sgPush
    · exact h
  · exact h

theorem regs : s.regs = r.regs := by rw [h.shape]

theorem sgOper : s.kn.sgOper = r.kn.sgOper := by rw [h.shape]

end

end SgKept

/-- Putting an entry on record changes nothing else of the gate (R92). -/
theorem State.sg_sgPush (s : State) (g : Nat) (t : Int) (e : Option Nat) :
    ∃ l, (s.sgPush g t e).sg g = { s.sg g with hist := (t, e) :: l } := ⟨_, s.sg_setSg_same g _⟩

theorem State.sg_sgSettle (s : State) (g : Nat) (t : Int) : ∃ l, (s.sgSettle g t).sg g = { s.sg g with hist := l } := by
  unfold State.sgSettle
  split
  · split
    · obtain ⟨l, h⟩ := s.sg_sgPush g (by assumption : Nat × Int).2 (some (s.sgEntry g (by assumption : Nat × Int).1))
      exact ⟨_, h⟩
    · exact ⟨_, rfl⟩
  · exact ⟨_, rfl⟩

theorem State.sgStat_keepsRegs (s : State) (g c : Nat) : s.keepsRegs (s.sgStat g c) [F.KN_SG_STAT_GATE, F.KN_SG_STAT_ERR] :=
  (State.keepsRegs.refl s _).wr.wr

/-! The commands of KN_SG_CMD (R78, R84, R91). -/

section
variable {m : Nat} {g : BitVec 10} {s : State} (h : s.accepts m 0x60100 permW)
include h

theorem execSgEnable_accepts : exec (.sgEnable m g) s = .next (s.sgEnable g.toNat) := congrArg Host.Outcome.next (State.busW_accepts h _)

theorem execSgDisable_accepts : exec (.sgDisable m g) s = .next (s.sgDisable g.toNat) := congrArg Host.Outcome.next (State.busW_accepts h _)

theorem execSgCfgChange_accepts : exec (.sgCfgChange m g) s = .next (s.sgChange g.toNat) :=
  congrArg Host.Outcome.next (State.busW_accepts h _)

theorem execSgAbort_accepts : exec (.sgAbort m g) s = .next (s.sgAbort g.toNat) := congrArg Host.Outcome.next (State.busW_accepts h _)

end

/-- Where a gate's stored list starts (R78). -/
def State.sgStart (s : State) (g : Nat) : Int := firstBoundary (s.sgBaseO g) (bits (s.sgO g 1) 0 32) ((s.dt : Int) + 2000)

section
variable {s : State} {g : Nat}

theorem State.sgEnable_starts (h : (s.sg g).enabled = false) : s.sgEnable g = (s.sgStat g 0).setSg g { s.sg g with
    enabled := true, running := false
    startAt := if (s.sg g).pending = false ∧ 0 < bits (s.sgO g 2) 16 13 then some (s.sgStart g) else none } := by
  simp only [State.sgEnable, h, Bool.false_eq_true, if_false, Bool.not_eq_true, State.sgStart]

theorem State.sgEnable_again (h : (s.sg g).enabled = true) : s.sgEnable g = s.sgStat g 0 := if_pos h

theorem State.sgChange_locked (h : (s.sg g).pending = true) :
    s.sgChange g = (((s.sgStat g 8).wr F.KN_SG_STAT_ERR_SEEN 1).inc F.KN_SG_REJ).raise0 Src.KN_ADMIN_LOCKED g := if_pos h

theorem State.sgChange_refused (h : (s.sg g).pending = false) (hc : s.sgCode g ≠ 0) :
    s.sgChange g = ((s.sgStat g (s.sgCode g)).wr F.KN_SG_STAT_ERR_SEEN 1).raise0 Src.KN_CFG_ERR (s.sgCode g) :=
  (if_neg (by rw [h]; exact Bool.false_ne_true)).trans (if_pos hc)

theorem State.sgChange_taken (h : (s.sg g).pending = false) (hc : s.sgCode g = 0) : s.sgChange g = (s.sgStat g 0).setSg g { s.sg g with
    pending := true, cctAt := s.dt, startAt := none
    cct := cctFor (s.sgBaseA g) (bits (s.sgA g 1) 0 32) ((s.dt : Int) + 2000) } :=
  (if_neg (by rw [h]; exact Bool.false_ne_true)).trans (if_neg (not_not.mpr hc))

/-- A descriptor that passes the checks has a cycle (R79, R91). -/
theorem State.sgCycle_pos (hc : s.sgCode g = 0) : 0 < bits (s.sgA g 1) 0 32 := by
  simp only [State.sgCode, code_ite_eq_zero (by decide : (1 : Nat) ≠ 0), code_ite_eq_zero (by decide : (2 : Nat) ≠ 0)] at hc
  obtain ⟨-, hcyc, -⟩ := hc
  omega

theorem State.sgAbort_taken (h : (s.sg g).pending = true ∧ (s.dt : Int) < (s.sg g).cct - 1000) :
    s.sgAbort g = (s.sgStat g 0).setSg g { s.sg g with
      pending := false
      startAt := if (s.sg g).enabled = true ∧ (s.sg g).running = false ∧ 0 < bits (s.sgO g 2) 16 13 then some (s.sgStart g)
        else (s.sg g).startAt } := by
  simp only [State.sgAbort, if_pos h, Bool.not_eq_true, State.sgStart]

theorem State.sgAbort_refused (h : ¬ ((s.sg g).pending = true ∧ (s.dt : Int) < (s.sg g).cct - 1000)) :
    s.sgAbort g = (s.sgStat g 0).inc F.KN_SG_REJ := if_neg h

end

/-- The change time of a gate leaves its lead and lies on a boundary of the new list (R80, R91). -/
theorem cctFor_boundary (base : Int) {cycle : Nat} (now : Int) (hc : 0 < cycle) :
    now ≤ cctFor base cycle now ∧ (cctFor base cycle now - base) % cycle = 0 := by
  have h := cctFor_spec base now hc
  split at h
  · next hle => rw [h]; exact ⟨hle, by rw [sub_self, Int.zero_emod]⟩
  · exact ⟨h.1, h.2.2⟩

/-! A gate that is disabled (R91, R92). -/

/-- The state with all that the gate has had put on record. -/
def State.sgClosed (s : State) (g : Nat) : State := (s.sgSettle g s.dt).sgPush g s.dt none

theorem State.sgDisable_eq (s : State) (g : Nat) : s.sgDisable g = ((s.sgClosed g).sgStat g 0).setSg g { (s.sgClosed g).sg g with
    enabled := false, running := false, startAt := none } := rfl

theorem State.sgClosed_kept (s : State) (g : Nat) : SgKept g s (s.sgClosed g) := (SgKept.refl g s).sgSettle.sgPush

theorem State.sg_sgDisable (s : State) (g : Nat) : ∃ l, (s.sgDisable g).sg g = { s.sg g with
    enabled := false, running := false, startAt := none, hist := ((s.dt : Int), none) :: l } := by
  obtain ⟨l1, h1⟩ := s.sg_sgSettle g s.dt
  obtain ⟨l2, h2⟩ := (s.sgSettle g s.dt).sg_sgPush g s.dt none
  refine ⟨l2, ?_⟩
  rw [State.sgDisable_eq, State.sg_setSg_same, State.sgClosed, h2, h1]

/-- A disabled gate whose record ends without an entry has DEF_STATE (R92). -/
theorem State.sgView_disabled {s : State} {g : Nat} {t : Int} {l : List (Int × Option Nat)} (he : (s.sg g).enabled = false)
    (hh : (s.sg g).hist = (t, none) :: l) :
    (s.sgView g t).1 = (bits (if bits (s.sgO g 2) 16 13 = 0 then s.sgA g 2 else s.sgO g 2) 32 1 == 1) := by
  have hdue : s.sgDue g t = none := by simp [State.sgDue, he]
  have hfind : (s.sg g).hist.find? (fun x => decide (x.1 ≤ t)) = some (t, none) := by simp [hh]
  simp only [State.sgView, hdue, hfind, ite_self]

theorem State.sgDisable_shape (s : State) (g : Nat) : ∃ regs sgs, s.sgDisable g = { s with regs := regs, kn := { s.kn with sgs := sgs } } := by
  have e := congrArg (fun x : State => (x.sgStat g 0).setSg g { (s.sgClosed g).sg g with
    enabled := false, running := false, startAt := none }) (s.sgClosed_kept g).shape
  exact ⟨_, _, e⟩

theorem State.sgDisable_others (s : State) {g h : Nat} (hg : h ≠ g) : (s.sgDisable g).sg h = s.sg h :=
  (State.sg_setSg_ne _ _ hg).trans ((s.sgClosed_kept g).others h hg)

theorem State.sgDisable_keepsRegs (s : State) (g : Nat) : s.keepsRegs (s.sgDisable g) [F.KN_SG_STAT_GATE, F.KN_SG_STAT_ERR] :=
  (((State.keepsRegs.refl s _).of_regs (s.sgClosed_kept g).regs).trans ((s.sgClosed g).sgStat_keepsRegs g 0)).of_regs rfl

theorem State.rd_sgDisable_gate (s : State) (g : BitVec 10) : (s.sgDisable g.toNat).rd F.KN_SG_STAT_GATE = g.toNat := by
  have e : (s.sgDisable g.toNat).rd F.KN_SG_STAT_GATE = ((s.sgClosed g.toNat).sgStat g.toNat 0).rd F.KN_SG_STAT_GATE := State.rd_of_regs rfl _
  rw [e, State.sgStat, State.rd_wr_ne _ _ _ _ (by decide), State.rd_wr_same _ _ _ (by decide)]
  exact Nat.mod_eq_of_lt g.isLt

theorem State.rd_sgDisable_err (s : State) (g : Nat) : (s.sgDisable g).rd F.KN_SG_STAT_ERR = 0 := by
  have e : (s.sgDisable g).rd F.KN_SG_STAT_ERR = ((s.sgClosed g).sgStat g 0).rd F.KN_SG_STAT_ERR := State.rd_of_regs rfl _
  rw [e, State.sgStat, State.rd_wr_same _ _ _ (by decide)]
  rfl

/-! The change time of a gate (R82, R91). -/

/-- The operational descriptors with the administrative one of gate `g` copied in. -/
def sgCopied (g : Nat) (adm oper : List (Nat × DWord)) : List (Nat × DWord) :=
  [0, 1, 2].foldl (fun t n => Sparse.put 0 t (g * 4 + n) (Sparse.get 0 adm (g * 4 + n))) oper

theorem get_sgCopied_own {g n : Nat} (adm oper : List (Nat × DWord)) (hn : n < 3) :
    Sparse.get 0 (sgCopied g adm oper) (g * 4 + n) = Sparse.get 0 adm (g * 4 + n) := by
  simp only [sgCopied, List.foldl_cons, List.foldl_nil]
  obtain rfl | rfl | rfl : n = 0 ∨ n = 1 ∨ n = 2 := by omega
  · rw [Sparse.get_put_ne _ _ _ (by omega), Sparse.get_put_ne _ _ _ (by omega), Sparse.get_put_same]
  · rw [Sparse.get_put_ne _ _ _ (by omega), Sparse.get_put_same]
  · rw [Sparse.get_put_same]

theorem get_sgCopied_other {g h n : Nat} (adm oper : List (Nat × DWord)) (hg : h ≠ g) (hn : n < 4) :
    Sparse.get 0 (sgCopied g adm oper) (h * 4 + n) = Sparse.get 0 oper (h * 4 + n) := by
  simp only [sgCopied, List.foldl_cons, List.foldl_nil]
  rw [Sparse.get_put_ne _ _ _ (by omega), Sparse.get_put_ne _ _ _ (by omega), Sparse.get_put_ne _ _ _ (by omega)]

/-- The gate at its change time: what it has had is on record, and its operational descriptor is the new one. -/
def State.sgExchanged (s : State) (g : Nat) : State :=
  let s0 := s.sgSettle g ((s.sg g).cct - 1)
  let s1 : State := { s0 with kn := { s0.kn with sgOper := sgCopied g s.kn.sgAdmin s.kn.sgOper } }
  s1.setSg g { s1.sg g with
    pending := false, running := false, startAt := if (s.sg g).enabled = true then some (s.sg g).cct else none, oNeg := (s.sg g).aNeg }

theorem execSgCct_due {g : BitVec 10} {s : State} (hp : (s.sg g.toNat).pending = true) (ht : (s.sg g.toNat).cct ≤ (s.dt : Int)) :
    exec (.sgCct g) s = .next (s.sgExchanged g.toNat) := congrArg Host.Outcome.next (if_pos ⟨hp, ht⟩)

theorem State.sgExchanged_shape (s : State) (g : Nat) :
    s.sgExchanged g = { s with kn := { s.kn with sgOper := (s.sgExchanged g).kn.sgOper, sgs := (s.sgExchanged g).kn.sgs } } := by
  have e := congrArg
    (fun x : State => ({ x with kn := { x.kn with sgOper := (s.sgExchanged g).kn.sgOper, sgs := (s.sgExchanged g).kn.sgs } } : State))
    (SgKept.sgSettle (SgKept.refl g s) (t := (s.sg g).cct - 1)).shape
  exact e

theorem State.sgExchanged_others (s : State) {g h : Nat} (hg : h ≠ g) : (s.sgExchanged g).sg h = s.sg h :=
  (State.sg_setSg_ne _ _ hg).trans ((SgKept.sgSettle (SgKept.refl g s)).others h hg)

/-! The event that begins a gate's list (R92). -/

/-- The gate with its list begun at `b`, the sequencer's turn taken. -/
def State.sgBegun (s : State) (g : Nat) (b : Int) : State :=
  let s0 := s.sgPush g b (some (s.sgEntry g 0))
  let s1 := s0.setSg g { s0.sg g with
    running := true, startAt := none, k := (s.sgSched g).cycleAt b, ent := 0, last := b, octets := 0 }
  { s1 with kn := { s1.kn with sgAt := some s.tb.mono } }

theorem execStreamGateEvent_begins {g : BitVec 10} {b : Int} {s : State} (hen : s.on F.KN_CTRL_SG_EN = true)
    (he : (s.sg g.toNat).enabled = true) (hs : (s.sg g.toNat).startAt = some b) (hf : s.kn.sgAt = none) (hb : b ≤ (s.dt : Int)) :
    exec (.streamGateEvent g) s = .next (if b + 2 < (s.dt : Int) then
      ((s.sgBegun g.toNat b).inc F.KN_SG_LATE).raise0 Src.KN_SG_LATE g.toNat else s.sgBegun g.toNat b) := by
  show execStreamGateEvent g s = _
  simp only [execStreamGateEvent, hen, he, hs, hf, and_self, not_true_eq_false, if_false, if_pos hb]
  rfl

theorem State.sg_sgBegun (s : State) (g : Nat) (b : Int) : ∃ l, (s.sgBegun g b).sg g = { s.sg g with
    running := true, startAt := none, k := (s.sgSched g).cycleAt b, ent := 0, last := b, octets := 0, hist := l } := by
  obtain ⟨l, h⟩ := s.sg_sgPush g b (some (s.sgEntry g 0))
  refine ⟨(b, some (s.sgEntry g 0)) :: l, (State.sg_setSg_same ..).trans ?_⟩
  rw [h]

theorem State.sgBegun_shape (s : State) (g : Nat) (b : Int) :
    s.sgBegun g b = { s with kn := { s.kn with sgs := (s.sgBegun g b).kn.sgs, sgAt := some s.tb.mono } } := rfl

theorem State.sgBegun_others (s : State) {g h : Nat} (b : Int) (hg : h ≠ g) : (s.sgBegun g b).sg h = s.sg h :=
  (State.sg_setSg_ne _ _ hg).trans ((SgKept.refl g s).sgPush.others h hg)

/-- An event that is late is counted and raised (R92). -/
theorem State.inc_raise0_of_kn (s : State) (kn : Kn) (f : Fld) (src info : Nat) : ((({ s with kn := kn } : State).inc f).raise0 src info) =
    { s.inc f with kn := kn, cl := { s.cl with inbox := s.cl.inbox ++ [⟨src, 0xFF, none, info, false⟩] } } := rfl

/-! The memory window (R104). -/

theorem State.knStore_pool {s : State} {w : Nat} (hsel : s.rd F.KN_MSEL = 2) (hu : s.poolUsed (s.rd F.KN_MADDR) = false) :
    s.knStore w = { s with kn := { s.kn with
      pool := Sparse.put 0 s.kn.pool (s.rd F.KN_MADDR) (BitVec.ofNat 64 w &&& 0x00FFFF1FFFFFFFFF) } } := by
  simp only [State.knStore, hsel, hu]
  rfl

theorem execKnMdataWrite_pool {m : Nat} {hi : Word} {s : State} (h : s.accepts m 0x6001C permW) (hsel : s.rd F.KN_MSEL = 2)
    (hu : s.poolUsed (s.rd F.KN_MADDR) = false) : exec (.knMdataWrite m hi) s = .next { s.wr F.KN_MADDR (s.rd F.KN_MADDR + 1) with
      kn := { s.kn with
        pool := Sparse.put 0 s.kn.pool (s.rd F.KN_MADDR) (BitVec.ofNat 64 (s.heldLow m 0x60018 + 2 ^ 32 * hi.toNat) &&& 0x00FFFF1FFFFFFFFF) }
      loHeld := Sparse.put none s.loHeld (m * 2 ^ 24 + 0x60018) none } := by
  have e : exec (.knMdataWrite m hi) s = .next (s.knMdata m hi.toNat) := congrArg Host.Outcome.next (State.busW_accepts h _)
  rw [e, State.knMdata, State.winWrite, State.knStore_pool hsel hu]
  rfl

/-- Settles O19: the commands by their rules above, DISABLE by `sg_sgDisable` and `sgView_disabled`, the change time by `sgCopied`, the
event that begins a list by `execStreamGateEvent_begins`, the window by `execKnMdataWrite_pool`. -/
theorem streamGatesAndWindow : Obligations.StreamGatesAndWindow := by
  refine ⟨fun m g s h => ?_, fun g s hp ht => ?_, fun g b s hen he hs hf hb => ?_, fun m hi s h hsel hu => execKnMdataWrite_pool h hsel hu⟩
  · rw [execSgEnable_accepts h, execSgDisable_accepts h, execSgCfgChange_accepts h, execSgAbort_accepts h]
    refine ⟨fun he => congrArg _ (State.sgEnable_starts he), fun he => congrArg _ (State.sgEnable_again he), ⟨_, rfl, ?_⟩,
      fun hp => congrArg _ (State.sgChange_locked hp), fun hp hc => congrArg _ (State.sgChange_refused hp hc), fun hp hc => ?_,
      fun hp ht => congrArg _ (State.sgAbort_taken ⟨hp, ht⟩), fun hn => congrArg _ (State.sgAbort_refused hn)⟩
    · obtain ⟨l, hl⟩ := s.sg_sgDisable g.toNat
      obtain ⟨regs, sgs, hshape⟩ := s.sgDisable_shape g.toNat
      have hview := State.sgView_disabled (s := s.sgDisable g.toNat) (g := g.toNat) (t := s.dt) (l := l) (by rw [hl]) (by rw [hl])
      refine ⟨by rw [hl], by rw [hl], by rw [hl], by rw [hl], ?_, fun k _ hk => s.sgDisable_others hk, ?_, s.sgDisable_keepsRegs g.toNat,
        s.rd_sgDisable_gate g, s.rd_sgDisable_err g.toNat⟩
      · rw [hview, hshape]; rfl
      · rw [hshape]
    · exact ⟨_, _, rfl, State.sgChange_taken hp hc, cctFor_boundary _ _ (State.sgCycle_pos hc)⟩
  · refine ⟨_, execSgCct_due hp ht, ?_, fun n hn => ?_, ?_, s.sgExchanged_shape g.toNat, fun k _ hk => ⟨s.sgExchanged_others hk, fun n hn => ?_⟩⟩
    · rw [State.sgExchanged, State.sg_setSg_same]
    · exact congrArg BitVec.toNat (get_sgCopied_own _ _ hn)
    · rw [State.sgExchanged, State.sg_setSg_same]
    · exact congrArg BitVec.toNat (get_sgCopied_other _ _ hk hn)
  · rw [execStreamGateEvent_begins hen he hs hf hb]
    obtain ⟨l, hl⟩ := s.sg_sgBegun g.toNat b
    refine ⟨fun ht => ?_, fun ht => ?_⟩
    · rw [if_neg (not_lt.mpr ht)]
      exact ⟨_, rfl, by rw [hl], by rw [hl], by rw [hl], by rw [hl], by rw [hl], fun k _ hk => s.sgBegun_others b hk, s.sgBegun_shape g.toNat b⟩
    · rw [if_pos ht, s.sgBegun_shape, State.inc_raise0_of_kn]
      refine ⟨_, rfl, (State.rd_of_regs rfl _).trans (s.rd_inc_same F.KN_SG_LATE (Nat.le_of_ble_eq_true rfl)), rfl, rfl⟩

end Sys2Proof.Machine

/-! Timed actions (R94 to R100; `Obligations.TimedActions`). -/

namespace Sys2Proof.Machine

/-! The table. -/

@[simp] theorem State.ta_setTa_same (s : State) (i : Nat) (v : Option Ta) : (s.setTa i v).ta i = v := Sparse.get_put_same ..

theorem State.ta_setTa_ne (s : State) {i j : Nat} (v : Option Ta) (h : j ≠ i) : (s.setTa i v).ta j = s.ta j := Sparse.get_put_ne _ _ _ h

theorem State.ta_of_tas {s t : State} (h : t.kn.tas = s.kn.tas) (i : Nat) : t.ta i = s.ta i := by rw [State.ta, h, State.ta]

theorem State.taFree_lt {s : State} {i : Nat} (h : s.taFree = some i) : i < 4096 := by
  obtain ⟨hlt, hi⟩ := Option.ite_none_right_eq_some.mp h
  exact Option.some.inj hi ▸ hlt

/-- An entry that no queue has submitted leaves the table without a completion (R100). -/
theorem State.taFreeEntry_unqueued {s : State} {i : Nat} {u : Ta} (h : s.ta i = some u) (hq : u.queue = none) (status : Nat) :
    s.taFreeEntry i status = (s.setTa i none).wr F.KN_STATUS_TA_FREE (s.rd F.KN_STATUS_TA_FREE + 1) := by
  simp only [State.taFreeEntry, h, hq]

/-! Submission (R94). -/

/-- A submission that is bad: no such kind, a WRITE to no word, or a period below 1 us. -/
def Ta.bad (u : Ta) : Prop := u.kind = 0 ∨ (u.kind = 1 ∧ u.addr % 4 ≠ 0) ∨ (0 < u.period ∧ u.period < 1000)

/-- `u` as its entry holds it once armed. -/
def State.armed (s : State) (u : Ta) : Ta := { u with seq := s.kn.taSeq, passed := decide (u.dt < s.dt) }

/-- The state with `u` armed in entry `i`. -/
def State.taArmed (s : State) (i : Nat) (u : Ta) : State :=
  let s1 := (s.setTa i (some (s.armed u))).wr F.KN_STATUS_TA_FREE (s.rd F.KN_STATUS_TA_FREE - 1)
  { s1 with kn := { s1.kn with taSeq := s1.kn.taSeq + 1 } }

/-- The state with entry `i` in the result of master `m`. -/
def State.taTaken (s : State) (m i : Nat) : State :=
  ((s.wr (F.KN_TA_RESULT_FULL m) 0).wr (F.KN_TA_RESULT_BAD m) 0).wr (F.KN_TA_RESULT_INDEX m) i

section
variable {s : State} {m : Nat}

theorem State.taSubmitReg_bad (hb : (s.taStaged m).bad) :
    s.taSubmitReg m = (s.wr (F.KN_TA_RESULT_FULL m) 0).wr (F.KN_TA_RESULT_BAD m) 1 := by
  have e : s.taSubmit (s.taStaged m) = (s, .error .bad) := if_pos hb
  rw [State.taSubmitReg, e]

theorem State.taSubmitReg_full (hb : ¬ (s.taStaged m).bad) (hf : s.taFree = none) :
    s.taSubmitReg m = ((s.raise0 Src.KN_TA_FULL 0).wr (F.KN_TA_RESULT_FULL m) 1).wr (F.KN_TA_RESULT_BAD m) 0 := by
  have e : s.taSubmit (s.taStaged m) = (s.raise0 Src.KN_TA_FULL 0, .error .full) := (if_neg hb).trans (by rw [hf])
  rw [State.taSubmitReg, e]

theorem State.taSubmitReg_taken {i : Nat} (hb : ¬ (s.taStaged m).bad) (hf : s.taFree = some i) :
    s.taSubmitReg m = (s.taArmed i (s.taStaged m)).taTaken m i := by
  have e : s.taSubmit (s.taStaged m) = (s.taArmed i (s.taStaged m), .ok i) := (if_neg hb).trans (by rw [hf]; rfl)
  rw [State.taSubmitReg, e]
  rfl

end

theorem execTaSubmit_accepts {m : Nat} {s : State} (h : s.accepts m 0x60060 permW) : exec (.taSubmit m) s = .next (s.taSubmitReg m) :=
  congrArg Host.Outcome.next (State.busW_accepts h _)

/-- The registers that a submission that is taken may change. -/
def takenFields (m : Nat) : List Fld :=
  [F.KN_TA_RESULT_FULL m, F.KN_TA_RESULT_BAD m, F.KN_TA_RESULT_INDEX m, F.KN_STATUS_TA_FREE]

section
variable (s : State) (m i : Nat) (u : Ta)

theorem State.ta_taTaken_taArmed_same : ((s.taArmed i u).taTaken m i).ta i = some (s.armed u) :=
  (State.ta_of_tas rfl i).trans (s.ta_setTa_same i (some (s.armed u)))

theorem State.ta_taTaken_taArmed_ne {j : Nat} (h : j ≠ i) : ((s.taArmed i u).taTaken m i).ta j = s.ta j :=
  (State.ta_of_tas rfl j).trans (s.ta_setTa_ne (some (s.armed u)) h)

theorem State.rd_taTaken_index (hi : i < 4096) : (s.taTaken m i).rd (F.KN_TA_RESULT_INDEX m) = i := by
  rw [State.taTaken, State.rd_wr_self]
  exact Nat.mod_eq_of_lt hi

theorem State.rd_taTaken_bad : (s.taTaken m i).rd (F.KN_TA_RESULT_BAD m) = 0 := by
  rw [State.taTaken, State.rd_wr_ne _ _ _ _ (by simp only [Fld.key, F.KN_TA_RESULT_BAD, F.KN_TA_RESULT_INDEX]; omega), State.rd_wr_self]
  exact Nat.zero_mod _

/-- The count of free entries stands in no master's result. -/
theorem State.rd_taTaken_free : (s.taTaken m i).rd F.KN_STATUS_TA_FREE = s.rd F.KN_STATUS_TA_FREE := by
  rw [State.taTaken, State.rd_wr_ne _ _ _ _ (by simp only [Fld.key, F.KN_STATUS_TA_FREE, F.KN_TA_RESULT_INDEX]; omega),
    State.rd_wr_ne _ _ _ _ (by simp only [Fld.key, F.KN_STATUS_TA_FREE, F.KN_TA_RESULT_BAD]; omega),
    State.rd_wr_ne _ _ _ _ (by simp only [Fld.key, F.KN_STATUS_TA_FREE, F.KN_TA_RESULT_FULL]; omega)]

theorem State.rd_taArmed_free : (s.taArmed i u).rd F.KN_STATUS_TA_FREE = (s.rd F.KN_STATUS_TA_FREE - 1) % 2 ^ 13 :=
  State.rd_wr_same (s.setTa i (some (s.armed u))) F.KN_STATUS_TA_FREE _ (Nat.le_of_ble_eq_true rfl)

theorem State.taTaken_taArmed_keepsRegs : s.keepsRegs ((s.taArmed i u).taTaken m i) (takenFields m) := by
  have h : s.keepsRegs (s.taArmed i u) (takenFields m) :=
    (((State.keepsRegs.refl s _).of_regs (t := s.setTa i (some (s.armed u))) rfl).wrIn
      (f := F.KN_STATUS_TA_FREE) (v := s.rd F.KN_STATUS_TA_FREE - 1) (by simp [takenFields])).of_regs rfl
  exact ((h.wrIn (by simp [takenFields])).wrIn (by simp [takenFields])).wrIn (by simp [takenFields])

theorem State.taTaken_taArmed_shape : ∃ regs tas, (s.taArmed i u).taTaken m i =
    { s with regs := regs, kn := { s.kn with tas := tas, taSeq := s.kn.taSeq + 1 } } := ⟨_, _, rfl⟩

end

/-! Cancellation (R100). -/

section
variable {m : Nat} {s : State}

theorem execTaCancel_accepts (h : s.accepts m 0x60060 permW) (i : BitVec 12) :
    exec (.taCancel m i) s = .next (s.taCancelReg m i.toNat) := congrArg Host.Outcome.next (State.busW_accepts h _)

theorem State.taCancelReg_absent {i : Nat} (h : s.ta i = none) : s.taCancelReg m i = s.wr (F.KN_TA_RESULT_NOTFOUND m) 1 := by
  rw [State.taCancelReg, h]

theorem State.taCancelReg_foreign {i : Nat} {u : Ta} (h : s.ta i = some u) (ho : u.owner ≠ m) (hm : m ≠ 0) :
    s.taCancelReg m i = s.wr (F.KN_TA_RESULT_NOTFOUND m) 1 := by
  rw [State.taCancelReg, h]
  exact if_neg (not_or.mpr ⟨ho, hm⟩)

theorem State.taCancelReg_own {i : Nat} {u : Ta} (h : s.ta i = some u) (ho : u.owner = m ∨ m = 0) (hq : u.queue = none) :
    s.taCancelReg m i = ((s.setTa i none).wr F.KN_STATUS_TA_FREE (s.rd F.KN_STATUS_TA_FREE + 1)).wr (F.KN_TA_RESULT_NOTFOUND m) 0 := by
  rw [State.taCancelReg, h, ← State.taFreeEntry_unqueued h hq stCancelled]
  exact if_pos ho

end

/-! The one occurrence of a TOUT action, in time (R95, R97). -/

theorem execTaOccurrence_next {i : Nat} {u : Ta} {s : State} (hen : s.on F.KN_CTRL_TA_EN = true) (hr : s.inReset 6 = false)
    (hn : s.taNext = some (i, u)) : exec .taOccurrence s = .next (s.taOccur i u) := by
  show execTaOccurrence s = _
  simp only [execTaOccurrence, hen, hr, hn, Bool.false_eq_true, not_false_eq_true, and_self, if_true]

/-- The state with the edge of `u` waiting for its pad. -/
def State.toutQueued (s : State) (u : Ta) : State := { s with kn := { s.kn with edges := s.kn.edges ++ [(u.pad % 4, u.level, u.dt)] } }

/-- The state with that and the occurrence counted. -/
def State.toutDone (s : State) (i : Nat) (u : Ta) : State := ((s.setTa i (some u)).toutQueued u).inc F.KN_TA_CNT

/-- The state with the denial recorded and `u`, in its entry, refused. -/
def State.toutRefused (s : State) (i : Nat) (u : Ta) : State :=
  (((s.deny 4 u.owner 2 u.offset).inc F.KN_TA_REF).raise0 Src.KN_TA_REFUSED i).setTa i (some { u with refused := true })

/-- The state with entry `i` empty. -/
def State.taEmptied (s : State) (i : Nat) : State := (s.setTa i none).wr F.KN_STATUS_TA_FREE (s.rd F.KN_STATUS_TA_FREE + 1)

theorem State.ta_toutDone (s : State) (i : Nat) (u : Ta) : (s.toutDone i u).ta i = some u :=
  (State.ta_of_tas rfl i).trans (s.ta_setTa_same i (some u))

theorem State.ta_toutRefused (s : State) (i : Nat) (u : Ta) : (s.toutRefused i u).ta i = some { u with refused := true } :=
  State.ta_setTa_same ..

theorem State.ta_taEmptied (s : State) (i : Nat) : (s.taEmptied i).ta i = none := (State.ta_of_tas rfl i).trans (s.ta_setTa_same i none)

/-- An action without a period has one occurrence (R99). -/
theorem State.taReschedule_once (s : State) (i : Nat) {u : Ta} (hp : u.period = 0) (d : Bool) :
    s.taReschedule i u d = s.taFreeEntry i (u.last d) := if_pos (Or.inl hp)

section
variable {s : State} {i : Nat} {u : Ta} (hk : u.kind = 2)
include hk

theorem Ta.target_tout : u.target = some 2 := by rw [Ta.target, hk]; rfl

theorem State.taMay_tout : s.taMay u = s.may 2 u.owner permW := by rw [State.taMay, Ta.target_tout hk]

theorem State.taCycle_tout : s.taCycle u = s := if_pos hk

/-- A TOUT action waits for no slot on the bus, so whether it is late hangs on device time alone. -/
theorem State.taLate_tout : s.taLate u = (u.gone || decide (u.dt + 2 < s.dt)) := by
  simp only [State.taLate, State.taEffect, hk, taTout, if_true, Nat.add_zero, lt_irrefl, decide_false, Bool.or_false]

theorem State.taPerform_tout (hl : s.taLate u = false) : s.taPerform u = s.toutQueued u := by
  rw [State.taPerform, if_neg (by rw [hk]; decide), if_neg (by rw [hk]; decide), hl]
  rfl

variable (hl : s.taLate u = false) (hq : u.queue = none)
include hl hq

theorem State.taOccur_tout_permitted (hp : u.period = 0) (hm : s.may 2 u.owner permW = true) :
    s.taOccur i u = (s.toutDone i u).taEmptied i := by
  have hlate : (s.setTa i (some u)).taLate u = false := by rw [State.taLate_tout hk] at hl ⊢; exact hl
  have hdone : ((s.setTa i (some u)).taPerform u).inc F.KN_TA_CNT = s.toutDone i u := by rw [State.taPerform_tout hk hlate]; rfl
  simp only [State.taOccur, hl, State.taMay_tout hk, hm, State.taCycle_tout hk, Bool.or_false, hdone, s.ta_toutDone i u,
    State.taReschedule_once _ i hp, Bool.false_eq_true, false_and, if_false, Bool.not_true, if_true,
    State.taFreeEntry_unqueued (s.ta_toutDone i u) hq, State.taEmptied]

theorem State.taOccur_tout_denied (hm : s.may 2 u.owner permW = false) : s.taOccur i u = (s.toutRefused i u).taEmptied i := by
  have hrefused : (((s.deny 4 u.owner 2 u.offset).inc F.KN_TA_REF).raise0 Src.KN_TA_REFUSED i).setTa i
    (some { u with refused := true }) = s.toutRefused i u := rfl
  simp only [State.taOccur, hl, State.taMay_tout hk, hm, State.taCycle_tout hk, Bool.or_false, Ta.target_tout hk, Option.getD_some, hrefused,
    Bool.false_eq_true, false_and, if_false, Bool.not_false, if_true, State.taFreeEntry_unqueued (s.ta_toutRefused i u) hq, State.taEmptied]

end

section
variable (s : State) (i : Nat) (u : Ta)

theorem State.taEmptied_shape : ∃ regs tas, s.taEmptied i = { s with regs := regs, kn := { s.kn with tas := tas } } := ⟨_, _, rfl⟩

theorem State.rd_taEmptied {f : Fld} (h : f.key ≠ F.KN_STATUS_TA_FREE.key) : (s.taEmptied i).rd f = s.rd f :=
  (State.rd_wr_ne (s.setTa i none) F.KN_STATUS_TA_FREE f _ h).trans (State.rd_of_regs rfl f)

theorem State.toutDone_shape : ∃ regs tas, s.toutDone i u =
    { s with regs := regs, kn := { s.kn with tas := tas, edges := s.kn.edges ++ [(u.pad % 4, u.level, u.dt)] } } := ⟨_, _, rfl⟩

theorem State.toutDone_keepsRegs : s.keepsRegs (s.toutDone i u) [F.KN_TA_CNT, F.KN_STATUS_TA_FREE] :=
  ((State.keepsRegs.refl s _).of_regs (t := (s.setTa i (some u)).toutQueued u) rfl).inc

theorem State.taEmptied_keepsRegs {r : State} {l : List Fld} (h : r.keepsRegs s l) (hf : F.KN_STATUS_TA_FREE.key ∈ l.map Fld.key) :
    r.keepsRegs (s.taEmptied i) l := (h.of_regs (t := s.setTa i none) rfl).wr hf

theorem State.rd_toutDone_cnt : (s.toutDone i u).rd F.KN_TA_CNT = min (s.rd F.KN_TA_CNT + 1) (2 ^ 32 - 1) :=
  State.rd_inc_same ((s.setTa i (some u)).toutQueued u) F.KN_TA_CNT (Nat.le_of_ble_eq_true rfl)

theorem State.deny_shape (op m t off : Nat) : ∃ regs cl, s.deny op m t off = { s with regs := regs, cl := cl } := ⟨_, _, rfl⟩

/-- A denial leaves its record in the registers of ACCESS only (R392). -/
theorem State.rd_deny_ref (op m t off : Nat) : (s.deny op m t off).rd F.KN_TA_REF = s.rd F.KN_TA_REF := by
  rw [State.deny, State.rd_raise, State.rd_wr_ne _ _ _ _ (by decide), State.rd_wr_ne _ _ _ _ (by decide), State.rd_wr_ne _ _ _ _ (by decide),
    State.rd_wr_ne _ _ _ _ (by decide), State.rd_wr_ne _ _ _ _ (by decide), State.rd_wr_ne _ _ _ _ (by decide), State.rd_inc_ne _ (by decide)]

theorem State.rd_toutRefused_ref : (s.toutRefused i u).rd F.KN_TA_REF = min (s.rd F.KN_TA_REF + 1) (2 ^ 32 - 1) := by
  have e : (s.toutRefused i u).regs = ((s.deny 4 u.owner 2 u.offset).inc F.KN_TA_REF).regs := rfl
  rw [State.rd_of_regs e, State.rd_inc_same _ _ (Nat.le_of_ble_eq_true rfl), State.rd_deny_ref]
  rfl

theorem State.toutRefused_shape : ∃ regs tas cl, s.toutRefused i u = { s with regs := regs, kn := { s.kn with tas := tas }, cl := cl } := by
  obtain ⟨regs, cl, h⟩ := s.deny_shape 4 u.owner 2 u.offset
  rw [State.toutRefused, h]
  exact ⟨_, _, _, rfl⟩

theorem State.mem_inbox_toutRefused : ⟨Src.KN_TA_REFUSED, 0xFF, none, i, false⟩ ∈ (s.toutRefused i u).cl.inbox :=
  List.mem_append_right (((s.deny 4 u.owner 2 u.offset).inc F.KN_TA_REF).cl.inbox) (List.mem_singleton.mpr rfl)

end

/-! An edge that reaches its pad (R95). -/

/-- What is put on a pad, not on a port, changes the wire only. -/
theorem State.emit_shape (s : State) {w : WireOut} (h : w.mac = none) : ∃ wire, s.emit w = { s with wire := wire } := by
  have hloop : s.loopPut w = s := by simp only [State.loopPut, h]
  simp only [State.emit, hloop]
  split
  · exact ⟨s.wire, rfl⟩
  · exact ⟨_, rfl⟩

/-- The level that pad `n` is to show (R69, R95). -/
def State.toutShown (s : State) (n : Nat) : Bool :=
  if s.on (F.TB_TOUTn_CFG_PAIR_EXCL n) && !s.acts then s.on (F.TB_TOUTn_CFG_IDLE n) else s.toutLevel n

theorem State.toutDrive_eq (s : State) (n : Nat) : s.toutDrive n =
    if s.on (F.TB_TOUTn_CFG_OE n) ∧ (bits s.tb.toutPad n 1 == 1) ≠ s.toutShown n then
      ({ s with tb := { s.tb with toutPad := putBits s.tb.toutPad n 1 (s.toutShown n).toNat } }).emit (.tout n (s.toutShown n))
    else s := rfl

theorem State.toutDrive_shape (s : State) (n : Nat) : ∃ pad wire, s.toutDrive n = { s with tb := { s.tb with toutPad := pad }, wire := wire } := by
  rw [State.toutDrive_eq]
  split
  · obtain ⟨wire, h⟩ := State.emit_shape ({ s with tb := { s.tb with toutPad := putBits s.tb.toutPad n 1 (s.toutShown n).toNat } } : State)
      (w := .tout n (s.toutShown n)) rfl
    exact ⟨_, wire, h⟩
  · exact ⟨s.tb.toutPad, s.wire, rfl⟩

/-- The levels of the pads with that of pad `n` set by an action. -/
def toutWith (tout n : Nat) (level : Bool) : Nat := putBits (putBits tout n 1 level.toNat) (4 + n) 1 1

/-- The bit that says so, four further on, leaves the level alone. -/
theorem bits_toutWith (tout : Nat) {n : Nat} (level : Bool) (hn : n < 4) : bits (toutWith tout n level) n 1 = level.toNat := by
  have hl := Bool.toNat_lt level
  simp only [toutWith, bits, putBits]
  interval_cases n <;> omega

theorem execToutEdge_first {s : State} {n at_ : Nat} {level : Bool} {rest : List (Nat × Bool × Nat)} (he : s.kn.edges = (n, level, at_) :: rest)
    (ht : at_ ≤ s.dt + 2) : exec .toutEdge s = .next (({ s with
      kn := { s.kn with edges := rest }, tb := { s.tb with tout := toutWith s.tb.tout n level } } : State).toutDrive n) := by
  have hfind : s.kn.edges.find? (fun e => decide (e.2.2 ≤ s.dt + 2)) = some (n, level, at_) := by
    rw [he]
    exact List.find?_cons_of_pos (p := fun e : Nat × Bool × Nat => decide (e.2.2 ≤ s.dt + 2)) (decide_eq_true ht)
  have herase : s.kn.edges.erase (n, level, at_) = rest := by rw [he, List.erase_cons_head]
  show execToutEdge s = _
  simp only [execToutEdge, hfind, herase, toutWith]

/-- Settles O20: submission and cancellation by their rules above, an occurrence by `taOccur_tout_permitted` and `taOccur_tout_denied`, the
edge by `execToutEdge_first`. -/
theorem timedActions : Obligations.TimedActions := by
  refine ⟨fun m s h => ⟨⟨fun hb => ?_, fun hb hf => ?_, fun i hb hf => ?_⟩, fun i => ⟨fun hi => ?_, fun u hi ho hm => ?_, fun u hi ho hq => ?_⟩⟩,
    fun i u s hen hr hn hk hq _ hp hl => ⟨fun hm => ?_, fun hm => ?_⟩, fun n at_ level rest s he ht hn => ?_⟩
  · rw [execTaSubmit_accepts h, State.taSubmitReg_bad hb]
  · rw [execTaSubmit_accepts h, State.taSubmitReg_full hb hf]
  · rw [execTaSubmit_accepts h, State.taSubmitReg_taken hb hf]
    obtain ⟨regs, tas, hshape⟩ := s.taTaken_taArmed_shape m i (s.taStaged m)
    exact ⟨_, rfl, s.ta_taTaken_taArmed_same m i _, State.rd_taTaken_index _ m i (State.taFree_lt hf), State.rd_taTaken_bad _ m i,
      (State.rd_taTaken_free _ m i).trans (s.rd_taArmed_free i _), fun j _ hj => s.ta_taTaken_taArmed_ne m i _ hj, by rw [hshape],
      s.taTaken_taArmed_keepsRegs m i _⟩
  · rw [execTaCancel_accepts h, State.taCancelReg_absent hi]
  · rw [execTaCancel_accepts h, State.taCancelReg_foreign hi ho hm]
  · rw [execTaCancel_accepts h, State.taCancelReg_own hi ho hq]
  · rw [execTaOccurrence_next hen hr hn, State.taOccur_tout_permitted hk hl hq hp hm]
    obtain ⟨regs, tas, hdone⟩ := s.toutDone_shape i u
    obtain ⟨regs', tas', hempty⟩ := (s.toutDone i u).taEmptied_shape i
    refine ⟨_, rfl, ?_, ?_, State.ta_taEmptied _ i, State.taEmptied_keepsRegs _ i (s.toutDone_keepsRegs i u) (by decide), ?_⟩
    · rw [hempty, hdone]
    · rw [State.rd_taEmptied _ i (by decide), s.rd_toutDone_cnt i u]
    · rw [hempty, hdone]
  · rw [execTaOccurrence_next hen hr hn, State.taOccur_tout_denied hk hl hq hm]
    obtain ⟨regs, tas, cl, hrefused⟩ := s.toutRefused_shape i u
    obtain ⟨regs', tas', hempty⟩ := (s.toutRefused i u).taEmptied_shape i
    refine ⟨_, rfl, ?_, State.ta_taEmptied _ i, ?_, ?_, ?_⟩
    · rw [hempty, hrefused]
    · rw [State.rd_taEmptied _ i (by decide), s.rd_toutRefused_ref i u]
    · rw [hempty]
      exact s.mem_inbox_toutRefused i u
    · rw [hempty, hrefused]
  · rw [execToutEdge_first he ht]
    obtain ⟨pad, wire, hdrive⟩ := State.toutDrive_shape ({ s with
      kn := { s.kn with edges := rest }, tb := { s.tb with tout := toutWith s.tb.tout n level } } : State) n
    rw [hdrive]
    exact ⟨_, rfl, rfl, bits_toutWith s.tb.tout level hn, rfl⟩

end Sys2Proof.Machine

/-! The life of a work item before its start (R109, R115, R126; `Obligations.LifeOfAWorkItem`). -/

namespace Sys2Proof.Machine

section
variable {i d : Nat} {it : Item} {s : State}

theorem State.item_of_ln {s t : State} (h : t.ln = s.ln) (i : Nat) : t.item i = s.item i := by rw [State.item, h, State.item]

/-- An item without a chain has nothing to wait for in cells. -/
theorem State.chainWhole_none (h : it.chain = none) : s.chainWhole it = true := by rw [State.chainWhole, h]

/-- The lead of an item without a chain (R109). -/
theorem Item.lead_none (h : it.chain = none) : it.lead = if 2 ≤ it.port then 50000 else 200 := by rw [Item.lead, h]

/-- An item that holds no chain and belongs to no host job leaves the work table, and that is all. -/
theorem State.endItem_free {status flags : Nat} (hi : s.item i = some it) (hc : it.chain = none) (hj : it.job = none) :
    s.endItem i status flags = s.setItem i none := by
  simp only [State.endItem, hi, hc, hj]

/-! The read of an item (R109). -/

section
variable (hi : s.item i = some it)
include hi

theorem execFetchStart_due (hw : it.st = .wait) (hen : s.on F.LN_CTRL_EN = true) (hsrc : it.src ≠ srcTpl) (hd : it.dtl = some d)
    (hc : it.chain = none) (h : d ≤ s.wireDt it.port + it.lead) :
    exec (.fetchStart i) s = .next (s.setItem i (some { it with st := .fetch })) := by
  have hgo : ¬ (it.st ≠ .wait ∨ ¬ s.on F.LN_CTRL_EN ∨ it.src = srcTpl) := by simp [hw, hen, hsrc]
  show execFetchStart i s = _
  simp only [execFetchStart, hi, if_neg hgo, hd, if_pos (Or.inr h), if_pos (State.chainWhole_none hc)]

theorem execFetchStart_early (hw : it.st = .wait) (hen : s.on F.LN_CTRL_EN = true) (hsrc : it.src ≠ srcTpl) (hd : it.dtl = some d)
    (hdue : it.due = false) (h : s.wireDt it.port + it.lead < d) : exec (.fetchStart i) s = .next s := by
  have hgo : ¬ (it.st ≠ .wait ∨ ¬ s.on F.LN_CTRL_EN ∨ it.src = srcTpl) := by simp [hw, hen, hsrc]
  have hwait : ¬ (it.due ∨ d ≤ s.wireDt it.port + it.lead) := by simp [hdue, h]
  show execFetchStart i s = _
  simp only [execFetchStart, hi, if_neg hgo, hd, if_neg hwait]

theorem execFetchDone_read (hf : it.st = .fetch) (hsrc : it.src ≠ srcTpl) (hc : it.chain = none) :
    exec (.fetchDone i) s = .next (s.makeReady i it) := by
  show execFetchDone i s = _
  simp only [execFetchDone, hi, if_pos (show it.st = .fetch ∧ s.chainWhole it ∧ it.src ≠ srcTpl from ⟨hf, State.chainWhole_none hc, hsrc⟩)]

/-- A frame longer than M that no chain and no job goes with is counted, raised and freed (R126). -/
theorem State.tooLong_free (hc : it.chain = none) (hj : it.job = none) : s.tooLong i it
    = ((s.inc (F.LN_Pn_TX_OVERSIZE it.port)).raise Src.LN_TX_OVERSIZE it.port none 0).setItem i none :=
  State.endItem_free ((State.item_of_ln rfl i).trans hi) hc hj

end

theorem State.makeReady_fits (h : s.frameLen it ≤ s.maxFrame it.port) : s.makeReady i it = s.setItem i (some { it with st := .ready }) :=
  if_neg (fun hn => absurd hn.2 (Nat.not_lt.mpr h))

theorem State.makeReady_long (ha : it.arriving = false) (h : s.maxFrame it.port < s.frameLen it) : s.makeReady i it = s.tooLong i it :=
  if_pos ⟨by simp [ha], h⟩

/-! A late item (R115). -/

theorem State.isLate_ready (hd : it.dtl = some d) (hseg : it.seg = 0) (hst : it.st = .ready) (h : d + tolNs it.port < s.wireDt it.port) :
    s.isLate it = true := by
  simp [State.isLate, hd, hseg, hst, h]

theorem execJobLate_backbone (hi : s.item i = some it) (hl : s.isLate it = true) (hn : it.late = false) (hp : it.port < 2) :
    exec (.jobLate i) s = .next (s.lateItem i it) := by
  have hlocked : s.fieldLocked it.port = true := by simp [State.fieldLocked, hp]
  show execJobLate i s = _
  simp only [execJobLate, hi, if_pos (show s.isLate it ∧ ¬ it.late from ⟨hl, by simp [hn]⟩), if_pos hlocked]

theorem State.lateItem_kept (hn : it.late = false) (hp : it.lateDisc = false) :
    s.lateItem i it = (s.raise Src.LN_LATE it.port none 0).setItem i (some { it with late := true }) := by
  simp [State.lateItem, hn, hp]

theorem State.lateItem_discarded (hi : s.item i = some it) (hn : it.late = false) (hp : it.lateDisc = true) (hdue : it.due = false)
    (hseg : it.seg = 0) (hc : it.chain = none) (hj : it.job = none) :
    s.lateItem i it = ((s.raise Src.LN_LATE it.port none 0).inc (F.LN_Pn_LATE_DISC it.port)).setItem i none := by
  have hfree : ((s.raise Src.LN_LATE it.port none 0).inc (F.LN_Pn_LATE_DISC it.port)).item i = some it := (State.item_of_ln rfl i).trans hi
  simp [State.lateItem, hn, hp, hdue, hseg, State.endItem_free hfree hc hj]

end

/-- Settles O21: each command by its lemma above, with the lead of an item without a chain and the 2 ns of a backbone port. -/
theorem lifeOfAWorkItem : Obligations.LifeOfAWorkItem := by
  intro i it s hi
  refine ⟨fun d hw hen hsrc hd hc => ?_, fun hf hc hsrc _ ha => ?_, fun d hd hseg hst hn hdue hp h => ?_⟩
  · rw [← Item.lead_none hc]
    exact ⟨execFetchStart_due hi hw hen hsrc hd hc, execFetchStart_early hi hw hen hsrc hd⟩
  · rw [execFetchDone_read hi hf hsrc hc]
    exact ⟨fun h => by rw [State.makeReady_fits h], fun h hj => by rw [State.makeReady_long ha h, State.tooLong_free hi hc hj]⟩
  · have hlate : s.isLate it = true := State.isLate_ready hd hseg hst (by rwa [tolNs, if_pos hp])
    rw [execJobLate_backbone hi hlate hn hp]
    exact ⟨fun hk => by rw [State.lateItem_kept hn hk], fun hk hc hj => by rw [State.lateItem_discarded hi hn hk hdue hseg hc hj]⟩

end Sys2Proof.Machine

/-! The wire of a port: the start of a frame, its end, and a port that does not transmit (R110, R117, R121, R128, R244;
`Obligations.FramesOnTheWire`). -/

namespace Sys2Proof.Machine

/-! A work item and a port's transmitter after their updates. -/

@[simp] theorem State.item_setItem_same (s : State) (i : Nat) (v : Option Item) : (s.setItem i v).item i = v := Sparse.get_put_same ..

@[simp] theorem State.lnPort_setLnPort_same (s : State) (p : Nat) (v : LnPort) : (s.setLnPort p v).lnPort p = v := Sparse.get_put_same ..

/-- The registers that show how full the work table is. -/
def tableFields : List Fld := [F.LN_STATUS_WT_USED, F.LN_WT_HWM]

theorem State.setItem_keepsRegs (s : State) (i : Nat) (v : Option Item) : s.keepsRegs (s.setItem i v) tableFields :=
  (State.keepsRegs.of_regs (t := { s with ln := { s.ln with items := Sparse.put none s.ln.items i v } }) (State.keepsRegs.refl s _) rfl).wr.wr

/-! What the engine picks (R244): the one item of the table, ready and untimed, that no gate, guard, hold or shaper holds back. -/

/-- The only work item is READY and untimed, and nothing of its port holds it back. -/
structure State.Alone (s : State) (i : Nat) (it : Item) : Prop where
  items : s.ln.items = [(i, some it)]
  ready : it.st = .ready
  untimed : it.dtl = none
  cls : it.cls < 8
  gates : (s.knPort it.port).eff = false
  guard : s.on (F.LN_Pn_CTRL_GUARD_EN it.port) = false
  hold : s.on (F.LN_Pn_MM_STATUS_HOLD_ACTIVE it.port) = false
  lauter : s.ltOn = false

namespace State.Alone

variable {s : State} {i : Nat} {it : Item} (h : s.Alone i it)
include h

theorem item : s.item i = some it := by simp [State.item, h.items, Sparse.get]

theorem gateIsOpen : s.gateIsOpen it = true := by
  have hcls := h.cls
  rw [State.gateIsOpen, State.wireGates, if_pos (by simp [h.gates])]
  interval_cases it.cls <;> rfl

theorem nextClose (c : Nat) : s.nextClose it.port c = none := by simp [State.nextClose, State.planNext, h.gates]

theorem guardRule : s.guardRule i it = some false := if_pos (Or.inl (by simp [h.guard]))

theorem startRules : s.startRules i it = .no := by
  have hbars : s.holdBars it = false := by simp [State.holdBars, h.guard, h.hold]
  simp [State.startRules, hbars, h.guardRule, h.nextClose]

theorem selectable : s.selectable i = true := by
  simp [State.selectable, h.item, h.ready, h.gateIsOpen, h.startRules, State.lauterOk, h.lauter]

theorem heads (c : Nat) : s.heads it.port c = if it.cls = c then [(it.src, i)] else [] := by
  simp [State.heads, h.items, h.untimed, h.ready]

theorem nextSource (c : Nat) : s.nextSource it.port c = if it.cls = c then some i else none := by
  rw [State.nextSource, h.heads]
  split
  · simp [h.selectable]
  · rfl

theorem bestClass (l : List Nat) : s.bestClass it.port l = if it.cls ∈ l then some i else none := by
  induction l with
  | nil => rfl
  | cons c l ih =>
    rw [State.bestClass, h.nextSource]
    by_cases hc : it.cls = c
    · simp [hc]
    · simp [hc, ih]

theorem timedReady : s.timedReady it.port = [] := by simp [State.timedReady, h.items, h.untimed]

theorem resumable : s.resumable it.port = none := by simp [State.resumable, h.hold, h.items, h.ready]

theorem mem_classes : it.cls ∈ [7, 6, 5, 4, 3, 2, 1, 0] := by
  have hcls := h.cls
  interval_cases it.cls <;> decide

/-- Express or pre-emptable, the item is what the engine chooses. -/
theorem pick : s.pick it.port = some i := by
  rw [State.pick, State.pickExpress, h.timedReady, h.resumable, h.bestClass, h.bestClass]
  by_cases he : s.express it.port it.cls = true
  · simp only [List.find?_nil, if_pos (List.mem_filter.mpr ⟨h.mem_classes, he⟩)]
  · have hpre : it.cls ∈ [7, 6, 5, 4, 3, 2, 1, 0].filter (fun c => !s.express it.port c) :=
      List.mem_filter.mpr ⟨h.mem_classes, by simpa using he⟩
    simp only [List.find?_nil, if_neg (fun hm => he (List.mem_filter.mp hm).2), if_pos hpre]

theorem countBlocked : s.countBlocked it.port = s := by
  simp [State.countBlocked, h.items, h.item, h.startRules]

end State.Alone

/-! The frame that leaves (R121, R125). -/

section
variable {i : Nat} {it : Item} {s : State}

/-- A frame without a stream handle has no number. -/
theorem State.genOf_none : s.genOf none = none := rfl

theorem State.numberFrame_plain (hh : it.handle = none) : s.numberFrame i it = (s, none) := by simp only [State.numberFrame, hh, State.genOf_none]

theorem State.standbyDrop_none : s.standbyDrop none = false := rfl

/-- A whole frame that is neither tagged nor forwarded nor the module's own leaves as its data with their padding. -/
theorem State.buildFrame_plain {eg : Stamp} (hl : it.lso = none) (hh : it.handle = none) (hp : it.pass = none) (ha : it.arriving = false)
    (ht : it.tagged = false) (hs : it.src ≠ srcOwn) : s.buildFrame it none eg = (s, padFrame it.data) := by
  have hcarries : s.carriesTag it = false := by simp only [State.carriesTag, hh, State.genOf_none, ht]
  simp [State.buildFrame, hl, hp, ha, ht, hs, hcarries]

theorem length_padFrame (f : List Byte) : (padFrame f).length = max 60 f.length := by
  rw [padFrame, List.length_append, List.length_replicate]
  omega

/-- While LAUTER does not run, nothing is charged. -/
theorem State.chargeItem_off {l : Nat} (h : s.ltOn = false) : s.chargeItem i it l = s := by
  simp [State.chargeItem, State.shapersOf, State.noShp, State.tbOn, State.cbsRuns, State.paused, h]

theorem State.takeStamp_shape (s : State) (it : Item) (t : Stamp) : ∃ regs cl, (s.takeStamp it t).1 = { s with regs := regs, cl := cl } := by
  unfold State.takeStamp
  by_cases hk : it.stamp.isSome ∨ it.seg ≠ 0
  · rw [if_pos hk]; exact ⟨_, _, rfl⟩
  · rw [if_neg hk]
    by_cases hw : 32 ≤ s.stampsWaiting it.port
    · rw [if_pos hw]
      by_cases hp : it.port < 2
      · simp only [if_pos hp]; exact ⟨_, _, rfl⟩
      · simp only [if_neg hp]; exact ⟨_, _, rfl⟩
    · rw [if_neg hw]; exact ⟨_, _, rfl⟩

/-- An untimed frame's start goes into no statistics of timed frames (R110, R115). -/
theorem State.countTimed_untimed (hd : it.dtl = none) : (s.countTimed i it).noteLaunch it = s := by
  simp only [State.countTimed, State.noteLaunch, hd]

/-- The state in which a short frame has been counted (R125). -/
def State.padCounted (s : State) (it : Item) : State := if s.shortItem it then s.inc (F.LN_Pn_PAD it.port) else s

theorem State.padCounted_shape (s : State) (it : Item) : ∃ regs, s.padCounted it = { s with regs := regs } := by
  unfold State.padCounted
  split <;> exact ⟨_, rfl⟩

/-- The item as it is on the wire, its frame closed by the FCS. -/
def Item.onWire (it : Item) (stamp : Option Stamp) : Item :=
  { it with st := .wire, sent := 0, out := padFrame it.data ++ fcs (padFrame it.data), stamp := stamp }

theorem State.startStamp_shape (s : State) (it : Item) (t : Stamp) :
    ∃ regs cl, ((s.padCounted it).takeStamp it t).1 = { s with regs := regs, cl := cl } := by
  obtain ⟨regs, hpad⟩ := s.padCounted_shape it
  obtain ⟨regs', cl, hstamp⟩ := (s.padCounted it).takeStamp_shape it t
  exact ⟨regs', cl, by rw [hstamp, hpad]⟩

/-- The frame of the lone item begins: its stamp is taken, the item is on the wire, and the wire is taken to the end of its FCS. -/
theorem State.startItem_plain (h : s.Alone i it) (hl : it.lso = none) (hh : it.handle = none) (hp : it.pass = none) (ha : it.arriving = false)
    (ht : it.tagged = false) (hj : it.job = none) (hs : it.src ≠ srcOwn) : ∃ regs cl stamp, ∃ r : LnPort,
      s.startItem i it = (({ s with regs := regs, cl := cl } : State).setItem i (some (it.onWire stamp))).setLnPort it.port { r with
        wire := some ⟨some i, false, s.now10, some (s.now10 + (8 + max 60 it.data.length + 4) * s.byteTime it.port), none⟩ } := by
  obtain ⟨regs, cl, hstamp⟩ := s.startStamp_shape it (s.txStamp it.port)
  have hwire : s.wireOf i it (max 60 it.data.length + 4)
      = ⟨some i, false, s.now10, some (s.now10 + (8 + max 60 it.data.length + 4) * s.byteTime it.port), none⟩ := by
    simp [State.wireOf, h.guardRule, ha, Nat.add_assoc]
  have hitem : ({ s with regs := regs, cl := cl } : State).item i = some it := (State.item_of_ln rfl i).trans h.item
  have hpad : (if s.shortItem it = true then s.inc (F.LN_Pn_PAD it.port) else s) = s.padCounted it := rfl
  refine ⟨regs, cl, ((s.padCounted it).takeStamp it (s.txStamp it.port)).2,
    { s.lnPort it.port with served := Sparse.put 0 (s.lnPort it.port).served it.cls (it.src + 1) }, ?_⟩
  simp only [State.startItem, State.numberFrame_plain hh, State.buildFrame_plain hl hh hp ha ht hs, State.chargeItem_off h.lauter,
    State.countTimed_untimed h.untimed, ite_self, length_padFrame, hwire, hp, hj, hpad, ha, Option.isSome_none, Bool.false_eq_true, if_false,
    hstamp, hitem, Option.getD_some, Item.onWire, h.untimed, Option.isNone_none, if_true]
  rfl

end

/-- The engine of a free wire starts the lone item (R244). -/
theorem execFrameStart_alone {p : Fin 10} {i : Nat} {it : Item} {s : State} (h : s.Alone i it) (hport : it.port = p.val)
    (hen : s.on F.LN_CTRL_EN = true) (hup : s.txUp p.val = true) (hwire : (s.lnPort p.val).wire = none)
    (hfree : (s.lnPort p.val).free ≤ s.now10) (hh : it.handle = none) : exec (.frameStart p) s = .next (s.startItem i it) := by
  have hgo : s.goItem i it = s.startItem i it := by
    simp [State.goItem, h.ready, hh, State.standbyDrop_none, State.isLate, h.untimed]
  show execFrameStart p s = _
  simp only [execFrameStart, ← hport] at hup hwire hfree ⊢
  simp [hen, hup, hwire, Nat.not_lt.mpr hfree, h.countBlocked, h.pick, h.item, hgo]

/-! The end of a frame (R109, R117). -/

/-- From `r` to `s` nothing has moved but LAUTER and, of the registers, CREDIT_OK of port `p`. -/
structure SlopesKept (p : Nat) (r s : State) : Prop where
  shape : s = { r with regs := s.regs, lt := s.lt }
  keeps : r.keepsRegs s [F.LT_Pn_STATUS_CREDIT_OK p]

theorem SlopesKept.lt {p : Nat} {r s : State} (h : SlopesKept p r s) (lt : Lt) : SlopesKept p r { s with lt := lt } :=
  ⟨congrArg (fun x : State => { x with lt := lt }) h.shape, h.keeps.of_regs rfl⟩

theorem SlopesKept.setCredit {p c : Nat} {v : Int} {r s : State} (h : SlopesKept p r s) : SlopesKept p r (s.setCredit p c v) := by
  unfold State.setCredit
  dsimp only
  split
  · exact ⟨congrArg (fun x : State => ({ x with lt := _ } : State).wrBit _ c false) h.shape,
      (h.keeps.of_regs (t := { s with lt := { s.lt with credit := Sparse.put 0 s.lt.credit (p * 8 + c) v } }) rfl).wrIn⟩
  · exact h.lt _

theorem State.slopesApply_kept (s : State) (p : Nat) : SlopesKept p s (s.slopesApply p) := by
  refine List.foldlRecOn (motive := SlopesKept p s) _ _ ⟨rfl, State.keepsRegs.refl s _⟩ fun t h c _ => ?_
  dsimp only
  split
  · exact (h.lt _).setCredit
  · exact h.lt _

/-- A sent frame without a stream handle counts at its port alone. -/
theorem State.countSent_shape (s : State) (p n : Nat) : ∃ regs fd, s.countSent p n none = { s with regs := regs, fd := fd } := by
  unfold State.countSent
  by_cases hp : p < 2
  · simp only [if_pos hp]; exact ⟨_, _, rfl⟩
  · simp only [if_neg hp]; exact ⟨_, _, rfl⟩

theorem State.emit_frame (s : State) (p : Nat) (data : List Byte) (b : Bool) : ∃ loop, s.emit (.frame p data b)
    = { s with bp := { s.bp with loop := loop }, wire := s.wire ++ [.frame p data b] } ∧ (s.loops p = false → loop = s.bp.loop) := by
  by_cases hl : s.loops p = true ∧ s.on (F.BP_STATUS_LINK p) = true
  · exact ⟨_, by simp [State.emit, State.loopPut, WireOut.logic, WireOut.mac, hl]; rfl, fun h => by simp [h] at hl⟩
  · exact ⟨s.bp.loop, by simp [State.emit, State.loopPut, WireOut.logic, WireOut.mac, hl], fun _ => rfl⟩

/-- A whole frame's last bit frees the wire and ends the item's present frame. -/
theorem execFrameEnd_whole {p : Fin 10} {i stop start : Nat} {it : Item} {s : State}
    (hw : (s.lnPort p.val).wire = some ⟨some i, false, start, some stop, none⟩) (hs : stop ≤ s.now10) (hi : s.item i = some it) :
    exec (.frameEnd p) s = .next ((s.wireFree p.val stop).frameDone i it) := by
  show execFrameEnd p s = _
  simp only [execFrameEnd, hw, if_neg (Nat.not_lt.mpr hs), hi]

/-! A port that does not transmit (R128). -/

theorem execFrameStart_down {p : Fin 10} {s : State} (hen : s.on F.LN_CTRL_EN = true) (hup : s.txUp p.val = false) :
    exec (.frameStart p) s = .next (s.discardDown p.val) := by
  show execFrameStart p s = _
  simp only [execFrameStart, hen, hup]
  rfl

theorem State.discardDown_single {p i d : Nat} {it : Item} {s : State} (hi : s.ln.items = [(i, some it)]) (hport : it.port = p)
    (hst : it.st = .ready) (hd : it.dtl = some d) (hdue : d ≤ s.wireDt p) (hj : it.job = none) (hc : it.chain = none) :
    s.discardDown p = (s.inc (F.LN_Pn_ABORT p)).setItem i none := by
  have hitem : s.item i = some it := by simp [State.item, hi, Sparse.get]
  have hfree : (s.inc (F.LN_Pn_ABORT p)).item i = some it := (State.item_of_ln rfl i).trans hitem
  simp [State.discardDown, hi, hitem, hport, hst, hd, hdue, State.endItem_free hfree hc hj]

/-- The state after a frame of `n` bytes has left: the wire is free 12 byte times after it, the frame is listed, counted at its port, and
its item is gone. -/
structure State.FrameLeft (s : State) (p i stop : Nat) (out : List Byte) (t : State) : Prop where
  wire : (t.lnPort p).wire = none
  free : (t.lnPort p).free = stop + 12 * s.byteTime p
  item : t.item i = none
  sent : t.wire = s.wire ++ [.frame p out false]
  shape : t = { s with regs := t.regs, lt := t.lt, ln := t.ln, bp := { s.bp with loop := t.bp.loop }, fd := t.fd, cl := t.cl, wire := t.wire }
  loop : s.loops p = false → t.bp.loop = s.bp.loop

theorem State.wireFree_shape (s : State) (p stop : Nat) : ∃ regs lt, s.wireFree p stop = { s.setLnPort p { s.lnPort p with
    wire := none, free := stop + 12 * s.byteTime p, gapCls := s.wireCls p } with regs := regs, lt := lt } :=
  ⟨_, _, (State.slopesApply_kept _ p).shape⟩

theorem creditOk_key_ne_loop (p : Nat) : (F.BP_CTRL_LOOP p).key ≠ (F.LT_Pn_STATUS_CREDIT_OK p).key := by
  simp only [Fld.key, F.BP_CTRL_LOOP, F.LT_Pn_STATUS_CREDIT_OK]
  omega

theorem State.loops_wireFree (s : State) (p stop : Nat) : (s.wireFree p stop).loops p = s.loops p := by
  have hloop : (s.wireFree p stop).rd (F.BP_CTRL_LOOP p) = s.rd (F.BP_CTRL_LOOP p) :=
    (State.slopesApply_kept (s.setLnPort p _) p).keeps _ (by simpa using creditOk_key_ne_loop p)
  rw [State.loops, State.loops, State.on_of_rd hloop]

/-- A whole frame that no job, chain or handle waits for leaves. -/
theorem State.frameDone_left {p i stop : Nat} {it : Item} {s : State} (hi : s.item i = some it) (hport : it.port = p)
    (hcut : it.cutOnce = false) (hb : it.bad = false) (hl : it.lso = none) (hj : it.job = none) (hc : it.chain = none) (hh : it.handle = none) :
    s.FrameLeft p i stop it.out ((s.wireFree p stop).frameDone i it) := by
  obtain ⟨loop, hemit, hloop⟩ := (s.wireFree p stop).emit_frame p it.out false
  obtain ⟨regs, fd, hcount⟩ := ((s.wireFree p stop).emit (.frame p it.out false)).countSent_shape p it.out.length
  obtain ⟨regs', lt, hfree⟩ := s.wireFree_shape p stop
  rw [State.loops_wireFree] at hloop
  rw [hemit] at hcount
  have hdone : ∀ u : State, u.item i = some it → ∀ status, u.endItem i status 0 = u.setItem i none :=
    fun u hu status => State.endItem_free hu hc hj
  simp only [State.frameDone, hport, hcut, hb, hl, hh, hemit, hcount, Bool.false_eq_true, if_false]
  rw [hdone _ (by simp only [hfree]; exact hi)]
  simp only [hfree] at hloop ⊢
  exact ⟨congrArg LnPort.wire (s.lnPort_setLnPort_same p _), congrArg LnPort.free (s.lnPort_setLnPort_same p _), State.item_setItem_same ..,
    rfl, rfl, hloop⟩

/-- Settles O22: the lone item by `State.Alone.pick` and `startItem_plain`, the end of a frame by `frameDone_left`, the discard by
`discardDown_single`. -/
theorem framesOnTheWire : Obligations.FramesOnTheWire := by
  refine ⟨fun p i it s hen hup hw hfree hitems hst hport hd hl hh hp ha ht hj hsrc hcls he hg hm hlt => ?_,
    fun p i stop start it s hw hs hi hport hcut hb hl hj hc hh => ?_, fun p i d it s hen hup hitems hport hst hd hdue hj hc => ?_⟩
  · have h : s.Alone i it := ⟨hitems, hst, hd, hcls, hport ▸ he, hport ▸ hg, hport ▸ hm, hlt⟩
    obtain ⟨regs, cl, stamp, r, hstart⟩ := State.startItem_plain h hl hh hp ha ht hj hsrc
    rw [execFrameStart_alone h hport hen hup hw hfree hh, hstart, hport]
    refine ⟨_, rfl, by rw [State.lnPort_setLnPort_same], ?_, rfl⟩
    have hitem := State.item_setItem_same ({ s with regs := regs, cl := cl } : State) i (some (it.onWire stamp))
    exact congrArg (Option.map fun e : Item => (e.st, e.out)) hitem
  · have h := State.frameDone_left (stop := stop) hi hport hcut hb hl hj hc hh
    exact ⟨_, execFrameEnd_whole hw hs hi, h.wire, h.free, h.item, h.sent, h.shape, h.loop⟩
  · rw [execFrameStart_down hen hup, State.discardDown_single hitems hport hst hd hdue hj hc]
    refine ⟨_, rfl, State.item_setItem_same .., ?_, ?_, rfl⟩
    · rw [State.setItem_keepsRegs _ i none _ (by simp [Fld.key, tableFields, F.LN_Pn_ABORT, F.LN_STATUS_WT_USED, F.LN_WT_HWM]; omega)]
      exact State.rd_inc_same _ _ (Nat.le_of_ble_eq_true rfl)
    · exact ((State.keepsRegs.refl s _).wrIn).trans ((State.setItem_keepsRegs _ i none).widen (by simp [tableFields]))

end Sys2Proof.Machine

/-! Pre-emption: verification, mPackets and fragments (R116, R120, R459, R531; `Obligations.PreemptionAndFragments`). -/

namespace Sys2Proof.Machine

/-! What a port that is not in loopback receives comes from its pads (R459). -/

theorem State.looped_pads {s : State} {p : Nat} (h : s.loops p = false) (is : WireOut → Bool) (f : State → State) : s.looped p is f = f s :=
  if_pos (by simp [h])

section
variable {p : Fin 10} {s : State}

/-! Verification (R116). -/

theorem execVerifyTimeout_due (hst : s.rd (F.LN_Pn_MM_STATUS_VERIFY_STATE p.val) = 2) (hsent : 0 < (s.lnPort p.val).sentV)
    (hp : (s.lnPort p.val).pendV = false)
    (ht : (s.lnPort p.val).atV + max 1 (min 128 (s.rd (F.LN_Pn_VERIFY_VERIFY_TIME p.val))) * 1000000 ≤ s.tb.mono) :
    exec (.verifyTimeout p) s = .next (if (s.lnPort p.val).sentV < 3 then s.setLnPort p.val { s.lnPort p.val with pendV := true }
      else ((s.wr (F.LN_Pn_MM_STATUS_VERIFY_STATE p.val) 4).inc (F.LN_Pn_VERIFY_FAIL p.val)).raise Src.LN_VERIFY_FAIL p.val none 0) :=
  congrArg Host.Outcome.next (if_pos ⟨hst, hsent, by simp [hp], ht⟩)

/-- A write of VERIFY_STATE moves no link. -/
theorem State.linkUp_verifyState (s : State) (p v : Nat) : (s.wr (F.LN_Pn_MM_STATUS_VERIFY_STATE p) v).linkUp p = s.linkUp p := by
  have hbackbone : p < 2 → (F.BP_STATUS_LINK p).key ≠ (F.LN_Pn_MM_STATUS_VERIFY_STATE p).key := by
    simp only [Fld.key, F.BP_STATUS_LINK, F.LN_Pn_MM_STATUS_VERIFY_STATE]
    omega
  have hfield : ¬ p < 2 → (F.FP_STATUS_LINK (p - 2)).key ≠ (F.LN_Pn_MM_STATUS_VERIFY_STATE p).key := by
    simp only [Fld.key, F.FP_STATUS_LINK, F.LN_Pn_MM_STATUS_VERIFY_STATE]
    omega
  have hiso : F.FD_STATUS_ISO_UP.key ≠ (F.LN_Pn_MM_STATUS_VERIFY_STATE p).key := by
    simp only [Fld.key, F.FD_STATUS_ISO_UP, F.LN_Pn_MM_STATUS_VERIFY_STATE]
    omega
  unfold State.linkUp
  by_cases hp : p < 2
  · rw [if_pos hp, if_pos hp, State.on_of_rd (State.rd_wr_ne _ _ _ _ (hbackbone hp))]
  · rw [if_neg hp, if_neg hp, State.on_of_rd (State.rd_wr_ne _ _ _ _ (hfield hp)), State.on_of_rd (State.rd_wr_ne _ _ _ _ hiso)]

/-- On a port that may pre-empt, VERIFIED makes pre-emption active (R116). -/
theorem State.mmActive_verified {s : State} {p : Nat} (hl : s.linkUp p = true) (ht : s.on (F.LN_Pn_CTRL_TX_EN p) = true)
    (hp : s.on (F.LN_Pn_CTRL_PREEMPT_EN p) = true) (hst : s.rd (F.LN_Pn_MM_STATUS_VERIFY_STATE p) = 3) :
    s.mmActive p = s.wr (F.LN_Pn_MM_STATUS_PREEMPT_ACTIVE p) 1 := by
  simp [State.mmActive, hl, ht, hp, hst]

theorem State.respondRx_verifying {s : State} {p : Nat} (hst : s.rd (F.LN_Pn_MM_STATUS_VERIFY_STATE p) = 2) (hl : s.linkUp p = true)
    (ht : s.on (F.LN_Pn_CTRL_TX_EN p) = true) (hp : s.on (F.LN_Pn_CTRL_PREEMPT_EN p) = true) : s.respondRx p
      = ((s.wr (F.LN_Pn_MM_STATUS_VERIFY_STATE p) 3).setLnPort p { s.lnPort p with pendV := false }).wr (F.LN_Pn_MM_STATUS_PREEMPT_ACTIVE p) 1 := by
  have hverified : (s.wr (F.LN_Pn_MM_STATUS_VERIFY_STATE p) 3).rd (F.LN_Pn_MM_STATUS_VERIFY_STATE p) = 3 := State.rd_wr_self
  rw [State.respondRx, if_pos hst]
  exact State.mmActive_verified (s := (s.wr (F.LN_Pn_MM_STATUS_VERIFY_STATE p) 3).setLnPort p { s.lnPort p with pendV := false })
    ((s.linkUp_verifyState p 3).trans hl) ((State.on_of_rd (State.rd_wr_other)).trans ht) ((State.on_of_rd State.rd_wr_other).trans hp) hverified

section
variable (hloop : s.loops p.val = false) (hl : s.linkUp p.val = true)
include hloop hl

theorem execRespondReceived_pads : exec (.respondReceived p) s = .next (s.respondRx p.val) := by
  show execRespondReceived p s = _
  rw [execRespondReceived, State.looped_pads hloop, if_pos hl]

theorem execVerifyReceived_pads (hst : s.rd (F.LN_Pn_MM_STATUS_VERIFY_STATE p.val) ≠ 0) :
    exec (.verifyReceived p) s = .next (s.setLnPort p.val { s.lnPort p.val with pendR := true }) := by
  show execVerifyReceived p s = _
  rw [execVerifyReceived, State.looped_pads hloop, if_pos ⟨hl, hst⟩]

end

/-! Fragments (R120). -/

theorem execFragmentReceived_pads (hloop : s.loops p.val = false) (k : Frag) (final : Bool) (data : List Byte) (ago : Nat) :
    exec (.fragmentReceived p k final data ago) s = .next (s.fragRx p.val k final data ago) := by
  show execFragmentReceived p k final data ago s = _
  rw [execFragmentReceived, State.looped_pads hloop]

/-- With no frame of the port in reception, an error in a reassembly is counted and raised, and what stood assembled is gone. -/
theorem State.asmErr_idle {s : State} {p : Nat} (hr : s.rxOf (rxSlot p true) = none) : s.asmErr p
    = ((s.inc (F.LN_Pn_RX_ASM_ERR p)).raise Src.LN_RX_ASM p none 0).setLnPort p { s.lnPort p with asm := none } := by
  have hr' : (((s.inc (F.LN_Pn_RX_ASM_ERR p)).raise Src.LN_RX_ASM p none 0).setLnPort p { s.lnPort p with asm := none }).rxOf
      (rxSlot p true) = none := hr
  simp only [State.asmErr, hr']

section
variable {p : Nat} (hl : s.linkUp p = true)
include hl

theorem State.fragRx_unknown (final : Bool) (data : List Byte) (ago : Nat) :
    s.fragRx p .unknown final data ago = s.inc (F.LN_Pn_RX_SMD_ERR p) := if_neg (by simp [hl])

theorem State.fragRx_first {data : List Byte} (ago : Nat) (ha : (s.lnPort p).asm = none) (hlen : 64 ≤ data.length)
    (hcrc : data.drop (data.length - 4) = mcrc (data.take (data.length - 4))) : s.fragRx p .start false data ago
      = (s.inc (F.LN_Pn_RX_FRAG p)).setLnPort p { s.lnPort p with asm := some (data.take (data.length - 4), 0) } := by
  have hgood : ¬ (data.length < 64 ∨ data.drop (data.length - 4) ≠ mcrc ([] ++ data.take (data.length - 4))) := by
    rw [List.nil_append]
    exact fun h => h.elim (Nat.not_lt.mpr hlen) (fun hne => hne hcrc)
  have htake : (s.inc (F.LN_Pn_RX_FRAG p)).asmTake p [] 0 false data ago
      = (s.inc (F.LN_Pn_RX_FRAG p)).setLnPort p { s.lnPort p with asm := some (data.take (data.length - 4), 0) } := if_neg hgood
  simp [State.fragRx, hl, ha, htake]

theorem State.fragRx_outOfOrder {n next : Nat} {sofar data : List Byte} (ago : Nat) (ha : (s.lnPort p).asm = some (sofar, next)) (hn : n ≠ next)
    (hr : s.rxOf (rxSlot p true) = none) : s.fragRx p (.cont n) false data ago = (((s.inc (F.LN_Pn_RX_FRAG p)).inc (F.LN_Pn_RX_ASM_ERR p)).raise
      Src.LN_RX_ASM p none 0).setLnPort p { s.lnPort p with asm := none } := by
  have herr : (s.inc (F.LN_Pn_RX_FRAG p)).asmErr p = (((s.inc (F.LN_Pn_RX_FRAG p)).inc (F.LN_Pn_RX_ASM_ERR p)).raise
      Src.LN_RX_ASM p none 0).setLnPort p { s.lnPort p with asm := none } := State.asmErr_idle hr
  simp [State.fragRx, hl, ha, hn, herr]

end

/-! The mPackets that a port sends (R531). -/

theorem execMpacketSend_respond (hf : s.mpacketFits p.val = true) (hr : (s.lnPort p.val).pendR = true) :
    exec (.mpacketSend p) s = .next ((s.setLnPort p.val { s.lnPort p.val with
      wire := some ⟨none, true, s.now10, some (s.now10 + 72 * s.byteTime p.val), none⟩, pendR := false }).emit (.mpacket p.val true)) := by
  show execMpacketSend p s = _
  simp only [execMpacketSend, hf, hr, or_true, and_self, if_true]

theorem execMpacketSend_verify (hf : s.mpacketFits p.val = true) (hr : (s.lnPort p.val).pendR = false) (hv : (s.lnPort p.val).pendV = true) :
    exec (.mpacketSend p) s = .next ((s.setLnPort p.val { s.lnPort p.val with
      wire := some ⟨none, false, s.now10, some (s.now10 + 72 * s.byteTime p.val), none⟩, pendV := false,
      sentV := (s.lnPort p.val).sentV + 1, atV := s.tb.mono }).emit (.mpacket p.val false)) := by
  show execMpacketSend p s = _
  simp only [execMpacketSend, hf, hr, hv, true_or, and_self, if_true, Bool.false_eq_true, if_false]

theorem execVerifyRestart_accepts {m : Nat} (h : s.accepts m (0x70400 + 0x80 * p.val) permW) :
    exec (.verifyRestart m p) s = .next (s.verifyRestart p.val) :=
  congrArg Host.Outcome.next (State.busW_accepts h _)

end

/-- Settles O23: each command by its lemma above. -/
theorem preemptionAndFragments : Obligations.PreemptionAndFragments := by
  refine ⟨fun p s hst hsent hp ht => execVerifyTimeout_due hst hsent hp ht, fun p s hl hloop => ⟨fun hst ht hp => ?_, fun hst => ?_,
    fun final data ago => ?_, fun data ago ha hlen hcrc => ?_, fun n data sofar next ago ha hn hr => ?_⟩,
    fun p s hf => ⟨execMpacketSend_respond hf, execMpacketSend_verify hf⟩, fun m p s h hst => ?_⟩
  · rw [execRespondReceived_pads hloop hl, State.respondRx_verifying hst hl ht hp]
  · exact execVerifyReceived_pads hloop hl hst
  · rw [execFragmentReceived_pads hloop, State.fragRx_unknown hl]
  · rw [execFragmentReceived_pads hloop, State.fragRx_first hl ago ha hlen hcrc]
  · rw [execFragmentReceived_pads hloop, State.fragRx_outOfOrder hl ago ha hn hr]
  · rw [execVerifyRestart_accepts h, State.verifyRestart, if_pos hst]
    rfl

end Sys2Proof.Machine

/-! The switch to a spare engine that its block does not permit (R127, R189; `Obligations.SubstitutionsOfUnits`). -/

namespace Sys2Proof.Machine

/-- While SPARE_EN of its block is 0, an engine is not switched to the spare: nothing changes. -/
theorem execSubstitutionSwitch_forbidden {e : Subst} {s : State} (ha : s.subAct = some e) (h : s.spareEn e.cls = false) (bad : Bool) :
    exec (.substitutionSwitch bad) s = .next s := by
  have hstop : ¬ (s.spRuns ∧ s.sp.open_ ∧ s.spareEn e.cls) := by simp [h]
  show execSubstitutionSwitch bad s = _
  rw [execSubstitutionSwitch, ha]
  exact congrArg Host.Outcome.next (if_pos hstop)

/-- The substitution of assembly engine 2, under way. -/
def assemblySubst : Subst where
  cls := 5
  unit := 2
  mac := 0
  blk := none
  act := true
  waitAt := 0
  yielded := false
  stalled := false

/-- Firmware runs, the substitution of assembly engine 2 is open inside its window, and MS_CTRL.SPARE_EN has been set to 0 meanwhile. -/
def spareForbidden : State :=
  (({ State.reset with sp := { Sp.reset with queue := [assemblySubst], open_ := true } } : State).wr F.CRP_BOOT_PHASE 6).wr F.MS_CTRL_SPARE_EN 0

theorem spareForbidden_stays : exec (.substitutionSwitch false) spareForbidden = .next spareForbidden :=
  execSubstitutionSwitch_forbidden (e := assemblySubst) (by decide) (by decide) false

/-- Refutes O57: the clause of a switch inside the window leaves out SPARE_EN. With MS_CTRL.SPARE_EN 0 no substitution of an assembly
engine takes place (R189), so the entry stays in the queue, where the clause has it gone. -/
theorem not_substitutionsOfUnits : ¬ Obligations.SubstitutionsOfUnits := by
  unfold Obligations.SubstitutionsOfUnits
  rintro ⟨-, -, hunit⟩
  obtain ⟨-, -, -, -, -, -, hswitch, -⟩ := hunit assemblySubst spareForbidden (by decide) rfl (by decide)
  obtain ⟨t, ht, hempty, -⟩ := hswitch rfl rfl (by decide) (by decide)
  have hstays : spareForbidden = t := Host.Outcome.next.inj (spareForbidden_stays.symm.trans ht)
  rw [← hstays] at hempty
  exact absurd hempty (by decide)

end Sys2Proof.Machine

/-! A malformed transmit entry while the register file is not in its canonical form (R298, R309; `Obligations.TransmitEntries`). -/

namespace Sys2Proof.Machine

/-- SQ 3 is enabled with one unit before TAIL, and the register file lists QE_SQ_HEAD of the queue ahead of registers with lower keys. -/
def headListedFirst : State :=
  let s := ((State.reset.wr F.QE_CTRL_EN 1).wr (F.QE_SQ_STAT_STATE 3) 1).wr (F.QE_SQ_TAIL 3) 1
  { s with regs := ((F.QE_SQ_HEAD 3).key, 1) :: s.regs }

/-- The state that the statement gives for an entry without bytes, which is malformed. -/
def headListedFirstBad : State :=
  ((headListedFirst.inc F.QE_BAD_ENTRY).raise Src.QE_BAD_ENTRY 3 none 0).entryEnds 3 [] 9 0 0

set_option maxRecDepth 20000 in
theorem headListedFirst_fetches : headListedFirst.canFetch 3 (Entry.units []) = true := by decide

set_option maxRecDepth 20000 in
/-- The command publishes HEAD when it takes the entry and again when its job ends, so QE_BAD_ENTRY finds HEAD at its place in the file. -/
theorem headListedFirst_regs : ∃ t, exec (.tx 3 [] none) headListedFirst = .next t ∧ t.regs ≠ headListedFirstBad.regs :=
  ⟨_, rfl, by decide⟩

/-- Refutes O42: the statement is about every register file and lacks the hypothesis `s.Canon`, without which the order of the writes shows in the file. In `headListedFirst` an entry without bytes is fetched and is malformed, but the state it leaves is not the stated one. -/
theorem not_transmitEntries : ¬ Obligations.TransmitEntries := by
  unfold Obligations.TransmitEntries
  intro h
  obtain ⟨-, hbad, -⟩ := h 3 [] none none headListedFirst
  obtain ⟨hex, -⟩ := hbad headListedFirst_fetches (by decide) (by decide)
  obtain ⟨t, ht, hregs⟩ := headListedFirst_regs
  exact hregs (congrArg State.regs (Host.Outcome.next.inj (ht.symm.trans (hex (by decide)))))

end Sys2Proof.Machine

/-! The point store (R131, R132, R137, R140, R365): what an update of a record leaves of the others, and what the updates of the store
leave of the rest. -/

namespace Sys2Proof.Machine

/-! A record after an update of the store. -/

theorem State.point_of_gy {s t : State} (h : t.gy.points = s.gy.points) (p : Nat) : t.point p = s.point p := by
  rw [State.point, h, State.point]

@[simp] theorem State.point_putPoint_same (s : State) (p : Nat) (v : Option Point) : (s.putPoint p v).point p = v := Sparse.get_put_same ..

theorem State.point_putPoint_ne (s : State) {p q : Nat} (v : Option Point) (h : q ≠ p) : (s.putPoint p v).point q = s.point q :=
  Sparse.get_put_ne _ _ _ h

/-- The registers that follow the store (R137, R167). -/
def storeFields : List Fld := [F.GY_DEFINED_DEFINED, F.GY_PINNED_PINNED, F.GY_STATUS_HOT_USED]

theorem State.keepsRegs.putPoint {r s : State} {l : List Fld} (h : r.keepsRegs s l) {p : Nat} {v : Option Point}
    (hl : storeFields.map Fld.key ⊆ l.map Fld.key := by decide) : r.keepsRegs (s.putPoint p v) l :=
  (((h.wr (f := F.GY_DEFINED_DEFINED) (hl (by decide))).wr (f := F.GY_PINNED_PINNED) (hl (by decide))).wr
    (f := F.GY_STATUS_HOT_USED) (hl (by decide))).of_regs rfl

theorem State.rd_putPoint_ne (s : State) (p : Nat) (v : Option Point) {f : Fld} (h : f.key ∉ storeFields.map Fld.key := by decide) :
    (s.putPoint p v).rd f = s.rd f := ((State.keepsRegs.refl s storeFields).putPoint (List.Subset.refl _)) f h

/-! Heat (R365). -/

/-- Heat reaches PITCH's two tables only. -/
theorem State.heat_shape (s : State) (p w : Nat) :
    ∃ hot cand, s.heat p w = { s with pt := { s.pt with heatHot := hot, heatCand := cand } } := by
  unfold State.heat
  split
  · exact ⟨_, _, rfl⟩
  · split
    · exact ⟨_, _, rfl⟩
    · split
      · exact ⟨_, _, rfl⟩
      · dsimp only
        split
        · exact ⟨_, _, rfl⟩
        · split
          · split
            · exact ⟨_, _, rfl⟩
            · exact ⟨_, _, rfl⟩
          · exact ⟨_, _, rfl⟩

@[simp] theorem State.heat_regs (s : State) (p w : Nat) : (s.heat p w).regs = s.regs := by
  obtain ⟨hot, cand, h⟩ := s.heat_shape p w
  rw [h]

@[simp] theorem State.heat_gy (s : State) (p w : Nat) : (s.heat p w).gy = s.gy := by
  obtain ⟨hot, cand, h⟩ := s.heat_shape p w
  rw [h]

/-- From `r` to `s` nothing has moved but registers, point records and heat. -/
def StoreKept (r s : State) : Prop := s = { r with
  regs := s.regs, gy := { r.gy with points := s.gy.points }, pt := { r.pt with heatHot := s.pt.heatHot, heatCand := s.pt.heatCand } }

namespace StoreKept

theorem refl (s : State) : StoreKept s s := rfl

theorem trans {r s t : State} (h : StoreKept r s) (g : StoreKept s t) : StoreKept r t := by
  unfold StoreKept at h
  have e := congrArg (fun x : State => ({ x with
    regs := t.regs, gy := { x.gy with points := t.gy.points }
    pt := { x.pt with heatHot := t.pt.heatHot, heatCand := t.pt.heatCand } } : State)) h
  exact Eq.trans g e

section
variable {r s : State} (h : StoreKept r s)
include h

theorem wr {f : Fld} {v : Nat} : StoreKept r (s.wr f v) := h.trans rfl

theorem inc {f : Fld} : StoreKept r (s.inc f) := h.wr

theorem ite {t : State} {c : Prop} [Decidable c] (g : StoreKept r t) : StoreKept r (if c then s else t) := by split <;> assumption

theorem putPoint {p : Nat} {v : Option Point} : StoreKept r (s.putPoint p v) := h.trans rfl

theorem heat {p w : Nat} : StoreKept r (s.heat p w) := by
  obtain ⟨hot, cand, e⟩ := s.heat_shape p w
  rw [e]
  exact h.trans rfl

end

end StoreKept

end Sys2Proof.Machine

/-! The landing of a write, and the BAR4 window (R140 to R142, R151 to R154, R163, R502; `Obligations.PointWritesAndTheWindow`). -/

namespace Sys2Proof.Machine

/-! What follows the landing of a value on a point that is neither mirrored nor notified (R140, R152, R365). -/

/-- The counts and the heat of a value that has landed. -/
def State.landCounted (s : State) (w : PWrite) (p : Nat) (r : Point) : State :=
  let s1 := (s.inc F.GY_WR_CNT).heat p w.weight
  if w.origin = 5 ∧ ¬ r.hot then s1.inc F.GY_WIN_COLD else s1

section
variable (s : State) (w : PWrite) (p : Nat) (r : Point)

theorem State.landCounted_storeKept : StoreKept s (s.landCounted w p r) := (StoreKept.refl s).inc.heat.inc.ite (StoreKept.refl s).inc.heat

theorem State.landCounted_gy : (s.landCounted w p r).gy = s.gy := by
  unfold State.landCounted
  dsimp only
  split
  · exact State.heat_gy ..
  · exact State.heat_gy ..

theorem State.landCounted_keepsRegs : s.keepsRegs (s.landCounted w p r) [F.GY_WR_CNT, F.GY_WIN_COLD] := by
  have h : s.keepsRegs ((s.inc F.GY_WR_CNT).heat p w.weight) [F.GY_WR_CNT, F.GY_WIN_COLD] :=
    ((State.keepsRegs.refl s _).inc (f := F.GY_WR_CNT)).of_regs (State.heat_regs ..)
  unfold State.landCounted
  dsimp only
  split
  · exact h.inc
  · exact h

theorem State.rd_landCounted_count : (s.landCounted w p r).rd F.GY_WR_CNT = min (s.rd F.GY_WR_CNT + 1) (2 ^ 32 - 1) := by
  have h : ((s.inc F.GY_WR_CNT).heat p w.weight).rd F.GY_WR_CNT = min (s.rd F.GY_WR_CNT + 1) (2 ^ 32 - 1) :=
    (State.rd_of_regs (State.heat_regs ..) _).trans (State.rd_inc_same ..)
  unfold State.landCounted
  dsimp only
  split
  · exact (State.rd_inc_ne _ (by decide)).trans h
  · exact h

end

theorem State.landed_counted {s : State} {w : PWrite} {p : Nat} {r : Point} (hm : r.mirror = false)
    (hn : s.on F.GY_CTRL_NOTIFY_EN = false) : s.landed w p r = s.landCounted w p r := by
  have hoff : (s.landCounted w p r).on F.GY_CTRL_NOTIFY_EN = false :=
    (State.on_of_rd (s.landCounted_keepsRegs w p r _ (by decide))).trans hn
  rw [State.landed, hm]
  exact if_neg (ne_true_of_eq_false hoff)

/-! A write that reaches its point, or is refused (R141, R142, R154). -/

section
variable {s : State} {w : PWrite}

theorem State.landWrite_badMode (h : 5 < w.mode) : s.landWrite w = (s, 4) := if_pos h

theorem State.landWrite_disabled (h : w.mode ≤ 5) (hen : s.on F.GY_CTRL_EN = false) : s.landWrite w = (s.inc F.GY_NOPT, 1) :=
  (if_neg (not_lt.mpr h)).trans (if_pos (ne_true_of_eq_false hen))

section
variable (h : w.mode ≤ 4) (hen : s.on F.GY_CTRL_EN = true)
include h hen

/-- A value write of an enabled GYLE looks for its point's record. -/
theorem State.landWrite_undefined (hp : s.point w.point = none) : s.landWrite w = (s.inc F.GY_NOPT, 1) := by
  rw [State.landWrite, if_neg (by omega), if_neg (not_not_intro hen), if_neg (by omega), hp]

variable {r : Point} (hp : s.point w.point = some r)
include hp

theorem State.landWrite_forced (hf : r.force = true) (h2 : w.mode ≠ 2) (h3 : w.mode ≠ 3) : s.landWrite w = (s.inc F.GY_FORCED, 2) := by
  rw [State.landWrite, if_neg (by omega), if_neg (not_not_intro hen), if_neg (by omega), hp]
  exact if_pos ⟨hf, h2, h3⟩

theorem State.landWrite_older (hf : r.force = false ∨ w.mode = 2 ∨ w.mode = 3) (hm : w.mono = true ∨ w.mode = 1)
    (ht : (w.upd.getD s.tb.dt).toNat < r.upd.toNat) : s.landWrite w = (s.inc F.GY_OLDER, 3) := by
  have hfree : ¬ (r.force = true ∧ w.mode ≠ 2 ∧ w.mode ≠ 3) := by
    rintro ⟨hforce, h2, h3⟩
    rcases hf with hf | hf | hf
    · rw [hf] at hforce; exact Bool.false_ne_true hforce
    · exact h2 hf
    · exact h3 hf
  rw [State.landWrite, if_neg (by omega), if_neg (not_not_intro hen), if_neg (by omega), hp]
  exact (if_neg hfree).trans (if_pos ⟨hm, ht⟩)

/-- The landing of a value: its record, counted first where its time lies ahead (R143). -/
theorem State.landWrite_lands (hf : r.force = false ∨ w.mode = 2) (h3 : w.mode ≠ 3)
    (ht : (w.mono = false ∧ w.mode ≠ 1) ∨ r.upd.toNat ≤ (w.upd.getD s.tb.dt).toNat) : s.landWrite w =
      (((if w.mode ≠ 4 ∧ s.dt < (w.upd.getD s.tb.dt).toNat then s.inc F.GY_FUTURE else s).putPoint w.point
        (some (r.written' w s.dt (s.rd F.TB_EPOCH)))).landed w w.point (r.written' w s.dt (s.rd F.TB_EPOCH)), 0) := by
  have hfree : ¬ (r.force = true ∧ w.mode ≠ 2 ∧ w.mode ≠ 3) := by
    rintro ⟨hforce, h2, -⟩
    rcases hf with hf | hf
    · rw [hf] at hforce; exact Bool.false_ne_true hforce
    · exact h2 hf
  have hnew : ¬ ((w.mono = true ∨ w.mode = 1) ∧ (w.upd.getD s.tb.dt).toNat < r.upd.toNat) := by
    rintro ⟨hm, hlt⟩
    rcases ht with ⟨hmono, h1⟩ | ht
    · rw [hmono] at hm; exact hm.elim Bool.false_ne_true h1
    · omega
  rw [State.landWrite, if_neg (by omega), if_neg (not_not_intro hen), if_neg (by omega), hp]
  exact (if_neg hfree).trans ((if_neg hnew).trans (if_neg (fun e => h3 e.1)))

end

end

/-- The record of a value write that lands, mode 3 apart (R154). -/
theorem Point.written'_eq (r : Point) (w : PWrite) (dt : DWord) (epoch : Nat) (h3 : w.mode ≠ 3) : r.written' w dt.toNat epoch = { r with
    value := if w.mode = 4 then r.value else w.value, upd := if w.mode = 4 then r.upd else w.upd.getD dt
    qual := w.qual % 256, src := w.src % 65536, written := true, epoch := epoch % 256, force := if w.mode = 2 then true else r.force } := by
  by_cases h4 : w.mode = 4 <;> simp [Point.written', h3, h4]

/-! The operation that GYLE serves (R163). -/

/-- GYLE has taken an operation, which leaves it as `g`. -/
def State.opTaken (u : State) (g : Gy) : State := { u with gy := g }.wr F.GY_STATUS_OVERLOAD (if 2048 ≤ g.qExt.length then 1 else 0)

/-- The write that GYLE serves next, of a point that no move holds, of no job. -/
theorem execPointWriteLand_write {w : PWrite} {g : Gy} {s : State} (hn : s.slotsDue.gy.next = some (.write w, g))
    (hm : g.moves.any (fun x => x.point == w.point) = false) (hj : w.job = none) :
    exec .pointWriteLand s = .next ((s.slotsDue.opTaken g).landWrite w).1 := by
  have hov : (decide (2048 ≤ g.qExt.length)).toNat = if 2048 ≤ g.qExt.length then 1 else 0 := by split <;> simp_all
  have hserve : (s.slotsDue.opTaken g).serve w = ((s.slotsDue.opTaken g).landWrite w).1 := by
    rw [State.serve, hj]
    exact if_neg (ne_true_of_eq_false hm)
  show execPointWriteLand s = _
  rw [execPointWriteLand, State.gyStep, hn]
  dsimp only
  rw [hov, ← hserve]
  rfl

section
variable (u : State) (g : Gy)

theorem State.opTaken_keepsRegs : u.keepsRegs (u.opTaken g) [F.GY_STATUS_OVERLOAD] :=
  ((State.keepsRegs.refl u _).of_regs (t := { u with gy := g }) rfl).wr

theorem StoreKept.of_opTaken {t : State} (h : StoreKept (u.opTaken g) t) : t = { u with
    regs := t.regs, gy := { g with points := t.gy.points }, pt := { u.pt with heatHot := t.pt.heatHot, heatCand := t.pt.heatCand } } := h

theorem State.on_opTaken {f : Fld} (h : f.key ≠ F.GY_STATUS_OVERLOAD.key := by decide) : (u.opTaken g).on f = u.on f :=
  State.on_of_rd (u.opTaken_keepsRegs g f (by simpa using h))

end

/-- The registers that a landing may change. -/
def landFields : List Fld := [F.GY_STATUS_OVERLOAD, F.GY_WR_CNT, F.GY_FUTURE, F.GY_WIN_COLD, F.GY_DEFINED_DEFINED, F.GY_PINNED_PINNED,
  F.GY_STATUS_HOT_USED]

/-- What a landed value leaves: the record, its neighbours, the count and everything else. -/
theorem State.landed_spec {s v : State} (hv : v = s ∨ v = s.inc F.GY_FUTURE) {w : PWrite} {p : Nat} {r : Point} (hm : r.mirror = false)
    (hn : s.on F.GY_CTRL_NOTIFY_EN = false) : ∃ t, (v.putPoint p (some r)).landed w p r = t
      ∧ t.point p = some r ∧ (∀ q, q ≠ p → t.point q = s.point q) ∧ t.rd F.GY_WR_CNT = min (s.rd F.GY_WR_CNT + 1) (2 ^ 32 - 1)
      ∧ s.keepsRegs t landFields ∧ StoreKept s t := by
  have hvk : s.keepsRegs v [F.GY_FUTURE] := by
    rcases hv with rfl | rfl
    · exact State.keepsRegs.refl v _
    · exact (State.keepsRegs.refl s _).inc
  have hvs : StoreKept s v := by
    rcases hv with rfl | rfl
    · exact StoreKept.refl v
    · exact (StoreKept.refl s).inc
  have hvp (q : Nat) : v.point q = s.point q := by rcases hv with rfl | rfl <;> rfl
  have hnotify : (v.putPoint p (some r)).on F.GY_CTRL_NOTIFY_EN = false :=
    (State.on_of_rd ((v.rd_putPoint_ne p (some r)).trans (hvk _ (by decide)))).trans hn
  have hpt (q : Nat) : ((v.putPoint p (some r)).landCounted w p r).point q = (v.putPoint p (some r)).point q :=
    State.point_of_gy (congrArg Gy.points (State.landCounted_gy ..)) q
  refine ⟨_, State.landed_counted hm hnotify, ?_, fun q hq => ?_, ?_, ?_, ?_⟩
  · rw [hpt, State.point_putPoint_same]
  · rw [hpt, State.point_putPoint_ne _ _ hq, hvp]
  · rw [State.rd_landCounted_count, State.rd_putPoint_ne _ _ _, hvk _ (by decide)]
  · exact (hvk.mono (l' := landFields)).putPoint.trans ((State.landCounted_keepsRegs _ w p r).mono)
  · exact hvs.putPoint.trans (State.landCounted_storeKept ..)

/-! The BAR4 window (R151 to R153, R502). -/

theorem execPointWindowWrite_withheld {slot : Nat} {parts : List (DWord × Nat)} {s : State} (h : 512 ≤ s.gy.qWin.length) :
    exec (.pointWindowWrite slot parts) s = .next s := by
  refine congrArg Host.Outcome.next (if_neg ?_)
  rintro ⟨htakes, -⟩
  simp [State.takes] at htakes
  omega

/-- A write of one part that the window takes in. -/
theorem execPointWindowWrite_single {slot enables : Nat} {v : DWord} {s : State} (hd : s.decodes 0x20 = true) (hs : slot < 131072)
    (hl : s.gy.qWin.length < 512) : exec (.pointWindowWrite slot [(v, enables)]) s = .next (s.winPart slot v enables) := by
  have htakes : s.takes 0x20 = true := by simp [State.takes, hd, hl]
  have hslot : slot % 131072 % 131072 = slot := by omega
  refine congrArg Host.Outcome.next ((if_pos ⟨htakes, hl⟩).trans ?_)
  rw [State.winParts, State.winParts, hslot]

section
variable {slot enables : Nat} {v : DWord} {s : State} (hw : s.may 0x0D 0x20 permW = true)
include hw

theorem State.winPart_bad (h : s.on F.GY_CTRL_WIN_EN = false ∨ s.on F.GY_STATUS_WIPING = true ∨ enables % 256 ≠ 0xFF
    ∨ bits (Sparse.get 0 s.gy.wmap slot).toNat 31 1 = 0) : s.winPart slot v enables = (s.inc F.GY_WIN_BAD).raise0 Src.GY_WIN_BAD 0 := by
  rw [State.winPart, if_neg (by rw [hw]; exact Bool.false_ne_true)]
  exact if_pos (h.imp_left (fun e => by rw [e]; exact Bool.false_ne_true))

theorem State.winPart_taken (hen : s.on F.GY_CTRL_WIN_EN = true) (hwipe : s.on F.GY_STATUS_WIPING = false) (hb : enables % 256 = 0xFF)
    (hv : bits (Sparse.get 0 s.gy.wmap slot).toNat 31 1 = 1) : s.winPart slot v enables = { s with gy := { s.gy with
      qWin := s.gy.qWin ++ [⟨5, bits (Sparse.get 0 s.gy.wmap slot).toNat 0 23, v, some s.tb.dt, s.rd F.GY_WIN_CFG_QUAL, 0x8020, 0, false, true,
        none, none, false, 0, none⟩] } } := by
  rw [State.winPart, if_neg (by rw [hw]; exact Bool.false_ne_true)]
  refine if_neg ?_
  rw [hen, hwipe, hb, hv]
  decide

end

theorem execPointWindowRead_value {slot : Nat} {s : State} {r : Point} (hd : s.decodes 0x20 = true) (hs : slot < 131072)
    (hr : s.may 0x0D 0x20 permR = true) (hen : s.on F.GY_CTRL_EN = true) (hwipe : s.on F.GY_STATUS_WIPING = false)
    (hv : bits (Sparse.get 0 s.gy.wmap slot).toNat 31 1 = 1) (hp : s.point (bits (Sparse.get 0 s.gy.wmap slot).toNat 0 23) = some r) :
    exec (.pointWindowRead slot none) s = .next { s with readData := [r.value.setWidth 32, (r.value >>> 32).setWidth 32] } := by
  have hlo : BitVec.ofNat 32 r.value.toNat = r.value.setWidth 32 := BitVec.eq_of_toNat_eq (by simp)
  have hhi : BitVec.ofNat 32 (r.value.toNat / 2 ^ 32) = (r.value >>> 32).setWidth 32 :=
    BitVec.eq_of_toNat_eq (by simp [Nat.shiftRight_eq_div_pow])
  have hgives : ¬ (bits (Sparse.get 0 s.gy.wmap slot).toNat 31 1 = 0 ∨ ¬ s.on F.GY_CTRL_EN = true ∨ s.on F.GY_STATUS_WIPING = true) := by
    rw [hv, hen, hwipe]
    decide
  show execPointWindowRead slot none s = _
  rw [execPointWindowRead, if_neg (by rw [hd]; exact Bool.false_ne_true), if_neg (by rw [hr]; exact Bool.false_ne_true)]
  dsimp only
  rw [Nat.mod_eq_of_lt hs, if_neg hgives, hp]
  dsimp only
  rw [hlo, hhi]

/-! The source order (R163). -/

section
variable {g : Gy} {w : PWrite} {l : List PWrite}

theorem Gy.next_timedAction (h : g.qTa = w :: l) : g.next = some (.write w, { g with qTa := l }) := by
  rw [Gy.next, h]

variable (ha : g.qTa = [])
include ha

theorem Gy.next_extraction (h : g.qExt = w :: l) : g.next = some (.write w, { g with qExt := l }) := by
  rw [Gy.next, ha, h]

variable (he : g.qExt = [])
include he

theorem Gy.next_mirror (h : g.qMir = w :: l) : g.next = some (.write w, { g with qMir := l }) := by
  rw [Gy.next, ha, he, h]

variable (hm : g.qMir = [])
include hm

theorem Gy.next_window (h : g.qWin = w :: l) : g.next = some (.write w, { g with qWin := l }) := by
  rw [Gy.next, ha, he, hm, h]

variable (hw : g.qWin = [])
include hw

theorem Gy.next_host {op : HostOp} {h : List HostOp} (hh : g.qHost = op :: h) : g.next = some (op, { g with qHost := h }) := by
  rw [Gy.next, ha, he, hm, hw, hh]

end

/-- Settles O28: the source order by the lemmas of `Gy.next`, a write by the case of `State.landWrite` it is in, a landing by
`State.landed_spec`, the window by its lemmas above. -/
theorem pointWritesAndTheWindow : Obligations.PointWritesAndTheWindow := by
  refine ⟨fun g w l op h => ⟨Gy.next_timedAction, Gy.next_extraction, Gy.next_mirror, Gy.next_window,
      fun ha he hm hw => Gy.next_host ha he hm hw⟩,
    fun w g p s hn hm hj => ?_, fun slot enables v s hd hs => ⟨execPointWindowWrite_withheld, fun hl hw hen hwipe hb hv => ?_,
      fun hl hw hbad => ?_, fun hr hen hwipe hv r hp => execPointWindowRead_value hd hs hr hen hwipe hv hp⟩⟩
  · intro u o
    have hland {x : State × Nat} (h : (u.opTaken g).landWrite w = x) : exec .pointWriteLand s = .next x.1 :=
      (execPointWriteLand_write hn hm hj).trans (congrArg (fun y => Host.Outcome.next y.1) h)
    refine ⟨fun hen h5 => hland (State.landWrite_disabled h5 ((u.on_opTaken g).trans hen)), fun h5 => hland (State.landWrite_badMode h5),
      fun hen h4 => ?_⟩
    have hon : (u.opTaken g).on F.GY_CTRL_EN = true := (u.on_opTaken g).trans hen
    refine ⟨fun hp => hland (State.landWrite_undefined h4 hon hp), fun r hp =>
      ⟨fun hf h2 h3 => hland (State.landWrite_forced h4 hon hp hf h2 h3), fun hf hmono ht => hland (State.landWrite_older h4 hon hp hf hmono ht),
        fun hf h3 ht hmir hnot => ?_⟩⟩
    clear_value o u
    have hepoch : (u.opTaken g).rd F.TB_EPOCH = u.rd F.TB_EPOCH := u.opTaken_keepsRegs g _ (by decide)
    have hcount : (u.opTaken g).rd F.GY_WR_CNT = u.rd F.GY_WR_CNT := u.opTaken_keepsRegs g _ (by decide)
    have hrec := r.written'_eq w (u.opTaken g).tb.dt ((u.opTaken g).rd F.TB_EPOCH) h3
    obtain ⟨t, ht', hpt, hothers, hcnt, hkeep, hstore⟩ := State.landed_spec (s := u.opTaken g)
      (ite_eq_or_eq (w.mode ≠ 4 ∧ (u.opTaken g).dt < (w.upd.getD (u.opTaken g).tb.dt).toNat) _ _).symm (w := w) (p := w.point)
      (r := r.written' w (u.opTaken g).dt ((u.opTaken g).rd F.TB_EPOCH)) (by rw [State.dt, hrec]; exact hmir) ((u.on_opTaken g).trans hnot)
    rw [hland (State.landWrite_lands h4 hon hp hf h3 ht), ht']
    refine ⟨t, rfl, ?_, hothers p, hcnt.trans (by rw [hcount]), ((u.opTaken_keepsRegs g).mono).trans hkeep,
      hstore.of_opTaken⟩
    rw [hpt, State.dt, hrec, hepoch]
    rfl
  · rw [execPointWindowWrite_single hd hs hl, State.winPart_taken hw hen hwipe hb hv]
  · rw [execPointWindowWrite_single hd hs hl, State.winPart_bad hw hbad]

end Sys2Proof.Machine

/-! PITCH's moves (R137, R139, R179, R365): what asking for a move and beginning one leave of the rest. -/

namespace Sys2Proof.Machine

/-- From `r` to `s` nothing has moved but registers, PITCH and the moves asked for or begun. -/
def MovesKept (r s : State) : Prop := s = { r with
  regs := s.regs, gy := { r.gy with moves := s.gy.moves, moveReq := s.gy.moveReq }, pt := s.pt }

namespace MovesKept

theorem refl (s : State) : MovesKept s s := rfl

theorem trans {r s t : State} (h : MovesKept r s) (g : MovesKept s t) : MovesKept r t := by
  unfold MovesKept at h
  have e := congrArg (fun x : State => ({ x with
    regs := t.regs, gy := { x.gy with moves := t.gy.moves, moveReq := t.gy.moveReq }, pt := t.pt } : State)) h
  exact Eq.trans g e

theorem ite {r s t : State} {c : Prop} [Decidable c] (h : MovesKept r s) (g : MovesKept r t) : MovesKept r (if c then s else t) := by
  split <;> assumption

section
variable {r s : State} (h : MovesKept r s)
include h

theorem points : s.gy.points = r.gy.points := by rw [h]

theorem wr {f : Fld} {v : Nat} : MovesKept r (s.wr f v) := h.trans rfl

theorem inc {f : Fld} : MovesKept r (s.inc f) := h.wr

theorem setReq {l : List Move} : MovesKept r { s with gy := { s.gy with moveReq := l } } := h.trans rfl

theorem setMoves {l : List Move} : MovesKept r { s with gy := { s.gy with moves := l } } := h.trans rfl

theorem traceDecision {k a b c : Nat} : MovesKept r (s.traceDecision k a b c) :=
  have hp {t : List (Nat × DWord)} : MovesKept r ({ s with pt := { s.pt with trace := t } } : State) := h.trans rfl
  .ite (.ite h.wr.wr (.ite hp.wr.wr.wr hp.wr.wr)) h

theorem requestMove {p : Nat} {toHot : Bool} {reason : Nat} : MovesKept r (s.requestMove p toHot reason) := h.inc.traceDecision.setReq

theorem requestSwap {a b reason : Nat} : MovesKept r (s.requestSwap a b reason) := h.inc.inc.traceDecision.traceDecision.setReq

theorem tryMove {m : Move} : MovesKept r (s.tryMove m) := .ite h (.ite h.setMoves (.ite h.inc.setReq h.setReq))

theorem foldl_tryMove : ∀ l : List Move, MovesKept r (l.foldl State.tryMove s) := by
  intro l
  induction l generalizing s with
  | nil => exact h
  | cons m l ih => exact ih h.tryMove

theorem tryMoves : MovesKept r s.tryMoves := h.setReq.foldl_tryMove _

theorem pinMoves {p pin : Nat} : MovesKept r (s.pinMoves p pin) := by
  unfold State.pinMoves
  dsimp only
  split
  · split
    · split
      · exact h.setReq.requestSwap.tryMoves
      · exact h.setReq.requestMove.tryMoves
    · exact h.setReq.requestMove.tryMoves
  · exact .ite h.setReq.requestMove.tryMoves h.setReq

end

end MovesKept

/-! The decision trace writes no register but its own (R370). -/

/-- The registers of the decision trace. -/
def traceFields : List Fld := [F.PT_TRACE_LOST, F.PT_TRACE_STAT_FULL, F.PT_TRACE_STAT_WPTR, F.PT_TRACE_STAT_LEVEL]

theorem State.keepsRegs.traceDecision {r s : State} {l : List Fld} (h : r.keepsRegs s l) {k a b c : Nat}
    (hl : traceFields.map Fld.key ⊆ l.map Fld.key := by decide) : r.keepsRegs (s.traceDecision k a b c) l := by
  have hpt (t : List (Nat × DWord)) : r.keepsRegs ({ s with pt := { s.pt with trace := t } } : State) l := h.of_regs rfl
  have hentry (t : List (Nat × DWord)) (w n : Nat) : r.keepsRegs
      ((({ s with pt := { s.pt with trace := t } } : State).wr F.PT_TRACE_STAT_WPTR w).wr F.PT_TRACE_STAT_LEVEL n) l :=
    ((hpt t).wr (hl (by decide))).wr (hl (by decide))
  unfold State.traceDecision
  dsimp only
  split
  · split
    · exact (h.inc (hl (by decide))).wr (hl (by decide))
    · split
      · exact (hentry _ _ _).wr (hl (by decide))
      · exact hentry _ _ _
  · exact h

/-- The registers that a requested move may change. -/
def requestFields : List Fld := [F.PT_PROMOTE, F.PT_DEMOTE, F.PT_TRACE_LOST, F.PT_TRACE_STAT_FULL, F.PT_TRACE_STAT_WPTR, F.PT_TRACE_STAT_LEVEL]

theorem State.requestMove_keepsRegs (s : State) (p : Nat) (toHot : Bool) (reason : Nat) :
    s.keepsRegs (s.requestMove p toHot reason) requestFields := by
  have hcount : s.keepsRegs (s.inc (if toHot then F.PT_PROMOTE else F.PT_DEMOTE)) requestFields := by
    refine (State.keepsRegs.refl s _).inc ?_
    cases toHot <;> decide
  exact hcount.traceDecision.of_regs rfl

theorem State.traceDecision_gy (s : State) (k a b c : Nat) : (s.traceDecision k a b c).gy = s.gy := by
  unfold State.traceDecision
  dsimp only
  split
  · split
    · rfl
    · split <;> rfl
  · rfl

theorem State.requestMove_gy (s : State) (p : Nat) (toHot : Bool) (reason : Nat) :
    (s.requestMove p toHot reason).gy = { s.gy with moveReq := s.gy.moveReq ++ [⟨p, toHot, false, []⟩] } := by
  rw [State.requestMove]
  dsimp only
  rw [State.traceDecision_gy, State.inc_gy]

/-! A requested move that stands alone. -/

/-- The state in which no move is asked for. -/
def State.noneAsked (s : State) : State := { s with gy := { s.gy with moveReq := [] } }

section
variable {s : State} {m : Move}

theorem State.pinBars_of_point {r : Point} (h : s.point m.point = some r) : s.pinBars m = decide (r.pin = if m.toHot then 2 else 1) := by
  rw [State.pinBars, h]

theorem State.tryMoves_single (h : s.gy.moveReq = [m]) : s.tryMoves = s.noneAsked.tryMove m := by
  rw [State.tryMoves, h]
  rfl

theorem State.canMove_noneAsked (hm : s.gy.moves = []) : s.noneAsked.canMove m
    = if m.toHot then decide (s.rd F.GY_STATUS_HOT_USED < 131072) else !s.classedHot m.point := by
  have hm' : s.noneAsked.gy.moves = [] := hm
  have hr : s.noneAsked.gy.moveReq = [] := rfl
  rw [State.canMove, hm', hr]
  rfl

theorem State.tryMove_begins (hb : s.pinBars m = false) (hc : s.canMove m = true) :
    s.tryMove m = { s with gy := { s.gy with moves := s.gy.moves ++ [m] } } := by
  rw [State.tryMove, if_neg (ne_true_of_eq_false hb), if_pos hc]

end

/-- A point pinned hot begins its move where no other is asked for and the hot tier has room (R137, R365). -/
theorem State.pinMoves_begins {s : State} {p pin : Nat} {r : Point} (h1 : pin = 1) (hp : s.point p = some r) (hpin : r.pin = pin)
    (hcold : r.hot = false) (hm : s.gy.moves = []) (hq : s.gy.moveReq = []) (hu : s.rd F.GY_STATUS_HOT_USED < 131072) :
    (s.pinMoves p pin).gy.moves = [⟨p, true, false, []⟩] := by
  subst h1
  have hself : ({ s with gy := { s.gy with moveReq := s.gy.moveReq.filter (fun m => !(m.point == p && s.pinBars m)) } } : State) = s := by
    rw [hq, List.filter_nil, ← hq]
  have hplan : ¬ s.plannedHot p = true := by simp [State.plannedHot, hm, hq, hp, hcold]
  have hroom : ¬ 131072 ≤ s.plannedUsed := by simp [State.plannedUsed, hm, hq, hu]
  have hreq : s.pinMoves p 1 = (s.requestMove p true 1).tryMoves := by
    rw [State.pinMoves]
    dsimp only
    rw [hself, if_pos ⟨rfl, hplan⟩]
    split
    · rw [if_neg hroom]
    · rfl
  have hgy := s.requestMove_gy p true 1
  have hused : (s.requestMove p true 1).rd F.GY_STATUS_HOT_USED = s.rd F.GY_STATUS_HOT_USED := s.requestMove_keepsRegs p true 1 _ (by decide)
  have hpoint : (s.requestMove p true 1).point p = some r := (State.point_of_gy (by rw [hgy]) p).trans hp
  rw [hreq, State.tryMoves_single (by rw [hgy, hq]; rfl), State.tryMove_begins]
  · have hmoves : (s.requestMove p true 1).noneAsked.gy.moves = [] := by rw [State.noneAsked, hgy]; exact hm
    rw [hmoves]
    rfl
  · rw [State.pinBars_of_point hpoint, hpin]
    rfl
  · rw [State.canMove_noneAsked (by rw [hgy]; exact hm), if_pos rfl, hused]
    exact decide_eq_true hu

end Sys2Proof.Machine

/-! Point configuration (R131, R137, R157; `Obligations.PointConfiguration`). -/

namespace Sys2Proof.Machine

/-! The commands of GY_PCFG_CMD, and their result in the bank of their master. -/

section
variable {m : Nat} {s : State} (h : s.accepts m 0xD0028 permW)
include h

theorem execPcfgDefine_accepts : exec (.pcfgDefine m) s = .next (State.pcfgDone m (s.definePoint (s.rd (F.GY_PCFG_ID_POINT m))
    (s.rd (F.GY_PCFG_VAL_MAXAGE m)) (s.rd (F.GY_PCFG_VAL_PIN m)) (s.on (F.GY_PCFG_VAL_FORCE m)) (s.on (F.GY_PCFG_VAL_MIRROR m)))) :=
  congrArg Host.Outcome.next (State.busW_accepts h _)

theorem execPcfgUndefine_accepts :
    exec (.pcfgUndefine m) s = .next (State.pcfgDone m (s.undefinePoint (s.rd (F.GY_PCFG_ID_POINT m)))) :=
  congrArg Host.Outcome.next (State.busW_accepts h _)

theorem execPcfgSet_accepts : exec (.pcfgSet m) s = .next (State.pcfgDone m (s.setPointCfg (s.rd (F.GY_PCFG_ID_POINT m))
    (s.rd (F.GY_PCFG_VAL_MAXAGE m)) (s.rd (F.GY_PCFG_VAL_PIN m)) (some (s.on (F.GY_PCFG_VAL_FORCE m))) (s.on (F.GY_PCFG_VAL_MIRROR m)))) :=
  congrArg Host.Outcome.next (State.busW_accepts h _)

end

section
variable (m : Nat) (t : State) (code : Nat)

theorem State.rd_pcfgDone_code : (State.pcfgDone m (t, code)).rd (F.GY_PCFG_RESULT_CODE m) = code % 16 := State.rd_wr_self

theorem State.rd_pcfgDone_done : (State.pcfgDone m (t, code)).rd (F.GY_PCFG_RESULT_DONE m) = 1 := by
  rw [State.pcfgDone, State.rd_wr_ne _ _ _ _ (by simp [Fld.key, F.GY_PCFG_RESULT_DONE, F.GY_PCFG_RESULT_CODE]), State.rd_wr_self]
  rfl

/-- The count of defined points stands in no master's bank. -/
theorem State.rd_pcfgDone_defined : (State.pcfgDone m (t, code)).rd F.GY_DEFINED_DEFINED = t.rd F.GY_DEFINED_DEFINED := by
  rw [State.pcfgDone, State.rd_wr_ne _ _ _ _ (by simp only [Fld.key, F.GY_DEFINED_DEFINED, F.GY_PCFG_RESULT_CODE]; omega),
    State.rd_wr_ne _ _ _ _ (by simp only [Fld.key, F.GY_DEFINED_DEFINED, F.GY_PCFG_RESULT_DONE]; omega)]

end

theorem State.rd_putPoint_defined (s : State) (p : Nat) (v : Option Point) : (s.putPoint p v).rd F.GY_DEFINED_DEFINED
    = (s.rd F.GY_DEFINED_DEFINED + v.isSome.toNat - (s.point p).isSome.toNat) % 2 ^ 24 := by
  have e : (s.putPoint p v).regs = (s.gyCounts (s.point p) v).regs := rfl
  rw [State.rd_of_regs e, State.gyCounts, State.rd_wr_ne _ _ _ _ (by decide), State.rd_wr_ne _ _ _ _ (by decide),
    State.rd_wr_same _ _ _ (by decide)]
  rfl

/-- A new record in the cold tier for none takes no room of the hot tier. -/
theorem State.rd_putPoint_hotUsed {s : State} {p : Nat} {r : Point} (hp : s.point p = none) (hr : r.hot = false)
    (hu : s.rd F.GY_STATUS_HOT_USED < 131072) : (s.putPoint p (some r)).rd F.GY_STATUS_HOT_USED = s.rd F.GY_STATUS_HOT_USED := by
  have e : (s.putPoint p (some r)).regs = (s.gyCounts (s.point p) (some r)).regs := rfl
  rw [State.rd_of_regs e, State.gyCounts, State.rd_wr_same _ _ _ (by decide), hp]
  simp only [hr, Bool.toNat_false, Nat.add_zero, Nat.sub_zero]
  exact Nat.mod_eq_of_lt (Nat.lt_trans hu (by decide))

/-! DEFINE, UNDEFINE and SET, case by case. -/

section
variable {s : State} {p maxage pin : Nat} {force mirror : Bool}

theorem State.pinFull_iff {old : Nat} : s.pinFull old pin = true ↔ pin = 1 ∧ old ≠ 1 ∧ 131072 ≤ s.rd F.GY_PINNED_PINNED :=
  decide_eq_true_iff

theorem State.definePoint_wiping (h : s.on F.GY_STATUS_WIPING = true) : s.definePoint p maxage pin force mirror = (s, 5) := if_pos h

theorem State.undefinePoint_wiping (h : s.on F.GY_STATUS_WIPING = true) : s.undefinePoint p = (s, 5) := if_pos h

theorem State.setPointCfg_wiping {force : Option Bool} (h : s.on F.GY_STATUS_WIPING = true) :
    s.setPointCfg p maxage pin force mirror = (s, 5) := if_pos h

variable (h : s.on F.GY_STATUS_WIPING = false)
include h

theorem State.not_wiping : ¬ s.on F.GY_STATUS_WIPING = true := by rw [h]; exact Bool.false_ne_true

theorem State.definePoint_defined {r : Point} (hp : s.point p = some r) : s.definePoint p maxage pin force mirror = (s, 2) := by
  rw [State.definePoint, if_neg (State.not_wiping h), hp]

theorem State.undefinePoint_undefined (hp : s.point p = none) : s.undefinePoint p = (s, 1) := by
  rw [State.undefinePoint, if_neg (State.not_wiping h), hp]

theorem State.setPointCfg_undefined {force : Option Bool} (hp : s.point p = none) : s.setPointCfg p maxage pin force mirror = (s, 1) := by
  rw [State.setPointCfg, if_neg (State.not_wiping h), hp]

theorem State.definePoint_full (hp : s.point p = none) (hf : s.pinFull 0 pin = true) :
    s.definePoint p maxage pin force mirror = (s, 3) := by
  rw [State.definePoint, if_neg (State.not_wiping h), hp]
  exact if_pos hf

theorem State.definePoint_taken (hp : s.point p = none) (hf : ¬ s.pinFull 0 pin = true) : s.definePoint p maxage pin force mirror =
    ((s.putPoint p (some (Point.fresh (maxage % 65536) pin force mirror))).pinMoves p pin, 0) := by
  rw [State.definePoint, if_neg (State.not_wiping h), hp]
  exact if_neg hf

section
variable {r : Point} (hp : s.point p = some r)
include hp

theorem State.setPointCfg_full {force : Option Bool} (hf : s.pinFull r.pin pin = true) :
    s.setPointCfg p maxage pin force mirror = (s, 3) := by
  rw [State.setPointCfg, if_neg (State.not_wiping h), hp]
  exact if_pos hf

theorem State.setPointCfg_taken {force : Option Bool} (hf : ¬ s.pinFull r.pin pin = true) : s.setPointCfg p maxage pin force mirror =
    ((s.putPoint p (some { r with maxage := maxage % 65536, pin := pin, force := force.getD r.force, mirror := mirror })).pinMoves p pin, 0) := by
  rw [State.setPointCfg, if_neg (State.not_wiping h), hp]
  exact if_neg hf

theorem State.undefinePoint_subscribed (hs : r.sub.isSome = true) : s.undefinePoint p = (s, 4) := by
  rw [State.undefinePoint, if_neg (State.not_wiping h), hp]
  exact if_pos hs

end

end

/-- The state with a point undefined: its record, its heat and the moves asked for it are gone (R131). -/
def State.undefined (s : State) (p : Nat) : State :=
  let s1 := s.putPoint p none
  { s1 with
    pt := { s1.pt with heatHot := Sparse.del p s1.pt.heatHot, heatCand := Sparse.del p s1.pt.heatCand }
    gy := { s1.gy with moveReq := s1.gy.moveReq.filter (fun m => m.point != p) } }

theorem State.undefinePoint_taken {s : State} {p : Nat} {r : Point} (h : s.on F.GY_STATUS_WIPING = false) (hp : s.point p = some r)
    (hs : r.sub = none) : s.undefinePoint p = (s.undefined p, 0) := by
  rw [State.undefinePoint, if_neg (State.not_wiping h), hp]
  exact if_neg (by rw [hs]; exact Bool.false_ne_true)

/-- What a command leaves that has written a record and asked for the moves of its PIN. -/
theorem State.pcfgDone_configured (s : State) (m p pin : Nat) (r : Point) :
    let t := State.pcfgDone m ((s.putPoint p (some r)).pinMoves p pin, 0)
    t.point p = some r
      ∧ t = { s with regs := t.regs, gy := { s.gy with points := t.gy.points, moves := t.gy.moves, moveReq := t.gy.moveReq }, pt := t.pt } := by
  intro t
  have hk : MovesKept (s.putPoint p (some r)) t := (MovesKept.refl _).pinMoves.wr.wr
  refine ⟨(State.point_of_gy hk.points p).trans (s.point_putPoint_same p _), ?_⟩
  rw [hk.points]
  exact hk

/-- Settles O29: each command by its cases above; the move that a DEFINE begins by `State.pinMoves_begins`. -/
theorem pointConfiguration : Obligations.PointConfiguration := by
  intro m s h p pin done
  rw [execPcfgDefine_accepts h, execPcfgUndefine_accepts h, execPcfgSet_accepts h]
  have code {t : State} {x : State × Nat} {c : Nat} (e : x = (t, c)) : (.next (State.pcfgDone m x) : Out) = .next (done t c) :=
    congrArg (fun y => Host.Outcome.next (State.pcfgDone m y)) e
  refine ⟨fun hw => ⟨code (State.definePoint_wiping hw), code (State.undefinePoint_wiping hw), code (State.setPointCfg_wiping hw)⟩,
    fun hw => ⟨fun hp => ⟨code (State.undefinePoint_undefined hw hp), code (State.setPointCfg_undefined hw hp), fun h1 hfull => ?_,
      fun hroom => ?_⟩, fun r hp => ⟨code (State.definePoint_defined hw hp), fun hs => code (State.undefinePoint_subscribed hw hp hs),
        fun hs => ?_, fun h1 hr hfull => ?_, fun hroom => ?_⟩⟩⟩
  · exact code (State.definePoint_full hw hp (State.pinFull_iff.mpr ⟨h1, by decide, hfull⟩))
  · have hnf : ¬ s.pinFull 0 pin = true := by rw [State.pinFull_iff]; omega
    obtain ⟨hpt, hshape⟩ := s.pcfgDone_configured m p pin
      (Point.fresh (s.rd (F.GY_PCFG_VAL_MAXAGE m) % 65536) pin (s.on (F.GY_PCFG_VAL_FORCE m)) (s.on (F.GY_PCFG_VAL_MIRROR m)))
    refine ⟨_, code (State.definePoint_taken hw hp hnf), State.rd_pcfgDone_code .., State.rd_pcfgDone_done .., hpt,
      fun h1 hmv hrq hu => ?_, hshape⟩
    exact State.pinMoves_begins h1 (State.point_putPoint_same ..) rfl rfl hmv hrq (by rwa [State.rd_putPoint_hotUsed hp rfl hu])
  · refine ⟨_, code (State.undefinePoint_taken hw hp hs), State.rd_pcfgDone_code .., State.rd_pcfgDone_done .., ?_, ?_, rfl⟩
    · exact s.point_putPoint_same p none
    · have e : (s.undefined p).regs = (s.putPoint p none).regs := rfl
      exact (State.rd_pcfgDone_defined ..).trans ((State.rd_of_regs e _).trans ((s.rd_putPoint_defined p none).trans (by rw [hp]; rfl)))
  · exact code (State.setPointCfg_full hw hp (State.pinFull_iff.mpr ⟨h1, hr, hfull⟩))
  · have hnf : ¬ s.pinFull r.pin pin = true := by rw [State.pinFull_iff]; omega
    obtain ⟨hpt, hshape⟩ := s.pcfgDone_configured m p pin { r with
      maxage := s.rd (F.GY_PCFG_VAL_MAXAGE m) % 65536, pin := pin, force := s.on (F.GY_PCFG_VAL_FORCE m), mirror := s.on (F.GY_PCFG_VAL_MIRROR m) }
    exact ⟨_, code (State.setPointCfg_taken hw hp hnf), State.rd_pcfgDone_code .., hpt, hshape⟩

end Sys2Proof.Machine

/-! Notifications, moves, extraction maps, GYLE's memory window and the age sweep (R139, R145, R149, R150, R160, R161, R168, R179, R365;
`Obligations.NotificationsMovesAndMaps`). -/

namespace Sys2Proof.Machine

/-! An entry of a completion queue reaches QENG and the link to the host, and of the registers its TAIL only (R310, R321). -/

theorem State.toHost_shape (s : State) (w : HostWrite) : ∃ pcie, s.toHost w = { s with pcie := pcie } := by
  unfold State.toHost
  split
  · exact ⟨s.pcie, rfl⟩
  · split
    · exact ⟨_, rfl⟩
    · exact ⟨_, rfl⟩

theorem State.msix_shape (s : State) (fn vec : Nat) : ∃ pcie, s.msix fn vec = { s with pcie := pcie } := by
  unfold State.msix
  split
  · exact ⟨_, rfl⟩
  · exact s.toHost_shape _

theorem State.cqMessage_shape (s : State) (c : Nat) : ∃ qe pcie, s.cqMessage c = { s with qe := qe, pcie := pcie } := by
  unfold State.cqMessage
  dsimp only
  split
  · exact ⟨_, s.pcie, rfl⟩
  · obtain ⟨pcie, h⟩ := State.msix_shape (s.setCq c { s.cq c with events := 0, firstAt := 0 }) (fnOf (s.cqOwner c)) (s.rd (F.QE_CQ_CFG_VEC c))
    exact ⟨_, pcie, h⟩

theorem State.cqModerate_shape (s : State) (c : Nat) : ∃ qe pcie, s.cqModerate c = { s with qe := qe, pcie := pcie } := by
  unfold State.cqModerate
  split
  · exact s.cqMessage_shape c
  · exact ⟨s.qe, s.pcie, rfl⟩

theorem State.cqEvent_shape (s : State) (c : Nat) : ∃ qe pcie, s.cqEvent c = { s with qe := qe, pcie := pcie } := by
  unfold State.cqEvent
  split
  · obtain ⟨qe, pcie, h⟩ := State.cqModerate_shape
      (s.setCq c { s.cq c with events := (s.cq c).events + 1, firstAt := if (s.cq c).events = 0 then s.tb.mono else (s.cq c).firstAt }) c
    exact ⟨qe, pcie, h⟩
  · exact ⟨s.qe, s.pcie, rfl⟩

theorem State.cqWrite_shape (s : State) (c : Nat) (data : List Byte) :
    ∃ v qe pcie, s.cqWrite c data = { s.wr (F.QE_CQ_PTR_TAIL c) v with qe := qe, pcie := pcie } := by
  obtain ⟨pcie, h⟩ := s.toHost_shape
    (.mem (fnOf (s.cqOwner c))
      (BitVec.ofNat 64 (s.rd (F.QE_CQ_BASE_LO c) * 64 + 2 ^ 32 * s.rd (F.QE_CQ_BASE_HI c) + 32 * s.rd (F.QE_CQ_PTR_TAIL c))) data)
  unfold State.cqWrite
  dsimp only
  rw [h]
  split
  · exact ⟨_, _, pcie, rfl⟩
  · exact ⟨_, s.qe, pcie, rfl⟩

/-! A notification in its ring, or folded (R160). -/

/-- The state with the oldest notification taken. -/
def State.noteTaken (s : State) (rest : List Note) : State := { s with gy := { s.gy with notes := rest } }

section
variable {n : Note} {rest : List Note} {b : Sub} {s : State} (hs : s.sub n.sub = some b)

theorem execNotificationWrite_next (hn : s.gy.notes = n :: rest) : exec .notificationWrite s = .next ((s.noteTaken rest).postNote n) := by
  show execNotificationWrite s = _
  rw [execNotificationWrite, hn]
  rfl

include hs

theorem State.postNote_folded (hr : s.cqRoom b.ring = false) : ∃ qe pcie, s.postNote n =
    { ((s.inc (F.QE_CQ_INFO_q_GAP b.ring)).inc F.GY_NOTIFY_GAP).raise0 Src.GY_NOTIFY_GAP b.ring with qe := qe, pcie := pcie } := by
  rw [State.postNote, hs]
  dsimp only
  rw [if_neg (by rw [hr]; exact Bool.false_ne_true)]
  exact State.cqEvent_shape ..

theorem State.postNote_posted (hr : s.cqRoom b.ring = true) : ∃ tail qe pcie, s.postNote n =
    { ((s.wr (F.QE_CQ_INFO_q_GAP b.ring) 0).wr (F.QE_CQ_PTR_TAIL b.ring) tail).inc F.GY_NOTIFY with
      qe := qe, pcie := pcie, gy := { s.gy with
        subs := Sparse.put none s.gy.subs n.sub (some { b with last := n.value, lastValid := true, qual := n.qual / 64 }) } } := by
  obtain ⟨tail, qe, pcie, hw⟩ := (s.wr (F.QE_CQ_INFO_q_GAP b.ring) 0).cqWrite_shape b.ring
    (n.bytes (s.rd (F.QE_CQ_INFO_q_GAP b.ring)) (s.cq b.ring).phase)
  rw [State.postNote, hs]
  dsimp only
  rw [if_pos hr, hw]
  obtain ⟨qe', pcie', he⟩ := State.cqEvent_shape
    (({ (s.wr (F.QE_CQ_INFO_q_GAP b.ring) 0).wr (F.QE_CQ_PTR_TAIL b.ring) tail with qe := qe, pcie := pcie } : State).inc F.GY_NOTIFY
      |>.setSub n.sub (some { b with last := n.value, lastValid := true, qual := n.qual / 64 })) b.ring
  exact ⟨tail, qe', pcie', he⟩

end

section
variable {s t : State} {c : Nat} {qe : Qe} {pcie : Pcie}

/-- A folded notification is counted in the gap of its ring and for GYLE, and raised. -/
theorem State.noteFolded_spec (ht : t = { ((s.inc (F.QE_CQ_INFO_q_GAP c)).inc F.GY_NOTIFY_GAP).raise0 Src.GY_NOTIFY_GAP c with
      qe := qe, pcie := pcie }) : t.rd F.GY_NOTIFY_GAP = min (s.rd F.GY_NOTIFY_GAP + 1) (2 ^ 32 - 1)
    ∧ t.rd (F.QE_CQ_INFO_q_GAP c) = min (s.rd (F.QE_CQ_INFO_q_GAP c) + 1) (2 ^ (F.QE_CQ_INFO_q_GAP c).w - 1)
    ∧ ⟨Src.GY_NOTIFY_GAP, 0xFF, none, c, false⟩ ∈ t.cl.inbox ∧ s.keepsRegs t [F.QE_CQ_INFO_q_GAP c, F.GY_NOTIFY_GAP] := by
  have hregs : t.regs = ((s.inc (F.QE_CQ_INFO_q_GAP c)).inc F.GY_NOTIFY_GAP).regs := by rw [ht]; rfl
  have hne : F.GY_NOTIFY_GAP.key ≠ (F.QE_CQ_INFO_q_GAP c).key := by simp only [Fld.key, F.GY_NOTIFY_GAP, F.QE_CQ_INFO_q_GAP]; omega
  refine ⟨?_, ?_, ?_, (((State.keepsRegs.refl s _).inc (by simp)).inc (by simp)).of_regs hregs⟩
  · rw [State.rd_of_regs hregs, State.rd_inc_same _ _, State.rd_inc_ne _ hne]
    rfl
  · rw [State.rd_of_regs hregs, State.rd_inc_ne _ hne.symm, State.rd_inc_same _ _ (Nat.le_of_ble_eq_true rfl)]
  · rw [ht]
    exact List.mem_append_right _ (List.mem_singleton.mpr rfl)

/-- A posted notification is counted, and its ring's gap begins again. -/
theorem State.notePosted_spec {tail i : Nat} {v : Option Sub} (ht : t =
      { ((s.wr (F.QE_CQ_INFO_q_GAP c) 0).wr (F.QE_CQ_PTR_TAIL c) tail).inc F.GY_NOTIFY with
        qe := qe, pcie := pcie, gy := { s.gy with subs := Sparse.put none s.gy.subs i v } }) :
    t.sub i = v ∧ t.rd F.GY_NOTIFY = min (s.rd F.GY_NOTIFY + 1) (2 ^ 32 - 1) ∧ t.rd (F.QE_CQ_INFO_q_GAP c) = 0
    ∧ s.keepsRegs t [F.QE_CQ_INFO_q_GAP c, F.QE_CQ_PTR_TAIL c, F.GY_NOTIFY] := by
  have hregs : t.regs = (((s.wr (F.QE_CQ_INFO_q_GAP c) 0).wr (F.QE_CQ_PTR_TAIL c) tail).inc F.GY_NOTIFY).regs := by rw [ht]
  have hng : F.GY_NOTIFY.key ≠ (F.QE_CQ_INFO_q_GAP c).key := by simp only [Fld.key, F.GY_NOTIFY, F.QE_CQ_INFO_q_GAP]; omega
  have hnt : F.GY_NOTIFY.key ≠ (F.QE_CQ_PTR_TAIL c).key := by simp only [Fld.key, F.GY_NOTIFY, F.QE_CQ_PTR_TAIL]; omega
  have hgt : (F.QE_CQ_INFO_q_GAP c).key ≠ (F.QE_CQ_PTR_TAIL c).key := by simp only [Fld.key, F.QE_CQ_INFO_q_GAP, F.QE_CQ_PTR_TAIL]; omega
  refine ⟨?_, ?_, ?_, ((((State.keepsRegs.refl s _).wr (by simp)).wr (by simp)).inc (by simp)).of_regs hregs⟩
  · rw [ht]
    exact Sparse.get_put_same ..
  · rw [State.rd_of_regs hregs, State.rd_inc_same _ _, State.rd_wr_ne _ _ _ _ hnt, State.rd_wr_ne _ _ _ _ hng]
    rfl
  · rw [State.rd_of_regs hregs, State.rd_inc_ne _ hng.symm, State.rd_wr_ne _ _ _ _ hgt, State.rd_wr_self, Nat.zero_mod]

end

/-! Tier moves (R139, R179, R365). -/

section
variable {m : Move} {s : State} (hq : s.gy.moveReq = [m])
include hq

theorem execTierMove_single : exec .tierMove s = .next (s.noneAsked.tryMove m) :=
  congrArg Host.Outcome.next (State.tryMoves_single hq)

theorem execTierMove_barred (hb : s.pinBars m = true) : exec .tierMove s = .next { s with gy := { s.gy with moveReq := [] } } :=
  (execTierMove_single hq).trans (congrArg Host.Outcome.next (if_pos hb))

variable (hm : s.gy.moves = []) (hb : s.pinBars m = false)
include hm hb

theorem execTierMove_begins (h : (m.toHot = true ∧ s.rd F.GY_STATUS_HOT_USED < 131072) ∨ (m.toHot = false ∧ s.classedHot m.point = false)) :
    exec .tierMove s = .next { s with gy := { s.gy with moves := [m], moveReq := [] } } := by
  have hcan : s.noneAsked.canMove m = true := by
    rw [State.canMove_noneAsked hm]
    rcases h with ⟨hhot, hu⟩ | ⟨hcold, hfree⟩
    · rw [hhot, if_pos rfl]
      exact decide_eq_true hu
    · rw [hcold, if_neg Bool.false_ne_true]
      exact congrArg not hfree
  rw [execTierMove_single hq, State.tryMove_begins (s := s.noneAsked) hb hcan, State.noneAsked, hm]
  rfl

/-- A move that may not begin: a demotion that a launch delays is counted once, any other waits as it is (R179). -/
theorem execTierMove_waits (h : (m.toHot = true ∧ 131072 ≤ s.rd F.GY_STATUS_HOT_USED) ∨ (m.toHot = false ∧ s.classedHot m.point = true)) :
    exec .tierMove s = .next (if !m.toHot && !m.counted then
      { s.inc F.MS_MOVE_WAIT with gy := { s.gy with moveReq := [{ m with counted := true }] } } else s) := by
  have hcan : s.noneAsked.canMove m = false := by
    rw [State.canMove_noneAsked hm]
    rcases h with ⟨hhot, hu⟩ | ⟨hcold, hdue⟩
    · rw [hhot, if_pos rfl]
      exact decide_eq_false (not_lt.mpr hu)
    · rw [hcold, if_neg Bool.false_ne_true]
      exact congrArg not hdue
  have hself : ({ s with gy := { s.gy with moveReq := [m] } } : State) = s := by rw [← hq]
  have htry : s.noneAsked.tryMove m = if !m.toHot && s.classedHot m.point && !m.counted then
      { s.inc F.MS_MOVE_WAIT with gy := { s.gy with moveReq := [{ m with counted := true }] } }
    else { s with gy := { s.gy with moveReq := [m] } } :=
    (if_neg (ne_true_of_eq_false hb)).trans (if_neg (ne_true_of_eq_false hcan))
  rw [execTierMove_single hq, htry, hself]
  rcases h with ⟨hhot, -⟩ | ⟨hcold, hdue⟩
  · rw [hhot]
    rfl
  · rw [hcold, hdue]
    rfl

end

/-- The heat of a point goes to the table of its new tier (R365). -/
theorem StoreKept.heatMove {r s : State} (h : StoreKept r s) {p : Nat} {toHot : Bool} : StoreKept r (s.heatMove p toHot) := by
  cases toHot <;> exact h.trans rfl

theorem State.heatMove_gy (s : State) (p : Nat) (toHot : Bool) : (s.heatMove p toHot).gy = s.gy := by cases toHot <;> rfl

theorem State.heatMove_regs (s : State) (p : Nat) (toHot : Bool) : (s.heatMove p toHot).regs = s.regs := by cases toHot <;> rfl

/-- The counter of a completed move. -/
def moveCount (toHot : Bool) : Fld := if toHot then F.GY_PROMOTE else F.GY_DEMOTE

/-- The state with a move completed whose point has the record `r`. -/
def State.moveDone (s : State) (m : Move) (r : Point) : State :=
  ((s.putPoint m.point (some { r with hot := m.toHot })).inc (moveCount m.toHot)).heatMove m.point m.toHot

/-- The state with the moves in progress that are left. -/
def State.movesLeft (s : State) (rest : List Move) : State := { s with gy := { s.gy with moves := rest } }

theorem StoreKept.of_movesLeft {u t : State} {rest : List Move} (h : StoreKept (u.movesLeft rest) t) : t = { u with
    regs := t.regs, gy := { u.gy with points := t.gy.points, moves := rest }
    pt := { u.pt with heatHot := t.pt.heatHot, heatCand := t.pt.heatCand } } := h

theorem execTierMoveDone_defined {m : Move} {rest : List Move} {r : Point} {s u : State} (hu : s.slotsDue = u) (hm : u.gy.moves = m :: rest)
    (hp : u.point m.point = some r) (hh : m.held = []) : exec .tierMoveDone s = .next ((u.movesLeft rest).moveDone m r) := by
  have hp' : (u.movesLeft rest).point m.point = some r := hp
  show execTierMoveDone s = _
  rw [execTierMoveDone, hu]
  dsimp only
  rw [hm]
  dsimp only
  rw [← State.movesLeft, hp', hh]
  rfl

section
variable (s : State) (m : Move) (r : Point)

theorem State.moveDone_storeKept : StoreKept s (s.moveDone m r) := (StoreKept.refl s).putPoint.inc.heatMove

theorem State.point_moveDone : (s.moveDone m r).point m.point = some { r with hot := m.toHot } := by
  have h : (s.moveDone m r).gy = (s.putPoint m.point (some { r with hot := m.toHot })).gy := State.heatMove_gy ..
  rw [State.point_of_gy (congrArg Gy.points h), State.point_putPoint_same]

theorem State.rd_moveDone_count : (s.moveDone m r).rd (moveCount m.toHot) = min (s.rd (moveCount m.toHot) + 1) (2 ^ 32 - 1) := by
  have hw : (moveCount m.toHot).w = 32 := by cases m.toHot <;> rfl
  have hout : (moveCount m.toHot).key ∉ storeFields.map Fld.key := by cases m.toHot <;> decide
  rw [State.moveDone, State.rd_of_regs (State.heatMove_regs ..), State.rd_inc_same _ _ (by rw [hw]), State.rd_putPoint_ne _ _ _ hout, hw]

end

/-- The heat of the point of a completed move. -/
theorem State.heat_moveDone {s : State} {m : Move} {r : Point} : if m.toHot then
      Sparse.get 0 (s.moveDone m r).pt.heatHot m.point = Sparse.get 0 s.pt.heatCand m.point
    else Sparse.get 0 (s.moveDone m r).pt.heatCand m.point = Sparse.get 0 s.pt.heatHot m.point := by
  unfold State.moveDone
  cases m.toHot
  · exact Sparse.get_put_same ..
  · exact Sparse.get_put_same ..

/-! Extraction maps (R145 to R150). -/

/-- The state with the delivered frames that are left waiting for maps. -/
def State.extLeft (s : State) (rest : List ExtWait) : State := { s with gy := { s.gy with extWait := rest } }

/-- The map of a delivered frame that arrives, the only one that waits for this fetch. -/
theorem execMapFetchDone_single {w : List DWord} {handle n cell : Nat} {data : List Byte} {stamp : DWord} {rest : List ExtWait} {s : State}
    (hx : s.gy.extWait = ⟨⟨[w], false, some n⟩, handle, data, stamp, cell⟩ :: rest) (hn : s.fetches.min? = some n)
    (hrest : rest.all (fun y => y.chain.missing != some n) = true) : exec .mapFetchDone s = .next
      (((s.extLeft rest).extract ⟨[w], false, none⟩ handle data stamp).releaseHold cell 4) := by
  have hfilter : rest.filter (fun y => y.chain.missing != some n) = rest := List.filter_eq_self.mpr (List.all_eq_true.mp hrest)
  refine congrArg Host.Outcome.next ?_
  rw [hn]
  dsimp only
  rw [hx, List.find?_cons_of_pos (by simp)]
  dsimp only
  rw [List.filter_cons_of_neg (by simp), hfilter]
  rfl

theorem State.extract_disabled {s : State} {c : MapChain} {handle : Nat} {data : List Byte} {stamp : DWord}
    (h : s.on F.GY_CTRL_EXT_EN = false) : s.extract c handle data stamp = s := by
  rw [State.extract, if_neg (by rw [h]; exact Bool.false_ne_true)]

/-- An extraction-map write that finds its queue empty. -/
theorem State.extPush_first {s : State} {w : PWrite} (hwipe : s.on F.GY_STATUS_WIPING = false) (hq : s.gy.qExt = []) :
    s.extPush w = { s.wr F.GY_STATUS_OVERLOAD 0 with gy := { s.gy with qExt := [w] } } := by
  have hany : s.gy.qExt.any (fun x => x.point == w.point) = false := by rw [hq]; rfl
  have hlen : ¬ 2048 ≤ s.gy.qExt.length := by rw [hq]; decide
  rw [State.extPush, if_neg (State.not_wiping hwipe), if_neg (ne_true_of_eq_false hany), if_neg hlen, hq]
  dsimp only
  rw [List.nil_append, decide_eq_false (show ¬ 2048 ≤ [w].length by simp)]
  rfl

/-- A big-endian number of `n` bytes. -/
theorem beNat_lt (l : List Byte) : beNat l < 256 ^ l.length := by
  induction l using List.reverseRecOn with
  | nil => exact Nat.one_pos
  | append_singleton l b ih =>
    have hb := b.isLt
    have he : beNat (l ++ [b]) = beNat l * 256 + b.toNat := by simp [beNat]
    rw [he, List.length_append, List.length_singleton, pow_succ]
    omega

/-- A descriptor of an unsigned big-endian field of four bytes that lies in the frame, with the stamp of the frame (R147, R149). -/
theorem State.mapField_plain {s : State} {handle : Nat} {data : List Byte} {stamp : DWord} {lo hi : Nat} (hc : bits lo 16 12 = 0x400)
    (hs : bits lo 32 16 = 0) (hl : bits lo 0 16 + 4 ≤ data.length) : s.mapField handle data stamp lo hi = s.extPush
      ⟨3, bits hi 0 23, BitVec.ofNat 64 (beNat (slice data (bits lo 0 16) 4)), some stamp, bits lo 48 8, handle % 32768, 0, false, true,
        none, none, false, 0, none⟩ := by
  have hctrl : bits lo 16 8 = 0 := by simp only [bits] at hc ⊢; omega
  have hlen : bits lo 24 4 = 4 := by simp only [bits] at hc ⊢; omega
  have hshift : bits lo 32 6 = 0 := by simp only [bits] at hs ⊢; omega
  have hwd : bits lo 40 7 = 0 := by simp only [bits] at hs ⊢; omega
  have hzero (i n : Nat) : bits 0 i n = 0 := by simp [bits]
  have hlt : beNat (slice data (bits lo 0 16) 4) < 2 ^ 32 := by
    have h := beNat_lt (slice data (bits lo 0 16) 4)
    have h4 : (slice data (bits lo 0 16) 4).length ≤ 4 := by simp [slice]
    exact lt_of_lt_of_le h (Nat.pow_le_pow_right (by decide) h4)
  have hfits : ¬ (4 = 0 ∨ 8 < 4 ∨ data.length < bits lo 0 16 + 4 ∨ (0 = 1 ∧ data.length ≤ bits lo 48 16)
      ∨ (0 = 2 ∧ data.length < bits hi 32 16 + 8)) := by omega
  rw [State.mapField]
  simp only [hctrl, hlen, hshift, hwd, hzero]
  rw [if_neg hfits]
  rw [Nat.mod_eq_of_lt (by simpa using hlt)]
  simp

/-- A map with one descriptor that selects every frame (R146, R148). -/
theorem State.extract_single {s : State} {w : List DWord} {handle : Nat} {data : List Byte} {stamp : DWord} (hen : s.on F.GY_CTRL_EXT_EN = true)
    (hon : bits (w.getD 0 0).toNat 8 2 = 1) (hcount : bits (w.getD 0 0).toNat 0 5 = 1) : s.extract ⟨[w], false, none⟩ handle data stamp
      = s.mapField handle data stamp (w.getD 4 0).toNat (w.getD 5 0).toNat := by
  have hvalid : bits (w.getD 0 0).toNat 8 1 = 1 := by simp only [bits] at hon ⊢; omega
  have hall : bits (w.getD 0 0).toNat 9 1 = 0 := by simp only [bits] at hon ⊢; omega
  have hsel : mapSelected w data = true := by
    rw [mapSelected, hall]
    rfl
  have happly : s.mapApply handle data stamp w = s.mapField handle data stamp (w.getD 4 0).toNat (w.getD 5 0).toNat := by
    rw [State.mapApply, if_pos ⟨hvalid, hsel⟩, hcount]
    rfl
  rw [State.extract, if_pos hen, ← happly]
  rfl

/-- One word of each of two maps goes to the other's table (R150). -/
def State.swapWord (s : State) (a b : Nat) (t : List (Nat × DWord)) (n : Nat) : List (Nat × DWord) :=
  Sparse.put 0 (Sparse.put 0 t (a * 64 + n) (s.mapWord b n)) (b * 64 + n) (s.mapWord a n)

theorem State.mapSwap_eq (s : State) (a b : Nat) :
    s.mapSwap a b = { s with gy := { s.gy with maps := (List.range 64).foldl (s.swapWord a b) s.gy.maps } } := rfl

theorem State.get_swapWord (s : State) (a b : Nat) (t : List (Nat × DWord)) (n x : Nat) : Sparse.get 0 (s.swapWord a b t n) x =
    if x = b * 64 + n then s.mapWord a n else if x = a * 64 + n then s.mapWord b n else Sparse.get 0 t x := by
  unfold State.swapWord
  by_cases hb : x = b * 64 + n
  · rw [if_pos hb, hb, Sparse.get_put_same]
  · rw [if_neg hb, Sparse.get_put_ne _ _ _ hb]
    by_cases ha : x = a * 64 + n
    · rw [if_pos ha, ha, Sparse.get_put_same]
    · rw [if_neg ha, Sparse.get_put_ne _ _ _ ha]

/-- The first `k` words of two maps exchanged. -/
theorem State.get_foldl_swapWord {s : State} {a b k : Nat} (hk : k ≤ 64) (x : Nat) :
    Sparse.get 0 ((List.range k).foldl (s.swapWord a b) s.gy.maps) x =
      if x / 64 = b ∧ x % 64 < k then s.mapWord a (x % 64) else if x / 64 = a ∧ x % 64 < k then s.mapWord b (x % 64)
      else Sparse.get 0 s.gy.maps x := by
  induction k with
  | zero => simp
  | succ k ih =>
    rw [List.range_succ, List.foldl_append, List.foldl_cons, List.foldl_nil, State.get_swapWord, ih (by omega)]
    by_cases hb : x = b * 64 + k
    · have hd : x / 64 = b ∧ x % 64 = k := by omega
      rw [if_pos hb, if_pos ⟨hd.1, by omega⟩, hd.2]
    · by_cases ha : x = a * 64 + k
      · have hd : x / 64 = a ∧ x % 64 = k := by omega
        rw [if_neg hb, if_pos ha, if_neg (by omega), if_pos ⟨hd.1, by omega⟩, hd.2]
      · have hsame (c : Nat) (hc : x ≠ c * 64 + k) : (x / 64 = c ∧ x % 64 < k + 1) ↔ (x / 64 = c ∧ x % 64 < k) := by omega
        rw [if_neg hb, if_neg ha]
        simp only [hsame b hb, hsame a ha]

theorem State.get_mapSwap (s : State) (a b x : Nat) : Sparse.get 0 (s.mapSwap a b).gy.maps x =
    if x / 64 = b then s.mapWord a (x % 64) else if x / 64 = a then s.mapWord b (x % 64) else Sparse.get 0 s.gy.maps x := by
  have hx : x % 64 < 64 := Nat.mod_lt _ (by decide)
  rw [State.mapSwap_eq, State.get_foldl_swapWord (le_refl 64) x]
  simp only [hx, and_true]

theorem State.mapWord_mapSwap {s : State} {a b n : Nat} (hab : a ≠ b) (hn : n < 64) :
    (s.mapSwap a b).mapWord a n = s.mapWord b n ∧ (s.mapSwap a b).mapWord b n = s.mapWord a n := by
  have hdiv (c : Nat) : (c * 64 + n) / 64 = c := by omega
  have hmod (c : Nat) : (c * 64 + n) % 64 = n := by omega
  constructor
  · rw [State.mapWord, State.get_mapSwap, hdiv, hmod, if_neg hab, if_pos rfl]
  · rw [State.mapWord, State.get_mapSwap, hdiv, hmod, if_pos rfl]

section
variable {m : Nat} {a b : BitVec 14} {s : State} (h : s.accepts m 0xD0040 permW) (hwipe : s.on F.GY_STATUS_WIPING = false)
include h hwipe

theorem execMapSwap_same (hab : a = b) : exec (.mapSwap m a b) s = .next (s.wr F.GY_MAP_STAT_ERR 1) :=
  congrArg Host.Outcome.next ((State.busW_accepts h _).trans
    ((if_neg (State.not_wiping hwipe)).trans (if_pos (congrArg BitVec.toNat hab))))

theorem execMapSwap_two (hab : a.toNat ≠ b.toNat) : exec (.mapSwap m a b) s = .next (s.mapSwap a.toNat b.toNat) :=
  congrArg Host.Outcome.next ((State.busW_accepts h _).trans ((if_neg (State.not_wiping hwipe)).trans (if_neg hab)))

end

/-! The memory window (R12, R150, R168). -/

theorem execGyMdataWrite_accepts {m : Nat} {hi : Word} {s : State} (h : s.accepts m 0xD005C permW) : exec (.gyMdataWrite m hi) s
    = .next (((s.gyStore (s.heldLow m 0xD0058 + 2 ^ 32 * hi.toNat)).dropLow m 0xD0058).advance F.GY_MADDR) :=
  congrArg Host.Outcome.next (State.busW_accepts h _)

section
variable {s : State} {w : Nat} (hwipe : s.on F.GY_STATUS_WIPING = false)
include hwipe

theorem State.gyStore_wmap (hsel : s.rd F.GY_MSEL = 3) (ha : s.rd F.GY_MADDR < 131072) : s.gyStore w = { s with gy := { s.gy with
    wmap := Sparse.put 0 s.gy.wmap (s.rd F.GY_MADDR) (BitVec.ofNat 32 (w &&& 0x807FFFFF)) } } := by
  rw [State.gyStore]
  dsimp only
  rw [if_neg (State.not_wiping hwipe), if_neg (by omega), if_pos ⟨hsel, ha⟩]

/-- A word of a valid map other than its first is not to be written (R150). -/
theorem State.gyStore_lockedMap (hsel : s.rd F.GY_MSEL = 1) (ha : s.rd F.GY_MADDR < 1048576)
    (hv : bits (s.mapWord (s.rd F.GY_MADDR / 64) 0).toNat 8 1 = 1) (hw : s.rd F.GY_MADDR % 64 ≠ 0) :
    s.gyStore w = s.wr F.GY_STATUS_WIN_REJ 1 := by
  rw [State.gyStore]
  dsimp only
  rw [if_neg (State.not_wiping hwipe), if_pos ⟨hsel, ha⟩, if_pos ⟨hv, fun e => hw e.1⟩]

end

/-! The age sweep (R161). -/

/-- The state in which the sweep has come to subscription `i`. -/
def State.sweptTo (s : State) (i pass : Nat) : State :=
  { s with gy := { s.gy with sweepAt := i + 1, sweepPass := pass, sweepLast := s.tb.mono } }

theorem execSweepVisit_point {i pass : Nat} {b : Sub} {r : Point} {s : State} (hen : s.on F.GY_CTRL_SWEEP_EN = true)
    (ht : s.gy.sweepLast + 125 ≤ s.tb.mono) (hw : s.nextWatched = some (i, b, pass)) (hp : s.point b.point = some r) :
    exec .sweepVisit s = .next (if r.stale s.dt = true ∧ ¬ b.staleSent = true then
      ((s.sweptTo i pass).setSub i (some { b with staleSent := true })).note i b r 4 else s.sweptTo i pass) := by
  have hp' : (s.sweptTo i pass).point b.point = some r := hp
  show execSweepVisit s = _
  rw [execSweepVisit, if_neg (not_or.mpr ⟨not_not_intro hen, not_lt.mpr ht⟩), hw]
  dsimp only
  rw [← State.sweptTo, hp']
  rfl

/-- Settles O30: a notification by `noteFolded_spec` and `notePosted_spec`, the moves and the maps by their cases above, SWAP by
`get_mapSwap`, the window by the cases of `gyStore`, the sweep by `execSweepVisit_point`. -/
theorem notificationsMovesAndMaps : Obligations.NotificationsMovesAndMaps := by
  refine ⟨fun n rest b s hn hs _ => ⟨fun hr => ?_, fun hr => ?_⟩, fun m s hq hm => ⟨execTierMove_barred hq,
      fun hb h => execTierMove_begins hq hm hb h, fun hb hhot hu => ?_, fun hb hcold hdue hc => ?_⟩, fun m rest r s hm hp hh => ?_,
    fun w handle n cell data stamp rest s hx hn hrest => ⟨fun hoff => ?_, fun hen hwipe hq hon hcount hc hf hl => ?_⟩,
    fun m a b s h hwipe => ⟨execMapSwap_same h hwipe, fun hab => ?_⟩,
    fun m hi s h hwipe => ⟨fun hsel ha => ?_, fun hsel ha hv hw => ?_⟩,
    fun i pass b r s hen ht hw hp => ⟨fun hst hsent => ?_, fun hno => ?_⟩⟩
  · obtain ⟨qe, pcie, hpost⟩ := State.postNote_folded (s := s.noteTaken rest) hs hr
    obtain ⟨hgap, hring, hin, hkeep⟩ := State.noteFolded_spec hpost
    exact ⟨_, execNotificationWrite_next hn, by rw [hpost]; rfl, hgap, hring, hin, hkeep, by rw [hpost]; rfl⟩
  · obtain ⟨tail, qe, pcie, hpost⟩ := State.postNote_posted (s := s.noteTaken rest) hs hr
    obtain ⟨hsub, hcnt, hgap, hkeep⟩ := State.notePosted_spec hpost
    exact ⟨_, execNotificationWrite_next hn, by rw [hpost]; rfl, hsub, hcnt, hgap, hkeep, by rw [hpost]; rfl⟩
  · rw [execTierMove_waits hq hm hb (.inl ⟨hhot, hu⟩), hhot]
    rfl
  · rw [execTierMove_waits hq hm hb (.inr ⟨hcold, hdue⟩), hcold, hc]
    rfl
  · intro u
    have hdone : exec .tierMoveDone s = .next ((u.movesLeft rest).moveDone m r) := execTierMoveDone_defined rfl hm hp hh
    clear_value u
    have hcount := (u.movesLeft rest).rd_moveDone_count m r
    have hheat := State.heat_moveDone (s := u.movesLeft rest) (m := m) (r := r)
    have hstore := ((u.movesLeft rest).moveDone_storeKept m r).of_movesLeft
    refine ⟨_, hdone, State.point_moveDone .., by rw [hstore], fun hhot => ?_, fun hcold => ?_, hstore⟩
    · rw [hhot] at hcount hheat
      exact ⟨hcount, hheat⟩
    · rw [hcold] at hcount hheat
      exact ⟨hcount, hheat⟩
  · rw [execMapFetchDone_single hx hn hrest, State.extract_disabled (s := s.extLeft rest) hoff]
    rfl
  · rw [execMapFetchDone_single hx hn hrest, State.extract_single (s := s.extLeft rest) hen hon hcount, State.mapField_plain hc hf hl,
      State.extPush_first (s := s.extLeft rest) hwipe hq]
    rfl
  · have hne : a.toNat ≠ b.toNat := fun e => hab (BitVec.eq_of_toNat_eq e)
    refine ⟨_, execMapSwap_two h hwipe hne, rfl, fun n hn => State.mapWord_mapSwap hne hn, fun k _ hka hkb => ?_⟩
    rw [State.get_mapSwap, if_neg hkb, if_neg hka]
  · rw [execGyMdataWrite_accepts h, State.gyStore_wmap hwipe hsel ha]
    rfl
  · rw [execGyMdataWrite_accepts h, State.gyStore_lockedMap hwipe hsel ha hv hw]
    have hadr : (s.wr F.GY_STATUS_WIN_REJ 1).rd F.GY_MADDR = s.rd F.GY_MADDR := State.rd_wr_ne _ _ _ _ (by decide)
    rw [← hadr]
    rfl
  · rw [execSweepVisit_point hen ht hw hp, if_pos ⟨hst, by rw [hsent]; exact Bool.false_ne_true⟩]
    rfl
  · rw [execSweepVisit_point hen ht hw hp, if_neg ?_]
    · rfl
    · rintro ⟨hst, hsent⟩
      rcases hno with h | h
      · rw [h] at hst; exact Bool.false_ne_true hst
      · exact hsent h

end Sys2Proof.Machine

/-! SWAP of a template while MS_ENABLED does not count it (R175; `Obligations.TemplateCommands`). -/

namespace Sys2Proof.Machine

/-- Template 5 is enabled, template 3 is good and not enabled, and MS_ENABLED.COUNT reads 0. -/
def enabledUncounted : State :=
  { State.reset with ms := { Ms.reset with ctl := [(3 * 8, 64), (5 * 8, 0x10040)] } }

theorem enabledUncounted_accepts : enabledUncounted.accepts 0 0xD8010 permW := by decide

theorem enabledUncounted_tplCode : enabledUncounted.tplCode 3 = 0 := by decide

/-- SWAP takes the old template from COUNT, where nothing is left to take, and adds the new one. -/
theorem enabledUncounted_swapped : ∃ t, exec (.templateSwap 0 5 3) enabledUncounted = .next t ∧ t.rd F.MS_ENABLED_COUNT = 1 :=
  ⟨_, rfl, by decide⟩

/-- Refutes O31: the clause of a SWAP that succeeds lacks the hypothesis `0 < s.rd F.MS_ENABLED_COUNT`, which the clause of DISABLE has.
In `enabledUncounted`, where the count misses the enabled template, SWAP leaves COUNT at 1 and not at 0. -/
theorem not_templateCommands : ¬ Obligations.TemplateCommands := by
  unfold Obligations.TemplateCommands
  rintro ⟨hcmd, -⟩
  obtain ⟨-, -, -, -, -, -, -, hswap⟩ := hcmd 0 5 3 enabledUncounted enabledUncounted_accepts
  obtain ⟨t, ht, -, -, -, -, -, -, -, -, -, hkept⟩ := hswap (by decide) (by decide) rfl enabledUncounted_tplCode
  obtain ⟨u, hu, hone⟩ := enabledUncounted_swapped
  have hut : u = t := Host.Outcome.next.inj (hu.symm.trans ht)
  rw [← hut, hone] at hkept
  exact absurd hkept (by decide)

end Sys2Proof.Machine

/-! A suppressed launch while the register file is not in its canonical form (R184, R187; `Obligations.LaunchOfATemplate`). -/

namespace Sys2Proof.Machine

/-- A launch at its hand-off instant that no port takes: STALE_POL of its template is SUPPRESS, and its one slot checks a point that its
read found undefined. -/
def staleLaunch : TplLaunch where
  item := 0
  tpl := 0
  k := 0
  dtl := 0
  port := 0
  eng := 0
  ctl := [0x01200040]
  slots := [0x0001000000800007]
  image := []
  classed := true
  hotWait := []
  dramWait := []
  reads := [(7, none)]
  cold := false

/-- The launch is pending, and the register file lists MS_HZN_LOCAL, which reads 0, at its reset value. -/
def localListed : State :=
  { State.reset with ms := { Ms.reset with launches := [staleLaunch] }, regs := [(F.MS_HZN_LOCAL.key, 0)] }

theorem staleLaunch_suppressed : 2 ≤ tpPol staleLaunch.ctl ∧ staleLaunch.marked = true := by decide

/-- The hand-off counts the slots on unmirrored points, which are none, and that write drops MS_HZN_LOCAL from the file. -/
theorem localListed_handedOff : ∃ t, exec (.assemblyHandoff 0) localListed = .next t ∧ t.regs = [(F.MS_SUPPRESS.key, 1)] :=
  ⟨_, rfl, by decide⟩

theorem localListed_stated : (localListed.inc F.MS_SUPPRESS).regs = [(F.MS_SUPPRESS.key, 1), (F.MS_HZN_LOCAL.key, 0)] := by decide

/-- Refutes O32: the clause of a suppressed launch gives the register file itself but lacks the hypothesis `s.Canon`. A hand-off also adds
to MS_HZN_LOCAL, 0 for a template that is no TWIN one, and a write puts the file into its form: in `localListed` the entry at its reset
value is gone, where the clause keeps it. -/
theorem not_launchOfATemplate : ¬ Obligations.LaunchOfATemplate := by
  unfold Obligations.LaunchOfATemplate
  rintro ⟨-, -, -, hend⟩
  obtain ⟨-, hdue⟩ := hend 0 staleLaunch localListed rfl rfl rfl rfl (by decide) (by decide) rfl
  obtain ⟨hsup, -⟩ := hdue (by decide) (by decide) (by decide) rfl
  have hstated := hsup staleLaunch_suppressed.1 staleLaunch_suppressed.2
  obtain ⟨t, ht, hregs⟩ := localListed_handedOff
  have hkept := congrArg State.regs (Host.Outcome.next.inj (ht.symm.trans hstated))
  rw [hregs] at hkept
  exact absurd (hkept.trans localListed_stated) (by decide)

end Sys2Proof.Machine

/-! Shapers and the timing wheel (R234, R239, R240, R242, R259; `Obligations.ShapersAndTheWheel`). -/

namespace Sys2Proof.Machine

/-! A shaper's record. -/

theorem State.shp_of_shps {s t : State} (h : t.lt.shps = s.lt.shps) (i : Nat) : t.shp i = s.shp i := by rw [State.shp, h, State.shp]

@[simp] theorem State.shp_setShp_same (s : State) (i : Nat) (r : Shp) : (s.setShp i r).shp i = r := Sparse.get_put_same ..

theorem State.shp_setShp_ne (s : State) {i k : Nat} (r : Shp) (h : k ≠ i) : (s.setShp i r).shp k = s.shp k := Sparse.get_put_ne _ _ _ h

theorem State.setShp_keepsRegs (s : State) (i : Nat) (r : Shp) : s.keepsRegs (s.setShp i r) [F.LT_STATUS_ON_WHEEL] :=
  ((State.keepsRegs.refl s _).of_regs rfl).wr

/-- From `r` to `s` nothing has moved but registers and the records of shapers. -/
def ShapersKept (r s : State) : Prop := s = { r with regs := s.regs, lt := { r.lt with shps := s.lt.shps } }

theorem ShapersKept.refl (s : State) : ShapersKept s s := rfl

theorem ShapersKept.setShp {r s : State} (h : ShapersKept r s) (i : Nat) (v : Shp) : ShapersKept r (s.setShp i v) := by
  unfold ShapersKept at h
  rw [h]
  rfl

/-! The slots of level 1 (R240). -/

/-- The record of a shaper that the wheel has granted: it waits no more. -/
def Shp.granted (r : Shp) : Shp := { r with elig := none, lvl := 0 }

/-- The state with the listed shapers granted. -/
def State.grantAll (s : State) (due : List Nat) : State := due.foldl (fun s i => s.setShp i (s.shp i).granted) s

/-- A shaper is granted once, however often it is listed. -/
theorem State.shp_grantAll (s : State) (due : List Nat) (i : Nat) :
    (s.grantAll due).shp i = if i ∈ due then (s.shp i).granted else s.shp i := by
  induction due generalizing s with
  | nil => rfl
  | cons k due ih =>
    rw [State.grantAll, List.foldl_cons, ← State.grantAll, ih]
    by_cases h : i = k
    · subst h
      simp [Shp.granted]
    · simp [h, State.shp_setShp_ne]

theorem State.grantAll_keepsRegs (s : State) (due : List Nat) : s.keepsRegs (s.grantAll due) [F.LT_STATUS_ON_WHEEL] := by
  induction due generalizing s with
  | nil => exact .refl s _
  | cons k due ih => exact (s.setShp_keepsRegs k _).trans (ih _)

theorem ShapersKept.grantAll {r s : State} (h : ShapersKept r s) (due : List Nat) : ShapersKept r (s.grantAll due) := by
  induction due generalizing s with
  | nil => exact h
  | cons k due ih => exact ih (h.setShp k _)

/-- The state in which the grants of slot `slot` are to be made. -/
def State.inSlot (s : State) (slot : Nat) : State := { s with lt := { s.lt with slot := slot } }

/-- The state with a slot's shapers granted, at most 32, and the rest counted. -/
def State.slotServed (s : State) (slot : Nat) (due : List Nat) : State :=
  ((s.inSlot slot).grantAll (due.take 32)).add F.LT_WHEEL_SLIP (due.length - 32)

theorem execShaperGrant_newSlot {s : State} (h : s.lt.slot ≠ s.dt / 32 + 1) :
    exec .shaperGrant s = .next (s.slotServed (s.dt / 32 + 1) (s.shDue (s.dt / 32 * 32))) := congrArg Host.Outcome.next (if_neg h)

section
variable (s : State) (slot : Nat) (due : List Nat)

theorem State.slotServed_shapersKept : ShapersKept (s.inSlot slot) (s.slotServed slot due) := by
  have h : ShapersKept (s.inSlot slot) ((s.inSlot slot).grantAll (due.take 32)) := (ShapersKept.refl _).grantAll _
  unfold ShapersKept at h
  rw [State.slotServed, h]
  rfl

theorem State.slot_slotServed : (s.slotServed slot due).lt.slot = slot := by rw [s.slotServed_shapersKept]; rfl

theorem State.slotServed_shape : s.slotServed slot due = { s with
    regs := (s.slotServed slot due).regs
    lt := { s.lt with slot := (s.slotServed slot due).lt.slot, shps := (s.slotServed slot due).lt.shps } } := by
  rw [State.slot_slotServed]
  exact s.slotServed_shapersKept slot due

theorem State.shp_slotServed (i : Nat) : (s.slotServed slot due).shp i = if i ∈ due.take 32 then (s.shp i).granted else s.shp i := calc
  (s.slotServed slot due).shp i = ((s.inSlot slot).grantAll (due.take 32)).shp i := State.shp_of_shps rfl i
  _ = if i ∈ due.take 32 then (s.shp i).granted else s.shp i := State.shp_grantAll ..

theorem State.rd_slotServed_slip :
    (s.slotServed slot due).rd F.LT_WHEEL_SLIP = min (s.rd F.LT_WHEEL_SLIP + (due.length - 32)) (2 ^ 32 - 1) := by
  rw [State.slotServed, State.rd_add_same _ _ _ (by decide), State.grantAll_keepsRegs _ _ _ (by decide)]
  rfl

theorem State.slotServed_keepsRegs : s.keepsRegs (s.slotServed slot due) [F.LT_STATUS_ON_WHEEL, F.LT_WHEEL_SLIP] := by
  have h : s.keepsRegs ((s.inSlot slot).grantAll (due.take 32)) [F.LT_STATUS_ON_WHEEL] := (s.inSlot slot).grantAll_keepsRegs _
  exact (h.mono (l' := [F.LT_STATUS_ON_WHEEL, F.LT_WHEEL_SLIP])).wr

end

/-! The upper levels (R239). -/

/-- A map of the values that keeps the default reaches every key. -/
theorem Sparse.get_map {α : Type} {d : α} {f : α → α} (hf : f d = d) (l : List (Nat × α)) (a : Nat) :
    Sparse.get d (l.map (fun x => (x.1, f x.2))) a = f (Sparse.get d l a) := by
  induction l with
  | nil => exact hf.symm
  | cons x l ih =>
    rw [List.map_cons, Sparse.get, ih, Sparse.get]
    split <;> rfl

theorem Shp.ite_lvl {r : Shp} {c : Prop} [Decidable c] {a b : Nat} (h : r.lvl = b) :
    (if c then { r with lvl := a } else r) = { r with lvl := if c then a else b } := by
  subst h
  split <;> rfl

section
variable (s : State) {r : Shp}

/-- An entry in level 1, or one that does not wait, stands where it is. -/
theorem State.migrate_low (h : r.lvl ≤ 1) : s.migrate r = r := by
  unfold State.migrate
  split
  case h_4 => rfl
  all_goals omega

variable {e : Nat} (he : r.elig = some e)
include he

theorem State.migrate_two (h : r.lvl = 2) : s.migrate r = { r with lvl := if s.eligDt e / 8192 ≤ s.dt / 8192 + 1 then 1 else 2 } := by
  obtain ⟨tok, at_, elig, lvl⟩ := r
  obtain rfl : elig = some e := he
  obtain rfl : lvl = 2 := h
  exact Shp.ite_lvl rfl

theorem State.migrate_three (h : r.lvl = 3) :
    s.migrate r = { r with lvl := if s.eligDt e / 2097152 ≤ s.dt / 2097152 + 1 then 2 else 3 } := by
  obtain ⟨tok, at_, elig, lvl⟩ := r
  obtain rfl : elig = some e := he
  obtain rfl : lvl = 3 := h
  exact Shp.ite_lvl rfl

/-- The overflow list. -/
theorem State.migrate_four (h : r.lvl = 4) : s.migrate r = { r with lvl := if e - s.tb.mono < 536870912 then 3 else 4 } := by
  obtain ⟨tok, at_, elig, lvl⟩ := r
  obtain rfl : elig = some e := he
  obtain rfl : lvl = 4 := h
  exact Shp.ite_lvl rfl

end

/-- The state with every entry of the wheel where it belongs now. -/
def State.migrated (s : State) : State :=
  { s with lt := { s.lt with shps := s.lt.shps.map (fun x => (x.1, s.migrate x.2)) } }

theorem execWheelMigrate_next (s : State) : exec .wheelMigrate s = .next s.migrated := rfl

theorem State.shp_migrated (s : State) (i : Nat) : s.migrated.shp i = s.migrate (s.shp i) :=
  Sparse.get_map (s.migrate_low (r := Shp.empty) (by decide)) ..

/-! The memory window (R12, R234, R259). -/

theorem execLtMdataWrite_accepts {m : Nat} {hi : Word} {s : State} (h : s.accepts m 0xA001C permW) : exec (.ltMdataWrite m hi) s
    = .next (((s.ltStore (s.heldLow m 0xA0018 + 2 ^ 32 * hi.toNat)).dropLow m 0xA0018).advance F.LT_MADDR) :=
  congrArg Host.Outcome.next (State.busW_accepts h _)

section
variable {s : State} {w : Nat} (hwipe : s.on F.LT_STATUS_WIPING = false)
include hwipe

/-- A word of a record other than its last waits for the last. -/
theorem State.ltStore_part (hsel : s.rd F.LT_MSEL = 0) (ha : s.rd F.LT_MADDR % 4 < 3) : s.ltStore w = { s with lt := { s.lt with
    part := Sparse.put none s.lt.part (s.rd F.LT_MADDR) (some (BitVec.ofNat 64 w)) } } := by
  simp [State.ltStore, hwipe, hsel, ha]

theorem State.ltStore_queueBinding (hsel : s.rd F.LT_MSEL = 1) (ha : s.rd F.LT_MADDR < 1024) : s.ltStore w = { s with lt := { s.lt with
    qbind := Sparse.put 0 s.lt.qbind (s.rd F.LT_MADDR) (w &&& 0x80000FFF) } } := by
  simp [State.ltStore, hwipe, hsel, ha]

theorem State.ltStore_noPortBinding (hsel : s.rd F.LT_MSEL = 2) (ha : 16 ≤ s.rd F.LT_MADDR) :
    s.ltStore w = s.wr F.LT_STATUS_WIN_REJ 1 := by
  simp [State.ltStore, hwipe, hsel, not_lt.mpr ha]

end

/-- Settles O24: the grants of a slot by `shp_slotServed`, the moves between levels by `shp_migrated` and a rule per level, CREDIT_OK by
the meaning itself, the window by the three rules of `ltStore`. -/
theorem shapersAndTheWheel : Obligations.ShapersAndTheWheel := by
  refine ⟨fun s h => ?_, fun s => ?_, fun p c s h => congrArg Host.Outcome.next (if_pos h), fun m hi s h hwipe => ?_⟩
  · exact ⟨_, execShaperGrant_newSlot h, s.slot_slotServed .., fun i _ => s.shp_slotServed .., s.rd_slotServed_slip ..,
      s.slotServed_shape .., s.slotServed_keepsRegs _ _⟩
  · refine ⟨_, execWheelMigrate_next s, rfl, fun i _ => ?_⟩
    rw [State.shp_migrated]
    exact ⟨s.migrate_low, fun e he => ⟨s.migrate_two he, s.migrate_three he, s.migrate_four he⟩⟩
  · rw [execLtMdataWrite_accepts h]
    refine ⟨fun hsel ha => ?_, fun hsel ha => ?_, fun hsel ha => ?_⟩
    · rw [State.ltStore_queueBinding hwipe hsel ha]
      rfl
    · rw [State.ltStore_part hwipe hsel ha]
      rfl
    · have haddr : (s.wr F.LT_STATUS_WIN_REJ 1).rd F.LT_MADDR = s.rd F.LT_MADDR := State.rd_wr_ne _ _ _ _ (by decide)
      rw [State.ltStore_noPortBinding hwipe hsel ha, ← haddr]
      rfl

end Sys2Proof.Machine

/-! A queue pause that finds the buffer of window writes full (R153, R249; `Obligations.PausesOfClassesAndQueues`). -/

namespace Sys2Proof.Machine

/-- A write through the BAR4 window that waits for GYLE. -/
def waitingWrite : PWrite where
  origin := 5
  point := 7
  value := 0
  upd := none
  qual := 0x80
  src := 5
  mode := 0
  mono := false
  present := true
  cfg := none
  key := none
  rs := false
  epoch := 0
  job := none

/-- VF 0 reaches BAR0 but may not write to LAUTER, and 512 window writes wait. -/
def windowFull : State :=
  { State.reset with
    pcie := { Pcie.reset with mse := 2, vfe := true }
    gy := { Gy.reset with qWin := List.replicate 512 waitingWrite } }

theorem windowFull_decodes : windowFull.decodes 0x21 = true := by decide

theorem windowFull_denies : windowFull.may 0x0A 0x21 permW = false := by decide

theorem windowFull_takes : windowFull.takes 0x21 = false := by
  have hlen : windowFull.gy.qWin.length = 512 := List.length_replicate
  rw [State.takes, hlen]
  exact Bool.and_false _

/-- A write of LT_QPAUSE that does not arrive waits at the host. -/
theorem execQueuePause_withheld {m : Nat} {s : State} (h : s.takes m = false) (q us : BitVec 16) :
    exec (.queuePause m false q us) s = .next s := congrArg Host.Outcome.next (if_pos (show (!s.takes m) = true by rw [h]; rfl))

/-- Refutes O25: the clause of a denied LT_QPAUSE asks that the master's writes are decoded, not that they arrive (`s.takes m`). In
`windowFull` the full buffer of window writes withholds the credits of the host's posted writes (R153): the command waits, and is neither
denied nor counted in LT_QP_REJ. -/
theorem not_pausesOfClassesAndQueues : ¬ Obligations.PausesOfClassesAndQueues := by
  unfold Obligations.PausesOfClassesAndQueues
  rintro ⟨-, -, hqueue, -⟩
  obtain ⟨-, -, hdenied, -⟩ := hqueue 0x21 0 0 windowFull
  have hstated := hdenied windowFull_decodes windowFull_denies
  have hsame := Host.Outcome.next.inj ((execQueuePause_withheld windowFull_takes 0 0).symm.trans hstated)
  have hcount : windowFull.rd F.LT_QP_REJ = 1 := by
    rw [hsame, State.rd_inc_same _ _ (by decide)]
    rfl
  exact absurd hcount (by decide)

end Sys2Proof.Machine

/-! The roles of a twin (R262, R263, R271 to R274, R284, R289, R290; `Obligations.RolesOfTheTwin`). -/

namespace Sys2Proof.Machine

/-! What leaves the agent moves only the TOUT pads and the wires. -/

/-- From `r` to `s` nothing has moved but the TOUT pads and what stands on the wires. -/
def PadsOnly (r s : State) : Prop := s = { r with tb := { r.tb with toutPad := s.tb.toutPad }, wire := s.wire }

namespace PadsOnly

theorem refl (s : State) : PadsOnly s s := rfl

theorem ite {r a b : State} {c : Prop} [Decidable c] (h : PadsOnly r a) (g : PadsOnly r b) : PadsOnly r (if c then a else b) := by
  split <;> assumption

section
variable {r s : State} (h : PadsOnly r s)
include h

/-- What the relation says, as an equation. -/
theorem eq : s = { r with tb := { r.tb with toutPad := s.tb.toutPad }, wire := s.wire } := h

theorem moved (pad : Nat) (wire : List WireOut) : PadsOnly r { s with tb := { s.tb with toutPad := pad }, wire := wire } := by
  have e := congrArg (fun x : State => ({ x with tb := { x.tb with toutPad := pad }, wire := wire } : State)) h.eq
  exact e

/-- What no MAC sends reaches no loopback (R459). -/
theorem emit {w : WireOut} (hm : w.mac = none) : PadsOnly r (s.emit w) := by
  have hloop : s.loopPut w = s := by rw [State.loopPut, hm]
  rw [State.emit, hloop]
  exact .ite h (h.moved s.tb.toutPad _)

theorem announce (type : Nat) : PadsOnly r (s.announce type) := .ite (.emit (.ite (h.emit rfl) h) rfl) (.ite (h.emit rfl) h)

theorem toutDrive (n : Nat) : PadsOnly r (s.toutDrive n) := .ite ((h.moved _ s.wire).emit rfl) h

end

theorem toutAll (s : State) : PadsOnly s s.toutAll := ((((refl s).toutDrive 0).toutDrive 1).toutDrive 2).toutDrive 3

end PadsOnly

/-! Roles (R262, R263). -/

/-- The registers of a role (R263). -/
def State.roleShown (s : State) (r : Nat) : State := (s.wr F.TW_STATUS_ROLE r).wr F.TW_STATUS_READY (decide (3 ≤ r)).toNat

/-- A role is two registers, the pads of R274, and the instant of READY (R286). -/
theorem State.setRole_shape (s : State) (r : Nat) : ∃ pad at_ wire, s.setRole r = { s.roleShown r with
    tb := { s.tb with toutPad := pad }, tw := { s.tw with readyAt := at_ }, wire := wire } := by
  have hset : ∃ at_, s.roleSet r = { s.roleShown r with tw := { s.tw with readyAt := at_ } } := by
    by_cases h : 3 ≤ r ∧ s.role < 3
    · exact ⟨s.dt, congrArg (fun x : State => x.roleShown r) (if_pos h)⟩
    · exact ⟨s.tw.readyAt, congrArg (fun x : State => x.roleShown r) (if_neg h)⟩
  obtain ⟨at_, hset⟩ := hset
  have hpads : PadsOnly (s.roleSet r) (s.setRole r) := .toutAll _
  exact ⟨_, at_, _, hpads.eq.trans (congrArg (fun x : State => ({ x with
    tb := { x.tb with toutPad := (s.setRole r).tb.toutPad }, wire := (s.setRole r).wire } : State)) hset)⟩

theorem State.rd_roleShown_role (s : State) {r : Nat} (h : r < 8) : (s.roleShown r).rd F.TW_STATUS_ROLE = r :=
  (State.rd_wr_ne _ _ _ _ (by decide)).trans ((State.rd_wr_same _ _ _ (by decide)).trans (Nat.mod_eq_of_lt h))

theorem State.rd_roleShown_ready (s : State) (r : Nat) : (s.roleShown r).rd F.TW_STATUS_READY = (decide (3 ≤ r)).toNat :=
  State.rd_wr_toNat _ _ _ rfl

theorem State.rd_roleShown_ne (s : State) (r : Nat) {f : Fld} (h : f.key ∉ [F.TW_STATUS_ROLE, F.TW_STATUS_READY].map Fld.key) :
    (s.roleShown r).rd f = s.rd f :=
  (State.keepsRegs.refl s _ |>.wr (by decide) |>.wr (by decide) : s.keepsRegs (s.roleShown r) _) f h

/-! The parts of a claim (R272, R274). -/

theorem State.setGenSeq_shape (s : State) (g n : Nat) : ∃ fn, s.setGenSeq g n = { s with fn := fn } := ⟨_, rfl⟩

/-- Setting SEQ of generation functions touches their table alone. -/
theorem State.foldl_setGenSeq_shape (l : List Nat) (n : State → Nat → Nat) (s : State) :
    ∃ fn, l.foldl (fun s g => s.setGenSeq g (n s g)) s = { s with fn := fn } := by
  induction l generalizing s with
  | nil => exact ⟨s.fn, rfl⟩
  | cons g l ih =>
    obtain ⟨fn, hg⟩ := s.setGenSeq_shape g (n s g)
    obtain ⟨fn', hl⟩ := ih { s with fn := fn }
    rw [List.foldl_cons, hg, hl]
    exact ⟨fn', rfl⟩

theorem State.dualSync_shape (s : State) : ∃ sync, s.dualSync = { s with tb := { s.tb with nextSync := sync } } := ⟨_, rfl⟩

theorem State.announce_shape (s : State) (type : Nat) :
    ∃ pad wire, s.announce type = { s with tb := { s.tb with toutPad := pad }, wire := wire } :=
  ⟨(s.announce type).tb.toutPad, (s.announce type).wire, ((PadsOnly.refl s).announce type).eq⟩

theorem State.logEvent_shape (s : State) (type : Nat) : ∃ mg free, s.logEvent type = { s with mg := mg, freeIdx := free } := by
  unfold State.logEvent
  split
  · exact ⟨_, _, rfl⟩
  · exact ⟨s.mg, s.freeIdx, rfl⟩

/-- The epoch and the instant of the lease that a claim takes. -/
def State.leaseDated (s : State) : State :=
  (s.wr F.TW_EPOCH (max (s.rd F.TW_EPOCH) (s.rd F.TW_PEER_EPOCH) + 1)).wr64 F.TW_LAST_CLAIM_DT_LO F.TW_LAST_CLAIM_DT_HI s.dt

/-- The registers of a lease. -/
def State.leaseShown (s : State) : State := s.leaseDated.roleShown roleActing

/-- The lease taken: its registers, the role, and the Syncs of R274. -/
def State.leaseTaken (s : State) : State := (s.leaseDated.setRole roleActing).dualSync

theorem State.leaseTaken_eq (s : State) : s.leaseTaken = (s.leaseDated.setRole roleActing).dualSync := rfl

theorem State.leaseTaken_shape (s : State) : ∃ pad sync at_ wire, s.leaseTaken = { s.leaseShown with
    tb := { s.leaseDated.tb with toutPad := pad, nextSync := sync }, tw := { s.leaseDated.tw with readyAt := at_ }, wire := wire } := by
  obtain ⟨pad, at_, wire, hrole⟩ := s.leaseDated.setRole_shape roleActing
  obtain ⟨sync, hsync⟩ := (s.leaseDated.setRole roleActing).dualSync_shape
  rw [s.leaseTaken_eq, hsync, hrole]
  dsimp only
  exact ⟨pad, sync, at_, wire, rfl⟩

/-- SEQ of the twin generation functions skips ahead. -/
def State.seqSkipped (s : State) : State :=
  s.twinGens.foldl (fun s g => s.setGenSeq g (bits (s.gen g 0) 16 16 + s.rd F.FN_EVT_SKIP_SKIP)) s

theorem State.seqSkipped_shape (s : State) : ∃ fn, s.seqSkipped = { s with fn := fn } := State.foldl_setGenSeq_shape ..

/-- A claim is noted: backbone claims are due, no resynchronisation goes on, and CELLAR hears of it. -/
def State.claimNoted (s : State) : State :=
  let s1 : State := { s with tw := { s.tw with
    bbLeft := max 1 (s.rd F.TW_CLAIM_CFG_REPEAT), bbNext := s.tb.mono, rsWait := false, rsDoneAt := none } }
  ((s1.wr F.TW_RS_STAT_ACTIVE 0).inc F.TW_CLAIM_CNT).raise0 Src.TW_CLAIM (s1.rd F.TW_EPOCH)

/-- A claim is made known: announced on both paths, noted, and logged. -/
def State.claimTold (s : State) : State := (s.announce 0x03).claimNoted.logEvent logTwin

theorem State.claimTold_eq (s : State) : s.claimTold = (s.announce 0x03).claimNoted.logEvent logTwin := rfl

theorem State.claimTold_shape {s u : State} {tb : Tb} {tw : Tw} {fn : Fn} {wire : List WireOut}
    (h : s = { u with tb := tb, tw := tw, fn := fn, wire := wire }) :
    ∃ pad mg free wire, s.claimTold = { (u.wr F.TW_RS_STAT_ACTIVE 0).inc F.TW_CLAIM_CNT with
      tb := { tb with toutPad := pad }
      tw := { tw with bbLeft := max 1 (u.rd F.TW_CLAIM_CFG_REPEAT), bbNext := tb.mono, rsWait := false, rsDoneAt := none }
      fn := fn
      cl := { u.cl with inbox := u.cl.inbox ++ [⟨Src.TW_CLAIM, 0xFF, none, u.rd F.TW_EPOCH, false⟩] }
      mg := mg, freeIdx := free, wire := wire } := by
  obtain ⟨pad, wire, hsent⟩ := s.announce_shape 0x03
  obtain ⟨mg, free, hlog⟩ := (s.announce 0x03).claimNoted.logEvent_shape logTwin
  rw [s.claimTold_eq, hlog, hsent, h]
  exact ⟨pad, mg, free, wire, rfl⟩

theorem State.claim_eq (s : State) : s.claim = s.leaseTaken.seqSkipped.claimTold := rfl

/-- The registers that a claim writes. -/
def State.claimShown (s : State) : State := (s.leaseShown.wr F.TW_RS_STAT_ACTIVE 0).inc F.TW_CLAIM_CNT

/-- What a claim leaves (R272, R274). -/
theorem State.claim_shape (s : State) : ∃ pad sync at_ fn mg free wire, s.claim = { s.claimShown with
    tb := { s.leaseDated.tb with toutPad := pad, nextSync := sync }
    tw := { s.leaseDated.tw with
      readyAt := at_, bbLeft := max 1 (s.leaseShown.rd F.TW_CLAIM_CFG_REPEAT), bbNext := s.leaseDated.tb.mono, rsWait := false,
      rsDoneAt := none }
    fn := fn
    cl := { s.leaseShown.cl with inbox := s.leaseShown.cl.inbox ++ [⟨Src.TW_CLAIM, 0xFF, none, s.leaseShown.rd F.TW_EPOCH, false⟩] }
    mg := mg, freeIdx := free, wire := wire } := by
  obtain ⟨pad, sync, at_, wire, htaken⟩ := s.leaseTaken_shape
  obtain ⟨fn, hskip⟩ := s.leaseTaken.seqSkipped_shape
  have hlease : s.leaseTaken.seqSkipped = { s.leaseShown with
      tb := { s.leaseDated.tb with toutPad := pad, nextSync := sync }, tw := { s.leaseDated.tw with readyAt := at_ }, fn := fn
      wire := wire } := hskip.trans (congrArg (fun x : State => { x with fn := fn }) htaken)
  obtain ⟨pad', mg, free, wire', htold⟩ := State.claimTold_shape hlease
  exact ⟨pad', sync, at_, fn, mg, free, wire', htold⟩

/-- The registers that a claim may change, with those of the peer and of the command that led to it. -/
def claimFields : List Fld := [F.TW_STATUS_ROLE, F.TW_STATUS_READY, F.TW_EPOCH, F.TW_PEER_EPOCH, F.TW_LAST_CLAIM_DT_LO, F.TW_LAST_CLAIM_DT_HI,
  F.TW_CLAIM_CNT, F.TW_RS_STAT_ACTIVE, F.TW_CMD_RESULT_DONE, F.TW_CMD_RESULT_CODE, F.TW_STATUS_PEER_OK]

/-- From `s` the twin has claimed and stands in `t` (R272). -/
def State.Claimed (s t : State) : Prop := t.rd F.TW_STATUS_ROLE = 4 ∧ t.rd F.TW_STATUS_READY = 1
  ∧ t.rd F.TW_EPOCH = (max (s.rd F.TW_EPOCH) (s.rd F.TW_PEER_EPOCH) + 1) % 2 ^ 32
  ∧ t.rd64 F.TW_LAST_CLAIM_DT_LO F.TW_LAST_CLAIM_DT_HI = s.tb.dt.toNat
  ∧ t.rd F.TW_CLAIM_CNT = min (s.rd F.TW_CLAIM_CNT + 1) (2 ^ 32 - 1)
  ∧ ⟨Src.TW_CLAIM, 0xFF, none, t.rd F.TW_EPOCH, false⟩ ∈ t.cl.inbox
  ∧ t.tw.bbLeft = max 1 (s.rd F.TW_CLAIM_CFG_REPEAT)
  ∧ (s.fwRuns = false → s.keepsRegs t claimFields)
  ∧ t.gy = s.gy ∧ t.kn = s.kn ∧ t.ms = s.ms ∧ t.ln = s.ln

section
variable (s : State)

theorem State.leaseShown_keepsRegs : s.keepsRegs s.leaseShown
    [F.TW_STATUS_ROLE, F.TW_STATUS_READY, F.TW_EPOCH, F.TW_LAST_CLAIM_DT_LO, F.TW_LAST_CLAIM_DT_HI] :=
  State.keepsRegs.refl s _ |>.wr (by decide) |>.wr64 (v := s.dt) (by decide) (by decide) |>.wr (by decide) |>.wr (by decide)

theorem State.rd_leaseShown (f : Fld) (h : f.key ∉ [F.TW_STATUS_ROLE, F.TW_STATUS_READY].map Fld.key) :
    s.leaseShown.rd f = s.leaseDated.rd f := s.leaseDated.rd_roleShown_ne _ h

theorem State.rd_leaseShown_epoch : s.leaseShown.rd F.TW_EPOCH = (max (s.rd F.TW_EPOCH) (s.rd F.TW_PEER_EPOCH) + 1) % 2 ^ 32 :=
  (s.rd_leaseShown _ (by decide)).trans ((State.rd_wr64_ne _ (by decide) (by decide)).trans (State.rd_wr_same _ _ _ (by decide)))

theorem State.rd64_leaseShown : s.leaseShown.rd64 F.TW_LAST_CLAIM_DT_LO F.TW_LAST_CLAIM_DT_HI = s.tb.dt.toNat := by
  rw [State.rd64, s.rd_leaseShown _ (by decide), s.rd_leaseShown _ (by decide)]
  exact State.rd64_wr64_same _ _ _ _ rfl rfl (by decide) (BitVec.isLt _)

theorem State.rd_claimShown {f : Fld} (h : f.key ∉ [F.TW_RS_STAT_ACTIVE, F.TW_CLAIM_CNT].map Fld.key) :
    s.claimShown.rd f = s.leaseShown.rd f :=
  (State.keepsRegs.refl s.leaseShown _ |>.wr (by decide) |>.inc (by decide) : s.leaseShown.keepsRegs s.claimShown _) f h

theorem State.rd_claimShown_count : s.claimShown.rd F.TW_CLAIM_CNT = min (s.rd F.TW_CLAIM_CNT + 1) (2 ^ 32 - 1) := by
  have hcnt : (s.leaseShown.wr F.TW_RS_STAT_ACTIVE 0).rd F.TW_CLAIM_CNT = s.rd F.TW_CLAIM_CNT :=
    (State.rd_wr_ne _ _ _ _ (by decide)).trans (s.leaseShown_keepsRegs _ (by decide))
  rw [← hcnt]
  exact State.rd_inc_same _ _ (by decide)

theorem State.rd_claim (f : Fld) : s.claim.rd f = s.claimShown.rd f := by
  obtain ⟨pad, sync, at_, fn, mg, free, wire, h⟩ := s.claim_shape
  rw [h, State.rd_mk]

theorem State.claim_claimed : s.Claimed s.claim := by
  have hrd {f : Fld} (hf : f.key ∉ [F.TW_RS_STAT_ACTIVE, F.TW_CLAIM_CNT].map Fld.key) : s.claim.rd f = s.leaseShown.rd f :=
    (s.rd_claim f).trans (s.rd_claimShown hf)
  have hkeep : s.keepsRegs s.claimShown claimFields := s.leaseShown_keepsRegs.mono (by decide) |>.wr (by decide) |>.inc (by decide)
  refine ⟨(hrd (by decide)).trans (State.rd_roleShown_role _ (by decide)), (hrd (by decide)).trans (State.rd_roleShown_ready _ _),
    (hrd (by decide)).trans s.rd_leaseShown_epoch, ?_, (s.rd_claim _).trans s.rd_claimShown_count, ?_, ?_,
    fun _ f hf => (s.rd_claim f).trans (hkeep f hf), ?_⟩
  · rw [State.rd64, hrd (by decide), hrd (by decide)]
    exact s.rd64_leaseShown
  all_goals obtain ⟨pad, sync, at_, fn, mg, free, wire, h⟩ := s.claim_shape
  · rw [hrd (by decide), h]
    exact List.mem_append_right _ (List.mem_singleton_self _)
  · rw [h]
    exact congrArg (max 1) (s.leaseShown_keepsRegs _ (by decide))
  · rw [h]
    exact ⟨rfl, rfl, rfl, rfl⟩

end

section
variable {s t : State}

/-- A claim after the peer was marked silent is a claim. -/
theorem State.Claimed.of_peerSilent (h : (s.wr F.TW_STATUS_PEER_OK 0).Claimed t) : s.Claimed t := by
  have hrd (f : Fld) (hf : f.key ≠ F.TW_STATUS_PEER_OK.key) : (s.wr F.TW_STATUS_PEER_OK 0).rd f = s.rd f := State.rd_wr_ne _ _ _ _ hf
  obtain ⟨hrole, hready, hepoch, hdt, hcnt, hraise, hleft, hkeep, hrest⟩ := h
  rw [hrd _ (by decide), hrd _ (by decide)] at hepoch
  rw [hrd _ (by decide)] at hcnt hleft
  have hfw : (s.wr F.TW_STATUS_PEER_OK 0).fwRuns = s.fwRuns := by
    rw [State.fwRuns, hrd _ (by decide), State.fwRuns]
    rfl
  exact ⟨hrole, hready, hepoch, hdt, hcnt, hraise, hleft,
    fun hs => ((State.keepsRegs.refl s _).wr (by decide)).trans (hkeep (hfw.trans hs)), hrest⟩

/-- The result of a command changes nothing of a claim. -/
theorem State.Claimed.twDone (h : s.Claimed t) (code : Nat) : s.Claimed (t.twDone code) := by
  have hrd (f : Fld) (hf : f.key ∉ [F.TW_CMD_RESULT_DONE, F.TW_CMD_RESULT_CODE].map Fld.key) : (t.twDone code).rd f = t.rd f :=
    (State.keepsRegs.refl t _ |>.wr (by decide) |>.wr (by decide) : t.keepsRegs (t.twDone code) _) f hf
  obtain ⟨hrole, hready, hepoch, hdt, hcnt, hraise, hleft, hkeep, hrest⟩ := h
  refine ⟨?_, ?_, ?_, ?_, ?_, ?_, hleft, fun hs => hkeep hs |>.wr (by decide) |>.wr (by decide), hrest⟩
  · rw [hrd _ (by decide), hrole]
  · rw [hrd _ (by decide), hready]
  · rw [hrd _ (by decide), hepoch]
  · rw [State.rd64, hrd _ (by decide), hrd _ (by decide)]
    exact hdt
  · rw [hrd _ (by decide), hcnt]
  · rw [hrd _ (by decide)]
    exact hraise

end

/-! SYNCING (R284). -/

theorem State.hzWipe_eq (s : State) :
    s.hzWipe = { s.wr F.MS_STATUS_HZN_LEVEL 0 with hz := { s.hz with queue := [], view := [] } } := by
  rw [State.hzWipe, State.hzLevel, List.length_nil]
  rfl

/-- What the way into SYNCING leaves (R284). -/
theorem State.enterSync_shape (s : State) : ∃ pad at_ fn wire, s.enterSync
    = { ((s.roleShown roleSyncing).wr F.MS_STATUS_HZN_LEVEL 0).wr F.TW_RS_STAT_ACTIVE 0 with
      tb := { s.tb with toutPad := pad }
      tw := { s.tw with
        readyAt := at_, rsWait := true, rsServe := false, rsNext := 0, rsDoneAt := none, bbLeft := 0, newest := [] }
      hz := { s.hz with queue := [], view := [] }
      fn := fn, wire := wire } := by
  obtain ⟨pad, at_, wire, hrole⟩ := s.setRole_shape roleSyncing
  obtain ⟨fn, hseq⟩ := State.foldl_setGenSeq_shape (s.setRole roleSyncing).hzWipe.twinGens (fun _ _ => 0) (s.setRole roleSyncing).hzWipe
  rw [State.enterSync]
  dsimp only
  rw [hseq, State.hzWipe_eq, hrole]
  exact ⟨pad, at_, fn, wire, rfl⟩

/-- The registers that the way into SYNCING may change. -/
def syncFields : List Fld := [F.TW_STATUS_ROLE, F.TW_STATUS_READY, F.MS_STATUS_HZN_LEVEL, F.TW_RS_STAT_ACTIVE]

section
variable (s : State)

theorem State.rd_enterSync (f : Fld) :
    s.enterSync.rd f = (((s.roleShown roleSyncing).wr F.MS_STATUS_HZN_LEVEL 0).wr F.TW_RS_STAT_ACTIVE 0).rd f := by
  obtain ⟨pad, at_, fn, wire, h⟩ := s.enterSync_shape
  rw [h, State.rd_mk]

theorem State.enterSync_keepsRegs : s.keepsRegs s.enterSync syncFields := by
  have h : s.keepsRegs (((s.roleShown roleSyncing).wr F.MS_STATUS_HZN_LEVEL 0).wr F.TW_RS_STAT_ACTIVE 0) syncFields :=
    State.keepsRegs.refl s _ |>.wr (by decide) |>.wr (by decide) |>.wr (by decide) |>.wr (by decide)
  exact fun f hf => (s.rd_enterSync f).trans (h f hf)

theorem State.rd_enterSync_role : s.enterSync.rd F.TW_STATUS_ROLE = 2 := by
  rw [s.rd_enterSync, State.rd_wr_ne _ _ _ _ (by decide), State.rd_wr_ne _ _ _ _ (by decide)]
  exact State.rd_roleShown_role _ (by decide)

theorem State.rd_enterSync_ready : s.enterSync.rd F.TW_STATUS_READY = 0 := by
  rw [s.rd_enterSync, State.rd_wr_ne _ _ _ _ (by decide), State.rd_wr_ne _ _ _ _ (by decide)]
  exact State.rd_roleShown_ready _ _

theorem State.enterSync_rest : s.enterSync.tw.rsWait = true ∧ s.enterSync.hz.queue = [] ∧ s.enterSync.hz.view = [] ∧ s.enterSync.gy = s.gy := by
  obtain ⟨pad, at_, fn, wire, h⟩ := s.enterSync_shape
  rw [h]
  exact ⟨rfl, rfl, rfl, rfl⟩

end

/-! Leases of the peer (R271, R273). -/

theorem State.raisedLogged_shape (s : State) (src info type : Nat) : ∃ cl mg free, (s.raise0 src info).logEvent type
    = { s with cl := cl, mg := mg, freeIdx := free } := by
  obtain ⟨mg, free, h⟩ := (s.raise0 src info).logEvent_shape type
  exact ⟨_, mg, free, h⟩

theorem State.yieldLease_shape (s : State) : ∃ cl mg free, s.yieldLease
    = { s.enterSync.inc F.TW_YIELD_CNT with cl := cl, mg := mg, freeIdx := free } :=
  (s.enterSync.inc F.TW_YIELD_CNT).raisedLogged_shape ..

/-- What a yield leaves (R271, R284). -/
theorem State.yieldLease_yielded (s : State) : s.yieldLease.rd F.TW_STATUS_ROLE = 2 ∧ s.yieldLease.rd F.TW_STATUS_READY = 0
    ∧ s.yieldLease.rd F.TW_PEER_EPOCH = s.rd F.TW_PEER_EPOCH
    ∧ s.yieldLease.rd F.TW_YIELD_CNT = min (s.rd F.TW_YIELD_CNT + 1) (2 ^ 32 - 1)
    ∧ s.yieldLease.hz.queue = [] ∧ s.yieldLease.hz.view = [] ∧ s.yieldLease.gy = s.gy := by
  obtain ⟨cl, mg, free, h⟩ := s.yieldLease_shape
  have hrd (f : Fld) : s.yieldLease.rd f = (s.enterSync.inc F.TW_YIELD_CNT).rd f := by rw [h, State.rd_mk]
  obtain ⟨-, hqueue, hview, hgy⟩ := s.enterSync_rest
  refine ⟨?_, ?_, ?_, ?_, ?_⟩
  · rw [hrd, State.rd_inc_ne _ (by decide), s.rd_enterSync_role]
  · rw [hrd, State.rd_inc_ne _ (by decide), s.rd_enterSync_ready]
  · rw [hrd, State.rd_inc_ne _ (by decide), s.enterSync_keepsRegs _ (by decide)]
  · rw [hrd, State.rd_inc_same _ _ (by decide), s.enterSync_keepsRegs _ (by decide)]
    rfl
  · rw [h]
    generalize s.enterSync = u at hqueue hview hgy
    exact ⟨hqueue, hview, hgy⟩

section
variable {s : State} {e id : Nat}

theorem State.rd_seeEpoch_ne {f : Fld} (h : f.key ≠ F.TW_PEER_EPOCH.key) : (s.seeEpoch e).rd f = s.rd f :=
  State.rd_wr_ne _ _ _ _ h

theorem State.rd_seeEpoch (h : e < 2 ^ 32) : (s.seeEpoch e).rd F.TW_PEER_EPOCH = max e (s.rd F.TW_PEER_EPOCH) :=
  (State.rd_wr_same _ _ _ (by decide)).trans (Nat.mod_eq_of_lt (max_lt h (BitVec.isLt _)))

/-- A twin that does not act, or whose lease is the later one, notes the peer's epoch and no more. -/
theorem State.seeLease_noted (h : s.rd F.TW_STATUS_ROLE ≠ 4 ∨ e < s.rd F.TW_EPOCH) : s.seeLease e id = s.seeEpoch e := by
  refine if_neg ?_
  rintro ⟨hrole, hgreater⟩
  rw [State.role, State.rd_seeEpoch_ne (by decide)] at hrole
  rw [State.greaterLease, State.rd_seeEpoch_ne (by decide)] at hgreater
  rcases h with h | h
  · exact h hrole
  · simp at hgreater
    omega

theorem State.seeLease_yields (hrole : s.rd F.TW_STATUS_ROLE = 4) (he : s.rd F.TW_EPOCH < e) : s.seeLease e id = (s.seeEpoch e).yieldLease := by
  refine if_pos ⟨?_, ?_⟩
  · rw [State.role, State.rd_seeEpoch_ne (by decide), hrole]
    rfl
  · rw [State.greaterLease, State.rd_seeEpoch_ne (by decide), decide_eq_true he, Bool.true_or]

end

/-- The agent listens to a claim or a release: the path is enabled, the frame is of this pair, and its sender is the other twin. -/
def State.listens (s : State) (pulse : Bool) (pair : Word) (id : Fin 2) : Prop :=
  s.on F.TW_CTRL_EN = true ∧ s.on (if pulse then F.TW_CTRL_PULSE_EN else F.TW_CTRL_DOLNOS_EN) = true ∧ pair.toNat = s.rd F.TW_PAIR_ID
    ∧ id.val ≠ s.rd F.TW_STATUS_TWIN_ID

section
variable {s : State} {pulse : Bool} {pair epoch : Word} {id : Fin 2}

/-- The test that the meanings of claims and releases begin with. -/
theorem State.not_listens_iff : ¬ s.listens pulse pair id ↔ ¬ s.on F.TW_CTRL_EN = true
    ∨ ¬ s.on (if pulse = true then F.TW_CTRL_PULSE_EN else F.TW_CTRL_DOLNOS_EN) = true ∨ pair.toNat ≠ s.rd F.TW_PAIR_ID
    ∨ id.val = s.twinId := by
  show ¬ (s.on F.TW_CTRL_EN = true ∧ _ ∧ pair.toNat = s.rd F.TW_PAIR_ID ∧ id.val ≠ s.twinId) ↔ _
  simp only [not_and_or, not_not, ne_eq]

theorem execClaimRx_deaf (h : ¬ s.listens pulse pair id) : exec (.claimRx pulse pair epoch id) s = .next s :=
  congrArg Host.Outcome.next (if_pos (State.not_listens_iff.mp h))

theorem execReleaseRx_deaf (h : ¬ s.listens pulse pair id) : exec (.releaseRx pulse pair epoch id) s = .next s :=
  congrArg Host.Outcome.next (if_pos (State.not_listens_iff.mp h))

theorem execClaimRx_heard (h : s.listens pulse pair id) : exec (.claimRx pulse pair epoch id) s = .next (s.seeLease epoch.toNat id.val) :=
  congrArg Host.Outcome.next (if_neg (fun g => State.not_listens_iff.mpr g h))

theorem execReleaseRx_heard (h : s.listens pulse pair id) : exec (.releaseRx pulse pair epoch id) s
    = .next (if s.rd F.TW_STATUS_ROLE = 3 ∧ s.rd F.TW_PEER_EPOCH ≤ epoch.toNat then (s.seeEpoch epoch.toNat).claim
      else s.seeEpoch epoch.toNat) := by
  have hseen : (s.seeEpoch epoch.toNat).role = roleStandby ∧ epoch.toNat = (s.seeEpoch epoch.toNat).rd F.TW_PEER_EPOCH
      ↔ s.rd F.TW_STATUS_ROLE = 3 ∧ s.rd F.TW_PEER_EPOCH ≤ epoch.toNat := by
    rw [State.role, State.rd_seeEpoch_ne (by decide), State.rd_seeEpoch epoch.isLt, roleStandby]
    omega
  refine congrArg Host.Outcome.next ((if_neg (fun g => State.not_listens_iff.mpr g h)).trans ?_)
  dsimp only
  rw [if_congr hseen rfl rfl]

end

/-! TW_CTRL.EN (R262, R290). -/

section
variable {m : Nat} {s : State} (h : s.accepts m 0x120000 permW)
include h

theorem execTwinEnable_accepts : exec (.twinEnable m) s = .next (s.twEnWrite true) := congrArg Host.Outcome.next (State.busW_accepts h _)

theorem execTwinDisable_accepts : exec (.twinDisable m) s = .next (s.twEnWrite false) := congrArg Host.Outcome.next (State.busW_accepts h _)

end

section
variable {s : State}

/-- A write of EN that changes nothing does nothing. -/
theorem State.twEnWrite_same {b : Bool} (h : s.on F.TW_CTRL_EN = b) : s.twEnWrite b = s := if_pos (by rw [h]; exact beq_self_eq_true b)

theorem State.twEnWrite_enables (h : s.on F.TW_CTRL_EN = false) : s.twEnWrite true = s.twinEnable :=
  (if_neg (by rw [h]; decide)).trans (if_pos rfl)

theorem State.twEnWrite_disables (h : s.on F.TW_CTRL_EN = true) : s.twEnWrite false = s.twinDisable :=
  (if_neg (by rw [h]; decide)).trans (if_neg (by decide))

end

section
variable (s : State)

theorem State.twinEnable_shape : ∃ pad at_ wire, s.twinEnable = { (s.wr F.TW_CTRL_EN 1).roleShown roleForming with
    tb := { s.tb with toutPad := pad }
    tw := { s.tw with
      readyAt := at_, since := s.tb.mono, hbNext := s.tb.mono, stNext := s.tb.mono + 10000000, peerLostSent := false }
    wire := wire } := by
  obtain ⟨pad, at_, wire, h⟩ := (s.wr F.TW_CTRL_EN 1).setRole_shape roleForming
  rw [State.twinEnable, h]
  exact ⟨pad, at_, wire, rfl⟩

/-- What the rise of EN leaves (R262). -/
theorem State.twinEnable_enabled : s.twinEnable.on F.TW_CTRL_EN = true ∧ s.twinEnable.rd F.TW_STATUS_ROLE = 1
    ∧ s.twinEnable.rd F.TW_STATUS_READY = 0 ∧ s.twinEnable.tw.since = s.tb.mono ∧ s.twinEnable.tw.hbNext = s.tb.mono
    ∧ s.keepsRegs s.twinEnable [F.TW_CTRL_EN, F.TW_STATUS_ROLE, F.TW_STATUS_READY] := by
  obtain ⟨pad, at_, wire, h⟩ := s.twinEnable_shape
  have hrd (f : Fld) : s.twinEnable.rd f = ((s.wr F.TW_CTRL_EN 1).roleShown roleForming).rd f := by rw [h, State.rd_mk]
  have hkeep : s.keepsRegs ((s.wr F.TW_CTRL_EN 1).roleShown roleForming) [F.TW_CTRL_EN, F.TW_STATUS_ROLE, F.TW_STATUS_READY] :=
    State.keepsRegs.refl s _ |>.wr (by decide) |>.wr (by decide) |>.wr (by decide)
  refine ⟨?_, (hrd _).trans (State.rd_roleShown_role _ (by decide)), (hrd _).trans (State.rd_roleShown_ready _ _), by rw [h], by rw [h],
    fun f hf => (hrd f).trans (hkeep f hf)⟩
  rw [State.on, hrd, State.rd_roleShown_ne _ _ (by decide), State.rd_wr_same _ _ _ (by decide)]
  rfl

/-- The registers that the fall of EN clears. -/
def disableFields : List Fld := [F.TW_EPOCH, F.TW_STATUS_PEER_OK, F.TW_RS_STAT_ACTIVE, F.TW_STATUS_DOLNOS_UP, F.TW_STATUS_PULSE_UP,
  F.TW_STATUS_PEER_ACTING]

/-- The agent's registers cleared, but for the role. -/
def State.agentRegsCleared (s : State) : State :=
  (((((s.wr F.TW_EPOCH 0).wr F.TW_STATUS_PEER_OK 0).wr F.TW_RS_STAT_ACTIVE 0).wr F.TW_STATUS_DOLNOS_UP 0).wr F.TW_STATUS_PULSE_UP 0).wr
    F.TW_STATUS_PEER_ACTING 0

theorem State.agentRegsCleared_keepsRegs : s.keepsRegs s.agentRegsCleared disableFields :=
  State.keepsRegs.refl s _ |>.wr (by decide) |>.wr (by decide) |>.wr (by decide) |>.wr (by decide) |>.wr (by decide) |>.wr (by decide)

/-- With them the agent's memory, but for the dirty map and what stands with it (R290). -/
def State.agentCleared (s : State) : State :=
  { s.agentRegsCleared with tw := { Tw.reset with
      dirty := s.tw.dirty, newest := s.tw.newest, ueAt := s.tw.ueAt, unresAt := s.tw.unresAt,
      mirBuf := s.tw.mirBuf, lossRaised := s.tw.lossRaised, tests := s.tw.tests } }

theorem State.twinDisable_eq : s.twinDisable = ((s.wr F.TW_CTRL_EN 0).setRole roleDisabled).agentCleared := rfl

theorem State.rd_agentCleared (f : Fld) : s.agentCleared.rd f = s.agentRegsCleared.rd f := State.rd_of_regs rfl f

theorem State.agentCleared_keepsRegs : s.keepsRegs s.agentCleared disableFields :=
  fun f hf => (s.rd_agentCleared f).trans (s.agentRegsCleared_keepsRegs f hf)

theorem State.rd_agentCleared_epoch : s.agentCleared.rd F.TW_EPOCH = 0 := by
  have h : (s.wr F.TW_EPOCH 0).keepsRegs s.agentRegsCleared (disableFields.drop 1) :=
    State.keepsRegs.refl _ _ |>.wr (by decide) |>.wr (by decide) |>.wr (by decide) |>.wr (by decide) |>.wr (by decide)
  rw [s.rd_agentCleared, h _ (by decide)]
  exact State.rd_wr_same _ _ _ (by decide)

theorem State.rd_agentCleared_peerOk : s.agentCleared.rd F.TW_STATUS_PEER_OK = 0 := by
  have h : ((s.wr F.TW_EPOCH 0).wr F.TW_STATUS_PEER_OK 0).keepsRegs s.agentRegsCleared (disableFields.drop 2) :=
    State.keepsRegs.refl _ _ |>.wr (by decide) |>.wr (by decide) |>.wr (by decide) |>.wr (by decide)
  rw [s.rd_agentCleared, h _ (by decide)]
  exact State.rd_wr_same _ _ _ (by decide)

/-- What the fall of EN leaves (R290). -/
theorem State.twinDisable_disabled : s.twinDisable.on F.TW_CTRL_EN = false ∧ s.twinDisable.rd F.TW_STATUS_ROLE = 0
    ∧ s.twinDisable.rd F.TW_EPOCH = 0 ∧ s.twinDisable.rd F.TW_STATUS_PEER_OK = 0 ∧ s.twinDisable.hz = s.hz
    ∧ s.twinDisable.tw.dirty = s.tw.dirty ∧ s.twinDisable.tw.unacked = [] ∧ s.twinDisable.gy = s.gy := by
  obtain ⟨pad, at_, wire, h⟩ := (s.wr F.TW_CTRL_EN 0).setRole_shape roleDisabled
  generalize hu : (s.wr F.TW_CTRL_EN 0).setRole roleDisabled = u at h
  have hkeep := u.agentCleared_keepsRegs
  rw [s.twinDisable_eq, hu]
  refine ⟨?_, ?_, u.rd_agentCleared_epoch, u.rd_agentCleared_peerOk, ?_, ?_, rfl, ?_⟩
  · rw [State.on, hkeep _ (by decide), h, State.rd_mk, State.rd_roleShown_ne _ _ (by decide), State.rd_wr_same _ _ _ (by decide)]
    rfl
  · rw [hkeep _ (by decide), h, State.rd_mk, State.rd_roleShown_role _ (by decide), roleDisabled]
  · exact (rfl : u.agentCleared.hz = u.hz).trans (by rw [h]; rfl)
  · exact (rfl : u.agentCleared.tw.dirty = u.tw.dirty).trans (by rw [h]; rfl)
  · exact (rfl : u.agentCleared.gy = u.gy).trans (by rw [h]; rfl)

end

/-! Forming alone and the lease's expiry (R262, R272). -/

section
variable {s : State}

/-- The state with TW_PEER_LOST raised for a peer that did not appear. -/
def State.peerMissed (s : State) : State := { s with tw := { s.tw with peerLostSent := true } }.raise0 Src.TW_PEER_LOST 0

theorem execFormWaitExpiry_due (hrole : s.rd F.TW_STATUS_ROLE = 1) (hpeer : s.on F.TW_STATUS_PEER_OK = false)
    (hsent : s.tw.peerLostSent = false) (ht : s.tw.since + s.rd F.TW_FORM_WAIT * 1000000 ≤ s.tb.mono) : exec .formWaitExpiry s
    = .next (if s.on F.TW_CTRL_CLAIM_ALONE then s.peerMissed.claim else s.peerMissed) :=
  congrArg Host.Outcome.next (if_pos ⟨hrole, Bool.eq_false_iff.mp hpeer, Bool.eq_false_iff.mp hsent, ht⟩)

theorem execFormWaitExpiry_waits (h : s.rd F.TW_STATUS_ROLE ≠ 1 ∨ s.on F.TW_STATUS_PEER_OK = true
    ∨ s.tb.mono < s.tw.since + s.rd F.TW_FORM_WAIT * 1000000) : exec .formWaitExpiry s = .next s := by
  refine congrArg Host.Outcome.next (if_neg ?_)
  rintro ⟨hrole, hpeer, -, ht⟩
  rcases h with h | h | h
  · exact h hrole
  · exact hpeer h
  · omega

theorem execLeaseExpiry_waits (h : s.on F.TW_CTRL_EN = false ∨ s.tb.mono < s.lastHeard + s.silenceNs) : exec .leaseExpiry s = .next s :=
  congrArg Host.Outcome.next (if_pos (h.imp_left Bool.eq_false_iff.mp))

/-- Silence for a lease and its guard time at a standby twin. -/
theorem execLeaseExpiry_standby (hen : s.on F.TW_CTRL_EN = true) (ht : s.lastHeard + s.silenceNs ≤ s.tb.mono)
    (hrole : s.rd F.TW_STATUS_ROLE = 3) : exec .leaseExpiry s
    = .next (if ¬ s.on F.TW_STATUS_SELFTEST_FAIL ∨ s.on F.TW_CTRL_CLAIM_IF_FAILED then (s.wr F.TW_STATUS_PEER_OK 0).claim
      else s.wr F.TW_STATUS_PEER_OK 0) :=
  congrArg Host.Outcome.next ((if_neg (not_or.mpr ⟨not_not_intro hen, Nat.not_lt.mpr ht⟩)).trans (if_pos hrole))

theorem State.rd_claim_peerOk (s : State) : (s.wr F.TW_STATUS_PEER_OK 0).claim.rd F.TW_STATUS_PEER_OK = 0 := by
  rw [State.rd_claim, State.rd_claimShown _ (by decide), State.leaseShown_keepsRegs _ _ (by decide)]
  exact State.rd_wr_same _ _ _ (by decide)

end

/-! TW_CMD (R272, R273, R284, R289). -/

section
variable {m : Nat} {s : State} (h : s.accepts m 0x120008 permW)
include h

theorem execTwRelease_accepts : exec (.twRelease m) s = .next s.twRelease := congrArg Host.Outcome.next (State.busW_accepts h _)

theorem execForceClaim_accepts : exec (.forceClaim m) s = .next s.forceClaim := congrArg Host.Outcome.next (State.busW_accepts h _)

theorem execRejoin_accepts : exec (.rejoin m) s = .next s.rejoin := congrArg Host.Outcome.next (State.busW_accepts h _)

end

/-- The release announced three times (R273). -/
def State.releaseTold (s : State) : State := ((s.announce 0x04).announce 0x04).announce 0x04

/-- The lease given up (R273). -/
def State.leaseReleased (s : State) : State :=
  ({ s.releaseTold with tw := { s.releaseTold.tw with bbLeft := 0 } } : State).setRole roleStandby

theorem State.releaseTold_shape (s : State) : ∃ pad wire, s.releaseTold = { s with tb := { s.tb with toutPad := pad }, wire := wire } :=
  ⟨s.releaseTold.tb.toutPad, s.releaseTold.wire, ((((PadsOnly.refl s).announce 0x04).announce 0x04).announce 0x04).eq⟩

theorem State.leaseReleased_shape (s : State) : ∃ pad at_ wire, s.leaseReleased = { s.roleShown roleStandby with
    tb := { s.tb with toutPad := pad }, tw := { s.tw with readyAt := at_, bbLeft := 0 }, wire := wire } := by
  obtain ⟨pad, wire, hsent⟩ := s.releaseTold_shape
  obtain ⟨pad', at_, wire', hrole⟩ :=
    ({ s.releaseTold with tw := { s.releaseTold.tw with bbLeft := 0 } } : State).setRole_shape roleStandby
  rw [hsent] at hrole
  have hlease : s.leaseReleased = _ :=
    congrArg (fun x : State => ({ x with tw := { x.tw with bbLeft := 0 } } : State).setRole roleStandby) hsent
  exact ⟨pad', at_, wire', hlease.trans hrole⟩

theorem State.twDone_keepsRegs (s : State) (code : Nat) : s.keepsRegs (s.twDone code) [F.TW_CMD_RESULT_DONE, F.TW_CMD_RESULT_CODE] :=
  State.keepsRegs.refl s _ |>.wr (by decide) |>.wr (by decide)

theorem State.rd_twDone_code (s : State) : (s.twDone 0).rd F.TW_CMD_RESULT_CODE = 0 := State.rd_wr_same _ _ _ (by decide)

/-- What RELEASE leaves (R273). -/
theorem State.leaseReleased_done (s : State) : let t := s.leaseReleased.twDone 0
    t.rd F.TW_STATUS_ROLE = 3 ∧ t.rd F.TW_CMD_RESULT_CODE = 0 ∧ t.rd F.TW_EPOCH = s.rd F.TW_EPOCH ∧ t.tw.bbLeft = 0 ∧ t.gy = s.gy
      ∧ s.keepsRegs t [F.TW_STATUS_ROLE, F.TW_STATUS_READY, F.TW_CMD_RESULT_DONE, F.TW_CMD_RESULT_CODE] := by
  obtain ⟨pad, at_, wire, h⟩ := s.leaseReleased_shape
  have hrd (f : Fld) : s.leaseReleased.rd f = (s.roleShown roleStandby).rd f := by rw [h, State.rd_mk]
  have hkeep : s.keepsRegs (s.roleShown roleStandby) [F.TW_STATUS_ROLE, F.TW_STATUS_READY] :=
    State.keepsRegs.refl s _ |>.wr (by decide) |>.wr (by decide)
  have hkeep' : s.keepsRegs s.leaseReleased [F.TW_STATUS_ROLE, F.TW_STATUS_READY] := fun f hf => (hrd f).trans (hkeep f hf)
  have hdone := s.leaseReleased.twDone_keepsRegs 0
  have hrest : s.leaseReleased.tw.bbLeft = 0 ∧ s.leaseReleased.gy = s.gy := by
    rw [h]
    exact ⟨rfl, rfl⟩
  refine ⟨?_, State.rd_twDone_code _, ?_, hrest.1, hrest.2, (hkeep'.mono (by decide)).trans (hdone.mono (by decide))⟩
  · rw [hdone _ (by decide), hrd]
    exact State.rd_roleShown_role _ (by decide)
  · rw [hdone _ (by decide), hkeep' _ (by decide)]

/-- What REJOIN leaves (R284, R289). -/
theorem State.enterSync_done (s : State) : let t := s.enterSync.twDone 0
    t.rd F.TW_STATUS_ROLE = 2 ∧ t.rd F.TW_CMD_RESULT_CODE = 0 ∧ t.tw.rsWait = true ∧ t.hz.queue = [] ∧ t.hz.view = [] := by
  have hrole := s.rd_enterSync_role
  obtain ⟨hwait, hqueue, hview, -⟩ := s.enterSync_rest
  generalize s.enterSync = u at hrole hwait hqueue hview
  exact ⟨(u.twDone_keepsRegs 0 _ (by decide)).trans hrole, u.rd_twDone_code, hwait, hqueue, hview⟩

/-- A command of a twin that is off (R272). -/
theorem State.twCmd_off {s : State} (h : s.on F.TW_CTRL_EN = false) :
    s.twRelease = s.twDone 5 ∧ s.forceClaim = s.twDone 5 ∧ s.rejoin = s.twDone 5 :=
  have hoff := Bool.eq_false_iff.mp h
  ⟨if_pos hoff, if_pos hoff, if_pos hoff⟩

section
variable {s : State} (hen : s.on F.TW_CTRL_EN = true)
include hen

theorem State.forceClaim_acting (hrole : s.rd F.TW_STATUS_ROLE = 4) : s.forceClaim = s.twDone 4 :=
  (if_neg (not_not_intro hen)).trans (if_pos hrole)

theorem State.forceClaim_claims (hrole : s.rd F.TW_STATUS_ROLE ≠ 4) : s.forceClaim = s.claim.twDone 0 :=
  (if_neg (not_not_intro hen)).trans (if_neg hrole)

theorem State.twRelease_notActing (hrole : s.rd F.TW_STATUS_ROLE ≠ 4) : s.twRelease = s.twDone 1 :=
  (if_neg (not_not_intro hen)).trans (if_pos hrole)

theorem State.rejoin_syncs (h : s.rd F.TW_STATUS_ROLE = 3 ∨ (s.rd F.TW_STATUS_ROLE = 4 ∧ s.on F.TW_STATUS_PEER_OK = false)) :
    s.rejoin = s.enterSync.twDone 0 :=
  (if_neg (not_not_intro hen)).trans (if_pos (h.imp_right (And.imp_right Bool.eq_false_iff.mp)))

section
variable (hrole : s.rd F.TW_STATUS_ROLE = 4)
include hrole

theorem State.twRelease_acting : s.twRelease = if ¬ s.on F.TW_STATUS_PEER_OK then s.twDone 2
    else if ¬ (s.tw.peerRole = roleStandby ∧ s.tw.peerReady) then s.twDone 3
    else s.leaseReleased.twDone 0 :=
  (if_neg (not_not_intro hen)).trans (if_neg (not_not_intro hrole))

theorem State.twRelease_noPeer (hpeer : s.on F.TW_STATUS_PEER_OK = false) : s.twRelease = s.twDone 2 :=
  (s.twRelease_acting hen hrole).trans (if_pos (Bool.eq_false_iff.mp hpeer))

theorem State.twRelease_notReady (hpeer : s.on F.TW_STATUS_PEER_OK = true) (h : s.tw.peerRole ≠ 3 ∨ s.tw.peerReady = false) :
    s.twRelease = s.twDone 3 := by
  refine (s.twRelease_acting hen hrole).trans ((if_neg (not_not_intro hpeer)).trans (if_pos ?_))
  rintro ⟨hr, hready⟩
  exact h.elim (fun g => g hr) (fun g => Bool.eq_false_iff.mp g hready)

theorem State.twRelease_releases (hpeer : s.on F.TW_STATUS_PEER_OK = true) (hr : s.tw.peerRole = 3) (hready : s.tw.peerReady = true) :
    s.twRelease = s.leaseReleased.twDone 0 :=
  (s.twRelease_acting hen hrole).trans ((if_neg (not_not_intro hpeer)).trans (if_neg (not_not_intro ⟨hr, hready⟩)))

theorem State.rejoin_refused (hpeer : s.on F.TW_STATUS_PEER_OK = true) : s.rejoin = s.twDone 4 := by
  refine (if_neg (not_not_intro hen)).trans ((if_neg ?_).trans (if_pos hrole))
  rintro (h | h)
  · exact absurd (hrole.symm.trans h) (by decide)
  · exact h.2 hpeer

end

end

/-- Settles O37: each command by its rule above; a claim by `claim_claimed`, whatever led to it, a yield by `yieldLease_yielded`. -/
theorem rolesOfTheTwin : Obligations.RolesOfTheTwin := by
  intro m pulse pair epoch id s role claimed said listens
  refine ⟨fun ha => ⟨fun hen => ?_, fun hen => ?_, fun hen => ?_, fun hen => ?_⟩, fun hrole hpeer hsent ht => ?_, execFormWaitExpiry_waits,
    fun hen ht => ⟨fun hrole htest => ?_, fun hrole hfail hclaim => ?_⟩, execLeaseExpiry_waits,
    fun h => ⟨execClaimRx_deaf h, execReleaseRx_deaf h⟩, fun h => ⟨fun hn => ?_, fun hrole he => ?_, fun hrole he => ?_, fun hn => ?_⟩,
    fun ha => ?_⟩
  · exact ⟨_, (execTwinEnable_accepts ha).trans (congrArg _ (State.twEnWrite_enables hen)), s.twinEnable_enabled⟩
  · exact (execTwinEnable_accepts ha).trans (congrArg _ (State.twEnWrite_same hen))
  · exact ⟨_, (execTwinDisable_accepts ha).trans (congrArg _ (State.twEnWrite_disables hen)), s.twinDisable_disabled⟩
  · exact (execTwinDisable_accepts ha).trans (congrArg _ (State.twEnWrite_same hen))
  · rw [execFormWaitExpiry_due hrole hpeer hsent ht]
    exact ⟨fun halone => ⟨_, congrArg _ (if_pos halone), s.peerMissed.claim_claimed⟩, fun halone => by rw [halone]; rfl⟩
  · rw [execLeaseExpiry_standby hen ht hrole, if_pos (htest.imp_left Bool.eq_false_iff.mp)]
    exact ⟨_, rfl, (State.claim_claimed _).of_peerSilent, s.rd_claim_peerOk⟩
  · rw [execLeaseExpiry_standby hen ht hrole, hfail, hclaim]
    rfl
  · rw [execClaimRx_heard h, State.seeLease_noted hn, State.seeEpoch]
  · rw [execClaimRx_heard h, State.seeLease_yields hrole he]
    obtain ⟨hr, hready, hpe, hcnt, hrest⟩ := (s.seeEpoch epoch.toNat).yieldLease_yielded
    rw [State.rd_seeEpoch epoch.isLt] at hpe
    rw [State.rd_seeEpoch_ne (by decide)] at hcnt
    exact ⟨_, rfl, hr, hready, hpe, hcnt, hrest⟩
  · rw [execReleaseRx_heard h, if_pos ⟨hrole, he⟩, State.seeEpoch, max_eq_left he]
    exact ⟨_, rfl, State.claim_claimed _⟩
  · rw [execReleaseRx_heard h, if_neg (fun g => hn.elim (fun k => k g.1) (fun k => absurd g.2 (Nat.not_le.mpr k))), State.seeEpoch]
  · rw [execTwRelease_accepts ha, execForceClaim_accepts ha, execRejoin_accepts ha]
    refine ⟨fun hen => ?_, fun hen => ⟨fun hrole => ?_, fun hrole => ?_, fun hrole hpeer => ?_, fun hrole hpeer hr => ?_,
      fun hrole hpeer hr hready => ?_, fun hr => ?_, fun hrole hpeer => ?_⟩⟩
    · obtain ⟨hrel, hforce, hrejoin⟩ := State.twCmd_off hen
      rw [hrel, hforce, hrejoin]
      exact ⟨rfl, rfl, rfl⟩
    · rw [s.forceClaim_acting hen hrole]
      rfl
    · rw [s.twRelease_notActing hen hrole, s.forceClaim_claims hen hrole]
      exact ⟨rfl, _, rfl, s.claim_claimed.twDone 0, State.rd_twDone_code _⟩
    · rw [s.twRelease_noPeer hen hrole hpeer]
      rfl
    · rw [s.twRelease_notReady hen hrole hpeer hr]
      rfl
    · exact ⟨_, congrArg _ (s.twRelease_releases hen hrole hpeer hr hready), s.leaseReleased_done⟩
    · exact ⟨_, congrArg _ (s.rejoin_syncs hen hr), s.enterSync_done⟩
    · rw [s.rejoin_refused hen hrole hpeer]
      rfl

end Sys2Proof.Machine

/-! The loss of the Dolnos link during a walk (R270, R285; `Obligations.HeartbeatsAndAgreement`). -/

namespace Sys2Proof.Machine

/-- An acting twin serves a resynchronisation, point 7 is next in its walk, and the Dolnos link has been silent for LOSS_N periods. -/
def silentInWalk : State :=
  (({ State.reset with
      tb := { Tb.reset with mono := 300000 }
      tw := { Tw.reset with peerRole := roleSyncing, rsServe := true, rsNext := 7 } }.wr F.TW_CTRL_EN 1).wr F.TW_STATUS_ROLE roleActing).wr F.TW_STATUS_DOLNOS_UP 1

/-- The walk is abandoned (R285): it will begin again at the first point. -/
theorem silentInWalk_abandons : ∃ t, exec (.pathLoss false) silentInWalk = .next t ∧ t.tw.rsNext = 0 := ⟨_, rfl, by decide⟩

/-- Refutes O38: the clause of the loss of the Dolnos link keeps every field of the agent but `rowD`, `rsServe`, `rsDoneAt` and `seqBuf`.
The loss also sets back the walk of a resynchronisation (R285): in `silentInWalk` the next point is 0, where the clause keeps 7. -/
theorem not_heartbeatsAndAgreement : ¬ Obligations.HeartbeatsAndAgreement := by
  unfold Obligations.HeartbeatsAndAgreement
  rintro ⟨-, -, hloss, -⟩
  obtain ⟨-, -, hdolnos⟩ := hloss false silentInWalk (by decide)
  have hstated := hdolnos (by decide) rfl (by decide) rfl
  obtain ⟨t, ht, hnext⟩ := silentInWalk_abandons
  have hkept := congrArg (fun s : State => s.tw.rsNext) (Host.Outcome.next.inj (ht.symm.trans hstated))
  exact absurd (hnext.symm.trans hkept) (by decide)

end Sys2Proof.Machine

/-! A doorbell at a queue whose fetch stands at an entry that TAIL covers in part (R296, R297; `Obligations.QueuesAndDoorbells`). -/

namespace Sys2Proof.Machine

/-- SQ 3 of PF0 is enabled with 16 units, and its fetch stands at an entry that TAIL has not covered. -/
def stoppedAtTail : State :=
  let s := (((State.reset.wr F.QE_CTRL_EN 1).wr (F.QE_SQ_STAT_STATE 3) 1).wr (F.QE_SQ_TAIL 3) 1).wr (F.AC_TBL_t_w 14 4) 0xF
  { s.stopAt 3 .tail with pcie := { s.pcie with mse := 1 } }

/-- PF0 rings the doorbell of its slot 3 with position 2. -/
def ringAtTail : Instr := .sqDoorbell 0x20 0x20 3 8 false 2

set_option maxRecDepth 20000 in
theorem stoppedAtTail_slot : stoppedAtTail.localSq 0x20 3 = some 3 := by decide

set_option maxRecDepth 20000 in
/-- The doorbell lets the fetch go on (R297). -/
theorem stoppedAtTail_goesOn : ∃ t, exec ringAtTail stoppedAtTail = .next t ∧ (t.sq 3).stop = .none := ⟨_, rfl, by decide⟩

/-- Refutes O40: an accepted position is stated to change QE_SQ_TAIL alone, but the doorbell also ends a stop at TAIL (R297). In
`stoppedAtTail` the fetch stands at an entry whose last units are missing, and position 2 lets it go on. -/
theorem not_queuesAndDoorbells : ¬ Obligations.QueuesAndDoorbells := by
  unfold Obligations.QueuesAndDoorbells
  rintro ⟨-, hring, -⟩
  obtain ⟨-, hwide⟩ := hring 0x20 0x20 3 8 false 2 3 stoppedAtTail (by decide) (by decide)
  obtain ⟨-, hpage⟩ := hwide (.inl rfl) (by decide) (by decide)
  obtain ⟨-, -, hslot, -⟩ := hpage rfl
  obtain ⟨-, henabled⟩ := hslot stoppedAtTail_slot
  obtain ⟨-, haccepted⟩ := henabled (by decide)
  have hstated := haccepted (by decide) (by decide)
  obtain ⟨t, ht, hstop⟩ := stoppedAtTail_goesOn
  have hkept := congrArg (fun s : State => (s.sq 3).stop) (Host.Outcome.next.inj (ht.symm.trans hstated))
  exact absurd (hstop.symm.trans hkept) (by decide)

end Sys2Proof.Machine

/-! The error of an entry fetch while QE_STATUS.SQ_ON lists more than its width (R318; `Obligations.DrainsFetchErrorsAndModeration`). -/

namespace Sys2Proof.Machine

/-- SQ 3 is enabled with one unit before TAIL, and the register file lists 2,048 at SQ_ON, a field of 11 bits. -/
def wideCount : State :=
  let s := ((State.reset.wr F.QE_CTRL_EN 1).wr (F.QE_SQ_STAT_STATE 3) 1).wr (F.QE_SQ_TAIL 3) 1
  { s with regs := Sparse.put 0 s.regs F.QE_STATUS_SQ_ON.key 2048 }

/-- The change of STATE writes the count back, in 11 bits. -/
theorem wideCount_truncated :
    ∃ t, exec (.entryFetchError 3) wideCount = .next t ∧ t.rd F.QE_STATUS_SQ_ON ≠ wideCount.rd F.QE_STATUS_SQ_ON := ⟨_, rfl, by decide⟩

/-- Refutes O41: the statement is about every register file and lacks the hypothesis that each field holds a value of its width. A failing
entry fetch writes QE_STATUS.SQ_ON back, which the statement gives as kept: in `wideCount` it reads 2,048 before and 0 after. -/
theorem not_drainsFetchErrorsAndModeration : ¬ Obligations.DrainsFetchErrorsAndModeration := by
  unfold Obligations.DrainsFetchErrorsAndModeration
  rintro ⟨hqueue, -⟩
  obtain ⟨-, -, -, hfails, -⟩ := hqueue 3 wideCount
  obtain ⟨u, hu, -, -, -, -, hkept, -⟩ := hfails (by decide) (by decide) (by decide) (by decide)
  obtain ⟨t, ht, hcount⟩ := wideCount_truncated
  obtain rfl := Host.Outcome.next.inj (ht.symm.trans hu)
  exact hcount (hkept F.QE_STATUS_SQ_ON (by decide))

end Sys2Proof.Machine

/-! A malformed NOP while the register file is not in its canonical form (R298, R309; `Obligations.OtherQueueEntries`). -/

namespace Sys2Proof.Machine

set_option maxRecDepth 20000 in
/-- A malformed NOP leaves the register file that a malformed transmit entry leaves: HEAD is listed before QE_BAD_ENTRY is counted. -/
theorem headListedFirst_nop_regs : ∃ t, exec (.nop 3 []) headListedFirst = .next t ∧ t.regs ≠ headListedFirstBad.regs :=
  ⟨_, rfl, by decide⟩

/-- Refutes O43: the statement is about every register file and lacks the hypothesis `s.Canon`, without which the order of the writes shows
in the file. In `headListedFirst` a NOP without bytes is fetched and is malformed, but the state it leaves is not the stated one. -/
theorem not_otherQueueEntries : ¬ Obligations.OtherQueueEntries := by
  unfold Obligations.OtherQueueEntries
  intro h
  obtain ⟨-, -, halone, -⟩ := h 3 [] headListedFirst
  obtain ⟨hbad, -⟩ := halone headListedFirst_fetches (by decide) (by decide)
  obtain ⟨t, ht, hregs⟩ := headListedFirst_nop_regs
  exact hregs (congrArg State.regs (Host.Outcome.next.inj (ht.symm.trans (hbad (by decide)))))

end Sys2Proof.Machine

/-! The start of a channel whose record still holds a copy job (R329, R330; `Obligations.DmaChannels`). -/

namespace Sys2Proof.Machine

/-- Channel 13 is IDLE and ready for a transfer of 20 bytes by its registers. Its record still holds a copy job of SQ 3, which is VF1's, and
only VF1 has its Bus Master Enable. -/
def idleWithCopy : State :=
  let s := (((((State.reset.wr (F.QE_SQ_OWNER_OWNER 3) 0x21).wr F.DMA_CTRL_EN 1).wr F.DMA_CTRL_ATTRIB 1).wr (F.CH_OWNER 13) 0x20).wr
    (F.CH_CTRL_EN 13) 1).wr (F.CH_COUNT 13) 20
  { s.setCh 13 { Ch.empty with act := .pool ⟨0, 0, 20, 0, false, false⟩ 3 0 0 } with pcie := { s.pcie with bme := 2 } }

/-- The transfer addresses PF0's memory, for which its channel has no Bus Master Enable: it takes the bus-error path (R329). -/
theorem idleWithCopy_fails : ∃ t, exec (.dmaStart 0 13) idleWithCopy = .next t ∧ t.rd (F.CH_STAT_STATE 13) = 4 := ⟨_, rfl, by decide⟩

/-- Refutes O44: the statement takes the Bus Master Enable of the function that the channel addresses before START, and START makes it
another function when the record of the IDLE channel holds a copy job, which the statement does not exclude. In `idleWithCopy` VF1 has
its Bus Master Enable and PF0 has none, and the channel is STOPPED where the statement gives RUN. -/
theorem not_dmaChannels : ¬ Obligations.DmaChannels := by
  unfold Obligations.DmaChannels
  rintro ⟨hchannel, -⟩
  obtain ⟨hset, -⟩ := hchannel 0 13 0 idleWithCopy
  obtain ⟨-, hmine⟩ := hset (by decide)
  obtain ⟨-, hready, -⟩ := hmine (.inr rfl)
  obtain ⟨hstart, -⟩ := hready (by decide)
  obtain ⟨u, hu, hrun, -⟩ := hstart (by decide) (by decide)
  obtain ⟨t, ht, hstopped⟩ := idleWithCopy_fails
  obtain rfl := Host.Outcome.next.inj (ht.symm.trans hu)
  exact absurd (hstopped.symm.trans hrun) (by decide)

end Sys2Proof.Machine

/-! A bus error that halts the engine while a channel runs a copy job of a queue beyond the last SQ (R341, R342;
`Obligations.DmaDataAndErrors`). -/

namespace Sys2Proof.Machine

/-- Shared-prefetch mode: channel 13 fetches a descriptor, and the record of channel 0, in RUN too, holds a copy job of queue 1536. There
are 1024 SQs; the HEAD of queue 1536 has the key of DMA_ERR_ADDR's low word. -/
def copyOfQueue1536 : State :=
  let s := ((State.reset.wr F.DMA_CTRL_EN 1).wr (F.CH_STAT_STATE 0) 1).wr (F.CH_STAT_STATE 13) 1
  (s.setCh 0 { Ch.empty with act := .pool ⟨0, 0, 20, 0, false, false⟩ 1536 0 0 }).setCh 13 { Ch.empty with act := .fetch, reading := true }

set_option maxRecDepth 20000 in
/-- The halt ends the copy job, whose queue publishes its HEAD (`State.syncHead`) over the address that the error has recorded. -/
theorem copyOfQueue1536_overwrites : ∃ t, exec (.busError 13 0 0x40 0 [] false) copyOfQueue1536 = .next t
    ∧ t.rd64 F.DMA_ERR_ADDR_LO F.DMA_ERR_ADDR_HI = 0 := ⟨_, rfl, by decide⟩

/-- Refutes O45: the clause of a bus error that halts the engine lacks the hypothesis that each copy job of a channel is one of the 1024
SQs' (the halt ends those jobs, R342). In `copyOfQueue1536` channel 13 meets an error at address 0x40, and DMA_ERR_ADDR reads 0 after it,
where the statement gives 0x40. -/
theorem not_dmaDataAndErrors : ¬ Obligations.DmaDataAndErrors := by
  unfold Obligations.DmaDataAndErrors
  intro h
  obtain ⟨-, -, -, -, -, herror, -⟩ := h 13 [] [] 0 0x40 0 copyOfQueue1536
  obtain ⟨u, hu, haddr, -⟩ := herror (by decide) (by decide) (by decide) (by decide)
  obtain ⟨t, ht, hover⟩ := copyOfQueue1536_overwrites
  obtain rfl := Host.Outcome.next.inj (ht.symm.trans hu)
  exact absurd (hover.symm.trans haddr) (by decide)

end Sys2Proof.Machine

/-! Writes that the full buffer of window writes withholds (R153; `Obligations.CommandsThatAreNotTaken`, `Obligations.ReservedBlocks`). -/

namespace Sys2Proof.Machine

/-- A lock request that does not arrive waits at the host. -/
theorem execLockReq_withheld {m : Nat} {s : State} (h : s.takes m = false) : exec (.lockReq m) s = .next s :=
  congrArg Host.Outcome.next (State.busW_undecoded h _)

/-- Refutes O9: the clause of a denied command asks that the master's commands are decoded, not that they arrive (`s.takes m`). In
`windowFull` the full buffer of window writes withholds the credits of the host's posted writes (R153): the command waits, and no denial
is recorded. -/
theorem not_commandsThatAreNotTaken : ¬ Obligations.CommandsThatAreNotTaken := by
  unfold Obligations.CommandsThatAreNotTaken
  intro h
  obtain ⟨-, ⟨-, hdenied, -⟩, -⟩ := h 0x21 0 0 0 0 windowFull
  have hstated := hdenied windowFull_decodes (by decide)
  have hsame := Host.Outcome.next.inj ((execLockReq_withheld windowFull_takes).symm.trans hstated)
  have hinbox := congrArg (fun s : State => s.cl.inbox.length) hsame
  exact absurd hinbox (by decide)

/-- PF0 reaches BAR0, and 512 window writes wait. -/
def windowFullPf0 : State :=
  { State.reset with
    pcie := { Pcie.reset with mse := 1 }
    gy := { Gy.reset with qWin := List.replicate 512 waitingWrite } }

theorem windowFullPf0_takes : windowFullPf0.takes 0x20 = false := by
  have hlen : windowFullPf0.gy.qWin.length = 512 := List.length_replicate
  rw [State.takes, hlen]
  exact Bool.and_false _

/-- A register write that does not arrive waits at the host. -/
theorem execRegisterWrite_withheld {m : Nat} {s : State} (h : s.takes m = false) (off bytes : Nat) (v : DWord) :
    exec (.registerWrite m off bytes v) s = .next s := congrArg Host.Outcome.next (if_pos (show (!s.takes m) = true by rw [h]; rfl))

/-- Refutes O8: the clause of a write of a wrong width asks that the master's accesses are decoded, not that its writes arrive
(`s.takes m`). In `windowFullPf0` a write of 2 bytes to a reserved block waits at the host (R153) and raises nothing. -/
theorem not_reservedBlocks : ¬ Obligations.ReservedBlocks := by
  unfold Obligations.ReservedBlocks
  intro h
  obtain ⟨-, -, t, ht, hlen, -⟩ := h 0x20 0x160000 0 windowFullPf0 (by decide) (by decide) (by decide) (by decide) (by decide)
  obtain rfl := Host.Outcome.next.inj ((execRegisterWrite_withheld windowFullPf0_takes 0x160000 2 0).symm.trans ht)
  exact absurd hlen (by decide)

end Sys2Proof.Machine

/-! A cell taken from a free count wider than its register (R353; `Obligations.CellsChainsAndHolders`). -/

namespace Sys2Proof.Machine

/-- GRIST runs, chain 0 has one cell of CHARGE master 8, and the register file lists 131,074 at GR_FREE0, a field of 17 bits. -/
def wideFree : State :=
  let s := (State.reset.wr F.GR_CTRL_EN 1).setChain 0 (some ⟨2 ^ 8, [0], [], false, false, 8, 0⟩)
  { s with regs := Sparse.put 0 s.regs F.GR_FREE0.key (BitVec.ofNat 32 131074 ^^^ BitVec.ofNat 32 F.GR_FREE0.rst) }

/-- The count that is written back has 17 bits. -/
theorem wideFree_truncated : ∃ t, exec (.cellAlloc [.next 0]) wideFree = .next t ∧ t.rd F.GR_FREE0 = 1 := ⟨_, rfl, by decide⟩

/-- Refutes O46: the statement is about every register file and lacks the hypothesis that each field holds a value of its width. In
`wideFree` an allocation leaves 1 in GR_FREE0 for the 131,074 before it, where the statement gives one less than before. -/
theorem not_cellsChainsAndHolders : ¬ Obligations.CellsChainsAndHolders := by
  unfold Obligations.CellsChainsAndHolders
  rintro ⟨hchain, -⟩
  obtain ⟨halloc, -⟩ := hchain 0 ⟨2 ^ 8, [0], [], false, false, 8, 0⟩ wideFree rfl (by decide) (by decide)
  obtain ⟨u, hu, hfree, -⟩ := halloc (by decide) (by decide)
  obtain ⟨t, ht, hone⟩ := wideFree_truncated
  obtain rfl := Host.Outcome.next.inj (ht.symm.trans hu)
  have hless : t.rd F.GR_FREE0 + 1 = wideFree.rd F.GR_FREE0 := hfree
  rw [hone] at hless
  exact absurd hless (by decide)

end Sys2Proof.Machine

/-! A write to CRP_BLK_RST for a held block that no reset reaches (R412, R430, R493; `Obligations.ResetsOfTheModule`). -/

namespace Sys2Proof.Machine

/-- CL_HELD shows ACCESS, target 0x13, as held in block reset. -/
def accessHeld : State :=
  let s := State.reset.wr F.CL_HELD (2 ^ 0x13)
  { s with crp := { s.crp with blk := [(0x13, 0)] } }

/-- Besides the refusal of CRP_BLK_RST the write counts one of ACCESS. -/
theorem accessHeld_counts : ∃ t, exec (.blockReset 0 (BitVec.ofNat 32 (2 ^ 0x13))) accessHeld = .next t ∧ t.rd F.AC_LOCK_REJ = 1 :=
  ⟨_, rfl, by decide⟩

/-- Refutes O53: two clauses about a bit of CRP_BLK_RST overlap. For the bit of ACCESS (0x13) the model counts AC_LOCK_REJ as well,
and the clause of a held block, which does not exclude that bit, gives CRP_BLK_REJ alone. -/
theorem not_resetsOfTheModule : ¬ Obligations.ResetsOfTheModule := by
  unfold Obligations.ResetsOfTheModule
  rintro ⟨-, -, hblock, -⟩
  obtain ⟨-, hadm⟩ := hblock 0 0x13 accessHeld (by decide) (by decide)
  obtain ⟨hheld, -⟩ := hadm (by decide)
  have hstated := hheld (.inr (.inr (.inr (by decide))))
  obtain ⟨t, ht, hcount⟩ := accessHeld_counts
  obtain rfl := Host.Outcome.next.inj (ht.symm.trans hstated)
  exact absurd hcount (by decide)

end Sys2Proof.Machine

/-! A raise whose severity is wider than its register (R419, R421; `Obligations.FaultsAndReactions`). -/

namespace Sys2Proof.Machine

/-- One raise of GR_QUOTA waits, and the register file lists 4 at its SEV, a field of 2 bits. -/
def wideSeverity : State :=
  let f := F.CL_SRC_CFG_n_SEV Src.GR_QUOTA
  let s := State.reset.raise Src.GR_QUOTA 0xFF none 0
  { s with regs := Sparse.put 0 s.regs f.key (BitVec.ofNat 32 4 ^^^ BitVec.ofNat 32 f.rst) }

/-- The book's entry has the two bits of the configuration. -/
theorem wideSeverity_booked : ∃ t, exec (.faultRaise 1 []) wideSeverity = .next t
    ∧ t.cl.book.map (fun e => [e.dt, e.src, e.sev, e.inst, e.info, e.seq, e.repeats]) = [[0, Src.GR_QUOTA, 0, 0xFF, 0, 0, 0]] :=
  ⟨_, rfl, by decide⟩

/-- Refutes O56: the statement is about every register file and lacks the hypothesis that each field holds a value of its width. In
`wideSeverity` the entry of the raise has severity 0, the low two bits of the 4 that the register lists. -/
theorem not_faultsAndReactions : ¬ Obligations.FaultsAndReactions := by
  unfold Obligations.FaultsAndReactions
  rintro ⟨hraise, -⟩
  obtain ⟨u, hu, -, -, -, hen⟩ := hraise ⟨Src.GR_QUOTA, 0xFF, none, 0, false⟩ wideSeverity (by decide) (by decide) (by decide) (by decide)
    (by decide) (by decide) (by decide) (by decide) (by decide) (by decide)
  obtain ⟨hbook, -⟩ := hen (by decide)
  obtain ⟨hentry, -⟩ := hbook (by decide)
  obtain ⟨t, ht, hsev⟩ := wideSeverity_booked
  obtain rfl := Host.Outcome.next.inj (ht.symm.trans hu)
  exact absurd (hsev.symm.trans hentry) (by decide)

end Sys2Proof.Machine

/-! The check of error rates in loopback (R459, R478; `Obligations.BackbonePorts`). -/

namespace Sys2Proof.Machine

/-- PORTA is in loopback, and a second has passed since power-on. -/
def loopedSecond : State :=
  let s := State.reset.wr (F.BP_CTRL_LOOP 0) 1
  { s with tb := { s.tb with mono := 1000000000 } }

/-- In loopback the pads are ignored, and with them their PCS errors. -/
theorem loopedSecond_counts : ∃ t, exec (.portErrorRateCheck 0 1) loopedSecond = .next t ∧ t.rd (F.BP_PCS_ERR 0) = 0 := ⟨_, rfl, by decide⟩

/-- Refutes O58: the clause of the check of each second adds the PCS errors of the pads whatever BP_CTRL.LOOP says. In `loopedSecond`
the port is in loopback, where its receiver ignores the pads (R459), and the counter stays 0. -/
theorem not_backbonePorts : ¬ Obligations.BackbonePorts := by
  unfold Obligations.BackbonePorts
  rintro ⟨-, -, hrate, -⟩
  obtain ⟨-, hsecond⟩ := hrate 0 1 loopedSecond
  obtain ⟨u, hu, hpcs, -⟩ := hsecond (by decide)
  obtain ⟨t, ht, hzero⟩ := loopedSecond_counts
  obtain rfl := Host.Outcome.next.inj (ht.symm.trans hu)
  exact absurd (hzero.symm.trans hpcs) (by decide)

end Sys2Proof.Machine

/-! The field die's own SAFE_PWR while the channel is down (R468, R470; `Obligations.FieldDieAndItsLinks`). -/

namespace Sys2Proof.Machine

/-- The channel has been down for 1 ms. The die runs on by registers with SAFE_PWR set, which software has cleared in the proxy since,
and its port 0 is ON. -/
def safeByDie : State :=
  { State.reset with
    tb := { Tb.reset with mono := 1000000 }
    fd := { Fd.reset with released := true, ports := [(0, { FdPort.empty with pst := pdOn })], die := some [(F.FD_CTRL_SAFE_PWR.key, 1)] } }

/-- The die switches its port off. -/
theorem safeByDie_off : ∃ t, exec .isoLossSafe safeByDie = .next t ∧ t.fd.ports ≠ safeByDie.fd.ports := ⟨_, rfl, by decide⟩

/-- Refutes O59: the clauses of a loss of 1 ms take SAFE_PWR from the proxy, but the die acts by the registers it has (R470). In
`safeByDie` the proxy reads 0 and the die switches its port off. -/
theorem not_fieldDieAndItsLinks : ¬ Obligations.FieldDieAndItsLinks := by
  unfold Obligations.FieldDieAndItsLinks
  rintro ⟨hdie, -⟩
  obtain ⟨-, -, -, hsafe, -⟩ := hdie .marker true [] 0 safeByDie
  obtain ⟨u, hu, -, -, hkept, -⟩ := hsafe (by decide) (by decide) (by decide) (by decide)
  obtain ⟨t, ht, hoff⟩ := safeByDie_off
  obtain rfl := Host.Outcome.next.inj (ht.symm.trans hu)
  exact hoff (hkept (by decide))

end Sys2Proof.Machine

/-! A post that waits for the channel of a request (R382, R436; `Obligations.RequestsOfTheHost`). -/

namespace Sys2Proof.Machine

/-- Firmware runs and may use PF0's memory, the log extract that PF0 has asked for on channel 0 is to be served, and a second post of PF0
to the channel waits for its EMPTY in this core cycle. -/
def postWaits : State :=
  let s := (((State.reset.wr F.CRP_BOOT_PHASE 6).wr F.MB_CTRL_EN 1).wr (F.MB_CH_STAT_FULL 0) 1).wr (F.MB_CH_TAG 0) 0x105
  { s with
    pcie := { s.pcie with bme := 1 }
    mb := { s.mb with posts := [⟨0x20, 0, 0x109, 0⟩] }
    mg := { s.mg with reqs := [0] } }

/-- The EMPTY that ends the request lets the second post in: it is the next request. -/
theorem postWaits_follows : ∃ t, exec (.reqLogExtract 0 (some (List.replicate 12 0))) postWaits = .next t ∧ t.mg.reqs = [0] := ⟨_, rfl, by decide⟩

/-- Refutes O51: the clause of a log extract leaves the requests that waited behind it, and does not exclude a post that waits for the same
channel in the core cycle (R382). In `postWaits` that post enters the emptied channel, and its request waits where the clause has none. -/
theorem not_requestsOfTheHost : ¬ Obligations.RequestsOfTheHost := by
  unfold Obligations.RequestsOfTheHost
  rintro ⟨-, hserve, -⟩
  obtain ⟨-, hruns⟩ := hserve 0 (some (List.replicate 12 0)) false false false false postWaits (by decide)
  obtain ⟨-, -, -, -, -, -, -, -, -, -, -, hextract, -⟩ := hruns (by decide)
  obtain ⟨u, hu, -, hreqs⟩ := hextract (by decide) (by decide) (by decide)
  obtain ⟨t, ht, hnext⟩ := postWaits_follows
  obtain rfl := Host.Outcome.next.inj (ht.symm.trans hu)
  exact absurd (hnext.symm.trans hreqs) (by decide)

end Sys2Proof.Machine
/-! The entries of DBG in the access tables (R396; `Obligations.EntriesOfDbg`). -/

namespace Sys2Proof.Machine

/-- The permissions that the debug level gives DBG (R396). -/
theorem State.perms_dbg (s : State) (t : Nat) : s.perms t 1 = match s.rd F.AC_STATUS_DBG with | 0 => 0 | 1 => 1 | _ => 0xF := if_pos rfl

theorem State.may_dbg_of_level {s u : State} (h : u.rd F.AC_STATUS_DBG = s.rd F.AC_STATUS_DBG) (t bit : Nat) :
    u.may t 1 bit = s.may t 1 bit := by
  rw [State.may, State.may, State.perms_dbg, State.perms_dbg, h]

/-- What a refusal by an access table writes of the registers (R392). -/
def denyFields : List Fld := [F.AC_DENY_CNT, F.AC_STATUS_DENY_SEEN, F.AC_DENY_INFO_VALID, F.AC_DENY_INFO_OP, F.AC_DENY_INFO_MASTER,
  F.AC_DENY_INFO_TARGET, F.AC_DENY_INFO_OFFSET]

theorem State.deny_keepsRegs (s : State) (op m t off : Nat) : s.keepsRegs (s.deny op m t off) denyFields :=
  (State.keepsRegs.refl s _ |>.inc |>.wr |>.wr |>.wr |>.wr |>.wr |>.wr : s.keepsRegs _ denyFields).of_regs rfl

/-- A register write leaves a register alone that neither its block's effect nor a denial writes. -/
theorem State.rd_busW {s : State} {f : Fld} {g : State → State} (hf : f.key ∉ denyFields.map Fld.key) (hg : (g s).rd f = s.rd f)
    (m off : Nat) : (s.busW m off g).rd f = s.rd f := by
  unfold State.busW State.guarded
  split
  · rfl
  · split
    · split
      · rfl
      · exact hg
    · exact s.deny_keepsRegs 1 m _ _ f hf

/-- A write of a table word does not touch the debug level (R394). -/
theorem State.rd_tblWrite_dbg (s : State) (m t w v : Nat) : (s.tblWrite m t w v).rd F.AC_STATUS_DBG = s.rd F.AC_STATUS_DBG := by
  unfold State.tblWrite
  split
  · exact State.rd_wr_ne _ _ _ _ (by simp only [Fld.key, F.AC_STATUS_DBG, F.AC_TBL_t_w]; omega)
  · exact State.rd_inc_ne _ (by decide)

theorem fieldsAt_tblWord0 : ∀ t : Fin 22, fieldsAt 0 (0x131000 + 0x20 * t.val) = [F.AC_TBL_t_w t.val 0] := by decide

section
variable (t : Fin 22)

/-- The place of word 0 of a table (R394). -/
abbrev tblWord0 : Nat := 0x131000 + 0x20 * t.val

theorem winOf_tblWord0 : winOf (tblWord0 t) = none := by revert t; decide

theorem readOff_tblWord0 : readOff (tblWord0 t) := by revert t; decide

theorem rateFree_tblWord0 : rateFree (tblWord0 t) := by revert t; decide

theorem rcFields_tblWord0 : rcFields 0 (tblWord0 t) = [] := by revert t; decide

theorem pairWords_tblWord0 : pairWords (tblWord0 t) = 0 := by revert t; decide

theorem State.viewVal_tblWord0 (s : State) : s.viewVal 0 (tblWord0 t) = s.perms t.val 1 * 16 := by
  have hblk : (0x131000 + 0x20 * t.val) / 0x10000 = 0x13 := by omega
  have htbl : (0x131000 + 0x20 * t.val - 0x131000) / 0x20 = t.val := by omega
  have hshown : 0x131000 ≤ 0x131000 + 0x20 * t.val ∧ 0x131000 + 0x20 * t.val < 0x1312C0 ∧ (0x131000 + 0x20 * t.val) % 0x20 = 0 := by omega
  rw [tblWord0, State.viewVal, if_neg (by omega), hblk]
  show s.acView _ = _
  rw [State.acView, if_neg (by omega), if_neg (by omega), if_neg (by omega), if_pos hshown, htbl]

/-- Word 0 of a table shows its field, and in DBG's entry what the debug level gives. -/
theorem State.regVal_tblWord0 (s : State) :
    s.regVal 0 (tblWord0 t) = (s.rd (F.AC_TBL_t_w t.val 0) + s.perms t.val 1 * 16) % 2 ^ 32 := by
  rw [State.regVal, winOf_tblWord0, s.viewVal_tblWord0 t, fieldsAt_tblWord0 t]
  simp [State.fieldVal, F.AC_TBL_t_w]

/-- A read of word 0 of a table clears nothing. -/
theorem State.regRead_tblWord0 {s : State} (h : s.latchedAt 0 (tblWord0 t) = none) : s.regRead 0 (tblWord0 t) = { s with
    readData := [BitVec.ofNat 32 (s.regVal 0 (tblWord0 t))], freeIdx := s.freeIdx + 1 } := by
  have hfifo : tblWord0 t ≠ 0x20148 ∧ tblWord0 t ≠ 0x20168 := by rw [tblWord0]; omega
  rw [State.regRead_single (winOf_tblWord0 t) hfifo.1 hfifo.2 (readOff_tblWord0 t) h (pairWords_tblWord0 t),
    State.rcClear_eq (rateFree_tblWord0 t), rcFields_tblWord0 t]
  rfl

end

/-- DBG's entry lies beside the entries that the field of the word holds. -/
theorem bits_dbgEntry {x p : Nat} (hx : bits x 4 4 = 0) (hp : p < 16) : bits ((x + p * 16) % 2 ^ 32) 4 4 = p := by
  simp only [bits] at hx ⊢
  omega

/-- Settles O7: a permission of DBG is a function of the debug level, which no write of a table touches, and which word 0 shows. -/
theorem entriesOfDbg : Obligations.EntriesOfDbg := by
  intro t bit m w v s
  refine ⟨fun h => ?_, fun h => ?_, fun h => ?_, ⟨_, rfl, State.may_dbg_of_level ?_ _ _⟩, fun hx hg _ hl => ?_⟩
  · rw [State.may, State.perms_dbg, h]
    revert bit; decide
  · rw [State.may, State.perms_dbg, h]
    revert bit; decide
  · rw [State.may, State.perms_dbg, h]
    revert bit; decide
  · exact State.rd_busW (by decide) (s.rd_tblWrite_dbg ..) _ _
  · have hlatch : ({ s with readData := [] } : State).latchedAt 0 (tblWord0 t) = none := by
      rw [State.latchedAt, Nat.zero_mul, Nat.zero_add]; exact hl
    have hread := State.busRead_gives (by decide) (readOff_tblWord0 t) hg (State.regRead_tblWord0 t hlatch) rfl
    refine ⟨_, congrArg Host.Outcome.next hread, ?_, rfl⟩
    have hlevel : s.perms t.val 1 = if s.rd F.AC_STATUS_DBG = 0 then 0 else if s.rd F.AC_STATUS_DBG = 1 then 1 else 15 := by
      rw [State.perms_dbg]
      split <;> simp_all
    have hlt : s.perms t.val 1 < 16 := by rw [State.perms_dbg]; split <;> decide
    rw [← hlevel]
    refine congrArg (fun x => [x]) ?_
    show bits (BitVec.ofNat 32 _).toNat 4 4 = _
    rw [State.regVal_tblWord0, BitVec.toNat_ofNat, Nat.mod_mod]
    exact bits_dbgEntry hx hlt

end Sys2Proof.Machine
/-! The operations of MBOX: what each writes of the registers, and what it reaches beside them (R377 to R386). -/

namespace Sys2Proof.Machine

/-! A bit of a register. -/

theorem bits_putBits_zero (x n : Nat) : bits (putBits x n 1 0) n 1 = 0 := by
  have hx := Nat.div_add_mod x (2 ^ n)
  have hq := Nat.div_add_mod (x / 2 ^ n) 2
  have hp : 0 < 2 ^ n := by positivity
  have hx' : x = 2 ^ n * (2 * (x / 2 ^ n / 2)) + 2 ^ n * (x / 2 ^ n % 2) + x % 2 ^ n := by
    rw [← Nat.mul_add, hq, hx]
  have hput : putBits x n 1 0 = 2 ^ n * (2 * (x / 2 ^ n / 2)) + x % 2 ^ n := by
    rw [putBits, bits, pow_one, Nat.zero_mod, Nat.zero_mul, Nat.add_zero, Nat.mul_comm (x / 2 ^ n % 2)]
    omega
  rw [hput, bits, Nat.mul_add_div hp, Nat.div_eq_of_lt (Nat.mod_lt _ hp), Nat.add_zero, pow_one, Nat.mul_mod_right]

/-- A bit of a word reads what was written to it. -/
theorem State.bits_wrBit (s : State) {f : Fld} {i : Nat} (b : Bool) (hw : f.w = 32) (hi : i < 32) :
    bits ((s.wrBit f i b).rd f) i 1 = b.toNat := by
  rw [State.wrBit, State.rd_wr_same _ _ _ (by omega), hw, bits_mod_word hi]
  cases b with
  | false => exact bits_putBits_zero _ _
  | true => exact bits_putBits_one _ _

/-! The registers of the mailboxes. -/

/-- A register of MBOX beside the banks of the masters: it stands in PF0 BAR0 above their place. -/
abbrev chPlace (f : Fld) : Prop := 0x100080 * 32 ≤ f.key ∧ f.key < 0x1000000 * 32

theorem mbNotify_key (m n : Nat) : (mbNotify m n).key = (0x100010 + 0x1000000 * m + if n < 32 then 0 else 4) * 32 := by
  unfold mbNotify
  split <;> simp only [Fld.key, F.MB_NOTIFY_PEND_LO, F.MB_NOTIFY_PEND_HI] <;> omega

theorem mbEmpty_key (m n : Nat) : (mbEmpty m n).key = (0x100018 + 0x1000000 * m + if n < 32 then 0 else 4) * 32 := by
  unfold mbEmpty
  split <;> simp only [Fld.key, F.MB_EMPTY_PEND_LO, F.MB_EMPTY_PEND_HI] <;> omega

section
variable {f : Fld} (h : chPlace f) (m n : Nat)
include h

theorem key_ne_mbNotify : f.key ≠ (mbNotify m n).key := by
  rw [mbNotify_key]
  split <;> omega

theorem key_ne_mbEmpty : f.key ≠ (mbEmpty m n).key := by
  rw [mbEmpty_key]
  split <;> omega

end

theorem mbEmpty_key_ne_mbNotify (a b n k : Nat) : (mbEmpty a n).key ≠ (mbNotify b k).key := by
  unfold mbEmpty mbNotify
  split <;> split <;>
    simp only [Fld.key, F.MB_EMPTY_PEND_LO, F.MB_EMPTY_PEND_HI, F.MB_NOTIFY_PEND_LO, F.MB_NOTIFY_PEND_HI] <;> omega

theorem mbNotify_w (m n : Nat) : (mbNotify m n).w = 32 := by unfold mbNotify; split <;> rfl

theorem mbEmpty_w (m n : Nat) : (mbEmpty m n).w = 32 := by unfold mbEmpty; split <;> rfl

section
variable {n : Nat} (h : n < 64)
include h

theorem chPlace_full : chPlace (F.MB_CH_STAT_FULL n) := by simp only [chPlace, Fld.key, F.MB_CH_STAT_FULL]; omega
theorem chPlace_tag : chPlace (F.MB_CH_TAG n) := by simp only [chPlace, Fld.key, F.MB_CH_TAG]; omega
theorem chPlace_ptrLo : chPlace (F.MB_CH_PTR_LO n) := by simp only [chPlace, Fld.key, F.MB_CH_PTR_LO]; omega
theorem chPlace_ptrHi : chPlace (F.MB_CH_PTR_HI n) := by simp only [chPlace, Fld.key, F.MB_CH_PTR_HI]; omega
theorem chPlace_sender : chPlace (F.MB_BIND_n_SENDER n) := by simp only [chPlace, Fld.key, F.MB_BIND_n_SENDER]; omega
theorem chPlace_receiver : chPlace (F.MB_BIND_n_RECEIVER n) := by simp only [chPlace, Fld.key, F.MB_BIND_n_RECEIVER]; omega

end

theorem chPlace_posts : chPlace F.MB_POSTS := by decide

/-! Interrupts reach the link to the host only (R321, R383). -/

theorem State.sendEvent_shape (s : State) (e : Nat) : ∃ pcie, s.sendEvent e = { s with pcie := pcie } := by
  unfold State.sendEvent
  split
  · exact s.msix_shape _ _
  · exact ⟨_, rfl⟩

theorem State.mbIrq_shape (s : State) (m : Nat) : ∃ pcie, s.mbIrq m = { s with pcie := pcie } := by
  unfold State.mbIrq
  split
  · exact s.sendEvent_shape 2
  · split
    · exact s.msix_shape _ _
    · exact ⟨_, rfl⟩

theorem State.mbPend_shape (s : State) (m n : Nat) (pend ie : Fld) :
    ∃ pcie, s.mbPend m n pend ie = { s.wrBit pend (n % 32) true with pcie := pcie } := by
  unfold State.mbPend
  dsimp only
  split
  · exact (s.wrBit pend (n % 32) true).mbIrq_shape m
  · exact ⟨_, rfl⟩

/-! A notice enters a channel (R380). -/

/-- The registers of a notice. -/
def State.noticeShown (s : State) (n : Nat) (ptr : DWord) (tag : Word) : State :=
  ((((s.wr64 (F.MB_CH_PTR_LO n) (F.MB_CH_PTR_HI n) ptr.toNat).wr (F.MB_CH_TAG n) tag.toNat).wr (F.MB_CH_STAT_FULL n) 1).inc F.MB_POSTS).wrBit
    (mbNotify (s.mbReceiver n) n) (n % 32) true

/-- The requests that wait once a notice has come (R436). -/
def State.noticeMg (s : State) (n : Nat) : Mg := if n < 4 then (s.reqPost n).mg else s.mg

theorem State.mbNotice_shape (s : State) (n : Nat) (ptr : DWord) (tag : Word) :
    ∃ pcie, s.mbNotice n ptr tag = { s.noticeShown n ptr tag with mg := s.noticeMg n, pcie := pcie } := by
  have hreq : (if n < 4 then s.reqPost n else s) = { s with mg := s.noticeMg n } := by
    unfold State.noticeMg
    split <;> rfl
  unfold State.mbNotice
  dsimp only
  rw [hreq]
  obtain ⟨pcie, h⟩ := State.mbPend_shape _ (s.mbReceiver n) n (mbNotify (s.mbReceiver n) n) (mbNotifyIe (s.mbReceiver n) n)
  exact ⟨pcie, h⟩

theorem State.noticeMg_reqs {s : State} (h : s.mg.reqsNew = []) (n : Nat) :
    (s.noticeMg n).reqs = if n < 4 then s.mg.reqs.filter (· ≠ n) ++ [n] else s.mg.reqs := by
  unfold State.noticeMg
  split
  · simp [State.reqPost, h, chInsert]
  · rfl

section
variable {n : Nat} (hn : n < 64) (s : State) (ptr : DWord) (tag : Word)

theorem State.bits_noticeShown_notify : bits ((s.noticeShown n ptr tag).rd (mbNotify (s.mbReceiver n) n)) (n % 32) 1 = 1 :=
  State.bits_wrBit _ true (mbNotify_w _ _) (by omega)

/-- What a notice leaves: the registers that it writes. -/
theorem State.noticeShown_keepsRegs : s.keepsRegs (s.noticeShown n ptr tag) [F.MB_CH_STAT_FULL n, F.MB_CH_TAG n, F.MB_CH_PTR_LO n,
    F.MB_CH_PTR_HI n, F.MB_POSTS, mbNotify (s.mbReceiver n) n] := by
  refine (State.keepsRegs.refl s _).wr64 ?_ ?_ |>.wr ?_ |>.wr ?_ |>.inc ?_ |>.wr ?_ <;> simp

theorem State.rd_noticeShown {f : Fld} (hf : chPlace f) :
    (s.noticeShown n ptr tag).rd f = ((((s.wr64 (F.MB_CH_PTR_LO n) (F.MB_CH_PTR_HI n) ptr.toNat).wr (F.MB_CH_TAG n) tag.toNat).wr
      (F.MB_CH_STAT_FULL n) 1).inc F.MB_POSTS).rd f := State.rd_wr_ne _ _ _ _ (key_ne_mbNotify hf _ _)

theorem State.rd_noticeShown_posts : (s.noticeShown n ptr tag).rd F.MB_POSTS = min (s.rd F.MB_POSTS + 1) (2 ^ 32 - 1) := by
  rw [s.rd_noticeShown ptr tag chPlace_posts, State.rd_inc_same _ _ (by decide), State.rd_wr_ne _ _ _ _ (by simp only [Fld.key, F.MB_POSTS, F.MB_CH_STAT_FULL]; omega),
    State.rd_wr_ne _ _ _ _ (by simp only [Fld.key, F.MB_POSTS, F.MB_CH_TAG]; omega),
    State.rd_wr64_ne _ (by simp only [Fld.key, F.MB_POSTS, F.MB_CH_PTR_LO]; omega) (by simp only [Fld.key, F.MB_POSTS, F.MB_CH_PTR_HI]; omega)]
  rfl

include hn

theorem State.rd_noticeShown_full : (s.noticeShown n ptr tag).rd (F.MB_CH_STAT_FULL n) = 1 := by
  rw [s.rd_noticeShown ptr tag (chPlace_full hn), State.rd_inc_ne _ (by simp only [Fld.key, F.MB_POSTS, F.MB_CH_STAT_FULL]; omega),
    State.rd_wr_self]
  rfl

theorem State.rd_noticeShown_tag : (s.noticeShown n ptr tag).rd (F.MB_CH_TAG n) = tag.toNat := by
  rw [s.rd_noticeShown ptr tag (chPlace_tag hn), State.rd_inc_ne _ (by simp only [Fld.key, F.MB_POSTS, F.MB_CH_TAG]; omega),
    State.rd_wr_ne _ _ _ _ (by simp only [Fld.key, F.MB_CH_TAG, F.MB_CH_STAT_FULL]; omega), State.rd_wr_self]
  exact Nat.mod_eq_of_lt tag.isLt

theorem State.rd64_noticeShown : (s.noticeShown n ptr tag).rd64 (F.MB_CH_PTR_LO n) (F.MB_CH_PTR_HI n) = ptr.toNat := by
  have hptr : ∀ f : Fld, f = F.MB_CH_PTR_LO n ∨ f = F.MB_CH_PTR_HI n →
      (s.noticeShown n ptr tag).rd f = (s.wr64 (F.MB_CH_PTR_LO n) (F.MB_CH_PTR_HI n) ptr.toNat).rd f := by
    rintro f (rfl | rfl)
    · rw [s.rd_noticeShown ptr tag (chPlace_ptrLo hn), State.rd_inc_ne _ (by simp only [Fld.key, F.MB_POSTS, F.MB_CH_PTR_LO]; omega),
        State.rd_wr_ne _ _ _ _ (by simp only [Fld.key, F.MB_CH_PTR_LO, F.MB_CH_STAT_FULL]; omega),
        State.rd_wr_ne _ _ _ _ (by simp only [Fld.key, F.MB_CH_PTR_LO, F.MB_CH_TAG]; omega)]
    · rw [s.rd_noticeShown ptr tag (chPlace_ptrHi hn), State.rd_inc_ne _ (by simp only [Fld.key, F.MB_POSTS, F.MB_CH_PTR_HI]; omega),
        State.rd_wr_ne _ _ _ _ (by simp only [Fld.key, F.MB_CH_PTR_HI, F.MB_CH_STAT_FULL]; omega),
        State.rd_wr_ne _ _ _ _ (by simp only [Fld.key, F.MB_CH_PTR_HI, F.MB_CH_TAG]; omega)]
  rw [State.rd64, hptr _ (.inl rfl), hptr _ (.inr rfl)]
  exact State.rd64_wr64_same _ _ _ _ rfl rfl (by simp only [Fld.key, F.MB_CH_PTR_LO, F.MB_CH_PTR_HI, ne_eq]; omega) ptr.isLt

end

/-! An EMPTY (R381). -/

/-- The registers of an EMPTY by receiver `m`, whose sender is `o`. -/
def State.emptyShown (s : State) (m o n : Nat) : State :=
  ((s.wr (F.MB_CH_STAT_FULL n) 0).wrBit (mbNotify m n) (n % 32) false).wrBit (mbEmpty o n) (n % 32) true

section
variable {n : Nat} (hn : n < 64) (s : State) (m o : Nat)

theorem State.emptyShown_keepsRegs : s.keepsRegs (s.emptyShown m o n) [F.MB_CH_STAT_FULL n, mbEmpty o n, mbNotify m n] := by
  refine (State.keepsRegs.refl s _).wr ?_ |>.wr ?_ |>.wr ?_ <;> simp

theorem State.bits_emptyShown_empty : bits ((s.emptyShown m o n).rd (mbEmpty o n)) (n % 32) 1 = 1 :=
  State.bits_wrBit _ true (mbEmpty_w _ _) (by omega)

theorem State.bits_emptyShown_notify : bits ((s.emptyShown m o n).rd (mbNotify m n)) (n % 32) 1 = 0 := by
  rw [State.emptyShown, State.wrBit, State.rd_wr_ne _ _ _ _ (mbEmpty_key_ne_mbNotify _ _ _ _).symm]
  exact State.bits_wrBit _ false (mbNotify_w _ _) (by omega)

include hn

theorem State.rd_emptyShown_full : (s.emptyShown m o n).rd (F.MB_CH_STAT_FULL n) = 0 := by
  rw [State.emptyShown, State.wrBit, State.rd_wr_ne _ _ _ _ (key_ne_mbEmpty (chPlace_full hn) _ _), State.wrBit,
    State.rd_wr_ne _ _ _ _ (key_ne_mbNotify (chPlace_full hn) _ _), State.rd_wr_self]
  rfl

theorem State.rd_emptyShown_receiver : (s.emptyShown m o n).mbReceiver n = s.mbReceiver n := by
  rw [State.mbReceiver, State.emptyShown, State.wrBit, State.rd_wr_ne _ _ _ _ (key_ne_mbEmpty (chPlace_receiver hn) _ _), State.wrBit,
    State.rd_wr_ne _ _ _ _ (key_ne_mbNotify (chPlace_receiver hn) _ _),
    State.rd_wr_ne _ _ _ _ (by simp only [Fld.key, F.MB_BIND_n_RECEIVER, F.MB_CH_STAT_FULL]; omega)]
  rfl

end


/-! Mailboxes (R377 to R386, R389, R436; `Obligations.Mailboxes`). -/

/-- What a master that MBOX answers reaches (R379, R389). -/
theorem State.mbGuard_taken {s : State} {m : Nat} (ht : s.takes m = true) (hmay : s.may 0x10 m permW = true)
    (hheld : s.heldBlk 0x10 = false) (n off : Nat) (f : State → State) : s.mbGuard 1 permW m n off f = f s := by
  rw [State.mbGuard, if_neg (by simp [ht]), if_pos hmay, if_neg (by simp [hheld])]

theorem State.mbBound_iff (s : State) (n m : Nat) :
    s.mbBound n m = true ↔ s.on (F.MB_BIND_n_VALID n) = true ∧ (s.mbSender n = m ∨ s.mbReceiver n = m) := by
  simp [State.mbBound]

theorem State.mbSends_iff (s : State) (n m : Nat) :
    s.mbBound n m = true ∧ s.mbSender n = m ↔ s.on (F.MB_BIND_n_VALID n) = true ∧ s.mbSender n = m := by
  rw [State.mbBound_iff]
  tauto

theorem State.mbReceives_iff (s : State) (n m : Nat) :
    s.mbBound n m = true ∧ s.mbReceiver n = m ↔ s.on (F.MB_BIND_n_VALID n) = true ∧ s.mbReceiver n = m := by
  rw [State.mbBound_iff]
  tauto

section
variable {s : State} {m n : Nat}

/-! A post (R380). -/

theorem State.mbPost_disabled (h : s.on F.MB_CTRL_EN = false) (tag : Word) : s.mbPost m n tag = s.inc F.MB_REJ :=
  if_pos (by simp [h])

theorem State.mbPost_unbound (h : s.on F.MB_CTRL_EN = true) (hb : ¬ (s.on (F.MB_BIND_n_VALID n) = true ∧ s.mbSender n = m)) (tag : Word) :
    s.mbPost m n tag = s.mbReject m := by
  rw [State.mbPost, if_neg (by simp [h]), if_pos ((not_congr (s.mbSends_iff n m)).mpr hb)]

theorem State.mbPost_bound (h : s.on F.MB_CTRL_EN = true) (hb : s.on (F.MB_BIND_n_VALID n) = true ∧ s.mbSender n = m) (tag : Word) :
    s.mbPost m n tag = if s.on (F.MB_CH_STAT_FULL n) then
      { s with mb := { s.mb with posts := s.mb.posts ++ [⟨m, n, tag, Sparse.get 0 s.mb.stage n⟩] } }
      else s.mbNotice n (Sparse.get 0 s.mb.stage n) tag := by
  rw [State.mbPost, if_neg (by simp [h]), if_neg (not_not.mpr ((s.mbSends_iff n m).mpr hb))]

/-- The end of the core cycle refuses the one post that waits (R380). -/
theorem State.postFlush_single (h : s.mb.posts = []) (x : HeldPost) :
    ({ s with mb := { s.mb with posts := s.mb.posts ++ [x] } } : State).postFlush = s.postRefuse x := by
  rw [State.postFlush]
  simp only [h, List.nil_append, List.foldl_cons, List.foldl_nil]
  rw [← h]

/-! An EMPTY (R381, R382). -/

theorem State.mbClear_unbound (h : s.on F.MB_CTRL_EN = true) (hb : ¬ (s.on (F.MB_BIND_n_VALID n) = true ∧ s.mbReceiver n = m)) :
    s.mbClear m n = s.mbReject m := by
  rw [State.mbClear, if_neg (by simp [h]), if_pos ((not_congr (s.mbReceives_iff n m)).mpr hb)]

theorem State.mbClear_free (h : s.on F.MB_CTRL_EN = true) (hb : s.on (F.MB_BIND_n_VALID n) = true ∧ s.mbReceiver n = m)
    (hf : s.on (F.MB_CH_STAT_FULL n) = false) : s.mbClear m n = s.inc F.MB_EMPTY_IGN := by
  rw [State.mbClear, if_neg (by simp [h]), if_neg (not_not.mpr ((s.mbReceives_iff n m).mpr hb)), if_pos (by simp [hf])]

theorem State.mbClear_full (h : s.on F.MB_CTRL_EN = true) (hb : s.on (F.MB_BIND_n_VALID n) = true ∧ s.mbReceiver n = m)
    (hf : s.on (F.MB_CH_STAT_FULL n) = true) :
    ∃ pcie, s.mbClear m n = ({ s.emptyShown m (s.mbSender n) n with pcie := pcie } : State).postAfter n := by
  obtain ⟨pcie, hp⟩ := ((s.wr (F.MB_CH_STAT_FULL n) 0).wrBit (mbNotify m n) (n % 32) false).mbPend_shape (s.mbSender n) n
    (mbEmpty (s.mbSender n) n) (mbEmptyIe (s.mbSender n) n)
  refine ⟨pcie, ?_⟩
  rw [State.mbClear, if_neg (by simp [h]), if_neg (not_not.mpr ((s.mbReceives_iff n m).mpr hb)), if_neg (by simp [hf])]
  exact congrArg (State.postAfter · n) hp

theorem State.postAfter_none (h : s.mb.posts = []) (n : Nat) : s.postAfter n = s := by rw [State.postAfter, h]; rfl

theorem State.postAfter_single {x : HeldPost} (h : s.mb.posts = [x]) (hx : x.n = n) :
    s.postAfter n = ({ s with mb := { s.mb with posts := [] } } : State).mbNotice n x.ptr x.tag := by
  have hfind : s.mb.posts.find? (fun y => y.n == n) = some x := by simp [h, hx]
  rw [State.postAfter, hfind]
  simp [h]

theorem State.replyNext_none (h : s.mg.replies = []) (n : Nat) : s.replyNext n = s := by rw [State.replyNext, h]; rfl

end

/-! The lock (R384, R385). -/

theorem State.mbHolds_iff (s : State) (n m : Nat) :
    s.mbHolds n m = true ↔ s.on (F.MB_CH_STAT_LOCKED n) = true ∧ s.rd (F.MB_CH_STAT_LOCK_OWNER n) = m := by
  simp [State.mbHolds]

/-- The master that takes the lock holds it. -/
theorem State.mbHolds_mbLock (s : State) (n : Nat) {m : Nat} (hm : m < 64) : (s.mbLock n m).mbHolds n m = true := by
  refine (State.mbHolds_iff _ _ _).mpr ⟨?_, ?_⟩
  · rw [State.mbLock]
    exact State.on_of_one (by
      rw [State.rd_wr_ne _ _ _ _ (by simp only [Fld.key, F.MB_CH_STAT_LOCKED, F.MB_CH_STAT_LOCK_OWNER]; omega), State.rd_wr_self]
      rfl)
  · rw [State.mbLock, State.rd_wr_self]
    exact Nat.mod_eq_of_lt hm

theorem lockWinner_single (rr m : Nat) : lockWinner rr [m] = some m := by
  unfold lockWinner
  by_cases h : rr < m <;> simp [h]

section
variable {s : State} {m n : Nat} (hmay : s.mbMayLock n m = true)
include hmay

/-- A lock read by one master that may read it: `s1` is the state once the lock has its owner. -/
theorem State.mbTake_single : s.mbTake n [m] =
    let s1 := if s.on (F.MB_CH_STAT_LOCKED n) then s else s.mbLock n m
    { (if s1.mbHolds n m then s1 else s1.inc F.MB_LOCK_BUSY) with readData := [BitVec.ofNat 32 (s1.mbLockWord n m)] } := by
  have hok : [m].filter (fun m => s.mbMayLock n m) = [m] := by simp [hmay]
  unfold State.mbTake
  rw [hok]
  simp [lockWinner_single, hmay]

theorem State.mbTake_free (hm : m < 64) (h : s.on (F.MB_CH_STAT_LOCKED n) = false) :
    s.mbTake n [m] = { s.mbLock n m with readData := [0] } := by
  rw [State.mbTake_single hmay]
  simp [h, State.mbLockWord, s.mbHolds_mbLock n hm]

theorem State.mbTake_held (h : s.mbHolds n m = true) : s.mbTake n [m] = { s with readData := [0] } := by
  rw [State.mbTake_single hmay]
  simp [((s.mbHolds_iff n m).mp h).1, State.mbLockWord, h]

theorem State.mbTake_busy (hl : s.on (F.MB_CH_STAT_LOCKED n) = true) (h : s.mbHolds n m = false) :
    s.mbTake n [m] = { s.inc F.MB_LOCK_BUSY with readData := [BitVec.ofNat 32 (0x80000000 + s.rd (F.MB_CH_STAT_LOCK_OWNER n))] } := by
  rw [State.mbTake_single hmay]
  simp [hl, State.mbLockWord, h]

end

theorem State.mbHolds_eq_false {s : State} {n m : Nat} (h : s.on (F.MB_CH_STAT_LOCKED n) = false ∨ s.rd (F.MB_CH_STAT_LOCK_OWNER n) ≠ m) :
    s.mbHolds n m = false := by
  rw [← Bool.not_eq_true, State.mbHolds_iff]
  rintro ⟨hl, ho⟩
  rcases h with h | h
  · simp [h] at hl
  · exact h ho

section
variable {s : State} {m n : Nat}

theorem State.mbFree_unbound (h : s.mbBound n m = false) : s.mbFree m n = s.mbReject m := if_pos (by simp [h])

theorem State.mbFree_bound (h : s.mbBound n m = true) : s.mbFree m n = if s.mbHolds n m then s.mbUnlock n else s.inc F.MB_REJ :=
  if_neg (by simp [h])

end

/-! What the commands of an enabled MBOX reach. -/

/-- A notice of a channel, as the master that posts it finds it (R380). -/
theorem State.mbNotice_posted {s : State} {n : Nat} (hn : n < 64) (ptr : DWord) (tag : Word) :
    let t := s.mbNotice n ptr tag
    let r := s.mbReceiver n
    t.rd (F.MB_CH_STAT_FULL n) = 1 ∧ t.rd (F.MB_CH_TAG n) = tag.toNat ∧ t.rd64 (F.MB_CH_PTR_LO n) (F.MB_CH_PTR_HI n) = ptr.toNat
      ∧ t.rd F.MB_POSTS = min (s.rd F.MB_POSTS + 1) (2 ^ 32 - 1) ∧ bits (t.rd (mbNotify r n)) (n % 32) 1 = 1
      ∧ (s.mg.reqsNew = [] → t.mg.reqs = (if n < 4 then s.mg.reqs.filter (· ≠ n) ++ [n] else s.mg.reqs))
      ∧ s.keepsRegs t [F.MB_CH_STAT_FULL n, F.MB_CH_TAG n, F.MB_CH_PTR_LO n, F.MB_CH_PTR_HI n, F.MB_POSTS, mbNotify r n]
      ∧ t = { s with regs := t.regs, mg := t.mg, pcie := t.pcie } := by
  obtain ⟨pcie, h⟩ := s.mbNotice_shape n ptr tag
  dsimp only
  rw [h]
  exact ⟨s.rd_noticeShown_full hn ptr tag, s.rd_noticeShown_tag hn ptr tag, s.rd64_noticeShown hn ptr tag, s.rd_noticeShown_posts ptr tag,
    s.bits_noticeShown_notify ptr tag, fun hnew => State.noticeMg_reqs hnew n, (s.noticeShown_keepsRegs ptr tag).of_regs rfl, rfl⟩

/-- An EMPTY of a full channel that no post waits for (R381). -/
theorem State.mbClear_done {s : State} {m n : Nat} (hn : n < 64) (hen : s.on F.MB_CTRL_EN = true)
    (hb : s.on (F.MB_BIND_n_VALID n) = true ∧ s.mbReceiver n = m) (hf : s.on (F.MB_CH_STAT_FULL n) = true) (hp : s.mb.posts = []) :
    let t := s.mbClear m n
    let o := s.mbSender n
    t.rd (F.MB_CH_STAT_FULL n) = 0 ∧ bits (t.rd (mbEmpty o n)) (n % 32) 1 = 1 ∧ bits (t.rd (mbNotify m n)) (n % 32) 1 = 0
      ∧ s.keepsRegs t [F.MB_CH_STAT_FULL n, mbEmpty o n, mbNotify m n] ∧ t = { s with regs := t.regs, pcie := t.pcie } := by
  obtain ⟨pcie, h⟩ := State.mbClear_full hen hb hf
  dsimp only
  rw [h, State.postAfter_none (by exact hp)]
  exact ⟨s.rd_emptyShown_full hn m _, s.bits_emptyShown_empty m _, s.bits_emptyShown_notify m _,
    (s.emptyShown_keepsRegs m _).of_regs rfl, rfl⟩

/-- An EMPTY of a full channel that one post waits for: the post enters it (R382). -/
theorem State.mbClear_post {s : State} {m n : Nat} (hn : n < 64) (hen : s.on F.MB_CTRL_EN = true)
    (hb : s.on (F.MB_BIND_n_VALID n) = true ∧ s.mbReceiver n = m) (hf : s.on (F.MB_CH_STAT_FULL n) = true) {x : HeldPost}
    (hp : s.mb.posts = [x]) (hx : x.n = n) :
    let t := s.mbClear m n
    t.mb.posts = [] ∧ t.rd (F.MB_CH_STAT_FULL n) = 1 ∧ t.rd (F.MB_CH_TAG n) = x.tag.toNat
      ∧ t.rd64 (F.MB_CH_PTR_LO n) (F.MB_CH_PTR_HI n) = x.ptr.toNat ∧ bits (t.rd (mbEmpty (s.mbSender n) n)) (n % 32) 1 = 1
      ∧ bits (t.rd (mbNotify m n)) (n % 32) 1 = 1 ∧ t.mg.replies = s.mg.replies := by
  obtain ⟨pcie, h⟩ := State.mbClear_full hen hb hf
  obtain ⟨e, he⟩ : ∃ e : State, e = { s.emptyShown m (s.mbSender n) n with pcie := pcie, mb := { s.mb with posts := [] } } := ⟨_, rfl⟩
  have hclear : s.mbClear m n = e.mbNotice n x.ptr x.tag := by
    rw [h, State.postAfter_single (by exact hp) hx, he]
    rfl
  have hr : e.mbReceiver n = m := by rw [he]; exact (s.rd_emptyShown_receiver hn m _).trans hb.2
  obtain ⟨hfull, htag, hptr, -, hnotify, -, hkeeps, hrest⟩ := e.mbNotice_posted hn x.ptr x.tag
  rw [hr] at hnotify hkeeps
  dsimp only
  rw [hclear]
  refine ⟨?_, hfull, htag, hptr, ?_, hnotify, ?_⟩
  · rw [hrest, he]
  · rw [hkeeps (mbEmpty (s.mbSender n) n) ?_, he]
    · exact s.bits_emptyShown_empty m _
    · simp only [List.map_cons, List.map_nil, List.mem_cons, List.not_mem_nil, or_false, not_or]
      exact ⟨(key_ne_mbEmpty (chPlace_full hn) _ _).symm, (key_ne_mbEmpty (chPlace_tag hn) _ _).symm, (key_ne_mbEmpty (chPlace_ptrLo hn) _ _).symm,
        (key_ne_mbEmpty (chPlace_ptrHi hn) _ _).symm, (key_ne_mbEmpty chPlace_posts _ _).symm, mbEmpty_key_ne_mbNotify _ _ _ _⟩
  · obtain ⟨pc, hshape⟩ := e.mbNotice_shape n x.ptr x.tag
    rw [hshape, he]
    unfold State.noticeMg
    split <;> rfl

/-- Settles O48: each command of a master that MBOX answers reaches its operation, whose cases are those of the statement. -/
theorem mailboxes : Obligations.Mailboxes := by
  intro m n tag v s hdec htakes hmay hheld hm i r o valid rej
  have hi : i < 64 := n.isLt
  have hguard : ∀ (off : Nat) (f : State → State), s.mbGuard 1 permW m i off f = f s := State.mbGuard_taken htakes hmay hheld i
  have hpost : exec (.mailboxPost m n tag) s = .next (s.mbPost m i tag) := congrArg Host.Outcome.next (hguard _ _)
  have hempty : exec (.mailboxEmpty m n) s = .next (s.mbCmdEmpty m i) := congrArg Host.Outcome.next (hguard _ _)
  have hfree : exec (.mailboxLockFree m n) s = .next (s.mbFree m i) := congrArg Host.Outcome.next (hguard _ _)
  have htake : exec (.mailboxLockTake n [m]) s = .next (s.mbTake i [m]) := rfl
  rw [hpost, hempty, hfree, htake]
  refine ⟨fun hen => congrArg _ (State.mbPost_disabled hen tag), fun hen => ⟨fun hb => congrArg _ (State.mbPost_unbound hen hb tag),
    fun hv ho => ⟨fun hf => ?_, fun hf => ?_⟩, fun hb hr => ?_, fun hv hr hrep => ⟨fun hf => ?_, fun x hf hp hx => ?_, fun hf hp => ?_⟩,
    fun hb => ?_⟩, fun hb => congrArg _ (State.mbFree_unbound hb), fun hb => ?_, fun hacc => ?_, fun hacc => ?_⟩
  · exact ⟨congrArg _ ((State.mbPost_bound hen ⟨hv, ho⟩ tag).trans (if_pos hf)), fun hp => State.postFlush_single hp _⟩
  · exact ⟨_, congrArg _ ((State.mbPost_bound hen ⟨hv, ho⟩ tag).trans (if_neg (by simp [hf]))), State.mbNotice_posted hi _ tag⟩
  · rw [State.mbCmdEmpty, State.mbClear_unbound hen hb, State.replyNext_none (by exact hr)]
    rfl
  · rw [State.mbCmdEmpty, State.mbClear_free hen ⟨hv, hr⟩ hf, State.replyNext_none (by exact hrep)]
  · obtain ⟨hposts, hfull, htag, hptr, hbit, hnotify, hreplies⟩ := State.mbClear_post hi hen ⟨hv, hr⟩ hf hp hx
    exact ⟨_, congrArg _ (State.replyNext_none (hreplies.trans hrep) i), hposts, hfull, htag, hptr, hbit, hnotify⟩
  · have hdone := State.mbClear_done hi hen ⟨hv, hr⟩ hf hp
    refine ⟨_, congrArg _ (State.replyNext_none ?_ i), hdone⟩
    rw [hdone.2.2.2.2]
    exact hrep
  · have hlock : s.mbMayLock i m = true := by simp [State.mbMayLock, hdec, hmay, hheld, hen, hb]
    exact ⟨fun hl => congrArg _ (State.mbTake_free hlock hm hl),
      fun hl ho => congrArg _ (State.mbTake_busy hlock hl (State.mbHolds_eq_false (.inr ho))),
      fun hl ho => congrArg _ (State.mbTake_held hlock ((s.mbHolds_iff i m).mpr ⟨hl, ho⟩))⟩
  · rw [State.mbFree_bound hb]
    exact ⟨fun h => congrArg _ (if_pos ((s.mbHolds_iff i m).mpr h)),
      fun h => congrArg _ (if_neg (by simp [State.mbHolds_eq_false h]))⟩
  · have hbind : exec (.mailboxBindWrite m n v) s = .next (s.mbBind m i v.toNat) := congrArg Host.Outcome.next (State.busW_accepts hacc _)
    rw [hbind]
    exact ⟨fun hlow => congrArg _ (if_pos hlow), fun hhigh =>
      ⟨fun hc => congrArg _ ((if_neg (by omega)).trans (if_pos hc)), fun hc => congrArg _ ((if_neg (by omega)).trans (if_neg hc))⟩⟩
  · exact congrArg Host.Outcome.next (State.busW_accepts hacc _)

end Sys2Proof.Machine
/-! What a restart of the module keeps (R402, R492). -/

namespace Sys2Proof.Machine

/-- Writes of registers reach nothing else. -/
theorem State.foldl_wr_shape (l : List Fld) (v : Fld → Nat) (s : State) : ∃ regs, l.foldl (fun t g => t.wr g (v g)) s = { s with regs := regs } :=
  List.foldlRecOn (motive := fun t : State => ∃ regs, t = { s with regs := regs }) l _ ⟨s.regs, rfl⟩
    (fun t ht g _ => by
      obtain ⟨regs, rfl⟩ := ht
      exact ⟨_, rfl⟩)

/-- Of writes to registers, of which no other is `f`, the one to `f` is what it reads. -/
theorem State.rd_foldl_wr_mem {l : List Fld} {f : Fld} (hl : ∀ g ∈ l, g.key = f.key → g = f) (v : Fld → Nat) (s : State) (hf : f ∈ l)
    (hw : f.w ≤ 32) : (l.foldl (fun t g => t.wr g (v g)) s).rd f = v f % 2 ^ f.w := by
  induction l generalizing s with
  | nil => simp at hf
  | cons g l ih =>
    rw [List.foldl_cons]
    by_cases hm : f ∈ l
    · exact ih (fun k hk => hl k (List.mem_cons_of_mem g hk)) _ hm
    · obtain rfl : f = g := (List.mem_cons.mp hf).resolve_right hm
      have hne : ∀ k ∈ l, f.key ≠ k.key := fun k hk he => hm (hl k (List.mem_cons_of_mem f hk) he.symm ▸ hk)
      rw [State.rd_foldl_wr_notMem hne, State.rd_wr_same _ _ _ hw]

/-- A pin falls: the pads and the wire only (R515). -/
theorem PadsOnly.toutOff {r s : State} (h : PadsOnly r s) (n : Nat) : PadsOnly r (s.toutOff n) := .ite ((h.moved _ s.wire).emit rfl) h

theorem State.padsOff_padsOnly (s : State) : PadsOnly s s.padsOff :=
  ((((PadsOnly.ite ((PadsOnly.refl s).emit rfl) (.refl s)).toutOff 0).toutOff 1).toutOff 2).toutOff 3

theorem State.padsOff_regs (s : State) : s.padsOff.regs = s.regs := by rw [s.padsOff_padsOnly]

theorem State.padsOff_mg (s : State) : s.padsOff.mg = s.mg := by rw [s.padsOff_padsOnly]

theorem State.chipReset_regs (s : State) : s.chipReset.regs = (s.padsOff.restart (norFields ++ chipFields)).regs := rfl

/-- A chip reset keeps what fuses and NOR hold, its own record, and the level of two pads (R492). -/
theorem State.rd_chipReset_kept (s : State) {f : Fld} (hf : f ∈ norFields ++ chipFields)
    (hl : ∀ g ∈ norFields ++ chipFields, g.key = f.key → g = f) (hw : f.w ≤ 32) : s.chipReset.rd f = s.rd f % 2 ^ f.w := by
  rw [State.rd_of_regs s.chipReset_regs, State.restart, State.rd_foldl_wr_mem hl _ _ hf hw,
    State.rd_of_regs s.padsOff_regs]

/-- Every other register returns to its reset value. -/
theorem State.rd_chipReset_other (s : State) {f : Fld} (hf : ∀ g ∈ norFields ++ chipFields, f.key ≠ g.key) :
    s.chipReset.rd f = f.rst % 2 ^ 32 := by
  rw [State.rd_of_regs s.chipReset_regs, State.rd_restart hf]

/-- The keys and images that the NOR holds stay (R492). -/
theorem State.chipReset_keys (s : State) : s.chipReset.mg.ownerKey = s.mg.ownerKey ∧ s.chipReset.mg.ebA = s.mg.ebA
    ∧ s.chipReset.mg.ebB = s.mg.ebB ∧ s.chipReset.mg.deviceKey = s.mg.deviceKey := by
  obtain ⟨regs, h⟩ := State.foldl_wr_shape (norFields ++ chipFields) (fun f => s.padsOff.rd f) _
  rw [State.chipReset, State.restart, h, ← s.padsOff_mg]
  exact ⟨rfl, rfl, rfl, rfl⟩

/-! Access tables, debug levels and the debug port (R391 to R398, R404, R405, R411; `Obligations.AccessTablesAndDebugPort`). -/

section
variable {s : State} {t w : Nat}

/-- A written table word; `tblOld` holds the word of the checks of its core cycle (R395). -/
theorem State.tblWord_tblSet (hw : w < 8) (v : Nat) {j : Nat} (hj : j < 8) : (s.tblSet t w v).tblWord t j = s.tblWord t j := by
  rcases eq_or_ne j w with rfl | hne
  · rw [State.tblWord, State.tblSet]
    simp
  · have hkey : (F.AC_TBL_t_w t j).key ≠ (F.AC_TBL_t_w t w).key := by simp only [Fld.key, F.AC_TBL_t_w]; omega
    rw [State.tblWord, State.tblSet]
    simp only [Sparse.get_put_ne none s.crp.tblOld _ (show t * 8 + j ≠ t * 8 + w by omega)]
    exact congrArg (Option.getD _) (State.rd_wr_ne _ _ _ _ hkey)

/-- The checks of the core cycle of a table write use the table as it stood (R395). -/
theorem State.may_tblSet (hw : w < 8) (v : Nat) {k : Nat} (hk : k < 64) (bit : Nat) : (s.tblSet t w v).may t k bit = s.may t k bit := by
  have hdbg : (s.tblSet t w v).rd F.AC_STATUS_DBG = s.rd F.AC_STATUS_DBG :=
    State.rd_wr_ne _ _ _ _ (by simp only [Fld.key, F.AC_TBL_t_w, F.AC_STATUS_DBG]; omega)
  rw [State.may, State.may, State.perms, State.perms, hdbg, State.tblWord_tblSet hw v (by omega)]

theorem State.rd_tblSet (v : Word) (w : Nat) : (s.tblSet t w v.toNat).rd (F.AC_TBL_t_w t w) = v.toNat &&& tblMask w :=
  (State.rd_wr_same _ _ _ (Nat.le_refl 32)).trans (Nat.mod_eq_of_lt (Nat.lt_of_le_of_lt Nat.and_le_left v.isLt))

theorem State.tblSet_keepsRegs (v : Nat) : s.keepsRegs (s.tblSet t w v) [F.AC_TBL_t_w t w] :=
  ((State.keepsRegs.refl s _).wrIn : s.keepsRegs (s.wr (F.AC_TBL_t_w t w) (v &&& tblMask w)) [F.AC_TBL_t_w t w]).of_regs rfl

end

/-- The registers of a lock of the tables (R394, R485). -/
theorem State.lockTables_keepsRegs (s : State) : s.keepsRegs s.lockTables [F.AC_CTRL_LOCK, F.AC_STATUS_LOCKED, F.CRP_BOOT_PHASE] := by
  have h := (State.keepsRegs.refl s [F.AC_CTRL_LOCK, F.AC_STATUS_LOCKED, F.CRP_BOOT_PHASE]).wr (f := F.AC_CTRL_LOCK) (v := 1) |>.wr (f := F.AC_STATUS_LOCKED) (v := 1)
  unfold State.lockTables
  dsimp only
  split
  · exact h.wr
  · exact h

theorem State.lockTables_shape (s : State) : s.lockTables = { s with regs := s.lockTables.regs } := by
  unfold State.lockTables
  dsimp only
  split <;> rfl

theorem State.rd_lockTables (s : State) {f : Fld} (hf : f.key ≠ F.CRP_BOOT_PHASE.key) :
    s.lockTables.rd f = ((s.wr F.AC_CTRL_LOCK 1).wr F.AC_STATUS_LOCKED 1).rd f := by
  unfold State.lockTables
  dsimp only
  split
  · exact State.rd_wr_ne _ _ _ _ hf
  · rfl

theorem State.lockTables_locks (s : State) : s.lockTables.rd F.AC_CTRL_LOCK = 1 ∧ s.lockTables.rd F.AC_STATUS_LOCKED = 1 := by
  constructor
  · rw [s.rd_lockTables (by decide), State.rd_wr_ne _ _ _ _ (by decide), State.rd_wr_self]
    rfl
  · rw [s.rd_lockTables (by decide), State.rd_wr_self]
    rfl

/-- An ordered life-cycle change up to its chip reset, in whose course the records of the log have been written (R398, R440). -/
theorem State.lcChange_reset (s : State) (dest : Nat) : ∃ u : State, s.lcChange dest = (u.wr F.AC_STATUS_LC dest).chipReset
    ∧ (s.lc = lcField → dest = lcOwned → u.rd F.AC_STATUS_REOWN = (s.rd F.AC_STATUS_REOWN + 1) % 16)
    ∧ (dest = lcReturn ∨ dest = lcRetired → u.mg.ownerKey = none ∧ u.mg.ebA = none ∧ u.mg.ebB = none)
    ∧ (dest = lcRetired → u.mg.deviceKey = false) := by
  refine ⟨_, rfl, fun hf ho => ?_, fun hd => ?_, fun hd => ?_⟩
  · subst ho
    rw [if_neg (by decide), if_neg (by decide), if_pos ⟨hf, rfl⟩, State.rd_wr_self]
    rfl
  · rw [if_pos hd]
    have hmg : ∀ u : State, ((List.range 8).foldl (fun s n => s.wr (F.AC_OWNER_HASH_n n) 0) u).mg = u.mg := fun _ => rfl
    split <;> simp only [State.wr_mg, hmg, and_self]
  · rw [if_pos hd]
    rfl

/-- A life-cycle change ends in a chip reset, which keeps the state in the fuses (R398, R492). -/
theorem State.lcChange_done (s : State) {dest : Nat} (hd : dest < 8) :
    (s.lcChange dest).rd F.AC_STATUS_LC = dest
      ∧ (s.rd F.AC_STATUS_LC = 3 → dest = 2 → (s.lcChange dest).rd F.AC_STATUS_REOWN = (s.rd F.AC_STATUS_REOWN + 1) % 16)
      ∧ (dest = 4 ∨ dest = 5 → (s.lcChange dest).mg.ownerKey = none ∧ (s.lcChange dest).mg.ebA = none ∧ (s.lcChange dest).mg.ebB = none)
      ∧ (dest = 5 → (s.lcChange dest).mg.deviceKey = false) ∧ (s.lcChange dest).on F.AC_STATUS_LOCKED = false := by
  obtain ⟨u, hu, hre, hkeys, hdev⟩ := s.lcChange_reset dest
  rw [hu]
  refine ⟨?_, fun hf ho => ?_, fun h => ?_, fun h => ?_, ?_⟩
  · rw [State.rd_chipReset_kept _ (by decide) (by decide) (by decide), State.rd_wr_self]
    exact (Nat.mod_mod _ _).trans (Nat.mod_eq_of_lt hd)
  · rw [State.rd_chipReset_kept _ (by decide) (by decide) (by decide), State.rd_wr_ne _ _ _ _ (by decide), hre hf ho]
    exact Nat.mod_mod _ 16
  · obtain ⟨hkey, ha, hb, -⟩ := (u.wr F.AC_STATUS_LC dest).chipReset_keys
    rw [hkey, ha, hb]
    exact hkeys h
  · obtain ⟨-, -, -, hdevice⟩ := (u.wr F.AC_STATUS_LC dest).chipReset_keys
    rw [hdevice]
    exact hdev h
  · exact State.on_of_zero (State.rd_chipReset_other _ (by decide))

/-- Settles O49: the tables by `may_tblSet` and its companions, the life-cycle change by `lcChange_done`; the debug port by its level. -/
theorem accessTablesAndDebugPort : Obligations.AccessTablesAndDebugPort := by
  refine ⟨fun m t w v s hacc => ?_, fun m s hacc => ?_, fun d dest s => ?_, fun token pads s => ?_⟩
  · have hexec : exec (.accessTableWrite m t w v) s = .next (s.tblWrite m t.val w.val v.toNat) :=
      congrArg Host.Outcome.next (State.busW_accepts hacc _)
    rw [hexec]
    refine ⟨fun hm hl => ⟨_, congrArg _ (if_pos ⟨hm, by simp [hl]⟩), State.rd_tblSet v _, State.tblSet_keepsRegs _,
      fun k hk => State.may_tblSet w.isLt _ hk _, rfl⟩, fun h => congrArg _ (if_neg ?_)⟩
    rintro ⟨hm, hl⟩
    exact h.elim (· hm) hl
  · have hlock : exec (.tableLock m) s = .next (s.tblLock m) := congrArg Host.Outcome.next (State.busW_accepts hacc _)
    have hend : exec (.dbgEnd m) s = .next (s.dbgEndWrite m) := congrArg Host.Outcome.next (State.busW_accepts hacc _)
    rw [hlock, hend]
    refine ⟨fun hm => ⟨_, congrArg _ (if_pos hm), s.lockTables_locks.1, s.lockTables_locks.2, s.lockTables_keepsRegs, s.lockTables_shape⟩,
      fun hm => congrArg _ (if_neg hm), fun hm => congrArg _ (if_pos (by tauto)), fun h0 h1 h20 => congrArg _ (if_neg (by tauto))⟩
  · refine ⟨fun h => ?_, fun h hlt => ?_, fun h hle => ?_, fun h => ?_, fun h hd => ?_⟩
    · show Host.Outcome.next (match s.crp.dbgEnd with | some t => _ | none => s) = _
      rw [h]
    · show Host.Outcome.next (match s.crp.dbgEnd with | some t => _ | none => s) = _
      rw [h]
      exact congrArg _ (if_neg (by omega))
    · show Host.Outcome.next (match s.crp.dbgEnd with | some t => _ | none => s) = _
      rw [h]
      exact congrArg _ (if_pos hle)
    · show Host.Outcome.next (match s.crp.lcNext with | some t => _ | none => s) = _
      rw [h]
    · refine ⟨s.lcChange dest, ?_, s.lcChange_done hd⟩
      show Host.Outcome.next (match s.crp.lcNext with | some t => _ | none => s) = _
      rw [h]
  · refine ⟨fun hoff => ⟨congrArg _ (if_pos hoff), congrArg _ (if_pos hoff), congrArg _ (if_pos (.inl hoff)), congrArg _ (if_pos (.inl hoff)),
      congrArg _ (if_pos (.inl hoff)), congrArg _ (if_pos (.inl hoff))⟩, fun hon => ⟨congrArg _ (if_neg (by simp [hon])),
      congrArg _ (if_neg (by simp [hon])), fun h => congrArg _ (if_pos (.inr (by rw [State.dbg, h]; decide))), fun h => ⟨_, congrArg _ (if_neg ?_)⟩,
      fun h => ⟨congrArg _ (if_pos (.inr h)), congrArg _ (if_pos (.inr (.inl h))), congrArg _ (if_pos (.inr h))⟩, fun h => ?_⟩⟩
    · simp only [hon, State.dbg, dbgDiag, Bool.false_eq_true, false_or]
      omega
    · have hopen : ¬ (s.crp.off = true ∨ s.dbg < dbgOpen) := by
        simp only [hon, State.dbg, dbgOpen, Bool.false_eq_true, false_or]
        omega
      exact ⟨congrArg _ (if_neg hopen), congrArg _ (if_neg hopen), fun hh => congrArg _ (if_neg (by tauto)), fun hh => congrArg _ (if_pos (by simp [hh]))⟩

end Sys2Proof.Machine
/-! What the end of a port's traffic leaves: of the registers of GCTL and CRP nothing (R460, R461, R466). One lemma per operation, from the
state's to `linkLost`; those of `HostKept` serve where an operation reaches no host either. -/

namespace Sys2Proof.Machine

/-- From `r` to `s` no register of GCTL or CRP has moved. -/
def CrpKept (r s : State) : Prop := ∀ f : Fld, f.key < crpEnd → s.rd f = r.rd f

namespace CrpKept

-- The many short proofs below are elaborated one after the other: side by side, each would hold a thread of its own until the kernel has
-- checked those before it.
set_option Elab.async false

theorem refl (s : State) : CrpKept s s := fun _ _ => rfl

/-- A record that keeps the register file of a state. -/
theorem mk_ {r x : State} {tb : Tb} {pcie : Pcie} {qe : Qe} {dma : List (Nat × Ch)} {mb : Mb} {gr : Gr} {pt : Pt} {kn : Kn} {gy : Gy} {hz : Hz}
    {ms : Ms} {tw : Tw} {fn : Fn} {ps : Ps} {lt : Lt} {ln : Ln} {rx : List (Nat × Option RxFrame)} {cl : Cl} {bp : Bp} {fd : Fd}
    {crp : Crp} {mg : Mg} {sp : Sp} {yieldAt : List (Nat × Option Nat)} {wire : List WireOut} {latched loHeld : List (Nat × Option Word)}
    {recLatch : List (Nat × Option (Nat × List DWord))} {readData : List Word} {freeIdx : Nat} {pending : List Instr} (h : CrpKept r x) :
    CrpKept r (State.mk x.regs tb pcie qe dma mb gr pt kn gy hz ms tw fn ps lt ln rx cl bp fd crp mg sp yieldAt wire latched loHeld
      recLatch readData freeIdx pending) := h

theorem ite {r a b : State} {c : Prop} [Decidable c] (h : CrpKept r a) (g : CrpKept r b) : CrpKept r (if c then a else b) := by
  split <;> assumption

theorem itePair {β : Type} {r : State} {a b : State × β} {c : Prop} [Decidable c] (h : CrpKept r a.1) (g : CrpKept r b.1) :
    CrpKept r (if c then a else b).1 := by
  split <;> assumption

theorem foldl {α : Type} {r s : State} {f : State → α → State} {l : List α} (h : CrpKept r s)
    (hf : ∀ s x, CrpKept r s → CrpKept r (f s x)) : CrpKept r (l.foldl f s) := by
  induction l generalizing s with
  | nil => exact h
  | cons x t ih => exact ih (hf s x h)

section
variable {r s : State} (h : CrpKept r s)
include h

theorem host {t : State} (g : HostKept s t) : CrpKept r t := fun f hf => (g.rd f hf).trans (h f hf)

/-- A write of a register beyond CRP. -/
theorem wr {f : Fld} {v : Nat} (hf : 0x20000 ≤ f.off := by decide) : CrpKept r (s.wr f v) := h.host ((HostKept.refl s).wr hf)

/-- The same for a register of an array, whose offset is a sum. -/
theorem wrAt {f : Fld} {v : Nat} (hf : 0x20000 ≤ f.off := by exact Nat.le_add_right_of_le (by decide)) : CrpKept r (s.wr f v) := h.wr hf

theorem inc {f : Fld} (hf : 0x20000 ≤ f.off := by decide) : CrpKept r (s.inc f) := h.wr hf
theorem incAt {f : Fld} (hf : 0x20000 ≤ f.off := by exact Nat.le_add_right_of_le (by decide)) : CrpKept r (s.inc f) := h.wr hf
theorem raise {a b : Nat} {c : Option Nat} {d : Nat} : CrpKept r (s.raise a b c d) := h.mk_
theorem raise0 {a b : Nat} : CrpKept r (s.raise0 a b) := h.mk_
theorem shareHold {c m n : Nat} : CrpKept r (s.shareHold c m n) := h.host (HostKept.refl s).shareHold
theorem releaseHold {c m : Nat} : CrpKept r (s.releaseHold c m) := h.host (HostKept.refl s).releaseHold
theorem setItem {i : Nat} {v : Option Item} : CrpKept r (s.setItem i v) := h.host (HostKept.refl s).setItem
theorem dropItem {i : Nat} : CrpKept r (s.dropItem i) := h.host (HostKept.refl s).dropItem
theorem endItem {i status flags : Nat} : CrpKept r (s.endItem i status flags) := h.host (HostKept.refl s).endItem
theorem yieldTo {a b : Nat} : CrpKept r (s.yieldTo a b) := h.host (HostKept.refl s).yieldTo
theorem onset {a b c : Nat} : CrpKept r (s.onset a b c) := fun f hf => (State.rd_of_regs (State.onset_regs ..) f).trans (h f hf)

theorem enterHoldover : CrpKept r s.enterHoldover := h.wr.wr.wr

theorem announce {type : Nat} : CrpKept r (s.announce type) := by
  obtain ⟨pad, wire, e⟩ := s.announce_shape type
  rw [e]
  exact h.mk_

theorem setRole {v : Nat} : CrpKept r (s.setRole v) := by
  obtain ⟨pad, at_, wire, e⟩ := s.setRole_shape v
  rw [e]
  exact mk_ h.wr.wr

/-! What leaves the module. -/

theorem emit {w : WireOut} : CrpKept r (s.emit w) := by
  have hloop : CrpKept r (s.loopPut w) := by
    unfold State.loopPut
    split
    · exact .ite h.mk_ h
    · exact h
  exact .ite h hloop.mk_

theorem emitFrags {p : Nat} {out : List Byte} : ∀ {l : List Nat} {a : Nat}, CrpKept r (s.emitFrags p out a l) := by
  intro l
  induction l generalizing s with
  | nil => exact h
  | cons n l ih => exact ih h.emit

theorem toHost {w : HostWrite} : CrpKept r (s.toHost w) := .ite h (.ite h.mk_ h.mk_)
theorem msix {fn vec : Nat} : CrpKept r (s.msix fn vec) := .ite h.mk_ h.toHost
theorem portCount {p : Nat} {f : Fld} (hf : 0x20000 ≤ f.off) : CrpKept r (s.portCount p f) := .ite (h.inc hf) h.mk_

/-! Completion queues (R310 to R315). -/

theorem cqMessage {c : Nat} : CrpKept r (s.cqMessage c) := .ite h.mk_ (.msix h.mk_)
theorem cqEvent {c : Nat} : CrpKept r (s.cqEvent c) := .ite (.ite (.cqMessage h.mk_) h.mk_) h

theorem fold {c rung : Nat} : CrpKept r (s.fold c rung) := by
  have k : CrpKept r ((s.inc (F.QE_CQ_INFO_q_GAP c)).inc F.QE_FOLD) := h.incAt.inc
  have k2 : CrpKept r (if s.rd (F.QE_CQ_INFO_q_GAP c) = 0 then ((s.inc (F.QE_CQ_INFO_q_GAP c)).inc F.QE_FOLD).raise Src.QE_CQ_FOLD c none 0
    else (s.inc (F.QE_CQ_INFO_q_GAP c)).inc F.QE_FOLD) := .ite k.raise k
  exact .cqEvent (.ite k2.yieldTo k2)

/-! The decision trace, and what extraction writes of points (R157 to R161, R370). -/

theorem traceDecision {kind reason choice subject : Nat} : CrpKept r (s.traceDecision kind reason choice subject) := by
  have k : ∀ pt n m, CrpKept r ((({ s with pt := pt } : State).wr F.PT_TRACE_STAT_WPTR n).wr F.PT_TRACE_STAT_LEVEL m) := fun _ _ _ => .wr (.wr h.mk_)
  exact .ite (.ite h.inc.wr (.ite (k _ _ _).wr (k _ _ _))) h

theorem noChoice {kind subject : Nat} : CrpKept r (s.noChoice kind subject) := h.inc.raise0.traceDecision

theorem extPush {w : PWrite} : CrpKept r (s.extPush w) :=
  .ite h.inc (.ite h.inc.mk_ (.ite h.inc.raise0 (.wr h.mk_)))

theorem mapField {g : Nat} {data : List Byte} {stamp : DWord} {lo hi : Nat} : CrpKept r (s.mapField g data stamp lo hi) :=
  .ite h.inc.raise0 h.extPush

theorem mapFields {g : Nat} {data : List Byte} {stamp : DWord} {m : List DWord} {i n : Nat} : CrpKept r (s.mapFields g data stamp m i n) := by
  induction n generalizing s i with
  | zero => exact h
  | succ n ih => exact ih h.mapField

theorem mapApply {g : Nat} {data : List Byte} {stamp : DWord} {m : List DWord} : CrpKept r (s.mapApply g data stamp m) := .ite h.mapFields h

theorem extract {c : MapChain} {g : Nat} {data : List Byte} {stamp : DWord} : CrpKept r (s.extract c g data stamp) := by
  have k : CrpKept r (c.maps.foldl (fun s m => s.mapApply g data stamp m) s) := h.foldl (fun _ _ k => k.mapApply)
  exact .ite (.ite k.inc.raise0 k) h

theorem extDeliver {x : ExtWait} : CrpKept r (s.extDeliver x) := .ite h.mk_ h.extract.releaseHold

/-! Recovery and shapers (R213, R245). -/

theorem recEval {f p n : Nat} : CrpKept r (s.recEval f p n).1 :=
  .itePair h.inc (.itePair h.mk_ (.itePair (.itePair h.mk_ h.mk_) (.itePair (raise0 (inc h.mk_)) (.itePair h.mk_ (.itePair h.mk_ h.mk_)))))

theorem setShp {i : Nat} {v : Shp} : CrpKept r (s.setShp i v) := .wr h.mk_

theorem shDebit {i n : Nat} : CrpKept r (s.shDebit i n) := .ite h.setShp (.ite h.setShp h.setShp)

theorem slopesApply {p : Nat} : CrpKept r (s.slopesApply p) := by
  have hcredit : ∀ s c v, CrpKept r s → CrpKept r (s.setCredit p c v) := fun _ _ _ k => .ite (.wrAt k.mk_) k.mk_
  exact h.foldl (fun _ _ k => .ite (hcredit _ _ _ k.mk_) k.mk_)

/-! Items of the work table, and the wire (R105, R109, R117). -/

theorem makeReady {i : Nat} {it : Item} : CrpKept r (s.makeReady i it) := .ite h.incAt.raise.endItem h.setItem

theorem wireFree {p stop : Nat} : CrpKept r (s.wireFree p stop) := .slopesApply h.mk_

theorem mmUpdate {p : Nat} : CrpKept r (s.mmUpdate p) := by
  have k : ∀ s v port, CrpKept r s → CrpKept r ((s.wr (F.LN_Pn_MM_STATUS_VERIFY_STATE p) v).setLnPort p port) := fun _ _ _ k => mk_ k.wrAt
  unfold State.mmUpdate
  exact wrAt (.ite (k _ _ _ h) (.ite (k _ _ _ h) (.ite (k _ _ _ h) h)))

theorem fwdAdmit {fr : RxFrame} {it : Item} : CrpKept r (s.fwdAdmit fr it).1 := .itePair (setItem h.mk_) h.incAt

/-- The frame of a cut-through item that stands on the wire has its end. -/
theorem ctFinish {i : Nat} {content fresh : List Byte} {bad : Bool} {chain : Option Nat} : CrpKept r (s.ctFinish i content fresh bad chain).1 := by
  unfold State.ctFinish
  split
  · exact h
  · next it _ =>
    refine .itePair ?_ (.itePair h.dropItem (.ite h.setItem.makeReady h.setItem))
    have k : ∀ n, CrpKept r ((s.shapersOf it.src it.port it.cls).foldl (fun s j => s.shDebit j n) s) := fun _ => h.foldl (fun _ _ k => k.shDebit)
    dsimp only
    split
    · exact .ite (mk_ (.emitFrags (.setItem (.ite (raise (k _).incAt) (k _))))) (.emitFrags (.setItem (.ite (raise (k _).incAt) (k _))))
    · exact .emitFrags (.setItem (.ite (raise (k _).incAt) (k _)))

/-! Delivery (R216, R303, R368). -/

theorem rxNoBuf {q : Nat} : CrpKept r (s.rxNoBuf q) := h.inc.raise0

theorem rxRead {q p c : Nat} {w : HostWrite} : CrpKept r (s.rxRead q p c w) := .ite (mk_ h.shareHold.toHost) h.shareHold.toHost.releaseHold

theorem rxDeliver {q p : Nat} {g : Option Nat} {data : List Byte} {t : Stamp} {cell : Nat} : CrpKept r (s.rxDeliver q p g data t cell) := by
  unfold State.rxDeliver
  refine .ite h.rxNoBuf ?_
  split
  · exact h.rxNoBuf
  · exact .ite h.inc (.ite h.fold (mk_ (rxRead (wrAt h.mk_))))

theorem chooseRxq {g set : Nat} : CrpKept r (s.chooseRxq g set).1 := by
  have hrebind : ∀ (t : State) (reason : Nat) (o : Option Nat) (bind : Nat → Pt), CrpKept r t → CrpKept r (match o with
      | none => (t.noChoice 7 g, none)
      | some q => (((({ t with pt := bind q } : State).inc F.PT_RXQ_BIND).traceDecision 7 reason q g, some q) : State × Option Nat)).1 := by
    intro t reason o bind k
    cases o with
    | none => exact k.noChoice
    | some q => exact traceDecision (inc k.mk_)
  unfold State.chooseRxq
  dsimp only
  split
  · exact hrebind _ _ _ _ h.mk_
  · exact .itePair (hrebind _ _ _ _ h.mk_) (.itePair (hrebind _ _ _ _ h.mk_) (.itePair (hrebind _ _ _ _ h.mk_) h.mk_))

theorem hostStream {fr : RxFrame} {g : Nat} {content : List Byte} {c : Nat} : CrpKept r (s.hostStream fr g content c) := by
  have k : CrpKept r (s.chooseRxq g fr.qset).1 := h.chooseRxq
  unfold State.hostStream
  refine .ite h.inc ?_
  split
  · next hq =>
    rw [hq] at k
    exact k.rxDeliver
  · next hq =>
    rw [hq] at k
    exact k.rxNoBuf

theorem hostDefault {fr : RxFrame} {content : List Byte} {c : Nat} : CrpKept r (s.hostDefault fr content c) :=
  .ite h.inc (.ite h.rxDeliver h.rxNoBuf)

theorem forward {fr : RxFrame} {content : List Byte} {c : Nat} : CrpKept r (s.forward fr content c) := by
  unfold State.forward
  dsimp only
  split
  · exact .ctFinish (.ite h.shareHold h)
  · split
    · exact h
    · exact .ite h.shareHold.fwdAdmit h.incAt

theorem consumers {fr : RxFrame} {c : Nat} : CrpKept r (s.consumers fr c) := by
  have k : CrpKept r (s.forward fr (fr.data.take (fr.data.length - 4)) c) := h.forward
  unfold State.consumers
  refine .releaseHold ?_
  split
  · split
    · exact .ite k.shareHold.extDeliver.hostStream k.shareHold.extDeliver
    · exact .ite k.hostStream k
  · exact .ite k.hostDefault k

theorem deliver {fr : RxFrame} : CrpKept r (s.deliver fr) := by
  unfold State.deliver
  split
  · exact h.consumers
  · exact h

/-! Frames that are discarded, and the copies that waited for them (R213, R461). -/

theorem discardRx {fr : RxFrame} {stage cnt : Bool} : CrpKept r (s.discardRx fr stage cnt) := by
  have hfree : ∀ s, CrpKept r s → CrpKept r (s.freeRx fr) := by
    intro s k
    unfold State.freeRx
    split
    · exact k.releaseHold
    · exact k
  have hcount : CrpKept r (match fr.look with | some (some g) => if cnt then s.stCount g 2 else s | _ => s) := by
    split
    · exact .ite h.mk_ h
    · exact h
  refine hfree _ (foldl ?_ (fun _ _ k => .ite k.ctFinish.inc k.ctFinish))
  split
  · exact hcount.mk_
  · exact hcount

theorem retryHeld {fr : RxFrame} {f n : Nat} : CrpKept r (s.retryHeld fr f n) := by
  have k : CrpKept r (s.recEval f fr.port n).1 := h.recEval
  unfold State.retryHeld
  refine .ite (.ite h.mk_ h) (.ite k.mk_ ?_)
  split
  · exact deliver k.mk_
  · exact k.discardRx

theorem retryAll {f n : Nat} : CrpKept r (s.retryAll f n) := by
  refine foldl (foldl h.mk_ (fun _ _ k => k.retryHeld)) (fun _ _ k => ?_)
  split
  · exact .ite k.retryHeld k
  · exact k

theorem failRx {fr : RxFrame} {stage cnt : Bool} : CrpKept r (s.failRx fr stage cnt) := by
  unfold State.failRx
  dsimp only
  split
  · exact h.discardRx.retryAll
  · exact h.discardRx

theorem badRx {fr : RxFrame} {cnt : Bool} : CrpKept r (s.badRx fr cnt) := by
  refine failRx ?_
  split
  · exact h.mk_
  · exact h.inc
  · exact h

/-! The end of a link (R460, R468). -/

theorem cutDown {p status : Nat} : CrpKept r (s.cutDown p status) := by
  unfold State.cutDown
  split
  · exact h
  · dsimp only
    split
    · exact h.wireFree
    · split
      · exact h.wireFree
      · exact endItem (setItem (incAt (incAt (emit h.wireFree.emitFrags))))

theorem rxCut {p : Nat} {part : Bool} : CrpKept r (s.rxCut p part) := by
  have hf : 0x20000 ≤ (rxFcsErr p).off := by
    unfold rxFcsErr
    split <;> exact Nat.le_add_right_of_le (by decide)
  have hslot : ∀ (s : State) (k : Nat) (begun : Bool), CrpKept r s → CrpKept r (match s.rxOf k with
      | some fr => ((s.setRx k none).portCount p (rxFcsErr p)).badRx fr true
      | none => if begun then s.portCount p (rxFcsErr p) else s) := by
    intro s k begun hs
    split
    · exact badRx (portCount hs.mk_ hf)
    · exact .ite (hs.portCount hf) hs
  exact hslot _ _ _ (hslot _ _ _ h.mk_)

theorem linkLost {p : Nat} {part : Bool} : CrpKept r (s.linkLost p part) := h.cutDown.rxCut.mmUpdate

theorem bpDepart {p : Nat} {part raise : Bool} : CrpKept r (s.bpDepart p part raise) :=
  linkLost (.ite (onset (incAt (wrAt h.mk_))) (incAt (wrAt h.mk_)))

theorem bpAcquire {p : Nat} : CrpKept r (s.bpAcquire p) := .ite h.wrAt.wrAt.wrAt.wrAt h.wrAt.wrAt.wrAt.wrAt.emit

theorem fieldLost {n : Nat} {raise : Bool} : CrpKept r (s.fieldLost n raise) := linkLost (.ite (onset h.wrAt.incAt) h.wrAt.incAt)

end

end CrpKept

end Sys2Proof.Machine

/-! Power states (R390, R406, R407, R410; `Obligations.PowerStates`). -/

namespace Sys2Proof.Machine

/-! Requests (R406). -/

section
variable {s : State} {m st : Nat} {confirmed : Bool}

theorem State.pwReq_denied (h : s.may 1 m permW = false) : s.pwReq m st confirmed = (s.deny 1 m 1 0x100).pwRej 1 := if_pos (by simp [h])

/-- A request of a master that may write reaches the other checks. -/
theorem State.pwReq_live (h : s.may 1 m permW = true) (hst : st ≠ pwOff) : s.pwReq m st confirmed =
    if s.on F.CRP_WIPE_STATUS_DRAM then s.pwRej 3 else if s.on F.CRP_PWR_STATUS_BUSY then s.pwRej 4
    else { s with crp := { s.crp with pwReqs := s.crp.pwReqs ++ [(m, st)] } } := by
  rw [State.pwReq, if_neg (by simp [h]), if_neg (fun k => hst k.1), if_neg (fun k => hst k.1)]

theorem State.pwReq_off (h : s.may 1 m permW = true) (hadm : s.may 1 m permADM = true) : s.pwReq m pwOff true =
    if s.on F.CRP_WIPE_STATUS_DRAM then s.pwRej 3 else if s.on F.CRP_PWR_STATUS_BUSY then s.pwRej 4
    else { s with crp := { s.crp with pwReqs := s.crp.pwReqs ++ [(m, pwOff)] } } := by
  rw [State.pwReq, if_neg (by simp [h]), if_neg (by simp [hadm]), if_neg (by simp)]

theorem State.pwReq_offNotAdmin (h : s.may 1 m permW = true) (hadm : s.may 1 m permADM = false) :
    s.pwReq m pwOff confirmed = (s.deny 3 m 1 0x100).pwRej 1 := by
  rw [State.pwReq, if_neg (by simp [h]), if_pos ⟨rfl, by simp [hadm]⟩]

theorem State.pwReq_offNotConfirmed (h : s.may 1 m permW = true) (hadm : s.may 1 m permADM = true) :
    s.pwReq m pwOff false = s.pwRej 2 := by
  rw [State.pwReq, if_neg (by simp [h]), if_neg (by simp [hadm]), if_pos ⟨rfl, rfl⟩]

end

/-! What no transition but OFF touches of `State.crp`. -/

/-- From `r` to `s` the record of CRP has not moved. -/
def CrpSame (r s : State) : Prop := s.crp = r.crp

namespace CrpSame

theorem refl (s : State) : CrpSame s s := rfl

theorem ite {r a b : State} {c : Prop} [Decidable c] (h : CrpSame r a) (g : CrpSame r b) : CrpSame r (if c then a else b) := by
  split <;> assumption

theorem foldl {α : Type} {r s : State} {f : State → α → State} {l : List α} (h : CrpSame r s)
    (hf : ∀ s x, CrpSame r s → CrpSame r (f s x)) : CrpSame r (l.foldl f s) := by
  induction l generalizing s with
  | nil => exact h
  | cons x t ih => exact ih (hf s x h)

section
variable {r s : State} (h : CrpSame r s)
include h

theorem via {t : State} (e : t.crp = s.crp) : CrpSame r t := e.trans h

theorem emit {w : WireOut} : CrpSame r (s.emit w) := h.via (s.emit_crp w)

theorem announce {type : Nat} : CrpSame r (s.announce type) := by
  obtain ⟨pad, wire, e⟩ := s.announce_shape type
  rw [e]
  exact h

theorem setRole {v : Nat} : CrpSame r (s.setRole v) := by
  obtain ⟨pad, at_, wire, e⟩ := s.setRole_shape v
  rw [e]
  exact h

theorem bpAcquire {p : Nat} : CrpSame r (s.bpAcquire p) := by
  have k : CrpSame r (s.bpUnlock p portAcquire) := h
  exact .ite k k.emit

theorem fieldTrain {n : Nat} : CrpSame r (s.fieldTrain n) := by
  obtain ⟨regs, cl, e⟩ := (s.wr (F.FP_STATUS_LINK_STATE n) 0).condEnd_shape Src.FD_LINK_DOWN (n + 2)
  refine .ite h ?_
  rw [e]
  exact h

theorem pwSet {st : Nat} : CrpSame r (s.pwSet st) := by
  obtain ⟨mg, free, e⟩ := (s.wr F.CRP_PWR_STATUS_STATE st).logEvent_shape logPower
  rw [State.pwSet, e]
  exact h

theorem holdLeft : CrpSame r s.holdLeft := by
  have k : CrpSame r ((List.range 2).foldl (fun s p => if s.on (F.BP_CTRL_EN p) then s.bpAcquire p else s) s) :=
    h.foldl (fun _ _ k => .ite k.bpAcquire k)
  have k2 : ∀ u, CrpSame r u → CrpSame r (if u.on F.FD_STATUS_READY ∧ u.isoUp then (List.range 8).foldl (fun s n => s.fieldTrain n) u else u) :=
    fun u hu => .ite (hu.foldl (fun _ _ k => k.fieldTrain)) hu
  exact .ite (via (k2 _ k).setRole rfl) (k2 _ k)

theorem pwLive {st : Nat} : CrpSame r (s.pwLive st) := .ite h.pwSet.holdLeft h.pwSet

theorem pwRunBegin : CrpSame r s.pwRunBegin := .ite (h.pwLive.via rfl) h.pwLive

end

end CrpSame

theorem State.pwSet_shape (s : State) (st : Nat) :
    ∃ mg free, s.pwSet st = { s.wr F.CRP_PWR_STATUS_STATE st with mg := mg, freeIdx := free } := State.logEvent_shape _ _

/-- RUN or TRIM from the other of them (R407). -/
theorem State.pwLive_awake {s : State} (h : s.power ≠ pwHold) (st : Nat) : s.pwLive st = s.pwSet st := if_neg h

theorem State.logEvent_still {s : State} (h : s.fwRuns = false) (type : Nat) : s.logEvent type = s := if_neg (by simp [h])

/-- Firmware that does not run after a change of the power state did not before. -/
theorem State.fwRuns_wr {s : State} {f : Fld} {v : Nat} (hf : F.CRP_BOOT_PHASE.key ≠ f.key) : (s.wr f v).fwRuns = s.fwRuns := by
  rw [State.fwRuns, State.fwRuns, State.rd_wr_ne _ _ _ _ hf]
  rfl

/-! The transition to HOLD (R407, R410). -/

/-- The twin agent's part: RELEASE of an acting twin. -/
def State.holdRelease (s : State) : State :=
  if s.on F.TW_CTRL_EN ∧ s.role = roleActing then
    ({ ((s.announce 0x04).announce 0x04).announce 0x04 with
      tw := { (((s.announce 0x04).announce 0x04).announce 0x04).tw with bbLeft := 0 } }).setRole roleStandby else s

theorem State.holdBegin_eq (s : State) : s.holdBegin =
    let s1 := s.wr F.CRP_PWR_STATUS_BUSY 1
    let t := (if s1.tbState = tbLocked then s1.enterHoldover else s1).holdRelease
    { t with crp := { t.crp with toHold := true } } := rfl

theorem CrpKept.holdRelease {r s : State} (h : CrpKept r s) : CrpKept r s.holdRelease := .ite (setRole (mk_ h.announce.announce.announce)) h

theorem CrpSame.holdRelease {r s : State} (h : CrpSame r s) : CrpSame r s.holdRelease := by
  have k : CrpSame r (((s.announce 0x04).announce 0x04).announce 0x04) := h.announce.announce.announce
  unfold State.holdRelease
  refine .ite (setRole ?_) h
  exact k

/-- BUSY stands, and of the registers of CRP nothing else has moved. -/
theorem State.holdBegin_crpKept (s : State) : CrpKept (s.wr F.CRP_PWR_STATUS_BUSY 1) s.holdBegin := by
  rw [s.holdBegin_eq]
  exact CrpKept.mk_ (.holdRelease (.ite (CrpKept.refl _).enterHoldover (.refl _)))

theorem State.holdBegin_crp (s : State) : s.holdBegin.crp = { s.crp with toHold := true } := by
  have k : CrpSame s (if (s.wr F.CRP_PWR_STATUS_BUSY 1).tbState = tbLocked then (s.wr F.CRP_PWR_STATUS_BUSY 1).enterHoldover
    else s.wr F.CRP_PWR_STATUS_BUSY 1).holdRelease := .holdRelease (.ite rfl rfl)
  rw [s.holdBegin_eq]
  exact congrArg (fun c : Crp => { c with toHold := true }) k

/-- The links that a transition to HOLD takes down. -/
def State.portsDown (s : State) : State :=
  (List.range 8).foldl (fun s n => if s.on (F.FP_STATUS_LINK n) then s.fieldLost n true else s)
    ((List.range 2).foldl (fun s p => if s.rd (F.BP_STATUS_STATE p) = portUp then (s.bpDepart p false true).bpAcquire p else s) s)

/-- The registers that report HOLD. -/
def State.holdShown (s : State) : State := ((s.wr F.CRP_PWR_STATUS_BUSY 0).inc F.CRP_HOLD_CNT).pwSet pwHold

theorem State.holdDone_eq (s : State) : s.holdDone =
    let t := s.portsDown.holdShown
    let u := if t.tbState = tbLocked then t.enterHoldover else t
    { u with crp := { u.crp with toHold := false } } := rfl

theorem State.portsDown_crpKept (s : State) : CrpKept s s.portsDown :=
  .foldl (.foldl (.refl s) (fun _ _ k => .ite k.bpDepart.bpAcquire k)) (fun _ _ k => .ite k.fieldLost k)

theorem State.holdDone_crpKept (s : State) : CrpKept s.portsDown.holdShown s.holdDone := by
  rw [s.holdDone_eq]
  exact CrpKept.mk_ (.ite (CrpKept.refl _).enterHoldover (.refl _))

theorem State.rd_holdShown (s : State) (f : Fld) :
    s.holdShown.rd f = (((s.wr F.CRP_PWR_STATUS_BUSY 0).inc F.CRP_HOLD_CNT).wr F.CRP_PWR_STATUS_STATE pwHold).rd f := by
  obtain ⟨mg, free, h⟩ := ((s.wr F.CRP_PWR_STATUS_BUSY 0).inc F.CRP_HOLD_CNT).pwSet_shape pwHold
  rw [State.holdShown, h]
  rfl

/-- What the transition to HOLD leaves once the frames on the wire have ended (R407). -/
theorem State.holdDone_regs (s : State) : s.holdDone.rd F.CRP_PWR_STATUS_STATE = pwHold ∧ s.holdDone.rd F.CRP_PWR_STATUS_BUSY = 0
    ∧ s.holdDone.rd F.CRP_HOLD_CNT = min (s.rd F.CRP_HOLD_CNT + 1) (2 ^ F.CRP_HOLD_CNT.w - 1) := by
  refine ⟨?_, ?_, ?_⟩ <;> rw [s.holdDone_crpKept _ (by decide), State.rd_holdShown]
  · exact State.rd_wr_self
  · rw [State.rd_wr_ne _ _ _ _ (by decide), State.rd_inc_ne _ (by decide), State.rd_wr_self]
    rfl
  · rw [State.rd_wr_ne _ _ _ _ (by decide), State.rd_inc_same _ _ (by decide), State.rd_wr_ne _ _ _ _ (by decide),
      s.portsDown_crpKept _ (by decide)]

/-! The end of the core cycle of a request (R406). -/

theorem State.foldl_wr_crp {l : List Fld} {v : Fld → Nat} {s : State} : (l.foldl (fun t g => t.wr g (v g)) s).crp = s.crp :=
  List.foldlRecOn (motive := fun t : State => t.crp = s.crp) l _ rfl (fun _ ht _ _ => ht)

theorem State.restart_crp (s : State) (keep : List Fld) : (s.restart keep).crp =
    { Crp.reset with vio33 := s.crp.vio33, rstLow := s.crp.rstLow, tr := s.tb.mono + 10000, nonce := s.crp.nonce + 1 } :=
  State.foldl_wr_crp

/-- Every transition leaves no request. -/
theorem State.pwGo_pwReqs {s : State} (h : s.crp.pwReqs = []) (st : Nat) : (s.pwGo st).crp.pwReqs = [] := by
  have hsame : ∀ u, CrpSame s u → u.crp.pwReqs = [] := fun u hu => (congrArg Crp.pwReqs hu).trans h
  unfold State.pwGo
  split
  · exact h
  · split
    · exact hsame _ (CrpSame.refl s).pwRunBegin
    · exact hsame _ (CrpSame.refl s).pwLive
    · exact (congrArg Crp.pwReqs s.holdBegin_crp).trans h
    · show ((((s.logEvent logPower).logFlush).padsOff).restart norFields).crp.pwReqs = []
      rw [State.restart_crp]
      rfl

theorem State.pwFlush_single {s : State} {m st : Nat} (h : s.crp.pwReqs = [(m, st)]) :
    s.pwFlush = ({ s with crp := { s.crp with pwReqs := [] } } : State).pwGo st := by
  rw [State.pwFlush, h]
  simp

/-- Of two requests of one core cycle the one of the lower master identity stands, of one master the later (R406). -/
theorem State.pwFlush_pair {s : State} {m n x y : Nat} (h : s.crp.pwReqs = [(m, x), (n, y)]) :
    s.pwFlush = ({ s with crp := { s.crp with pwReqs := [if m < n then (m, x) else (n, y)] } } : State).pwFlush := by
  rw [State.pwFlush, h, State.pwFlush]
  by_cases hlt : m < n
  · have hmin : min m n = m := by omega
    simp [hlt, hmin, hlt.ne']
  · have hmin : min m n = n := by omega
    simp [hlt, hmin]

/-! What the transition of one request does (R406, R407). -/

section
variable {s : State}

theorem State.pwGo_same {st : Nat} (h : s.power = st) : s.pwGo st = s := if_pos h

theorem State.pwGo_run (h : s.power = pwTrim) (hfw : s.fwRuns = false) : s.pwGo pwRun = s.pwRunBegin
    ∧ ∃ pcie, s.pwRunBegin = { s.wr F.CRP_PWR_STATUS_STATE pwRun with pcie := pcie } := by
  have hset : s.pwLive pwRun = s.wr F.CRP_PWR_STATUS_STATE pwRun := by
    rw [State.pwLive_awake (by rw [h]; decide), State.pwSet, State.logEvent_still ((State.fwRuns_wr (by decide)).trans hfw)]
  refine ⟨if_neg (by rw [h]; decide), ?_⟩
  unfold State.pwRunBegin
  rw [hset]
  dsimp only
  split
  · exact ⟨_, rfl⟩
  · exact ⟨s.pcie, rfl⟩

theorem State.pwGo_trim (h : s.power = pwRun) (hfw : s.fwRuns = false) : s.pwGo pwTrim = s.wr F.CRP_PWR_STATUS_STATE pwTrim := by
  have hgo : s.pwGo pwTrim = s.pwLive pwTrim := if_neg (by rw [h]; decide)
  rw [hgo, State.pwLive_awake (by rw [h]; decide), State.pwSet, State.logEvent_still ((State.fwRuns_wr (by decide)).trans hfw)]

theorem State.pwGo_hold (h : s.power ≠ pwHold) : s.pwGo pwHold = s.holdBegin := if_neg h

theorem State.pwGo_off (h : s.power ≠ pwOff) : s.pwGo pwOff = ((s.logEvent logPower).logFlush).powerOff := if_neg h

theorem State.powerOff_off (s : State) : s.powerOff.rd F.CRP_PWR_STATUS_STATE = pwOff ∧ s.powerOff.crp.off = true := by
  obtain ⟨u, hu⟩ : ∃ u, u = s.padsOff.restart norFields := ⟨_, rfl⟩
  rw [State.powerOff, ← hu]
  have hst : (u.wr F.CRP_PWR_STATUS_STATE pwOff).rd F.CRP_PWR_STATUS_STATE = pwOff := State.rd_wr_self
  exact ⟨hst, rfl⟩

theorem State.holdBegin_regs (s : State) : s.holdBegin.rd F.CRP_PWR_STATUS_BUSY = 1 ∧ s.holdBegin.crp.toHold = true
    ∧ s.holdBegin.rd F.CRP_PWR_STATUS_STATE = s.power := by
  refine ⟨?_, congrArg Crp.toHold s.holdBegin_crp, ?_⟩
  · rw [s.holdBegin_crpKept _ (by decide), State.rd_wr_self]
    rfl
  · rw [s.holdBegin_crpKept _ (by decide), State.rd_wr_ne _ _ _ _ (by decide)]
    rfl

end

/-- Settles O50: the requests by the order of their checks, the transitions by `pwGo`, the end of the way to HOLD by `holdDone_regs`. -/
theorem powerStates : Obligations.PowerStates := by
  refine ⟨fun m confirm s htakes => ?_, fun m st s h => ?_, fun m n x y s h => State.pwFlush_pair h, fun s => ⟨fun h => ?_, fun hto hwire => ?_⟩⟩
  · have hbus : ∀ st confirm, s.pwBus m st confirm = s.pwWrite m st confirm := fun _ _ => if_pos htakes
    have hrun : exec (.powerReqRun m) s = .next (s.pwReq m pwRun true) := congrArg Host.Outcome.next (hbus 0 0)
    have htrim : exec (.powerReqTrim m) s = .next (s.pwReq m pwTrim true) := congrArg Host.Outcome.next (hbus 1 0)
    have hhold : exec (.powerReqHold m) s = .next (s.pwReq m pwHold true) := congrArg Host.Outcome.next (hbus 2 0)
    have hoff : ∀ c, exec (.powerReqOff m c) s = .next (s.pwReq m pwOff (c == 0xA5)) := fun c => congrArg Host.Outcome.next (hbus 3 c)
    rw [hrun, htrim, hhold, hoff, hoff]
    refine ⟨fun hd => ?_, fun hmay => ?_⟩
    · rw [State.pwReq_denied hd, State.pwReq_denied hd, State.pwReq_denied hd, State.pwReq_denied hd]
      exact ⟨rfl, rfl, rfl, rfl⟩
    · rw [State.pwReq_live (st := pwRun) hmay (by decide), State.pwReq_live (st := pwTrim) hmay (by decide),
        State.pwReq_live (st := pwHold) hmay (by decide)]
      refine ⟨fun hadm => congrArg _ (State.pwReq_offNotAdmin hmay hadm), fun hadm hc => ?_, fun hwipe => ?_, fun hwipe => ⟨fun hbusy => ?_, fun hbusy => ?_⟩⟩
      · rw [beq_eq_false_iff_ne.mpr hc]
        exact congrArg _ (State.pwReq_offNotConfirmed hmay hadm)
      · rw [if_pos hwipe, if_pos hwipe, if_pos hwipe]
        exact ⟨rfl, rfl, rfl, fun hadm => congrArg _ ((State.pwReq_off hmay hadm).trans (if_pos hwipe))⟩
      · have hrej : ∀ (a b c : State), (if s.on F.CRP_WIPE_STATUS_DRAM then a else if s.on F.CRP_PWR_STATUS_BUSY then b else c) = b := by
          simp [hwipe, hbusy]
        rw [hrej, hrej, hrej]
        exact ⟨rfl, rfl, rfl⟩
      · have hpass : ∀ (a b c : State), (if s.on F.CRP_WIPE_STATUS_DRAM then a else if s.on F.CRP_PWR_STATUS_BUSY then b else c) = c := by
          simp [hwipe, hbusy]
        rw [hpass, hpass, hpass]
        exact ⟨rfl, rfl, rfl, fun hadm => congrArg _ ((State.pwReq_off hmay hadm).trans (hpass _ _ _))⟩
  · dsimp only
    rw [State.pwFlush_single h]
    refine ⟨State.pwGo_pwReqs rfl st, fun hnow => State.pwGo_same hnow, ?_, ?_, ?_, ?_⟩
    · rintro rfl hnow hfw
      obtain ⟨hgo, pcie, hrun⟩ := State.pwGo_run (s := { s with crp := { s.crp with pwReqs := [] } }) hnow hfw
      rw [hgo, hrun]
      have hst : (s.wr F.CRP_PWR_STATUS_STATE pwRun).rd F.CRP_PWR_STATUS_STATE = pwRun := State.rd_wr_self
      exact ⟨hst, ((State.keepsRegs.refl s _).wr : s.keepsRegs (s.wr F.CRP_PWR_STATUS_STATE pwRun) _).of_regs rfl, rfl⟩
    · rintro rfl hnow hfw
      exact State.pwGo_trim hnow hfw
    · rintro rfl hnow
      have hne : s.power ≠ pwHold := by
        rcases hnow with h | h <;> rw [State.power, h] <;> decide
      rw [State.pwGo_hold (s := { s with crp := { s.crp with pwReqs := [] } }) hne]
      exact State.holdBegin_regs _
    · rintro rfl hnow
      rw [State.pwGo_off (s := { s with crp := { s.crp with pwReqs := [] } }) hnow]
      exact State.powerOff_off _
  · refine congrArg Host.Outcome.next (if_neg ?_)
    rintro ⟨hto, hwire⟩
    rcases h with h | h
    · rw [h] at hto
      exact Bool.false_ne_true hto
    · rw [h] at hwire
      exact Bool.false_ne_true hwire
  · obtain ⟨hstate, hbusy, hcnt⟩ := s.holdDone_regs
    exact ⟨s.holdDone, congrArg Host.Outcome.next (if_pos ⟨hto, hwire⟩), hstate, hbusy, rfl, hcnt⟩

end Sys2Proof.Machine
/-! What the sensors, SPARE and the restart of firmware leave of the registers (R436, R437, R440, R449, R451). One lemma per operation. -/

namespace Sys2Proof.Machine

/-- From `r` to `s` no register whose key satisfies `P` has moved. -/
def KeptOn (P : Nat → Prop) (r s : State) : Prop := ∀ f : Fld, P f.key → s.rd f = r.rd f

namespace KeptOn

theorem refl (P : Nat → Prop) (s : State) : KeptOn P s s := fun _ _ => rfl

/-- A record that keeps the register file of a state. -/
theorem mk_ {P : Nat → Prop} {r x : State} {tb : Tb} {pcie : Pcie} {qe : Qe} {dma : List (Nat × Ch)} {mb : Mb} {gr : Gr} {pt : Pt} {kn : Kn}
    {gy : Gy} {hz : Hz} {ms : Ms} {tw : Tw} {fn : Fn} {ps : Ps} {lt : Lt} {ln : Ln} {rx : List (Nat × Option RxFrame)} {cl : Cl} {bp : Bp}
    {fd : Fd} {crp : Crp} {mg : Mg} {sp : Sp} {yieldAt : List (Nat × Option Nat)} {wire : List WireOut} {latched loHeld : List (Nat × Option Word)}
    {recLatch : List (Nat × Option (Nat × List DWord))} {readData : List Word} {freeIdx : Nat} {pending : List Instr} (h : KeptOn P r x) :
    KeptOn P r (State.mk x.regs tb pcie qe dma mb gr pt kn gy hz ms tw fn ps lt ln rx cl bp fd crp mg sp yieldAt wire latched loHeld
      recLatch readData freeIdx pending) := h

theorem ite {P : Nat → Prop} {r a b : State} {c : Prop} [Decidable c] (h : KeptOn P r a) (g : KeptOn P r b) : KeptOn P r (if c then a else b) := by
  split <;> assumption

theorem foldl {P : Nat → Prop} {α : Type} {r s : State} {f : State → α → State} {l : List α} (h : KeptOn P r s)
    (hf : ∀ s, ∀ x ∈ l, KeptOn P r s → KeptOn P r (f s x)) : KeptOn P r (l.foldl f s) := by
  induction l generalizing s with
  | nil => exact h
  | cons x t ih => exact ih (hf s x List.mem_cons_self h) (fun s y hy => hf s y (List.mem_cons_of_mem x hy))

section
variable {P : Nat → Prop} {r s : State} (h : KeptOn P r s)
include h

theorem wr {f : Fld} {v : Nat} (hf : ¬ P f.key) : KeptOn P r (s.wr f v) :=
  fun g hg => (State.rd_wr_ne s f g v (fun e => hf (e ▸ hg))).trans (h g hg)

theorem trans {t : State} (g : KeptOn P s t) : KeptOn P r t := fun f hf => (g f hf).trans (h f hf)

theorem sendEvent {e : Nat} : KeptOn P r (s.sendEvent e) := by
  obtain ⟨pcie, hp⟩ := s.sendEvent_shape e
  rw [hp]
  exact h.mk_

theorem mgEvent {evt ie : Fld} (hf : ¬ P evt.key) : KeptOn P r (s.mgEvent evt ie) := .ite (h.wr hf).sendEvent (h.wr hf)

end

end KeptOn

/-! The sensors and SPARE. -/

/-- The place of the sensors' readings and of the powered hours, beside the register of the highest temperature, and of the isolation
channel's status: nothing that follows a sample writes there. -/
abbrev samplePlace (k : Nat) : Prop := k = F.FD_STATUS_ISO_UP.key ∨ F.MG_HOURS.key ≤ k ∧ k / 32 ≠ F.MG_TEMP_MAX_LIFE.off

/-- A source whose word of CL_ACTIVE lies in CELLAR. -/
theorem not_samplePlace_active {src : Nat} (h : src < 256) : ¬ samplePlace (F.CL_ACTIVE_w (src / 32)).key := by
  simp only [samplePlace, Fld.key, F.CL_ACTIVE_w, F.FD_STATUS_ISO_UP, F.MG_HOURS]
  omega

namespace KeptOn

section
variable {r s : State} (h : KeptOn samplePlace r s)
include h

theorem condSet {src inst : Nat} {b : Bool} (hsrc : src < 256) : KeptOn samplePlace r (s.condSet src inst b) := by
  have honset : KeptOn samplePlace r (s.onset src inst 0) := fun f hf => (State.rd_of_regs (State.onset_regs ..) f).trans (h f hf)
  exact .ite honset (.ite (.ite h.mk_ (wr h.mk_ (not_samplePlace_active hsrc))) h)

theorem sensorCond {src inst : Nat} {b : Bool} (hsrc : src < 256) : KeptOn samplePlace r (s.sensorCond src inst b) :=
  .ite ((h.condSet hsrc).mgEvent (by decide)) (h.condSet hsrc)

theorem spConds : KeptOn samplePlace r s.spConds :=
  (((h.condSet (by decide)).condSet (by decide)).condSet (by decide)).condSet (by decide)

/-- A substitution that waits for a window yields to the scheduled traffic (R252, R451). -/
theorem yieldTo : KeptOn samplePlace r (s.yieldTo 3 7) := by
  have k : KeptOn samplePlace r (s.inc (F.LT_YIELD_i (pairIdx 3 7))) := h.wr (by decide)
  exact .ite h (.ite (mk_ (mk_ (wr (wr (wr (wr k (by decide)) (by decide)) (by decide)) (by decide)))) k)

theorem retireRest : KeptOn samplePlace r s.retireRest := .ite h (.foldl h (fun _ _ _ k => mk_ (k.wr (by decide))))

theorem subWait : KeptOn samplePlace r s.subWait := by
  unfold State.subWait
  split
  · exact .ite h (yieldTo h.mk_)
  · exact h

theorem subQueue {cls unit mac : Nat} {blk : Option Nat} : KeptOn samplePlace r (s.subQueue cls unit mac blk) := by
  have k : KeptOn samplePlace r (s.raise0 Src.SP_SUB_PEND (cls * 2 ^ 28 + unit % 2 ^ 28)) := h.mk_
  exact .ite h (.subWait (.spConds (.retireRest (.ite k.mk_ k))))

theorem trigger {c : SubCause} : KeptOn samplePlace r (s.trigger c) := by
  cases c with
  | sramRow mac row ue => exact .ite (.ite h.subQueue h.subQueue) h
  | dramRow row ue => exact .ite h.subQueue h
  | launch e => exact .ite h.subQueue h
  | assembly e => exact .ite h.subQueue h
  | counter c => exact .ite h.subQueue h
  | norSector sector page => exact .ite h.subQueue h

end

end KeptOn

/-! What an entry of SPARE's queue leaves of the log. -/

/-- From `r` to `s` the record of MGMT has not moved, and raises have only joined those that wait. -/
structure LogKept (r s : State) : Prop where
  mg : s.mg = r.mg
  inbox : r.cl.inbox <+: s.cl.inbox

namespace LogKept

theorem refl (s : State) : LogKept s s := ⟨rfl, List.prefix_rfl⟩

theorem ite {r a b : State} {c : Prop} [Decidable c] (h : LogKept r a) (g : LogKept r b) : LogKept r (if c then a else b) := by
  split <;> assumption

section
variable {r s : State} (h : LogKept r s)
include h

theorem via {t : State} (hmg : t.mg = s.mg) (hcl : t.cl = s.cl) : LogKept r t := ⟨hmg.trans h.mg, hcl ▸ h.inbox⟩

theorem raise0 {a b : Nat} : LogKept r (s.raise0 a b) := ⟨h.mg, h.inbox.trans (List.prefix_append _ _)⟩

theorem condSet {src inst : Nat} {b : Bool} : LogKept r (s.condSet src inst b) := by
  have honset : LogKept r (s.onset src inst 0) := .ite h ⟨h.mg, h.inbox.trans (List.prefix_append _ _)⟩
  exact .ite honset (.ite (.ite ⟨h.mg, h.inbox⟩ ⟨h.mg, h.inbox⟩) h)

theorem spConds : LogKept r s.spConds := h.condSet.condSet.condSet.condSet

theorem yieldTo {a b : Nat} : LogKept r (s.yieldTo a b) :=
  .ite h (.ite ⟨h.mg, h.inbox.trans (List.prefix_append _ _)⟩ (h.via rfl rfl))

theorem retireRest : LogKept r s.retireRest :=
  .ite h (List.foldlRecOn (motive := LogKept r) _ _ h (fun _ k _ _ => k.via rfl rfl))

theorem subWait : LogKept r s.subWait := by
  unfold State.subWait
  split
  · next e _ => exact .ite h (yieldTo (s := s.subPut { e with yielded := true, waitAt := s.tb.mono }) (h.via rfl rfl))
  · exact h

theorem subQueue {cls unit mac : Nat} {blk : Option Nat} : LogKept r (s.subQueue cls unit mac blk) :=
  .ite h (.subWait (.spConds (.retireRest (.ite (h.raise0.via rfl rfl) h.raise0))))

end

end LogKept

/-! Samples of the sensors (R437) and of the ageing monitors (R449). -/

/-- Of steps that each write a register of their own, each register reads its value. -/
theorem State.rd_foldl_each {step : State → Nat → State} {f : Nat → Fld} {v : Nat → Nat} {l : List Nat}
    (hself : ∀ s, ∀ n ∈ l, (step s n).rd (f n) = v n) (hother : ∀ s, ∀ n ∈ l, ∀ m ∈ l, m ≠ n → (step s n).rd (f m) = s.rd (f m))
    (s : State) {n : Nat} (hn : n ∈ l) : (l.foldl step s).rd (f n) = v n := by
  have hlast : ∀ k : List Nat, (∀ x ∈ k, x ∈ l) → ∀ s : State, (n ∈ k ∨ s.rd (f n) = v n) → (k.foldl step s).rd (f n) = v n := by
    intro k
    induction k with
    | nil => exact fun _ s h => h.resolve_left (by simp)
    | cons x k ih =>
      intro hk s h
      refine ih (fun y hy => hk y (List.mem_cons_of_mem x hy)) _ ?_
      rcases eq_or_ne n x with rfl | hne
      · exact .inr (hself s n hn)
      · refine h.imp (fun hm => (List.mem_cons.mp hm).resolve_left hne) (fun hv => ?_)
        rw [hother s x (hk x List.mem_cons_self) n hn hne, hv]
  exact hlast l (fun _ hx => hx) s (.inl hn)

/-- Steps that keep a place leave it as their writes do. -/
theorem State.rd_foldl_kept {α : Type} {step : State → α → State} {l : List α} {f : Fld} (h : ∀ s, ∀ x ∈ l, (step s x).rd f = s.rd f) (s : State) :
    (l.foldl step s).rd f = s.rd f := by
  induction l generalizing s with
  | nil => rfl
  | cons x l ih => exact (ih (fun s y hy => h s y (List.mem_cons_of_mem x hy)) _).trans (h s x List.mem_cons_self)

section
variable (s : State) (raw : List Nat)

/-- The temperatures are written first; the rest of their sample leaves the place of the samples. -/
theorem State.tempSample_kept :
    KeptOn samplePlace ((List.range 4).foldl (fun s n => s.wr (F.MG_TEMP_n n) (raw.getD n 0)) s) (s.tempSample raw) := by
  have hcond : ∀ {r s : State} {src : Nat} {thr : Int} {ts : List Int}, src < 256 → KeptOn samplePlace r s →
      KeptOn samplePlace r (s.tempCond src thr ts) := fun hsrc h => h.sensorCond hsrc
  unfold State.tempSample
  refine hcond (by decide) (hcond (by decide) ?_)
  have h := KeptOn.foldl (KeptOn.refl samplePlace ((List.range 4).foldl (fun s n => s.wr (F.MG_TEMP_n n) (raw.getD n 0)) s))
    (f := fun s n => s.sensorCond Src.TEMP_SENS n
      (!tempValid ((List.range 4).map (fun n => toSigned 16 (raw.getD n 0))) (((List.range 4).map (fun n => toSigned 16 (raw.getD n 0))).getD n 0)))
    (l := List.range 4) (fun _ _ _ k => k.sensorCond (by decide))
  dsimp only
  split
  · exact h
  · exact KeptOn.mk_ ((h.wr (by decide)).wr (by decide))

theorem State.rd_tempSample {n : Nat} (hn : n < 4) : (s.tempSample raw).rd (F.MG_TEMP_n n) = raw.getD n 0 % 65536 := by
  have hplace : samplePlace (F.MG_TEMP_n n).key := by
    simp only [samplePlace, Fld.key, F.MG_TEMP_n, F.MG_TEMP_MAX_LIFE, F.MG_HOURS]
    omega
  rw [s.tempSample_kept raw _ hplace]
  refine State.rd_foldl_each (step := fun s n => s.wr (F.MG_TEMP_n n) (raw.getD n 0)) (v := fun n => raw.getD n 0 % 2 ^ 16)
    (fun _ _ _ => State.rd_wr_self) (fun _ m _ k _ hne => State.rd_wr_ne _ _ _ _ ?_) s (List.mem_range.mpr hn)
  simp only [Fld.key, F.MG_TEMP_n]
  omega

theorem State.rd_tempSample_other {f : Fld} (hp : samplePlace f.key) (hf : ∀ n < 4, f.key ≠ (F.MG_TEMP_n n).key) :
    (s.tempSample raw).rd f = s.rd f := by
  rw [s.tempSample_kept raw _ hp]
  exact State.rd_foldl_kept (fun _ n hn => State.rd_wr_ne _ _ _ _ (hf n (List.mem_range.mp hn))) s

/-- One supply: its reading, then its condition. -/
theorem State.supStep_kept (v n : Nat) (b : Bool) : KeptOn samplePlace (s.wr (F.MG_SUP_n n) v) ((s.wr (F.MG_SUP_n n) v).sensorCond Src.SUP_MARGIN n b) :=
  (KeptOn.refl _ _).sensorCond (by decide)

theorem samplePlace_sup (n : Nat) : samplePlace (F.MG_SUP_n n).key := by
  simp only [samplePlace, Fld.key, F.MG_SUP_n, F.MG_TEMP_MAX_LIFE, F.MG_HOURS]
  omega

theorem State.rd_supSample {n : Nat} (hn : n < 8) : (s.supSample raw).rd (F.MG_SUP_n n) = raw.getD n 0 % 65536 := by
  refine State.rd_foldl_each (v := fun n => raw.getD n 0 % 65536) (fun s n _ => ?_) (fun s m _ k _ hne => ?_) s (List.mem_range.mpr hn)
  · rw [s.supStep_kept _ n _ _ (samplePlace_sup n), State.rd_wr_self]
    exact Nat.mod_mod _ _
  · rw [s.supStep_kept _ m _ _ (samplePlace_sup k)]
    exact State.rd_wr_ne _ _ _ _ (by simp only [Fld.key, F.MG_SUP_n]; omega)

theorem State.rd_supSample_other {f : Fld} (hp : samplePlace f.key) (hf : ∀ n < 8, f.key ≠ (F.MG_SUP_n n).key) :
    (s.supSample raw).rd f = s.rd f :=
  State.rd_foldl_kept (fun s n hn => (s.supStep_kept _ n _ _ hp).trans (State.rd_wr_ne _ _ _ _ (hf n (List.mem_range.mp hn)))) s

theorem State.curSample_kept (tot : Nat) :
    KeptOn samplePlace (((List.range 8).foldl (fun s n => s.wr (F.MG_FCUR_n n) (raw.getD n 0)) s).wr F.MG_FCUR_TOT tot) (s.curSample raw tot) := by
  unfold State.curSample
  exact (KeptOn.refl _ _).sensorCond (by decide)

theorem State.rd_curSample_total (tot : Nat) : (s.curSample raw tot).rd F.MG_FCUR_TOT = tot % 65536 := by
  rw [s.curSample_kept raw tot _ (by decide)]
  exact State.rd_wr_self

theorem State.rd_curSample {n : Nat} (hn : n < 8) (tot : Nat) : (s.curSample raw tot).rd (F.MG_FCUR_n n) = raw.getD n 0 % 65536 := by
  have hplace : samplePlace (F.MG_FCUR_n n).key := by
    simp only [samplePlace, Fld.key, F.MG_FCUR_n, F.MG_TEMP_MAX_LIFE, F.MG_HOURS]
    omega
  rw [s.curSample_kept raw tot _ hplace, State.rd_wr_ne _ _ _ _ (by simp only [Fld.key, F.MG_FCUR_n, F.MG_FCUR_TOT]; omega)]
  refine State.rd_foldl_each (step := fun s n => s.wr (F.MG_FCUR_n n) (raw.getD n 0)) (v := fun n => raw.getD n 0 % 2 ^ 16)
    (fun _ _ _ => State.rd_wr_self) (fun _ m _ k _ hne => State.rd_wr_ne _ _ _ _ ?_) s (List.mem_range.mpr hn)
  simp only [Fld.key, F.MG_FCUR_n]
  omega

theorem State.rd_curSample_other {f : Fld} (tot : Nat) (hp : samplePlace f.key) (htot : f.key ≠ F.MG_FCUR_TOT.key)
    (hf : ∀ n < 8, f.key ≠ (F.MG_FCUR_n n).key) : (s.curSample raw tot).rd f = s.rd f := by
  rw [s.curSample_kept raw tot _ hp, State.rd_wr_ne _ _ _ _ htot]
  exact State.rd_foldl_kept (fun _ n hn => State.rd_wr_ne _ _ _ _ (hf n (List.mem_range.mp hn))) s

end

/-- A sample of all sensors while the isolation channel is up. -/
theorem State.rd_sensorSample (s : State) (temps sups curs : List Nat) (tot : Nat) :
    let t := (((s.tempSample temps).supSample sups).curSample curs tot).spConds
    (∀ n < 4, t.rd (F.MG_TEMP_n n) = temps.getD n 0 % 65536) ∧ (∀ n < 8, t.rd (F.MG_SUP_n n) = sups.getD n 0 % 65536)
      ∧ (∀ n < 8, t.rd (F.MG_FCUR_n n) = curs.getD n 0 % 65536) ∧ t.rd F.MG_FCUR_TOT = tot % 65536 := by
  have hlast : ∀ f : Fld, samplePlace f.key → ((((s.tempSample temps).supSample sups).curSample curs tot).spConds).rd f =
    (((s.tempSample temps).supSample sups).curSample curs tot).rd f := (KeptOn.refl samplePlace _).spConds
  refine ⟨fun n hn => ?_, fun n hn => ?_, fun n hn => ?_, ?_⟩
  · have hplace : samplePlace (F.MG_TEMP_n n).key := by
      simp only [samplePlace, Fld.key, F.MG_TEMP_n, F.MG_TEMP_MAX_LIFE, F.MG_HOURS]
      omega
    rw [hlast _ hplace, State.rd_curSample_other _ _ _ hplace (by simp only [Fld.key, F.MG_TEMP_n, F.MG_FCUR_TOT]; omega)
      (fun k hk => by simp only [Fld.key, F.MG_TEMP_n, F.MG_FCUR_n]; omega), State.rd_supSample_other _ _ hplace
      (fun k hk => by simp only [Fld.key, F.MG_TEMP_n, F.MG_SUP_n]; omega), s.rd_tempSample temps hn]
  · rw [hlast _ (samplePlace_sup n), State.rd_curSample_other _ _ _ (samplePlace_sup n)
      (by simp only [Fld.key, F.MG_SUP_n, F.MG_FCUR_TOT]; omega) (fun k hk => by simp only [Fld.key, F.MG_SUP_n, F.MG_FCUR_n]; omega),
      State.rd_supSample _ _ hn]
  · rw [hlast _ (by simp only [samplePlace, Fld.key, F.MG_FCUR_n, F.MG_TEMP_MAX_LIFE, F.MG_HOURS]; omega), State.rd_curSample _ _ hn]
  · rw [hlast _ (by decide), State.rd_curSample_total]

/-- The isolation channel's status is no sensor's. -/
theorem State.sampled_isoUp (s : State) (temps sups : List Nat) : ((s.tempSample temps).supSample sups).isoUp = s.isoUp := by
  have h : ((s.tempSample temps).supSample sups).rd F.FD_STATUS_ISO_UP = s.rd F.FD_STATUS_ISO_UP := by
    rw [State.rd_supSample_other _ _ (by decide) (fun n _ => by simp only [Fld.key, F.FD_STATUS_ISO_UP, F.MG_SUP_n]; omega),
      State.rd_tempSample_other _ _ (by decide) (fun n _ => by simp only [Fld.key, F.FD_STATUS_ISO_UP, F.MG_TEMP_n]; omega)]
  rw [State.isoUp, State.isoUp, State.on, State.on, h]

/-! The ageing monitors (R449). -/

/-- One monitor's registers. -/
def State.ageStep (s : State) (degr weeks : List Nat) (n : Nat) : State :=
  (s.wr (F.SP_AGE_n_DEGR n) (degr.getD n 0)).wr (F.SP_AGE_n_REMAIN_WK n) (weeks.getD n 0xFFFF)

/-- The monitors' readings, their conditions, and the powered hours. -/
def State.ageShown (s : State) (degr weeks : List Nat) : State :=
  let s1 := (List.range 12).foldl (fun s n => s.ageStep degr weeks n) s
  let any (thr : Nat) : Bool := (List.range 12).any (fun n => decide (thr ≤ s1.rd (F.SP_AGE_n_DEGR n)))
  ((s1.condSet Src.SP_AGE_WARN 0xFF (any (s1.rd F.SP_AGE_THR_WARN))).condSet Src.SP_AGE_LIMIT 0xFF (any (s1.rd F.SP_AGE_THR_LIMIT))).inc F.MG_HOURS

section
variable (s : State) (degr weeks : List Nat)

/-- The substitutions that the monitors ask for leave the place of the samples. -/
theorem State.ageSample_kept : KeptOn samplePlace (s.ageShown degr weeks) (s.ageSample degr weeks) :=
  .spConds (.foldl (.foldl (.foldl (.refl _ _) (fun _ _ _ k => k.trigger)) (fun _ _ _ k => .ite k.trigger k)) (fun _ _ _ k => .ite k.trigger k))

/-- The conditions leave it too. -/
theorem State.rd_ageShown {f : Fld} (hp : samplePlace f.key) (hf : f.key ≠ F.MG_HOURS.key) :
    (s.ageShown degr weeks).rd f = ((List.range 12).foldl (fun s n => s.ageStep degr weeks n) s).rd f :=
  (State.rd_inc_ne _ hf).trans (((KeptOn.refl samplePlace _).condSet (by decide)).condSet (by decide) f hp)

theorem State.rd_ageSample_degr {n : Nat} (hn : n < 12) : (s.ageSample degr weeks).rd (F.SP_AGE_n_DEGR n) = degr.getD n 0 % 2 ^ 16 := by
  have hplace : samplePlace (F.SP_AGE_n_DEGR n).key := by
    simp only [samplePlace, Fld.key, F.SP_AGE_n_DEGR, F.MG_TEMP_MAX_LIFE, F.MG_HOURS]
    omega
  rw [s.ageSample_kept degr weeks _ hplace, s.rd_ageShown degr weeks hplace (by simp only [Fld.key, F.SP_AGE_n_DEGR, F.MG_HOURS]; omega)]
  refine State.rd_foldl_each (step := fun s n => s.ageStep degr weeks n) (v := fun n => degr.getD n 0 % 2 ^ 16)
    (fun s m _ => ?_) (fun s m _ k _ hne => ?_) s (List.mem_range.mpr hn)
  · rw [State.ageStep, State.rd_wr_ne _ _ _ _ (by simp only [Fld.key, F.SP_AGE_n_DEGR, F.SP_AGE_n_REMAIN_WK]; omega)]
    exact State.rd_wr_self
  · rw [State.ageStep, State.rd_wr_ne _ _ _ _ (by simp only [Fld.key, F.SP_AGE_n_DEGR, F.SP_AGE_n_REMAIN_WK]; omega),
      State.rd_wr_ne _ _ _ _ (by simp only [Fld.key, F.SP_AGE_n_DEGR]; omega)]

theorem State.rd_ageSample_weeks {n : Nat} (hn : n < 12) :
    (s.ageSample degr weeks).rd (F.SP_AGE_n_REMAIN_WK n) = weeks.getD n 0xFFFF % 2 ^ 16 := by
  have hplace : samplePlace (F.SP_AGE_n_REMAIN_WK n).key := by
    simp only [samplePlace, Fld.key, F.SP_AGE_n_REMAIN_WK, F.MG_TEMP_MAX_LIFE, F.MG_HOURS]
    omega
  rw [s.ageSample_kept degr weeks _ hplace, s.rd_ageShown degr weeks hplace (by simp only [Fld.key, F.SP_AGE_n_REMAIN_WK, F.MG_HOURS]; omega)]
  refine State.rd_foldl_each (step := fun s n => s.ageStep degr weeks n) (v := fun n => weeks.getD n 0xFFFF % 2 ^ 16)
    (fun s m _ => ?_) (fun s m _ k _ hne => ?_) s (List.mem_range.mpr hn)
  · rw [State.ageStep]
    exact State.rd_wr_self
  · rw [State.ageStep, State.rd_wr_ne _ _ _ _ (by simp only [Fld.key, F.SP_AGE_n_REMAIN_WK]; omega),
      State.rd_wr_ne _ _ _ _ (by simp only [Fld.key, F.SP_AGE_n_DEGR, F.SP_AGE_n_REMAIN_WK]; omega)]

theorem State.rd_ageSample_hours : (s.ageSample degr weeks).rd F.MG_HOURS = min (s.rd F.MG_HOURS + 1) (2 ^ F.MG_HOURS.w - 1) := by
  have hfold : ((List.range 12).foldl (fun s n => s.ageStep degr weeks n) s).rd F.MG_HOURS = s.rd F.MG_HOURS :=
    State.rd_foldl_kept (fun s n _ => by
      rw [State.ageStep, State.rd_wr_ne _ _ _ _ (by simp only [Fld.key, F.SP_AGE_n_REMAIN_WK, F.MG_HOURS]; omega),
        State.rd_wr_ne _ _ _ _ (by simp only [Fld.key, F.SP_AGE_n_DEGR, F.MG_HOURS]; omega)]) s
  rw [s.ageSample_kept degr weeks _ (by decide), State.ageShown, State.rd_inc_same _ _ (by decide),
    (((KeptOn.refl samplePlace _).condSet (by decide)).condSet (by decide) : KeptOn samplePlace _ _) F.MG_HOURS (by decide), hfold]

end

end Sys2Proof.Machine
/-! Firmware: its start, its restart and its log (R437, R440, R442 to R444, R449; `Obligations.FirmwareAndItsSensors`). -/

namespace Sys2Proof.Machine

/-- The registers of firmware's state, up to the count of records that the log has dropped. -/
abbrev firmwarePlace (k : Nat) : Prop := F.MG_STATUS_STATE.key ≤ k ∧ k < F.MG_LOG_DROP.key

/-- A notice writes registers of MBOX. -/
theorem noticeFields_outside {n : Nat} (hn : n < 64) (r : Nat) : ∀ k ∈ [F.MB_CH_STAT_FULL n, F.MB_CH_TAG n, F.MB_CH_PTR_LO n, F.MB_CH_PTR_HI n,
    F.MB_POSTS, mbNotify r n].map Fld.key, ¬ firmwarePlace k := by
  simp only [List.map_cons, List.map_nil, List.forall_mem_cons, List.not_mem_nil, false_imp_iff, implies_true, and_true, mbNotify_key]
  simp only [firmwarePlace, Fld.key, F.MB_CH_STAT_FULL, F.MB_CH_TAG, F.MB_CH_PTR_LO, F.MB_CH_PTR_HI, F.MB_POSTS, F.MG_STATUS_STATE, F.MG_LOG_DROP]
  refine ⟨by omega, by omega, by omega, by omega, by omega, ?_⟩
  split <;> omega

/-- What the log's way to its buffer and a post to a mailbox leave: the place of firmware's state, the record of CRP, the active slot, and
the mark of a trial. -/
structure FirmwareKept (r s : State) : Prop where
  rd : KeptOn firmwarePlace r s
  crp : s.crp = r.crp
  active : s.mg.active = r.mg.active
  trialNext : s.mg.trialNext = r.mg.trialNext

namespace FirmwareKept

theorem refl (s : State) : FirmwareKept s s := ⟨.refl _ s, rfl, rfl, rfl⟩

section
variable {r s : State} (h : FirmwareKept r s)
include h

theorem trans {t : State} (g : FirmwareKept s t) : FirmwareKept r t :=
  ⟨h.rd.trans g.rd, g.crp.trans h.crp, g.active.trans h.active, g.trialNext.trans h.trialNext⟩

theorem logBook {e : BookEntry} : FirmwareKept r (s.logBook e) := by
  unfold State.logBook
  dsimp only
  split
  · exact ⟨KeptOn.mk_ (KeptOn.wr (KeptOn.mk_ h.rd) (by decide)), h.crp, h.active, h.trialNext⟩
  · exact ⟨KeptOn.mk_ h.rd, h.crp, h.active, h.trialNext⟩

theorem logMissed : FirmwareKept r s.logMissed := List.foldlRecOn (motive := FirmwareKept r) _ _ h (fun _ k _ _ => k.logBook)

/-- A post of firmware on a channel that carries no requests. -/
theorem mbPost {n : Nat} (hn : 4 ≤ n ∧ n < 64) {tag : Word} : FirmwareKept r (s.mbPost 0 n tag) := by
  have hrej : ∀ f : Fld, ¬ firmwarePlace f.key → FirmwareKept r (s.inc f) := fun f hf => ⟨h.rd.wr hf, h.crp, h.active, h.trialNext⟩
  unfold State.mbPost
  dsimp only
  split
  · exact hrej F.MB_REJ (by decide)
  · split
    · exact ⟨(hrej F.MB_REJ (by decide)).rd.mk_, h.crp, h.active, h.trialNext⟩
    · split
      · exact ⟨h.rd.mk_, h.crp, h.active, h.trialNext⟩
      · obtain ⟨pcie, e⟩ := s.mbNotice_shape n (Sparse.get 0 s.mb.stage n) tag
        have hmg : s.noticeMg n = s.mg := if_neg (by omega)
        rw [e, hmg]
        refine ⟨h.rd.trans (KeptOn.mk_ fun f hf => s.noticeShown_keepsRegs _ _ f ?_), h.crp, h.active, h.trialNext⟩
        exact fun hm => noticeFields_outside hn.2 _ _ hm hf

theorem replyNext {n : Nat} (hn : 4 ≤ n ∧ n < 64) : FirmwareKept r (s.replyNext n) := by
  unfold State.replyNext
  split
  · next x _ =>
    split
    · refine mbPost (s := { s with mg := { s.mg with replies := s.mg.replies.erase x }, mb := { s.mb with stage := Sparse.put 0 s.mb.stage n x.2.1 } })
        ⟨h.rd.mk_, h.crp, h.active, h.trialNext⟩ hn
    · exact h
  · exact h

end

end FirmwareKept

/-! Events of MGMT and the reset of its mailboxes. -/

theorem State.mgEvent_shape (s : State) (evt ie : Fld) : ∃ pcie, s.mgEvent evt ie = { s.wr evt 1 with pcie := pcie } := by
  unfold State.mgEvent
  dsimp only
  split
  · exact State.sendEvent_shape _ _
  · exact ⟨_, rfl⟩

theorem State.rd_mgEvent (s : State) (evt ie f : Fld) : (s.mgEvent evt ie).rd f = (s.wr evt 1).rd f := by
  obtain ⟨pcie, h⟩ := s.mgEvent_shape evt ie
  rw [h]
  rfl

theorem State.rd_logEvent (s : State) (type : Nat) (f : Fld) : (s.logEvent type).rd f = s.rd f := by
  obtain ⟨mg, free, h⟩ := s.logEvent_shape type
  rw [h]
  rfl

/-- From `r` to `s` registers alone have moved, and none of firmware's state. -/
structure RegsOnly (r s : State) : Prop where
  rd : KeptOn firmwarePlace r s
  shape : ∃ regs, s = { r with regs := regs }

namespace RegsOnly

theorem refl (s : State) : RegsOnly s s := ⟨.refl _ s, s.regs, rfl⟩

theorem ite {r a b : State} {c : Prop} [Decidable c] (h : RegsOnly r a) (g : RegsOnly r b) : RegsOnly r (if c then a else b) := by
  split <;> assumption

theorem wr {r s : State} (h : RegsOnly r s) {f : Fld} {v : Nat} (hf : ¬ firmwarePlace f.key) : RegsOnly r (s.wr f v) := by
  obtain ⟨regs, e⟩ := h.shape
  exact ⟨h.rd.wr hf, _, by rw [e]; rfl⟩

theorem mbUnlock {r s : State} (h : RegsOnly r s) {n : Nat} (hn : n < 64) : RegsOnly r (s.mbUnlock n) := by
  refine (h.wr ?_).wr ?_ <;> simp only [firmwarePlace, Fld.key, F.MB_CH_STAT_LOCKED, F.MB_CH_STAT_LOCK_OWNER, F.MG_STATUS_STATE, F.MG_LOG_DROP] <;> omega

/-- The reset of MGMT as a mailbox master (R386). -/
theorem mbMasterReset (s : State) : RegsOnly s (s.mbMasterReset 0) := by
  have hlocks : RegsOnly s ((List.range 64).foldl (fun s n => if s.mbHolds n 0 then s.mbUnlock n else s) s) :=
    List.foldlRecOn (motive := RegsOnly s) _ _ (.refl s) (fun _ k n hn => .ite (k.mbUnlock (List.mem_range.mp hn)) k)
  have hbanks := List.foldlRecOn (motive := RegsOnly s) [F.MB_NOTIFY_IE_LO 0, F.MB_NOTIFY_IE_HI 0, F.MB_EMPTY_IE_LO 0, F.MB_EMPTY_IE_HI 0,
    F.MB_EMPTY_PEND_LO 0, F.MB_EMPTY_PEND_HI 0] (fun s f => s.wr f 0) hlocks (fun _ k f hf => k.wr (by fin_cases hf <;> decide))
  exact (hbanks.wr (by decide)).wr (by decide)

end RegsOnly

/-! The restart of the core (R442 to R444). -/

/-- A slot that passes is the one that runs. -/
theorem State.fwBoot_passes {s : State} (h : s.fwPasses (s.fwSlot s.mg.active) = true) :
    s.fwBoot = (s.wr F.MG_STATUS_SLOT s.mg.active.toNat, false) := if_pos h

/-- When no slot passes, firmware raises its faults and nothing runs. -/
theorem State.fwBoot_none {s : State} (h : s.fwPasses (s.fwSlot s.mg.active) = false) (h' : s.fwPasses (s.fwSlot (!s.mg.active)) = false) :
    ∃ cl, s.fwBoot = ({ s with cl := cl }, true) := by
  have hraise : ∀ (c : Prop) [Decidable c] (u : State) (a b : Nat), ∃ cl, (if c then u else u.raise0 a b) = { u with cl := cl } := by
    intro c _ u a b
    split
    · exact ⟨u.cl, rfl⟩
    · exact ⟨_, rfl⟩
  obtain ⟨cl, h1⟩ := hraise ((s.fwSlot s.mg.active).ok = true) s Src.MG_FW_AUTH 0
  obtain ⟨cl', h2⟩ := hraise (¬ (s.fwSlot s.mg.active).svn < s.rd F.MG_FW_CNT) { s with cl := cl } Src.MG_FW_ROLLBACK 0
  rw [ite_not] at h2
  refine ⟨cl', ?_⟩
  rw [State.fwBoot, if_neg (by simp [h]), if_neg (by simp [h']), h1, h2]

/-- The state in which the core runs again, before the log and the replies that wait. -/
def State.fwAnew (s : State) : State :=
  let r := s.fwBoot
  let s1 := { r.1 with mg := { r.1.mg with trialNext := false, trialAt := r.1.tb.mono } }
  if r.2 then ((s1.wr F.MG_STATUS_STATE mgRecovery).wr F.AC_CTRL_LOCK 1).wr F.AC_STATUS_LOCKED 1
  else if s.mg.trialNext ∧ r.1.mg.active = s.mg.active then
    (s1.wr F.MG_STATUS_STATE mgTrial).mgEvent F.MG_EVT_FW_ACTIVE F.MG_EVT_IE_FW_ACTIVE
  else s1.wr F.MG_STATUS_STATE mgRun

theorem State.mgRestarted_kept (s : State) : FirmwareKept s.fwAnew s.mgRestarted :=
  List.foldlRecOn (motive := FirmwareKept s.fwAnew) [4, 5, 6, 7] _ (FirmwareKept.refl _).logMissed
    (fun _ k n hn => k.replyNext (by fin_cases hn <;> decide))

theorem State.fwAnew_passes {s : State} (h : s.fwPasses (s.fwSlot s.mg.active) = true) :
    s.fwAnew.rd F.MG_STATUS_STATE = (if s.mg.trialNext then 2 else 1) ∧ s.fwAnew.crp = s.crp ∧ s.fwAnew.mg.active = s.mg.active
      ∧ s.fwAnew.mg.trialNext = false ∧ (s.mg.trialNext = true → s.fwAnew.rd F.MG_EVT_FW_ACTIVE = 1) := by
  obtain ⟨u, hu⟩ : ∃ u : State, u = { s.wr F.MG_STATUS_SLOT s.mg.active.toNat with mg := { s.mg with trialNext := false, trialAt := s.tb.mono } } := ⟨_, rfl⟩
  have hanew : s.fwAnew = if s.mg.trialNext then (u.wr F.MG_STATUS_STATE mgTrial).mgEvent F.MG_EVT_FW_ACTIVE F.MG_EVT_IE_FW_ACTIVE
      else u.wr F.MG_STATUS_STATE mgRun := by
    rw [State.fwAnew, State.fwBoot_passes h, hu]
    simp
  have hcrp : u.crp = s.crp := by rw [hu]; rfl
  have hmg : u.mg.active = s.mg.active ∧ u.mg.trialNext = false := by rw [hu]; exact ⟨rfl, rfl⟩
  have hrun : (u.wr F.MG_STATUS_STATE mgRun).rd F.MG_STATUS_STATE = 1 := State.rd_wr_self
  have htrial : (u.wr F.MG_STATUS_STATE mgTrial).rd F.MG_STATUS_STATE = 2 := State.rd_wr_self
  rw [hanew]
  cases hn : s.mg.trialNext with
  | false =>
    rw [if_neg Bool.false_ne_true, if_neg Bool.false_ne_true]
    exact ⟨hrun, hcrp, hmg.1, hmg.2, fun k => absurd k Bool.false_ne_true⟩
  | true =>
    rw [if_pos rfl, if_pos rfl]
    obtain ⟨pcie, hev⟩ := (u.wr F.MG_STATUS_STATE mgTrial).mgEvent_shape F.MG_EVT_FW_ACTIVE F.MG_EVT_IE_FW_ACTIVE
    refine ⟨?_, by rw [hev]; exact hcrp, by rw [hev]; exact hmg.1, by rw [hev]; exact hmg.2, fun _ => ?_⟩
    · rw [State.rd_mgEvent, State.rd_wr_ne _ _ _ _ (by decide), htrial]
    · rw [State.rd_mgEvent, State.rd_wr_self]
      rfl

theorem State.fwAnew_none {s : State} (h : s.fwPasses (s.fwSlot s.mg.active) = false) (h' : s.fwPasses (s.fwSlot (!s.mg.active)) = false) :
    s.fwAnew.rd F.MG_STATUS_STATE = 4 := by
  obtain ⟨cl, hboot⟩ := State.fwBoot_none h h'
  rw [State.fwAnew, hboot]
  dsimp only
  rw [if_pos rfl, State.rd_wr_ne _ _ _ _ (by decide), State.rd_wr_ne _ _ _ _ (by decide), State.rd_wr_self]
  rfl

/-- Block reset 0x14 has ended. -/
def State.coreFree (s : State) : State :=
  { s with crp := { s.crp with blk := s.crp.blk.filter (fun x => x.1 != 20) }
           cl := { s.cl with settle := (20, some (s.tb.mono + s.settleNs)) :: s.cl.settle.filter (fun x => x.1 != 20) } }

theorem State.blockEnd_core (s : State) : s.blockEnd 20 = s.coreFree.mgRestarted := rfl

theorem State.coreFree_free (s : State) : s.coreFree.inReset 20 = false := by
  simp [State.inReset, State.coreFree]

/-! The end of a trial (R443). -/

/-- The previous slot is the active one again. -/
theorem State.mgRevert_facts (s : State) : s.mgRevert.mg.active = !s.mg.active ∧ s.mgRevert.crp = s.crp ∧ s.mgRevert.rd F.MG_EVT_FW_REVERTED = 1 := by
  obtain ⟨pcie, hev⟩ := (s.raise0 Src.MG_UPDATE_FAIL 0).mgEvent_shape F.MG_EVT_FW_REVERTED F.MG_EVT_IE_FW_REVERTED
  have hlog : ∀ u : State, (u.logEvent logFirmware).mg.active = u.mg.active := by
    intro u
    unfold State.logEvent
    split <;> rfl
  have hactive : s.mgRevert.mg.active = !(((s.raise0 Src.MG_UPDATE_FAIL 0).mgEvent F.MG_EVT_FW_REVERTED F.MG_EVT_IE_FW_REVERTED).logEvent logFirmware).mg.active := rfl
  rw [hlog, hev] at hactive
  obtain ⟨mg, free, hshape⟩ := ((s.raise0 Src.MG_UPDATE_FAIL 0).mgEvent F.MG_EVT_FW_REVERTED F.MG_EVT_IE_FW_REVERTED).logEvent_shape logFirmware
  have hrd : s.mgRevert.rd F.MG_EVT_FW_REVERTED = (((((s.raise0 Src.MG_UPDATE_FAIL 0).mgEvent F.MG_EVT_FW_REVERTED
    F.MG_EVT_IE_FW_REVERTED).logEvent logFirmware).wr F.MG_STATUS_STATE mgRestart).rd F.MG_EVT_FW_REVERTED) := rfl
  refine ⟨hactive, ?_, ?_⟩
  · rw [State.mgRevert, hshape, hev]
    rfl
  · rw [hrd, State.rd_wr_ne _ _ _ _ (by decide), State.rd_logEvent, State.rd_mgEvent, State.rd_wr_self]
    rfl

/-- A restart of the core begins (R444). -/
theorem State.mgReset_facts (s : State) : s.mgReset.mg.active = s.mg.active ∧ s.mgReset.crp = s.crp ∧ s.mgReset.rd F.MG_STATUS_STATE = 3
    ∧ s.mgReset.rd F.MG_EVT_FW_REVERTED = s.rd F.MG_EVT_FW_REVERTED := by
  obtain ⟨u, hu⟩ : ∃ u, s.mbMasterReset 0 = u := ⟨_, rfl⟩
  obtain ⟨hrd, regs, hshape⟩ := RegsOnly.mbMasterReset s
  rw [hu] at hrd hshape
  have hreset : s.mgReset = { (u.wr F.MG_STATUS_STATE mgRestart).wr F.MG_STATUS_REQ_BUSY 0 with
      mg := { u.mg with buf := [], dropped := 0, trialNext := u.mg.trialNext || decide (s.mgState = mgTrial) } } := by
    rw [State.mgReset, hu]
    rfl
  have hregs : ∀ f, s.mgReset.rd f = ((u.wr F.MG_STATUS_STATE mgRestart).wr F.MG_STATUS_REQ_BUSY 0).rd f := fun f => by
    rw [hreset]
    rfl
  refine ⟨?_, ?_, ?_, ?_⟩
  · rw [hreset, hshape]
  · rw [hreset, hshape]
    rfl
  · rw [hregs, State.rd_wr_ne _ _ _ _ (by decide), State.rd_wr_self]
    rfl
  · rw [hregs, State.rd_wr_ne _ _ _ _ (by decide), State.rd_wr_ne _ _ _ _ (by decide), hrd _ (by decide)]

/-- Block reset 0x14 has begun. -/
def State.coreHeld (s : State) : State :=
  { s with crp := { s.crp with blk := (20, s.tb.mono) :: s.crp.blk }
           cl := { s.cl with settle := (20, none) :: s.cl.settle.filter (fun x => x.1 != 20) } }

theorem State.blockReset_core {s : State} (h : s.inReset 20 = false) (react : Bool) : s.blockReset 20 react = s.coreHeld.mgReset.winForget 20 :=
  if_neg (by simp [h, neverReset])

theorem State.mgRevert_restarts {s : State} (h : s.inReset 20 = false) : let t := s.mgRevert.blockReset 20 false
    t.mg.active = (!s.mg.active) ∧ t.rd F.MG_STATUS_STATE = 3 ∧ t.rd F.MG_EVT_FW_REVERTED = 1 ∧ t.inReset 20 = true := by
  obtain ⟨hactive, hcrp, hevt⟩ := s.mgRevert_facts
  have hfree : s.mgRevert.inReset 20 = false := by rw [State.inReset, hcrp]; exact h
  obtain ⟨ha, hc, hs, he⟩ := s.mgRevert.coreHeld.mgReset_facts
  obtain ⟨u, hu⟩ : ∃ u, s.mgRevert.coreHeld.mgReset = u := ⟨_, rfl⟩
  rw [hu] at ha hc hs he
  dsimp only
  rw [State.blockReset_core hfree, hu]
  refine ⟨ha.trans hactive, hs, he.trans hevt, ?_⟩
  have hin : u.inReset 20 = true := by
    rw [State.inReset, hc]
    rfl
  exact hin

/-! The log (R440). -/

/-- A record that enters no new sector of the NOR. -/
theorem State.norWrite_within {s : State} (h : s.mg.logSeq % 1024 ≠ 0) (r : LogRec) : s.norWrite r =
    { s.wr F.MG_LOG_HEAD s.mg.logSeq with
      mg := { s.mg with log := s.mg.log ++ [{ r with seq := s.mg.logSeq }], logSeq := s.mg.logSeq + 1 } } := by
  have hfull : decide (s.mg.logSeq % 1024 = 0 ∧ s.rd F.MG_LOG_OLDEST + 262144 ≤ s.mg.logSeq) = false := decide_eq_false (fun k => h k.1)
  rw [State.norWrite]
  simp only [hfull]
  rfl

section
variable {s : State}

theorem execLogRecordWrite_empty (h : s.mg.buf = []) (fail : Bool) : exec (.logRecordWrite fail) s = .next s := by
  show execLogRecordWrite fail s = _
  rw [execLogRecordWrite, h]

theorem execLogRecordWrite_waits (h : s.fwRuns = false ∨ max 1 (s.rd F.MG_LOG_CFG) ≤ s.logSpent) (fail : Bool) :
    exec (.logRecordWrite fail) s = .next s := by
  show execLogRecordWrite fail s = _
  unfold execLogRecordWrite
  split
  · rfl
  · exact congrArg _ (if_pos (h.imp_left (fun k => by simp [k])))

/-- One more record of this second. -/
def State.logTimed (s : State) : State := { s with mg := { s.mg with logAt := s.tb.mono / 1000000000, logN := s.logSpent + 1 } }

theorem execLogRecordWrite_due {r : LogRec} {l : List LogRec} (hbuf : s.mg.buf = r :: l) (hfw : s.fwRuns = true)
    (hrate : s.logSpent < max 1 (s.rd F.MG_LOG_CFG)) (fail : Bool) : exec (.logRecordWrite fail) s = .next (
      if fail then (s.logTimed.raise0 Src.MG_LOG_ERR 0).subQueue 7 (s.mg.logSeq / 1024 % 256) 0 none
      else ({ s.logTimed with mg := { s.logTimed.mg with buf := l } } : State).norWrite r) := by
  show execLogRecordWrite fail s = _
  rw [execLogRecordWrite, hbuf]
  refine congrArg _ (if_neg ?_)
  rw [hfw]
  simp only [not_true_eq_false, false_or]
  omega

theorem execLogRecordWrite_done {r : LogRec} {l : List LogRec} (hbuf : s.mg.buf = r :: l) (hfw : s.fwRuns = true)
    (hrate : s.logSpent < max 1 (s.rd F.MG_LOG_CFG)) (hseq : s.mg.logSeq % 1024 ≠ 0) (fail : Bool) : ∃ t, exec (.logRecordWrite fail) s = .next t
      ∧ (fail = false → t.mg.buf = l ∧ t.mg.log = s.mg.log ++ [{ r with seq := s.mg.logSeq }] ∧ t.rd F.MG_LOG_HEAD = s.mg.logSeq % 2 ^ 32
        ∧ t.mg.logSeq = s.mg.logSeq + 1)
      ∧ (fail = true → t.mg.buf = s.mg.buf ∧ t.mg.log = s.mg.log ∧ t.cl.inbox.head? = (s.raise0 Src.MG_LOG_ERR 0).cl.inbox.head?) := by
  refine ⟨_, execLogRecordWrite_due hbuf hfw hrate fail, ?_, ?_⟩
  · rintro rfl
    rw [if_neg Bool.false_ne_true, State.norWrite_within (by exact hseq)]
    exact ⟨rfl, rfl, State.rd_wr_self (s := s) (f := F.MG_LOG_HEAD), rfl⟩
  · rintro rfl
    rw [if_pos rfl]
    obtain ⟨hmg, hbox⟩ := (LogKept.refl (s.logTimed.raise0 Src.MG_LOG_ERR 0)).subQueue (cls := 7) (unit := s.mg.logSeq / 1024 % 256) (mac := 0) (blk := none)
    rw [hmg]
    obtain ⟨rest, hrest⟩ := hbox
    refine ⟨rfl, rfl, ?_⟩
    rw [← hrest]
    exact List.head?_append_of_ne_nil _ (by simp [State.raise0, State.raise])

end

/-! SMBus (R438). -/

theorem execSmbusReadWord_answers {s : State} {addr code : Nat} (hoff : s.crp.off = false) (hen : s.rd F.MG_I2C_CFG_EN = 1)
    (haddr : addr = s.rd F.MG_I2C_CFG_ADDR) (hcode : code < 256) :
    exec (.smbusReadWord addr code) s = .next (s.emit (.answer (s.smbusWord code))) := by
  have h : exec (.smbusReadWord addr code) s = .next (s.emit (.answer (s.smbusWord (code % 256)))) :=
    congrArg Host.Outcome.next (if_pos ⟨by simp [hoff], State.on_of_one hen, haddr⟩)
  rw [h, Nat.mod_eq_of_lt hcode]

section
variable (s : State) {code : Nat}

theorem State.smbusWord_temp (h : code < 4) : s.smbusWord code = s.rd (F.MG_TEMP_n code) := if_pos (by omega)

theorem State.smbusWord_sup (h : 0x10 ≤ code) (h' : code < 0x18) : s.smbusWord code = s.rd (F.MG_SUP_n (code - 0x10)) := by
  rw [State.smbusWord, if_neg (by omega), if_neg (by omega), if_pos (by omega)]

theorem State.smbusWord_cur (h : 0x20 ≤ code) (h' : code < 0x28) : s.smbusWord code = s.rd (F.MG_FCUR_n (code - 0x20)) := by
  rw [State.smbusWord, if_neg (by omega), if_neg (by omega), if_neg (by omega), if_pos (by omega)]

theorem State.smbusWord_none (h : 0x32 ≤ code) : s.smbusWord code = 0xFFFF := by
  rw [State.smbusWord, if_neg (by omega), if_neg (by omega), if_neg (by omega), if_neg (by omega), if_neg (by omega), if_neg (by omega),
    if_neg (by omega)]

end

/-- Settles O52: the restart by `fwAnew` and `mgRestarted_kept`, the end of a trial by `mgRevert_restarts`, the samples by `rd_sensorSample` and
`rd_ageSample_degr` with its companions, the log by `execLogRecordWrite_done`. -/
theorem firmwareAndItsSensors : Obligations.FirmwareAndItsSensors := by
  refine ⟨fun tk sig s => ⟨fun h => ?_, fun h hfw hst => ?_⟩, fun addr code fail r l s => ⟨fun h => ?_, fun hfw hst hend hin => ?_, fun h => ?_,
    fun hph hin hoff => ?_, fun h => ?_, fun hmay hpass => ?_, fun hmay hno hno' => ?_, fun hoff hen haddr => ⟨fun h => ?_, fun h h' => ?_, fun h h' => ?_, fun h => ?_,
    fun h h' => ?_⟩, fun h => ?_, fun hoff hen => ?_, fun h => ?_, fun h => execLogRecordWrite_empty h fail, fun h => execLogRecordWrite_waits h fail,
    fun hbuf hfw hrate hseq => execLogRecordWrite_done hbuf hfw hrate hseq fail⟩, fun temps sups curs degr weeks tot s => ⟨fun h => ?_, fun hfw hiso _ _ _ => ?_,
    fun hfw hin _ hlen => ?_⟩⟩
  · show Host.Outcome.next (match s.crp.token with | some t => _ | none => s) = _
    rw [h]
  · show Host.Outcome.next (match s.crp.token with | some t => _ | none => s) = _
    rw [h]
    exact congrArg _ (if_pos ⟨hfw, hst⟩)
  · refine congrArg Host.Outcome.next (if_neg ?_)
    rintro ⟨-, hst, hend⟩
    exact h.elim (fun k => k hst) (fun k => absurd hend (by omega))
  · obtain ⟨hactive, hstate, hevt, hheld⟩ := State.mgRevert_restarts hin
    exact ⟨_, congrArg Host.Outcome.next (if_pos ⟨hfw, hst, hend⟩), hactive, hstate, hevt, hheld⟩
  · refine congrArg Host.Outcome.next (if_neg ?_)
    rintro ⟨hph, hin, hoff⟩
    rcases h with h | h | h
    · omega
    · exact hin h
    · exact hoff h
  · exact congrArg Host.Outcome.next (if_pos ⟨hph, by simp [hin], by simp [hoff]⟩)
  · exact congrArg Host.Outcome.next (if_neg (by simp [h]))
  · have hkept := s.coreFree.mgRestarted_kept
    obtain ⟨hst, hcrp, hactive, htrial, hevt⟩ := State.fwAnew_passes (s := s.coreFree) hpass
    refine ⟨_, congrArg Host.Outcome.next ((if_pos hmay).trans s.blockEnd_core), ?_, (hkept.rd _ (by decide)).trans hst, hkept.active.trans hactive,
      hkept.trialNext.trans htrial, fun k => (hkept.rd _ (by decide)).trans (hevt k)⟩
    rw [State.inReset, hkept.crp.trans hcrp]
    exact s.coreFree_free
  · exact ⟨_, congrArg Host.Outcome.next ((if_pos hmay).trans s.blockEnd_core),
      (s.coreFree.mgRestarted_kept.rd _ (by decide)).trans (State.fwAnew_none (s := s.coreFree) hno hno')⟩
  · rw [execSmbusReadWord_answers hoff hen haddr (by omega), s.smbusWord_temp h]
  · rw [execSmbusReadWord_answers hoff hen haddr (by omega), s.smbusWord_sup h h']
  · rw [execSmbusReadWord_answers hoff hen haddr (by omega), s.smbusWord_cur h h']
  · subst h
    exact execSmbusReadWord_answers hoff hen haddr (by omega)
  · rw [execSmbusReadWord_answers hoff hen haddr h', s.smbusWord_none h]
  · refine congrArg Host.Outcome.next (if_neg ?_)
    rintro ⟨hoff, hen, haddr⟩
    rcases h with h | h | h
    · exact hoff h
    · exact State.on_iff.mp hen h
    · exact h haddr
  · exact congrArg Host.Outcome.next (if_pos ⟨by simp [hoff], State.on_of_one hen⟩)
  · refine congrArg Host.Outcome.next (if_neg ?_)
    rintro ⟨hoff, hen⟩
    exact h.elim hoff (fun k => State.on_iff.mp hen k)
  · exact ⟨congrArg Host.Outcome.next (if_neg (by simp [h])), congrArg Host.Outcome.next (if_neg (by simp [State.spRuns, h]))⟩
  · obtain ⟨htemp, hsup, hcur, htot⟩ := s.rd_sensorSample temps sups curs tot
    have hup : ((s.tempSample temps).supSample sups).isoUp = true := (s.sampled_isoUp temps sups).trans (State.on_of_one hiso)
    refine ⟨_, congrArg Host.Outcome.next ((if_pos hfw).trans (congrArg State.spConds (if_pos hup))), ?_, ?_, ?_, htot⟩
    · exact List.all_eq_true.mpr (fun n hn => decide_eq_true (htemp n (List.mem_range.mp hn)))
    · exact List.all_eq_true.mpr (fun n hn => decide_eq_true (hsup n (List.mem_range.mp hn)))
    · exact List.all_eq_true.mpr (fun n hn => decide_eq_true (hcur n (List.mem_range.mp hn)))
  · refine ⟨_, congrArg Host.Outcome.next (if_pos (by simp [State.spRuns, hfw, hin])), ?_, ?_, s.rd_ageSample_hours degr weeks⟩
    · exact List.all_eq_true.mpr (fun n hn => decide_eq_true (s.rd_ageSample_degr degr weeks (List.mem_range.mp hn)))
    · refine List.all_eq_true.mpr (fun n hn => decide_eq_true ((s.rd_ageSample_weeks degr weeks (List.mem_range.mp hn)).trans ?_))
      have hn' : n < weeks.length := by
        rw [hlen]
        exact List.mem_range.mp hn
      rw [List.getD_eq_getElem _ _ hn', List.getD_eq_getElem _ _ hn']
      rfl

end Sys2Proof.Machine
/-! The power of field ports (R472 to R475, R480): what an operation on one port shows, and what it leaves of the die and of the other
ports. -/

namespace Sys2Proof.Machine

/-! The records of the ports. -/

theorem State.fdPort_setFd_same {s : State} {n : Nat} {r : FdPort} : (s.setFd n r).fdPort n = r := Sparse.get_put_same ..

theorem State.fdPort_setFd_ne {s : State} {n k : Nat} {r : FdPort} (h : k ≠ n) : (s.setFd n r).fdPort k = s.fdPort k :=
  Sparse.get_put_ne _ _ _ h

theorem State.fdPort_of_fd {s t : State} (h : t.fd = s.fd) (n : Nat) : t.fdPort n = s.fdPort n := by rw [State.fdPort, h, State.fdPort]

/-! The registers that the die runs by. -/

/-- The registers of the die below the status that a port shows. -/
abbrev diePlace (k : Nat) : Prop :=
  k ≠ F.FD_STATUS_SHED.key ∧ k < (F.CL_ACTIVE_w 0).key ∧ ∀ n, k / 32 ≠ (F.FP_STATUS_PWR_STATE n).off

theorem diePlace_isoUp : diePlace F.FD_STATUS_ISO_UP.key := by
  refine ⟨by decide, by decide, fun n => ?_⟩
  simp only [Fld.key, F.FD_STATUS_ISO_UP, F.FP_STATUS_PWR_STATE]
  omega

theorem KeptOn.fdCond {r s : State} {src n : Nat} {b : Bool} (h : KeptOn diePlace r s) : KeptOn diePlace r (s.fdCond src n b) := by
  intro f hf
  have hend := State.rd_condEnd_ne (s := s) (src := src) (inst := n + 2) hf.2.1
  have honset := State.rd_of_regs (State.onset_regs s src (n + 2) 0) f
  unfold State.fdCond
  split
  · exact honset.trans (h f hf)
  · exact hend.trans (h f hf)

theorem KeptOn.wrStatus {r s : State} {f : Fld} {v : Nat} (n : Nat) (h : KeptOn diePlace r s)
    (hf : f.key / 32 = (F.FP_STATUS_PWR_STATE n).off) : KeptOn diePlace r (s.wr f v) := h.wr (fun hp => hp.2.2 n hf)

theorem KeptOn.fdShow {r s : State} {n : Nat} (h : KeptOn diePlace r s) : KeptOn diePlace r (s.fdShow n) := by
  have hoff : ∀ f : Fld, f.lo < 32 → f.off = (F.FP_STATUS_PWR_STATE n).off → f.key / 32 = (F.FP_STATUS_PWR_STATE n).off :=
    fun f hlo he => by rw [Fld.key, ← he]; omega
  have hstate := h.wrStatus n (v := (s.fdPort n).pst) (hoff (F.FP_STATUS_PWR_STATE n) (Nat.le_of_ble_eq_true rfl) rfl)
  have hshed : KeptOn diePlace r ((s.wr (F.FP_STATUS_PWR_STATE n) (s.fdPort n).pst).wrBit F.FD_STATUS_SHED n ((s.fdPort n).pst == pdShed)) :=
    hstate.wr (fun hp => hp.1 rfl)
  have hmis := hshed.wrStatus n (v := (s.fdPort n).mis.toNat) (hoff (F.FP_STATUS_MISWIRE n) (Nat.le_of_ble_eq_true rfl) rfl)
  have hrev := hmis.wrStatus n (v := (s.fdPort n).rev.toNat) (hoff (F.FP_STATUS_REVERSED n) (Nat.le_of_ble_eq_true rfl) rfl)
  exact .ite (((hrev.wrStatus n (hoff (F.FP_STATUS_CLASS_RD n) (Nat.le_of_ble_eq_true rfl) rfl)).fdCond).fdCond).fdCond h

/-! What a port shows. -/

theorem State.fdCond_shape (s : State) (src n : Nat) (b : Bool) : ∃ regs cl, s.fdCond src n b = { s with regs := regs, cl := cl } := by
  unfold State.fdCond
  split
  · exact ⟨s.regs, _, State.onset_eq ..⟩
  · exact State.condEnd_shape ..

theorem State.fdShow_shape (s : State) (n : Nat) : ∃ regs cl, s.fdShow n = { s with regs := regs, cl := cl } := by
  unfold State.fdShow
  split
  · dsimp only
    generalize hs : State.wr _ (F.FP_STATUS_CLASS_RD n) _ = s1
    obtain ⟨_, _, h1⟩ := State.fdCond_shape s1 Src.FD_OVERCURRENT n ((s.fdPort n).pst == pdFault)
    rw [h1]
    obtain ⟨_, _, h2⟩ := State.fdCond_shape { s1 with regs := _, cl := _ } Src.FD_AGG_LIMIT n ((s.fdPort n).pst == pdShed)
    rw [h2]
    obtain ⟨_, _, h3⟩ := State.fdCond_shape { s1 with regs := _, cl := _ } Src.FD_MISWIRE n (s.fdPort n).mis
    rw [h3, ← hs]
    exact ⟨_, _, rfl⟩
  · exact ⟨_, _, rfl⟩

theorem State.fdShow_fd (s : State) (n : Nat) : (s.fdShow n).fd = s.fd := by
  obtain ⟨_, _, h⟩ := s.fdShow_shape n
  rw [h]

theorem State.fdShow_tb (s : State) (n : Nat) : (s.fdShow n).tb = s.tb := by
  obtain ⟨_, _, h⟩ := s.fdShow_shape n
  rw [h]

theorem State.rd_fdCond {s : State} {src n : Nat} {b : Bool} {f : Fld} (h : f.key < (F.CL_ACTIVE_w 0).key) :
    (s.fdCond src n b).rd f = s.rd f := by
  unfold State.fdCond
  split
  · exact State.rd_of_regs (State.onset_regs ..) f
  · exact State.rd_condEnd_ne h

/-- A field of a port's status lies below the cellar's registers. -/
theorem portStatus_below {f : Fld} (n : Fin 8) (hlo : f.lo < 32) (hoff : f.off = (F.FP_STATUS_PWR_STATE n.val).off) :
    f.key < (F.CL_ACTIVE_w 0).key := by
  have hn := n.isLt
  simp only [Fld.key, hoff, F.FP_STATUS_PWR_STATE, F.CL_ACTIVE_w]
  omega

section
variable {s : State} {n : Fin 8} (hup : s.isoUp = true)
include hup

theorem State.rd_fdShow_miswire : (s.fdShow n.val).rd (F.FP_STATUS_MISWIRE n.val) = (s.fdPort n.val).mis.toNat := by
  have hlow := portStatus_below (f := F.FP_STATUS_MISWIRE n.val) n (Nat.le_of_ble_eq_true rfl) rfl
  rw [State.fdShow, if_pos hup, State.rd_fdCond hlow, State.rd_fdCond hlow, State.rd_fdCond hlow, State.rd_wr_other, State.rd_wr_other,
    State.rd_wr_self]
  exact Nat.mod_eq_of_lt (Bool.toNat_lt _)

theorem State.rd_fdShow_reversed : (s.fdShow n.val).rd (F.FP_STATUS_REVERSED n.val) = (s.fdPort n.val).rev.toNat := by
  have hlow := portStatus_below (f := F.FP_STATUS_REVERSED n.val) n (Nat.le_of_ble_eq_true rfl) rfl
  rw [State.fdShow, if_pos hup, State.rd_fdCond hlow, State.rd_fdCond hlow, State.rd_fdCond hlow, State.rd_wr_other, State.rd_wr_self]
  exact Nat.mod_eq_of_lt (Bool.toNat_lt _)

theorem State.rd_fdShow_class : (s.fdShow n.val).rd (F.FP_STATUS_CLASS_RD n.val) = (s.fdPort n.val).clsRd % 16 := by
  have hlow := portStatus_below (f := F.FP_STATUS_CLASS_RD n.val) n (Nat.le_of_ble_eq_true rfl) rfl
  rw [State.fdShow, if_pos hup, State.rd_fdCond hlow, State.rd_fdCond hlow, State.rd_fdCond hlow, State.rd_wr_self]
  rfl

end

/-! The conditions of a port. -/

theorem State.mem_onset_of_mem {s : State} {src inst info : Nat} {x : Nat × Nat} (h : x ∈ s.cl.conds) : x ∈ (s.onset src inst info).cl.conds := by
  unfold State.onset
  split
  · exact h
  · exact List.mem_cons_of_mem _ h

theorem State.mem_condEnd_of_ne {s : State} {src inst : Nat} {x : Nat × Nat} (h : x ∈ s.cl.conds) (hne : x.1 ≠ src) :
    x ∈ (s.condEnd src inst).cl.conds := by
  have hx : x ∈ s.cl.conds.filter (fun p => !(p == (src, inst))) :=
    List.mem_filter.mpr ⟨h, by simpa using fun e => hne (congrArg Prod.fst e)⟩
  unfold State.condEnd
  dsimp only
  split
  · exact hx
  · exact hx

theorem State.mem_fdCond_of_ne {s : State} {src n : Nat} {b : Bool} {x : Nat × Nat} (h : x ∈ s.cl.conds) (hne : x.1 ≠ src) :
    x ∈ (s.fdCond src n b).cl.conds := by
  unfold State.fdCond
  split
  · exact State.mem_onset_of_mem h
  · exact State.mem_condEnd_of_ne h hne

theorem State.mem_fdCond_same {s : State} {src n : Nat} {b : Bool} (hb : b = true) : (src, n + 2) ∈ (s.fdCond src n b).cl.conds := by
  rw [State.fdCond, if_pos hb]
  exact State.mem_onset ..

section
variable {s : State} {n : Nat} (hup : s.isoUp = true)
include hup

theorem State.fdShow_overcurrent (h : (s.fdPort n).pst = pdFault) : (Src.FD_OVERCURRENT, n + 2) ∈ (s.fdShow n).cl.conds := by
  rw [State.fdShow, if_pos hup]
  exact State.mem_fdCond_of_ne (State.mem_fdCond_of_ne (State.mem_fdCond_same (beq_iff_eq.mpr h)) (Nat.ne_of_beq_eq_false rfl))
    (Nat.ne_of_beq_eq_false rfl)

theorem State.fdShow_aggLimit (h : (s.fdPort n).pst = pdShed) : (Src.FD_AGG_LIMIT, n + 2) ∈ (s.fdShow n).cl.conds := by
  rw [State.fdShow, if_pos hup]
  exact State.mem_fdCond_of_ne (State.mem_fdCond_same (beq_iff_eq.mpr h)) (Nat.ne_of_beq_eq_false rfl)

theorem State.fdShow_miswire (h : (s.fdPort n).mis = true) : (Src.FD_MISWIRE, n + 2) ∈ (s.fdShow n).cl.conds := by
  rw [State.fdShow, if_pos hup]
  exact State.mem_fdCond_same h

end

/-! A port enters a power state. -/

/-- The record of a port that enters the power state `st`. -/
def State.fdEntered (s : State) (n st : Nat) : FdPort :=
  { s.fdPort n with
    pst := st, since := s.tb.mono, failed := none, lowAt := none, off := false, used := if st = pdOff then 0 else (s.fdPort n).used,
    sccp := if st = pdDetect then s.dieRd (F.FP_CTRL_SCCP n) == 1 else (s.fdPort n).sccp,
    cls := if st = pdDetect then (if 10 ≤ s.dieRd (F.FP_CTRL_CLASS n) ∧ s.dieRd (F.FP_CTRL_CLASS n) ≤ 12 then s.dieRd (F.FP_CTRL_CLASS n) else 10)
      else (s.fdPort n).cls,
    mis := (s.fdPort n).mis && decide (st ≠ pdOff),
    rev := (s.fdPort n).rev && decide (st ≠ pdOff) }

theorem State.fdGo_eq (s : State) (n st : Nat) : s.fdGo n st = (s.setFd n (s.fdEntered n st)).fdShow n := rfl

theorem State.fdPort_fdShow {s : State} {n k : Nat} : (s.fdShow n).fdPort k = s.fdPort k := State.fdPort_of_fd (s.fdShow_fd n) k

theorem State.fdPort_fdGo_same {s : State} {n st : Nat} : (s.fdGo n st).fdPort n = s.fdEntered n st := by
  rw [State.fdGo_eq, State.fdPort_fdShow, State.fdPort_setFd_same]

theorem State.fdPort_fdGo_ne {s : State} {n st k : Nat} (h : k ≠ n) : (s.fdGo n st).fdPort k = s.fdPort k := by
  rw [State.fdGo_eq, State.fdPort_fdShow, State.fdPort_setFd_ne h]

theorem State.pst_fdGo {s : State} {n st : Nat} : ((s.fdGo n st).fdPort n).pst = st := congrArg FdPort.pst State.fdPort_fdGo_same

theorem State.fdPort_fdCount {s : State} {f : Fld} {k : Nat} : (s.fdCount f).fdPort k = s.fdPort k := rfl

/-! What an operation on a port leaves of the die. -/

/-- From `r` to `s` only records of ports, events not yet counted and what ports show have moved. -/
structure DieKept (r s : State) : Prop where
  regs : KeptOn diePlace r s
  tb : s.tb = r.tb
  fd : ∃ ports cnt, s.fd = { r.fd with ports := ports, cnt := cnt }

namespace DieKept

theorem refl (s : State) : DieKept s s := ⟨.refl _ s, rfl, s.fd.ports, s.fd.cnt, rfl⟩

theorem ite {r a b : State} {c : Prop} [Decidable c] (h : DieKept r a) (g : DieKept r b) : DieKept r (if c then a else b) := by
  split <;> assumption

section
variable {r s : State} (h : DieKept r s)
include h

theorem setFd {n : Nat} {p : FdPort} : DieKept r (s.setFd n p) := by
  obtain ⟨hregs, htb, ports, cnt, hfd⟩ := h
  exact ⟨hregs, htb, Sparse.put FdPort.empty s.fd.ports n p, cnt, by rw [State.setFd, hfd]⟩

theorem fdCount {f : Fld} : DieKept r (s.fdCount f) := by
  obtain ⟨hregs, htb, ports, cnt, hfd⟩ := h
  exact ⟨hregs, htb, ports, Sparse.put 0 s.fd.cnt f.key (Sparse.get 0 s.fd.cnt f.key + 1), by rw [State.fdCount, hfd]⟩

theorem fdShow {n : Nat} : DieKept r (s.fdShow n) := by
  obtain ⟨hregs, htb, hfd⟩ := h
  exact ⟨hregs.fdShow, (s.fdShow_tb n).trans htb, by rwa [s.fdShow_fd n]⟩

theorem fdGo {n st : Nat} : DieKept r (s.fdGo n st) := h.setFd.fdShow

theorem fdEnables {n : Nat} : DieKept r (s.fdEnables n) := by
  refine .ite (.ite h.setFd h.fdGo) (.ite (.ite h.fdGo h) ?_)
  split
  · exact .ite h.fdGo h
  · exact h

/-! What the die then reads is what it read before. -/

theorem isoUp : s.isoUp = r.isoUp := State.on_of_rd (h.regs _ diePlace_isoUp)

theorem dieRd {f : Fld} (hf : diePlace f.key) : s.dieRd f = r.dieRd f := by
  obtain ⟨hregs, -, ports, cnt, hfd⟩ := h
  have hdie : s.fd.die = r.fd.die := by rw [hfd]
  unfold State.dieRd
  rw [hdie]
  cases r.fd.die with
  | some regs => rfl
  | none => exact hregs f hf

end

end DieKept

end Sys2Proof.Machine
/-! The commands of a field port. -/

namespace Sys2Proof.Machine

/-! A probe of a port in DETECT (R472). -/

/-- A probe that keeps its port in DETECT has shown whether the pair bears a foreign voltage, and the next one is set. -/
def State.probeAgain (s : State) (n : Nat) (mis rev : Bool) : State :=
  (s.setFd n { s.fdPort n with probeAt := s.tb.mono + 500000000, mis := mis, rev := rev }).fdShow n

theorem State.fdPort_probeAgain {s : State} {n : Nat} {mis rev : Bool} :
    (s.probeAgain n mis rev).fdPort n = { s.fdPort n with probeAt := s.tb.mono + 500000000, mis := mis, rev := rev } := by
  rw [State.probeAgain, State.fdPort_fdShow, State.fdPort_setFd_same]

theorem State.rd_probeAgain_miswire {s : State} {n : Fin 8} {mis rev : Bool} (hup : s.isoUp = true) :
    (s.probeAgain n.val mis rev).rd (F.FP_STATUS_MISWIRE n.val) = mis.toNat := by
  rw [State.probeAgain, State.rd_fdShow_miswire ((DieKept.refl s).setFd.isoUp.trans hup), State.fdPort_setFd_same]

theorem State.rd_probeAgain_reversed {s : State} {n : Fin 8} {mis rev : Bool} (hup : s.isoUp = true) :
    (s.probeAgain n.val mis rev).rd (F.FP_STATUS_REVERSED n.val) = rev.toNat := by
  rw [State.probeAgain, State.rd_fdShow_reversed ((DieKept.refl s).setFd.isoUp.trans hup), State.fdPort_setFd_same]

theorem State.probeAgain_miswire {s : State} {n : Nat} {rev : Bool} (hup : s.isoUp = true) :
    (Src.FD_MISWIRE, n + 2) ∈ (s.probeAgain n true rev).cl.conds := by
  refine State.fdShow_miswire ((DieKept.refl s).setFd.isoUp.trans hup) ?_
  rw [State.fdPort_setFd_same]

theorem State.fdProbe_waits {s : State} {n : Nat} {k : Probe} (h : (s.fdPort n).pst ≠ pdDetect ∨ s.tb.mono < (s.fdPort n).probeAt) :
    s.fdProbe n k = s := if_pos h

section
variable {s : State} {n : Nat} (hpst : (s.fdPort n).pst = pdDetect) (hdue : (s.fdPort n).probeAt ≤ s.tb.mono)
include hpst hdue

theorem State.not_fdProbe_waits : ¬ ((s.fdPort n).pst ≠ pdDetect ∨ s.tb.mono < (s.fdPort n).probeAt) := by simp [hpst, hdue]

theorem State.fdProbe_nothing : s.fdProbe n .nothing = s.probeAgain n false false := if_neg (State.not_fdProbe_waits hpst hdue)

theorem State.fdProbe_foreign {rev : Bool} : s.fdProbe n (.foreign rev) = s.probeAgain n true rev :=
  if_neg (State.not_fdProbe_waits hpst hdue)

theorem State.fdProbe_valid_room (h : s.fdSum + 25 ≤ s.aggLim) : s.fdProbe n .valid =
    (s.setFd n { s.fdPort n with mis := false, rev := false }).fdGo n (if (s.fdPort n).sccp then pdClassify else pdPowerUp) :=
  (if_neg (State.not_fdProbe_waits hpst hdue)).trans (if_pos h)

theorem State.fdProbe_valid_full (h : s.aggLim < s.fdSum + 25) : s.fdProbe n .valid = s.probeAgain n false false :=
  (if_neg (State.not_fdProbe_waits hpst hdue)).trans (if_neg (Nat.not_le.mpr h))

end

/-- A valid signature with room under the aggregate limit: the port leaves DETECT without a foreign voltage. -/
theorem State.fdPort_signature {s : State} {n st : Nat} :
    (((s.setFd n { s.fdPort n with mis := false, rev := false }).fdGo n st).fdPort n).pst = st
      ∧ (((s.setFd n { s.fdPort n with mis := false, rev := false }).fdGo n st).fdPort n).mis = false := by
  refine ⟨State.pst_fdGo, ?_⟩
  rw [State.fdPort_fdGo_same, State.fdEntered, State.fdPort_setFd_same]
  rfl

theorem State.rd_signature_miswire {s : State} {n : Fin 8} {st : Nat} (hup : s.isoUp = true) :
    ((s.setFd n.val { s.fdPort n.val with mis := false, rev := false }).fdGo n.val st).rd (F.FP_STATUS_MISWIRE n.val) = 0 := by
  have hmis : ((s.setFd n.val { s.fdPort n.val with mis := false, rev := false }).fdEntered n.val st).mis = false := by
    rw [State.fdEntered, State.fdPort_setFd_same]
    rfl
  rw [State.fdGo_eq, State.rd_fdShow_miswire ((DieKept.refl s).setFd.setFd.isoUp.trans hup), State.fdPort_setFd_same, hmis]
  rfl

/-! The class that SCCP reads (R472). -/

/-- SCCP has read the class of a port in CLASSIFY. -/
def State.classRead (s : State) (n c : Nat) : State := (s.setFd n { s.fdPort n with clsRd := c }).fdShow n

/-- A classification fails. -/
def State.classFails (s : State) (n : Nat) : State :=
  (s.setFd n { s.fdPort n with failed := some s.tb.mono }).raise Src.FD_CLASS_FAIL (n + 2) none 0

theorem State.fdPort_classRead {s : State} {n c : Nat} : (s.classRead n c).fdPort n = { s.fdPort n with clsRd := c } := by
  rw [State.classRead, State.fdPort_fdShow, State.fdPort_setFd_same]

theorem DieKept.classRead {s : State} {n c : Nat} : DieKept s (s.classRead n c) := (DieKept.refl s).setFd.fdShow

theorem State.rd_classRead {s : State} {n : Fin 8} {c : Fin 16} (hup : s.isoUp = true) :
    (s.classRead n.val c.val).rd (F.FP_STATUS_CLASS_RD n.val) = c.val := by
  rw [State.classRead, State.rd_fdShow_class ((DieKept.refl s).setFd.isoUp.trans hup), State.fdPort_setFd_same]
  exact Nat.mod_eq_of_lt c.isLt

theorem State.fdPort_classFails {s : State} {n : Nat} : (s.classFails n).fdPort n = { s.fdPort n with failed := some s.tb.mono } :=
  State.fdPort_setFd_same

theorem State.rd_classGo {s : State} {n : Fin 8} {c : Fin 16} {st : Nat} (hup : s.isoUp = true) :
    ((s.classRead n.val c.val).fdGo n.val st).rd (F.FP_STATUS_CLASS_RD n.val) = c.val := by
  have hcls : ((s.classRead n.val c.val).fdEntered n.val st).clsRd = c.val := by rw [State.fdEntered, State.fdPort_classRead]
  rw [State.fdGo_eq, State.rd_fdShow_class (DieKept.classRead.setFd.isoUp.trans hup), State.fdPort_setFd_same, hcls]
  exact Nat.mod_eq_of_lt c.isLt

theorem execPdClassify_idle {n : Fin 8} {cls : Option (Fin 16)} {s : State} (h : (s.fdPort n.val).pst ≠ pdClassify) :
    execPdClassify n cls s = .next s := by
  unfold execPdClassify
  exact congrArg Host.Outcome.next (if_pos (.inl h))

section
variable {s : State} {n : Fin 8} (hpst : (s.fdPort n.val).pst = pdClassify) (hfailed : (s.fdPort n.val).failed = none)
include hpst hfailed

theorem not_execPdClassify_idle : ¬ ((s.fdPort n.val).pst ≠ pdClassify ∨ (s.fdPort n.val).failed.isSome = true) := by
  simp [hpst, hfailed]

theorem execPdClassify_some (c : Fin 16) : execPdClassify n (some c) s =
    .next (if c.val ≤ (s.fdPort n.val).cls then (s.classRead n.val c.val).fdGo n.val pdPowerUp
      else (s.classRead n.val c.val).classFails n.val) := by
  unfold execPdClassify
  exact congrArg Host.Outcome.next (if_neg (not_execPdClassify_idle hpst hfailed))

theorem execPdClassify_none : execPdClassify n none s =
    .next (if (s.fdPort n.val).since + 100000000 ≤ s.tb.mono then s.classFails n.val else s) := by
  unfold execPdClassify
  exact congrArg Host.Outcome.next (if_neg (not_execPdClassify_idle hpst hfailed))

theorem execPdClassify_read (c : Fin 16) : ∃ t, execPdClassify n (some c) s = .next t ∧ (t.fdPort n.val).clsRd = c.val
    ∧ (s.rd F.FD_STATUS_ISO_UP = 1 → t.rd (F.FP_STATUS_CLASS_RD n.val) = c.val)
    ∧ (c.val ≤ (s.fdPort n.val).cls → (t.fdPort n.val).pst = pdPowerUp)
    ∧ ((s.fdPort n.val).cls < c.val → t.fdPort n.val = { s.fdPort n.val with clsRd := c.val, failed := some s.tb.mono }
      ∧ ⟨Src.FD_CLASS_FAIL, n.val + 2, none, 0, false⟩ ∈ t.cl.inbox) := by
  rw [execPdClassify_some hpst hfailed]
  refine ⟨_, rfl, ?_⟩
  by_cases hc : c.val ≤ (s.fdPort n.val).cls
  · rw [if_pos hc, State.fdPort_fdGo_same, State.fdEntered, State.fdPort_classRead]
    exact ⟨rfl, fun hup => State.rd_classGo (State.on_of_one hup), fun _ => rfl, fun h => absurd hc (Nat.not_le.mpr h)⟩
  · have hport : ((s.classRead n.val c.val).classFails n.val).fdPort n.val
        = { s.fdPort n.val with clsRd := c.val, failed := some s.tb.mono } := by
      rw [State.fdPort_classFails, State.fdPort_classRead, DieKept.classRead.tb]
    rw [if_neg hc, hport]
    exact ⟨rfl, fun hup => State.rd_classRead (State.on_of_one hup), fun h => absurd h hc,
      fun _ => ⟨rfl, List.mem_append_right _ (List.mem_singleton_self _)⟩⟩

theorem execPdClassify_timeout (h : (s.fdPort n.val).since + 100000000 ≤ s.tb.mono) :
    execPdClassify n none s = .next (s.classFails n.val) := by
  rw [execPdClassify_none hpst hfailed]
  exact congrArg Host.Outcome.next (if_pos h)

theorem execPdClassify_waits (h : s.tb.mono < (s.fdPort n.val).since + 100000000) : execPdClassify n none s = .next s := by
  rw [execPdClassify_none hpst hfailed]
  exact congrArg Host.Outcome.next (if_neg (Nat.not_le.mpr h))

end

/-! A fault, and what follows it (R474). -/

theorem State.pst_fdFault {s : State} {n : Nat} : ((s.fdFault n).fdPort n).pst = pdFault := State.pst_fdGo

theorem State.fdFault_overcurrent {s : State} {n : Nat} (hup : s.isoUp = true) :
    (s.fdFault n).cl.conds.contains (Src.FD_OVERCURRENT, n + 2) = true :=
  List.contains_iff_mem.mpr (State.fdShow_overcurrent ((DieKept.refl s).setFd.isoUp.trans hup) (congrArg FdPort.pst State.fdPort_setFd_same))

theorem execPowerUpDone_in_time {n : Fin 8} {s : State} (hpst : (s.fdPort n.val).pst = pdPowerUp)
    (h : s.tb.mono ≤ (s.fdPort n.val).since + 50000000) : execPowerUpDone n true s = .next (s.fdGo n.val pdOn) := by
  unfold execPowerUpDone
  dsimp only
  rw [if_neg (not_not_intro hpst), if_neg (Nat.not_lt.mpr h), if_pos rfl]

theorem execPowerUpDone_late {n : Fin 8} {inRange : Bool} {s : State} (hpst : (s.fdPort n.val).pst = pdPowerUp)
    (h : (s.fdPort n.val).since + 50000000 < s.tb.mono) : execPowerUpDone n inRange s = .next (s.fdFault n.val) := by
  unfold execPowerUpDone
  dsimp only
  rw [if_neg (not_not_intro hpst), if_pos h]

theorem State.tripped_held {s : State} {n : Nat} {held : Option Nat}
    (h : Option.all (fun ms => decide (ms < max 1 (s.dieRd (F.FP_OC_OC_MS n)))) held = true) (hs : held.isSome = true) :
    s.tripped n held = false := by
  cases held with
  | none => cases hs
  | some ms =>
    have hlt : ms < max 1 (s.dieRd (F.FP_OC_OC_MS n)) := of_decide_eq_true h
    exact decide_eq_false (Nat.not_le.mpr hlt)

theorem execOvercurrentTrip_stays {n : Fin 8} {held : Option Nat} {s : State} (h : (s.fdPort n.val).pst ≠ pdOn ∨ s.tripped n.val held = false) :
    execOvercurrentTrip n held s = .next s := by
  refine congrArg Host.Outcome.next (if_neg fun hp => ?_)
  obtain ⟨hpst, htrip⟩ := hp
  exact h.elim (· hpst) (fun hf => Bool.false_ne_true (hf.symm.trans htrip))

theorem State.retriesLeft_iff {s : State} {n : Nat} :
    s.retriesLeft n = true ↔ s.dieRd (F.FP_OC_RETRY_N n) = 15 ∨ (s.fdPort n).used < s.dieRd (F.FP_OC_RETRY_N n) := by
  simp [State.retriesLeft]

theorem execFaultRetry_again {n : Fin 8} {s : State} (hpst : (s.fdPort n.val).pst = pdFault)
    (hdue : (s.fdPort n.val).since + s.dieRd (F.FP_OC_RETRY_MS n.val) * 1000000 ≤ s.tb.mono) (hleft : s.retriesLeft n.val = true) :
    ∃ t, execFaultRetry n s = .next t ∧ (t.fdPort n.val).pst = pdDetect ∧ (t.fdPort n.val).used = min 15 ((s.fdPort n.val).used + 1) := by
  unfold execFaultRetry
  dsimp only
  rw [if_pos ⟨hpst, hdue, hleft⟩]
  refine ⟨_, rfl, State.pst_fdGo, ?_⟩
  rw [State.fdPort_fdGo_same, State.fdEntered, State.fdPort_setFd_same]
  rfl

theorem execFaultRetry_stays {n : Fin 8} {s : State} (h : (s.fdPort n.val).pst ≠ pdFault
    ∨ s.tb.mono < (s.fdPort n.val).since + s.dieRd (F.FP_OC_RETRY_MS n.val) * 1000000 ∨ s.retriesLeft n.val = false) :
    execFaultRetry n s = .next s := by
  unfold execFaultRetry
  refine congrArg Host.Outcome.next (if_neg fun hp => ?_)
  obtain ⟨hpst, hdue, hleft⟩ := hp
  rcases h with h | h | h
  · exact h hpst
  · exact Nat.not_le.mpr h hdue
  · exact Bool.false_ne_true (h.symm.trans hleft)

end Sys2Proof.Machine
/-! The power evaluation of the field ports, and the return of a shed port (R472, R475). -/

namespace Sys2Proof.Machine

/-! A fold that picks one element of a list. -/

section
variable {α : Type} {g : Option α → α → Option α} (hnone : ∀ a, g none a = some a)
include hnone

/-- What such a fold picks is what it began with or an element of the list. -/
theorem foldl_pick_mem (hsome : ∀ k a, g (some k) a = some a ∨ g (some k) a = some k) {l : List α} {o : Option α} {n : α}
    (h : l.foldl g o = some n) : o = some n ∨ n ∈ l := by
  induction l generalizing o with
  | nil => exact .inl h
  | cons a t ih =>
    rcases ih h with hg | hmem
    · have ha : o = some n ∨ n = a := by
        cases o with
        | none => exact .inr (Option.some.inj ((hnone a).symm.trans hg)).symm
        | some k => exact (hsome k a).elim (fun e => .inr (Option.some.inj (e.symm.trans hg)).symm) (fun e => .inl (e.symm.trans hg))
      exact ha.imp_right fun e => List.mem_cons.mpr (.inl e)
    · exact .inr (List.mem_cons_of_mem a hmem)

/-- An element that wins against all before it and all after it is the one picked. -/
theorem foldl_pick_eq {l₁ l₂ : List α} {n : α} (hsome : ∀ k a, g (some k) a = some a ∨ g (some k) a = some k)
    (hbefore : ∀ k ∈ l₁, g (some k) n = some n) (hafter : ∀ a ∈ l₂, g (some n) a = some n) : (l₁ ++ n :: l₂).foldl g none = some n := by
  have hn : g (l₁.foldl g none) n = some n := by
    cases hk : l₁.foldl g none with
    | none => exact hnone n
    | some k => exact hbefore k ((foldl_pick_mem hnone hsome hk).resolve_left (Option.some_ne_none k ·.symm))
  have hstay : ∀ l : List α, (∀ a ∈ l, g (some n) a = some n) → l.foldl g (some n) = some n := by
    intro l hl
    induction l with
    | nil => rfl
    | cons a t ih =>
      rw [List.foldl_cons, hl a List.mem_cons_self]
      exact ih fun b hb => hl b (List.mem_cons_of_mem a hb)
  rw [List.foldl_append, List.foldl_cons, hn]
  exact hstay l₂ hafter

end

/-! The enables of a port. -/

theorem diePlace_of_block {f : Fld} (hne : f.key ≠ F.FD_STATUS_SHED.key) (hlow : f.key < (F.CL_ACTIVE_w 0).key)
    (hoff : f.key / 32 < (F.FP_STATUS_PWR_STATE 0).off ∨ f.key / 32 % 0x80 ≠ 4) : diePlace f.key := by
  refine ⟨hne, hlow, fun n hn => ?_⟩
  have hstatus : (F.FP_STATUS_PWR_STATE n).off = (F.FP_STATUS_PWR_STATE 0).off + 0x80 * n := rfl
  have hzero : (F.FP_STATUS_PWR_STATE 0).off = 0x50404 := rfl
  omega

theorem diePlace_pwrEn {n : Nat} (hn : n < 8) : diePlace (F.FP_CTRL_PWR_EN n).key := by
  apply diePlace_of_block <;> simp only [Fld.key, F.FP_CTRL_PWR_EN, F.FD_STATUS_SHED, F.CL_ACTIVE_w, F.FP_STATUS_PWR_STATE] <;> omega

theorem diePlace_prio {n : Nat} (hn : n < 8) : diePlace (F.FP_CTRL_PRIO n).key := by
  apply diePlace_of_block <;> simp only [Fld.key, F.FP_CTRL_PRIO, F.FD_STATUS_SHED, F.CL_ACTIVE_w, F.FP_STATUS_PWR_STATE] <;> omega

theorem diePlace_aggLim : diePlace F.FD_AGG_LIM.key := diePlace_of_block (by decide) (by decide) (by decide)

theorem DieKept.aggLim {r s : State} (h : DieKept r s) : s.aggLim = r.aggLim := by
  rw [State.aggLim, h.dieRd diePlace_aggLim, State.aggLim]

theorem DieKept.fdSum {r s : State} (h : DieKept r s) : s.fdSum = r.fdSum := by
  obtain ⟨_, _, hfd⟩ := h.fd
  rw [State.fdSum, hfd, State.fdSum]

theorem DieKept.fdEnabled {r s : State} (h : DieKept r s) {n : Nat} (hn : n < 8) : s.fdEnabled n = r.fdEnabled n := by
  have hon : ∀ f : Fld, diePlace f.key → s.on f = r.on f := fun f hf => State.on_of_rd (h.regs f hf)
  have hpower : s.power = r.power := h.regs F.CRP_PWR_STATUS_STATE (diePlace_of_block (by decide) (by decide) (by decide))
  obtain ⟨_, _, hfd⟩ := h.fd
  unfold State.fdEnabled
  rw [hon F.FD_CTRL_PWR_EN (diePlace_of_block (by decide) (by decide) (by decide)), hon _ (diePlace_pwrEn hn), hpower,
    hon F.CRP_PWR_CFG_FPWR_HOLD (diePlace_of_block (by decide) (by decide) (by decide)), hfd]

theorem State.fdEnabled_of_switched_off {s : State} {n : Nat} (h : s.rd (F.FP_CTRL_PWR_EN n) = 0 ∨ s.rd F.FD_CTRL_PWR_EN = 0) :
    s.fdEnabled n = false := by
  unfold State.fdEnabled
  rcases h with h | h
  · rw [State.on_of_zero h, Bool.and_false]
    rfl
  · rw [State.on_of_zero h]
    rfl

theorem State.spent_of_pst {s : State} {n : Nat} (h : (s.fdPort n).pst ≠ pdFault) : s.spent n = false := by
  rw [State.spent, beq_eq_false_iff_ne.mpr h, Bool.false_and]

theorem State.fdPort_fdEnables_ne {s : State} {n k : Nat} (h : k ≠ n) : (s.fdEnables n).fdPort k = s.fdPort k := by
  unfold State.fdEnables
  dsimp only
  split
  · split
    · exact State.fdPort_setFd_ne h
    · exact State.fdPort_fdGo_ne h
  · split
    · split
      · exact State.fdPort_fdGo_ne h
      · rfl
    · split
      · split
        · exact State.fdPort_fdGo_ne h
        · rfl
      · rfl

/-- A port is ON after its enables are evaluated only if it was ON before. -/
theorem State.pst_of_fdEnables_on {s : State} {n : Nat} (h : ((s.fdEnables n).fdPort n).pst = pdOn) : (s.fdPort n).pst = pdOn := by
  have hgo : ∀ st, st ≠ pdOn → ((s.fdGo n st).fdPort n).pst = pdOn → (s.fdPort n).pst = pdOn :=
    fun st hst he => absurd (State.pst_fdGo.symm.trans he) hst
  revert h
  unfold State.fdEnables
  dsimp only
  split
  · split
    · rw [State.fdPort_setFd_same]
      exact id
    · exact hgo pdOff (by decide)
  · split
    · split
      · exact hgo pdDetect (by decide)
      · exact id
    · split
      · split
        · exact hgo pdDetect (by decide)
        · exact id
      · exact id

section
variable {s : State} {n : Nat} (hup : s.isoUp = true)
include hup

theorem State.pst_fdEnables_disabled (hen : s.fdEnabled n = false) (hpst : (s.fdPort n).pst ≠ pdFault) :
    ((s.fdEnables n).fdPort n).pst = pdOff := by
  have hcond : s.isoUp = true ∧ ((s.fdPort n).off = true ∨ ¬ s.fdEnabled n = true) := ⟨hup, .inr (by rw [hen]; exact Bool.false_ne_true)⟩
  unfold State.fdEnables
  rw [if_pos hcond, State.spent_of_pst hpst]
  split
  · next h =>
      have hoff : (s.fdPort n).pst = pdOff := h.resolve_right fun hs => Bool.false_ne_true hs.1
      rw [State.fdPort_setFd_same]
      exact hoff
  · exact State.pst_fdGo

end

section
variable {s : State} {n : Nat} (hoff : (s.fdPort n).off = false) (hen : s.fdEnabled n = true)
include hoff hen

theorem State.not_fdEnables_off : ¬ (s.isoUp = true ∧ ((s.fdPort n).off = true ∨ ¬ s.fdEnabled n = true)) := by simp [hoff, hen]

theorem State.pst_fdEnables_off (hup : s.isoUp = true) (hpst : (s.fdPort n).pst = pdOff) : ((s.fdEnables n).fdPort n).pst = pdDetect := by
  unfold State.fdEnables
  rw [if_neg (State.not_fdEnables_off hoff hen), if_pos hpst, if_pos hup]
  exact State.pst_fdGo

theorem State.fdEnables_on (hpst : (s.fdPort n).pst = pdOn) (hfailed : (s.fdPort n).failed = none) : s.fdEnables n = s := by
  have hne : (s.fdPort n).pst ≠ pdOff := by rw [hpst]; decide
  unfold State.fdEnables
  rw [if_neg (State.not_fdEnables_off hoff hen), if_neg hne, hfailed]

end

/-! The enables of all ports: each port is decided at its own turn. -/

def State.fdEnablesAll (s : State) (l : List Nat) : State := l.foldl (fun s n => s.fdEnables n) s

theorem DieKept.fdEnablesAll {r s : State} (h : DieKept r s) (l : List Nat) : DieKept r (s.fdEnablesAll l) :=
  List.foldlRecOn (motive := DieKept r) _ _ h (fun _ k _ _ => k.fdEnables)

theorem State.fdPort_fdEnablesAll_notMem {s : State} {l : List Nat} {n : Nat} (hn : n ∉ l) : (s.fdEnablesAll l).fdPort n = s.fdPort n :=
  List.foldlRecOn (motive := fun t : State => t.fdPort n = s.fdPort n) _ _ rfl
    (fun _ k m hm => (State.fdPort_fdEnables_ne (k := n) (n := m) fun e => hn (e ▸ hm)).trans k)

/-- The state in which a port's turn comes has the port and the die as they stood. -/
theorem State.fdPort_fdEnablesAll {s : State} {l : List Nat} {n : Nat} (hl : l.Nodup) (hn : n ∈ l) :
    ∃ u, DieKept s u ∧ u.fdPort n = s.fdPort n ∧ (s.fdEnablesAll l).fdPort n = (u.fdEnables n).fdPort n := by
  obtain ⟨l₁, l₂, rfl⟩ := List.append_of_mem hn
  have h₁ : n ∉ l₁ := fun h => (List.disjoint_of_nodup_append hl) h List.mem_cons_self
  have h₂ : n ∉ l₂ := (List.nodup_cons.mp (List.nodup_append.mp hl).2.1).1
  refine ⟨s.fdEnablesAll l₁, (DieKept.refl s).fdEnablesAll l₁, State.fdPort_fdEnablesAll_notMem h₁, ?_⟩
  rw [State.fdEnablesAll, List.foldl_append, List.foldl_cons]
  exact State.fdPort_fdEnablesAll_notMem h₂

section
variable {s : State} {n : Nat} (hn : n < 8)
include hn

theorem State.pst_of_fdEnablesAll_on (h : ((s.fdEnablesAll (List.range 8)).fdPort n).pst = pdOn) : (s.fdPort n).pst = pdOn := by
  obtain ⟨u, -, hport, hturn⟩ := State.fdPort_fdEnablesAll (s := s) List.nodup_range (List.mem_range.mpr hn)
  rw [hturn] at h
  rw [← hport]
  exact State.pst_of_fdEnables_on h

theorem State.pst_fdEnablesAll_on (hoff : (s.fdPort n).off = false) (hen : s.fdEnabled n = true) (hpst : (s.fdPort n).pst = pdOn)
    (hfailed : (s.fdPort n).failed = none) :
    ((s.fdEnablesAll (List.range 8)).fdPort n).pst = pdOn := by
  obtain ⟨u, hu, hport, hturn⟩ := State.fdPort_fdEnablesAll (s := s) List.nodup_range (List.mem_range.mpr hn)
  rw [hturn, State.fdEnables_on (hport ▸ hoff) ((hu.fdEnabled hn).trans hen) (hport ▸ hpst) (hport ▸ hfailed), hport, hpst]

variable (hup : s.isoUp = true)
include hup

theorem State.pst_fdEnablesAll_disabled (hen : s.fdEnabled n = false) (hpst : (s.fdPort n).pst ≠ pdFault) :
    ((s.fdEnablesAll (List.range 8)).fdPort n).pst = pdOff := by
  obtain ⟨u, hu, hport, hturn⟩ := State.fdPort_fdEnablesAll (s := s) List.nodup_range (List.mem_range.mpr hn)
  rw [hturn]
  exact State.pst_fdEnables_disabled (hu.isoUp.trans hup) ((hu.fdEnabled hn).trans hen) (hport ▸ hpst)

variable (hoff : (s.fdPort n).off = false) (hen : s.fdEnabled n = true)
include hoff hen

theorem State.pst_fdEnablesAll_off (hpst : (s.fdPort n).pst = pdOff) : ((s.fdEnablesAll (List.range 8)).fdPort n).pst = pdDetect := by
  obtain ⟨u, hu, hport, hturn⟩ := State.fdPort_fdEnablesAll (s := s) List.nodup_range (List.mem_range.mpr hn)
  rw [hturn]
  exact State.pst_fdEnables_off (hport ▸ hoff) ((hu.fdEnabled hn).trans hen) (hu.isoUp.trans hup) (hport ▸ hpst)

end

/-! The port to shed (R475). -/

theorem State.shedPort_on {s : State} {n : Nat} (h : s.shedPort = some n) : (s.fdPort n).pst = pdOn := by
  unfold State.shedPort at h
  have hmem := (foldl_pick_mem (fun _ => rfl) (fun k a => by dsimp only; split <;> simp) h).resolve_left (Option.some_ne_none n ·.symm)
  exact beq_iff_eq.mp (List.mem_filter.mp hmem).2

/-- Port `n` comes before every other port that is ON: by a lower PRIO, or by a higher number among equals. -/
def State.lowestOn (s : State) (n : Nat) : Prop :=
  ∀ k < 8, (s.fdPort k).pst = pdOn → k ≠ n → s.dieRd (F.FP_CTRL_PRIO n) < s.dieRd (F.FP_CTRL_PRIO k)
    ∨ (s.dieRd (F.FP_CTRL_PRIO n) = s.dieRd (F.FP_CTRL_PRIO k) ∧ k < n)

theorem State.shedPort_lowest {s : State} {n : Nat} (hn : n < 8) (hpst : (s.fdPort n).pst = pdOn) (hlow : s.lowestOn n) :
    s.shedPort = some n := by
  have hmem : n ∈ (List.range 8).filter (fun k => (s.fdPort k).pst == pdOn) :=
    List.mem_filter.mpr ⟨List.mem_range.mpr hn, beq_iff_eq.mpr hpst⟩
  have hsorted : ((List.range 8).filter (fun k => (s.fdPort k).pst == pdOn)).Pairwise (· < ·) := List.pairwise_lt_range.filter _
  obtain ⟨l₁, l₂, hl⟩ := List.append_of_mem hmem
  have hon : ∀ k ∈ l₁ ++ n :: l₂, k < 8 ∧ (s.fdPort k).pst = pdOn := by
    intro k hk
    rw [← hl, List.mem_filter] at hk
    exact ⟨List.mem_range.mp hk.1, beq_iff_eq.mp hk.2⟩
  rw [hl, List.pairwise_append] at hsorted
  obtain ⟨-, htail, hcross⟩ := hsorted
  unfold State.shedPort
  rw [hl]
  refine foldl_pick_eq (fun _ => rfl) (fun k a => by dsimp only; split <;> simp) (fun k hk => if_pos ?_) (fun k hk => if_neg ?_)
  · obtain ⟨hk8, hkon⟩ := hon k (List.mem_append_left _ hk)
    have hkn : k < n := hcross k hk n List.mem_cons_self
    have hcmp := hlow k hk8 hkon (Nat.ne_of_lt hkn)
    omega
  · obtain ⟨hk8, hkon⟩ := hon k (List.mem_append_right _ (List.mem_cons_of_mem n hk))
    have hnk : n < k := List.rel_of_pairwise_cons htail hk
    have hcmp := hlow k hk8 hkon (Nat.ne_of_gt hnk)
    omega

/-! What shedding leaves of the ports. -/

theorem State.shedOne_room {s : State} (h : s.fdSum ≤ s.aggLim) : s.shedOne = s := if_neg (Nat.not_lt.mpr h)

/-- The port `n` is shed. -/
def State.shed (s : State) (n : Nat) : State :=
  ((s.fdGo n pdShed).fdCount (F.FP_SHED_CNT n)).setFd n { (s.fdGo n pdShed).fdPort n with iLast := s.fd.cur.getD n 0 }

theorem State.shedOne_full {s : State} (h : s.aggLim < s.fdSum) {n : Nat} (hn : s.shedPort = some n) : s.shedOne = s.shed n := by
  unfold State.shedOne
  rw [if_pos h, hn]
  rfl

theorem State.pst_shed {s : State} {n : Nat} : ((s.shed n).fdPort n).pst = pdShed := by
  rw [State.shed, State.fdPort_setFd_same]
  exact State.pst_fdGo

theorem State.shed_aggLimit {s : State} {n : Nat} (hup : s.isoUp = true) : (Src.FD_AGG_LIMIT, n + 2) ∈ (s.shed n).cl.conds :=
  State.fdShow_aggLimit ((DieKept.refl s).setFd.isoUp.trans hup) (congrArg FdPort.pst State.fdPort_setFd_same)

theorem State.fdPort_shed_ne {s : State} {n k : Nat} (h : k ≠ n) : (s.shed n).fdPort k = s.fdPort k := by
  rw [State.shed, State.fdPort_setFd_ne h, State.fdPort_fdCount, State.fdPort_fdGo_ne h]

/-- Shedding takes a port that is ON. -/
theorem State.fdPort_shedOne {s : State} {n : Nat} (h : (s.fdPort n).pst ≠ pdOn) : (s.shedOne).fdPort n = s.fdPort n := by
  by_cases hsum : s.aggLim < s.fdSum
  · cases hport : s.shedPort with
    | none =>
      unfold State.shedOne
      rw [if_pos hsum, hport]
    | some k =>
      rw [State.shedOne_full hsum hport]
      exact State.fdPort_shed_ne fun e => h (e ▸ State.shedPort_on hport)
  · rw [State.shedOne_room (Nat.not_lt.mp hsum)]

theorem DieKept.shedOne {r s : State} (h : DieKept r s) : DieKept r s.shedOne := by
  unfold State.shedOne
  split
  · split
    · exact h.fdGo.fdCount.setFd
    · exact h
  · exact h

theorem State.shedRoom_keeps (s : State) : DieKept s s.shedRoom ∧ s.shedRoom.cl = s.cl ∧ ∀ k, (s.shedRoom.fdPort k).pst = (s.fdPort k).pst := by
  refine List.foldlRecOn (motive := fun t : State => DieKept s t ∧ t.cl = s.cl ∧ ∀ k, (t.fdPort k).pst = (s.fdPort k).pst) _ _
    ⟨.refl s, rfl, fun _ => rfl⟩ (fun t ht n _ => ?_)
  obtain ⟨hdie, hcl, hpst⟩ := ht
  have hset : ∀ r : FdPort, r.pst = (t.fdPort n).pst → ∀ k, ((t.setFd n r).fdPort k).pst = (s.fdPort k).pst := by
    intro r hr k
    by_cases hk : k = n
    · rw [hk, State.fdPort_setFd_same, hr, hpst n]
    · rw [State.fdPort_setFd_ne hk, hpst k]
  dsimp only
  split
  · split
    · exact ⟨hdie.setFd, hcl, hset _ rfl⟩
    · exact ⟨hdie.setFd, hcl, hset _ rfl⟩
  · exact ⟨hdie, hcl, hpst⟩

/-! The evaluation. -/

/-- The die after it has taken the currents of an evaluation. -/
def State.curTaken (s : State) (cur : List Nat) : State := { s with fd := { s.fd with cur := s.heldCur cur, evalAt := s.tb.mono } }

/-- The evaluation of every 1 ms. -/
def State.powerEvaluated (s : State) (cur : List Nat) : State := (((s.curTaken cur).fdEnablesAll (List.range 8)).shedOne).shedRoom

theorem execPowerEvaluation_waits {s : State} {cur : List Nat}
    (h : s.fd.released = false ∨ s.fd.inReset = true ∨ s.tb.mono < s.fd.evalAt + 1000000) : execPowerEvaluation cur s = .next s := by
  refine congrArg Host.Outcome.next (if_neg fun hp => ?_)
  obtain ⟨hrel, hrun, hdue⟩ := hp
  rcases h with h | h | h
  · exact Bool.false_ne_true (h.symm.trans hrel)
  · exact hrun h
  · exact Nat.not_le.mpr h hdue

theorem execPowerEvaluation_due {s : State} {cur : List Nat} (hrel : s.fd.released = true) (hrun : s.fd.inReset = false)
    (hdue : s.fd.evalAt + 1000000 ≤ s.tb.mono) : execPowerEvaluation cur s = .next (s.powerEvaluated cur) :=
  congrArg Host.Outcome.next (if_pos ⟨hrel, by rw [hrun]; exact Bool.false_ne_true, hdue⟩)

theorem State.fdSum_curTaken {s : State} {cur : List Nat} :
    (s.curTaken cur).fdSum = (List.range 8).foldl (fun a k => a + min (cur.getD k 0) (max 10 (min 300 (s.dieRd (F.FP_ILIM k))))) 0 := by
  have hsum : (s.curTaken cur).fdSum = (s.heldCur cur).sum := rfl
  rw [hsum, State.heldCur, List.sum_eq_foldl, List.foldl_map]
  rfl

section
variable (s : State) (cur : List Nat)

theorem State.powerEvaluated_keeps : DieKept (s.curTaken cur) (s.powerEvaluated cur) := by
  obtain ⟨hroom, -, -⟩ := (((s.curTaken cur).fdEnablesAll (List.range 8)).shedOne).shedRoom_keeps
  have hshed := ((DieKept.refl (s.curTaken cur)).fdEnablesAll (List.range 8)).shedOne
  obtain ⟨hregs, htb, _, _, hfd⟩ := hshed
  obtain ⟨hregs', htb', ports, cnt, hfd'⟩ := hroom
  exact ⟨hregs.trans hregs', htb'.trans htb, ports, cnt, hfd'.trans (by rw [hfd])⟩

theorem State.evalAt_powerEvaluated : (s.powerEvaluated cur).fd.evalAt = s.tb.mono := by
  obtain ⟨_, _, hfd⟩ := (s.powerEvaluated_keeps cur).fd
  rw [hfd]
  rfl

theorem State.pst_powerEvaluated (n : Nat) : ((s.powerEvaluated cur).fdPort n).pst
    = ((((s.curTaken cur).fdEnablesAll (List.range 8)).shedOne).fdPort n).pst :=
  (((s.curTaken cur).fdEnablesAll (List.range 8)).shedOne).shedRoom_keeps.2.2 n

theorem State.conds_powerEvaluated : (s.powerEvaluated cur).cl = (((s.curTaken cur).fdEnablesAll (List.range 8)).shedOne).cl :=
  (((s.curTaken cur).fdEnablesAll (List.range 8)).shedOne).shedRoom_keeps.2.1

end

section
variable {s : State} {cur : List Nat} {n : Nat}

theorem State.pst_powerEvaluated_decided {st : Nat} (hst : st ≠ pdOn)
    (h : (((s.curTaken cur).fdEnablesAll (List.range 8)).fdPort n).pst = st) : ((s.powerEvaluated cur).fdPort n).pst = st := by
  rw [s.pst_powerEvaluated cur n, State.fdPort_shedOne (by rw [h]; exact hst), h]

/-- Evaluating the enables turns no port ON, so what comes before every ON port still does. -/
theorem State.lowestOn_fdEnablesAll (hn : n < 8) (hlow : s.lowestOn n) : ((s.curTaken cur).fdEnablesAll (List.range 8)).lowestOn n := by
  have hkept := (DieKept.refl (s.curTaken cur)).fdEnablesAll (List.range 8)
  intro k hk hkon hne
  have hs : (s.fdPort k).pst = pdOn := State.pst_of_fdEnablesAll_on (s := s.curTaken cur) hk hkon
  rw [hkept.dieRd (diePlace_prio hn), hkept.dieRd (diePlace_prio hk)]
  exact hlow k hk hs hne

section
variable (hon : (((s.curTaken cur).fdEnablesAll (List.range 8)).fdPort n).pst = pdOn)
include hon

theorem State.pst_powerEvaluated_room (hroom : (s.curTaken cur).fdSum ≤ s.aggLim) : ((s.powerEvaluated cur).fdPort n).pst = pdOn := by
  have hkept := (DieKept.refl (s.curTaken cur)).fdEnablesAll (List.range 8)
  have hle : ((s.curTaken cur).fdEnablesAll (List.range 8)).fdSum ≤ ((s.curTaken cur).fdEnablesAll (List.range 8)).aggLim := by
    rw [hkept.fdSum, hkept.aggLim]
    exact hroom
  rw [s.pst_powerEvaluated cur n, State.shedOne_room hle, hon]

theorem State.powerEvaluated_sheds (hn : n < 8) (hup : s.isoUp = true) (hfull : s.aggLim < (s.curTaken cur).fdSum) (hlow : s.lowestOn n) :
    ((s.powerEvaluated cur).fdPort n).pst = pdShed ∧ (Src.FD_AGG_LIMIT, n + 2) ∈ (s.powerEvaluated cur).cl.conds := by
  have hkept := (DieKept.refl (s.curTaken cur)).fdEnablesAll (List.range 8)
  have hlt : ((s.curTaken cur).fdEnablesAll (List.range 8)).aggLim < ((s.curTaken cur).fdEnablesAll (List.range 8)).fdSum := by
    rw [hkept.fdSum, hkept.aggLim]
    exact hfull
  have hshed := State.shedOne_full hlt (State.shedPort_lowest hn hon (State.lowestOn_fdEnablesAll hn hlow))
  rw [s.pst_powerEvaluated cur n, s.conds_powerEvaluated cur, hshed]
  exact ⟨State.pst_shed, State.shed_aggLimit (hkept.isoUp.trans hup)⟩

end

end

/-! The return of a shed port (R475). -/

theorem State.recoverPort_none_of_not_shed {s : State} (h : (List.range 8).all (fun k => decide ((s.fdPort k).pst ≠ pdShed)) = true) :
    s.recoverPort = none := by
  have hnot : ∀ k ∈ List.range 8, ((s.fdPort k).pst == pdShed) = false :=
    fun k hk => beq_eq_false_iff_ne.mpr (of_decide_eq_true (List.all_eq_true.mp h k hk))
  unfold State.recoverPort
  dsimp only
  rw [List.filter_eq_nil_iff.mpr fun k hk => by rw [hnot k hk, Bool.false_and]; exact Bool.false_ne_true]
  rfl

/-- The ports of `l` wait anew for room. -/
def State.waitAnew (s : State) (l : List Nat) : State := l.foldl (fun s k => s.setFd k { s.fdPort k with lowAt := none }) s

theorem State.fdPort_waitAnew (s : State) (l : List Nat) (k : Nat) :
    (s.waitAnew l).fdPort k = if k ∈ l then { s.fdPort k with lowAt := none } else s.fdPort k := by
  induction l generalizing s with
  | nil => rfl
  | cons a t ih =>
    rw [State.waitAnew, List.foldl_cons]
    refine (ih _).trans ?_
    by_cases hka : k = a
    · rw [hka, State.fdPort_setFd_same, if_pos List.mem_cons_self]
      exact ite_self _
    · rw [State.fdPort_setFd_ne hka]
      simp only [List.mem_cons, hka, false_or]

theorem execShedRecover_none {s : State} (h : s.recoverPort = none) : execShedRecover s = .next s := by
  unfold execShedRecover
  rw [h]

theorem execShedRecover_some {s : State} {n : Nat} (h : s.recoverPort = some n) :
    execShedRecover s = .next ((s.fdGo n pdDetect).waitAnew (List.range 8)) := by
  unfold execShedRecover
  rw [h]
  rfl

theorem State.pst_waitAnew {s : State} {l : List Nat} {k : Nat} : ((s.waitAnew l).fdPort k).pst = (s.fdPort k).pst := by
  rw [State.fdPort_waitAnew]
  split
  · rfl
  · rfl

theorem State.lowAt_waitAnew (s : State) (l : List Nat) : l.all (fun k => decide (((s.waitAnew l).fdPort k).lowAt = none)) = true := by
  refine List.all_eq_true.mpr fun k hk => decide_eq_true ?_
  rw [State.fdPort_waitAnew, if_pos hk]

end Sys2Proof.Machine

/-! The obligation. -/

namespace Sys2Proof.Machine

theorem pdDetect_probes (n : Fin 8) (s : State) (hpst : (s.fdPort n.val).pst = pdDetect) (hdue : (s.fdPort n.val).probeAt ≤ s.tb.mono) :
    (∃ t, exec (.pdDetect n .nothing) s = .next t ∧ (t.fdPort n.val).mis = false
        ∧ (s.rd F.FD_STATUS_ISO_UP = 1 → t.rd (F.FP_STATUS_MISWIRE n.val) = 0) ∧ (t.fdPort n.val).pst = pdDetect
        ∧ (t.fdPort n.val).probeAt = s.tb.mono + 500000000)
      ∧ (∃ t, exec (.pdDetect n (.foreign true)) s = .next t ∧ (t.fdPort n.val).mis = true ∧ (t.fdPort n.val).rev = true
        ∧ (s.rd F.FD_STATUS_ISO_UP = 1 → t.rd (F.FP_STATUS_MISWIRE n.val) = 1 ∧ t.rd (F.FP_STATUS_REVERSED n.val) = 1
          ∧ t.cl.conds.contains (Src.FD_MISWIRE, n.val + 2) = true)
        ∧ (t.fdPort n.val).pst = pdDetect ∧ (t.fdPort n.val).probeAt = s.tb.mono + 500000000)
      ∧ (s.fdSum + 25 ≤ s.aggLim → ∃ t, exec (.pdDetect n .valid) s = .next t
        ∧ (t.fdPort n.val).pst = (if (s.fdPort n.val).sccp then pdClassify else pdPowerUp) ∧ (t.fdPort n.val).mis = false
        ∧ (s.rd F.FD_STATUS_ISO_UP = 1 → t.rd (F.FP_STATUS_MISWIRE n.val) = 0))
      ∧ (s.aggLim < s.fdSum + 25 → ∃ t, exec (.pdDetect n .valid) s = .next t ∧ (t.fdPort n.val).pst = pdDetect) := by
  have hexec : ∀ k t, s.fdProbe n.val k = t → exec (.pdDetect n k) s = .next t := fun _ _ h => congrArg Host.Outcome.next h
  refine ⟨⟨_, hexec _ _ (State.fdProbe_nothing hpst hdue), ?_⟩, ⟨_, hexec _ _ (State.fdProbe_foreign hpst hdue), ?_⟩,
    fun hroom => ⟨_, hexec _ _ (State.fdProbe_valid_room hpst hdue hroom), ?_⟩,
    fun hfull => ⟨_, hexec _ _ (State.fdProbe_valid_full hpst hdue hfull), ?_⟩⟩
  · rw [State.fdPort_probeAgain]
    exact ⟨rfl, fun hup => State.rd_probeAgain_miswire (State.on_of_one hup), hpst, rfl⟩
  · rw [State.fdPort_probeAgain]
    exact ⟨rfl, rfl, fun hup => ⟨State.rd_probeAgain_miswire (State.on_of_one hup), State.rd_probeAgain_reversed (State.on_of_one hup),
      List.contains_iff_mem.mpr (State.probeAgain_miswire (State.on_of_one hup))⟩, hpst, rfl⟩
  · obtain ⟨hgo, hmis⟩ := State.fdPort_signature (s := s) (n := n.val)
    exact ⟨hgo, hmis, fun hup => State.rd_signature_miswire (State.on_of_one hup)⟩
  · rw [State.fdPort_probeAgain]
    exact hpst

theorem lowestOn_of_all {s : State} {n : Nat} (h : (List.range 8).all (fun k => decide (k = n ∨ (s.fdPort k).pst ≠ pdOn
      ∨ s.dieRd (F.FP_CTRL_PRIO n) < s.dieRd (F.FP_CTRL_PRIO k)
      ∨ (s.dieRd (F.FP_CTRL_PRIO n) = s.dieRd (F.FP_CTRL_PRIO k) ∧ k < n))) = true) : s.lowestOn n := by
  intro k hk hon hne
  have hcase := of_decide_eq_true (List.all_eq_true.mp h k (List.mem_range.mpr hk))
  exact (hcase.resolve_left hne).resolve_left (fun hnot => hnot hon)

/-- What an evaluation decides for one port while the channel is up. -/
theorem powerEvaluation_decides (n : Fin 8) (cur : List Nat) (s : State) (hup : s.isoUp = true) :
    let t := s.powerEvaluated cur
    let r := s.fdPort n.val
    (s.rd (F.FP_CTRL_PWR_EN n.val) = 0 ∨ s.rd F.FD_CTRL_PWR_EN = 0 → r.pst ≠ pdFault → (t.fdPort n.val).pst = pdOff)
      ∧ (r.pst = pdOff → r.off = false → s.fdEnabled n.val = true → (t.fdPort n.val).pst = pdDetect)
      ∧ (r.pst = pdOn → r.off = false → r.failed = none → s.fdEnabled n.val = true → (s.curTaken cur).fdSum ≤ s.aggLim →
        (t.fdPort n.val).pst = pdOn)
      ∧ (r.pst = pdOn → r.off = false → r.failed = none → s.fdEnabled n.val = true → s.aggLim < (s.curTaken cur).fdSum → s.lowestOn n.val →
        (t.fdPort n.val).pst = pdShed ∧ t.cl.conds.contains (Src.FD_AGG_LIMIT, n.val + 2) = true) := by
  have hon : (s.fdPort n.val).pst = pdOn → (s.fdPort n.val).off = false → (s.fdPort n.val).failed = none → s.fdEnabled n.val = true →
      (((s.curTaken cur).fdEnablesAll (List.range 8)).fdPort n.val).pst = pdOn :=
    fun hpst hoff hfailed hen => State.pst_fdEnablesAll_on (s := s.curTaken cur) n.isLt hoff hen hpst hfailed
  refine ⟨fun hsw hpst => ?_, fun hpst hoff hen => ?_, fun hpst hoff hfailed hen hroom => ?_, fun hpst hoff hfailed hen hfull hlow => ?_⟩
  · exact State.pst_powerEvaluated_decided (by decide)
      (State.pst_fdEnablesAll_disabled (s := s.curTaken cur) n.isLt hup (State.fdEnabled_of_switched_off hsw) hpst)
  · exact State.pst_powerEvaluated_decided (by decide) (State.pst_fdEnablesAll_off (s := s.curTaken cur) n.isLt hup hoff hen hpst)
  · exact State.pst_powerEvaluated_room (hon hpst hoff hfailed hen) hroom
  · obtain ⟨hshed, hcond⟩ := State.powerEvaluated_sheds (hon hpst hoff hfailed hen) n.isLt hup hfull hlow
    exact ⟨hshed, List.contains_iff_mem.mpr hcond⟩

/-- Settles O60: the commands of one port by its power state; at the evaluation each port is decided at its own turn, which leaves the die
and the other ports, so the sum and the order of the ON ports stand when one of them is shed. -/
theorem powerOfFieldPorts : Obligations.PowerOfFieldPorts := by
  unfold Obligations.PowerOfFieldPorts
  refine ⟨fun n k cls inRange held s => ?_, fun n cur s => ?_, fun n s => ⟨?_, ?_, ?_⟩⟩
  · dsimp only
    refine ⟨fun h => ?_, fun _ h => ?_, fun hpst hdue => ?_, fun h => execPdClassify_idle h, fun hpst hfailed => ⟨?_, ?_, ?_⟩, fun h => ?_,
      fun hpst hin h => ?_, fun hpst h => ?_, fun h => ⟨?_, ?_, ?_⟩, fun hpst h => ?_, fun hpst hheld => ?_, fun hpst hheld hs => ?_,
      fun hpst h => ?_, fun h => ?_, fun hpst h => ⟨fun h15 hused => ?_, fun hleft => ?_⟩⟩
    · exact congrArg Host.Outcome.next (State.fdProbe_waits (.inl h))
    · exact congrArg Host.Outcome.next (State.fdProbe_waits (.inr h))
    · obtain ⟨hnothing, hforeign, hroom, hfull⟩ := pdDetect_probes n s hpst hdue
      exact ⟨fun e => e ▸ hnothing, fun e => e ▸ hforeign, fun e => e ▸ hroom, fun e => e ▸ hfull⟩
    · exact fun c e => e ▸ execPdClassify_read hpst hfailed c
    · exact fun e h => e ▸ execPdClassify_timeout hpst hfailed h
    · exact fun e h => e ▸ execPdClassify_waits hpst hfailed h
    · exact congrArg Host.Outcome.next (if_pos h)
    · exact ⟨_, hin ▸ execPowerUpDone_in_time hpst h, State.pst_fdGo, congrArg FdPort.since State.fdPort_fdGo_same⟩
    · exact ⟨_, execPowerUpDone_late hpst h, State.pst_fdFault, fun hup => State.fdFault_overcurrent (State.on_of_one hup)⟩
    · exact congrArg Host.Outcome.next (if_neg fun hp => h hp.1)
    · exact execOvercurrentTrip_stays (.inl h)
    · exact congrArg Host.Outcome.next (if_neg fun hp => h hp.1)
    · exact ⟨_, congrArg Host.Outcome.next (if_pos ⟨hpst, h⟩), State.pst_fdGo⟩
    · exact ⟨_, congrArg Host.Outcome.next (if_pos ⟨hpst, hheld ▸ rfl⟩), State.pst_fdFault,
        fun hup => State.fdFault_overcurrent (State.on_of_one hup)⟩
    · exact execOvercurrentTrip_stays (.inr (State.tripped_held hheld hs))
    · exact congrArg Host.Outcome.next (if_pos ⟨hpst, h⟩)
    · exact execFaultRetry_stays (h.imp_right .inl)
    · have hspent : s.retriesLeft n.val = false :=
        Bool.eq_false_iff.mpr fun hl => (State.retriesLeft_iff.mp hl).elim h15 (Nat.not_lt.mpr hused)
      exact execFaultRetry_stays (.inr (.inr hspent))
    · exact execFaultRetry_again hpst h (State.retriesLeft_iff.mpr hleft)
  · dsimp only
    refine ⟨execPowerEvaluation_waits, fun hrel hrun hdue hup => ?_⟩
    obtain ⟨hoff, hdetect, hstays, hshed⟩ := powerEvaluation_decides n cur s (State.on_of_one hup)
    rw [← State.fdSum_curTaken]
    exact ⟨_, execPowerEvaluation_due hrel hrun hdue, s.evalAt_powerEvaluated cur, (s.powerEvaluated_keeps cur).fdSum, hoff, hdetect, hstays,
      fun hpst hno hfailed hen hfull hlow => hshed hpst hno hfailed hen hfull (lowestOn_of_all hlow)⟩
  · exact execShedRecover_none
  · exact fun h => execShedRecover_none (State.recoverPort_none_of_not_shed h)
  · exact fun h => ⟨_, execShedRecover_some h, State.pst_waitAnew.trans State.pst_fdGo, State.lowAt_waitAnew ..⟩

end Sys2Proof.Machine
/-! The steps of a start-up (R402, R411, R440 to R447, R484 to R486; `Obligations.StartUp`). -/

namespace Sys2Proof.Machine

-- As in `CrpKept`: one proof after the other, so that their threads do not add up.
set_option Elab.async false

/-! Writes to several fields. -/

theorem State.wrAll_shape (s : State) (l : List (Fld × Nat)) : ∃ regs, s.wrAll l = { s with regs := regs } :=
  List.foldlRecOn (motive := fun t : State => ∃ regs, t = { s with regs := regs }) l _ ⟨s.regs, rfl⟩ (fun t ht x _ => by
    obtain ⟨regs, rfl⟩ := ht
    exact ⟨_, rfl⟩)

/-- A register that is none of the list's fields `fs`. -/
theorem State.rd_wrAll_other {s : State} {l : List (Fld × Nat)} {f : Fld} (fs : List Fld) (hne : ∀ g ∈ fs, g.key ≠ f.key := by decide)
    (hfs : l.map Prod.fst = fs := by rfl) : (s.wrAll l).rd f = s.rd f :=
  State.rd_foldl_kept (fun _ _ hx => State.rd_wr_ne _ _ _ _ (hne _ (hfs ▸ List.mem_map_of_mem hx)).symm) s

/-- A field that the list names, and not again, reads what its entry gives it. -/
theorem State.rd_wrAll_mod {s : State} {l : List (Fld × Nat)} {f : Fld} {v : Nat} (fs : List Fld) (i : Nat)
    (hi : l[i]? = some (f, v) := by rfl) (hne : ∀ g ∈ fs.drop (i + 1), g.key ≠ f.key := by decide) (hfs : l.map Prod.fst = fs := by rfl)
    (hw : f.w ≤ 32 := by exact Nat.le_of_ble_eq_true rfl) : (s.wrAll l).rd f = v % 2 ^ f.w := by
  obtain ⟨hlt, hget⟩ := List.getElem?_eq_some_iff.mp hi
  have hsplit : s.wrAll l = ((s.wrAll (l.take i)).wr f v).wrAll (l.drop (i + 1)) := by
    conv_lhs => rw [← List.take_append_drop i l, List.drop_eq_getElem_cons hlt, hget]
    rw [State.wrAll, List.foldl_append, List.foldl_cons]
    rfl
  have hdrop : (l.drop (i + 1)).map Prod.fst = fs.drop (i + 1) := by rw [List.map_drop, hfs]
  rw [hsplit, State.rd_wrAll_other _ hne hdrop, State.rd_wr_self hw]

theorem State.rd_wrAll_at {s : State} {l : List (Fld × Nat)} {f : Fld} {v : Nat} (fs : List Fld) (i : Nat) (hv : v < 2 ^ f.w)
    (hi : l[i]? = some (f, v) := by rfl) (hne : ∀ g ∈ fs.drop (i + 1), g.key ≠ f.key := by decide) (hfs : l.map Prod.fst = fs := by rfl)
    (hw : f.w ≤ 32 := by exact Nat.le_of_ble_eq_true rfl) : (s.wrAll l).rd f = v :=
  (State.rd_wrAll_mod fs i hi hne hfs hw).trans (Nat.mod_eq_of_lt hv)

/-! The internal reset release (R484, R485). -/

theorem State.linkCheck_regs (s : State) : s.linkCheck.regs = s.regs := by
  unfold State.linkCheck
  split
  · exact State.onset_regs ..
  · rfl

theorem State.linkCheck_crp (s : State) : s.linkCheck.crp = s.crp := by
  unfold State.linkCheck
  split
  · rw [State.onset_eq]
  · rfl

/-- What t_r writes: the straps, PERST#, the clocks and the phase. -/
def strapWrites (tw bs rs pe : Bool) : List (Fld × Nat) :=
  [(F.CRP_STRAP_TWIN_ID, tw.toNat), (F.CRP_STRAP_BOOT_SEL, bs.toNat), (F.CRP_STRAP_REFSEL, rs.toNat),
    (F.TW_STATUS_TWIN_ID, tw.toNat), (F.CRP_BOOT_SAFE, bs.toNat), (F.CRP_PCIE_STAT_PERST, pe.toNat),
    (F.CRP_CLK_STATUS_REF_OK, 1), (F.CRP_CLK_STATUS_PLL_CORE, 1), (F.CRP_CLK_STATUS_PLL_TIME, 1), (F.CRP_CLK_STATUS_PLL_MGMT, 1),
    (F.CRP_CLK_STATUS_PLL_DRAM, 1), (F.CRP_CLK_STATUS_PLL_SERDES, 1), (F.CRP_BOOT_PHASE, 1)]

def strapFields : List Fld := (strapWrites false false false false).map Prod.fst

/-- The instant of release is now. -/
def State.releasedNow (s : State) : State := { s with crp := { s.crp with tr := s.tb.mono } }

/-- The straps are taken and the instant of release is set. -/
def State.strapped (s : State) (tw bs rs pe : Bool) : State := (s.wrAll (strapWrites tw bs rs pe)).releasedNow

section
variable {tw bs rs pe : Bool} {s : State}

theorem State.retireHold_of_lc (h : s.lc ≠ lcRetired) : s.retireHold = s := if_neg h

theorem State.rd_releasedNow (f : Fld) : s.releasedNow.rd f = s.rd f := rfl

theorem State.rd_dbgStart_ne {f : Fld} (hf : f.key ≠ F.AC_STATUS_DBG.key) : s.dbgStart.rd f = s.rd f := State.rd_wr_ne s F.AC_STATUS_DBG f _ hf

theorem State.rd_dbgStart_same : s.dbgStart.rd F.AC_STATUS_DBG = if s.lc = lcFactory then dbgOpen else dbgClosed := by
  refine (State.rd_wr_self (s := s) (f := F.AC_STATUS_DBG) (v := if s.lc = lcFactory then dbgOpen else dbgClosed)).trans ?_
  split
  · rfl
  · rfl

theorem State.rd_strapped (f : Fld) : (s.strapped tw bs rs pe).rd f = (s.wrAll (strapWrites tw bs rs pe)).rd f := State.rd_releasedNow f

theorem State.lc_strapped : (s.strapped tw bs rs pe).lc = s.lc := by
  rw [State.lc, State.rd_strapped, State.rd_wrAll_other strapFields, State.lc]

theorem State.lc_dbgStart : s.dbgStart.lc = s.lc := State.rd_dbgStart_ne (by decide)

theorem State.release_eq (h : s.rd F.AC_STATUS_LC ≠ 5) : s.release tw bs rs pe = (s.strapped tw bs rs pe).dbgStart.linkCheck := by
  have hlc : (s.strapped tw bs rs pe).dbgStart.lc ≠ lcRetired := by rw [State.lc_dbgStart, State.lc_strapped]; exact h
  exact congrArg State.linkCheck (State.retireHold_of_lc hlc)

theorem State.rd_release (h : s.rd F.AC_STATUS_LC ≠ 5) (f : Fld) :
    (s.release tw bs rs pe).rd f = (s.strapped tw bs rs pe).dbgStart.rd f := by
  rw [State.release_eq h]
  exact State.rd_of_regs (State.linkCheck_regs _) f

theorem State.rd_release_strap {f : Fld} (h : s.rd F.AC_STATUS_LC ≠ 5) (hf : f.key ≠ F.AC_STATUS_DBG.key := by decide) :
    (s.release tw bs rs pe).rd f = (s.wrAll (strapWrites tw bs rs pe)).rd f := by
  rw [State.rd_release h]
  exact (State.rd_dbgStart_ne hf).trans (State.rd_strapped f)

theorem State.rd_release_dbg (h : s.rd F.AC_STATUS_LC ≠ 5) :
    (s.release tw bs rs pe).rd F.AC_STATUS_DBG = if s.rd F.AC_STATUS_LC = 1 then 2 else 0 := by
  rw [State.rd_release h, State.rd_dbgStart_same, State.lc_strapped]
  rfl

theorem State.tr_release (h : s.rd F.AC_STATUS_LC ≠ 5) : (s.release tw bs rs pe).crp.tr = s.tb.mono := by
  obtain ⟨_, hshape⟩ := s.wrAll_shape (strapWrites tw bs rs pe)
  rw [State.release_eq h, State.linkCheck_crp, State.strapped, hshape]
  rfl

end

/-- The fields that the end of the wipe of the on-die memories writes. -/
def sramFields : List Fld :=
  [F.CRP_WIPE_STATUS_SRAM, F.CRP_WIPE_STATUS_DRAM, F.GY_STATUS_WIPING, F.MS_STATUS_WIPING, F.GR_STATUS_WIPING, F.CRP_BOOT_PHASE]

/-! The start of firmware (R440, R442, R463). -/

/-- The place of CRP, of the enables of DMA and MBOX, and of MGMT but for the count of records that the log has dropped. -/
abbrev bootPlace (k : Nat) : Prop := (k < (F.BP_MAC_LO 0).key ∨ F.DMA_CTRL_EN.key ≤ k) ∧ k ≠ F.MG_LOG_DROP.key

/-- What the enables of firmware and the way of the log to its buffer leave. -/
structure BootKept (r s : State) : Prop where
  rd : KeptOn bootPlace r s
  active : s.mg.active = r.mg.active

namespace BootKept

theorem refl (s : State) : BootKept s s := ⟨.refl _ s, rfl⟩

section
variable {r s : State} (h : BootKept r s)
include h

theorem wr {f : Fld} {v : Nat} (hf : ¬ bootPlace f.key) : BootKept r (s.wr f v) := ⟨h.rd.wr hf, h.active⟩

theorem writeMac {p : Nat} (hp : p < 10) : BootKept r (s.writeMac p) := by
  have hmac : ∀ f : Fld, (F.BP_MAC_LO 0).key ≤ f.key → f.key < F.DMA_CTRL_EN.key → ¬ bootPlace f.key := fun _ h₁ h₂ h₃ => by omega
  unfold State.writeMac
  dsimp only
  split
  all_goals
    refine (h.wr (hmac _ ?_ ?_)).wr (hmac _ ?_ ?_) <;>
      (simp only [Fld.key, F.BP_MAC_LO, F.BP_MAC_HI, F.FP_MAC_LO, F.FP_MAC_HI, F.DMA_CTRL_EN]; omega)

theorem writeMacs : BootKept r s.writeMacs :=
  List.foldlRecOn (motive := BootKept r) _ _ h (fun _ k _ hp => k.writeMac (List.mem_range.mp hp))

theorem isoOnset {b : Prop} [Decidable b] : BootKept r (if b then s else s.onset Src.FD_ISO_LOSS 0xFF 0) := by
  split
  · exact h
  · exact ⟨fun f hf => (State.rd_of_regs (State.onset_regs ..) f).trans (h.rd f hf), by rw [State.onset_eq]; exact h.active⟩

theorem logBook {e : BookEntry} : BootKept r (s.logBook e) := by
  unfold State.logBook
  dsimp only
  split
  · exact ⟨KeptOn.mk_ (KeptOn.wr (KeptOn.mk_ h.rd) (fun hp => hp.2 rfl)), h.active⟩
  · exact ⟨h.rd.mk_, h.active⟩

theorem logMissed : BootKept r s.logMissed := List.foldlRecOn (motive := BootKept r) _ _ h (fun _ k _ _ => k.logBook)

theorem resetLogged : BootKept r (if s.crp.again then s.logPut (s.logRec logReset 12 s.resetRecord) else s).logMissed := by
  split
  · exact logMissed ⟨h.rd.mk_, h.active⟩
  · exact h.logMissed

end

end BootKept

/-- Firmware has started: it shows its phase and the versions of the slots. -/
def State.fwShown (s : State) : State :=
  s.makeKey.wrAll [(F.CRP_BOOT_PHASE, 3), (F.MG_FW_A_VER, s.mg.fwA.version), (F.MG_FW_B_VER, s.mg.fwB.version),
    (F.MG_EBAIN_A_VER, ebVersion s.mg.ebA), (F.MG_EBAIN_B_VER, ebVersion s.mg.ebB)]

def shownFields : List Fld := [F.CRP_BOOT_PHASE, F.MG_FW_A_VER, F.MG_FW_B_VER, F.MG_EBAIN_A_VER, F.MG_EBAIN_B_VER]

/-- The core as the boot code leaves it. -/
def State.fwChosen (s : State) : State := if s.fwBoot.2 then s.fwBoot.1.wr F.MG_STATUS_STATE mgRecovery else s.fwBoot.1

theorem State.fwStart_kept (s : State) : BootKept s.fwChosen.fwShown.fwEnables s.fwStart := (BootKept.refl _).resetLogged

section
variable {s : State}

theorem State.makeKey_shape : ∃ key, s.makeKey = { s with mg := { s.mg with deviceKey := key } } := by
  unfold State.makeKey
  split
  · exact ⟨true, rfl⟩
  · exact ⟨s.mg.deviceKey, rfl⟩

theorem State.rd_makeKey (f : Fld) : s.makeKey.rd f = s.rd f := by
  obtain ⟨_, h⟩ := s.makeKey_shape
  rw [h]
  rfl

theorem State.active_fwShown : s.fwShown.mg.active = s.mg.active := by
  obtain ⟨_, hkey⟩ := s.makeKey_shape
  obtain ⟨_, hwr⟩ := s.makeKey.wrAll_shape [(F.CRP_BOOT_PHASE, 3), (F.MG_FW_A_VER, s.mg.fwA.version), (F.MG_FW_B_VER, s.mg.fwB.version),
    (F.MG_EBAIN_A_VER, ebVersion s.mg.ebA), (F.MG_EBAIN_B_VER, ebVersion s.mg.ebB)]
  rw [State.fwShown, hwr, hkey]

/-- The enables of a module in service, which RETIRED leaves out. -/
theorem State.fwEnables_of_lc (h : s.lc ≠ lcRetired) : BootKept (s.wrAll [(F.MB_CTRL_EN, 1), (F.DMA_CTRL_EN, 1)]) s.fwEnables := by
  unfold State.fwEnables
  rw [if_neg h]
  exact (BootKept.refl _).writeMacs.isoOnset

/-- In every life-cycle state the enables leave the other registers of the place, and the active slot. -/
theorem State.fwEnables_kept : s.fwEnables.mg.active = s.mg.active ∧ ∀ f : Fld, bootPlace f.key → f.key ≠ F.MB_CTRL_EN.key →
    f.key ≠ F.DMA_CTRL_EN.key → s.fwEnables.rd f = s.rd f := by
  by_cases h : s.lc = lcRetired
  · have hsame : s.fwEnables = s := if_pos h
    rw [hsame]
    exact ⟨rfl, fun _ _ _ _ => rfl⟩
  · obtain ⟨hrd, hactive⟩ := State.fwEnables_of_lc h
    refine ⟨hactive, fun f hf hmb hdma => (hrd f hf).trans ?_⟩
    exact (State.rd_wr_ne (s.wr F.MB_CTRL_EN 1) F.DMA_CTRL_EN f 1 hdma).trans (State.rd_wr_ne s F.MB_CTRL_EN f 1 hmb)

theorem State.rd_fwStart (s : State) {f : Fld} (hf : bootPlace f.key := by decide) (hmb : f.key ≠ F.MB_CTRL_EN.key := by decide)
    (hdma : f.key ≠ F.DMA_CTRL_EN.key := by decide) : s.fwStart.rd f = s.fwChosen.fwShown.rd f :=
  (s.fwStart_kept.rd f hf).trans (State.fwEnables_kept.2 f hf hmb hdma)

theorem State.active_fwStart (s : State) : s.fwStart.mg.active = s.fwChosen.mg.active :=
  s.fwStart_kept.active.trans (State.fwEnables_kept.1.trans State.active_fwShown)

theorem State.phase_fwStart (s : State) : s.fwStart.rd F.CRP_BOOT_PHASE = 3 := by
  rw [s.rd_fwStart]
  exact State.rd_wrAll_at shownFields 0 (by decide)

/-- A register that firmware's start shows as the boot code has left it. -/
theorem State.rd_fwShown {f : Fld} (h : ∀ g ∈ shownFields, g.key ≠ f.key := by decide) : s.fwShown.rd f = s.rd f := by
  have hother := State.rd_wrAll_other (s := s.makeKey) (l := [(F.CRP_BOOT_PHASE, 3), (F.MG_FW_A_VER, s.mg.fwA.version),
    (F.MG_FW_B_VER, s.mg.fwB.version), (F.MG_EBAIN_A_VER, ebVersion s.mg.ebA), (F.MG_EBAIN_B_VER, ebVersion s.mg.ebB)]) shownFields h
  exact hother.trans (State.rd_makeKey f)

theorem State.fwStart_enables (h : s.fwChosen.fwShown.lc ≠ lcRetired) :
    s.fwStart.rd F.MB_CTRL_EN = 1 ∧ s.fwStart.rd F.DMA_CTRL_EN = 1 := by
  obtain ⟨hrd, -⟩ := State.fwEnables_of_lc h
  constructor
  · rw [s.fwStart_kept.rd _ (by decide), hrd _ (by decide)]
    exact State.rd_wrAll_at [F.MB_CTRL_EN, F.DMA_CTRL_EN] 0 (by decide)
  · rw [s.fwStart_kept.rd _ (by decide), hrd _ (by decide)]
    exact State.rd_wrAll_at [F.MB_CTRL_EN, F.DMA_CTRL_EN] 1 (by decide)

/-! The boot code's choice. -/

theorem State.fwChosen_passes (h : s.fwPasses (s.fwSlot s.mg.active) = true) : s.fwChosen = s.wr F.MG_STATUS_SLOT s.mg.active.toNat := by
  rw [State.fwChosen, State.fwBoot_passes h]
  exact if_neg Bool.false_ne_true

theorem State.fwChosen_fallback (h : s.fwPasses (s.fwSlot s.mg.active) = false) (h' : s.fwPasses (s.fwSlot (!s.mg.active)) = true) :
    s.fwChosen.mg.active = (!s.mg.active) ∧ s.fwChosen.rd F.MG_STATUS_SLOT = (!s.mg.active).toNat := by
  have hslot : ∀ u : State, (u.wr F.MG_STATUS_SLOT (!s.mg.active).toNat).rd F.MG_STATUS_SLOT = (!s.mg.active).toNat :=
    fun u => (State.rd_wr_self (s := u)).trans (Nat.mod_eq_of_lt (Bool.toNat_lt _))
  have hpair : s.fwBoot.2 = false ∧ s.fwBoot.1.mg.active = (!s.mg.active) ∧ s.fwBoot.1.rd F.MG_STATUS_SLOT = (!s.mg.active).toNat := by
    rw [State.fwBoot, if_neg (by rw [h]; exact Bool.false_ne_true)]
    dsimp only
    rw [if_pos h']
    exact ⟨rfl, rfl, hslot _⟩
  obtain ⟨hrun, hactive, hshown⟩ := hpair
  rw [State.fwChosen, if_neg (by rw [hrun]; exact Bool.false_ne_true)]
  exact ⟨hactive, hshown⟩

theorem State.fwChosen_none (h : s.fwPasses (s.fwSlot s.mg.active) = false) (h' : s.fwPasses (s.fwSlot (!s.mg.active)) = false) :
    s.fwChosen.rd F.MG_STATUS_STATE = 4 := by
  obtain ⟨cl, hboot⟩ := State.fwBoot_none h h'
  rw [State.fwChosen, hboot]
  exact (congrArg (fun u : State => u.rd F.MG_STATUS_STATE) (if_pos rfl)).trans (State.rd_wr_self (s := { s with cl := cl }))

end

/-- The start of a firmware slot that passes. -/
theorem State.fwStart_passes {s : State} (hlc : s.rd F.AC_STATUS_LC ≠ 5) (h : s.fwPasses (s.fwSlot s.mg.active) = true) :
    s.fwStart.rd F.MG_STATUS_SLOT = s.mg.active.toNat ∧ s.fwStart.rd F.MB_CTRL_EN = 1 ∧ s.fwStart.rd F.DMA_CTRL_EN = 1
      ∧ s.fwStart.rd F.MG_STATUS_STATE = s.rd F.MG_STATUS_STATE ∧ s.fwStart.rd F.MG_FW_A_VER = s.mg.fwA.version % 2 ^ 32
      ∧ s.fwStart.rd F.MG_FW_B_VER = s.mg.fwB.version % 2 ^ 32 := by
  have hchosen := State.fwChosen_passes h
  have hslot : s.fwChosen.rd F.MG_STATUS_SLOT = s.mg.active.toNat := by
    rw [hchosen, State.rd_wr_self]
    exact Nat.mod_eq_of_lt (Bool.toNat_lt _)
  have hother : ∀ f : Fld, f.key ≠ F.MG_STATUS_SLOT.key → s.fwChosen.rd f = s.rd f := fun f hf => by
    rw [hchosen, State.rd_wr_ne _ _ _ _ hf]
  have hretired : s.fwChosen.fwShown.lc ≠ lcRetired := by
    rw [State.lc, State.rd_fwShown, hother _ (by decide)]
    exact hlc
  have hmg : s.fwChosen.mg = s.mg := by rw [hchosen]; rfl
  obtain ⟨hmb, hdma⟩ := State.fwStart_enables hretired
  refine ⟨?_, hmb, hdma, ?_, ?_, ?_⟩
  · rw [s.rd_fwStart, State.rd_fwShown, hslot]
  · rw [s.rd_fwStart, State.rd_fwShown, hother _ (by decide)]
  · rw [s.rd_fwStart, State.fwShown, hmg]
    exact State.rd_wrAll_mod shownFields 1
  · rw [s.rd_fwStart, State.fwShown, hmg]
    exact State.rd_wrAll_mod shownFields 2

/-! The end of the DRAM's wipe (R447, R485). -/

/-- The DRAM is wiped and no image may be loaded: the results of both slots say so, and the bindings are locked. -/
def wipeWrites : List (Fld × Nat) :=
  [(F.CRP_WIPE_STATUS_DRAM, 0), (F.GY_STATUS_WIPING, 0), (F.MS_STATUS_WIPING, 0), (F.GR_STATUS_WIPING, 0), (F.CRP_BOOT_PHASE, 4),
    (F.MG_EBAIN_STAT_A_RESULT, 3), (F.MG_EBAIN_STAT_B_RESULT, 3), (F.MB_CTRL_BIND_LOCK, 1)]

def wipeFields : List Fld := wipeWrites.map Prod.fst

section
variable {s : State} {unlocked : Bool}

theorem State.ebMay_of_safe (h : s.rd F.CRP_BOOT_SAFE = 1) : s.ebMay = false := by
  rw [State.ebMay, State.on_of_one h]
  rfl

theorem State.ebMay_of_factory (h : s.rd F.AC_STATUS_LC = 1) : s.ebMay = false := by
  rw [State.ebMay, State.lc, h]
  exact Bool.and_false _

/-- Without an image the end of the wipe is a list of writes, then the lock of the tables. -/
theorem State.dramWiped_eq
    (hmay : ∀ t : State, t.rd F.CRP_BOOT_SAFE = s.rd F.CRP_BOOT_SAFE → t.rd F.AC_STATUS_LC = s.rd F.AC_STATUS_LC → t.ebMay = false)
    (hlc : s.rd F.AC_STATUS_LC ≠ 5) : s.dramWiped unlocked
      = if s.rd F.AC_STATUS_LC = 1 ∧ unlocked = true then (s.wrAll wipeWrites).wr F.CRP_BOOT_PHASE 5 else (s.wrAll wipeWrites).lockTables := by
  have hload : (s.wrAll [(F.CRP_WIPE_STATUS_DRAM, 0), (F.GY_STATUS_WIPING, 0), (F.MS_STATUS_WIPING, 0), (F.GR_STATUS_WIPING, 0),
      (F.CRP_BOOT_PHASE, 4)]).ebLoad = s.wrAll wipeWrites := by
    have hkept : ∀ f : Fld, (∀ g ∈ wipeFields, g.key ≠ f.key) → (s.wrAll (wipeWrites.take 7)).rd f = s.rd f :=
      fun f hf => State.rd_wrAll_other (wipeFields.take 7) (fun g hg => hf g (List.mem_of_mem_take hg))
    have hno : (s.wrAll (wipeWrites.take 7)).ebMay = false := hmay _ (hkept _ (by decide)) (hkept _ (by decide))
    exact if_neg (by rw [Bool.not_eq_true]; exact hno)
  have hsame : (s.wrAll wipeWrites).lc = s.rd F.AC_STATUS_LC := State.rd_wrAll_other wipeFields
  unfold State.dramWiped
  dsimp only
  have hretired : ¬ (s.wrAll wipeWrites).lc = lcRetired := by rw [hsame]; exact hlc
  rw [hload, if_neg hretired, hsame]
  rfl

theorem State.dramWiped_unlocked (hlc : s.rd F.AC_STATUS_LC = 1) : s.dramWiped true = (s.wrAll wipeWrites).wr F.CRP_BOOT_PHASE 5 := by
  rw [State.dramWiped_eq (fun t _ h => State.ebMay_of_factory (h.trans hlc)) (by rw [hlc]; decide), if_pos ⟨hlc, rfl⟩]

theorem State.dramWiped_safe (hsafe : s.rd F.CRP_BOOT_SAFE = 1) (hlc : s.rd F.AC_STATUS_LC = 3) :
    s.dramWiped unlocked = (s.wrAll wipeWrites).lockTables := by
  rw [State.dramWiped_eq (fun t h _ => State.ebMay_of_safe (h.trans hsafe)) (by rw [hlc]; decide), if_neg (by rw [hlc]; simp)]

/-- With the bindings locked in PHASE 4, the lock of the tables reaches PHASE 5. -/
theorem State.phase_lockTables (hphase : s.rd F.CRP_BOOT_PHASE = 4) (hbind : s.rd F.MB_CTRL_BIND_LOCK = 1) :
    s.lockTables.rd F.CRP_BOOT_PHASE = 5 := by
  have hkept : ∀ f : Fld, f.key ≠ F.AC_CTRL_LOCK.key → f.key ≠ F.AC_STATUS_LOCKED.key →
      ((s.wr F.AC_CTRL_LOCK 1).wr F.AC_STATUS_LOCKED 1).rd f = s.rd f :=
    fun f h₁ h₂ => (State.rd_wr_ne _ _ _ _ h₂).trans (State.rd_wr_ne _ _ _ _ h₁)
  have hon := State.on_of_one ((hkept F.MB_CTRL_BIND_LOCK (by decide) (by decide)).trans hbind)
  unfold State.lockTables
  rw [if_pos ⟨(hkept F.CRP_BOOT_PHASE (by decide) (by decide)).trans hphase, hon⟩]
  exact State.rd_wr_self

end

/-! Readiness (R443, R485, R486). -/

/-- The free value of the rounding is taken. -/
def State.roundTaken (s : State) : State := { s with freeIdx := s.freeIdx + 1 }

/-- The module is ready, before firmware shows that it runs. -/
def State.readyShown (s : State) : State := (s.wrAll [(F.CRP_BOOT_PHASE, 6), (F.CRP_BOOT_READY_MS, s.readyMs)]).roundTaken.linkCheck

def readyFields : List Fld := [F.CRP_BOOT_PHASE, F.CRP_BOOT_READY_MS]

section
variable {s : State}

theorem State.rd_roundTaken (f : Fld) : s.roundTaken.rd f = s.rd f := rfl

theorem State.rd_readyShown (f : Fld) : s.readyShown.rd f = (s.wrAll [(F.CRP_BOOT_PHASE, 6), (F.CRP_BOOT_READY_MS, s.readyMs)]).rd f :=
  (State.rd_of_regs (State.linkCheck_regs _) f).trans (State.rd_roundTaken f)

theorem State.phase_readyShown : s.readyShown.rd F.CRP_BOOT_PHASE = 6 := (State.rd_readyShown _).trans (State.rd_wrAll_at readyFields 0 (by decide))

theorem State.rd_readyShown_other {f : Fld} (hne : ∀ g ∈ readyFields, g.key ≠ f.key := by decide) :
    s.readyShown.rd f = s.rd f :=
  (State.rd_readyShown _).trans (State.rd_wrAll_other readyFields hne)

theorem State.readyNow_boot (h : s.rd F.MG_STATUS_STATE = 0) : s.readyNow = (s.readyShown.wr F.MG_STATUS_STATE mgRun).inc F.MG_BOOT_CNT := by
  have hstate : s.readyShown.mgState = 0 := (State.rd_readyShown_other (s := s)).trans h
  have hne : ¬ s.readyShown.mgState = mgRecovery := by rw [hstate]; decide
  exact (if_neg hne).trans (congrArg (fun t => State.inc t F.MG_BOOT_CNT) (if_pos hstate))

theorem State.readyNow_recovery (h : s.rd F.MG_STATUS_STATE = 4) : s.readyNow = s.readyShown :=
  if_pos ((State.rd_readyShown_other (s := s)).trans h : s.readyShown.mgState = mgRecovery)

end

/-- Settles O55: each step is guarded by the phase before it; what a step writes is a list of fields, and what follows the list (the
enables and the log of firmware, the lock of the tables, the check of the link) leaves them. -/
theorem startUp : Obligations.StartUp := by
  unfold Obligations.StartUp
  intro tw bs rs pe unlocked s
  have hstay : ∀ {c : Prop} [Decidable c] {u : State}, ¬ c → Host.Outcome.next (if c then u else s) = (Host.Outcome.next s : Out) :=
    fun hc => congrArg _ (if_neg hc)
  have htake : ∀ {c : Prop} [Decidable c] {u : State}, c → Host.Outcome.next (if c then u else s) = (Host.Outcome.next u : Out) :=
    fun hc => congrArg _ (if_pos hc)
  refine ⟨fun h => ?_, fun h0 hoff hlow htr hlc => ?_, fun h => hstay h, fun h => ⟨_, htake h, ?_⟩, fun h => hstay h,
    fun h hlc hpass => ⟨_, htake h, ?_⟩, fun h hpass hother => ⟨_, htake h, ?_⟩, fun h hpass hother => ⟨_, htake h, ?_⟩, fun h => hstay fun hp => h hp.1,
    fun h hruns hlc hun => ⟨_, htake ⟨h, hruns⟩, ?_⟩, fun h hruns hsafe hlc => ⟨_, htake ⟨h, hruns⟩, ?_⟩, fun h => hstay fun hp => h hp.1,
    fun h hruns hst => ⟨_, htake ⟨h, hruns⟩, ?_⟩, fun h hruns hst => ⟨_, htake ⟨h, hruns⟩, ?_⟩⟩
  · refine hstay fun hp => ?_
    obtain ⟨hphase, hoff, hlow, htr⟩ := hp
    rcases h with h | h | h | h
    · exact h hphase
    · exact hoff h
    · exact hlow h
    · exact Nat.not_le.mpr h htr
  · have hgo : s.phase = 0 ∧ ¬ s.crp.off = true ∧ ¬ s.crp.rstLow = true ∧ s.crp.tr ≤ s.tb.mono := by simp [State.phase, h0, hoff, hlow, htr]
    refine ⟨_, htake hgo, ?_, ?_, ?_, ?_, ?_, ?_, State.rd_release_dbg hlc, State.tr_release hlc⟩
    · exact (State.rd_release_strap hlc).trans (State.rd_wrAll_at strapFields 12 (by decide))
    · exact (State.rd_release_strap hlc).trans (State.rd_wrAll_at strapFields 0 (Bool.toNat_lt _))
    · exact (State.rd_release_strap hlc).trans (State.rd_wrAll_at strapFields 1 (Bool.toNat_lt _))
    · exact (State.rd_release_strap hlc).trans (State.rd_wrAll_at strapFields 2 (Bool.toNat_lt _))
    · exact (State.rd_release_strap hlc).trans (State.rd_wrAll_at strapFields 4 (Bool.toNat_lt _))
    · exact (State.rd_release_strap hlc).trans (State.rd_wrAll_at strapFields 5 (Bool.toNat_lt _))
  · exact ⟨State.rd_wrAll_at sramFields 5 (by decide), State.rd_wrAll_at sramFields 0 (by decide), State.rd_wrAll_at sramFields 1 (by decide),
      State.rd_wrAll_at sramFields 2 (by decide), State.rd_wrAll_at sramFields 3 (by decide), State.rd_wrAll_at sramFields 4 (by decide)⟩
  · exact ⟨s.phase_fwStart, State.fwStart_passes hlc hpass⟩
  · obtain ⟨hactive, hslot⟩ := State.fwChosen_fallback hpass hother
    exact ⟨s.active_fwStart.trans hactive, s.rd_fwStart.trans ((State.rd_fwShown (s := s.fwChosen)).trans hslot)⟩
  · exact ⟨s.rd_fwStart.trans ((State.rd_fwShown (s := s.fwChosen)).trans (State.fwChosen_none hpass hother)), s.phase_fwStart⟩
  · rw [hun, State.dramWiped_unlocked hlc]
    have hkept : ∀ f : Fld, f.key ≠ F.CRP_BOOT_PHASE.key → ((s.wrAll wipeWrites).wr F.CRP_BOOT_PHASE 5).rd f = (s.wrAll wipeWrites).rd f :=
      fun f hf => State.rd_wr_ne _ _ _ _ hf
    exact ⟨State.rd_wr_self, (hkept _ (by decide)).trans (State.rd_wrAll_at wipeFields 0 (by decide)),
      (hkept _ (by decide)).trans (State.rd_wrAll_at wipeFields 1 (by decide)), (hkept _ (by decide)).trans (State.rd_wrAll_other wipeFields),
      (hkept _ (by decide)).trans (State.rd_wrAll_at wipeFields 7 (by decide))⟩
  · rw [State.dramWiped_safe hsafe hlc]
    exact ⟨State.phase_lockTables (State.rd_wrAll_at wipeFields 4 (by decide)) (State.rd_wrAll_at wipeFields 7 (by decide)),
      (s.wrAll wipeWrites).lockTables_locks.2,
      ((s.wrAll wipeWrites).lockTables_keepsRegs _ (by decide)).trans (State.rd_wrAll_at wipeFields 7 (by decide)),
      ((s.wrAll wipeWrites).lockTables_keepsRegs _ (by decide)).trans (State.rd_wrAll_other wipeFields),
      ((s.wrAll wipeWrites).lockTables_keepsRegs _ (by decide)).trans (State.rd_wrAll_at wipeFields 5 (by decide)),
      ((s.wrAll wipeWrites).lockTables_keepsRegs _ (by decide)).trans (State.rd_wrAll_at wipeFields 6 (by decide))⟩
  · rw [State.readyNow_boot hst]
    have hstate : (s.readyShown.wr F.MG_STATUS_STATE mgRun).rd F.MG_STATUS_STATE = 1 := State.rd_wr_self
    have hcnt : (s.readyShown.wr F.MG_STATUS_STATE mgRun).rd F.MG_BOOT_CNT = s.rd F.MG_BOOT_CNT :=
      (State.rd_wr_ne _ _ _ _ (by decide)).trans State.rd_readyShown_other
    have hphase : (s.readyShown.wr F.MG_STATUS_STATE mgRun).rd F.CRP_BOOT_PHASE = 6 :=
      (State.rd_wr_ne _ _ _ _ (by decide)).trans State.phase_readyShown
    refine ⟨?_, ?_, ?_⟩
    · rw [State.rd_inc_ne _ (by decide), hphase]
    · rw [State.rd_inc_ne _ (by decide), hstate]
    · rw [State.rd_inc_same _ _ (by decide), hcnt]
  · rw [State.readyNow_recovery hst]
    exact ⟨State.phase_readyShown, (State.rd_readyShown_other (s := s)).trans hst, State.rd_readyShown_other⟩

end Sys2Proof.Machine
